-- ==== Sys2Proof/Word.lean ====
section
/-!
DEFINITION. The word types of the part and their plainest arithmetic: 32-bit register words (R7), bytes,
port and rail numbers, register fields, and little- and big-endian byte orders.
-/
namespace Sys2Proof

/-- A register word: 32 bits, bit 0 the least significant (R7). -/
abbrev Word := BitVec 32
/-- One byte. -/
abbrev Byte := BitVec 8
/-- Port `k` of the part, k = 1–9, as `k − 1` (Table SCO-1). -/
abbrev PortId := Fin 9
/-- Rail `j` of the part, j = 0–15. -/
abbrev RailId := Fin 16
/-- ADC `a`, a = 0–3. -/
abbrev AdcId := Fin 4

/-- The port number as the manual writes it, 1–9. -/
def PortId.num (k : PortId) : Nat := k.val + 1
/-- Ports 1–8 are the module ports; port 9 is the service port. -/
def PortId.isModule (k : PortId) : Bool := k.val < 8
/-- The service port. -/
def port9 : PortId := 8
/-- All nine ports, in order. -/
def allPorts : List PortId := [0, 1, 2, 3, 4, 5, 6, 7, 8]
/-- The module ports, in order. -/
def modulePorts : List PortId := [0, 1, 2, 3, 4, 5, 6, 7]
/-- All sixteen rails, in order. -/
def allRails : List RailId := [0, 1, 2, 3, 4, 5, 6, 7, 8, 9, 10, 11, 12, 13, 14, 15]

/-- A field of a register: its word's address (page × 256 + byte, R8), lowest bit and width. -/
structure Fld where
  reg   : Nat
  lo    : Nat
  width : Nat
  deriving DecidableEq, Repr

/-- A W1C flag and its 8-bit companion occurrence counter (R490). -/
structure Flag where
  bit : Fld
  cnt : Fld
  deriving DecidableEq, Repr

/-- The bits a field covers. -/
def Fld.mask (f : Fld) : Word := (BitVec.ofNat 32 (2 ^ f.width - 1)) <<< f.lo
/-- A field's value in a word. -/
def Fld.extract (f : Fld) (w : Word) : Nat := (w.toNat / 2 ^ f.lo) % 2 ^ f.width
/-- A word with a field set; the value is cut to the field's width. -/
def Fld.insert (f : Fld) (w : Word) (v : Nat) : Word :=
  (w &&& ~~~ f.mask) ||| ((BitVec.ofNat 32 (v % 2 ^ f.width)) <<< f.lo)

/-- Saturating addition at `top`. -/
def satAdd (top a b : Nat) : Nat := min top (a + b)
/-- Bit `i` of a number. -/
def bitOf (v i : Nat) : Bool := v.testBit i
/-- A number with bit `i` set or cleared. -/
def setBitTo (v i : Nat) (b : Bool) : Nat :=
  if b then v ||| 2 ^ i else if v.testBit i then v - 2 ^ i else v
/-- 1 for true. -/
def b2n (b : Bool) : Nat := if b then 1 else 0
/-- Two's complement of a signed number in `w` bits. -/
def toTwos (w : Nat) (v : Int) : Nat := (v % (2 ^ w : Int)).toNat
/-- The signed number of a two's-complement value of `w` bits. -/
def ofTwos (w : Nat) (v : Nat) : Int := if v < 2 ^ (w - 1) then (v : Int) else (v : Int) - 2 ^ w
/-- A value clamped to a range. -/
def clampNat (lo hi v : Nat) : Nat := max lo (min hi v)
/-- The value a configuration field selects: `d` where it holds 0. -/
def orDefault (d v : Nat) : Nat := if v = 0 then d else v
/-- Quotient rounded up. -/
def ceilDiv (a b : Nat) : Nat := (a + b - 1) / b

/-- The low `n` bytes of a number, least significant first (R7). -/
def leBytes (n v : Nat) : List Byte := (List.range n).map fun i => BitVec.ofNat 8 (v / 256 ^ i)
/-- The low `n` bytes of a number, most significant first. -/
def beBytes (n v : Nat) : List Byte := (leBytes n v).reverse
/-- The number a list of bytes holds, least significant first. -/
def leNat : List Byte → Nat
  | [] => 0
  | b :: bs => b.toNat + 256 * leNat bs
/-- The number a list of bytes holds, most significant first. -/
def beNat (bs : List Byte) : Nat := leNat bs.reverse

end Sys2Proof
end

