-- ==== Sys2Proof/Syntax.lean ====
section
/-!
DEFINITION. The commands of the part: one constructor per row of spec/opcode_table.json, in the table's order. The
part is a block without an instruction stream; a command is a step of the part, and its operands are what the step
takes from outside: which port, rail or unit, what a pin, an ADC or a partner shows, and what a write carries.
-/
namespace Sys2Proof

/-- Termination that a partner presents on a CC pin: none, Rd, Ra or Rp (R160, R162, R177). Rp comes with the current
it advertises: default, 1.5 A or 3.0 A. -/
inductive Term where
  | opn | rd | ra | rpDefault | rp15 | rp30
  deriving DecidableEq, Repr

/-- What a hub port's USB 2.0 side shows in a frame (R392, R418): a split transaction enters a buffer of the port's translator,
periodic or not, completes there or is aborted there, or a transaction fails by timeout, CRC or babble, on the upstream port or
on the hub port. -/
inductive HubEvent where
  | split (periodic : Bool) | complete (periodic : Bool) | abort (periodic : Bool) | failed (upstream : Bool)
  deriving DecidableEq, Repr

/-- The commands. -/
inductive Instr where
  /-- POWER_ON_RESET (R643): VIN rises above the UVLO rising threshold and the part is released from reset, clearing retained SRAM and taking T0. -/
  | powerOnReset (vislLost : Bool)
  /-- STRAP_LATCH (R52): The strap pins are sampled three times after reset release and latched by majority, with TEST requiring all three samples high. -/
  | strapLatch (a0 a1 a2 c0 c1 test : BitVec 3)
  /-- CLOCK_CHECK_TIMEOUT (R18): XTAL_OK and ROOT_LOCK are not both 1 within 5 ms of reset release, so the island takes Deep Winter with 0xE201 or 0xE202. -/
  | clockCheckTimeout (xtalOk : Bool)
  /-- ROOT_LOCK (R18): The crystal runs and the root PLL locks, so outputs are released, the time base starts and ROM boot step 2 begins. -/
  | rootLock (selftestOk : Bool)
  /-- OTP_BOOT_READ (R506): ROM boot completes the OTP read at three references and applies the marginal rules, then judges FWKEY and the TEST strap. -/
  | otpBootRead (reads : List (Nat × Word × Word × Word))
  /-- SLOT_TABLE_READ (R92): SFDP and both slot-table copies are read and the copy is chosen, with T3 taken on a recovery request or when no copy is valid. -/
  | slotTableRead (sfdpOk : Bool) (mbit : Nat)
  /-- FIRMWARE_SLOT_VERIFY (R98): A firmware slot finishes its header, key, signature and boot-section checks, and either verifies or is rejected. -/
  | firmwareSlotVerify (readErr : Nat)
  /-- CONFIG_READ (R106): The configuration slot is read whole, validated and applied (UNITS, REG and SCHED), or the built-in safe configuration is applied. -/
  | configRead (errA errB : Bool)
  /-- PROTECTION_SETUP (R111): Boot code writes derived values and the protection set-up, reads them back, seals, runs the off-line test and opens the mailbox. -/
  | protectionSetup (readBackOk followWinter followIsl : Bool)
  /-- PROT_SEAL (R512): A write of 0x5EA1 to PROT_CTRL.SEAL makes RWS fields read-only, latches SQ_WIN, arms the watchdog and starts key derivation. -/
  | protSeal (w : Word)
  /-- SLOT_TABLE_WRITE (R93): A changed slot table is written into the copy not in use by erase, program and read-back, and becomes the copy in use. -/
  | slotTableWrite (ok : Bool)
  /-- LIFE_RECORD_APPEND (R113): A life record is appended at T1 or T2, hourly, or for a counter high-water mark, and is programmed and read back. -/
  | lifeRecordAppend (ok : Bool)
  /-- LIFE_SECTOR_ERASE (R114): A record filled the last slot of a life sector, so the next sector is erased. -/
  | lifeSectorErase (ok : Bool)
  /-- LIFE_RECORD_RETRY (R114): A life record still unwritten after 3 attempts is attempted again every 10 s. -/
  | lifeRecordRetry (ok : Bool)
  /-- ACSNS_EDGE (R67): A qualified ACSNS falling edge closes an interval that is judged for lock, tracked period, mains return or lock lost. -/
  | acsnsEdge (dt : Nat)
  /-- ADC_CONVERSION (R124): Each ADC executes its schedule entry, delivering the result to the measurement engine, the VIN path and capture. -/
  | adcConversion (pos : Nat) (ecc : BitVec 4) (r0 r1 r2 r3 : Option (BitVec 14))
  /-- SUPERFRAME_CHECKS (R136): At each superframe end the CHECK means and dual-channel differences are judged for drift and disagreement. -/
  | superframeChecks (outside : BitVec 64)
  /-- SCH_DATA_WRITE (R128): A write of SCH_DATA stores an entry in the shadow bank at INDEX and advances INDEX. -/
  | schDataWrite (w : Word)
  /-- WINDOW_OUTSIDE (R137): A window comparator input stays beyond its LO or HI threshold for its filter time, and the owning chapter's reaction follows. -/
  | windowOutside (win : Nat) (high : Bool)
  /-- CAPTURE_ARM (R155): Writing CAP_CTRL.ARM = 1 in IDLE arms the capture, and writing 0 while ARMED returns it to IDLE. -/
  | captureArm (w : Word)
  /-- CAPTURE_SPILL (R431): A FULL capture with spill enabled is erased, programmed and read back into the next spill slot, then returns to IDLE or ARMED. -/
  | captureSpill (ok : Bool)
  /-- CAPTURE_SEND (R432): Writing CAP_SEND.GO sends the capture RAM or a spill slot as TYPE 2 packets on EP3 IN. -/
  | captureSend (src : BitVec 8) (to9 : Bool)
  /-- CC_CHANGE (R162): A partner termination appears on a CC pin and the port enters ATTACH_WAIT to debounce it. -/
  | ccChange (k : PortId) (cc1 cc2 : Term)
  /-- ATTACH_DEBOUNCE_ELAPSED (R162): tCCDebounce elapses and the partner combination is judged as sink, accessory or powered cable. -/
  | attachDebounceElapsed (k : PortId)
  /-- VBUS_APPLY_JUDGE (R163): Each frame the conditions for VBUS are judged and, when all hold, VCONN is applied, the converter started and the switch closed. -/
  | vbusApplyJudge (k : PortId)
  /-- DETACH (R164): The Rd pin stays above vRd-Connect for tPDDebounce, so hardware stops the converter, opens the switch and removes VCONN. -/
  | detach (k : PortId)
  /-- VCSNS_SAFE0_REACHED (R164): After a detach Pk_VCSNS falls to vSafe0V and the port returns to UNATTACHED. -/
  | vcsnsSafe0Reached (k : PortId)
  /-- SEATED (R167): Pk_SEAT has been low for 20 ms, so the plug counts as seated. -/
  | seated (k : PortId)
  /-- SEAT_LOST (R167): Pk_SEAT is high for 200 µs with VBUS applied, so the port is opened in hardware and warning 0x0k02 is raised. -/
  | seatLost (k : PortId)
  /-- VCONN_OVERCURRENT (R169): VCONN exceeds its current limit and is turned off within 10 µs until detach, raising 0x8k03. -/
  | vconnOvercurrent (k : PortId)
  /-- WET_READING_DUE (R171): A wet reading falls due and the bias is applied to the pins measured in place of Rp. -/
  | wetReadingDue (k : PortId)
  /-- WET_SETTLING_END (R171): The 5 ms settling of a wet reading ends and its 20 ms averaging window begins. -/
  | wetSettlingEnd (k : PortId)
  /-- WET_WINDOW_END (R173): The averaging window ends, the bias is removed, Rp is restored and the wet or dry verdict is formed. -/
  | wetWindowEnd (k : PortId)
  /-- SOURCE_CAP_RESEND (R200): tTypeCSendSourceCap elapses and Source_Capabilities is sent again, stopping after nCapsCount with warning 0x0k18. -/
  | sourceCapResend (k : PortId)
  /-- REQUEST (R195): A Request is received and accepted or rejected against the last capabilities and the ceiling. -/
  | request (k : PortId) (id : BitVec 3) (rdo : Word) (rev2 : Bool)
  /-- EPR_REQUEST (R195): An EPR_Request is received and judged as a Request. -/
  | eprRequest (k : PortId) (id : BitVec 3) (rdo : Word)
  /-- GET_SOURCE_CAP (R189): Get_Source_Cap is received and answered with Source_Capabilities or EPR_Source_Capabilities. -/
  | getSourceCap (k : PortId) (id : BitVec 3)
  /-- EPR_GET_SOURCE_CAP (R189): EPR_Get_Source_Cap is received on a module port and answered. -/
  | eprGetSourceCap (k : PortId) (id : BitVec 3)
  /-- GET_SINK_CAP (R210): Get_Sink_Cap or Get_Sink_Cap_Extended is received on port 9 and answered with its sink capabilities. -/
  | getSinkCap (k : PortId) (id : BitVec 3) (extended : Bool)
  /-- GET_SOURCE_CAP_EXTENDED (R190): Get_Source_Cap_Extended is received and answered with Source_Capabilities_Extended. -/
  | getSourceCapExtended (k : PortId) (id : BitVec 3)
  /-- GET_SOURCE_INFO (R190): Get_Source_Info is received and answered with Source_Info. -/
  | getSourceInfo (k : PortId) (id : BitVec 3)
  /-- GET_REVISION (R190): Get_Revision is received and answered with Revision 3.2, Version 1.1. -/
  | getRevision (k : PortId) (id : BitVec 3)
  /-- GET_MANUFACTURER_INFO (R190): Get_Manufacturer_Info is received and answered with the Frener identity. -/
  | getManufacturerInfo (k : PortId) (id : BitVec 3)
  /-- GET_STATUS (R190): Get_Status is received and answered with Status. -/
  | getStatus (k : PortId) (id : BitVec 3)
  /-- GET_PPS_STATUS (R205): Get_PPS_Status is received and answered with PPS_Status under a PPS contract, otherwise Not_Supported. -/
  | getPpsStatus (k : PortId) (id : BitVec 3)
  /-- ALERT (R189): An Alert is received and logged, and Get_Status is sent within 10 ms. -/
  | alert (k : PortId) (id : BitVec 3)
  /-- SOFT_RESET (R189): Soft_Reset is received and accepted while the contract and authentication result are kept. -/
  | softReset (k : PortId) (id : BitVec 3)
  /-- BIST (R189): A BIST message is received and Carrier Mode or Test Data is entered at vSafe5V. -/
  | bist (k : PortId) (id : BitVec 3) (mode : Nat)
  /-- NOT_SUPPORTED_MESSAGE (R189): A message marked N for the port is received and answered Not_Supported. -/
  | notSupportedMessage (k : PortId) (id : BitVec 3)
  /-- VCONN_SWAP_REJECT (R189): VCONN_Swap is received on a module port and answered Reject. -/
  | vconnSwapReject (k : PortId) (id : BitVec 3)
  /-- PR_SWAP (R209): PR_Swap is received on port 9 and accepted or rejected by VIN and state, with the new source applying 5 V. -/
  | prSwap (id : BitVec 3)
  /-- VCONN_SWAP (R209): VCONN_Swap is received on port 9 and accepted or rejected by VIN and state. -/
  | vconnSwap (id : BitVec 3)
  /-- DR_SWAP (R211): DR_Swap is received on port 9 and rejected while upstream-facing or accepted while downstream-facing. -/
  | drSwap (id : BitVec 3)
  /-- PORT9_SOURCE_CAPABILITIES (R210): Port 9 as sink receives Source_Capabilities and requests 5 V at 0.50 A or at up to 3.00 A by VIN. -/
  | port9SourceCapabilities (id : BitVec 3) (pdos : List Word) (rev2 : Bool)
  /-- PORT9_PS_RDY (R189): Port 9 as sink receives Accept, Reject, Wait or PS_RDY to its request or swap and completes the exchange. -/
  | port9PsRdy (k : PortId) (id : BitVec 3) (msg : Nat)
  /-- EPR_MODE_ENTER (R202): EPR_Mode (Enter) is received, acknowledged and answered Enter Succeeded or Enter Failed with its cause. -/
  | eprModeEnter (k : PortId) (id : BitVec 3)
  /-- EPR_MODE_EXIT (R204): EPR_Mode (Exit) is received from the partner, acknowledged and followed by SPR capabilities. -/
  | eprModeExit (k : PortId) (id : BitVec 3)
  /-- EPR_EXIT_SEND (R204): R201 ceases to hold, so the part sends EPR_Mode (Exit) and then SPR Source_Capabilities. -/
  | eprExitSend (k : PortId)
  /-- EPR_KEEPALIVE (R203): EPR_KeepAlive is received and answered by the protocol layer with EPR_KeepAlive_Ack, restarting tSourceEPRKeepAlive. -/
  | eprKeepalive (k : PortId) (id : BitVec 3)
  /-- EPR_KEEPALIVE_TIMEOUT (R203): tSourceEPRKeepAlive elapses, raising warning 0x0k15 and a Hard Reset. -/
  | eprKeepaliveTimeout (k : PortId)
  /-- PPS_TIMEOUT (R205): tPPSTimeout elapses in a PPS or AVS contract, raising warning 0x0k16 and a Hard Reset. -/
  | ppsTimeout (k : PortId)
  /-- SENDER_RESPONSE_TIMEOUT (R199): tSenderResponse elapses without the expected Request or acknowledgement, so a Hard Reset or ErrorRecovery follows. -/
  | senderResponseTimeout (k : PortId)
  /-- HARD_RESET_RECEIVED (R198): Hard Reset signalling is received, the PD context is cleared, VCONN is turned off and SinkTxOK is presented. -/
  | hardResetReceived (k : PortId)
  /-- HARD_RESET_PS_ELAPSED (R198): tPSHardReset elapses, so the converter is stopped and the port switch opened. -/
  | hardResetPsElapsed (k : PortId)
  /-- SRC_RECOVER_ELAPSED (R198): tSrcRecover elapses and the port begins judging R163 to re-apply VBUS. -/
  | srcRecoverElapsed (k : PortId)
  /-- VBUS_VSAFE5V_REACHED (R198): VBUS reaches vSafe5V, so the port engine runs cable discovery and sends Source_Capabilities. -/
  | vbusVsafe5vReached (k : PortId)
  /-- ERROR_RECOVERY_ELAPSED (R199): tErrorRecovery elapses and the port returns to UNATTACHED. -/
  | errorRecoveryElapsed (k : PortId)
  /-- TRANSITION_START (R196): tSrcTransition after the GoodCRC of Accept elapses and the voltage transition begins, or PS_RDY is sent where the voltage is kept. -/
  | transitionStart (k : PortId)
  /-- TRANSITION_END (R244): The receptacle and regulated voltages lie in the new range for two frames, so the transition ends and PS_RDY follows. -/
  | transitionEnd (k : PortId)
  /-- TRANSITION_TIMEOUT (R196): A transition does not reach its range within its bound, raising 0x8k14 and a Hard Reset. -/
  | transitionTimeout (k : PortId)
  /-- CAPABILITIES_UPDATE (R194): A ceiling, limit, cable or gate change makes the port engine send new capabilities, paced for upward offers. -/
  | capabilitiesUpdate (k : PortId)
  /-- CABLE_DISCOVERY (R213): tVCONNStable after VCONN on, Discover Identity is sent on SOP′ with up to 3 attempts. -/
  | cableDiscovery (k : PortId)
  /-- CABLE_IDENTITY_RESPONSE (R213): The cable answers Discover Identity, or the attempts end, and ATT_CABLE is written under Table ATT-4. -/
  | cableIdentityResponse (k : PortId) (id : BitVec 3) (valid : Bool) (cur vmax : Nat) (epr : Bool)
  /-- STRUCTURED_VDM (R214): A structured VDM is received on SOP and Discover Identity or SVIDs is ACKed, modes NAKed and Attention ignored. -/
  | structuredVdm (k : PortId) (id : BitVec 3) (svid cmd : Nat)
  /-- AUTH_START (R207): A gated port with a contract and a ceiling above the gate begins USB Type-C Authentication as initiator. -/
  | authStart (k : PortId)
  /-- SECURITY_RESPONSE (R207): A Security_Response is received and its digests, certificate or challenge signature are verified. -/
  | securityResponse (k : PortId) (id : BitVec 3) (msg : List Byte)
  /-- AUTH_TIMEOUT (R207): An authentication response misses its 500 ms or the exchange its 3.0 s, so authentication fails with 0x0k13. -/
  | authTimeout (k : PortId)
  /-- FRENER_IDENT (R216): The part sends the Frener IDENT request once per contract and takes its response. -/
  | frenerIdent (k : PortId) (id : BitVec 3) (resp : Option (Word × Word))
  /-- FRENER_VDM_TIMEOUT (R215): A Frener response does not arrive within 30 ms and counts as absent. -/
  | frenerVdmTimeout (k : PortId)
  /-- PD_QUEUE_FULL (R218): A fifth message arrives during a port engine reload, GoodCRC is withheld and warning 0x0k17 is raised. -/
  | pdQueueFull (k : PortId)
  /-- SWITCHING_PERIOD (R231): A converter switching period starts, the mode is selected and the inner loop and reverse rules apply. -/
  | switchingPeriod (k : PortId) (bootOk nodeOk : Bool)
  /-- OUTER_LOOP_UPDATE (R236): At its per-frame update the converter outer loop computes the peak command, applies the limit and advances the ramp. -/
  | outerLoopUpdate (k : PortId) (db irip : Nat) (atMax : Bool)
  /-- HEADROOM_LOST (R246): At maximum duty the output stays more than 2 % below target for 10 ms, setting HEADROOM and raising 0x0k20. -/
  | headroomLost (k : PortId)
  /-- CHK_READING_DUE (R247): A contact-health reading falls due 5 s after a contract, every 60 s, or on a 1 s retry, and its window begins. -/
  | chkReadingDue (k : PortId)
  /-- CHK_WINDOW_END (R248): The 2 ms contact-health window ends, the reading is accepted or discarded, and a resistance result, warning or cap may follow. -/
  | chkWindowEnd (k : PortId)
  /-- PRECLOSE_TEST_ELAPSED (R270): The 2 ms gate-low pre-close test ends and the gate is charged, or a shorted switch is reported. -/
  | precloseTestElapsed (k : PortId) (rose : Bool)
  /-- FOLDBACK_STEP (R271): Every 2.56 µs during closing the switch power is judged against P_FB and the gate is held or discharged. -/
  | foldbackStep (k : PortId) (mv ma : Nat)
  /-- SWITCH_CLOSED (R270): The drop and gate voltage reach their limits, so the switch counts as closed and the drop arm is armed. -/
  | switchClosed (k : PortId)
  /-- CLOSING_TIMEOUT (R272): Closing is not complete within TSOA, so the switch is opened and 0x8k33 is raised. -/
  | closingTimeout (k : PortId)
  /-- SHORT_DETECTED (R274): A short comparator arm trips, so the switch opens and the converter stops within 2 µs. -/
  | shortDetected (k : PortId) (arm uv : Nat)
  /-- BREAKER_STEP (R279): The breaker evaluator takes one step for a measured current, cooling or accumulating toward a curve trip. -/
  | breakerStep (k : PortId) (ma dtNs : Nat)
  /-- ALLOWANCE_END (R281): The transition allowance ends at transition end or after tSrcTransition plus 5 ms, and the evaluator resumes. -/
  | allowanceEnd (k : PortId)
  /-- RETRY_OFF_ELAPSED (R284): t_off of a class A port elapses and the port enters step 4 of Table PDP-5 to close again. -/
  | retryOffElapsed (k : PortId)
  /-- RETRY_COUNT_CLEAR (R284): A port stays closed for 30 s without a trip and RETRIES returns to 0. -/
  | retryCountClear (k : PortId)
  /-- OFF_CHECK (R286): 2.0 ms after an open command the switch checker judges it open or shorted, raising 0xCk3A for a short. -/
  | offCheck (k : PortId)
  /-- NTC_RECOVERED (R276): A receptacle NTC has been inside its window for 10 s after over-temperature and the port closes again. -/
  | ntcRecovered (k : PortId)
  /-- GATE_DRIVE_LOST (R287): The gate-to-source voltage stays below 5.0 V for 100 µs while closed, so the switch is opened and held with 0x8k3B. -/
  | gateDriveLost (k : PortId)
  /-- ON_DROP_DEGRADED (R287): The switch drop exceeds I × RON + 100 mV for 1.0 s, raising warning 0x0k3C. -/
  | onDropDegraded (k : PortId)
  /-- EMERGENCY_LEVER (R303): At a frame end the supervisor finds the summed limits above P_AVAIL and lowers ALLOC and ceilings by reverse priority. -/
  | emergencyLever (runDue : Bool)
  /-- RAIL_ENABLE (R319): UP_DLY after the step start elapses and SQENj is asserted. -/
  | railEnable (j : RailId)
  /-- RAIL_FRAME_JUDGE (R314): Each frame a rail's SQVS result is judged for in regulation, below off, UV arming and warnings, completing steps where all rails are done. -/
  | railFrameJudge (j : RailId) (pg : Bool)
  /-- RAIL_RISE_TIMEOUT (R319): A rail is not in regulation within T_RISE of its enable, raising 0xDj20 and T9. -/
  | railRiseTimeout (j : RailId)
  /-- RESET_STRETCH_ELAPSED (R321): STRETCH ms after every watched rail is in regulation, the reset output is released. -/
  | resetStretchElapsed (n : Fin 4)
  /-- RAIL_RELEASE (R323): DN_DLY after the step start elapses, so SQENj is released and SQMGj set to high impedance. -/
  | railRelease (j : RailId)
  /-- RAIL_FALL_TIMEOUT (R323): T_FALL elapses with the rail not below off, so the discharge code is applied. -/
  | railFallTimeout (j : RailId)
  /-- DISCHARGE_TIMEOUT (R323): The second T_FALL elapses and the rail is done, with warning 0x1j21 or contained fault 0x9j22. -/
  | dischargeTimeout (j : RailId)
  /-- AXKAN_SYNC (R339): A slave receives a SYNC frame, checks its MAC and CYC, and takes the barrier releases. -/
  | axkanSync (f : BitVec 96)
  /-- AXKAN_JOIN (R339): A slave receives a JOIN frame, derives K_S for a new BOOTS_M and forgets its last CYC. -/
  | axkanJoin (f : BitVec 96)
  /-- AXKAN_REPORT (R339): The master receives a REPORT frame and accepts it when its CYC and MAC hold. -/
  | axkanReport (f : BitVec 96)
  /-- MARGIN (R367): The authenticated MARGIN command sets a rail's margin target, clamped to LIMIT, in Summer. -/
  | margin (arg : Option (RailId × BitVec 8))
  /-- MARGIN_FRAME_STEP (R367): Each frame of a margin move the DAC steps toward V_T and the margin settles at POS after 8 stable frames. -/
  | marginFrameStep (j : RailId)
  /-- MARGIN_TIMEOUT (R367): A margin does not settle within 100 ms or the DAC stays at a rail, raising 0x9j05 and returning TARGET to 0. -/
  | marginTimeout (j : RailId)
  /-- FFL_RECORD_WRITE (R373): A first-fault record is programmed and read back once the flash is free, within 3.0 ms of its trigger. -/
  | fflRecordWrite (ok : Bool)
  /-- FFL_SECTOR_ERASE (R375): A record filled a log sector, so the next sector is erased. -/
  | fflSectorErase (ok : Bool)
  /-- FFL_SEL_LOAD (R388): A write to FFL_SEL loads the selected log slot into FFL_RECn. -/
  | fflSelLoad (w : Word)
  /-- HUB_PORT_DATA_ENABLE (R395): Each frame the hub evaluates the data conditions of each downstream port and enables or disables it. -/
  | hubPortDataEnable (k : Fin 8) (link : BitVec 4) (speed : BitVec 3) (up : BitVec 3) (upConf : Bool) (mf0Conf : Bool) (events : List HubEvent)
  /-- HUB_PACKET_RECEIVED (R403): A SuperSpeed packet is received whole, buffered by reserve or priority, and forwarded at its egress. -/
  | hubPacketReceived (up : Bool) (k : Fin 8) (addr : BitVec 7) (ep : BitVec 4) (bad : Bool)
  /-- BUFFER_ECC_ERROR (R401): A buffer ECC error is corrected, or an uncorrectable one forwards the data and retires the buffer. -/
  | bufferEccError (uncorrectable : Bool)
  /-- SS_TRAINING_FAILED (R421): SuperSpeed training fails on a hub port and the device is served at USB 2.0. -/
  | ssTrainingFailed (p : Fin 9) (speed : BitVec 3)
  /-- LINK_RECOVERY_EXCESS (R421): More than 16 Recovery entries within 1 s on a hub port raise warning 0x283k. -/
  | linkRecoveryExcess (p : Fin 9) (n : Nat)
  /-- HUB_COUNTER_CLEAR (R417): A write of HUB_CTRL.CNT_CLR sets the selected HUB_ERRk counters to 0. -/
  | hubCounterClear (w : Word)
  /-- MGT_COMMAND_TRANSFER (R406): A command frame arrives whole on EP1 OUT of a management function and is executed or refused. -/
  | mgtCommandTransfer (f : Fin 2) (bytes : List Byte)
  /-- MGT_EVENT_DELIVERY (R408): A management function delivers the next event record on EP2 IN from its own read index. -/
  | mgtEventDelivery (f : Fin 2)
  /-- MGT_VENDOR_REQUEST (R409): The SYS_STATE vendor request is answered with SYS_STATE, and other vendor requests are stalled. -/
  | mgtVendorRequest (f : Fin 2) (reqType request : BitVec 8) (value index length : BitVec 16)
  /-- MGT_CLEAR_HALT (R406): ClearFeature(ENDPOINT_HALT) resumes a halted EP1 OUT. -/
  | mgtClearHalt (f : Fin 2)
  /-- STREAM_SAMPLE (R422): Each frame an enabled stream takes one input sample and adds it to its decimation window. -/
  | streamSample (n : Fin 8)
  /-- STREAM_BLOCK_ENCODE (R424): A stream completes a block of 64 output samples and codes it, or sends it raw. -/
  | streamBlockEncode (n : Fin 8)
  /-- STREAM_PACKET_CLOSE (R428): A stream packet is closed when the next block would not fit or 100 ms after its first block, and is sent on EP3 IN. -/
  | streamPacketClose (n : Fin 8) (f : Fin 2)
  /-- TLM_STR_WRITE (R429): A write of TLM_STRn takes effect from the next frame, dropping the block in progress, or is refused above the rate budget. -/
  | tlmStrWrite (n : Fin 8) (w : Word)
  /-- DAY_RECORD_WRITE (R434): An operating day ends and its archive record is written and read back. -/
  | dayRecordWrite (ok eraseOk : Bool)
  /-- CHECKPOINT_WRITE (R436): A checkpoint of the day so far is written every 600 s and at the commit point, T11 and T14. -/
  | checkpointWrite (ok eraseOk : Bool)
  /-- HIS_SEL_LOAD (R442): A write to HIS_SEL loads the selected part of a day record into HIS_RECn. -/
  | hisSelLoad (w : Word)
  /-- CLOCK_CROSS_CHECK (R450): At each frame strobe, or after 360 island cycles without one, the island judges the fabric clock and trips on a fault. -/
  | clockCrossCheck (count : BitVec 10) (strobe amplitude lock : Bool)
  /-- ISLAND_OSC_CHECK (R451): The clock unit judges the island strobe interval and raises 0xC00A on a fault. -/
  | islandOscCheck (count : BitVec 10)
  /-- WATCHDOG_ANSWER (R454): The supervisor writes SAF_WDRESP and the answer is judged for window, count and correctness. -/
  | watchdogAnswer (w : Word)
  /-- CLASSIFIER_TEST (R457): Each superframe the island presents a test fault to the classifier and trips 0xC008 after two wrong or missing answers. -/
  | classifierTest (right : Bool)
  /-- ENGINE_HEARTBEAT_CHECK (R458): At each allocator period the supervisor compares engine heartbeat words and raises 0xE41x on the third unchanged comparison. -/
  | engineHeartbeatCheck (words : List Word)
  /-- SAF_OFFTEST (R459): A write of SAF_CTRL.OFFTEST makes the island pulse ISL_OFF and read back every disable input, setting OFFTEST_OK or raising 0xC00B. -/
  | safOfftest (follow : Bool)
  /-- MEMORY_ECC_ERROR (R478): An ECC error in engine, shared or supervisor SRAM is corrected or raises 0xE302 or 0xE303. -/
  | memoryEccError (uncorrectable supervisor : Bool)
  /-- FAULT_CLASSIFY (R485): A fault reaches the collector and is classified, counted, escalated and reacted to by class and state. -/
  | faultClassify (codes : List (BitVec 16))
  /-- FLAG_CLEAR (R490): A write of 1 to a W1C flag clears it unless hardware sets it in the same cycle. -/
  | flagClear (reg : BitVec 16) (w hw : Word)
  /-- FLT_INJ (R491): A write of FLT_INJ in Factory test injects a fault code into the classifier. -/
  | fltInj (w : Word)
  /-- OTP_FULL_REREAD (R508): A 30 °C change or 24 h triggers a background OTP re-read, and changes are applied or suspend functions. -/
  | otpFullReread (daily : Bool) (reads : List (Nat × Word × Word × Word))
  /-- SESSION_CEILING_RAISE (R514): A life record with a raised MARK counts as written, so the session's CEIL is raised. -/
  | sessionCeilingRaise (session : Nat)
  /-- REG_READ (R517): The REG_READ mailbox command returns register words. -/
  | regRead (arg : Option (List (BitVec 16)))
  /-- REG_WRITE (R517): The REG_WRITE mailbox command writes fields of access RW, W1C or WO. -/
  | regWrite (arg : Option (List (BitVec 16 × Word)))
  /-- REG_WRITE_AUTH (R517): The authenticated REG_WRITE_AUTH command writes RWA fields. -/
  | regWriteAuth (arg : Option (List (BitVec 16 × Word)))
  /-- SESSION_INFO (R518): SESSION_INFO returns LAST, CEIL and SES_INFO of a session. -/
  | sessionInfo (arg : Option (BitVec 7))
  /-- UPD_OPEN (R586): UPD_OPEN opens a transfer into the inactive slot and marks it EMPTY. -/
  | updOpen (tableOk : Bool)
  /-- UPD_BLOCK (R587): UPD_BLOCK writes, compares or refuses a block of the image, checking the header once complete. -/
  | updBlock (failAt : Option Nat)
  /-- UPD_CLOSE (R589): UPD_CLOSE reads the whole slot and makes every validation check, closing or rejecting the transfer. -/
  | updClose (readErr : Fin 4)
  /-- UPD_ACTIVATE (R586): UPD_ACTIVATE writes the slot PENDING and active, or sets a recovery request. -/
  | updActivate (tableOk : Bool)
  /-- UPD_ABORT (R586): UPD_ABORT ends the transfer and returns an activated slot to EMPTY. -/
  | updAbort (tableOk : Bool)
  /-- CONFIRM (R592): CONFIRM advances the rollback thermometer and writes a TRIAL slot GOOD. -/
  | confirm (failedFw failedCfg : List Nat) (fwTableOk cfgTableOk : Bool)
  /-- HANDOVER_ROM_VERIFY (R594): The ROM in handover mode verifies the target slot and starts the new supervisor, or falls back to the old one. -/
  | handoverRomVerify (errTo errFrom : Fin 3)
  /-- HANDOVER_ADOPT (R596): The new supervisor adopts the handover record, answers the watchdog and ends the pause. -/
  | handoverAdopt (damaged : Bool)
  /-- HANDOVER_DIGESTS (R594): After the pause the digest of every engine section is read and compared with the header. -/
  | handoverDigests (readOk : Bool)
  /-- HANDBACK (R597): A rejected handover returns to the old image, which writes the rejected slot BAD and posts UPDATE_REJECTED. -/
  | handback (tableOk : Bool)
  /-- ENGINE_RELOAD (R598): One engine is held in reset, reloaded with its section and ENGDATA, and released with its record. -/
  | engineReload (ok tableOk : Bool)
  /-- REC_OPEN (R600): REC_OPEN opens a recovery transfer without a session, refused LOCKED on a scrap part. -/
  | recOpen (tableOk : Bool)
  /-- REC_BLOCK (R600): REC_BLOCK writes a block of the recovery image as UPD_BLOCK does. -/
  | recBlock (failAt : Option Nat)
  /-- REC_CLOSE (R601): REC_CLOSE verifies the downloaded image, writes the slot table and takes T15 for firmware. -/
  | recClose (readErr : Fin 4) (tableOk : Bool)
  /-- OTP_PROGRAM (R502): OTP_PROGRAM programs and verifies the bits of one OTP word under the conditions and access rules. -/
  | otpProgram (arg : Option (BitVec 8 × Word)) (failed : Word)
  /-- OTP_LOCK (R505): OTP_LOCK checks a region's completeness digest and programs its lock fuse. -/
  | otpLock (arg : Option (Fin 8)) (reads : List (Nat × Word × Word × Word)) (failed : Bool)
  /-- REVOKE_FWKEY (R521): REVOKE_FWKEY programs the revocation bit of a firmware key digest. -/
  | revokeFwkey (arg : Option (Fin 4)) (failed : Bool)
  /-- POLICY_SET (R521): POLICY_SET programs POLICY bits, which take effect at once or at the next boot. -/
  | policySet (arg : Option (BitVec 4)) (failed : BitVec 4)
  /-- TEST_WRITE (R517): TEST_WRITE writes page 0x3F or FLT_INJ in Factory test. -/
  | testWrite (arg : Option (BitVec 16 × Word))
  /-- PAGE_SEL_WRITE (R536): A data byte written at byte 0xFC selects the page at its ACK. -/
  | pageSelWrite (b : BitVec 8)
  /-- REGISTER_WRITE (R539): A complete word written over I²C is committed to a register without a row of its own, field by field by access. -/
  | registerWrite (i : BitVec 6) (w : Word)
  /-- I2C_START_STOP (R542): A START or STOP resets the target state machine and discards a partial write. -/
  | i2cStartStop (pointer : Option (BitVec 8)) (collected : Fin 4)
  /-- SDA_TIMEOUT (R543): SDA stays low for SDA_MS, so the part releases it or reports a foreign hold. -/
  | sdaTimeout (own highSince : Bool) (collected : Fin 4)
  /-- SCL_TIMEOUT (R544): SCL stays low for SCL_MS, so the part resets its target state machine and raises 0x2702. -/
  | sclTimeout (highSince : Bool) (collected : Fin 4)
  /-- IBR_PULSE (R545): With a request pending after 50 µs of idle bus, or 10 ms after the last pulse, the part pulses SDA low. -/
  | ibrPulse (first whole : Bool)
  /-- MBX_GO (R561): A committed MBX_CTRL with GO takes the command frame from the mailbox and begins its execution. -/
  | mbxGo (words : BitVec 8)
  /-- EVT_RD_WRITE (R555): A write of EVT_RD is clamped to the ring range. -/
  | evtRdWrite (v : Word)
  /-- COMPARE_STROBE (R566): The time base matches a compare channel's phase and the channel strobes. -/
  | compareStrobe (c : Fin 48)
  /-- CMP_CFG_WRITE (R566): A write of CMP_CFGc takes effect from the fabric cycle after it commits. -/
  | cmpCfgWrite (c : Fin 48) (w : Word)
  /-- ALARM_ATL_WRITE (R567): A write of ALM_ATL is held until the next ALM_ATH write of the same alarm. -/
  | alarmAtlWrite (w : Word)
  /-- ALARM_SET_TIME (R567): A write of ALM_ATH applies the new AT together with the held low word. -/
  | alarmSetTime (w : Word)
  /-- ALARM_ARM (R567): A write of ALM_CTL.EN arms or disarms the selected alarm. -/
  | alarmArm (w : Word)
  /-- ALARM_FIRE (R567): The time base reaches AT, so the alarm clears EN, sets its flag, notifies its owner and drives its capture trigger. -/
  | alarmFire (a : Fin 32)
  /-- TIMER_TICK (R568): A reload timer receives a tick while running and counts, or wraps and strobes its slaves. -/
  | timerTick (t : Fin 16)
  /-- TIMER_START (R569): TMR_CTL.START sets CNT to 0, loads TOP and starts the timer. -/
  | timerStart (w : Word)
  /-- TIMER_STOP (R569): TMR_CTL.STOP clears RUN and holds CNT. -/
  | timerStop (w : Word)
  /-- CRC_INIT (R574): A CRC_CFG write with INIT claims the unit and starts a new computation. -/
  | crcInit (u : Fin 4) (writer : Fin 17) (w : Word)
  /-- CRC_FEED (R575): A write of CRC_FEED feeds 1, 2 or 4 bytes into the claimed unit. -/
  | crcFeed (u : Fin 4) (writer : Fin 17) (w : Word)
  /-- CRC_BLOCK (R575): A GO write of CRC_BLKL begins a block feed from shared SRAM. -/
  | crcBlock (u : Fin 4) (writer : Fin 17) (w : Word)
  /-- CRC_BLOCK_COMPLETE (R577): A block feed ends, appending or stripping and comparing the check value as MODE selects. -/
  | crcBlockComplete (u : Fin 4)
  /-- CRC_CTX_RESTORE (R578): A write of CRC_CTX restores a running value and sets FOLDED. -/
  | crcCtxRestore (u : Fin 4) (writer : Fin 17) (w : Word)
  /-- GOODCRC_RECEIVED (R196): The partner's GoodCRC for a message the part sent arrives, starting tSrcTransition, tSenderResponse, the Frener VDM timer or the contact-health window. -/
  | goodcrcReceived (k : PortId) (id : BitVec 3)
  /-- GOODCRC_WAIT_TIMEOUT (R187): tReceive elapses without GoodCRC, so the protocol layer retransmits, up to nRetryCount, and then reports the transmission failed. -/
  | goodcrcWaitTimeout (k : PortId)
  /-- SINK_TX_ELAPSED (R197): tSinkTx after the part presents SinkTxNG elapses and the part may start its own AMS. -/
  | sinkTxElapsed (k : PortId)
  /-- UPWARD_OFFER_TIMER (R194): The 1.0 s pacing of upward offers on a port runs out and a withheld higher offer is sent. -/
  | upwardOfferTimer (k : PortId)
  /-- FRENER_VDM_RECEIVED (R215): An unstructured Frener VDM arrives from a module: the response to VIN or NOTICE, or an unlisted request answered Not_Supported. -/
  | frenerVdmReceived (k : PortId) (id : BitVec 3) (hdr vdo1 vdo2 : Word)
  /-- MGT_RESPONSE_TAKEN (R407): The host takes the response of a management function on EP1 IN, ending the outstanding command so that a new frame is no longer answered BUSY. -/
  | mgtResponseTaken (f : Fin 2)
  /-- TELEMETRY_PACKET_TAKEN (R428): The host takes a stream or capture packet on EP3 IN, freeing its buffer for the following blocks. -/
  | telemetryPacketTaken (f : Fin 2)
  /-- HUB_PACKET_SENT (R400): A packet finishes transmission at its egress, freeing its buffer, returning header credit to a held link and letting the next waiting packet go. -/
  | hubPacketSent (egress : Fin 9)
  /-- UVLO_FALL (R61): VIN falls below the UVLO falling threshold, so the bucks stop and the part is held in reset (T0). -/
  | uvloFall
  /-- RESET_IN_N (R631): RESET_IN_N is held low for at least 10 µs, which takes T0 and puts every pin in its reset state. -/
  | resetInN
  /-- SUPPLY_STARTUP_STEP (R65): A supply start-up step of Table BUS-3 completes and the next regulator starts, or reset is released. -/
  | supplyStartupStep
  /-- ROM_BOOT_GUARD_JUDGE (R99): At step 5 of ROM boot the VIN_OK and sink-supply guards are judged each frame and T1 or T2 is taken when one holds. -/
  | romBootGuardJudge
  /-- ENGINE_LOAD (R108): The supervisor loads each engine section, checks its digest and writes its ENGDATA, then releases all loaded engines together. -/
  | engineLoad
  /-- LIFE_HOUR_ELAPSED (R113): An hour of run time passes and a life record falls due. -/
  | lifeHourElapsed
  /-- SPRING_LIMIT_EXPIRED (R40): Spring has not reached Summer within SPRING_LIMIT, so fault 0xC001 is raised and T9 is taken. -/
  | springLimitExpired
  /-- WINTER_HOLD_ELAPSED (R37): WINTER_HOLD elapses in Winter and, where retries remain, T11 restarts the part and increments WRST_CNT. -/
  | winterHoldElapsed
  /-- SUMMER_HOUR_ELAPSED (R37): One hour of continuous Summer returns WRST_CNT to 0. -/
  | summerHourElapsed
  /-- VIN_OVP_RISE (R61): VIN rises above VIN_OVP and every port converter stops switching within 2 µs. -/
  | vinOvpRise
  /-- VIN_OVP_FALL (R61): VIN falls below the VIN_OVP falling threshold and converter switching resumes. -/
  | vinOvpFall
  /-- VIN_OVP_PERSIST (R86): VIN stays above VIN_OVP for more than 10 ms, raising fatal fault 0xE007. -/
  | vinOvpPersist
  /-- VIN_OK_FALL (R644): VIN falls below the VIN_OK falling threshold, so every module port is opened and stopped without shedding and port 9 turns to sinking. -/
  | vinOkFall
  /-- VIN_OK_RISE (R178): VIN rises above the VIN_OK rising threshold, so the port 9 sink switch turns off and T14 is taken in Off-season. -/
  | vinOkRise
  /-- SINK_SUPPLY_PRESENT (R180): VSVC has stayed at or above 4.40 V for 15 ms, so the port 9 sink supply counts as present and the supplies start. -/
  | sinkSupplyPresent
  /-- MAINS_LOSS (R67): While locked no qualified ACSNS edge arrives for 1.5 tracked periods, so MAINS_LOST is set. -/
  | mainsLoss
  /-- ACSNS_LOCK_TIMEOUT (R86): ACSNS is still not locked 2 s after the triggers were armed, raising warning 0x2004. -/
  | acsnsLockTimeout
  /-- MAINS_RETURN_TIMEOUT (R86): After Autumn entry by mains loss no ACSNS edge arrives for 1 s with VIN above RET_MV, so the supply is treated as returned and T7 is taken. -/
  | mainsReturnTimeout
  /-- BUS_JUDGEMENT (R71): At each frame end the input stage judges the lowest VIN result for shedding, commit and Autumn requests. -/
  | busJudgement
  /-- RESTART_WAIT_ELAPSED (R76): After DONE, VIN has stayed above VIN_OK for tRESTART, so T8 restarts the part. -/
  | restartWaitElapsed
  /-- VDRV_DROPOUT (R64): VDRV enters dropout, setting VDRV_DROP and raising warning 0x2101. -/
  | vdrvDropout
  /-- FRAME_PLAUSIBILITY (R135): At each frame end each ADC is judged gross-implausible, and two consecutive frames raise 0xE506. -/
  | framePlausibility
  /-- SCH_DATA_READ (R128): A read of byte 3 of SCH_DATA returns the entry from the selected bank and advances INDEX. -/
  | schDataRead
  /-- SCH_SWAP_REQ (R129): SWAP_REQ is written, setting BUSY and requesting a check of the shadow bank. -/
  | schSwapReq
  /-- SCHEDULE_CHECK (R130): At the superframe boundary after the request the shadow bank is checked for entries, coverage and CRC, and is accepted or refused. -/
  | scheduleCheck
  /-- SCHEDULE_SWAP (R131): An accepted shadow bank becomes active at the next superframe boundary. -/
  | scheduleSwap
  /-- CAPTURE_FORCE (R155): Writing CAP_CTRL.FORCE triggers the capture now. -/
  | captureForce
  /-- CAPTURE_TRIGGER (R141): The selected trigger occurs while ARMED, so the time base and word are recorded and capture enters POST. -/
  | captureTrigger
  /-- CAPTURE_FULL (R141): The post-trigger part of the ring is filled, so capture enters FULL and stops writing. -/
  | captureFull
  /-- CAPTURE_RELEASE (R441): Writing CAP_SPILL.RELEASE in FULL with spill disabled discards the capture and returns it to IDLE. -/
  | captureRelease
  /-- DRP_TOGGLE (R177): The tDRP timer of port 9 toggles its presented role between source and sink. -/
  | drpToggle
  /-- TRY_SNK_ELAPSED (R177): tDRPTry on port 9 elapses in Try.SNK or TryWait.SRC and the role is judged. -/
  | trySnkElapsed
  /-- DR_SWAP_RETRY (R211): Port 9 sends DR_Swap after a contract finds it downstream-facing and repeats it every 2.0 s, raising 0x091A after 3 attempts. -/
  | drSwapRetry
  /-- ALLOCATOR_RUN (R301): An allocator run computes and writes each port's grant, ceiling and ALLOC, restoring shed ports by priority. -/
  | allocatorRun
  /-- POWERUP_STEP_DELAY_ELAPSED (R319): The delay of a power-up step ends and the step waits at its gate or starts. -/
  | powerupStepDelayElapsed
  /-- POWERDOWN_STEP_DELAY_ELAPSED (R323): The delay of a power-down step ends and the step waits at its gate or starts. -/
  | powerdownStepDelayElapsed
  /-- DOWN_GATE_TIMEOUT (R323): A down-gate wait reaches GATE_TO, so warning 0x2905 is raised and the step proceeds. -/
  | downGateTimeout
  /-- CASC_ARM (R333): The filtered CASC_IN is first high after the seal and the part's CASC check is armed. -/
  | cascArm
  /-- CASC_FAULT (R334): An armed part sees CASC_IN low for 1 µs and raises 0xE904, taking T9. -/
  | cascFault
  /-- AXKAN_CYCLE (R336): At each master superframe the master sends its break and a SYNC or JOIN frame with the barrier release fields. -/
  | axkanCycle
  /-- AXKAN_SLAVE_WINDOW (R336): A joined slave's window begins and it sends its REPORT frame. -/
  | axkanSlaveWindow
  /-- AXKAN_LINK_LOST (R341): No valid frame from the master or a position for 4 cycles raises 0xA902 and clears UPV and DNV. -/
  | axkanLinkLost
  /-- FFL_MARK (R374): MARK of the record is programmed to 0x44 at DONE or at the start of T11. -/
  | fflMark
  /-- FFL_SCAN (R376): The supervisor scans the first-fault log, finds the newest record and reports torn or open records. -/
  | fflScan
  /-- FFL_DEFERRED_RECORD (R377): After a Deep Winter the supervisor writes a deferred record from the retained island trip. -/
  | fflDeferredRecord
  /-- POOL_EMPTY_TIMEOUT (R400): The shared buffer pool stays empty for 1 ms, raising warning 0x2821. -/
  | poolEmptyTimeout
  /-- SS_PLL_UNLOCK (R20): The SuperSpeed PHY PLL loses lock, so all SuperSpeed lanes stop and the hub continues on USB 2.0. -/
  | ssPllUnlock
  /-- HS9_PLL_UNLOCK (R20): The port 9 High-Speed PHY PLL loses lock and port 9 data stops. -/
  | hs9PllUnlock
  /-- ARCHIVE_FRAME_ACCUMULATE (R433): Each frame the codec engine adds port energy and tracks peak current for the day. -/
  | archiveFrameAccumulate
  /-- COUNTED_SECOND (R433): A counted second ends and, every second one, current and temperature samples are binned. -/
  | countedSecond
  /-- HISTORY_SCAN (R437): At T1 or T2 the codec engine scans both archive rings and resumes or starts a day, counting uncontrolled losses. -/
  | historyScan
  /-- LOCKSTEP_MISMATCH (R452): The supervisor cores' outputs differ, so the island trips Deep Winter with 0xE401. -/
  | lockstepMismatch
  /-- WATCHDOG_PERIOD_START (R453): A watchdog period ends and a new one begins with a new challenge, tripping 0xE402 where the ended period had no correct answer. -/
  | watchdogPeriodStart
  /-- WATCHDOG_OPEN_WINDOW (R453): The closed window of a watchdog period ends and the open window begins. -/
  | watchdogOpenWindow
  /-- BOOT_TIMER_EXPIRED (R455): The island boot timer reaches 40 ms before T1, T2, T3 or T4, tripping 0xE402. -/
  | bootTimerExpired
  /-- SEAL_TIMER_EXPIRED (R455): The island seal timer reaches 100 ms before the watchdog is armed, tripping 0xE402. -/
  | sealTimerExpired
  /-- SAF_HOLD (R456): A write of SAF_CTRL.HOLD during handover suspends watchdog periods and starts the 45 ms hold timer. -/
  | safHold
  /-- HOLD_TIMER_EXPIRED (R456): The handover hold expires without a correct answer, tripping 0xE402. -/
  | holdTimerExpired
  /-- COLLECTOR_HEARTBEAT_MISSING (R457): Two collector heartbeat toggles are missing, so the island trips Deep Winter with 0xC008. -/
  | collectorHeartbeatMissing
  /-- DIE_TEMP_WARNING (R460): A die sensor result is at or above WARN for 32 frames, raising warning 0x2B02. -/
  | dieTempWarning
  /-- COLD_RESTART (R465): After 1.0 s in Deep Winter, where allowed, the island begins a cold restart by releasing KEEP rails step by step. -/
  | coldRestart
  /-- COLD_RESTART_STEP (R466): Each 1.0 ms the next KEEP step is released, and after the last the internal reset and T13 follow. -/
  | coldRestartStep
  /-- SAF_ACK (R467): A write of SAF_CTRL.ACK sets SAF_TRIP.CODE to 0. -/
  | safAck
  /-- SAF_XCHK_READ (R474): A read of byte 0 of SAF_XCHK restarts its MIN and MAX. -/
  | safXchkRead
  /-- FAULT_RECORD_POST (R489): In a collector slot one record leaves the queue and is posted as a fault event. -/
  | faultRecordPost
  /-- ATTEST (R519): ATTEST returns the AES-CMAC under the attestation key over the UID and a challenge. -/
  | attest
  /-- SHUTDOWN (R74): The authenticated SHUTDOWN command takes T6 with COMMITTED set on entry. -/
  | shutdown
  /-- START (R35): The authenticated START command takes T8 from Autumn once DONE is set. -/
  | start
  /-- RESTART (R37): The authenticated RESTART command takes T11 from Winter without incrementing WRST_CNT. -/
  | restart
  /-- FORCE_WINTER (R43): The authenticated FORCE_WINTER command raises 0xC002 and takes T9. -/
  | forceWinter
  /-- PORT_ENABLE (R520): PORT_ENABLE clears or sets port enables, opening and disabling or returning ports to UNATTACHED. -/
  | portEnable
  /-- HANDOVER (R593): HANDOVER begins a live exchange of the supervisor firmware, writing the handover record and pausing the supervisor. -/
  | handover
  /-- REC_STATUS (R600): REC_STATUS returns BOOT_STATUS, OTP_STATUS, UPD_STATUS and UPD_NEXT. -/
  | recStatus
  /-- MBX_RESPONSE (R550): A command's execution ends, the response frame is written, SYS_SEQ is updated and RESPONSE_READY is posted. -/
  | mbxResponse
  /-- MBX_TAKE (R561): A committed MBX_CTRL with TAKE in RESP returns the mailbox to IDLE. -/
  | mbxTake
  /-- EVT_STATUS_READ (R559): A read of EVT_STATUS takes the event window and clears the LOST request condition. -/
  | evtStatusRead
  /-- PORT9_SINK_DETACH (R177): The source partner on port 9 in the sink role removes VBUS or its Rp, and the port returns to dual-role toggling or to UNATTACHED. -/
  | port9SinkDetach
  /-- HUB_BUF_READ (R415): A read of HUB_BUF takes its value and restarts MIN_FREE, the fewest free shared buffers since the last read. -/
  | hubBufRead
  deriving DecidableEq, Repr

end Sys2Proof
end

