-- ==== Sys2Proof/Config.lean ====
section
/-!
DEFINITION. What the manual leaves open. Every constant here is opaque: nothing in Lean can find a value of it, and a
statement about one holds for every value.
-/
namespace Sys2Proof

/-- A value the manual does not state, by the number of values already taken (State.free). -/
opaque Config.freeValue : Nat → Nat
/-- A random byte string the manual asks for without naming its source, such as a nonce. -/
opaque Config.freeByte : Nat → Nat → BitVec 8
/-- The AES key wired into the OTP controller (R501); the manual does not give it. -/
opaque Config.otpKey : Nat → BitVec 8
/-- Error of the table-interpolated log2_q16 of R279 at an argument; only its bound is stated. -/
opaque Config.log2Error : Nat → Int
/-- Error of the table-interpolated exp2_q16 of R279 at an argument; only its bound is stated. -/
opaque Config.exp2Error : Nat → Int

/-- What a bus threshold field holds where the voltage derived for it, in mV, does not fit its 16 bits (R69, R81, R83); the manual
states no value. -/
opaque Config.busThreshold : Nat → BitVec 16

/-- A byte of a USB descriptor that neither the manual nor the standard fixes, by descriptor and offset (R394, R405). -/
opaque Config.descByte : Nat → Nat → BitVec 8
/-- LO threshold of supply windows 47–50 as a 12-bit code (Table MSR-4); the manual states no value but VDRV's 6.0 V. -/
opaque Config.supplyLo : Nat → Nat
/-- HI threshold of supply windows 47–50 as a 12-bit code; the manual states no value. -/
opaque Config.supplyHi : Nat → Nat

end Sys2Proof
end

