-- ==== Sys2Proof/Machine/Bank.lean ====
section
/-!
DEFINITION. Sparse stores in one canonical form: a list of (address, value) pairs with strictly rising addresses
and no entry equal to what an unlisted address reads as. Registers, flash, SRAM, capture RAM, schedule banks and
OTP words are all held this way, so equal contents are equal data.
-/
namespace Sys2Proof.Machine

/-- A sparse store of values of type `β` by address. -/
abbrev Bank (β : Type) := List (Nat × β)

/-- What the store holds at an address; `d` gives what an unlisted address reads as. -/
def bankRead {β : Type} (d : Nat → β) : Bank β → Nat → β
  | [], a => d a
  | (x, v) :: m, a => if x = a then v else bankRead d m a

/-- The store without an entry for an address. -/
def bankErase {β : Type} : Bank β → Nat → Bank β
  | [], _ => []
  | (x, v) :: m, a => if x = a then bankErase m a else (x, v) :: bankErase m a

/-- The store with an entry put at its place in the order. -/
def bankInsert {β : Type} : Bank β → Nat → β → Bank β
  | [], a, v => [(a, v)]
  | (x, u) :: m, a, v => if a < x then (a, v) :: (x, u) :: m else (x, u) :: bankInsert m a v

/-- Write one value; writing what an unlisted address reads as removes the entry. -/
def bankWrite {β : Type} [DecidableEq β] (d : Nat → β) (m : Bank β) (a : Nat) (v : β) : Bank β :=
  if v = d a then bankErase m a else bankInsert (bankErase m a) a v

/-- Whether every address of the store lies above a bound. -/
def bankAbove {β : Type} (lo : Nat) (m : Bank β) : Bool := m.all fun e => decide (lo < e.1)

/-- The canonical form: addresses strictly rising, no entry equal to its default. -/
def bankWf {β : Type} [DecidableEq β] (d : Nat → β) : Bank β → Bool
  | [] => true
  | (x, v) :: m => decide (v ≠ d x) && bankAbove x m && bankWf d m

/-- Write a list of values at consecutive addresses. -/
def bankWriteList {β : Type} [DecidableEq β] (d : Nat → β) : Bank β → Nat → List β → Bank β
  | m, _, [] => m
  | m, a, v :: vs => bankWriteList d (bankWrite d m a v) (a + 1) vs

/-- Read `n` values at consecutive addresses. -/
def bankReadList {β : Type} (d : Nat → β) (m : Bank β) (a n : Nat) : List β :=
  (List.range n).map fun i => bankRead d m (a + i)

/-- Every entry of an address range put back to its default. -/
def bankClear {β : Type} (m : Bank β) (lo n : Nat) : Bank β :=
  m.filter fun e => ! (decide (lo ≤ e.1) && decide (e.1 < lo + n))

end Sys2Proof.Machine
end

