-- ==== Sys2Proof/Machine/Registers.lean ====
section
/-!
DEFINITION. The register pages (Tables MAP-1 and MAP-2, R609–R619) and every field map of the chapters: one address
per register (`R`), one descriptor per field (`F`), one descriptor per W1C flag with its companion counter (`G`),
and the table of registers with reset values and access masks (`regTable`).
-/
namespace Sys2Proof

/-- SYS_ID, R612. -/
def R.SYS_ID : Nat := 0x0
/-- SYS_STATE, R32. -/
def R.SYS_STATE : Nat := 0x4
/-- SYS_STATE_CFG, R33. -/
def R.SYS_STATE_CFG : Nat := 0x8
/-- SYS_STRAP, R57. -/
def R.SYS_STRAP : Nat := 0xC
/-- BOOT_STATUS, R115. -/
def R.BOOT_STATUS : Nat := 0x10
/-- BOOT_FWID, R116. -/
def R.BOOT_FWID : Nat := 0x14
/-- BOOT_CFGID, R117. -/
def R.BOOT_CFGID : Nat := 0x18
/-- BOOT_VERS, R118. -/
def R.BOOT_VERS : Nat := 0x1C
/-- BOOT_COUNT, R119. -/
def R.BOOT_COUNT : Nat := 0x20
/-- SYS_SEQ_LAST_HSEQ, R557. -/
def R.SYS_SEQ_LAST_HSEQ : Nat := 0x24
/-- SYS_SEQ_NEXT_DSEQ, R557. -/
def R.SYS_SEQ_NEXT_DSEQ : Nat := 0x28
/-- SYS_SEQ_LAST, R557. -/
def R.SYS_SEQ_LAST : Nat := 0x2C
/-- SYS_SEQ_PREV_HSEQ, R557. -/
def R.SYS_SEQ_PREV_HSEQ : Nat := 0x30
/-- SYS_SEQ_PREV_DSEQ, R557. -/
def R.SYS_SEQ_PREV_DSEQ : Nat := 0x34
/-- HIF_CFG, R558. -/
def R.HIF_CFG : Nat := 0x100
/-- HIF_TIMEOUT, R558. -/
def R.HIF_TIMEOUT : Nat := 0x104
/-- HIF_IRQ, R559. -/
def R.HIF_IRQ : Nat := 0x108
/-- HIF_IRQ_EN, R559. -/
def R.HIF_IRQ_EN : Nat := 0x10C
/-- HIF_STATUS, R559. -/
def R.HIF_STATUS : Nat := 0x110
/-- HIF_FLAGS, R560. -/
def R.HIF_FLAGS : Nat := 0x114
/-- HIF_FLAG_CNT, R560. -/
def R.HIF_FLAG_CNT : Nat := 0x118
/-- HIF_FLAG_CNT2, R560. -/
def R.HIF_FLAG_CNT2 : Nat := 0x11C
/-- MBX_FRAME, R561. -/
def R.MBX_FRAME (n : Nat) : Nat := 0x200 + 4 * n
/-- MBX_CTRL, R561. -/
def R.MBX_CTRL : Nat := 0x2F0
/-- MBX_STATUS, R561. -/
def R.MBX_STATUS : Nat := 0x2F4
/-- MBR_FRAME, R562. -/
def R.MBR_FRAME (n : Nat) : Nat := 0x300 + 4 * n
/-- EVT_STATUS, R563. -/
def R.EVT_STATUS : Nat := 0x400
/-- EVT_WR, R563. -/
def R.EVT_WR : Nat := 0x404
/-- EVT_RD, R563. -/
def R.EVT_RD : Nat := 0x408
/-- EVT_REC, R563. -/
def R.EVT_REC (n : Nat) : Nat := 0x410 + 4 * n
/-- FLT_STATUS, R492. -/
def R.FLT_STATUS : Nat := 0x500
/-- FLT_LAST, R493. -/
def R.FLT_LAST : Nat := 0x504
/-- FLT_LAST_TBL, R493. -/
def R.FLT_LAST_TBL : Nat := 0x508
/-- FLT_LAST_TBH, R493. -/
def R.FLT_LAST_TBH : Nat := 0x50C
/-- FLT_FLAGS, R494. -/
def R.FLT_FLAGS : Nat := 0x510
/-- FLT_FLAG_CNT, R494. -/
def R.FLT_FLAG_CNT : Nat := 0x514
/-- FLT_ESC_SEL, R495. -/
def R.FLT_ESC_SEL : Nat := 0x518
/-- FLT_ESC_ST, R495. -/
def R.FLT_ESC_ST : Nat := 0x51C
/-- FLT_FATAL, R495. -/
def R.FLT_FATAL : Nat := 0x520
/-- FLT_INJ, R496. -/
def R.FLT_INJ : Nat := 0x524
/-- FLT_ESC, R497. -/
def R.FLT_ESC (n : Nat) : Nat := 0x540 + 4 * n
/-- SAF_STATUS, R468. -/
def R.SAF_STATUS : Nat := 0x600
/-- SAF_TRIP, R469. -/
def R.SAF_TRIP : Nat := 0x604
/-- SAF_TRIP_TBL, R470. -/
def R.SAF_TRIP_TBL : Nat := 0x608
/-- SAF_TRIP_TBH, R470. -/
def R.SAF_TRIP_TBH : Nat := 0x60C
/-- SAF_WDCHAL, R471. -/
def R.SAF_WDCHAL : Nat := 0x610
/-- SAF_WDRESP, R472. -/
def R.SAF_WDRESP : Nat := 0x614
/-- SAF_WDCFG, R473. -/
def R.SAF_WDCFG : Nat := 0x618
/-- SAF_XCHK, R474. -/
def R.SAF_XCHK : Nat := 0x61C
/-- SAF_DWTIME, R475. -/
def R.SAF_DWTIME : Nat := 0x620
/-- SAF_TEMP, R473. -/
def R.SAF_TEMP : Nat := 0x624
/-- SAF_CTRL, R476. -/
def R.SAF_CTRL : Nat := 0x628
/-- SAF_FLAGS, R477. -/
def R.SAF_FLAGS : Nat := 0x62C
/-- SAF_FLAG_CNT, R477. -/
def R.SAF_FLAG_CNT : Nat := 0x630
/-- PROT_STATUS, R527. -/
def R.PROT_STATUS : Nat := 0x700
/-- PROT_CTRL, R527. -/
def R.PROT_CTRL : Nat := 0x704
/-- SEC_RIGHTS, R528. -/
def R.SEC_RIGHTS (n : Nat) : Nat := 0x708 + 4 * n
/-- SES_SEL, R529. -/
def R.SES_SEL : Nat := 0x728
/-- SES_LAST, R529. -/
def R.SES_LAST : Nat := 0x72C
/-- SES_CEIL, R529. -/
def R.SES_CEIL : Nat := 0x730
/-- SES_INFO, R529. -/
def R.SES_INFO : Nat := 0x734
/-- SEC_PORTEN, R529. -/
def R.SEC_PORTEN : Nat := 0x738
/-- SEC_FLAGS, R530. -/
def R.SEC_FLAGS : Nat := 0x73C
/-- SEC_FLAG_CNT, R530. -/
def R.SEC_FLAG_CNT : Nat := 0x740
/-- OTP_STATUS, R523. -/
def R.OTP_STATUS : Nat := 0x800
/-- OTP_SEL, R524. -/
def R.OTP_SEL : Nat := 0x804
/-- OTP_READ, R524. -/
def R.OTP_READ : Nat := 0x808
/-- OTP_MARG, R524. -/
def R.OTP_MARG : Nat := 0x80C
/-- OTP_POLICY, R525. -/
def R.OTP_POLICY : Nat := 0x810
/-- OTP_REREAD, R525. -/
def R.OTP_REREAD : Nat := 0x814
/-- OTP_FLAGS, R526. -/
def R.OTP_FLAGS : Nat := 0x818
/-- OTP_FLAG_CNT, R526. -/
def R.OTP_FLAG_CNT : Nat := 0x81C
/-- UPD_STATUS, R603. -/
def R.UPD_STATUS : Nat := 0x900
/-- UPD_NEXT, R604. -/
def R.UPD_NEXT : Nat := 0x904
/-- UPD_LEN, R604. -/
def R.UPD_LEN : Nat := 0x908
/-- UPD_HO, R605. -/
def R.UPD_HO : Nat := 0x90C
/-- UPD_CFG, R606. -/
def R.UPD_CFG : Nat := 0x910
/-- UPD_FLAGS, R607. -/
def R.UPD_FLAGS : Nat := 0x914
/-- UPD_FLAG_CNT, R607. -/
def R.UPD_FLAG_CNT : Nat := 0x918
/-- TB_LO, R579. -/
def R.TB_LO : Nat := 0xA00
/-- TB_HI, R579. -/
def R.TB_HI : Nat := 0xA04
/-- CMP_CFG, R579. -/
def R.CMP_CFG (n : Nat) : Nat := 0xA08 + 4 * n
/-- CMP_CNT, R579. -/
def R.CMP_CNT (n : Nat) : Nat := 0xAC8 + 4 * n
/-- ALM_SEL, R580. -/
def R.ALM_SEL : Nat := 0xB00
/-- ALM_CTL, R580. -/
def R.ALM_CTL : Nat := 0xB04
/-- ALM_ATL, R580. -/
def R.ALM_ATL : Nat := 0xB08
/-- ALM_ATH, R580. -/
def R.ALM_ATH : Nat := 0xB0C
/-- ALM_FLAGS, R580. -/
def R.ALM_FLAGS : Nat := 0xB10
/-- ALM_FLAG_CNT, R580. -/
def R.ALM_FLAG_CNT (n : Nat) : Nat := 0xB14 + 4 * n
/-- ALM_ARMED, R580. -/
def R.ALM_ARMED : Nat := 0xB34
/-- TMR_CFG, R581. -/
def R.TMR_CFG (n : Nat) : Nat := 0xB40 + 4 * n
/-- TMR_PRE, R581. -/
def R.TMR_PRE (n : Nat) : Nat := 0xB80 + 4 * n
/-- TMR_SEL, R581. -/
def R.TMR_SEL : Nat := 0xBC0
/-- TMR_CNT, R581. -/
def R.TMR_CNT : Nat := 0xBC4
/-- TMR_TOP, R581. -/
def R.TMR_TOP : Nat := 0xBC8
/-- TMR_RUN, R581. -/
def R.TMR_RUN : Nat := 0xBCC
/-- TMR_FLAGS, R581. -/
def R.TMR_FLAGS : Nat := 0xBD0
/-- TMR_FLAG_CNT, R581. -/
def R.TMR_FLAG_CNT (n : Nat) : Nat := 0xBD4 + 4 * n
/-- TMR_CTL, R581. -/
def R.TMR_CTL : Nat := 0xBE4
/-- CRC_CFG, R582. -/
def R.CRC_CFG (n : Nat) : Nat := 0xC00 + 32 * n
/-- CRC_FOLD, R582. -/
def R.CRC_FOLD (n : Nat) : Nat := 0xC04 + 32 * n
/-- CRC_FEED, R582. -/
def R.CRC_FEED (n : Nat) : Nat := 0xC08 + 32 * n
/-- CRC_BLKA, R582. -/
def R.CRC_BLKA (n : Nat) : Nat := 0xC0C + 32 * n
/-- CRC_BLKL, R582. -/
def R.CRC_BLKL (n : Nat) : Nat := 0xC10 + 32 * n
/-- CRC_RES, R582. -/
def R.CRC_RES (n : Nat) : Nat := 0xC14 + 32 * n
/-- CRC_CTX, R582. -/
def R.CRC_CTX (n : Nat) : Nat := 0xC18 + 32 * n
/-- CRC_STATUS, R582. -/
def R.CRC_STATUS (n : Nat) : Nat := 0xC1C + 32 * n
/-- CRC_FLAGS, R582. -/
def R.CRC_FLAGS : Nat := 0xC80
/-- CRC_FLAG_CNT0, R582. -/
def R.CRC_FLAG_CNT0 : Nat := 0xC84
/-- CRC_FLAG_CNT1, R582. -/
def R.CRC_FLAG_CNT1 : Nat := 0xC88
/-- BUS_STATUS, R78. -/
def R.BUS_STATUS : Nat := 0xD00
/-- BUS_VIN, R79. -/
def R.BUS_VIN : Nat := 0xD04
/-- BUS_CFG, R80. -/
def R.BUS_CFG : Nat := 0xD08
/-- BUS_RESERVE, R81. -/
def R.BUS_RESERVE : Nat := 0xD0C
/-- BUS_BAND, R82. -/
def R.BUS_BAND : Nat := 0xD10
/-- BUS_THR, R83. -/
def R.BUS_THR : Nat := 0xD14
/-- BUS_THR_SHED, R84. -/
def R.BUS_THR_SHED (n : Nat) : Nat := 0xD18 + 4 * n
/-- BUS_FLAGS, R85. -/
def R.BUS_FLAGS : Nat := 0xD28
/-- BUS_FLAG_CNT, R85. -/
def R.BUS_FLAG_CNT : Nat := 0xD2C
/-- BUD_CFG, R306. -/
def R.BUD_CFG : Nat := 0xE00
/-- BUD_SUP, R307. -/
def R.BUD_SUP : Nat := 0xE04
/-- BUD_PORT, R308. -/
def R.BUD_PORT (k : PortId) : Nat := 0xE08 + 4 * k.val
/-- BUD_STATUS, R309. -/
def R.BUD_STATUS : Nat := 0xE28
/-- BUD_VIN, R309. -/
def R.BUD_VIN : Nat := 0xE2C
/-- BUD_GRANT, R310. -/
def R.BUD_GRANT (k : PortId) : Nat := 0xE30 + 4 * k.val
/-- BUD_FLAGS, R311. -/
def R.BUD_FLAGS : Nat := 0xE50
/-- BUD_FLAG_CNT, R311. -/
def R.BUD_FLAG_CNT : Nat := 0xE54
/-- CLK_STATUS, R21. -/
def R.CLK_STATUS : Nat := 0xF00
/-- FRAME_POS, R22. -/
def R.FRAME_POS : Nat := 0xF04
/-- CNV_CLK, R254. -/
def R.CNV_CLK : Nat := 0xF08
/-- ATT_CFG, R181. -/
def R.ATT_CFG (k : PortId) : Nat := 0x1000 + 0x200 * k.val
/-- ATT_STATUS, R182. -/
def R.ATT_STATUS (k : PortId) : Nat := 0x1004 + 0x200 * k.val
/-- ATT_WET, R183. -/
def R.ATT_WET (k : PortId) : Nat := 0x1008 + 0x200 * k.val
/-- ATT_CABLE, R184. -/
def R.ATT_CABLE (k : PortId) : Nat := 0x100C + 0x200 * k.val
/-- ATT_FLAGS, R185. -/
def R.ATT_FLAGS (k : PortId) : Nat := 0x1010 + 0x200 * k.val
/-- ATT_FLAG_CNT, R185. -/
def R.ATT_FLAG_CNT (k : PortId) : Nat := 0x1014 + 0x200 * k.val
/-- PD_CFG, R219. -/
def R.PD_CFG (k : PortId) : Nat := 0x1018 + 0x200 * k.val
/-- PD_STATUS, R220. -/
def R.PD_STATUS (k : PortId) : Nat := 0x101C + 0x200 * k.val
/-- PD_CONTRACT, R221. -/
def R.PD_CONTRACT (k : PortId) : Nat := 0x1020 + 0x200 * k.val
/-- PD_RDO, R222. -/
def R.PD_RDO (k : PortId) : Nat := 0x1024 + 0x200 * k.val
/-- PD_FLAGS, R223. -/
def R.PD_FLAGS (k : PortId) : Nat := 0x1028 + 0x200 * k.val
/-- PD_FLAG_CNT, R223. -/
def R.PD_FLAG_CNT (k : PortId) : Nat := 0x102C + 0x200 * k.val
/-- CNV_CFG, R255. -/
def R.CNV_CFG (k : PortId) : Nat := 0x1100 + 0x200 * k.val
/-- CNV_LOOP, R256. -/
def R.CNV_LOOP (k : PortId) : Nat := 0x1104 + 0x200 * k.val
/-- CNV_ILIM, R257. -/
def R.CNV_ILIM (k : PortId) : Nat := 0x1108 + 0x200 * k.val
/-- CNV_MAX, R258. -/
def R.CNV_MAX (k : PortId) : Nat := 0x110C + 0x200 * k.val
/-- CNV_STATUS, R259. -/
def R.CNV_STATUS (k : PortId) : Nat := 0x1110 + 0x200 * k.val
/-- CNV_MEAS, R260. -/
def R.CNV_MEAS (k : PortId) : Nat := 0x1114 + 0x200 * k.val
/-- CNV_DROP, R261. -/
def R.CNV_DROP (k : PortId) : Nat := 0x1118 + 0x200 * k.val
/-- CHK_CFG, R262. -/
def R.CHK_CFG (k : PortId) : Nat := 0x111C + 0x200 * k.val
/-- CHK_STATUS, R263. -/
def R.CHK_STATUS (k : PortId) : Nat := 0x1120 + 0x200 * k.val
/-- CHK_CAP, R264. -/
def R.CHK_CAP (k : PortId) : Nat := 0x1124 + 0x200 * k.val
/-- CNV_FLAGS, R265. -/
def R.CNV_FLAGS (k : PortId) : Nat := 0x1128 + 0x200 * k.val
/-- CNV_FLAG_CNT, R265. -/
def R.CNV_FLAG_CNT (k : PortId) : Nat := 0x112C + 0x200 * k.val
/-- BRK_CFG, R288. -/
def R.BRK_CFG (k : PortId) : Nat := 0x1130 + 0x200 * k.val
/-- BRK_PT, R289. -/
def R.BRK_PT (k : PortId) (n : Nat) : Nat := 0x1134 + 0x200 * k.val + 4 * n
/-- BRK_SW, R290. -/
def R.BRK_SW (k : PortId) : Nat := 0x1154 + 0x200 * k.val
/-- BRK_NTC, R291. -/
def R.BRK_NTC (k : PortId) : Nat := 0x1158 + 0x200 * k.val
/-- BRK_RETRY, R292. -/
def R.BRK_RETRY (k : PortId) : Nat := 0x115C + 0x200 * k.val
/-- BRK_STATUS, R293. -/
def R.BRK_STATUS (k : PortId) : Nat := 0x1160 + 0x200 * k.val
/-- BRK_TIME, R294. -/
def R.BRK_TIME (k : PortId) : Nat := 0x1164 + 0x200 * k.val
/-- BRK_FLAGS, R295. -/
def R.BRK_FLAGS (k : PortId) : Nat := 0x1168 + 0x200 * k.val
/-- BRK_FLAG_CNT, R295. -/
def R.BRK_FLAG_CNT (k : PortId) : Nat := 0x116C + 0x200 * k.val
/-- SQ_UP, R342. -/
def R.SQ_UP (j : RailId) : Nat := 0x3000 + 0x100 * (j.val / 4) + 0x3C * (j.val % 4)
/-- SQ_DN, R343. -/
def R.SQ_DN (j : RailId) : Nat := 0x3004 + 0x100 * (j.val / 4) + 0x3C * (j.val % 4)
/-- SQ_WIN, R344. -/
def R.SQ_WIN (j : RailId) : Nat := 0x3008 + 0x100 * (j.val / 4) + 0x3C * (j.val % 4)
/-- SQ_STATUS, R345. -/
def R.SQ_STATUS (j : RailId) : Nat := 0x300C + 0x100 * (j.val / 4) + 0x3C * (j.val % 4)
/-- SQ_NOM, R378. -/
def R.SQ_NOM (j : RailId) : Nat := 0x3010 + 0x100 * (j.val / 4) + 0x3C * (j.val % 4)
/-- SQ_THR, R379. -/
def R.SQ_THR (j : RailId) : Nat := 0x3014 + 0x100 * (j.val / 4) + 0x3C * (j.val % 4)
/-- SQ_SUP, R380. -/
def R.SQ_SUP (j : RailId) : Nat := 0x3018 + 0x100 * (j.val / 4) + 0x3C * (j.val % 4)
/-- SQ_MGCAL, R381. -/
def R.SQ_MGCAL (j : RailId) : Nat := 0x301C + 0x100 * (j.val / 4) + 0x3C * (j.val % 4)
/-- SQ_MG, R382. -/
def R.SQ_MG (j : RailId) : Nat := 0x3020 + 0x100 * (j.val / 4) + 0x3C * (j.val % 4)
/-- SQ_MGST, R383. -/
def R.SQ_MGST (j : RailId) : Nat := 0x3024 + 0x100 * (j.val / 4) + 0x3C * (j.val % 4)
/-- SQ_EFF, R384. -/
def R.SQ_EFF (j : RailId) : Nat := 0x3028 + 0x100 * (j.val / 4) + 0x3C * (j.val % 4)
/-- SQ_EFF2, R384. -/
def R.SQ_EFF2 (j : RailId) : Nat := 0x302C + 0x100 * (j.val / 4) + 0x3C * (j.val % 4)
/-- SQ_MEAS, R384. -/
def R.SQ_MEAS (j : RailId) : Nat := 0x3030 + 0x100 * (j.val / 4) + 0x3C * (j.val % 4)
/-- SQ_FLAGS, R385. -/
def R.SQ_FLAGS (j : RailId) : Nat := 0x3034 + 0x100 * (j.val / 4) + 0x3C * (j.val % 4)
/-- SQ_FLAG_CNT, R385. -/
def R.SQ_FLAG_CNT (j : RailId) : Nat := 0x3038 + 0x100 * (j.val / 4) + 0x3C * (j.val % 4)
/-- SQC_CFG, R346. -/
def R.SQC_CFG : Nat := 0x3400
/-- SQC_STATUS, R347. -/
def R.SQC_STATUS : Nat := 0x3404
/-- SQC_RAILS, R347. -/
def R.SQC_RAILS : Nat := 0x3408
/-- SQC_UP, R348. -/
def R.SQC_UP (n : Nat) : Nat := 0x3410 + 4 * n
/-- SQC_DN, R348. -/
def R.SQC_DN (n : Nat) : Nat := 0x3450 + 4 * n
/-- SQC_RST, R349. -/
def R.SQC_RST (n : Nat) : Nat := 0x3490 + 4 * n
/-- SQC_RST_ST, R349. -/
def R.SQC_RST_ST : Nat := 0x34A0
/-- SQC_TRC_SEL, R350. -/
def R.SQC_TRC_SEL : Nat := 0x34A4
/-- SQC_TRC_HEAD, R350. -/
def R.SQC_TRC_HEAD : Nat := 0x34A8
/-- SQC_TRC0, R350. -/
def R.SQC_TRC0 : Nat := 0x34AC
/-- SQC_TRC1, R350. -/
def R.SQC_TRC1 : Nat := 0x34B0
/-- SQC_FLAGS, R351. -/
def R.SQC_FLAGS : Nat := 0x34B4
/-- SQC_FLAG_CNT, R351. -/
def R.SQC_FLAG_CNT : Nat := 0x34B8
/-- SQI_CFG, R386. -/
def R.SQI_CFG (n : Nat) : Nat := 0x34C0 + 8 * n
/-- SQI_THR, R386. -/
def R.SQI_THR (n : Nat) : Nat := 0x34C4 + 8 * n
/-- SQI_MEAS, R387. -/
def R.SQI_MEAS (n : Nat) : Nat := 0x34E0 + 4 * n
/-- SQI_FLAGS, R387. -/
def R.SQI_FLAGS : Nat := 0x34F0
/-- SQI_FLAG_CNT, R387. -/
def R.SQI_FLAG_CNT : Nat := 0x34F4
/-- AXL_CFG, R352. -/
def R.AXL_CFG : Nat := 0x3500
/-- AXL_ID0, R352. -/
def R.AXL_ID0 : Nat := 0x3504
/-- AXL_ID1, R352. -/
def R.AXL_ID1 : Nat := 0x3508
/-- AXL_STATUS, R353. -/
def R.AXL_STATUS : Nat := 0x350C
/-- AXL_CYCL, R354. -/
def R.AXL_CYCL : Nat := 0x3510
/-- AXL_CYCH, R354. -/
def R.AXL_CYCH : Nat := 0x3514
/-- AXL_PEER, R354. -/
def R.AXL_PEER (n : Nat) : Nat := 0x3518 + 4 * n
/-- AXL_FLAGS, R355. -/
def R.AXL_FLAGS : Nat := 0x3528
/-- AXL_FLAG_CNT, R355. -/
def R.AXL_FLAG_CNT : Nat := 0x352C
/-- FFL_STATUS, R388. -/
def R.FFL_STATUS : Nat := 0x3600
/-- FFL_SEL, R388. -/
def R.FFL_SEL : Nat := 0x3604
/-- FFL_LASTNO, R388. -/
def R.FFL_LASTNO : Nat := 0x3608
/-- FFL_FLAGS, R388. -/
def R.FFL_FLAGS : Nat := 0x360C
/-- FFL_FLAG_CNT, R388. -/
def R.FFL_FLAG_CNT : Nat := 0x3610
/-- FFL_REC, R388. -/
def R.FFL_REC (n : Nat) : Nat := 0x3640 + 4 * n
/-- MSR_CFG, R142. -/
def R.MSR_CFG : Nat := 0x3800
/-- MSR_SAFE, R143. -/
def R.MSR_SAFE (n : Nat) : Nat := 0x3804 + 4 * n
/-- MSR_DUAL, R143. -/
def R.MSR_DUAL (n : Nat) : Nat := 0x3818 + 4 * n
/-- MSR_GPW, R144. -/
def R.MSR_GPW (n : Nat) : Nat := 0x382C + 4 * n
/-- MSR_PEEK_SEL, R145. -/
def R.MSR_PEEK_SEL : Nat := 0x3850
/-- MSR_PEEK, R145. -/
def R.MSR_PEEK : Nat := 0x3854
/-- MSR_CMP_ST0, R146. -/
def R.MSR_CMP_ST0 : Nat := 0x3858
/-- MSR_CMP_ST1, R146. -/
def R.MSR_CMP_ST1 : Nat := 0x385C
/-- MSR_ADC, R147. -/
def R.MSR_ADC (n : Nat) : Nat := 0x3860 + 4 * n
/-- MSR_FLAGS, R148. -/
def R.MSR_FLAGS : Nat := 0x3870
/-- MSR_FLAG_CNT, R148. -/
def R.MSR_FLAG_CNT : Nat := 0x3874
/-- SCH_CTRL, R149. -/
def R.SCH_CTRL : Nat := 0x3900
/-- SCH_STATUS, R150. -/
def R.SCH_STATUS : Nat := 0x3904
/-- SCH_REFUSE, R151. -/
def R.SCH_REFUSE : Nat := 0x3908
/-- SCH_ADDR, R152. -/
def R.SCH_ADDR : Nat := 0x390C
/-- SCH_DATA, R153. -/
def R.SCH_DATA : Nat := 0x3910
/-- SCH_CRC, R153. -/
def R.SCH_CRC : Nat := 0x3914
/-- SCH_CRC_ACT, R153. -/
def R.SCH_CRC_ACT : Nat := 0x3918
/-- SCH_FLAGS, R154. -/
def R.SCH_FLAGS : Nat := 0x391C
/-- SCH_FLAG_CNT, R154. -/
def R.SCH_FLAG_CNT : Nat := 0x3920
/-- CAP_CTRL, R155. -/
def R.CAP_CTRL : Nat := 0x3A00
/-- CAP_TRIG, R155. -/
def R.CAP_TRIG : Nat := 0x3A04
/-- CAP_STATUS, R156. -/
def R.CAP_STATUS : Nat := 0x3A08
/-- CAP_START, R156. -/
def R.CAP_START : Nat := 0x3A0C
/-- CAP_TBL, R156. -/
def R.CAP_TBL : Nat := 0x3A10
/-- CAP_TBH, R156. -/
def R.CAP_TBH : Nat := 0x3A14
/-- CAP_FLAGS, R157. -/
def R.CAP_FLAGS : Nat := 0x3A18
/-- CAP_FLAG_CNT, R157. -/
def R.CAP_FLAG_CNT : Nat := 0x3A1C
/-- CAP_SPILL, R441. -/
def R.CAP_SPILL : Nat := 0x3A20
/-- CAP_SEND, R441. -/
def R.CAP_SEND : Nat := 0x3A24
/-- TLM_STR, R439. -/
def R.TLM_STR (n : Nat) : Nat := 0x3B00 + 4 * n
/-- TLM_STATUS, R440. -/
def R.TLM_STATUS : Nat := 0x3B20
/-- TLM_FLAGS, R440. -/
def R.TLM_FLAGS : Nat := 0x3B24
/-- TLM_FLAG_CNT, R440. -/
def R.TLM_FLAG_CNT : Nat := 0x3B28
/-- HUB_CFG, R411. -/
def R.HUB_CFG : Nat := 0x3C00
/-- HUB_PORTS, R412. -/
def R.HUB_PORTS : Nat := 0x3C04
/-- HUB_STATUS, R413. -/
def R.HUB_STATUS : Nat := 0x3C08
/-- HUB_PSTAT, R414. -/
def R.HUB_PSTAT (k : PortId) : Nat := 0x3C0C + 4 * k.val
/-- HUB_BUF, R415. -/
def R.HUB_BUF : Nat := 0x3C2C
/-- HUB_PRI, R416. -/
def R.HUB_PRI (n : Nat) : Nat := 0x3C30 + 4 * n
/-- HUB_CTRL, R417. -/
def R.HUB_CTRL : Nat := 0x3C70
/-- HUB_ERR, R418. -/
def R.HUB_ERR (n : Nat) : Nat := 0x3C74 + 4 * n
/-- HUB_FLAGS, R419. -/
def R.HUB_FLAGS : Nat := 0x3C98
/-- HUB_FLAG_CNT, R419. -/
def R.HUB_FLAG_CNT : Nat := 0x3C9C
/-- MGT_CFG, R420. -/
def R.MGT_CFG : Nat := 0x3D00
/-- MGT_STATUS, R420. -/
def R.MGT_STATUS (n : Nat) : Nat := 0x3D04 + 4 * n
/-- HIS_STATUS, R442. -/
def R.HIS_STATUS : Nat := 0x3E00
/-- HIS_DAY, R442. -/
def R.HIS_DAY : Nat := 0x3E04
/-- HIS_LASTNO, R442. -/
def R.HIS_LASTNO : Nat := 0x3E08
/-- HIS_SEL, R442. -/
def R.HIS_SEL : Nat := 0x3E0C
/-- HIS_FLAGS, R442. -/
def R.HIS_FLAGS : Nat := 0x3E10
/-- HIS_FLAG_CNT, R442. -/
def R.HIS_FLAG_CNT : Nat := 0x3E14
/-- HIS_REC, R442. -/
def R.HIS_REC (n : Nat) : Nat := 0x3E40 + 4 * n
/-- PAGE_SEL, R556. -/
def R.PAGE_SEL : Nat := 0xFC

/-- SYS_ID.PART (RO): Part number. -/
def F.SYS_ID_PART : Fld := ⟨R.SYS_ID, 16, 16⟩
/-- SYS_ID.STEP (RO): Silicon stepping; 0x01 for the parts this manual describes. -/
def F.SYS_ID_STEP : Fld := ⟨R.SYS_ID, 8, 8⟩
/-- SYS_ID.MAP (RO): Layout version of Table MAP-1. -/
def F.SYS_ID_MAP : Fld := ⟨R.SYS_ID, 0, 8⟩
/-- SYS_STATE.WRST_CNT (RO): Automatic Winter restarts counted since the last power-on reset, RESET_IN_N or 1 h of continuous Summer, 0–3. -/
def F.SYS_STATE_WRST_CNT : Fld := ⟨R.SYS_STATE, 24, 2⟩
/-- SYS_STATE.DW_RESTARTED (RO): 1: an island cold restart out of Deep Winter, T13, has taken place since the last power-on reset or RESET_IN_N. -/
def F.SYS_STATE_DW_RESTARTED : Fld := ⟨R.SYS_STATE, 19, 1⟩
/-- SYS_STATE.DONE (RO): 1: Autumn power-down complete: every rail below its off threshold and the first-fault record written. -/
def F.SYS_STATE_DONE : Fld := ⟨R.SYS_STATE, 18, 1⟩
/-- SYS_STATE.COMMITTED (RO): 1: the Autumn commit point has been passed. -/
def F.SYS_STATE_COMMITTED : Fld := ⟨R.SYS_STATE, 17, 1⟩
/-- SYS_STATE.HANDOVER (RO): 1: live handover in progress. -/
def F.SYS_STATE_HANDOVER : Fld := ⟨R.SYS_STATE, 16, 1⟩
/-- SYS_STATE.ENTRY (RO): Number n of the transition Tn by which the present state was entered; 0 after power-on reset or RESET_IN_N. -/
def F.SYS_STATE_ENTRY : Fld := ⟨R.SYS_STATE, 8, 8⟩
/-- SYS_STATE.PREV (RO): Code of the state before the present one. -/
def F.SYS_STATE_PREV : Fld := ⟨R.SYS_STATE, 4, 4⟩
/-- SYS_STATE.STATE (RO): Present state, coded as in Table SEA-1. -/
def F.SYS_STATE_STATE : Fld := ⟨R.SYS_STATE, 0, 4⟩
/-- SYS_STATE_CFG.SPRING_LIMIT (IMG, RWS): Longest Spring, in 100 ms units, from 1 to 255 (0.1 s to 25.5 s); 0 selects 5.0 s. -/
def F.SYS_STATE_CFG_SPRING_LIMIT : Fld := ⟨R.SYS_STATE_CFG, 16, 8⟩
/-- SYS_STATE_CFG.WINTER_HOLD (IMG, RWS): Time in Winter before an automatic restart, in seconds, from 1 to 255; 0 disables automatic restart. -/
def F.SYS_STATE_CFG_WINTER_HOLD : Fld := ⟨R.SYS_STATE_CFG, 8, 8⟩
/-- SYS_STATE_CFG.WINTER_RETRY (IMG, RWS): Automatic Winter restarts allowed, 0–3. -/
def F.SYS_STATE_CFG_WINTER_RETRY : Fld := ⟨R.SYS_STATE_CFG, 2, 2⟩
/-- SYS_STATE_CFG.DW_RESTART_EN (IMG, RWS): 1: the island may attempt one cold restart out of Deep Winter. -/
def F.SYS_STATE_CFG_DW_RESTART_EN : Fld := ⟨R.SYS_STATE_CFG, 0, 1⟩
/-- SYS_STRAP.I2C_ADDR (RO): 7-bit target address, 0x60–0x67. -/
def F.SYS_STRAP_I2C_ADDR : Fld := ⟨R.SYS_STRAP, 16, 7⟩
/-- SYS_STRAP.UNSTABLE (RO): 1: a strap pin's three samples disagreed at the last latch. -/
def F.SYS_STRAP_UNSTABLE : Fld := ⟨R.SYS_STRAP, 12, 1⟩
/-- SYS_STRAP.TEST_IGNORED (RO): 1: TEST read high with FACTORY_LOCK programmed. -/
def F.SYS_STRAP_TEST_IGNORED : Fld := ⟨R.SYS_STRAP, 9, 1⟩
/-- SYS_STRAP.TEST (RO): Latched TEST value. -/
def F.SYS_STRAP_TEST : Fld := ⟨R.SYS_STRAP, 8, 1⟩
/-- SYS_STRAP.CHAIN_POS (RO): Latched chain position. -/
def F.SYS_STRAP_CHAIN_POS : Fld := ⟨R.SYS_STRAP, 4, 2⟩
/-- SYS_STRAP.ADDR (RO): Latched ADDR2–ADDR0. -/
def F.SYS_STRAP_ADDR : Fld := ⟨R.SYS_STRAP, 0, 3⟩
/-- BOOT_STATUS.ENG_FAIL (RO): 1: an engine section failed under R109. -/
def F.BOOT_STATUS_ENG_FAIL : Fld := ⟨R.BOOT_STATUS, 28, 1⟩
/-- BOOT_STATUS.ENG_ID (RO): Engine id of the failed section. -/
def F.BOOT_STATUS_ENG_ID : Fld := ⟨R.BOOT_STATUS, 24, 4⟩
/-- BOOT_STATUS.SEALED (RO): 1: protection set-up sealed. -/
def F.BOOT_STATUS_SEALED : Fld := ⟨R.BOOT_STATUS, 20, 1⟩
/-- BOOT_STATUS.TAB_COPY (RO): Slot-table copy used. -/
def F.BOOT_STATUS_TAB_COPY : Fld := ⟨R.BOOT_STATUS, 19, 1⟩
/-- BOOT_STATUS.CFG_BUILTIN (RO): 1: built-in safe configuration applied. -/
def F.BOOT_STATUS_CFG_BUILTIN : Fld := ⟨R.BOOT_STATUS, 18, 1⟩
/-- BOOT_STATUS.CFG_SLOT (RO): Configuration slot in use: 0 A, 1 B. -/
def F.BOOT_STATUS_CFG_SLOT : Fld := ⟨R.BOOT_STATUS, 17, 1⟩
/-- BOOT_STATUS.FW_SLOT (RO): Firmware slot in use: 0 A, 1 B. -/
def F.BOOT_STATUS_FW_SLOT : Fld := ⟨R.BOOT_STATUS, 16, 1⟩
/-- BOOT_STATUS.CFG_B (RO): Result code of configuration slot B, Table BOT-6. -/
def F.BOOT_STATUS_CFG_B : Fld := ⟨R.BOOT_STATUS, 12, 4⟩
/-- BOOT_STATUS.CFG_A (RO): Result code of configuration slot A. -/
def F.BOOT_STATUS_CFG_A : Fld := ⟨R.BOOT_STATUS, 8, 4⟩
/-- BOOT_STATUS.FW_B (RO): Result code of firmware slot B. -/
def F.BOOT_STATUS_FW_B : Fld := ⟨R.BOOT_STATUS, 4, 4⟩
/-- BOOT_STATUS.FW_A (RO): Result code of firmware slot A. -/
def F.BOOT_STATUS_FW_A : Fld := ⟨R.BOOT_STATUS, 0, 4⟩
/-- BOOT_FWID.BUILD_ID (RO): BUILD_ID of the running firmware. -/
def F.BOOT_FWID_BUILD_ID : Fld := ⟨R.BOOT_FWID, 0, 32⟩
/-- BOOT_CFGID.SERIAL (RO): SERIAL of the applied configuration; 0 for the built-in safe configuration. -/
def F.BOOT_CFGID_SERIAL : Fld := ⟨R.BOOT_CFGID, 0, 32⟩
/-- BOOT_VERS.FW_IFACE (RO): IFACE of the running firmware. -/
def F.BOOT_VERS_FW_IFACE : Fld := ⟨R.BOOT_VERS, 16, 16⟩
/-- BOOT_VERS.CFG_SVN (RO): SVN of the applied configuration. -/
def F.BOOT_VERS_CFG_SVN : Fld := ⟨R.BOOT_VERS, 8, 8⟩
/-- BOOT_VERS.FW_SVN (RO): SVN of the running firmware. -/
def F.BOOT_VERS_FW_SVN : Fld := ⟨R.BOOT_VERS, 0, 8⟩
/-- BOOT_COUNT.PWR_CYCLES (RO): PWR_CYCLES of the current life record. -/
def F.BOOT_COUNT_PWR_CYCLES : Fld := ⟨R.BOOT_COUNT, 16, 16⟩
/-- BOOT_COUNT.BOOTS (RO): BOOTS of the current life record. -/
def F.BOOT_COUNT_BOOTS : Fld := ⟨R.BOOT_COUNT, 0, 16⟩
/-- SYS_SEQ_LAST_HSEQ.LAST_HSEQ (RO): HSEQ of the last response formed. -/
def F.SYS_SEQ_LAST_HSEQ_LAST_HSEQ : Fld := ⟨R.SYS_SEQ_LAST_HSEQ, 0, 32⟩
/-- SYS_SEQ_NEXT_DSEQ.NEXT_DSEQ (RO): DSEQ of the next response or event. -/
def F.SYS_SEQ_NEXT_DSEQ_NEXT_DSEQ : Fld := ⟨R.SYS_SEQ_NEXT_DSEQ, 0, 32⟩
/-- SYS_SEQ_LAST.LAST_VIA (RO): 0 I²C; 1 port 0 function; 2 port 9 function. -/
def F.SYS_SEQ_LAST_LAST_VIA : Fld := ⟨R.SYS_SEQ_LAST, 8, 2⟩
/-- SYS_SEQ_LAST.LAST_STATUS (RO): Status of that response. -/
def F.SYS_SEQ_LAST_LAST_STATUS : Fld := ⟨R.SYS_SEQ_LAST, 0, 8⟩
/-- SYS_SEQ_PREV_HSEQ.PREV_HSEQ (RO): LAST_HSEQ at the end of the previous epoch. -/
def F.SYS_SEQ_PREV_HSEQ_PREV_HSEQ : Fld := ⟨R.SYS_SEQ_PREV_HSEQ, 0, 32⟩
/-- SYS_SEQ_PREV_DSEQ.PREV_DSEQ (RO): Last DSEQ issued in the previous epoch. -/
def F.SYS_SEQ_PREV_DSEQ_PREV_DSEQ : Fld := ⟨R.SYS_SEQ_PREV_DSEQ, 0, 32⟩
/-- HIF_CFG.FILT_LONG (IMG, RWS): Long glitch filter under R534. -/
def F.HIF_CFG_FILT_LONG : Fld := ⟨R.HIF_CFG, 1, 1⟩
/-- HIF_CFG.IBR_EN (IMG, RWS): 1: in-band request under R545. -/
def F.HIF_CFG_IBR_EN : Fld := ⟨R.HIF_CFG, 0, 1⟩
/-- HIF_TIMEOUT.SCL_MS (IMG, RWS): SCL-low timeout in ms, 10–100; 0 selects 35; other values invalid for validation. -/
def F.HIF_TIMEOUT_SCL_MS : Fld := ⟨R.HIF_TIMEOUT, 8, 8⟩
/-- HIF_TIMEOUT.SDA_MS (IMG, RWS): SDA-low timeout in ms, 5–50; 0 selects 25; other values invalid for validation. -/
def F.HIF_TIMEOUT_SDA_MS : Fld := ⟨R.HIF_TIMEOUT, 0, 8⟩
/-- HIF_IRQ.PENDING (RO): Request pending under R546. -/
def F.HIF_IRQ_PENDING : Fld := ⟨R.HIF_IRQ, 3, 1⟩
/-- HIF_IRQ.LOST (RO): EVT_STATUS.LOST changed since EVT_STATUS was last read. -/
def F.HIF_IRQ_LOST : Fld := ⟨R.HIF_IRQ, 2, 1⟩
/-- HIF_IRQ.EVT (RO): EVT_WR ≠ EVT_RD. -/
def F.HIF_IRQ_EVT : Fld := ⟨R.HIF_IRQ, 1, 1⟩
/-- HIF_IRQ.RSP (RO): MBX_STATUS.STATE = RESP. -/
def F.HIF_IRQ_RSP : Fld := ⟨R.HIF_IRQ, 0, 1⟩
/-- HIF_IRQ_EN.EN (RW): Bit i enables HIF_IRQ bit i. -/
def F.HIF_IRQ_EN_EN : Fld := ⟨R.HIF_IRQ_EN, 0, 3⟩
/-- HIF_STATUS.IBR_COUNT (RO): In-band pulses completed, saturating at 0xFFFF. -/
def F.HIF_STATUS_IBR_COUNT : Fld := ⟨R.HIF_STATUS, 16, 16⟩
/-- HIF_STATUS.SCL (RO): Filtered SCL level. -/
def F.HIF_STATUS_SCL : Fld := ⟨R.HIF_STATUS, 1, 1⟩
/-- HIF_STATUS.SDA (RO): Filtered SDA level. -/
def F.HIF_STATUS_SDA : Fld := ⟨R.HIF_STATUS, 0, 1⟩
/-- HIF_FLAGS.EVT_LOST (W1C): Record lost to the I²C reader; counter in HIF_FLAG_CNT2 bits 15:8. -/
def F.HIF_FLAGS_EVT_LOST : Fld := ⟨R.HIF_FLAGS, 5, 1⟩
/-- HIF_FLAGS.PARTIAL (W1C): Partial write discarded; counter in HIF_FLAG_CNT2 bits 7:0. -/
def F.HIF_FLAGS_PARTIAL : Fld := ⟨R.HIF_FLAGS, 4, 1⟩
/-- HIF_FLAGS.NACKED (W1C): NACK in a window of Table HIF-1; counter in HIF_FLAG_CNT bits 31:24. -/
def F.HIF_FLAGS_NACKED : Fld := ⟨R.HIF_FLAGS, 3, 1⟩
/-- HIF_FLAGS.SCL_STUCK (W1C): Under R544; counter in HIF_FLAG_CNT bits 23:16. -/
def F.HIF_FLAGS_SCL_STUCK : Fld := ⟨R.HIF_FLAGS, 2, 1⟩
/-- HIF_FLAGS.SDA_TO (W1C): Own release under R543; counter in HIF_FLAG_CNT bits 15:8. -/
def F.HIF_FLAGS_SDA_TO : Fld := ⟨R.HIF_FLAGS, 1, 1⟩
/-- HIF_FLAGS.SDA_STUCK (W1C): Foreign hold under R543; counter in HIF_FLAG_CNT bits 7:0. -/
def F.HIF_FLAGS_SDA_STUCK : Fld := ⟨R.HIF_FLAGS, 0, 1⟩
/-- MBX_FRAME.WORD (RW): Word n of the command frame. -/
def F.MBX_FRAME_WORD (n : Nat) : Fld := ⟨R.MBX_FRAME n, 0, 32⟩
/-- MBX_CTRL.WORDS (WO): Words written, compared with LEN under R549. -/
def F.MBX_CTRL_WORDS : Fld := ⟨R.MBX_CTRL, 16, 8⟩
/-- MBX_CTRL.TAKE (WO): 1 in RESP: step 4 of Table HIF-6. -/
def F.MBX_CTRL_TAKE : Fld := ⟨R.MBX_CTRL, 8, 1⟩
/-- MBX_CTRL.GO (WO): 1: step 1 of Table HIF-6. -/
def F.MBX_CTRL_GO : Fld := ⟨R.MBX_CTRL, 0, 1⟩
/-- MBX_STATUS.LAST_STATUS (RO): Status of the last I²C response. -/
def F.MBX_STATUS_LAST_STATUS : Fld := ⟨R.MBX_STATUS, 24, 8⟩
/-- MBX_STATUS.STATE (RO): 0 IDLE; 1 EXEC; 2 RESP. -/
def F.MBX_STATUS_STATE : Fld := ⟨R.MBX_STATUS, 0, 2⟩
/-- MBR_FRAME.WORD (RO): Word n of the last I²C response; unchanged until the next response. -/
def F.MBR_FRAME_WORD (n : Nat) : Fld := ⟨R.MBR_FRAME n, 0, 32⟩
/-- EVT_STATUS.LOST (RO): Records lost to the I²C reader since T0 or internal restart, saturating at 255. -/
def F.EVT_STATUS_LOST : Fld := ⟨R.EVT_STATUS, 24, 8⟩
/-- EVT_STATUS.UNREAD (RO): EVT_WR − EVT_RD, 0–256. -/
def F.EVT_STATUS_UNREAD : Fld := ⟨R.EVT_STATUS, 8, 9⟩
/-- EVT_STATUS.VALID (RO): Records in the window, 0–14. -/
def F.EVT_STATUS_VALID : Fld := ⟨R.EVT_STATUS, 0, 4⟩
/-- EVT_WR.WR (RO): Events posted, under R555. -/
def F.EVT_WR_WR : Fld := ⟨R.EVT_WR, 0, 32⟩
/-- EVT_RD.RD (RW): I²C reader index; clamped under R555. -/
def F.EVT_RD_RD : Fld := ⟨R.EVT_RD, 0, 32⟩
/-- EVT_REC.WORD (RO): Word w of record EVT_RD + m; 0 where m ≥ VALID. -/
def F.EVT_REC_WORD (n : Nat) : Fld := ⟨R.EVT_REC n, 0, 32⟩
/-- FLT_STATUS.PROMOTED (RO): Promotions since T0 or internal restart, saturating at 255. -/
def F.FLT_STATUS_PROMOTED : Fld := ⟨R.FLT_STATUS, 24, 8⟩
/-- FLT_STATUS.DROPPED (RO): Causes or records dropped under R483 and R484, saturating at 255. -/
def F.FLT_STATUS_DROPPED : Fld := ⟨R.FLT_STATUS, 16, 8⟩
/-- FLT_STATUS.QUEUED (RO): Records in the queue, 0–64. -/
def F.FLT_STATUS_QUEUED : Fld := ⟨R.FLT_STATUS, 8, 7⟩
/-- FLT_LAST.PROMOTED (RO): Last fault promoted. -/
def F.FLT_LAST_PROMOTED : Fld := ⟨R.FLT_LAST, 20, 1⟩
/-- FLT_LAST.STATE (RO): Device state in its classifying cycle. -/
def F.FLT_LAST_STATE : Fld := ⟨R.FLT_LAST, 16, 4⟩
/-- FLT_LAST.CODE (RO): Last fault classified; 0x0000 none. -/
def F.FLT_LAST_CODE : Fld := ⟨R.FLT_LAST, 0, 16⟩
/-- FLT_LAST_TBL.TB_LO (RO): Time base bits 31:0 of that cycle. -/
def F.FLT_LAST_TBL_TB_LO : Fld := ⟨R.FLT_LAST_TBL, 0, 32⟩
/-- FLT_LAST_TBH.TB_HI (RO): Time base bits 63:32. -/
def F.FLT_LAST_TBH_TB_HI : Fld := ⟨R.FLT_LAST_TBH, 0, 32⟩
/-- FLT_FLAGS.FATAL (W1C): Fatal fault classified; counter in FLT_FLAG_CNT bits 31:24. -/
def F.FLT_FLAGS_FATAL : Fld := ⟨R.FLT_FLAGS, 3, 1⟩
/-- FLT_FLAGS.CONT (W1C): Contained fault; counter in bits 23:16. -/
def F.FLT_FLAGS_CONT : Fld := ⟨R.FLT_FLAGS, 2, 1⟩
/-- FLT_FLAGS.CORR (W1C): Corrected fault; counter in bits 15:8. -/
def F.FLT_FLAGS_CORR : Fld := ⟨R.FLT_FLAGS, 1, 1⟩
/-- FLT_FLAGS.WARN (W1C): Warning; counter in bits 7:0. -/
def F.FLT_FLAGS_WARN : Fld := ⟨R.FLT_FLAGS, 0, 1⟩
/-- FLT_ESC_SEL.SRC (RW): Source whose counter FLT_ESC_ST shows. -/
def F.FLT_ESC_SEL_SRC : Fld := ⟨R.FLT_ESC_SEL, 0, 6⟩
/-- FLT_ESC_ST.AGE (RO): Time since the window opened, in 10 ms units, saturating at 0xFFFF; 0 with no window open. -/
def F.FLT_ESC_ST_AGE : Fld := ⟨R.FLT_ESC_ST, 16, 16⟩
/-- FLT_ESC_ST.COUNT (RO): Count of the open window. -/
def F.FLT_ESC_ST_COUNT : Fld := ⟨R.FLT_ESC_ST, 0, 8⟩
/-- FLT_FATAL.CODE (RO): First fatal fault classified since T0 or internal restart. -/
def F.FLT_FATAL_CODE : Fld := ⟨R.FLT_FATAL, 0, 16⟩
/-- FLT_INJ.ESC (WO): 1: counted under R486. -/
def F.FLT_INJ_ESC : Fld := ⟨R.FLT_INJ, 16, 1⟩
/-- FLT_INJ.CODE (WO): Code injected; a cause of 0x00 or an unlisted source is discarded. -/
def F.FLT_INJ_CODE : Fld := ⟨R.FLT_INJ, 0, 16⟩
/-- FLT_ESC.DIS (IMG, RWS): 1: no counting and no promotion for this source. -/
def F.FLT_ESC_DIS (n : Nat) : Fld := ⟨R.FLT_ESC n, 31, 1⟩
/-- FLT_ESC.CEIL (IMG, RWS): Highest class by promotion: 2 contained; 3 fatal; 0 selects 3; 1 invalid for validation. -/
def F.FLT_ESC_CEIL (n : Nat) : Fld := ⟨R.FLT_ESC n, 26, 2⟩
/-- FLT_ESC.WSCALE (IMG, RWS): 0: W in 10 ms units; 1: W in 1 s units. -/
def F.FLT_ESC_WSCALE (n : Nat) : Fld := ⟨R.FLT_ESC n, 24, 1⟩
/-- FLT_ESC.W (IMG, RWS): Window, 1–65,535; 0 selects 100. -/
def F.FLT_ESC_W (n : Nat) : Fld := ⟨R.FLT_ESC n, 8, 16⟩
/-- FLT_ESC.N (IMG, RWS): Faults to promote, 2–255; 0 selects 8; 1 invalid for validation. -/
def F.FLT_ESC_N (n : Nat) : Fld := ⟨R.FLT_ESC n, 0, 8⟩
/-- SAF_STATUS.ISTATE (RO): 0 boot timer; 1 seal timer; 2 watchdog armed; 3 handover hold; 4 holding Deep Winter; 5 cold restart; 6 …. -/
def F.SAF_STATUS_ISTATE : Fld := ⟨R.SAF_STATUS, 28, 4⟩
/-- SAF_STATUS.RESTART_OK (RO): 1: the guard of R465 would hold now. -/
def F.SAF_STATUS_RESTART_OK : Fld := ⟨R.SAF_STATUS, 23, 1⟩
/-- SAF_STATUS.ISL_OFF (RO): ISL_OFF asserted. -/
def F.SAF_STATUS_ISL_OFF : Fld := ⟨R.SAF_STATUS, 22, 1⟩
/-- SAF_STATUS.WINTER_OFF (RO): WINTER_OFF asserted. -/
def F.SAF_STATUS_WINTER_OFF : Fld := ⟨R.SAF_STATUS, 21, 1⟩
/-- SAF_STATUS.SELFTEST_OK (RO): Self-test of R459 passed at the last reset release. -/
def F.SAF_STATUS_SELFTEST_OK : Fld := ⟨R.SAF_STATUS, 20, 1⟩
/-- SAF_STATUS.OPEN (RO): Watchdog open window. -/
def F.SAF_STATUS_OPEN : Fld := ⟨R.SAF_STATUS, 19, 1⟩
/-- SAF_STATUS.OFFTEST_OK (RO): 1: the island's test pulse of ISL_OFF under R459 reached every present port power unit and the rail unit. -/
def F.SAF_STATUS_OFFTEST_OK : Fld := ⟨R.SAF_STATUS, 18, 1⟩
/-- SAF_STATUS.DW_COUNT (RO): Deep Winter entries since VISL was last lost, saturating at 255. -/
def F.SAF_STATUS_DW_COUNT : Fld := ⟨R.SAF_STATUS, 8, 8⟩
/-- SAF_TRIP.PREV_STATE (RO): State before the trip. -/
def F.SAF_TRIP_PREV_STATE : Fld := ⟨R.SAF_TRIP, 28, 4⟩
/-- SAF_TRIP.DETAIL (RO): For 0xE402: 1 no answer; 2 closed window; 3 second answer; 4 wrong RESP; 5 wrong TASKS; 6 wrong SEQ; 7 …. -/
def F.SAF_TRIP_DETAIL : Fld := ⟨R.SAF_TRIP, 24, 4⟩
/-- SAF_TRIP.CODE (RO): Fault code of the last island trip; 0 none or acknowledged. -/
def F.SAF_TRIP_CODE : Fld := ⟨R.SAF_TRIP, 0, 16⟩
/-- SAF_TRIP_TBL.TB_LO (RO): Time base bits 31:0 at the trip. -/
def F.SAF_TRIP_TBL_TB_LO : Fld := ⟨R.SAF_TRIP_TBL, 0, 32⟩
/-- SAF_TRIP_TBH.TB_HI (RO): Time base bits 63:32 at the trip. -/
def F.SAF_TRIP_TBH_TB_HI : Fld := ⟨R.SAF_TRIP_TBH, 0, 32⟩
/-- SAF_WDCHAL.SEQ (RO): Period number, modulo 65,536. -/
def F.SAF_WDCHAL_SEQ : Fld := ⟨R.SAF_WDCHAL, 16, 16⟩
/-- SAF_WDCHAL.CHAL (RO): Challenge of the present period. -/
def F.SAF_WDCHAL_CHAL : Fld := ⟨R.SAF_WDCHAL, 0, 16⟩
/-- SAF_WDRESP.RESP (WO): Response of R454. -/
def F.SAF_WDRESP_RESP : Fld := ⟨R.SAF_WDRESP, 16, 16⟩
/-- SAF_WDRESP.SEQ (WO): SEQ[7:0] echoed. -/
def F.SAF_WDRESP_SEQ : Fld := ⟨R.SAF_WDRESP, 8, 8⟩
/-- SAF_WDRESP.TASKS (WO): Safety tasks completed. -/
def F.SAF_WDRESP_TASKS : Fld := ⟨R.SAF_WDRESP, 0, 8⟩
/-- SAF_WDCFG.TASKS (IMG, RWS): Expected task mask; 0 selects 0x01. -/
def F.SAF_WDCFG_TASKS : Fld := ⟨R.SAF_WDCFG, 0, 8⟩
/-- SAF_XCHK.MAX (RO): Longest strobe interval since the last read, island cycles. -/
def F.SAF_XCHK_MAX : Fld := ⟨R.SAF_XCHK, 20, 10⟩
/-- SAF_XCHK.MIN (RO): Shortest strobe interval since the last read. -/
def F.SAF_XCHK_MIN : Fld := ⟨R.SAF_XCHK, 10, 10⟩
/-- SAF_XCHK.LAST (RO): Last strobe interval. -/
def F.SAF_XCHK_LAST : Fld := ⟨R.SAF_XCHK, 0, 10⟩
/-- SAF_DWTIME.SINCE (RO): Island-timed seconds since the latest Deep Winter entry, saturating at 0xFFFF; 0xFFFF also when none since …. -/
def F.SAF_DWTIME_SINCE : Fld := ⟨R.SAF_DWTIME, 16, 16⟩
/-- SAF_DWTIME.IN_DW (RO): Milliseconds in the present Deep Winter; 0 outside it. -/
def F.SAF_DWTIME_IN_DW : Fld := ⟨R.SAF_DWTIME, 0, 16⟩
/-- SAF_TEMP.WARN (IMG, RWS): Warning in °C, 90–150; 0 selects 140; other values, or a value at or above the effective TRIP, invalid for …. -/
def F.SAF_TEMP_WARN : Fld := ⟨R.SAF_TEMP, 16, 8⟩
/-- SAF_TEMP.TRIP (IMG, RWS): Trip in °C, 125–155; 0 selects 155; other values invalid for validation. -/
def F.SAF_TEMP_TRIP : Fld := ⟨R.SAF_TEMP, 8, 8⟩
/-- SAF_CTRL.OFFTEST (WO): Write 1: island test pulse of ISL_OFF under R459. -/
def F.SAF_CTRL_OFFTEST : Fld := ⟨R.SAF_CTRL, 2, 1⟩
/-- SAF_CTRL.ACK (WO): Write 1: SAF_TRIP.CODE set to 0 under R467. -/
def F.SAF_CTRL_ACK : Fld := ⟨R.SAF_CTRL, 1, 1⟩
/-- SAF_CTRL.HOLD (WO): Write 1: handover hold under R456. -/
def F.SAF_CTRL_HOLD : Fld := ⟨R.SAF_CTRL, 0, 1⟩
/-- SAF_FLAGS.DW_RESTART (W1C): Cold restart performed; counter in SAF_FLAG_CNT bits 31:24. -/
def F.SAF_FLAGS_DW_RESTART : Fld := ⟨R.SAF_FLAGS, 3, 1⟩
/-- SAF_FLAGS.HOLD_USED (W1C): Handover hold ended by a correct answer; counter in bits 23:16. -/
def F.SAF_FLAGS_HOLD_USED : Fld := ⟨R.SAF_FLAGS, 2, 1⟩
/-- SAF_FLAGS.ECC_CORR (W1C): Fault 0x6301; counter in bits 15:8. -/
def F.SAF_FLAGS_ECC_CORR : Fld := ⟨R.SAF_FLAGS, 1, 1⟩
/-- SAF_FLAGS.TEMP_WARN (W1C): Warning 0x2B02; counter in bits 7:0. -/
def F.SAF_FLAGS_TEMP_WARN : Fld := ⟨R.SAF_FLAGS, 0, 1⟩
/-- PROT_STATUS.WR_REFUSED (RO): Word writes whose RWS fields were discarded under R512 or R539, counted once per word, since T0 or …. -/
def F.PROT_STATUS_WR_REFUSED : Fld := ⟨R.PROT_STATUS, 16, 16⟩
/-- PROT_STATUS.SEALED (RO): Protection set-up sealed. -/
def F.PROT_STATUS_SEALED : Fld := ⟨R.PROT_STATUS, 0, 1⟩
/-- PROT_CTRL.SEAL (WO): 0x5EA1 from the supervisor before the seal: seal; other writes discarded. -/
def F.PROT_CTRL_SEAL : Fld := ⟨R.PROT_CTRL, 0, 16⟩
/-- SEC_RIGHTS.EN (IMG, RWS): 1: sessions 16r to 16r + 15 usable. -/
def F.SEC_RIGHTS_EN (n : Nat) : Fld := ⟨R.SEC_RIGHTS n, 31, 1⟩
/-- SEC_RIGHTS.VIA9 (IMG, RWS): 1: accepted from the port 9 management function. -/
def F.SEC_RIGHTS_VIA9 (n : Nat) : Fld := ⟨R.SEC_RIGHTS n, 18, 1⟩
/-- SEC_RIGHTS.VIA0 (IMG, RWS): 1: accepted from the port 0 management function. -/
def F.SEC_RIGHTS_VIA0 (n : Nat) : Fld := ⟨R.SEC_RIGHTS n, 17, 1⟩
/-- SEC_RIGHTS.VIAI2C (IMG, RWS): 1: accepted over I²C; bits 18:16 all 0 select all transports. -/
def F.SEC_RIGHTS_VIAI2C (n : Nat) : Fld := ⟨R.SEC_RIGHTS n, 16, 1⟩
/-- SEC_RIGHTS.RIGHTS (IMG, RWS): Bit 0 OPERATE; 1 PORTS; 2 RAILS; 3 TUNE; 4 UPDATE; 5 KEYS; bits 7:6 reserved. -/
def F.SEC_RIGHTS_RIGHTS (n : Nat) : Fld := ⟨R.SEC_RIGHTS n, 0, 8⟩
/-- SES_SEL.SES (RW): Session s. -/
def F.SES_SEL_SES : Fld := ⟨R.SES_SEL, 0, 7⟩
/-- SES_LAST.LAST (RO): LAST of s. -/
def F.SES_LAST_LAST : Fld := ⟨R.SES_LAST, 0, 32⟩
/-- SES_CEIL.CEIL (RO): CEIL of s. -/
def F.SES_CEIL_CEIL : Fld := ⟨R.SES_CEIL, 0, 32⟩
/-- SES_INFO.RAISING (RO): Ceiling raise in progress. -/
def F.SES_INFO_RAISING : Fld := ⟨R.SES_INFO, 3, 1⟩
/-- SES_INFO.EXHAUSTED (RO): Under R514. -/
def F.SES_INFO_EXHAUSTED : Fld := ⟨R.SES_INFO, 2, 1⟩
/-- SES_INFO.USABLE (RO): Step 3 of Table SEC-5 passes. -/
def F.SES_INFO_USABLE : Fld := ⟨R.SES_INFO, 1, 1⟩
/-- SES_INFO.DERIVED (RO): Key derived at the seal. -/
def F.SES_INFO_DERIVED : Fld := ⟨R.SES_INFO, 0, 1⟩
/-- SEC_PORTEN.EN (RO): Bit k − 1: port k enabled under R520. -/
def F.SEC_PORTEN_EN : Fld := ⟨R.SEC_PORTEN, 0, 9⟩
/-- SEC_FLAGS.EXHAUSTED (W1C): Command of an exhausted session answered LOCKED under R514; counter in SEC_FLAG_CNT bits 23:16. -/
def F.SEC_FLAGS_EXHAUSTED : Fld := ⟨R.SEC_FLAGS, 2, 1⟩
/-- SEC_FLAGS.REPLAY (W1C): REPLAY answered; counter in bits 15:8. -/
def F.SEC_FLAGS_REPLAY : Fld := ⟨R.SEC_FLAGS, 1, 1⟩
/-- SEC_FLAGS.AUTH_FAIL (W1C): AUTH_FAIL answered; counter in bits 7:0. -/
def F.SEC_FLAGS_AUTH_FAIL : Fld := ⟨R.SEC_FLAGS, 0, 1⟩
/-- OTP_STATUS.BUSY (RO): Programming or full read in progress. -/
def F.OTP_STATUS_BUSY : Fld := ⟨R.OTP_STATUS, 28, 1⟩
/-- OTP_STATUS.FACTORY_LOCK (RO): POLICY.FACTORY_LOCK in force. -/
def F.OTP_STATUS_FACTORY_LOCK : Fld := ⟨R.OTP_STATUS, 27, 1⟩
/-- OTP_STATUS.MARGINAL (RO): A marginal bit found at the last full read. -/
def F.OTP_STATUS_MARGINAL : Fld := ⟨R.OTP_STATUS, 26, 1⟩
/-- OTP_STATUS.SUSPENDED (RO): A function of Table SEC-4 suspended. -/
def F.OTP_STATUS_SUSPENDED : Fld := ⟨R.OTP_STATUS, 25, 1⟩
/-- OTP_STATUS.SCRAP (RO): FWKEY locked-incomplete: the part is unusable for its purpose. -/
def F.OTP_STATUS_SCRAP : Fld := ⟨R.OTP_STATUS, 24, 1⟩
/-- OTP_STATUS.UNUSABLE (RO): Bit n: region n unusable under R507. -/
def F.OTP_STATUS_UNUSABLE : Fld := ⟨R.OTP_STATUS, 16, 8⟩
/-- OTP_STATUS.ABSENT (RO): Bit n: region n locked-incomplete. -/
def F.OTP_STATUS_ABSENT : Fld := ⟨R.OTP_STATUS, 8, 8⟩
/-- OTP_STATUS.LOCKED (RO): Bit n: lock fuse n in force. -/
def F.OTP_STATUS_LOCKED : Fld := ⟨R.OTP_STATUS, 0, 8⟩
/-- OTP_SEL.WORD (RW): Word index. -/
def F.OTP_SEL_WORD : Fld := ⟨R.OTP_SEL, 0, 8⟩
/-- OTP_READ.VALUE (RO): Value in force of the word, as R506 sets it, for every plain word, TRIM and DIGEST words included; 0 for …. -/
def F.OTP_READ_VALUE : Fld := ⟨R.OTP_READ, 0, 32⟩
/-- OTP_MARG.MARG (RO): Bits marginal at the last full read; 0 for scrambled words. -/
def F.OTP_MARG_MARG : Fld := ⟨R.OTP_MARG, 0, 32⟩
/-- OTP_POLICY.CFG_STEPS (RO): Configuration thermometer step count, 0–128. -/
def F.OTP_POLICY_CFG_STEPS : Fld := ⟨R.OTP_POLICY, 24, 8⟩
/-- OTP_POLICY.FW_STEPS (RO): Firmware thermometer step count, 0–128. -/
def F.OTP_POLICY_FW_STEPS : Fld := ⟨R.OTP_POLICY, 16, 8⟩
/-- OTP_POLICY.REVOKED (RO): Bit i: FWKEY digest i revoked. -/
def F.OTP_POLICY_REVOKED : Fld := ⟨R.OTP_POLICY, 8, 4⟩
/-- OTP_POLICY.POLICY (RO): POLICY bits in force. -/
def F.OTP_POLICY_POLICY : Fld := ⟨R.OTP_POLICY, 0, 4⟩
/-- OTP_REREAD.TEMP (RO): Highest die-sensor result at the last full read, class T code bits 15:0. -/
def F.OTP_REREAD_TEMP : Fld := ⟨R.OTP_REREAD, 16, 16⟩
/-- OTP_REREAD.HOURS (RO): Hours since the last full read. -/
def F.OTP_REREAD_HOURS : Fld := ⟨R.OTP_REREAD, 8, 8⟩
/-- OTP_REREAD.COUNT (RO): Full reads since T0 or internal restart, saturating at 255. -/
def F.OTP_REREAD_COUNT : Fld := ⟨R.OTP_REREAD, 0, 8⟩
/-- OTP_FLAGS.CHANGED (W1C): Fault 0x6604 or 0xA605; counter in OTP_FLAG_CNT bits 23:16. -/
def F.OTP_FLAGS_CHANGED : Fld := ⟨R.OTP_FLAGS, 2, 1⟩
/-- OTP_FLAGS.LOCK_REFUSED (W1C): OTP_LOCK refused under R505; counter in bits 15:8. -/
def F.OTP_FLAGS_LOCK_REFUSED : Fld := ⟨R.OTP_FLAGS, 1, 1⟩
/-- OTP_FLAGS.PROG_FAIL (W1C): Fault 0xA60A; counter in bits 7:0. -/
def F.OTP_FLAGS_PROG_FAIL : Fld := ⟨R.OTP_FLAGS, 0, 1⟩
/-- UPD_STATUS.RESULT (RO): Last result code of Table BOT-6 from R588 or R589. -/
def F.UPD_STATUS_RESULT : Fld := ⟨R.UPD_STATUS, 24, 4⟩
/-- UPD_STATUS.SLOT (RO): Target slot: 0 A, 1 B. -/
def F.UPD_STATUS_SLOT : Fld := ⟨R.UPD_STATUS, 8, 1⟩
/-- UPD_STATUS.KIND (RO): 0 none; 1 firmware; 2 configuration. -/
def F.UPD_STATUS_KIND : Fld := ⟨R.UPD_STATUS, 4, 2⟩
/-- UPD_STATUS.STATE (RO): 0 IDLE; 1 OPEN; 2 CLOSED; 3 ACTIVATED. -/
def F.UPD_STATUS_STATE : Fld := ⟨R.UPD_STATUS, 0, 2⟩
/-- UPD_NEXT.NEXT (RO): Offset of the next block expected. -/
def F.UPD_NEXT_NEXT : Fld := ⟨R.UPD_NEXT, 0, 32⟩
/-- UPD_LEN.LEN (RO): IMAGE_LENGTH of the transfer. -/
def F.UPD_LEN_LEN : Fld := ⟨R.UPD_LEN, 0, 32⟩
/-- UPD_HO.PHASE (RO): 0 none; 1 pause; 2 digests; 3 reloading; 4 handback; 5 done; 6 abandoned. -/
def F.UPD_HO_PHASE : Fld := ⟨R.UPD_HO, 28, 4⟩
/-- UPD_HO.ENGINE (RO): Engine being reloaded or awaited. -/
def F.UPD_HO_ENGINE : Fld := ⟨R.UPD_HO, 24, 4⟩
/-- UPD_HO.PAUSE (RO): Length of the last pause in 10 µs units. -/
def F.UPD_HO_PAUSE : Fld := ⟨R.UPD_HO, 0, 16⟩
/-- UPD_CFG.HO_EN (IMG, RWS): 1: HANDOVER accepted. -/
def F.UPD_CFG_HO_EN : Fld := ⟨R.UPD_CFG, 8, 1⟩
/-- UPD_CFG.TRIALS (IMG, RWS): TRIAL_LEFT written at activation, 1–7; 0 selects 3. -/
def F.UPD_CFG_TRIALS : Fld := ⟨R.UPD_CFG, 0, 3⟩
/-- UPD_FLAGS.ABANDONED (W1C): Handover abandoned; counter in UPD_FLAG_CNT bits 31:24. -/
def F.UPD_FLAGS_ABANDONED : Fld := ⟨R.UPD_FLAGS, 3, 1⟩
/-- UPD_FLAGS.HANDBACK (W1C): Handback under R597; counter in bits 23:16. -/
def F.UPD_FLAGS_HANDBACK : Fld := ⟨R.UPD_FLAGS, 2, 1⟩
/-- UPD_FLAGS.REJECTED (W1C): UPDATE_REJECTED posted; counter in bits 15:8. -/
def F.UPD_FLAGS_REJECTED : Fld := ⟨R.UPD_FLAGS, 1, 1⟩
/-- UPD_FLAGS.BLOCK_FAIL (W1C): Fault 0xAA17; counter in bits 7:0. -/
def F.UPD_FLAGS_BLOCK_FAIL : Fld := ⟨R.UPD_FLAGS, 0, 1⟩
/-- TB_LO.TB_LO (RO): TB[31:0], taken with TB_HI. -/
def F.TB_LO_TB_LO : Fld := ⟨R.TB_LO, 0, 32⟩
/-- TB_HI.TB_HI (RO): TB[63:32]. -/
def F.TB_HI_TB_HI : Fld := ⟨R.TB_HI, 0, 32⟩
/-- CMP_CFG.EN (RW): 1: channel strobes under R566. -/
def F.CMP_CFG_EN (n : Nat) : Fld := ⟨R.CMP_CFG n, 31, 1⟩
/-- CMP_CFG.P (RW): Period exponent, 2–26; below 2 acts as 2, above 26 as 26. -/
def F.CMP_CFG_P (n : Nat) : Fld := ⟨R.CMP_CFG n, 26, 5⟩
/-- CMP_CFG.PHASE (RW): Phase in fabric cycles. -/
def F.CMP_CFG_PHASE (n : Nat) : Fld := ⟨R.CMP_CFG n, 0, 26⟩
/-- CMP_CNT.CNT (RO): Bits 8i + 7 to 8i: strobes of channel 4n + i, modulo 256. -/
def F.CMP_CNT_CNT (n : Nat) : Fld := ⟨R.CMP_CNT n, 0, 32⟩
/-- ALM_SEL.A (RW): Alarm selected; bits 31:5 reserved. -/
def F.ALM_SEL_A : Fld := ⟨R.ALM_SEL, 0, 5⟩
/-- ALM_CTL.EN (RW): Write 1: arm; 0: disarm; cleared on firing. -/
def F.ALM_CTL_EN : Fld := ⟨R.ALM_CTL, 31, 1⟩
/-- ALM_CTL.LATE (RO): Last firing was late under R567. -/
def F.ALM_CTL_LATE : Fld := ⟨R.ALM_CTL, 30, 1⟩
/-- ALM_CTL.OWNER (RW): Engine notified, 0–15; other values: none. -/
def F.ALM_CTL_OWNER : Fld := ⟨R.ALM_CTL, 24, 5⟩
/-- ALM_ATL.AT_LO (RW): AT[31:0], held until ALM_ATH commits. -/
def F.ALM_ATL_AT_LO : Fld := ⟨R.ALM_ATL, 0, 32⟩
/-- ALM_ATH.AT_HI (RW): AT[63:32]. -/
def F.ALM_ATH_AT_HI : Fld := ⟨R.ALM_ATH, 0, 32⟩
/-- ALM_FLAGS.FIRED (W1C): Bit a: alarm a fired; flag semantics of R490. -/
def F.ALM_FLAGS_FIRED : Fld := ⟨R.ALM_FLAGS, 0, 32⟩
/-- ALM_FLAG_CNT.CNT (RO): Bits 8i + 7 to 8i: counter of FIRED bit 4n + i. -/
def F.ALM_FLAG_CNT_CNT (n : Nat) : Fld := ⟨R.ALM_FLAG_CNT n, 0, 32⟩
/-- ALM_ARMED.ARMED (RO): Bit a: alarm a armed. -/
def F.ALM_ARMED_ARMED : Fld := ⟨R.ALM_ARMED, 0, 32⟩
/-- TMR_CFG.ONESHOT (RW): 1: RUN cleared at wrap. -/
def F.TMR_CFG_ONESHOT (n : Nat) : Fld := ⟨R.TMR_CFG n, 30, 1⟩
/-- TMR_CFG.SMODE (RW): Slave mode of R570. -/
def F.TMR_CFG_SMODE (n : Nat) : Fld := ⟨R.TMR_CFG n, 28, 2⟩
/-- TMR_CFG.MASTER (RW): Master timer, below t. -/
def F.TMR_CFG_MASTER (n : Nat) : Fld := ⟨R.TMR_CFG n, 24, 4⟩
/-- TMR_CFG.CSRC (RW): 0 fabric; 1 compare strobe; 2 master wrap; 3 acts as 0. -/
def F.TMR_CFG_CSRC (n : Nat) : Fld := ⟨R.TMR_CFG n, 22, 2⟩
/-- TMR_CFG.CSEL (RW): Compare channel, 0–47; 48–63 give no tick. -/
def F.TMR_CFG_CSEL (n : Nat) : Fld := ⟨R.TMR_CFG n, 16, 6⟩
/-- TMR_PRE.PRE (RW): TOP loaded under R568 and R569. -/
def F.TMR_PRE_PRE (n : Nat) : Fld := ⟨R.TMR_PRE n, 0, 32⟩
/-- TMR_SEL.T (RW): Timer selected; bits 31:4 reserved. -/
def F.TMR_SEL_T : Fld := ⟨R.TMR_SEL, 0, 4⟩
/-- TMR_CNT.CNT (RO): CNT of timer T. -/
def F.TMR_CNT_CNT : Fld := ⟨R.TMR_CNT, 0, 32⟩
/-- TMR_TOP.TOP (RO): TOP in force of timer T. -/
def F.TMR_TOP_TOP : Fld := ⟨R.TMR_TOP, 0, 32⟩
/-- TMR_RUN.RUN (RO): Bit t: RUN of timer t; bits 31:16 reserved. -/
def F.TMR_RUN_RUN : Fld := ⟨R.TMR_RUN, 0, 16⟩
/-- TMR_FLAGS.WRAP (W1C): Bit t: timer t wrapped; flag semantics of R490. -/
def F.TMR_FLAGS_WRAP : Fld := ⟨R.TMR_FLAGS, 0, 16⟩
/-- TMR_FLAG_CNT.CNT (RO): Bits 8i + 7 to 8i: counter of WRAP bit 4n + i. -/
def F.TMR_FLAG_CNT_CNT (n : Nat) : Fld := ⟨R.TMR_FLAG_CNT n, 0, 32⟩
/-- TMR_CTL.STOP (WO): Bit t: stop timer t. -/
def F.TMR_CTL_STOP : Fld := ⟨R.TMR_CTL, 16, 16⟩
/-- TMR_CTL.START (WO): Bit t: start timer t; where STOP bit t is also 1, the timer stops. -/
def F.TMR_CTL_START : Fld := ⟨R.TMR_CTL, 0, 16⟩
/-- CRC_CFG.INIT (WO): 1: start under R574. -/
def F.CRC_CFG_INIT (n : Nat) : Fld := ⟨R.CRC_CFG n, 31, 1⟩
/-- CRC_CFG.ALG (RW): Algorithm of Table TMB-1. -/
def F.CRC_CFG_ALG (n : Nat) : Fld := ⟨R.CRC_CFG n, 26, 2⟩
/-- CRC_CFG.WIDTH (RW): FEED width: 0 8; 1 16; 2 or 3 32 bits. -/
def F.CRC_CFG_WIDTH (n : Nat) : Fld := ⟨R.CRC_CFG n, 24, 2⟩
/-- CRC_CFG.FOLD_MODE (RW): 0 none; 1 prefix; 2 XOR into initial; 3 acts as 0. -/
def F.CRC_CFG_FOLD_MODE (n : Nat) : Fld := ⟨R.CRC_CFG n, 22, 2⟩
/-- CRC_CFG.FOLD_LEN (RW): Prefix bytes: 0 1; 1 2; 2 or 3 4. -/
def F.CRC_CFG_FOLD_LEN (n : Nat) : Fld := ⟨R.CRC_CFG n, 20, 2⟩
/-- CRC_FOLD.FOLD (RW): Fold value. -/
def F.CRC_FOLD_FOLD (n : Nat) : Fld := ⟨R.CRC_FOLD n, 0, 32⟩
/-- CRC_FEED.DATA (WO): Data fed under R575. -/
def F.CRC_FEED_DATA (n : Nat) : Fld := ⟨R.CRC_FEED n, 0, 32⟩
/-- CRC_BLKA.ADDR (RW): Shared SRAM byte offset, multiple of 4; bits 31:20 reserved. -/
def F.CRC_BLKA_ADDR (n : Nat) : Fld := ⟨R.CRC_BLKA n, 0, 20⟩
/-- CRC_BLKL.GO (WO): 1: begin block. -/
def F.CRC_BLKL_GO (n : Nat) : Fld := ⟨R.CRC_BLKL n, 31, 1⟩
/-- CRC_BLKL.MODE (RW): 0 feed; 1 APPEND; 2 STRIP; 3 acts as 0. -/
def F.CRC_BLKL_MODE (n : Nat) : Fld := ⟨R.CRC_BLKL n, 29, 2⟩
/-- CRC_BLKL.LEN (RW): Bytes, 1–65,535; with GO, 0 is refused as under R574. -/
def F.CRC_BLKL_LEN (n : Nat) : Fld := ⟨R.CRC_BLKL n, 0, 16⟩
/-- CRC_RES.RESULT (RO): Final value of the bytes fed so far. -/
def F.CRC_RES_RESULT (n : Nat) : Fld := ⟨R.CRC_RES n, 0, 32⟩
/-- CRC_CTX.CTX (RW): Running value under R578. -/
def F.CRC_CTX_CTX (n : Nat) : Fld := ⟨R.CRC_CTX n, 0, 32⟩
/-- CRC_STATUS.BUSY (RO): Block in progress. -/
def F.CRC_STATUS_BUSY (n : Nat) : Fld := ⟨R.CRC_STATUS n, 31, 1⟩
/-- CRC_STATUS.MATCH (RO): Last STRIP matched. -/
def F.CRC_STATUS_MATCH (n : Nat) : Fld := ⟨R.CRC_STATUS n, 30, 1⟩
/-- CRC_STATUS.FOLDED (RO): Prefix applied or CTX restored. -/
def F.CRC_STATUS_FOLDED (n : Nat) : Fld := ⟨R.CRC_STATUS n, 29, 1⟩
/-- CRC_STATUS.OWNER (RO): Claiming writer; 0x1F: none. -/
def F.CRC_STATUS_OWNER (n : Nat) : Fld := ⟨R.CRC_STATUS n, 24, 5⟩
/-- CRC_STATUS.COUNT (RO): Data bytes fed since INIT, saturating. -/
def F.CRC_STATUS_COUNT (n : Nat) : Fld := ⟨R.CRC_STATUS n, 0, 24⟩
/-- CRC_FLAGS.MISMATCH (W1C): Bit u + 4: STRIP mismatch on unit u. -/
def F.CRC_FLAGS_MISMATCH : Fld := ⟨R.CRC_FLAGS, 4, 4⟩
/-- CRC_FLAGS.REFUSED (W1C): Bit u: write refused under R574. -/
def F.CRC_FLAGS_REFUSED : Fld := ⟨R.CRC_FLAGS, 0, 4⟩
/-- BUS_STATUS.HALF_US (RO): Tracked half-cycle period in µs; 0 while unlocked. -/
def F.BUS_STATUS_HALF_US : Fld := ⟨R.BUS_STATUS, 16, 16⟩
/-- BUS_STATUS.SHED (RO): Bit k − 1 set: port k is shed. -/
def F.BUS_STATUS_SHED : Fld := ⟨R.BUS_STATUS, 8, 8⟩
/-- BUS_STATUS.COMMITTED (RO): Commit point reached, as SYS_STATE.COMMITTED. -/
def F.BUS_STATUS_COMMITTED : Fld := ⟨R.BUS_STATUS, 7, 1⟩
/-- BUS_STATUS.ARMED (RO): Triggers armed under R72. -/
def F.BUS_STATUS_ARMED : Fld := ⟨R.BUS_STATUS, 6, 1⟩
/-- BUS_STATUS.OVP (RO): VIN above VIN_OVP; converters stopped. -/
def F.BUS_STATUS_OVP : Fld := ⟨R.BUS_STATUS, 5, 1⟩
/-- BUS_STATUS.VDRV_DROP (RO): VDRV in dropout. -/
def F.BUS_STATUS_VDRV_DROP : Fld := ⟨R.BUS_STATUS, 4, 1⟩
/-- BUS_STATUS.MAINS_LOST (RO): Set at a mains loss; cleared after the return of Table BUS-4, and when MAINS_LOCK is cleared. -/
def F.BUS_STATUS_MAINS_LOST : Fld := ⟨R.BUS_STATUS, 3, 1⟩
/-- BUS_STATUS.MAINS_60HZ (RO): 1: locked at 60 Hz; 0: 50 Hz or unlocked. -/
def F.BUS_STATUS_MAINS_60HZ : Fld := ⟨R.BUS_STATUS, 2, 1⟩
/-- BUS_STATUS.MAINS_LOCK (RO): ACSNS locked. -/
def F.BUS_STATUS_MAINS_LOCK : Fld := ⟨R.BUS_STATUS, 1, 1⟩
/-- BUS_STATUS.VIN_OK (RO): VIN above VIN_OK, with hysteresis. -/
def F.BUS_STATUS_VIN_OK : Fld := ⟨R.BUS_STATUS, 0, 1⟩
/-- BUS_VIN.E_BUS (RO): E_BUS in units of 10 mJ, saturating at 0xFFFF; updated each superframe. -/
def F.BUS_VIN_E_BUS : Fld := ⟨R.BUS_VIN, 16, 16⟩
/-- BUS_VIN.VIN_MV (RO): Lowest VIN result of the last complete frame, in mV. -/
def F.BUS_VIN_VIN_MV : Fld := ⟨R.BUS_VIN, 0, 16⟩
/-- BUS_CFG.T_RESTART (IMG, RWS): tRESTART in units of 100 ms, from 1 to 100; 0 selects 500 ms; values from 101 to 255 act as 100. -/
def F.BUS_CFG_T_RESTART : Fld := ⟨R.BUS_CFG, 24, 8⟩
/-- BUS_CFG.SHED_ENTRY (IMG, RWS): 0–7: ports of priority ≤ SHED_ENTRY are shed at mains loss; 0xF: none; other values act as 0xF. -/
def F.BUS_CFG_SHED_ENTRY : Fld := ⟨R.BUS_CFG, 8, 4⟩
/-- BUS_CFG.MARGIN (IMG, RWS): Reserve margin in eighths, 0–7. -/
def F.BUS_CFG_MARGIN : Fld := ⟨R.BUS_CFG, 4, 3⟩
/-- BUS_CFG.ACSNS_AUTO (IMG, RWS): 1: ACSNS timed under R67. -/
def F.BUS_CFG_ACSNS_AUTO : Fld := ⟨R.BUS_CFG, 0, 1⟩
/-- BUS_RESERVE.C_BUS (IMG, RWS): Bus capacitance in units of 10 µF, from 1 to 65,535. -/
def F.BUS_RESERVE_C_BUS : Fld := ⟨R.BUS_RESERVE, 16, 16⟩
/-- BUS_RESERVE.P_RES (IMG, RWS): Power-down bus power in units of 0.1 W, from 1 to 65,535. -/
def F.BUS_RESERVE_P_RES : Fld := ⟨R.BUS_RESERVE, 0, 16⟩
/-- BUS_BAND.EBAND (IMG, RWS): Shedding band in units of 10 mJ, from 1 to 65,535. -/
def F.BUS_BAND_EBAND : Fld := ⟨R.BUS_BAND, 16, 16⟩
/-- BUS_BAND.T_PD (IMG, RWS): Power-down duration in ms, from 1 to 20,000; 0 and 20,001–65,535 invalid for validation. -/
def F.BUS_BAND_T_PD : Fld := ⟨R.BUS_BAND, 0, 16⟩
/-- BUS_THR.RET_MV (RWS): Voltage of E_RET, in mV. -/
def F.BUS_THR_RET_MV : Fld := ⟨R.BUS_THR, 16, 16⟩
/-- BUS_THR.COMMIT_MV (RWS): Voltage of E_RES, in mV. -/
def F.BUS_THR_COMMIT_MV : Fld := ⟨R.BUS_THR, 0, 16⟩
/-- BUS_THR_SHED.MV1 (RWS): Voltage of E_SHED(2n + 1), in mV. -/
def F.BUS_THR_SHED_MV1 (n : Nat) : Fld := ⟨R.BUS_THR_SHED n, 16, 16⟩
/-- BUS_THR_SHED.MV0 (RWS): Voltage of E_SHED(2n), in mV. -/
def F.BUS_THR_SHED_MV0 (n : Nat) : Fld := ⟨R.BUS_THR_SHED n, 0, 16⟩
/-- BUS_FLAGS.COMMIT (W1C): Commit point reached; counter in BUS_FLAG_CNT bits 31:24. -/
def F.BUS_FLAGS_COMMIT : Fld := ⟨R.BUS_FLAGS, 3, 1⟩
/-- BUS_FLAGS.OVP (W1C): VIN_OVP crossed; counter in bits 23:16. -/
def F.BUS_FLAGS_OVP : Fld := ⟨R.BUS_FLAGS, 2, 1⟩
/-- BUS_FLAGS.SAG (W1C): Energy trigger; counter in bits 15:8. -/
def F.BUS_FLAGS_SAG : Fld := ⟨R.BUS_FLAGS, 1, 1⟩
/-- BUS_FLAGS.MAINS (W1C): Mains loss; counter in bits 7:0. -/
def F.BUS_FLAGS_MAINS : Fld := ⟨R.BUS_FLAGS, 0, 1⟩
/-- BUD_CFG.P_SUP (IMG, RWS): Supply rated power in W, 1–65,535. -/
def F.BUD_CFG_P_SUP : Fld := ⟨R.BUD_CFG, 16, 16⟩
/-- BUD_CFG.EFF (IMG, RWS): Converter efficiency in %, 50–100; 0 selects 92; other values invalid for validation. -/
def F.BUD_CFG_EFF : Fld := ⟨R.BUD_CFG, 8, 8⟩
/-- BUD_SUP.I_SUP (IMG, RWS): Supply current limit in 10 mA units, 1–65,535. -/
def F.BUD_SUP_I_SUP : Fld := ⟨R.BUD_SUP, 16, 16⟩
/-- BUD_SUP.P_BOARD (IMG, RWS): Other bus loads in 0.1 W, 0–65,535. -/
def F.BUD_SUP_P_BOARD : Fld := ⟨R.BUD_SUP, 0, 16⟩
/-- BUD_PORT.PRIO (IMG, RWS): Priority, 0 shed first, 7 shed last. -/
def F.BUD_PORT_PRIO (k : PortId) : Fld := ⟨R.BUD_PORT k, 16, 3⟩
/-- BUD_PORT.PMAX (IMG, RWS): Largest grant in W, 1–240; 0 selects 240; 241–255 invalid for validation. -/
def F.BUD_PORT_PMAX (k : PortId) : Fld := ⟨R.BUD_PORT k, 8, 8⟩
/-- BUD_PORT.PMIN (IMG, RWS): Guaranteed minimum in W, 0–240; a value above the effective PMAX is invalid for validation. -/
def F.BUD_PORT_PMIN (k : PortId) : Fld := ⟨R.BUD_PORT k, 0, 8⟩
/-- BUD_STATUS.AVAIL (RO): P_AVAIL of the last run, in 0.1 W. -/
def F.BUD_STATUS_AVAIL : Fld := ⟨R.BUD_STATUS, 16, 16⟩
/-- BUD_STATUS.GRANTED (RO): Sum of the present grants, in 0.1 W. -/
def F.BUD_STATUS_GRANTED : Fld := ⟨R.BUD_STATUS, 0, 16⟩
/-- BUD_VIN.VIN_EMG (RO): VIN_MV of the frame that last triggered the lever; 0 never. -/
def F.BUD_VIN_VIN_EMG : Fld := ⟨R.BUD_VIN, 16, 16⟩
/-- BUD_VIN.VIN_RUN (RO): VIN_RUN of the last run, in mV. -/
def F.BUD_VIN_VIN_RUN : Fld := ⟨R.BUD_VIN, 0, 16⟩
/-- BUD_GRANT.REASON (RO): What bound the grant: 0 ineligible; 1 PMAX; 2 P_CAP; 3 contact cap; 4 bus; 5 minimum withheld; 6 emergency …. -/
def F.BUD_GRANT_REASON (k : PortId) : Fld := ⟨R.BUD_GRANT k, 28, 4⟩
/-- BUD_GRANT.CEIL (RO): Offer ceiling in 0.1 W. -/
def F.BUD_GRANT_CEIL (k : PortId) : Fld := ⟨R.BUD_GRANT k, 16, 12⟩
/-- BUD_GRANT.LARGEST (RO): Largest possible ceiling of R299, in 0.1 W. -/
def F.BUD_GRANT_LARGEST (k : PortId) : Fld := ⟨R.BUD_GRANT k, 0, 12⟩
/-- BUD_FLAGS.MIN_SHORT (W1C): A minimum withheld, once per onset of the shortfall under R301; counter in BUD_FLAG_CNT bits 15:8. -/
def F.BUD_FLAGS_MIN_SHORT : Fld := ⟨R.BUD_FLAGS, 1, 1⟩
/-- BUD_FLAGS.EMERGENCY (W1C): Emergency lever applied; counter in bits 7:0. -/
def F.BUD_FLAGS_EMERGENCY : Fld := ⟨R.BUD_FLAGS, 0, 1⟩
/-- CLK_STATUS.XCHK_OK (RO): 1: the last island cross-check passed. -/
def F.CLK_STATUS_XCHK_OK : Fld := ⟨R.CLK_STATUS, 4, 1⟩
/-- CLK_STATUS.HS9_LOCK (RO): 1: port 9 High-Speed PHY PLL locked. -/
def F.CLK_STATUS_HS9_LOCK : Fld := ⟨R.CLK_STATUS, 3, 1⟩
/-- CLK_STATUS.SS_LOCK (RO): 1: SuperSpeed PHY PLL locked; 0 also when the SuperSpeed lanes are disabled. -/
def F.CLK_STATUS_SS_LOCK : Fld := ⟨R.CLK_STATUS, 2, 1⟩
/-- CLK_STATUS.ROOT_LOCK (RO): 1: root PLL locked. -/
def F.CLK_STATUS_ROOT_LOCK : Fld := ⟨R.CLK_STATUS, 1, 1⟩
/-- CLK_STATUS.XTAL_OK (RO): 1: crystal oscillating above amplitude threshold. -/
def F.CLK_STATUS_XTAL_OK : Fld := ⟨R.CLK_STATUS, 0, 1⟩
/-- FRAME_POS.SUPER (RO): Superframe count, modulo 524,288. -/
def F.FRAME_POS_SUPER : Fld := ⟨R.FRAME_POS, 13, 19⟩
/-- FRAME_POS.FRAME (RO): Frame within the superframe, 0–31. -/
def F.FRAME_POS_FRAME : Fld := ⟨R.FRAME_POS, 8, 5⟩
/-- FRAME_POS.SLOT (RO): Slot within the frame, 0–255. -/
def F.FRAME_POS_SLOT : Fld := ⟨R.FRAME_POS, 0, 8⟩
/-- CNV_CLK.N (IMG, RWS): Switching divider, 160–500; 0 selects 250 (400 kHz); 1–159 and 501–511 invalid for validation. -/
def F.CNV_CLK_N : Fld := ⟨R.CNV_CLK, 0, 9⟩
/-- ATT_CFG.RP_MAX (IMG, RWS): Highest Rp before a contract: 0 3.0 A; 1 1.5 A; 2 or 3 default; port 9 ignores it. -/
def F.ATT_CFG_RP_MAX (k : PortId) : Fld := ⟨R.ATT_CFG k, 18, 2⟩
/-- ATT_CFG.VCONN_DIS (IMG, RWS): 1: VCONN never applied. -/
def F.ATT_CFG_VCONN_DIS (k : PortId) : Fld := ⟨R.ATT_CFG k, 17, 1⟩
/-- ATT_CFG.DCP_EN (IMG, RWS): 1: DCP under R170; reserved on port 9. -/
def F.ATT_CFG_DCP_EN (k : PortId) : Fld := ⟨R.ATT_CFG k, 16, 1⟩
/-- ATT_CFG.SEAT_EN (IMG, RWS): 1: seating switch fitted. -/
def F.ATT_CFG_SEAT_EN (k : PortId) : Fld := ⟨R.ATT_CFG k, 8, 1⟩
/-- ATT_CFG.WET_THR (IMG, RWS): Wet threshold in 10 kΩ units, 2–200; 0 selects 20 (200 kΩ); 1 and 201–255 invalid for validation. -/
def F.ATT_CFG_WET_THR (k : PortId) : Fld := ⟨R.ATT_CFG k, 0, 8⟩
/-- ATT_STATUS.DRY_S (RO): Seconds of the present dry run, saturating at 0xFFFF. -/
def F.ATT_STATUS_DRY_S (k : PortId) : Fld := ⟨R.ATT_STATUS k, 16, 16⟩
/-- ATT_STATUS.SNK_PATH (RO): Port 9: sink switch on; 0 on ports 1–8. -/
def F.ATT_STATUS_SNK_PATH (k : PortId) : Fld := ⟨R.ATT_STATUS k, 15, 1⟩
/-- ATT_STATUS.PWR_ROLE (RO): Port 9: 0 source, 1 sink; 0 on ports 1–8. -/
def F.ATT_STATUS_PWR_ROLE (k : PortId) : Fld := ⟨R.ATT_STATUS k, 14, 1⟩
/-- ATT_STATUS.VBUS_ON (RO): Port switch closed by attach. -/
def F.ATT_STATUS_VBUS_ON (k : PortId) : Fld := ⟨R.ATT_STATUS k, 13, 1⟩
/-- ATT_STATUS.SEATED (RO): Plug seated under R166 and R167. -/
def F.ATT_STATUS_SEATED (k : PortId) : Fld := ⟨R.ATT_STATUS k, 12, 1⟩
/-- ATT_STATUS.DRY (RO): 0 unproven; 1 wet; 2 dry; 3 not measured. -/
def F.ATT_STATUS_DRY (k : PortId) : Fld := ⟨R.ATT_STATUS k, 10, 2⟩
/-- ATT_STATUS.RP (RO): Rp presented, or seen as a sink: 0 none; 1 default; 2 1.5 A; 3 3.0 A. -/
def F.ATT_STATUS_RP (k : PortId) : Fld := ⟨R.ATT_STATUS k, 8, 2⟩
/-- ATT_STATUS.VCONN_ON (RO): VCONN applied. -/
def F.ATT_STATUS_VCONN_ON (k : PortId) : Fld := ⟨R.ATT_STATUS k, 7, 1⟩
/-- ATT_STATUS.RA (RO): Ra seen on the other CC. -/
def F.ATT_STATUS_RA (k : PortId) : Fld := ⟨R.ATT_STATUS k, 6, 1⟩
/-- ATT_STATUS.ORIENT (RO): 0 none; 1 CC1; 2 CC2. -/
def F.ATT_STATUS_ORIENT (k : PortId) : Fld := ⟨R.ATT_STATUS k, 4, 2⟩
/-- ATT_STATUS.ASTATE (RO): Attach state of Table ATT-5. -/
def F.ATT_STATUS_ASTATE (k : PortId) : Fld := ⟨R.ATT_STATUS k, 0, 4⟩
/-- ATT_WET.SBU2 (RO): SBU2 leakage. -/
def F.ATT_WET_SBU2 (k : PortId) : Fld := ⟨R.ATT_WET k, 24, 8⟩
/-- ATT_WET.SBU1 (RO): SBU1 leakage. -/
def F.ATT_WET_SBU1 (k : PortId) : Fld := ⟨R.ATT_WET k, 16, 8⟩
/-- ATT_WET.CC2 (RO): CC2 leakage. -/
def F.ATT_WET_CC2 (k : PortId) : Fld := ⟨R.ATT_WET k, 8, 8⟩
/-- ATT_WET.CC1 (RO): CC1 leakage. -/
def F.ATT_WET_CC1 (k : PortId) : Fld := ⟨R.ATT_WET k, 0, 8⟩
/-- ATT_CABLE.VMAX (RO): Cable maximum voltage: 0 20 V; 1 30 V; 2 40 V; 3 50 V. -/
def F.ATT_CABLE_VMAX (k : PortId) : Fld := ⟨R.ATT_CABLE k, 4, 2⟩
/-- ATT_CABLE.EPR_OK (RO): Cable EPR-capable. -/
def F.ATT_CABLE_EPR_OK (k : PortId) : Fld := ⟨R.ATT_CABLE k, 3, 1⟩
/-- ATT_CABLE.CUR (RO): 0 not known, 3 A applied; 1 3 A; 2 5 A. -/
def F.ATT_CABLE_CUR (k : PortId) : Fld := ⟨R.ATT_CABLE k, 1, 2⟩
/-- ATT_CABLE.EMARKED (RO): Valid e-marker response. -/
def F.ATT_CABLE_EMARKED (k : PortId) : Fld := ⟨R.ATT_CABLE k, 0, 1⟩
/-- ATT_FLAGS.REFUSED (W1C): Accessory refused, or VBUS withheld for vSafe0V; counter in ATT_FLAG_CNTk bits 31:24. -/
def F.ATT_FLAGS_REFUSED (k : PortId) : Fld := ⟨R.ATT_FLAGS k, 3, 1⟩
/-- ATT_FLAGS.VCONN_OC (W1C): VCONN overcurrent; counter in bits 23:16. -/
def F.ATT_FLAGS_VCONN_OC (k : PortId) : Fld := ⟨R.ATT_FLAGS k, 2, 1⟩
/-- ATT_FLAGS.SEAT_LOST (W1C): Seat lost with VBUS applied; counter in bits 15:8. -/
def F.ATT_FLAGS_SEAT_LOST (k : PortId) : Fld := ⟨R.ATT_FLAGS k, 1, 1⟩
/-- ATT_FLAGS.WET (W1C): Wet verdict; counter in bits 7:0. -/
def F.ATT_FLAGS_WET (k : PortId) : Fld := ⟨R.ATT_FLAGS k, 0, 1⟩
/-- PD_CFG.AUTH_W (IMG, RWS): Gate limit in W, 1–240; 0: no per-port gate; 241–255 invalid for validation. -/
def F.PD_CFG_AUTH_W (k : PortId) : Fld := ⟨R.PD_CFG k, 16, 8⟩
/-- PD_CFG.FRVDM_EN (IMG, RWS): 1: Frener VDMs sent. -/
def F.PD_CFG_FRVDM_EN (k : PortId) : Fld := ⟨R.PD_CFG k, 15, 1⟩
/-- PD_CFG.EPR_AVS (IMG, RWS): EPR AVS object enabled. -/
def F.PD_CFG_EPR_AVS (k : PortId) : Fld := ⟨R.PD_CFG k, 11, 1⟩
/-- PD_CFG.EPR48 (IMG, RWS): EPR fixed 48 V enabled. -/
def F.PD_CFG_EPR48 (k : PortId) : Fld := ⟨R.PD_CFG k, 10, 1⟩
/-- PD_CFG.EPR36 (IMG, RWS): EPR fixed 36 V enabled. -/
def F.PD_CFG_EPR36 (k : PortId) : Fld := ⟨R.PD_CFG k, 9, 1⟩
/-- PD_CFG.EPR28 (IMG, RWS): EPR fixed 28 V enabled. -/
def F.PD_CFG_EPR28 (k : PortId) : Fld := ⟨R.PD_CFG k, 8, 1⟩
/-- PD_CFG.SPR_AVS (IMG, RWS): SPR AVS object enabled. -/
def F.PD_CFG_SPR_AVS (k : PortId) : Fld := ⟨R.PD_CFG k, 5, 1⟩
/-- PD_CFG.PPS (IMG, RWS): PPS object enabled. -/
def F.PD_CFG_PPS (k : PortId) : Fld := ⟨R.PD_CFG k, 4, 1⟩
/-- PD_CFG.FIX20 (IMG, RWS): Fixed 20 V enabled. -/
def F.PD_CFG_FIX20 (k : PortId) : Fld := ⟨R.PD_CFG k, 3, 1⟩
/-- PD_CFG.FIX15 (IMG, RWS): Fixed 15 V enabled. -/
def F.PD_CFG_FIX15 (k : PortId) : Fld := ⟨R.PD_CFG k, 2, 1⟩
/-- PD_CFG.FIX9 (IMG, RWS): Fixed 9 V enabled. -/
def F.PD_CFG_FIX9 (k : PortId) : Fld := ⟨R.PD_CFG k, 1, 1⟩
/-- PD_STATUS.PDO (RO): Object position of the contract, 1–11; 0 none. -/
def F.PD_STATUS_PDO (k : PortId) : Fld := ⟨R.PD_STATUS k, 28, 4⟩
/-- PD_STATUS.REV (RO): 0 none; 1 Revision 2.0; 2 Revision 3.x. -/
def F.PD_STATUS_REV (k : PortId) : Fld := ⟨R.PD_STATUS k, 26, 2⟩
/-- PD_STATUS.EPR (RO): In EPR mode. -/
def F.PD_STATUS_EPR (k : PortId) : Fld := ⟨R.PD_STATUS k, 25, 1⟩
/-- PD_STATUS.CONTRACT (RO): Explicit contract. -/
def F.PD_STATUS_CONTRACT (k : PortId) : Fld := ⟨R.PD_STATUS k, 24, 1⟩
/-- PD_STATUS.AUTH (RO): 0 not tried or not gated; 1 in progress; 2 passed; 3 failed. -/
def F.PD_STATUS_AUTH (k : PortId) : Fld := ⟨R.PD_STATUS k, 22, 2⟩
/-- PD_STATUS.DATA_ROLE (RO): 0 upstream-facing; 1 downstream-facing. -/
def F.PD_STATUS_DATA_ROLE (k : PortId) : Fld := ⟨R.PD_STATUS k, 21, 1⟩
/-- PD_STATUS.VCONN_SRC (RO): Part is VCONN source. -/
def F.PD_STATUS_VCONN_SRC (k : PortId) : Fld := ⟨R.PD_STATUS k, 20, 1⟩
/-- PD_STATUS.MISMATCH (RO): Last accepted request had Capability Mismatch. -/
def F.PD_STATUS_MISMATCH (k : PortId) : Fld := ⟨R.PD_STATUS k, 19, 1⟩
/-- PD_STATUS.PE (RO): 0 off; 1 sending capabilities; 2 negotiating; 3 transition; 4 ready; 5 Hard Reset; 6 no PD partner; 7 …. -/
def F.PD_STATUS_PE (k : PortId) : Fld := ⟨R.PD_STATUS k, 16, 3⟩
/-- PD_STATUS.REV_VER (RO): Version within Revision 3.2 reported in Revision: bits 7:4 major, bits 3:0 minor; fixed at 0x11, Version …. -/
def F.PD_STATUS_REV_VER (k : PortId) : Fld := ⟨R.PD_STATUS k, 0, 8⟩
/-- PD_CONTRACT.TYPE (RO): 0 none; 1 SPR fixed; 2 PPS; 3 SPR AVS; 4 EPR fixed; 5 EPR AVS; 6 Type-C current without PD. -/
def F.PD_CONTRACT_TYPE (k : PortId) : Fld := ⟨R.PD_CONTRACT k, 28, 4⟩
/-- PD_CONTRACT.V_20MV (RO): Contract voltage in 20 mV units. -/
def F.PD_CONTRACT_V_20MV (k : PortId) : Fld := ⟨R.PD_CONTRACT k, 16, 12⟩
/-- PD_CONTRACT.I_10MA (RO): Contract current in 10 mA units. -/
def F.PD_CONTRACT_I_10MA (k : PortId) : Fld := ⟨R.PD_CONTRACT k, 0, 10⟩
/-- PD_RDO.RDO (RO): Request Data Object of the present contract; 0 without one. -/
def F.PD_RDO_RDO (k : PortId) : Fld := ⟨R.PD_RDO k, 0, 32⟩
/-- PD_FLAGS.HARD_RESET (W1C): Hard Reset sent or received; counter in PD_FLAG_CNTk bits 31:24. -/
def F.PD_FLAGS_HARD_RESET (k : PortId) : Fld := ⟨R.PD_FLAGS k, 3, 1⟩
/-- PD_FLAGS.REJECTED (W1C): Request rejected; counter in bits 23:16. -/
def F.PD_FLAGS_REJECTED (k : PortId) : Fld := ⟨R.PD_FLAGS k, 2, 1⟩
/-- PD_FLAGS.AUTH_FAIL (W1C): Authentication failed; counter in bits 15:8. -/
def F.PD_FLAGS_AUTH_FAIL (k : PortId) : Fld := ⟨R.PD_FLAGS k, 1, 1⟩
/-- PD_FLAGS.Q_FULL (W1C): GoodCRC withheld under R218; counter in bits 7:0. -/
def F.PD_FLAGS_Q_FULL (k : PortId) : Fld := ⟨R.PD_FLAGS k, 0, 1⟩
/-- CNV_CFG.VPK (IMG, RWS): Peak limit across RSNS in 0.5 mV units, 80–150 (40–75 mV); 0 selects 120 (60 mV); other values invalid for …. -/
def F.CNV_CFG_VPK (k : PortId) : Fld := ⟨R.CNV_CFG k, 24, 8⟩
/-- CNV_CFG.RSNS (IMG, RWS): Sense resistor in 0.02 mΩ units, 100–250; other values invalid for validation on a present port. -/
def F.CNV_CFG_RSNS (k : PortId) : Fld := ⟨R.CNV_CFG k, 16, 8⟩
/-- CNV_CFG.SLOPE (IMG, RWS): Slope compensation in 0.5 mV/µs units, 1–255; 0 selects 40 (20 mV/µs). -/
def F.CNV_CFG_SLOPE (k : PortId) : Fld := ⟨R.CNV_CFG k, 8, 8⟩
/-- CNV_CFG.SLEW (IMG, RWS): Ramp step in 0.1 mV per frame, 20–255; 0 selects 64; 1–19 invalid for validation. -/
def F.CNV_CFG_SLEW (k : PortId) : Fld := ⟨R.CNV_CFG k, 0, 8⟩
/-- CNV_LOOP.KP (IMG, RWS): Proportional gain, 1–255; 0 selects 64. -/
def F.CNV_LOOP_KP (k : PortId) : Fld := ⟨R.CNV_LOOP k, 24, 8⟩
/-- CNV_LOOP.KI (IMG, RWS): Integral gain, 1–255; 0 selects 4. -/
def F.CNV_LOOP_KI (k : PortId) : Fld := ⟨R.CNV_LOOP k, 16, 8⟩
/-- CNV_LOOP.KSH (IMG, RWS): Shift, 1–12; 0 selects 4; 13–15 invalid for validation. -/
def F.CNV_LOOP_KSH (k : PortId) : Fld := ⟨R.CNV_LOOP k, 12, 4⟩
/-- CNV_LOOP.CDC (IMG, RWS): Cable-drop compensation under R238, in mΩ, 0–255. -/
def F.CNV_LOOP_CDC (k : PortId) : Fld := ⟨R.CNV_LOOP k, 0, 8⟩
/-- CNV_ILIM.EFF (RO): ilim_ma of R239, in mA. -/
def F.CNV_ILIM_EFF (k : PortId) : Fld := ⟨R.CNV_ILIM k, 16, 16⟩
/-- CNV_ILIM.ALLOC (RO): Limit last written by the allocator, in mA. -/
def F.CNV_ILIM_ALLOC (k : PortId) : Fld := ⟨R.CNV_ILIM k, 0, 16⟩
/-- CNV_MAX.VMAX (IMG, RWS): Highest target in mV, 3,300–48,000; 0 selects 48,000; other values invalid for validation. -/
def F.CNV_MAX_VMAX (k : PortId) : Fld := ⟨R.CNV_MAX k, 16, 16⟩
/-- CNV_MAX.IMAX (IMG, RWS): Highest current limit in mA, 1–5,000; 0 selects 5,000; 5,001–8,191 invalid for validation. -/
def F.CNV_MAX_IMAX (k : PortId) : Fld := ⟨R.CNV_MAX k, 0, 13⟩
/-- CNV_STATUS.MODE (RO): 0 stopped; 1 buck; 2 buck-boost; 3 boost; 4 reverse. -/
def F.CNV_STATUS_MODE (k : PortId) : Fld := ⟨R.CNV_STATUS k, 28, 4⟩
/-- CNV_STATUS.CLIM (RO): In current limit. -/
def F.CNV_STATUS_CLIM (k : PortId) : Fld := ⟨R.CNV_STATUS k, 27, 1⟩
/-- CNV_STATUS.HEADROOM (RO): Under R246. -/
def F.CNV_STATUS_HEADROOM (k : PortId) : Fld := ⟨R.CNV_STATUS k, 26, 1⟩
/-- CNV_STATUS.RAMP (RO): Ramp position differs from the target. -/
def F.CNV_STATUS_RAMP (k : PortId) : Fld := ⟨R.CNV_STATUS k, 25, 1⟩
/-- CNV_STATUS.PKLIM (RO): Peak command at I_PK in the last frame. -/
def F.CNV_STATUS_PKLIM (k : PortId) : Fld := ⟨R.CNV_STATUS k, 24, 1⟩
/-- CNV_STATUS.DROP_OK (RO): Drop term valid under R237. -/
def F.CNV_STATUS_DROP_OK (k : PortId) : Fld := ⟨R.CNV_STATUS k, 23, 1⟩
/-- CNV_STATUS.VSET (RO): Ramp position in mV. -/
def F.CNV_STATUS_VSET (k : PortId) : Fld := ⟨R.CNV_STATUS k, 0, 16⟩
/-- CNV_MEAS.IOUT (RO): Delivered current of R235 in mA; 0 in reverse mode. -/
def F.CNV_MEAS_IOUT (k : PortId) : Fld := ⟨R.CNV_MEAS k, 16, 16⟩
/-- CNV_MEAS.VRCP (RO): VCSNS − GSNS, latest results, in mV. -/
def F.CNV_MEAS_VRCP (k : PortId) : Fld := ⟨R.CNV_MEAS k, 0, 16⟩
/-- CNV_DROP.DROP (RO): drop_mv of R237. -/
def F.CNV_DROP_DROP (k : PortId) : Fld := ⟨R.CNV_DROP k, 16, 16⟩
/-- CNV_DROP.IOFS (RO): Current-sense offset of R235, in 10 µV, two's complement. -/
def F.CNV_DROP_IOFS (k : PortId) : Fld := ⟨R.CNV_DROP k, 0, 16⟩
/-- CHK_CFG.WARN (IMG, RWS): Warning threshold in mΩ, 1–255; 0: no warning. -/
def F.CHK_CFG_WARN (k : PortId) : Fld := ⟨R.CHK_CFG k, 24, 8⟩
/-- CHK_CFG.P_CT (IMG, RWS): Contact power limit in 10 mW units, 1–255; 0: no derating. -/
def F.CHK_CFG_P_CT (k : PortId) : Fld := ⟨R.CHK_CFG k, 16, 8⟩
/-- CHK_CFG.DI (IMG, RWS): Current spread in 100 mA units, 5–40; 0 selects 10; 1–4 and 41–255 invalid for validation. -/
def F.CHK_CFG_DI (k : PortId) : Fld := ⟨R.CHK_CFG k, 8, 8⟩
/-- CHK_CFG.IMIN (IMG, RWS): Reading current minimum in 100 mA units, 1–50; 0 selects 10; 51–255 invalid for validation. -/
def F.CHK_CFG_IMIN (k : PortId) : Fld := ⟨R.CHK_CFG k, 0, 8⟩
/-- CHK_STATUS.LAST (RO): Last accepted result in mΩ; 0xFFFF none. -/
def F.CHK_STATUS_LAST (k : PortId) : Fld := ⟨R.CHK_STATUS k, 16, 16⟩
/-- CHK_STATUS.METHOD (RO): Method of LAST: 0 none; 1 partner; 2 receptacle-only. -/
def F.CHK_STATUS_METHOD (k : PortId) : Fld := ⟨R.CHK_STATUS k, 14, 2⟩
/-- CHK_STATUS.DERATED (RO): Cap of R252 in force. -/
def F.CHK_STATUS_DERATED (k : PortId) : Fld := ⟨R.CHK_STATUS k, 13, 1⟩
/-- CHK_STATUS.FAILED (RO): Under R253. -/
def F.CHK_STATUS_FAILED (k : PortId) : Fld := ⟨R.CHK_STATUS k, 12, 1⟩
/-- CHK_STATUS.COUNT (RO): Results accepted in the present operating day. -/
def F.CHK_STATUS_COUNT (k : PortId) : Fld := ⟨R.CHK_STATUS k, 0, 11⟩
/-- CHK_CAP.MED3 (RO): med3 of R252 in mΩ; 0xFFFF until three results. -/
def F.CHK_CAP_MED3 (k : PortId) : Fld := ⟨R.CHK_CAP k, 16, 16⟩
/-- CHK_CAP.CAP_MA (RO): Cap in mA; 0xFFFF: none. -/
def F.CHK_CAP_CAP_MA (k : PortId) : Fld := ⟨R.CHK_CAP k, 0, 16⟩
/-- CNV_FLAGS.DERATE (W1C): Cap set under R252; counter in CNV_FLAG_CNTk bits 31:24. -/
def F.CNV_FLAGS_DERATE (k : PortId) : Fld := ⟨R.CNV_FLAGS k, 3, 1⟩
/-- CNV_FLAGS.CHK_WARN (W1C): med3 at or above WARN; counter in bits 23:16. -/
def F.CNV_FLAGS_CHK_WARN (k : PortId) : Fld := ⟨R.CNV_FLAGS k, 2, 1⟩
/-- CNV_FLAGS.DRIVE (W1C): Fault 0x8k22 or 0x8k23; counter in bits 15:8. -/
def F.CNV_FLAGS_DRIVE (k : PortId) : Fld := ⟨R.CNV_FLAGS k, 1, 1⟩
/-- CNV_FLAGS.HEADROOM (W1C): Under R246; counter in bits 7:0. -/
def F.CNV_FLAGS_HEADROOM (k : PortId) : Fld := ⟨R.CNV_FLAGS k, 0, 1⟩
/-- BRK_CFG.CLASS (IMG, RWS): 0 class A; 1 class L. -/
def F.BRK_CFG_CLASS (k : PortId) : Fld := ⟨R.BRK_CFG k, 31, 1⟩
/-- BRK_CFG.NTC_EN (IMG, RWS): 1: receptacle thermistor fitted; window 33 + k enabled. -/
def F.BRK_CFG_NTC_EN (k : PortId) : Fld := ⟨R.BRK_CFG k, 30, 1⟩
/-- BRK_CFG.NPTS (IMG, RWS): Curve points, 1–8; 0 and 9–15 invalid for validation on a present port. -/
def F.BRK_CFG_NPTS (k : PortId) : Fld := ⟨R.BRK_CFG k, 24, 4⟩
/-- BRK_CFG.OV_PCT (IMG, RWS): Overvoltage margin in %, 5–20; 0 selects 10; other values invalid for validation. -/
def F.BRK_CFG_OV_PCT (k : PortId) : Fld := ⟨R.BRK_CFG k, 16, 8⟩
/-- BRK_CFG.COOL (IMG, RWS): Time for acc to cool from full scale to 0, in s, 1–255; 0 selects 60. -/
def F.BRK_CFG_COOL (k : PortId) : Fld := ⟨R.BRK_CFG k, 8, 8⟩
/-- BRK_CFG.ISC (IMG, RWS): I_SC in 100 mA units, 80–150; 0 selects 100; other values invalid for validation. -/
def F.BRK_CFG_ISC (k : PortId) : Fld := ⟨R.BRK_CFG k, 0, 8⟩
/-- BRK_PT.R (IMG, RWS): Current ratio in 1/64 of I_REF, 65–1,023. -/
def F.BRK_PT_R (k : PortId) (n : Nat) : Fld := ⟨R.BRK_PT k n, 16, 10⟩
/-- BRK_PT.E (IMG, RWS): Time exponent, 0–14; 15 invalid for validation. -/
def F.BRK_PT_E (k : PortId) (n : Nat) : Fld := ⟨R.BRK_PT k n, 12, 4⟩
/-- BRK_PT.M (IMG, RWS): Time mantissa; t = M × 2^E µs. -/
def F.BRK_PT_M (k : PortId) (n : Nat) : Fld := ⟨R.BRK_PT k n, 0, 12⟩
/-- BRK_SW.RON (IMG, RWS): Pair on-resistance in 0.1 mΩ, 10–255; 0–9 invalid for validation on a present port. -/
def F.BRK_SW_RON (k : PortId) : Fld := ⟨R.BRK_SW k, 24, 8⟩
/-- BRK_SW.PFB (IMG, RWS): P_FB in W, 2–40; 0 selects 10; other values invalid for validation. -/
def F.BRK_SW_PFB (k : PortId) : Fld := ⟨R.BRK_SW k, 16, 8⟩
/-- BRK_SW.TSOA (IMG, RWS): Closing time in ms, 1–50; 0 selects 10; other values invalid for validation. -/
def F.BRK_SW_TSOA (k : PortId) : Fld := ⟨R.BRK_SW k, 8, 8⟩
/-- BRK_SW.RSNS9 (IMG, RWS): Port 9 only: sense resistor in 0.1 mΩ, 50–250; other values invalid for validation; reserved on ports 1–8. -/
def F.BRK_SW_RSNS9 (k : PortId) : Fld := ⟨R.BRK_SW k, 0, 8⟩
/-- BRK_NTC.OPEN (IMG, RWS): Open-thermistor code, class N bits 13:2. -/
def F.BRK_NTC_OPEN (k : PortId) : Fld := ⟨R.BRK_NTC k, 16, 12⟩
/-- BRK_NTC.HOT (IMG, RWS): Over-temperature code; must be below OPEN where NTC_EN = 1, otherwise invalid for validation. -/
def F.BRK_NTC_HOT (k : PortId) : Fld := ⟨R.BRK_NTC k, 0, 12⟩
/-- BRK_RETRY.TOFF (IMG, RWS): Shortest off-time in 100 ms units, 1–255; 0 selects 10 (1.0 s). -/
def F.BRK_RETRY_TOFF (k : PortId) : Fld := ⟨R.BRK_RETRY k, 8, 8⟩
/-- BRK_RETRY.LIMIT (IMG, RWS): Retry limit, 1–255; 0: unlimited. -/
def F.BRK_RETRY_LIMIT (k : PortId) : Fld := ⟨R.BRK_RETRY k, 0, 8⟩
/-- BRK_STATUS.STATE (RO): 0 open; 1 pre-close test; 2 closing; 3 closed; 4 closed in allowance; 5 off check; 6 retry wait; 7 …. -/
def F.BRK_STATUS_STATE (k : PortId) : Fld := ⟨R.BRK_STATUS k, 28, 4⟩
/-- BRK_STATUS.LAST_CAUSE (RO): Cause byte, 0x30–0x3B, of the last trip or hold; 0 none. -/
def F.BRK_STATUS_LAST_CAUSE (k : PortId) : Fld := ⟨R.BRK_STATUS k, 16, 8⟩
/-- BRK_STATUS.RETRIES (RO): Retry counter of R284, saturating at 255. -/
def F.BRK_STATUS_RETRIES (k : PortId) : Fld := ⟨R.BRK_STATUS k, 8, 8⟩
/-- BRK_STATUS.ACC (RO): acc in 1/256 of full scale, saturating at 255. -/
def F.BRK_STATUS_ACC (k : PortId) : Fld := ⟨R.BRK_STATUS k, 0, 8⟩
/-- BRK_TIME.T_OFF (RO): Off-time remaining, in 100 ms units. -/
def F.BRK_TIME_T_OFF (k : PortId) : Fld := ⟨R.BRK_TIME k, 16, 16⟩
/-- BRK_TIME.T_ON (RO): t_on of the last trip, in ms. -/
def F.BRK_TIME_T_ON (k : PortId) : Fld := ⟨R.BRK_TIME k, 0, 16⟩
/-- BRK_FLAGS.SW_DEGRADED (W1C): On-drop warning of R287; counter in BRK_FLAG_CNTk bits 31:24. -/
def F.BRK_FLAGS_SW_DEGRADED (k : PortId) : Fld := ⟨R.BRK_FLAGS k, 3, 1⟩
/-- BRK_FLAGS.HELD (W1C): Hold of Table BRK-4 or R287; counter in bits 23:16. -/
def F.BRK_FLAGS_HELD (k : PortId) : Fld := ⟨R.BRK_FLAGS k, 2, 1⟩
/-- BRK_FLAGS.LATCHED (W1C): Port latched off; counter in bits 15:8. -/
def F.BRK_FLAGS_LATCHED (k : PortId) : Fld := ⟨R.BRK_FLAGS k, 1, 1⟩
/-- BRK_FLAGS.TRIP (W1C): Trip under R282; counter in bits 7:0. -/
def F.BRK_FLAGS_TRIP (k : PortId) : Fld := ⟨R.BRK_FLAGS k, 0, 1⟩
/-- SQ_UP.UP (IMG, RWS): 0: not in the power-up table; 1–16: step UP − 1; 17–31 invalid for validation. -/
def F.SQ_UP_UP (j : RailId) : Fld := ⟨R.SQ_UP j, 27, 5⟩
/-- SQ_UP.T_RISE (IMG, RWS): Rise timeout in ms, 1–255; 0 selects 10. -/
def F.SQ_UP_T_RISE (j : RailId) : Fld := ⟨R.SQ_UP j, 16, 8⟩
/-- SQ_UP.UP_DLY (IMG, RWS): Delay after the step start in 0.1 ms, 0–255. -/
def F.SQ_UP_UP_DLY (j : RailId) : Fld := ⟨R.SQ_UP j, 8, 8⟩
/-- SQ_UP.PG_USE (IMG, RWS): 1: SQPGj is part of in regulation. -/
def F.SQ_UP_PG_USE (j : RailId) : Fld := ⟨R.SQ_UP j, 0, 1⟩
/-- SQ_DN.DN (IMG, RWS): 0: not in the power-down table; 1–16: step DN − 1; 17–31 invalid for validation. -/
def F.SQ_DN_DN (j : RailId) : Fld := ⟨R.SQ_DN j, 27, 5⟩
/-- SQ_DN.T_FALL (IMG, RWS): tFALL in ms, 1–500; 0 selects 50; 501–511 invalid for validation. -/
def F.SQ_DN_T_FALL (j : RailId) : Fld := ⟨R.SQ_DN j, 18, 9⟩
/-- SQ_DN.DN_DLY (IMG, RWS): Delay after the step start in 0.1 ms, 0–255. -/
def F.SQ_DN_DN_DLY (j : RailId) : Fld := ⟨R.SQ_DN j, 8, 8⟩
/-- SQ_WIN.KEEP (IMG, RWS): 1: rail kept in Winter and Deep Winter. -/
def F.SQ_WIN_KEEP (j : RailId) : Fld := ⟨R.SQ_WIN j, 8, 1⟩
/-- SQ_WIN.DIS (IMG, RWS): 1: discharge code on Winter release; 0: high impedance. -/
def F.SQ_WIN_DIS (j : RailId) : Fld := ⟨R.SQ_WIN j, 0, 1⟩
/-- SQ_STATUS.RSTATE (RO): 0 off; 1 waiting; 2 rising; 3 on; 4 falling; 5 discharging; 6 discharge fault; 7 collapsed; 8 kept; 9 absent. -/
def F.SQ_STATUS_RSTATE (j : RailId) : Fld := ⟨R.SQ_STATUS j, 28, 4⟩
/-- SQ_STATUS.T_LAST (RO): Last rise or fall time in ms, saturating at 4,095. -/
def F.SQ_STATUS_T_LAST (j : RailId) : Fld := ⟨R.SQ_STATUS j, 16, 12⟩
/-- SQ_STATUS.PG (RO): SQPGj level. -/
def F.SQ_STATUS_PG (j : RailId) : Fld := ⟨R.SQ_STATUS j, 2, 1⟩
/-- SQ_STATUS.MG_DIS (RO): Discharge code applied. -/
def F.SQ_STATUS_MG_DIS (j : RailId) : Fld := ⟨R.SQ_STATUS j, 1, 1⟩
/-- SQ_STATUS.EN (RO): SQENj level. -/
def F.SQ_STATUS_EN (j : RailId) : Fld := ⟨R.SQ_STATUS j, 0, 1⟩
/-- SQ_NOM.OFF_MV (IMG, RWS): Off threshold in mV; limited by R359. -/
def F.SQ_NOM_OFF_MV (j : RailId) : Fld := ⟨R.SQ_NOM j, 16, 16⟩
/-- SQ_NOM.VNOM (IMG, RWS): Nominal voltage in mV, 300–5,500; other values invalid for validation on a present rail. -/
def F.SQ_NOM_VNOM (j : RailId) : Fld := ⟨R.SQ_NOM j, 0, 16⟩
/-- SQ_THR.OVF (IMG, RWS): OV fault offset in 0.25 %, 1–100. -/
def F.SQ_THR_OVF (j : RailId) : Fld := ⟨R.SQ_THR j, 24, 8⟩
/-- SQ_THR.OVW (IMG, RWS): OV warning offset in 0.25 %. -/
def F.SQ_THR_OVW (j : RailId) : Fld := ⟨R.SQ_THR j, 16, 8⟩
/-- SQ_THR.UVW (IMG, RWS): UV warning offset in 0.25 %. -/
def F.SQ_THR_UVW (j : RailId) : Fld := ⟨R.SQ_THR j, 8, 8⟩
/-- SQ_THR.UVF (IMG, RWS): UV fault offset in 0.25 %, 1–100. -/
def F.SQ_THR_UVF (j : RailId) : Fld := ⟨R.SQ_THR j, 0, 8⟩
/-- SQ_SUP.REG (IMG, RWS): In-regulation offset in 0.25 %. -/
def F.SQ_SUP_REG (j : RailId) : Fld := ⟨R.SQ_SUP j, 24, 8⟩
/-- SQ_SUP.HYST (IMG, RWS): Warning hysteresis in 0.25 %, 1–15; 0 selects 2. -/
def F.SQ_SUP_HYST (j : RailId) : Fld := ⟨R.SQ_SUP j, 20, 4⟩
/-- SQ_SUP.WFILT (IMG, RWS): Warning filter in frames, 1–8; 0 selects 2; 9–15 invalid for validation. -/
def F.SQ_SUP_WFILT (j : RailId) : Fld := ⟨R.SQ_SUP j, 16, 4⟩
/-- SQ_SUP.FFILT (IMG, RWS): Fault filter, (FFILT + 1) × 0.5 µs. -/
def F.SQ_SUP_FFILT (j : RailId) : Fld := ⟨R.SQ_SUP j, 12, 4⟩
/-- SQ_SUP.FCLASS (IMG, RWS): 0: UV, OV and current faults fatal; 1: contained. -/
def F.SQ_SUP_FCLASS (j : RailId) : Fld := ⟨R.SQ_SUP j, 8, 1⟩
/-- SQ_MGCAL.LIMIT (IMG, RWS): Largest margin in 0.1 %, 0–100; 0: margining disabled; 101–255 invalid for validation. -/
def F.SQ_MGCAL_LIMIT (j : RailId) : Fld := ⟨R.SQ_MGCAL j, 24, 8⟩
/-- SQ_MGCAL.SLEW (IMG, RWS): DAC codes per frame, 1–15; 0 selects 1. -/
def F.SQ_MGCAL_SLEW (j : RailId) : Fld := ⟨R.SQ_MGCAL j, 20, 4⟩
/-- SQ_MGCAL.DIR (IMG, RWS): 0: output falls as the code rises; 1: output rises. -/
def F.SQ_MGCAL_DIR (j : RailId) : Fld := ⟨R.SQ_MGCAL j, 16, 1⟩
/-- SQ_MGCAL.ZERO (IMG, RWS): Code equal to the regulator's feedback voltage. -/
def F.SQ_MGCAL_ZERO (j : RailId) : Fld := ⟨R.SQ_MGCAL j, 0, 10⟩
/-- SQ_MG.TARGET (RWA): Margin target in 0.1 %, two's complement, under R367. -/
def F.SQ_MG_TARGET (j : RailId) : Fld := ⟨R.SQ_MG j, 0, 8⟩
/-- SQ_MGST.OVW_ACT (RO): OV warning active under R362. -/
def F.SQ_MGST_OVW_ACT (j : RailId) : Fld := ⟨R.SQ_MGST j, 31, 1⟩
/-- SQ_MGST.UVW_ACT (RO): UV warning active. -/
def F.SQ_MGST_UVW_ACT (j : RailId) : Fld := ⟨R.SQ_MGST j, 30, 1⟩
/-- SQ_MGST.UV_ARMED (RO): UV thresholds armed under R360. -/
def F.SQ_MGST_UV_ARMED (j : RailId) : Fld := ⟨R.SQ_MGST j, 29, 1⟩
/-- SQ_MGST.DRIVING (RO): SQMGj driven by the DAC. -/
def F.SQ_MGST_DRIVING (j : RailId) : Fld := ⟨R.SQ_MGST j, 28, 1⟩
/-- SQ_MGST.MOVING (RO): Margin moving under R368. -/
def F.SQ_MGST_MOVING (j : RailId) : Fld := ⟨R.SQ_MGST j, 27, 1⟩
/-- SQ_MGST.CLAMPED (RO): Last TARGET clamped to LIMIT. -/
def F.SQ_MGST_CLAMPED (j : RailId) : Fld := ⟨R.SQ_MGST j, 26, 1⟩
/-- SQ_MGST.POS (RO): Margin position in 0.1 %, two's complement. -/
def F.SQ_MGST_POS (j : RailId) : Fld := ⟨R.SQ_MGST j, 18, 8⟩
/-- SQ_MGST.DAC (RO): Present DAC code. -/
def F.SQ_MGST_DAC (j : RailId) : Fld := ⟨R.SQ_MGST j, 0, 10⟩
/-- SQ_EFF.OVF_MV (RO): OV fault threshold in force, mV. -/
def F.SQ_EFF_OVF_MV (j : RailId) : Fld := ⟨R.SQ_EFF j, 16, 16⟩
/-- SQ_EFF.UVF_MV (RO): UV fault threshold in force, mV. -/
def F.SQ_EFF_UVF_MV (j : RailId) : Fld := ⟨R.SQ_EFF j, 0, 16⟩
/-- SQ_EFF2.OVW_MV (RO): OV warning threshold in force, mV. -/
def F.SQ_EFF2_OVW_MV (j : RailId) : Fld := ⟨R.SQ_EFF2 j, 16, 16⟩
/-- SQ_EFF2.UVW_MV (RO): UV warning threshold in force, mV. -/
def F.SQ_EFF2_UVW_MV (j : RailId) : Fld := ⟨R.SQ_EFF2 j, 0, 16⟩
/-- SQ_MEAS.REG_MV (RO): In-regulation threshold in force, mV. -/
def F.SQ_MEAS_REG_MV (j : RailId) : Fld := ⟨R.SQ_MEAS j, 16, 16⟩
/-- SQ_MEAS.V_MV (RO): Mean of the last frame's SQVS results, mV. -/
def F.SQ_MEAS_V_MV (j : RailId) : Fld := ⟨R.SQ_MEAS j, 0, 16⟩
/-- SQ_FLAGS.MARGIN (W1C): Fault 0x9j05; counter in SQ_FLAG_CNTj bits 31:24. -/
def F.SQ_FLAGS_MARGIN (j : RailId) : Fld := ⟨R.SQ_FLAGS j, 3, 1⟩
/-- SQ_FLAGS.FAULT (W1C): UV, OV or current fault of the rail; counter in bits 23:16. -/
def F.SQ_FLAGS_FAULT (j : RailId) : Fld := ⟨R.SQ_FLAGS j, 2, 1⟩
/-- SQ_FLAGS.OV_WARN (W1C): OV warning raised; counter in bits 15:8. -/
def F.SQ_FLAGS_OV_WARN (j : RailId) : Fld := ⟨R.SQ_FLAGS j, 1, 1⟩
/-- SQ_FLAGS.UV_WARN (W1C): UV warning raised; counter in bits 7:0. -/
def F.SQ_FLAGS_UV_WARN (j : RailId) : Fld := ⟨R.SQ_FLAGS j, 0, 1⟩
/-- SQC_CFG.GATE_TO (IMG, RWS): Down-gate timeout in ms, 1–255; 0 selects 20. -/
def F.SQC_CFG_GATE_TO : Fld := ⟨R.SQC_CFG, 24, 8⟩
/-- SQC_CFG.NDN (IMG, RWS): Power-down steps, 1–16; 0 selects 1; 17–31 invalid for validation. -/
def F.SQC_CFG_NDN : Fld := ⟨R.SQC_CFG, 8, 5⟩
/-- SQC_CFG.NUP (IMG, RWS): Power-up steps, 1–16; 0 selects 1; 17–31 invalid for validation. -/
def F.SQC_CFG_NUP : Fld := ⟨R.SQC_CFG, 0, 5⟩
/-- SQC_STATUS.PHASE (RO): 0 idle; 1 power-up; 2 on; 3 power-down; 4 power-down complete; 5 Winter table; 6 Deep Winter table. -/
def F.SQC_STATUS_PHASE : Fld := ⟨R.SQC_STATUS, 28, 4⟩
/-- SQC_STATUS.GATE_WAIT (RO): Waiting at a gate. -/
def F.SQC_STATUS_GATE_WAIT : Fld := ⟨R.SQC_STATUS, 24, 1⟩
/-- SQC_STATUS.STEP (RO): Step in progress. -/
def F.SQC_STATUS_STEP : Fld := ⟨R.SQC_STATUS, 20, 4⟩
/-- SQC_STATUS.ON (RO): Bit j: SQENj asserted. -/
def F.SQC_STATUS_ON : Fld := ⟨R.SQC_STATUS, 0, 16⟩
/-- SQC_RAILS.INREG (RO): Bit j: rail j in regulation. -/
def F.SQC_RAILS_INREG : Fld := ⟨R.SQC_RAILS, 16, 16⟩
/-- SQC_RAILS.BELOW (RO): Bit j: rail j below off. -/
def F.SQC_RAILS_BELOW : Fld := ⟨R.SQC_RAILS, 0, 16⟩
/-- SQC_UP.GATE (IMG, RWS): 1: step waits for its chain gate. -/
def F.SQC_UP_GATE (n : Nat) : Fld := ⟨R.SQC_UP n, 31, 1⟩
/-- SQC_UP.DLY (IMG, RWS): Step delay in ms, 0–255. -/
def F.SQC_UP_DLY (n : Nat) : Fld := ⟨R.SQC_UP n, 16, 8⟩
/-- SQC_DN.GATE (IMG, RWS): 1: step waits for its chain gate. -/
def F.SQC_DN_GATE (n : Nat) : Fld := ⟨R.SQC_DN n, 31, 1⟩
/-- SQC_DN.DLY (IMG, RWS): Step delay in ms, 0–255. -/
def F.SQC_DN_DLY (n : Nat) : Fld := ⟨R.SQC_DN n, 16, 8⟩
/-- SQC_RST.WATCH (IMG, RWS): Bit j: rail j watched. -/
def F.SQC_RST_WATCH (n : Nat) : Fld := ⟨R.SQC_RST n, 16, 16⟩
/-- SQC_RST.STRETCH (IMG, RWS): Stretch in ms, 1–1,000; 0 selects 100; 1,001–1,023 invalid for validation. -/
def F.SQC_RST_STRETCH (n : Nat) : Fld := ⟨R.SQC_RST n, 0, 10⟩
/-- SQC_RST_ST.STRETCHING (RO): Bit n: stretch of RSTOn_N running. -/
def F.SQC_RST_ST_STRETCHING : Fld := ⟨R.SQC_RST_ST, 4, 4⟩
/-- SQC_RST_ST.RELEASED (RO): Bit n: RSTOn_N released. -/
def F.SQC_RST_ST_RELEASED : Fld := ⟨R.SQC_RST_ST, 0, 4⟩
/-- SQC_TRC_SEL.IDX (RW): Entry to read. -/
def F.SQC_TRC_SEL_IDX : Fld := ⟨R.SQC_TRC_SEL, 0, 6⟩
/-- SQC_TRC_HEAD.NEXT (RO): Entry written next. -/
def F.SQC_TRC_HEAD_NEXT : Fld := ⟨R.SQC_TRC_HEAD, 16, 6⟩
/-- SQC_TRC_HEAD.TOTAL (RO): Entries written since power-on reset, saturating at 0xFFFF. -/
def F.SQC_TRC_HEAD_TOTAL : Fld := ⟨R.SQC_TRC_HEAD, 0, 16⟩
/-- SQC_TRC0.W0 (RO): Word 0 of entry IDX. -/
def F.SQC_TRC0_W0 : Fld := ⟨R.SQC_TRC0, 0, 32⟩
/-- SQC_TRC1.W1 (RO): Word 1 of entry IDX. -/
def F.SQC_TRC1_W1 : Fld := ⟨R.SQC_TRC1, 0, 32⟩
/-- SQC_FLAGS.GATE_TO (W1C): Down-gate timeout; counter in SQC_FLAG_CNT bits 31:24. -/
def F.SQC_FLAGS_GATE_TO : Fld := ⟨R.SQC_FLAGS, 3, 1⟩
/-- SQC_FLAGS.COLLAPSE (W1C): Collapse out of order; counter in bits 23:16. -/
def F.SQC_FLAGS_COLLAPSE : Fld := ⟨R.SQC_FLAGS, 2, 1⟩
/-- SQC_FLAGS.DISCHARGE (W1C): Discharge code applied under R323; counter in bits 15:8. -/
def F.SQC_FLAGS_DISCHARGE : Fld := ⟨R.SQC_FLAGS, 1, 1⟩
/-- SQC_FLAGS.RISE_TO (W1C): Rise timeout; counter in bits 7:0. -/
def F.SQC_FLAGS_RISE_TO : Fld := ⟨R.SQC_FLAGS, 0, 1⟩
/-- SQI_CFG.RSNS (IMG, RWS): Sense resistor in 0.01 mΩ, 50–10,000; other values invalid for validation where EN = 1. -/
def F.SQI_CFG_RSNS (n : Nat) : Fld := ⟨R.SQI_CFG n, 16, 16⟩
/-- SQI_CFG.RAIL (IMG, RWS): Rail served. -/
def F.SQI_CFG_RAIL (n : Nat) : Fld := ⟨R.SQI_CFG n, 12, 4⟩
/-- SQI_CFG.EN (IMG, RWS): 1: channel armed under R365. -/
def F.SQI_CFG_EN (n : Nat) : Fld := ⟨R.SQI_CFG n, 11, 1⟩
/-- SQI_CFG.FILT (IMG, RWS): Window filter in 0.5 µs, 1–200; 0 selects 10; 201–255 invalid for validation. -/
def F.SQI_CFG_FILT (n : Nat) : Fld := ⟨R.SQI_CFG n, 0, 8⟩
/-- SQI_THR.IOC (IMG, RWS): Overcurrent in 10 mA, 1–65,535. -/
def F.SQI_THR_IOC (n : Nat) : Fld := ⟨R.SQI_THR n, 16, 16⟩
/-- SQI_THR.IREV (IMG, RWS): Reverse current in 100 mA, 1–255; 0 selects 10. -/
def F.SQI_THR_IREV (n : Nat) : Fld := ⟨R.SQI_THR n, 8, 8⟩
/-- SQI_THR.OCW (IMG, RWS): Warning level in % of IOC, 50–99; 0 selects 90; other values invalid for validation. -/
def F.SQI_THR_OCW (n : Nat) : Fld := ⟨R.SQI_THR n, 0, 8⟩
/-- SQI_MEAS.I_FRAME (RO): Last frame's mean current in 10 mA, two's complement. -/
def F.SQI_MEAS_I_FRAME (n : Nat) : Fld := ⟨R.SQI_MEAS n, 16, 16⟩
/-- SQI_MEAS.I_SF (RO): Last superframe's mean current in 10 mA, two's complement. -/
def F.SQI_MEAS_I_SF (n : Nat) : Fld := ⟨R.SQI_MEAS n, 0, 16⟩
/-- SQI_FLAGS.EVT (W1C): Bit m: warning or fault on channel m; counter in SQI_FLAG_CNT bits 8m + 7 to 8m. -/
def F.SQI_FLAGS_EVT : Fld := ⟨R.SQI_FLAGS, 0, 4⟩
/-- AXL_CFG.ROOT (IMG, RWS): Session root key index, 0–7. -/
def F.AXL_CFG_ROOT : Fld := ⟨R.AXL_CFG, 8, 3⟩
/-- AXL_CFG.SIZE (IMG, RWS): Chain size minus 1. -/
def F.AXL_CFG_SIZE : Fld := ⟨R.AXL_CFG, 0, 2⟩
/-- AXL_ID0.ID_LO (IMG, RWS): CHAIN_ID bits 31:0. -/
def F.AXL_ID0_ID_LO : Fld := ⟨R.AXL_ID0, 0, 32⟩
/-- AXL_ID1.ID_HI (IMG, RWS): CHAIN_ID bits 63:32. -/
def F.AXL_ID1_ID_HI : Fld := ⟨R.AXL_ID1, 0, 32⟩
/-- AXL_STATUS.POS (RO): Latched CHAIN_POS. -/
def F.AXL_STATUS_POS : Fld := ⟨R.AXL_STATUS, 30, 2⟩
/-- AXL_STATUS.MASTER (RO): Position 0 with the link enabled. -/
def F.AXL_STATUS_MASTER : Fld := ⟨R.AXL_STATUS, 29, 1⟩
/-- AXL_STATUS.JOINED (RO): Slave: joined under R339; master: ARM set. -/
def F.AXL_STATUS_JOINED : Fld := ⟨R.AXL_STATUS, 28, 1⟩
/-- AXL_STATUS.CASC_IN (RO): Filtered CASC_IN. -/
def F.AXL_STATUS_CASC_IN : Fld := ⟨R.AXL_STATUS, 27, 1⟩
/-- AXL_STATUS.CASC_OUT (RO): CASC_OUT level. -/
def F.AXL_STATUS_CASC_OUT : Fld := ⟨R.AXL_STATUS, 26, 1⟩
/-- AXL_STATUS.CASC_ARMED (RO): CASC check armed. -/
def F.AXL_STATUS_CASC_ARMED : Fld := ⟨R.AXL_STATUS, 25, 1⟩
/-- AXL_STATUS.GO_UP (RO): Last GO_UP sent or accepted. -/
def F.AXL_STATUS_GO_UP : Fld := ⟨R.AXL_STATUS, 20, 4⟩
/-- AXL_STATUS.UPV (RO): Last UPV. -/
def F.AXL_STATUS_UPV : Fld := ⟨R.AXL_STATUS, 19, 1⟩
/-- AXL_STATUS.GO_DN (RO): Last GO_DN. -/
def F.AXL_STATUS_GO_DN : Fld := ⟨R.AXL_STATUS, 15, 4⟩
/-- AXL_STATUS.DNV (RO): Last DNV. -/
def F.AXL_STATUS_DNV : Fld := ⟨R.AXL_STATUS, 14, 1⟩
/-- AXL_STATUS.LINK (RO): Bit n: a valid frame from position n within the last 4 cycles; the own bit reads 1. -/
def F.AXL_STATUS_LINK : Fld := ⟨R.AXL_STATUS, 0, 4⟩
/-- AXL_CYCL.CYC_LO (RO): CYC[31:0] of the present cycle. -/
def F.AXL_CYCL_CYC_LO : Fld := ⟨R.AXL_CYCL, 0, 32⟩
/-- AXL_CYCH.CYC_HI (RO): CYC[47:32]. -/
def F.AXL_CYCH_CYC_HI : Fld := ⟨R.AXL_CYCH, 0, 16⟩
/-- AXL_PEER.DATA (RO): Bits 79:64 of the last valid frame from position n. -/
def F.AXL_PEER_DATA (n : Nat) : Fld := ⟨R.AXL_PEER n, 16, 16⟩
/-- AXL_PEER.STEP (RO): Bits 87:80 of that frame. -/
def F.AXL_PEER_STEP (n : Nat) : Fld := ⟨R.AXL_PEER n, 8, 8⟩
/-- AXL_PEER.AGE (RO): Cycles since that frame, saturating at 255. -/
def F.AXL_PEER_AGE (n : Nat) : Fld := ⟨R.AXL_PEER n, 0, 8⟩
/-- AXL_FLAGS.CASC (W1C): CASC chain fault; counter in AXL_FLAG_CNT bits 31:24. -/
def F.AXL_FLAGS_CASC : Fld := ⟨R.AXL_FLAGS, 3, 1⟩
/-- AXL_FLAGS.LOST (W1C): Link lost; counter in bits 23:16. -/
def F.AXL_FLAGS_LOST : Fld := ⟨R.AXL_FLAGS, 2, 1⟩
/-- AXL_FLAGS.CYC_BAD (W1C): Frame discarded for its CYC; counter in bits 15:8. -/
def F.AXL_FLAGS_CYC_BAD : Fld := ⟨R.AXL_FLAGS, 1, 1⟩
/-- AXL_FLAGS.MAC (W1C): Frame discarded for its MAC; counter in bits 7:0. -/
def F.AXL_FLAGS_MAC : Fld := ⟨R.AXL_FLAGS, 0, 1⟩
/-- FFL_STATUS.COUNT (RO): Valid records found at the scan, plus those written since. -/
def F.FFL_STATUS_COUNT : Fld := ⟨R.FFL_STATUS, 20, 12⟩
/-- FFL_STATUS.BUSY (RO): A record being written. -/
def F.FFL_STATUS_BUSY : Fld := ⟨R.FFL_STATUS, 15, 1⟩
/-- FFL_STATUS.FETCH (RO): FFL_RECn being loaded. -/
def F.FFL_STATUS_FETCH : Fld := ⟨R.FFL_STATUS, 14, 1⟩
/-- FFL_STATUS.TORN (RO): Under R376. -/
def F.FFL_STATUS_TORN : Fld := ⟨R.FFL_STATUS, 13, 1⟩
/-- FFL_STATUS.OPEN (RO): Under R376. -/
def F.FFL_STATUS_OPEN : Fld := ⟨R.FFL_STATUS, 12, 1⟩
/-- FFL_STATUS.SCANNED (RO): Scan complete. -/
def F.FFL_STATUS_SCANNED : Fld := ⟨R.FFL_STATUS, 11, 1⟩
/-- FFL_STATUS.NEWEST (RO): Slot of the newest record. -/
def F.FFL_STATUS_NEWEST : Fld := ⟨R.FFL_STATUS, 0, 11⟩
/-- FFL_SEL.BACK (RW): 1: SLOT counts back from the newest record, 0 being the newest. -/
def F.FFL_SEL_BACK : Fld := ⟨R.FFL_SEL, 16, 1⟩
/-- FFL_SEL.SLOT (RW): Slot to load. -/
def F.FFL_SEL_SLOT : Fld := ⟨R.FFL_SEL, 0, 11⟩
/-- FFL_LASTNO.RECNO (RO): RECNO of the newest record; 0 for an empty log. -/
def F.FFL_LASTNO_RECNO : Fld := ⟨R.FFL_LASTNO, 0, 32⟩
/-- FFL_FLAGS.WRITE_FAIL (W1C): Fault 0xAA11; counter in FFL_FLAG_CNT bits 15:8. -/
def F.FFL_FLAGS_WRITE_FAIL : Fld := ⟨R.FFL_FLAGS, 1, 1⟩
/-- FFL_FLAGS.WRITTEN (W1C): Record written; counter in bits 7:0. -/
def F.FFL_FLAGS_WRITTEN : Fld := ⟨R.FFL_FLAGS, 0, 1⟩
/-- FFL_REC.WORD (RO): Word n of the loaded slot, as stored. -/
def F.FFL_REC_WORD (n : Nat) : Fld := ⟨R.FFL_REC n, 0, 32⟩
/-- MSR_CFG.GP_FILT (IMG, RWS): Filter of windows 55–63, in fabric cycles, 0–255. -/
def F.MSR_CFG_GP_FILT : Fld := ⟨R.MSR_CFG, 16, 8⟩
/-- MSR_CFG.DUAL_TOL (IMG, RWS): Dual-channel tolerance in LSB, 1–255; 0 selects 32. -/
def F.MSR_CFG_DUAL_TOL : Fld := ⟨R.MSR_CFG, 8, 8⟩
/-- MSR_CFG.DRIFT_TOL (IMG, RWS): CHECK tolerance in LSB, 1–64; 0 selects 16; values above 64 act as 64. -/
def F.MSR_CFG_DRIFT_TOL : Fld := ⟨R.MSR_CFG, 0, 8⟩
/-- MSR_SAFE.CH (IMG, RWS): Bit i: channel 32n + i is marked; in n = 4, bits 31:16 are reserved and bits 15:0 must be 0, since …. -/
def F.MSR_SAFE_CH (n : Nat) : Fld := ⟨R.MSR_SAFE n, 0, 32⟩
/-- MSR_DUAL.CH (IMG, RWS): Bit i: channel 32n + i is marked; in n = 4, bits 31:16 are reserved and bits 15:0 must be 0, since …. -/
def F.MSR_DUAL_CH (n : Nat) : Fld := ⟨R.MSR_DUAL n, 0, 32⟩
/-- MSR_GPW.HI (IMG, RWS): Upper threshold code. -/
def F.MSR_GPW_HI (n : Nat) : Fld := ⟨R.MSR_GPW n, 20, 12⟩
/-- MSR_GPW.LO (IMG, RWS): Lower threshold code. -/
def F.MSR_GPW_LO (n : Nat) : Fld := ⟨R.MSR_GPW n, 8, 12⟩
/-- MSR_GPW.CHAN (IMG, RWS): Channel 0x00–0x7F; 0xFF disables the window; any other value is invalid for validation. -/
def F.MSR_GPW_CHAN (n : Nat) : Fld := ⟨R.MSR_GPW n, 0, 8⟩
/-- MSR_PEEK_SEL.CHAN (RW): Channel to peek. -/
def F.MSR_PEEK_SEL_CHAN : Fld := ⟨R.MSR_PEEK_SEL, 0, 8⟩
/-- MSR_PEEK.AGE (RO): Frames since that result, saturating at 0xFFFF; 0xFFFF also when never converted. -/
def F.MSR_PEEK_AGE : Fld := ⟨R.MSR_PEEK, 16, 16⟩
/-- MSR_PEEK.ADC (RO): ADC that made it. -/
def F.MSR_PEEK_ADC : Fld := ⟨R.MSR_PEEK, 14, 2⟩
/-- MSR_PEEK.RESULT (RO): Last non-discarded result of CHAN. -/
def F.MSR_PEEK_RESULT : Fld := ⟨R.MSR_PEEK, 0, 14⟩
/-- MSR_CMP_ST0.OUT (RO): Bit i: window 32 × (0 or 1) + i is outside now. -/
def F.MSR_CMP_ST0_OUT : Fld := ⟨R.MSR_CMP_ST0, 0, 32⟩
/-- MSR_CMP_ST1.OUT (RO): Bit i: window 32 + i is outside now. -/
def F.MSR_CMP_ST1_OUT : Fld := ⟨R.MSR_CMP_ST1, 0, 32⟩
/-- MSR_ADC.CHECK_MEAN (RO): Mean of the last superframe's CHECK results, in 1/4 LSB. -/
def F.MSR_ADC_CHECK_MEAN (n : Nat) : Fld := ⟨R.MSR_ADC n, 16, 16⟩
/-- MSR_ADC.CHECK_TRIM (RO): Expected CHECK code. -/
def F.MSR_ADC_CHECK_TRIM (n : Nat) : Fld := ⟨R.MSR_ADC n, 0, 14⟩
/-- MSR_FLAGS.CMP (W1C): Window disagreed with ADC for one superframe; counter in MSR_FLAG_CNT bits 31:24. -/
def F.MSR_FLAGS_CMP : Fld := ⟨R.MSR_FLAGS, 3, 1⟩
/-- MSR_FLAGS.DUAL (W1C): Dual check failed for one superframe; counter in bits 23:16. -/
def F.MSR_FLAGS_DUAL : Fld := ⟨R.MSR_FLAGS, 2, 1⟩
/-- MSR_FLAGS.DRIFT (W1C): CHECK mean outside DRIFT_TOL for one superframe; counter in bits 15:8. -/
def F.MSR_FLAGS_DRIFT : Fld := ⟨R.MSR_FLAGS, 1, 1⟩
/-- MSR_FLAGS.GROSS (W1C): Gross implausibility in one frame; counter in bits 7:0. -/
def F.MSR_FLAGS_GROSS : Fld := ⟨R.MSR_FLAGS, 0, 1⟩
/-- SCH_CTRL.SWAP_REQ (RWA): Write 1: request check and swap; reads 1 while BUSY; a write of 1 while BUSY is ignored and sets …. -/
def F.SCH_CTRL_SWAP_REQ : Fld := ⟨R.SCH_CTRL, 0, 1⟩
/-- SCH_STATUS.BUSY (RO): 1: a check is requested or running, or an accepted bank waits for its swap boundary, under R129. -/
def F.SCH_STATUS_BUSY : Fld := ⟨R.SCH_STATUS, 28, 1⟩
/-- SCH_STATUS.LAST_RESULT (RO): 0 none; 1 accepted; 2 entries; 3 coverage; 4 CRC. -/
def F.SCH_STATUS_LAST_RESULT : Fld := ⟨R.SCH_STATUS, 24, 4⟩
/-- SCH_STATUS.ACTIVE (RO): 0 default schedule; 1 bank A; 2 bank B. -/
def F.SCH_STATUS_ACTIVE : Fld := ⟨R.SCH_STATUS, 16, 2⟩
/-- SCH_STATUS.SWAPS (RO): Accepted swaps since reset, saturating at 0xFFFF. -/
def F.SCH_STATUS_SWAPS : Fld := ⟨R.SCH_STATUS, 0, 16⟩
/-- SCH_REFUSE.CHAN (RO): Entries: CHAN of the first invalid entry in the execution order of R127; coverage: the lowest channel code …. -/
def F.SCH_REFUSE_CHAN : Fld := ⟨R.SCH_REFUSE, 24, 8⟩
/-- SCH_REFUSE.FRAME (RO): Entries: frame of that entry. Coverage: the first frame lacking that channel where it fails a per-frame …. -/
def F.SCH_REFUSE_FRAME : Fld := ⟨R.SCH_REFUSE, 19, 5⟩
/-- SCH_REFUSE.INDEX (RO): Entries: index of the first invalid entry in the execution order of R127; otherwise 0. -/
def F.SCH_REFUSE_INDEX : Fld := ⟨R.SCH_REFUSE, 0, 14⟩
/-- SCH_ADDR.RD_ACTIVE (RWA): 1: SCH_DATA reads come from the active bank; 0: from the shadow bank. -/
def F.SCH_ADDR_RD_ACTIVE : Fld := ⟨R.SCH_ADDR, 16, 1⟩
/-- SCH_ADDR.INDEX (RWA): Entry index of the window. -/
def F.SCH_ADDR_INDEX : Fld := ⟨R.SCH_ADDR, 0, 14⟩
/-- SCH_DATA.ENTRY (RWA): Entry at INDEX, as R128 states. -/
def F.SCH_DATA_ENTRY : Fld := ⟨R.SCH_DATA, 0, 32⟩
/-- SCH_CRC.CRC (RWA): Expected bank CRC of the shadow bank. -/
def F.SCH_CRC_CRC : Fld := ⟨R.SCH_CRC, 0, 32⟩
/-- SCH_CRC_ACT.CRC (RO): Bank CRC of the active bank over the last complete superframe; 0 under the default schedule. -/
def F.SCH_CRC_ACT_CRC : Fld := ⟨R.SCH_CRC_ACT, 0, 32⟩
/-- SCH_FLAGS.ECC_CORR (W1C): Single-bit error corrected in a bank; counter in SCH_FLAG_CNT bits 31:24. -/
def F.SCH_FLAGS_ECC_CORR : Fld := ⟨R.SCH_FLAGS, 3, 1⟩
/-- SCH_FLAGS.WR_DISCARDED (W1C): Window write discarded under R129; counter in bits 23:16. -/
def F.SCH_FLAGS_WR_DISCARDED : Fld := ⟨R.SCH_FLAGS, 2, 1⟩
/-- SCH_FLAGS.REQ_IGNORED (W1C): Request ignored while BUSY; counter in bits 15:8. -/
def F.SCH_FLAGS_REQ_IGNORED : Fld := ⟨R.SCH_FLAGS, 1, 1⟩
/-- SCH_FLAGS.REFUSED (W1C): Swap refused; counter in bits 7:0. -/
def F.SCH_FLAGS_REFUSED : Fld := ⟨R.SCH_FLAGS, 0, 1⟩
/-- CAP_CTRL.PRE (RW): Pre-trigger depth in 4 KB units, 0–127; larger values act as 127. -/
def F.CAP_CTRL_PRE : Fld := ⟨R.CAP_CTRL, 8, 8⟩
/-- CAP_CTRL.FORCE (WO): Write 1: trigger now, whatever SRC is. -/
def F.CAP_CTRL_FORCE : Fld := ⟨R.CAP_CTRL, 2, 1⟩
/-- CAP_CTRL.CAP_ALL (RW): 1: capture every non-idle, non-discarded entry. -/
def F.CAP_CTRL_CAP_ALL : Fld := ⟨R.CAP_CTRL, 1, 1⟩
/-- CAP_CTRL.ARM (RW): Write 1 in IDLE: ARMED; write 0 while ARMED: IDLE; ignored in POST and FULL. -/
def F.CAP_CTRL_ARM : Fld := ⟨R.CAP_CTRL, 0, 1⟩
/-- CAP_TRIG.SRC (RW): 0 FORCE only; 1 fault; 2 window; 3 level; 4 alarm; others act as 0. -/
def F.CAP_TRIG_SRC : Fld := ⟨R.CAP_TRIG, 28, 4⟩
/-- CAP_TRIG.DIR (RW): Level: 0 on rising through LEVEL; 1 on falling. -/
def F.CAP_TRIG_DIR : Fld := ⟨R.CAP_TRIG, 27, 1⟩
/-- CAP_TRIG.SEL (RW): Fault: bits 23:22 lowest class, bits 21:16 source, 0x3F any; window: 0–63; alarm: 0–31; level: channel. -/
def F.CAP_TRIG_SEL : Fld := ⟨R.CAP_TRIG, 16, 8⟩
/-- CAP_TRIG.LEVEL (RW): Level code in the channel's class. -/
def F.CAP_TRIG_LEVEL : Fld := ⟨R.CAP_TRIG, 0, 14⟩
/-- CAP_STATUS.STATE (RO): 0 IDLE; 1 ARMED; 2 POST; 3 FULL. -/
def F.CAP_STATUS_STATE : Fld := ⟨R.CAP_STATUS, 30, 2⟩
/-- CAP_STATUS.TRIG_WORD (RO): First word written at or after the trigger. -/
def F.CAP_STATUS_TRIG_WORD : Fld := ⟨R.CAP_STATUS, 0, 17⟩
/-- CAP_START.PRE_SHORT (RO): 1: fewer pre-trigger words than PRE. -/
def F.CAP_START_PRE_SHORT : Fld := ⟨R.CAP_START, 31, 1⟩
/-- CAP_START.START_WORD (RO): Oldest valid word. -/
def F.CAP_START_START_WORD : Fld := ⟨R.CAP_START, 0, 17⟩
/-- CAP_TBL.TB (RO): Time base bits 31:0 at the trigger. -/
def F.CAP_TBL_TB : Fld := ⟨R.CAP_TBL, 0, 32⟩
/-- CAP_TBH.TB (RO): Time base bits 63:32 at the trigger. -/
def F.CAP_TBH_TB : Fld := ⟨R.CAP_TBH, 0, 32⟩
/-- CAP_FLAGS.MISSED (W1C): Trigger in POST or FULL; counter in CAP_FLAG_CNT bits 15:8. -/
def F.CAP_FLAGS_MISSED : Fld := ⟨R.CAP_FLAGS, 1, 1⟩
/-- CAP_FLAGS.TRIGGERED (W1C): Trigger taken; counter in bits 7:0. -/
def F.CAP_FLAGS_TRIGGERED : Fld := ⟨R.CAP_FLAGS, 0, 1⟩
/-- CAP_SPILL.BUSY (RO): Spill in progress. -/
def F.CAP_SPILL_BUSY : Fld := ⟨R.CAP_SPILL, 24, 1⟩
/-- CAP_SPILL.SLOTS (RO): Spill slots on the fitted flash. -/
def F.CAP_SPILL_SLOTS : Fld := ⟨R.CAP_SPILL, 16, 8⟩
/-- CAP_SPILL.NEXT (RO): Slot used next. -/
def F.CAP_SPILL_NEXT : Fld := ⟨R.CAP_SPILL, 8, 8⟩
/-- CAP_SPILL.RELEASE (WO): Write 1 in FULL with EN = 0: IDLE. -/
def F.CAP_SPILL_RELEASE : Fld := ⟨R.CAP_SPILL, 2, 1⟩
/-- CAP_SPILL.REARM (IMG, RW): 1: ARMED after each spill. -/
def F.CAP_SPILL_REARM : Fld := ⟨R.CAP_SPILL, 1, 1⟩
/-- CAP_SPILL.EN (IMG, RW): 1: FULL captures spilled. -/
def F.CAP_SPILL_EN : Fld := ⟨R.CAP_SPILL, 0, 1⟩
/-- CAP_SEND.TO9 (WO): 1: port 9 function; 0: port 0 function. -/
def F.CAP_SEND_TO9 : Fld := ⟨R.CAP_SEND, 9, 1⟩
/-- CAP_SEND.GO (WO): Write 1: send SRC. -/
def F.CAP_SEND_GO : Fld := ⟨R.CAP_SEND, 8, 1⟩
/-- CAP_SEND.SRC (WO): Spill slot; 0xFF: capture RAM, FULL only. -/
def F.CAP_SEND_SRC : Fld := ⟨R.CAP_SEND, 0, 8⟩
/-- TLM_STR.EN (IMG, RW): 1: stream enabled. -/
def F.TLM_STR_EN (n : Nat) : Fld := ⟨R.TLM_STR n, 31, 1⟩
/-- TLM_STR.DEST9 (IMG, RW): 1: sent to the port 9 function. -/
def F.TLM_STR_DEST9 (n : Nat) : Fld := ⟨R.TLM_STR n, 30, 1⟩
/-- TLM_STR.DEST0 (IMG, RW): 1: sent to the port 0 function. -/
def F.TLM_STR_DEST0 (n : Nat) : Fld := ⟨R.TLM_STR n, 29, 1⟩
/-- TLM_STR.D (IMG, RW): Decimation exponent, 0–6; 7 invalid for validation. -/
def F.TLM_STR_D (n : Nat) : Fld := ⟨R.TLM_STR n, 21, 3⟩
/-- TLM_STR.K (IMG, RW): Quantisation exponent, 0–4; 5–7 invalid for validation. -/
def F.TLM_STR_K (n : Nat) : Fld := ⟨R.TLM_STR n, 18, 3⟩
/-- TLM_STR.CHAN (IMG, RW): Channel 0x00–0x7F; other values invalid for validation. -/
def F.TLM_STR_CHAN (n : Nat) : Fld := ⟨R.TLM_STR n, 0, 8⟩
/-- TLM_STATUS.HOLD (RO): Bit n: stream n's last block had HOLD. -/
def F.TLM_STATUS_HOLD : Fld := ⟨R.TLM_STATUS, 16, 8⟩
/-- TLM_STATUS.RAW_ONLY (RO): Codec disabled; raw blocks only. -/
def F.TLM_STATUS_RAW_ONLY : Fld := ⟨R.TLM_STATUS, 8, 1⟩
/-- TLM_STATUS.ACTIVE (RO): Bit n: stream n running. -/
def F.TLM_STATUS_ACTIVE : Fld := ⟨R.TLM_STATUS, 0, 8⟩
/-- TLM_FLAGS.REFUSED (W1C): Write discarded under R429; counter in TLM_FLAG_CNT bits 15:8. -/
def F.TLM_FLAGS_REFUSED : Fld := ⟨R.TLM_FLAGS, 1, 1⟩
/-- TLM_FLAGS.BLK_LOST (W1C): Block dropped; counter in bits 7:0. -/
def F.TLM_FLAGS_BLK_LOST : Fld := ⟨R.TLM_FLAGS, 0, 1⟩
/-- HUB_CFG.UPS_RAILS (IMG, RWS): Bit j: rail j powers the main computer's USB host, under R398. -/
def F.HUB_CFG_UPS_RAILS : Fld := ⟨R.HUB_CFG, 16, 16⟩
/-- HUB_CFG.SS_DIS (IMG, RWS): Bit k − 1: hub port k runs USB 2.0 only. -/
def F.HUB_CFG_SS_DIS : Fld := ⟨R.HUB_CFG, 8, 8⟩
/-- HUB_CFG.LPM_DIS (IMG, RWS): 1: U1, U2 and USB 2.0 LPM refused on every port. -/
def F.HUB_CFG_LPM_DIS : Fld := ⟨R.HUB_CFG, 2, 1⟩
/-- HUB_CFG.UP_X1 (IMG, RWS): 1: upstream Gen 2x1 on lane 0; 0: Gen 2x2. -/
def F.HUB_CFG_UP_X1 : Fld := ⟨R.HUB_CFG, 1, 1⟩
/-- HUB_PORTS.FIXED (IMG, RWS): Bit k − 1: hub port k reported non-removable. -/
def F.HUB_PORTS_FIXED : Fld := ⟨R.HUB_PORTS, 8, 8⟩
/-- HUB_PORTS.DATA_EN (IMG, RWS): Bit k − 1: hub port k may carry data, condition 1 of Table USB-3; a bit set for an absent port is …. -/
def F.HUB_PORTS_DATA_EN : Fld := ⟨R.HUB_PORTS, 0, 8⟩
/-- HUB_STATUS.SS_STOPPED (RO): SuperSpeed lanes stopped by fault 0xA204 or disabled. -/
def F.HUB_STATUS_SS_STOPPED : Fld := ⟨R.HUB_STATUS, 10, 1⟩
/-- HUB_STATUS.MF0_CONF (RO): Port 0 function configured by the host. -/
def F.HUB_STATUS_MF0_CONF : Fld := ⟨R.HUB_STATUS, 9, 1⟩
/-- HUB_STATUS.UP_CONF (RO): Hub configured by the host. -/
def F.HUB_STATUS_UP_CONF : Fld := ⟨R.HUB_STATUS, 8, 1⟩
/-- HUB_STATUS.UP_SPEED (RO): 0 not connected; 1 High-Speed; 2 Gen 1x1; 3 Gen 2x1; 4 Gen 1x2; 5 Gen 2x2. -/
def F.HUB_STATUS_UP_SPEED : Fld := ⟨R.HUB_STATUS, 0, 3⟩
/-- HUB_PSTAT.LINK (RO): SuperSpeed link state: 0 SS.Disabled; 1 Rx.Detect; 2 Polling; 3 U0; 4 U1; 5 U2; 6 U3; 7 Recovery; 8 …. -/
def F.HUB_PSTAT_LINK (k : PortId) : Fld := ⟨R.HUB_PSTAT k, 8, 4⟩
/-- HUB_PSTAT.DATA_ON (RO): Port data-enabled under R395. -/
def F.HUB_PSTAT_DATA_ON (k : PortId) : Fld := ⟨R.HUB_PSTAT k, 7, 1⟩
/-- HUB_PSTAT.BLOCK (RO): Code of Table USB-3 of the first unmet condition; 0 when data-enabled. -/
def F.HUB_PSTAT_BLOCK (k : PortId) : Fld := ⟨R.HUB_PSTAT k, 4, 3⟩
/-- HUB_PSTAT.SPEED (RO): 0 none; 1 Low-Speed; 2 Full-Speed; 3 High-Speed; 4 Gen 1x1; 5 Gen 2x1. -/
def F.HUB_PSTAT_SPEED (k : PortId) : Fld := ⟨R.HUB_PSTAT k, 0, 3⟩
/-- HUB_BUF.RETIRED (RO): Buffers retired under R401, saturating at 255. -/
def F.HUB_BUF_RETIRED : Fld := ⟨R.HUB_BUF, 24, 8⟩
/-- HUB_BUF.MIN_FREE (RO): Fewest free shared buffers since the last read. -/
def F.HUB_BUF_MIN_FREE : Fld := ⟨R.HUB_BUF, 16, 8⟩
/-- HUB_BUF.FREE (RO): Free shared buffers now. -/
def F.HUB_BUF_FREE : Fld := ⟨R.HUB_BUF, 8, 8⟩
/-- HUB_BUF.PRIO_USED (RO): Priority buffers in use now. -/
def F.HUB_BUF_PRIO_USED : Fld := ⟨R.HUB_BUF, 0, 8⟩
/-- HUB_PRI.EN (RW): 1: entry in force; cleared by the hub under R403. -/
def F.HUB_PRI_EN (n : Nat) : Fld := ⟨R.HUB_PRI n, 31, 1⟩
/-- HUB_PRI.PORT (RW): Downstream hub port, 1–8; other values keep the entry from matching. -/
def F.HUB_PRI_PORT (n : Nat) : Fld := ⟨R.HUB_PRI n, 16, 4⟩
/-- HUB_PRI.ADDR (RW): Device address. -/
def F.HUB_PRI_ADDR (n : Nat) : Fld := ⟨R.HUB_PRI n, 8, 7⟩
/-- HUB_PRI.DIR (RW): 0 OUT, toward the device; 1 IN, toward the host. -/
def F.HUB_PRI_DIR (n : Nat) : Fld := ⟨R.HUB_PRI n, 4, 1⟩
/-- HUB_PRI.EP (RW): Endpoint number. -/
def F.HUB_PRI_EP (n : Nat) : Fld := ⟨R.HUB_PRI n, 0, 4⟩
/-- HUB_CTRL.CNT_CLR (WO): Bit k: HUB_ERRk set to 0. -/
def F.HUB_CTRL_CNT_CLR : Fld := ⟨R.HUB_CTRL, 0, 9⟩
/-- HUB_ERR.RECOV (RO): SuperSpeed entries into Recovery. -/
def F.HUB_ERR_RECOV (n : Nat) : Fld := ⟨R.HUB_ERR n, 24, 8⟩
/-- HUB_ERR.SS_ERR (RO): SuperSpeed block, header or data CRC errors received. -/
def F.HUB_ERR_SS_ERR (n : Nat) : Fld := ⟨R.HUB_ERR n, 16, 8⟩
/-- HUB_ERR.HS_ERR (RO): USB 2.0 transaction errors: timeout, CRC, babble. -/
def F.HUB_ERR_HS_ERR (n : Nat) : Fld := ⟨R.HUB_ERR n, 8, 8⟩
/-- HUB_ERR.TT_ERR (RO): Split transactions aborted by the port's translator; 0 in register 0. -/
def F.HUB_ERR_TT_ERR (n : Nat) : Fld := ⟨R.HUB_ERR n, 0, 8⟩
/-- HUB_FLAGS.LINK_ERR (W1C): Warning 0x283k; counter in HUB_FLAG_CNT bits 31:24. -/
def F.HUB_FLAGS_LINK_ERR : Fld := ⟨R.HUB_FLAGS, 3, 1⟩
/-- HUB_FLAGS.ECC (W1C): Fault 0x6822 or 0xA823; counter in bits 23:16. -/
def F.HUB_FLAGS_ECC : Fld := ⟨R.HUB_FLAGS, 2, 1⟩
/-- HUB_FLAGS.POOL_EMPTY (W1C): Warning 0x2821; counter in bits 15:8. -/
def F.HUB_FLAGS_POOL_EMPTY : Fld := ⟨R.HUB_FLAGS, 1, 1⟩
/-- HUB_FLAGS.SS_FALLBACK (W1C): Warning 0x281k or 0x2820; counter in bits 7:0. -/
def F.HUB_FLAGS_SS_FALLBACK : Fld := ⟨R.HUB_FLAGS, 0, 1⟩
/-- MGT_CFG.TLM_EN9 (IMG, RWS): 1: EP3 IN of the port 9 function carries telemetry. -/
def F.MGT_CFG_TLM_EN9 : Fld := ⟨R.MGT_CFG, 1, 1⟩
/-- MGT_CFG.TLM_EN0 (IMG, RWS): 1: EP3 IN of the port 0 function carries telemetry. -/
def F.MGT_CFG_TLM_EN0 : Fld := ⟨R.MGT_CFG, 0, 1⟩
/-- MGT_STATUS.LOST (RO): Event records lost to this function, saturating at 255. -/
def F.MGT_STATUS_LOST (n : Nat) : Fld := ⟨R.MGT_STATUS n, 24, 8⟩
/-- MGT_STATUS.EVT_IDX (RO): Next ring entry this function delivers. -/
def F.MGT_STATUS_EVT_IDX (n : Nat) : Fld := ⟨R.MGT_STATUS n, 16, 8⟩
/-- MGT_STATUS.HALTED (RO): EP1 OUT halted under R406. -/
def F.MGT_STATUS_HALTED (n : Nat) : Fld := ⟨R.MGT_STATUS n, 3, 1⟩
/-- MGT_STATUS.BUSY (RO): A command of this function outstanding. -/
def F.MGT_STATUS_BUSY (n : Nat) : Fld := ⟨R.MGT_STATUS n, 2, 1⟩
/-- MGT_STATUS.CONFIGURED (RO): Configured by its host. -/
def F.MGT_STATUS_CONFIGURED (n : Nat) : Fld := ⟨R.MGT_STATUS n, 1, 1⟩
/-- MGT_STATUS.PRESENT (RO): Function present under Table SEA-5. -/
def F.MGT_STATUS_PRESENT (n : Nat) : Fld := ⟨R.MGT_STATUS n, 0, 1⟩
/-- HIS_STATUS.SCANNED (RO): Scan of R437 complete. -/
def F.HIS_STATUS_SCANNED : Fld := ⟨R.HIS_STATUS, 31, 1⟩
/-- HIS_STATUS.FETCH (RO): HIS_RECn being loaded. -/
def F.HIS_STATUS_FETCH : Fld := ⟨R.HIS_STATUS, 30, 1⟩
/-- HIS_STATUS.BUSY (RO): Record or checkpoint being written. -/
def F.HIS_STATUS_BUSY : Fld := ⟨R.HIS_STATUS, 29, 1⟩
/-- HIS_STATUS.NEWEST (RO): Slot of the newest day record. -/
def F.HIS_STATUS_NEWEST : Fld := ⟨R.HIS_STATUS, 0, 15⟩
/-- HIS_DAY.GAPS (RO): GAPS of the present day, saturating at 255. -/
def F.HIS_DAY_GAPS : Fld := ⟨R.HIS_DAY, 24, 8⟩
/-- HIS_DAY.DAY_S (RO): Counted seconds of the present day. -/
def F.HIS_DAY_DAY_S : Fld := ⟨R.HIS_DAY, 0, 17⟩
/-- HIS_LASTNO.DAYNO (RO): DAYNO of the newest day record. -/
def F.HIS_LASTNO_DAYNO : Fld := ⟨R.HIS_LASTNO, 0, 32⟩
/-- HIS_SEL.PART (RW): Bytes 64 × PART to 64 × PART + 63 of the record. -/
def F.HIS_SEL_PART : Fld := ⟨R.HIS_SEL, 17, 3⟩
/-- HIS_SEL.BACK (RW): 1: SLOT counts back from the newest record. -/
def F.HIS_SEL_BACK : Fld := ⟨R.HIS_SEL, 16, 1⟩
/-- HIS_SEL.SLOT (RW): Day-ring slot. -/
def F.HIS_SEL_SLOT : Fld := ⟨R.HIS_SEL, 0, 15⟩
/-- HIS_FLAGS.GAP (W1C): Warning 0x2A14; counter in HIS_FLAG_CNT bits 23:16. -/
def F.HIS_FLAGS_GAP : Fld := ⟨R.HIS_FLAGS, 2, 1⟩
/-- HIS_FLAGS.WRITE_FAIL (W1C): Fault 0xAA15; counter in bits 15:8. -/
def F.HIS_FLAGS_WRITE_FAIL : Fld := ⟨R.HIS_FLAGS, 1, 1⟩
/-- HIS_FLAGS.WRITTEN (W1C): Day record written; counter in bits 7:0. -/
def F.HIS_FLAGS_WRITTEN : Fld := ⟨R.HIS_FLAGS, 0, 1⟩
/-- HIS_REC.WORD (RO): Word n of the loaded part. -/
def F.HIS_REC_WORD (n : Nat) : Fld := ⟨R.HIS_REC n, 0, 32⟩
/-- PAGE_SEL.PAGE (RW): Selected page, under R536. -/
def F.PAGE_SEL_PAGE : Fld := ⟨R.PAGE_SEL, 0, 6⟩

/-- Flag BUS_FLAGS.COMMIT and its counter in BUS_FLAG_CNT. -/
def G.BUS_COMMIT : Flag := ⟨F.BUS_FLAGS_COMMIT, ⟨R.BUS_FLAG_CNT, 24, 8⟩⟩
/-- Flag BUS_FLAGS.OVP and its counter in BUS_FLAG_CNT. -/
def G.BUS_OVP : Flag := ⟨F.BUS_FLAGS_OVP, ⟨R.BUS_FLAG_CNT, 16, 8⟩⟩
/-- Flag BUS_FLAGS.SAG and its counter in BUS_FLAG_CNT. -/
def G.BUS_SAG : Flag := ⟨F.BUS_FLAGS_SAG, ⟨R.BUS_FLAG_CNT, 8, 8⟩⟩
/-- Flag BUS_FLAGS.MAINS and its counter in BUS_FLAG_CNT. -/
def G.BUS_MAINS : Flag := ⟨F.BUS_FLAGS_MAINS, ⟨R.BUS_FLAG_CNT, 0, 8⟩⟩
/-- Flag MSR_FLAGS.CMP and its counter in MSR_FLAG_CNT. -/
def G.MSR_CMP : Flag := ⟨F.MSR_FLAGS_CMP, ⟨R.MSR_FLAG_CNT, 24, 8⟩⟩
/-- Flag MSR_FLAGS.DUAL and its counter in MSR_FLAG_CNT. -/
def G.MSR_DUAL : Flag := ⟨F.MSR_FLAGS_DUAL, ⟨R.MSR_FLAG_CNT, 16, 8⟩⟩
/-- Flag MSR_FLAGS.DRIFT and its counter in MSR_FLAG_CNT. -/
def G.MSR_DRIFT : Flag := ⟨F.MSR_FLAGS_DRIFT, ⟨R.MSR_FLAG_CNT, 8, 8⟩⟩
/-- Flag MSR_FLAGS.GROSS and its counter in MSR_FLAG_CNT. -/
def G.MSR_GROSS : Flag := ⟨F.MSR_FLAGS_GROSS, ⟨R.MSR_FLAG_CNT, 0, 8⟩⟩
/-- Flag SCH_FLAGS.ECC_CORR and its counter in SCH_FLAG_CNT. -/
def G.SCH_ECC_CORR : Flag := ⟨F.SCH_FLAGS_ECC_CORR, ⟨R.SCH_FLAG_CNT, 24, 8⟩⟩
/-- Flag SCH_FLAGS.WR_DISCARDED and its counter in SCH_FLAG_CNT. -/
def G.SCH_WR_DISCARDED : Flag := ⟨F.SCH_FLAGS_WR_DISCARDED, ⟨R.SCH_FLAG_CNT, 16, 8⟩⟩
/-- Flag SCH_FLAGS.REQ_IGNORED and its counter in SCH_FLAG_CNT. -/
def G.SCH_REQ_IGNORED : Flag := ⟨F.SCH_FLAGS_REQ_IGNORED, ⟨R.SCH_FLAG_CNT, 8, 8⟩⟩
/-- Flag SCH_FLAGS.REFUSED and its counter in SCH_FLAG_CNT. -/
def G.SCH_REFUSED : Flag := ⟨F.SCH_FLAGS_REFUSED, ⟨R.SCH_FLAG_CNT, 0, 8⟩⟩
/-- Flag CAP_FLAGS.MISSED and its counter in CAP_FLAG_CNT. -/
def G.CAP_MISSED : Flag := ⟨F.CAP_FLAGS_MISSED, ⟨R.CAP_FLAG_CNT, 8, 8⟩⟩
/-- Flag CAP_FLAGS.TRIGGERED and its counter in CAP_FLAG_CNT. -/
def G.CAP_TRIGGERED : Flag := ⟨F.CAP_FLAGS_TRIGGERED, ⟨R.CAP_FLAG_CNT, 0, 8⟩⟩
/-- Flag ATT_FLAGS.REFUSED and its counter in ATT_FLAG_CNT. -/
def G.ATT_REFUSED (k : PortId) : Flag := ⟨F.ATT_FLAGS_REFUSED k, ⟨R.ATT_FLAG_CNT k, 24, 8⟩⟩
/-- Flag ATT_FLAGS.VCONN_OC and its counter in ATT_FLAG_CNT. -/
def G.ATT_VCONN_OC (k : PortId) : Flag := ⟨F.ATT_FLAGS_VCONN_OC k, ⟨R.ATT_FLAG_CNT k, 16, 8⟩⟩
/-- Flag ATT_FLAGS.SEAT_LOST and its counter in ATT_FLAG_CNT. -/
def G.ATT_SEAT_LOST (k : PortId) : Flag := ⟨F.ATT_FLAGS_SEAT_LOST k, ⟨R.ATT_FLAG_CNT k, 8, 8⟩⟩
/-- Flag ATT_FLAGS.WET and its counter in ATT_FLAG_CNT. -/
def G.ATT_WET (k : PortId) : Flag := ⟨F.ATT_FLAGS_WET k, ⟨R.ATT_FLAG_CNT k, 0, 8⟩⟩
/-- Flag PD_FLAGS.HARD_RESET and its counter in PD_FLAG_CNT. -/
def G.PD_HARD_RESET (k : PortId) : Flag := ⟨F.PD_FLAGS_HARD_RESET k, ⟨R.PD_FLAG_CNT k, 24, 8⟩⟩
/-- Flag PD_FLAGS.REJECTED and its counter in PD_FLAG_CNT. -/
def G.PD_REJECTED (k : PortId) : Flag := ⟨F.PD_FLAGS_REJECTED k, ⟨R.PD_FLAG_CNT k, 16, 8⟩⟩
/-- Flag PD_FLAGS.AUTH_FAIL and its counter in PD_FLAG_CNT. -/
def G.PD_AUTH_FAIL (k : PortId) : Flag := ⟨F.PD_FLAGS_AUTH_FAIL k, ⟨R.PD_FLAG_CNT k, 8, 8⟩⟩
/-- Flag PD_FLAGS.Q_FULL and its counter in PD_FLAG_CNT. -/
def G.PD_Q_FULL (k : PortId) : Flag := ⟨F.PD_FLAGS_Q_FULL k, ⟨R.PD_FLAG_CNT k, 0, 8⟩⟩
/-- Flag CNV_FLAGS.DERATE and its counter in CNV_FLAG_CNT. -/
def G.CNV_DERATE (k : PortId) : Flag := ⟨F.CNV_FLAGS_DERATE k, ⟨R.CNV_FLAG_CNT k, 24, 8⟩⟩
/-- Flag CNV_FLAGS.CHK_WARN and its counter in CNV_FLAG_CNT. -/
def G.CNV_CHK_WARN (k : PortId) : Flag := ⟨F.CNV_FLAGS_CHK_WARN k, ⟨R.CNV_FLAG_CNT k, 16, 8⟩⟩
/-- Flag CNV_FLAGS.DRIVE and its counter in CNV_FLAG_CNT. -/
def G.CNV_DRIVE (k : PortId) : Flag := ⟨F.CNV_FLAGS_DRIVE k, ⟨R.CNV_FLAG_CNT k, 8, 8⟩⟩
/-- Flag CNV_FLAGS.HEADROOM and its counter in CNV_FLAG_CNT. -/
def G.CNV_HEADROOM (k : PortId) : Flag := ⟨F.CNV_FLAGS_HEADROOM k, ⟨R.CNV_FLAG_CNT k, 0, 8⟩⟩
/-- Flag BRK_FLAGS.SW_DEGRADED and its counter in BRK_FLAG_CNT. -/
def G.BRK_SW_DEGRADED (k : PortId) : Flag := ⟨F.BRK_FLAGS_SW_DEGRADED k, ⟨R.BRK_FLAG_CNT k, 24, 8⟩⟩
/-- Flag BRK_FLAGS.HELD and its counter in BRK_FLAG_CNT. -/
def G.BRK_HELD (k : PortId) : Flag := ⟨F.BRK_FLAGS_HELD k, ⟨R.BRK_FLAG_CNT k, 16, 8⟩⟩
/-- Flag BRK_FLAGS.LATCHED and its counter in BRK_FLAG_CNT. -/
def G.BRK_LATCHED (k : PortId) : Flag := ⟨F.BRK_FLAGS_LATCHED k, ⟨R.BRK_FLAG_CNT k, 8, 8⟩⟩
/-- Flag BRK_FLAGS.TRIP and its counter in BRK_FLAG_CNT. -/
def G.BRK_TRIP (k : PortId) : Flag := ⟨F.BRK_FLAGS_TRIP k, ⟨R.BRK_FLAG_CNT k, 0, 8⟩⟩
/-- Flag BUD_FLAGS.MIN_SHORT and its counter in BUD_FLAG_CNT. -/
def G.BUD_MIN_SHORT : Flag := ⟨F.BUD_FLAGS_MIN_SHORT, ⟨R.BUD_FLAG_CNT, 8, 8⟩⟩
/-- Flag BUD_FLAGS.EMERGENCY and its counter in BUD_FLAG_CNT. -/
def G.BUD_EMERGENCY : Flag := ⟨F.BUD_FLAGS_EMERGENCY, ⟨R.BUD_FLAG_CNT, 0, 8⟩⟩
/-- Flag SQC_FLAGS.GATE_TO and its counter in SQC_FLAG_CNT. -/
def G.SQC_GATE_TO : Flag := ⟨F.SQC_FLAGS_GATE_TO, ⟨R.SQC_FLAG_CNT, 24, 8⟩⟩
/-- Flag SQC_FLAGS.COLLAPSE and its counter in SQC_FLAG_CNT. -/
def G.SQC_COLLAPSE : Flag := ⟨F.SQC_FLAGS_COLLAPSE, ⟨R.SQC_FLAG_CNT, 16, 8⟩⟩
/-- Flag SQC_FLAGS.DISCHARGE and its counter in SQC_FLAG_CNT. -/
def G.SQC_DISCHARGE : Flag := ⟨F.SQC_FLAGS_DISCHARGE, ⟨R.SQC_FLAG_CNT, 8, 8⟩⟩
/-- Flag SQC_FLAGS.RISE_TO and its counter in SQC_FLAG_CNT. -/
def G.SQC_RISE_TO : Flag := ⟨F.SQC_FLAGS_RISE_TO, ⟨R.SQC_FLAG_CNT, 0, 8⟩⟩
/-- Flag AXL_FLAGS.CASC and its counter in AXL_FLAG_CNT. -/
def G.AXL_CASC : Flag := ⟨F.AXL_FLAGS_CASC, ⟨R.AXL_FLAG_CNT, 24, 8⟩⟩
/-- Flag AXL_FLAGS.LOST and its counter in AXL_FLAG_CNT. -/
def G.AXL_LOST : Flag := ⟨F.AXL_FLAGS_LOST, ⟨R.AXL_FLAG_CNT, 16, 8⟩⟩
/-- Flag AXL_FLAGS.CYC_BAD and its counter in AXL_FLAG_CNT. -/
def G.AXL_CYC_BAD : Flag := ⟨F.AXL_FLAGS_CYC_BAD, ⟨R.AXL_FLAG_CNT, 8, 8⟩⟩
/-- Flag AXL_FLAGS.MAC and its counter in AXL_FLAG_CNT. -/
def G.AXL_MAC : Flag := ⟨F.AXL_FLAGS_MAC, ⟨R.AXL_FLAG_CNT, 0, 8⟩⟩
/-- Flag SQ_FLAGS.MARGIN and its counter in SQ_FLAG_CNT. -/
def G.SQ_MARGIN (j : RailId) : Flag := ⟨F.SQ_FLAGS_MARGIN j, ⟨R.SQ_FLAG_CNT j, 24, 8⟩⟩
/-- Flag SQ_FLAGS.FAULT and its counter in SQ_FLAG_CNT. -/
def G.SQ_FAULT (j : RailId) : Flag := ⟨F.SQ_FLAGS_FAULT j, ⟨R.SQ_FLAG_CNT j, 16, 8⟩⟩
/-- Flag SQ_FLAGS.OV_WARN and its counter in SQ_FLAG_CNT. -/
def G.SQ_OV_WARN (j : RailId) : Flag := ⟨F.SQ_FLAGS_OV_WARN j, ⟨R.SQ_FLAG_CNT j, 8, 8⟩⟩
/-- Flag SQ_FLAGS.UV_WARN and its counter in SQ_FLAG_CNT. -/
def G.SQ_UV_WARN (j : RailId) : Flag := ⟨F.SQ_FLAGS_UV_WARN j, ⟨R.SQ_FLAG_CNT j, 0, 8⟩⟩
/-- Flag FFL_FLAGS.WRITE_FAIL and its counter in FFL_FLAG_CNT. -/
def G.FFL_WRITE_FAIL : Flag := ⟨F.FFL_FLAGS_WRITE_FAIL, ⟨R.FFL_FLAG_CNT, 8, 8⟩⟩
/-- Flag FFL_FLAGS.WRITTEN and its counter in FFL_FLAG_CNT. -/
def G.FFL_WRITTEN : Flag := ⟨F.FFL_FLAGS_WRITTEN, ⟨R.FFL_FLAG_CNT, 0, 8⟩⟩
/-- Flag HUB_FLAGS.LINK_ERR and its counter in HUB_FLAG_CNT. -/
def G.HUB_LINK_ERR : Flag := ⟨F.HUB_FLAGS_LINK_ERR, ⟨R.HUB_FLAG_CNT, 24, 8⟩⟩
/-- Flag HUB_FLAGS.ECC and its counter in HUB_FLAG_CNT. -/
def G.HUB_ECC : Flag := ⟨F.HUB_FLAGS_ECC, ⟨R.HUB_FLAG_CNT, 16, 8⟩⟩
/-- Flag HUB_FLAGS.POOL_EMPTY and its counter in HUB_FLAG_CNT. -/
def G.HUB_POOL_EMPTY : Flag := ⟨F.HUB_FLAGS_POOL_EMPTY, ⟨R.HUB_FLAG_CNT, 8, 8⟩⟩
/-- Flag HUB_FLAGS.SS_FALLBACK and its counter in HUB_FLAG_CNT. -/
def G.HUB_SS_FALLBACK : Flag := ⟨F.HUB_FLAGS_SS_FALLBACK, ⟨R.HUB_FLAG_CNT, 0, 8⟩⟩
/-- Flag TLM_FLAGS.REFUSED and its counter in TLM_FLAG_CNT. -/
def G.TLM_REFUSED : Flag := ⟨F.TLM_FLAGS_REFUSED, ⟨R.TLM_FLAG_CNT, 8, 8⟩⟩
/-- Flag TLM_FLAGS.BLK_LOST and its counter in TLM_FLAG_CNT. -/
def G.TLM_BLK_LOST : Flag := ⟨F.TLM_FLAGS_BLK_LOST, ⟨R.TLM_FLAG_CNT, 0, 8⟩⟩
/-- Flag HIS_FLAGS.GAP and its counter in HIS_FLAG_CNT. -/
def G.HIS_GAP : Flag := ⟨F.HIS_FLAGS_GAP, ⟨R.HIS_FLAG_CNT, 16, 8⟩⟩
/-- Flag HIS_FLAGS.WRITE_FAIL and its counter in HIS_FLAG_CNT. -/
def G.HIS_WRITE_FAIL : Flag := ⟨F.HIS_FLAGS_WRITE_FAIL, ⟨R.HIS_FLAG_CNT, 8, 8⟩⟩
/-- Flag HIS_FLAGS.WRITTEN and its counter in HIS_FLAG_CNT. -/
def G.HIS_WRITTEN : Flag := ⟨F.HIS_FLAGS_WRITTEN, ⟨R.HIS_FLAG_CNT, 0, 8⟩⟩
/-- Flag SAF_FLAGS.DW_RESTART and its counter in SAF_FLAG_CNT. -/
def G.SAF_DW_RESTART : Flag := ⟨F.SAF_FLAGS_DW_RESTART, ⟨R.SAF_FLAG_CNT, 24, 8⟩⟩
/-- Flag SAF_FLAGS.HOLD_USED and its counter in SAF_FLAG_CNT. -/
def G.SAF_HOLD_USED : Flag := ⟨F.SAF_FLAGS_HOLD_USED, ⟨R.SAF_FLAG_CNT, 16, 8⟩⟩
/-- Flag SAF_FLAGS.ECC_CORR and its counter in SAF_FLAG_CNT. -/
def G.SAF_ECC_CORR : Flag := ⟨F.SAF_FLAGS_ECC_CORR, ⟨R.SAF_FLAG_CNT, 8, 8⟩⟩
/-- Flag SAF_FLAGS.TEMP_WARN and its counter in SAF_FLAG_CNT. -/
def G.SAF_TEMP_WARN : Flag := ⟨F.SAF_FLAGS_TEMP_WARN, ⟨R.SAF_FLAG_CNT, 0, 8⟩⟩
/-- Flag FLT_FLAGS.FATAL and its counter in FLT_FLAG_CNT. -/
def G.FLT_FATAL : Flag := ⟨F.FLT_FLAGS_FATAL, ⟨R.FLT_FLAG_CNT, 24, 8⟩⟩
/-- Flag FLT_FLAGS.CONT and its counter in FLT_FLAG_CNT. -/
def G.FLT_CONT : Flag := ⟨F.FLT_FLAGS_CONT, ⟨R.FLT_FLAG_CNT, 16, 8⟩⟩
/-- Flag FLT_FLAGS.CORR and its counter in FLT_FLAG_CNT. -/
def G.FLT_CORR : Flag := ⟨F.FLT_FLAGS_CORR, ⟨R.FLT_FLAG_CNT, 8, 8⟩⟩
/-- Flag FLT_FLAGS.WARN and its counter in FLT_FLAG_CNT. -/
def G.FLT_WARN : Flag := ⟨F.FLT_FLAGS_WARN, ⟨R.FLT_FLAG_CNT, 0, 8⟩⟩
/-- Flag OTP_FLAGS.CHANGED and its counter in OTP_FLAG_CNT. -/
def G.OTP_CHANGED : Flag := ⟨F.OTP_FLAGS_CHANGED, ⟨R.OTP_FLAG_CNT, 16, 8⟩⟩
/-- Flag OTP_FLAGS.LOCK_REFUSED and its counter in OTP_FLAG_CNT. -/
def G.OTP_LOCK_REFUSED : Flag := ⟨F.OTP_FLAGS_LOCK_REFUSED, ⟨R.OTP_FLAG_CNT, 8, 8⟩⟩
/-- Flag OTP_FLAGS.PROG_FAIL and its counter in OTP_FLAG_CNT. -/
def G.OTP_PROG_FAIL : Flag := ⟨F.OTP_FLAGS_PROG_FAIL, ⟨R.OTP_FLAG_CNT, 0, 8⟩⟩
/-- Flag SEC_FLAGS.EXHAUSTED and its counter in SEC_FLAG_CNT. -/
def G.SEC_EXHAUSTED : Flag := ⟨F.SEC_FLAGS_EXHAUSTED, ⟨R.SEC_FLAG_CNT, 16, 8⟩⟩
/-- Flag SEC_FLAGS.REPLAY and its counter in SEC_FLAG_CNT. -/
def G.SEC_REPLAY : Flag := ⟨F.SEC_FLAGS_REPLAY, ⟨R.SEC_FLAG_CNT, 8, 8⟩⟩
/-- Flag SEC_FLAGS.AUTH_FAIL and its counter in SEC_FLAG_CNT. -/
def G.SEC_AUTH_FAIL : Flag := ⟨F.SEC_FLAGS_AUTH_FAIL, ⟨R.SEC_FLAG_CNT, 0, 8⟩⟩
/-- Flag HIF_FLAGS.EVT_LOST and its counter in HIF_FLAG_CNT2. -/
def G.HIF_EVT_LOST : Flag := ⟨F.HIF_FLAGS_EVT_LOST, ⟨R.HIF_FLAG_CNT2, 8, 8⟩⟩
/-- Flag HIF_FLAGS.PARTIAL and its counter in HIF_FLAG_CNT2. -/
def G.HIF_PARTIAL : Flag := ⟨F.HIF_FLAGS_PARTIAL, ⟨R.HIF_FLAG_CNT2, 0, 8⟩⟩
/-- Flag HIF_FLAGS.NACKED and its counter in HIF_FLAG_CNT. -/
def G.HIF_NACKED : Flag := ⟨F.HIF_FLAGS_NACKED, ⟨R.HIF_FLAG_CNT, 24, 8⟩⟩
/-- Flag HIF_FLAGS.SCL_STUCK and its counter in HIF_FLAG_CNT. -/
def G.HIF_SCL_STUCK : Flag := ⟨F.HIF_FLAGS_SCL_STUCK, ⟨R.HIF_FLAG_CNT, 16, 8⟩⟩
/-- Flag HIF_FLAGS.SDA_TO and its counter in HIF_FLAG_CNT. -/
def G.HIF_SDA_TO : Flag := ⟨F.HIF_FLAGS_SDA_TO, ⟨R.HIF_FLAG_CNT, 8, 8⟩⟩
/-- Flag HIF_FLAGS.SDA_STUCK and its counter in HIF_FLAG_CNT. -/
def G.HIF_SDA_STUCK : Flag := ⟨F.HIF_FLAGS_SDA_STUCK, ⟨R.HIF_FLAG_CNT, 0, 8⟩⟩
/-- Flag UPD_FLAGS.ABANDONED and its counter in UPD_FLAG_CNT. -/
def G.UPD_ABANDONED : Flag := ⟨F.UPD_FLAGS_ABANDONED, ⟨R.UPD_FLAG_CNT, 24, 8⟩⟩
/-- Flag UPD_FLAGS.HANDBACK and its counter in UPD_FLAG_CNT. -/
def G.UPD_HANDBACK : Flag := ⟨F.UPD_FLAGS_HANDBACK, ⟨R.UPD_FLAG_CNT, 16, 8⟩⟩
/-- Flag UPD_FLAGS.REJECTED and its counter in UPD_FLAG_CNT. -/
def G.UPD_REJECTED : Flag := ⟨F.UPD_FLAGS_REJECTED, ⟨R.UPD_FLAG_CNT, 8, 8⟩⟩
/-- Flag UPD_FLAGS.BLOCK_FAIL and its counter in UPD_FLAG_CNT. -/
def G.UPD_BLOCK_FAIL : Flag := ⟨F.UPD_FLAGS_BLOCK_FAIL, ⟨R.UPD_FLAG_CNT, 0, 8⟩⟩
/-- Flag FIRED bit `a` of ALM_FLAGS and its counter (R580). -/
def G.ALM_FIRED (a : Nat) : Flag := ⟨⟨R.ALM_FLAGS, a, 1⟩, ⟨R.ALM_FLAG_CNT (a / 4), 8 * (a % 4), 8⟩⟩
/-- Flag WRAP bit `t` of TMR_FLAGS and its counter (R581). -/
def G.TMR_WRAP (t : Nat) : Flag := ⟨⟨R.TMR_FLAGS, t, 1⟩, ⟨R.TMR_FLAG_CNT (t / 4), 8 * (t % 4), 8⟩⟩
/-- Flag REFUSED bit `u` of CRC_FLAGS and its counter (R582). -/
def G.CRC_REFUSED (u : Nat) : Flag := ⟨⟨R.CRC_FLAGS, u, 1⟩, ⟨R.CRC_FLAG_CNT0, 8 * u, 8⟩⟩
/-- Flag MISMATCH bit `u + 4` of CRC_FLAGS and its counter (R582). -/
def G.CRC_MISMATCH (u : Nat) : Flag := ⟨⟨R.CRC_FLAGS, u + 4, 1⟩, ⟨R.CRC_FLAG_CNT1, 8 * u, 8⟩⟩
/-- Flag EVT bit `m` of SQI_FLAGS and its counter (R387). -/
def G.SQI_EVT (m : Nat) : Flag := ⟨⟨R.SQI_FLAGS, m, 1⟩, ⟨R.SQI_FLAG_CNT, 8 * m, 8⟩⟩

/-- A register family of Table MAP-1: its base address, its two strides with their counts, its reset value and the
bits of each access code (Table SCO-6). `recordable` says whether a REG record may write it (Table MAP-1). -/
structure RegFam where
  base  : Nat
  n1    : Nat
  s1    : Nat
  n2    : Nat
  s2    : Nat
  reset : Word
  rw    : Word
  w1c   : Word
  wo    : Word
  rws   : Word
  rwa   : Word
  img   : Word
  recordable : Bool
  deriving DecidableEq, Repr

/-- Part 1 of Table MAP-1. -/
def regTable1 : List RegFam := [
  ⟨0x0, 1, 0x4, 1, 0x4, 0x91600101, 0x0, 0x0, 0x0, 0x0, 0x0, 0x0, false⟩, -- SYS_ID
  ⟨0x4, 1, 0x4, 1, 0x4, 0x0, 0x0, 0x0, 0x0, 0x0, 0x0, 0x0, false⟩, -- SYS_STATE
  ⟨0x8, 1, 0x4, 1, 0x4, 0x0, 0x0, 0x0, 0x0, 0xFFFF0D, 0x0, 0xFFFF0D, true⟩, -- SYS_STATE_CFG
  ⟨0xC, 1, 0x4, 1, 0x4, 0x0, 0x0, 0x0, 0x0, 0x0, 0x0, 0x0, false⟩, -- SYS_STRAP
  ⟨0x10, 1, 0x4, 1, 0x4, 0x0, 0x0, 0x0, 0x0, 0x0, 0x0, 0x0, false⟩, -- BOOT_STATUS
  ⟨0x14, 1, 0x4, 1, 0x4, 0x0, 0x0, 0x0, 0x0, 0x0, 0x0, 0x0, false⟩, -- BOOT_FWID
  ⟨0x18, 1, 0x4, 1, 0x4, 0x0, 0x0, 0x0, 0x0, 0x0, 0x0, 0x0, false⟩, -- BOOT_CFGID
  ⟨0x1C, 1, 0x4, 1, 0x4, 0x0, 0x0, 0x0, 0x0, 0x0, 0x0, 0x0, false⟩, -- BOOT_VERS
  ⟨0x20, 1, 0x4, 1, 0x4, 0x0, 0x0, 0x0, 0x0, 0x0, 0x0, 0x0, false⟩, -- BOOT_COUNT
  ⟨0x24, 1, 0x4, 1, 0x4, 0x0, 0x0, 0x0, 0x0, 0x0, 0x0, 0x0, false⟩, -- SYS_SEQ_LAST_HSEQ
  ⟨0x28, 1, 0x4, 1, 0x4, 0x0, 0x0, 0x0, 0x0, 0x0, 0x0, 0x0, false⟩, -- SYS_SEQ_NEXT_DSEQ
  ⟨0x2C, 1, 0x4, 1, 0x4, 0x0, 0x0, 0x0, 0x0, 0x0, 0x0, 0x0, false⟩, -- SYS_SEQ_LAST
  ⟨0x30, 1, 0x4, 1, 0x4, 0x0, 0x0, 0x0, 0x0, 0x0, 0x0, 0x0, false⟩, -- SYS_SEQ_PREV_HSEQ
  ⟨0x34, 1, 0x4, 1, 0x4, 0x0, 0x0, 0x0, 0x0, 0x0, 0x0, 0x0, false⟩, -- SYS_SEQ_PREV_DSEQ
  ⟨0x100, 1, 0x4, 1, 0x4, 0x0, 0x0, 0x0, 0x0, 0x3, 0x0, 0x3, true⟩, -- HIF_CFG
  ⟨0x104, 1, 0x4, 1, 0x4, 0x0, 0x0, 0x0, 0x0, 0xFFFF, 0x0, 0xFFFF, true⟩, -- HIF_TIMEOUT
  ⟨0x108, 1, 0x4, 1, 0x4, 0x0, 0x0, 0x0, 0x0, 0x0, 0x0, 0x0, false⟩, -- HIF_IRQ
  ⟨0x10C, 1, 0x4, 1, 0x4, 0x3, 0x7, 0x0, 0x0, 0x0, 0x0, 0x0, false⟩, -- HIF_IRQ_EN
  ⟨0x110, 1, 0x4, 1, 0x4, 0x0, 0x0, 0x0, 0x0, 0x0, 0x0, 0x0, false⟩, -- HIF_STATUS
  ⟨0x114, 1, 0x4, 1, 0x4, 0x0, 0x0, 0x3F, 0x0, 0x0, 0x0, 0x0, false⟩, -- HIF_FLAGS
  ⟨0x118, 1, 0x4, 1, 0x4, 0x0, 0x0, 0x0, 0x0, 0x0, 0x0, 0x0, false⟩, -- HIF_FLAG_CNT
  ⟨0x11C, 1, 0x4, 1, 0x4, 0x0, 0x0, 0x0, 0x0, 0x0, 0x0, 0x0, false⟩, -- HIF_FLAG_CNT2
  ⟨0x200, 1, 0x1000, 54, 0x4, 0x0, 0xFFFFFFFF, 0x0, 0x0, 0x0, 0x0, 0x0, false⟩, -- MBX_FRAME
  ⟨0x2F0, 1, 0x4, 1, 0x4, 0x0, 0x0, 0x0, 0xFF0101, 0x0, 0x0, 0x0, false⟩, -- MBX_CTRL
  ⟨0x2F4, 1, 0x4, 1, 0x4, 0x0, 0x0, 0x0, 0x0, 0x0, 0x0, 0x0, false⟩, -- MBX_STATUS
  ⟨0x300, 1, 0x1000, 54, 0x4, 0x0, 0x0, 0x0, 0x0, 0x0, 0x0, 0x0, false⟩, -- MBR_FRAME
  ⟨0x400, 1, 0x4, 1, 0x4, 0x0, 0x0, 0x0, 0x0, 0x0, 0x0, 0x0, false⟩, -- EVT_STATUS
  ⟨0x404, 1, 0x4, 1, 0x4, 0x0, 0x0, 0x0, 0x0, 0x0, 0x0, 0x0, false⟩, -- EVT_WR
  ⟨0x408, 1, 0x4, 1, 0x4, 0x0, 0xFFFFFFFF, 0x0, 0x0, 0x0, 0x0, 0x0, false⟩, -- EVT_RD
  ⟨0x410, 1, 0x1000, 56, 0x4, 0x0, 0x0, 0x0, 0x0, 0x0, 0x0, 0x0, false⟩, -- EVT_REC
  ⟨0x500, 1, 0x4, 1, 0x4, 0x0, 0x0, 0x0, 0x0, 0x0, 0x0, 0x0, false⟩, -- FLT_STATUS
  ⟨0x504, 1, 0x4, 1, 0x4, 0x0, 0x0, 0x0, 0x0, 0x0, 0x0, 0x0, false⟩, -- FLT_LAST
  ⟨0x508, 1, 0x4, 1, 0x4, 0x0, 0x0, 0x0, 0x0, 0x0, 0x0, 0x0, false⟩, -- FLT_LAST_TBL
  ⟨0x50C, 1, 0x4, 1, 0x4, 0x0, 0x0, 0x0, 0x0, 0x0, 0x0, 0x0, false⟩, -- FLT_LAST_TBH
  ⟨0x510, 1, 0x4, 1, 0x4, 0x0, 0x0, 0xF, 0x0, 0x0, 0x0, 0x0, false⟩, -- FLT_FLAGS
  ⟨0x514, 1, 0x4, 1, 0x4, 0x0, 0x0, 0x0, 0x0, 0x0, 0x0, 0x0, false⟩, -- FLT_FLAG_CNT
  ⟨0x518, 1, 0x4, 1, 0x4, 0x0, 0x3F, 0x0, 0x0, 0x0, 0x0, 0x0, false⟩, -- FLT_ESC_SEL
  ⟨0x51C, 1, 0x4, 1, 0x4, 0x0, 0x0, 0x0, 0x0, 0x0, 0x0, 0x0, false⟩, -- FLT_ESC_ST
  ⟨0x520, 1, 0x4, 1, 0x4, 0x0, 0x0, 0x0, 0x0, 0x0, 0x0, 0x0, false⟩, -- FLT_FATAL
  ⟨0x524, 1, 0x4, 1, 0x4, 0x0, 0x0, 0x0, 0x1FFFF, 0x0, 0x0, 0x0, false⟩ -- FLT_INJ
]
/-- Part 2 of Table MAP-1. -/
def regTable2 : List RegFam := [
  ⟨0x540, 1, 0x1000, 10, 0x4, 0x0, 0x0, 0x0, 0x0, 0x8DFFFFFF, 0x0, 0x8DFFFFFF, true⟩, -- FLT_ESC
  ⟨0x580, 1, 0x1000, 28, 0x4, 0x0, 0x0, 0x0, 0x0, 0x8DFFFFFF, 0x0, 0x8DFFFFFF, true⟩, -- FLT_ESC
  ⟨0x600, 1, 0x4, 1, 0x4, 0x0, 0x0, 0x0, 0x0, 0x0, 0x0, 0x0, false⟩, -- SAF_STATUS
  ⟨0x604, 1, 0x4, 1, 0x4, 0x0, 0x0, 0x0, 0x0, 0x0, 0x0, 0x0, false⟩, -- SAF_TRIP
  ⟨0x608, 1, 0x4, 1, 0x4, 0x0, 0x0, 0x0, 0x0, 0x0, 0x0, 0x0, false⟩, -- SAF_TRIP_TBL
  ⟨0x60C, 1, 0x4, 1, 0x4, 0x0, 0x0, 0x0, 0x0, 0x0, 0x0, 0x0, false⟩, -- SAF_TRIP_TBH
  ⟨0x610, 1, 0x4, 1, 0x4, 0x0, 0x0, 0x0, 0x0, 0x0, 0x0, 0x0, false⟩, -- SAF_WDCHAL
  ⟨0x614, 1, 0x4, 1, 0x4, 0x0, 0x0, 0x0, 0xFFFFFFFF, 0x0, 0x0, 0x0, false⟩, -- SAF_WDRESP
  ⟨0x618, 1, 0x4, 1, 0x4, 0x0, 0x0, 0x0, 0x0, 0xFF, 0x0, 0xFF, true⟩, -- SAF_WDCFG
  ⟨0x61C, 1, 0x4, 1, 0x4, 0x0, 0x0, 0x0, 0x0, 0x0, 0x0, 0x0, false⟩, -- SAF_XCHK
  ⟨0x620, 1, 0x4, 1, 0x4, 0xFFFF0000, 0x0, 0x0, 0x0, 0x0, 0x0, 0x0, false⟩, -- SAF_DWTIME
  ⟨0x624, 1, 0x4, 1, 0x4, 0x0, 0x0, 0x0, 0x0, 0xFFFF00, 0x0, 0xFFFF00, true⟩, -- SAF_TEMP
  ⟨0x628, 1, 0x4, 1, 0x4, 0x0, 0x0, 0x0, 0x7, 0x0, 0x0, 0x0, false⟩, -- SAF_CTRL
  ⟨0x62C, 1, 0x4, 1, 0x4, 0x0, 0x0, 0xF, 0x0, 0x0, 0x0, 0x0, false⟩, -- SAF_FLAGS
  ⟨0x630, 1, 0x4, 1, 0x4, 0x0, 0x0, 0x0, 0x0, 0x0, 0x0, 0x0, false⟩, -- SAF_FLAG_CNT
  ⟨0x700, 1, 0x4, 1, 0x4, 0x0, 0x0, 0x0, 0x0, 0x0, 0x0, 0x0, false⟩, -- PROT_STATUS
  ⟨0x704, 1, 0x4, 1, 0x4, 0x0, 0x0, 0x0, 0xFFFF, 0x0, 0x0, 0x0, false⟩, -- PROT_CTRL
  ⟨0x708, 1, 0x1000, 8, 0x4, 0x0, 0x0, 0x0, 0x0, 0x800700FF, 0x0, 0x800700FF, true⟩, -- SEC_RIGHTS
  ⟨0x728, 1, 0x4, 1, 0x4, 0x0, 0x7F, 0x0, 0x0, 0x0, 0x0, 0x0, false⟩, -- SES_SEL
  ⟨0x72C, 1, 0x4, 1, 0x4, 0x0, 0x0, 0x0, 0x0, 0x0, 0x0, 0x0, false⟩, -- SES_LAST
  ⟨0x730, 1, 0x4, 1, 0x4, 0x0, 0x0, 0x0, 0x0, 0x0, 0x0, 0x0, false⟩, -- SES_CEIL
  ⟨0x734, 1, 0x4, 1, 0x4, 0x0, 0x0, 0x0, 0x0, 0x0, 0x0, 0x0, false⟩, -- SES_INFO
  ⟨0x738, 1, 0x4, 1, 0x4, 0x1FF, 0x0, 0x0, 0x0, 0x0, 0x0, 0x0, false⟩, -- SEC_PORTEN
  ⟨0x73C, 1, 0x4, 1, 0x4, 0x0, 0x0, 0x7, 0x0, 0x0, 0x0, 0x0, false⟩, -- SEC_FLAGS
  ⟨0x740, 1, 0x4, 1, 0x4, 0x0, 0x0, 0x0, 0x0, 0x0, 0x0, 0x0, false⟩, -- SEC_FLAG_CNT
  ⟨0x800, 1, 0x4, 1, 0x4, 0x0, 0x0, 0x0, 0x0, 0x0, 0x0, 0x0, false⟩, -- OTP_STATUS
  ⟨0x804, 1, 0x4, 1, 0x4, 0x0, 0xFF, 0x0, 0x0, 0x0, 0x0, 0x0, false⟩, -- OTP_SEL
  ⟨0x808, 1, 0x4, 1, 0x4, 0x0, 0x0, 0x0, 0x0, 0x0, 0x0, 0x0, false⟩, -- OTP_READ
  ⟨0x80C, 1, 0x4, 1, 0x4, 0x0, 0x0, 0x0, 0x0, 0x0, 0x0, 0x0, false⟩, -- OTP_MARG
  ⟨0x810, 1, 0x4, 1, 0x4, 0x0, 0x0, 0x0, 0x0, 0x0, 0x0, 0x0, false⟩, -- OTP_POLICY
  ⟨0x814, 1, 0x4, 1, 0x4, 0x0, 0x0, 0x0, 0x0, 0x0, 0x0, 0x0, false⟩, -- OTP_REREAD
  ⟨0x818, 1, 0x4, 1, 0x4, 0x0, 0x0, 0x7, 0x0, 0x0, 0x0, 0x0, false⟩, -- OTP_FLAGS
  ⟨0x81C, 1, 0x4, 1, 0x4, 0x0, 0x0, 0x0, 0x0, 0x0, 0x0, 0x0, false⟩, -- OTP_FLAG_CNT
  ⟨0x900, 1, 0x4, 1, 0x4, 0x0, 0x0, 0x0, 0x0, 0x0, 0x0, 0x0, false⟩, -- UPD_STATUS
  ⟨0x904, 1, 0x4, 1, 0x4, 0x0, 0x0, 0x0, 0x0, 0x0, 0x0, 0x0, false⟩, -- UPD_NEXT
  ⟨0x908, 1, 0x4, 1, 0x4, 0x0, 0x0, 0x0, 0x0, 0x0, 0x0, 0x0, false⟩, -- UPD_LEN
  ⟨0x90C, 1, 0x4, 1, 0x4, 0x0, 0x0, 0x0, 0x0, 0x0, 0x0, 0x0, false⟩, -- UPD_HO
  ⟨0x910, 1, 0x4, 1, 0x4, 0x0, 0x0, 0x0, 0x0, 0x107, 0x0, 0x107, true⟩, -- UPD_CFG
  ⟨0x914, 1, 0x4, 1, 0x4, 0x0, 0x0, 0xF, 0x0, 0x0, 0x0, 0x0, false⟩, -- UPD_FLAGS
  ⟨0x918, 1, 0x4, 1, 0x4, 0x0, 0x0, 0x0, 0x0, 0x0, 0x0, 0x0, false⟩ -- UPD_FLAG_CNT
]
/-- Part 3 of Table MAP-1. -/
def regTable3 : List RegFam := [
  ⟨0xA00, 1, 0x4, 1, 0x4, 0x0, 0x0, 0x0, 0x0, 0x0, 0x0, 0x0, false⟩, -- TB_LO
  ⟨0xA04, 1, 0x4, 1, 0x4, 0x0, 0x0, 0x0, 0x0, 0x0, 0x0, 0x0, false⟩, -- TB_HI
  ⟨0xA08, 1, 0x1000, 48, 0x4, 0x0, 0xFFFFFFFF, 0x0, 0x0, 0x0, 0x0, 0x0, false⟩, -- CMP_CFG
  ⟨0xAC8, 1, 0x1000, 12, 0x4, 0x0, 0x0, 0x0, 0x0, 0x0, 0x0, 0x0, false⟩, -- CMP_CNT
  ⟨0xB00, 1, 0x4, 1, 0x4, 0x0, 0x1F, 0x0, 0x0, 0x0, 0x0, 0x0, false⟩, -- ALM_SEL
  ⟨0xB04, 1, 0x4, 1, 0x4, 0x0, 0x9F000000, 0x0, 0x0, 0x0, 0x0, 0x0, false⟩, -- ALM_CTL
  ⟨0xB08, 1, 0x4, 1, 0x4, 0x0, 0xFFFFFFFF, 0x0, 0x0, 0x0, 0x0, 0x0, false⟩, -- ALM_ATL
  ⟨0xB0C, 1, 0x4, 1, 0x4, 0x0, 0xFFFFFFFF, 0x0, 0x0, 0x0, 0x0, 0x0, false⟩, -- ALM_ATH
  ⟨0xB10, 1, 0x4, 1, 0x4, 0x0, 0x0, 0xFFFFFFFF, 0x0, 0x0, 0x0, 0x0, false⟩, -- ALM_FLAGS
  ⟨0xB14, 1, 0x1000, 8, 0x4, 0x0, 0x0, 0x0, 0x0, 0x0, 0x0, 0x0, false⟩, -- ALM_FLAG_CNT
  ⟨0xB34, 1, 0x4, 1, 0x4, 0x0, 0x0, 0x0, 0x0, 0x0, 0x0, 0x0, false⟩, -- ALM_ARMED
  ⟨0xB40, 1, 0x1000, 16, 0x4, 0x0, 0x7FFF0000, 0x0, 0x0, 0x0, 0x0, 0x0, false⟩, -- TMR_CFG
  ⟨0xB80, 1, 0x1000, 16, 0x4, 0x0, 0xFFFFFFFF, 0x0, 0x0, 0x0, 0x0, 0x0, false⟩, -- TMR_PRE
  ⟨0xBC0, 1, 0x4, 1, 0x4, 0x0, 0xF, 0x0, 0x0, 0x0, 0x0, 0x0, false⟩, -- TMR_SEL
  ⟨0xBC4, 1, 0x4, 1, 0x4, 0x0, 0x0, 0x0, 0x0, 0x0, 0x0, 0x0, false⟩, -- TMR_CNT
  ⟨0xBC8, 1, 0x4, 1, 0x4, 0x0, 0x0, 0x0, 0x0, 0x0, 0x0, 0x0, false⟩, -- TMR_TOP
  ⟨0xBCC, 1, 0x4, 1, 0x4, 0x0, 0x0, 0x0, 0x0, 0x0, 0x0, 0x0, false⟩, -- TMR_RUN
  ⟨0xBD0, 1, 0x4, 1, 0x4, 0x0, 0x0, 0xFFFF, 0x0, 0x0, 0x0, 0x0, false⟩, -- TMR_FLAGS
  ⟨0xBD4, 1, 0x1000, 4, 0x4, 0x0, 0x0, 0x0, 0x0, 0x0, 0x0, 0x0, false⟩, -- TMR_FLAG_CNT
  ⟨0xBE4, 1, 0x4, 1, 0x4, 0x0, 0x0, 0x0, 0xFFFFFFFF, 0x0, 0x0, 0x0, false⟩, -- TMR_CTL
  ⟨0xC00, 1, 0x1000, 4, 0x20, 0x0, 0xFF00000, 0x0, 0x80000000, 0x0, 0x0, 0x0, false⟩, -- CRC_CFG
  ⟨0xC04, 1, 0x1000, 4, 0x20, 0x0, 0xFFFFFFFF, 0x0, 0x0, 0x0, 0x0, 0x0, false⟩, -- CRC_FOLD
  ⟨0xC08, 1, 0x1000, 4, 0x20, 0x0, 0x0, 0x0, 0xFFFFFFFF, 0x0, 0x0, 0x0, false⟩, -- CRC_FEED
  ⟨0xC0C, 1, 0x1000, 4, 0x20, 0x0, 0xFFFFF, 0x0, 0x0, 0x0, 0x0, 0x0, false⟩, -- CRC_BLKA
  ⟨0xC10, 1, 0x1000, 4, 0x20, 0x0, 0x6000FFFF, 0x0, 0x80000000, 0x0, 0x0, 0x0, false⟩, -- CRC_BLKL
  ⟨0xC14, 1, 0x1000, 4, 0x20, 0x0, 0x0, 0x0, 0x0, 0x0, 0x0, 0x0, false⟩, -- CRC_RES
  ⟨0xC18, 1, 0x1000, 4, 0x20, 0x0, 0xFFFFFFFF, 0x0, 0x0, 0x0, 0x0, 0x0, false⟩, -- CRC_CTX
  ⟨0xC1C, 1, 0x1000, 4, 0x20, 0x1F000000, 0x0, 0x0, 0x0, 0x0, 0x0, 0x0, false⟩, -- CRC_STATUS
  ⟨0xC80, 1, 0x4, 1, 0x4, 0x0, 0x0, 0xFF, 0x0, 0x0, 0x0, 0x0, false⟩, -- CRC_FLAGS
  ⟨0xC84, 1, 0x4, 1, 0x4, 0x0, 0x0, 0x0, 0x0, 0x0, 0x0, 0x0, false⟩, -- CRC_FLAG_CNT0
  ⟨0xC88, 1, 0x4, 1, 0x4, 0x0, 0x0, 0x0, 0x0, 0x0, 0x0, 0x0, false⟩, -- CRC_FLAG_CNT1
  ⟨0xD00, 1, 0x4, 1, 0x4, 0x0, 0x0, 0x0, 0x0, 0x0, 0x0, 0x0, false⟩, -- BUS_STATUS
  ⟨0xD04, 1, 0x4, 1, 0x4, 0x0, 0x0, 0x0, 0x0, 0x0, 0x0, 0x0, false⟩, -- BUS_VIN
  ⟨0xD08, 1, 0x4, 1, 0x4, 0x0, 0x0, 0x0, 0x0, 0xFF000F71, 0x0, 0xFF000F71, true⟩, -- BUS_CFG
  ⟨0xD0C, 1, 0x4, 1, 0x4, 0x0, 0x0, 0x0, 0x0, 0xFFFFFFFF, 0x0, 0xFFFFFFFF, true⟩, -- BUS_RESERVE
  ⟨0xD10, 1, 0x4, 1, 0x4, 0x0, 0x0, 0x0, 0x0, 0xFFFFFFFF, 0x0, 0xFFFFFFFF, true⟩, -- BUS_BAND
  ⟨0xD14, 1, 0x4, 1, 0x4, 0x0, 0x0, 0x0, 0x0, 0xFFFFFFFF, 0x0, 0x0, false⟩, -- BUS_THR
  ⟨0xD18, 1, 0x1000, 4, 0x4, 0x0, 0x0, 0x0, 0x0, 0xFFFFFFFF, 0x0, 0x0, false⟩, -- BUS_THR_SHED
  ⟨0xD28, 1, 0x4, 1, 0x4, 0x0, 0x0, 0xF, 0x0, 0x0, 0x0, 0x0, false⟩, -- BUS_FLAGS
  ⟨0xD2C, 1, 0x4, 1, 0x4, 0x0, 0x0, 0x0, 0x0, 0x0, 0x0, 0x0, false⟩ -- BUS_FLAG_CNT
]
/-- Part 4 of Table MAP-1. -/
def regTable4 : List RegFam := [
  ⟨0xE00, 1, 0x4, 1, 0x4, 0x0, 0x0, 0x0, 0x0, 0xFFFFFF00, 0x0, 0xFFFFFF00, true⟩, -- BUD_CFG
  ⟨0xE04, 1, 0x4, 1, 0x4, 0x0, 0x0, 0x0, 0x0, 0xFFFFFFFF, 0x0, 0xFFFFFFFF, true⟩, -- BUD_SUP
  ⟨0xE08, 1, 0x1000, 8, 0x4, 0x0, 0x0, 0x0, 0x0, 0x7FFFF, 0x0, 0x7FFFF, true⟩, -- BUD_PORT
  ⟨0xE28, 1, 0x4, 1, 0x4, 0x0, 0x0, 0x0, 0x0, 0x0, 0x0, 0x0, false⟩, -- BUD_STATUS
  ⟨0xE2C, 1, 0x4, 1, 0x4, 0x0, 0x0, 0x0, 0x0, 0x0, 0x0, 0x0, false⟩, -- BUD_VIN
  ⟨0xE30, 1, 0x1000, 8, 0x4, 0x0, 0x0, 0x0, 0x0, 0x0, 0x0, 0x0, false⟩, -- BUD_GRANT
  ⟨0xE50, 1, 0x4, 1, 0x4, 0x0, 0x0, 0x3, 0x0, 0x0, 0x0, 0x0, false⟩, -- BUD_FLAGS
  ⟨0xE54, 1, 0x4, 1, 0x4, 0x0, 0x0, 0x0, 0x0, 0x0, 0x0, 0x0, false⟩, -- BUD_FLAG_CNT
  ⟨0xF00, 1, 0x4, 1, 0x4, 0x0, 0x0, 0x0, 0x0, 0x0, 0x0, 0x0, false⟩, -- CLK_STATUS
  ⟨0xF04, 1, 0x4, 1, 0x4, 0x0, 0x0, 0x0, 0x0, 0x0, 0x0, 0x0, false⟩, -- FRAME_POS
  ⟨0xF08, 1, 0x4, 1, 0x4, 0x0, 0x0, 0x0, 0x0, 0x1FF, 0x0, 0x1FF, true⟩, -- CNV_CLK
  ⟨0x1000, 9, 0x200, 1, 0x4, 0x0, 0x0, 0x0, 0x0, 0xF01FF, 0x0, 0xF01FF, true⟩, -- ATT_CFG
  ⟨0x1004, 9, 0x200, 1, 0x4, 0x0, 0x0, 0x0, 0x0, 0x0, 0x0, 0x0, false⟩, -- ATT_STATUS
  ⟨0x1008, 9, 0x200, 1, 0x4, 0x0, 0x0, 0x0, 0x0, 0x0, 0x0, 0x0, false⟩, -- ATT_WET
  ⟨0x100C, 9, 0x200, 1, 0x4, 0x0, 0x0, 0x0, 0x0, 0x0, 0x0, 0x0, false⟩, -- ATT_CABLE
  ⟨0x1010, 9, 0x200, 1, 0x4, 0x0, 0x0, 0xF, 0x0, 0x0, 0x0, 0x0, false⟩, -- ATT_FLAGS
  ⟨0x1014, 9, 0x200, 1, 0x4, 0x0, 0x0, 0x0, 0x0, 0x0, 0x0, 0x0, false⟩, -- ATT_FLAG_CNT
  ⟨0x1018, 9, 0x200, 1, 0x4, 0x0, 0x0, 0x0, 0x0, 0xFF8F3E, 0x0, 0xFF8F3E, true⟩, -- PD_CFG
  ⟨0x101C, 9, 0x200, 1, 0x4, 0x11, 0x0, 0x0, 0x0, 0x0, 0x0, 0x0, false⟩, -- PD_STATUS
  ⟨0x1020, 9, 0x200, 1, 0x4, 0x0, 0x0, 0x0, 0x0, 0x0, 0x0, 0x0, false⟩, -- PD_CONTRACT
  ⟨0x1024, 9, 0x200, 1, 0x4, 0x0, 0x0, 0x0, 0x0, 0x0, 0x0, 0x0, false⟩, -- PD_RDO
  ⟨0x1028, 9, 0x200, 1, 0x4, 0x0, 0x0, 0xF, 0x0, 0x0, 0x0, 0x0, false⟩, -- PD_FLAGS
  ⟨0x102C, 9, 0x200, 1, 0x4, 0x0, 0x0, 0x0, 0x0, 0x0, 0x0, 0x0, false⟩, -- PD_FLAG_CNT
  ⟨0x1100, 8, 0x200, 1, 0x4, 0x0, 0x0, 0x0, 0x0, 0xFFFFFFFF, 0x0, 0xFFFFFFFF, true⟩, -- CNV_CFG
  ⟨0x1104, 8, 0x200, 1, 0x4, 0x0, 0x0, 0x0, 0x0, 0xFFFFF0FF, 0x0, 0xFFFFF0FF, true⟩, -- CNV_LOOP
  ⟨0x1108, 8, 0x200, 1, 0x4, 0x0, 0x0, 0x0, 0x0, 0x0, 0x0, 0x0, false⟩, -- CNV_ILIM
  ⟨0x110C, 8, 0x200, 1, 0x4, 0x0, 0x0, 0x0, 0x0, 0xFFFF1FFF, 0x0, 0xFFFF1FFF, true⟩, -- CNV_MAX
  ⟨0x1110, 8, 0x200, 1, 0x4, 0x0, 0x0, 0x0, 0x0, 0x0, 0x0, 0x0, false⟩, -- CNV_STATUS
  ⟨0x1114, 8, 0x200, 1, 0x4, 0x0, 0x0, 0x0, 0x0, 0x0, 0x0, 0x0, false⟩, -- CNV_MEAS
  ⟨0x1118, 8, 0x200, 1, 0x4, 0x0, 0x0, 0x0, 0x0, 0x0, 0x0, 0x0, false⟩, -- CNV_DROP
  ⟨0x111C, 8, 0x200, 1, 0x4, 0x0, 0x0, 0x0, 0x0, 0xFFFFFFFF, 0x0, 0xFFFFFFFF, true⟩, -- CHK_CFG
  ⟨0x1120, 8, 0x200, 1, 0x4, 0xFFFF0000, 0x0, 0x0, 0x0, 0x0, 0x0, 0x0, false⟩, -- CHK_STATUS
  ⟨0x1124, 8, 0x200, 1, 0x4, 0xFFFFFFFF, 0x0, 0x0, 0x0, 0x0, 0x0, 0x0, false⟩, -- CHK_CAP
  ⟨0x1128, 8, 0x200, 1, 0x4, 0x0, 0x0, 0xF, 0x0, 0x0, 0x0, 0x0, false⟩, -- CNV_FLAGS
  ⟨0x112C, 8, 0x200, 1, 0x4, 0x0, 0x0, 0x0, 0x0, 0x0, 0x0, 0x0, false⟩, -- CNV_FLAG_CNT
  ⟨0x1130, 9, 0x200, 1, 0x4, 0x0, 0x0, 0x0, 0x0, 0xCFFFFFFF, 0x0, 0xCFFFFFFF, true⟩, -- BRK_CFG
  ⟨0x1134, 9, 0x200, 8, 0x4, 0x0, 0x0, 0x0, 0x0, 0x3FFFFFF, 0x0, 0x3FFFFFF, true⟩, -- BRK_PT
  ⟨0x1154, 9, 0x200, 1, 0x4, 0x0, 0x0, 0x0, 0x0, 0xFFFFFFFF, 0x0, 0xFFFFFFFF, true⟩, -- BRK_SW
  ⟨0x1158, 9, 0x200, 1, 0x4, 0x0, 0x0, 0x0, 0x0, 0xFFF0FFF, 0x0, 0xFFF0FFF, true⟩, -- BRK_NTC
  ⟨0x115C, 9, 0x200, 1, 0x4, 0x0, 0x0, 0x0, 0x0, 0xFFFF, 0x0, 0xFFFF, true⟩ -- BRK_RETRY
]
/-- Part 5 of Table MAP-1. -/
def regTable5 : List RegFam := [
  ⟨0x1160, 9, 0x200, 1, 0x4, 0x0, 0x0, 0x0, 0x0, 0x0, 0x0, 0x0, false⟩, -- BRK_STATUS
  ⟨0x1164, 9, 0x200, 1, 0x4, 0x0, 0x0, 0x0, 0x0, 0x0, 0x0, 0x0, false⟩, -- BRK_TIME
  ⟨0x1168, 9, 0x200, 1, 0x4, 0x0, 0x0, 0xF, 0x0, 0x0, 0x0, 0x0, false⟩, -- BRK_FLAGS
  ⟨0x116C, 9, 0x200, 1, 0x4, 0x0, 0x0, 0x0, 0x0, 0x0, 0x0, 0x0, false⟩, -- BRK_FLAG_CNT
  ⟨0x3000, 4, 0x100, 4, 0x3C, 0x0, 0x0, 0x0, 0x0, 0xF8FFFF01, 0x0, 0xF8FFFF01, true⟩, -- SQ_UP
  ⟨0x3004, 4, 0x100, 4, 0x3C, 0x0, 0x0, 0x0, 0x0, 0xFFFCFF00, 0x0, 0xFFFCFF00, true⟩, -- SQ_DN
  ⟨0x3008, 4, 0x100, 4, 0x3C, 0x0, 0x0, 0x0, 0x0, 0x101, 0x0, 0x101, true⟩, -- SQ_WIN
  ⟨0x300C, 4, 0x100, 4, 0x3C, 0x0, 0x0, 0x0, 0x0, 0x0, 0x0, 0x0, false⟩, -- SQ_STATUS
  ⟨0x3010, 4, 0x100, 4, 0x3C, 0x0, 0x0, 0x0, 0x0, 0xFFFFFFFF, 0x0, 0xFFFFFFFF, true⟩, -- SQ_NOM
  ⟨0x3014, 4, 0x100, 4, 0x3C, 0x0, 0x0, 0x0, 0x0, 0xFFFFFFFF, 0x0, 0xFFFFFFFF, true⟩, -- SQ_THR
  ⟨0x3018, 4, 0x100, 4, 0x3C, 0x0, 0x0, 0x0, 0x0, 0xFFFFF100, 0x0, 0xFFFFF100, true⟩, -- SQ_SUP
  ⟨0x301C, 4, 0x100, 4, 0x3C, 0x0, 0x0, 0x0, 0x0, 0xFFF103FF, 0x0, 0xFFF103FF, true⟩, -- SQ_MGCAL
  ⟨0x3020, 4, 0x100, 4, 0x3C, 0x0, 0x0, 0x0, 0x0, 0x0, 0xFF, 0x0, false⟩, -- SQ_MG
  ⟨0x3024, 4, 0x100, 4, 0x3C, 0x0, 0x0, 0x0, 0x0, 0x0, 0x0, 0x0, false⟩, -- SQ_MGST
  ⟨0x3028, 4, 0x100, 4, 0x3C, 0x0, 0x0, 0x0, 0x0, 0x0, 0x0, 0x0, false⟩, -- SQ_EFF
  ⟨0x302C, 4, 0x100, 4, 0x3C, 0x0, 0x0, 0x0, 0x0, 0x0, 0x0, 0x0, false⟩, -- SQ_EFF2
  ⟨0x3030, 4, 0x100, 4, 0x3C, 0x0, 0x0, 0x0, 0x0, 0x0, 0x0, 0x0, false⟩, -- SQ_MEAS
  ⟨0x3034, 4, 0x100, 4, 0x3C, 0x0, 0x0, 0xF, 0x0, 0x0, 0x0, 0x0, false⟩, -- SQ_FLAGS
  ⟨0x3038, 4, 0x100, 4, 0x3C, 0x0, 0x0, 0x0, 0x0, 0x0, 0x0, 0x0, false⟩, -- SQ_FLAG_CNT
  ⟨0x3400, 1, 0x4, 1, 0x4, 0x0, 0x0, 0x0, 0x0, 0xFF001F1F, 0x0, 0xFF001F1F, true⟩, -- SQC_CFG
  ⟨0x3404, 1, 0x4, 1, 0x4, 0x0, 0x0, 0x0, 0x0, 0x0, 0x0, 0x0, false⟩, -- SQC_STATUS
  ⟨0x3408, 1, 0x4, 1, 0x4, 0x0, 0x0, 0x0, 0x0, 0x0, 0x0, 0x0, false⟩, -- SQC_RAILS
  ⟨0x3410, 1, 0x1000, 16, 0x4, 0x0, 0x0, 0x0, 0x0, 0x80FF0000, 0x0, 0x80FF0000, true⟩, -- SQC_UP
  ⟨0x3450, 1, 0x1000, 16, 0x4, 0x0, 0x0, 0x0, 0x0, 0x80FF0000, 0x0, 0x80FF0000, true⟩, -- SQC_DN
  ⟨0x3490, 1, 0x1000, 4, 0x4, 0x0, 0x0, 0x0, 0x0, 0xFFFF03FF, 0x0, 0xFFFF03FF, true⟩, -- SQC_RST
  ⟨0x34A0, 1, 0x4, 1, 0x4, 0x0, 0x0, 0x0, 0x0, 0x0, 0x0, 0x0, false⟩, -- SQC_RST_ST
  ⟨0x34A4, 1, 0x4, 1, 0x4, 0x0, 0x3F, 0x0, 0x0, 0x0, 0x0, 0x0, false⟩, -- SQC_TRC_SEL
  ⟨0x34A8, 1, 0x4, 1, 0x4, 0x0, 0x0, 0x0, 0x0, 0x0, 0x0, 0x0, false⟩, -- SQC_TRC_HEAD
  ⟨0x34AC, 1, 0x4, 1, 0x4, 0x0, 0x0, 0x0, 0x0, 0x0, 0x0, 0x0, false⟩, -- SQC_TRC0
  ⟨0x34B0, 1, 0x4, 1, 0x4, 0x0, 0x0, 0x0, 0x0, 0x0, 0x0, 0x0, false⟩, -- SQC_TRC1
  ⟨0x34B4, 1, 0x4, 1, 0x4, 0x0, 0x0, 0xF, 0x0, 0x0, 0x0, 0x0, false⟩, -- SQC_FLAGS
  ⟨0x34B8, 1, 0x4, 1, 0x4, 0x0, 0x0, 0x0, 0x0, 0x0, 0x0, 0x0, false⟩, -- SQC_FLAG_CNT
  ⟨0x34C0, 1, 0x1000, 4, 0x8, 0x0, 0x0, 0x0, 0x0, 0xFFFFF8FF, 0x0, 0xFFFFF8FF, true⟩, -- SQI_CFG
  ⟨0x34C4, 1, 0x1000, 4, 0x8, 0x0, 0x0, 0x0, 0x0, 0xFFFFFFFF, 0x0, 0xFFFFFFFF, true⟩, -- SQI_THR
  ⟨0x34E0, 1, 0x1000, 4, 0x4, 0x0, 0x0, 0x0, 0x0, 0x0, 0x0, 0x0, false⟩, -- SQI_MEAS
  ⟨0x34F0, 1, 0x4, 1, 0x4, 0x0, 0x0, 0xF, 0x0, 0x0, 0x0, 0x0, false⟩, -- SQI_FLAGS
  ⟨0x34F4, 1, 0x4, 1, 0x4, 0x0, 0x0, 0x0, 0x0, 0x0, 0x0, 0x0, false⟩, -- SQI_FLAG_CNT
  ⟨0x3500, 1, 0x4, 1, 0x4, 0x0, 0x0, 0x0, 0x0, 0x703, 0x0, 0x703, true⟩, -- AXL_CFG
  ⟨0x3504, 1, 0x4, 1, 0x4, 0x0, 0x0, 0x0, 0x0, 0xFFFFFFFF, 0x0, 0xFFFFFFFF, true⟩, -- AXL_ID0
  ⟨0x3508, 1, 0x4, 1, 0x4, 0x0, 0x0, 0x0, 0x0, 0xFFFFFFFF, 0x0, 0xFFFFFFFF, true⟩ -- AXL_ID1
]
/-- Part 6 of Table MAP-1. -/
def regTable6 : List RegFam := [
  ⟨0x350C, 1, 0x4, 1, 0x4, 0x0, 0x0, 0x0, 0x0, 0x0, 0x0, 0x0, false⟩, -- AXL_STATUS
  ⟨0x3510, 1, 0x4, 1, 0x4, 0x0, 0x0, 0x0, 0x0, 0x0, 0x0, 0x0, false⟩, -- AXL_CYCL
  ⟨0x3514, 1, 0x4, 1, 0x4, 0x0, 0x0, 0x0, 0x0, 0x0, 0x0, 0x0, false⟩, -- AXL_CYCH
  ⟨0x3518, 1, 0x1000, 4, 0x4, 0x0, 0x0, 0x0, 0x0, 0x0, 0x0, 0x0, false⟩, -- AXL_PEER
  ⟨0x3528, 1, 0x4, 1, 0x4, 0x0, 0x0, 0xF, 0x0, 0x0, 0x0, 0x0, false⟩, -- AXL_FLAGS
  ⟨0x352C, 1, 0x4, 1, 0x4, 0x0, 0x0, 0x0, 0x0, 0x0, 0x0, 0x0, false⟩, -- AXL_FLAG_CNT
  ⟨0x3600, 1, 0x4, 1, 0x4, 0x0, 0x0, 0x0, 0x0, 0x0, 0x0, 0x0, false⟩, -- FFL_STATUS
  ⟨0x3604, 1, 0x4, 1, 0x4, 0x0, 0x107FF, 0x0, 0x0, 0x0, 0x0, 0x0, false⟩, -- FFL_SEL
  ⟨0x3608, 1, 0x4, 1, 0x4, 0x0, 0x0, 0x0, 0x0, 0x0, 0x0, 0x0, false⟩, -- FFL_LASTNO
  ⟨0x360C, 1, 0x4, 1, 0x4, 0x0, 0x0, 0x3, 0x0, 0x0, 0x0, 0x0, false⟩, -- FFL_FLAGS
  ⟨0x3610, 1, 0x4, 1, 0x4, 0x0, 0x0, 0x0, 0x0, 0x0, 0x0, 0x0, false⟩, -- FFL_FLAG_CNT
  ⟨0x3640, 1, 0x1000, 16, 0x4, 0x0, 0x0, 0x0, 0x0, 0x0, 0x0, 0x0, false⟩, -- FFL_REC
  ⟨0x3800, 1, 0x4, 1, 0x4, 0x0, 0x0, 0x0, 0x0, 0xFFFFFF, 0x0, 0xFFFFFF, true⟩, -- MSR_CFG
  ⟨0x3804, 1, 0x1000, 5, 0x4, 0x0, 0x0, 0x0, 0x0, 0xFFFFFFFF, 0x0, 0xFFFFFFFF, true⟩, -- MSR_SAFE
  ⟨0x3818, 1, 0x1000, 5, 0x4, 0x0, 0x0, 0x0, 0x0, 0xFFFFFFFF, 0x0, 0xFFFFFFFF, true⟩, -- MSR_DUAL
  ⟨0x382C, 1, 0x1000, 9, 0x4, 0xFF, 0x0, 0x0, 0x0, 0xFFFFFFFF, 0x0, 0xFFFFFFFF, true⟩, -- MSR_GPW
  ⟨0x3850, 1, 0x4, 1, 0x4, 0x0, 0xFF, 0x0, 0x0, 0x0, 0x0, 0x0, false⟩, -- MSR_PEEK_SEL
  ⟨0x3854, 1, 0x4, 1, 0x4, 0x0, 0x0, 0x0, 0x0, 0x0, 0x0, 0x0, false⟩, -- MSR_PEEK
  ⟨0x3858, 1, 0x4, 1, 0x4, 0x0, 0x0, 0x0, 0x0, 0x0, 0x0, 0x0, false⟩, -- MSR_CMP_ST0
  ⟨0x385C, 1, 0x4, 1, 0x4, 0x0, 0x0, 0x0, 0x0, 0x0, 0x0, 0x0, false⟩, -- MSR_CMP_ST1
  ⟨0x3860, 1, 0x1000, 4, 0x4, 0x0, 0x0, 0x0, 0x0, 0x0, 0x0, 0x0, false⟩, -- MSR_ADC
  ⟨0x3870, 1, 0x4, 1, 0x4, 0x0, 0x0, 0xF, 0x0, 0x0, 0x0, 0x0, false⟩, -- MSR_FLAGS
  ⟨0x3874, 1, 0x4, 1, 0x4, 0x0, 0x0, 0x0, 0x0, 0x0, 0x0, 0x0, false⟩, -- MSR_FLAG_CNT
  ⟨0x3900, 1, 0x4, 1, 0x4, 0x0, 0x0, 0x0, 0x0, 0x0, 0x1, 0x0, false⟩, -- SCH_CTRL
  ⟨0x3904, 1, 0x4, 1, 0x4, 0x0, 0x0, 0x0, 0x0, 0x0, 0x0, 0x0, false⟩, -- SCH_STATUS
  ⟨0x3908, 1, 0x4, 1, 0x4, 0x0, 0x0, 0x0, 0x0, 0x0, 0x0, 0x0, false⟩, -- SCH_REFUSE
  ⟨0x390C, 1, 0x4, 1, 0x4, 0x0, 0x0, 0x0, 0x0, 0x0, 0x13FFF, 0x0, false⟩, -- SCH_ADDR
  ⟨0x3910, 1, 0x4, 1, 0x4, 0xFF, 0x0, 0x0, 0x0, 0x0, 0xFFFFFFFF, 0x0, false⟩, -- SCH_DATA
  ⟨0x3914, 1, 0x4, 1, 0x4, 0x0, 0x0, 0x0, 0x0, 0x0, 0xFFFFFFFF, 0x0, false⟩, -- SCH_CRC
  ⟨0x3918, 1, 0x4, 1, 0x4, 0x0, 0x0, 0x0, 0x0, 0x0, 0x0, 0x0, false⟩, -- SCH_CRC_ACT
  ⟨0x391C, 1, 0x4, 1, 0x4, 0x0, 0x0, 0xF, 0x0, 0x0, 0x0, 0x0, false⟩, -- SCH_FLAGS
  ⟨0x3920, 1, 0x4, 1, 0x4, 0x0, 0x0, 0x0, 0x0, 0x0, 0x0, 0x0, false⟩, -- SCH_FLAG_CNT
  ⟨0x3A00, 1, 0x4, 1, 0x4, 0x0, 0xFF03, 0x0, 0x4, 0x0, 0x0, 0x0, false⟩, -- CAP_CTRL
  ⟨0x3A04, 1, 0x4, 1, 0x4, 0x0, 0xF8FF3FFF, 0x0, 0x0, 0x0, 0x0, 0x0, false⟩, -- CAP_TRIG
  ⟨0x3A08, 1, 0x4, 1, 0x4, 0x0, 0x0, 0x0, 0x0, 0x0, 0x0, 0x0, false⟩, -- CAP_STATUS
  ⟨0x3A0C, 1, 0x4, 1, 0x4, 0x0, 0x0, 0x0, 0x0, 0x0, 0x0, 0x0, false⟩, -- CAP_START
  ⟨0x3A10, 1, 0x4, 1, 0x4, 0x0, 0x0, 0x0, 0x0, 0x0, 0x0, 0x0, false⟩, -- CAP_TBL
  ⟨0x3A14, 1, 0x4, 1, 0x4, 0x0, 0x0, 0x0, 0x0, 0x0, 0x0, 0x0, false⟩, -- CAP_TBH
  ⟨0x3A18, 1, 0x4, 1, 0x4, 0x0, 0x0, 0x3, 0x0, 0x0, 0x0, 0x0, false⟩, -- CAP_FLAGS
  ⟨0x3A1C, 1, 0x4, 1, 0x4, 0x0, 0x0, 0x0, 0x0, 0x0, 0x0, 0x0, false⟩ -- CAP_FLAG_CNT
]
/-- Part 7 of Table MAP-1. -/
def regTable7 : List RegFam := [
  ⟨0x3A20, 1, 0x4, 1, 0x4, 0x0, 0x3, 0x0, 0x4, 0x0, 0x0, 0x3, true⟩, -- CAP_SPILL
  ⟨0x3A24, 1, 0x4, 1, 0x4, 0x0, 0x0, 0x0, 0x3FF, 0x0, 0x0, 0x0, false⟩, -- CAP_SEND
  ⟨0x3B00, 1, 0x1000, 8, 0x4, 0x0, 0xE0FC00FF, 0x0, 0x0, 0x0, 0x0, 0xE0FC00FF, true⟩, -- TLM_STR
  ⟨0x3B20, 1, 0x4, 1, 0x4, 0x0, 0x0, 0x0, 0x0, 0x0, 0x0, 0x0, false⟩, -- TLM_STATUS
  ⟨0x3B24, 1, 0x4, 1, 0x4, 0x0, 0x0, 0x3, 0x0, 0x0, 0x0, 0x0, false⟩, -- TLM_FLAGS
  ⟨0x3B28, 1, 0x4, 1, 0x4, 0x0, 0x0, 0x0, 0x0, 0x0, 0x0, 0x0, false⟩, -- TLM_FLAG_CNT
  ⟨0x3C00, 1, 0x4, 1, 0x4, 0x0, 0x0, 0x0, 0x0, 0xFFFFFF06, 0x0, 0xFFFFFF06, true⟩, -- HUB_CFG
  ⟨0x3C04, 1, 0x4, 1, 0x4, 0x0, 0x0, 0x0, 0x0, 0xFFFF, 0x0, 0xFFFF, true⟩, -- HUB_PORTS
  ⟨0x3C08, 1, 0x4, 1, 0x4, 0x0, 0x0, 0x0, 0x0, 0x0, 0x0, 0x0, false⟩, -- HUB_STATUS
  ⟨0x3C0C, 1, 0x1000, 8, 0x4, 0x0, 0x0, 0x0, 0x0, 0x0, 0x0, 0x0, false⟩, -- HUB_PSTAT
  ⟨0x3C2C, 1, 0x4, 1, 0x4, 0x0, 0x0, 0x0, 0x0, 0x0, 0x0, 0x0, false⟩, -- HUB_BUF
  ⟨0x3C30, 1, 0x1000, 16, 0x4, 0x0, 0x800F7F1F, 0x0, 0x0, 0x0, 0x0, 0x0, false⟩, -- HUB_PRI
  ⟨0x3C70, 1, 0x4, 1, 0x4, 0x0, 0x0, 0x0, 0x1FF, 0x0, 0x0, 0x0, false⟩, -- HUB_CTRL
  ⟨0x3C74, 1, 0x1000, 9, 0x4, 0x0, 0x0, 0x0, 0x0, 0x0, 0x0, 0x0, false⟩, -- HUB_ERR
  ⟨0x3C98, 1, 0x4, 1, 0x4, 0x0, 0x0, 0xF, 0x0, 0x0, 0x0, 0x0, false⟩, -- HUB_FLAGS
  ⟨0x3C9C, 1, 0x4, 1, 0x4, 0x0, 0x0, 0x0, 0x0, 0x0, 0x0, 0x0, false⟩, -- HUB_FLAG_CNT
  ⟨0x3D00, 1, 0x4, 1, 0x4, 0x0, 0x0, 0x0, 0x0, 0x3, 0x0, 0x3, true⟩, -- MGT_CFG
  ⟨0x3D04, 1, 0x1000, 2, 0x4, 0x0, 0x0, 0x0, 0x0, 0x0, 0x0, 0x0, false⟩, -- MGT_STATUS
  ⟨0x3E00, 1, 0x4, 1, 0x4, 0x0, 0x0, 0x0, 0x0, 0x0, 0x0, 0x0, false⟩, -- HIS_STATUS
  ⟨0x3E04, 1, 0x4, 1, 0x4, 0x0, 0x0, 0x0, 0x0, 0x0, 0x0, 0x0, false⟩, -- HIS_DAY
  ⟨0x3E08, 1, 0x4, 1, 0x4, 0x0, 0x0, 0x0, 0x0, 0x0, 0x0, 0x0, false⟩, -- HIS_LASTNO
  ⟨0x3E0C, 1, 0x4, 1, 0x4, 0x0, 0xF7FFF, 0x0, 0x0, 0x0, 0x0, 0x0, false⟩, -- HIS_SEL
  ⟨0x3E10, 1, 0x4, 1, 0x4, 0x0, 0x0, 0x7, 0x0, 0x0, 0x0, 0x0, false⟩, -- HIS_FLAGS
  ⟨0x3E14, 1, 0x4, 1, 0x4, 0x0, 0x0, 0x0, 0x0, 0x0, 0x0, 0x0, false⟩, -- HIS_FLAG_CNT
  ⟨0x3E40, 1, 0x1000, 16, 0x4, 0x0, 0x0, 0x0, 0x0, 0x0, 0x0, 0x0, false⟩ -- HIS_REC
]
/-- Every register of Table MAP-1 (R610), with the field maps of its chapter. -/
def regTable : List RegFam := regTable1 ++ regTable2 ++ regTable3 ++ regTable4 ++ regTable5 ++ regTable6 ++ regTable7

/-- Whether an address is a word of the family. -/
def RegFam.covers (f : RegFam) (a : Nat) : Bool :=
  decide (f.base ≤ a) && decide ((a - f.base) / f.s1 < f.n1) &&
  decide ((a - f.base) % f.s1 / f.s2 < f.n2) && decide ((a - f.base) % f.s1 % f.s2 = 0)

/-- The register family of an address; none for a reserved word (R609). -/
def regFam? (a : Nat) : Option RegFam := regTable.find? fun f => f.covers a

end Sys2Proof
end

