-- ==== Sys2Proof/Machine/State.lean ====
section
/-!
DEFINITION. The state of the part as plain data: every register of Table MAP-1 (in one sparse bank, each field's only
home), and beside it the state the chapters give that no register shows: timers, queues, rings, memories, pins and the
protocol state of the ports. Default values of the fields are the values after power-on reset.
-/
namespace Sys2Proof.Machine

/-- Why the machine stops with a fault. No command of this part raises one: every row of the table has an effect that
the manual states. The one constructor stands for a state in which no clock, supply or island of the part acts; safe. -/
inductive Fault where
  /-- Nothing of the part acts; raised by no meaning of this model (safe). -/
  | powerLost
  deriving DecidableEq, Repr

/-- Why a command has no meaning. -/
inductive Refusal where
  /-- The command is not modelled yet; raised by exec's arms alone (safe). -/
  | notModelled (mnemonic : String)
  deriving DecidableEq, Repr

/-- The nine device states of Table SEA-1. -/
inductive DevState where
  | romBoot | spring | summer | autumn | winter | deepWinter | offSeason | romRecovery | factoryTest
  deriving DecidableEq, Repr

/-- Every timer of the chapters that an operation of the table waits on. A running timer is in `State.timers` with
the time from which its operation may come about. -/
inductive TimerId where
  | clockCheck | bootTimer | sealTimer | holdTimer | springLimit | winterHold | summerHour | lifeHour | lifeRetry
  | restartWait | acsnsLock | mainsReturn | mainsLoss | vinOvp | busIsolation
  | wdClosed | wdPeriod | coldRestart | coldStep | seqDelay | gateTimeout
  | otpDay | poolEmpty
  | stretch (n : Fin 4) | railDelay (j : RailId) | rise (j : RailId) | fall (j : RailId) | discharge (j : RailId)
  | margin (j : RailId)
  | ccDebounce (k : PortId) | wetNext (k : PortId) | wetSettle (k : PortId) | wetWindow (k : PortId)
  | drp | drpTry
  | sendCaps (k : PortId) | senderResponse (k : PortId) | psHardReset (k : PortId) | srcRecover (k : PortId)
  | errorRecovery (k : PortId) | srcTransition (k : PortId) | transition (k : PortId) | goodCrc (k : PortId)
  | sinkTx (k : PortId) | upwardOffer (k : PortId) | keepAlive (k : PortId) | ppsTimeout (k : PortId)
  | vconnStable (k : PortId) | authResponse (k : PortId) | authWhole (k : PortId) | frener (k : PortId) | drSwap
  | headroom (k : PortId) | chkDue (k : PortId) | chkWindow (k : PortId)
  | preClose (k : PortId) | closing (k : PortId) | allowance (k : PortId) | offCheck (k : PortId)
  | retryOff (k : PortId) | retryClear (k : PortId) | ntcCool (k : PortId) | onDrop (k : PortId)
  deriving DecidableEq, Repr

/-- One event record of the ring (R554). -/
structure Event where
  dseq   : Nat
  flags  : Nat
  source : Nat
  code   : Nat
  tb     : Nat
  deriving DecidableEq, Repr

/-- One classified fault waiting in the collector's queue (R484, R489). -/
structure FaultRec where
  code     : Nat
  promoted : Bool
  state    : Nat
  tb       : Nat
  deriving DecidableEq, Repr

/-- One source's escalation counter and the time its window opened (R486). -/
structure Esc where
  count    : Nat := 0
  openedAt : Nat := 0
  deriving DecidableEq, Repr

/-- A message between a port's policy and its protocol layer: its name in Table PDP-2, its data objects or payload
words, and whether it goes out on SOP′. -/
inductive MsgKind where
  | accept | reject | wait | notSupported | softReset | psRdy | sourceCap | eprSourceCap | request | sinkCap
  | sinkCapExt | sourceCapExt | sourceInfo | revision | manufacturerInfo | status | ppsStatus | getStatus
  | eprModeEnterAck | eprModeEnterOk | eprModeEnterFailed | eprModeExit | eprKeepAliveAck | drSwap
  | securityRequest | vdmAck | vdmNak | frIdent | frVin | frNotice | discoverIdentity | goodCrc | hardReset
  | bistCarrier | prSwapDone
  deriving DecidableEq, Repr

/-- A PD message with its objects. -/
structure PdMsg where
  kind : MsgKind
  objs : List Word := []
  /-- Number of the chunk of a long extended message that goes out now (R188). -/
  chunk : Nat := 0
  deriving DecidableEq, Repr

/-- What a port engine waits for in the exchange under way. -/
inductive Await where
  | none | request | srcTransition | transition | softReset | drSwap | sinkAccept | sinkPsRdy | prSwap | prSwapSink | vconnSwap
  deriving DecidableEq, Repr

/-- The steps of the source Hard Reset of Table PDP-5. -/
inductive HrStep where
  | none | wait | recover | reapply | capsDue
  deriving DecidableEq, Repr

/-- How far an authentication has come (R207). -/
inductive AuthStep where
  | idle | due | digests | certificate | challenge
  deriving DecidableEq, Repr

/-- What the pins of port k show, whatever the part does with them (PIN, ATT). -/
structure PortPins where
  cc1 : Term := .opn                  -- partner's termination on CC1
  cc2 : Term := .opn                  -- partner's termination on CC2
  vcsnsSafe : Bool := true            -- Pk_VCSNS at or below vSafe0V
  seatLow : Bool := false             -- Pk_SEAT has been low for 20 ms and not high for 200 µs since (R167)
  deriving DecidableEq, Repr

/-- Attach state of port k that no register shows (ATT). -/
structure AttPort where
  vconnLockout : Bool := false        -- VCONN tripped until detach (R169)
  warned05 : Bool := false            -- warning 0x0k05 raised for this attach (R165)
  dcp : Bool := false                 -- DP shorted to DM (R170)
  lanes : Nat := 0                    -- lane multiplexer: 0 both pairs at high impedance, 1 TX1 and RX1 routed, 2 TX2 and RX2 (R168)
  safeWait : Bool := false            -- after a detach Pk_VCSNS has not yet fallen to vSafe0V (R164)
  noData : Bool := false              -- port 9 carries no USB data until the next attach (R211)
  wetPins : Nat := 0                  -- pins the running reading measures: bits CC1, CC2, SBU1, SBU2
  wetBias : Bool := false             -- the bias of R171 is applied
  wetMiss : Nat := 0                  -- consecutive readings with a pin lacking a result (R172)
  dryStart : Option Nat := none       -- time of the first reading of the present dry run (R175)
  dryRun : Nat := 0                   -- readings of that run
  trySub : Nat := 0                   -- port 9: 0 toggling, 1 Try.SNK, 2 TryWait.SRC (R177)
  asSource : Bool := true             -- port 9: role presented while toggling (R177)
  deriving DecidableEq, Repr

/-- Protocol layer and policy of port k (PDP). -/
structure PdPort where
  tx : List PdMsg := []               -- messages sent, the first awaiting GoodCRC
  retries : Nat := 0                  -- retransmissions of the first message
  txId : Nat := 0                     -- MessageID of the next message of the part on SOP (R187, R217)
  txIdP : Nat := 0                    -- the same on SOP′
  rxId : Option Nat := none           -- MessageID of the last message received on SOP
  rxIdP : Option Nat := none          -- the same on SOP′
  acked : Option Nat := none          -- MessageID of the GoodCRC that the protocol layer sent last (R187)
  rxq : List Instr := []              -- messages queued during a reload, oldest first (R218)
  reloading : Bool := false           -- the port engine is held in reset or reloaded (R218)
  peBefore : Nat := 0                 -- PE when the reload began
  await : Await := .none              -- what the port engine waits for
  ams : Bool := false                 -- SinkTxNG is presented for an AMS of the part's own (R197)
  held : List PdMsg := []             -- messages waiting for tSinkTx
  hr : HrStep := .none                -- step of Table PDP-5
  hrCount : Nat := 0                  -- Hard Reset counter (R199)
  capsCount : Nat := 0                -- Source_Capabilities unanswered (R200)
  noPd : Bool := false                -- no further PD attempt (R200)
  caps : List Word := []              -- capabilities last sent, in object order
  capsEpr : Bool := false             -- they were EPR_Source_Capabilities
  capsDue : Bool := false             -- cable limits or the gate have changed since the last offer (R194)
  pos : Nat := 0                      -- position of the request accepted and not yet in force
  reqRdo : Word := 0#32               -- its RDO
  reqType : Nat := 0                  -- PD_CONTRACT.TYPE of that request
  reqMv : Nat := 0
  reqMa : Nat := 0
  reqKeep : Bool := false             -- the voltage is kept (R196)
  reqMismatch : Bool := false
  eprCapRdo : Bool := false           -- EPR Mode Capable of the RDO in force (R202)
  sinkMa : Nat := 0                   -- port 9: current requested as a sink
  cableTries : Nat := 0               -- attempts of R213
  cableDone : Bool := false           -- the outcome of cable discovery is written
  drTries : Nat := 0                  -- DR_Swap attempts of R211
  frCap : Nat := 0                    -- Frener FR_CAP of the module (R215)
  frType : Nat := 0                   -- Frener MODULE_TYPE
  frSerial : Nat := 0                 -- Frener module serial
  frIdentSent : Bool := false         -- IDENT sent in this contract (R216)
  frWait : Nat := 0                   -- command whose response is awaited
  frTag : Nat := 0                    -- TAG of the VIN request (Table PDP-7)
  auth : AuthStep := .idle
  authNonce : List Byte := []         -- nonce of the CHALLENGE
  authRoot : List Byte := []          -- digest of the root the chain was found to have
  authSlots : List Nat := []          -- slots whose chain is still to be read, the one being read first (R207)
  authChain : List Byte := []         -- bytes of that slot's chain read so far
  authLeaf : List Byte := []          -- public key of the leaf certificate of the verified chain
  bist : Nat := 0                     -- 0 none, 1 Carrier Mode, 2 Test Data (R189)
  tripSeen : Nat := 0                 -- OCP, OTP, OVP since the previous Status (R190): bits 0, 1, 2
  deriving DecidableEq, Repr

/-- Converter of port k (CNV). -/
structure CnvPort where
  run : Bool := false                 -- the converter is started
  target : Nat := 0                   -- target in mV
  rampFrom : Nat := 0                 -- start of the present ramp, mV
  position : Nat := 0                 -- ramp position in 0.1 mV
  rampOpen : Bool := false            -- a ramp or its transition has not ended (R244, R275)
  rampEndAt : Nat := 0                -- when the last ramp ended (R275)
  mode : Nat := 0                     -- mode chosen at the last switching period (R231)
  integ : Int := 0                    -- integrator of the voltage loop (R236)
  trim : Int := 0                     -- trim of the current loop (R236)
  ipk : Nat := 0                      -- peak command in mA (R236)
  skipping : Bool := false            -- pulse skipping (R234)
  periodFrom : Nat := 0               -- time base from which the next switching period may start (R230)
  updateFrom : Nat := 0               -- time base from which the next outer-loop update may come (R236)
  peakUv : Nat := 0                   -- peak command of the present period as a voltage across RSNS, in µV (R232, R236)
  slopeUv : Nat := 0                  -- slope compensation, in µV per µs (R232)
  starting : Bool := false            -- the first ramp since the converter's start has not ended (R234, R242)
  startDue : Option Nat := none       -- a start to this target waits for the 16 results of R235
  bootLow : Nat := 0                  -- periods with a bootstrap below 3.80 V (R228)
  nodeBad : Nat := 0                  -- periods in which a switch node did not follow (R266)
  offsets : List Int := []            -- last 16 results of the current channel (R235)
  limitZero : Bool := false           -- the current limit is 0 (R73, R164, Table PDP-5) until the next start
  inRange : Nat := 0                  -- frames within the new range (R244)
  dropAge : Nat := 0                  -- superframes without a drop pair (R237)
  headWarned : Bool := false          -- 0x0k20 raised in this contract (R246)
  deriving DecidableEq, Repr

/-- Contact health of port k (CNV, R247–R253). -/
structure ChkPort where
  winOpen : Bool := false             -- a window runs
  partner : Bool := false             -- by the partner method
  disturbed : Bool := false           -- CLIM, HEADROOM, a ramp, a shed or a reset fell into the window (R248)
  vin : Option (Nat × Nat × Nat × Nat) := none     -- TAG-matched VIN_MV, I_MA, VIN_ACC, I_ACC of the module
  mismatch : Bool := false            -- the response had another TAG
  refP : Option (Int × Nat) := none   -- reference of the partner method: d0 in mV, i0 in mA (R250)
  refR : Option (Int × Nat) := none   -- reference of the receptacle-only method
  last3 : List Nat := []              -- last three results of this attach, newest first (R252)
  warned : Bool := false              -- 0x0k24 raised in this attach
  nextAt : Nat := 0                   -- earliest time of the next reading but for a retry (R247)
  dayP : List Nat := []               -- partner-method results of the operating day (R251)
  dayR : List Nat := []               -- receptacle-only results of the operating day
  deriving DecidableEq, Repr

/-- Switch and breaker of port k (BRK). -/
structure BrkPort where
  acc : Nat := 0                      -- breaker accumulator, full scale 2^32 (R279)
  accZeroAt : Nat := 0                -- last step at which acc was 0 (R284)
  closeAt : Nat := 0                  -- start of step 3 of Table BRK-2
  retryClose : Bool := false          -- the present close is a retry close (R284)
  retried : Bool := false             -- a retry close has happened since RETRIES last returned to 0
  vb0 : Nat := 0                      -- VBSNS0 of R286, mV
  vc0 : Nat := 0                      -- VCSNS0
  i0 : Nat := 0                       -- I0
  hiOpen : Nat := 0                   -- VBSNS HI at the open command, mV (Table BRK-3)
  safeSeen : Bool := true             -- VCSNS has reached vSafe0V since the last open command (Table BRK-3)
  iRef : Nat := 900                   -- I_REF in mA (R278)
  iRefNext : Nat := 900
  after : Nat := 0                    -- STATE after the off check: 0, 6, 7 or 8
  latched : Bool := false             -- latched off (R283), whatever hold stands over it
  heldUntilDetach : Bool := false     -- a hold that ends at detach (Table BRK-4, R287, Table FLT-3)
  heldNtc : Bool := false             -- a hold that ends under NTC_RECOVERED
  degradedWarned : Bool := false      -- 0x0k3C raised for this attach (R287)
  dropArmed : Bool := false           -- short comparator drop arm armed (R273)
  gate : Nat := 0                     -- 0 charging, 1 held, 2 discharged by foldback (R271)
  verdictDue : Bool := false          -- the off check waits for the pre-close test (R286)
  deriving DecidableEq, Repr

/-- State of port k beyond its registers. -/
structure Port where
  pins : PortPins := {}
  att : AttPort := {}
  pd : PdPort := {}
  cnv : CnvPort := {}
  chk : ChkPort := {}
  brk : BrkPort := {}
  deriving DecidableEq, Repr

/-- What SQMGj carries (R313, R366). -/
inductive MgPin where
  | hiZ | dac | discharge
  deriving DecidableEq, Repr

/-- State of rail j that no register shows (SEQ, RSV). -/
structure Rail where
  sum : Int := 0                      -- sum and number of the SQVS results of the last frame, in codes
  n : Nat := 0
  regFrames : Nat := 0                -- consecutive frames in regulation (R314)
  offFrames : Nat := 0                -- consecutive frames below off
  mg : MgPin := .hiZ
  keep : Bool := false                -- SQ_WIN.KEEP latched at the seal (R329)
  dis : Bool := false                 -- SQ_WIN.DIS latched at the seal
  enabledAt : Nat := 0
  releasedAt : Nat := 0
  fallDue : Bool := false             -- released and not yet below off: its fall is timed (R345)
  stepDone : Bool := false            -- done in the present step (R319, R323)
  lostUntilSpring : Bool := false     -- released by a contained fault (R363)
  uvwFrames : Nat := 0                -- frames beyond the UV warning threshold (R361)
  ovwFrames : Nat := 0
  uvwClear : Nat := 0                 -- frames inside by the hysteresis (R362)
  ovwClear : Nat := 0
  stable : Nat := 0                   -- frames unmoved and within 0.1 % (Table RSV-1)
  atRail : Nat := 0                   -- frames held at code 0 or 1,023 outside 0.1 %
  raisedAt : List Nat := []           -- times of its UV and OV raises of the last 32 frames, oldest first (R372)
  winter : Bool := false              -- released by the Winter table and not yet below off (R328)
  deriving DecidableEq, Repr

/-- State of current-sense channel m (R365). -/
structure CurSense where
  warnFrames : Nat := 0
  clearFrames : Nat := 0
  active : Bool := false
  deriving DecidableEq, Repr

/-- Where the sequencer stands in a step of Table SEQ-1 or SEQ-2. -/
inductive SeqSub where
  | idle | delay | gate | run
  deriving DecidableEq, Repr

/-- The sequencer engine and the rail unit (SEQ). -/
structure Seq where
  sub : SeqSub := .idle
  traceRam : Bank (Word × Word) := [] -- 64 entries in retained SRAM (R330)
  tableDone : Bool := false           -- the power-up table is complete
  forRestart : Bool := false          -- the power-down precedes T11 (R322)
  restartAuto : Bool := false         -- that T11 is the automatic one (R37)
  winterDue : Option Nat := none      -- T10 after the commit point waits for DONE; the fatal fault
  cur : List CurSense := [{}, {}, {}, {}]
  deriving DecidableEq, Repr

/-- The Axkan link and the cascade line (R331–R341). -/
structure Axl where
  cascHigh : Bool := false            -- CASC_IN, filtered
  arm : Bool := false                 -- master's ARM (R333)
  chainFault : Bool := false          -- master's CHAIN_FAULT (R334)
  cyc : Nat := 0                      -- CYC of the present cycle, or the last accepted by a slave
  repCyc : Nat := 0                   -- slave: CYC that its REPORT of this cycle carries (R339)
  bootsM : Option Nat := none         -- BOOTS_M of the accepted JOIN
  kS : List Byte := []                -- K_S
  joined : Bool := false
  reported : List Nat := []           -- positions that reported in the present cycle
  peers : List (Nat × Nat × Nat × Nat) := []  -- position, bits 95:80, bits 79:64, cycle of its last valid frame
  sinceValid : List Nat := [0, 0, 0, 0]       -- cycles since a valid frame of position n
  lost : Bool := false                -- fault 0xA902 holds
  sent : List (BitVec 96) := []       -- frames driven on AXD in the present cycle, newest first
  deriving DecidableEq, Repr

/-- The input stage and the supplies (BUS, R51, R180). -/
structure Bus where
  step : Nat := 1                     -- step of Table BUS-3 under way, 5 once reset is released
  lowC : Nat := 0                     -- low_c of R71
  lowS : List Nat := [0, 0, 0, 0, 0, 0, 0, 0]
  mainsEdge : Bool := false           -- mains_lost_edge of R71, this frame
  lastEdge : Option Nat := none       -- time of the last qualified ACSNS edge
  intervals : List Nat := []          -- last 8 intervals, newest first, in fabric cycles
  run50 : Nat := 0                    -- consecutive intervals within the 50 Hz window
  run60 : Nat := 0
  badRun : Nat := 0                   -- consecutive intervals outside the locked window
  retCount : Nat := 0                 -- intervals within the window after a loss
  skipNext : Bool := false            -- the next interval is the one across the loss
  lossArmed : Bool := false           -- mains-loss detection armed
  mainsOff : Bool := false            -- the mains-loss trigger is disarmed by 0xA006 (R86)
  mainsBack : Bool := false           -- four intervals within the window since the last loss (R75)
  last60 : Bool := false              -- the window last locked is the 60 Hz window
  autumnDue : Option Nat := none      -- T6 that waits for the end of the supervisor pause, with its cause
  cause : Nat := 0                    -- cause of the last Autumn: 1 sag, 2 mains, 3 shutdown
  retSince : Option Nat := none       -- VIN at or above RET_MV since
  restorePrio : Option Nat := none    -- priority whose ports the next allocator run restores (R75)
  sinkPresent : Bool := false         -- port 9 sink supply present (R180)
  isoHold : Bool := false             -- isolation of Table FLT-3 for the input bus
  deriving DecidableEq, Repr

/-- The safety island (SAF) beyond its registers. -/
structure Island where
  lfsr : Nat := 0                     -- challenge generator (R453)
  answered : Bool := false            -- a correct answer in this period
  clsWrong : Nat := 0                 -- superframes with a wrong or missing class
  offTested : Bool := false           -- OFFTEST taken in this boot
  held00A : Bool := false             -- Winter held after 0xC00A (R451)
  clockStopped : Bool := false        -- no strobe came within 360 island cycles (R450)
  restartEn : Bool := false           -- DW_RESTART_EN latched at the seal (R465)
  dwAt : Option Nat := none           -- time of the latest Deep Winter entry
  mayRestart : Bool := false          -- guard of R465 judged at this entry
  coldStep : Nat := 0                 -- power-down step whose KEEP rails are released next (R466)
  xFresh : Bool := true               -- MIN and MAX restart with the next count (R474)
  recordDue : Bool := false           -- the deferred record of the latest trip is not yet taken (R377)
  tempHot : Nat := 0                  -- frames at or above WARN (R460)
  tempCool : Nat := 0
  tempActive : Bool := false
  hbWords : List (Option Word) := List.replicate 16 none   -- heartbeat words at the last comparison (R458)
  hbSame : List Nat := List.replicate 16 0                 -- unchanged comparisons by engine
  deriving DecidableEq, Repr

/-- A command frame under execution, by its transport: 0 I²C, 1 port 0 function, 2 port 9 function. -/
structure Frame where
  via     : Nat
  words   : List Word
  /-- The length received is not that of the words: a part of a word, or more than a frame may hold. -/
  odd     : Bool := false
  deriving DecidableEq, Repr

/-- The response formed for the command under execution, before it is written out (R550). -/
structure Answer where
  frame   : Frame
  status  : Nat
  reqState : Nat
  payload : List Word
  macKey  : List Byte                 -- session key where the command's MAC verified, else empty
  deriving DecidableEq, Repr

/-- The host interface and the mailbox (HIF). -/
structure Hif where
  pointer : Nat := 0                  -- byte pointer of the selected page (R535)
  ibrAt : Nat := 0                    -- when the last in-band pulse was made (R545)
  ring : List Event := []             -- newest last, at most 256 (R555)
  window : List Event := []           -- event window taken at the last read of EVT_STATUS
  evtWarnAt : Option Nat := none      -- last warning 0x2704
  sdaWarned : Bool := false           -- 0x2701 raised and SDA not high for 1.0 ms since
  sclWarned : Bool := false
  exec : List Frame := []             -- frames taken and waiting for execution, one command at a time (R407)
  current : Option Frame := none      -- the command that passed its checks and is being carried out
  answer : Option Answer := none      -- its response, waiting for step 3 of Table HIF-6
  mailboxOpen : Bool := false         -- Spring step 3 reached, or the seal after T2
  lastDseq : Nat := 0                 -- last DSEQ issued in this epoch (R553)
  lostChanged : Bool := false         -- EVT_STATUS.LOST changed since EVT_STATUS was last read (R559)
  restartDue : Bool := false          -- T14 waits for the update block in progress and its response (Table SEA-2)
  taken : Bank Word := []             -- words taken together with the first of their group, by address (R156, R309, R565)
  deriving DecidableEq, Repr

/-- The fault collector (FLT) beyond its registers. -/
structure Collector where
  queue : List FaultRec := []         -- oldest first, at most 64 (R484)
  esc : Bank Esc := []                -- escalation counters by source (R486)
  deferT9 : Option Nat := none        -- fatal fault whose T9 waits for the end of the supervisor pause
  deriving DecidableEq, Repr

/-- A first-fault record whose contents are taken and which waits to be written (R370, R371). -/
structure FflRec where
  tb       : Nat
  fault    : Nat
  first    : Nat                      -- Table RSV-2 FIRST
  state    : Nat                      -- device state at the trigger
  commit   : Bool
  deferred : Bool
  margin   : Bool                     -- a margin was in force on some rail
  vin      : Nat
  volts    : List Nat                 -- sixteen SQVS results in mV
  pwrCycles : Nat
  lifeS    : Nat
  deriving DecidableEq, Repr

/-- First-fault log of the collector (RSV) beyond its registers and the flash. -/
structure Ffl where
  due : List FflRec := []             -- records due, the first being written (R371)
  recno : Nat := 0                    -- RECNO of the record being written, kept over a retry (R373)
  slot : Option Nat := none           -- slot of the newest record (R376)
  nextSlot : Nat := 0                 -- slot that takes the next record
  markSlot : Option Nat := none       -- slot of the record whose MARK is still 0xFF (R374)
  eraseWait : Bool := false           -- an erase failed: it is attempted again after the next record (R375)
  markCommit : Bool := false          -- that record is a commit record
  eraseDue : Option Nat := none       -- sector whose erase is due (R375)
  written : Bool := false             -- the record of the present event is written (R326)
  deriving DecidableEq, Repr

/-- The slot table of Table BOT-2. -/
structure SlotTab where
  gen : Nat := 0
  fwActive : Nat := 0
  fwA : Nat := 0xFF
  fwB : Nat := 0xFF
  fwTrial : Nat := 0
  cfgActive : Nat := 0
  cfgA : Nat := 0xFF
  cfgB : Nat := 0xFF
  cfgTrial : Nat := 0
  recovery : Nat := 0
  fwLenA : Nat := 0
  fwLenB : Nat := 0
  cfgLenA : Nat := 0
  cfgLenB : Nat := 0
  deriving DecidableEq, Repr

/-- Boot and image state that no register shows (BOT). -/
structure Boot where
  step : Nat := 0                     -- step of Table BOT-5, or of Table SEA-3 in Spring
  engRun : Nat := 0                   -- bit e: engine e loaded and running
  latched : Bool := false             -- the straps are latched
  found : List Nat := []              -- faults found during ROM boot, raised later (R482, R120)
  rejects : Nat := 0                  -- UPDATE_REJECTED events due for slots rejected at boot (R94)
  codeA : Nat := 0                    -- result code of firmware slot A, before step 5 of ROM boot
  codeB : Nat := 0                    -- result code of firmware slot B
  density : Nat := 0                  -- flash size in bytes in use (R88)
  copy : Nat := 0                     -- slot-table copy in use (R93)
  tabOld : SlotTab := {}              -- the table as the copy in use holds it
  tab : SlotTab := {}                 -- the table with the changes decided since
  trials : Nat := 0                   -- TRIAL_STARTED events due (R591)
  builtin : Bool := false             -- the built-in safe configuration is applied (R107)
  springAt : Nat := 0                 -- when Spring was entered by T1
  tabTried : Bool := false            -- the one write of this boot has been made (R93)
  fwTry : Nat := 0                    -- firmware slots tried: 0 the active one is next, 1 the other
  fwHdr : List Byte := []             -- authenticated firmware header in supervisor data memory (R98)
  engData : List (Nat × Nat × List Word) := []  -- ENGDATA of the applied image: engine, offset, words
  cfgCopy : List Byte := []           -- configuration slot as read into supervisor data memory (R106)
  portsAbsent : Nat := 0              -- UNITS: bit k − 1
  railsAbsent : Nat := 0              -- bit j
  isAbsent : Nat := 0                 -- bit m
  rstAbsent : Nat := 0                -- bit n
  disabled : Nat := 0                 -- bits in the order of Table SCO-2, SuperSpeed lanes first
  boots : Nat := 0                    -- BOOTS of the current life record (R113)
  pwrCycles : Nat := 0
  lifeS : Nat := 0                    -- LIFE_S of the newest record that counts as written (R114)
  lifeAt : Nat := 0                   -- when that record was written
  lifeSeq : Nat := 0                  -- SEQ of the newest valid life record
  lifeSlot : Option Nat := none       -- its slot, 0–55
  lifeNext : Nat := 0                 -- slot that takes the next life record
  lifeTries : Nat := 0                -- failed attempts at the record due (R114)
  lifeDue : Option Nat := none        -- a life record is due, with its LIFE_S
  lifeErased : Bool := true           -- the sector of the slot that takes the next record is erased (R114)
  lifeErase : Option Nat := none      -- life sector whose erase is due
  marks : Bank Nat := []              -- MARK of the newest valid life record, by session (R513)
  marksDue : Bank Nat := []           -- MARK that the next record carries, by session
  firstLife : Bool := false           -- the record of T1 or T2 is not yet written (R513)
  afterPor : Bool := false            -- this boot follows a power-on reset
  afterAuto : Bool := false           -- this boot follows an automatic Winter restart
  afterCold : Bool := false           -- this boot follows an island cold restart
  deriving DecidableEq, Repr

/-- What an accumulation window of the measurement path serves. -/
inductive WinId where
  | wet (k : PortId) | health (k : PortId) | drop (k : PortId) | check (a : AdcId) | dual (ch : Nat) (a : AdcId)
  | rail (j : RailId) | sense (m : Nat) | senseSf (m : Nat)
  deriving DecidableEq, Repr

/-- One accumulation window over the non-discarded results of a channel: sum, number and extremes of the codes. -/
structure Win where
  id : WinId
  ch : Nat
  sum : Int := 0
  n : Nat := 0
  lo : Int := 0
  hi : Int := 0
  done : Bool := false                -- the window has ended and waits for its judgement
  deriving DecidableEq, Repr

/-- The measurement path beyond its registers (MSR). -/
structure Msr where
  res : Bank (Nat × Nat × Nat) := []  -- by channel: result code + 1, ADC, time of the latest non-discarded result
  bankA : Bank Word := []             -- schedule bank A; an unlisted entry is idle (R125)
  bankB : Bank Word := []
  crcAccepted : Nat := 0              -- CRC accepted at the active bank's swap (R132)
  crcBad : Bool := false              -- the mismatch of R132 persists
  passed : Bool := false              -- the shadow bank passed its check and waits for the swap boundary (R131)
  windows : List Win := []            -- accumulation windows that run
  vinLow : Option Nat := none         -- lowest non-discarded VIN code of the present frame (R71, R123)
  eccIdle : List Nat := []            -- entries of the active bank whose ECC error is uncorrectable (R132)
  badNow : Nat := 0                   -- ADCs found gross-implausible in the present frame (R135)
  badRun : List Nat := [0, 0, 0, 0]   -- consecutive gross-implausible frames by ADC
  driftRun : Nat := 0                 -- consecutive superframes with a CHECK mean outside (R136)
  dualRun : Nat := 0                  -- consecutive superframes with a dual-channel difference outside
  cmpRun : Nat := 0                   -- consecutive superframes with a window disagreeing (R139)
  deriving DecidableEq, Repr

/-- The capture RAM (MSR, R140). -/
structure Cap where
  ram : Bank Word := []               -- 131,072 words in a ring
  next : Nat := 0                     -- word written next
  count : Nat := 0                    -- words written since ARMED, saturating at the ring
  left : Nat := 0                     -- words of the post-trigger part still to be written
  marked : Option Nat := none         -- frame of the last marker word
  trigCfg : Word := 0#32              -- CAP_TRIG at the trigger
  highest : Option Nat := none        -- highest CAPNO found at boot or spilled since (Table TLM-4)
  deriving DecidableEq, Repr

/-- The power budget beyond its registers (BUD). -/
structure Bud where
  gPrev : List Nat := [0, 0, 0, 0, 0, 0, 0, 0]    -- g_prev of R301 in mW
  minWas : List Nat := [0, 0, 0, 0, 0, 0, 0, 0]   -- last run: 0 none eligible yet, 1 minimum granted, 2 withheld, 3 ineligible
  vinMins : List (Nat × Nat) := []    -- frames and lowest VIN_MV of the last 8 allocator periods, the present one first (R297)
  emgWarned : Bool := false           -- 0x2008 raised in the allocator period `emgPeriod` (R303)
  emgPeriod : Nat := 0
  deriving DecidableEq, Repr

/-- A SuperSpeed packet that the hub holds (R399–R403). -/
structure HubPkt where
  up : Bool                           -- toward the upstream port; else toward hub port k
  port : Nat                          -- its downstream hub port, as k − 1
  prio : Bool                         -- it belongs to the priority lane
  store : Nat                         -- 0 port reserve, 1 priority reserve, 2 shared, 3 held at its link
  sending : Bool := false             -- in transmission at its egress
  deriving DecidableEq, Repr

/-- The transaction translator of a hub port (R392): buffers in use for split transactions, of 4 periodic and 2 non-periodic. -/
structure Tt where
  periodic : Nat := 0
  bulk : Nat := 0
  deriving DecidableEq, Repr

/-- The hub beyond its registers (USB). -/
structure Hub where
  pkts : List HubPkt := []            -- in order of arrival
  wasEmpty : Bool := false            -- the shared pool is empty
  fresh : Bool := true                -- the pool has not been counted since reset
  fallback : Nat := 0                 -- bit k − 1: served at USB 2.0 until its data is next enabled
  recWarned : Bank Nat := []          -- time of the last warning 0x283k, plus 1, by port
  tt : Vector Tt 8 := Vector.replicate 8 {}  -- the translator of each hub port
  changed : Nat := 0                  -- bit k − 1: a status change of port k stands reported (R396)
  deriving DecidableEq, Repr

/-- A telemetry packet waiting on EP3 IN (R428, R432). -/
structure TlmPkt where
  stream : Nat                        -- stream, or 0xC0 for a capture
  nblk : Nat                          -- blocks it holds
  words : List Word
  deriving DecidableEq, Repr

/-- A capture being sent (R432). -/
structure CapSend where
  src : Nat                           -- spill slot, or 0xFF for the capture RAM
  off : Nat                           -- byte offset of the packet offered
  len : Nat                           -- bytes in all
  deriving DecidableEq, Repr

/-- A management function: 0 of port 0, 1 of port 9 (USB, TLM). -/
structure MgtFn where
  busy : Bool := false                -- a command is outstanding (R407)
  out : List (Bool × List Word) := [] -- responses offered on EP1 IN, oldest first; true for the outstanding command's
  idx : Nat := 0                      -- read index into the event ring (R408)
  ep2 : List Event := []              -- last event delivered on EP2 IN
  ep0 : Option (List Word) := none    -- answer to the last vendor request; none is a STALL
  std : Option (List Byte) := none    -- answer to the last standard request; none is a STALL
  ep3 : List TlmPkt := []             -- packets offered on EP3 IN, oldest first
  send : Option CapSend := none       -- capture being sent
  seq : Nat := 0                      -- SEQ of the next packet
  deriving DecidableEq, Repr

/-- A finished stream block (Table TLM-1). -/
structure Block where
  words : List Word
  cfg : Word                          -- TLM_STR it was taken under
  tb : Nat                            -- time base at the start of its first input frame
  at' : Nat                           -- when it completed
  deriving DecidableEq, Repr

/-- Stream n of the codec (R422–R429). -/
structure Stream where
  last : Nat := 0                     -- previous input sample, as a code
  frame : Option Nat := none          -- frame of the previous input sample
  going : Bool := false               -- a window is under way
  sum : Int := 0                      -- its sum
  xs : List Int := []                 -- output samples of the block under way, oldest first
  hold : Bool := false                -- the window under way has a repeated input sample
  held : List Bool := []              -- of each output sample: its window had one
  first : Nat := 0                    -- frame of the first input of the block under way
  buf0 : List Block := []             -- blocks not yet in a packet, port 0 function
  buf9 : List Block := []             -- the same, port 9 function
  lost0 : Nat := 0                    -- blocks dropped since the last packet, port 0 function
  lost9 : Nat := 0
  deriving DecidableEq, Repr

/-- The history archive beyond its registers (R433–R437). -/
structure His where
  open' : Bool := false               -- a day is under way
  dayno : Nat := 0                    -- DAYNO of the present day
  secs : Nat := 0                     -- counted seconds of the present day
  gaps : Nat := 0
  acc : List Nat := [0, 0, 0, 0, 0, 0, 0, 0]     -- energy accumulators
  peak : List Nat := [0, 0, 0, 0, 0, 0, 0, 0]
  tmax : Option Nat := none           -- highest die temperature, class T code
  vinMin : Option Nat := none
  histT : List Nat := List.replicate 16 0
  histI : List Nat := List.replicate 128 0
  dropped : Bool := false             -- contact-health results of the day dropped (R433)
  dayDue : Option (List Byte) := none -- the record of an ended day, not yet written
  cpDue : Bool := false               -- a checkpoint is due
  late : Nat := 0                     -- seconds that ended during a reload of the codec engine
  daySlot : Nat := 0                  -- day-ring slot written next
  cpSlot : Nat := 0                   -- checkpoint-ring slot written next
  newest : Option Nat := none         -- slot of the newest day record
  deriving DecidableEq, Repr

/-- One alarm (R567). -/
structure Alarm where
  en : Bool := false
  late : Bool := false
  owner : Nat := 0
  held : Nat := 0                     -- committed ALM_ATL not yet in AT
  time : Nat := 0                     -- AT
  overdue : Bool := false             -- AT lay at or below TB when it was armed or set
  deriving DecidableEq, Repr

/-- One reload timer (R568). -/
structure Tmr where
  cnt : Nat := 0
  top : Nat := 0
  run : Bool := false
  deriving DecidableEq, Repr

/-- Alarms and reload timers (TMB). -/
structure Tmb where
  alarms : Bank Alarm := []
  timers : Bank Tmr := []
  cmpFrom : Bank Nat := []            -- first cycle in which a compare channel may strobe again (R566)
  deriving DecidableEq, Repr

/-- Security beyond its registers (SEC). -/
structure Sec where
  force : Bank Word := []             -- OTP words in force, as read at boot (R506)
  trimNew : Bank Word := []           -- TRIM bits programmed since, not in force before the next boot (Table SEC-2)
  marg : Bank Word := []              -- marginal bits found, by word
  last : Bank Nat := []               -- LAST + 1 of a session (R513)
  exhausted : List Nat := []          -- sessions found exhausted in this boot (R514)
  ceil : Bank Nat := []               -- CEIL of a session
  held : List Nat := []               -- sessions whose present ceiling raise has raised 0x2609 (R514)
  suspended : Nat := 0                -- Table SEC-4: bit 0 TRIM, 1 IDENT, 2 firmware, 3 configuration, 5 DEVSECRET, 6 restrictive
  rootsOff : Nat := 0                 -- bit r: sessions of root r suspended
  readTemp : Option Nat := none       -- highest die-sensor code at the last full read
  cfgSign : Bool := false             -- POLICY.CFG_SIGN as this boot read it (R521)
  deriving DecidableEq, Repr

/-- Update, rollback protection and live handover (UPD) beyond its registers. -/
structure Upd where
  paused : Bool := false              -- the supervisor pause of live handover runs
  session : Nat := 0                  -- session that opened the transfer
  erasedTo : Nat := 0                 -- sectors of the target slot erased so far
  step : Nat := 0                     -- what follows: 3 ROM verify, 4 nothing (no supervisor starts), 5 adopt, 6 digests, 7 reload, 9 handback
  fromSlot : Nat := 0                 -- FROM_SLOT of the handover record
  toSlot : Nat := 0                   -- TO_SLOT
  dir : Nat := 0                      -- DIR of the record
  badSlot : Option Nat := none        -- slot rejected, to be written BAD by the handback
  codeTo : Nat := 0                   -- its result code
  pauseAt : Nat := 0                  -- when the pause began
  left : List Nat := []               -- engines whose turn to be reloaded is still to come, in order
  passed : List Nat := []             -- port engines passed over, in order
  held : Option Nat := none           -- engine held in reset for its reload
  record : List Byte := []            -- the handover area of shared SRAM (Table UPD-4)
  deriving DecidableEq, Repr

/-- What stands outside the reset domains of the part and is there whatever a restart does: the comparators on VIN,
the port 9 supply, the cascade input and the two-wire bus. -/
structure Env where
  vinOk : Bool := false               -- VIN at or above the VIN_OK comparator (R61)
  vinOvp : Bool := false              -- VIN above the VIN_OVP comparator
  vinUp : Bool := true                -- VIN at or above the UVLO comparator: the VDRV buck runs from it (R51, R61)
  vinMv : Nat := 0                    -- latest VIN result in mV
  sclHigh : Bool := true
  sdaHigh : Bool := true
  deriving DecidableEq, Repr

/-- Output pins that no register shows. -/
structure Pins where
  faultN : Bool := false              -- FAULT_N high (Table SEA-5)
  ups : Bool := false                 -- upstream terminations of port 0 presented (R398)
  p9swg : Bool := false               -- P9_SWG driven on (R178)
  deriving DecidableEq, Repr

/-- The state of the part. -/
structure State where
  regs : Bank Word := []
  now : Nat := 0
  tbZero : Option Nat := none
  timers : List (TimerId × Nat) := []
  env : Env := {}
  pins : Pins := {}
  ports : Vector Port 9 := Vector.replicate 9 {}
  rails : Vector Rail 16 := Vector.replicate 16 {}
  seq : Seq := {}
  axl : Axl := {}
  bus : Bus := {}
  island : Island := {}
  hif : Hif := {}
  flt : Collector := {}
  ffl : Ffl := {}
  boot : Boot := {}
  msr : Msr := {}
  cap : Cap := {}
  hub : Hub := {}
  mgt : Vector MgtFn 2 := Vector.replicate 2 {}
  streams : Vector Stream 8 := Vector.replicate 8 {}
  his : His := {}
  tmb : Tmb := {}
  upd : Upd := {}
  sec : Sec := {}
  bud : Bud := {}
  free : Nat := 0
  flash : Bank Byte := []             -- the Quad-SPI flash; an unlisted byte is erased, 0xFF
  otp : Bank Word := []               -- the OTP array in its stored form (R498, R501)
  sram : Bank Byte := []              -- shared SRAM
  engMem : Bank Word := []            -- local memories of the engines (Table ARC-2): data of engine e at e × 2^16, code at 2^20 + e × 2^17, in words
  pending : List Instr := []
  deriving DecidableEq, Repr

/-- The machine right after the reset that follows a power-on with the supplies up: ROM boot, every register at its
reset value, nothing latched, no command waiting. -/
def State.reset : State :=
  { bus := { step := 5 }, boot := { afterPor := true }, timers := [(.clockCheck, 500000), (.bootTimer, 4000000)] }

end Sys2Proof.Machine
end

