-- ==== Sys2Proof/Machine/Ops.lean ====
section
/-!
DEFINITION. The named operations every meaning uses: register words and fields, ports and rails, timers and the time
base, and the device state.
-/
namespace Sys2Proof.Machine

/-- The three outcomes of a command. -/
abbrev Out := Host.Outcome State Fault Refusal

/-- Reset value of a register word (R619, Table MAP-4); the entries that depend on an image or on OTP are written where
the image or OTP is applied. -/
def regReset (a : Nat) : Word :=
  if a = R.SYS_ID then 0x91600101#32
  else if a = R.HIF_IRQ_EN then 0x00000003#32
  else if a = R.SAF_DWTIME then 0xFFFF0000#32
  else if a = R.SEC_PORTEN then 0x000001FF#32
  else if a = R.SCH_DATA then 0x000000FF#32
  else if allPorts.any (fun k => decide (a = R.PD_STATUS k)) then 0x00000011#32
  else if modulePorts.any (fun k => decide (a = R.CHK_STATUS k)) then 0xFFFF0000#32
  else if modulePorts.any (fun k => decide (a = R.CHK_CAP k)) then 0xFFFFFFFF#32
  else if (List.range 4).any (fun u => decide (a = R.CRC_STATUS u)) then 0x1F000000#32
  else if (List.range 9).any (fun n => decide (a = R.MSR_GPW n)) then 0x000000FF#32
  else 0#32

/-- A register's word. -/
def State.word (s : State) (a : Nat) : Word := bankRead regReset s.regs a
/-- The state with a register's word written. -/
def State.setWord (s : State) (a : Nat) (w : Word) : State := { s with regs := bankWrite regReset s.regs a w }
/-- A field's value. -/
def State.get (s : State) (f : Fld) : Nat := f.extract (s.word f.reg)
/-- The state with a field set, the value cut to the field's width. -/
def State.set (s : State) (f : Fld) (v : Nat) : State := s.setWord f.reg (f.insert (s.word f.reg) v)
/-- Whether a one-bit field is 1. -/
def State.has (s : State) (f : Fld) : Bool := decide (s.get f ≠ 0)
/-- The state with a one-bit field set or cleared. -/
def State.put (s : State) (f : Fld) (b : Bool) : State := s.set f (b2n b)
/-- The state with one bit of a field set or cleared. -/
def State.putBit (s : State) (f : Fld) (i : Nat) (b : Bool) : State := s.set f (setBitTo (s.get f) i b)
/-- One bit of a field. -/
def State.bit (s : State) (f : Fld) (i : Nat) : Bool := (s.get f).testBit i
/-- The state with a field increased, saturating at the field's largest value. -/
def State.bump (s : State) (f : Fld) (n : Nat) : State := s.set f (satAdd (2 ^ f.width - 1) (s.get f) n)

/-- Apply an act to the state for each element of a list, in order. -/
def forAll {α : Type} (l : List α) (act : α → State → State) (s : State) : State := l.foldl (fun t x => act x t) s
/-- Apply an act where a condition holds. -/
def State.when (s : State) (c : Bool) (act : State → State) : State := if c then act s else s

/-- Port k. -/
def State.port (s : State) (k : PortId) : Port := s.ports[k.val]
/-- The state with port k changed. -/
def State.modPort (s : State) (k : PortId) (f : Port → Port) : State :=
  { s with ports := s.ports.set k.val (f (s.port k)) }
/-- The state with the attach part of port k changed. -/
def State.modAtt (s : State) (k : PortId) (f : AttPort → AttPort) : State :=
  s.modPort k fun p => { p with att := f p.att }
/-- The state with the PD part of port k changed. -/
def State.modPd (s : State) (k : PortId) (f : PdPort → PdPort) : State :=
  s.modPort k fun p => { p with pd := f p.pd }
/-- The state with the converter part of port k changed. -/
def State.modCnv (s : State) (k : PortId) (f : CnvPort → CnvPort) : State :=
  s.modPort k fun p => { p with cnv := f p.cnv }
/-- The state with the contact-health part of port k changed. -/
def State.modChk (s : State) (k : PortId) (f : ChkPort → ChkPort) : State :=
  s.modPort k fun p => { p with chk := f p.chk }
/-- The state with the breaker part of port k changed. -/
def State.modBrk (s : State) (k : PortId) (f : BrkPort → BrkPort) : State :=
  s.modPort k fun p => { p with brk := f p.brk }
/-- The state with the pins of port k changed. -/
def State.modPins (s : State) (k : PortId) (f : PortPins → PortPins) : State :=
  s.modPort k fun p => { p with pins := f p.pins }
/-- Rail j. -/
def State.rail (s : State) (j : RailId) : Rail := s.rails[j.val]
/-- The state with rail j changed. -/
def State.modRail (s : State) (j : RailId) (f : Rail → Rail) : State :=
  { s with rails := s.rails.set j.val (f (s.rail j)) }

/-- The time a timer of the part is set to, where it runs. -/
def State.deadline (s : State) (t : TimerId) : Option Nat := (s.timers.find? fun e => decide (e.1 = t)).map (·.2)
/-- Whether a timer runs. -/
def State.armed (s : State) (t : TimerId) : Bool := (s.deadline t).isSome
/-- Stop a timer. -/
def State.disarm (s : State) (t : TimerId) : State := { s with timers := s.timers.filter fun e => decide (e.1 ≠ t) }
/-- Start a timer for a number of fabric cycles from now, restarting it where it runs. -/
def State.arm (s : State) (t : TimerId) (cycles : Nat) : State :=
  { s.disarm t with timers := (t, s.now + cycles) :: (s.disarm t).timers }
/-- Start a timer only where it does not run. -/
def State.armOnce (s : State) (t : TimerId) (cycles : Nat) : State := if s.armed t then s else s.arm t cycles
/-- The state at a later moment; time never runs back. -/
def State.advanceTo (s : State) (t : Nat) : State := { s with now := max s.now t }
/-- A timer elapses: where it runs, time stands at or beyond its moment and it no longer runs; otherwise nothing has
elapsed. -/
def State.elapse (s : State) (t : TimerId) : Option State :=
  match s.deadline t with
  | none => none
  | some d => some ((s.advanceTo d).disarm t)
/-- What a timer's elapsing does, where the timer runs; otherwise nothing comes about (R34). -/
def State.onElapse (s : State) (t : TimerId) (act : State → State) : State :=
  match s.elapse t with
  | none => s
  | some s' => act s'

/-- Fabric cycles in a microsecond (R16). -/
def usec (n : Nat) : Nat := 100 * n
/-- Fabric cycles in a millisecond. -/
def msec (n : Nat) : Nat := 100000 * n
/-- Fabric cycles in a second. -/
def secs (n : Nat) : Nat := 100000000 * n
/-- Fabric cycles in a frame (R23). -/
def frameCycles : Nat := 1024
/-- Fabric cycles in a superframe (R23). -/
def superCycles : Nat := 32768
/-- Fabric cycles in an allocator period, four superframes (R30). -/
def allocCycles : Nat := 131072

/-- The time base: fabric cycles since the first root-PLL lock, 0 before it; it wraps at 64 bits (R565). -/
def State.tb (s : State) : Nat :=
  match s.tbZero with
  | none => 0
  | some z => (s.now - z) % 2 ^ 64

/-- The code of a device state (Table SEA-1). -/
def DevState.code : DevState → Nat
  | .romBoot => 0
  | .spring => 1
  | .summer => 2
  | .autumn => 3
  | .winter => 4
  | .deepWinter => 5
  | .offSeason => 6
  | .romRecovery => 7
  | .factoryTest => 8

/-- Whether the part is in a device state. -/
def State.isIn (s : State) (d : DevState) : Bool := decide (s.get F.SYS_STATE_STATE = d.code)
/-- Whether the part is in one of several device states. -/
def State.isAny (s : State) (l : List DevState) : Bool := l.any s.isIn

/-- The next free value and the state that has taken it. -/
def State.takeFree (s : State) : Nat × State := (Config.freeValue s.free, { s with free := s.free + 1 })

/-- Whether port k is present; port 9 always is (R104). -/
def State.portPresent (s : State) (k : PortId) : Bool := !(k.isModule && s.boot.portsAbsent.testBit k.val)
/-- Whether rail j is present. -/
def State.railPresent (s : State) (j : RailId) : Bool := !s.boot.railsAbsent.testBit j.val
/-- Whether a unit of Table SCO-2 is disabled: 0 SuperSpeed lanes, 1 codec, 2 archive, 3 Axkan link, 4 wet-port
detection, 5 contact health. -/
def State.unitOff (s : State) (u : Nat) : Bool := s.boot.disabled.testBit u
/-- Whether the Axkan link is enabled. -/
def State.linkOn (s : State) : Bool := !s.unitOff 3
/-- Whether engine e runs. -/
def State.engine (s : State) (e : Nat) : Bool := s.boot.engRun.testBit e
/-- Whether the codec's duties are served: by the codec engine, or where the codec is disabled, and its engine therefore held
in reset (Table SCO-2), without that engine: raw blocks, capture and archive go on (R426, R433; Table SCO-2). DESIGN CHOICE
(entry 96): which engine then serves them the manual does not say. -/
def State.codecServed (s : State) : Bool := s.engine 14 || (s.unitOff 1 && s.engine 0)
/-- Whether the logs of Table SEA-4, the first-fault log and the life records, are written in the present state. -/
def State.logsWritten (s : State) : Bool := s.isAny [.spring, .summer, .autumn, .winter, .offSeason]
/-- Whether the VDRV buck runs: VIN above UVLO, and the soft start of Table BUS-3 begun. -/
def State.vdrvBuck (s : State) : Bool := s.env.vinUp && decide (s.bus.step ≠ 0)
/-- Whether the ideal diode connects VSVC to the VDRV node (R51): while the VDRV buck is off; while VDRV is in regulation it
blocks. -/
def State.diodeOn (s : State) : Bool := !s.vdrvBuck
/-- Whether the part runs from VSVC: the path of Off-season (R51, R180). -/
def State.onVsvc (s : State) : Bool := s.diodeOn && s.bus.sinkPresent
/-- Whether the flash is free for other programs and erases than a first-fault record: while one is due and may be written, the
controller withholds them (R373). -/
def State.flashFree (s : State) : Bool := s.ffl.due.isEmpty || !s.has F.FFL_STATUS_SCANNED || !s.logsWritten
/-- The present ports. -/
def State.presentPorts (s : State) : List PortId := allPorts.filter s.portPresent
/-- The present module ports. -/
def State.presentModulePorts (s : State) : List PortId := modulePorts.filter s.portPresent
/-- The present rails. -/
def State.presentRails (s : State) : List RailId := allRails.filter s.railPresent

end Sys2Proof.Machine
end

