-- ==== Sys2Proof/Machine/Flags.lean ====
section
/-!
DEFINITION. The W1C flags and their companion occurrence counters (R490): setting one, clearing one by a write of 1,
and the case of both in one cycle.
-/
namespace Sys2Proof.Machine

/-- Hardware sets a flag: the bit becomes 1 whatever it was and the counter counts one set, saturating at 255 (R490). -/
def State.flag (s : State) (g : Flag) : State := (s.put g.bit true).bump g.cnt 1

/-- A write of 1 clears a flag; the counter keeps its value (R490). -/
def State.clearFlag (s : State) (g : Flag) : State := s.put g.bit false

/-- A write to a word of W1C flags: every flag written 1 is cleared, the others stay (R490). -/
def State.clearMask (s : State) (reg : Nat) (w : Word) : State := s.setWord reg (s.word reg &&& ~~~ w)

/-- The write of a flag in a cycle in which hardware may set it: the set wins (R490). -/
def State.clearWithSet (s : State) (g : Flag) (hardwareSets : Bool) : State :=
  if hardwareSets then s.flag g else s.clearFlag g

end Sys2Proof.Machine
end

