-- ==== Sys2Proof/Machine/Operands.lean ====
section
/-!
DEFINITION. The forms in which commands and registers carry quantities: ADC codes by range class (Table MSR-2), field
units, fault codes (R480), and the words of frames and records.
-/
namespace Sys2Proof

/-- A fault code's class: 0 warning, 1 corrected, 2 contained, 3 fatal (R480). -/
def faultClass (code : Nat) : Nat := code / 2 ^ 14 % 4
/-- A fault code's source (R480). -/
def faultSource (code : Nat) : Nat := code / 2 ^ 8 % 64
/-- A fault code's cause (R480). -/
def faultCause (code : Nat) : Nat := code % 2 ^ 8
/-- The same fault with another class. -/
def withClass (code cls : Nat) : Nat := cls * 2 ^ 14 + code % 2 ^ 14
/-- Whether a source is one of Table FLT-1. -/
def sourceListed (src : Nat) : Bool := decide (src ≤ 0x09) || (decide (0x10 ≤ src) && decide (src ≤ 0x2B))
/-- A fault code of a port: the class in bits 15:14, the port number as the source. -/
def portFault (k : PortId) (cls cause : Nat) : Nat := cls * 2 ^ 14 + k.num * 2 ^ 8 + cause
/-- A fault code of a rail: source 0x10 + j. -/
def railFault (j : RailId) (cls cause : Nat) : Nat := cls * 2 ^ 14 + (0x10 + j.val) * 2 ^ 8 + cause
/-- The port a fault source names, where it names one. -/
def sourcePort? (src : Nat) : Option PortId := if h : 1 ≤ src ∧ src ≤ 9 then some ⟨src - 1, by omega⟩ else none
/-- The rail a fault source names, where it names one. -/
def sourceRail? (src : Nat) : Option RailId := if h : 16 ≤ src ∧ src ≤ 31 then some ⟨src - 16, by omega⟩ else none

/-- Class H: 4 mV per code (Table MSR-2). -/
def codeH (c : Nat) : Nat := 4 * c
/-- Class L in 0.1 mV: 0.4 mV per code. -/
def codeL (c : Nat) : Nat := 4 * c
/-- Class I in µV: 10 µV per code, 14-bit two's complement. -/
def codeI (c : Nat) : Int := 10 * ofTwos 14 c
/-- Class G in µV: 20 µV per code, 14-bit two's complement. -/
def codeG (c : Nat) : Int := 20 * ofTwos 14 c
/-- Class T in 1/32 °C. -/
def codeT (c : Nat) : Int := (c : Int) - 64 * 32

/-- Ports of a bit mask, bit k − 1 for port k. -/
def portsOf (m : Nat) : List PortId := allPorts.filter fun k => m.testBit k.val
/-- Rails of a bit mask, bit j for rail j. -/
def railsOf (m : Nat) : List RailId := allRails.filter fun j => m.testBit j.val

/-- A word of a list of words, 0 beyond its end. -/
def wordAt (l : List Word) (i : Nat) : Nat := (l.getD i 0#32).toNat
/-- Bytes of a list of words, least significant byte first. -/
def wordBytes (l : List Word) : List Byte := l.flatMap fun w => leBytes 4 w.toNat
/-- Words of a list of bytes, four to a word, the first the least significant; a short last word is filled with 0. -/
def bytesToWords : List Byte → List Word
  | [] => []
  | [a] => [BitVec.ofNat 32 (leNat [a])]
  | [a, b] => [BitVec.ofNat 32 (leNat [a, b])]
  | [a, b, c] => [BitVec.ofNat 32 (leNat [a, b, c])]
  | a :: b :: c :: d :: rest => BitVec.ofNat 32 (leNat [a, b, c, d]) :: bytesToWords rest

/-- A number put at its place in a rising list. -/
def insertSorted (x : Nat) : List Nat → List Nat
  | [] => [x]
  | y :: ys => if x ≤ y then x :: y :: ys else y :: insertSorted x ys
/-- The lower median of a list, 0 of an empty one (R251, R252). -/
def lowerMedian (l : List Nat) : Nat := (l.foldr insertSorted []).getD ((l.length - 1) / 2) 0

/-- Whole square root by bisection over 64 bits. -/
def isqrtFrom : Nat → Nat → Nat → Nat
  | 0, r, _ => r
  | n + 1, r, x => if (r + 2 ^ n) * (r + 2 ^ n) ≤ x then isqrtFrom n (r + 2 ^ n) x else isqrtFrom n r x
/-- The largest number whose square is not above `x`, for x below 2^128. -/
def isqrt (x : Nat) : Nat := isqrtFrom 64 0 x
/-- The smallest number whose square is not below `x`. -/
def isqrtUp (x : Nat) : Nat := if isqrt x * isqrt x = x then isqrt x else isqrt x + 1

/-- Sixteen bits of the fraction of log2 of a mantissa in [2^32, 2^33). -/
def log2Frac : Nat → Nat → Nat
  | 0, _ => 0
  | n + 1, m =>
    let q := m * m / 2 ^ 32
    if 2 ^ 33 ≤ q then 2 ^ n + log2Frac n (q / 2) else log2Frac n q
/-- log2 in Q16.16, truncated, of a number above 0. -/
def log2Exact (x : Nat) : Nat := Nat.log2 x * 2 ^ 16 + log2Frac 16 (x * 2 ^ 32 / 2 ^ Nat.log2 x)
/-- 2^(2^−i) for i = 1–16, in units of 2^−32. -/
def exp2Factors : List Nat := [6074000999, 5107605667, 4683695047, 4485121743, 4389014833, 4341736423, 4318288543, 4306612133,
  4300785773, 4297875550, 4296421177, 4295694174, 4295330720, 4295149004, 4295058149, 4295012722]
/-- 2 to a number in Q16.16, truncated. -/
def exp2Exact (y : Nat) : Nat :=
  let m := (exp2Factors.zipIdx.foldl (fun m e => if y.testBit (15 - e.2) then m * e.1 / 2 ^ 32 else m) (2 ^ 32))
  m * 2 ^ (y / 2 ^ 16) / 2 ^ 32
/-- A value with an error of less than 2^−12 of it, the error taken from an open value. -/
def within12 (x : Nat) (err : Int) : Nat := ((x : Int) + max (-(((x - 1) / 4096 : Nat) : Int)) (min (((x - 1) / 4096 : Nat) : Int) err)).toNat

end Sys2Proof
end

