-- ==== Sys2Proof/Machine/Events.lean ====
section
/-!
DEFINITION. The fault collector's queue and the event ring: taking a sequence number (R552), posting an event (R555),
queueing a fault record (R484), classifying a warning (R485), and the sequence trace (R330).
-/
namespace Sys2Proof.Machine

/-- Take the next DSEQ: bits 23:0 advance and wrap without changing the epoch in bits 31:24 (R552). -/
def State.takeDseq (s : State) : Nat × State :=
  let d := s.get F.SYS_SEQ_NEXT_DSEQ_NEXT_DSEQ
  let s' := s.set F.SYS_SEQ_NEXT_DSEQ_NEXT_DSEQ (d / 2 ^ 24 * 2 ^ 24 + (d + 1) % 2 ^ 24)
  (d, { s' with hif := { s'.hif with lastDseq := d } })

/-- Put a record into the collector's queue of 64; a full queue gives up its newest warning or corrected record, or
else the new record is dropped and counted (R484). -/
def State.enqueue (s : State) (r : FaultRec) : State :=
  let q := s.flt.queue
  if q.length < 64 then { s with flt := { s.flt with queue := q ++ [r] } }
  else if q.any (fun e => decide (faultClass e.code ≤ 1)) then
    { s with flt := { s.flt with queue := (q.reverse.eraseP fun e => decide (faultClass e.code ≤ 1)).reverse ++ [r] } }
  else s.bump F.FLT_STATUS_DROPPED 1

/-- What every classification writes: the last fault and its time, and the queued record (R484, R485, R493). -/
def State.noteFault (s : State) (code : Nat) (promoted : Bool) : State :=
  let st := s.get F.SYS_STATE_STATE
  let s := s.put F.FLT_LAST_PROMOTED promoted
  let s := (s.set F.FLT_LAST_STATE st).set F.FLT_LAST_CODE code
  let s := (s.set F.FLT_LAST_TBL_TB_LO s.tb).set F.FLT_LAST_TBH_TB_HI (s.tb / 2 ^ 32)
  s.enqueue { code := code, promoted := promoted, state := st, tb := s.tb }

/-- Words of the capture ring (R140). -/
def ringWords : Nat := 131072
/-- Pre-trigger words that CAP_CTRL.PRE asks for. -/
def State.preWords (s : State) : Nat := 1024 * min 127 (s.get F.CAP_CTRL_PRE)
/-- A capture trigger occurs (R141): taken while ARMED; in POST or FULL it is missed and warned of (R157, R158). -/
def State.captureTrigger (s : State) : State :=
  let st := s.get F.CAP_STATUS_STATE
  if st = 1 then
    let pre := min s.preWords s.cap.count
    let s := ((s.set F.CAP_STATUS_STATE 2).set F.CAP_STATUS_TRIG_WORD s.cap.next).put F.CAP_START_PRE_SHORT (Nat.blt s.cap.count s.preWords)
    let s := s.set F.CAP_START_START_WORD ((s.cap.next + ringWords - pre) % ringWords)
    let s := (s.set F.CAP_TBL_TB s.tb).set F.CAP_TBH_TB (s.tb / 2 ^ 32)
    { s with cap := { s.cap with left := ringWords - s.preWords, trigCfg := s.word R.CAP_TRIG } }.flag G.CAP_TRIGGERED
  else if st = 0 then s
  else ((s.flag G.CAP_MISSED).noteFault 0x250A false).flag G.FLT_WARN
/-- An event of a kind that CAP_TRIG.SRC may select occurs: 1 fault, 2 window, 3 level, 4 alarm (R155). -/
def State.captureEvent (s : State) (src : Nat) (hit : Bool) : State :=
  s.when (decide (s.get F.CAP_TRIG_SRC = src) && hit) State.captureTrigger
/-- A classification: its records, and the fault trigger of the capture (R155). -/
def State.recordFault (s : State) (code : Nat) (promoted : Bool) : State :=
  let sel := s.get F.CAP_TRIG_SEL
  (s.noteFault code promoted).captureEvent 1
    (Nat.ble (sel / 64) (faultClass code) && (decide (sel % 64 = 63) || decide (sel % 64 = faultSource code)))

/-- A warning is classified: record queued and FLT_FLAGS.WARN set (Table FLT-2). -/
def State.warn (s : State) (code : Nat) : State := (s.recordFault code false).flag G.FLT_WARN

/-- Records that no reader has taken: EVT_WR − EVT_RD. -/
def State.unread (s : State) : Nat := (s.get F.EVT_WR_WR + 2 ^ 32 - s.get F.EVT_RD_RD) % 2 ^ 32

/-- The warning 0x2704, raised at most once per 1.0 s (R555). -/
def State.warnEvtLost (s : State) : State :=
  match s.hif.evtWarnAt with
  | none => { s with hif := { s.hif with evtWarnAt := some s.now } }.warn 0x2704
  | some t => if s.now < t + secs 1 then s else { s with hif := { s.hif with evtWarnAt := some s.now } }.warn 0x2704
/-- The ring overran its reader: the index moves to EVT_WR − 256, the loss is counted, HIF_FLAGS.EVT_LOST set once for
each record, and 0x2704 raised at most once per 1.0 s (R555). -/
def State.loseEvents (s : State) : State :=
  let n := s.unread - 256
  let s := s.set F.EVT_RD_RD ((s.get F.EVT_WR_WR + 2 ^ 32 - 256) % 2 ^ 32)
  let s := s.bump F.EVT_STATUS_LOST n
  let s := { s with hif := { s.hif with lostChanged := true } }
  (forAll (List.range n) (fun _ t => t.flag G.HIF_EVT_LOST) s).warnEvtLost

/-- A record overwritten before a management function delivered it is counted (R408). -/
def State.loseForFn (s : State) (f : Fin 2) : State :=
  let m := s.mgt[f]
  let n := (s.get F.EVT_WR_WR + 2 ^ 32 - m.idx) % 2 ^ 32 - 256
  if n = 0 then s
  else
    let idx := (s.get F.EVT_WR_WR + 2 ^ 32 - 256) % 2 ^ 32
    { s with mgt := s.mgt.set f { m with idx := idx } }.bump (F.MGT_STATUS_LOST f.val) n

/-- Whether the event ring takes records in the present state (R35, R555): it is not served in ROM boot, ROM recovery
or Deep Winter. -/
def State.ringServed (s : State) : Bool := !s.isAny [.romBoot, .romRecovery, .deepWinter]

/-- Post an event (R554, R555): it takes a DSEQ, enters the ring at EVT_WR, and overwrites the oldest. -/
def State.postEvent (s : State) (flags source code tb : Nat) : State :=
  if s.ringServed then
    let e : Event := { dseq := s.takeDseq.1, flags := flags, source := source, code := code, tb := tb }
    let s := s.takeDseq.2
    let ring := s.hif.ring ++ [e]
    let s := { s with hif := { s.hif with ring := ring.drop (ring.length - 256) } }
    let s := s.set F.EVT_WR_WR ((s.get F.EVT_WR_WR + 1) % 2 ^ 32)
    let s := s.when (Nat.blt 256 s.unread) State.loseEvents
    (s.loseForFn 0).loseForFn 1
  else s

/-- Post an event that is no fault: flags bits 3:0 are the device state (R554). -/
def State.post (s : State) (source code : Nat) : State := s.postEvent (s.get F.SYS_STATE_STATE) source code s.tb

/-- Latest non-discarded result code of a channel, where one has been taken (Table MSR-1). -/
def State.result? (s : State) (ch : Nat) : Option Nat :=
  let e := bankRead (fun _ => (0, 0, 0)) s.msr.res ch
  if e.1 = 0 then none else some (e.1 - 1)
/-- Latest non-discarded SQVS result of rail j in mV, in class L (Tables MSR-1 and MSR-2). -/
def State.sqvs? (s : State) (j : RailId) : Option Nat := (s.result? (0x51 + j.val)).map fun c => 4 * c / 10

/-- Write an entry of the sequence trace (R330). -/
def State.trace (s : State) (code idx mv : Nat) : State :=
  let n := s.get F.SQC_TRC_HEAD_NEXT
  let w0 := s.tb / 2 ^ 10
  let w1 := s.get F.SQC_STATUS_PHASE * 2 ^ 28 + idx % 16 * 2 ^ 24 + code % 256 * 2 ^ 16 + mv % 2 ^ 16
  let ram := bankWrite (fun _ => (0#32, 0#32)) s.seq.traceRam n (BitVec.ofNat 32 w0, BitVec.ofNat 32 w1)
  let s := { s with seq := { s.seq with traceRam := ram } }
  (s.set F.SQC_TRC_HEAD_NEXT ((n + 1) % 64)).bump F.SQC_TRC_HEAD_TOTAL 1

/-- Write a trace entry of rail j with its latest SQVS value (R330). -/
def State.traceRail (s : State) (code : Nat) (j : RailId) : State := s.trace code j.val ((s.sqvs? j).getD 0)

/-- Set the sequencer's phase; a change writes a time mark (R330). -/
def State.setPhase (s : State) (p : Nat) : State :=
  if s.get F.SQC_STATUS_PHASE = p then s
  else
    let s := s.set F.SQC_STATUS_PHASE p
    s.trace 0x00 0 (s.tb / 2 ^ 42)

end Sys2Proof.Machine
end

