-- ==== Sys2Proof/Machine/PortOps.lean ====
section
/-!
DEFINITION. The acts on a port that several commands share: the latest results of its channels, stopping its
converter, opening its switch (R269), clearing its PD context (Table PDP-5 step 1), and disabling its attach.
-/
namespace Sys2Proof.Machine

/-- Latest result code of a channel, 0 before the first. -/
def State.result (s : State) (ch : Nat) : Nat := (s.result? ch).getD 0
/-- Channel n of port k (Table MSR-1). -/
def portChan (k : PortId) (n : Nat) : Nat := 9 * k.val + n
/-- Latest Pk_VBSNS in mV. -/
def State.vbsns (s : State) (k : PortId) : Nat := codeH (s.result (portChan k 0))
/-- Latest Pk_VCSNS in mV. -/
def State.vcsns (s : State) (k : PortId) : Nat := codeH (s.result (portChan k 1))

/-- Whether a channel's codes are two's complement: classes I and G (Tables MSR-1 and MSR-2). -/
def signedChan (ch : Nat) : Bool :=
  (decide (ch < 81) && (decide (ch % 9 = 2) || decide (ch % 9 = 3))) || (decide (0x61 ≤ ch) && decide (ch ≤ 0x64))
/-- The number a channel's 14-bit code stands for, in LSB. -/
def codeValue (ch c : Nat) : Int := if signedChan ch then ofTwos 14 (c % 2 ^ 14) else ((c % 2 ^ 14 : Nat) : Int)
/-- Latest Pk_GSNS in mV. -/
def State.gsns (s : State) (k : PortId) : Int := 20 * codeValue (portChan k 3) (s.result (portChan k 3)) / 1000
/-- Receptacle voltage VCSNS − GSNS in mV, not below 0 (R260). -/
def State.vrcp (s : State) (k : PortId) : Nat := ((s.vcsns k : Int) - s.gsns k).toNat
/-- RSNS of a module port in µΩ: 0.02 mΩ units (R255). -/
def State.rsnsUohm (s : State) (k : PortId) : Nat := 20 * s.get (F.CNV_CFG_RSNS k)
/-- Current-sense offset in LSB of 10 µV (R261). -/
def State.iofs (s : State) (k : PortId) : Int := ofTwos 16 (s.get (F.CNV_DROP_IOFS k))
/-- Delivered current of a code of the port current channel, in mA, 0 for a negative one (R235); 10 µV in µV × 1,000 over
µΩ gives mA. -/
def State.currentOf (s : State) (k : PortId) (c : Int) : Nat :=
  if k.isModule then
    if s.rsnsUohm k = 0 then 0 else ((c - s.iofs k) * 10000 / (s.rsnsUohm k : Int)).toNat
  else if s.get (F.BRK_SW_RSNS9 k) = 0 then 0 else (c * 10000 / ((100 * s.get (F.BRK_SW_RSNS9 k) : Nat) : Int)).toNat
/-- The present current of port k in mA: the delivered current of R235, 0 in reverse mode (R260), or that of P9_ISP − P9_ISN. -/
def State.portMa (s : State) (k : PortId) : Nat :=
  if s.get (F.CNV_STATUS_MODE k) = 4 && k.isModule then 0
  else s.currentOf k (codeValue (portChan k 2) (s.result (portChan k 2)))

/-- Current in mA of an Rp level (R278). -/
def rpMa (rp : Nat) : Nat := if rp = 3 then 3000 else if rp = 2 then 1500 else 900
/-- The present I_REF without a contract (R278): the current of the Rp presented, 3.0 A on port 9. -/
def State.rpRef (s : State) (k : PortId) : Nat := if k.isModule then rpMa (s.get (F.ATT_STATUS_RP k)) else 3000

/-- The port's switch is closed or is being closed (Table BRK-2 steps 1 to 4). -/
def State.switchDriven (s : State) (k : PortId) : Bool := [1, 2, 3, 4].contains (s.get (F.BRK_STATUS_STATE k))
/-- The port's switch is closed. -/
def State.switchClosed (s : State) (k : PortId) : Bool := [3, 4].contains (s.get (F.BRK_STATUS_STATE k))

/-- The voltage held by window HI of the port: VSET, the greater end of a ramp during it and for 20 ms after (R275). -/
def State.vHold (s : State) (k : PortId) : Nat :=
  if k.isModule then
    let c := (s.port k).cnv
    let vset := s.get (F.CNV_STATUS_VSET k)
    if c.rampOpen || decide (s.now < c.rampEndAt + msec 20) then max vset (max c.rampFrom c.target)
    else vset
  else 5000
/-- Port overvoltage threshold in 10 µV, so that no percentage is cut before the code is formed (R275, Table BRK-3). -/
def State.ovLimit100 (s : State) (k : PortId) : Nat :=
  min 5500000 (s.vHold k * (100 + orDefault 10 (s.get (F.BRK_CFG_OV_PCT k))) + 25000)
/-- HI of the port's VCSNS window in 10 µV (Table BRK-3): closed, as the VBSNS HI; open, as it was at the open command until
VCSNS has reached vSafe0V, then 6.0 V. -/
def State.vcsnsHi100 (s : State) (k : PortId) : Nat :=
  if s.switchClosed k then s.ovLimit100 k else if (s.port k).brk.safeSeen then 600000 else (s.port k).brk.hiOpen

/-- Stop the converter of a module port: all gates low (R225, R269). ALLOC keeps its value. A ramp and a start that waits for its
16 results are abandoned. -/
def State.stopConverter (s : State) (k : PortId) : State :=
  if k.isModule then
    let now := s.now
    let s := s.modCnv k fun c => { c with run := false, limitZero := true, integ := 0, skipping := false, bootLow := 0, nodeBad := 0,
                                          inRange := 0, mode := 0, peakUv := 0, slopeUv := 0, starting := false, startDue := none,
                                          rampEndAt := if c.rampOpen then now else c.rampEndAt, rampOpen := false }
    let s := ((s.set (F.CNV_STATUS_MODE k) 0).put (F.CNV_STATUS_CLIM k) false).put (F.CNV_STATUS_PKLIM k) false
    ((s.put (F.CNV_STATUS_RAMP k) false).put (F.CNV_STATUS_HEADROOM k) false).disarm (.headroom k)
  else s

/-- A converter that may not switch stands (R61, R239, R259): stopped, neither limited nor short of headroom; its ramp holds. -/
def State.standConverter (s : State) (k : PortId) : State :=
  let s := (s.set (F.CNV_STATUS_MODE k) 0).put (F.CNV_STATUS_CLIM k) false
  (s.put (F.CNV_STATUS_PKLIM k) false).disarm (.headroom k)

/-- The timers of a close of port k (Table BRK-2) and of the closed switch. -/
def closeTimers (k : PortId) : List TimerId :=
  [.preClose k, .closing k, .allowance k, .retryClear k, .onDrop k]
/-- The timers of the PD protocol and policy of port k (Table PDP-3). -/
def pdTimers (k : PortId) : List TimerId :=
  [.sendCaps k, .senderResponse k, .psHardReset k, .srcRecover k, .srcTransition k, .transition k, .goodCrc k,
   .sinkTx k, .upwardOffer k, .keepAlive k, .ppsTimeout k, .vconnStable k, .authResponse k, .authWhole k, .frener k, .chkDue k, .chkWindow k]
/-- The timers of attach on port k (Table ATT-2). -/
def attTimers (k : PortId) : List TimerId :=
  [.ccDebounce k, .wetNext k, .wetSettle k, .wetWindow k]
/-- Stop a list of timers. -/
def State.disarmAll (s : State) (l : List TimerId) : State :=
  { s with timers := s.timers.filter fun e => ! l.contains e.1 }

/-- The VBSNS HI at the command that opens a closed switch, and whether VCSNS stands at vSafe0V (Table BRK-3); a command to an
open switch changes neither. -/
def BrkPort.opened (b : BrkPort) (driven safe : Bool) (hi : Nat) : BrkPort :=
  if driven then { b with hiOpen := hi, safeSeen := safe, retryClose := false } else b
/-- An open command (R268, R269): the switch opens, the values of R286 are taken and its off check starts, whether or not the
switch was closed (R286: after every open command). -/
def State.openSwitch (s : State) (k : PortId) : State :=
  if s.portPresent k then
    let vb := s.vbsns k
    let vc := s.vcsns k
    let i := s.portMa k
    let hi := s.ovLimit100 k
    let driven := s.switchDriven k
    let safe := (s.port k).pins.vcsnsSafe
    let s := s.disarmAll (closeTimers k)
    let s := s.modBrk k fun b => { b.opened driven safe hi with vb0 := vb, vc0 := vc, i0 := i, dropArmed := false, gate := 0 }
    let s := (s.set (F.BRK_STATUS_STATE k) 5).put (F.ATT_STATUS_VBUS_ON k) false
    let s := s.arm (.offCheck k) (msec 2)
    if k.isModule then s.set (F.CNV_DROP_DROP k) 0 else { s with pins := { s.pins with p9swg := false } }
  else s
/-- STATE of a port whose switch is open and whose off check is over: held (Table BRK-4, R287), latched (R283), in its
off-time (R284), or open. -/
def State.restState (s : State) (k : PortId) : Nat :=
  if (s.port k).brk.heldUntilDetach || (s.port k).brk.heldNtc then 8
  else if (s.port k).brk.latched then 7 else if s.armed (.retryOff k) then 6 else 0
/-- A port with its switch open stands as its holds, its latch and its off-time say, or will after its off check. -/
def State.settleOpen (s : State) (k : PortId) : State :=
  let st := s.restState k
  let s := s.modBrk k fun b => { b with after := st }
  if s.switchDriven k || decide (s.get (F.BRK_STATUS_STATE k) = 5) then s else s.set (F.BRK_STATUS_STATE k) st

/-- VCONN off (R164, R169). -/
def State.vconnOff (s : State) (k : PortId) : State :=
  (s.put (F.ATT_STATUS_VCONN_ON k) false).put (F.PD_STATUS_VCONN_SRC k) false

/-- Whether a window belongs to a contact-health reading of port k. -/
def Win.isHealth (w : Win) (k : PortId) : Bool := decide (w.id = .health k)
/-- A contact-health reading of port k in progress is abandoned (R248). -/
def State.dropHealth (s : State) (k : PortId) : State :=
  let s := { s with msr := { s.msr with windows := s.msr.windows.filter fun w => !w.isHealth k } }
  (s.disarm (.chkWindow k)).modChk k fun c => { c with winOpen := false, vin := none, mismatch := false, disturbed := false }

/-- Step 1 of Table PDP-5: the AMS is abandoned and the PD context cleared with the authentication result, VCONN goes
off and SinkTxOK, Rp 3.0 A, is presented, whose current is the breaker's reference from now on (R278). The data role, part
of the context (R217), goes back to that of the port's power role. What outlasts it: the Hard Reset counter, the end of PD
attempts, the reload of the engine and the trips since the last Status. Messages queued for the port are discarded. -/
def State.clearPd (s : State) (k : PortId) : State :=
  let s := (s.disarmAll (pdTimers k)).dropHealth k
  let s := s.modPd k fun p => { hrCount := p.hrCount, noPd := p.noPd, reloading := p.reloading, tripSeen := p.tripSeen,
                                drTries := p.drTries }
  let s := s.modChk k fun c => { c with refP := none, refR := none }
  let s := s.modCnv k fun c => { c with headWarned := false }
  let s := ((s.set (F.PD_STATUS_PDO k) 0).set (F.PD_STATUS_REV k) 0).put (F.PD_STATUS_EPR k) false
  let s := ((s.put (F.PD_STATUS_CONTRACT k) false).set (F.PD_STATUS_AUTH k) 0).put (F.PD_STATUS_MISMATCH k) false
  let s := if (s.port k).pd.reloading then s else s.set (F.PD_STATUS_PE k) 0
  let s := (s.setWord (R.PD_CONTRACT k) 0).setWord (R.PD_RDO k) 0
  let s := s.vconnOff k
  let s := if s.get (F.ATT_STATUS_ORIENT k) = 0 then s else s.put (F.PD_STATUS_DATA_ROLE k) (!s.has (F.ATT_STATUS_PWR_ROLE k))
  let s := if s.get (F.ATT_STATUS_ASTATE k) = 0 || s.get (F.ATT_STATUS_ASTATE k) = 8 then s else s.set (F.ATT_STATUS_RP k) 3
  let ref := s.rpRef k
  s.modBrk k fun b => { b with iRef := ref, iRefNext := ref }

/-- The open command of a trip, a hold, an isolation or a cleared enable (R269, second list): the switch opens, the
converter stops at once and the PD context is cleared without Hard Reset signalling. -/
def State.hardOpen (s : State) (k : PortId) : State := ((s.openSwitch k).stopConverter k).clearPd k

/-- The port is held open (Table BRK-4, R287, Table FLT-3): open command, and STATE held after the off check. -/
def State.holdOpen (s : State) (k : PortId) (untilDetach : Bool) : State :=
  let s := (s.hardOpen k).modBrk k fun b =>
    { b with heldUntilDetach := b.heldUntilDetach || untilDetach, heldNtc := b.heldNtc || !untilDetach }
  s.settleOpen k

/-- The PD timers of a port but those of Table PDP-5, which the protocol layer goes on timing (R187). -/
def amsTimers (k : PortId) : List TimerId := (pdTimers k).filter fun t => decide (t ≠ .psHardReset k) && decide (t ≠ .srcRecover k)
/-- The AMS of port k is abandoned and its queued messages are discarded; its PD timers stop, but not those of a Hard Reset
under way (R645). -/
def State.abandonAms (s : State) (k : PortId) : State :=
  (s.disarmAll (amsTimers k)).modPd k fun p => { p with tx := [], rxq := [], held := [], ams := false, await := .none, retries := 0 }

/-- The hardware act of R73, R164, R167 and Table PDP-5 step 2: current limit 0 at the outer-loop update, converter
stopped, switch opened after it. The update and the acts that follow fall in one step here. -/
def State.softOpen (s : State) (k : PortId) : State := ((s.stopConverter k).openSwitch k).abandonAms k

/-- What the attach part of a port keeps no longer once no partner is attached: VCONN's lockout (R169), the short of DCP
(R170), the lane routing (R168), the mark of R165 and the end of data on port 9 (R211). -/
def AttPort.parted (a : AttPort) : AttPort :=
  { a with vconnLockout := false, warned05 := false, dcp := false, trySub := 0, lanes := 0, safeWait := false, noData := false }
/-- What shows a partner attached is gone: orientation, Ra, ATT_CABLE (R184), and SEATED where no seating switch is fitted
(R166). -/
def State.partFrom (s : State) (k : PortId) : State :=
  let s := ((s.set (F.ATT_STATUS_ORIENT k) 0).put (F.ATT_STATUS_RA k) false).setWord (R.ATT_CABLE k) 0
  (s.when (!s.has (F.ATT_CFG_SEAT_EN k)) fun t => t.put (F.ATT_STATUS_SEATED k) false).modAtt k AttPort.parted
/-- The attach unit of port k stops: no Rp, no VCONN, ASTATE DISABLED (Table ATT-5); no partner is attached any more. -/
def State.disableAttach (s : State) (k : PortId) : State :=
  let s := s.disarmAll (attTimers k)
  let s := (s.modAtt k fun a => { a with wetBias := false, wetPins := 0 }).vconnOff k
  ((s.set (F.ATT_STATUS_ASTATE k) 0).set (F.ATT_STATUS_RP k) 0).partFrom k

/-- A port shut by an off line or by its absence from the present state: switch open, converter stopped, PD context
cleared and attach disabled (R446, Tables SAF-3 and SAF-4). -/
def State.shutPort (s : State) (k : PortId) : State :=
  ((s.hardOpen k).disableAttach k).disarmAll [.retryOff k, .ntcCool k, .errorRecovery k]

/-- Port k is shed (R73): limit 0, converter stopped, switch opened and its bit set; Rp stays. -/
def State.shed (s : State) (k : PortId) : State := (s.softOpen k).putBit F.BUS_STATUS_SHED k.val true

end Sys2Proof.Machine
end

