-- ==== Sys2Proof/Machine/RailOps.lean ====
section
/-!
DEFINITION. The acts on rails that several commands share: releasing an enable, the reset outputs (R321), the Winter
rail table (R328, R329), and the contents of a first-fault record (R370–R372).
-/
namespace Sys2Proof.Machine

/-- Drive reset output n low (R321). -/
def State.assertReset (s : State) (n : Fin 4) : State :=
  ((s.putBit F.SQC_RST_ST_RELEASED n.val false).putBit F.SQC_RST_ST_STRETCHING n.val false).disarm (.stretch n)
/-- Rails that reset output n watches; bits of absent rails are ignored (R321). -/
def State.watched (s : State) (n : Fin 4) : List RailId :=
  (railsOf (s.get (F.SQC_RST_WATCH n.val))).filter s.railPresent
/-- All reset outputs. -/
def allResets : List (Fin 4) := [0, 1, 2, 3]
/-- Drive low every reset output that watches rail j (R321). -/
def State.assertWatching (s : State) (j : RailId) : State :=
  forAll allResets (fun n t => t.when ((t.watched n).contains j) (fun u => u.assertReset n)) s

/-- The timers of rail j. -/
def railTimers (j : RailId) : List TimerId := [.railDelay j, .rise j, .fall j, .discharge j, .margin j]

/-- SQENj is released with SQMGj at the discharge code or at high impedance; the margin position returns to 0 (R323,
R328, R363, R369), and its UV thresholds are disarmed, which ends a UV warning (R360). Whether it is in regulation its next two
frames say (R314). The fall that T_LAST times begins (R345). The rail's trace entry is 0x10. -/
def State.releaseRail (s : State) (j : RailId) (discharge : Bool) (rstate : Nat) : State :=
  let was := s.has (F.SQ_STATUS_EN j)
  let s := s.disarmAll (railTimers j)
  let s := (s.put (F.SQ_STATUS_EN j) false).put (F.SQ_STATUS_MG_DIS j) discharge
  let s := s.set (F.SQ_STATUS_RSTATE j) rstate
  let s := (((s.put (F.SQ_MGST_DRIVING j) false).put (F.SQ_MGST_MOVING j) false).set (F.SQ_MGST_POS j) 0).put
    (F.SQ_MGST_UV_ARMED j) false
  let s := s.put (F.SQ_MGST_UVW_ACT j) false
  let s := s.modRail j fun r => { r with mg := if discharge then .discharge else .hiZ, uvwFrames := 0, uvwClear := 0,
                                         releasedAt := s.now, fallDue := r.fallDue || was || decide (rstate = 4) }
  let s := s.set (F.SQ_MG_TARGET j) 0
  let s := if was then s.traceRail 0x10 j else s
  s.assertWatching j

/-- A contained rail fault: the rail is removed until the next Spring; RSTATE reads 0 (R363, Table FLT-3). A power-down
goes on with it: its own step still comes (R324, R325), and one that falls already is judged on (Table SEQ-2). -/
def State.isolateRail (s : State) (j : RailId) : State :=
  let t := if [4, 5, 6].contains (s.get (F.SQ_STATUS_RSTATE j)) then s
    else
      let t := s.releaseRail j (s.rail j).dis 0
      match (if s.get F.SQC_STATUS_PHASE = 3 then s.deadline (.railDelay j) else none) with
      | none => t
      | some d => t.arm (.railDelay j) (d - s.now)
  t.modRail j fun r => { r with lostUntilSpring := true }

/-- The timers of a power-up or power-down in progress. -/
def seqTimers : List TimerId := [.seqDelay, .gateTimeout]

/-- The sequence trace stands as in an earlier state: with the fabric clock stopped nothing is written to it (R463). -/
def State.traceAsIn (t s : State) : State :=
  { t with seq := { t.seq with traceRam := s.seq.traceRam } }.setWord R.SQC_TRC_HEAD (s.word R.SQC_TRC_HEAD)

/-- The Winter rail table is applied from the copy latched at the seal (R328, R329): rails without KEEP are released,
reset outputs not standing wholly on kept rails go low, any power-up is abandoned, and the trace takes `code`, but where the fabric
clock has stopped nothing (R463). -/
def State.winterTable (s : State) (phase code : Nat) (clockRuns : Bool) : State :=
  let before := s
  let s := s.disarmAll seqTimers
  let s := { s with seq := { s.seq with sub := .idle, tableDone := false } }
  let s := (s.put F.SQC_STATUS_GATE_WAIT false)
  let s := (s.setPhase phase).trace code 0 0
  let keepsOutput (t : State) (n : Fin 4) : Bool := !(t.watched n).isEmpty && (t.watched n).all fun j => (t.rail j).keep
  let kept := allResets.filter (keepsOutput s)
  let released := s.get F.SQC_RST_ST_RELEASED
  let s := forAll s.presentRails (fun j t =>
    if (t.rail j).keep then
      (t.disarmAll [.railDelay j, .rise j, .fall j, .discharge j]).when (t.has (F.SQ_STATUS_EN j)) fun u =>
        u.set (F.SQ_STATUS_RSTATE j) 8
    else (t.releaseRail j (t.rail j).dis 0).modRail j fun r => { r with winter := true }) s
  let s := forAll allResets (fun n t =>
    if kept.contains n then t.putBit F.SQC_RST_ST_RELEASED n.val (released.testBit n.val) else t.assertReset n) s
  if clockRuns then s else s.traceAsIn before

/-- The times of a rail's UV and OV raises within the last 32 frames, oldest first (R372). -/
def State.recentRaises (s : State) (j : RailId) : List Nat :=
  (s.rail j).raisedAt.filter fun t => Nat.ble s.now (t + 32 * frameCycles)
/-- The failing rail of a record whose fault names none: the rail first raised within the 32 frames before the trigger,
the lowest-numbered of one cycle (R372). -/
def State.firstRail? (s : State) : Option RailId :=
  let recent := allRails.filter fun j => !(s.recentRaises j).isEmpty
  let at' (j : RailId) : Nat := (s.recentRaises j).headD 0
  recent.foldl (fun best j =>
    match best with
    | none => some j
    | some b => if at' j < at' b then some j else some b) none

/-- FIRST of a first-fault record (R372, Table RSV-2). -/
def State.firstOf (s : State) (code : Nat) : Nat :=
  match sourceRail? (faultSource code), sourcePort? (faultSource code) with
  | some j, _ => j.val
  | none, some k => 0x80 + k.num
  | none, none =>
    match s.firstRail? with
    | some j => j.val
    | none => 0xFF

/-- The contents of a first-fault record, taken in the trigger frame (R370, R371). -/
def State.fflContents (s : State) (code : Nat) (commit : Bool) : FflRec :=
  { tb := s.tb, fault := code, first := s.firstOf code, state := s.get F.SYS_STATE_STATE, commit := commit,
    deferred := false, margin := allRails.any fun j => decide (s.get (F.SQ_MGST_POS j) ≠ 0) || s.has (F.SQ_MGST_MOVING j),
    vin := s.get F.BUS_VIN_VIN_MV,
    volts := allRails.map fun j => if s.railPresent j then (s.sqvs? j).getD 0xFFFF else 0xFFFF,
    pwrCycles := s.boot.pwrCycles, lifeS := (s.boot.lifeS + (s.now - s.boot.lifeAt) / secs 1) % 2 ^ 32 }

/-- A trigger of R371: the record's contents are taken and it falls due, ahead of any deferred record. -/
def State.fflTrigger (s : State) (code : Nat) (commit : Bool) : State :=
  let r := s.fflContents code commit
  let ahead := s.ffl.due.takeWhile fun e => !e.deferred
  let behind := s.ffl.due.dropWhile fun e => !e.deferred
  { (s.put F.FFL_STATUS_BUSY true) with ffl := { s.ffl with due := ahead ++ r :: behind, written := false } }

end Sys2Proof.Machine
end

