-- ==== Sys2Proof/Machine/Reaction.lean ====
section
/-!
DEFINITION. Transitions between device states (R34–R36), restarts and what they retain (Table MAP-3), entry into
Winter (Table SAF-3) and Deep Winter (Table SAF-4), the commit point (R74) and power-down start (R322), and the whole
reaction to a fault (R485–R488).
-/
namespace Sys2Proof.Machine

/-- FAULT_N by device state (Table SEA-5); in Factory test it stays under test control. -/
def faultNHigh (d : DevState) (now : Bool) : Bool :=
  match d with
  | .spring | .summer | .autumn | .offSeason => true
  | .romBoot | .winter | .deepWinter | .romRecovery => false
  | .factoryTest => now

/-- SYS_STATE of a transition Tn: STATE, PREV and ENTRY together (R35 step 1). -/
def State.writeSysState (s : State) (d : DevState) (n : Nat) : State :=
  let prev := s.get F.SYS_STATE_STATE
  ((s.set F.SYS_STATE_STATE d.code).set F.SYS_STATE_PREV prev).set F.SYS_STATE_ENTRY n

/-- Transition Tn (R35): SYS_STATE, then the STATE_CHANGE event except into ROM boot, Deep Winter and ROM recovery,
then FAULT_N and the timers that belong to the new state. -/
def State.transition (s : State) (d : DevState) (n : Nat) : State :=
  let s := s.writeSysState d n
  let s := if [DevState.romBoot, .deepWinter, .romRecovery].contains d then s else s.post 0x00 0x0001
  let s := { s with pins := { s.pins with faultN := faultNHigh d s.pins.faultN } }
  let s := s.disarmAll [.summerHour, .winterHold]
  let s := if [DevState.spring, .summer, .autumn].contains d then s
    else (forAll modulePorts (fun k t => (t.set (F.BUD_GRANT_CEIL k) 0).set (F.CNV_ILIM_ALLOC k) 0) s).set F.BUD_STATUS_GRANTED 0
  match d with
  | .summer => (s.disarm .springLimit).arm .summerHour (secs 3600)
  | .winter => s.when (decide (s.get F.SYS_STATE_CFG_WINTER_HOLD ≠ 0)) fun t =>
      t.arm .winterHold (secs (t.get F.SYS_STATE_CFG_WINTER_HOLD))
  | _ => s

/-- The registers that a restart retains (Table MAP-3), copied word by word onto a reset register bank. -/
def retainedWords : List Nat :=
  [R.SYS_STRAP, R.SYS_SEQ_PREV_HSEQ, R.SYS_SEQ_PREV_DSEQ, R.SQC_TRC_HEAD, R.SAF_TRIP, R.SAF_TRIP_TBL, R.SAF_TRIP_TBH]

/-- The end of an epoch copies LAST_HSEQ and the last DSEQ issued (R553). -/
def State.endEpoch (s : State) : State :=
  let s := s.set F.SYS_SEQ_PREV_HSEQ_PREV_HSEQ (s.get F.SYS_SEQ_LAST_HSEQ_LAST_HSEQ)
  s.set F.SYS_SEQ_PREV_DSEQ_PREV_DSEQ s.hif.lastDseq

/-- The 10 ms of 0xE007 run on over a restart, because the comparators on VIN act in every state (R61, R86). DEDUCED (entry
97): where they have elapsed and VIN is still above VIN_OVP, they run again from the restart. -/
def State.ovpTimers (s : State) : List (TimerId × Nat) :=
  if s.env.vinOvp then [(.vinOvp, (s.deadline .vinOvp).getD (s.now + msec 10))] else []
/-- Everything outside the VISL domain, the flash, the OTP array and the retained SRAM takes its reset value (R618);
what outlasts it is kept. Where the supplies stand, reset is released (Table BUS-3 step 4): the boot timer of R455 and the
clock check of R18 start; before that the supplies go on coming up. -/
def State.restartAll (s : State) : State :=
  let fresh : State :=
    { now := s.now, env := s.env, free := s.free, pending := s.pending, flash := s.flash, otp := s.otp,
      island := { dwAt := s.island.dwAt, recordDue := s.island.recordDue },
      seq := { traceRam := s.seq.traceRam },
      bus := { step := s.bus.step, sinkPresent := s.bus.sinkPresent },
      ports := s.ports.map fun p => { pins := p.pins },
      axl := { cascHigh := s.axl.cascHigh } }
  let t := forAll retainedWords (fun a t => t.setWord a (s.word a)) fresh
  let t := t.set F.SAF_STATUS_DW_COUNT (s.get F.SAF_STATUS_DW_COUNT)
  let t := { t with timers := s.ovpTimers }
  t.when (decide (t.bus.step = 5)) fun t => (t.arm .bootTimer (msec 40)).arm .clockCheck (msec 5)

/-- No supply is left: the bucks stop and the part is held in reset, T0 (R61, R38). -/
def State.supplyLost (s : State) : State :=
  let t := s.restartAll
  { t with timers := [], bus := { t.bus with step := 0, sinkPresent := false },
           env := { t.env with vinOk := false, vinOvp := false, vinUp := false } }

/-- An internal restart by transition Tn: T8, T11, T14, T15, and the cold restart of T13. SYS_STATE keeps WRST_CNT and
DW_RESTARTED (R32), and the epoch ends (R553). -/
def State.internalRestart (s : State) (n : Nat) : State :=
  let prev := s.get F.SYS_STATE_STATE
  let t := s.endEpoch.restartAll
  let t := (t.set F.SYS_STATE_PREV prev).set F.SYS_STATE_ENTRY n
  (t.set F.SYS_STATE_WRST_CNT (s.get F.SYS_STATE_WRST_CNT)).set F.SYS_STATE_DW_RESTARTED
    (s.get F.SYS_STATE_DW_RESTARTED)

/-- Whether the upstream port stays connected in Winter (R398). -/
def State.upsKept (s : State) : Bool :=
  (railsOf (s.get F.HUB_CFG_UPS_RAILS)).all fun j => (s.rail j).keep
/-- The upstream terminations of port 0 are removed (R398). -/
def State.dropUpstream (s : State) : State :=
  { ((s.put F.HUB_STATUS_UP_CONF false).put F.HUB_STATUS_MF0_CONF false).set F.HUB_STATUS_UP_SPEED 0 with
    pins := { s.pins with ups := false } }
/-- Whether a priority entry is in force for hub port k (R403). -/
def State.priNames (s : State) (k : PortId) (n : Nat) : Bool := s.has (F.HUB_PRI_EN n) && decide (s.get (F.HUB_PRI_PORT n) = k.num)
/-- A downstream port of the hub is disabled: terminations removed, link in SS.Disabled (R396), packets toward it and
those held at its link discarded (R402), its translator's buffers freed, the priority entries that name it cleared (R403), and a
disconnect reported as a status change. -/
def State.hubPortOff (s : State) (k : PortId) : State :=
  let gone (p : HubPkt) : Bool := decide (p.port = k.val) && (!p.up || decide (p.store = 3))
  let was := s.get (F.HUB_PSTAT_SPEED k) != 0
  let s := { s with hub := { s.hub with pkts := s.hub.pkts.filter fun p => !gone p, tt := s.hub.tt.set (k.val % 8) {},
                                        changed := if was then setBitTo s.hub.changed k.val true else s.hub.changed } }
  let s := forAll (List.range 16) (fun n t => if t.priNames k n then t.put (F.HUB_PRI_EN n) false else t) s
  ((s.put (F.HUB_PSTAT_DATA_ON k) false).set (F.HUB_PSTAT_LINK k) 0).set (F.HUB_PSTAT_SPEED k) 0

/-- What WINTER_OFF and steps 2 and 3 of Table SAF-3 do: module ports shut, port engines 1–8 held in reset, Winter rail
table, hub ports disabled, upstream under R398. -/
def State.winterActs (s : State) : State :=
  let s := forAll modulePorts (fun k t => t.shutPort k) s
  let s := { s with boot := { s.boot with engRun := s.boot.engRun - s.boot.engRun % 512 + s.boot.engRun % 2 } }
  let s := s.winterTable 5 0x30 true
  let s := forAll modulePorts (fun k t => t.hubPortOff k) s
  if s.upsKept then s else s.dropUpstream

/-- A live handover after its pause is cut short (R599, Table UPD-5): the reloads not yet made are cancelled. -/
def State.abandonHandover (s : State) : State :=
  if [2, 3].contains (s.get F.UPD_HO_PHASE) then
    let s := { s with upd := { s.upd with left := [], passed := [], step := 0 } }
    (((s.set F.UPD_HO_PHASE 6).set F.UPD_HO_ENGINE 0).post 0x00 0x0303).warn 0x2A18 |>.flag G.UPD_ABANDONED
  else s
/-- Entry into Winter by T9, or by T10 before the commit point (Table SAF-3): WINTER_OFF, the first-fault record's
contents with the state before the transition, SYS_STATE, then the acts. -/
def State.winterEntry (s : State) (n code : Nat) : State :=
  let s := s.put F.SAF_STATUS_WINTER_OFF true
  let s := s.fflTrigger code false
  ((s.transition .winter n).winterActs).abandonHandover

/-- A promoted contained fault isolates its unit (R488, Table FLT-3). -/
def State.isolate (s : State) (src : Nat) : State :=
  match sourcePort? src, sourceRail? src with
  | some k, _ => s.holdOpen k true
  | none, some j => s.isolateRail j
  | none, none =>
    if src = 0x20 then
      let s := forAll modulePorts (fun k t => t.stopConverter k) s
      let s := { s with bus := { s.bus with isoHold := true } }
      if s.env.vinOvp then s else s.arm .busIsolation (secs 1)
    else if src = 0x28 then s.bump F.HUB_BUF_RETIRED 1
    else s

/-- T10 after the commit point, once the power-down is complete: Winter without the Winter rail table. -/
def State.lateWinter (s : State) : State :=
  let s := { s with seq := { s.seq with winterDue := none } }
  let s := s.transition .winter 10
  let s := forAll modulePorts (fun k t => (t.shutPort k).hubPortOff k) s
  { s with boot := { s.boot with engRun := s.boot.engRun - s.boot.engRun % 512 + s.boot.engRun % 2 } }
/-- A fatal fault's reaction by device state (Table FLT-2). In a committed Autumn T10 follows once DONE is 1, at once where
it is (Table SEA-2). -/
def State.fatal (s : State) (code : Nat) : State :=
  let s := if s.get F.FLT_FATAL_CODE = 0 then s.set F.FLT_FATAL_CODE code else s
  if s.isAny [.spring, .summer] then
    if s.upd.paused then
      let s := (s.put F.SAF_STATUS_WINTER_OFF true).fflTrigger code false
      { s.winterActs with flt := { s.winterActs.flt with deferT9 := some code } }
    else s.winterEntry 9 code
  else if s.isIn .autumn then
    if s.has F.SYS_STATE_COMMITTED then
      let s := forAll modulePorts (fun k t => t.shutPort k) (s.put F.SAF_STATUS_WINTER_OFF true)
      let s := { s with seq := { s.seq with winterDue := some code } }
      s.when (s.has F.SYS_STATE_DONE) fun t => (t.disarm .restartWait).lateWinter
    else s.winterEntry 10 code
  else if s.isIn .factoryTest then
    let s := s.put F.SAF_STATUS_WINTER_OFF true
    (forAll modulePorts (fun k t => t.shutPort k) s).winterTable 5 0x30 true
  else s

/-- One counted fault of a source: the state with its escalation counter moved, and whether the fault is promoted
(R486, R487). -/
def State.escalate (s : State) (src cls : Nat) : Bool × State :=
  if s.has (F.FLT_ESC_DIS src) then (false, s)
  else
    let n := orDefault 8 (s.get (F.FLT_ESC_N src))
    let w := orDefault 100 (s.get (F.FLT_ESC_W src)) * (if s.has (F.FLT_ESC_WSCALE src) then secs 1 else msec 10)
    let ceil := orDefault 3 (s.get (F.FLT_ESC_CEIL src))
    let e := bankRead (fun _ => ({} : Esc)) s.flt.esc src
    let e' : Esc := if e.count ≠ 0 && decide (s.now < e.openedAt + w) then { e with count := e.count + 1 }
                    else { count := 1, openedAt := s.now }
    let full := Nat.ble n e'.count
    let s := { s with flt := { s.flt with esc := bankWrite (fun _ => ({} : Esc)) s.flt.esc src (if full then {} else e') } }
    (full && decide (cls < ceil), s)

/-- The reaction of the collector to a fault of a given class (Table FLT-2), after counting. -/
def State.react (s : State) (code : Nat) (promoted : Bool) : State :=
  let s := s.when promoted fun t => t.bump F.FLT_STATUS_PROMOTED 1
  let s := s.recordFault code promoted
  match faultClass code with
  | 0 => s.flag G.FLT_WARN
  | 1 => s.flag G.FLT_CORR
  | 2 => (s.flag G.FLT_CONT).when promoted fun t => t.isolate (faultSource code)
  | _ => (s.flag G.FLT_FATAL).fatal code

/-- Whether a fault source is that of an absent port or rail, from which no fault is reported (R60). -/
def State.sourceAbsent (s : State) (src : Nat) : Bool :=
  (sourcePort? src).any (fun k => !s.portPresent k) || (sourceRail? src).any fun j => !s.railPresent j
/-- A fault reaches the collector (R485): corrected and contained faults are counted and may be promoted one class
(R486, R487); then the reaction of the class follows. Nothing is reported from an absent port or rail (R60). -/
def State.raise (s : State) (code : Nat) : State :=
  let cls := faultClass code
  if s.sourceAbsent (faultSource code) then s
  else if cls = 1 ∨ cls = 2 then
    let r := s.escalate (faultSource code) cls
    r.2.react (if r.1 then withClass code (cls + 1) else code) r.1
  else s.react code false

/-- A fault found in ROM boot is raised later (R120, R482). -/
def State.find (s : State) (code : Nat) : State := { s with boot := { s.boot with found := s.boot.found ++ [code] } }
/-- A fault of any source as the part takes it: in ROM boot it is kept for R120, in Deep Winter nothing classifies it. -/
def State.classify (s : State) (code : Nat) : State :=
  if s.isIn .romBoot then s.find code else if s.isIn .deepWinter then s else s.raise code

/-- Whether an island trip of this code leaves the fabric clock running (R463): not where the crystal or the PLL stopped, nor where a
strobe stayed out. -/
def State.clockRunsAt (s : State) (code : Nat) : Bool := !(code == 0xE201 || code == 0xE202 || s.island.clockStopped)

/-- SAF_DWTIME.SINCE: whole seconds since the latest Deep Winter entry, saturating; 0xFFFF where none (R475). -/
def State.dwSince (s : State) : Nat :=
  match s.island.dwAt with
  | none => 0xFFFF
  | some t => min 0xFFFF ((s.now - t) / secs 1)

/-- Entry into Deep Winter by T12 (Table SAF-4). A trip while Deep Winter holds changes nothing (Table SEA-2). -/
def State.trip (s : State) (code detail : Nat) : State :=
  if s.isIn .deepWinter then s
  else
    let prev := s.get F.SYS_STATE_STATE
    let may := s.island.restartEn && Nat.ble 600 s.dwSince
    let s := ((s.set F.SAF_TRIP_PREV_STATE prev).set F.SAF_TRIP_DETAIL detail).set F.SAF_TRIP_CODE code
    let s := (s.set F.SAF_TRIP_TBL_TB_LO s.tb).set F.SAF_TRIP_TBH_TB_HI (s.tb / 2 ^ 32)
    let s := ((s.bump F.SAF_STATUS_DW_COUNT 1).put F.SAF_STATUS_ISL_OFF true).set F.SAF_STATUS_ISTATE 4
    let s := s.put F.SAF_STATUS_OPEN false
    let s := { s with island := { s.island with dwAt := some s.now, mayRestart := may, recordDue := true } }.setWord R.PAGE_SEL 0
    let s := (s.transition .deepWinter 12).put F.SYS_STATE_HANDOVER false
    let s := forAll allPorts (fun k t => t.shutPort k) s
    let s := s.winterTable 6 0x31 (s.clockRunsAt code)
    let s := forAll modulePorts (fun k t => t.hubPortOff k) s.dropUpstream
    let s := { s with boot := { s.boot with engRun := 0 }, timers := s.ovpTimers, pins := { s.pins with p9swg := false },
                      hif := { s.hif with current := none, answer := none, exec := [] },
                      upd := { s.upd with paused := false, step := 0, left := [], passed := [], held := none } }
    if may then s.arm .coldRestart (secs 1) else s

/-- The step of the power-down table that begins: its delay runs (Table SEQ-2 step 1); an empty table is complete. -/
def State.beginDownStep (s : State) (n : Nat) : State :=
  let s := { s with seq := { s.seq with sub := .delay } }
  let s := forAll allRails (fun j t => t.modRail j fun r => { r with stepDone := false }) s
  (s.set F.SQC_STATUS_STEP n).arm .seqDelay (msec (s.get (F.SQC_DN_DLY n)))

/-- The power-down table starts from its step 0 (R322): a power-up is abandoned, every reset output goes low (Table
SEQ-2), and the CASC check is disarmed (R333). -/
def State.startPowerDown (s : State) : State :=
  let s := s.disarmAll (seqTimers ++ allRails.flatMap fun j => [.railDelay j, .rise j])
  let s := { s with seq := { s.seq with tableDone := false } }
  let s := (s.put F.SQC_STATUS_GATE_WAIT false).setPhase 3
  let s := forAll allResets (fun n t => t.assertReset n) s
  (s.put F.AXL_STATUS_CASC_ARMED false).beginDownStep 0

/-- The commit point (R74): COMMITTED, every module port shed, port 0's terminations removed, the power-down table
started, the record with 0x2003 due and a checkpoint of the day (R436), and warning 0x2003 with its flag. -/
def State.commit (s : State) : State :=
  let s := s.fflTrigger 0x2003 true
  let s := (s.put F.SYS_STATE_COMMITTED true).put F.BUS_STATUS_COMMITTED true
  let s := (s.flag G.BUS_COMMIT).warn 0x2003
  let s := forAll s.presentModulePorts (fun k t => t.shed k) s
  let s := { s with his := { s.his with cpDue := s.his.cpDue || s.his.dayDue.isNone } }
  s.dropUpstream.startPowerDown

end Sys2Proof.Machine
end

