-- ==== Sys2Proof/Machine/MeasOps.lean ====
section
/-!
DEFINITION. Results of the measurement path as other units read them: the quantities of channels (Tables MSR-1 and
MSR-2) and the accumulation windows over non-discarded results.
-/
namespace Sys2Proof.Machine

/-- Open accumulation windows of one purpose over several channels, each empty. -/
def State.openWindows (s : State) (id : WinId) (chs : List Nat) : State :=
  { s with msr := { s.msr with windows := (s.msr.windows.filter fun w => decide (w.id ≠ id)) ++
                                          chs.map fun c => { id := id, ch := c } } }
/-- Close the windows of one purpose. -/
def State.closeWindows (s : State) (id : WinId) : State :=
  { s with msr := { s.msr with windows := s.msr.windows.filter fun w => decide (w.id ≠ id) } }
/-- The windows of one purpose take no further result. -/
def State.endWindows (s : State) (id : WinId) : State :=
  { s with msr := { s.msr with windows := s.msr.windows.map fun w => if w.id = id then { w with done := true } else w } }
/-- The window of a purpose over a channel. -/
def State.window? (s : State) (id : WinId) (ch : Nat) : Option Win :=
  s.msr.windows.find? fun w => decide (w.id = id) && decide (w.ch = ch)
/-- A window with one more result. -/
def Win.add (w : Win) (v : Int) : Win :=
  { w with sum := w.sum + v, n := w.n + 1, lo := if w.n = 0 then v else min w.lo v,
           hi := if w.n = 0 then v else max w.hi v }
/-- The mean of a window in LSB, truncated; none without results. -/
def Win.mean? (w : Win) : Option Int := if w.n = 0 then none else some (w.sum / (w.n : Int))
/-- Whether a window takes results of an ADC on a channel: a dual-channel window takes those of its own ADC alone. -/
def Win.takes (w : Win) (a : AdcId) (ch : Nat) : Bool :=
  decide (w.ch = ch) && !w.done &&
  match w.id with
  | .dual _ b => decide (a = b)
  | _ => true
/-- A window with a result of an ADC on a channel, where it takes it. -/
def Win.feed (a : AdcId) (ch : Nat) (v : Int) (w : Win) : Win := if w.takes a ch then w.add v else w
/-- Every running window over a channel takes a result. -/
def State.accumulate (s : State) (a : AdcId) (ch : Nat) (v : Int) : State :=
  { s with msr := { s.msr with windows := s.msr.windows.map (Win.feed a ch v) } }
/-- Open a window where none of its purpose stands over the channel. -/
def State.ensureWindow (s : State) (id : WinId) (ch : Nat) : State :=
  if (s.window? id ch).isSome then s else { s with msr := { s.msr with windows := s.msr.windows ++ [{ id := id, ch := ch }] } }

/-- Latest gate-to-source voltage of the port's switch in mV (Table MSR-1, class M). -/
def State.vgs (s : State) (k : PortId) : Nat := s.result (0x77 + k.val)

end Sys2Proof.Machine
end

