-- ==== Sys2Proof/Machine/AttachOps.lean ====
section
/-!
DEFINITION. Attach as several commands share it: the Rp presented (R161), the attach states (Table ATT-5, R645), the
conditions of R163 and the application of VBUS, detach (R164), and bringing a port's attach unit into service.
-/
namespace Sys2Proof.Machine

/-- Whether wet-port detection is enabled (R176). -/
def State.wetOn (s : State) : Bool := !s.unitOff 4
/-- The attach state of port k. -/
def State.astate (s : State) (k : PortId) : Nat := s.get (F.ATT_STATUS_ASTATE k)
/-- Attach states in which wet readings are made (R172). -/
def readingState (st : Nat) : Bool := [1, 3, 4, 5, 6, 0xC].contains st
/-- Offer ceiling of port k in mW (R304); port 9 has a fixed 15 W. -/
def State.ceilMw (s : State) (k : PortId) : Nat := if k.isModule then 100 * s.get (F.BUD_GRANT_CEIL k) else 15000

/-- The Rp of R161: 3 is 3.0 A, 2 is 1.5 A, 1 is default. -/
def State.rpAllowed (s : State) (k : PortId) : Nat :=
  if k.isModule then
    let cfg := if s.get (F.ATT_CFG_RP_MAX k) = 0 then 3 else if s.get (F.ATT_CFG_RP_MAX k) = 1 then 2 else 1
    let grant := if 15000 ≤ s.ceilMw k then 3 else if 7500 ≤ s.ceilMw k then 2 else 1
    min cfg grant
  else 3
/-- Whether port 9 is in its sink role. -/
def State.isSink (s : State) (k : PortId) : Bool := s.has (F.ATT_STATUS_PWR_ROLE k)
/-- Present the Rp of R161 where the port presents Rp, no contract holds and no Hard Reset presents SinkTxOK. -/
def State.presentRp (s : State) (k : PortId) : State :=
  if s.astate k = 0 || s.isSink k || s.has (F.PD_STATUS_CONTRACT k) || decide ((s.port k).pd.hr = .wait) then s
  else
    let s := s.set (F.ATT_STATUS_RP k) (s.rpAllowed k)
    let ref := s.rpRef k
    s.modBrk k fun b => { b with iRef := ref, iRefNext := ref }

/-- The pins a reading measures, bits CC1, CC2, SBU1, SBU2 (R172). -/
def State.wetMask (s : State) (k : PortId) : Nat :=
  if s.get (F.ATT_STATUS_ORIENT k) = 0 then 0xF
  else if s.has (F.ATT_STATUS_RA k) then 0xC
  else if s.get (F.ATT_STATUS_ORIENT k) = 1 then 0xE else 0xD
/-- Pins of a reading as indices 0–3. -/
def wetList (m : Nat) : List Nat := (List.range 4).filter fun i => m.testBit i

/-- A wet reading in progress ends without a verdict: bias removed, Rp restored. -/
def State.endReading (s : State) (k : PortId) : State :=
  ((s.disarmAll [.wetNext k, .wetSettle k, .wetWindow k]).closeWindows (.wet k)).modAtt k fun a =>
    { a with wetBias := false, wetPins := 0 }
/-- Enter an attach state. A state that needs readings starts or continues their series; any other ends it (R171,
R172). -/
def State.setAState (s : State) (k : PortId) (st : Nat) : State :=
  let s := s.set (F.ATT_STATUS_ASTATE k) st
  if s.wetOn && readingState st then
    if s.armed (.wetNext k) || (s.port k).att.wetBias then s else s.arm (.wetNext k) 0
  else s.endReading k

/-- Whether a source-role port sees a partner to debounce: a sink or an accessory; a powered cable without sink, Ra with Open,
leaves the port in UNATTACHED (Table ATT-3). -/
def seesSink (p : PortPins) : Bool :=
  decide (p.cc1 = .rd) || decide (p.cc2 = .rd) || (decide (p.cc1 = .ra) && decide (p.cc2 = .ra))
/-- Rp level that a sink-role port sees, 0 for none. -/
def seesRp (p : PortPins) : Nat :=
  let lv (t : Term) : Nat := if t = .rp30 then 3 else if t = .rp15 then 2 else if t = .rpDefault then 1 else 0
  max (lv p.cc1) (lv p.cc2)
/-- Whether the running reading has put its bias on a CC pin in place of Rp (R171). -/
def State.ccBiased (s : State) (k : PortId) : Bool :=
  (s.port k).att.wetBias && decide ((s.port k).att.wetPins % 4 ≠ 0)
/-- Whether the attach unit of port k looks for a source rather than for a sink. -/
def State.looksForSource (s : State) (k : PortId) : Bool :=
  !k.isModule && (s.isIn .offSeason || !s.env.vinOk || !(s.port k).att.asSource)
/-- A partner termination seen in UNATTACHED, or in SAFE0_WAIT after a detach, starts its debounce (R162, R164); one
that appears under a wet reading's bias waits for its end. -/
def State.ccEval (s : State) (k : PortId) : State :=
  let p := (s.port k).pins
  let free := decide (s.astate k = 1) || (decide (s.astate k = 3) && decide (s.get (F.ATT_STATUS_ORIENT k) = 0))
  let sees := if s.looksForSource k then decide (seesRp p ≠ 0) else seesSink p
  if free && sees && !s.ccBiased k then
    ((s.disarm .drp).setAState k 2).arm (.ccDebounce k) (msec 150)
  else s

/-- Whether a sink partner is attached to port k in its source role. -/
def State.sinkAttached (s : State) (k : PortId) : Bool :=
  decide (s.get (F.ATT_STATUS_ORIENT k) ≠ 0) && !s.isSink k && [3, 4, 5, 6, 7, 9, 0xC].contains (s.astate k)
/-- Whether the plug of port k counts as seated (R166). -/
def State.seated (s : State) (k : PortId) : Bool := !s.has (F.ATT_CFG_SEAT_EN k) || s.has (F.ATT_STATUS_SEATED k)
/-- Whether the close of port k is held (R645): steps 2 and 3 of Table PDP-5, t_off, a latch or a hold. -/
def State.closeHeld (s : State) (k : PortId) : Bool :=
  decide ((s.port k).pd.hr = .wait) || decide ((s.port k).pd.hr = .recover) || [6, 7, 8].contains (s.get (F.BRK_STATUS_STATE k)) ||
  (decide (s.get (F.BRK_STATUS_STATE k) = 5) && decide ((s.port k).brk.after ≠ 0))
/-- Condition 4 of R163: VIN_OK, and a grant that covers vSafe5V at the current of the Rp presented. -/
def State.grantCovers (s : State) (k : PortId) : Bool :=
  s.env.vinOk && !(k.isModule && s.bit F.BUS_STATUS_SHED k.val) &&
  decide (5 * rpMa (s.get (F.ATT_STATUS_RP k)) ≤ s.ceilMw k)
/-- The attach state that the conditions of R163 give an attached sink with the switch open: 0xC held, the state of the
first unmet condition, or 7 where all hold (Table ATT-5, R645). -/
def State.judged (s : State) (k : PortId) : Nat :=
  if s.closeHeld k then 0xC
  else if ! (s.port k).pins.vcsnsSafe then 3
  else if ! s.seated k then 4
  else if s.wetOn && decide (s.get (F.ATT_STATUS_DRY k) ≠ 2) then 5
  else if ! s.grantCovers k then 6
  else 7

/-- Whether the port may apply VCONN (R169): not where VCONN_DIS is 1, nor after an overcurrent until detach. -/
def State.vconnMay (s : State) (k : PortId) : Bool := !s.has (F.ATT_CFG_VCONN_DIS k) && !(s.port k).att.vconnLockout
/-- VCONN turns on, and the part is VCONN source; cable discovery is due tVCONNStable later (R213). -/
def State.vconnApply (s : State) (k : PortId) : State :=
  (((s.put (F.ATT_STATUS_VCONN_ON k) true).put (F.PD_STATUS_VCONN_SRC k) true).modPd k fun p =>
    { p with cableTries := 0, cableDone := false }).arm (.vconnStable k) (msec 50)
/-- VCONN is turned on where Ra was seen and VCONN may be applied (R163, R169). -/
def State.vconnOn (s : State) (k : PortId) : State :=
  if s.has (F.ATT_STATUS_RA k) && s.vconnMay k then s.vconnApply k else s

/-- The mean of the last results of the current channel, clamped to ±1.00 mV, as IOFS (R235). -/
def offsetOf (l : List Int) : Int :=
  if l.isEmpty then 0 else max (-100) (min 100 (l.foldl (· + ·) 0 / (l.length : Int)))
/-- Give the converter a target: the ramp starts at its present position (R243), the target bounded by VMAX. -/
def State.rampTo (s : State) (k : PortId) (mv : Nat) : State :=
  let t := min mv (orDefault 48000 (s.get (F.CNV_MAX_VMAX k)))
  let s := s.modCnv k fun c => { c with target := t, rampFrom := c.position / 10, inRange := 0, rampOpen := true }
  s.put (F.CNV_STATUS_RAMP k) (decide ((s.port k).cnv.position ≠ 10 * t))
/-- The converter runs: IOFS taken from the 16 results, the ramp position at the present VBSNS, the target given (R235, R242). -/
def State.runConverter (s : State) (k : PortId) (mv : Nat) : State :=
  let s := s.set (F.CNV_DROP_IOFS k) (toTwos 16 (offsetOf (s.port k).cnv.offsets))
  let v := s.vbsns k
  let s := s.modCnv k fun c => { c with run := true, limitZero := false, position := 10 * v, integ := 0, trim := 0, ipk := 0,
                                        starting := true, startDue := none, offsets := [] }
  (s.set (F.CNV_STATUS_VSET k) v).rampTo k mv
/-- A converter start (R235, R242): it is made once 16 results of the current channel stand, taken with all gates low. -/
def State.startConverter (s : State) (k : PortId) (mv : Nat) : State :=
  if !k.isModule then s
  else if Nat.blt (s.port k).cnv.offsets.length 16 then s.modCnv k fun c => { c with startDue := some mv }
  else s.runConverter k mv
/-- A result of the current channel with all gates low is one of the 16 of R235; a start that waits for them is made with the
last. -/
def State.offsetResult (s : State) (k : PortId) (code : Nat) : State :=
  if (s.port k).cnv.run then s
  else
    let s := s.modCnv k fun c => { c with offsets := (codeValue 2 code :: c.offsets).take 16 }
    match (s.port k).cnv.startDue with
    | none => s
    | some mv => s.startConverter k mv

/-- A close of the port switch begins (Table BRK-2 step 1). On port 9 the supply stands within vSafe5V and the pre-close
test begins at once. -/
def State.beginClose (s : State) (k : PortId) : State :=
  let ref := s.rpRef k
  let s := s.modBrk k fun b => { b with acc := 0, accZeroAt := s.now, iRef := ref, iRefNext := ref, gate := 0, after := 0,
                                        verdictDue := false, retried := b.retried || b.retryClose }
  let s := (s.set (F.BRK_STATUS_STATE k) 1).set (F.BRK_STATUS_ACC k) 0
  if k.isModule then s else s.arm (.preClose k) (msec 2)
/-- VBUS is applied (R163, step 4 of Table PDP-5): VCONN where Ra was seen, converter to 5 V, switch closed. -/
def State.applyVbus (s : State) (k : PortId) : State :=
  (((s.setAState k 7).vconnOn k).startConverter k 5000).beginClose k

/-- R163 judged in a frame for an attached sink with the switch open; no switch closes before the seal (R110), and while the
port engine is reloaded a new attach
waits for its decision. -/
def State.judgeVbus (s : State) (k : PortId) : State :=
  if s.sinkAttached k && !s.switchDriven k && !((s.port k).pd.reloading && decide ((s.port k).pd.hr = .none)) then
    let s := s.presentRp k
    let st := s.judged k
    if st = 7 then
      if s.get (F.BRK_STATUS_STATE k) = 0 && s.has F.PROT_STATUS_SEALED then s.applyVbus k else s
    else s.setAState k st
  else s

/-- The attach decision on a sink seen with an orientation (R162–R165); the lane multiplexer of a module port routes the pair
of that orientation, before the switch closes (R168). -/
def State.sinkFound (s : State) (k : PortId) (orient : Nat) (ra : Bool) : State :=
  let s := (s.set (F.ATT_STATUS_ORIENT k) orient).put (F.ATT_STATUS_RA k) ra
  let s := s.modAtt k fun a => { a with lanes := if k.isModule then orient else 0, safeWait := false }
  let s := (s.put (F.ATT_STATUS_PWR_ROLE k) false).put (F.PD_STATUS_DATA_ROLE k) true
  let s := if s.has (F.ATT_CFG_SEAT_EN k) then s else s.put (F.ATT_STATUS_SEATED k) true
  let s := if (s.port k).pins.vcsnsSafe || (s.port k).att.warned05 then s
    else ((s.flag (G.ATT_REFUSED k)).warn (portFault k 0 0x05)).modAtt k fun a => { a with warned05 := true }
  let s := s.setAState k (if s.judged k = 7 then 6 else s.judged k)
  s.judgeVbus k

/-- What a port keeps no longer once its partner has gone: orientation, cable, holds, latch, retries, the cap of R252,
DCP and the end of PD attempts. -/
def State.forgetPartner (s : State) (k : PortId) : State :=
  let s := (s.clearPd k).disarmAll [.retryOff k, .retryClear k, .ntcCool k, .onDrop k, .errorRecovery k]
  let s := (s.partFrom k).put (F.PD_STATUS_DATA_ROLE k) false
  let s := s.modPd k fun p => { reloading := p.reloading }
  let s := s.modChk k fun c => { c with last3 := [], warned := false, refP := none, refR := none }
  let s := s.setWord (R.CHK_CAP k) 0xFFFFFFFF#32
  let s := (s.put (F.CHK_STATUS_DERATED k) false).put (F.CHK_STATUS_FAILED k) false
  let held := (s.port k).brk.heldUntilDetach && !(s.port k).pins.vcsnsSafe && s.get (F.BRK_STATUS_LAST_CAUSE k) = 0x35
  let s := s.modBrk k fun b => { b with heldUntilDetach := held, heldNtc := false, degradedWarned := false, latched := false,
                                        retried := false, retryClose := false }
  (s.set (F.BRK_STATUS_RETRIES k) 0).settleOpen k

/-- The partner has gone (R164): converter stopped, switch opened, VCONN off; SAFE0_WAIT until Pk_VCSNS is at vSafe0V. -/
def State.detach (s : State) (k : PortId) : State :=
  let s := s.modPins k fun p => { p with cc1 := .opn, cc2 := .opn }
  let s := (s.softOpen k).forgetPartner k
  let s := (s.put (F.ATT_STATUS_PWR_ROLE k) false).modAtt k fun a => { a with safeWait := !(s.port k).pins.vcsnsSafe }
  (s.setAState k (if (s.port k).pins.vcsnsSafe then 1 else 3)).presentRp k

/-- Whether the attach unit of port k serves it: present, its enable set, its engine running or being reloaded, which the unit
outlives (R14, R164, R178). -/
def State.portServed (s : State) (k : PortId) : Bool :=
  s.portPresent k && s.bit F.SEC_PORTEN_EN k.val && (s.engine k.num || (s.port k).pd.reloading)
/-- Half of tDRP, 75 ms at a duty of 50 % (Table ATT-2): the cycle of the toggling is the time of both roles. -/
def drpHalf : Nat := usec 37500
/-- Port k without a partner (Table ATT-5): UNATTACHED, or after a detach SAFE0_WAIT until Pk_VCSNS is at vSafe0V (R164); Rp
presented, dual-role toggling on port 9 with VIN present. -/
def State.unattached (s : State) (k : PortId) : State :=
  if s.portServed k then
    let s := s.modAtt k fun a => { a with safeWait := a.safeWait && !(s.port k).pins.vcsnsSafe }
    let s := s.setAState k (if (s.port k).att.safeWait then 3 else 1)
    let s := if s.wetOn then s else s.set (F.ATT_STATUS_DRY k) 3
    let s := s.when (s.has (F.ATT_CFG_SEAT_EN k)) fun t => t.put (F.ATT_STATUS_SEATED k) (t.port k).pins.seatLow
    let s := if k.isModule then s.presentRp k
      else if s.env.vinOk && !s.isIn .offSeason then
        (((s.put (F.ATT_STATUS_PWR_ROLE k) false).modAtt k fun a => { a with asSource := true }).presentRp k).arm .drp drpHalf
      else (s.put (F.ATT_STATUS_PWR_ROLE k) true).set (F.ATT_STATUS_RP k) 0
    s.ccEval k
  else s
/-- Bring port 9 into service (Table ATT-7). -/
def State.startPort9 (s : State) : State := s.unattached port9

end Sys2Proof.Machine
end

