-- ==== Sys2Proof/Machine/Check.lean ====
section
/-!
DEFINITION. The check values of Table TMB-1: CRC-8 (SMBus PEC), CRC-16-CCITT, CRC-32 and CRC-32C, by one bitwise
computation over bytes.
-/
namespace Sys2Proof

/-- The parameters of one algorithm of Table TMB-1. -/
structure CrcAlg where
  width : Nat
  poly  : Nat
  init  : Nat
  refl  : Bool
  xout  : Nat
  deriving DecidableEq, Repr

/-- Table TMB-1 by ALG. -/
def crcAlg (alg : Nat) : CrcAlg :=
  if alg = 0 then ⟨8, 0x07, 0x00, false, 0x00⟩
  else if alg = 1 then ⟨16, 0x1021, 0xFFFF, false, 0x0000⟩
  else if alg = 2 then ⟨32, 0x04C11DB7, 0xFFFFFFFF, true, 0xFFFFFFFF⟩
  else ⟨32, 0x1EDC6F41, 0xFFFFFFFF, true, 0xFFFFFFFF⟩

/-- The low `w` bits of a number in reverse order. -/
def reflectBits (w v : Nat) : Nat := (List.range w).foldl (fun a i => 2 * a + (v / 2 ^ i) % 2) 0

/-- One shift of the running value, kept most significant bit first. -/
def crcShift (a : CrcAlg) (r : Nat) : Nat :=
  let t := 2 * r % 2 ^ a.width
  if r.testBit (a.width - 1) then t ^^^ a.poly else t
/-- Feed one byte. A reflected algorithm takes its bytes least significant bit first. -/
def crcByte (a : CrcAlg) (r : Nat) (b : Byte) : Nat :=
  let v := if a.refl then reflectBits 8 b.toNat else b.toNat
  (List.range 8).foldl (fun x _ => crcShift a x) (r ^^^ (v * 2 ^ (a.width - 8)))
/-- The running value as the units hold it: a reflected algorithm holds it reflected. -/
def crcView (a : CrcAlg) (r : Nat) : Nat := if a.refl then reflectBits a.width r else r
/-- Feed bytes to a running value held as `crcView`. -/
def crcFeed (a : CrcAlg) (v : Nat) (bs : List Byte) : Nat := crcView a (bs.foldl (crcByte a) (crcView a v))
/-- The result of a running value: the final XOR. -/
def crcFinal (a : CrcAlg) (v : Nat) : Nat := v ^^^ a.xout
/-- The check value of a list of bytes. -/
def crc (alg : Nat) (bs : List Byte) : Nat := crcFinal (crcAlg alg) (crcFeed (crcAlg alg) (crcView (crcAlg alg) (crcAlg alg).init) bs)
/-- CRC-16-CCITT of Table TMB-1. -/
def crc16 (bs : List Byte) : Nat := crc 1 bs
/-- CRC-32 of Table TMB-1. -/
def crc32 (bs : List Byte) : Nat := crc 2 bs

end Sys2Proof
end

