-- ==== Sys2Proof/Machine/Crypto.lean ====
section
/-!
DEFINITION. The primitives the manual names by standard: SHA-256 (FIPS 180-4), AES-128 (FIPS 197), AES-CMAC
(SP 800-38B), the counter-mode KDF of R510, and ECDSA P-256 verification (FIPS 186). Their inner constants come from
those standards, not from the manual.
-/
namespace Sys2Proof

/-- SHA-256 round constants. -/
def shaK : List (BitVec 32) :=
  [0x428A2F98, 0x71374491, 0xB5C0FBCF, 0xE9B5DBA5, 0x3956C25B, 0x59F111F1, 0x923F82A4, 0xAB1C5ED5,
   0xD807AA98, 0x12835B01, 0x243185BE, 0x550C7DC3, 0x72BE5D74, 0x80DEB1FE, 0x9BDC06A7, 0xC19BF174,
   0xE49B69C1, 0xEFBE4786, 0x0FC19DC6, 0x240CA1CC, 0x2DE92C6F, 0x4A7484AA, 0x5CB0A9DC, 0x76F988DA,
   0x983E5152, 0xA831C66D, 0xB00327C8, 0xBF597FC7, 0xC6E00BF3, 0xD5A79147, 0x06CA6351, 0x14292967,
   0x27B70A85, 0x2E1B2138, 0x4D2C6DFC, 0x53380D13, 0x650A7354, 0x766A0ABB, 0x81C2C92E, 0x92722C85,
   0xA2BFE8A1, 0xA81A664B, 0xC24B8B70, 0xC76C51A3, 0xD192E819, 0xD6990624, 0xF40E3585, 0x106AA070,
   0x19A4C116, 0x1E376C08, 0x2748774C, 0x34B0BCB5, 0x391C0CB3, 0x4ED8AA4A, 0x5B9CCA4F, 0x682E6FF3,
   0x748F82EE, 0x78A5636F, 0x84C87814, 0x8CC70208, 0x90BEFFFA, 0xA4506CEB, 0xBEF9A3F7, 0xC67178F2].map (BitVec.ofNat 32)
/-- SHA-256 initial hash value. -/
def shaH0 : List (BitVec 32) :=
  [0x6A09E667, 0xBB67AE85, 0x3C6EF372, 0xA54FF53A, 0x510E527F, 0x9B05688C, 0x1F83D9AB, 0x5BE0CD19].map (BitVec.ofNat 32)

/-- The padded message. -/
def shaPad (m : List Byte) : List Byte :=
  m ++ [0x80#8] ++ List.replicate ((119 - m.length % 64) % 64) 0#8 ++ beBytes 8 (8 * m.length)
/-- Big-endian words of a list of bytes whose length is a multiple of 4. -/
def beWords : List Byte → List (BitVec 32)
  | a :: b :: c :: d :: rest => BitVec.ofNat 32 (beNat [a, b, c, d]) :: beWords rest
  | _ => []
/-- The message schedule, newest word first, extended by one word. -/
def shaExtend (w : List (BitVec 32)) : List (BitVec 32) :=
  let g (i : Nat) : BitVec 32 := w.getD (i - 1) 0#32
  let s0 := (g 15).rotateRight 7 ^^^ (g 15).rotateRight 18 ^^^ (g 15) >>> 3
  let s1 := (g 2).rotateRight 17 ^^^ (g 2).rotateRight 19 ^^^ (g 2) >>> 10
  (g 16 + s0 + g 7 + s1) :: w
/-- The 64 words of the schedule of one block. -/
def shaSchedule (blk : List (BitVec 32)) : List (BitVec 32) :=
  ((List.range 48).foldl (fun w _ => shaExtend w) blk.reverse).reverse
/-- One round on the eight working variables. -/
def shaRound (v : List (BitVec 32)) (kw : BitVec 32) : List (BitVec 32) :=
  match v with
  | [a, b, c, d, e, f, g, h] =>
    let s1 := e.rotateRight 6 ^^^ e.rotateRight 11 ^^^ e.rotateRight 25
    let ch := (e &&& f) ^^^ (~~~ e &&& g)
    let t1 := h + s1 + ch + kw
    let s0 := a.rotateRight 2 ^^^ a.rotateRight 13 ^^^ a.rotateRight 22
    let mj := (a &&& b) ^^^ (a &&& c) ^^^ (b &&& c)
    [t1 + s0 + mj, a, b, c, d + t1, e, f, g]
  | _ => v
/-- One block. -/
def shaBlock (h : List (BitVec 32)) (blk : List (BitVec 32)) : List (BitVec 32) :=
  let v := (List.zipWith (· + ·) shaK (shaSchedule blk)).foldl shaRound h
  List.zipWith (· + ·) h v
/-- The blocks of a padded message, by fuel. -/
def shaBlocks : Nat → List (BitVec 32) → List (BitVec 32) → List (BitVec 32)
  | 0, h, _ => h
  | n + 1, h, ws => if ws.isEmpty then h else shaBlocks n (shaBlock h (ws.take 16)) (ws.drop 16)
/-- SHA-256, as 32 bytes. -/
def sha256 (m : List Byte) : List Byte :=
  let ws := beWords (shaPad m)
  (shaBlocks ws.length shaH0 ws).flatMap fun w => beBytes 4 w.toNat

/-- Multiplication by x in GF(2^8) of AES. -/
def xtime (a : Byte) : Byte := if a.toNat < 128 then a <<< 1 else (a <<< 1) ^^^ 0x1B#8
/-- Multiplication in GF(2^8). -/
def gmul (a b : Byte) : Byte :=
  ((List.range 8).foldl (fun (p : Byte × Byte) i => (if b.getLsbD i then p.1 ^^^ p.2 else p.1, xtime p.2)) (0#8, a)).1
/-- The inverse, a to the 254th. -/
def ginv (a : Byte) : Byte :=
  let a2 := gmul a a
  let a4 := gmul a2 a2
  let a8 := gmul a4 a4
  let a16 := gmul a8 a8
  let a32 := gmul a16 a16
  let a64 := gmul a32 a32
  let a128 := gmul a64 a64
  gmul a128 (gmul a64 (gmul a32 (gmul a16 (gmul a8 (gmul a4 a2)))))
/-- The AES substitution. -/
def aesSub (a : Byte) : Byte :=
  let b := ginv a
  b ^^^ b.rotateLeft 1 ^^^ b.rotateLeft 2 ^^^ b.rotateLeft 3 ^^^ b.rotateLeft 4 ^^^ 0x63#8
/-- Exclusive or of two byte strings. -/
def xorBytes (a b : List Byte) : List Byte := List.zipWith (· ^^^ ·) a b
/-- One column of MixColumns. -/
def mixColumn (c : List Byte) : List Byte :=
  match c with
  | [a, b, d, e] =>
    [xtime a ^^^ xtime b ^^^ b ^^^ d ^^^ e, a ^^^ xtime b ^^^ xtime d ^^^ d ^^^ e,
     a ^^^ b ^^^ xtime d ^^^ xtime e ^^^ e, xtime a ^^^ a ^^^ b ^^^ d ^^^ xtime e]
  | _ => c
/-- ShiftRows on sixteen bytes in column order. -/
def shiftRows (s : List Byte) : List Byte :=
  [0, 5, 10, 15, 4, 9, 14, 3, 8, 13, 2, 7, 12, 1, 6, 11].map fun i => s.getD i 0#8
/-- MixColumns. -/
def mixColumns (s : List Byte) : List Byte :=
  mixColumn (s.take 4) ++ mixColumn ((s.drop 4).take 4) ++ mixColumn ((s.drop 8).take 4) ++ mixColumn (s.drop 12)
/-- The next round key. -/
def nextRoundKey (k : List Byte) (rcon : Byte) : List Byte :=
  let t := ((k.drop 13) ++ [k.getD 12 0#8]).map aesSub
  let t := match t with | a :: r => (a ^^^ rcon) :: r | [] => []
  let w0 := xorBytes (k.take 4) t
  let w1 := xorBytes ((k.drop 4).take 4) w0
  let w2 := xorBytes ((k.drop 8).take 4) w1
  w0 ++ w1 ++ w2 ++ xorBytes (k.drop 12) w2
/-- AES-128 of one block of 16 bytes under a key of 16 bytes. -/
def aes128 (key blk : List Byte) : List Byte :=
  let st := (List.range 9).foldl
    (fun (p : List Byte × List Byte × Byte) _ =>
      let k := nextRoundKey p.2.1 p.2.2
      (xorBytes (mixColumns (shiftRows (p.1.map aesSub))) k, k, xtime p.2.2))
    (xorBytes blk key, key, 0x01#8)
  xorBytes (shiftRows (st.1.map aesSub)) (nextRoundKey st.2.1 st.2.2)

/-- Doubling in GF(2^128) of CMAC. -/
def cmacDouble (b : List Byte) : List Byte :=
  let v := beNat b
  beBytes 16 (if v < 2 ^ 127 then 2 * v else (2 * v % 2 ^ 128) ^^^ 0x87)
/-- The CBC chain over whole blocks before the last, by fuel; answers the chain value and the last block. -/
def cmacChain (key : List Byte) : Nat → List Byte → List Byte → List Byte × List Byte
  | 0, c, m => (c, m)
  | n + 1, c, m => if m.length ≤ 16 then (c, m) else cmacChain key n (aes128 key (xorBytes c (m.take 16))) (m.drop 16)
/-- AES-CMAC of a byte string under a key of 16 bytes. -/
def cmac (key m : List Byte) : List Byte :=
  let k1 := cmacDouble (aes128 key (List.replicate 16 0#8))
  let r := cmacChain key m.length (List.replicate 16 0#8) m
  let last := if r.2.length = 16 then xorBytes r.2 k1
              else xorBytes (r.2 ++ [0x80#8] ++ List.replicate (15 - r.2.length) 0#8) (cmacDouble k1)
  aes128 key (xorBytes r.1 last)
/-- The bytes of an ASCII label. -/
def ascii (t : String) : List Byte := t.toList.map fun c => BitVec.ofNat 8 c.toNat
/-- The counter-mode KDF with AES-CMAC (R510). -/
def kdf (key : List Byte) (label : String) (context : List Byte) : List Byte :=
  cmac key ([0x01#8] ++ ascii label ++ [0x00#8] ++ context ++ [0x00#8, 0x80#8])

/-- The prime of P-256. -/
def p256P : Nat := 2 ^ 256 - 2 ^ 224 + 2 ^ 192 + 2 ^ 96 - 1
/-- The coefficient b of P-256. -/
def p256B : Nat := 0x5AC635D8AA3A93E7B3EBBD55769886BC651D06B0CC53B0F63BCE3C3E27D2604B
/-- The order of P-256. -/
def p256N : Nat := 0xFFFFFFFF00000000FFFFFFFFFFFFFFFFBCE6FAADA7179E84F3B9CAC2FC632551
/-- The base point of P-256. -/
def p256G : Nat × Nat :=
  (0x6B17D1F2E12C4247F8BCE6E563A440F277037D812DEB33A0F4A13945D898C296,
   0x4FE342E2FE1A7F9B8EE7EB4A7C0F9E162BCE33576B315ECECBB6406837BF51F5)
/-- Power modulo `m` over the low `n` bits of the exponent, most significant first. -/
def powMod (m b e : Nat) : Nat → Nat → Nat
  | 0, acc => acc
  | n + 1, acc => powMod m b e n (if e.testBit n then acc * acc % m * b % m else acc * acc % m)
/-- The inverse modulo a prime below 2^256. -/
def invMod (m a : Nat) : Nat := powMod m (a % m) (m - 2) 256 1
/-- The sum of two points; none is the point at infinity. -/
def ecAdd : Option (Nat × Nat) → Option (Nat × Nat) → Option (Nat × Nat)
  | none, q => q
  | p, none => p
  | some (x1, y1), some (x2, y2) =>
    if x1 = x2 ∧ (y1 + y2) % p256P = 0 then none
    else
      let l := if x1 = x2 then (3 * x1 * x1 + (p256P - 3)) % p256P * invMod p256P (2 * y1) % p256P
               else (y2 + p256P - y1) % p256P * invMod p256P ((x2 + p256P - x1) % p256P) % p256P
      let x := (l * l + 2 * p256P - x1 - x2) % p256P
      some (x, (l * ((x1 + p256P - x) % p256P) + p256P - y1) % p256P)
/-- A multiple of a point over the low `n` bits of the factor. -/
def ecMul (p : Nat × Nat) (e : Nat) : Nat → Option (Nat × Nat) → Option (Nat × Nat)
  | 0, acc => acc
  | n + 1, acc => ecMul p e n (if e.testBit n then ecAdd (ecAdd acc acc) (some p) else ecAdd acc acc)
/-- Whether a point lies on P-256. -/
def onCurve (q : Nat × Nat) : Bool :=
  decide (q.1 < p256P) && decide (q.2 < p256P) &&
    decide (q.2 * q.2 % p256P = (q.1 * q.1 % p256P * q.1 + (p256P - 3) * q.1 + p256B) % p256P)
/-- ECDSA P-256 over a SHA-256 digest: public key X ‖ Y and signature r ‖ s, 32 bytes each, big-endian (R95). -/
def ecdsaVerify (key digest sig : List Byte) : Bool :=
  let q := (beNat (key.take 32), beNat (key.drop 32))
  let r := beNat (sig.take 32)
  let t := beNat (sig.drop 32)
  if key.length = 64 ∧ sig.length = 64 ∧ onCurve q ∧ 1 ≤ r ∧ r < p256N ∧ 1 ≤ t ∧ t < p256N then
    let w := invMod p256N t
    let u1 := beNat digest % p256N * w % p256N
    let u2 := r * w % p256N
    match ecAdd (ecMul p256G u1 256 none) (ecMul q u2 256 none) with
    | none => false
    | some (x, _) => decide (x % p256N = r)
  else false

end Sys2Proof
end

