-- ==== Sys2Proof/Machine/Flash.lean ====
section
/-!
DEFINITION. The flash and the OTP array as memories: reading, erasing and programming flash bytes (R87, R89), the
slot table (Table BOT-2), life records (Table BOT-9), and the OTP words in force (R499, R506).
-/
namespace Sys2Proof.Machine

/-- An erased flash byte. -/
def erased (_ : Nat) : Byte := 0xFF#8
/-- A byte of flash. -/
def State.flashByte (s : State) (a : Nat) : Byte := bankRead erased s.flash a
/-- A run of flash bytes. -/
def State.flashRead (s : State) (a n : Nat) : List Byte := bankReadList erased s.flash a n
/-- Program bytes: a program clears bits and sets none. -/
def programBytes : Bank Byte → Nat → List Byte → Bank Byte
  | m, _, [] => m
  | m, a, b :: bs => programBytes (bankWrite erased m a (bankRead erased m a &&& b)) (a + 1) bs
/-- Program a run of flash bytes. -/
def State.flashProgram (s : State) (a : Nat) (bs : List Byte) : State := { s with flash := programBytes s.flash a bs }
/-- Erase a run of flash bytes. -/
def State.flashErase (s : State) (a n : Nat) : State := { s with flash := bankClear s.flash a n }

/-- Offset of a slot-table copy (Table BOT-1). -/
def tableBase (copy : Nat) : Nat := 0x1000 * copy
/-- Offset of the life area. -/
def lifeBase : Nat := 0x2000
/-- Offset of firmware slot 0 (A) or 1 (B). -/
def fwBase (slot : Nat) : Nat := if slot = 0 then 0x010000 else 0x190000
/-- Offset of configuration slot 0 (A) or 1 (B). -/
def cfgBase (slot : Nat) : Nat := if slot = 0 then 0x310000 else 0x330000
/-- Offset of the first-fault log. -/
def fflBase : Nat := 0x350000
/-- Offset of the capture spill. -/
def spillBase : Nat := 0x370000
/-- Offset of the history archive. -/
def archiveBase : Nat := 0x400000

/-- The number held little-endian in `n` bytes at byte `i` of a structure. -/
def leAt (bs : List Byte) (i n : Nat) : Nat := leNat ((bs.drop i).take n)

/-- The bytes 0x00–0x3B of a slot table. -/
def SlotTab.body (t : SlotTab) : List Byte :=
  leBytes 4 0x5453514B ++ leBytes 2 1 ++ leBytes 2 0x40 ++ leBytes 4 t.gen ++ leBytes 1 t.fwActive ++ leBytes 1 t.fwA ++
  leBytes 1 t.fwB ++ leBytes 1 t.fwTrial ++ leBytes 1 t.cfgActive ++ leBytes 1 t.cfgA ++ leBytes 1 t.cfgB ++
  leBytes 1 t.cfgTrial ++ leBytes 1 t.recovery ++ leBytes 3 0 ++ leBytes 4 t.fwLenA ++ leBytes 4 t.fwLenB ++
  leBytes 4 t.cfgLenA ++ leBytes 4 t.cfgLenB ++ leBytes 20 0
/-- The 64 bytes of a slot table with its CRC (Table BOT-2). -/
def SlotTab.bytes (t : SlotTab) : List Byte := t.body ++ leBytes 4 (crc32 t.body)
/-- The slot table that 64 bytes hold, where MAGIC, VERSION, LENGTH and CRC are right (R91). -/
def SlotTab.ofBytes (b : List Byte) : Option SlotTab :=
  if leAt b 0 4 = 0x5453514B ∧ leAt b 4 2 = 1 ∧ leAt b 6 2 = 0x40 ∧ leAt b 0x3C 4 = crc32 (b.take 0x3C) then
    some { gen := leAt b 8 4, fwActive := leAt b 0x0C 1, fwA := leAt b 0x0D 1, fwB := leAt b 0x0E 1,
           fwTrial := leAt b 0x0F 1, cfgActive := leAt b 0x10 1, cfgA := leAt b 0x11 1, cfgB := leAt b 0x12 1,
           cfgTrial := leAt b 0x13 1, recovery := leAt b 0x14 1, fwLenA := leAt b 0x18 4, fwLenB := leAt b 0x1C 4,
           cfgLenA := leAt b 0x20 4, cfgLenB := leAt b 0x24 4 }
  else none

/-- State of firmware slot 0 or 1. -/
def SlotTab.fwState (t : SlotTab) (slot : Nat) : Nat := if slot = 0 then t.fwA else t.fwB
/-- State of configuration slot 0 or 1. -/
def SlotTab.cfgState (t : SlotTab) (slot : Nat) : Nat := if slot = 0 then t.cfgA else t.cfgB
/-- The table with the state of a firmware slot changed. -/
def SlotTab.setFw (t : SlotTab) (slot st : Nat) : SlotTab := if slot = 0 then { t with fwA := st } else { t with fwB := st }
/-- The table with the state of a configuration slot changed. -/
def SlotTab.setCfg (t : SlotTab) (slot st : Nat) : SlotTab :=
  if slot = 0 then { t with cfgA := st } else { t with cfgB := st }
/-- Image length of a firmware slot. -/
def SlotTab.fwLen (t : SlotTab) (slot : Nat) : Nat := if slot = 0 then t.fwLenA else t.fwLenB
/-- Image length of a configuration slot. -/
def SlotTab.cfgLen (t : SlotTab) (slot : Nat) : Nat := if slot = 0 then t.cfgLenA else t.cfgLenB
/-- The active firmware slot; values other than 1 act as 0. -/
def SlotTab.fwFirst (t : SlotTab) : Nat := if t.fwActive = 1 then 1 else 0
/-- The active configuration slot. -/
def SlotTab.cfgFirst (t : SlotTab) : Nat := if t.cfgActive = 1 then 1 else 0

/-- Slot state EMPTY (Table BOT-3). -/
def slotEmpty : Nat := 0xFF
/-- Slot state PENDING. -/
def slotPending : Nat := 0x5A
/-- Slot state TRIAL. -/
def slotTrial : Nat := 0x3C
/-- Slot state GOOD. -/
def slotGood : Nat := 0xA5
/-- Slot state BAD. -/
def slotBad : Nat := 0x00

/-- An OTP word in force (R506). -/
def State.otpWord (s : State) (w : Nat) : Word := bankRead (fun _ => 0#32) s.sec.force w
/-- An OTP word as the cells hold it. -/
def State.otpCell (s : State) (w : Nat) : Word := bankRead (fun _ => 0#32) s.otp w
/-- Whether OTP region n is usable in this run: neither absent nor unusable (R507). -/
def State.regionOk (s : State) (n : Nat) : Bool := !(s.bit F.OTP_STATUS_ABSENT n) && !(s.bit F.OTP_STATUS_UNUSABLE n)
/-- The part's UID as 16 bytes, word 0x20 first; an absent or unusable IDENT reads 0 (Table SEC-3). -/
def State.uid (s : State) : List Byte :=
  if s.regionOk 1 then (List.range 4).flatMap fun i => leBytes 4 (s.otpWord (0x20 + i)).toNat else List.replicate 16 0#8
/-- The 32 bytes of a digest that begins at an OTP word (R499). -/
def State.otpDigest (s : State) (w : Nat) : List Byte :=
  (List.range 8).flatMap fun i => leBytes 4 (s.otpWord (w + i)).toNat
/-- Programmed steps of a rollback thermometer of four words: the index of its highest bit plus 1 (R522). -/
def State.thermometer (s : State) (w : Nat) : Nat :=
  (List.range 128).foldl (fun n i => if (s.otpWord (w + i / 32)).getLsbD (i % 32) then i + 1 else n) 0
/-- Steps of the firmware thermometer. -/
def State.fwSteps (s : State) : Nat := s.thermometer 0x7D
/-- Steps of the configuration thermometer. -/
def State.cfgSteps (s : State) : Nat := s.thermometer 0x81
/-- A POLICY bit in force: 0 FACTORY_LOCK, 1 DEBUG_DIS, 2 CFG_SIGN, 3 MOD_AUTH (R501). -/
def State.policy (s : State) (b : Nat) : Bool := (s.otpWord 0x85).getLsbD b
/-- The keystream of a scrambled OTP word (R501). -/
def State.otpStream (s : State) (w : Nat) : Word :=
  let uid := (List.range 4).flatMap fun i => leBytes 4 (s.otpWord (0x20 + i)).toNat
  let k := (List.range 16).map Config.otpKey
  let blk := aes128 k (xorBytes uid (leBytes 16 w))
  BitVec.ofNat 32 (leNat ((blk.drop (4 * (w % 4))).take 4))
/-- The plain value of a scrambled OTP word, as the security engine's key port receives it. -/
def State.otpPlain (s : State) (w : Nat) : Word := s.otpWord w ^^^ s.otpStream w
/-- Root key r as 16 bytes (R510). -/
def State.rootKey (s : State) (r : Nat) : List Byte :=
  (List.range 4).flatMap fun i => leBytes 4 (s.otpPlain (0x55 + 4 * r + i)).toNat
/-- Whether root r is programmed: its stored words are not all 0 (R511). -/
def State.rootProgrammed (s : State) (r : Nat) : Bool := (List.range 4).any fun i => decide (s.otpWord (0x55 + 4 * r + i) ≠ 0#32)

/-- Bytes that a failed program or erase leaves: the manual does not say which. -/
def State.spoil (s : State) (a n : Nat) : State :=
  { s with free := s.free + 1, flash := bankWriteList erased s.flash a ((List.range n).map fun i => Config.freeByte s.free i) }

/-- A slot-table write (R93): the copy not in use is erased, programmed with GENERATION one greater and read back; `ok`
is the outcome of the read-back. Where it passes, that copy is the copy in use. -/
def State.writeTable (s : State) (ok : Bool) : State :=
  let copy := 1 - s.boot.copy
  let t := { s.boot.tab with gen := (s.boot.tabOld.gen + 1) % 2 ^ 32 }
  let s := s.flashErase (tableBase copy) 4096
  if ok then
    { s.flashProgram (tableBase copy) t.bytes with boot := { s.boot with copy := copy, tabOld := t, tab := t } }
  else (s.spoil (tableBase copy) 64).raise 0xAA09
/-- Change the slot table that the next write stores. -/
def State.modTab (s : State) (f : SlotTab → SlotTab) : State := { s with boot := { s.boot with tab := f s.boot.tab } }

/-- UPDATE_REJECTED is posted (R94, R602). -/
def State.postRejected (s : State) : State := (s.post 0x00 0x0301).flag G.UPD_REJECTED

/-- Seconds of run time so far (Table BOT-9). -/
def State.lifeNow (s : State) : Nat := s.boot.lifeS + (s.now - s.boot.lifeAt) / secs 1
/-- A life record falls due (R113). -/
def State.dueLife (s : State) : State :=
  if s.boot.lifeDue.isSome then s else { s with boot := { s.boot with lifeDue := some s.lifeNow } }
/-- A mark or counter of a session, 0 where none is stored. -/
def sessionVal (b : Bank Nat) (n : Nat) : Nat := bankRead (fun _ => 0) b n
/-- Store a mark or counter of a session. -/
def setSession (b : Bank Nat) (n v : Nat) : Bank Nat := bankWrite (fun _ => 0) b n v
/-- A session is found exhausted: 0xA608 once per boot (R514). -/
def State.exhaust (s : State) (n : Nat) : State :=
  if s.sec.exhausted.contains n then s
  else { s with sec := { s.sec with exhausted := n :: s.sec.exhausted } }
/-- A raise of a session's ceiling falls due: the next life record carries the MARK (R514). -/
def State.dueMark (s : State) (n mark : Nat) : State :=
  if 0xFFFFF000 < mark then (s.exhaust n).when (!s.sec.exhausted.contains n) fun t => t.raise 0xA608
  else { s with boot := { s.boot with marksDue := setSession s.boot.marksDue n mark } }.dueLife
/-- CEIL of a session becomes the MARK of the newest record that counts as written (R513, R514), which ends its raise. -/
def State.raiseCeil (s : State) (n : Nat) : State :=
  { s with sec := { s.sec with
      ceil := setSession s.sec.ceil n (max (sessionVal s.sec.ceil n) (sessionVal s.boot.marks n)),
      held := if sessionVal s.sec.ceil n < sessionVal s.boot.marks n then s.sec.held.filter (· != n) else s.sec.held } }

/-- Offset of life slot n. -/
def lifeSlotBase (n : Nat) : Nat := lifeBase + 1024 * n
/-- Bytes of a life record (Table BOT-9). -/
def State.lifeBytes (s : State) (seq lifeS : Nat) : List Byte :=
  let head := leBytes 4 0x464C514B ++ leBytes 4 seq ++ leBytes 4 s.boot.boots ++ leBytes 4 s.boot.pwrCycles ++ leBytes 8 lifeS
  let tail := leBytes 228 0 ++ ((List.range 128).flatMap fun n => leBytes 4 (sessionVal s.boot.marksDue n)) ++ leBytes 256 0
  head ++ leBytes 4 (crc32 (head ++ leBytes 4 0 ++ tail)) ++ tail
/-- Whether 1,024 bytes are a valid life record (R114). -/
def lifeValid (b : List Byte) : Bool :=
  decide (leAt b 0 4 = 0x464C514B) && decide (leAt b 0x18 4 = crc32 (b.take 0x18 ++ leBytes 4 0 ++ b.drop 0x1C))
/-- The life slot of the valid record with the greatest SEQ. -/
def State.newestLife (s : State) : Option Nat :=
  (List.range 56).foldl (fun best n =>
    let b := s.flashRead (lifeSlotBase n) 1024
    if lifeValid b then
      match best with
      | none => some n
      | some m => if leAt (s.flashRead (lifeSlotBase m) 8) 4 4 < leAt b 4 4 then some n else some m
    else best) none
/-- Sector of the life area to be erased once slot n has been tried. -/
def State.lifeEraseAfter (s : State) (n : Nat) : Option Nat := if n % 4 = 3 then some ((n / 4 + 1) % 14) else s.boot.lifeErase
/-- The record due is in slot n: it is the newest, and the run time counts on from it (R114). -/
def State.lifeWritten (s : State) (n secs' : Nat) : State :=
  let b := s.boot
  let seq := (b.lifeSeq + 1) % 2 ^ 32
  let erase := s.lifeEraseAfter n
  let s := s.flashProgram (lifeSlotBase n) (s.lifeBytes seq secs')
  { s with boot := { b with lifeDue := none, lifeSeq := seq, lifeSlot := some n, lifeNext := (n + 1) % 56, lifeTries := 0,
                            lifeErase := erase, lifeErased := Nat.blt (n % 4) 3, marks := b.marksDue, lifeS := secs', firstLife := false,
                            lifeAt := b.lifeAt + secs 1 * (secs' - b.lifeS) } }.disarm .lifeRetry
/-- After the third failed slot: 0xAA0B and a retry after 10 s (R114). -/
def State.lifeGiveUp (s : State) : State := if s.boot.lifeTries = 3 then (s.arm .lifeRetry (secs 10)).raise 0xAA0B else s
/-- Slot n failed: 0xAA0A (R114). -/
def State.lifeFailed (s : State) (n : Nat) : State :=
  let s := s.spoil (lifeSlotBase n) 1024
  let b := s.boot
  let s := { s with boot := { b with lifeNext := (n + 1) % 56, lifeTries := b.lifeTries + 1, lifeErased := Nat.blt (n % 4) 3 } }
  (s.raise 0xAA0A).lifeGiveUp
/-- The sector of slot n is erased where it is not yet; its erase is then due no more. -/
def State.lifeErase (s : State) (n : Nat) : State :=
  if s.boot.lifeErased then s
  else
    { s.flashErase (lifeBase + 4096 * (n / 4)) 4096 with
      boot := { s.boot with lifeErased := true, lifeErase := if s.boot.lifeErase = some (n / 4) then none else s.boot.lifeErase } }
/-- One attempt at the life record due (R114): programmed and read back; `ok` is the outcome. -/
def State.appendLife (s : State) (ok : Bool) : State :=
  match s.boot.lifeDue with
  | none => s
  | some secs' =>
    let s := s.lifeErase s.boot.lifeNext
    if ok then s.lifeWritten s.boot.lifeNext secs' else s.lifeFailed s.boot.lifeNext

end Sys2Proof.Machine
end

