-- ==== Sys2Proof/Machine/Image.lean ====
section
/-!
DEFINITION. Validation of firmware and configuration images (R95, R96, R101–R105, Table BOT-6): each check in its
order, giving the result code of the first that fails; and the records of the Immond image.
-/
namespace Sys2Proof.Machine

/-- Local memories of the engines in bytes (Table ARC-2). -/
def codeMem (e : Nat) : Nat :=
  if e = 0 then 0x80000 else if e ≤ 9 then 0xC000 else if e = 10 then 0x8000 else if e = 12 then 0x20000 else 0x10000
/-- Data memories of the engines in bytes (Table ARC-2). -/
def dataMem (e : Nat) : Nat :=
  if e = 0 then 0x40000 else if e ≤ 10 then 0x4000 else if e = 13 ∨ e = 15 then 0x8000 else if e = 14 then 0x20000
  else 0x10000

/-- Where the code memory of engine e begins in the bank of the local memories, in words. -/
def codeBase (e : Nat) : Nat := 2 ^ 20 + e * 2 ^ 17
/-- Bytes are written into local memory from a word on; only the supervisor and the ROM do so (R12). -/
def State.storeCode (s : State) (at' : Nat) (bs : List Byte) : State :=
  { s with engMem := bankWriteList (fun _ => 0#32) s.engMem at' (bytesToWords bs) }
/-- Offset, code length and data length of a section in a firmware header (Table BOT-4). -/
def sectionAt (hdr : List Byte) (e : Nat) : Nat × Nat × Nat :=
  (leAt hdr (0x48 + 48 * e) 4, leAt hdr (0x48 + 48 * e + 4) 4, leAt hdr (0x48 + 48 * e + 8) 4)
/-- The boot section is put at the start of supervisor code memory (Table BOT-5 step 5). -/
def State.loadBoot (s : State) (base : Nat) : State :=
  s.storeCode (codeBase 0) (s.flashRead (base + leAt s.boot.fwHdr 0x20 4) (leAt s.boot.fwHdr 0x24 4))
/-- The code of SECTION[0] is put behind the boot section (R108). DEDUCED (entry 104): at the first word after it. -/
def State.loadSection0 (s : State) (base : Nat) : State :=
  let x := sectionAt s.boot.fwHdr 0
  s.storeCode (codeBase 0 + (leAt s.boot.fwHdr 0x24 4 + 3) / 4) (s.flashRead (base + x.1) x.2.1)
/-- Digest of a section in a firmware header. -/
def sectionDigest (hdr : List Byte) (e : Nat) : List Byte := (hdr.drop (0x48 + 48 * e + 16)).take 32
/-- Whether a run of bytes of an image is aligned, behind the header and before the public key (R96). -/
def placed (imageLen off len : Nat) : Bool :=
  decide (len = 0) || (decide (off % 4 = 0) && decide (0x400 ≤ off) && decide (off + len + 128 ≤ imageLen))
/-- Whether two runs of bytes keep clear of each other. -/
def apart (a b : Nat × Nat) : Bool :=
  decide (a.2 = 0) || decide (b.2 = 0) || decide (a.1 + a.2 ≤ b.1) || decide (b.1 + b.2 ≤ a.1)
/-- Whether every two runs of a list keep clear of each other. -/
def allApart : List (Nat × Nat) → Bool
  | [] => true
  | r :: rs => rs.all (apart r) && allApart rs

/-- Section layout and section lengths (R96). -/
def layoutOk (hdr : List Byte) (imageLen : Nat) : Bool :=
  let boot := (leAt hdr 0x20 4, leAt hdr 0x24 4)
  let es := List.range 16
  let runs := boot :: es.map fun e => ((sectionAt hdr e).1, (sectionAt hdr e).2.1 + (sectionAt hdr e).2.2)
  runs.all (fun r => placed imageLen r.1 r.2) && allApart runs &&
  decide (boot.2 ≤ 192 * 1024) && decide (boot.2 + (sectionAt hdr 0).2.1 ≤ codeMem 0) &&
  decide ((sectionAt hdr 0).2.2 = 0) &&
  (es.drop 1).all (fun e => decide ((sectionAt hdr e).2.1 ≤ codeMem e) && decide ((sectionAt hdr e).2.2 ≤ dataMem e)) &&
  [0, 9, 11, 12, 13, 15].all fun e => decide ((sectionAt hdr e).2.1 ≠ 0)

/-- Check 0x3 of a firmware header against an expected image length. -/
def fwForm (hdr : List Byte) (len : Nat) : Bool :=
  decide (leAt hdr 0 4 = 0x5746514B) && decide (leAt hdr 4 2 = 1) && decide (leAt hdr 6 2 = 0x400) &&
  decide (leAt hdr 8 4 = len) && decide (len % 4 = 0) && decide (0x500 ≤ len) && decide (len ≤ 0x180000) &&
  layoutOk hdr len
/-- Check 0x4 of a header: CRC-32 over all but its last four bytes. -/
def hdrCrcOk (hdr : List Byte) (n : Nat) : Bool := decide (leAt hdr (n - 4) 4 = crc32 (hdr.take (n - 4)))
/-- Check 0x5 of a firmware header: the key index, its region and its revocation. -/
def State.fwKeyOk (s : State) (hdr : List Byte) : Bool :=
  let i := leAt hdr 0x0D 1
  decide (i < 4) && s.regionOk 2 && !(s.otpWord 0x44).getLsbD i
/-- Check 0x8 of a firmware header. -/
def State.fwSvnOk (s : State) (hdr : List Byte) : Bool :=
  decide (leAt hdr 0x0C 1 ≤ 128) && decide (s.fwSteps ≤ leAt hdr 0x0C 1)

/-- The checks of a firmware image from its header to its boot section (Table BOT-6, F). `readErr` is 0 without a flash
read error, 1 with one in the header, key or signature, 2 with one in the boot section (R101). -/
def State.fwChecks (s : State) (base len readErr : Nat) : Nat :=
  let hdr := s.flashRead base 0x400
  let key := s.flashRead (base + len - 128) 64
  let sig := s.flashRead (base + len - 64) 64
  if readErr = 1 then 0xE
  else if ! fwForm hdr len then 0x3
  else if ! hdrCrcOk hdr 0x400 then 0x4
  else if ! s.fwKeyOk hdr then 0x5
  else if sha256 key ≠ s.otpDigest (0x24 + 8 * leAt hdr 0x0D 1) then 0x6
  else if ! ecdsaVerify key (sha256 (hdr ++ key)) sig then 0x7
  else if ! s.fwSvnOk hdr then 0x8
  else if readErr = 2 then 0xE
  else if sha256 (s.flashRead (base + leAt hdr 0x20 4) (leAt hdr 0x24 4)) ≠ (hdr.drop 0x28).take 32 then 0x9
  else 0x1

/-- Whether an engine section in flash has the digest of an authenticated header (R108). -/
def State.sectionOk (s : State) (base : Nat) (hdr : List Byte) (e : Nat) : Bool :=
  let x := sectionAt hdr e
  decide (sha256 (s.flashRead (base + x.1) (x.2.1 + x.2.2)) = sectionDigest hdr e)

/-- One record of an Immond image: TYPE and its payload words. -/
structure Rec where
  type    : Nat
  payload : List Nat
  deriving DecidableEq, Repr

/-- The records that words hold, by fuel; none where a record runs past the end (R103). -/
def parseRecs : Nat → List Nat → Option (List Rec)
  | _, [] => some []
  | 0, _ :: _ => none
  | n + 1, w :: ws =>
    let len := w % 2 ^ 24
    if ws.length < len then none
    else (parseRecs n (ws.drop len)).map fun rs => { type := w / 2 ^ 24, payload := ws.take len } :: rs

/-- The units an image marks absent or disabled (Table BOT-8, UNITS). -/
structure Units where
  ports    : Nat := 0
  rails    : Nat := 0
  isense   : Nat := 0
  resets   : Nat := 0
  disabled : Nat := 0
  deriving DecidableEq, Repr

/-- The UNITS record's contents. -/
def unitsOf (rs : List Rec) : Units :=
  match rs.find? fun r => decide (r.type = 2) with
  | none => {}
  | some r =>
    let w0 := r.payload.getD 0 0
    let w1 := r.payload.getD 1 0
    { ports := w0 % 256, rails := w0 / 2 ^ 16 % 2 ^ 16, isense := w1 % 16, resets := w1 / 16 % 16,
      disabled := w1 / 256 % 64 }
/-- The UNITS record of the built-in safe configuration (R107): everything absent or disabled. -/
def unitsNone : Units := { ports := 0xFF, rails := 0xFFFF, isense := 0xF, resets := 0xF, disabled := 0x3F }

/-- Register address of word i of a REG record. -/
def regAddr (w0 i : Nat) : Nat := w0 / 256 % 256 * 256 + w0 % 256 + 4 * i

/-- One field's rule in its field map: values outside `ok` are invalid for validation. -/
structure FieldRule where
  fld : Fld
  ok  : Nat → Bool

/-- A value within a range, or 0 for the default. -/
def zeroOr (lo hi v : Nat) : Bool := decide (v = 0) || (decide (lo ≤ v) && decide (v ≤ hi))
/-- A value within a range. -/
def within (lo hi v : Nat) : Bool := decide (lo ≤ v) && decide (v ≤ hi)

/-- The field rules that hold of a port's words (R181, R219, R255–R262, R288–R290). -/
def portRules (k : PortId) : List FieldRule :=
  [⟨F.ATT_CFG_WET_THR k, zeroOr 2 200⟩, ⟨F.PD_CFG_AUTH_W k, within 0 240⟩] ++
  (if k.isModule then
    [⟨F.CNV_CFG_VPK k, zeroOr 80 150⟩, ⟨F.CNV_CFG_SLEW k, zeroOr 20 255⟩, ⟨F.CNV_LOOP_KSH k, within 0 12⟩,
     ⟨F.CNV_MAX_VMAX k, zeroOr 3300 48000⟩, ⟨F.CNV_MAX_IMAX k, within 0 5000⟩, ⟨F.CHK_CFG_DI k, zeroOr 5 40⟩,
     ⟨F.CHK_CFG_IMIN k, within 0 50⟩, ⟨F.BRK_SW_RSNS9 k, within 0 0⟩, ⟨F.BUD_PORT_PMAX k, within 0 240⟩,
     ⟨F.BUD_PORT_PMIN k, within 0 240⟩]
   else [⟨F.ATT_CFG_DCP_EN k, within 0 0⟩, ⟨F.BRK_SW_RSNS9 k, within 50 250⟩]) ++
  [⟨F.BRK_CFG_OV_PCT k, zeroOr 5 20⟩, ⟨F.BRK_CFG_ISC k, zeroOr 80 150⟩, ⟨F.BRK_SW_PFB k, zeroOr 2 40⟩,
   ⟨F.BRK_SW_TSOA k, within 0 50⟩] ++
  (List.range 8).map fun n => ⟨F.BRK_PT_E k n, within 0 14⟩
/-- The field rules of a rail's words (R343–R345, R378–R381). -/
def railRules (j : RailId) : List FieldRule :=
  [⟨F.SQ_UP_UP j, within 0 16⟩, ⟨F.SQ_DN_DN j, within 0 16⟩, ⟨F.SQ_DN_T_FALL j, within 0 500⟩,
   ⟨F.SQ_SUP_WFILT j, within 0 8⟩, ⟨F.SQ_MGCAL_LIMIT j, within 0 100⟩]
/-- Every field rule of the field maps that holds of a word wherever an image carries it. -/
def fieldRules : List FieldRule :=
  [⟨F.BUS_BAND_T_PD, within 1 20000⟩, ⟨F.CNV_CLK_N, zeroOr 160 500⟩, ⟨F.BUD_CFG_EFF, zeroOr 50 100⟩,
   ⟨F.SQC_CFG_NDN, within 0 16⟩, ⟨F.SQC_CFG_NUP, within 0 16⟩, ⟨F.SAF_TEMP_WARN, zeroOr 90 150⟩,
   ⟨F.SAF_TEMP_TRIP, zeroOr 125 155⟩, ⟨F.HIF_TIMEOUT_SCL_MS, zeroOr 10 100⟩, ⟨F.HIF_TIMEOUT_SDA_MS, zeroOr 5 50⟩] ++
  (List.range 9).map (fun n => ⟨F.MSR_GPW_CHAN n, fun v => decide (v ≤ 0x7F) || decide (v = 0xFF)⟩) ++
  (List.range 4).map (fun n => ⟨F.SQC_RST_STRETCH n, within 0 1000⟩) ++
  (List.range 4).map (fun m => ⟨F.SQI_CFG_FILT m, within 0 200⟩) ++
  (List.range 4).map (fun m => ⟨F.SQI_THR_OCW m, zeroOr 50 99⟩) ++
  [⟨F.MSR_SAFE_CH 4, within 0 0⟩, ⟨F.MSR_DUAL_CH 4, within 0 0⟩] ++
  (List.range 8).map (fun r => ⟨F.SEC_RIGHTS_RIGHTS r, within 0 63⟩) ++
  (List.range 8).flatMap (fun n =>
    [⟨F.TLM_STR_D n, within 0 6⟩, ⟨F.TLM_STR_K n, within 0 4⟩, ⟨F.TLM_STR_CHAN n, within 0 0x7F⟩]) ++
  (List.range 44).flatMap (fun n => [⟨F.FLT_ESC_CEIL n, fun v => decide (v ≠ 1)⟩, ⟨F.FLT_ESC_N n, fun v => decide (v ≠ 1)⟩]) ++
  allPorts.flatMap portRules ++ allRails.flatMap railRules

/-- Rules over two fields of one word: the temperature warning below the trip (R473), PMIN within the effective PMAX (R308),
and the sense resistor of an enabled current-sense channel (R386). -/
def pairRule (a : Nat) (w : Word) : Bool :=
  if a = R.SAF_TEMP then
    decide (orDefault 140 (F.SAF_TEMP_WARN.extract w) < orDefault 155 (F.SAF_TEMP_TRIP.extract w))
  else
    (modulePorts.all fun k => decide (a ≠ R.BUD_PORT k) ||
      decide ((F.BUD_PORT_PMIN k).extract w ≤ orDefault 240 ((F.BUD_PORT_PMAX k).extract w))) &&
    (List.range 4).all fun m => decide (a ≠ R.SQI_CFG m) || decide ((F.SQI_CFG_EN m).extract w = 0) ||
      within 50 10000 ((F.SQI_CFG_RSNS m).extract w)

/-- Whether one REG word is well formed: a register written by REG records, no reserved bit, no invalid value (R104,
R614, R615). -/
def regWordOk (a : Nat) (w : Word) : Bool :=
  match regFam? a with
  | none => false
  | some f => f.recordable && decide (w &&& ~~~ f.img = 0#32) &&
      fieldRules.all (fun r => decide (r.fld.reg ≠ a) || r.ok (r.fld.extract w)) && pairRule a w

/-- Whether a schedule entry is one the entries test of R130 accepts, for the ADC its index selects. -/
def entryOk (u : Units) (idx : Nat) (e : Nat) : Bool :=
  let ch := e % 256
  decide (e < 2 ^ 10) &&
  (decide (ch = 0xFF) ||
   (decide (ch ≤ 0x7F) &&
    !(allPorts.any fun k => k.isModule && u.ports.testBit k.val &&
        ((decide (9 * k.val ≤ ch) && decide (ch < 9 * k.val + 9)) || decide (ch = 0x77 + k.val))) &&
    !(allRails.any fun j => u.rails.testBit j.val && decide (ch = 0x51 + j.val))) ||
   (decide (0x80 ≤ ch) && decide (ch < 0x90) && decide ((ch - 0x80) / 4 = idx / 4096)))

/-- Whether one record is well formed (Table BOT-8, R104). -/
def recOk (u : Units) (r : Rec) : Bool :=
  let w0 := r.payload.getD 0 0
  let n := r.payload.length
  if r.type = 0x01 then
    decide (2 ≤ n) && decide (w0 < 2 ^ 16) && decide (w0 % 4 = 0) && decide (w0 % 256 ≤ 0xF8) &&
    decide (w0 % 256 + 4 * (n - 2) ≤ 0xF8) &&
    (List.range (n - 1)).all fun i => regWordOk (regAddr w0 i) (BitVec.ofNat 32 (r.payload.getD (i + 1) 0))
  else if r.type = 0x02 then
    decide (n = 2) && decide (w0 / 256 % 256 = 0) && decide (r.payload.getD 1 0 < 2 ^ 14)
  else if r.type = 0x03 then
    decide (1 ≤ n) && decide (w0 < 2 ^ 14) && decide (w0 + n - 1 ≤ 16384) &&
    (List.range (n - 1)).all fun i => entryOk u (w0 + i) (r.payload.getD (i + 1) 0)
  else if r.type = 0x04 then
    let e := w0 / 2 ^ 24
    let off := w0 % 2 ^ 24
    decide (1 ≤ n) && decide (1 ≤ e) && decide (e ≤ 15) && decide (off % 4 = 0) && decide (off + 4 * (n - 1) ≤ dataMem e)
  else if r.type = 0x7F then decide (n = 0)
  else decide (0x80 ≤ r.type) && decide (r.type ≤ 0xFE)

/-- Whether a register belongs to an absent unit, so that its REG word is discarded (R105). -/
def absentReg (u : Units) (a : Nat) : Bool :=
  modulePorts.any (fun k => u.ports.testBit k.val &&
    ((decide (R.ATT_CFG k ≤ a) && decide (a < R.ATT_CFG k + 0x200)) || decide (a = R.BUD_PORT k))) ||
  allRails.any (fun j => u.rails.testBit j.val && decide (R.SQ_UP j ≤ a) && decide (a < R.SQ_UP j + 0x3C)) ||
  (List.range 4).any (fun m => u.isense.testBit m && (decide (a = R.SQI_CFG m) || decide (a = R.SQI_THR m))) ||
  (List.range 4).any (fun n => u.resets.testBit n && decide (a = R.SQC_RST n))
/-- Bits of a word of several units that belong to absent ones (R105). -/
def absentBits (u : Units) (a : Nat) : Word :=
  if a = R.HUB_PORTS then BitVec.ofNat 32 (u.ports * 256 + u.ports)
  else if a = R.HUB_CFG then BitVec.ofNat 32 (u.rails * 2 ^ 16 + u.ports * 256)
  else if (List.range 4).any (fun n => decide (a = R.SQC_RST n)) then BitVec.ofNat 32 (u.rails * 2 ^ 16)
  else 0#32

/-- Apply one REG word: the words of absent units are discarded, and only IMG fields change (R105, R615). -/
def applyWord (u : Units) (m : Bank Word) (a : Nat) (w : Word) : Bank Word :=
  match regFam? a with
  | none => m
  | some f =>
    if absentReg u a then m
    else bankWrite regReset m a ((bankRead regReset m a &&& ~~~ f.img) ||| (w &&& ~~~ absentBits u a &&& f.img))
/-- Apply the REG records in order (R106). -/
def applyRegs (u : Units) (rs : List Rec) (m : Bank Word) : Bank Word :=
  (rs.filter fun r => decide (r.type = 1)).foldl (fun m r =>
    (List.range (r.payload.length - 1)).foldl (fun m i =>
      applyWord u m (regAddr (r.payload.getD 0 0) i) (BitVec.ofNat 32 (r.payload.getD (i + 1) 0))) m) m

/-- A field of a register bank. -/
def fieldIn (m : Bank Word) (f : Fld) : Nat := f.extract (bankRead regReset m f.reg)

/-- Threshold in mV of a nominal voltage at margin M with a factor out of 400, rounded down (R357). -/
def thrDown (vnom : Nat) (m : Int) (q : Nat) : Nat := vnom * (1000 + m).toNat * q / 400000
/-- The same, rounded up. -/
def thrUp (vnom : Nat) (m : Int) (q : Nat) : Nat := ceilDiv (vnom * (1000 + m).toNat * q) 400000

/-- The breaker curve of port k keeps the rules of R277. -/
def curveOk (m : Bank Word) (k : PortId) : Bool :=
  let n := fieldIn m (F.BRK_CFG_NPTS k)
  let r (i : Nat) := fieldIn m (F.BRK_PT_R k i)
  let t (i : Nat) := fieldIn m (F.BRK_PT_M k i) * 2 ^ fieldIn m (F.BRK_PT_E k i)
  within 1 8 n &&
  (List.range n).all (fun i => decide (65 ≤ r i) && decide (10 ≤ t i) && decide (t i ≤ 60000000)) &&
  (List.range (n - 1)).all (fun i => decide (r i < r (i + 1)) && decide (t (i + 1) < t i)) &&
  (List.range 8).all fun i => decide (i < n) || decide (bankRead regReset m (R.BRK_PT k i) = 0#32)
/-- The words of a present port (R255, R277, R288, R290, R291). -/
def portImageOk (m : Bank Word) (k : PortId) : Bool :=
  (!k.isModule || within 100 250 (fieldIn m (F.CNV_CFG_RSNS k))) &&
  curveOk m k && decide (10 ≤ fieldIn m (F.BRK_SW_RON k)) &&
  (k.isModule || within 50 250 (fieldIn m (F.BRK_SW_RSNS9 k))) &&
  (decide (fieldIn m (F.BRK_CFG_NTC_EN k) = 0) || decide (fieldIn m (F.BRK_NTC_HOT k) < fieldIn m (F.BRK_NTC_OPEN k)))
/-- The words of a present rail (R318, R359, R378). -/
def railImageOk (m : Bank Word) (j : RailId) : Bool :=
  let g := fieldIn m
  let vnom := g (F.SQ_NOM_VNOM j)
  let lim := g (F.SQ_MGCAL_LIMIT j)
  let nup := orDefault 1 (g F.SQC_CFG_NUP)
  let ndn := orDefault 1 (g F.SQC_CFG_NDN)
  within 300 5500 vnom && decide (g (F.SQ_UP_UP j) ≤ nup) && decide (g (F.SQ_DN_DN j) ≤ ndn) &&
  (decide (g (F.SQ_UP_UP j) = 0) || decide (g (F.SQ_DN_DN j) ≠ 0)) &&
  !(decide (g (F.SQ_WIN_KEEP j) = 1) && decide (g (F.SQ_WIN_DIS j) = 1)) &&
  decide (g (F.SQ_THR_UVF j) ≤ 100) && decide (g (F.SQ_THR_UVW j) < g (F.SQ_THR_UVF j)) &&
  decide (g (F.SQ_SUP_REG j) ≤ g (F.SQ_THR_UVW j)) && decide (g (F.SQ_THR_OVF j) ≤ 100) &&
  decide (g (F.SQ_THR_OVW j) < g (F.SQ_THR_OVF j)) && decide (1 ≤ g (F.SQ_THR_OVW j)) &&
  decide (thrUp vnom lim (400 + g (F.SQ_THR_OVF j)) ≤ 5500) &&
  decide (g (F.SQ_NOM_OFF_MV j) < thrDown vnom (-(lim : Int)) (400 - g (F.SQ_THR_UVF j)))
/-- The words of a present current-sense channel (R364, R386); RSNS in 0.01 mΩ and IOC in 10 mA give 0.1 µV. -/
def senseImageOk (m : Bank Word) (c : Nat) : Bool :=
  let g := fieldIn m
  decide (g (F.SQI_CFG_EN c) = 0) ||
  (within 50 10000 (g (F.SQI_CFG_RSNS c)) && decide (g (F.SQI_THR_IOC c) * g (F.SQI_CFG_RSNS c) ≤ 800000))
/-- The sum of 2^(−D) over the enabled streams, in 1/64, within the rate budget of 4.0 (R429). -/
def ratesOk (m : Bank Word) : Bool :=
  decide (((List.range 8).map fun n => if fieldIn m (F.TLM_STR_EN n) = 1 then 2 ^ (6 - fieldIn m (F.TLM_STR_D n)) else 0).foldl (· + ·) 0 ≤ 256)

/-- Rules over the whole register contents an image leaves (R70, R82, R277, R299, R318, R359, R364, R429). -/
def imageRegsOk (u : Units) (m : Bank Word) : Bool :=
  let g := fieldIn m
  decide (g F.BUS_RESERVE_C_BUS ≠ 0) && decide (g F.BUS_RESERVE_P_RES ≠ 0) && decide (g F.BUS_BAND_EBAND ≠ 0) &&
  within 1 20000 (g F.BUS_BAND_T_PD) && decide (g F.BUD_CFG_P_SUP ≠ 0) && decide (g F.BUD_SUP_I_SUP ≠ 0) &&
  allPorts.all (fun k => (k.isModule && u.ports.testBit k.val) || portImageOk m k) &&
  allRails.all (fun j => u.rails.testBit j.val || railImageOk m j) &&
  (List.range 4).all (fun c => u.isense.testBit c || senseImageOk m c) && ratesOk m

/-- Units left present whose engine has no firmware (R105). -/
def enginesServed (u : Units) (hdr : List Byte) : Bool :=
  let has (e : Nat) : Bool := decide ((sectionAt hdr e).2.1 ≠ 0)
  modulePorts.all (fun k => u.ports.testBit k.val || has k.num) &&
  (has 10 || (decide (u.rails = 0xFFFF) && decide (u.isense = 0xF) && decide (u.resets = 0xF) && u.disabled.testBit 3)) &&
  (has 14 || (u.disabled.testBit 1 && u.disabled.testBit 2))

/-- Check 0xC: the records are well formed (R104, R105). -/
def recordsOk (hdr : List Byte) (words : List Nat) : Bool :=
  match parseRecs words.length words with
  | none => false
  | some rs =>
    let u := unitsOf rs
    decide ((rs.filter fun r => decide (r.type = 0x7F)).length = 1) &&
    decide ((rs.getLast?).map (·.type) = some 0x7F) &&
    decide ((rs.filter fun r => decide (r.type = 2)).length = 1) &&
    rs.all (recOk u) && enginesServed u hdr && imageRegsOk u (applyRegs u rs [])

/-- The words of a body. -/
def bodyWords (bs : List Byte) : List Nat := (bytesToWords bs).map (·.toNat)

/-- Check 0x3 of an Immond header against an expected image length (R102). -/
def cfgForm (h : List Byte) (len : Nat) : Bool :=
  let body := leAt h 0x0C 4
  decide (leAt h 0 4 = 0x444D4D49) && decide (leAt h 4 2 = 1) && decide (leAt h 6 2 = 0x80) && decide (leAt h 8 4 = len) &&
  decide (body % 4 = 0) && decide (len ≤ 0x20000) &&
  decide (len = (if leAt h 0x11 1 = 0xFF then 0x84 else 0x104) + body)
/-- Check 0x8 of an Immond header. -/
def State.cfgSvnOk (s : State) (h : List Byte) : Bool :=
  decide (leAt h 0x10 1 ≤ 128) && decide (s.cfgSteps ≤ leAt h 0x10 1)
/-- Check 0xA of an Immond header: BIND_UID zero or the UID of a usable IDENT (Table SEC-3). -/
def State.bindOk (s : State) (h : List Byte) : Bool :=
  let b := (h.drop 0x18).take 16
  decide (b = List.replicate 16 0#8) || (s.regionOk 1 && decide (b = s.uid))
/-- Check 0xD of an Immond header: signed where POLICY requires it. -/
def State.signedOk (s : State) (h : List Byte) : Bool := !(s.sec.cfgSign && decide (leAt h 0x11 1 = 0xFF))

/-- The checks of a configuration image (Table BOT-6, C), judged against firmware of interface level `iface` and header
`fw`. -/
def State.cfgChecks (s : State) (base len : Nat) (readErr : Bool) (iface : Nat) (fw : List Byte) : Nat :=
  let h := s.flashRead base 0x80
  let bl := leAt h 0x0C 4
  let body := s.flashRead (base + 0x80) bl
  let key := s.flashRead (base + len - 128) 64
  let sig := s.flashRead (base + len - 64) 64
  let ki := leAt h 0x11 1
  if readErr then 0xE
  else if ! cfgForm h len then 0x3
  else if ! hdrCrcOk h 0x80 then 0x4
  else if leNat (s.flashRead (base + 0x80 + bl) 4) ≠ crc32 body then 0x9
  else if ! s.signedOk h then 0xD
  else if ki ≠ 0xFF ∧ ¬ (ki < 2 ∧ s.regionOk 3 = true) then 0x5
  else if ki ≠ 0xFF ∧ sha256 key ≠ s.otpDigest (0x45 + 8 * ki) then 0x6
  else if ki ≠ 0xFF ∧ ecdsaVerify key (sha256 (s.flashRead base (len - 64))) sig = false then 0x7
  else if ! s.cfgSvnOk h then 0x8
  else if ! s.bindOk h then 0xA
  else if iface < leAt h 0x12 2 then 0xB
  else if ! recordsOk fw (bodyWords body) then 0xC
  else 0x1

end Sys2Proof.Machine
end

