-- ==== Sys2Proof/Machine/SchedOps.lean ====
section
/-!
DEFINITION. The schedule banks as the commands share them (R124–R129): reading and writing an entry, the bank CRC of
R127, and the request of a check.
-/
namespace Sys2Proof.Machine

/-- An idle schedule entry (R124). -/
def idleEntry (_ : Nat) : Word := 0x000000FF#32
/-- Whether bank B is the active bank; the shadow bank is then A, else B, and A before the first swap (R126, R150). -/
def State.shadowIsB (s : State) : Bool := decide (s.get F.SCH_STATUS_ACTIVE = 1)
/-- The shadow bank. -/
def State.shadowBank (s : State) : Bank Word := if s.shadowIsB then s.msr.bankB else s.msr.bankA
/-- The active bank. Under the default schedule no bank is active; DESIGN CHOICE (entry 105): SCH_DATA then reads bank B with
RD_ACTIVE = 1, of which the manual says nothing (R152). -/
def State.activeBank (s : State) : Bank Word := if s.shadowIsB then s.msr.bankA else s.msr.bankB
/-- An entry of a schedule bank. -/
def entryAt (b : Bank Word) (i : Nat) : Word := bankRead idleEntry b i
/-- Whether a bank entry converts a channel without DISCARD. -/
def covers (ch : Nat) (e : Nat × Word) : Bool := decide (e.2.toNat % 256 = ch) && !e.2.toNat.testBit 8
/-- The shadow bank with new contents. -/
def State.setShadow (s : State) (b : Bank Word) : State :=
  if s.shadowIsB then { s with msr := { s.msr with bankB := b } } else { s with msr := { s.msr with bankA := b } }
/-- Store an entry of the shadow bank. -/
def State.writeShadow (s : State) (i : Nat) (w : Word) : State :=
  if s.shadowIsB then { s with msr := { s.msr with bankB := bankWrite idleEntry s.msr.bankB i w } }
  else { s with msr := { s.msr with bankA := bankWrite idleEntry s.msr.bankA i w } }

/-- A write of SCH_DATA that is taken: stored at INDEX of the shadow bank, and INDEX advances (R128). -/
def State.storeEntry (s : State) (w : Word) : State :=
  let i := s.get F.SCH_ADDR_INDEX
  (s.writeShadow i w).set F.SCH_ADDR_INDEX ((i + 1) % 16384)
/-- A write of the window's other words, discarded while BUSY (R129). -/
def State.writeSchWord (s : State) (act : State → State) : State := if s.has F.SCH_STATUS_BUSY then s.flag G.SCH_WR_DISCARDED else act s

/-- The entry indices of a bank in execution order (R127). -/
def execOrder : List Nat :=
  (List.range 32).flatMap fun f => (List.range 128).flatMap fun c => (List.range 4).map fun a => 4096 * a + 128 * f + c
/-- The bank CRC (R127). -/
def bankCrc (b : Bank Word) : Nat := crc32 (execOrder.flatMap fun i => leBytes 4 (entryAt b i).toNat)

/-- SWAP_REQ: BUSY is set; while it is set a further request is ignored and flagged (R129, R149). -/
def State.requestSwap (s : State) : State :=
  if s.has F.SCH_STATUS_BUSY then s.flag G.SCH_REQ_IGNORED else s.put F.SCH_STATUS_BUSY true

/-- The SCHED records of an image stored through the schedule window (R106). -/
def State.applySched (s : State) (rs : List Rec) : State :=
  (rs.filter fun r => decide (r.type = 3)).foldl (fun s r =>
    (r.payload.drop 1).foldl (fun s w => s.storeEntry (BitVec.ofNat 32 w)) (s.set F.SCH_ADDR_INDEX (r.payload.getD 0 0 % 16384))) s

end Sys2Proof.Machine
end

