-- ==== Sys2Proof/Machine/IslandOps.lean ====
section
/-!
DEFINITION. The watchdog periods (R453), the seal (R512), the derived values of R69, and the built-in protection set-up
(R111).
-/
namespace Sys2Proof.Machine

/-- Fabric cycles of a number of cycles of the island oscillator, 32 MHz nominal. -/
def islandCycles (n : Nat) : Nat := n * 25 / 8

/-- The next state of the 16-bit LFSR with polynomial x^16 + x^14 + x^13 + x^11 + 1 (R453). -/
def lfsrNext (v : Nat) : Nat :=
  let b := v % 2 + v / 4 % 2 + v / 8 % 2 + v / 32 % 2
  v / 2 + 2 ^ 15 * (b % 2)

/-- SEQ advances by 1 and a new challenge is issued (R453, R456). -/
def State.newChallenge (s : State) : State :=
  let c := lfsrNext s.island.lfsr
  let s := { s with island := { s.island with lfsr := c, answered := false } }
  (s.set F.SAF_WDCHAL_SEQ ((s.get F.SAF_WDCHAL_SEQ + 1) % 2 ^ 16)).set F.SAF_WDCHAL_CHAL c
/-- A watchdog period starts: new challenge, closed window of 9,600 island cycles (R453). -/
def State.startPeriod (s : State) : State :=
  (((s.newChallenge.put F.SAF_STATUS_OPEN false).disarm .wdPeriod).arm .wdClosed (islandCycles 9600))

/-- The seal (R512): SEALED, the latched Winter rail table (R329) and DW_RESTART_EN (R465), the watchdog armed with its
first period (R455), from a seed the manual does not fix (R453). A CASC_IN that is high already arms its check (R333). -/
def State.seal (s : State) : State :=
  let s := (s.put F.PROT_STATUS_SEALED true).put F.BOOT_STATUS_SEALED true
  let s := forAll allRails (fun j t => t.modRail j fun r =>
    { r with keep := t.has (F.SQ_WIN_KEEP j), dis := t.has (F.SQ_WIN_DIS j) }) s
  let s := s.put F.AXL_STATUS_CASC_ARMED (s.isIn .spring && s.linkOn && s.axl.cascHigh)
  let seed := s.takeFree.1 % 65535 + 1
  let s := s.takeFree.2
  let s := { s with island := { s.island with restartEn := s.has F.SYS_STATE_CFG_DW_RESTART_EN, lfsr := seed } }
  ((s.set F.SAF_STATUS_ISTATE 2).disarm .sealTimer).startPeriod

/-- Every RWS field of a register at its reset value (R111, built-in protection set-up). -/
def State.resetSealed (s : State) : State :=
  regTable.foldl (fun s f =>
    (List.range f.n1).foldl (fun s i => (List.range f.n2).foldl (fun s j =>
      let a := f.base + f.s1 * i + f.s2 * j
      s.setWord a ((s.word a &&& ~~~ f.rws) ||| (regReset a &&& f.rws))) s) s) s

/-- E_RES in 0.1 mJ: P_RES × (T_PD + 3 ms) × (8 + MARGIN) / 8 (R68); P_RES in 0.1 W, T_PD in ms. -/
def State.eRes8 (s : State) : Nat :=
  s.get F.BUS_RESERVE_P_RES * (s.get F.BUS_BAND_T_PD + 3) * (8 + s.get F.BUS_CFG_MARGIN)
/-- The voltage in mV of an energy of `e8`/8 × 0.1 mJ on C_BUS, rounded up to the next 10 mV (R69): with C_BUS in
10 µF, 2E / C is e8 × 2.5 / C_BUS V², or e8 × 2,500,000 / C_BUS mV². -/
def State.energyMv (s : State) (e8 : Nat) : Nat :=
  let c := s.get F.BUS_RESERVE_C_BUS
  let x := 4500 * 4500 * c + e8 * 2500000
  let r10 := ceilDiv x (c * 100)
  10 * isqrtUp r10

/-- A threshold as its 16-bit field takes it; for a voltage above 65,535 mV the manual states no value (entry 117). -/
def thresholdMv (mv : Nat) : Nat := if mv < 2 ^ 16 then mv else (Config.busThreshold mv).toNat
/-- Boot code writes the thresholds of R69; with C_BUS = 0 all are 0 (R72). EBAND is in 10 mJ, 100 units of 0.1 mJ. -/
def State.writeBusThresholds (s : State) : State :=
  if s.get F.BUS_RESERVE_C_BUS = 0 then
    forAll (List.range 4) (fun n t => t.setWord (R.BUS_THR_SHED n) 0) (s.setWord R.BUS_THR 0)
  else
    let band := 100 * s.get F.BUS_BAND_EBAND
    let shed (p : Nat) : Nat := thresholdMv (s.energyMv (s.eRes8 + band * (8 - p)))
    let s' := (s.set F.BUS_THR_COMMIT_MV (thresholdMv (s.energyMv s.eRes8))).set F.BUS_THR_RET_MV
      (thresholdMv (s.energyMv (s.eRes8 + band * 9)))
    forAll (List.range 4) (fun n t =>
      (t.set (F.BUS_THR_SHED_MV0 n) (shed (2 * n))).set (F.BUS_THR_SHED_MV1 n) (shed (2 * n + 1))) s'

end Sys2Proof.Machine
end

