-- ==== Sys2Proof/Machine/PdOps.lean ====
section
/-!
DEFINITION. Power Delivery as several commands share it: sending messages (R187, R197), receiving them (R187, R218),
building the offer (R191, R192), judging requests (R195), contracts (R196), and Hard Reset (R198, R199). The bit
places of data objects are those of the USB Power Delivery standard.
-/
namespace Sys2Proof.Machine

/-- What sending a message leaves in the port engine: capabilities that a source sends are those a request is judged against
(R195); a port in its sink role only tells them (Table PDP-2). -/
def PdPort.noteSent (p : PdPort) (m : PdMsg) (sink : Bool) : PdPort :=
  if m.kind = .sourceCap ∨ m.kind = .eprSourceCap then
    if sink then p else { p with caps := m.objs, capsEpr := decide (m.kind = .eprSourceCap), capsDue := false, await := .request }
  else p
/-- Send a message on port k; the first of the queue awaits its GoodCRC for tReceive (Table PDP-3). -/
def State.say (s : State) (k : PortId) (kind : MsgKind) (objs : List Word) : State :=
  let idle := (s.port k).pd.tx.isEmpty
  let sink := s.isSink k
  let m : PdMsg := { kind := kind, objs := objs }
  let s := s.modPd k fun p => { p.noteSent m sink with tx := p.tx ++ [m] }
  if idle then (s.modPd k fun p => { p with retries := 0 }).arm (.goodCrc k) (msec 1) else s
/-- Whether a message is an extended one, whose data goes out in chunks of 26 bytes (R188). -/
def MsgKind.extended (m : MsgKind) : Bool :=
  [.eprSourceCap, .sinkCapExt, .sourceCapExt, .manufacturerInfo, .status, .ppsStatus, .securityRequest].contains m
/-- Whether the chunk that goes out is the last of its message. -/
def PdMsg.lastChunk (m : PdMsg) : Bool := !m.kind.extended || Nat.ble (4 * m.objs.length) (26 * (m.chunk + 1))
/-- Whether a message goes out on SOP′ (R189). -/
def MsgKind.sopPrime (m : MsgKind) : Bool := decide (m = .discoverIdentity)

/-- Whether an explicit contract holds on port k. -/
def State.contract (s : State) (k : PortId) : Bool := s.has (F.PD_STATUS_CONTRACT k)
/-- Contract voltage in mV, 5,000 without an explicit contract (R299). -/
def State.contractMv (s : State) (k : PortId) : Nat := if s.contract k then 20 * s.get (F.PD_CONTRACT_V_20MV k) else 5000
/-- Contract current in mA. -/
def State.contractMa (s : State) (k : PortId) : Nat := 10 * s.get (F.PD_CONTRACT_I_10MA k)
/-- Policy state (R220), kept at 7 through a reload (R218). -/
def State.setPe (s : State) (k : PortId) (pe : Nat) : State :=
  if (s.port k).pd.reloading then s.modPd k fun p => { p with peBefore := pe } else s.set (F.PD_STATUS_PE k) pe

/-- The messages of an AMS of the part's own go out. -/
def State.releaseHeld (s : State) (k : PortId) : State :=
  let msgs := (s.port k).pd.held
  forAll msgs (fun m t => t.say k m.kind m.objs) (s.modPd k fun p => { p with held := [] })
/-- Whether port 9 as a sink in a contract must wait with an AMS of its own: its partner presents less than the 3.0 A Rp of
SinkTxOK (R197). -/
def State.sinkTxNg (s : State) (k : PortId) : Bool := s.contract k && s.isSink k && decide (s.get (F.ATT_STATUS_RP k) ≠ 3)
/-- An AMS of the part's own waits for SinkTx (R197): as source SinkTxNG is presented for tSinkTx first. -/
def State.waitSinkTx (s : State) (k : PortId) : State :=
  ((s.modPd k fun p => { p with ams := true }).set (F.ATT_STATUS_RP k) 2).arm (.sinkTx k) (msec 18)
/-- Start an AMS of the part's own (R197): in a contract as source SinkTxNG is presented and the messages wait tSinkTx, behind an
AMS that runs; as a sink they wait for the partner's SinkTxOK; otherwise they go at once. -/
def State.ownAms (s : State) (k : PortId) (msgs : List PdMsg) : State :=
  if s.contract k && !s.isSink k then
    let s := s.modPd k fun p => { p with held := p.held ++ msgs }
    if (s.port k).pd.ams then s else s.waitSinkTx k
  else if s.sinkTxNg k then s.modPd k fun p => { p with held := p.held ++ msgs }
  else forAll msgs (fun m t => t.say k m.kind m.objs) s
/-- The AMS of the part's own ends: SinkTxOK (R197); messages of another that waited for its end start theirs. -/
def State.endAms (s : State) (k : PortId) : State :=
  if (s.port k).pd.ams then
    let s := (s.modPd k fun p => { p with ams := false }).disarm (.sinkTx k)
    if s.contract k && !s.isSink k then
      if (s.port k).pd.held.isEmpty then s.set (F.ATT_STATUS_RP k) 3 else s.waitSinkTx k
    else s
  else s
/-- Whether an AMS is in progress on port k. -/
def State.amsRuns (s : State) (k : PortId) : Bool :=
  (s.port k).pd.ams || decide ((s.port k).pd.await ≠ .none) || !(s.port k).pd.tx.isEmpty

/-- Whether the protocol layer of port k receives, with or without its port engine (R15, R187, R212). -/
def State.pdReceives (s : State) (k : PortId) : Bool :=
  !s.isAny [.romBoot, .romRecovery, .deepWinter] && decide ((s.port k).pd.hr = .none) &&
  (if s.isSink k then decide (s.astate k = 8) else s.switchClosed k)
/-- Whether the policy of port k is there to act on a message: its engine runs and is not being reloaded. -/
def State.policyRuns (s : State) (k : PortId) : Bool := s.engine k.num && !(s.port k).pd.reloading
/-- The protocol queue is full (R218): GoodCRC withheld, flag and warning. -/
def State.queueFull (s : State) (k : PortId) : State := (s.flag (G.PD_Q_FULL k)).warn (portFault k 0 0x17)
/-- The MessageID of the last message received: none after a Soft_Reset, whose receipt resets the protocol layer. -/
def PdPort.lastRx (p : PdPort) (i : Instr) : Option Nat :=
  match i with
  | .softReset _ _ => none
  | .cableIdentityResponse _ _ _ _ _ _ => p.rxIdP
  | _ => p.rxId
/-- A message with MessageID `id` is taken: GoodCRC sent and the MessageID noted (R187). -/
def PdPort.noteRx (p : PdPort) (i : Instr) (id : Nat) : PdPort :=
  match i with
  | .softReset _ _ => { p with acked := some id, rxId := some id, txId := 0 }
  | .cableIdentityResponse _ _ _ _ _ _ => { p with acked := some id, rxIdP := some id }
  | _ => { p with acked := some id, rxId := some id }
/-- A message arrives on port k with a MessageID (R15, R187, R218): discarded where the protocol layer does not receive; a
retransmission is answered with GoodCRC alone; without its port engine the layer queues up to four, and answers no fifth; otherwise
it is acted upon. -/
def State.receive (s : State) (k : PortId) (i : Instr) (id : Nat) (act : State → State) : State :=
  if s.pdReceives k then
    if (s.port k).pd.lastRx i = some id then s.modPd k fun p => { p with acked := some id }
    else if s.policyRuns k then act (s.modPd k fun p => p.noteRx i id)
    else if (s.port k).pd.rxq.length < 4 then s.modPd k fun p => { p.noteRx i id with rxq := p.rxq ++ [i] }
    else s.queueFull k
  else s

/-- Gate limit of R206 in mW, where the port is gated. -/
def State.gateMw? (s : State) (k : PortId) : Option Nat :=
  if k.isModule then
    let w := s.get (F.PD_CFG_AUTH_W k)
    if s.policy 3 then some (if w = 0 then 100000 else min 100000 (1000 * w))
    else if w = 0 then none else some (1000 * w)
  else none
/-- Whether the gate limits the port now: gated and not passed. -/
def State.gateMw (s : State) (k : PortId) : Option Nat :=
  if s.get (F.PD_STATUS_AUTH k) = 2 then none else s.gateMw? k
/-- A gate of R206 that stands otherwise than before changes the capabilities offered (R194). -/
def State.gateMoved (t s : State) : State :=
  forAll modulePorts (fun k u => u.when (decide (t.gateMw k ≠ s.gateMw k)) fun v =>
    v.modPd k fun p => { p with capsDue := p.capsDue || !p.caps.isEmpty }) t
/-- Ceiling used for the offer (R191): the allocator's, cut to the gate. -/
def State.offerMw (s : State) (k : PortId) : Nat :=
  match s.gateMw k with
  | none => s.ceilMw k
  | some g => min (s.ceilMw k) g

/-- Current of an object (R191): truncated to its step. -/
def cur (pw v cap step : Nat) : Nat := let i := min (pw * 1000 / v) cap; i - i % step
/-- A fixed supply object of a voltage in mV and a current in mA. -/
def fixedPdo (mv ma : Nat) : Word := BitVec.ofNat 32 (mv / 50 * 2 ^ 10 + ma / 10)
/-- A programmable supply object. -/
def ppsPdo (lo hi ma : Nat) : Word := BitVec.ofNat 32 (3 * 2 ^ 30 + hi / 100 * 2 ^ 17 + lo / 100 * 2 ^ 8 + ma / 50)
/-- An SPR AVS object. -/
def sprAvsPdo (ma15 ma20 : Nat) : Word := BitVec.ofNat 32 (3 * 2 ^ 30 + 2 * 2 ^ 28 + ma15 / 10 * 2 ^ 10 + ma20 / 10)
/-- An EPR AVS object. -/
def eprAvsPdo (lo hi w : Nat) : Word :=
  BitVec.ofNat 32 (3 * 2 ^ 30 + 1 * 2 ^ 28 + hi / 100 * 2 ^ 17 + lo / 100 * 2 ^ 8 + w)

/-- Whether some EPR object is enabled (R201). -/
def State.eprEnabled (s : State) (k : PortId) : Bool :=
  s.has (F.PD_CFG_EPR28 k) || s.has (F.PD_CFG_EPR36 k) || s.has (F.PD_CFG_EPR48 k) || s.has (F.PD_CFG_EPR_AVS k)
/-- The conditions of R201. -/
def State.eprCapable (s : State) (k : PortId) : Bool :=
  k.isModule && s.eprEnabled k && s.has (F.ATT_CABLE_EPR_OK k) && s.has (F.ATT_STATUS_VCONN_ON k) &&
  decide (100000 < s.ceilMw k) && (match s.gateMw k with | none => true | some g => decide (100000 < g))
/-- Whether the partner answered at Revision 2.0 (R188). -/
def State.rev2 (s : State) (k : PortId) : Bool := decide (s.get (F.PD_STATUS_REV k) = 1)

/-- Bits of the 5 V object beside voltage and current (R192). -/
def State.pdo5Bits (s : State) (k : PortId) : Nat :=
  b2n (!k.isModule) * 2 ^ 29 + b2n (!k.isModule) * 2 ^ 25 +
  b2n (k.isModule && s.portPresent k && s.bit F.HUB_PORTS_DATA_EN k.val) * 2 ^ 26 +
  b2n (s.eprCapable k && !s.rev2 k) * 2 ^ 23
/-- Cable's highest voltage in mV, bounded by 48 V (R191, Table ATT-4). -/
def State.cableMv (s : State) (k : PortId) : Nat := min 48000 (20000 + 10000 * s.get (F.ATT_CABLE_VMAX k))
/-- Cable's current in mA. -/
def State.cableMa (s : State) (k : PortId) : Nat := if s.get (F.ATT_CABLE_CUR k) = 2 then 5000 else 3000
/-- Objects of the SPR section: positions in the order of R191. DESIGN CHOICE (entry 111): the SPR AVS object is left out where
its current for 9 V to 15 V is below 500 mA; the manual does not say which of its two currents counts. -/
def State.sprSection (s : State) (k : PortId) : List Word :=
  if k.isModule then
    let p := min (s.offerMw k) 100000
    let ic := s.cableMa k
    let five := fixedPdo 5000 (cur p 5000 3000 10) ||| BitVec.ofNat 32 (s.pdo5Bits k)
    let fix (on : Bool) (mv cap : Nat) : List Word :=
      if on && decide (500 ≤ cur p mv cap 10) then [fixedPdo mv (cur p mv cap 10)] else []
    let pps := if s.has (F.PD_CFG_PPS k) && !s.rev2 k && decide (500 ≤ cur p 21000 ic 50) then
        [ppsPdo 3300 21000 (cur p 21000 ic 50)] else []
    let avs := if s.has (F.PD_CFG_SPR_AVS k) && !s.rev2 k && decide (500 ≤ cur p 15000 ic 10) then
        [sprAvsPdo (cur p 15000 ic 10) (cur p 20000 ic 10)] else []
    five :: (fix (s.has (F.PD_CFG_FIX9 k)) 9000 3000 ++ fix (s.has (F.PD_CFG_FIX15 k)) 15000 3000 ++
      fix (s.has (F.PD_CFG_FIX20 k)) 20000 ic ++ pps ++ avs)
  else [fixedPdo 5000 3000 ||| BitVec.ofNat 32 (s.pdo5Bits k)]
/-- Objects of the EPR section (R191). -/
def State.eprSection (s : State) (k : PortId) : List Word :=
  let p := s.offerMw k
  let v := s.cableMv k
  let fix (on : Bool) (mv : Nat) : List Word :=
    if on && decide (mv ≤ v) && decide (500 ≤ cur p mv 5000 10) then [fixedPdo mv (cur p mv 5000 10)] else []
  fix (s.has (F.PD_CFG_EPR28 k)) 28000 ++ fix (s.has (F.PD_CFG_EPR36 k)) 36000 ++ fix (s.has (F.PD_CFG_EPR48 k)) 48000 ++
    (if s.has (F.PD_CFG_EPR_AVS k) && decide (100000 < p) then [eprAvsPdo 15000 (v - v % 100) (min (p / 1000) 240)] else [])
/-- The capabilities the port would send now. -/
def State.buildCaps (s : State) (k : PortId) : List Word :=
  let spr := s.sprSection k
  if s.has (F.PD_STATUS_EPR k) then spr ++ List.replicate (7 - spr.length) 0#32 ++ s.eprSection k else spr
/-- The capabilities message the port would send now. -/
def State.capsMsg (s : State) (k : PortId) : PdMsg :=
  { kind := if s.has (F.PD_STATUS_EPR k) then .eprSourceCap else .sourceCap, objs := s.buildCaps k }
/-- Send capabilities now (R194, R198 step 5, R200): without a contract the port counts and repeats them. -/
def State.sendCaps (s : State) (k : PortId) : State :=
  let m := s.capsMsg k
  let s := s.say k m.kind m.objs
  if s.contract k then s
  else ((s.modPd k fun p => { p with capsCount := p.capsCount + 1 }).setPe k 1).arm (.sendCaps k) (msec 150)
/-- Capabilities as an AMS of the part's own that may wait tSinkTx (R197). -/
def State.offerCaps (s : State) (k : PortId) : State :=
  if s.contract k then s.ownAms k [s.capsMsg k] else s.sendCaps k

/-- Kind, lowest and highest voltage and current limit at a voltage of a capabilities object. -/
structure ObjView where
  kind : Nat
  lo   : Nat
  hi   : Nat
  ma   : Nat → Nat

/-- What a capabilities object offers; kind 1 fixed, 2 PPS, 3 SPR AVS, 5 EPR AVS. -/
def objView (o : Word) : ObjView :=
  let w := o.toNat
  if w / 2 ^ 30 = 0 then
    { kind := 1, lo := 50 * (w / 2 ^ 10 % 2 ^ 10), hi := 50 * (w / 2 ^ 10 % 2 ^ 10), ma := fun _ => 10 * (w % 2 ^ 10) }
  else if w / 2 ^ 28 % 4 = 0 then
    { kind := 2, lo := 100 * (w / 2 ^ 8 % 2 ^ 8), hi := 100 * (w / 2 ^ 17 % 2 ^ 8), ma := fun _ => 50 * (w % 2 ^ 7) }
  else if w / 2 ^ 28 % 4 = 1 then
    { kind := 5, lo := 100 * (w / 2 ^ 8 % 2 ^ 8), hi := 100 * (w / 2 ^ 17 % 2 ^ 9),
      ma := fun v => min 5000 (w % 2 ^ 8 * 1000000 / max v 1) }
  else
    { kind := 3, lo := 9000, hi := if w % 2 ^ 10 = 0 then 15000 else 20000,
      ma := fun v => if v ≤ 15000 then 10 * (w / 2 ^ 10 % 2 ^ 10) else 10 * (w % 2 ^ 10) }

/-- Object position of a request. -/
def rdoPos (r : Word) : Nat := r.toNat / 2 ^ 28
/-- Voltage in mV a request names for an object: its own for a fixed object, steps of 20 mV or 25 mV otherwise. -/
def rdoMv (o r : Word) : Nat :=
  if (objView o).kind = 1 then (objView o).lo
  else if (objView o).kind = 2 then 20 * (r.toNat / 2 ^ 9 % 2 ^ 12) else 25 * (r.toNat / 2 ^ 9 % 2 ^ 12)
/-- Current in mA a request names. -/
def rdoMa (o r : Word) : Nat :=
  if (objView o).kind = 1 then 10 * (r.toNat / 2 ^ 10 % 2 ^ 10) else 50 * (r.toNat % 2 ^ 7)
/-- The object a request names in the last capabilities sent. -/
def State.rdoObj? (s : State) (k : PortId) (r : Word) : Option Word :=
  if rdoPos r = 0 then none
  else match (s.port k).pd.caps[rdoPos r - 1]? with
    | none => none
    | some o => if o = 0#32 then none else some o
/-- The rules of R195 except the ceiling, and the step of R205. -/
def objAllows (o r : Word) : Bool :=
  let v := rdoMv o r
  decide (rdoMa o r ≤ (objView o).ma v) && decide ((objView o).lo ≤ v) && decide (v ≤ (objView o).hi) &&
  (decide ((objView o).kind ≤ 2) || decide (v % 100 = 0))
/-- Whether the ceiling allows a request (R195). -/
def State.ceilAllows (s : State) (k : PortId) (o r : Word) : Bool := decide (rdoMv o r * rdoMa o r / 1000 ≤ s.ceilMw k)
/-- Whether a request exceeds the cap of R252: it is rejected, and new capabilities follow (R304). -/
def State.capBreaks (s : State) (k : PortId) (o r : Word) : Bool :=
  k.isModule && decide (s.get (F.CHK_CAP_CAP_MA k) ≠ 0xFFFF) && Nat.blt (s.get (F.CHK_CAP_CAP_MA k)) (rdoMa o r)

/-- PD_CONTRACT.TYPE of an accepted object (R221). -/
def contractType (o : Word) (pos : Nat) : Nat := if (objView o).kind = 1 && decide (8 ≤ pos) then 4 else (objView o).kind

/-- A request is accepted: Accept sent, the new contract awaits its transition (R195, R196). -/
def State.acceptRequest (s : State) (k : PortId) (o r : Word) : State :=
  let keep := decide (rdoMv o r = s.contractMv k)
  let mis := r.getLsbD 26
  let s := s.modPd k fun p =>
    { p with pos := rdoPos r, reqRdo := r, reqType := contractType o (rdoPos r), reqMv := rdoMv o r, reqMa := rdoMa o r,
             reqKeep := keep, reqMismatch := mis, await := .srcTransition }
  ((s.put (F.PD_STATUS_MISMATCH k) mis).setPe k 3).say k .accept []
/-- A request is rejected (R195): Reject, flag and warning; new capabilities follow where the ceiling alone caused it. -/
def State.rejectRequest (s : State) (k : PortId) (ceilAlone : Bool) : State :=
  let s := (s.modPd k fun p => { p with await := .none }).say k .reject []
  let s := ((s.flag (G.PD_REJECTED k)).warn (portFault k 0 0x12)).setPe k (if s.contract k then 4 else 2)
  if ceilAlone then s.sendCaps k else s
/-- A Request or EPR_Request is judged (R195). The Specification Revision of its header gives the revision in use. -/
def State.judgeRequest (s : State) (k : PortId) (r : Word) (rev2 : Bool) : State :=
  let s := s.disarmAll [.senderResponse k, .sendCaps k]
  let s := s.set (F.PD_STATUS_REV k) (if rev2 then 1 else 2)
  let s := if s.armed (.ppsTimeout k) then s.arm (.ppsTimeout k) (msec 13500) else s
  match s.rdoObj? k r with
  | none => s.rejectRequest k false
  | some o =>
    if s.capBreaks k o r then s.rejectRequest k true
    else if ! objAllows o r then s.rejectRequest k false
    else if ! s.ceilAllows k o r then s.rejectRequest k true
    else s.acceptRequest k o r

/-- The accepted request is in force: PS_RDY, contract registers, counters and timers that start with it (R196, R205,
R216, R247, R278). -/
def State.enterContract (s : State) (k : PortId) : State :=
  let p := (s.port k).pd
  let s := (((s.set (F.PD_CONTRACT_TYPE k) p.reqType).set (F.PD_CONTRACT_V_20MV k) (p.reqMv / 20)).set
    (F.PD_CONTRACT_I_10MA k) (p.reqMa / 10)).setWord (R.PD_RDO k) p.reqRdo
  let s := (s.set (F.PD_STATUS_PDO k) p.pos).put (F.PD_STATUS_CONTRACT k) true
  let s := s.modPd k fun q => { q with await := .none, hrCount := 0, frIdentSent := false, frCap := 0, frWait := 0,
                                       eprCapRdo := p.reqRdo.getLsbD 22 }
  let s := s.modBrk k fun b => { b with iRef := p.reqMa, iRefNext := p.reqMa }
  let s := s.modCnv k fun c => { c with headWarned := false }
  let s := s.modChk k fun c => { c with refP := none, refR := none }
  let s := if k.isModule && !s.unitOff 5 then s.arm (.chkDue k) (max (secs 5) ((s.port k).chk.nextAt - s.now)) else s
  let s := if [2, 3, 5].contains p.reqType then s.arm (.ppsTimeout k) (msec 13500) else s.disarm (.ppsTimeout k)
  let s := if !k.isModule && s.has (F.PD_STATUS_DATA_ROLE k) then s.armOnce .drSwap (msec 50) else s
  (s.say k .psRdy []).setPe k 4

/-- Step 1 of Table PDP-5 and the wait of tPSHardReset. A transition in progress ends with its allowance. -/
def State.hardResetStep1 (s : State) (k : PortId) : State :=
  let s := s.flag (G.PD_HARD_RESET k)
  let s := (s.clearPd k).disarm (.allowance k)
  let s := s.when (decide (s.get (F.BRK_STATUS_STATE k) = 4)) fun t => t.set (F.BRK_STATUS_STATE k) 3
  if s.isSink k then s.setPe k 5
  else ((s.modPd k fun p => { p with hr := .wait }).setPe k 5).arm (.psHardReset k) (msec 30)
/-- The part sends Hard Reset; one beyond nHardResetCount is replaced by ErrorRecovery (R199). -/
def State.sendHardReset (s : State) (k : PortId) : State :=
  if 2 ≤ (s.port k).pd.hrCount then
    let s := s.raise (portFault k 2 0x19)
    let s := ((s.softOpen k).clearPd k).setPe k 0
    let s := (s.modPd k fun p => { p with hrCount := 0 }).set (F.ATT_STATUS_RP k) 0
    let s := if s.astate k = 0 then s else (s.setAState k 0).arm (.errorRecovery k) (msec 30)
    s
  else
    let s := s.modPd k fun p => { p with hrCount := p.hrCount + 1 }
    (s.warn (portFault k 0 0x10)).hardResetStep1 k

/-- Whether a voltage transition is under way between Accept and PS_RDY. -/
def State.inTransition (s : State) (k : PortId) : Bool :=
  decide ((s.port k).pd.await = .srcTransition) || decide ((s.port k).pd.await = .transition)
/-- The part resets the message exchange with Soft_Reset, whose MessageIDs begin anew; in a transition Hard Reset takes its place
(R187, R199). -/
def State.startSoftReset (s : State) (k : PortId) : State :=
  if s.inTransition k then s.sendHardReset k
  else
    let s := (s.modPd k fun p => { p with tx := [], held := [], await := .softReset, txId := 0, rxId := none }).disarm (.senderResponse k)
    s.say k .softReset []

/-- Send Discover Identity on SOP′ (R213). -/
def State.discover (s : State) (k : PortId) : State :=
  (s.modPd k fun p => { p with cableTries := p.cableTries + 1 }).say k .discoverIdentity []
/-- VBUS stands at vSafe5V: the port engine runs cable discovery where VCONN is on, then sends capabilities (Table PDP-5
step 5). Nothing is sent in DCP or after the end of PD attempts (R170, R200). -/
def State.startPd (s : State) (k : PortId) : State :=
  if (s.port k).pd.reloading then s
  else
    let s := s.modPd k fun p => { p with hr := .none, capsCount := 0 }
    if (s.port k).att.dcp then s.setAState k 9
    else if (s.port k).pd.noPd then s.setPe k 6
    else if s.has (F.ATT_STATUS_VCONN_ON k) && !(s.port k).pd.cableDone then
      let s := s.setPe k 1
      if s.armed (.vconnStable k) || Nat.ble 1 (s.port k).pd.cableTries then s else s.discover k
    else s.sendCaps k
/-- Whether cable discovery runs: asked and not answered; the first capabilities wait for it. -/
def State.discovers (s : State) (k : PortId) : Bool :=
  !(s.port k).pd.cableDone && decide (0 < (s.port k).pd.cableTries)
/-- The outcome of cable discovery is written to ATT_CABLE before the first capabilities (Table ATT-4, R213); after
them it is a change of the cable limits (R194). -/
def State.cableOutcome (s : State) (k : PortId) (emarked : Bool) (amps vmax : Nat) (epr : Bool) : State :=
  let s := s.setWord (R.ATT_CABLE k) 0
  let s := if emarked then
      let e := epr && decide (amps = 2) && decide (vmax = 3)
      (((s.put (F.ATT_CABLE_EMARKED k) true).set (F.ATT_CABLE_CUR k) amps).put (F.ATT_CABLE_EPR_OK k) e).set
        (F.ATT_CABLE_VMAX k) (if amps = 2 && !e then 0 else vmax)
    else s
  let first := !(s.port k).pd.cableDone && decide (s.get (F.PD_STATUS_PE k) = 1)
  let s := s.modPd k fun p => { p with cableDone := true, capsDue := p.capsDue || (!first && !p.caps.isEmpty) }
  if first then ((s.modPd k fun p => { p with tx := [] }).disarmAll [.senderResponse k, .goodCrc k]).sendCaps k else s
/-- An attempt of cable discovery has brought no identity: the next, or the end after three (R213). -/
def State.cableMiss (s : State) (k : PortId) : State :=
  if (s.port k).pd.cableTries < 3 then s.discover k else s.cableOutcome k false 0 0 false

/-- A Discover Identity is answered or not (R213): the outcome, or an attempt that brought none. -/
def State.onCableIdentity (s : State) (k : PortId) (valid : Bool) (cur vmax : Nat) (epr : Bool) : State :=
  if s.discovers k && s.has (F.ATT_STATUS_VCONN_ON k) then
    let s := s.disarm (.senderResponse k)
    if valid then s.cableOutcome k true cur vmax epr else s.cableMiss k
  else s

/-- Authentication fails (R207): the gate stays until the next attach or Hard Reset. -/
def State.authFail (s : State) (k : PortId) : State :=
  let s := (s.disarmAll [.authResponse k, .authWhole k]).modPd k fun p => { p with auth := .idle, authSlots := [], authChain := [] }
  (((s.set (F.PD_STATUS_AUTH k) 3).flag (G.PD_AUTH_FAIL k)).warn (portFault k 0 0x13)).endAms k

end Sys2Proof.Machine
end

