-- ==== Sys2Proof/Machine/Attach.lean ====
section
/-!
DEFINITION. The attach commands (chapter ATT): detection and debounce, the judgement of R163, detach, seating, VCONN,
wet readings, and the dual role of port 9.
-/
namespace Sys2Proof.Machine

/-- CC_CHANGE (R162): a partner's terminations change on the CC pins of port k. In ATTACH_WAIT a change restarts the
debounce, or ends it where no partner is seen. Attached as a sink, port 9 follows its partner's Rp: at SinkTxOK the messages of an
AMS of its own go (R182, R197). -/
def execCcChange (k : PortId) (cc1 cc2 : Term) (s : State) : Out :=
  let s := s.modPins k fun p => { p with cc1 := cc1, cc2 := cc2 }
  if s.astate k = 8 then
    let s := s.set (F.ATT_STATUS_RP k) (seesRp (s.port k).pins)
    .next (s.when (!s.sinkTxNg k) fun t => t.releaseHeld k)
  else if s.astate k = 2 then
    let sees := if s.looksForSource k then decide (seesRp (s.port k).pins ≠ 0) else seesSink (s.port k).pins
    .next (if sees then s.arm (.ccDebounce k) (msec 150) else (s.disarm (.ccDebounce k)).unattached k)
  else .next (s.ccEval k)

/-- Port 9 attaches as a sink (R177, Table ATT-5). -/
def State.attachSink (s : State) (k : PortId) : State :=
  let p := (s.port k).pins
  let first := p.cc1 = .rpDefault ∨ p.cc1 = .rp15 ∨ p.cc1 = .rp30
  let s := (s.set (F.ATT_STATUS_ORIENT k) (if first then 1 else 2)).put (F.ATT_STATUS_PWR_ROLE k) true
  let s := (s.set (F.ATT_STATUS_RP k) (seesRp p)).put (F.PD_STATUS_DATA_ROLE k) false
  let s := s.when (!s.has (F.ATT_CFG_SEAT_EN k)) fun t => t.put (F.ATT_STATUS_SEATED k) true
  (s.modAtt k fun a => { a with trySub := 0, safeWait := false }).setAState k 8
/-- An accessory is refused (Table ATT-3). -/
def State.refuseAccessory (s : State) (k : PortId) : State :=
  ((s.setAState k 0xA).flag (G.ATT_REFUSED k)).warn (portFault k 0 0x04)
/-- A sink is judged at the end of its debounce; on port 9 Try.SNK comes first (R162, R177). -/
def State.sinkJudged (s : State) (k : PortId) (orient : Nat) (ra : Bool) : State :=
  if k.isModule then s.sinkFound k orient ra
  else
    let s := ((s.setAState k 0xB).modAtt k fun a => { a with trySub := 1 }).put (F.ATT_STATUS_PWR_ROLE k) true
    (s.set (F.ATT_STATUS_RP k) 0).arm .drpTry (msec 100)
/-- Table ATT-3 on the two terminations. -/
def State.judgeCombination (s : State) (k : PortId) : State :=
  match (s.port k).pins.cc1, (s.port k).pins.cc2 with
  | .rd, .rd => s.refuseAccessory k
  | .ra, .ra => s.refuseAccessory k
  | .rd, .ra => s.sinkJudged k 1 true
  | .rd, _ => s.sinkJudged k 1 false
  | .ra, .rd => s.sinkJudged k 2 true
  | _, .rd => s.sinkJudged k 2 false
  | _, _ => s.unattached k
/-- ATTACH_DEBOUNCE_ELAPSED (R162): the combination is judged; while the port engine is reloaded the decision waits. -/
def execAttachDebounceElapsed (k : PortId) (s : State) : Out :=
  .next (if (s.port k).pd.reloading then s else
    s.onElapse (.ccDebounce k) fun s =>
      if s.astate k ≠ 2 then s
      else if s.looksForSource k then
        if seesRp (s.port k).pins ≠ 0 then s.attachSink k else s.unattached k
      else s.judgeCombination k)

/-- VBUS_APPLY_JUDGE (R163, R645). -/
def execVbusApplyJudge (k : PortId) (s : State) : Out := .next (s.judgeVbus k)

/-- DETACH (R164): the Rd pin has stayed above vRd-Connect for tPDDebounce. A partner removed from a DISABLED port has ended
its holds, its latch and its cable's entry too (R184, R283, Table BRK-4). -/
def execDetach (k : PortId) (s : State) : Out :=
  if s.sinkAttached k || s.astate k = 0xA then .next (s.detach k)
  else
    let s := s.modPins k fun p => { p with cc1 := .opn, cc2 := .opn }
    .next (s.when (decide (s.astate k = 0)) fun t => t.forgetPartner k)

/-- VCSNS_SAFE0_REACHED (R164): Pk_VCSNS has fallen to vSafe0V. -/
def execVcsnsSafe0Reached (k : PortId) (s : State) : Out :=
  if s.switchClosed k then .next s
  else
    let s := (s.modPins k fun p => { p with vcsnsSafe := true }).modBrk k fun b => { b with safeSeen := true }
    let gone := decide (s.get (F.ATT_STATUS_ORIENT k) = 0)
    let s := if gone && (s.port k).brk.heldUntilDetach && s.get (F.BRK_STATUS_LAST_CAUSE k) = 0x35 then
        (s.modBrk k fun b => { b with heldUntilDetach := false }).settleOpen k
      else s
    let s := s.modAtt k fun a => { a with safeWait := false }
    .next (if gone && s.astate k = 3 then s.unattached k else s.judgeVbus k)

/-- SEATED (R167): Pk_SEAT has been low for 20 ms, whatever the attach state. Re-seating ends the end of PD attempts (R200). -/
def execSeated (k : PortId) (s : State) : Out :=
  let s := s.modPins k fun p => { p with seatLow := true }
  if s.has (F.ATT_CFG_SEAT_EN k) then
    let s := (s.put (F.ATT_STATUS_SEATED k) true).modPd k fun p => { p with noPd := false }
    .next (s.judgeVbus k)
  else .next s

/-- SEAT_LOST (R167): Pk_SEAT is high for 200 µs. With VBUS applied the port is opened in hardware. -/
def execSeatLost (k : PortId) (s : State) : Out :=
  let s := s.modPins k fun p => { p with seatLow := false }
  if s.has (F.ATT_CFG_SEAT_EN k) then
    let s := s.put (F.ATT_STATUS_SEATED k) false
    if s.switchDriven k then
      let s := ((s.softOpen k).clearPd k).modPd k fun p => { p with hr := .reapply }
      let s := (s.flag (G.ATT_SEAT_LOST k)).warn (portFault k 0 0x02)
      .next (s.judgeVbus k)
    else .next (s.judgeVbus k)
  else .next s

/-- VCONN_OVERCURRENT (R169): VCONN off until detach; the cable counts as not e-marked. -/
def execVconnOvercurrent (k : PortId) (s : State) : Out :=
  if s.has (F.ATT_STATUS_VCONN_ON k) then
    let s := ((s.vconnOff k).disarm (.vconnStable k)).modAtt k fun a => { a with vconnLockout := true }
    let s := s.cableOutcome k false 0 0 false
    .next ((s.flag (G.ATT_VCONN_OC k)).raise (portFault k 2 0x03))
  else .next s

/-- Channels of the pins that the readings of the ports measure (R172). -/
def State.wetChans (s : State) : List Nat :=
  s.presentPorts.flatMap fun k =>
    if s.wetOn && readingState (s.astate k) then (wetList (s.wetMask k)).map fun i => portChan k (5 + i) else []
/-- The supervisor keeps the channels of the pins measured in the active schedule (R172): those that it lacks take idle entries of
a copy of the active bank, and a swap to it is requested. DESIGN CHOICE (entry 116): the manual does not say which entries they
take; here the first idle ones, one entry each. -/
def State.keepWet (s : State) : State :=
  let missing := s.wetChans.filter fun ch => !(s.activeBank.any (covers ch))
  if missing.isEmpty || decide (s.get F.SCH_STATUS_ACTIVE = 0) || s.has F.SCH_STATUS_BUSY || s.upd.paused then s
  else
    let idle := (List.range 16384).filter fun i => decide (entryAt s.activeBank i = idleEntry i)
    let bank := (idle.zip missing).foldl (fun b p => bankWrite idleEntry b p.1 (BitVec.ofNat 32 p.2)) s.activeBank
    ((s.setShadow bank).set F.SCH_CRC_CRC (bankCrc bank)).requestSwap

/-- WET_READING_DUE (R171, Table ATT-6 step 1). A reading missed during a reload of the port engine is skipped (R174). DESIGN
CHOICE (entry 110): while a CC pin carries the bias in place of its Rp, ATT_STATUS.RP keeps the last Rp; the manual does not
say what it reads. -/
def execWetReadingDue (k : PortId) (s : State) : Out :=
  .next (s.onElapse (.wetNext k) fun s =>
    let s := s.arm (.wetNext k) (secs 1)
    if s.wetOn && readingState (s.astate k) && !(s.port k).pd.reloading then
      let m := s.wetMask k
      ((s.modAtt k fun a => { a with wetBias := true, wetPins := m }).arm (.wetSettle k) (msec 5)).keepWet
    else s)

/-- WET_SETTLING_END (Table ATT-6 step 3): the averaging window begins. -/
def execWetSettlingEnd (k : PortId) (s : State) : Out :=
  .next (s.onElapse (.wetSettle k) fun s =>
    (s.openWindows (.wet k) ((wetList (s.port k).att.wetPins).map fun i => portChan k (5 + i))).arm (.wetWindow k) (msec 20))

/-- Leakage in kΩ of a mean code of class L (R173). -/
def leakKohm (mean : Nat) : Nat := if 5000 ≤ mean then 0xFFFFFFFF else 1000 * mean / (5000 - mean)
/-- ATT_WET encoding (R173). -/
def wetField (r : Nat) : Nat := if 2540 ≤ r then 0xFF else r / 10
/-- Mean code of pin i in the window of the reading, where it has at least 8 results (R172). -/
def State.wetMean? (s : State) (k : PortId) (i : Nat) : Option Nat :=
  match s.window? (.wet k) (portChan k (5 + i)) with
  | none => none
  | some w => if w.n < 8 then none else w.mean?.map Int.toNat
/-- ATT_WET field of pin i. -/
def State.wetPinField (s : State) (k : PortId) (i : Nat) : Nat :=
  if (s.port k).att.wetPins.testBit i then
    match s.wetMean? k i with
    | none => 0
    | some m => wetField (leakKohm m)
  else 0xFE
/-- Whether the pins measured were all found dry (R173). -/
def State.wetDryVerdict (s : State) (k : PortId) : Bool :=
  let thr := 10 * orDefault 20 (s.get (F.ATT_CFG_WET_THR k))
  (wetList (s.port k).att.wetPins).all fun i =>
    match s.wetMean? k i with
    | none => false
    | some m => decide (thr ≤ leakKohm m)
/-- A wet verdict (R173, R174). -/
def State.wetVerdict (s : State) (k : PortId) : State :=
  let s := (s.modAtt k fun a => { a with dryStart := none, dryRun := 0 }).set (F.ATT_STATUS_DRY_S k) 0
  ((s.set (F.ATT_STATUS_DRY k) 1).flag (G.ATT_WET k)).warn (portFault k 0 0x01)
/-- A dry reading extends the run; 61 of them over 60 s make the port dry (R174, R175). -/
def State.dryReading (s : State) (k : PortId) : State :=
  let start := ((s.port k).att.dryStart).getD s.now
  let n := (s.port k).att.dryRun + 1
  let secs' := min 0xFFFF ((s.now - start) / secs 1)
  let s := s.modAtt k fun a => { a with dryStart := some start, dryRun := n }
  let s := s.set (F.ATT_STATUS_DRY_S k) secs'
  if decide (60 ≤ secs') && decide (61 ≤ n) then s.set (F.ATT_STATUS_DRY k) 2 else s
/-- WET_WINDOW_END (R172, R173, Table ATT-6 step 4): bias removed, Rp restored, verdict formed. -/
def execWetWindowEnd (k : PortId) (s : State) : Out :=
  .next (s.onElapse (.wetWindow k) fun s =>
    let pins := (s.port k).att.wetPins
    let missing := (wetList pins).any fun i => (s.wetMean? k i).isNone
    let dry := s.wetDryVerdict k
    let s := (((s.set (F.ATT_WET_CC1 k) (s.wetPinField k 0)).set (F.ATT_WET_CC2 k) (s.wetPinField k 1)).set
      (F.ATT_WET_SBU1 k) (s.wetPinField k 2)).set (F.ATT_WET_SBU2 k) (s.wetPinField k 3)
    let s := (s.closeWindows (.wet k)).modAtt k fun a =>
      { a with wetBias := false, wetPins := 0, wetMiss := if missing then a.wetMiss + 1 else 0 }
    let s := if dry then s.dryReading k else s.wetVerdict k
    let s := if missing && decide ((s.port k).att.wetMiss = 10) then s.raise (portFault k 2 0x06) else s
    (s.ccEval k).judgeVbus k)

/-- DRP_TOGGLE (R177): port 9 toggles its presented role; below VIN_OK and in Off-season it presents Rd (R178). -/
def execDrpToggle (s : State) : Out :=
  .next (s.onElapse .drp fun s =>
    if s.astate port9 = 1 && s.env.vinOk && !s.isIn .offSeason then
      let s := s.modAtt port9 fun a => { a with asSource := !a.asSource }
      let src := (s.port port9).att.asSource
      let s := (s.put (F.ATT_STATUS_PWR_ROLE port9) (!src)).set (F.ATT_STATUS_RP port9) (if src then 3 else 0)
      (s.arm .drp drpHalf).ccEval port9
    else s)

/-- TRY_SNK_ELAPSED (R177): the role of port 9 is judged at the end of Try.SNK or TryWait.SRC. -/
def execTrySnkElapsed (s : State) : Out :=
  .next (s.onElapse .drpTry fun s =>
    let p := (s.port port9).pins
    if s.astate port9 ≠ 0xB then s
    else if (s.port port9).att.trySub = 1 then
      if seesRp p ≠ 0 then s.attachSink port9
      else (((s.modAtt port9 fun a => { a with trySub := 2 }).put (F.ATT_STATUS_PWR_ROLE port9) false).set
        (F.ATT_STATUS_RP port9) 3).arm .drpTry (msec 100)
    else
      let s := s.modAtt port9 fun a => { a with trySub := 0 }
      match p.cc1, p.cc2 with
      | .rd, .ra => s.sinkFound port9 1 true
      | .ra, .rd => s.sinkFound port9 2 true
      | .rd, .opn => s.sinkFound port9 1 false
      | .opn, .rd => s.sinkFound port9 2 false
      | _, _ => s.unattached port9)

/-- VSVC falls below 4.40 V (R180): where the part ran from it, all power is lost (R38). -/
def State.sinkGone (s : State) : State :=
  if s.onVsvc then s.supplyLost else { s with bus := { s.bus with sinkPresent := false } }
/-- PORT9_SINK_DETACH (R177, R180): the source partner of port 9 removes VBUS or its Rp, and with it the sink supply. -/
def execPort9SinkDetach (s : State) : Out :=
  if s.astate port9 = 8 then
    let s := s.modPins port9 fun p => { p with cc1 := .opn, cc2 := .opn }
    let s := s.forgetPartner port9
    let s := (s.put (F.ATT_STATUS_PWR_ROLE port9) false).set (F.ATT_STATUS_RP port9) 0
    .next (s.unattached port9).sinkGone
  else .next s.sinkGone

end Sys2Proof.Machine
end

