-- ==== Sys2Proof/Machine/SeqOps.lean ====
section
/-!
DEFINITION. The sequencer's tables as several commands run them (R317–R326): starting and completing steps, the reset
outputs (R321), the gates of the Axkan link (R340), and what the end of a power-down brings (R76, R326, T10, T11).
-/
namespace Sys2Proof.Machine

/-- Position of the part in its chain. -/
def State.chainPos (s : State) : Nat := s.get F.SYS_STRAP_CHAIN_POS
/-- Parts in the chain. -/
def State.chainSize (s : State) : Nat := s.get F.AXL_CFG_SIZE + 1
/-- Steps of the power-up table. -/
def State.nup (s : State) : Nat := orDefault 1 (s.get F.SQC_CFG_NUP)
/-- Steps of the power-down table. -/
def State.ndn (s : State) : Nat := orDefault 1 (s.get F.SQC_CFG_NDN)
/-- The step in progress. -/
def State.seqStep (s : State) : Nat := s.get F.SQC_STATUS_STEP
/-- The sequencer's phase. -/
def State.phase (s : State) : Nat := s.get F.SQC_STATUS_PHASE
/-- Present rails of a power-up step. -/
def State.upRails (s : State) (n : Nat) : List RailId :=
  s.presentRails.filter fun j => decide (s.get (F.SQ_UP_UP j) = n + 1)
/-- Present rails of a power-down step. -/
def State.downRails (s : State) (n : Nat) : List RailId :=
  s.presentRails.filter fun j => decide (s.get (F.SQ_DN_DN j) = n + 1)
/-- Whether the rail is in regulation with its enable asserted. -/
def State.inReg (s : State) (j : RailId) : Bool := s.has (F.SQ_STATUS_EN j) && s.bit F.SQC_RAILS_INREG j.val
/-- Whether the rail is below off. -/
def State.below (s : State) (j : RailId) : Bool := s.bit F.SQC_RAILS_BELOW j.val

/-- Whether up-gate n is open (R340). -/
def State.upGateOpen (s : State) (n : Nat) : Bool := s.has F.AXL_STATUS_UPV && Nat.ble n (s.get F.AXL_STATUS_GO_UP)
/-- Whether down-gate n is open. -/
def State.downGateOpen (s : State) (n : Nat) : Bool := s.has F.AXL_STATUS_DNV && Nat.ble n (s.get F.AXL_STATUS_GO_DN)

/-- The release condition of reset output n (R321): every watched rail in regulation, or with none watched the
power-up table complete. -/
def State.releaseHolds (s : State) (n : Fin 4) : Bool :=
  if (s.watched n).isEmpty then s.seq.tableDone else (s.watched n).all s.inReg
/-- Whether reset outputs may be released in the present phase. -/
def State.resetsMove (s : State) : Bool := [1, 2, 5].contains s.phase
/-- The stretch of reset output n starts where its release condition has come to hold, and stops where it no longer
holds (R321). -/
def State.stretchCheck (s : State) (n : Fin 4) : State :=
  if s.resetsMove && s.releaseHolds n then
    if s.bit F.SQC_RST_ST_RELEASED n.val || s.armed (.stretch n) then s
    else
      (s.putBit F.SQC_RST_ST_STRETCHING n.val true).arm (.stretch n) (msec (orDefault 100 (s.get (F.SQC_RST_STRETCH n.val))))
  else if s.armed (.stretch n) then (s.disarm (.stretch n)).putBit F.SQC_RST_ST_STRETCHING n.val false
  else s
/-- All reset outputs are judged. -/
def State.stretchAll (s : State) : State := forAll allResets (fun n t => t.stretchCheck n) s

/-- Power-up step n begins with its delay (Table SEQ-1 step 1). -/
def State.beginUpStep (s : State) (n : Nat) : State :=
  let s := { s with seq := { s.seq with sub := .delay } }
  let s := forAll (s.upRails n) (fun j t => if (t.rail j).lostUntilSpring then t else t.set (F.SQ_STATUS_RSTATE j) 1) s
  (s.set F.SQC_STATUS_STEP n).arm .seqDelay (msec (s.get (F.SQC_UP_DLY n)))
/-- Step 5 of Spring (Table SEA-3): the hub is brought up and the module ports enter attach. -/
def State.springStep5 (s : State) : State :=
  let s := { s with boot := { s.boot with step := 5 }, pins := { s.pins with ups := true } }
  forAll s.presentModulePorts (fun k t => t.unattached k) s
/-- The power-up table is complete (Table SEQ-1 step 5): PHASE 2, outputs without watched rails stretch, Spring step 5
follows. -/
def State.upTableDone (s : State) : State :=
  let s := { s with seq := { s.seq with sub := .idle, tableDone := true } }
  ((s.setPhase 2).stretchAll).springStep5
/-- A power-up step is complete where each of its rails is in regulation or was released by a contained fault; in Autumn
the table holds (R319, R320). -/
def State.upStepCheck (s : State) : State :=
  let n := s.seqStep
  if decide (s.phase = 1) && decide (s.seq.sub = .run) && s.isIn .spring &&
      (s.upRails n).all (fun j => s.inReg j || (s.rail j).lostUntilSpring) then
    if n + 1 < s.nup then s.beginUpStep (n + 1) else s.upTableDone
  else s
/-- The gate of a power-up step is passed: the step start (Table SEQ-1 step 3). -/
def State.startUpStep (s : State) : State :=
  let n := s.seqStep
  let s := { s with seq := { s.seq with sub := .run } }
  let s := (s.put F.SQC_STATUS_GATE_WAIT false).trace 0x20 n 0
  let s := forAll (s.upRails n) (fun j t =>
    if (t.rail j).lostUntilSpring then t else t.arm (.railDelay j) (10000 * t.get (F.SQ_UP_UP_DLY j))) s
  s.upStepCheck
/-- The power-up may begin in step 4 of Spring (R72, R133, R333). -/
def State.tryPowerUp (s : State) : State :=
  if s.isIn .spring && decide (s.boot.step = 4) && decide (s.phase = 0) && decide (s.get F.SCH_STATUS_ACTIVE ≠ 0) &&
      (decide (s.get F.BUS_RESERVE_C_BUS = 0) || s.has F.BUS_STATUS_ARMED) &&
      (!s.linkOn || s.has F.AXL_STATUS_CASC_ARMED) then
    (s.setPhase 1).beginUpStep 0
  else s

/-- T5 where step 6 of Spring is reached and its guard holds: every rail of the power-up table in regulation, but for one
released by a contained fault (Table SEA-2, R363). -/
def State.tryT5 (s : State) : State :=
  if s.isIn .spring && decide (s.boot.step = 6) &&
      s.presentRails.all (fun j => decide (s.get (F.SQ_UP_UP j) = 0) || s.inReg j || (s.rail j).lostUntilSpring) then
    s.transition .summer 5
  else s

/-- MARK of the record whose MARK is due is programmed to 0x44 (R374). -/
def State.programMark (s : State) : State :=
  match s.ffl.markSlot with
  | none => s
  | some n => { s.flashProgram (fflBase + 64 * n + 3) [0x44#8] with ffl := { s.ffl with markSlot := none } }
/-- The wait of R76 begins. -/
def State.armRestartWait (s : State) : State := s.arm .restartWait (msec (100 * min 100 (orDefault 5 (s.get F.BUS_CFG_T_RESTART))))
/-- What the end of the power-down table brings: T11 where it preceded a restart; in Autumn, once the first-fault record
is written, DONE, and then T10 or the wait of R76. -/
def State.powerDownDone (s : State) : State :=
  if s.phase ≠ 4 then s
  else if s.seq.forRestart then
    let cnt := if s.seq.restartAuto then s.get F.SYS_STATE_WRST_CNT + 1 else s.get F.SYS_STATE_WRST_CNT
    let auto := s.seq.restartAuto
    let s := (s.programMark.set F.SYS_STATE_WRST_CNT cnt).internalRestart 11
    { s with boot := { s.boot with afterAuto := auto } }
  else if s.isIn .autumn && s.has F.SYS_STATE_COMMITTED && s.ffl.written && !s.has F.SYS_STATE_DONE then
    let s := s.put F.SYS_STATE_DONE true
    if s.seq.winterDue.isSome then s.lateWinter
    else if s.env.vinOk then s.armRestartWait
    else s
  else s
/-- Power-down step is complete where each of its rails is done (Table SEQ-2 step 7). -/
def State.downStepCheck (s : State) : State :=
  let n := s.seqStep
  if decide (s.phase = 3) && decide (s.seq.sub = .run) && (s.downRails n).all (fun j => (s.rail j).stepDone) then
    if n + 1 < s.ndn then s.beginDownStep (n + 1)
    else
      let s := { s with seq := { s.seq with sub := .idle } }
      (s.setPhase 4).powerDownDone
  else s
/-- The gate of a power-down step is passed: the step start (Table SEQ-2 step 3). -/
def State.startDownStep (s : State) : State :=
  let n := s.seqStep
  let s := { s with seq := { s.seq with sub := .run } }
  let s := ((s.put F.SQC_STATUS_GATE_WAIT false).disarm .gateTimeout).trace 0x20 n 0
  let s := forAll (s.downRails n) (fun j t => t.arm (.railDelay j) (10000 * t.get (F.SQ_DN_DN_DLY j))) s
  s.downStepCheck
/-- Rail j is done in its power-down step. -/
def State.railDone (s : State) (j : RailId) : State := (s.modRail j fun r => { r with stepDone := true }).downStepCheck

/-- A step that waits at its gate starts where the gate has been released (R340). -/
def State.gateCheck (s : State) : State :=
  if s.seq.sub ≠ .gate then s
  else if decide (s.phase = 1) && s.isIn .spring && s.upGateOpen s.seqStep then (s.trace 0x22 s.seqStep 0).startUpStep
  else if decide (s.phase = 3) && s.downGateOpen s.seqStep then (s.trace 0x22 s.seqStep 0).startDownStep
  else s
/-- The sequencer waits at a gate. -/
def State.waitAtGate (s : State) : State :=
  let s := { s with seq := { s.seq with sub := .gate } }
  (s.put F.SQC_STATUS_GATE_WAIT true).trace 0x21 s.seqStep 0

/-- A restart of T11 begins with the power-down table (R322); a checkpoint of the day falls due (R436). One already begun
goes on. -/
def State.beginRestart (s : State) (auto : Bool) : State :=
  if s.seq.forRestart then s
  else
    let s := { s with his := { s.his with cpDue := s.his.cpDue || s.his.dayDue.isNone } }
    { s with seq := { s.seq with forRestart := true, restartAuto := auto } }.startPowerDown

end Sys2Proof.Machine
end

