-- ==== Sys2Proof/Machine/Axkan.lean ====
section
/-!
DEFINITION. The cascade line and the Axkan link (R331–R341).
-/
namespace Sys2Proof.Machine

/-- OK of R333: from the seal through Spring, Summer and Autumn until the power-down begins. -/
def State.cascOk (s : State) : Bool :=
  s.has F.PROT_STATUS_SEALED && s.isAny [.spring, .summer, .autumn] && !s.has F.SYS_STATE_COMMITTED && decide (s.phase < 3)
/-- Whether the part is master of the chain. -/
def State.isMaster (s : State) : Bool := s.linkOn && decide (s.chainPos = 0)
/-- Level of CASC_OUT (R333); not driven with the link disabled. -/
def State.cascOut (s : State) : Bool :=
  s.linkOn && s.cascOk && (if s.isMaster then s.axl.arm && !s.axl.chainFault else s.axl.cascHigh)

/-- CASC_ARM (R333): the filtered CASC_IN is high; the first time after the seal arms the check. -/
def execCascArm (s : State) : Out :=
  let s := { s with axl := { s.axl with cascHigh := true } }
  if s.linkOn && s.cascOk && !s.axl.chainFault then .next ((s.put F.AXL_STATUS_CASC_ARMED true).tryPowerUp) else .next s

/-- CASC_FAULT (R334): CASC_IN low for 1 µs on an armed part; in Deep Winter nothing classifies it (R463). -/
def execCascFault (s : State) : Out :=
  let s := { s with axl := { s.axl with cascHigh := false } }
  if s.has F.AXL_STATUS_CASC_ARMED && !s.isIn .deepWinter then
    let s := if s.isMaster then { s with axl := { s.axl with chainFault := true } } else s
    .next ((s.flag G.AXL_CASC).raise 0xE904)
  else .next s

/-- CHAIN_ID as 8 bytes, little-endian. -/
def State.chainId (s : State) : List Byte := leBytes 4 (s.get F.AXL_ID0_ID_LO) ++ leBytes 4 (s.get F.AXL_ID1_ID_HI)
/-- Session root key of the link. -/
def State.linkRoot (s : State) : List Byte := s.rootKey (s.get F.AXL_CFG_ROOT)
/-- K_J (R338). -/
def State.joinKey (s : State) : List Byte := kdf s.linkRoot "AXKAN JOIN" s.chainId
/-- K_S under a value of BOOTS_M (R338). -/
def State.linkKey (s : State) (boots : Nat) : List Byte := kdf s.linkRoot "AXKAN" (s.chainId ++ leBytes 4 boots)
/-- MAC of a frame whose bits 95:32 are `top` (R338): with CYC for SYNC and REPORT. -/
def State.linkMac (s : State) (key : List Byte) (cyc : Option Nat) (top : Nat) : Nat :=
  let c := match cyc with
    | none => []
    | some v => leBytes 6 v
  beNat ((cmac key (s.chainId ++ c ++ beBytes 8 top)).take 4)
/-- A frame of its bits 95:32 and its MAC. -/
def frameOf (top mac : Nat) : BitVec 96 := BitVec.ofNat 96 (top * 2 ^ 32 + mac)
/-- Bits 95:32 of a frame. -/
def frameTop (f : BitVec 96) : Nat := f.toNat / 2 ^ 32
/-- TYPE of a frame. -/
def frameType (f : BitVec 96) : Nat := f.toNat / 2 ^ 92
/-- SRC of a frame. -/
def frameSrc (f : BitVec 96) : Nat := f.toNat / 2 ^ 90 % 4

/-- PH of the part's own reports (R337). -/
def State.ownPh (s : State) : Nat :=
  if s.phase = 1 then 1 else if s.phase = 2 then 2 else if s.phase = 3 || s.phase = 4 then 3 else 0
/-- Bits 87:80 of the part's own REPORT (R340). -/
def State.ownStep (s : State) : Nat :=
  s.ownPh * 64 + b2n (s.has F.SQC_STATUS_GATE_WAIT) * 32 + b2n (decide (s.phase = 4)) * 16 + s.seqStep % 16
/-- What the master knows of every position in a cycle: bits 87:80 of the reports, its own first; none where one is
missing. -/
def State.reportsOf (s : State) (cyc : Nat) : Option (List Nat) :=
  ((List.range s.chainSize).drop 1).foldr (fun n acc =>
    match acc, s.axl.peers.find? fun p => decide (p.1 = n) && decide (p.2.2.2 = cyc) with
    | some l, some p => some (p.2.1 % 256 :: l)
    | _, _ => none) (some [s.ownStep])
/-- The least AT among reports of a phase, or 15. -/
def leastAt (l : List Nat) (ph : Nat) (skipDone : Bool) : Nat :=
  (l.filter fun b => decide (b / 64 = ph) && !(skipDone && b.testBit 4)).foldl (fun m b => min m (b % 16)) 15
/-- The release fields of a cycle (R340): UPV, GO_UP, DNV, GO_DN, from the reports of the cycle before. -/
def State.releaseFields (s : State) (cyc : Nat) : State :=
  let r := if s.axl.lost then none else s.reportsOf cyc
  let up := match r with
    | none => (false, 0)
    | some l => (l.all fun b => decide (b / 64 = 1) || decide (b / 64 = 2), leastAt l 1 false)
  let dn := match r with
    | none => (false, 0)
    | some l => (l.all fun b => decide (b / 64 = 3), leastAt l 3 true)
  ((s.put F.AXL_STATUS_UPV up.1).set F.AXL_STATUS_GO_UP up.2).put F.AXL_STATUS_DNV dn.1 |>.set F.AXL_STATUS_GO_DN dn.2

/-- Cycles since the latest valid frame from position n (R353, R354): a slave hears the master before its own window counts
the cycle. -/
def State.linkAge (s : State) (n : Nat) : Nat :=
  if s.isMaster then s.axl.sinceValid.getD n 0 else s.axl.sinceValid.getD n 0 - 1
/-- Whether the link is served: enabled, sealed, and its engine running (Table ARC-1, R333). -/
def State.linkServed (s : State) : Bool := s.linkOn && s.has F.PROT_STATUS_SEALED && s.engine 10
/-- One more cycle has passed without a valid frame of every position. -/
def State.ageLink (s : State) : State :=
  { s with axl := { s.axl with sinceValid := s.axl.sinceValid.map fun n => min 255 (n + 1) } }
/-- A valid frame of position n. -/
def State.heard (s : State) (n : Nat) (b95 b79 : Nat) (cyc : Nat) : State :=
  let s := { s with axl := { s.axl with sinceValid := s.axl.sinceValid.set n 0,
                                        peers := (n, b95, b79, cyc) :: s.axl.peers.filter fun p => decide (p.1 ≠ n) } }
  let back := if s.isMaster then ((List.range s.chainSize).drop 1).all fun n => Nat.blt (s.linkAge n) 4 else Nat.blt (s.linkAge 0) 4
  if back then { s with axl := { s.axl with lost := false } } else s

/-- AXKAN_CYCLE (R336, R339, R340): a superframe of the master begins; a JOIN cycle sends no release fields. -/
def execAxkanCycle (s : State) : Out :=
  if s.isMaster && s.linkServed then
    let prev := s.axl.cyc
    let cyc := (prev + 1) % 2 ^ 48
    let s := s.ageLink
    let s := { s with axl := { s.axl with cyc := cyc, reported := [], kS := s.linkKey s.boot.boots } }
    let s := if s.chainSize = 1 && s.isIn .spring then { s with axl := { s.axl with arm := true } } else s
    let join := if s.axl.arm then decide (cyc % 64 = 0) else decide (cyc % 2 = 0)
    if join then
      let top := 2 * 2 ^ 60 + s.boot.boots % 2 ^ 32
      .next { s with axl := { s.axl with sent := [frameOf top (s.linkMac s.joinKey none top)] } }
    else
      let s := s.releaseFields prev
      let f :=
        let top := 1 * 2 ^ 60 + b2n (s.has F.AXL_STATUS_UPV) * 2 ^ 57 + b2n (s.has F.AXL_STATUS_DNV) * 2 ^ 56 +
          s.get F.AXL_STATUS_GO_UP * 2 ^ 52 + s.get F.AXL_STATUS_GO_DN * 2 ^ 48 + cyc
        frameOf top (s.linkMac s.axl.kS (some cyc) top)
      .next { s with axl := { s.axl with sent := [f] } }.gateCheck
  else .next s

/-- AXKAN_SLAVE_WINDOW (R336, R339): a joined slave sends its REPORT. -/
def execAxkanSlaveWindow (s : State) : Out :=
  if s.linkServed && decide (s.chainPos ≠ 0) then
    let s := s.ageLink
    if s.axl.joined then
      let hi := s.get F.SYS_STATE_STATE * 2 ^ 12 + b2n (s.has F.SYS_STATE_COMMITTED) * 2 ^ 11 + b2n s.axl.cascHigh * 2 ^ 10
      let top := 8 * 2 ^ 60 + s.chainPos * 2 ^ 58 + s.ownStep * 2 ^ 48 + hi * 2 ^ 32 + s.axl.repCyc % 2 ^ 32
      .next { s with axl := { s.axl with sent := [frameOf top (s.linkMac s.axl.kS (some s.axl.repCyc) top)] } }
    else .next s
  else .next s

/-- A frame that fails its MAC (R339). -/
def State.macFailed (s : State) : State := (s.flag G.AXL_MAC).warn 0x2901
/-- A frame whose CYC fails its check (R339). -/
def State.cycFailed (s : State) : State := (s.flag G.AXL_CYC_BAD).warn 0x2903

/-- AXKAN_SYNC (R339): a slave receives a SYNC frame. -/
def execAxkanSync (f : BitVec 96) (s : State) : Out :=
  if s.linkServed && decide (s.chainPos ≠ 0) && decide (frameType f = 1) then
    let top := frameTop f
    let cyc := top % 2 ^ 48
    if s.axl.bootsM.isNone || decide (f.toNat % 2 ^ 32 ≠ s.linkMac s.axl.kS (some cyc) top) || decide (frameSrc f ≠ 0) then
      .next s.macFailed
    else if cyc ≤ s.axl.cyc then .next s.cycFailed
    else
      let s := { s with axl := { s.axl with cyc := cyc, repCyc := cyc, joined := true } }
      let s := s.heard 0 (top / 2 ^ 48) (top / 2 ^ 32 % 2 ^ 16) cyc
      let s := (s.put F.AXL_STATUS_UPV (top.testBit 57)).put F.AXL_STATUS_DNV (top.testBit 56)
      let s := (s.set F.AXL_STATUS_GO_UP (top / 2 ^ 52)).set F.AXL_STATUS_GO_DN (top / 2 ^ 48)
      .next s.gateCheck
  else .next s

/-- AXKAN_JOIN (R339): a slave receives a JOIN frame; a new BOOTS_M gives a new K_S and forgets the last CYC. -/
def execAxkanJoin (f : BitVec 96) (s : State) : Out :=
  if s.linkServed && decide (s.chainPos ≠ 0) && decide (frameType f = 2) then
    let top := frameTop f
    if decide (f.toNat % 2 ^ 32 ≠ s.linkMac s.joinKey none top) || decide (frameSrc f ≠ 0) then .next s.macFailed
    else
      let boots := top % 2 ^ 32
      let s := if s.axl.bootsM = some boots then { s with axl := { s.axl with repCyc := s.axl.cyc + 1 } }
        else { s with axl := { s.axl with bootsM := some boots, kS := s.linkKey boots, cyc := 0, repCyc := 1, joined := false } }
      .next (s.heard 0 (top / 2 ^ 48) (top / 2 ^ 32 % 2 ^ 16) s.axl.cyc)
  else .next s

/-- AXKAN_REPORT (R339): the master receives a REPORT; all positions in one cycle set ARM in Spring (R333). -/
def execAxkanReport (f : BitVec 96) (s : State) : Out :=
  if s.isMaster && s.linkServed && decide (frameType f = 8) then
    let top := frameTop f
    let n := frameSrc f
    if top % 2 ^ 32 ≠ s.axl.cyc % 2 ^ 32 then .next s.cycFailed
    else if f.toNat % 2 ^ 32 ≠ s.linkMac s.axl.kS (some s.axl.cyc) top then .next s.macFailed
    else if n = 0 || Nat.ble s.chainSize n then .next s
    else
      let s := s.heard n (top / 2 ^ 48) (top / 2 ^ 32 % 2 ^ 16) s.axl.cyc
      let s := { s with axl := { s.axl with reported := n :: s.axl.reported } }
      let all := ((List.range s.chainSize).drop 1).all fun p => s.axl.reported.contains p
      .next (if all && s.isIn .spring then { s with axl := { s.axl with arm := true } } else s)
  else .next s

/-- AXKAN_LINK_LOST (R341): no valid frame from the master, or from some position, for 4 cycles; the master's next SYNC frames
then carry UPV = DNV = 0. -/
def execAxkanLinkLost (s : State) : Out :=
  let silent := if s.isMaster then ((List.range s.chainSize).drop 1).any fun n => Nat.ble 4 (s.linkAge n) else Nat.ble 4 (s.linkAge 0)
  if s.linkServed && silent && !s.axl.lost then
    let s := { s with axl := { s.axl with lost := true } }
    .next ((s.flag G.AXL_LOST).raise 0xA902)
  else .next s

end Sys2Proof.Machine
end

