-- ==== Sys2Proof/Machine/HisOps.lean ====
section
/-!
DEFINITION. The history archive as several commands use it (TLM, R433–R437): the daily record of Table TLM-5, the two rings
of R435, and the writing of records and checkpoints.
-/
namespace Sys2Proof.Machine

/-- Slots of the day ring (R435). -/
def daySlots : Nat := 23552
/-- Slots of the checkpoint ring. -/
def cpSlots : Nat := 1024
/-- Offset of a day-ring slot. -/
def dayBase (n : Nat) : Nat := archiveBase + 512 * n
/-- Offset of a checkpoint-ring slot. -/
def cpBase (n : Nat) : Nat := 0xF80000 + 512 * n
/-- The accumulator's worth of 1 mWh: 3.6 × 10^14 / 1,024 µW frames (R434). -/
def mwhUnit : Nat := 351562500000
/-- Whether run time is counted and the archive kept (R433, R437), with the telemetry codec disabled too (R426). -/
def State.archiveOn (s : State) : Bool := !s.unitOff 2 && s.codecServed && s.isAny [.spring, .summer, .autumn, .winter, .offSeason]

/-- RCON and RMETH of port k: the lower median of the day and its method (R251). -/
def State.dayContact (s : State) (k : PortId) : Nat × Nat :=
  let c := (s.port k).chk
  if !c.dayP.isEmpty then (lowerMedian c.dayP, 1) else if !c.dayR.isEmpty then (lowerMedian c.dayR, 2) else (0xFFFF, 0)
/-- Bytes 0x000–0x1FB of a record of the day (Table TLM-5) with a MAGIC. -/
def State.dayBody (s : State) (magic : Nat) : List Byte :=
  let h := s.his
  let gone (k : PortId) : Bool := !s.portPresent k
  let ports (f : PortId → List Byte) : List Byte := modulePorts.flatMap f
  let flags := b2n (s.unitOff 5) + 2 * b2n h.dropped + 256 * (s.boot.portsAbsent % 256)
  leBytes 4 magic ++ leBytes 4 h.dayno ++ leBytes 8 s.lifeNow ++ leBytes 4 s.boot.pwrCycles ++ leBytes 2 (min 0xFFFF h.gaps) ++
  leBytes 2 flags ++
  ports (fun k => leBytes 4 (if gone k then 0xFFFFFFFF else h.acc.getD k.val 0 / mwhUnit)) ++
  ports (fun k => leBytes 2 (if gone k then 0xFFFF else h.peak.getD k.val 0)) ++
  ports (fun k => leBytes 2 (s.dayContact k).1) ++
  leBytes 2 (modulePorts.foldl (fun m k => m + (s.dayContact k).2 * 4 ^ k.val) 0) ++
  leBytes 2 (h.tmax.getD 0) ++ leBytes 2 (h.vinMin.getD 0) ++ leBytes 2 0 ++
  h.histT.flatMap (leBytes 2) ++ h.histI.flatMap (leBytes 2) ++
  ports (fun k => leBytes 8 (h.acc.getD k.val 0 % mwhUnit)) ++
  (if magic = 0x4348514B then leBytes 4 h.secs else leBytes 4 0) ++ leBytes 56 0
/-- A day record or checkpoint with its CRC. -/
def State.dayBytes (s : State) (magic : Nat) : List Byte := s.dayBody magic ++ leBytes 4 (crc32 (s.dayBody magic))
/-- Whether 512 bytes are a valid record of a MAGIC. -/
def dayValid (magic : Nat) (b : List Byte) : Bool := leAt b 0 4 == magic && leAt b 0x1FC 4 == crc32 (b.take 0x1FC)

/-- A failed read-back or erase of the archive (R435). -/
def State.archiveFail (s : State) : State := (s.flag G.HIS_WRITE_FAIL).raise 0xAA15
/-- The sector of a ring that starts at `base` and holds `slots` slots, after the one whose last slot `n` is, is erased
(R435). -/
def State.eraseNext (s : State) (base slots n : Nat) (ok : Bool) : State :=
  if n % 8 = 7 then
    let a := base + 4096 * ((n / 8 + 1) % (slots / 8))
    if ok then s.flashErase a 4096 else (s.spoil a 4096).archiveFail
  else s
/-- A checkpoint of the day so far is written (R436); `ok` is its read-back, `eraseOk` that of an erase it brings. -/
def State.storeCheckpoint (s : State) (ok eraseOk : Bool) : State :=
  if s.archiveOn && s.his.open' then
    let n := s.his.cpSlot
    let b := s.dayBytes 0x4348514B
    let s := { s with his := { s.his with cpDue := !ok, cpSlot := (n + 1) % cpSlots } }
    let s := if ok then s.flashProgram (cpBase n) b else (s.spoil (cpBase n) 512).archiveFail
    s.eraseNext (cpBase 0) cpSlots n eraseOk
  else s
/-- HIS_DAY follows the day under way (R442). -/
def State.showDay (s : State) : State := (s.set F.HIS_DAY_DAY_S s.his.secs).set F.HIS_DAY_GAPS (min 255 s.his.gaps)

end Sys2Proof.Machine
end

