-- ==== Sys2Proof/Machine/Bus.lean ====
section
/-!
DEFINITION. The input bus (chapter BUS): the comparators on VIN, the timing of ACSNS, the judgement of R71, the return of
the supply and the restart after a power-down.
-/
namespace Sys2Proof.Machine

/-- VIN_OVP_RISE (R61, R86): every port converter stops switching; the switches stay. -/
def execVinOvpRise (s : State) : Out :=
  if s.env.vinOvp then .next s
  else
    let s := { s with env := { s.env with vinOvp := true } }
    let s := forAll modulePorts (fun k t => t.standConverter k) s
    .next ((((s.disarm .busIsolation).arm .vinOvp (msec 10)).flag G.BUS_OVP).classify 0x6005)
/-- VIN_OVP_FALL (R61): switching resumes, after 1.0 s where the bus is isolated (Table FLT-3). -/
def execVinOvpFall (s : State) : Out :=
  if s.env.vinOvp then
    let s := { s with env := { s.env with vinOvp := false } }.disarm .vinOvp
    .next (s.when s.bus.isoHold fun t => t.arm .busIsolation (secs 1))
  else .next s
/-- VIN_OVP_PERSIST (R86). -/
def execVinOvpPersist (s : State) : Out := .next (s.onElapse .vinOvp fun t => t.classify 0xE007)

/-- A module port below VIN_OK (R61, R644): converter stopped, switch opened, no shed; its context is cleared and it
enters step 4 of Table PDP-5. -/
def State.vinLostPort (s : State) (k : PortId) : State :=
  if s.switchDriven k then ((s.softOpen k).clearPd k).modPd k fun p => { p with hr := .reapply }
  else s.stopConverter k
/-- Port 9 below VIN_OK (R178): P9_SWG opens, toggling stops and Rd is presented. -/
def State.vinLostPort9 (s : State) : State :=
  let k := port9
  let s := (s.disarmAll [.drp, .drpTry])
  if s.astate k = 0 || s.astate k = 8 then s else ((s.softOpen k).forgetPartner k).unattached k
/-- VIN_OK_FALL (R61, R76, R178, R644). -/
def execVinOkFall (s : State) : Out :=
  if s.env.vinOk then
    let s := { s with env := { s.env with vinOk := false } }.disarm .restartWait
    .next (forAll modulePorts (fun k t => t.vinLostPort k) s).vinLostPort9
  else .next s
/-- CMD of the response frame that words hold (Table HIF-4). -/
def respCmd (ws : List Word) : Nat := wordAt ws 0 % 2 ^ 16
/-- Whether an update block (command 0x0301) is in progress or its response not yet with the host that sent it (Table SEA-2,
"When things fall together"). -/
def State.blockOpen (s : State) : Bool :=
  s.hif.current.any (fun f => wordAt f.words 0 % 2 ^ 16 == 0x0301) ||
  s.hif.answer.any (fun a => wordAt a.frame.words 0 % 2 ^ 16 == 0x0301) ||
  s.mgt.toList.any fun m => m.out.any fun r => r.1 && respCmd r.2 == 0x0301
/-- T14 (Table SEA-2) with its checkpoint of R436, once no update block is in progress any more. -/
def State.tryT14 (s : State) : State :=
  if s.hif.restartDue && s.isIn .offSeason && !s.blockOpen then (s.storeCheckpoint true true).internalRestart 14 else s
/-- VIN_OK_RISE (R178, R51, T14 in Off-season, R76): the sink switch turns off, so that the port 9 supply no longer reaches
VSVC. DEDUCED (entry 98): VSVC then falls below 4.40 V. -/
def execVinOkRise (s : State) : Out :=
  if s.env.vinOk then .next s
  else
    let s := { s with env := { s.env with vinOk := true, vinUp := true }, bus := { s.bus with sinkPresent := false } }
    if s.isIn .offSeason then .next { s with hif := { s.hif with restartDue := true } }.tryT14
    else
      let s := if s.astate port9 = 1 then s.unattached port9 else s
      .next (s.when (s.isIn .autumn && s.has F.SYS_STATE_DONE) State.armRestartWait)

/-- SINK_SUPPLY_PRESENT (R180, R51): where the part has no other supply, it starts from VSVC. -/
def execSinkSupplyPresent (s : State) : Out :=
  .next { s with bus := { s.bus with sinkPresent := true, step := if s.bus.step = 0 then 1 else s.bus.step } }

/-- Whether ACSNS is timed (R67, R72). -/
def State.acsnsOn (s : State) : Bool := s.has F.BUS_CFG_ACSNS_AUTO && decide (s.get F.BUS_RESERVE_C_BUS ≠ 0)
/-- Whether an interval in fabric cycles lies in the 50 Hz window, or in the 60 Hz window (Table BUS-4). -/
def inWindow (sixty : Bool) (iv : Nat) : Bool :=
  if sixty then Nat.ble 750000 iv && Nat.ble iv 910000 else Nat.ble 920000 iv && Nat.ble iv 1100000
/-- The tracked period in fabric cycles: the mean of the last 8 intervals (R67), truncated to whole cycles; HALF_US shows it
truncated to whole microseconds. DESIGN CHOICE (entry 99): the manual states no rounding of either. -/
def State.tracked (s : State) : Nat := s.bus.intervals.foldl (· + ·) 0 / 8
/-- Mains-loss detection runs from this edge: 1.5 tracked periods. -/
def State.armMainsLoss (s : State) : State := s.arm .mainsLoss (s.tracked * 3 / 2)
/-- ACSNS locks in a window (Table BUS-4). -/
def State.acsnsLock (s : State) (sixty : Bool) : State :=
  let s := (s.put F.BUS_STATUS_MAINS_LOCK true).put F.BUS_STATUS_MAINS_60HZ sixty
  { s with bus := { s.bus with lossArmed := true, last60 := sixty, badRun := 0 } }
/-- Lock is lost: detection is disarmed until it is regained. -/
def State.acsnsUnlock (s : State) : State :=
  let s := ((s.put F.BUS_STATUS_MAINS_LOCK false).put F.BUS_STATUS_MAINS_60HZ false).put F.BUS_STATUS_MAINS_LOST false
  { (s.set F.BUS_STATUS_HALF_US 0).disarm .mainsLoss with bus := { s.bus with lossArmed := false, badRun := 0 } }
/-- An interval closed while a loss has not yet returned: four in a row within the window last locked end it. -/
def State.returnInterval (s : State) (iv : Nat) : State :=
  let n := if inWindow s.bus.last60 iv then s.bus.retCount + 1 else 0
  let s := { s with bus := { s.bus with retCount := n } }
  if n = 4 then
    { s.put F.BUS_STATUS_MAINS_LOST false with
      bus := { s.bus with mainsBack := true, lossArmed := s.has F.BUS_STATUS_MAINS_LOCK } }
  else s
/-- An interval is judged (Table BUS-4). -/
def State.judgeInterval (s : State) (iv : Nat) : State :=
  let b := s.bus
  let r50 := if inWindow false iv then b.run50 + 1 else 0
  let r60 := if inWindow true iv then b.run60 + 1 else 0
  let bad := if s.has F.BUS_STATUS_MAINS_LOCK && !inWindow b.last60 iv then b.badRun + 1 else 0
  let s := { s with bus := { b with intervals := (iv :: b.intervals).take 8, run50 := r50, run60 := r60, badRun := bad } }
  let s := s.when (!b.mainsBack) fun t => t.returnInterval iv
  let s := if s.has F.BUS_STATUS_MAINS_LOCK then s.when (bad == 4) State.acsnsUnlock
    else if Nat.ble 8 r50 then s.acsnsLock false
    else if Nat.ble 8 r60 then s.acsnsLock true else s
  let s := s.when (s.has F.BUS_STATUS_MAINS_LOCK) fun t => t.set F.BUS_STATUS_HALF_US (t.tracked / 100)
  s
/-- ACSNS_EDGE (R67, Table BUS-4): a qualified edge `dt` fabric cycles from the present moment. -/
def execAcsnsEdge (dt : Nat) (s : State) : Out :=
  if s.acsnsOn then
    let s := s.advanceTo (s.now + dt)
    match s.bus.lastEdge with
    | none => .next { s with bus := { s.bus with lastEdge := some s.now } }
    | some e =>
      let iv := s.now - e
      if s.has F.BUS_STATUS_MAINS_LOCK && Nat.ble (2 * iv) s.tracked then .next s
      else
        let s := { s with bus := { s.bus with lastEdge := some s.now } }
        let s := s.when (s.armed .mainsReturn) fun t => t.arm .mainsReturn (secs 1)
        let s := if s.bus.skipNext then { s with bus := { s.bus with skipNext := false, retCount := 0, run50 := 0, run60 := 0 } }
          else s.judgeInterval iv
        .next (s.when s.bus.lossArmed State.armMainsLoss)
  else .next s
/-- MAINS_LOSS (R67, R86): 1.5 tracked periods without a qualified edge while locked. -/
def execMainsLoss (s : State) : Out :=
  .next (s.onElapse .mainsLoss fun s =>
    if s.bus.lossArmed && s.has F.BUS_STATUS_MAINS_LOCK then
      let s := { s.put F.BUS_STATUS_MAINS_LOST true with
        bus := { s.bus with lossArmed := false, skipNext := true, retCount := 0, mainsBack := false, badRun := 0,
                            mainsEdge := !s.bus.mainsOff } }
      (s.flag G.BUS_MAINS).classify 0x2001
    else s)
/-- ACSNS_LOCK_TIMEOUT (R86): 2 s after the triggers were armed. -/
def execAcsnsLockTimeout (s : State) : Out :=
  .next (s.onElapse .acsnsLock fun t => if t.acsnsOn && !t.has F.BUS_STATUS_MAINS_LOCK then t.warn 0x2004 else t)

/-- T7: back to the state Autumn was entered from; shed ports are restored by the allocator, Spring resumes (R75).
DESIGN CHOICE (entry 100): SPRING_LIMIT counts on from T1 through an Autumn entered from Spring, and T7 does not start it
again (R40 counts it from Spring's entry and the manual says nothing of T7). -/
def State.supplyReturns (s : State) : State :=
  let d := if s.get F.SYS_STATE_PREV = 1 then DevState.spring else .summer
  let s := { s with bus := { s.bus with restorePrio := some 7, cause := 0, retSince := none } }.disarm .mainsReturn
  let s := s.transition d 7
  (s.upStepCheck.gateCheck).tryPowerUp.tryT5
/-- MAINS_RETURN_TIMEOUT (R86): no edge for 1 s after Autumn by mains loss, with VIN at RET_MV throughout. -/
def execMainsReturnTimeout (s : State) : Out :=
  .next (s.onElapse .mainsReturn fun s =>
    if s.isIn .autumn && decide (s.bus.cause = 2) && !s.has F.SYS_STATE_COMMITTED then
      let s := { s with bus := { s.bus with mainsOff := true } }.raise 0xA006
      s.when (s.isIn .autumn) State.supplyReturns
    else s)

/-- T6 with its cause: 1 sag, 2 mains, 3 shutdown or commit. During the supervisor pause it waits (BUS, UPD). -/
def State.requestAutumn (s : State) (cause : Nat) : State :=
  if s.isAny [.spring, .summer] then
    if s.upd.paused then
      if s.bus.autumnDue.isSome then s else { s with bus := { s.bus with autumnDue := some cause } }
    else
      let s := { s with bus := { s.bus with cause := cause, restorePrio := none, autumnDue := none } }
      let s := s.when (cause == 2) fun t => t.arm .mainsReturn (secs 1)
      (s.transition .autumn 6).abandonHandover
  else s
/-- Shed every module port of priority up to p (R71, R73). -/
def State.shedUpTo (s : State) (p : Nat) : State :=
  forAll (s.presentModulePorts.filter fun k => Nat.ble (s.get (F.BUD_PORT_PRIO k)) p) (fun k t =>
    if t.bit F.BUS_STATUS_SHED k.val then t else t.shed k) s
/-- Shedding threshold of priority p in mV. -/
def State.shedMv (s : State) (p : Nat) : Nat :=
  if p % 2 = 0 then s.get (F.BUS_THR_SHED_MV0 (p / 2)) else s.get (F.BUS_THR_SHED_MV1 (p / 2))
/-- A counter that counts to 2 while a condition holds (R71). -/
def sat2 (n : Nat) (c : Bool) : Nat := if c then min 2 (n + 1) else 0
/-- The counts of R71 move with the frame's lowest VIN. -/
def State.countBus (s : State) (v : Nat) : State :=
  { s with bus := { s.bus with
      lowC := sat2 s.bus.lowC (Nat.blt v (s.get F.BUS_THR_COMMIT_MV)),
      lowS := (List.range 8).map fun p => sat2 (s.bus.lowS.getD p 0) (Nat.blt v (s.shedMv p)) } }
/-- Arming under R72: from the first frame of Spring with VIN at RET_MV, once boot code has written the thresholds. -/
def State.armBus (s : State) (v : Nat) : State :=
  let ret := s.get F.BUS_THR_RET_MV
  if s.isIn .spring && !s.has F.BUS_STATUS_ARMED && decide (ret ≠ 0) && Nat.ble ret v then
    let s := s.put F.BUS_STATUS_ARMED true
    (s.when s.acsnsOn fun t => t.arm .acsnsLock (secs 2)).tryPowerUp
  else s
/-- Whether the triggers act (R72). -/
def State.triggersAct (s : State) : Bool := s.has F.BUS_STATUS_ARMED && s.isAny [.spring, .summer, .autumn]
/-- The commit of R71 and R74. -/
def State.judgeCommit (s : State) : State :=
  if decide (s.bus.lowC = 2) && !s.has F.SYS_STATE_COMMITTED then (s.commit).requestAutumn 3 else s
/-- An energy trigger requests Autumn (R71, R86). -/
def State.judgeSag (s : State) : State :=
  if decide (s.bus.lowS.getD 0 0 = 2) && s.isAny [.spring, .summer] && s.bus.autumnDue.isNone then
    ((s.flag G.BUS_SAG).warn 0x2002).requestAutumn 1
  else s
/-- A mains loss of this frame sheds and requests Autumn (R71, R72). -/
def State.judgeMains (s : State) (edge : Bool) : State :=
  if edge && s.has F.BUS_STATUS_MAINS_LOCK then
    let e := s.get F.BUS_CFG_SHED_ENTRY
    (s.when (Nat.ble e 7) fun t => t.shedUpTo e).requestAutumn 2
  else s
/-- The actions of R71 in a frame. -/
def State.busActs (s : State) (edge : Bool) : State :=
  let s := s.judgeCommit
  let s := forAll (List.range 8) (fun p t => t.when (t.bus.lowS.getD p 0 == 2) fun u => u.shedUpTo p) s
  s.judgeSag.judgeMains edge
/-- VIN at RET_MV in every frame, an overshoot counting toward no return (R75); below it the second of 0xA006 starts
again, which an overshoot, at RET_MV throughout, does not (R86). -/
def State.trackReturn (s : State) (v : Nat) : State :=
  let high := Nat.ble (s.get F.BUS_THR_RET_MV) v
  let s := s.when (!high && s.armed .mainsReturn) fun t => t.arm .mainsReturn (secs 1)
  { s with bus := { s.bus with retSince := if high && !s.env.vinOvp then some (s.bus.retSince.getD s.now) else none } }
/-- Whether the supply counts as returned (R75). -/
def State.returned (s : State) : Bool :=
  match s.bus.retSince with
  | none => false
  | some t => Nat.ble (t + msec 10) s.now && (s.bus.cause != 2 || s.bus.mainsBack)
/-- T7 where the supply has returned before the commit point. -/
def State.judgeReturn (s : State) : State :=
  if s.isIn .autumn && !s.has F.SYS_STATE_COMMITTED && s.returned then s.supplyReturns else s
/-- VDRV enters dropout (R64): VDRV_DROP, and warning 0x2101 where it was 0. -/
def State.enterDropout (s : State) : State :=
  if s.has F.BUS_STATUS_VDRV_DROP then s else (s.put F.BUS_STATUS_VDRV_DROP true).classify 0x2101
/-- The input-bus isolation of Table FLT-3 ends; VDRV is in dropout below 7.8 V, while its buck runs (R64). -/
def State.releaseBus (s : State) (v : Nat) : State :=
  let free := match s.deadline .busIsolation with
    | none => false
    | some d => Nat.ble d s.now
  let s := if free then { s.disarm .busIsolation with bus := { s.bus with isoHold := false } } else s
  if s.vdrvBuck && Nat.blt v 7800 then s.enterDropout else s.put F.BUS_STATUS_VDRV_DROP false
/-- A frame's lowest VIN enters the present allocator period, 128 frames at most; a further frame begins a period (R297). -/
def noteFrame (v : Nat) (l : List (Nat × Nat)) : List (Nat × Nat) :=
  match l with
  | (n, m) :: rest =>
    if n = 0 then (1, v) :: rest else if n < 128 then (n + 1, min m v) :: rest else ((1, v) :: l).take 8
  | [] => [(1, v)]
/-- The frame's lowest non-discarded VIN result in mV (R71, R123), class H. DESIGN CHOICE (entry 101): in a frame without one,
of which the manual says nothing, the last one stands. -/
def State.frameVin (s : State) : Nat :=
  match s.msr.vinLow with
  | none => s.get F.BUS_VIN_VIN_MV
  | some c => codeH c
/-- Whether VIN counts as above UVLO while the part runs from VSVC, where no comparator's event tells it: from the frame's
result, by the outer limits of Table BUS-1. -/
def State.seeUvlo (s : State) (v : Nat) : State :=
  if ! s.bus.sinkPresent then s
  else { s with env := { s.env with vinUp := if v < 4250 then false else if 4900 ≤ v then true else s.env.vinUp } }
/-- BUS_JUDGEMENT (R71, R72, R75): the frame's lowest VIN result is judged. -/
def execBusJudgement (s : State) : Out :=
  let edge := s.bus.mainsEdge
  let v := s.frameVin
  let s := { s.set F.BUS_VIN_VIN_MV v with
    env := { s.env with vinMv := v }, bus := { s.bus with mainsEdge := false }, msr := { s.msr with vinLow := none },
    bud := { s.bud with vinMins := noteFrame v s.bud.vinMins } }
  let s := s.seeUvlo v
  let s := ((s.releaseBus v).countBus v).armBus v
  let s := s.when s.triggersAct fun t => t.busActs edge
  .next ((s.trackReturn v).judgeReturn)

/-- RESTART_WAIT_ELAPSED (R76): T8, where DONE is set and no fatal fault waits. -/
def execRestartWaitElapsed (s : State) : Out :=
  .next (s.onElapse .restartWait fun s =>
    if s.isIn .autumn && s.has F.SYS_STATE_DONE && s.seq.winterDue.isNone then s.internalRestart 8 else s)

/-- VDRV_DROPOUT (R64, R86). -/
def execVdrvDropout (s : State) : Out := .next s.enterDropout

end Sys2Proof.Machine
end

