-- ==== Sys2Proof/Machine/Boot.lean ====
section
/-!
DEFINITION. From reset to the seal (chapter BOT, with SEA and the OTP read of SEC): resets, supplies and straps, the steps
of ROM boot, the steps of Spring, slot-table writes, life records, and the timers of the device states.
-/
namespace Sys2Proof.Machine

/-- POWER_ON_RESET (R643, R467): the supplies start again from step 1; what only an internal restart keeps is cleared, and
the VISL domain too where VISL was lost. -/
def execPowerOnReset (vislLost : Bool) (s : State) : Out :=
  let t := s.restartAll
  let t := { t with timers := [], seq := {}, bus := { step := 1 }, boot := { afterPor := true },
                    env := { t.env with vinOk := false, vinOvp := false, vinUp := true } }
  let t := forAll [R.SYS_STRAP, R.SYS_SEQ_PREV_HSEQ, R.SYS_SEQ_PREV_DSEQ, R.SQC_TRC_HEAD] (fun a u => u.setWord a 0) t
  let t := t.setWord R.SYS_STATE 0
  .next (if vislLost then
      let t := forAll [R.SAF_TRIP, R.SAF_TRIP_TBL, R.SAF_TRIP_TBH] (fun a u => u.setWord a 0) t
      { t.set F.SAF_STATUS_DW_COUNT 0 with island := {} }
    else t)
/-- UVLO_FALL (R61, R643): the bucks stop and the part is held in reset. The node that UVLO judges is VDRV's while the port 9
supply is present (R180), so that supply is gone too. -/
def execUvloFall (s : State) : Out := .next s.supplyLost
/-- RESET_IN_N (R631, R467, R553): T0; every field of SYS_STATE is cleared, the VISL domain and the retained SRAM stay. Where
the supplies do not stand, the part stays in reset until they do (R61, Table BUS-3). -/
def execResetInN (s : State) : Out := .next (s.endEpoch.restartAll.setWord R.SYS_STATE 0)
/-- SUPPLY_STARTUP_STEP (R65, Table BUS-3): with step 3 complete every supply stands and reset is released. -/
def execSupplyStartupStep (s : State) : Out :=
  let n := s.bus.step
  if n = 1 ∨ n = 2 then .next { s with bus := { s.bus with step := n + 1 } }
  else if n = 3 then .next (({ s with bus := { s.bus with step := 5 } }.arm .bootTimer (msec 40)).arm .clockCheck (msec 5))
  else .next s

/-- Whether ROM boot stands at a step of Table BOT-5, reset released. -/
def State.romAt (s : State) (n : Nat) : Bool := s.isIn .romBoot && decide (s.bus.step = 5) && decide (s.boot.step = n)
/-- The steps of ROM boot and of Spring move on. -/
def State.bootStep (s : State) (n : Nat) : State := { s with boot := { s.boot with step := n } }
/-- The majority of three samples (R53). -/
def majority (v : BitVec 3) : Bool := decide (2 ≤ b2n (v.getLsbD 0) + b2n (v.getLsbD 1) + b2n (v.getLsbD 2))
/-- Whether three samples agree. -/
def steady (v : BitVec 3) : Bool := v = 0#3 || v = 7#3
/-- STRAP_LATCH (R52–R54, R57): the three samples of each strap pin. -/
def execStrapLatch (a0 a1 a2 c0 c1 test : BitVec 3) (s : State) : Out :=
  if s.romAt 0 && !s.boot.latched then
    let addr := 4 * b2n (majority a2) + 2 * b2n (majority a1) + b2n (majority a0)
    let unstable := !([a0, a1, a2, c0, c1, test].all steady)
    let s := (s.setWord R.SYS_STRAP 0).set F.SYS_STRAP_ADDR addr
    let s := s.set F.SYS_STRAP_I2C_ADDR (0x60 + addr)
    let s := s.set F.SYS_STRAP_CHAIN_POS (2 * b2n (majority c1) + b2n (majority c0))
    let s := (s.put F.SYS_STRAP_TEST (decide (test = 7#3))).put F.SYS_STRAP_UNSTABLE unstable
    .next (({ s with boot := { s.boot with latched := true } }).when unstable fun t => t.find 0x0005)
  else .next s
/-- CLOCK_CHECK_TIMEOUT (R18). -/
def execClockCheckTimeout (xtalOk : Bool) (s : State) : Out :=
  .next (s.onElapse .clockCheck fun t => t.trip (if xtalOk then 0xE202 else 0xE201) 0)
/-- ROOT_LOCK (R17, R18, R459, R565): the time base starts from 0, the PHY PLLs, which the manual gives no step of their
own, count as locked with the root PLL, and the island's self-test has its outcome. -/
def execRootLock (selftestOk : Bool) (s : State) : Out :=
  if s.romAt 0 then
    let s := { s.disarm .clockCheck with tbZero := some s.now }
    let s := (s.put F.CLK_STATUS_XTAL_OK true).put F.CLK_STATUS_ROOT_LOCK true
    let s := (s.put F.CLK_STATUS_SS_LOCK true).put F.CLK_STATUS_HS9_LOCK true
    .next (if selftestOk then (s.put F.SAF_STATUS_SELFTEST_OK true).bootStep 2 else s.trip 0xC009 0)
  else .next s

/-- Data-part words of OTP region n (Table SEC-1). -/
def regionWords (n : Nat) : List Nat :=
  if n = 0 then List.range 32
  else if n = 1 then (List.range 4).map (0x20 + ·)
  else if n = 2 then (List.range 32).map (0x24 + ·)
  else if n = 3 then (List.range 16).map (0x45 + ·)
  else if n = 4 then (List.range 32).map (0x55 + ·)
  else if n = 5 then (List.range 8).map (0x75 + ·)
  else []
/-- A restrictive word of Table SEC-2. -/
def restrictiveWord (w : Nat) : Bool := w = 0x44 || (Nat.ble 0x7D w && Nat.ble w 0x85) || w = 0x8E
/-- The three references of a word: as a boot read reports it, else as the cells hold it. -/
def State.otpReads (s : State) (reads : List (Nat × Word × Word × Word)) (w : Nat) : Word × Word × Word :=
  match reads.find? fun r => decide (r.1 = w) with
  | some r => r.2
  | none => (s.otpCell w, s.otpCell w, s.otpCell w)
/-- Marginal bits of three reads (R506). -/
def marginalBits (r : Word × Word × Word) : Word := (r.1 ^^^ r.2.1) ||| (r.1 ^^^ r.2.2)
/-- The value in force of a word (Table SEC-2). -/
def forceOf (w : Nat) (r : Word × Word × Word) : Word :=
  if restrictiveWord w then r.1 ||| marginalBits r else if 0x8F ≤ w then 0#32 else r.1
/-- A completeness digest over words (R500). -/
def wordsDigest (ws : List Word) : Word := BitVec.ofNat 32 (leNat ((sha256 (wordBytes ws)).take 4)) ||| 1#32
/-- Whether the computed digest of region n equals its DIGEST word. -/
def State.digestOk (s : State) (n : Nat) : Bool :=
  let d := s.otpWord (0x86 + n)
  decide (d ≠ 0#32) && decide (d = wordsDigest ((regionWords n).map s.otpWord))
/-- A number whose bits are those regions of 0–7 that satisfy a test. -/
def regionMask (p : Nat → Bool) : Nat := (List.range 8).foldl (fun m n => if p n then m + 2 ^ n else m) 0
/-- The OTP status words follow the words in force (R523, R525). -/
def State.showOtp (s : State) : State :=
  let locked := (s.otpWord 0x8E).toNat % 256
  let s := (s.set F.OTP_STATUS_LOCKED locked).put F.OTP_STATUS_FACTORY_LOCK (s.policy 0)
  let s := s.set F.OTP_POLICY_POLICY ((s.otpWord 0x85).toNat % 16)
  let s := s.set F.OTP_POLICY_REVOKED ((s.otpWord 0x44).toNat % 16)
  (s.set F.OTP_POLICY_FW_STEPS s.fwSteps).set F.OTP_POLICY_CFG_STEPS s.cfgSteps
/-- The reads of every word give the words in force and the marginal bits (R506). -/
def State.takeOtp (s : State) (reads : List (Nat × Word × Word × Word)) : State :=
  let zero (_ : Nat) : Word := 0#32
  let ws := List.range 256
  let force := ws.foldl (fun m w => bankWrite zero m w (forceOf w (s.otpReads reads w))) []
  let marg := ws.foldl (fun m w => bankWrite zero m w (marginalBits (s.otpReads reads w))) []
  { s with sec := { s.sec with force := force, marg := marg } }
/-- Causes of a boot read's marginal and reserved bits (Table SEC-2). -/
def State.marginCauses (s : State) (reads : List (Nat × Word × Word × Word)) : List Nat :=
  let marginal (w : Nat) : Bool := decide (bankRead (fun _ => 0#32) s.sec.marg w ≠ 0#32)
  let seen (w : Nat) : Bool := let r := s.otpReads reads w; decide (r.1 ||| r.2.1 ||| r.2.2 ≠ 0#32)
  let low := List.range 0x8F
  let high := (List.range (256 - 0x8F)).map (0x8F + ·)
  (if low.any fun w => restrictiveWord w && marginal w then [0x6601] else []) ++
  (if (low.any fun w => !restrictiveWord w && marginal w) || high.any seen then [0x260B] else [])
/-- Causes of the regions that are absent or unusable (R507, Table SEC-3). -/
def State.regionCauses (s : State) : List Nat :=
  let bad (n : Nat) : Bool := !s.digestOk n
  let locked (n : Nat) : Bool := (s.otpWord 0x8E).getLsbD n
  (if bad 0 then [0xE606] else []) ++
  (([1, 3, 4, 5].filter fun n => bad n && locked n).map fun _ => 0xA603) ++
  (([1, 2, 3, 4, 5].filter fun n => bad n && !locked n).map fun _ => 0xA602) ++
  (([6, 7].filter bad).map fun _ => 0x260B)
/-- CHECK_TRIM of OTP words 0x1E and 0x1F in MSR_ADCa (R499). -/
def State.loadTrim (s : State) : State :=
  forAll (List.range 4) (fun a t => t.set (F.MSR_ADC_CHECK_TRIM a) ((t.otpWord (0x1E + a / 2)).toNat / 2 ^ (16 * (a % 2)))) s
/-- T3: ROM recovery, the service management engine loaded from ROM, the recovery commands served (R100, R600). -/
def State.toRecovery (s : State) : State :=
  let s := (s.disarm .bootTimer).transition .romRecovery 3
  let s := s.set F.SAF_STATUS_ISTATE 6
  { s with boot := { s.boot with engRun := 2 ^ 13 }, hif := { s.hif with mailboxOpen := true } }
/-- T4: Factory test (R55). -/
def State.toFactory (s : State) : State :=
  let s := (s.disarm .bootTimer).transition .factoryTest 4
  { s.set F.SAF_STATUS_ISTATE 6 with hif := { s.hif with mailboxOpen := true } }
/-- OTP_BOOT_READ (R506, R507, Tables SEC-2 and SEC-3, R55): `reads` lists the words whose three references differ from
the cells. -/
def execOtpBootRead (reads : List (Nat × Word × Word × Word)) (s : State) : Out :=
  if s.romAt 2 && s.boot.latched then
    let s := s.takeOtp reads
    let s := { s with sec := { s.sec with cfgSign := s.policy 2 } }
    let locked (n : Nat) : Bool := (s.otpWord 0x8E).getLsbD n
    let s := (s.set F.OTP_STATUS_ABSENT (regionMask fun n => locked n && !s.digestOk n)).set F.OTP_STATUS_UNUSABLE
      (regionMask fun n => !locked n && !s.digestOk n)
    let s := s.put F.OTP_STATUS_MARGINAL (!s.sec.marg.isEmpty)
    let s := (s.showOtp.loadTrim).set F.OTP_REREAD_COUNT 1
    let s := { s with boot := { s.boot with found := s.boot.found ++ s.marginCauses reads ++ s.regionCauses } }
    let s := s.arm .otpDay (secs 86400)
    if locked 2 && !s.digestOk 2 then .next (s.put F.OTP_STATUS_SCRAP true).toRecovery
    else if s.has F.SYS_STRAP_TEST && !s.policy 0 then .next s.toFactory
    else
      let s := if s.has F.SYS_STRAP_TEST then (s.put F.SYS_STRAP_TEST_IGNORED true).find 0x0006 else s
      .next (s.bootStep 3)
  else .next s

/-- A slot-table copy in flash. -/
def State.tableCopy (s : State) (copy : Nat) : Option SlotTab := SlotTab.ofBytes (s.flashRead (tableBase copy) 64)
/-- The copy of R92 with its number, and whether the other is invalid. -/
def State.chooseTable (s : State) : Option (Nat × SlotTab × Bool) :=
  match s.tableCopy 0, s.tableCopy 1 with
  | some a, some b => some (if a.gen < b.gen then (1, b, false) else (0, a, false))
  | some a, none => some (0, a, true)
  | none, some b => some (1, b, true)
  | none, none => none
/-- SLOT_TABLE_READ (R88, R92): a flash that cannot be read verifies no slot (code 0xE) and takes T3. -/
def execSlotTableRead (sfdpOk : Bool) (mbit : Nat) (s : State) : Out :=
  if s.romAt 3 then
    if !sfdpOk || Nat.blt mbit 128 then
      .next { s with boot := { s.boot with codeA := 0xE, codeB := 0xE } }.toRecovery
    else
      let s := { s with boot := { s.boot with density := min mbit 512 * 131072 } }
      let s := s.when (Nat.blt 512 mbit) fun t => t.find 0x2A08
      match s.chooseTable with
      | none => .next s.toRecovery
      | some c =>
        let s := { s with boot := { s.boot with copy := c.1, tabOld := c.2.1, tab := c.2.1 } }
        let s := s.when c.2.2 fun t => t.find 0x2A01
        .next (if c.2.1.recovery = 0x5A then s.toRecovery else s.bootStep 4)
  else .next s

/-- What trying a slot does to the table: the state it leaves, TRIAL_LEFT, and what is found (Table BOT-3, R94). -/
structure Tried where
  code    : Nat
  state   : Nat
  left    : Nat
  reject  : Bool
  started : Bool
  /-- 0x2A19: the slot was in TRIAL with no boot left. -/
  spent   : Bool
/-- A slot of a state tried with a given result of its checks (R94, Table BOT-3, R585). -/
def trySlot (st left : Nat) (check : Nat) : Tried :=
  if st = slotTrial ∧ left = 0 then ⟨2, slotBad, 0, true, false, true⟩
  else if st ≠ slotPending ∧ st ≠ slotTrial ∧ st ≠ slotGood then ⟨2, st, left, false, false, false⟩
  else if check = 1 then
    if st = slotPending then ⟨1, slotTrial, left, false, true, false⟩
    else if st = slotTrial then ⟨1, slotTrial, left - 1, false, false, false⟩
    else ⟨1, st, left, false, false, false⟩
  else ⟨check, if check = 0xE then st else slotBad, left, decide (st ≠ slotGood), false, false⟩
/-- What trying a slot leaves behind beside the table. -/
def State.noteTried (s : State) (t : Tried) : State :=
  let b := s.boot
  let s := { s with boot := { b with rejects := b.rejects + b2n t.reject, trials := b.trials + b2n t.started } }
  s.when t.spent fun u => u.find 0x2A19

/-- The firmware slot that boots is shown, its boot section put into supervisor code memory and its header kept in supervisor
data memory (Table BOT-5 step 5, R115–R118). -/
def State.fwBoots (s : State) (slot : Nat) : State :=
  let hdr := s.flashRead (fwBase slot) 0x400
  let s := { s with boot := { s.boot with fwHdr := hdr } }.loadBoot (fwBase slot)
  let s := (s.set F.BOOT_STATUS_FW_SLOT slot).set F.BOOT_STATUS_TAB_COPY s.boot.copy
  let s := (s.set F.BOOT_STATUS_FW_A s.boot.codeA).set F.BOOT_STATUS_FW_B s.boot.codeB
  let s := s.set F.BOOT_FWID_BUILD_ID (leAt hdr 0x10 4)
  ((s.set F.BOOT_VERS_FW_IFACE (leAt hdr 0x0E 2)).set F.BOOT_VERS_FW_SVN (leAt hdr 0x0C 1)).bootStep 5
/-- FIRMWARE_SLOT_VERIFY (R94, R98, R101): the next firmware slot is tried; `readErr` is 1 for a flash read error in the
header, key or signature, 2 for one in the boot section. -/
def execFirmwareSlotVerify (readErr : Nat) (s : State) : Out :=
  if s.romAt 4 then
    let first := s.boot.tabOld.fwFirst
    let second := decide (s.boot.fwTry ≠ 0)
    let slot := if second then 1 - first else first
    let tab := s.boot.tab
    let r := trySlot (tab.fwState slot) tab.fwTrial (s.fwChecks (fwBase slot) (tab.fwLen slot) readErr)
    let tab := { tab.setFw slot r.state with fwTrial := if tab.fwState slot = slotTrial then r.left else tab.fwTrial }
    let s := { s with boot := { s.boot with tab := tab, fwTry := 1, codeA := if slot = 0 then r.code else s.boot.codeA,
                                            codeB := if slot = 0 then s.boot.codeB else r.code } }
    let s := s.noteTried r
    if r.code = 1 then
      let s := if second || r.started then s.modTab fun t => { t with fwActive := slot } else s
      let before := if first = 0 then s.boot.codeA else s.boot.codeB
      .next ((s.when (second && Nat.ble 3 before) fun t => t.find 0xAA02).fwBoots slot)
    else .next (if second then s.toRecovery else s)
  else .next s

/-- Whether life slot n is ready for the next record (R114): it does not open a sector, whose erase came with its first slot,
or its sector is erased. -/
def State.lifeReady (s : State) (n : Nat) : Bool :=
  n % 4 != 0 || s.flash.all fun e => Nat.blt e.1 (lifeBase + 4096 * (n / 4)) || Nat.ble (lifeBase + 4096 * (n / 4 + 1)) e.1
/-- T1 or T2 (R99, R113, R513, Table SEA-3): the newest life record gives the counts, a new one falls due, the boot epoch
begins and the timers of R40 and R455 start. An erase that an earlier run left due is due again (R114). DESIGN CHOICE (entry
102): with no valid record the next one goes into slot 0. -/
def State.leaveRom (s : State) (d : DevState) (n : Nat) : State :=
  let slot := s.newestLife
  let nextSlot := (slot.map fun n => (n + 1) % 56).getD 0
  let ready := s.lifeReady nextSlot
  let b := match slot with
    | none => []
    | some n => s.flashRead (lifeSlotBase n) 1024
  let boots := (leAt b 8 4 + 1) % 2 ^ 32
  let cycles := (leAt b 0x0C 4 + b2n s.boot.afterPor) % 2 ^ 32
  let sessions := List.range 128
  let mark (i : Nat) : Nat := leAt b (0x100 + 4 * i) 4
  let stored (f : Nat → Nat) : Bank Nat := sessions.foldl (fun m i => setSession m i (f i)) []
  let next (i : Nat) : Nat := if mark i + 4096 ≤ 0xFFFFF000 then mark i + 4096 else mark i
  let gone := sessions.filter fun i => decide (mark i + 4096 > 0xFFFFF000)
  let s := { s with
    sec := { s.sec with last := stored mark, ceil := stored mark, exhausted := gone },
    boot := { s.boot with boots := boots, pwrCycles := cycles, lifeS := leAt b 0x10 8, lifeAt := s.now,
                          lifeSeq := leAt b 4 4, lifeSlot := slot, lifeNext := nextSlot, lifeErased := ready,
                          lifeErase := if ready then none else some (nextSlot / 4),
                          marks := stored mark, marksDue := stored next, firstLife := true,
                          found := s.boot.found ++ gone.map fun _ => 0xA608, springAt := s.now } }
  let s := s.dueLife
  let s := (s.set F.BOOT_COUNT_PWR_CYCLES (min 0xFFFF cycles)).set F.BOOT_COUNT_BOOTS (min 0xFFFF boots)
  let s := s.set F.SYS_SEQ_NEXT_DSEQ_NEXT_DSEQ (boots % 256 * 2 ^ 24)
  let s := (s.when s.boot.afterAuto fun t => t.find 0x0003).when s.boot.afterCold fun t => t.find 0x0004
  let s := ((s.disarm .bootTimer).arm .sealTimer (msec 100)).arm .lifeHour (secs 3600)
  let s := (s.set F.SAF_STATUS_ISTATE 1).transition d n
  (s.when (d = .spring) fun t => t.arm .springLimit (msec 5000)).bootStep 1
/-- ROM_BOOT_GUARD_JUDGE (R99, R455): T1, T2, or the wait with the boot timer stopped. -/
def execRomBootGuardJudge (s : State) : Out :=
  if s.romAt 5 then
    if s.env.vinOk then .next (s.leaveRom .spring 1)
    else if s.bus.sinkPresent then .next (s.leaveRom .offSeason 2)
    else .next (s.disarm .bootTimer)
  else .next s

/-- Whether the supervisor stands at a step of Table SEA-3, in Spring or after T2. -/
def State.springAtStep (s : State) (n : Nat) : Bool := s.isAny [.spring, .offSeason] && decide (s.boot.step = n)
/-- The image's units (R105, Table BOT-8), the REG and SCHED records, the ENGDATA records (R106), and what follows from
absent rails. -/
def State.applyImage (s : State) (u : Units) (rs : List Rec) : State :=
  let eng := (rs.filter fun r => decide (r.type = 4)).map fun r =>
    (r.payload.getD 0 0 / 2 ^ 24, r.payload.getD 0 0 % 2 ^ 24, (r.payload.drop 1).map (BitVec.ofNat 32))
  let s := { s with
    boot := { s.boot with portsAbsent := u.ports, railsAbsent := u.rails, isAbsent := u.isense, rstAbsent := u.resets,
                          disabled := u.disabled, engData := eng },
    regs := applyRegs u rs s.regs }
  let s := s.applySched rs
  forAll (allRails.filter fun j => u.rails.testBit j.val) (fun j t => t.setWord (R.SQ_STATUS j) 0x90000000#32) s
/-- SPRING_LIMIT of the image counts from the entry of Spring (R40). -/
def State.armSpringLimit (s : State) : State :=
  if s.isIn .spring then
    let lim := msec (100 * orDefault 50 (s.get F.SYS_STATE_CFG_SPRING_LIMIT))
    { s.disarm .springLimit with timers := (.springLimit, s.boot.springAt + lim) :: (s.disarm .springLimit).timers }
  else s
/-- One configuration slot tried: the table and what is found. -/
def State.tryCfg (s : State) (slot : Nat) (err : Bool) : Nat × State :=
  let tab := s.boot.tab
  let check := s.cfgChecks (cfgBase slot) (tab.cfgLen slot) err (s.get F.BOOT_VERS_FW_IFACE) s.boot.fwHdr
  let r := trySlot (tab.cfgState slot) tab.cfgTrial check
  let tab := { tab.setCfg slot r.state with cfgTrial := if tab.cfgState slot = slotTrial then r.left else tab.cfgTrial,
                                            cfgActive := if r.started then slot else tab.cfgActive }
  let s := { s with boot := { s.boot with tab := tab } }.noteTried r
  (r.code, if slot = 0 then s.set F.BOOT_STATUS_CFG_A r.code else s.set F.BOOT_STATUS_CFG_B r.code)
/-- The configuration in slot `slot` is applied (R106, R117, R118). -/
def State.useCfg (s : State) (slot : Nat) : State :=
  let h := s.flashRead (cfgBase slot) 0x80
  let words := bodyWords (s.flashRead (cfgBase slot + 0x80) (leAt h 0x0C 4))
  let rs := (parseRecs words.length words).getD []
  let s := ((s.set F.BOOT_STATUS_CFG_SLOT slot).set F.BOOT_CFGID_SERIAL (leAt h 0x14 4)).set F.BOOT_VERS_CFG_SVN (leAt h 0x10 1)
  let s := { s with boot := { s.boot with cfgCopy := s.flashRead (cfgBase slot) (s.boot.tab.cfgLen slot) } }
  s.applyImage (unitsOf rs) rs
/-- The events and faults that ROM boot left (R94, R120, R591). -/
def State.reportBoot (s : State) : State :=
  let s := forAll (List.range s.boot.rejects) (fun _ t => t.postRejected) s
  let s := s.when (s.isIn .spring) fun t => forAll (List.range t.boot.trials) (fun _ u => u.post 0x00 0x0305) t
  let s := s.when (decide (s.get F.SYS_STRAP_CHAIN_POS ≠ 0) && !s.linkOn) fun t => t.warn 0x0007
  let found := s.boot.found
  forAll found (fun c t => t.raise c) { s with boot := { s.boot with found := [], rejects := 0, trials := 0 } }
/-- CONFIG_READ (R106, R107): the active slot first, the other second, else the built-in safe configuration. -/
def execConfigRead (errA errB : Bool) (s : State) : Out :=
  if s.springAtStep 1 then
    let first := s.boot.tabOld.cfgFirst
    let err (slot : Nat) : Bool := if slot = 0 then errA else errB
    let a := s.tryCfg first (err first)
    let s := if a.1 = 1 then a.2.useCfg first
      else
        let b := a.2.tryCfg (1 - first) (err (1 - first))
        if b.1 = 1 then
          let t := (b.2.modTab fun t => { t with cfgActive := 1 - first }).useCfg (1 - first)
          t.when (Nat.ble 3 a.1) fun u => u.find 0xAA03
        else
          let t := (b.2.put F.BOOT_STATUS_CFG_BUILTIN true).applyImage unitsNone []
          { t with boot := { t.boot with builtin := true } }
    .next ((s.armSpringLimit.bootStep 2).reportBoot)
  else .next s

/-- Whether engine e is skipped at loading: its units absent or disabled, or no firmware for it (R96, R108). The codec engine
is held in reset with the codec disabled (Table SCO-2). DESIGN CHOICE (entry 96): the manual conflicts with itself there, for
R426 lets the archive, a duty of that engine, run on; the model follows Table SCO-2 for the engine and R426 for the archive. -/
def State.engineSkipped (s : State) (e : Nat) : Bool :=
  let none' := decide ((sectionAt s.boot.fwHdr e).2.1 = 0)
  let b := s.boot
  none' || (decide (1 ≤ e) && decide (e ≤ 8) && b.portsAbsent.testBit (e - 1)) ||
  (decide (e = 10) && decide (b.railsAbsent = 0xFFFF) && decide (b.isAbsent = 0xF) && decide (b.rstAbsent = 0xF) && s.unitOff 3) ||
  (decide (e = 14) && s.unitOff 1)
/-- Load one engine (R12, R108): its code into code memory; data memory zeroed, the section's data at its start, then its
ENGDATA records. -/
def State.loadEngine (s : State) (base e : Nat) : State :=
  let x := sectionAt s.boot.fwHdr e
  let zero (_ : Nat) : Word := 0#32
  let data := bytesToWords (s.flashRead (base + x.1 + x.2.1) x.2.2)
  let s := s.storeCode (codeBase e) (s.flashRead (base + x.1) x.2.1)
  let m := bankWriteList zero (bankClear s.engMem (e * 2 ^ 16) (2 ^ 16)) (e * 2 ^ 16) data
  let m := (s.boot.engData.filter fun d => decide (d.1 = e)).foldl
    (fun m d => bankWriteList zero m (e * 2 ^ 16 + d.2.1 / 4) d.2.2) m
  { s with engMem := m }
/-- The order of R108. -/
def State.loadOrder (s : State) : List Nat :=
  (if s.isIn .spring then [15, 11, 10, 1, 2, 3, 4, 5, 6, 7, 8, 9, 12, 14, 13] else [15, 11, 9, 14, 13]).filter fun e => !s.engineSkipped e
/-- The built-in protection set-up is sealed and the mailbox opened (R109, R111). -/
def State.sealBuiltin (s : State) : State :=
  let s := s.resetSealed.seal
  { s with hif := { s.hif with mailboxOpen := true } }
/-- Whether an engine's section has its digest in the firmware that boots. -/
def State.loads (s : State) (e : Nat) : Bool := s.sectionOk (fwBase (s.get F.BOOT_STATUS_FW_SLOT)) s.boot.fwHdr e
/-- The engines whose sections verify are loaded and released together; one whose section does not stays in reset (R108,
R109). -/
def State.loadAll (s : State) : State :=
  let base := fwBase (s.get F.BOOT_STATUS_FW_SLOT)
  let order := s.loadOrder.filter s.loads
  let t := s.when (s.isIn .spring && s.loads 0) fun u => u.loadSection0 base
  let t := forAll order (fun e u => u.loadEngine base e) t
  { t with boot := { t.boot with engRun := order.foldl (fun m e => m + 2 ^ e) 1 } }
/-- The acts of R109 on the first engine whose section fails. -/
def State.engineFails (s : State) (e : Nat) : State :=
  let slot := s.get F.BOOT_STATUS_FW_SLOT
  let s := ((s.put F.BOOT_STATUS_ENG_FAIL true).set F.BOOT_STATUS_ENG_ID e).modTab fun t => t.setFw slot slotBad
  s.sealBuiltin
/-- ENGINE_LOAD (R108, R109): all loaded engines are released together; a section that fails leaves its engine in reset and
raises 0xEA06. -/
def execEngineLoad (s : State) : Out :=
  if s.springAtStep 2 then
    let order := (if s.isIn .spring then [0] else []) ++ s.loadOrder
    let t := s.loadAll.bootStep 3
    match order.find? fun e => !s.loads e with
    | some e => .next (((t.engineFails e).when (t.engine 9) State.startPort9).raise 0xEA06)
    | none => .next (t.when (t.engine 9) State.startPort9)
  else .next s

/-- PROTECTION_SETUP (R111, R112, R133, R459): `readBackOk` is the read-back of every RWS word, the others whether every
disable input followed WINTER_OFF and ISL_OFF. DESIGN CHOICE (entry 103): boot code supplies SCH_CRC for the first swap, with
the CRC of the bank that it filled from the image; the manual names no writer. -/
def execProtectionSetup (readBackOk followWinter followIsl : Bool) (s : State) : Out :=
  if s.springAtStep 3 && !s.has F.BOOT_STATUS_ENG_FAIL then
    let s := if s.has F.PROT_STATUS_SEALED then s
      else if readBackOk then s.writeBusThresholds.writeSchWord fun t => t.set F.SCH_CRC_CRC (bankCrc t.shadowBank) else s.resetSealed
    let tested := s.armed .sealTimer && !s.island.offTested
    let ok := followWinter && followIsl && tested
    let s := if tested then { s.put F.SAF_STATUS_OFFTEST_OK (followWinter && followIsl) with island := { s.island with offTested := true } } else s
    let s := if s.has F.PROT_STATUS_SEALED then s else s.seal
    let s := { s with hif := { s.hif with mailboxOpen := true } }.requestSwap
    let s := (s.bootStep 4).judgeVbus port9
    let s := s.when (tested && !ok) fun t => t.raise 0xC00B
    let s := s.when (!readBackOk) fun t => t.raise 0xEA07
    let s := s.when s.boot.builtin fun t => t.raise (if t.isIn .offSeason then 0xAA05 else 0xEA04)
    let s := s.when (s.linkOn && Nat.blt (s.get F.AXL_CFG_SIZE) s.chainPos) fun t => t.raise 0xE906
    .next s.tryPowerUp
  else .next s
/-- PROT_SEAL (R512, R527): the supervisor's write of SEAL; any other value, or a write after the seal, is discarded. -/
def execProtSeal (w : Word) (s : State) : Out :=
  if decide (w.toNat % 65536 = 0x5EA1) && s.springAtStep 3 && !s.has F.PROT_STATUS_SEALED then .next (s.seal.judgeVbus port9)
  else .next s

/-- SLOT_TABLE_WRITE (R93): once per boot after step 2 of Spring or the point after T2, and only where a field changed;
a first-fault record goes first (R373). -/
def execSlotTableWrite (ok : Bool) (s : State) : Out :=
  if s.isAny [.spring, .summer, .winter, .offSeason] && s.flashFree && Nat.ble 3 s.boot.step && !s.boot.tabTried && decide (s.boot.tab ≠ s.boot.tabOld) then
    .next ({ s with boot := { s.boot with tabTried := true } }.writeTable ok)
  else .next s

/-- Ceilings follow a record that counts as written (R513, R514). -/
def State.raiseAll (s : State) : State := forAll (List.range 128) (fun n t => t.raiseCeil n) s
/-- LIFE_RECORD_APPEND (R113, R114): the record due is programmed; `ok` is its read-back. -/
def execLifeRecordAppend (ok : Bool) (s : State) : Out :=
  if s.logsWritten && s.flashFree && s.boot.lifeDue.isSome && Nat.blt s.boot.lifeTries 3 then
    .next ((s.appendLife ok).when ok State.raiseAll)
  else .next s
/-- LIFE_RECORD_RETRY (R114). -/
def execLifeRecordRetry (ok : Bool) (s : State) : Out :=
  .next (if s.logsWritten && s.flashFree then
      s.onElapse .lifeRetry fun t =>
        let t := (t.appendLife ok).when ok State.raiseAll
        t.when (!ok) fun u => u.arm .lifeRetry (secs 10)
    else s)
/-- SESSION_CEILING_RAISE (R514): the record with the session's raised MARK counts as written, and CEIL follows. -/
def execSessionCeilingRaise (session : Nat) (s : State) : Out :=
  let due := s.boot.lifeDue.isSome && Nat.blt (sessionVal s.boot.marks session) (sessionVal s.boot.marksDue session)
  .next ((s.when (due && s.logsWritten && s.flashFree) fun t => t.appendLife true).raiseCeil session)
/-- LIFE_HOUR_ELAPSED (R113). -/
def execLifeHourElapsed (s : State) : Out := .next (s.onElapse .lifeHour fun t => (t.arm .lifeHour (secs 3600)).dueLife)
/-- LIFE_SECTOR_ERASE (R114): the sector after a filled one, or one that an earlier run left due; a failure raises 0xAA0A and
the erase stays due, at the latest before the next record. -/
def execLifeSectorErase (ok : Bool) (s : State) : Out :=
  match s.boot.lifeErase with
  | none => .next s
  | some c =>
    if !s.logsWritten || !s.flashFree then .next s
    else if ok then
      let s := s.flashErase (lifeBase + 4096 * c) 4096
      .next { s with boot := { s.boot with lifeErase := none, lifeErased := s.boot.lifeErased || decide (s.boot.lifeNext / 4 = c) } }
    else .next ((s.spoil (lifeBase + 4096 * c) 4096).raise 0xAA0A)

/-- SPRING_LIMIT_EXPIRED (R40). -/
def execSpringLimitExpired (s : State) : Out :=
  if s.isIn .spring then .next (s.onElapse .springLimit fun t => t.raise 0xC001) else .next s
/-- WINTER_HOLD_ELAPSED (R37, R451, T11). -/
def execWinterHoldElapsed (s : State) : Out :=
  .next (s.onElapse .winterHold fun t =>
    if t.isIn .winter && decide (t.get F.SYS_STATE_CFG_WINTER_HOLD ≠ 0) && !t.island.held00A &&
        decide (t.get F.SYS_STATE_WRST_CNT < t.get F.SYS_STATE_CFG_WINTER_RETRY) then t.beginRestart true
    else t)
/-- SUMMER_HOUR_ELAPSED (R37). -/
def execSummerHourElapsed (s : State) : Out :=
  .next (s.onElapse .summerHour fun t => t.set F.SYS_STATE_WRST_CNT 0)

end Sys2Proof.Machine
end

