-- ==== Sys2Proof/Machine/HealthOps.lean ====
section
/-!
DEFINITION. Contact health (R247–R253): the window of a reading, its judgement, the results and what follows from them,
and the ends of a Frener exchange that a reading rests on.
-/
namespace Sys2Proof.Machine

/-- The effective current limit in mA (R239): the least of ALLOC, IMAX and, in a PPS or AVS contract, its current. -/
def State.ilimOf (s : State) (k : PortId) : Nat :=
  let m := min (s.get (F.CNV_ILIM_ALLOC k)) (orDefault 5000 (s.get (F.CNV_MAX_IMAX k)))
  if [2, 3, 5].contains (s.get (F.PD_CONTRACT_TYPE k)) then min m (s.contractMa k) else m

/-- The 2.0 ms window of a contact-health reading begins over VBSNS, VCSNS, the current and GSNS (R248). -/
def State.beginHealth (s : State) (k : PortId) (partner : Bool) : State :=
  let s := s.openWindows (.health k) [portChan k 0, portChan k 1, portChan k 2, portChan k 3]
  let dist := s.has (F.CNV_STATUS_CLIM k) || s.has (F.CNV_STATUS_HEADROOM k) || s.has (F.CNV_STATUS_RAMP k)
  let next := s.now + secs 60
  (s.modChk k fun c => { c with winOpen := true, partner := partner, disturbed := dist, vin := none, mismatch := false,
                                nextAt := next }).arm
    (.chkWindow k) (msec 2)

/-- A Frener VDM header of a request (Table PDP-6). -/
def frHeader (cmd : Nat) : Word := BitVec.ofNat 32 (0x2E7A2000 + cmd)
/-- Whether Frener VDMs may be sent on port k (R188, R215). -/
def State.frenerOn (s : State) (k : PortId) : Bool :=
  k.isModule && s.has (F.PD_CFG_FRVDM_EN k) && s.contract k && !s.rev2 k
/-- The awaited Frener response has come or is absent: the exchange ends. -/
def State.frenerDone (s : State) (k : PortId) : State :=
  ((s.disarm (.frener k)).modPd k fun p => { p with frWait := 0 }).endAms k

/-- What a window measured: means in mV, the mean current and its extremes in mA. -/
structure Reading where
  vbs : Int
  vcs : Int
  gnd : Int
  ma : Nat
  loMa : Nat
  hiMa : Nat
  deriving DecidableEq, Repr

/-- The measurement of a window, where each mean rests on at least 64 results (R248). -/
def State.reading? (s : State) (k : PortId) : Option Reading :=
  let w (n : Nat) : Option Win := match s.window? (.health k) (portChan k n) with
    | none => none
    | some w => if w.n < 64 then none else some w
  match w 0, w 1, w 2, w 3 with
  | some b, some c, some i, some g =>
    some { vbs := 4 * b.sum / (b.n : Int), vcs := 4 * c.sum / (c.n : Int), gnd := 20 * g.sum / (1000 * (g.n : Int)),
           ma := s.currentOf k (i.sum / (i.n : Int)), loMa := s.currentOf k i.lo, hiMa := s.currentOf k i.hi }
  | _, _, _, _ => none

/-- Whether the current stayed within ±5 % of its mean. -/
def Reading.steady (r : Reading) : Bool :=
  Nat.ble (100 * r.hiMa) (105 * r.ma) && Nat.ble (95 * r.ma) (100 * r.loMa)
/-- Whether a partner response agrees with the part's current (R248). -/
def Reading.agrees (r : Reading) (v : Nat × Nat × Nat × Nat) : Bool :=
  decide (v.2.1 = 0xFFFF) ||
  decide (((v.2.1 : Int) - (r.ma : Int)).natAbs ≤ r.ma / 10 + 10 * v.2.2.2)

/-- A cap of R252 is set; below 1,000 mA the port is opened until its partner detaches (R253). -/
def State.derate (s : State) (k : PortId) (cap : Nat) : State :=
  let s := (s.set (F.CHK_CAP_CAP_MA k) cap).put (F.CHK_STATUS_DERATED k) true
  let s := (s.flag (G.CNV_DERATE k)).warn (portFault k 0 0x25)
  if cap < 1000 then
    let s := ((s.put (F.CHK_STATUS_FAILED k) true).softOpen k).modBrk k fun b => { b with heldUntilDetach := true }
    (s.settleOpen k).raise (portFault k 2 0x26)
  else s
/-- The acts of R252 on med3. -/
def State.judgeMed3 (s : State) (k : PortId) (med3 : Nat) : State :=
  let s := s.set (F.CHK_CAP_MED3 k) med3
  let warn := s.get (F.CHK_CFG_WARN k)
  let s := if decide (warn ≠ 0) && Nat.ble warn med3 && !(s.port k).chk.warned then
      ((s.modChk k fun c => { c with warned := true }).flag (G.CNV_CHK_WARN k)).warn (portFault k 0 0x24)
    else s
  let pct := 10 * s.get (F.CHK_CFG_P_CT k)
  let ilim := s.get (F.CNV_ILIM_EFF k)
  if decide (pct ≠ 0) && Nat.blt (pct * 1000000) (med3 * ilim * ilim) then
    let cap := isqrt (pct * 1000000 / med3)
    s.derate k (min (cap - cap % 10) (s.get (F.CHK_CAP_CAP_MA k)))
  else s
/-- A result is accepted (R250, R251): it updates CHK_STATUS and enters the day's store of at most 1,440. -/
def State.acceptResult (s : State) (k : PortId) (r : Nat) (partner : Bool) : State :=
  let s := (s.set (F.CHK_STATUS_LAST k) r).set (F.CHK_STATUS_METHOD k) (if partner then 1 else 2)
  let room := Nat.blt ((s.port k).chk.dayP.length + (s.port k).chk.dayR.length) 1440
  let s := s.modChk k fun c =>
    { c with dayP := if room && partner then c.dayP ++ [r] else c.dayP,
             dayR := if room && !partner then c.dayR ++ [r] else c.dayR,
             last3 := (r :: c.last3).take 3 }
  let s := s.when room fun t => t.set (F.CHK_STATUS_COUNT k) (t.get (F.CHK_STATUS_COUNT k) + 1)
  if (s.port k).chk.last3.length = 3 then s.judgeMed3 k (lowerMedian (s.port k).chk.last3) else s

/-- An accepted reading is paired with the reference of its method (R250). -/
def State.pairReading (s : State) (k : PortId) (d : Int) (i vinAcc : Nat) (partner : Bool) : State :=
  let setRef (t : State) : State := t.modChk k fun c =>
    if partner then { c with refP := some (d, i) } else { c with refR := some (d, i) }
  match (if partner then (s.port k).chk.refP else (s.port k).chk.refR) with
  | none => setRef s
  | some (d0, i0) =>
    let di : Int := (i : Int) - (i0 : Int)
    let spread := 100 * orDefault 10 (s.get (F.CHK_CFG_DI k))
    let s := if Nat.ble spread di.natAbs && Nat.ble ((5 * vinAcc + 4) * 1000 / di.natAbs) 10 then
        s.acceptResult k (min 0xFFFE (((d - d0) * 1000).tdiv di).toNat) partner
      else s
    if i < i0 then setRef s else s

/-- A reading that has ended is judged once the partner's response is there or absent (R248, R249); one discarded is
retried 1.0 s later. -/
def State.judgeHealth (s : State) (k : PortId) : State :=
  let c := (s.port k).chk
  if ! c.winOpen || s.armed (.chkWindow k) || decide ((s.port k).pd.frWait = 2) then s
  else
    let r? := s.reading? k
    let s := (s.closeWindows (.health k)).modChk k fun c => { c with winOpen := false, vin := none, mismatch := false, disturbed := false }
    let discard := s.arm (.chkDue k) (secs 1)
    match r? with
    | none => discard
    | some r =>
      if c.disturbed || c.mismatch || !r.steady then discard
      else match c.vin with
        | some v =>
          if r.agrees v then s.pairReading k (r.vcs - r.gnd - (v.1 : Int)) r.ma v.2.2.1 true else discard
        | none => s.pairReading k (r.vbs - r.vcs + r.gnd) r.ma 0 false

/-- A Frener response is absent (R215, R216): without one to VIN the reading falls back to the receptacle-only method. -/
def State.frenerAbsent (s : State) (k : PortId) : State :=
  if (s.port k).pd.frWait = 2 then ((s.warn (portFault k 0 0x1B)).frenerDone k).judgeHealth k
  else (s.modPd k fun p => { p with frCap := 0 }).frenerDone k

end Sys2Proof.Machine
end

