-- ==== Sys2Proof/Machine/AuthOps.lean ====
section
/-!
DEFINITION. USB Type-C Authentication 1.0 as R207 uses it: the chain of certificates read from a slot, its verification down to
the leaf key, and the check of the CHALLENGE signature. The layouts of messages, chains and X.509 certificates are those of that
standard and of ISO/IEC 8825, which the manual names or presumes without stating them (PRESUMED, entry 115).
-/
namespace Sys2Proof

/-- One element of DER: its tag, its contents, and all its bytes. -/
structure Der where
  tag   : Nat
  body  : List Byte
  whole : List Byte
  deriving DecidableEq, Repr

/-- Bytes of the length field and the length it gives; forms of more than two length bytes are not taken. -/
def derLength (b : List Byte) : Option (Nat × Nat) :=
  let l := (b.getD 1 0#8).toNat
  if l < 0x80 then some (1, l)
  else if l = 0x81 then some (2, (b.getD 2 0#8).toNat)
  else if l = 0x82 then some (3, beNat ((b.drop 2).take 2)) else none
/-- The elements that stand one after another in a byte string, by fuel; none where one is cut short. -/
def derItems : Nat → List Byte → Option (List Der)
  | _, [] => some []
  | 0, _ => none
  | n + 1, b =>
    match derLength b with
    | none => none
    | some (k, len) =>
      if b.length < 1 + k + len then none
      else (derItems n (b.drop (1 + k + len))).map fun r =>
        { tag := (b.getD 0 0#8).toNat, body := (b.drop (1 + k)).take len, whole := b.take (1 + k + len) } :: r
/-- The elements inside an element. -/
def Der.items (d : Der) : List Der := (derItems d.body.length d.body).getD []

/-- What the check of a chain takes from a certificate: the bytes that are signed, the subject's P-256 key X ‖ Y, and the
signature r ‖ s. -/
structure Cert where
  signed : List Byte
  key    : List Byte
  sig    : List Byte
  deriving DecidableEq, Repr

/-- The key of a SubjectPublicKeyInfo: an uncompressed point in its bit string. -/
def spkiKey (d : Der) : List Byte := ((d.items.getD 1 ⟨0, [], []⟩).body.drop 2).take 64
/-- The signature of a certificate: two integers in its bit string. -/
def certSig (d : Der) : List Byte :=
  match (derItems d.body.length (d.body.drop 1)).getD [] with
  | [q] => (q.items.map fun i => beBytes 32 (beNat i.body)).flatten
  | _ => []
/-- A certificate read from its element. -/
def certOf (d : Der) : Option Cert :=
  match d.items with
  | [tbs, _, sig] =>
    let fields := if (tbs.items.map Der.tag).head? = some 0xA0 then tbs.items.drop 1 else tbs.items
    (fields[5]?).map fun spki => { signed := tbs.whole, key := spkiKey spki, sig := certSig sig }
  | _ => none
/-- The leaf key of the certificates after one whose key is known: each is signed by the one before it. -/
def chainWalk (key : List Byte) : List Der → Option (List Byte)
  | [] => some key
  | d :: ds =>
    match certOf d with
    | none => none
    | some c => if ecdsaVerify key (sha256 c.signed) c.sig then chainWalk c.key ds else none
/-- The leaf key of a slot's chain (R207): two bytes of length, two reserved, the root's digest, and the certificates from the
root down. -/
def chainLeaf (chain : List Byte) : Option (List Byte) :=
  match derItems chain.length (chain.drop 36) with
  | some (root :: ds) =>
    if sha256 root.whole = (chain.drop 4).take 32 then (certOf root).bind fun c => chainWalk c.key ds else none
  | _ => none
/-- Length of a chain as its first two bytes give it. -/
def chainLength (chain : List Byte) : Nat := leNat (chain.take 2)
/-- Root digest that a chain names. -/
def chainRoot (chain : List Byte) : List Byte := (chain.drop 4).take 32
/-- A CHALLENGE request for a slot. -/
def challengeMsg (slot : Nat) (nonce : List Byte) : List Byte := [0x10#8, 0x83#8, BitVec.ofNat 8 slot, 0#8] ++ nonce
/-- Whether a CHALLENGE_AUTH answers a CHALLENGE: the digest of the chain, and the signature over both messages under the leaf key. -/
def challengeOk (leaf chain request msg : List Byte) : Bool :=
  decide (msg.length = 168) && decide ((msg.drop 8).take 32 = sha256 chain) &&
  ecdsaVerify leaf (sha256 (request ++ msg.take 104)) (msg.drop 104)

namespace Machine

/-- Trusted root digests of port engine k (R208). -/
def State.trustedRoots (s : State) (k : PortId) : List (List Byte) :=
  let at' (i : Nat) : Nat := (bankRead (fun _ => 0#32) s.engMem (k.num * 2 ^ 16 + i)).toNat
  (List.range (min 4 (at' 0))).map fun d => (List.range 8).flatMap fun w => beBytes 4 (at' (1 + 8 * d + w))
/-- A Security_Request of the part: protocol version 1.0, message type, its first parameter and its data (R207). -/
def secRequest (type slot : Nat) (data : List Byte) : PdMsg :=
  { kind := .securityRequest, objs := bytesToWords ([0x10#8, BitVec.ofNat 8 type, BitVec.ofNat 8 slot, 0#8] ++ data) }
/-- GET_CERTIFICATE for the part of a slot's chain from an offset. -/
def getCertificate (slot off len : Nat) : PdMsg := secRequest 0x82 slot (leBytes 2 off ++ leBytes 2 len)
/-- The chain of the first slot still to be read is asked for from its start; without such a slot no chain roots in a trusted
digest, and authentication fails (R207). -/
def State.askChain (s : State) (k : PortId) : State :=
  match (s.port k).pd.authSlots with
  | [] => s.authFail k
  | slot :: _ =>
    let m := getCertificate slot 0 36
    (s.modPd k fun p => { p with auth := .certificate, authChain := [] }).say k m.kind m.objs
/-- DIGESTS: the slots that hold a chain are read in rising order. -/
def State.onDigests (s : State) (k : PortId) (msg : List Byte) : State :=
  let mask := (msg.getD 3 0#8).toNat
  (s.modPd k fun p => { p with authSlots := (List.range 8).filter fun i => mask.testBit i }).askChain k
/-- A chain that has been read whole: verified, and its leaf challenged with a nonce of 32 bytes. -/
def State.onChain (s : State) (k : PortId) (slot : Nat) : State :=
  match chainLeaf (s.port k).pd.authChain with
  | none => s.authFail k
  | some leaf =>
    let nonce := (List.range 32).map fun i => Config.freeByte s.free i
    let s := { s with free := s.free + 1 }.modPd k fun p =>
      { p with auth := .challenge, authNonce := nonce, authLeaf := leaf, authRoot := chainRoot p.authChain }
    s.say k (secRequest 0x83 slot nonce).kind (secRequest 0x83 slot nonce).objs
/-- CERTIFICATE: a part of the chain of a slot. One that does not root in a trusted digest gives way to the next slot's. -/
def State.onCertificate (s : State) (k : PortId) (slot : Nat) (part : List Byte) : State :=
  let s := s.modPd k fun p => { p with authChain := p.authChain ++ part }
  let chain := (s.port k).pd.authChain
  let off := chain.length
  if part.isEmpty then s.authFail k
  else if off < 36 then s.say k .securityRequest (getCertificate slot off (36 - off)).objs
  else if ! (s.trustedRoots k).contains (chainRoot chain) then
    (s.modPd k fun p => { p with authSlots := p.authSlots.tail }).askChain k
  else if off < chainLength chain then s.say k .securityRequest (getCertificate slot off (min 256 (chainLength chain - off))).objs
  else s.onChain k slot
/-- CHALLENGE_AUTH: authentication passes, and the gate lifts with the next capabilities (R206), or it fails. -/
def State.onChallengeAuth (s : State) (k : PortId) (slot : Nat) (msg : List Byte) : State :=
  let p := (s.port k).pd
  if challengeOk p.authLeaf p.authChain (challengeMsg slot p.authNonce) msg then
    let s := (s.disarm (.authWhole k)).modPd k fun p => { p with auth := .idle, capsDue := true }
    (s.set (F.PD_STATUS_AUTH k) 2).endAms k
  else s.authFail k
/-- A Security_Response in the exchange under way (R207): of the type that answers the last request, or the check has failed. -/
def State.authStep (s : State) (k : PortId) (msg : List Byte) : State :=
  let s := s.disarm (.authResponse k)
  let type := (msg.getD 1 0#8).toNat
  let slot := (s.port k).pd.authSlots.headD 0
  let same := decide ((msg.getD 2 0#8).toNat = slot)
  match (s.port k).pd.auth, type with
  | .digests, 0x01 => s.onDigests k msg
  | .certificate, 0x02 => if same then s.onCertificate k slot (msg.drop 4) else s.authFail k
  | .challenge, 0x03 => if same then s.onChallengeAuth k slot msg else s.authFail k
  | .idle, _ => s
  | .due, _ => s
  | _, _ => s.authFail k

end Machine
end Sys2Proof
end

