-- ==== Sys2Proof/Machine/Pd.lean ====
section
/-!
DEFINITION. The Power Delivery commands that a partner's message brings (chapter PDP): requests, the messages of Table
PDP-2, swaps of port 9, EPR mode, VDMs and authentication, each acted upon at once or, during a reload of the port
engine, queued and handled in arrival order afterwards (R218).
-/
namespace Sys2Proof.Machine

/-- A message for the policy: one that arrives during a transition is a protocol error and causes a Hard Reset (R189,
R199). -/
def State.policyMsg (s : State) (k : PortId) (act : State → State) : State :=
  if s.inTransition k then s.sendHardReset k else act s
/-- A message for the policy, answered with one message. -/
def State.answer (s : State) (k : PortId) (kind : MsgKind) (objs : List Word) : State :=
  s.policyMsg k fun t => t.say k kind objs

/-- An extended message answers a query; with a partner at Revision 2.0 none is sent (R188). -/
def State.answerExt (s : State) (k : PortId) (kind : MsgKind) (objs : List Word) : State :=
  if s.rev2 k then s.answer k .notSupported [] else s.answer k kind objs

/-- REQUEST (R195). -/
def State.onRequest (s : State) (k : PortId) (rdo : Word) (rev2 : Bool) : State :=
  s.policyMsg k fun t => if t.isSink k then t.say k .notSupported [] else t.judgeRequest k rdo rev2
/-- EPR_REQUEST (R195): port 9 answers Not_Supported. -/
def State.onEprRequest (s : State) (k : PortId) (rdo : Word) : State :=
  s.policyMsg k fun t => if k.isModule then t.judgeRequest k rdo false else t.say k .notSupported []
/-- GET_SOURCE_CAP (R189): EPR_Source_Capabilities in EPR mode. Port 9 as a sink tells what it offers as a source. -/
def State.onGetSourceCap (s : State) (k : PortId) : State :=
  s.policyMsg k fun t => t.say k (t.capsMsg k).kind (t.capsMsg k).objs
/-- EPR_GET_SOURCE_CAP (R188, R189): EPR_Source_Capabilities, an extended message, and so none to a partner at Revision 2.0;
port 9 answers Not_Supported. -/
def State.onEprGetSourceCap (s : State) (k : PortId) : State :=
  s.policyMsg k fun t =>
    if k.isModule && !t.rev2 k then
      let spr := t.sprSection k
      t.say k .eprSourceCap (spr ++ List.replicate (7 - spr.length) 0#32 ++ t.eprSection k)
    else t.say k .notSupported []
/-- A sink capabilities object of port 9 (R210): 5 V at 3.00 A, dual-role power and data. -/
def sinkPdo : Word := fixedPdo 5000 3000 ||| BitVec.ofNat 32 (2 ^ 29 + 2 ^ 25)
/-- GET_SINK_CAP (R210): module ports answer Not_Supported (Table PDP-2). -/
def State.onGetSinkCap (s : State) (k : PortId) (extended : Bool) : State :=
  if k.isModule then s.answer k .notSupported []
  else if extended then
    s.answerExt k .sinkCapExt (bytesToWords (leBytes 2 0x2E7A ++ leBytes 2 0x9160 ++ leBytes 14 0 ++ [15#8, 15#8, 15#8]))
  else s.answer k .sinkCap [sinkPdo]
/-- Largest possible ceiling of a port in W (R190, R299). -/
def State.largestW (s : State) (k : PortId) : Nat :=
  if k.isModule then s.get (F.BUD_GRANT_LARGEST k) / 10 else 15
/-- GET_SOURCE_CAP_EXTENDED (R190). -/
def State.onGetSourceCapExtended (s : State) (k : PortId) : State :=
  let w := BitVec.ofNat 8 (s.largestW k)
  s.answerExt k .sourceCapExt (bytesToWords (leBytes 2 0x2E7A ++ leBytes 2 0x9160 ++ leBytes 17 0 ++ [1#8, 0#8, w, w]))
/-- Power in W of an object (R190): an EPR AVS object names it, the others give it as voltage times current. -/
def objW (o : Word) : Nat :=
  if (objView o).kind = 5 then o.toNat % 2 ^ 8 else (objView o).hi * (objView o).ma (objView o).hi / 1000000
/-- Highest power in W of the objects last sent (R190). -/
def reportedW (caps : List Word) : Nat := caps.foldl (fun m o => max m (objW o)) 0
/-- GET_SOURCE_INFO (R190). -/
def State.onGetSourceInfo (s : State) (k : PortId) : State :=
  s.answer k .sourceInfo
    [BitVec.ofNat 32 (s.largestW k % 256 * 2 ^ 16 + s.ceilMw k / 1000 % 256 * 2 ^ 8 + reportedW (s.port k).pd.caps % 256)]
/-- GET_REVISION (R190): Revision 3.2, Version 1.1. -/
def State.onGetRevision (s : State) (k : PortId) : State := s.answer k .revision [0x32110000#32]
/-- GET_MANUFACTURER_INFO (R190). -/
def State.onGetManufacturerInfo (s : State) (k : PortId) : State :=
  s.answerExt k .manufacturerInfo (bytesToWords (leBytes 2 0x2E7A ++ leBytes 2 0x9160 ++ ascii "Frener KQ9160"))
/-- GET_STATUS (R190): the temperature in °C that an NTC code stands for is not stated. -/
def State.onGetStatus (s : State) (k : PortId) : State :=
  s.policyMsg k fun t =>
    let temp := t.takeFree.1 % 256
    let seen := (t.port k).pd.tripSeen
    let t := (t.takeFree.2).modPd k fun p => { p with tripSeen := 0 }
    if t.rev2 k then t.say k .notSupported []
    else t.say k .status (bytesToWords (leBytes 1 temp ++ [2#8, 0#8] ++ leBytes 1 (2 * seen) ++ leBytes 3 0))
/-- GET_PPS_STATUS (R205). -/
def State.onGetPpsStatus (s : State) (k : PortId) : State :=
  if k.isModule && s.contract k && decide (s.get (F.PD_CONTRACT_TYPE k) = 2) then
    s.answerExt k .ppsStatus [BitVec.ofNat 32 (s.vcsns k / 20 % 2 ^ 16 + s.portMa k / 50 % 2 ^ 8 * 2 ^ 16 +
      (if s.has (F.CNV_STATUS_CLIM k) then 8 else 0) * 2 ^ 24)]
  else s.answer k .notSupported []
/-- ALERT (R189): Get_Status follows as an AMS of the part's own. -/
def State.onAlert (s : State) (k : PortId) : State :=
  s.policyMsg k fun t => t.ownAms k [{ kind := .getStatus }]
/-- SOFT_RESET (R189): the AMS ends, the contract and the authentication result stay. -/
def State.onSoftReset (s : State) (k : PortId) : State :=
  s.policyMsg k fun t =>
    let t := t.disarmAll [.senderResponse k, .goodCrc k, .frener k]
    let t := t.modPd k fun p => { p with tx := [], held := [], await := .none, frWait := 0 }
    (t.endAms k).say k .accept []
/-- BIST (R189): 0 Carrier Mode, 1 Test Data, both only at vSafe5V; Shared Test Mode is answered Not_Supported. -/
def State.onBist (s : State) (k : PortId) (mode : Nat) : State :=
  s.policyMsg k fun t =>
    if 1 < mode then t.say k .notSupported []
    else if t.contractMv k = 5000 then
      let t := t.modPd k fun p => { p with bist := mode + 1 }
      if mode = 0 then t.say k .bistCarrier [] else t
    else t
/-- Whether port 9 may become source of VBUS or VCONN in a swap (R209). -/
def State.mayBecomeSource (s : State) : Bool :=
  s.env.vinOk && (s.isAny [.summer, .autumn, .winter] || (s.isIn .spring && Nat.ble 2 s.boot.step))
/-- PR_SWAP on port 9 (R209). -/
def State.onPrSwap (s : State) : State :=
  s.policyMsg port9 fun t =>
    if t.isSink port9 && !t.mayBecomeSource then t.say port9 .reject []
    else (t.modPd port9 fun p => { p with await := .prSwap }).say port9 .accept []
/-- VCONN_SWAP on port 9 (R209). DEDUCED (entry 113): one that would make the part source VCONN is rejected also where the port
never applies VCONN or has tripped it (R169). -/
def State.onVconnSwap (s : State) : State :=
  s.policyMsg port9 fun t =>
    if !t.has (F.PD_STATUS_VCONN_SRC port9) && !(t.mayBecomeSource && t.vconnMay port9) then t.say port9 .reject []
    else (t.modPd port9 fun p => { p with await := .vconnSwap }).say port9 .accept []
/-- DR_SWAP on port 9 (R211). -/
def State.onDrSwap (s : State) : State :=
  s.policyMsg port9 fun t =>
    if t.has (F.PD_STATUS_DATA_ROLE port9) then
      (((t.disarm .drSwap).modPd port9 fun p => { p with drTries := 0 }).put (F.PD_STATUS_DATA_ROLE port9) false).say port9 .accept []
    else t.say port9 .reject []
/-- PORT9_SOURCE_CAPABILITIES (R210): the 5 V object at 0.50 A, or below VIN_OK at up to 3.00 A. -/
def State.onSourceCaps (s : State) (pdos : List Word) (rev2 : Bool) : State :=
  s.policyMsg port9 fun t =>
    if ! t.isSink port9 then t.startSoftReset port9
    else
      let offered := 10 * (wordAt pdos 0 % 2 ^ 10)
      let ma := if t.env.vinOk then 500 else min 3000 offered
      let mis := !t.env.vinOk && decide (ma < 500)
      let rdo := BitVec.ofNat 32 (2 ^ 28 + b2n mis * 2 ^ 26 + ma / 10 * 2 ^ 10 + ma / 10)
      let t := t.set (F.PD_STATUS_REV port9) (if rev2 then 1 else 2)
      let t := t.modPd port9 fun p =>
        { p with await := .sinkAccept, reqRdo := rdo, reqType := 1, reqMv := 5000, reqMa := ma, sinkMa := ma, pos := 1,
                 reqMismatch := mis }
      (t.setPe port9 2).say port9 .request [rdo]
/-- A DR_Swap of the part has failed: it is repeated after 2.0 s, at most 3 times; then port 9 carries no USB data until the next
attach (R211). -/
def State.drFailed (s : State) : State :=
  let s := (s.modPd port9 fun p => { p with await := .none }).endAms port9
  if (s.port port9).pd.drTries < 4 then s.arm .drSwap (secs 2)
  else (s.modAtt port9 fun a => { a with noData := true }).warn 0x091A
/-- Port 9 enters the contract it has asked for as a sink (R210). -/
def State.enterSinkContract (s : State) : State :=
  let p := (s.port port9).pd
  let s := (((s.set (F.PD_CONTRACT_TYPE port9) 1).set (F.PD_CONTRACT_V_20MV port9) 250).set
    (F.PD_CONTRACT_I_10MA port9) (p.reqMa / 10)).setWord (R.PD_RDO port9) p.reqRdo
  let s := ((s.set (F.PD_STATUS_PDO port9) 1).put (F.PD_STATUS_CONTRACT port9) true).put (F.PD_STATUS_MISMATCH port9) p.reqMismatch
  let s := s.modPd port9 fun q => { q with await := .none, hrCount := 0 }
  let s := if s.has (F.PD_STATUS_DATA_ROLE port9) then s.armOnce .drSwap (msec 50) else s
  s.setPe port9 4
/-- What waits for an answer of the partner to a message of the part has ended; the Hard Reset counter is cleared at each PS_RDY
(R199). -/
def State.afterAnswer (s : State) (k : PortId) (ready : Bool) : State :=
  (s.disarm (.senderResponse k)).modPd k fun p => { p with await := .none, hrCount := if ready then 0 else p.hrCount }
/-- A PR_Swap takes the contract away and keeps VCONN and the data role (R209). -/
def State.swapContext (s : State) (k : PortId) : State :=
  let v := s.has (F.ATT_STATUS_VCONN_ON k)
  let src := s.has (F.PD_STATUS_VCONN_SRC k)
  let d := s.has (F.PD_STATUS_DATA_ROLE k)
  (((s.clearPd k).put (F.ATT_STATUS_VCONN_ON k) v).put (F.PD_STATUS_VCONN_SRC k) src).put (F.PD_STATUS_DATA_ROLE k) d
/-- Not_Supported to what the part sent last (R189, R207, R215, R216): an authentication fails, a Frener response is absent, a
Get_Status has had its answer; anything else ends with its AMS. -/
def State.onNotSupported (s : State) (k : PortId) : State :=
  if (s.port k).pd.auth ≠ .idle then s.authFail k
  else if (s.port k).pd.frWait ≠ 0 then s.frenerAbsent k
  else s.endAms k
/-- PORT9_PS_RDY (R189): 0 Accept, 1 Reject, 2 Wait, 3 PS_RDY, 4 Not_Supported to what the part asked or a swap it accepted. An
Accept on any port acknowledges a Soft_Reset of the part. On a module port Wait is answered Not_Supported; any other of them that
nothing awaits is a protocol error, and the part resets the exchange, in a transition with Hard Reset (R189, R199). -/
def State.onPsRdy (s : State) (k : PortId) (msg : Nat) : State :=
  match (s.port k).pd.await, msg with
  | .softReset, 0 => (s.afterAnswer k false).endAms k
  | .sinkAccept, 0 => ((s.disarm (.senderResponse k)).modPd k fun p => { p with await := .sinkPsRdy }).setPe k 3
  | .sinkAccept, 1 => (s.afterAnswer k false).setPe k (if s.contract k then 4 else 2)
  | .sinkAccept, 2 => (s.afterAnswer k false).setPe k (if s.contract k then 4 else 2)
  | .sinkPsRdy, 3 => (s.afterAnswer k true).enterSinkContract
  | .drSwap, 0 =>
    (((s.afterAnswer k false).modPd k fun p => { p with drTries := 0 }).put (F.PD_STATUS_DATA_ROLE k) false).endAms k
  | .drSwap, 3 => s.startSoftReset k
  | .drSwap, _ => (s.disarm (.senderResponse k)).drFailed
  | .vconnSwap, 3 => (s.afterAnswer k true).vconnOff k
  | .prSwapSink, 3 => s.afterAnswer k true
  | .prSwap, 3 =>
    if s.isSink k then
      let s := (((s.afterAnswer k true).swapContext k).put (F.ATT_STATUS_PWR_ROLE k) false).set (F.ATT_STATUS_RP k) 3
      let s := s.modPd k fun p => { p with await := .prSwap }
      (s.setAState k 7).beginClose k
    else s.startSoftReset k
  | _, 4 => s.policyMsg k fun t => t.onNotSupported k
  | _, 2 => if k.isModule then s.answer k .notSupported [] else s.startSoftReset k
  | _, _ => s.startSoftReset k
/-- EPR_Mode data object of an action and its data. -/
def eprModeDo (action data : Nat) : Word := BitVec.ofNat 32 (action * 2 ^ 24 + data * 2 ^ 16)
/-- First applicable cause of Enter Failed, in the order of R202, as the data of the message. -/
def State.eprFailCause (s : State) (k : PortId) : Nat :=
  if ! ((s.port k).pd.caps.getD 0 0#32).getLsbD 23 then 5
  else if ! (s.port k).pd.eprCapRdo then 3
  else if ! s.has (F.ATT_CABLE_EPR_OK k) then 1
  else if ! s.has (F.ATT_STATUS_VCONN_ON k) then 2
  else 4
/-- EPR_MODE_ENTER (R202): acknowledged, then Enter Succeeded where R201 and the bits of the offer and the request
hold. -/
def State.onEprEnter (s : State) (k : PortId) : State :=
  s.policyMsg k fun t =>
    if k.isModule then
      let t := t.say k .eprModeEnterAck [eprModeDo 2 0]
      if t.eprCapable k && ((t.port k).pd.caps.getD 0 0#32).getLsbD 23 && (t.port k).pd.eprCapRdo then
        t.say k .eprModeEnterOk [eprModeDo 3 0]
      else t.say k .eprModeEnterFailed [eprModeDo 4 (t.eprFailCause k)]
    else t.say k .notSupported []
/-- EPR mode ends and SPR capabilities follow (R204). -/
def State.leaveEpr (s : State) (k : PortId) : State :=
  let s := (s.put (F.PD_STATUS_EPR k) false).disarm (.keepAlive k)
  s.sendCaps k
/-- EPR_MODE_EXIT (R204). -/
def State.onEprExit (s : State) (k : PortId) : State :=
  s.policyMsg k fun t =>
    if k.isModule then (if t.has (F.PD_STATUS_EPR k) then t.leaveEpr k else t) else t.say k .notSupported []
/-- Structured VDM header of an answer. -/
def vdmHeader (svid cmdType cmd : Nat) : Word := BitVec.ofNat 32 (svid * 2 ^ 16 + 2 ^ 15 + 2 ^ 13 + cmdType * 2 ^ 6 + cmd)
/-- STRUCTURED_VDM (R214): command 1 Discover Identity and 2 Discover SVIDs are ACKed, 6 Attention is ignored, the others
are NAKed. -/
def State.onStructuredVdm (s : State) (k : PortId) (svid cmd : Nat) : State :=
  if cmd = 1 then
    s.answer k .vdmAck [vdmHeader svid 1 1, BitVec.ofNat 32 (2 ^ 23 + 0x2E7A), 0#32,
      BitVec.ofNat 32 (0x9160 * 2 ^ 16 + s.get F.BOOT_VERS_FW_IFACE % 2 ^ 16), BitVec.ofNat 32 k.num]
  else if cmd = 2 then s.answer k .vdmAck [vdmHeader svid 1 2, 0x2E7A0000#32]
  else if cmd = 6 then s
  else s.answer k .vdmNak [vdmHeader svid 2 cmd]

/-- SECURITY_RESPONSE (R207): `msg` is the whole message, reassembled from its chunks. -/
def State.onSecurityResponse (s : State) (k : PortId) (msg : List Byte) : State := s.policyMsg k fun t => t.authStep k msg

/-- FRENER_VDM_RECEIVED (R215, Tables PDP-6 and PDP-7): the response to VIN, under the header of a Frener response; anything else
that a module may send is answered Not_Supported. -/
def State.onFrenerVdm (s : State) (k : PortId) (hdr vdo1 vdo2 : Word) : State :=
  s.policyMsg k fun t =>
    if decide (hdr.toNat = 0x2E7A2102) && decide ((t.port k).pd.frWait = 2) then
      let t := if vdo1.toNat / 2 ^ 16 = (t.port k).pd.frTag then
          t.modChk k fun c => { c with vin := some (vdo1.toNat % 2 ^ 16, vdo2.toNat / 2 ^ 16, vdo2.toNat / 2 ^ 8 % 2 ^ 8,
                                                    vdo2.toNat % 2 ^ 8) }
        else t.modChk k fun c => { c with mismatch := true }
      (t.frenerDone k).judgeHealth k
    else t.say k .notSupported []
/-- The response to IDENT: FR_CAP, MODULE_TYPE and serial (R216). -/
def State.onIdent (s : State) (k : PortId) (vdo1 vdo2 : Word) : State :=
  if (s.port k).pd.frWait = 1 then
    (s.modPd k fun p => { p with frType := vdo1.toNat / 2 ^ 16, frCap := vdo1.toNat / 2 ^ 8 % 2 ^ 8,
                                 frSerial := vdo2.toNat }).frenerDone k
  else s.answer k .notSupported []

/-- A queued message is handled by the new port engine (R218). -/
def State.handleQueued (s : State) (i : Instr) : State :=
  match i with
  | .request k _ r v => s.onRequest k r v
  | .eprRequest k _ r => s.onEprRequest k r
  | .getSourceCap k _ => s.onGetSourceCap k
  | .eprGetSourceCap k _ => s.onEprGetSourceCap k
  | .getSinkCap k _ e => s.onGetSinkCap k e
  | .getSourceCapExtended k _ => s.onGetSourceCapExtended k
  | .getSourceInfo k _ => s.onGetSourceInfo k
  | .getRevision k _ => s.onGetRevision k
  | .getManufacturerInfo k _ => s.onGetManufacturerInfo k
  | .getStatus k _ => s.onGetStatus k
  | .getPpsStatus k _ => s.onGetPpsStatus k
  | .alert k _ => s.onAlert k
  | .softReset k _ => s.onSoftReset k
  | .bist k _ m => s.onBist k m
  | .notSupportedMessage k _ => s.answer k .notSupported []
  | .vconnSwapReject k _ => s.answer k .reject []
  | .prSwap _ => s.onPrSwap
  | .vconnSwap _ => s.onVconnSwap
  | .drSwap _ => s.onDrSwap
  | .port9SourceCapabilities _ p v => s.onSourceCaps p v
  | .port9PsRdy k _ m => s.onPsRdy k m
  | .eprModeEnter k _ => s.onEprEnter k
  | .eprModeExit k _ => s.onEprExit k
  | .structuredVdm k _ v c => s.onStructuredVdm k v c
  | .securityResponse k _ m => s.onSecurityResponse k m
  | .frenerVdmReceived k _ h a b => s.onFrenerVdm k h a b
  | .cableIdentityResponse k _ v c m e => s.onCableIdentity k v c m e
  | .frenerIdent k _ (some v) => s.onIdent k v.1 v.2
  | _ => s
/-- The queued messages of port k are handled in arrival order (R218). -/
def State.handleQueue (s : State) (k : PortId) : State :=
  let q := (s.port k).pd.rxq
  forAll q (fun i t => t.handleQueued i) (s.modPd k fun p => { p with rxq := [] })

/-- REQUEST (R195): a Request is accepted or rejected. -/
def execRequest (k : PortId) (id : BitVec 3) (rdo : Word) (rev2 : Bool) (s : State) : Out :=
  .next (s.receive k (.request k id rdo rev2) id.toNat fun t => t.onRequest k rdo rev2)
/-- EPR_REQUEST (R195): judged as a Request. -/
def execEprRequest (k : PortId) (id : BitVec 3) (rdo : Word) (s : State) : Out :=
  .next (s.receive k (.eprRequest k id rdo) id.toNat fun t => t.onEprRequest k rdo)
/-- GET_SOURCE_CAP (R189). -/
def execGetSourceCap (k : PortId) (id : BitVec 3) (s : State) : Out :=
  .next (s.receive k (.getSourceCap k id) id.toNat fun t => t.onGetSourceCap k)
/-- EPR_GET_SOURCE_CAP (R189). -/
def execEprGetSourceCap (k : PortId) (id : BitVec 3) (s : State) : Out :=
  .next (s.receive k (.eprGetSourceCap k id) id.toNat fun t => t.onEprGetSourceCap k)
/-- GET_SINK_CAP (R210). -/
def execGetSinkCap (k : PortId) (id : BitVec 3) (extended : Bool) (s : State) : Out :=
  .next (s.receive k (.getSinkCap k id extended) id.toNat fun t => t.onGetSinkCap k extended)
/-- GET_SOURCE_CAP_EXTENDED (R190). -/
def execGetSourceCapExtended (k : PortId) (id : BitVec 3) (s : State) : Out :=
  .next (s.receive k (.getSourceCapExtended k id) id.toNat fun t => t.onGetSourceCapExtended k)
/-- GET_SOURCE_INFO (R190). -/
def execGetSourceInfo (k : PortId) (id : BitVec 3) (s : State) : Out :=
  .next (s.receive k (.getSourceInfo k id) id.toNat fun t => t.onGetSourceInfo k)
/-- GET_REVISION (R190). -/
def execGetRevision (k : PortId) (id : BitVec 3) (s : State) : Out :=
  .next (s.receive k (.getRevision k id) id.toNat fun t => t.onGetRevision k)
/-- GET_MANUFACTURER_INFO (R190). -/
def execGetManufacturerInfo (k : PortId) (id : BitVec 3) (s : State) : Out :=
  .next (s.receive k (.getManufacturerInfo k id) id.toNat fun t => t.onGetManufacturerInfo k)
/-- GET_STATUS (R190). -/
def execGetStatus (k : PortId) (id : BitVec 3) (s : State) : Out :=
  .next (s.receive k (.getStatus k id) id.toNat fun t => t.onGetStatus k)
/-- GET_PPS_STATUS (R205). -/
def execGetPpsStatus (k : PortId) (id : BitVec 3) (s : State) : Out :=
  .next (s.receive k (.getPpsStatus k id) id.toNat fun t => t.onGetPpsStatus k)
/-- ALERT (R189). -/
def execAlert (k : PortId) (id : BitVec 3) (s : State) : Out := .next (s.receive k (.alert k id) id.toNat fun t => t.onAlert k)
/-- SOFT_RESET (R189). -/
def execSoftReset (k : PortId) (id : BitVec 3) (s : State) : Out := .next (s.receive k (.softReset k id) id.toNat fun t => t.onSoftReset k)
/-- BIST (R189). -/
def execBist (k : PortId) (id : BitVec 3) (mode : Nat) (s : State) : Out := .next (s.receive k (.bist k id mode) id.toNat fun t => t.onBist k mode)
/-- NOT_SUPPORTED_MESSAGE (R189): a message marked N for the port. -/
def execNotSupportedMessage (k : PortId) (id : BitVec 3) (s : State) : Out :=
  .next (s.receive k (.notSupportedMessage k id) id.toNat fun t => t.answer k .notSupported [])
/-- VCONN_SWAP_REJECT (R189): module ports alone. -/
def execVconnSwapReject (k : PortId) (id : BitVec 3) (s : State) : Out :=
  .next (if k.isModule then s.receive k (.vconnSwapReject k id) id.toNat fun t => t.answer k .reject [] else s)
/-- PR_SWAP (R209). -/
def execPrSwap (id : BitVec 3) (s : State) : Out := .next (s.receive port9 (.prSwap id) id.toNat State.onPrSwap)
/-- VCONN_SWAP (R209). -/
def execVconnSwap (id : BitVec 3) (s : State) : Out := .next (s.receive port9 (.vconnSwap id) id.toNat State.onVconnSwap)
/-- DR_SWAP (R211). -/
def execDrSwap (id : BitVec 3) (s : State) : Out := .next (s.receive port9 (.drSwap id) id.toNat State.onDrSwap)
/-- PORT9_SOURCE_CAPABILITIES (R210). -/
def execPort9SourceCapabilities (id : BitVec 3) (pdos : List Word) (rev2 : Bool) (s : State) : Out :=
  .next (s.receive port9 (.port9SourceCapabilities id pdos rev2) id.toNat fun t => t.onSourceCaps pdos rev2)
/-- PORT9_PS_RDY (R189). -/
def execPort9PsRdy (k : PortId) (id : BitVec 3) (msg : Nat) (s : State) : Out :=
  .next (s.receive k (.port9PsRdy k id msg) id.toNat fun t => t.onPsRdy k msg)
/-- EPR_MODE_ENTER (R202). -/
def execEprModeEnter (k : PortId) (id : BitVec 3) (s : State) : Out :=
  .next (s.receive k (.eprModeEnter k id) id.toNat fun t => t.onEprEnter k)
/-- EPR_MODE_EXIT (R204). -/
def execEprModeExit (k : PortId) (id : BitVec 3) (s : State) : Out :=
  .next (s.receive k (.eprModeExit k id) id.toNat fun t => t.onEprExit k)
/-- STRUCTURED_VDM (R214). -/
def execStructuredVdm (k : PortId) (id : BitVec 3) (svid cmd : Nat) (s : State) : Out :=
  .next (s.receive k (.structuredVdm k id svid cmd) id.toNat fun t => t.onStructuredVdm k svid cmd)
/-- SECURITY_RESPONSE (R207). -/
def execSecurityResponse (k : PortId) (id : BitVec 3) (msg : List Byte) (s : State) : Out :=
  .next (s.receive k (.securityResponse k id msg) id.toNat fun t => t.onSecurityResponse k msg)
/-- FRENER_VDM_RECEIVED (R215). -/
def execFrenerVdmReceived (k : PortId) (id : BitVec 3) (hdr vdo1 vdo2 : Word) (s : State) : Out :=
  .next (s.receive k (.frenerVdmReceived k id hdr vdo1 vdo2) id.toNat fun t => t.onFrenerVdm k hdr vdo1 vdo2)

/-- EPR_KEEPALIVE (R203): answered by the protocol layer, also without the port engine. Outside EPR mode, and on port 9, it is
answered Not_Supported (Table PDP-2). -/
def execEprKeepalive (k : PortId) (id : BitVec 3) (s : State) : Out :=
  .next (if s.pdReceives k then
      let first := decide ((s.port k).pd.rxId ≠ some id.toNat)
      let s := s.modPd k fun p => { p with acked := some id.toNat, rxId := some id.toNat }
      if !first then s
      else if s.has (F.PD_STATUS_EPR k) then (s.say k .eprKeepAliveAck []).arm (.keepAlive k) (msec 900)
      else if s.policyRuns k then s.answer k .notSupported [] else s
    else s)
/-- HARD_RESET_RECEIVED (R198, Table PDP-5 step 1). -/
def execHardResetReceived (k : PortId) (s : State) : Out :=
  .next (if s.pdReceives k then
      let s := (s.warn (portFault k 0 0x11)).modPd k fun p => { p with noPd := false }
      s.hardResetStep1 k
    else s)
/-- PD_QUEUE_FULL (R218): a fifth message arrives while the port engine does not run. -/
def execPdQueueFull (k : PortId) (s : State) : Out :=
  .next (if s.pdReceives k && !s.policyRuns k && Nat.ble 4 (s.port k).pd.rxq.length then s.queueFull k else s)

end Sys2Proof.Machine
end

