-- ==== Sys2Proof/Machine/PdTime.lean ====
section
/-!
DEFINITION. The Power Delivery commands of the part's own course (chapter PDP): the GoodCRC of what it sent, the timers
of Table PDP-3, voltage transitions, Hard Reset, capabilities, cable discovery, and what the part begins by itself.
-/
namespace Sys2Proof.Machine

/-- Port 9 turns from source to sink in a PR_Swap (R209): switch opened, Rd presented, PS_RDY sent; the new source's PS_RDY ends
the swap. VCONN and the data role stay. -/
def State.swapToSink (s : State) (k : PortId) : State :=
  let s := ((s.softOpen k).swapContext k).put (F.ATT_STATUS_PWR_ROLE k) true
  let s := (s.setAState k 8).set (F.ATT_STATUS_RP k) (seesRp (s.port k).pins)
  (s.modPd k fun p => { p with await := .prSwapSink }).say k .psRdy []
/-- What follows an Accept of the part. -/
def State.afterAccept (s : State) (k : PortId) : State :=
  match (s.port k).pd.await with
  | .srcTransition => s.arm (.srcTransition k) (msec 28)
  | .prSwap => if s.isSink k then s else s.swapToSink k
  | .vconnSwap =>
    if s.has (F.PD_STATUS_VCONN_SRC k) then s
    else if s.vconnMay k then ((s.vconnApply k).modPd k fun p => { p with await := .none }).say k .psRdy []
    else s.modPd k fun p => { p with await := .none }
  | _ => s.endAms k
/-- What follows a PS_RDY of the part: the Hard Reset counter cleared, SinkTxOK, and after a PR_Swap to source the capabilities
(R197, R199, R209). -/
def State.afterPsRdy (s : State) (k : PortId) : State :=
  let s := s.modPd k fun p => { p with hrCount := 0 }
  if s.isSink k then s
  else
    let s := s.endAms k
    let s := if s.contract k then s.set (F.ATT_STATUS_RP k) 3 else s
    if (s.port k).pd.await = .prSwap then (s.modPd k fun p => { p with await := .none }).startPd k else s
/-- What the GoodCRC of a message of the part starts (R196, R199, R202, R204, R207, R213, R215, R248). -/
def State.afterSent (s : State) (k : PortId) (m : PdMsg) : State :=
  match m.kind with
  | .sourceCap | .eprSourceCap =>
    if s.isSink k then s
    else (((s.disarm (.sendCaps k)).modPd k fun p => { p with capsCount := 0 }).setPe k 2).arm (.senderResponse k) (msec 30)
  | .accept => s.afterAccept k
  | .psRdy => s.afterPsRdy k
  | .reject => if (s.port k).pd.await = .none then s.endAms k else s
  | .securityRequest => s.arm (.authResponse k) (msec 500)
  | .discoverIdentity => s.arm (.senderResponse k) (msec 30)
  | .frVin => (s.beginHealth k true).arm (.frener k) (msec 30)
  | .frIdent => s.arm (.frener k) (msec 30)
  | .softReset | .request | .drSwap => s.arm (.senderResponse k) (msec 30)
  | .eprModeEnterOk => ((s.put (F.PD_STATUS_EPR k) true).arm (.keepAlive k) (msec 900)).sendCaps k
  | .eprModeExit => s.leaveEpr k
  | .getStatus => s.endAms k
  | _ => s
/-- The MessageID that a message of the part carries: that of its kind of packet. -/
def PdPort.idOf (p : PdPort) (m : PdMsg) : Nat := if m.kind.sopPrime then p.txIdP else p.txId
/-- The MessageID counter of a message's kind of packet moves on (R187). -/
def PdPort.nextId (p : PdPort) (m : PdMsg) : PdPort :=
  if m.kind.sopPrime then { p with txIdP := (p.txIdP + 1) % 8 } else { p with txId := (p.txId + 1) % 8 }
/-- The first message of the queue, `m`, is off; the next awaits its GoodCRC. -/
def State.nextTx (s : State) (k : PortId) (m : PdMsg) : State :=
  let s := (s.modPd k fun p => { p.nextId m with tx := p.tx.tail, retries := 0 }).disarm (.goodCrc k)
  if (s.port k).pd.tx.isEmpty then s else s.arm (.goodCrc k) (msec 1)
/-- The next chunk of the first message `m` goes out (R188). -/
def State.nextChunk (s : State) (k : PortId) (m : PdMsg) : State :=
  (s.modPd k fun p => { p.nextId m with tx := { m with chunk := m.chunk + 1 } :: p.tx.tail, retries := 0 }).arm (.goodCrc k) (msec 1)
/-- GOODCRC_RECEIVED (R187, R188, R196): the partner's GoodCRC for the message the part sent, with that message's MessageID. A
chunk that is not the last is followed by the next. PRESUMED (entry 114): the partner's request for the next chunk, which the
table has no row for, comes with the GoodCRC of the chunk before. -/
def execGoodcrcReceived (k : PortId) (id : BitVec 3) (s : State) : Out :=
  match (s.port k).pd.tx with
  | [] => .next s
  | m :: _ =>
    if (s.port k).pd.idOf m ≠ id.toNat then .next s
    else if m.lastChunk then .next ((s.nextTx k m).afterSent k m) else .next (s.nextChunk k m)

/-- A message has failed after its retries (R187). -/
def State.sendFailed (s : State) (k : PortId) (m : PdMsg) : State :=
  match m.kind with
  | .sourceCap => if s.contract k then s.startSoftReset k else s
  | .discoverIdentity => s.cableMiss k
  | .softReset => s.sendHardReset k
  | .securityRequest => s.authFail k
  | .frVin => (s.frenerAbsent k).beginHealth k false
  | .frIdent => s.frenerAbsent k
  | .frNotice | .eprKeepAliveAck | .bistCarrier => s
  | _ => s.startSoftReset k
/-- GOODCRC_WAIT_TIMEOUT (R187): retransmission up to nRetryCount, then the transmission has failed. -/
def execGoodcrcWaitTimeout (k : PortId) (s : State) : Out :=
  .next (s.onElapse (.goodCrc k) fun s =>
    match (s.port k).pd.tx with
    | [] => s
    | m :: _ =>
      if (s.port k).pd.retries < 2 then
        (s.modPd k fun p => { p with retries := p.retries + 1 }).arm (.goodCrc k) (msec 1)
      else (s.nextTx k m).sendFailed k m)

/-- After nCapsCount capabilities without an answer the port gives up PD (R200). -/
def State.capsExhausted (s : State) (k : PortId) : State :=
  let s := (s.modPd k fun p => { p with noPd := true, tx := [], await := .none }).disarm (.goodCrc k)
  let s := (s.warn (portFault k 0 0x18)).setPe k 6
  let s := ((s.set (F.PD_CONTRACT_TYPE k) 6).set (F.PD_CONTRACT_V_20MV k) 250).set (F.PD_CONTRACT_I_10MA k)
    (rpMa (s.get (F.ATT_STATUS_RP k)) / 10)
  if k.isModule && s.has (F.ATT_CFG_DCP_EN k) then (s.modAtt k fun a => { a with dcp := true }).setAState k 9 else s
/-- SOURCE_CAP_RESEND (R200). -/
def execSourceCapResend (k : PortId) (s : State) : Out :=
  .next (s.onElapse (.sendCaps k) fun s =>
    if s.contract k || (s.port k).pd.reloading then s
    else if 50 ≤ (s.port k).pd.capsCount then s.capsExhausted k
    else (s.modPd k fun p => { p with tx := [] }).sendCaps k)

/-- SENDER_RESPONSE_TIMEOUT (R199, R211, R213): no answer within tSenderResponse. -/
def execSenderResponseTimeout (k : PortId) (s : State) : Out :=
  .next (s.onElapse (.senderResponse k) fun s =>
    if s.discovers k then s.cableMiss k
    else match (s.port k).pd.await with
      | .request | .softReset | .sinkAccept => s.sendHardReset k
      | .drSwap => s.drFailed
      | _ => s)

/-- HARD_RESET_PS_ELAPSED (Table PDP-5 steps 2 and 3). -/
def execHardResetPsElapsed (k : PortId) (s : State) : Out :=
  .next (s.onElapse (.psHardReset k) fun s =>
    let s := (s.softOpen k).modPd k fun p => { p with hr := .recover }
    (s.arm (.srcRecover k) (msec 700)).judgeVbus k)
/-- SRC_RECOVER_ELAPSED (Table PDP-5 step 4). -/
def execSrcRecoverElapsed (k : PortId) (s : State) : Out :=
  .next (s.onElapse (.srcRecover k) fun s =>
    (s.modPd k fun p => { p with hr := .reapply }).judgeVbus k)
/-- VBUS_VSAFE5V_REACHED (Table PDP-5 step 5): VBUS stands at vSafe5V with the switch closed. As the new source of a
PR_Swap port 9 answers PS_RDY first. During a reload the step waits for the new engine (R218). -/
def execVbusVsafe5vReached (k : PortId) (s : State) : Out :=
  let reloading := (s.port k).pd.reloading
  let pe := if reloading then (s.port k).pd.peBefore else s.get (F.PD_STATUS_PE k)
  .next (if s.switchClosed k && decide (s.astate k = 7) && !s.contract k && (decide (pe = 0) || decide (pe = 5)) then
      if reloading then s.modPd k fun p => { p with hr := .capsDue } else
      if (s.port k).pd.await = .prSwap && (s.port k).pd.tx.isEmpty then s.say k .psRdy [] else s.startPd k
    else s)
/-- ERROR_RECOVERY_ELAPSED (R199). -/
def execErrorRecoveryElapsed (k : PortId) (s : State) : Out :=
  .next (s.onElapse (.errorRecovery k) fun s => (s.forgetPartner k).unattached k)

/-- SLEW in 0.1 mV per frame (R255). -/
def State.slew (s : State) (k : PortId) : Nat := orDefault 64 (s.get (F.CNV_CFG_SLEW k))
/-- The transition allowance of the breaker begins (R281). -/
def State.beginAllowance (s : State) (k : PortId) : State :=
  let ma := (s.port k).pd.reqMa
  let s := s.modBrk k fun b => { b with iRefNext := ma }
  if s.get (F.BRK_STATUS_STATE k) = 3 then (s.set (F.BRK_STATUS_STATE k) 4).arm (.allowance k) (msec 33) else s
/-- The allowance ends (R278, R281): the evaluator resumes with the new reference current. -/
def State.endAllowance (s : State) (k : PortId) : State :=
  let s := (s.disarm (.allowance k)).modBrk k fun b => { b with iRef := b.iRefNext }
  if s.get (F.BRK_STATUS_STATE k) = 4 then s.set (F.BRK_STATUS_STATE k) 3 else s
/-- TRANSITION_START (R196, R244): tSrcTransition after the GoodCRC of Accept. A request that keeps the voltage is in
force at once. -/
def execTransitionStart (k : PortId) (s : State) : Out :=
  .next (s.onElapse (.srcTransition k) fun s =>
    if (s.port k).pd.await ≠ .srcTransition then s
    else if (s.port k).pd.reqKeep || !k.isModule then s.enterContract k
    else
      let dv := ((s.port k).pd.reqMv : Int) - (((s.port k).cnv.position / 10 : Nat) : Int)
      let bound := frameCycles * ceilDiv (10 * dv.natAbs) (s.slew k) + msec 20
      let s := (s.modPd k fun p => { p with await := .transition }).beginAllowance k
      let s := (s.rampTo k (s.port k).pd.reqMv).arm (.transition k) bound
      s.modChk k fun c => { c with disturbed := true })
/-- TRANSITION_END (R244): two frames within the new range. -/
def execTransitionEnd (k : PortId) (s : State) : Out :=
  .next (if decide ((s.port k).pd.await = .transition) && Nat.ble 2 (s.port k).cnv.inRange then
      let now := s.now
      let s := (s.disarm (.transition k)).modCnv k fun c => { c with rampEndAt := now, rampOpen := false }
      (s.endAllowance k).enterContract k
    else s)
/-- TRANSITION_TIMEOUT (R196): contained fault 0x8k14 and a Hard Reset. -/
def execTransitionTimeout (k : PortId) (s : State) : Out :=
  .next (s.onElapse (.transition k) fun s =>
    if (s.port k).pd.await = .transition then (s.sendHardReset k).raise (portFault k 2 0x14) else s)

/-- Current in mA of an object at its highest voltage. -/
def topMa (o : Word) : Nat := (objView o).ma (objView o).hi
/-- Current of the object of the last offer with the same kind and range, 0 where it had none. -/
def offered (caps : List Word) (o : Word) : Nat :=
  match caps.find? fun c => decide (c ≠ 0#32) && decide ((objView c).kind = (objView o).kind) &&
      decide ((objView c).lo = (objView o).lo) && decide ((objView c).hi = (objView o).hi) with
  | some c => topMa c
  | none => 0
/-- Whether a new offer raises some object's current by at least 100 mA (R194). -/
def State.upward (s : State) (k : PortId) : Bool :=
  (s.buildCaps k).any fun o => decide (o ≠ 0#32) && Nat.ble (offered (s.port k).pd.caps o + 100) (topMa o)
/-- Whether the contract exceeds the ceiling or the limit of the allocator (R194). -/
def State.overCeiling (s : State) (k : PortId) : Bool :=
  k.isModule && s.contract k &&
  (Nat.blt (s.ceilMw k) (s.contractMv k * s.contractMa k / 1000) || Nat.blt (s.get (F.CNV_ILIM_ALLOC k)) (s.contractMa k))
/-- NOTICE before reduced capabilities (R215, R216): only with no AMS in progress. -/
def State.notice (s : State) (k : PortId) : State :=
  if s.frenerOn k && (s.port k).pd.frCap.testBit 1 && !s.amsRuns k then
    s.say k .frNotice [frHeader 3, BitVec.ofNat 32 (2 ^ 24 + s.get (F.BUD_GRANT_CEIL k))]
  else s
/-- New capabilities under R194. -/
def State.updateCaps (s : State) (k : PortId) : State :=
  let p := (s.port k).pd
  let open' := s.switchClosed k && !p.reloading && !p.noPd && decide (p.await = .none) && p.tx.isEmpty && !p.caps.isEmpty &&
    !s.isSink k && (s.contract k || decide (s.get (F.PD_STATUS_PE k) = 2))
  if ! open' then s
  else if s.overCeiling k then (s.notice k).sendCaps k
  else if p.ams then s
  else if p.capsDue then s.offerCaps k
  else if s.upward k && !s.armed (.upwardOffer k) then (s.offerCaps k).arm (.upwardOffer k) (secs 1)
  else s
/-- CAPABILITIES_UPDATE (R194). -/
def execCapabilitiesUpdate (k : PortId) (s : State) : Out := .next (s.updateCaps k)
/-- UPWARD_OFFER_TIMER (R194): the pacing runs out and a withheld offer goes. -/
def execUpwardOfferTimer (k : PortId) (s : State) : Out :=
  .next (s.onElapse (.upwardOffer k) fun s => s.updateCaps k)
/-- SINK_TX_ELAPSED (R197): the messages of the part's own AMS go. -/
def execSinkTxElapsed (k : PortId) (s : State) : Out :=
  .next (s.onElapse (.sinkTx k) fun s => s.releaseHeld k)

/-- EPR_EXIT_SEND (R204): R201 has ceased to hold. -/
def execEprExitSend (k : PortId) (s : State) : Out :=
  .next (if s.has (F.PD_STATUS_EPR k) && !s.eprCapable k && !(s.port k).pd.reloading && s.switchClosed k &&
      !((s.port k).pd.tx.any fun m => decide (m.kind = .eprModeExit)) then s.say k .eprModeExit [eprModeDo 5 0]
    else s)
/-- EPR_KEEPALIVE_TIMEOUT (R203). -/
def execEprKeepaliveTimeout (k : PortId) (s : State) : Out :=
  .next (s.onElapse (.keepAlive k) fun s => (s.warn (portFault k 0 0x15)).sendHardReset k)
/-- PPS_TIMEOUT (R205). -/
def execPpsTimeout (k : PortId) (s : State) : Out :=
  .next (s.onElapse (.ppsTimeout k) fun s => (s.warn (portFault k 0 0x16)).sendHardReset k)

/-- DR_SWAP_RETRY (R211): the first DR_Swap and up to three repeats; during a reload of the port engine it waits (R218). -/
def execDrSwapRetry (s : State) : Out :=
  .next (if (s.port port9).pd.reloading then s else s.onElapse .drSwap fun s =>
    if s.contract port9 && s.has (F.PD_STATUS_DATA_ROLE port9) then
      (s.modPd port9 fun p => { p with drTries := p.drTries + 1, await := .drSwap }).ownAms port9 [{ kind := .drSwap }]
    else s)

/-- CABLE_DISCOVERY (R213): tVCONNStable after VCONN on, from the closing of the switch (R187), or as VCONN source in the sink
role; during a reload of the port engine it waits (R218). -/
def execCableDiscovery (k : PortId) (s : State) : Out :=
  .next (if (s.port k).pd.reloading then s else s.onElapse (.vconnStable k) fun s =>
    if s.has (F.ATT_STATUS_VCONN_ON k) && !(s.port k).pd.cableDone && (s.switchDriven k || decide (s.astate k = 8)) then s.discover k
    else s)
/-- CABLE_IDENTITY_RESPONSE (R213, Table ATT-4): what the cable's identity says, or an attempt that brought none. -/
def execCableIdentityResponse (k : PortId) (id : BitVec 3) (valid : Bool) (cur vmax : Nat) (epr : Bool) (s : State) : Out :=
  .next (s.receive k (.cableIdentityResponse k id valid cur vmax epr) id.toNat fun t => t.onCableIdentity k valid cur vmax epr)

/-- AUTH_START (R207, R208): authentication of a gated port begins. -/
def execAuthStart (k : PortId) (s : State) : Out :=
  .next (match s.gateMw? k with
    | none => s
    | some g =>
      if s.contract k && Nat.blt g (s.ceilMw k) && decide (s.get (F.PD_STATUS_AUTH k) = 0) && !s.amsRuns k &&
          !(s.port k).pd.reloading then
        let s := s.set (F.PD_STATUS_AUTH k) 1
        if (s.trustedRoots k).isEmpty || s.rev2 k then s.authFail k
        else ((s.modPd k fun p => { p with auth := .digests }).arm (.authWhole k) (secs 3)).ownAms k [secRequest 0x81 0 []]
      else s)
/-- AUTH_TIMEOUT (R207): whichever of the two limits ends first. -/
def execAuthTimeout (k : PortId) (s : State) : Out :=
  match s.deadline (.authResponse k), s.deadline (.authWhole k) with
  | some a, some b =>
    .next (s.onElapse (if a ≤ b then .authResponse k else .authWhole k) fun s => s.authFail k)
  | some _, none => .next (s.onElapse (.authResponse k) fun s => s.authFail k)
  | none, _ => .next (s.onElapse (.authWhole k) fun s => s.authFail k)

/-- FRENER_IDENT (R216): without a response the part sends IDENT, once per contract; with one it takes it. -/
def execFrenerIdent (k : PortId) (id : BitVec 3) (resp : Option (Word × Word)) (s : State) : Out :=
  match resp with
  | none =>
    .next (if s.frenerOn k && !(s.port k).pd.frIdentSent && !s.amsRuns k && !(s.port k).pd.reloading then
        (s.modPd k fun p => { p with frIdentSent := true, frWait := 1 }).ownAms k
          [{ kind := .frIdent, objs := [frHeader 1] }]
      else s)
  | some v => .next (s.receive k (.frenerIdent k id (some v)) id.toNat fun t => t.onIdent k v.1 v.2)
/-- FRENER_VDM_TIMEOUT (R215). -/
def execFrenerVdmTimeout (k : PortId) (s : State) : Out :=
  .next (s.onElapse (.frener k) fun s => s.frenerAbsent k)

end Sys2Proof.Machine
end

