-- ==== Sys2Proof/Machine/BreakerOps.lean ====
section
/-!
DEFINITION. What several commands of the switch and breaker share: trips and their class rules (R282–R284), holds
(Table BRK-4, R287), and the breaker evaluator's curve (R277–R279).
-/
namespace Sys2Proof.Machine

/-- The trips that Status reports (R190): bit 0 OCP, bit 1 OTP, bit 2 OVP. -/
def tripBit (cause : Nat) : Nat :=
  if cause ≤ 0x33 then 1 else if cause = 0x36 then 2 else if cause ≤ 0x35 then 4 else 0
/-- Record a trip or hold: LAST_CAUSE and what the next Status reports. -/
def State.noteCause (s : State) (k : PortId) (cause : Nat) : State :=
  (s.set (F.BRK_STATUS_LAST_CAUSE k) cause).modPd k fun p => { p with tripSeen := p.tripSeen ||| tripBit cause }

/-- The off-time of R284 in fabric cycles for an on-time. -/
def State.tOff (s : State) (k : PortId) (on : Nat) : Nat := max (msec 100 * orDefault 10 (s.get (F.BRK_RETRY_TOFF k))) (19 * on)
/-- The port latches off (R283): flag and warning once, whatever hold shows in its place. -/
def State.latch (s : State) (k : PortId) : State :=
  if (s.port k).brk.latched then s.settleOpen k
  else
    let s := (s.disarm (.retryOff k)).modBrk k fun b => { b with latched := true }
    ((s.settleOpen k).flag (G.BRK_LATCHED k)).warn (portFault k 0 0x38)
/-- A trip's off-time begins; one that runs already ends no sooner for it (R284). -/
def State.beginOff (s : State) (k : PortId) (on : Nat) : State :=
  (s.arm (.retryOff k) (max (s.tOff k on) (((s.deadline (.retryOff k)).getD 0) - s.now))).settleOpen k
/-- The class rules after a trip (R283, R284): `closed` says that the trip follows a close of the switch, and only then it
counts against a retry. A latched port stays latched, and a held one held (Table BRK-4). -/
def State.classRules (s : State) (k : PortId) (on : Nat) (closed : Bool) : State :=
  if s.has (F.BRK_CFG_CLASS k) || (s.port k).brk.latched then s.latch k
  else
    let n := s.get (F.BRK_STATUS_RETRIES k) + b2n ((s.port k).brk.retried && closed)
    let limit := s.get (F.BRK_RETRY_LIMIT k)
    if limit ≠ 0 && Nat.blt limit n then s.latch k
    else (s.set (F.BRK_STATUS_RETRIES k) (min 255 n)).beginOff k on
/-- A trip (R282): switch opened with the converter stopped and the PD context cleared, cause and flag recorded, the
class rules applied, and the contained fault raised. -/
def State.tripPort (s : State) (k : PortId) (cause : Nat) : State :=
  let on := s.now - max (s.port k).brk.closeAt (s.port k).brk.accZeroAt
  let closed := s.switchDriven k
  let s := s.hardOpen k
  let s := (s.modBrk k fun b => { b with acc := 0 }).set (F.BRK_STATUS_ACC k) 0
  let s := ((s.noteCause k cause).flag (G.BRK_TRIP k)).set (F.BRK_TIME_T_ON k) (min 0xFFFF (on / msec 1))
  (s.classRules k on closed).raise (portFault k 2 cause)
/-- A hold of Table BRK-4 or R287. -/
def State.holdPort (s : State) (k : PortId) (cause : Nat) (untilDetach : Bool) : State :=
  (((s.holdOpen k untilDetach).noteCause k cause).flag (G.BRK_HELD k)).raise (portFault k 2 cause)
/-- The port switch is shorted (R286, Table BRK-2 step 2): neither a trip nor a hold, so LAST_CAUSE stays (R293). -/
def State.switchShorted (s : State) (k : PortId) : State := (s.hardOpen k).raise (portFault k 3 0x3A)

/-- log2_q16 of R279, for a number above 0. -/
def log2Q16 (x : Nat) : Nat := within12 (log2Exact x) (Config.log2Error x)
/-- exp2_q16 of R279; a negative exponent gives less than 1. -/
def exp2Q16 (y : Int) : Nat := if y < 0 then 0 else within12 (exp2Exact y.toNat) (Config.exp2Error y.toNat)
/-- Ratio of point n of the curve. -/
def State.curveR (s : State) (k : PortId) (n : Nat) : Nat := s.get (F.BRK_PT_R k n)
/-- Trip time of point n in ns. -/
def State.curveT (s : State) (k : PortId) (n : Nat) : Nat := s.get (F.BRK_PT_M k n) * 2 ^ s.get (F.BRK_PT_E k n) * 1000
/-- The segment of the curve that a ratio falls into: the last point not above it. -/
def State.segment (s : State) (k : PortId) (r : Nat) : Nat → Nat
  | 0 => 0
  | n + 1 => if s.curveR k (n + 1) ≤ r then n + 1 else s.segment k r n
/-- lt of R279: log2 of the trip time in ns at a ratio on or above the first point. -/
def State.curveLt (s : State) (k : PortId) (r : Nat) : Int :=
  let last := s.get (F.BRK_CFG_NPTS k) - 1
  let lt (n : Nat) : Int := (log2Q16 (s.curveT k n) : Nat)
  let lrOf (x : Nat) : Int := (log2Q16 x : Nat)
  if s.curveR k last ≤ r then lt last
  else
    let i := s.segment k r last
    let den := lrOf (s.curveR k (i + 1)) - lrOf (s.curveR k i)
    lt i + ((lt (i + 1) - lt i) * (lrOf r - lrOf (s.curveR k i))).tdiv den
/-- acc after a step of R279 at a ratio. -/
def State.accStep (s : State) (k : PortId) (r dtNs : Nat) : Nat :=
  let acc := (s.port k).brk.acc
  if r < s.curveR k 0 then acc - dtNs * 2 ^ 32 / (orDefault 60 (s.get (F.BRK_CFG_COOL k)) * 1000000000)
  else acc + exp2Q16 ((log2Q16 dtNs : Nat) - s.curveLt k r + 32 * 2 ^ 16)

end Sys2Proof.Machine
end

