-- ==== Sys2Proof/Machine/Breaker.lean ====
section
/-!
DEFINITION. The switch and breaker commands (chapter BRK).
-/
namespace Sys2Proof.Machine

/-- PRECLOSE_TEST_ELAPSED (R270, Table BRK-2): `rose` says that Pk_VCSNS rose above vSafe0V during the 2.0 ms. -/
def execPrecloseTestElapsed (k : PortId) (rose : Bool) (s : State) : Out :=
  .next (s.onElapse (.preClose k) fun s =>
    if s.get (F.BRK_STATUS_STATE k) ≠ 1 then s
    else if rose then s.switchShorted k
    else
      let now := s.now
      let s := (s.set (F.BRK_STATUS_STATE k) 2).modBrk k fun b => { b with closeAt := now, accZeroAt := now, gate := 0, verdictDue := false }
      s.arm (.closing k) (msec (orDefault 10 (s.get (F.BRK_SW_TSOA k)))))

/-- FOLDBACK_STEP (R271): the power of the switch against P_FB holds or discharges the gate. -/
def execFoldbackStep (k : PortId) (mv ma : Nat) (s : State) : Out :=
  if s.get (F.BRK_STATUS_STATE k) = 2 then
    let p := mv * ma
    let fb := 1000000 * orDefault 10 (s.get (F.BRK_SW_PFB k))
    let g := if Nat.blt (5 * fb) (4 * p) then 2 else if Nat.blt fb p then 1 else 0
    .next (s.modBrk k fun b => { b with gate := g })
  else .next s

/-- SWITCH_CLOSED (R270, Table BRK-2 step 4): VBUS is applied; the drop arm is armed and the 30 s of R284 run. -/
def execSwitchClosed (k : PortId) (s : State) : Out :=
  if s.get (F.BRK_STATUS_STATE k) = 2 then
    let now := s.now
    let s := (s.set (F.BRK_STATUS_STATE k) 3).put (F.ATT_STATUS_VBUS_ON k) true
    let s := s.modBrk k fun b => { b with dropArmed := k.isModule, gate := 0 }
    let s := (s.modPins k fun p => { p with vcsnsSafe := false }).modCnv k fun c => { c with rampOpen := false, rampEndAt := now }
    let s := (s.disarm (.closing k)).arm (.retryClear k) (secs 30)
    .next (if k.isModule then s else { s with pins := { s.pins with p9swg := true } })
  else .next s

/-- CLOSING_TIMEOUT (R272): contained fault 0x8k33 and the class rules. -/
def execClosingTimeout (k : PortId) (s : State) : Out :=
  .next (s.onElapse (.closing k) fun s => if s.get (F.BRK_STATUS_STATE k) = 2 then s.tripPort k 0x33 else s)

/-- Whether an arm of the short comparator is armed (R273): 0 drop, 1 collapse, 2 current. -/
def State.armArmed (s : State) (k : PortId) (arm : Nat) : Bool :=
  if arm = 0 then k.isModule && (s.port k).brk.dropArmed && s.switchClosed k
  else if arm = 1 then k.isModule && [2, 3, 4].contains (s.get (F.BRK_STATUS_STATE k)) && !s.has (F.CNV_STATUS_CLIM k) &&
    !s.has (F.CNV_STATUS_RAMP k)
  else !k.isModule && s.switchDriven k
/-- I_SC in mA (R273). -/
def State.iSc (s : State) (k : PortId) : Nat := 100 * orDefault 100 (s.get (F.BRK_CFG_ISC k))
/-- Threshold of an arm of the short comparator in µV (R273): 0 drop, I_SC × RON; 1 collapse, the LO of the VBSNS window, 80 % of
VSET cut to a 16 mV code (R275); 2 current, I_SC × RSNS9. RON and RSNS9 are in 0.1 mΩ. -/
def State.shortUv (s : State) (k : PortId) (arm : Nat) : Nat :=
  if arm = 0 then s.iSc k * s.get (F.BRK_SW_RON k) / 10
  else if arm = 1 then s.get (F.CNV_STATUS_VSET k) * 8 / 160 * 16000
  else s.iSc k * s.get (F.BRK_SW_RSNS9 k) / 10
/-- Whether a voltage in µV trips an arm: above its threshold, and for the collapse arm below. -/
def State.shortTrips (s : State) (k : PortId) (arm uv : Nat) : Bool :=
  if arm = 1 then Nat.blt uv (s.shortUv k 1) else Nat.blt (s.shortUv k arm) uv
/-- SHORT_DETECTED (R274): `uv` is the voltage that an arm sees, VBSNS − VCSNS, VBSNS, or that across P9_ISP − P9_ISN; beyond
its threshold an armed arm trips, with 0x8k31 for the collapse arm and 0x8k30 for the others. -/
def execShortDetected (k : PortId) (arm uv : Nat) (s : State) : Out :=
  .next (if s.armArmed k arm && s.shortTrips k arm uv then s.tripPort k (if arm = 1 then 0x31 else 0x30) else s)

/-- BREAKER_STEP (R279): one step of `dtNs` at a measured current of `ma`, with the switch closed or open; a transition
allowance holds acc (R281). -/
def execBreakerStep (k : PortId) (ma dtNs : Nat) (s : State) : Out :=
  if s.get (F.BRK_CFG_NPTS k) ≠ 0 then
    let acc := if s.get (F.BRK_STATUS_STATE k) = 4 then (s.port k).brk.acc
      else s.accStep k (ma * 64 / max 1 (s.port k).brk.iRef) dtNs
    if Nat.ble (2 ^ 32) acc then .next (s.tripPort k 0x32)
    else
      let now := s.now
      let s := s.modBrk k fun b => { b with acc := acc, accZeroAt := if acc = 0 then now else b.accZeroAt }
      .next (s.set (F.BRK_STATUS_ACC k) (acc / 2 ^ 24))
  else .next s

/-- ALLOWANCE_END (R281). -/
def execAllowanceEnd (k : PortId) (s : State) : Out := .next (s.onElapse (.allowance k) fun s => s.endAllowance k)

/-- The off-time or a hold of a port has ended: where nothing else holds it, it enters step 4 of Table PDP-5. -/
def State.reenter (s : State) (k : PortId) : State :=
  let s := s.settleOpen k
  if s.get (F.BRK_STATUS_STATE k) = 0 then (s.modPd k fun p => { p with hr := .reapply }).judgeVbus k else s
/-- RETRY_OFF_ELAPSED (R284): the port enters step 4 of Table PDP-5, and its next close is a retry close; under a hold it waits
for the end of that too (Table BRK-4). -/
def execRetryOffElapsed (k : PortId) (s : State) : Out :=
  .next (s.onElapse (.retryOff k) fun s => (s.modBrk k fun b => { b with retryClose := true }).reenter k)

/-- RETRY_COUNT_CLEAR (R284). -/
def execRetryCountClear (k : PortId) (s : State) : Out :=
  .next (s.onElapse (.retryClear k) fun s =>
    (s.set (F.BRK_STATUS_RETRIES k) 0).modBrk k fun b => { b with retried := false, retryClose := false })

/-- OFF_CHECK (R286): open, shorted, or left to the pre-close test; the port then stands as its class or hold says. -/
def execOffCheck (k : PortId) (s : State) : Out :=
  .next (s.onElapse (.offCheck k) fun s =>
    let b := (s.port k).brk
    let vb := s.vbsns k
    let vc := s.vcsns k
    let openSeen := Nat.ble (vc + 500) vb
    let short := Nat.blt (100 * vb) (95 * b.vb0) && decide (((vb : Int) - (vc : Int)).natAbs ≤ 200) && !openSeen
    let s := s.when (decide (s.get (F.BRK_STATUS_STATE k) = 5)) fun t => t.set (F.BRK_STATUS_STATE k) b.after
    let s := s.modBrk k fun b => { b with verdictDue := !openSeen && !short }
    if short then s.switchShorted k else s.judgeVbus k)

/-- NTC_RECOVERED (R276, Table BRK-4): 10 s inside the window after over-temperature. -/
def execNtcRecovered (k : PortId) (s : State) : Out :=
  .next (s.onElapse (.ntcCool k) fun s =>
    if (s.port k).brk.heldNtc then (s.modBrk k fun b => { b with heldNtc := false }).reenter k else s)

/-- GATE_DRIVE_LOST (R287). -/
def execGateDriveLost (k : PortId) (s : State) : Out :=
  .next (if s.switchClosed k then s.holdPort k 0x3B true else s)

/-- ON_DROP_DEGRADED (R287): once per attach. -/
def execOnDropDegraded (k : PortId) (s : State) : Out :=
  .next (s.onElapse (.onDrop k) fun s =>
    if (s.port k).brk.degradedWarned || !s.switchClosed k then s
    else ((s.modBrk k fun b => { b with degradedWarned := true }).flag (G.BRK_SW_DEGRADED k)).warn (portFault k 0 0x3C))

/-- The on-drop of port k in a frame (R287): its 1.0 s runs while the drop exceeds I × RON + 100 mV at 1.0 A or more;
RON in 0.1 mΩ. -/
def State.onDropFrame (s : State) (k : PortId) : State :=
  let i := s.portMa k
  let limit := i * s.get (F.BRK_SW_RON k) / 10000 + 100
  if s.switchClosed k && Nat.ble 1000 i && Nat.blt (s.vcsns k + limit) (s.vbsns k) then s.armOnce (.onDrop k) (secs 1)
  else s.disarm (.onDrop k)

end Sys2Proof.Machine
end

