-- ==== Sys2Proof/Machine/Budget.lean ====
section
/-!
DEFINITION. The allocator and the emergency lever (chapter BUD).
-/
namespace Sys2Proof.Machine

/-- P_CAP of port k at a bus voltage in mV, truncated to 0.1 W, in mW (R233). -/
def State.pCap (s : State) (k : PortId) (vin : Nat) : Nat :=
  let p := if s.rsnsUohm k = 0 then 0 else vin * orDefault 120 (s.get (F.CNV_CFG_VPK k)) * 400 / s.rsnsUohm k
  min 240000 (p - p % 100)
/-- PMAX in mW. -/
def State.pMax (s : State) (k : PortId) : Nat := 1000 * orDefault 240 (s.get (F.BUD_PORT_PMAX k))
/-- PMIN in mW. -/
def State.pMin (s : State) (k : PortId) : Nat := 1000 * s.get (F.BUD_PORT_PMIN k)
/-- P_AVAIL at a bus voltage in mW, as R301 computes it. -/
def State.pAvail (s : State) (vin : Nat) : Nat :=
  let pin := min (1000 * s.get F.BUD_CFG_P_SUP) (vin * (10 * s.get F.BUD_SUP_I_SUP) / 1000)
  let board := 100 * s.get F.BUD_SUP_P_BOARD
  if pin ≤ board then 0 else (pin - board) / 100 * orDefault 92 (s.get F.BUD_CFG_EFF)
/-- The states in which runs and the lever act (R302, R303). -/
def State.budgetRuns (s : State) : Bool :=
  (s.isAny [.summer, .autumn] || (s.isIn .spring && Nat.ble 5 s.boot.step)) && !s.upd.paused
/-- Whether port k is eligible (R300). -/
def State.eligible (s : State) (k : PortId) : Bool :=
  s.portPresent k && s.budgetRuns && [1, 2, 3, 4, 5, 6, 7, 9, 0xC].contains (s.astate k) &&
  !s.bit F.BUS_STATUS_SHED k.val && !([6, 7, 8].contains (s.get (F.BRK_STATUS_STATE k))) && !s.armed (.errorRecovery k)
/-- The limits that make up the cap of R299, each with its reason code, in mW. -/
def State.capParts (s : State) (k : PortId) (vin : Nat) : List (Nat × Nat) :=
  [(1, s.pMax k), (2, s.pCap k vin)] ++
  (if s.get (F.CHK_CAP_CAP_MA k) = 0xFFFF then [] else [(3, s.get (F.CHK_CAP_CAP_MA k) * s.contractMv k / 1000)]) ++
  (if [1, 2, 3, 4, 5, 6, 0xC].contains (s.astate k) then [(8, 15000)] else [])
/-- The least of the parts with its reason, the first of equals. -/
def leastPart (l : List (Nat × Nat)) : Nat × Nat := l.foldl (fun b p => if p.2 < b.2 then p else b) (0, 0xFFFFFFFF)
/-- Cap of port k in mW, 0 where it is ineligible. -/
def State.capOf (s : State) (k : PortId) (vin : Nat) : Nat := if s.eligible k then (leastPart (s.capParts k vin)).2 else 0

/-- Priority order: 7 first, of equal priorities the lower port number first (R301). -/
def State.prioOrder (s : State) : List PortId :=
  [7, 6, 5, 4, 3, 2, 1, 0].flatMap fun p => modulePorts.filter fun k => decide (s.get (F.BUD_PORT_PRIO k) = p)

/-- A pass over the ports in priority order: grants and the remainder. -/
structure Pass where
  g : List Nat
  rem : Nat
/-- A pass's grant of port k. -/
def Pass.of (p : Pass) (k : PortId) : Nat := p.g.getD k.val 0
/-- Grant more to port k. -/
def Pass.give (p : Pass) (k : PortId) (x : Nat) : Pass := { g := p.g.set k.val (p.of k + x), rem := p.rem - x }
/-- Minimum of port k within its cap. -/
def State.minOf (s : State) (k : PortId) (vin : Nat) : Nat := min (s.pMin k) (s.capOf k vin)
/-- Pass 1: guaranteed minima, whole or not at all. -/
def State.pass1 (s : State) (vin : Nat) (order : List PortId) : Pass :=
  order.foldl (fun p k => if s.eligible k && Nat.ble (s.minOf k vin) p.rem then p.give k (s.minOf k vin) else p)
    { g := List.replicate 8 0, rem := s.pAvail vin }
/-- Pass 2: the remainder up to the caps. -/
def State.pass2 (s : State) (vin : Nat) (order : List PortId) (p : Pass) : Pass :=
  order.foldl (fun p k => if s.eligible k then p.give k (min (s.capOf k vin - p.of k) p.rem) else p) p
/-- Whether pass 1 withholds the minimum of port k. -/
def State.withheld (s : State) (k : PortId) (vin : Nat) (p1 : Pass) : Bool :=
  s.eligible k && decide (p1.of k < s.minOf k vin)

/-- What a run leaves for port k: REASON, CEIL, LARGEST and ALLOC (R301, R310). -/
def State.writeGrant (s : State) (k : PortId) (vin : Nat) (p1 p2 : Pass) : State :=
  let capw := s.capOf k vin
  let g2 := p2.of k
  let hold := s.isIn .autumn && Nat.blt (s.bud.gPrev.getD k.val 0) g2
  let g := if hold then s.bud.gPrev.getD k.val 0 else g2
  let reason := if ! s.eligible k then 0
    else if s.withheld k vin p1 then 5
    else if hold then 7
    else if Nat.blt g2 capw then 4
    else (leastPart (s.capParts k vin)).1
  let g := g - g % 100
  let alloc := min (min (g * 1000 / max (s.contractMv k) 5000) (s.get (F.CHK_CAP_CAP_MA k))) 5000
  let s := ((s.set (F.BUD_GRANT_REASON k) reason).set (F.BUD_GRANT_CEIL k) (g / 100)).set (F.CNV_ILIM_ALLOC k) alloc
  let s := s.set (F.BUD_GRANT_LARGEST k) (if s.portPresent k then min (s.pMax k) (s.pCap k 40000) / 100 else 0)
  { s with bud := { s.bud with gPrev := s.bud.gPrev.set k.val g } }

/-- The onset of a shortfall of port k is flagged once (R301): after a run of the same stretch of eligibility that granted the
minimum, or in the port's first eligible run. -/
def State.noteShort (s : State) (k : PortId) (short : Bool) : State :=
  let was := s.bud.minWas.getD k.val 0
  let next := if ! s.eligible k then (if was = 0 then 0 else 3) else if short then 2 else 1
  let s' := { s with bud := { s.bud with minWas := s.bud.minWas.set k.val next } }
  if short && decide (was ≤ 1) then (s'.flag G.BUD_MIN_SHORT).warn 0x2009 else s'

/-- A port restored under R75: its SHED bit is cleared, and it enters step 4 of Table PDP-5 with its context cleared. -/
def State.unshed (s : State) (k : PortId) : State :=
  ((s.putBit F.BUS_STATUS_SHED k.val false).clearPd k).modPd k fun p => { p with hr := .reapply }
/-- The shed ports of the next priority are restored in a run after T7 (R75, Table BUD-1). -/
def State.restoreNext (s : State) : State :=
  match s.bus.restorePrio with
  | none => s
  | some top =>
    let shedAt (p : Nat) : List PortId := modulePorts.filter fun k =>
      s.bit F.BUS_STATUS_SHED k.val && decide (s.get (F.BUD_PORT_PRIO k) = p)
    match ((List.range (top + 1)).reverse).find? fun p => !(shedAt p).isEmpty with
    | none => { s with bus := { s.bus with restorePrio := none } }
    | some p =>
      let s := forAll (shedAt p) (fun k t => t.unshed k) s
      { s with bus := { s.bus with restorePrio := if p = 0 then none else some (p - 1) } }

/-- The sum of the present ceilings in 0.1 W. -/
def State.grantSum (s : State) : Nat := modulePorts.foldl (fun n k => n + s.get (F.BUD_GRANT_CEIL k)) 0

/-- VIN_RUN (R297): the lowest VIN_MV of the frames of the last 8 allocator periods. -/
def State.vinRun (s : State) : Nat :=
  match (s.bud.vinMins.filter fun p => decide (p.1 ≠ 0)).map (·.2) with
  | [] => s.get F.BUS_VIN_VIN_MV
  | v :: vs => vs.foldl min v
/-- The allocator period of the present moment (R30). -/
def State.allocPeriod (s : State) : Nat := s.tb / allocCycles
/-- ALLOCATOR_RUN (R161, R301, R302): one run over VIN_RUN; the limits it writes take effect at each port's outer-loop update
(R29), and ports without a contract present the Rp of their new grants. The first run of a Spring completes step 5; T5 follows
where its guard holds. -/
def execAllocatorRun (s : State) : Out :=
  if s.budgetRuns then
    let s := s.restoreNext
    let vin := s.vinRun
    let order := s.prioOrder
    let p1 := s.pass1 vin order
    let p2 := s.pass2 vin order p1
    let t := forAll order (fun k t => t.noteShort k (s.withheld k vin p1)) s
    let t := forAll modulePorts (fun k t => t.writeGrant k vin p1 p2) t
    let t := { t with bud := { t.bud with vinMins := ((0, 0) :: s.bud.vinMins).take 8, emgWarned := false } }
    let t := (t.set F.BUD_STATUS_AVAIL (s.pAvail vin / 100)).set F.BUD_STATUS_GRANTED t.grantSum
    let t := t.set F.BUD_VIN_VIN_RUN vin
    let t := forAll modulePorts (fun k t => (t.presentRp k).judgeVbus k) t
    .next (if t.isIn .spring then { t with boot := { t.boot with step := 6 } }.tryT5 else t)
  else .next s

/-- A_k of R303 in mW. -/
def State.limitMw (s : State) (k : PortId) : Nat := s.get (F.CNV_ILIM_ALLOC k) * s.contractMv k / 1000
/-- One lowering step of R303: ports in reverse order down to a floor until the excess is gone. -/
def lowerTo (floor : PortId → Nat) (order : List PortId) (p : Pass) : Pass :=
  order.foldl (fun p k =>
    let x := min p.rem (p.of k - floor k)
    { g := p.g.set k.val (p.of k - x), rem := p.rem - x }) p
/-- What the emergency lever leaves each port (R303): in reverse order of priority first down to the guaranteed minima, then
to 0, until the limits fit the power available. -/
def State.leverPass (s : State) : Pass :=
  let a := modulePorts.map s.limitMw
  let order := s.prioOrder.reverse
  let p := lowerTo s.pMin order { g := a, rem := a.foldl (· + ·) 0 - s.pAvail (s.get F.BUS_VIN_VIN_MV) }
  lowerTo (fun _ => 0) order p
/-- EMERGENCY_LEVER (R303): `runDue` says that an allocator run falls in the same frame and writes its values instead. -/
def execEmergencyLever (runDue : Bool) (s : State) : Out :=
  if s.budgetRuns then
    let vin := s.get F.BUS_VIN_VIN_MV
    if (modulePorts.map s.limitMw).foldl (· + ·) 0 ≤ s.pAvail vin then .next s
    else
      let p := s.leverPass
      let t := (s.flag G.BUD_EMERGENCY).set F.BUD_VIN_VIN_EMG vin
      let t := if t.bud.emgWarned && decide (t.bud.emgPeriod = t.allocPeriod) then t
        else { t with bud := { t.bud with emgWarned := true, emgPeriod := t.allocPeriod } }.warn 0x2008
      if runDue then .next t
      else
        let t := forAll modulePorts (fun k t =>
          if p.of k < s.limitMw k then
            ((t.set (F.CNV_ILIM_ALLOC k) (p.of k * 1000 / s.contractMv k)).set (F.BUD_GRANT_CEIL k) (p.of k / 100)).set
              (F.BUD_GRANT_REASON k) 6
          else t) t
        .next (t.set F.BUD_STATUS_GRANTED t.grantSum)
  else .next s

end Sys2Proof.Machine
end

