-- ==== Sys2Proof/Machine/FirstFault.lean ====
section
/-!
DEFINITION. The first-fault log (R370–R377, R388).
-/
namespace Sys2Proof.Machine

/-- Slots of the log (R375). -/
def logSlots : Nat := 2048
/-- Bytes of a record (Table RSV-2) with its number and MARK still 0xFF. -/
def FflRec.bytes (r : FflRec) (recno : Nat) : List Byte :=
  let body := leBytes 4 recno ++ leBytes 4 r.pwrCycles ++ leBytes 4 r.lifeS ++ leBytes 8 r.tb ++ leBytes 2 r.fault ++
    leBytes 1 r.first ++ leBytes 1 (r.state % 16 + b2n r.commit * 16 + b2n r.deferred * 32 + b2n r.margin * 64) ++
    leBytes 2 r.vin ++ r.volts.flatMap (leBytes 2)
  [0x4B#8, 0x51#8, 0x46#8, 0xFF#8] ++ body ++ leBytes 2 (crc16 body)
/-- Bytes of a log slot. -/
def State.logBytes (s : State) (n : Nat) : List Byte := s.flashRead (fflBase + 64 * n) 64
/-- Whether a slot holds a valid record. -/
def recValid (b : List Byte) : Bool :=
  decide (b.take 3 = [0x4B#8, 0x51#8, 0x46#8]) && decide (leAt b 0x3E 2 = crc16 ((b.drop 4).take 58))
/-- RECNO of a slot's bytes. -/
def recNo (b : List Byte) : Nat := leAt b 4 4
/-- Slots of the log that hold anything, each once, lowest first. -/
def State.usedSlots (s : State) : List Nat :=
  s.flash.foldr (fun e l =>
    let n := (e.1 - fflBase) / 64
    if Nat.ble fflBase e.1 && Nat.blt e.1 (fflBase + 64 * logSlots) && decide (l.head? ≠ some n) then n :: l else l) []
/-- The first erased slot at or after a slot, round the ring. -/
def State.erasedFrom (s : State) (n : Nat) : Nat :=
  (((List.range logSlots).map fun i => (n + i) % logSlots).find? fun i => !s.usedSlots.contains i).getD n

/-- The slot of the next record: an erased one, also where the erase of the next slot's sector is still due (R375). -/
def State.recordSlot (s : State) : Nat :=
  if s.ffl.eraseDue = some (s.ffl.nextSlot / 64) then s.erasedFrom s.ffl.nextSlot else s.ffl.nextSlot
/-- FFL_RECORD_WRITE (R371, R373): the first record due is programmed and read back; `ok` is the outcome of the read-back.
A mismatch raises 0xAA11 and the record goes again, under the same number, into the next slot. -/
def execFflRecordWrite (ok : Bool) (s : State) : Out :=
  match s.ffl.due with
  | [] => .next s
  | r :: rest =>
    if ! s.has F.FFL_STATUS_SCANNED || !s.logsWritten then .next s
    else
      let no := if s.ffl.recno = 0 then (s.get F.FFL_LASTNO_RECNO + 1) % 2 ^ 32 else s.ffl.recno
      let n := s.recordSlot
      let erase := if n % 64 = 63 then some ((n / 64 + 1) % 32) else s.ffl.eraseDue
      if ok then
        let s := s.flashProgram (fflBase + 64 * n) (r.bytes no)
        let s := (s.bump F.FFL_STATUS_COUNT 1).set F.FFL_STATUS_NEWEST n
        let s := (s.set F.FFL_LASTNO_RECNO no).flag G.FFL_WRITTEN
        let s := s.put F.FFL_STATUS_BUSY (!rest.isEmpty)
        let f := { s.ffl with due := rest, recno := 0, slot := some n, nextSlot := (n + 1) % logSlots, eraseDue := erase,
                              markSlot := if r.deferred then s.ffl.markSlot else some n, markCommit := r.commit, written := true, eraseWait := false }
        .next { s with ffl := f }.powerDownDone
      else
        let bytes := (List.range 64).map fun i => Config.freeByte s.free i
        let s := { s with free := s.free + 1 }.flashProgram (fflBase + 64 * n) bytes
        let s := { s with ffl := { s.ffl with recno := no, nextSlot := (n + 1) % logSlots, eraseDue := erase } }
        .next ((s.flag G.FFL_WRITE_FAIL).raise 0xAA11)

/-- FFL_MARK (R374): the commit record is marked at DONE; a Winter record is marked where the power-down before T11 has
left every rail below its off threshold. -/
def execFflMark (s : State) : Out :=
  .next (if s.logsWritten && s.flashFree &&
      ((s.ffl.markCommit && s.has F.SYS_STATE_DONE) || (!s.ffl.markCommit && s.seq.forRestart && decide (s.phase = 4))) then
      s.programMark
    else s)

/-- FFL_SECTOR_ERASE (R375): the next sector is erased; a failure raises 0xAA11, the next record goes to the first erased
slot, and the erase is attempted again after that record. -/
def execFflSectorErase (ok : Bool) (s : State) : Out :=
  match s.ffl.eraseDue with
  | none => .next s
  | some c =>
    if !s.logsWritten || !s.flashFree || s.ffl.eraseWait then .next s
    else if ok then .next { s.flashErase (fflBase + 4096 * c) 4096 with ffl := { s.ffl with eraseDue := none } }
    else
      let s := s.spoil (fflBase + 4096 * c) 4096
      let n := s.erasedFrom s.ffl.nextSlot
      .next (({ s with ffl := { s.ffl with nextSlot := n, eraseWait := true } }.flag G.FFL_WRITE_FAIL).raise 0xAA11)

/-- FFL_SCAN (R376): the log is scanned in step 1 of Spring and after T2. A torn record is looked for in the first slot of
every sector and in the newest sector. -/
def execFflScan (s : State) : Out :=
  if s.isAny [.spring, .offSeason] && !s.has F.FFL_STATUS_SCANNED then
    let used := s.usedSlots
    let valid := used.filter fun n => recValid (s.logBytes n)
    let newest := valid.foldl (fun (b : Option Nat) n =>
      match b with
      | none => some n
      | some m => if recNo (s.logBytes m) < recNo (s.logBytes n) then some n else some m) none
    let sector := (newest.getD 0) / 64
    let torn := used.any fun n => (decide (n % 64 = 0) || decide (n / 64 = sector)) && !recValid (s.logBytes n)
    let s := (s.set F.FFL_STATUS_COUNT valid.length).put F.FFL_STATUS_SCANNED true
    let s := if torn then (s.put F.FFL_STATUS_TORN true).warn 0x2A10 else s
    match newest with
    | none => .next { s with ffl := { s.ffl with nextSlot := s.erasedFrom 0 } }
    | some n =>
      let b := s.logBytes n
      let s := (s.set F.FFL_STATUS_NEWEST n).set F.FFL_LASTNO_RECNO (recNo b)
      let s := { s with ffl := { s.ffl with slot := some n, nextSlot := s.erasedFrom ((n + 1) % logSlots) } }
      .next (if leAt b 3 1 = 0xFF then (s.put F.FFL_STATUS_OPEN true).warn 0x2A12 else s)
  else .next s

/-- FFL_DEFERRED_RECORD (R377): the record of a retained island trip falls due, once, in the first Spring after it. -/
def execFflDeferredRecord (s : State) : Out :=
  if s.isIn .spring && s.has F.FFL_STATUS_SCANNED && s.island.recordDue && decide (s.get F.SAF_TRIP_CODE ≠ 0) then
    let c := s.fflContents (s.get F.SAF_TRIP_CODE) false
    let r := { c with tb := s.get F.SAF_TRIP_TBH_TB_HI * 2 ^ 32 + s.get F.SAF_TRIP_TBL_TB_LO, first := 0xFF,
                      state := s.get F.SAF_TRIP_PREV_STATE, deferred := true, margin := false, vin := 0xFFFF,
                      volts := List.replicate 16 0xFFFF }
    let s := { s with island := { s.island with recordDue := false }, ffl := { s.ffl with due := s.ffl.due ++ [r] } }
    .next (s.put F.FFL_STATUS_BUSY true)
  else .next s

/-- Load a slot of the log into FFL_RECn, as stored (R388). -/
def State.loadRec (s : State) (n : Nat) : State :=
  ((bytesToWords (s.logBytes n)).zipIdx).foldl (fun s e => s.set (F.FFL_REC_WORD e.2) e.1.toNat) s
/-- FFL_SEL_LOAD (R388): a write of FFL_SEL loads the selected slot. -/
def execFflSelLoad (w : Word) (s : State) : Out :=
  let slot := w.toNat % 2 ^ 11
  let back := w.getLsbD 16
  let s := (s.set F.FFL_SEL_SLOT slot).put F.FFL_SEL_BACK back
  .next (s.loadRec (if back then (s.get F.FFL_STATUS_NEWEST + logSlots - slot) % logSlots else slot))

end Sys2Proof.Machine
end

