-- ==== Sys2Proof/Machine/Converter.lean ====
section
/-!
DEFINITION. The converter and contact-health commands (chapter CNV).
-/
namespace Sys2Proof.Machine

/-- The target of the outer loop in mV (R238): the ramp position, with the cable term in a fixed contract once the ramp
has ended. -/
def State.vtgt (s : State) (k : PortId) : Nat :=
  let pos := (s.port k).cnv.position / 10
  if [1, 4].contains (s.get (F.PD_CONTRACT_TYPE k)) && !s.has (F.CNV_STATUS_RAMP k) then
    pos + min (s.get (F.CNV_LOOP_CDC k) * s.portMa k / 1000) (s.contractMv k * 4 / 100)
  else pos
/-- Whether converter k may switch (R61, R228, R239): at the limit that its last outer-loop update took (R29). -/
def State.mayswitch (s : State) (k : PortId) : Bool :=
  k.isModule && (s.port k).cnv.run && !(s.port k).cnv.limitZero && decide (s.get (F.CNV_ILIM_EFF k) ≠ 0) && s.env.vinOk &&
  !s.env.vinOvp && !s.bus.isoHold
/-- Peak limit I_PK in mA (R232). -/
def State.ipkMax (s : State) (k : PortId) : Nat :=
  if s.rsnsUohm k = 0 then 0 else orDefault 120 (s.get (F.CNV_CFG_VPK k)) * 500000 / s.rsnsUohm k
/-- The mode of Table CNV-2 from the mode before, VIN and the target. -/
def modeOf (prev vin vt : Nat) : Nat :=
  if 5 * vt ≤ 4 * vin then 1
  else if 5 * vin ≤ 4 * vt then 3
  else if decide (prev = 1) && Nat.ble (6 * vt) (5 * vin) then 1
  else if decide (prev = 3) && Nat.ble (6 * vin) (5 * vt) then 3
  else 2
/-- Whether the converter is in reverse mode in the next period (R234): entered only during a downward ramp or a converter
start, and left when VBSNS is within 1 % of the target. -/
def State.reverses (s : State) (k : PortId) : Bool :=
  let c := (s.port k).cnv
  let vt := c.position / 10
  if s.get (F.CNV_STATUS_MODE k) = 4 then Nat.blt (vt * 101) (100 * s.vbsns k)
  else (c.starting || (c.rampOpen && Nat.blt c.target c.rampFrom)) && Nat.blt (100 * vt + max (2 * vt) 10000) (100 * s.vbsns k)
/-- Cause 0x22 or 0x23 (Table CNV-4): converter stopped, port opened and held until detach. -/
def State.driveFault (s : State) (k : PortId) (cause : Nat) : State :=
  ((s.holdOpen k true).flag (G.CNV_DRIVE k)).raise (portFault k 2 cause)

/-- N of R230: a common period begins at every time-base value that is a multiple of it. -/
def State.clkN (s : State) : Nat := orDefault 250 (s.get F.CNV_CLK_N)
/-- Phase of converter k within the common period, in fabric cycles (R230); an absent port keeps its own. -/
def State.phaseOf (s : State) (k : PortId) : Nat := s.clkN * k.val / 8
/-- The first time-base value from `t` on that is congruent to `phase` modulo `n`. -/
def nextMatch (t phase n : Nat) : Nat := t + (phase + (n - t % n)) % n
/-- The state with the time base advanced to a value. -/
def State.advanceTb (s : State) (t : Nat) : State := s.advanceTo (s.now + (t - s.tb))
/-- A switching period of converter k starts: at the next time of its phase after the last one (R230). -/
def State.atPeriod (s : State) (k : PortId) : State :=
  let start := nextMatch (max s.tb (s.port k).cnv.periodFrom) (s.phaseOf k) s.clkN
  (s.advanceTb start).modCnv k fun c => { c with periodFrom := start + 1 }
/-- The peak command that the inner loop applies from this period on, as a voltage across RSNS, with the slope compensation
that stands against it (R232, R236); SLOPE is in 0.5 mV/µs. -/
def State.applyPeak (s : State) (k : PortId) : State :=
  let rsns := s.rsnsUohm k
  let slope := 500 * orDefault 40 (s.get (F.CNV_CFG_SLOPE k))
  s.modCnv k fun c => { c with peakUv := c.ipk * rsns / 1000, slopeUv := slope }
/-- Whether a high-side conduction ends `ns` into its period with `uv` across RSNS: with the slope compensation it has reached
the peak command (R232). -/
def CnvPort.conductionEnds (c : CnvPort) (uv ns : Nat) : Bool := Nat.ble (1000 * c.peakUv) (1000 * uv + c.slopeUv * ns)

/-- SWITCHING_PERIOD (R228, R230, R231, R232, R234, R266): `bootOk` says that both bootstraps stand at 3.80 V or above, `nodeOk`
that both switch nodes followed their gates. Where both faults come with one period, both are raised. -/
def execSwitchingPeriod (k : PortId) (bootOk nodeOk : Bool) (s : State) : Out :=
  if !k.isModule then .next s
  else
    let s := s.atPeriod k
    if s.mayswitch k then
      let c := (s.port k).cnv
      let low := if bootOk then 0 else c.bootLow + 1
      let bad := if nodeOk then 0 else c.nodeBad + 1
      let s := s.modCnv k fun c => { c with bootLow := low, nodeBad := bad }
      if 4 ≤ low ∨ 8 ≤ bad then
        .next ((s.when (Nat.ble 4 low) fun t => t.driveFault k 0x22).when (Nat.ble 8 bad) fun t => t.driveFault k 0x23)
      else
        let m := modeOf c.mode s.env.vinMv (s.vtgt k)
        .next (((s.set (F.CNV_STATUS_MODE k) (if s.reverses k then 4 else m)).modCnv k fun c => { c with mode := m }).applyPeak k)
    else .next (s.set (F.CNV_STATUS_MODE k) 0)

/-- A number clamped to a range. -/
def clampInt (lo hi v : Int) : Int := max lo (min hi v)
/-- The loop computation of R236: the state with the integrators, the peak command, CLIM and PKLIM. -/
def State.loopStep (s : State) (k : PortId) (db irip : Nat) : State :=
  let c := (s.port k).cnv
  let kp : Int := (orDefault 64 (s.get (F.CNV_LOOP_KP k)) : Nat)
  let ki : Int := (orDefault 4 (s.get (F.CNV_LOOP_KI k)) : Nat)
  let sh : Int := (2 ^ orDefault 4 (s.get (F.CNV_LOOP_KSH k)) : Nat)
  let ilim : Int := (s.get (F.CNV_ILIM_EFF k) : Nat)
  let top : Int := (s.ipkMax k : Nat)
  let ev : Int := (s.vtgt k : Int) - ((s.vbsns k : Int) - (s.get (F.CNV_DROP_DROP k) : Int))
  let dv := (kp * ev + c.integ) / sh
  let it := clampInt (-1000) 1000 (c.trim + (ilim - (s.portMa k : Int)).tdiv 4)
  let di := ilim * 1024 / ((max db 64 : Nat) : Int) + ((irip / 2 : Nat) : Int) + it
  let ipk := clampInt 0 top (min dv di)
  let clim := decide (di < dv)
  let iv := if clim then ipk * sh - kp * ev else clampInt 0 (top * sh) (c.integ + ki * ev)
  let skip := Nat.blt (50 * s.portMa k) (s.ipkMax k)
  let s := s.modCnv k fun c => { c with integ := iv, trim := it, ipk := ipk.toNat, skipping := skip }
  (s.put (F.CNV_STATUS_CLIM k) clim).put (F.CNV_STATUS_PKLIM k) (decide (ipk = top))
/-- The ramp position moves by SLEW toward the target; an upward ramp holds in current limit (R243). -/
def State.rampStep (s : State) (k : PortId) : State :=
  let c := (s.port k).cnv
  let t := 10 * c.target
  let p := if c.position < t then (if s.has (F.CNV_STATUS_CLIM k) then c.position else min t (c.position + s.slew k))
           else max t (c.position - s.slew k)
  let s := s.modCnv k fun c => { c with position := p, starting := c.starting && decide (p ≠ t) }
  (s.set (F.CNV_STATUS_VSET k) (p / 10)).put (F.CNV_STATUS_RAMP k) (decide (p ≠ t))
/-- HEADROOM (R246): its 10 ms run while the error lies beyond 2 % at maximum duty, and it clears within 1 %. -/
def State.headroomStep (s : State) (k : PortId) (atMax : Bool) : State :=
  let vt := s.vtgt k
  let v := s.vbsns k - s.get (F.CNV_DROP_DROP k)
  let s := if atMax && !s.has (F.CNV_STATUS_CLIM k) && Nat.blt (100 * v) (98 * vt) then s.armOnce (.headroom k) (msec 10)
    else s.disarm (.headroom k)
  if Nat.ble (99 * vt) (100 * v) then s.put (F.CNV_STATUS_HEADROOM k) false else s
/-- The range of a contract voltage: ±5 %. -/
def inRangeOf (mv v : Nat) : Bool := Nat.ble (95 * mv) (100 * v) && Nat.ble (100 * v) (105 * mv)
/-- The frame of a transition is judged (R244): it counts toward its end where both voltages lie in the new range, and
toward its bound only where nothing holds the converter. -/
def State.transitionFrame (s : State) (k : PortId) : State :=
  if (s.port k).pd.await = .transition then
    let mv := (s.port k).pd.reqMv
    let ok := inRangeOf mv (s.vrcp k) && inRangeOf mv (s.vbsns k - s.get (F.CNV_DROP_DROP k))
    let s := s.modCnv k fun c => { c with inRange := if ok then c.inRange + 1 else 0 }
    if s.has (F.CNV_STATUS_CLIM k) || !s.mayswitch k then
      match s.deadline (.transition k) with
      | none => s
      | some d => s.arm (.transition k) (d + frameCycles - s.now)
    else s
  else s
/-- vSafe5V: 4.75 V to 5.50 V. -/
def inSafe5V (v : Nat) : Bool := Nat.ble 4750 v && Nat.ble v 5500
/-- A close whose source side has come within vSafe5V goes on to the gate-low test (Table BRK-2 step 2, R242). -/
def State.closeReady (s : State) (k : PortId) : State :=
  if decide (s.get (F.BRK_STATUS_STATE k) = 1) && inSafe5V (s.vbsns k) then s.armOnce (.preClose k) (msec 2) else s

/-- The outer-loop update of converter k comes about at fabric cycle 128 × (k − 1) of a frame (R29, R236), once in each. -/
def State.atUpdate (s : State) (k : PortId) : State :=
  let start := nextMatch (max s.tb (s.port k).cnv.updateFrom) (128 * k.val) frameCycles
  (s.advanceTb start).modCnv k fun c => { c with updateFrom := start + 1 }
/-- OUTER_LOOP_UPDATE (R236, R239, R243): `db` is the conduction fraction of leg B, `irip` the ripple in mA, `atMax`
whether the converter ran at maximum duty or minimum off-time. Where switching is stopped the ramp holds, and neither a
current limit nor lost headroom is found. -/
def execOuterLoopUpdate (k : PortId) (db irip : Nat) (atMax : Bool) (s : State) : Out :=
  if k.isModule then
    let s := (s.atUpdate k).set (F.CNV_ILIM_EFF k) (s.ilimOf k)
    let s := if s.mayswitch k then ((s.loopStep k db irip).rampStep k).headroomStep k atMax else s.standConverter k
    let bad := s.has (F.CNV_STATUS_CLIM k) || s.has (F.CNV_STATUS_HEADROOM k) || s.has (F.CNV_STATUS_RAMP k)
    let s := s.when ((s.port k).chk.winOpen && bad) fun t => t.modChk k fun c => { c with disturbed := true }
    .next ((s.transitionFrame k).closeReady k)
  else .next s

/-- HEADROOM_LOST (R246): warning 0x0k20 at most once per contract. -/
def execHeadroomLost (k : PortId) (s : State) : Out :=
  .next (s.onElapse (.headroom k) fun s =>
    let s := (s.put (F.CNV_STATUS_HEADROOM k) true).flag (G.CNV_HEADROOM k)
    if (s.port k).cnv.headWarned then s
    else (s.modCnv k fun c => { c with headWarned := true }).warn (portFault k 0 0x20))

/-- CHK_READING_DUE (R247, R248): the reading is taken at or above IMIN, by the partner method where the module offers
it; otherwise it is retried after 1.0 s. -/
def execChkReadingDue (k : PortId) (s : State) : Out :=
  .next (s.onElapse (.chkDue k) fun s =>
    if ! s.contract k || s.unitOff 5 || !s.portPresent k then s
    else if (s.port k).pd.reloading || Nat.blt (s.portMa k) (100 * orDefault 10 (s.get (F.CHK_CFG_IMIN k))) then
      s.arm (.chkDue k) (secs 1)
    else if s.frenerOn k && (s.port k).pd.frCap.testBit 0 then
      if s.amsRuns k then s.arm (.chkDue k) (secs 1)
      else
        let tag := ((s.port k).pd.frTag + 1) % 2 ^ 16
        let s := (s.arm (.chkDue k) (secs 60)).modPd k fun p => { p with frTag := tag, frWait := 2 }
        s.ownAms k [{ kind := .frVin, objs := [frHeader 2, BitVec.ofNat 32 (tag * 2 ^ 16)] }]
    else (s.arm (.chkDue k) (secs 60)).beginHealth k false)

/-- CHK_WINDOW_END (R248): the window's means are taken; the reading is judged now, or once the partner has answered. -/
def execChkWindowEnd (k : PortId) (s : State) : Out :=
  .next (s.onElapse (.chkWindow k) fun s =>
    (s.endWindows (.health k)).judgeHealth k)

/-- The mean of VBSNS − (VCSNS − GSNS) in mV over a superframe's results, no mean cut to a code before they are combined (R237):
4 mV per code, and 20 µV per code of GSNS. -/
def meanDrop (b c g : Win) : Int :=
  (200 * b.sum * ((c.n * g.n : Nat) : Int) - 200 * c.sum * ((b.n * g.n : Nat) : Int) + g.sum * ((b.n * c.n : Nat) : Int)) /
    ((50 * b.n * c.n * g.n : Nat) : Int)
/-- The drop term of port k at a superframe end (R237): the mean over the superframe with the switch closed, 0 with it
open; after 32 superframes without both results it is 0 and warning 0x0k21 is raised. DESIGN CHOICE (entry 112): a mean that
comes out negative counts as 0; the manual states no value of the unsigned DROP for it. -/
def State.dropTerm (s : State) (k : PortId) : State :=
  let w (n : Nat) : Option Win := match s.window? (.drop k) (portChan k n) with
    | none => none
    | some w => if w.n = 0 then none else some w
  let means := (w 0, w 1, w 3)
  let s := s.openWindows (.drop k) [portChan k 0, portChan k 1, portChan k 3]
  if ! s.switchClosed k then (s.set (F.CNV_DROP_DROP k) 0).modCnv k fun c => { c with dropAge := 0 }
  else match means with
    | (some b, some c, some g) =>
      let s := s.set (F.CNV_DROP_DROP k) (meanDrop b c g).toNat
      (s.put (F.CNV_STATUS_DROP_OK k) true).modCnv k fun c => { c with dropAge := 0 }
    | _ =>
      let s := s.modCnv k fun c => { c with dropAge := c.dropAge + 1 }
      if (s.port k).cnv.dropAge = 32 then
        ((s.set (F.CNV_DROP_DROP k) 0).put (F.CNV_STATUS_DROP_OK k) false).warn (portFault k 0 0x21)
      else s

end Sys2Proof.Machine
end

