-- ==== Sys2Proof/Machine/Sequencer.lean ====
section
/-!
DEFINITION. The rail commands (chapters SEQ and RSV): the step tables, the judgement of rails in each frame, their
faults, and the reset outputs.
-/
namespace Sys2Proof.Machine

/-- POWERUP_STEP_DELAY_ELAPSED (R319): the step waits at its gate or starts; in Autumn the table holds (R320). -/
def execPowerupStepDelayElapsed (s : State) : Out :=
  .next (if decide (s.phase = 1) && s.isIn .spring then
      s.onElapse .seqDelay fun s =>
        let n := s.seqStep
        if s.has (F.SQC_UP_GATE n) && s.linkOn && !s.upGateOpen n then s.waitAtGate else s.startUpStep
    else s)

/-- RAIL_ENABLE (R319): SQENj is asserted; in Autumn no enable is newly asserted (R320). -/
def execRailEnable (j : RailId) (s : State) : Out :=
  .next (if decide (s.phase = 1) && s.isIn .spring then
      s.onElapse (.railDelay j) fun s =>
        let now := s.now
        let s := (s.put (F.SQ_STATUS_EN j) true).set (F.SQ_STATUS_RSTATE j) 2
        let s := s.modRail j fun r => { r with enabledAt := now, fallDue := false }
        (s.traceRail 0x01 j).arm (.rise j) (msec (orDefault 10 (s.get (F.SQ_UP_T_RISE j))))
    else s)

/-- RAIL_RISE_TIMEOUT (R319): fatal fault 0xDj20. -/
def execRailRiseTimeout (j : RailId) (s : State) : Out :=
  .next (s.onElapse (.rise j) fun s => ((s.traceRail 0x04 j).flag G.SQC_RISE_TO).raise (railFault j 3 0x20))

/-- Margin position or target of rail j, in 0.1 %. -/
def State.mgPos (s : State) (j : RailId) : Int := ofTwos 8 (s.get (F.SQ_MGST_POS j))
/-- Margin target of rail j. -/
def State.mgTarget (s : State) (j : RailId) : Int := ofTwos 8 (s.get (F.SQ_MG_TARGET j))
/-- M of the undervoltage thresholds (R368). -/
def State.mLow (s : State) (j : RailId) : Int :=
  if s.has (F.SQ_MGST_MOVING j) then min (s.mgPos j) (s.mgTarget j) else s.mgPos j
/-- M of the overvoltage thresholds (R368). -/
def State.mHigh (s : State) (j : RailId) : Int :=
  if s.has (F.SQ_MGST_MOVING j) then max (s.mgPos j) (s.mgTarget j) else s.mgPos j
/-- VNOM of rail j in mV. -/
def State.vnom (s : State) (j : RailId) : Nat := s.get (F.SQ_NOM_VNOM j)
/-- The UV fault threshold in force (R357). -/
def State.uvFault (s : State) (j : RailId) : Nat := thrDown (s.vnom j) (s.mLow j) (400 - s.get (F.SQ_THR_UVF j))
/-- The UV warning threshold in force. -/
def State.uvWarn (s : State) (j : RailId) : Nat := thrDown (s.vnom j) (s.mLow j) (400 - s.get (F.SQ_THR_UVW j))
/-- The in-regulation threshold in force. -/
def State.regMv (s : State) (j : RailId) : Nat := thrDown (s.vnom j) (s.mLow j) (400 - s.get (F.SQ_SUP_REG j))
/-- The OV warning threshold in force. -/
def State.ovWarn (s : State) (j : RailId) : Nat := thrUp (s.vnom j) (s.mHigh j) (400 + s.get (F.SQ_THR_OVW j))
/-- The OV fault threshold in force. -/
def State.ovFault (s : State) (j : RailId) : Nat := thrUp (s.vnom j) (s.mHigh j) (400 + s.get (F.SQ_THR_OVF j))
/-- HYST of rail j in units of 0.25 % (R380). -/
def State.hyst (s : State) (j : RailId) : Nat := orDefault 2 (s.get (F.SQ_SUP_HYST j))
/-- The UV fault threshold as a 12-bit code of window j, 1.6 mV each, rounded away from the inside (R358, worked example of
Table RSV-4). -/
def State.uvCode (s : State) (j : RailId) : Nat := s.vnom j * (1000 + s.mLow j).toNat * (400 - s.get (F.SQ_THR_UVF j)) / 640000
/-- The OV fault threshold as a code of window j. -/
def State.ovCode (s : State) (j : RailId) : Nat := ceilDiv (s.vnom j * (1000 + s.mHigh j).toNat * (400 + s.get (F.SQ_THR_OVF j))) 640000
/-- WFILT of rail j. -/
def State.wfilt (s : State) (j : RailId) : Nat := orDefault 2 (s.get (F.SQ_SUP_WFILT j))

/-- Milliseconds since a moment, as T_LAST. -/
def State.msSince (s : State) (t : Nat) : Nat := min 4095 ((s.now - t) / msec 1)
/-- A rail has come into regulation: its UV thresholds arm, its rise is complete (R319, R360). -/
def State.reached (s : State) (j : RailId) : State :=
  let s := s.put (F.SQ_MGST_UV_ARMED j) true
  if s.get (F.SQ_STATUS_RSTATE j) = 2 then
    let s := (s.disarm (.rise j)).set (F.SQ_STATUS_T_LAST j) (s.msSince (s.rail j).enabledAt)
    ((s.set (F.SQ_STATUS_RSTATE j) 3).traceRail 0x02 j).upStepCheck
  else s.upStepCheck
/-- A released rail is below off: T_LAST takes the time of its fall (R345). -/
def State.fallTimed (s : State) (j : RailId) : State :=
  if (s.rail j).fallDue then
    (s.set (F.SQ_STATUS_T_LAST j) (s.msSince (s.rail j).releasedAt)).modRail j fun r => { r with fallDue := false }
  else s
/-- A rail has fallen below off: a falling rail is done at once, one under the discharge code is traced, and one that
kept the code after its fault gives it up (Table SEQ-2). -/
def State.fallen (s : State) (j : RailId) : State :=
  let r := s.get (F.SQ_STATUS_RSTATE j)
  let s := s.fallTimed j
  if r = 4 then (((s.disarm (.fall j)).set (F.SQ_STATUS_RSTATE j) 0).traceRail 0x11 j).railDone j
  else if r = 5 then s.traceRail 0x13 j
  else if r = 6 then
    ((s.put (F.SQ_STATUS_MG_DIS j) false).modRail j fun r => { r with mg := .hiZ }).traceRail 0x13 j
  else if (s.rail j).winter then (s.modRail j fun r => { r with winter := false }).traceRail 0x11 j
  else s

/-- The two-frame judgements of R314 on a frame's lowest and highest result, as codes of 0.4 mV. -/
def State.frameLevels (s : State) (j : RailId) (lo hi : Nat) (pg : Bool) : State :=
  let ok := Nat.ble (10 * s.regMv j) (4 * lo) && (!s.has (F.SQ_UP_PG_USE j) || pg)
  let low := Nat.blt (4 * hi) (10 * s.get (F.SQ_NOM_OFF_MV j))
  let s := s.modRail j fun r =>
    { r with regFrames := if ok then r.regFrames + 1 else 0, offFrames := if low then r.offFrames + 1 else 0 }
  let s := s.putBit F.SQC_RAILS_INREG j.val (Nat.ble 2 (s.rail j).regFrames)
  let wasBelow := s.below j
  let s := s.putBit F.SQC_RAILS_BELOW j.val (Nat.ble 2 (s.rail j).offFrames)
  let s := if s.inReg j then s.reached j else s
  if s.below j && !wasBelow then s.fallen j else s

/-- One frame of a warning (R361, R362): counts toward it and away from it, and whether it is active. -/
def warnFrame (active beyond inside : Bool) (n c filt : Nat) : Bool × Nat × Nat :=
  if active then
    let c' := if inside then c + 1 else 0
    if filt ≤ c' then (false, 0, 0) else (true, 0, c')
  else
    let n' := if beyond then n + 1 else 0
    if filt ≤ n' then (true, 0, 0) else (false, n', 0)
/-- A rail's own raise is noted for FIRST of a first-fault record (R372). -/
def State.noteRaise (s : State) (j : RailId) : State :=
  let l := s.recentRaises j ++ [s.now]
  s.modRail j fun r => { r with raisedAt := l }
/-- UV and OV warnings of a frame's lowest and highest result, as codes of 0.4 mV (R361, R362); UV only while armed (R360), OV
from the seal. The hysteresis is HYST × 0.25 % of VNOM; all is compared in 1/4,000 mV. -/
def State.frameWarnings (s : State) (j : RailId) (lo hi : Nat) : State :=
  let r := s.rail j
  let h := 10 * s.vnom j * s.hyst j
  let uvWas := s.has (F.SQ_MGST_UVW_ACT j)
  let uv := if s.has (F.SQ_MGST_UV_ARMED j) then
      warnFrame uvWas (Nat.blt (4 * lo) (10 * s.uvWarn j)) (Nat.ble (4000 * s.uvWarn j + h) (1600 * lo)) r.uvwFrames r.uvwClear (s.wfilt j)
    else (false, 0, 0)
  let ovWas := s.has (F.SQ_MGST_OVW_ACT j)
  let ov := if s.has F.PROT_STATUS_SEALED then
      warnFrame ovWas (Nat.blt (10 * s.ovWarn j) (4 * hi)) (Nat.ble (1600 * hi + h) (4000 * s.ovWarn j)) r.ovwFrames r.ovwClear (s.wfilt j)
    else (false, 0, 0)
  let s := s.modRail j fun r => { r with uvwFrames := uv.2.1, uvwClear := uv.2.2, ovwFrames := ov.2.1, ovwClear := ov.2.2 }
  let s := (s.put (F.SQ_MGST_UVW_ACT j) uv.1).put (F.SQ_MGST_OVW_ACT j) ov.1
  let s := if uv.1 && !uvWas then ((s.noteRaise j).flag (G.SQ_UV_WARN j)).warn (railFault j 0 0x01) else s
  if ov.1 && !ovWas then ((s.noteRaise j).flag (G.SQ_OV_WARN j)).warn (railFault j 0 0x02) else s

/-- RSNS of current-sense channel m in µΩ. -/
def State.senseUohm (s : State) (m : Nat) : Nat := 10 * s.get (F.SQI_CFG_RSNS m)
/-- Mean current of n results of channel m with a sum of codes, in units of 10 mA (R364, R387). -/
def State.senseMean (s : State) (m : Nat) (sum : Int) (n : Nat) : Int :=
  if s.senseUohm m = 0 then 0 else sum * 1000 / ((n * s.senseUohm m : Nat) : Int)
/-- A frame of current-sense channel m that serves rail j (R365): I_FRAME and the overcurrent warning at OCW % of IOC, which
clears HYST × 0.25 % of IOC below it; the frame mean is compared exactly. -/
def State.senseFrame (s : State) (j : RailId) (m : Nat) : State :=
  match (s.window? (.sense m) (0x61 + m)).filter fun w => decide (w.n ≠ 0) with
  | none => s
  | some v =>
    let s := (s.openWindows (.sense m) [0x61 + m]).set (F.SQI_MEAS_I_FRAME m) (toTwos 16 (s.senseMean m v.sum v.n))
    let ma400 : Int := 4000000 * v.sum
    let unit : Int := ((v.n * s.senseUohm m * (10 * s.get (F.SQI_THR_IOC m)) : Nat) : Int)
    let level : Int := unit * (4 * orDefault 90 (s.get (F.SQI_THR_OCW m)) : Nat)
    let clear : Int := level - unit * (s.hyst j : Nat)
    let cs := s.seq.cur.getD m {}
    let w := if s.has (F.SQI_CFG_EN m) && s.has (F.SQ_STATUS_EN j) then
        warnFrame cs.active (decide (level ≤ ma400)) (decide (ma400 ≤ clear)) cs.warnFrames cs.clearFrames (s.wfilt j)
      else (false, 0, 0)
    let s := { s with seq := { s.seq with cur := s.seq.cur.set m { active := w.1, warnFrames := w.2.1, clearFrames := w.2.2 } } }
    if w.1 && !cs.active then (s.flag (G.SQI_EVT m)).warn (railFault j 0 0x08) else s

/-- RAIL_FRAME_JUDGE (R314, R358–R362): rail j's SQVS results of the frame just ended are judged; `pg` is the level of
SQPGj. A T5 that waits for its guard follows (R34). -/
def execRailFrameJudge (j : RailId) (pg : Bool) (s : State) : Out :=
  if s.railPresent j then
    let w? := s.window? (.rail j) (0x51 + j.val)
    let s := (s.openWindows (.rail j) [0x51 + j.val]).put (F.SQ_STATUS_PG j) pg
    let s := match w? with
      | none => s
      | some w =>
        if w.n = 0 then s
        else
          let lo := w.lo.toNat
          let hi := w.hi.toNat
          let s := s.modRail j fun r => { r with sum := w.sum, n := w.n }
          let s := s.set (F.SQ_MEAS_V_MV j) (4 * w.sum / (10 * (w.n : Int))).toNat
          (s.frameLevels j lo hi pg).frameWarnings j lo hi
    let s := forAll ((List.range 4).filter fun m => decide (s.get (F.SQI_CFG_RAIL m) = j.val)) (fun m t => t.senseFrame j m) s
    .next (s.upStepCheck.stretchAll).tryT5
  else .next s

/-- RESET_STRETCH_ELAPSED (R321). -/
def execResetStretchElapsed (n : Fin 4) (s : State) : Out :=
  .next (s.onElapse (.stretch n) fun s =>
    let s := s.putBit F.SQC_RST_ST_STRETCHING n.val false
    if s.resetsMove && s.releaseHolds n then s.putBit F.SQC_RST_ST_RELEASED n.val true else s)

/-- POWERDOWN_STEP_DELAY_ELAPSED (R323). -/
def execPowerdownStepDelayElapsed (s : State) : Out :=
  .next (if s.phase = 3 then
      s.onElapse .seqDelay fun s =>
        let n := s.seqStep
        if s.has (F.SQC_DN_GATE n) && s.linkOn && !s.downGateOpen n then
          s.waitAtGate.arm .gateTimeout (msec (orDefault 20 (s.get F.SQC_CFG_GATE_TO)))
        else s.startDownStep
    else s)

/-- DOWN_GATE_TIMEOUT (R323): warning 0x2905 and the step proceeds. -/
def execDownGateTimeout (s : State) : Out :=
  .next (s.onElapse .gateTimeout fun s =>
    (((s.flag G.SQC_GATE_TO).warn 0x2905).trace 0x23 s.seqStep 0).startDownStep)

/-- RAIL_RELEASE (R323, R324): SQENj is released and SQMGj set to high impedance; a rail already below off is done at
once. -/
def execRailRelease (j : RailId) (s : State) : Out :=
  .next (if s.phase = 3 then
      s.onElapse (.railDelay j) fun s =>
        let s := s.releaseRail j false 4
        if s.below j then (((s.fallTimed j).set (F.SQ_STATUS_RSTATE j) 0).traceRail 0x11 j).railDone j
        else s.arm (.fall j) (msec (orDefault 50 (s.get (F.SQ_DN_T_FALL j))))
    else s)

/-- RAIL_FALL_TIMEOUT (R323): the discharge code is applied. -/
def execRailFallTimeout (j : RailId) (s : State) : Out :=
  .next (s.onElapse (.fall j) fun s =>
    let s := ((s.put (F.SQ_STATUS_MG_DIS j) true).modRail j fun r => { r with mg := .discharge }).set (F.SQ_STATUS_RSTATE j) 5
    ((s.traceRail 0x12 j).flag G.SQC_DISCHARGE).arm (.discharge j) (msec (orDefault 50 (s.get (F.SQ_DN_T_FALL j)))))

/-- DISCHARGE_TIMEOUT (R323): warning 0x1j21, or contained fault 0x9j22 with the code kept; the rail is done. -/
def execDischargeTimeout (j : RailId) (s : State) : Out :=
  .next (s.onElapse (.discharge j) fun s =>
    if s.below j then
      let s := ((s.put (F.SQ_STATUS_MG_DIS j) false).modRail j fun r => { r with mg := .hiZ }).set (F.SQ_STATUS_RSTATE j) 0
      (s.warn (railFault j 0 0x21)).railDone j
    else
      let s := (s.set (F.SQ_STATUS_RSTATE j) 6).traceRail 0x14 j
      (s.modRail j fun r => { r with stepDone := true }).raise (railFault j 2 0x22) |>.downStepCheck)

/-- A UV, OV, overcurrent or reverse-current fault of rail j (R325, R363, R365): causes 3, 4, 6 and 7. -/
def State.railTrip (s : State) (j : RailId) (cause : Nat) : State :=
  let s := if cause ≤ 4 then s.noteRaise j else s
  if decide (cause = 3) && decide (s.phase = 3) && s.has (F.SQ_STATUS_EN j) then
    ((s.traceRail 0x15 j).flag G.SQC_COLLAPSE).warn (railFault j 0 0x23) |>.set (F.SQ_STATUS_RSTATE j) 7
  else
    let s := (if decide (cause = 4) && decide (s.phase = 3) then s.traceRail 0x16 j else s).flag (G.SQ_FAULT j)
    let s := if cause = 3 then s.assertWatching j else s
    if s.has (F.SQ_SUP_FCLASS j) then ((s.isolateRail j).raise (railFault j 2 cause)).upStepCheck
    else s.raise (railFault j 3 cause)

end Sys2Proof.Machine
end

