-- ==== Sys2Proof/Machine/Margin.lean ====
section
/-!
DEFINITION. The margin steps of Table RSV-1 (R366–R369).
-/
namespace Sys2Proof.Machine

/-- A new margin target of rail j is accepted (R367, Table RSV-1 step 1): where it differs from POS the move begins. -/
def State.setMargin (s : State) (j : RailId) (target : Int) (clamped : Bool) : State :=
  let s := (s.set (F.SQ_MG_TARGET j) (toTwos 8 target)).put (F.SQ_MGST_CLAMPED j) clamped
  if target = s.mgPos j && !s.has (F.SQ_MGST_MOVING j) then s
  else
    let s := s.modRail j fun r => { r with stable := 0, atRail := 0 }
    (s.put (F.SQ_MGST_MOVING j) true).arm (.margin j) (msec 100)

/-- Margining failed (Table RSV-1 step 5): contained fault 0x9j05, TARGET 0 and the steps from step 1. -/
def State.marginFail (s : State) (j : RailId) : State :=
  let s := (s.set (F.SQ_MG_TARGET j) 0).modRail j fun r => { r with stable := 0, atRail := 0 }
  let s := (s.put (F.SQ_MGST_MOVING j) true).arm (.margin j) (msec 100)
  (s.flag (G.SQ_MARGIN j)).raise (railFault j 2 0x05)

/-- The margin has settled (Table RSV-1 steps 3 and 4). -/
def State.marginSettled (s : State) (j : RailId) : State :=
  let s := ((s.set (F.SQ_MGST_POS j) (s.get (F.SQ_MG_TARGET j))).put (F.SQ_MGST_MOVING j) false).disarm (.margin j)
  if s.get (F.SQ_MG_TARGET j) = 0 then (s.put (F.SQ_MGST_DRIVING j) false).modRail j fun r => { r with mg := .hiZ } else s

/-- Whether the margin steps stand still: in Autumn and in Winter the DAC holds its code (R369). -/
def State.marginHeld (s : State) : Bool := s.isAny [.autumn, .winter, .deepWinter]
/-- By how much the last frame's mean of rail j exceeds V_T, times the number of its results, in µV: a code is 0.4 mV (Table RSV-1
step 2). -/
def State.marginErr (s : State) (j : RailId) : Int :=
  400 * (s.rail j).sum - (((s.rail j).n * s.vnom j : Nat) : Int) * (1000 + s.mgTarget j)
/-- MARGIN_FRAME_STEP (R367, Table RSV-1): one frame of a move, on the SQVS results of the last frame. -/
def execMarginFrameStep (j : RailId) (s : State) : Out :=
  if ! s.has (F.SQ_MGST_MOVING j) || s.marginHeld || decide ((s.rail j).n = 0) then .next s
  else if ! s.has (F.SQ_MGST_DRIVING j) then
    let s := (s.put (F.SQ_MGST_DRIVING j) true).set (F.SQ_MGST_DAC j) (s.get (F.SQ_MGCAL_ZERO j))
    .next (s.modRail j fun r => { r with mg := .dac })
  else
    let err := s.marginErr j
    if Nat.ble err.natAbs ((s.rail j).n * s.vnom j) then
      let s := s.modRail j fun r => { r with stable := r.stable + 1, atRail := 0 }
      .next (if 8 ≤ (s.rail j).stable then s.marginSettled j else s)
    else
      let dac := s.get (F.SQ_MGST_DAC j)
      let slew := orDefault 1 (s.get (F.SQ_MGCAL_SLEW j))
      let up := decide (decide (err < 0) = s.has (F.SQ_MGCAL_DIR j))
      let next := if up then min 1023 (dac + slew) else dac - slew
      let s := (s.set (F.SQ_MGST_DAC j) next).modRail j fun r =>
        { r with stable := 0, atRail := if next = dac then r.atRail + 1 else 0 }
      .next s

/-- MARGIN_TIMEOUT (R367, Table RSV-1 step 5): not settled within 100 ms, or the DAC held at an end for 8 frames. -/
def execMarginTimeout (j : RailId) (s : State) : Out :=
  .next (if ! s.has (F.SQ_MGST_MOVING j) || s.marginHeld then s
    else if 8 ≤ (s.rail j).atRail then s.marginFail j
    else s.onElapse (.margin j) fun s => s.marginFail j)

end Sys2Proof.Machine
end

