-- ==== Sys2Proof/Machine/Measure.lean ====
section
/-!
DEFINITION. The measurement path (chapter MSR): conversions and where their results go, plausibility, the schedule banks
with their check and swap, the window comparators, and the capture RAM.
-/
namespace Sys2Proof.Machine

/-- The frame of the present moment within its superframe (R23). -/
def State.frameNo (s : State) : Nat := s.tb / 1024 % 32
/-- The default schedule (R125). -/
def defaultEntry (a : AdcId) (c : Nat) : Nat :=
  if c % 4 = 0 then 0x65
  else if c % 4 = 1 then 0x80 + 4 * a.val + c / 4 % 4
  else if c % 4 = 2 then 0x66 + c / 4 % 9
  else 0x6F + c / 4 % 8
/-- The entry that ADC a executes at a position of the present frame (R124, R125). -/
def State.entryNow (s : State) (a : AdcId) (pos : Nat) : Nat :=
  if s.get F.SCH_STATUS_ACTIVE = 0 then defaultEntry a pos
  else (entryAt s.activeBank (4096 * a.val + 128 * s.frameNo + pos)).toNat

/-- Whether the capture takes words: ARMED, or POST with its part not yet filled (R140, R141). -/
def State.capturing (s : State) : Bool :=
  decide (s.get F.CAP_STATUS_STATE = 1) || (decide (s.get F.CAP_STATUS_STATE = 2) && decide (s.cap.left ≠ 0))
/-- Write a word into the ring. -/
def State.capWord (s : State) (w : Nat) : State :=
  if s.capturing then
    let c := s.cap
    { s with cap := { c with ram := bankWrite (fun _ => 0#32) c.ram c.next (BitVec.ofNat 32 w), next := (c.next + 1) % ringWords,
                             count := min ringWords (c.count + 1),
                             left := if s.get F.CAP_STATUS_STATE = 2 then c.left - 1 else c.left } }
  else s
/-- The marker word at the start of a frame (R140). -/
def State.capMarker (s : State) : State :=
  let f := s.tb / 1024
  if s.cap.marked = some f then s
  else { s.capWord (0xFF * 2 ^ 24 + f % 2 ^ 24) with cap := { (s.capWord (0xFF * 2 ^ 24 + f % 2 ^ 24)).cap with marked := some f } }
/-- A level trigger (R155): a result passes LEVEL in the direction of DIR. -/
def State.levelTrigger (s : State) (ch code : Nat) : State :=
  let level := codeValue ch (s.get F.CAP_TRIG_LEVEL)
  let v := codeValue ch code
  let hit := match s.result? ch with
    | none => false
    | some p =>
      let u := codeValue ch p
      if s.has F.CAP_TRIG_DIR then decide (level ≤ u) && decide (v < level) else decide (u < level) && decide (level ≤ v)
  s.captureEvent 3 (decide (s.get F.CAP_TRIG_SEL = ch) && hit)

/-- CHECK_TRIM of an ADC. -/
def State.checkTrim (s : State) (a : AdcId) : Nat := s.get (F.MSR_ADC_CHECK_TRIM a.val)
/-- Channels that a chapter follows over a frame or superframe have their windows opened with their first result. -/
def State.openFor (s : State) (a : AdcId) (ch : Nat) : State :=
  let s := if ch = 0x82 + 4 * a.val then s.ensureWindow (.check a) ch else s
  let s := if (s.get (F.MSR_DUAL_CH (ch / 32))).testBit (ch % 32) || decide (ch = 0x65) then s.ensureWindow (.dual ch a) ch else s
  let s := forAll allRails (fun j t => if ch = 0x51 + j.val then t.ensureWindow (.rail j) ch else t) s
  if 0x61 ≤ ch ∧ ch ≤ 0x64 then (s.ensureWindow (.sense (ch - 0x61)) ch).ensureWindow (.senseSf (ch - 0x61)) ch else s
/-- A result of Pk_VCSNS shows whether it stands at or below vSafe0V (R163, Table ATT-2). -/
def State.noteVcsns (s : State) (k : PortId) (safe : Bool) : State :=
  (s.modPins k fun p => { p with vcsnsSafe := safe }).modBrk k fun b => { b with safeSeen := b.safeSeen || safe }
/-- What a result of a port's channels moves: offsets of the current channel while the converter stands (R235), the on-drop
of R287, and the NTC's 10 s inside its window (Table BRK-4). -/
def State.portResult (s : State) (k : PortId) (n code : Nat) : State :=
  let s := s.when (k.isModule && decide (n = 2)) fun t => t.offsetResult k code
  let s := if n ≤ 2 then s.onDropFrame k else s
  let s := if n = 1 then s.noteVcsns k (Nat.ble (codeH code) 800) else s
  if n = 4 && (s.port k).brk.heldNtc then
    let inside := Nat.ble (s.get (F.BRK_NTC_HOT k)) (code / 4) && Nat.ble (code / 4) (s.get (F.BRK_NTC_OPEN k))
    if inside then s.armOnce (.ntcCool k) (secs 10) else s.disarm (.ntcCool k)
  else s
/-- Channel and thresholds of a window as 12-bit codes (Table MSR-4, R137, R275, R358, R364, R460). -/
structure WinThr where
  ch : Nat
  /-- None where the window has no LO, or its LO is not armed. -/
  lo : Option Int
  hi : Option Int
/-- Rail j by number. -/
def railId (n : Nat) : RailId := ⟨n % 16, by omega⟩
/-- Port k by index. -/
def portId (n : Nat) : PortId := ⟨n % 9, by omega⟩
/-- Window w of Table MSR-4 where it is enabled (R646). -/
def State.windowThr (s : State) (w : Nat) : Option WinThr :=
  let up (q v : Nat) : Int := (ceilDiv v q : Nat)
  if w < 16 then
    let j := railId w
    if s.railPresent j then
      some { ch := 0x51 + w, lo := some (if s.has (F.SQ_MGST_UV_ARMED j) then ((s.uvCode j : Nat) : Int) else 0),
             hi := if s.has F.PROT_STATUS_SEALED then some ((s.ovCode j : Nat) : Int) else none }
    else none
  else if w < 25 then
    let k := portId (w - 16)
    if s.portPresent k then
      some { ch := portChan k 0, lo := if s.armArmed k 1 then some ((s.get (F.CNV_STATUS_VSET k) * 8 / 160 : Nat) : Int) else none,
             hi := some (up 1600 (s.ovLimit100 k)) }
    else none
  else if w < 34 then
    let k := portId (w - 25)
    if s.portPresent k then some { ch := portChan k 1, lo := none, hi := some (up 1600 (s.vcsnsHi100 k)) } else none
  else if w < 43 then
    let k := portId (w - 34)
    if s.portPresent k && s.has (F.BRK_CFG_NTC_EN k) then
      some { ch := portChan k 4, lo := some (s.get (F.BRK_NTC_HOT k) : Nat), hi := some (s.get (F.BRK_NTC_OPEN k) : Nat) }
    else none
  else if w < 47 then
    let m := w - 43
    if !s.boot.isAbsent.testBit m && s.has (F.SQI_CFG_EN m) then
      some { ch := 0x61 + m, lo := some (-(up 400 (10 * orDefault 10 (s.get (F.SQI_THR_IREV m)) * s.get (F.SQI_CFG_RSNS m)))),
             hi := some (up 400 (s.get (F.SQI_THR_IOC m) * s.get (F.SQI_CFG_RSNS m))) }
    else none
  else if w < 51 then
    some { ch := [0x66, 0x67, 0x69, 0x6A].getD (w - 47) 0, lo := some (if w = 47 then 1500 else (Config.supplyLo w : Nat)),
           hi := some (Config.supplyHi w : Nat) }
  else if w < 55 then
    some { ch := 0x6F + (w - 51), lo := none, hi := some (up 4 (32 * (orDefault 155 (s.get F.SAF_TEMP_TRIP) + 64))) }
  else if 64 ≤ w then none
  else
    let n := w - 55
    let ch := s.get (F.MSR_GPW_CHAN n)
    let thr (v : Nat) : Int := if signedChan ch then ofTwos 12 v else (v : Int)
    if ch = 0xFF then none else some { ch := ch, lo := some (thr (s.get (F.MSR_GPW_LO n))), hi := some (thr (s.get (F.MSR_GPW_HI n))) }
/-- Whether a code's value lies beyond a threshold of a window. -/
def WinThr.beyond (t : WinThr) (v : Int) : Bool := t.lo.any (fun x => decide (v.fdiv 4 < x)) || t.hi.any fun x => decide (x < v.fdiv 4)
/-- Whether a code's value lies within 32 LSB of a threshold that the window has (R139). -/
def WinThr.near (t : WinThr) (v : Int) : Bool :=
  t.lo.any (fun x => decide ((v - 4 * x).natAbs ≤ 32)) || t.hi.any fun x => decide ((v - 4 * x).natAbs ≤ 32)
/-- Whether a window disagrees with the last result of its channel (R139): results within 32 LSB of a threshold are
excluded. -/
def State.windowDisagrees (s : State) (w : Nat) (outside : Bool) : Bool :=
  match s.windowThr w with
  | none => false
  | some t =>
    match s.result? t.ch with
    | none => false
    | some c =>
      let v := codeValue t.ch c
      !t.near v && (t.beyond v != outside)

/-- The bit of a window in MSR_CMP_ST0 or MSR_CMP_ST1. -/
def State.windowBit (s : State) (w : Nat) (b : Bool) : State :=
  if w < 32 then s.putBit F.MSR_CMP_ST0_OUT w b else s.putBit F.MSR_CMP_ST1_OUT (w - 32) b
/-- Whether a window shows outside in MSR_CMP_ST0 or MSR_CMP_ST1. -/
def State.windowShown (s : State) (w : Nat) : Bool := if w < 32 then s.bit F.MSR_CMP_ST0_OUT w else s.bit F.MSR_CMP_ST1_OUT (w - 32)
/-- A result inside the thresholds of a window that shows outside: the window is outside no more (R146). DEDUCED (entry 107):
the manual gives no event for an input's return. -/
def State.windowsInside (s : State) (ch code : Nat) : State :=
  forAll (List.range 64) (fun w t =>
    if t.windowShown w && (s.windowThr w).any (fun x => x.ch == ch && !x.beyond (codeValue ch code)) then t.windowBit w false else t) s
/-- The lowest VIN code of the frame, for the judgement of R71 (R123). -/
def State.noteVin (s : State) (ch code : Nat) : State :=
  if ch = 0x65 then { s with msr := { s.msr with vinLow := some (min code (s.msr.vinLow.getD code)) } } else s
/-- A result that is not discarded (Table MSR-1, R135). -/
def State.takeResult (s : State) (a : AdcId) (ch code : Nat) : State :=
  let s := ((s.levelTrigger ch code).openFor a ch).noteVin ch code
  let now := s.now
  let s := { s with msr := { s.msr with res := bankWrite (fun _ => (0, 0, 0)) s.msr.res ch (code + 1, a.val, now) } }
  let s := s.windowsInside ch code
  let s := s.accumulate a ch (codeValue ch code)
  let far := decide (ch = 0x82 + 4 * a.val) && decide (((code : Int) - (s.checkTrim a : Int)).natAbs > 164)
  let s := if far then { s with msr := { s.msr with badNow := setBitTo s.msr.badNow a.val true } } else s
  forAll allPorts (fun k t => if 9 * k.val ≤ ch ∧ ch < 9 * k.val + 9 then t.portResult k (ch - 9 * k.val) code else t) s
/-- The index of the entry that ADC a executes at a position of the present frame (R124). -/
def State.entryIndex (s : State) (a : AdcId) (pos : Nat) : Nat := 4096 * a.val + 128 * s.frameNo + pos
/-- An entry of the active bank has an uncorrectable ECC error (R132). -/
def State.noteEcc (s : State) (i : Nat) : State :=
  if s.msr.eccIdle.contains i then s else { s with msr := { s.msr with eccIdle := i :: s.msr.eccIdle } }
/-- One ADC executes its entry; a non-idle entry without a result makes its frame implausible (R135). With `ecc` the entry of
a bank has an uncorrectable ECC error and is executed as idle (R132). -/
def State.convert (s : State) (a : AdcId) (pos : Nat) (ecc : Bool) (r : Option (BitVec 14)) : State :=
  let e := s.entryNow a pos
  let ch := e % 256
  if ecc && decide (s.get F.SCH_STATUS_ACTIVE ≠ 0) then s.noteEcc (s.entryIndex a pos)
  else if ch = 0xFF then s
  else match r with
    | none => { s with msr := { s.msr with badNow := setBitTo s.msr.badNow a.val true } }
    | some c =>
      let discard := e.testBit 8
      let s := if discard then s else s.takeResult a ch c.toNat
      let word := ch * 2 ^ 24 + a.val * 2 ^ 22 + pos * 2 ^ 14 + c.toNat
      s.when (e.testBit 9 || (s.has F.CAP_CTRL_CAP_ALL && !discard)) fun t => t.capWord word
/-- ADC_CONVERSION (R121, R124, R140): position `pos` of the present frame with the four results, none where an ADC gives
none; bit a of `ecc` is an uncorrectable ECC error of ADC a's entry. In Deep Winter the engines stand and nothing is converted
(Table SEA-4). DESIGN CHOICE (entry 106): of the four samples of a position that of ADC 0 enters the capture ring first, that
of ADC 3 last; the manual states no order. -/
def execAdcConversion (pos : Nat) (ecc : BitVec 4) (r0 r1 r2 r3 : Option (BitVec 14)) (s : State) : Out :=
  if s.isIn .deepWinter then .next s
  else
    let start := s.now - s.tb % 1024
    let s := (s.advanceTo (start + 8 * pos)).capMarker
    .next ((((s.convert 0 pos (ecc.getLsbD 0) r0).convert 1 pos (ecc.getLsbD 1) r1).convert 2 pos (ecc.getLsbD 2) r2).convert 3 pos
      (ecc.getLsbD 3) r3)

/-- FRAME_PLAUSIBILITY (R135). -/
def execFramePlausibility (s : State) : Out :=
  let bad (a : Nat) : Bool := s.msr.badNow.testBit a
  let run := (List.range 4).map fun a => if bad a then min 3 (s.msr.badRun.getD a 0 + 1) else 0
  let any := (List.range 4).any bad
  let s := { s with msr := { s.msr with badNow := 0, badRun := run } }
  let s := s.when any fun t => t.flag G.MSR_GROSS
  .next (s.when (run.contains 2) fun t => t.classify 0xE506)

/-- Whether a channel belongs to an absent unit (R134). -/
def State.absentChan (s : State) (ch : Nat) : Bool :=
  (allPorts.any fun k => !s.portPresent k && ((Nat.ble (9 * k.val) ch && Nat.blt ch (9 * k.val + 9)) || ch = 0x77 + k.val)) ||
  (allRails.any fun j => !s.railPresent j && decide (ch = 0x51 + j.val)) ||
  (Nat.ble 0x61 ch && Nat.ble ch 0x64 && s.boot.isAbsent.testBit (ch - 0x61))
/-- The bits of MSR_SAFE that read 1 whatever is written (R134). -/
def State.forcedSafe (s : State) (ch : Nat) : Bool :=
  decide (ch = 0x65) || (s.presentPorts.any fun k => decide (ch = portChan k 0) || decide (ch = portChan k 2)) ||
  (s.presentRails.any fun j => decide (ch = 0x51 + j.val))
/-- Whether a channel is marked in MSR_SAFE. -/
def State.safeMarked (s : State) (ch : Nat) : Bool :=
  s.forcedSafe ch || ((s.get (F.MSR_SAFE_CH (ch / 32))).testBit (ch % 32) && !s.absentChan ch)
/-- Whether a channel is marked in MSR_DUAL. -/
def State.dualMarked (s : State) (ch : Nat) : Bool :=
  decide (ch = 0x65) || ((s.get (F.MSR_DUAL_CH (ch / 32))).testBit (ch % 32) && !s.absentChan ch)
/-- The ADCs. -/
def adcs : List AdcId := [0, 1, 2, 3]
/-- The CHECK means of a superframe (R136): shown in MSR_ADCa; answers whether one lies outside DRIFT_TOL. -/
def State.checkMeans (s : State) : Bool × State :=
  adcs.foldl (fun (p : Bool × State) a =>
    match p.2.window? (.check a) (0x82 + 4 * a.val) with
    | none => p
    | some w =>
      if w.n = 0 then p
      else
        let tol := min 64 (orDefault 16 (p.2.get F.MSR_CFG_DRIFT_TOL))
        let out := decide ((w.sum - ((p.2.checkTrim a * w.n : Nat) : Int)).natAbs > tol * w.n)
        (p.1 || out, (p.2.set (F.MSR_ADC_CHECK_MEAN a.val) (4 * w.sum / (w.n : Int)).toNat).openWindows (.check a) [0x82 + 4 * a.val]))
    (false, s)
/-- Whether some pair of ADCs differs on a marked channel by more than DUAL_TOL in its means (R136). -/
def State.dualOutside (s : State) : Bool :=
  let tol := orDefault 32 (s.get F.MSR_CFG_DUAL_TOL)
  let ws := s.msr.windows.filter fun w => match w.id with | .dual ch _ => s.dualMarked ch && decide (w.n ≠ 0) | _ => false
  ws.any fun u => ws.any fun v =>
    decide (u.ch = v.ch) && decide ((u.sum * (v.n : Int) - v.sum * (u.n : Int)).natAbs > tol * u.n * v.n)
/-- A superframe run: it counts failing superframes up to 4. -/
def runNext (n : Nat) (bad : Bool) : Nat := if bad then min 4 (n + 1) else 0
/-- E_BUS in 10 mJ (R68, R79). DESIGN CHOICE (entry 108): truncated, and of the last judged frame's VIN_MV; the manual states
neither. -/
def State.eBus (s : State) : Nat :=
  let v := s.get F.BUS_VIN_VIN_MV
  min 0xFFFF (s.get F.BUS_RESERVE_C_BUS * (v * v - 4500 * 4500) / 2000000000)
/-- The active bank as executed: an entry with an uncorrectable ECC error as idle (R132). -/
def State.executedBank (s : State) : Bank Word := s.msr.eccIdle.foldl (fun b i => bankWrite idleEntry b i (idleEntry i)) s.activeBank
/-- The CRC comparison at a superframe end over the entries just executed (R132). -/
def State.compareCrc (s : State) : State :=
  if s.get F.SCH_STATUS_ACTIVE = 0 then s
  else
    let got := bankCrc s.executedBank
    let bad := decide (got ≠ s.msr.crcAccepted)
    let was := s.msr.crcBad
    let s := { s.set F.SCH_CRC_ACT_CRC got with msr := { s.msr with crcBad := bad, eccIdle := [] } }
    s.when (bad && !was) fun t => t.classify 0xE504
/-- Mean currents of the superframe (R364, SQI_MEASm.I_SF). -/
def State.senseMeans (s : State) : State :=
  forAll (List.range 4) (fun m t =>
    match (t.window? (.senseSf m) (0x61 + m)).filter fun w => decide (w.n ≠ 0) with
    | none => t
    | some w => (t.set (F.SQI_MEAS_I_SF m) (toTwos 16 (t.senseMean m w.sum w.n))).openWindows (.senseSf m) [0x61 + m]) s
/-- A window id that a superframe restarts. -/
def Win.isDual (w : Win) : Bool := match w.id with | .dual _ _ => true | _ => false
/-- SUPERFRAME_CHECKS (R132, R136, R139, R237, R68): `outside` is the state of the 64 comparators at the superframe end. -/
def execSuperframeChecks (outside : BitVec 64) (s : State) : Out :=
  let s := (s.set F.MSR_CMP_ST0_OUT (outside.toNat % 2 ^ 32)).set F.MSR_CMP_ST1_OUT (outside.toNat / 2 ^ 32)
  let dual := s.dualOutside
  let cmp := (List.range 64).any fun w => s.windowDisagrees w (outside.getLsbD w)
  let p := s.checkMeans
  let drift := p.1
  let s := p.2
  let m := s.msr
  let s := { s with msr := { m with driftRun := runNext m.driftRun drift, dualRun := runNext m.dualRun dual,
                                    cmpRun := runNext m.cmpRun cmp, windows := m.windows.filter fun w => !w.isDual } }
  let s := ((s.when drift fun t => t.flag G.MSR_DRIFT).when dual fun t => t.flag G.MSR_DUAL).when cmp fun t => t.flag G.MSR_CMP
  let s := forAll s.presentModulePorts (fun k t => t.dropTerm k) s.senseMeans
  let s := (s.set F.BUS_VIN_E_BUS s.eBus).compareCrc
  let s := s.when (s.msr.driftRun == 3) fun t => t.classify 0xE507
  let s := s.when (s.msr.dualRun == 3) fun t => t.classify 0xE508
  .next (s.when (s.msr.cmpRun == 3) fun t => t.classify 0xE509)

/-- SCH_DATA_WRITE (R128, R129): stored at INDEX of the shadow bank, or discarded while BUSY. -/
def execSchDataWrite (w : Word) (s : State) : Out :=
  .next (s.writeSchWord fun t => t.storeEntry w)
/-- SCH_DATA_READ (R128): the read of byte 3 advances INDEX. -/
def execSchDataRead (s : State) : Out := .next (s.set F.SCH_ADDR_INDEX ((s.get F.SCH_ADDR_INDEX + 1) % 16384))
/-- SCH_SWAP_REQ (R129, R149). -/
def execSchSwapReq (s : State) : Out := .next s.requestSwap

/-- The units as the records test of R130 sees them. -/
def State.units (s : State) : Units := { ports := s.boot.portsAbsent, rails := s.boot.railsAbsent, isense := s.boot.isAbsent }
/-- Place of an entry index in the execution order of R127. -/
def execPlace (i : Nat) : Nat := (i / 128 % 32 * 128 + i % 128) * 4 + i / 4096
/-- The first invalid entry in execution order: its index and word (R130). -/
def State.firstInvalid (s : State) : Option (Nat × Nat) :=
  s.shadowBank.foldl (fun best e =>
    if entryOk s.units e.1 e.2.toNat then best
    else match best with
      | none => some (e.1, e.2.toNat)
      | some b => if execPlace e.1 < execPlace b.1 then some (e.1, e.2.toNat) else some b) none
/-- The first frame whose 512 entries do not hold a channel. -/
def State.frameLacking (s : State) (ch : Nat) : Option Nat :=
  (List.range 32).find? fun f => !(s.shadowBank.any fun e => decide (e.1 / 128 % 32 = f) && covers ch e)
/-- Channels that feed an enabled window (R646). -/
def State.windowChannels (s : State) : List Nat := (List.range 64).filterMap fun w => (s.windowThr w).map (·.ch)
/-- Whether a channel fails a bank-wide rule (R130). -/
def State.bankLacks (s : State) (ch : Nat) : Bool :=
  (s.windowChannels.contains ch && !(s.shadowBank.any (covers ch))) ||
  (decide (ch < 0x80) && s.dualMarked ch &&
    decide ((adcs.filter fun a => s.shadowBank.any fun e => decide (e.1 / 4096 = a.val) && covers ch e).length < 2))
/-- Whether a channel must stand in every frame (R130). -/
def State.perFrame (s : State) (ch : Nat) : Bool :=
  if ch < 0x80 then s.safeMarked ch else decide (ch < 0x90) && decide (ch % 4 = 2)
/-- The lowest uncovered channel with the frame that lacks it, 0 for a bank-wide rule (R130, R151). -/
def State.uncovered (s : State) : Option (Nat × Nat) :=
  ((List.range 0x90).find? fun ch => (s.perFrame ch && (s.frameLacking ch).isSome) || s.bankLacks ch).map fun ch =>
    (ch, if s.perFrame ch then (s.frameLacking ch).getD 0 else 0)
/-- A refused check (R131, R151). -/
def State.refuseSwap (s : State) (result chan frame index code : Nat) : State :=
  let s := ((s.set F.SCH_REFUSE_CHAN chan).set F.SCH_REFUSE_FRAME frame).set F.SCH_REFUSE_INDEX index
  (((s.set F.SCH_STATUS_LAST_RESULT result).flag G.SCH_REFUSED).put F.SCH_STATUS_BUSY false).raise code
/-- SCHEDULE_CHECK (R130, R131): at the superframe boundary after the request. -/
def execScheduleCheck (s : State) : Out :=
  if s.has F.SCH_STATUS_BUSY && !s.msr.passed then
    match s.firstInvalid with
    | some e => .next (s.refuseSwap 2 (e.2 % 256) (e.1 / 128 % 32) e.1 0xA501)
    | none =>
      match s.uncovered with
      | some c => .next (s.refuseSwap 3 c.1 c.2 0 0xA502)
      | none =>
        if bankCrc s.shadowBank ≠ s.get F.SCH_CRC_CRC then .next (s.refuseSwap 4 0 0 0 0xA503)
        else .next { s with msr := { s.msr with passed := true } }
  else .next s
/-- SCHEDULE_SWAP (R131, R133, R150): the accepted bank becomes active, bank A first. -/
def execScheduleSwap (s : State) : Out :=
  if s.has F.SCH_STATUS_BUSY && s.msr.passed then
    let active := if s.shadowIsB then 2 else 1
    let s := { s with msr := { s.msr with passed := false, crcAccepted := s.get F.SCH_CRC_CRC, crcBad := false } }
    let s := ((s.set F.SCH_STATUS_ACTIVE active).bump F.SCH_STATUS_SWAPS 1).set F.SCH_STATUS_LAST_RESULT 1
    .next (s.put F.SCH_STATUS_BUSY false).tryPowerUp
  else .next s

/-- Window of a rail outside (R360, R363). -/
def State.railWindow (s : State) (j : RailId) (high : Bool) : State :=
  if !s.railPresent j then s
  else if high then s.when (s.has F.PROT_STATUS_SEALED) fun t => t.railTrip j 4
  else s.when (s.has (F.SQ_MGST_UV_ARMED j)) fun t => t.railTrip j 3
/-- Window of a port's VBSNS, VCSNS or NTC outside (R273, Table BRK-4). -/
def State.portWindow (s : State) (k : PortId) (kind : Nat) (high : Bool) : State :=
  if !s.portPresent k || s.isIn .romBoot then s
  else if kind = 0 then
    if high then s.tripPort k 0x34 else s.when (s.armArmed k 1) fun t => t.tripPort k 0x31
  else if kind = 1 then
    if !high then s else if s.switchClosed k then s.tripPort k 0x34 else s.holdPort k 0x35 true
  else if s.has (F.BRK_CFG_NTC_EN k) then
    if high then s.holdPort k 0x37 true else s.holdPort k 0x36 false
  else s
/-- Window of a current-sense channel outside (R365): armed while its rail's enable is asserted. -/
def State.senseWindow (s : State) (m : Nat) (high : Bool) : State :=
  let j := railId (s.get (F.SQI_CFG_RAIL m))
  if s.has (F.SQI_CFG_EN m) && !s.boot.isAbsent.testBit m && s.has (F.SQ_STATUS_EN j) then
    (s.flag (G.SQI_EVT m)).railTrip j (if high then 6 else 7)
  else s
/-- Window of an internal supply outside (R86). -/
def State.supplyWindow (s : State) (n : Nat) (high : Bool) : State :=
  if n = 0 then s.when (!high && Nat.ble 9000 s.env.vinMv) fun t => t.classify 0xE102
  else if n = 1 then s.trip 0xE104 0
  else s.classify 0xE103
/-- WINDOW_OUTSIDE (R137, R138, Table MSR-4): a window's input has stayed beyond HI or LO for its filter time; a window that
is not enabled (R144, R646) never is outside. -/
def execWindowOutside (win : Nat) (high : Bool) (s : State) : Out :=
  if (s.windowThr win).isNone then .next s
  else
  let s := (s.windowBit win true).captureEvent 2 (decide (s.get F.CAP_TRIG_SEL = win))
  .next (if s.isIn .deepWinter then s
    else if win < 16 then s.railWindow (railId win) high
    else if win < 25 then s.portWindow (portId (win - 16)) 0 high
    else if win < 34 then s.portWindow (portId (win - 25)) 1 high
    else if win < 43 then s.portWindow (portId (win - 34)) 2 high
    else if win < 47 then s.senseWindow (win - 43) high
    else if win < 51 then s.supplyWindow (win - 47) high
    else if win < 55 then s.when high fun t => t.classify 0xEB01
    else s.classify 0x250B)

/-- CAPTURE_ARM (R155): a write of CAP_CTRL. ARM 1 in IDLE arms, ARM 0 while ARMED returns to IDLE, and in POST and FULL
the bit is ignored. The first marker comes at the next start of a frame (R140). -/
def execCaptureArm (w : Word) (s : State) : Out :=
  let st := s.get F.CAP_STATUS_STATE
  let arm := w.getLsbD 0
  let s := (s.set F.CAP_CTRL_PRE (w.toNat / 2 ^ 8)).put F.CAP_CTRL_CAP_ALL (w.getLsbD 1)
  let s := if st ≤ 1 then s.put F.CAP_CTRL_ARM arm else s
  let s := if st = 0 && arm then { s.set F.CAP_STATUS_STATE 1 with cap := { marked := if s.tb % 1024 = 0 then none else some (s.tb / 1024) } }
    else if st = 1 && !arm then s.set F.CAP_STATUS_STATE 0 else s
  .next (s.when (w.getLsbD 2) State.captureTrigger)
/-- CAPTURE_FORCE (R155): trigger now, whatever SRC is. -/
def execCaptureForce (s : State) : Out := .next s.captureTrigger
/-- CAPTURE_TRIGGER (R141): the selected trigger occurs. -/
def execCaptureTrigger (s : State) : Out := .next s.captureTrigger
/-- CAPTURE_FULL (R141): the post-trigger part is filled. -/
def execCaptureFull (s : State) : Out :=
  if s.get F.CAP_STATUS_STATE = 2 ∧ s.cap.left = 0 then .next (s.set F.CAP_STATUS_STATE 3) else .next s
/-- CAPTURE_RELEASE (R431, R441): a FULL capture with spill disabled is discarded. -/
def execCaptureRelease (s : State) : Out :=
  if s.get F.CAP_STATUS_STATE = 3 && !s.has F.CAP_SPILL_EN then .next ((s.set F.CAP_STATUS_STATE 0).put F.CAP_CTRL_ARM false)
  else .next s

end Sys2Proof.Machine
end

