-- ==== Sys2Proof/Machine/Hub.lean ====
section
/-!
DEFINITION. The hub (chapter USB, R390–R404): data enable, the buffer pool, the priority lane, its faults and counters.
-/
namespace Sys2Proof.Machine

/-- Hub port k as the port of the part it serves. -/
def hubPort (k : Fin 8) : PortId := ⟨k.val, by omega⟩
/-- Whether the SuperSpeed lanes run (R393). -/
def State.ssOn (s : State) : Bool := !s.unitOff 0 && !s.has F.HUB_STATUS_SS_STOPPED
/-- UP_SPEED as the upstream port reaches it: USB 2.0 only without SuperSpeed lanes (R393), one lane with UP_X1 (R391). -/
def State.upSpeed (s : State) (n : Nat) : Nat :=
  if ! s.ssOn then min 1 n
  else if s.has F.HUB_CFG_UP_X1 then (if n = 5 then 3 else if n = 4 then 2 else n)
  else n
/-- Whether hub port k may run at SuperSpeed (R393, Table USB-8). -/
def State.ssPort (s : State) (k : PortId) : Bool :=
  s.ssOn && !s.bit F.HUB_CFG_SS_DIS k.val && !s.hub.fallback.testBit k.val
/-- The code of the first unmet condition of Table USB-3 for hub port k, 0 where all hold. -/
def State.hubBlock (s : State) (k : PortId) : Nat :=
  if ! (s.portPresent k && s.bit F.HUB_PORTS_DATA_EN k.val) then 1
  else if ! ((s.isIn .spring && Nat.ble 5 s.boot.step) || s.isIn .summer || (s.isIn .autumn && !s.has F.SYS_STATE_COMMITTED)) then 2
  else if s.get (F.ATT_STATUS_ASTATE k) ≠ 7 then 3
  else if ! [3, 4].contains (s.get (F.BRK_STATUS_STATE k)) then 4
  else 0

/-- Module ports whose data is enabled at SuperSpeed: each has its port reserve in force (Table USB-4). -/
def State.ssPorts (s : State) : Nat := (modulePorts.filter fun k => s.has (F.HUB_PSTAT_DATA_ON k) && s.ssPort k).length
/-- Buffers of the shared pool (Table USB-4, R401). -/
def State.sharedTotal (s : State) : Nat := 256 - 16 - 16 * s.ssPorts - s.get F.HUB_BUF_RETIRED
/-- Packets in a store. -/
def State.hubCount (s : State) (p : HubPkt → Bool) : Nat := (s.hub.pkts.filter p).length
/-- Free buffers of the shared pool. -/
def State.sharedFree (s : State) : Nat := s.sharedTotal - s.hubCount fun p => decide (p.store = 2)
/-- The store that takes a packet: its own reserve, else the shared pool, else none and it is held at its link (R400,
R403). -/
def State.storeFor (s : State) (p : HubPkt) : Nat :=
  let pool := if s.sharedFree = 0 then 3 else 2
  if p.prio then if Nat.blt (s.hubCount fun q => decide (q.store = 1)) 16 then 1 else pool
  else if Nat.blt (s.hubCount fun q => decide (q.store = 0) && decide (q.port = p.port) && decide (q.up = p.up)) 8 then 0
  else pool
/-- The egress of a packet: 0 the upstream port, k hub port k. -/
def HubPkt.egress (p : HubPkt) : Nat := if p.up then 0 else p.port + 1
/-- The first packet of a list that satisfies a test goes into transmission. -/
def sendFirst (c : HubPkt → Bool) : List HubPkt → List HubPkt
  | [] => []
  | p :: ps => if c p then { p with sending := true } :: ps else p :: sendFirst c ps
/-- The first packet of a list that satisfies a test leaves it. -/
def dropFirst (c : HubPkt → Bool) : List HubPkt → List HubPkt
  | [] => []
  | p :: ps => if c p then ps else p :: dropFirst c ps
/-- An idle egress begins its next packet: the oldest waiting priority packet, else the oldest waiting one (R403). -/
def startEgress (l : List HubPkt) (e : Nat) : List HubPkt :=
  let here (p : HubPkt) : Bool := decide (p.egress = e) && decide (p.store ≠ 3)
  if l.any fun p => here p && p.sending then l
  else if l.any fun p => here p && p.prio then sendFirst (fun p => here p && p.prio) l
  else sendFirst here l
/-- A packet held at its link finds a buffer, where one is free: header credit returns (R400). -/
def State.bufferPkt (s : State) (i : Nat) : State :=
  match s.hub.pkts[i]? with
  | none => s
  | some p => if p.store = 3 then { s with hub := { s.hub with pkts := s.hub.pkts.set i { p with store := s.storeFor p } } } else s
/-- HUB_BUF after a change of the pool, and the 1 ms of R400 while it stays empty. -/
def State.showPool (s : State) : State :=
  let free := s.sharedFree
  let low := if s.hub.fresh then free else min (s.get F.HUB_BUF_MIN_FREE) free
  let used := s.hubCount fun p => decide (p.store = 1)
  let s := ((s.set F.HUB_BUF_FREE free).set F.HUB_BUF_MIN_FREE low).set F.HUB_BUF_PRIO_USED used
  let was := s.hub.wasEmpty
  let s := { s with hub := { s.hub with fresh := false, wasEmpty := decide (free = 0) } }
  if free = 0 then if was then s else s.arm .poolEmpty (msec 1) else s.disarm .poolEmpty
/-- The pool settles: held packets are admitted in the order of their arrival and idle egresses begin. -/
def State.settleHub (s : State) : State :=
  let s := forAll (List.range s.hub.pkts.length) (fun i t => t.bufferPkt i) s
  { s with hub := { s.hub with pkts := (List.range 9).foldl startEgress s.hub.pkts } }.showPool

/-- The translator after an event (R392): a split transaction finds a free buffer of its kind or is not taken, and completes or
aborts there. -/
def Tt.after (t : Tt) (e : HubEvent) : Tt :=
  match e with
  | .split true => { t with periodic := min 4 (t.periodic + 1) }
  | .split false => { t with bulk := min 2 (t.bulk + 1) }
  | .complete true => { t with periodic := t.periodic - 1 }
  | .complete false => { t with bulk := t.bulk - 1 }
  | .abort true => { t with periodic := t.periodic - 1 }
  | .abort false => { t with bulk := t.bulk - 1 }
  | .failed _ => t
/-- The counters of HUB_ERR that an event of hub port k moves (R418). -/
def State.hubEvent (s : State) (k : Fin 8) (e : HubEvent) : State :=
  let s := { s with hub := { s.hub with tt := s.hub.tt.set k (s.hub.tt[k].after e) } }
  match e with
  | .abort _ => s.bump (F.HUB_ERR_TT_ERR (k.val + 1)) 1
  | .failed up => s.bump (F.HUB_ERR_HS_ERR (if up then 0 else k.val + 1)) 1
  | _ => s
/-- A change of a port's connection is reported as a port status change (R396). -/
def State.noteConnect (s : State) (k : PortId) (before : Nat) : State :=
  if (before = 0) = (s.get (F.HUB_PSTAT_SPEED k) = 0) then s
  else { s with hub := { s.hub with changed := setBitTo s.hub.changed k.val true } }
/-- HUB_PORT_DATA_ENABLE (R395, R396, Tables USB-3 and USB-8): the conditions of port k in a frame. `link` and `speed` are
what its link has reached, `up` and the two flags what the main computer has done with the upstream port, and `events` what its
USB 2.0 side shows while its data is enabled. -/
def execHubPortDataEnable (k : Fin 8) (link : BitVec 4) (speed up : BitVec 3) (upConf mf0Conf : Bool) (events : List HubEvent)
    (s : State) : Out :=
  let p := hubPort k
  let b := s.hubBlock p
  let was := s.has (F.HUB_PSTAT_DATA_ON p)
  let s := s.set (F.HUB_PSTAT_BLOCK p) b
  let s :=
    if b ≠ 0 then if was then s.hubPortOff p else s
    else if was then
      let s := s.set (F.HUB_PSTAT_LINK p) (if s.ssPort p then link.toNat else 0)
      let before := s.get (F.HUB_PSTAT_SPEED p)
      let s := (s.set (F.HUB_PSTAT_SPEED p) (if s.ssPort p then speed.toNat else min 3 speed.toNat)).noteConnect p before
      forAll events (fun e t => t.hubEvent k e) s
    else
      let s := { s with hub := { s.hub with fallback := setBitTo s.hub.fallback p.val false } }
      let s := (s.put (F.HUB_PSTAT_DATA_ON p) true).set (F.HUB_PSTAT_SPEED p) 0
      s.set (F.HUB_PSTAT_LINK p) (if s.ssPort p then 1 else 0)
  let s :=
    if s.pins.ups then
      let s := (s.set F.HUB_STATUS_UP_SPEED (s.upSpeed up.toNat)).put F.HUB_STATUS_UP_CONF upConf
      (s.put F.HUB_STATUS_MF0_CONF mf0Conf).put (F.MGT_STATUS_CONFIGURED 0) mf0Conf
    else s
  .next s.settleHub

/-- Whether a packet belongs to the priority lane (R403). -/
def State.isPriority (s : State) (up : Bool) (k : PortId) (addr : BitVec 7) (ep : BitVec 4) : Bool :=
  (List.range 16).any fun n =>
    s.priNames k n && decide (s.get (F.HUB_PRI_ADDR n) = addr.toNat) && decide (s.get (F.HUB_PRI_EP n) = ep.toNat) &&
    decide (s.has (F.HUB_PRI_DIR n) = up)
/-- HUB_PACKET_RECEIVED (R399, R400, R403): a SuperSpeed packet between the upstream port and hub port k arrives; one with a block,
header or data CRC error is counted where it came in (R418), and its sender repeats it. -/
def execHubPacketReceived (up : Bool) (k : Fin 8) (addr : BitVec 7) (ep : BitVec 4) (bad : Bool) (s : State) : Out :=
  let p := hubPort k
  if s.has (F.HUB_PSTAT_DATA_ON p) && s.ssPort p && s.pins.ups then
    if bad then .next (s.bump (F.HUB_ERR_SS_ERR (if up then k.val + 1 else 0)) 1)
    else
    let q : HubPkt := { up := up, port := p.val, prio := s.isPriority up p addr ep, store := 3 }
    .next { s with hub := { s.hub with pkts := s.hub.pkts ++ [q] } }.settleHub
  else .next s
/-- HUB_PACKET_SENT (R400, R403): the packet in transmission at an egress, 0 upstream or hub port k, is done. -/
def execHubPacketSent (egress : Fin 9) (s : State) : Out :=
  .next { s with hub := { s.hub with
    pkts := dropFirst (fun p => p.sending && decide (p.egress = egress.val)) s.hub.pkts } }.settleHub
/-- HUB_BUF_READ (R415): MIN_FREE restarts. -/
def execHubBufRead (s : State) : Out := .next (s.set F.HUB_BUF_MIN_FREE (s.get F.HUB_BUF_FREE))

/-- BUFFER_ECC_ERROR (R401). -/
def execBufferEccError (uncorrectable : Bool) (s : State) : Out :=
  let s := s.flag G.HUB_ECC
  .next (if uncorrectable then ((s.bump F.HUB_BUF_RETIRED 1).classify 0xA823).showPool else (s.classify 0x6822).showPool)
/-- POOL_EMPTY_TIMEOUT (R400): once per occurrence. -/
def execPoolEmptyTimeout (s : State) : Out :=
  .next (s.onElapse .poolEmpty fun t => (t.flag G.HUB_POOL_EMPTY).warn 0x2821)
/-- SS_TRAINING_FAILED (Table USB-8): on hub port k, served at USB 2.0 until its data is next enabled, or on the upstream
port, kept as trained; `speed` is the SPEED or UP_SPEED reached. -/
def execSsTrainingFailed (p : Fin 9) (speed : BitVec 3) (s : State) : Out :=
  if p.val = 0 then
    if s.pins.ups then .next (((s.set F.HUB_STATUS_UP_SPEED (s.upSpeed speed.toNat)).flag G.HUB_SS_FALLBACK).warn 0x2820) else .next s
  else
    let k := hubPort ⟨p.val - 1, by omega⟩
    if s.has (F.HUB_PSTAT_DATA_ON k) && s.ssPort k then
      let s := { s with hub := { s.hub with fallback := setBitTo s.hub.fallback k.val true } }
      let s := (s.set (F.HUB_PSTAT_LINK k) 0).set (F.HUB_PSTAT_SPEED k) (min 3 speed.toNat)
      .next ((s.flag G.HUB_SS_FALLBACK).warn (0x2810 + p.val)).settleHub
    else .next s
/-- LINK_RECOVERY_EXCESS (R418, Table USB-8): `n` Recovery entries within 1 s are counted; more than 16 bring a warning, at most one
per 60 s and port, none of an absent port (R60). -/
def execLinkRecoveryExcess (p : Fin 9) (n : Nat) (s : State) : Out :=
  if s.sourceAbsent p.val then .next s
  else
  let s := s.bump (F.HUB_ERR_RECOV p.val) n
  let last := bankRead (fun _ => 0) s.hub.recWarned p.val
  if Nat.blt 16 n && (decide (last = 0) || Nat.ble (last + secs 60) (s.now + 1)) then
    let s := { s with hub := { s.hub with recWarned := bankWrite (fun _ => 0) s.hub.recWarned p.val (s.now + 1) } }
    .next ((s.flag G.HUB_LINK_ERR).warn (0x2830 + p.val))
  else .next s
/-- SS_PLL_UNLOCK (R20, R393): the SuperSpeed lanes stop and what they carried is lost; devices return at USB 2.0. -/
def execSsPllUnlock (s : State) : Out :=
  if s.ssOn then
    let s := (s.put F.CLK_STATUS_SS_LOCK false).put F.HUB_STATUS_SS_STOPPED true
    let s := { s with hub := { s.hub with pkts := [] } }
    let s := forAll modulePorts (fun k t =>
      (t.set (F.HUB_PSTAT_LINK k) 0).when (Nat.ble 4 (t.get (F.HUB_PSTAT_SPEED k))) fun u => u.set (F.HUB_PSTAT_SPEED k) 0) s
    let s := s.set F.HUB_STATUS_UP_SPEED (min 1 (s.get F.HUB_STATUS_UP_SPEED))
    .next (s.classify 0xA204).showPool
  else .next s
/-- HS9_PLL_UNLOCK (R20): port 9 data stops, its power does not. -/
def execHs9PllUnlock (s : State) : Out :=
  if s.has F.CLK_STATUS_HS9_LOCK then .next ((s.put F.CLK_STATUS_HS9_LOCK false).classify 0xA205) else .next s
/-- HUB_COUNTER_CLEAR (R417): a write of HUB_CTRL. -/
def execHubCounterClear (w : Word) (s : State) : Out :=
  .next (forAll (List.range 9) (fun k t => if w.getLsbD k then t.setWord (R.HUB_ERR k) 0 else t) s)

end Sys2Proof.Machine
end

