-- ==== Sys2Proof/Machine/Descriptors.lean ====
section
/-!
DEFINITION. What the hub and the two management functions answer to the standard requests of their class (USB, R6, R394, R405).
The values of Tables USB-2, USB-6 and USB-7 and of R405 are the spec's. The layouts, and the fields that R394 leaves to the
published standards, are PRESUMED (log entry 118); a byte that neither fixes is Config.descByte. No row of the opcode table asks
the hub a standard request, so State.hubAnswer is what it would answer; a function's requests come by MGT_VENDOR_REQUEST.
-/
namespace Sys2Proof.Machine

/-- A device descriptor. `id` picks its free bytes: the string indices, bytes 14 and 15. -/
def deviceDescriptor (bcdUsb cls sub proto pkt pid bcdDev serial id : Nat) : List Byte :=
  [18, 1].map (BitVec.ofNat 8) ++ leBytes 2 bcdUsb ++ [cls, sub, proto, pkt].map (BitVec.ofNat 8) ++ leBytes 2 0x2E7A ++
  leBytes 2 pid ++ leBytes 2 bcdDev ++ [Config.descByte id 14, Config.descByte id 15] ++ [serial, 1].map (BitVec.ofNat 8)
/-- A configuration descriptor over its interfaces: one configuration, self-powered, no remote wakeup, and the bMaxPower given. -/
def configDescriptor (nIf : Nat) (maxPower : Byte) (id : Nat) (body : List Byte) : List Byte :=
  [9#8, 2#8] ++ leBytes 2 (9 + body.length) ++ [BitVec.ofNat 8 nIf, 1#8, Config.descByte id 0x26, 0xC0#8, maxPower] ++ body
/-- An interface descriptor: number 0. -/
def interfaceDescriptor (alt nEp cls sub proto id : Nat) : List Byte :=
  [9, 4, 0, alt, nEp, cls, sub, proto].map (BitVec.ofNat 8) ++ [Config.descByte id 0x48]
/-- An endpoint descriptor. -/
def endpointDescriptor (addr attr pkt interval : Nat) : List Byte :=
  [7, 5, addr, attr].map (BitVec.ofNat 8) ++ leBytes 2 pkt ++ [BitVec.ofNat 8 interval]
/-- A string descriptor of characters. -/
def stringDescriptor (cs : List Nat) : List Byte :=
  [BitVec.ofNat 8 (2 + 2 * cs.length), 3#8] ++ cs.flatMap (leBytes 2)
/-- The upper-case hexadecimal digit of a number below 16. -/
def hexDigit (d : Nat) : Nat := if d < 10 then 0x30 + d else 0x37 + d
/-- The serial number of R405: the UID as 32 upper-case hexadecimal characters, most significant first. -/
def State.serialChars (s : State) : List Nat :=
  s.uid.reverse.flatMap fun b => [hexDigit (b.toNat / 16), hexDigit (b.toNat % 16)]

/-- DeviceRemovable (Table USB-2): bit 9 and, by FIXED, bits 1–8. -/
def State.deviceRemovable (s : State) : Nat := 2 ^ 9 + 2 * s.get F.HUB_PORTS_FIXED
/-- wHubCharacteristics (Table USB-2): no power switching, compound device, no over-current protection; a TT think time of 8 FS
bit times and no port indicators both stand as 0. -/
def hubCharacteristics : Nat := 0x16
/-- The hub descriptor of the hub class: 0x29 of the USB 2.0 hub, 0x2A of the Enhanced SuperSpeed hub (Table USB-2). -/
def State.hubDescriptor (s : State) (ss : Bool) : List Byte :=
  if ss then
    [12#8, 0x2A#8, 9#8] ++ leBytes 2 hubCharacteristics ++ [0#8, Config.descByte 2 0x65, Config.descByte 2 0x66,
      Config.descByte 2 0x67, Config.descByte 2 0x68] ++ leBytes 2 s.deviceRemovable
  else
    [11#8, 0x29#8, 9#8] ++ leBytes 2 hubCharacteristics ++ [0#8, Config.descByte 1 0x66] ++ leBytes 2 s.deviceRemovable ++
      [0xFF#8, 0xFF#8]
/-- Whether LPM, U1 and U2 are supported (Table USB-2, R411). -/
def State.lpm (s : State) : Bool := !s.has F.HUB_CFG_LPM_DIS
/-- The BOS descriptor of a hub: the USB 2.0 extension with LPM, the SuperSpeed capability with the exit latencies of U1 and U2 as 0
where they are refused, and the Container ID, which is the UID (Table USB-2). -/
def State.hubBos (s : State) : List Byte :=
  let ext := [7#8, 0x10#8, 2#8, if s.lpm then 2#8 else 0#8, 0#8, 0#8, 0#8]
  let lat (i : Nat) : Byte := if s.lpm then Config.descByte 3 i else 0#8
  let cap := [10#8, 0x10#8, 3#8, 0#8, 0x0E#8, 0#8, Config.descByte 3 6, lat 7, lat 8, lat 9]
  let body := ext ++ cap ++ [20#8, 0x10#8, 4#8, 0#8] ++ s.uid
  [5#8, 15#8] ++ leBytes 2 (5 + body.length) ++ [3#8] ++ body
/-- The device descriptor of a hub (Table USB-2): the USB 2.0 hub is a multi-TT hub (R392). -/
def State.hubDevice (s : State) (ss : Bool) : List Byte :=
  if ss then deviceDescriptor 0x0320 9 0 3 9 0x9162 (s.get F.BOOT_VERS_FW_IFACE) (Config.descByte 2 16).toNat 2
  else deviceDescriptor 0x0210 9 0 2 64 0x9161 (s.get F.BOOT_VERS_FW_IFACE) (Config.descByte 1 16).toNat 1
/-- What the hub answers to GetDescriptor (R394): type 1 its device, 15 its BOS, and the hub class's own. None is a STALL. -/
def State.hubAnswer (s : State) (ss : Bool) (type' len : Nat) : Option (List Byte) :=
  if type' = 1 then some ((s.hubDevice ss).take len)
  else if type' = 15 then some (s.hubBos.take len)
  else if type' = (if ss then 0x2A else 0x29) then some ((s.hubDescriptor ss).take len)
  else none
/-- SetPortFeature and ClearPortFeature(PORT_POWER) never change VBUS (R394): no field of the state moves. -/
def State.portPower (s : State) (_k : Fin 9) (_on : Bool) : State := s

/-- The endpoints of a management function (Tables USB-6 and USB-7); the recovery function has EP1 only. -/
def State.fnEndpoints (s : State) : List Byte :=
  endpointDescriptor 0x01 2 512 0 ++ endpointDescriptor 0x81 2 512 0 ++
    if s.isIn .romRecovery then [] else endpointDescriptor 0x82 3 16 4 ++ endpointDescriptor 0x83 2 512 0
/-- The device descriptor of management function f (R405, Table USB-6); its serial number is string 3. -/
def State.fnDevice (s : State) (f : Fin 2) : List Byte :=
  if s.isIn .romRecovery then deviceDescriptor 0x0210 0 0 0 64 0x9165 0 3 4
  else deviceDescriptor 0x0210 0 0 0 64 (0x9163 + f.val) (s.get F.BOOT_VERS_FW_IFACE) 3 4
/-- The configuration of a management function: bMaxPower 0 and one vendor-specific interface, 0xFF, 0x4B, 0x01, or 0x02 in ROM
recovery (R405). -/
def State.fnConfig (s : State) : List Byte :=
  let rec' := s.isIn .romRecovery
  configDescriptor 1 0#8 4 (interfaceDescriptor 0 (if rec' then 2 else 4) 0xFF 0x4B (if rec' then 2 else 1) 4 ++ s.fnEndpoints)
/-- What management function f answers to a standard request to the device, and the state after it: GET_DESCRIPTOR of its device,
configuration and serial string, GET_STATUS (self-powered, no remote wakeup), GET_CONFIGURATION and SET_CONFIGURATION. An
answer of none is a STALL; the layouts are the standard's (log entry 118). -/
def State.fnStandard (s : State) (f : Fin 2) (reqType request : BitVec 8) (value index length : BitVec 16) :
    Option (List Byte) × State :=
  let n := length.toNat
  let conf := s.has (F.MGT_STATUS_CONFIGURED f.val)
  if reqType = 0x80#8 ∧ request = 6#8 then
    let kind := value.toNat / 256
    let ans :=
      if kind = 1 then some (s.fnDevice f)
      else if kind = 2 ∧ value.toNat % 256 = 0 then some s.fnConfig
      else if value = 0x0303#16 then some (stringDescriptor s.serialChars)
      else if kind = 15 then some ([5#8, 15#8, 12#8, 0#8, 1#8, 7#8, 0x10#8, 2#8] ++ (List.range 4).map (Config.descByte 4))
      else none
    (ans.map (·.take n), s)
  else if reqType = 0x80#8 ∧ request = 0#8 ∧ value = 0#16 ∧ index = 0#16 then (some ([1#8, 0#8].take n), s)
  else if reqType = 0x80#8 ∧ request = 8#8 ∧ value = 0#16 ∧ index = 0#16 then (some ([BitVec.ofNat 8 (b2n conf)].take n), s)
  else if reqType = 0x00#8 ∧ request = 9#8 ∧ index = 0#16 ∧ (value = 0#16 ∨ value = 1#16) then
    let on := decide (value = 1#16)
    (some [], (s.put (F.MGT_STATUS_CONFIGURED f.val) on).when (f = 0) (·.put F.HUB_STATUS_MF0_CONF on))
  else (none, s)

end Sys2Proof.Machine
end

