-- ==== Sys2Proof/Machine/Mailbox.lean ====
section
/-!
DEFINITION. The mailbox (HIF, R548–R553) and the command checks (SEC, R513–R517): taking a frame, judging it, answering it,
and the management functions that carry frames over USB (USB, R405–R409).
-/
namespace Sys2Proof.Machine

/-- A row of Table SEC-6: code, whether it is critical (0 no, 1 yes, 2 under R504), the bit of its right, and the states it
is accepted in, the first listed first. -/
structure CmdRow where
  code     : Nat
  critical : Nat
  right    : Nat
  states   : List DevState
  deriving DecidableEq, Repr

/-- The states of most commands. -/
def runStates : List DevState := [.spring, .summer, .autumn, .winter, .offSeason]
/-- The states in which images are written. -/
def updStates : List DevState := [.summer, .winter, .offSeason]
/-- Table SEC-6. -/
def cmdTable : List CmdRow :=
  [⟨0x0010, 0, 0, runStates⟩, ⟨0x0011, 0, 0, runStates⟩, ⟨0x0012, 1, 3, runStates⟩, ⟨0x0020, 0, 0, runStates⟩,
   ⟨0x0021, 0, 0, runStates⟩, ⟨0x0100, 1, 0, [.spring, .summer]⟩, ⟨0x0101, 1, 0, [.autumn]⟩, ⟨0x0102, 1, 0, [.winter]⟩,
   ⟨0x0103, 1, 0, [.spring, .summer]⟩, ⟨0x0110, 1, 1, [.spring, .summer, .autumn]⟩, ⟨0x0120, 1, 2, [.summer]⟩] ++
  [⟨0x0300, 1, 4, updStates⟩, ⟨0x0301, 1, 4, updStates⟩, ⟨0x0302, 1, 4, updStates⟩, ⟨0x0303, 1, 4, updStates⟩,
   ⟨0x0304, 1, 4, [.summer]⟩, ⟨0x0305, 1, 4, [.summer]⟩, ⟨0x0306, 1, 4, updStates⟩, ⟨0x0380, 0, 0, [.romRecovery]⟩,
   ⟨0x0381, 0, 0, [.romRecovery]⟩, ⟨0x0382, 0, 0, [.romRecovery]⟩, ⟨0x0383, 0, 0, [.romRecovery]⟩] ++
  [⟨0x0400, 2, 5, [.summer, .winter, .factoryTest]⟩, ⟨0x0401, 2, 5, [.summer, .winter, .factoryTest]⟩,
   ⟨0x0402, 1, 5, [.summer, .winter]⟩, ⟨0x0403, 2, 5, [.summer, .winter, .factoryTest]⟩, ⟨0x0600, 0, 0, [.factoryTest]⟩]

/-- Status codes of Table HIF-5. -/
inductive Status where
  | ok | busy | badFrame | unknown | badLength | authFail | replay | notPermitted | badArg | notInState | locked | noResource
  deriving DecidableEq, Repr
/-- The number of a status. -/
def Status.code : Status → Nat
  | .ok => 0x00
  | .busy => 0x01
  | .badFrame => 0x02
  | .unknown => 0x03
  | .badLength => 0x04
  | .authFail => 0x05
  | .replay => 0x06
  | .notPermitted => 0x07
  | .badArg => 0x08
  | .notInState => 0x09
  | .locked => 0x0A
  | .noResource => 0x0B

/-- LEN of a frame. -/
def Frame.len (f : Frame) : Nat := wordAt f.words 0 / 2 ^ 24
/-- FLAGS of a frame. -/
def Frame.flags (f : Frame) : Nat := wordAt f.words 0 / 2 ^ 16 % 256
/-- CMD of a frame; 0 where word 0 was not received. -/
def Frame.cmd (f : Frame) : Nat := wordAt f.words 0 % 2 ^ 16
/-- HSEQ of a frame; 0 where word 1 was not received. -/
def Frame.hseq (f : Frame) : Nat := wordAt f.words 1
/-- SESSION of a frame. -/
def Frame.session (f : Frame) : Nat := wordAt f.words 2
/-- Whether a frame carries a session. -/
def Frame.hasSession (f : Frame) : Bool := decide (f.session ≠ 0xFFFFFFFF)
/-- COUNTER of a frame. -/
def Frame.counter (f : Frame) : Nat := wordAt f.words 3
/-- PAYLOAD of a frame. -/
def Frame.payload (f : Frame) : List Word := (f.words.drop 4).take (f.words.length - 6)
/-- A payload word as a number. -/
def Frame.arg (f : Frame) (i : Nat) : Nat := wordAt f.payload i
/-- The two MAC words of a frame. -/
def Frame.mac (f : Frame) : List Word := f.words.drop (f.words.length - 2)

/-- The session key of a session (R511). -/
def State.sessionKey (s : State) (n : Nat) : List Byte := kdf (s.rootKey (n / 16)) "KQ SESSION" (s.uid ++ leBytes 1 n)
/-- The MAC over words under a session key (R515): 64 bits, as two words. -/
def State.macWords (s : State) (key : List Byte) (ws : List Word) : List Word := bytesToWords ((cmac key (s.uid ++ wordBytes ws)).take 8)
/-- Whether step 3 of Table SEC-5 lets a session through. -/
def State.sessionUsable (s : State) (n : Nat) : Bool :=
  Nat.blt n 128 && s.has F.PROT_STATUS_SEALED && s.regionOk 1 && s.regionOk 4 && !s.sec.rootsOff.testBit (n / 16) &&
  s.rootProgrammed (n / 16) && s.has (F.SEC_RIGHTS_EN (n / 16))
/-- Whether a command's row makes it critical now (R504, Table SEC-6). -/
def State.critical (s : State) (r : CmdRow) : Bool := r.critical == 1 || (r.critical == 2 && s.policy 0)
/-- Whether a transport and right are granted by the root of a session (R528). -/
def State.granted (s : State) (n right via : Nat) : Bool :=
  let v := 4 * s.get (F.SEC_RIGHTS_VIA9 (n / 16)) + 2 * s.get (F.SEC_RIGHTS_VIA0 (n / 16)) + s.get (F.SEC_RIGHTS_VIAI2C (n / 16))
  (s.get (F.SEC_RIGHTS_RIGHTS (n / 16))).testBit right && (v == 0 || v.testBit via)

/-- The outcome of the checks: the status with the state that goes with it, none where the command is to be carried out. -/
structure Verdict where
  status : Option Status
  req    : Nat
  mac    : Bool
  deriving DecidableEq, Repr

/-- A command is held for a raise of its session's ceiling to a MARK (R514): a raise not yet written that reaches less far takes the
greater MARK, and 0x2609 is raised once per raise. -/
def State.holdFor (s : State) (n mark : Nat) : State :=
  let s := if Nat.blt (sessionVal s.boot.marksDue n) mark then s.dueMark n mark else s
  if s.sec.held.contains n || s.sec.exhausted.contains n then s
  else { s with sec := { s.sec with held := n :: s.sec.held } }.warn 0x2609
/-- Step 5 of Table SEC-5 and R514 on a session command whose MAC verified: the status, none where its counter is accepted,
and the state. Before the record of T1 or T2 is written a held command raises nothing of its own (R513). -/
def State.judgeCounter (s : State) (n c : Nat) : Option Status × State :=
  let ceil := sessionVal s.sec.ceil n
  if s.sec.exhausted.contains n then (some .locked, s.flag G.SEC_EXHAUSTED)
  else if Nat.blt c (sessionVal s.sec.last n) then (some .replay, s.flag G.SEC_REPLAY)
  else if Nat.blt c ceil then (none, s)
  else if s.boot.firstLife then (some .busy, s)
  else
    let t := s.holdFor n (c - c % 4096 + 8192)
    if t.sec.exhausted.contains n then (some .locked, t.flag G.SEC_EXHAUSTED) else (some .busy, t)
/-- Step 6 of Table SEC-5 and the background raise of R514. -/
def State.acceptCounter (s : State) (n c : Nat) : State :=
  let ceil := sessionVal s.sec.ceil n
  let s := { s with sec := { s.sec with last := setSession s.sec.last n (c + 1) } }
  if Nat.ble ceil (c + 2048) && !Nat.blt ceil (sessionVal s.boot.marksDue n) then s.dueMark n (ceil + 4096) else s
/-- Whether an update block comes too late: in Off-season, once VIN is back and T14 waits for the block in progress alone
(R35, Table SEA-2). -/
def State.blockShut (s : State) (code : Nat) : Bool := code == 0x0301 && s.hif.restartDue && s.isIn .offSeason
/-- Steps 7 and 8 of Table SEC-5. -/
def State.judgeRight (s : State) (f : Frame) (r : CmdRow) : Verdict :=
  let mac := f.hasSession
  let here := s.get F.SYS_STATE_STATE
  if mac && s.critical r && !s.granted f.session r.right f.via then ⟨some .notPermitted, here, mac⟩
  else if ! s.isAny r.states || s.blockShut r.code then ⟨some .notInState, (r.states.headD .spring).code, mac⟩
  else ⟨none, here, mac⟩
/-- Whether step 1 finds the length wrong (R549). -/
def Frame.badLength (f : Frame) : Bool := f.odd || Nat.blt f.len 6 || Nat.blt 54 f.len || f.len != f.words.length
/-- Whether step 1 finds the frame malformed (R549). -/
def Frame.badForm (f : Frame) : Bool :=
  Nat.ble 2 f.flags || (f.hasSession && Nat.blt 127 f.session) ||
  (!f.hasSession && (f.counter != 0 || f.mac.any fun w => w != 0#32))
/-- The checks of Table SEC-5 on a frame, steps 1 to 8, with what they leave behind; BUSY while the mailbox is not open yet
(R549, Table HIF-6), which is so in Spring and on the way into Off-season only: Winter takes every command (Table SEA-5). -/
def State.judge (s : State) (f : Frame) : Verdict × State :=
  let here := s.get F.SYS_STATE_STATE
  let fail (st : Status) : Verdict := ⟨some st, here, false⟩
  if ! s.hif.mailboxOpen && s.isAny [.spring, .offSeason] then (fail .busy, s)
  else if f.badLength then (fail .badLength, s)
  else if f.badForm then (fail .badFrame, s)
  else
    match cmdTable.find? fun r => r.code == f.cmd with
    | none => (fail .unknown, s)
    | some r =>
      if ! f.hasSession then
        if s.critical r then (fail .notPermitted, s) else (s.judgeRight f r, s)
      else if ! s.sessionUsable f.session then (fail .notPermitted, s)
      else if s.macWords (s.sessionKey f.session) (f.words.take (f.words.length - 2)) ≠ f.mac then
        (fail .authFail, (s.flag G.SEC_AUTH_FAIL).warn 0x2607)
      else
        let c := s.judgeCounter f.session f.counter
        match c.1 with
        | some st => (⟨some st, here, true⟩, c.2)
        | none => ((c.2.acceptCounter f.session f.counter).judgeRight f r, c.2.acceptCounter f.session f.counter)

/-- The command under execution is answered: its status and payload wait for step 3 of Table HIF-6. -/
def State.answerFrame (s : State) (f : Frame) (st : Status) (req : Nat) (payload : List Word) (mac : Bool) : State :=
  let a : Answer := { frame := f, status := st.code, reqState := req, payload := payload,
                      macKey := if mac then s.sessionKey f.session else [] }
  { s with hif := { s.hif with current := none, answer := some a } }
/-- Whether a frame waits unjudged: during the supervisor pause, and with a session while the security engine is in reset
for its reload (R598, Table UPD-5). -/
def State.frameWaits (s : State) (f : Frame) : Bool := s.upd.paused || (f.hasSession && s.upd.held == some 11)
/-- What comes of a verdict: the frame is the one under execution, or it is answered. -/
def State.afterVerdict (s : State) (f : Frame) (v : Verdict) : State :=
  match v.status with
  | none => { s with hif := { s.hif with current := some f } }
  | some st => s.answerFrame f st v.req [] v.mac
/-- A frame leaves the line and is judged. -/
def State.takeFrame (s : State) (f : Frame) (rest : List Frame) : State :=
  let s := { s with hif := { s.hif with exec := rest } }
  (s.judge f).2.afterVerdict f (s.judge f).1
/-- The next waiting frame is judged, one command at a time (R407, R516). -/
def State.pump (s : State) : State :=
  match s.hif.exec, s.hif.current, s.hif.answer with
  | f :: rest, none, none =>
    if s.frameWaits f then s else s.takeFrame f rest
  | _, _, _ => s
/-- A frame has arrived whole and waits for its turn. -/
def State.submit (s : State) (f : Frame) : State := { s with hif := { s.hif with exec := s.hif.exec ++ [f] } }.pump
/-- A command is carried out where it is the one under execution. -/
def State.onCommand (s : State) (code : Nat) (act : Frame → State → State) : State :=
  match s.hif.current with
  | none => s
  | some f => if f.cmd = code then act f s else s
/-- The answer to a command that passed its checks. -/
def State.reply (s : State) (f : Frame) (st : Status) (payload : List Word) : State :=
  s.answerFrame f st (s.get F.SYS_STATE_STATE) payload f.hasSession
/-- The answer without a payload. -/
def State.done (s : State) (f : Frame) (st : Status) : State := s.reply f st []

/-- The words of a response frame (Table HIF-4). -/
def State.responseWords (s : State) (a : Answer) (dseq : Nat) : List Word :=
  let f := a.frame
  let req := if a.status = Status.notInState.code then a.reqState else s.get F.SYS_STATE_STATE
  let w0 := req * 2 ^ 28 + s.get F.SYS_STATE_STATE * 2 ^ 24 + a.status * 2 ^ 16 + f.cmd
  let macd := decide (a.macKey ≠ [])
  let body := [BitVec.ofNat 32 w0, BitVec.ofNat 32 f.hseq, BitVec.ofNat 32 dseq,
               BitVec.ofNat 32 (b2n macd * 256 + a.payload.length)] ++ a.payload
  if macd then body ++ s.macWords a.macKey body else body
/-- The response is written out on its own transport (Table HIF-6 step 3, R406, R552, R553). -/
def State.sendResponse (s : State) (a : Answer) (own : Bool) : State :=
  let d := s.takeDseq.1
  let s := s.takeDseq.2
  let ws := s.responseWords a d
  let f := a.frame
  let s := if f.words.length < 2 then s
    else ((s.set F.SYS_SEQ_LAST_HSEQ_LAST_HSEQ f.hseq).set F.SYS_SEQ_LAST_LAST_VIA f.via).set F.SYS_SEQ_LAST_LAST_STATUS a.status
  if f.via = 0 then
    let s := ws.zipIdx.foldl (fun t e => t.setWord (R.MBR_FRAME e.2) e.1) s
    let s := (s.set F.MBX_STATUS_LAST_STATUS a.status).set F.MBX_STATUS_STATE 2
    if f.flags % 2 = 1 then s else s.post 0x27 0x0002
  else
    let g : Fin 2 := if f.via = 1 then 0 else 1
    let m := s.mgt[g]
    { s with mgt := s.mgt.set g { m with out := m.out ++ [(own, ws)] } }

/-- Whether page 0x02 is served (Table SEA-5). -/
def State.mailboxServed (s : State) : Bool := !s.isAny [.romBoot, .deepWinter]
/-- MBX_GO (Table HIF-6 step 1): a committed MBX_CTRL with GO; in EXEC the write is NACKed (Table HIF-1). -/
def execMbxGo (words : BitVec 8) (s : State) : Out :=
  if ! s.mailboxServed then .next s
  else if s.get F.MBX_STATUS_STATE = 1 then .next (s.flag G.HIF_NACKED)
  else
    let ws := (List.range (min 54 words.toNat)).map fun i => s.word (R.MBX_FRAME i)
    .next ((s.set F.MBX_STATUS_STATE 1).submit { via := 0, words := ws, odd := Nat.blt 54 words.toNat })
/-- MBX_RESPONSE (R550, Table HIF-6 step 3): the response formed is written out and the next frame's turn comes. -/
def execMbxResponse (s : State) : Out :=
  match s.hif.answer with
  | none => .next s
  | some a =>
    .next ({ s with hif := { s.hif with answer := none } }.sendResponse a true).tryT14.pump
/-- MBX_TAKE (Table HIF-6 step 4). -/
def execMbxTake (s : State) : Out :=
  if s.mailboxServed && decide (s.get F.MBX_STATUS_STATE = 2) then .next (s.set F.MBX_STATUS_STATE 0) else .next s

/-- Whether a management function is present (Tables SEA-5 and USB-6); that of port 9 is not where the port carries no data
(R211). -/
def State.fnPresent (s : State) (f : Fin 2) : Bool :=
  if f = 0 then s.pins.ups && (s.isAny [.spring, .summer, .winter] || (s.isIn .autumn && !s.has F.SYS_STATE_COMMITTED))
  else ((s.isIn .spring && Nat.ble 2 s.boot.step) || s.isAny [.summer, .autumn, .winter, .offSeason, .romRecovery]) &&
    !(s.port port9).att.noData
/-- Whether a function answers: present, its engine running (R410) and, on port 9, its PHY locked (R20). -/
def State.fnServes (s : State) (f : Fin 2) : Bool :=
  s.fnPresent f && s.engine (12 + f.val) && (f = 0 || s.has F.CLK_STATUS_HS9_LOCK)
/-- The state with a management function changed. -/
def State.modFn (s : State) (f : Fin 2) (act : MgtFn → MgtFn) : State := { s with mgt := s.mgt.set f (act s.mgt[f]) }
/-- The whole words of a transfer. -/
def wholeWords (bs : List Byte) : List Word := (bytesToWords bs).take (bs.length / 4)
/-- MGT_COMMAND_TRANSFER (R406, R407): a transfer on EP1 OUT of a function. -/
def execMgtCommandTransfer (f : Fin 2) (bytes : List Byte) (s : State) : Out :=
  if ! s.fnServes f || s.has (F.MGT_STATUS_HALTED f.val) then .next s
  else
    let s := s.put (F.MGT_STATUS_CONFIGURED f.val) true
    let s := s.when (f = 0) fun t => (t.put F.HUB_STATUS_MF0_CONF true).put F.HUB_STATUS_UP_CONF true
    if 512 < bytes.length then .next ((s.put (F.MGT_STATUS_HALTED f.val) true).warn (0x2840 + f.val))
    else
      let fr : Frame := { via := f.val + 1, words := wholeWords bytes, odd := bytes.length % 4 ≠ 0 }
      if (s.mgt[f]).busy then
        .next (s.sendResponse { frame := fr, status := Status.busy.code, reqState := s.get F.SYS_STATE_STATE, payload := [], macKey := [] } false)
      else .next ((s.modFn f fun m => { m with busy := true }).submit fr)
/-- MGT_RESPONSE_TAKEN (R407): the host takes the oldest response on EP1 IN. -/
def execMgtResponseTaken (f : Fin 2) (s : State) : Out :=
  match (s.mgt[f]).out with
  | [] => .next s
  | r :: rest =>
    if s.fnServes f then .next (s.modFn f fun m => { m with out := rest, busy := m.busy && !r.1 }).tryT14 else .next s
/-- The record of the event ring with a given index, where it still stands there. -/
def State.ringAt (s : State) (i : Nat) : Option Event :=
  let back := (s.get F.EVT_WR_WR + 2 ^ 32 - i) % 2 ^ 32
  if back = 0 then none else if s.hif.ring.length < back then none else s.hif.ring[s.hif.ring.length - back]?
/-- MGT_EVENT_DELIVERY (R408): the next record of the ring on EP2 IN; NAK where there is none. -/
def execMgtEventDelivery (f : Fin 2) (s : State) : Out :=
  if s.fnServes f && s.ringServed then
    match s.ringAt (s.mgt[f]).idx with
    | none => .next s
    | some e => .next (s.modFn f fun m => { m with ep2 := [e], idx := (m.idx + 1) % 2 ^ 32 })
  else .next s
/-- MGT_VENDOR_REQUEST (R405, R409): a control request to a function. Of the vendor requests 0xC1, 0x01, 0, 0, 4 is answered with
SYS_STATE and any other is stalled; a standard request is answered from the function's descriptors. -/
def execMgtVendorRequest (f : Fin 2) (reqType request : BitVec 8) (value index length : BitVec 16) (s : State) : Out :=
  if s.fnServes f then
    if reqType.toNat / 32 % 4 = 0 then
      let r := s.fnStandard f reqType request value index length
      .next (r.2.modFn f fun m => { m with std := r.1 })
    else
    let own := reqType = 0xC1#8 && request = 0x01#8 && value = 0#16 && index = 0#16 && length = 4#16
    .next (s.modFn f fun m => { m with ep0 := if own then some [s.word R.SYS_STATE] else none })
  else .next s
/-- MGT_CLEAR_HALT (R406). -/
def execMgtClearHalt (f : Fin 2) (s : State) : Out :=
  if s.fnServes f then .next (s.put (F.MGT_STATUS_HALTED f.val) false) else .next s

end Sys2Proof.Machine
end

