-- ==== Sys2Proof/Machine/Telemetry.lean ====
section
/-!
DEFINITION. The codec engine (chapter TLM): streams, their blocks and packets, the capture spill and its delivery, and the
history archive.
-/
namespace Sys2Proof.Machine

/-- Whether stream n runs. -/
def State.streamRuns (s : State) (n : Nat) : Bool := s.has (F.TLM_STR_EN n) && s.codecServed
/-- A signed sum shifted right by D − 2, or left by 2 − D (R423). -/
def decimated (d : Nat) (sum : Int) : Int := if 2 ≤ d then sum / (2 ^ (d - 2) : Nat) else sum * (2 ^ (2 - d) : Nat)
/-- One input sample of a frame (R422, R423): windows begin in frames whose count is a multiple of 2^D; `held` says that the
frame had no result of its own. -/
def Stream.take (st : Stream) (d frame : Nat) (v : Int) (held : Bool) : Stream :=
  let size := 2 ^ d
  let begins := decide (frame % size = 0)
  let st := { st with frame := some frame }
  if begins || st.going then
    let sum := if begins then v else st.sum + v
    let first := if begins && st.xs.isEmpty then frame else st.first
    let hold := if begins then held else st.hold || held
    let st := { st with going := true, sum := sum, first := first, hold := hold }
    if frame % size = size - 1 then
      { st with going := false, xs := st.xs ++ [decimated d sum], hold := false, held := st.held ++ [hold] }
    else st
  else st
/-- The frames before the present one that a stream has not taken: each held no result (R422). -/
def Stream.fill (st : Stream) (d frame : Nat) (v : Int) : Stream :=
  match st.frame with
  | none => st
  | some g => (List.range (frame - (g + 1))).foldl (fun t i => t.take d (g + 1 + i) v true) st
/-- The state with stream n changed. -/
def State.modStream (s : State) (n : Fin 8) (act : Stream → Stream) : State := { s with streams := s.streams.set n (act s.streams[n]) }
/-- STREAM_SAMPLE (R422, R423): stream n takes its input of the present frame. -/
def execStreamSample (n : Fin 8) (s : State) : Out :=
  if s.streamRuns n.val then
    let ch := s.get (F.TLM_STR_CHAN n.val)
    let d := s.get (F.TLM_STR_D n.val)
    let frame := s.tb / 1024
    let st := s.streams[n]
    if st.frame = some frame then .next s
    else
      let e := bankRead (fun _ => (0, 0, 0)) s.msr.res ch
      let fresh := e.1 != 0 && (e.2.2 - s.tbZero.getD 0) / 1024 == frame
      let code := if fresh then e.1 - 1 else st.last
      let st := (st.fill d frame (codeValue ch st.last)).take d frame (codeValue ch code) (!fresh)
      .next { s with streams := s.streams.set n { st with last := code } }
  else .next s

/-- Index of the first occurrence of a value. -/
def firstIndex (v : Int) (xs : List Int) : Nat := (xs.findIdx? fun x => decide (x = v)).getD 0
/-- The codes of a block after its first sample (R424): the mapped values, the last two reconstructed samples first in the
state. -/
def blockCodes (k : Nat) (xs : List Int) : List Nat :=
  let mn := xs.foldl min (xs.headD 0)
  let mx := xs.foldl max (xs.headD 0)
  let imin := firstIndex mn xs
  let imax := firstIndex mx xs
  let step (st : List Nat × Int × Int) (e : Int × Nat) : List Nat × Int × Int :=
    let n := e.2
    let r1 := st.2.1
    if n = 0 then ([], e.1, e.1)
    else if n = imin then (st.1, mn, r1)
    else if n = imax then (st.1, mx, r1)
    else
      let p := if n = 1 then r1 else 2 * r1 - st.2.2
      let h : Int := if k = 0 then 0 else (2 ^ (k - 1) : Nat)
      let q := (e.1 - p + h) / (2 ^ k : Nat)
      let r := max mn (min mx (p + q * (2 ^ k : Nat)))
      (st.1 ++ [if 0 ≤ q then (2 * q).toNat else (-2 * q - 1).toNat], r, r1)
  (xs.zipIdx.foldl step ([], 0, 0)).1
/-- The largest m from 0 to 15 with 16 × 2^m not above s, else 0 (R425). -/
def riceM (s : Nat) : Nat := (List.range 15).foldl (fun m i => if 16 * 2 ^ (i + 1) ≤ s then i + 1 else m) 0
/-- The low n bits of a number, most significant first. -/
def bitsOf (n v : Nat) : List Bool := (List.range n).map fun i => v.testBit (n - 1 - i)
/-- One value in the Rice code with parameter m (R425). -/
def riceBits (m u : Nat) : List Bool :=
  if u / 2 ^ m < 24 then List.replicate (u / 2 ^ m) true ++ [false] ++ bitsOf m u else List.replicate 24 true ++ bitsOf 18 u
/-- A list of values in the adaptive Rice code that starts at 16 × 2^M0. -/
def riceCode (m0 : Nat) (us : List Nat) : List Bool :=
  (us.foldl (fun (st : List Bool × Nat) u => (st.1 ++ riceBits (riceM st.2) u, st.2 + u - st.2 / 16)) ([], 16 * 2 ^ m0)).1
/-- The M0 of fewest bits, the lowest on a tie. -/
def bestM0 (us : List Nat) : Nat :=
  (List.range 16).foldl (fun b m => if (riceCode m us).length < (riceCode b us).length then m else b) 0
/-- Bits packed into words from bit 31 downward, the last padded with zeros, by fuel. -/
def packBits : Nat → List Bool → List Word
  | _, [] => []
  | 0, _ => []
  | n + 1, bs =>
    BitVec.ofNat 32 ((bs.take 32).zipIdx.foldl (fun v e => v + b2n e.1 * 2 ^ (31 - e.2)) 0) :: packBits n (bs.drop 32)
/-- A raw block (Table TLM-1). -/
def rawBlock (hold : Bool) (xs : List Int) : List Word :=
  BitVec.ofNat 32 (2 ^ 31 + b2n hold * 2 ^ 30) ::
    (List.range 32).map fun i => BitVec.ofNat 32 (toTwos 16 (xs.getD (2 * i) 0) * 2 ^ 16 + toTwos 16 (xs.getD (2 * i + 1) 0))
/-- A block of 64 output samples, coded or raw (R424–R427). -/
def encodeBlock (rawOnly : Bool) (k : Nat) (hold : Bool) (xs : List Int) : List Word :=
  let us := blockCodes k xs
  let m0 := bestM0 us
  let bits := riceCode m0 us
  if rawOnly || Nat.blt 960 bits.length then rawBlock hold xs
  else
    let mn := xs.foldl min (xs.headD 0)
    let mx := xs.foldl max (xs.headD 0)
    let a := b2n hold * 2 ^ 30 + m0 * 2 ^ 26 + firstIndex mn xs * 2 ^ 20 + firstIndex mx xs * 2 ^ 14 + bits.length * 16
    [BitVec.ofNat 32 a, BitVec.ofNat 32 (toTwos 16 (xs.headD 0) * 2 ^ 16 + toTwos 16 mn),
     BitVec.ofNat 32 (toTwos 16 mx * 2 ^ 16)] ++ packBits bits.length bits
/-- Whether telemetry is enabled for a function (Table USB-7). -/
def State.tlmOn (s : State) (f : Fin 2) : Bool := if f = 0 then s.has F.MGT_CFG_TLM_EN0 else s.has F.MGT_CFG_TLM_EN9
/-- Whether stream n goes to a function (R422). -/
def State.streamTo (s : State) (n : Nat) (f : Fin 2) : Bool :=
  s.tlmOn f && (if f = 0 then s.has (F.TLM_STR_DEST0 n) else s.has (F.TLM_STR_DEST9 n))
/-- Blocks of a stream for a function that no packet carries yet. -/
def Stream.buf (st : Stream) (f : Fin 2) : List Block := if f = 0 then st.buf0 else st.buf9
/-- The stream with its buffer for a function changed. -/
def Stream.setBuf (st : Stream) (f : Fin 2) (l : List Block) : Stream := if f = 0 then { st with buf0 := l } else { st with buf9 := l }
/-- Blocks dropped since the last packet to a function. -/
def Stream.lost (st : Stream) (f : Fin 2) : Nat := if f = 0 then st.lost0 else st.lost9
/-- The stream with that number changed. -/
def Stream.setLost (st : Stream) (f : Fin 2) (n : Nat) : Stream := if f = 0 then { st with lost0 := n } else { st with lost9 := n }
/-- Blocks of stream n that a function's buffer holds: waiting, and in packets not yet taken. -/
def State.buffered (s : State) (n : Fin 8) (f : Fin 2) : Nat :=
  (s.streams[n].buf f).length + ((s.mgt[f]).ep3.filter fun p => p.stream == n.val).foldl (fun a p => a + p.nblk) 0
/-- A block finds its place in a function's buffer of 16, or is dropped and counted (R428). -/
def State.pushBlock (s : State) (n : Fin 8) (f : Fin 2) (b : Block) : State :=
  if ! s.streamTo n.val f then s
  else if s.buffered n f < 16 then s.modStream n fun st => st.setBuf f (st.buf f ++ [b])
  else (s.modStream n fun st => st.setLost f (satAdd 255 (st.lost f) 1)).flag G.TLM_BLK_LOST
/-- STREAM_BLOCK_ENCODE (R424–R428): 64 output samples of stream n stand complete. -/
def execStreamBlockEncode (n : Fin 8) (s : State) : Out :=
  let st := s.streams[n]
  if s.streamRuns n.val && Nat.ble 64 st.xs.length then
    let w := s.word (R.TLM_STR n.val)
    let d := s.get (F.TLM_STR_D n.val)
    let hold := (st.held.take 64).any id
    let b : Block := { words := encodeBlock (s.unitOff 1) (s.get (F.TLM_STR_K n.val)) hold (st.xs.take 64), cfg := w,
                       tb := 1024 * st.first, at' := s.now }
    let s := s.putBit F.TLM_STATUS_HOLD n.val hold
    let s := s.modStream n fun t => { t with xs := t.xs.drop 64, held := t.held.drop 64, first := t.first + 64 * 2 ^ d }
    .next ((s.pushBlock n 0 b).pushBlock n 1 b)
  else .next s

/-- Blocks at the front of a buffer that one packet may hold: at most three, of one setting, with no samples between them
(R428). -/
def packetBlocks : Nat → List Block → List Block
  | 0, _ => []
  | _, [] => []
  | _ + 1, [b] => [b]
  | n + 1, b :: c :: bs =>
    if c.cfg = b.cfg ∧ c.tb = b.tb + 65536 * 2 ^ ((F.TLM_STR_D 0).extract b.cfg) then b :: packetBlocks n (c :: bs) else [b]
/-- The packet header of Table TLM-2. -/
def packetHeader (seq type stream len lost chan w2 w3 : Nat) : List Word :=
  [BitVec.ofNat 32 (seq * 2 ^ 16 + 2 ^ 12 + type * 2 ^ 8 + stream), BitVec.ofNat 32 (len * 2 ^ 16 + lost * 2 ^ 8 + chan),
   BitVec.ofNat 32 w2, BitVec.ofNat 32 w3]
/-- A packet is offered on EP3 IN of a function; its SEQ has been taken. -/
def State.offer (s : State) (f : Fin 2) (p : TlmPkt) : State :=
  s.modFn f fun m => { m with ep3 := m.ep3 ++ [p], seq := (m.seq + 1) % 2 ^ 16 }
/-- STREAM_PACKET_CLOSE (R428): the blocks of stream n that wait for function f are closed into a packet, once the next
block would not fit or 100 ms after its first block; while a capture is sent the packets stay buffered (R432). -/
def execStreamPacketClose (n : Fin 8) (f : Fin 2) (s : State) : Out :=
  let buf := s.streams[n].buf f
  let bs := packetBlocks 3 buf
  match bs with
  | [] => .next s
  | b :: _ =>
    if !s.codecServed || (s.mgt[f]).send.isSome then .next s
    else
      let full := bs.length == 3 || Nat.blt bs.length buf.length
      let s := if full then s else s.advanceTo (b.at' + msec 100)
      let words := bs.flatMap fun c => c.words
      let x (fd : Fld) : Nat := fd.extract b.cfg
      let w3 := x (F.TLM_STR_D 0) * 2 ^ 29 + x (F.TLM_STR_K 0) * 2 ^ 26 + bs.length * 2 ^ 24 + b.tb / 2 ^ 32 % 2 ^ 24
      let h := packetHeader (s.mgt[f]).seq 1 n.val (4 * words.length) (s.streams[n].lost f) (x (F.TLM_STR_CHAN 0)) b.tb w3
      let s := s.modStream n fun st => (st.setBuf f (buf.drop bs.length)).setLost f 0
      .next (s.offer f { stream := n.val, nblk := bs.length, words := h ++ words })

/-- The sum of 2^(−D) over the enabled streams, in 1/128, with stream n set to a word (R429). -/
def State.streamLoad (s : State) (n : Nat) (w : Word) : Nat :=
  (List.range 8).foldl (fun a i =>
    let v := if i = n then w else s.word (R.TLM_STR i)
    if v.getLsbD 31 then a + 2 ^ (7 - (F.TLM_STR_D 0).extract v) else a) 0
/-- TLM_STR_WRITE (R429): the setting holds from the next frame, the block in progress is dropped; a write above the rate
budget is refused. -/
def execTlmStrWrite (n : Fin 8) (w : Word) (s : State) : Out :=
  let w := w &&& 0xE0FC00FF#32
  if 512 < s.streamLoad n.val w then .next (s.flag G.TLM_REFUSED)
  else
    let s := s.setWord (R.TLM_STR n.val) w
    .next (s.modStream n fun st => { st with going := false, sum := 0, xs := [], hold := false, held := [], frame := some (s.tb / 1024) })

/-- Spill slots on the fitted flash (R430). -/
def State.spillSlots (s : State) : Nat := if s.boot.density = 0 then 0 else 1 + (s.boot.density - 2 ^ 24) / 2 ^ 19
/-- Offset of a spill slot. -/
def spillSlotBase (n : Nat) : Nat := if n = 0 then spillBase else 0x01000000 + (n - 1) * 0x80000
/-- Words of the capture that a spill or a delivery holds: the newest 131,056. -/
def State.capWords (s : State) : Nat := min s.cap.count 131056
/-- Word i of them, oldest first. -/
def State.capAt (s : State) (i : Nat) : Word :=
  bankRead (fun _ => 0#32) s.cap.ram ((s.cap.next + ringWords - s.capWords + i) % ringWords)
/-- The highest CAPNO in any slot (Table TLM-4). -/
def State.highestCap (s : State) : Nat :=
  (List.range s.spillSlots).foldl (fun m n =>
    let b := s.flashRead (spillSlotBase n) 8
    if leAt b 0 4 = 0x5043514B then max m (leAt b 4 4) else m) 0
/-- Bytes 0x00–0x3B of a spill header (Table TLM-4). -/
def State.spillHead (s : State) (no : Nat) : List Byte :=
  let trig := (s.get F.CAP_STATUS_TRIG_WORD + ringWords - (s.cap.next + ringWords - s.capWords) % ringWords) % ringWords
  leBytes 4 0x5043514B ++ leBytes 4 no ++ leBytes 4 (s.get F.CAP_TBL_TB) ++ leBytes 4 (s.get F.CAP_TBH_TB) ++ leBytes 4 trig ++
  leBytes 4 s.capWords ++ leBytes 4 s.cap.trigCfg.toNat ++ leBytes 4 (b2n (s.has F.CAP_START_PRE_SHORT)) ++ leBytes 28 0
/-- Whether a FULL capture is being spilled, so that CAPTURE_SPILL may come (R431). -/
def State.spilling (s : State) : Bool :=
  decide (s.get F.CAP_STATUS_STATE = 3) && s.has F.CAP_SPILL_EN && s.codecServed && s.spillSlots != 0 && s.isAny [.summer, .autumn, .winter]
/-- CAPTURE_SPILL (R430, R431, Table TLM-7): a FULL capture goes to slot NEXT; `ok` is the read-back of its CRC. -/
def execCaptureSpill (ok : Bool) (s : State) : Out :=
  if s.spilling && s.flashFree then
    let n := s.get F.CAP_SPILL_NEXT
    let base := spillSlotBase n
    let no := s.cap.highest.getD s.highestCap + 1
    let data := (List.range s.capWords).flatMap fun i => leBytes 4 (s.capAt i).toNat
    let head := s.spillHead no
    let s := s.flashErase base 0x80000
    let s := s.set F.CAP_SPILL_NEXT ((n + 1) % s.spillSlots)
    let s := { s with cap := { s.cap with highest := some no } }
    if ok then
      let s := s.flashProgram base (head ++ leBytes 4 (crc32 (head ++ data)) ++ data)
      let s := s.set F.CAP_STATUS_STATE (if s.has F.CAP_SPILL_REARM then 1 else 0)
      .next { s with cap := { s.cap with count := 0, left := 0, marked := none } }
    else .next ((s.spoil base (64 + data.length)).raise 0xAA16)
  else .next s

/-- Bytes of a capture source from an offset (R432). -/
def State.capBytes (s : State) (src off n : Nat) : List Byte :=
  if src = 0xFF then (List.range (n / 4)).flatMap fun i => leBytes 4 (s.capAt (off / 4 + i)).toNat
  else s.flashRead (spillSlotBase src + off) n
/-- The next packet of a capture being sent is offered, or the delivery is at its end. -/
def State.nextCapPacket (s : State) (f : Fin 2) : State :=
  match (s.mgt[f]).send with
  | none => s
  | some c =>
    if c.off < c.len && (c.src != 0xFF || s.get F.CAP_STATUS_STATE == 3) then
      let n := min 492 (c.len - c.off)
      let h := packetHeader (s.mgt[f]).seq 2 0xC0 n 0 0 c.off c.src
      let s := s.offer f { stream := 0xC0, nblk := 0, words := h ++ bytesToWords (s.capBytes c.src c.off n) }
      s.modFn f fun m => { m with send := some { c with off := c.off + n } }
    else s.modFn f fun m => { m with send := none }
/-- CAPTURE_SEND (R432): a write of CAP_SEND with GO. -/
def execCaptureSend (src : BitVec 8) (to9 : Bool) (s : State) : Out :=
  let f : Fin 2 := if to9 then 1 else 0
  let ram := src = 0xFF#8
  if s.codecServed && s.tlmOn f && (s.mgt[f]).send.isNone &&
      (if ram then s.get F.CAP_STATUS_STATE == 3 else Nat.blt src.toNat s.spillSlots) then
    let len := if ram then 4 * s.capWords else 0x80000
    .next ((s.modFn f fun m => { m with send := some { src := src.toNat, off := 0, len := len } }).nextCapPacket f)
  else .next s
/-- TELEMETRY_PACKET_TAKEN (R428, R432): the host takes the oldest packet on EP3 IN. -/
def execTelemetryPacketTaken (f : Fin 2) (s : State) : Out :=
  if ! s.fnServes f then .next s
  else
    match (s.mgt[f]).ep3 with
    | [] => .next s
    | p :: rest =>
      let s := s.modFn f fun m => { m with ep3 := rest }
      .next (if p.stream = 0xC0 then s.nextCapPacket f else s)

/-- The highest of the latest results of die sensors 0–7, as a class T code. -/
def State.dieMax (s : State) : Nat := (List.range 8).foldl (fun m i => max m (s.result (0x6F + i))) 0
/-- A list with one of its numbers changed. -/
def bumpAt (l : List Nat) (i : Nat) (act : Nat → Nat) : List Nat := l.set i (act (l.getD i 0))
/-- ARCHIVE_FRAME_ACCUMULATE (R433): energy, peaks and extremes of a frame. -/
def execArchiveFrameAccumulate (s : State) : Out :=
  if s.archiveOn && s.his.open' then
    let h := s.presentModulePorts.foldl (fun h k =>
      let i := s.portMa k
      { h with acc := bumpAt h.acc k.val fun a => (a + s.vrcp k * i) % 2 ^ 64,
               peak := bumpAt h.peak k.val fun a => max a i }) s.his
    let v := s.get F.BUS_VIN_VIN_MV
    .next { s with his := { h with tmax := some (max (h.tmax.getD 0) s.dieMax), vinMin := some (min (h.vinMin.getD v) v) } }
  else .next s
/-- Lower edges of the current bins in mA (R434). -/
def currentEdges : List Nat := [0, 39, 55, 78, 110, 156, 220, 312, 441, 625, 883, 1250, 1767, 2500, 3535, 5000]
/-- Bin of a current. -/
def currentBin (ma : Nat) : Nat := (currentEdges.filter fun e => Nat.ble e ma).length - 1
/-- Bin of a class T code: 0 below −10 °C, then steps of 10 °C to 15 at 130 °C. -/
def tempBin (code : Nat) : Nat := min 15 ((codeT code + 640) / 320).toNat
/-- The samples of every second counted second (R433). -/
def State.daySample (s : State) : State :=
  let h := s.his
  let hi := s.presentModulePorts.foldl (fun l k => bumpAt l (16 * k.val + currentBin (s.portMa k)) (min 0xFFFF <| · + 1)) h.histI
  { s with his := { h with histI := hi, histT := bumpAt h.histT (tempBin s.dieMax) (min 0xFFFF <| · + 1) } }
/-- The operating day ends: its record falls due and the next day starts with the remainders (R434). -/
def State.endDay (s : State) : State :=
  let h := s.his
  let b := s.dayBytes 0x4448514B
  let s := { s with his := { open' := true, dayno := (h.dayno + 1) % 2 ^ 32, acc := h.acc.map (· % mwhUnit), dayDue := some b,
                             daySlot := h.daySlot, cpSlot := h.cpSlot, newest := h.newest } }
  forAll modulePorts (fun k t => (t.modChk k fun c => { c with dayP := [], dayR := [] }).set (F.CHK_STATUS_COUNT k) 0) s
/-- What a whole count of seconds brings: the end of the day, or a checkpoint every 600 s. -/
def State.endSecond (s : State) : State :=
  if s.his.secs = 86400 then s.endDay
  else s.when (s.his.secs % 600 == 0) fun t => { t with his := { t.his with cpDue := true } }
/-- A counted second has ended: its sample and what a whole count of seconds brings. -/
def State.countSecond (s : State) : State :=
  let s := { s with his := { s.his with secs := s.his.secs + 1 } }
  ((s.when (s.his.secs % 2 == 0) State.daySample).endSecond).showDay
/-- COUNTED_SECOND (R433, R436): the time base crosses a multiple of 100,000,000. During a reload of the codec engine the
second waits for the new engine's first frame. -/
def execCountedSecond (s : State) : Out :=
  let t := s.advanceTo (s.now + (secs 1 - s.tb % secs 1))
  if s.archiveOn && s.his.open' then .next t.countSecond
  else if s.upd.held = some 14 && !s.unitOff 2 && s.his.open' then .next { t with his := { t.his with late := t.his.late + 1 } }
  else .next s
/-- The new codec engine's first frame: the seconds that ended during the reload are counted. -/
def State.lateSeconds (s : State) : State :=
  (List.range s.his.late).foldl (fun t _ => t.countSecond) { s with his := { s.his with late := 0 } }
/-- DAY_RECORD_WRITE (R434, R435): the record of an ended day is programmed and read back; a failure repeats it in the next
slot. -/
def execDayRecordWrite (ok eraseOk : Bool) (s : State) : Out :=
  match s.his.dayDue with
  | none => .next s
  | some b =>
    if !s.archiveOn || !s.flashFree then .next s
    else
      let n := s.his.daySlot
      let s := { s with his := { s.his with daySlot := (n + 1) % daySlots } }
      let s :=
        if ok then
          let s := s.flashProgram (dayBase n) b
          let s := { s with his := { s.his with dayDue := none, newest := some n } }
          ((s.set F.HIS_STATUS_NEWEST n).set F.HIS_LASTNO_DAYNO (leAt b 4 4)).flag G.HIS_WRITTEN
        else (s.spoil (dayBase n) 512).archiveFail
      .next (s.eraseNext archiveBase daySlots n eraseOk)
/-- CHECKPOINT_WRITE (R436): the checkpoint due is written. -/
def execCheckpointWrite (ok eraseOk : Bool) (s : State) : Out :=
  if s.his.cpDue && s.flashFree then .next (s.storeCheckpoint ok eraseOk) else .next s

/-- The valid record of a ring that a key puts last, with its slot. -/
def State.newestOf (s : State) (magic slots : Nat) (base : Nat → Nat) (key : List Byte → Nat) : Option (Nat × List Byte) :=
  (List.range slots).foldl (fun best n =>
    if leAt (s.flashRead (base n) 4) 0 4 = magic then
      let b := s.flashRead (base n) 512
      if dayValid magic b then
        match best with
        | none => some (n, b)
        | some m => if key m.2 < key b then some (n, b) else some m
      else best
    else best) none
/-- The day that a checkpoint holds, resumed (R437). -/
def dayFrom (b : List Byte) (h : His) : His :=
  let at2 (i : Nat) : Nat := leAt b i 2
  let ports := List.range 8
  { h with
    open' := true, dayno := leAt b 4 4, secs := leAt b 0x1C0 4, gaps := leAt b 0x14 2,
    acc := ports.map fun k => (if leAt b (0x18 + 4 * k) 4 = 0xFFFFFFFF then 0 else leAt b (0x18 + 4 * k) 4) * mwhUnit + leAt b (0x180 + 8 * k) 8,
    peak := ports.map fun k => if at2 (0x38 + 2 * k) = 0xFFFF then 0 else at2 (0x38 + 2 * k),
    tmax := some (at2 0x5A), vinMin := some (at2 0x5C),
    histT := (List.range 16).map fun i => at2 (0x60 + 2 * i), histI := (List.range 128).map fun i => at2 (0x80 + 2 * i),
    dropped := (at2 0x16).testBit 1 || ports.any fun k => at2 (0x48 + 2 * k) != 0xFFFF }
/-- The newest day record of the ring, and its slot. -/
def State.newestDay (s : State) : Option (Nat × List Byte) := s.newestOf 0x4448514B daySlots dayBase fun b => leAt b 4 4
/-- The newest checkpoint of the ring, and its slot. -/
def State.newestCp (s : State) : Option (Nat × List Byte) :=
  s.newestOf 0x4348514B cpSlots cpBase fun b => leAt b 4 4 * 2 ^ 32 + leAt b 0x1C0 4
/-- Number of the day that follows the newest day record, 0 without one. -/
def dayAfter : Option (Nat × List Byte) → Nat
  | none => 0
  | some d => leAt d.2 4 4 + 1
/-- What the archive shows of the newest day record. -/
def State.showNewest (s : State) (day : Option (Nat × List Byte)) : State :=
  match day with
  | none => s
  | some d => (s.set F.HIS_STATUS_NEWEST d.1).set F.HIS_LASTNO_DAYNO (leAt d.2 4 4)
/-- The day opens after a scan that found these records. -/
def His.opened (h : His) (day cp : Option (Nat × List Byte)) : His :=
  { h with open' := true, dayno := dayAfter day % 2 ^ 32, newest := day.map (·.1),
           acc := (day.map fun d => (List.range 8).map fun k => leAt d.2 (0x180 + 8 * k) 8).getD h.acc,
           daySlot := (day.map fun d => (d.1 + 1) % daySlots).getD 0, cpSlot := (cp.map fun c => (c.1 + 1) % cpSlots).getD 0 }
/-- The day resumes from a checkpoint; the seconds since it are lost, and at a whole 600 s the gap is counted and warned of. -/
def State.resumeDay (s : State) (h : His) : State :=
  if h.secs % 600 = 0 then (({ s with his := { h with gaps := h.gaps + 1 } }.showDay).flag G.HIS_GAP).warn 0x2A14
  else { s with his := h }.showDay
/-- The open day after a scan: resumed where the newest checkpoint is of that day, new otherwise. -/
def State.beginDay (s : State) (h : His) (next : Nat) (cp : Option (Nat × List Byte)) : State :=
  match cp with
  | none => { s with his := h }.showDay
  | some c => if leAt c.2 4 4 ≠ next then { s with his := h }.showDay else s.resumeDay (dayFrom c.2 h)
/-- HISTORY_SCAN (R437): both rings are scanned; the day resumes from the newest checkpoint or a new day starts. -/
def execHistoryScan (s : State) : Out :=
  if s.isAny [.spring, .offSeason] && s.archiveOn && !s.has F.HIS_STATUS_SCANNED then
    let day := s.newestDay
    let cp := s.newestCp
    let s := (s.put F.HIS_STATUS_SCANNED true).showNewest day
    .next (s.beginDay (s.his.opened day cp) (dayAfter day) cp)
  else .next s
/-- HIS_SEL_LOAD (R442): a write of HIS_SEL loads the selected part of a day record. -/
def execHisSelLoad (w : Word) (s : State) : Out :=
  let s := s.setWord R.HIS_SEL (w &&& 0x000F7FFF#32)
  if s.unitOff 2 then .next s
  else
    let slot := s.get F.HIS_SEL_SLOT
    let n := if s.has F.HIS_SEL_BACK then (s.get F.HIS_STATUS_NEWEST + 2 * daySlots - slot) % daySlots else slot
    let b := s.flashRead (dayBase n + 64 * s.get F.HIS_SEL_PART) 64
    .next ((bytesToWords b).zipIdx.foldl (fun t e => t.setWord (R.HIS_REC e.2) e.1) s)

end Sys2Proof.Machine
end

