-- ==== Sys2Proof/Machine/Island.lean ====
section
/-!
DEFINITION. The safety island (SAF): the clock cross-check and its counterpart, lockstep, the watchdog and the timers that
stand in for it, the heartbeats, the off-line test, memory errors, die temperature and the cold restart.
-/
namespace Sys2Proof.Machine

/-- SAF_XCHK takes a count; MIN and MAX restart with the first count after a read of byte 0 (R474). -/
def State.noteXchk (s : State) (c : Nat) : State :=
  let lo := if s.island.xFresh then c else min c (s.get F.SAF_XCHK_MIN)
  let hi := if s.island.xFresh then c else max c (s.get F.SAF_XCHK_MAX)
  let t := ((s.set F.SAF_XCHK_LAST c).set F.SAF_XCHK_MIN lo).set F.SAF_XCHK_MAX hi
  { t with island := { t.island with xFresh := false } }
/-- CLOCK_CROSS_CHECK (R450): `count` is the island count at a strobe, or with `strobe` false none came within 360 island
cycles; the detectors are those of Table ARC-4. -/
def execClockCrossCheck (count : BitVec 10) (strobe amplitude lock : Bool) (s : State) : Out :=
  if s.tbZero.isNone then .next s
  else
    let s := s.when strobe fun t => t.noteXchk count.toNat
    let ok := strobe && Nat.ble 295 count.toNat && Nat.ble count.toNat 360
    let s := s.put F.CLK_STATUS_XCHK_OK ok
    let s := (s.when amplitude fun t => t.put F.CLK_STATUS_XTAL_OK false).when lock fun t => t.put F.CLK_STATUS_ROOT_LOCK false
    let s := { s with island := { s.island with clockStopped := s.island.clockStopped || !strobe } }
    .next (if ok then s else s.trip (if amplitude then 0xE201 else if lock then 0xE202 else 0xE203) 0)
/-- ISLAND_OSC_CHECK (R451): the fabric count between island strobes; a missing strobe counts as 881. -/
def execIslandOscCheck (count : BitVec 10) (s : State) : Out :=
  if s.tbZero.isNone || (Nat.ble 720 count.toNat && Nat.ble count.toNat 880) then .next s
  else .next ({ s with island := { s.island with held00A := true } }.classify 0xC00A)
/-- LOCKSTEP_MISMATCH (R452). -/
def execLockstepMismatch (s : State) : Out := .next (s.trip 0xE401 0)

/-- WATCHDOG_OPEN_WINDOW (R453). -/
def execWatchdogOpenWindow (s : State) : Out :=
  .next (s.onElapse .wdClosed fun t => (t.put F.SAF_STATUS_OPEN true).arm .wdPeriod (islandCycles 9600))
/-- WATCHDOG_PERIOD_START (R453): the period ends. -/
def execWatchdogPeriodStart (s : State) : Out :=
  .next (s.onElapse .wdPeriod fun t => if t.island.answered then t.startPeriod else t.trip 0xE402 1)
/-- The value of SAF_WDRESP.RESP that answers the present challenge (R454). -/
def State.wdResponse (s : State) : Nat :=
  crc16 (leBytes 2 (s.get F.SAF_WDCHAL_CHAL) ++ leBytes 2 (s.get F.SAF_WDCHAL_SEQ))
/-- What is wrong with an answer, as SAF_TRIP.DETAIL numbers it; 0 where it is correct (R454, R469). Where several parts are wrong
the manual does not say which DETAIL records; RESP, TASKS, SEQ is the model's order (entry 120). -/
def State.wdFault (s : State) (w : Word) : Nat :=
  if w.toNat / 2 ^ 16 ≠ s.wdResponse then 4
  else if w.toNat % 256 ≠ orDefault 1 (s.get F.SAF_WDCFG_TASKS) then 5
  else if w.toNat / 256 % 256 ≠ s.get F.SAF_WDCHAL_SEQ % 256 then 6
  else 0
/-- Whether the closed window still runs at this moment; the cycle in which the open window begins is open (R453). -/
def State.wdShut (s : State) : Bool :=
  match s.deadline .wdClosed with
  | none => false
  | some d => Nat.blt s.now d
/-- WATCHDOG_ANSWER (R453, R454, R456). -/
def execWatchdogAnswer (w : Word) (s : State) : Out :=
  if s.get F.SAF_STATUS_ISTATE = 3 then
    .next (if s.wdFault w = 0 then
        ((s.disarm .holdTimer).set F.SAF_STATUS_ISTATE 2).startPeriod.flag G.SAF_HOLD_USED
      else s)
  else if s.get F.SAF_STATUS_ISTATE = 2 then
    .next (if s.wdShut then s.trip 0xE402 2
      else if s.island.answered then s.trip 0xE402 3
      else if s.wdFault w = 0 then { s with island := { s.island with answered := true } }
      else s.trip 0xE402 (s.wdFault w))
  else .next s
/-- BOOT_TIMER_EXPIRED (R455). -/
def execBootTimerExpired (s : State) : Out := .next (s.onElapse .bootTimer fun t => t.trip 0xE402 7)
/-- SEAL_TIMER_EXPIRED (R455). -/
def execSealTimerExpired (s : State) : Out := .next (s.onElapse .sealTimer fun t => t.trip 0xE402 8)
/-- SAF_HOLD (R456): taken from the supervisor with HANDOVER = 1; the periods are suspended under a new challenge. -/
def execSafHold (s : State) : Out :=
  if s.has F.SYS_STATE_HANDOVER && decide (s.get F.SAF_STATUS_ISTATE = 2) then
    .next ((((s.disarm .wdPeriod).disarm .wdClosed).newChallenge.put F.SAF_STATUS_OPEN false).set F.SAF_STATUS_ISTATE 3 |>.arm
      .holdTimer (msec 45))
  else .next s
/-- HOLD_TIMER_EXPIRED (R456). -/
def execHoldTimerExpired (s : State) : Out := .next (s.onElapse .holdTimer fun t => t.trip 0xE402 9)

/-- COLLECTOR_HEARTBEAT_MISSING (R457). -/
def execCollectorHeartbeatMissing (s : State) : Out := .next (s.trip 0xC008 0)
/-- CLASSIFIER_TEST (R457): one superframe's outcome, `right` where the fatal class came back. -/
def execClassifierTest (right : Bool) (s : State) : Out :=
  let n := if right then 0 else s.island.clsWrong + 1
  let s := { s with island := { s.island with clsWrong := n } }
  .next (if n = 2 then s.trip 0xC008 0 else s)
/-- Whether the heartbeat check covers engine e (R458). -/
def State.heartbeatDue (s : State) (e : Nat) : Bool :=
  s.engine e && !s.upd.paused
/-- One engine's comparison (R458): unchanged words are counted, the third in a row raises 0xE410 + e. The
sequencer's during a power-down has a time mark in the trace (chapter SEQ). -/
def State.heartbeat (s : State) (words : List Word) (e : Nat) : State :=
  let w := words.getD e 0#32
  let same := decide ((s.island.hbWords.getD e none) = some w)
  let n := if s.heartbeatDue e && same then s.island.hbSame.getD e 0 + 1 else 0
  let s := { s with island := { s.island with hbWords := s.island.hbWords.set e (some w), hbSame := s.island.hbSame.set e n } }
  s.when (n == 3) fun t =>
    (t.when (decide (e = 10) && decide (t.phase = 3)) fun u => u.trace 0x00 0 (u.tb / 2 ^ 42)).raise (0xE410 + e)
/-- ENGINE_HEARTBEAT_CHECK (R458): the start of an allocator period; `words` are the heartbeat words by engine, 0 unused. -/
def execEngineHeartbeatCheck (words : List Word) (s : State) : Out :=
  if s.isAny [.romBoot, .deepWinter, .romRecovery] then .next s
  else .next (forAll ((List.range 15).map (· + 1)) (fun e t => t.heartbeat words e) s)
/-- SAF_OFFTEST (R459): taken only while the seal timer runs and once per boot; `follow` is the read-back of every disable
input. -/
def execSafOfftest (follow : Bool) (s : State) : Out :=
  if s.armed .sealTimer && !s.island.offTested then
    let s := { s with island := { s.island with offTested := true } }
    .next (if follow then s.put F.SAF_STATUS_OFFTEST_OK true else s.raise 0xC00B)
  else .next s

/-- The class T code of a temperature in °C (Table MSR-2). -/
def tempCode (c : Nat) : Nat := (c + 64) * 32
/-- DIE_TEMP_WARNING (R460): one frame's judgement of the latest results of die sensors 0–7. -/
def execDieTempWarning (s : State) : Out :=
  if s.isAny [.romBoot, .deepWinter] then .next s
  else
    let warn := orDefault 140 (s.get F.SAF_TEMP_WARN)
    let hot := if Nat.ble (tempCode warn) s.dieMax then s.island.tempHot + 1 else 0
    let cool := if Nat.ble s.dieMax (tempCode (warn - 5)) then s.island.tempCool + 1 else 0
    let on := s.island.tempActive
    let s := { s with island := { s.island with tempHot := min 32 hot, tempCool := min 32 cool } }
    .next (if !on && Nat.ble 32 hot then
        ({ s with island := { s.island with tempActive := true } }.warn 0x2B02).flag G.SAF_TEMP_WARN
      else if on && Nat.ble 32 cool then { s with island := { s.island with tempActive := false } }
      else s)
/-- MEMORY_ECC_ERROR (R478, Table SAF-6): a single-bit error is corrected in place; an uncorrectable one is fatal, in
supervisor memory for the island. -/
def execMemoryEccError (uncorrectable supervisor : Bool) (s : State) : Out :=
  .next (if uncorrectable then (if supervisor then s.trip 0xE303 0 else s.classify 0xE302)
    else if supervisor || s.isIn .deepWinter then s
    else (s.classify 0x6301).flag G.SAF_ECC_CORR)

/-- Power-down steps of the rails still kept, from step n on (R466). -/
def State.keptSteps (s : State) (n : Nat) : List Nat :=
  ((List.range 17).filter fun d => Nat.ble n d &&
    allRails.any fun j => (s.rail j).keep && s.has (F.SQ_STATUS_EN j) && decide (s.get (F.SQ_DN_DN j) = d))
/-- A KEEP rail is released by the island; the trace is written only where the fabric clock runs (R463, R466). -/
def State.coldRelease (s : State) (j : RailId) : State :=
  let t := s.releaseRail j false 0
  if s.clockRunsAt (s.get F.SAF_TRIP_CODE) then t
  else t.traceAsIn s
/-- The KEEP rails of a power-down step are released and the next 1.0 ms begins. -/
def State.coldStepAt (s : State) (d : Nat) : State :=
  let s := forAll allRails (fun j t =>
    t.when ((t.rail j).keep && t.has (F.SQ_STATUS_EN j) && decide (t.get (F.SQ_DN_DN j) = d)) fun u => u.coldRelease j) s
  { s with island := { s.island with coldStep := d + 1 } }.arm .coldStep (msec 1)
/-- COLD_RESTART (R465, R466): the guard held at this entry and 1.0 s has passed. -/
def execColdRestart (s : State) : Out :=
  .next (s.onElapse .coldRestart fun t =>
    let t := t.set F.SAF_STATUS_ISTATE 5
    match t.keptSteps 0 with
    | [] => t.arm .coldStep (msec 1)
    | d :: _ => t.coldStepAt d)
/-- COLD_RESTART_STEP (R466): the next KEEP step, or after the last the internal reset and T13. -/
def execColdRestartStep (s : State) : Out :=
  .next (s.onElapse .coldStep fun t =>
    match t.keptSteps t.island.coldStep with
    | d :: _ => t.coldStepAt d
    | [] =>
      let t := (t.internalRestart 13).put F.SYS_STATE_DW_RESTARTED true
      { t with boot := { t.boot with afterCold := true } }.flag G.SAF_DW_RESTART)
/-- SAF_ACK (R467). -/
def execSafAck (s : State) : Out := .next (if s.isIn .deepWinter then s else s.set F.SAF_TRIP_CODE 0)
/-- SAF_XCHK_READ (R474). -/
def execSafXchkRead (s : State) : Out := .next { s with island := { s.island with xFresh := true } }

end Sys2Proof.Machine
end

