-- ==== Sys2Proof/Machine/Faults.lean ====
section
/-!
DEFINITION. The fault collector's commands (FLT): classification, the queue's records as events, the W1C flags, fault
injection; and the re-read of the OTP array (R508, R509).
-/
namespace Sys2Proof.Machine

/-- Fault codes that the island detects or that are routed to it (Tables SAF-2, SAF-6, ARC-4). -/
def islandCode (code : Nat) : Bool :=
  [0xC008, 0xC009, 0xE104, 0xE201, 0xE202, 0xE203, 0xE303, 0xE401, 0xE402].contains code
/-- Whether a fault code is one that is ever raised (R480). -/
def faultListed (code : Nat) : Bool := sourceListed (faultSource code) && decide (faultCause code ≠ 0)
/-- The order in which an input presents causes: highest class first, then lowest cause (R483). -/
def causeRank (code : Nat) : Nat := (3 - faultClass code) * 256 + faultCause code
/-- A cause put at its place in that order. -/
def insertCause (c : Nat) : List Nat → List Nat
  | [] => [c]
  | x :: xs => if causeRank c ≤ causeRank x then c :: x :: xs else x :: insertCause c xs
/-- The causes of one source that are raised in one cycle, as its input presents them. -/
def causesOf (codes : List Nat) (src : Nat) : List Nat := (codes.filter fun c => decide (faultSource c = src)).foldr insertCause []
/-- What one fault counts: its code and whether it is promoted (R486, R487). -/
def State.countFault (s : State) (code : Nat) : (Nat × Bool) × State :=
  let cls := faultClass code
  if cls = 1 ∨ cls = 2 then
    let r := s.escalate (faultSource code) cls
    ((if r.1 then withClass code (cls + 1) else code, r.1), r.2)
  else ((code, false), s)
/-- Counted faults in the order of their classes, fatal first. -/
def byClass (l : List (Nat × Bool)) : List (Nat × Bool) :=
  [3, 2, 1, 0].flatMap fun c => l.filter fun e => decide (faultClass e.1 = c)
/-- Faults of different sources classified in one cycle: records queued fatal first, and FLT_LAST shows the first of them
(R482, "When things fall together"). -/
def State.classifyTogether (s : State) (codes : List Nat) : State :=
  let r := codes.foldl (fun p c => (p.1 ++ [(p.2.countFault c).1], (p.2.countFault c).2)) (([] : List (Nat × Bool)), s)
  match byClass r.1 with
  | [] => r.2
  | e :: rest =>
    let t := r.2.react e.1 e.2
    (forAll rest (fun e u => u.react e.1 e.2) t).setWord R.FLT_LAST (t.word R.FLT_LAST)
/-- FAULT_CLASSIFY (R482–R488): the causes raised in one fabric cycle. Each source presents one a cycle, four more wait, and
what finds no room is dropped and counted; a code of the island trips Deep Winter and the rest is not retained. An ECC error
of a schedule bank (0x6505), which no other command reports, sets its flag (R154). -/
def execFaultClassify (codes : List (BitVec 16)) (s : State) : Out :=
  let cs := ((codes.map (·.toNat)).filter faultListed).filter fun c => !s.sourceAbsent (faultSource c)
  if s.isIn .deepWinter then .next s
  else
    match cs.find? islandCode with
    | some c => .next (s.trip c 0)
    | none =>
      if s.isIn .romBoot then .next (forAll cs (fun c t => t.find c) s)
      else
        let srcs := List.range 64
        let lost := (srcs.map fun x => (causesOf cs x).length - 5).foldl (· + ·) 0
        .next (forAll (List.range 5) (fun i t => t.classifyTogether (srcs.flatMap fun x => ((causesOf cs x).drop i).take 1))
          ((s.when (cs.contains 0x6505) fun t => t.flag G.SCH_ECC_CORR).bump F.FLT_STATUS_DROPPED lost))
/-- Flags byte of a fault event (R489). -/
def FaultRec.flags (r : FaultRec) : Nat := 0x80 + 0x40 * b2n r.promoted + r.state
/-- FAULT_RECORD_POST (R489): the oldest record becomes a fault event; the ring takes none where it is not served. -/
def execFaultRecordPost (s : State) : Out :=
  match s.flt.queue with
  | [] => .next s
  | r :: rest =>
    if s.ringServed then
      .next ({ s with flt := { s.flt with queue := rest } }.postEvent r.flags (faultSource r.code) r.code r.tb)
    else .next s

/-- The flags that stand once in the part. -/
def singleFlags : List Flag :=
  [G.BUS_COMMIT, G.BUS_OVP, G.BUS_SAG, G.BUS_MAINS, G.MSR_CMP, G.MSR_DUAL, G.MSR_DRIFT, G.MSR_GROSS, G.SCH_ECC_CORR,
   G.SCH_WR_DISCARDED, G.SCH_REQ_IGNORED, G.SCH_REFUSED, G.CAP_MISSED, G.CAP_TRIGGERED, G.BUD_MIN_SHORT,
   G.BUD_EMERGENCY, G.SQC_GATE_TO, G.SQC_COLLAPSE, G.SQC_DISCHARGE, G.SQC_RISE_TO, G.AXL_CASC, G.AXL_LOST,
   G.AXL_CYC_BAD, G.AXL_MAC, G.FFL_WRITE_FAIL, G.FFL_WRITTEN, G.HUB_LINK_ERR, G.HUB_ECC, G.HUB_POOL_EMPTY,
   G.HUB_SS_FALLBACK, G.TLM_REFUSED, G.TLM_BLK_LOST, G.HIS_GAP, G.HIS_WRITE_FAIL, G.HIS_WRITTEN, G.SAF_DW_RESTART,
   G.SAF_HOLD_USED, G.SAF_ECC_CORR, G.SAF_TEMP_WARN, G.FLT_FATAL, G.FLT_CONT, G.FLT_CORR, G.FLT_WARN, G.OTP_CHANGED,
   G.OTP_LOCK_REFUSED, G.OTP_PROG_FAIL, G.SEC_EXHAUSTED, G.SEC_REPLAY, G.SEC_AUTH_FAIL, G.HIF_EVT_LOST,
   G.HIF_PARTIAL, G.HIF_NACKED, G.HIF_SCL_STUCK, G.HIF_SDA_TO, G.HIF_SDA_STUCK, G.UPD_ABANDONED, G.UPD_HANDBACK,
   G.UPD_REJECTED, G.UPD_BLOCK_FAIL]
/-- Every W1C flag of the part (R490). -/
def allFlags : List Flag :=
  singleFlags ++
  allPorts.flatMap (fun k =>
    [G.ATT_REFUSED k, G.ATT_VCONN_OC k, G.ATT_SEAT_LOST k, G.ATT_WET k, G.PD_HARD_RESET k, G.PD_REJECTED k,
     G.PD_AUTH_FAIL k, G.PD_Q_FULL k, G.BRK_SW_DEGRADED k, G.BRK_HELD k, G.BRK_LATCHED k, G.BRK_TRIP k]) ++
  modulePorts.flatMap (fun k => [G.CNV_DERATE k, G.CNV_CHK_WARN k, G.CNV_DRIVE k, G.CNV_HEADROOM k]) ++
  allRails.flatMap (fun j => [G.SQ_MARGIN j, G.SQ_FAULT j, G.SQ_OV_WARN j, G.SQ_UV_WARN j]) ++
  (List.range 32).map G.ALM_FIRED ++ (List.range 16).map G.TMR_WRAP ++
  (List.range 4).flatMap fun n => [G.CRC_REFUSED n, G.CRC_MISMATCH n, G.SQI_EVT n]
/-- The flags of a word that a mask names. -/
def flagsIn (reg : Nat) (m : Word) : List Flag := allFlags.filter fun g => decide (g.bit.reg = reg) && m.getLsbD g.bit.lo
/-- W1C bits of a register word; none for a reserved word. -/
def w1cOf (reg : Nat) : Word := match regFam? reg with | some f => f.w1c | none => 0#32
/-- FLAG_CLEAR (R490): a committed write of `w` to a word of W1C flags, of which hardware sets `hw` in the same cycle. -/
def execFlagClear (reg : BitVec 16) (w hw : Word) (s : State) : Out :=
  let a := reg.toNat
  .next (forAll (flagsIn a (w1cOf a)) (fun g t =>
    t.when (w.getLsbD g.bit.lo || hw.getLsbD g.bit.lo) fun u =>
      u.clearWithSet g (hw.getLsbD g.bit.lo)) s)
/-- FLT_INJ (R491, R496): taken in Factory test alone, with the collector's own reactions and no unit's. -/
def execFltInj (w : Word) (s : State) : Out :=
  let code := w.toNat % 2 ^ 16
  if s.isIn .factoryTest && faultListed code then
    let r := if w.getLsbD 16 then s.countFault code else ((code, false), s)
    let s := (r.2.when r.1.2 fun t => t.bump F.FLT_STATUS_PROMOTED 1).recordFault r.1.1 r.1.2
    .next (match faultClass r.1.1 with
      | 0 => s.flag G.FLT_WARN
      | 1 => s.flag G.FLT_CORR
      | 2 => s.flag G.FLT_CONT
      | _ => (s.flag G.FLT_FATAL).fatal r.1.1)
  else .next s

/-- How a re-read word compares with the value in force and the bits that programming set since: 0 no change, 1 a restrictive one, 2 any other (R509). -/
def State.otpChange (s : State) (reads : List (Nat × Word × Word × Word)) (w : Nat) : Nat :=
  let now := forceOf w (s.otpReads reads w)
  let was := s.otpWord w ||| bankRead (fun _ => 0#32) s.sec.trimNew w
  if now = was then 0 else if restrictiveWord w && decide (now &&& was = was) then 1 else 2
/-- The functions of Table SEC-4 that a change of a word suspends. -/
def State.suspendFor (s : State) (w : Nat) : State :=
  let on (i : Nat) : State := { s with sec := { s.sec with suspended := s.sec.suspended ||| 2 ^ i } }
  let roots (m : Nat) : State := { s with sec := { s.sec with rootsOff := s.sec.rootsOff ||| m } }
  if restrictiveWord w then on 6
  else if w < 0x20 then on 0
  else if w < 0x24 then on 1
  else if w < 0x44 ∨ w = 0x88 then on 2
  else if w < 0x55 ∨ w = 0x89 then on 3
  else if w < 0x75 then roots (2 ^ ((w - 0x55) / 4))
  else if w = 0x8A then roots 0xFF
  else if w < 0x7D ∨ w = 0x8B then on 5
  else s
/-- A full read of the run (R508, R509): restrictive changes come into force, others suspend a function. Each full read
raises 0x6604 and 0xA605 at most once, whatever number of words changed (DEDUCED, entry 121). -/
def State.rereadOtp (s : State) (reads : List (Nat × Word × Word × Word)) : State :=
  let before := s
  let ws := List.range 0x8F
  let zero (_ : Nat) : Word := 0#32
  let tight := ws.filter fun w => s.otpChange reads w == 1
  let other := ws.filter fun w => s.otpChange reads w == 2
  let force := tight.foldl (fun m w => bankWrite zero m w (forceOf w (s.otpReads reads w))) s.sec.force
  let marg := (List.range 256).foldl (fun m w => bankWrite zero m w (marginalBits (s.otpReads reads w))) []
  let s := forAll other (fun w t => t.suspendFor w)
    { s with sec := { s.sec with force := force, marg := marg, readTemp := some s.dieMax } }
  let s := ((s.showOtp.put F.OTP_STATUS_MARGINAL (!marg.isEmpty)).put F.OTP_STATUS_SUSPENDED
    (s.sec.suspended != 0 || s.sec.rootsOff != 0)).bump F.OTP_REREAD_COUNT 1
  let s := (s.set F.OTP_REREAD_TEMP s.dieMax).arm .otpDay (secs 86400)
  let s := s.gateMoved before
  let s := s.when (!tight.isEmpty) fun t => (t.raise 0x6604).flag G.OTP_CHANGED
  s.when (!other.isEmpty) fun t => (t.raise 0xA605).flag G.OTP_CHANGED
/-- 30.0 °C in class T codes. -/
def rereadSpan : Nat := 30 * 32
/-- OTP_FULL_REREAD (R508): after 24 h, or where the judgement of the die temperature finds 30.0 °C; the first judgement
after the boot read has no value to compare and sets it. -/
def execOtpFullReread (daily : Bool) (reads : List (Nat × Word × Word × Word)) (s : State) : Out :=
  if s.isAny [.romBoot, .deepWinter] then .next s
  else if daily then .next (s.onElapse .otpDay fun t => t.rereadOtp reads)
  else
    match s.sec.readTemp with
    | none => .next { s with sec := { s.sec with readTemp := some s.dieMax } }
    | some v => .next (if Nat.ble (v + rereadSpan) s.dieMax || Nat.ble (s.dieMax + rereadSpan) v then s.rereadOtp reads else s)

end Sys2Proof.Machine
end

