-- ==== Sys2Proof/Machine/TimeBase.lean ====
section
/-!
DEFINITION. Compare channels, alarms, reload timers and check-value units (TMB).
-/
namespace Sys2Proof.Machine

/-- An alarm that nothing has written. -/
def alarm0 (_ : Nat) : Alarm := {}
/-- A reload timer that nothing has written. -/
def tmr0 (_ : Nat) : Tmr := {}
/-- Alarm a. -/
def State.alarm (s : State) (a : Nat) : Alarm := bankRead alarm0 s.tmb.alarms a
/-- The state with alarm a changed. -/
def State.modAlarm (s : State) (a : Nat) (f : Alarm → Alarm) : State :=
  { s with tmb := { s.tmb with alarms := bankWrite alarm0 s.tmb.alarms a (f (s.alarm a)) } }
/-- Reload timer t. -/
def State.tmr (s : State) (t : Nat) : Tmr := bankRead tmr0 s.tmb.timers t
/-- The state with reload timer t changed. -/
def State.modTmr (s : State) (t : Nat) (f : Tmr → Tmr) : State :=
  { s with tmb := { s.tmb with timers := bankWrite tmr0 s.tmb.timers t (f (s.tmr t)) } }

/-- START of timer t (R569): CNT 0, TOP from TMR_PREt, RUN. -/
def State.tmrStart (s : State) (t : Nat) : State := s.modTmr t fun _ => { cnt := 0, top := s.get (F.TMR_PRE_PRE t), run := true }
/-- The master of timer t that acts on it: one of lower index (R570). -/
def State.tmrMaster (s : State) (t : Nat) : Option Nat := if s.get (F.TMR_CFG_MASTER t) < t then some (s.get (F.TMR_CFG_MASTER t)) else none
/-- Whether the master of timer t wrapped in this cycle. -/
def State.masterWrapped (s : State) (wraps : List Nat) (t : Nat) : Bool :=
  match s.tmrMaster t with
  | none => false
  | some m => wraps.contains m
/-- SMODE of timer t, 0 where its MASTER does not lie below it (R570). -/
def State.tmrMode (s : State) (t : Nat) : Nat := if (s.tmrMaster t).isSome then s.get (F.TMR_CFG_SMODE t) else 0
/-- Whether timer t receives a tick in this cycle (R569): `fabric` from the fabric clock, `strobe` the compare channel that
strobes. -/
def State.tmrTicked (s : State) (fabric : Bool) (strobe : Option Nat) (wraps : List Nat) (t : Nat) : Bool :=
  let src := s.get (F.TMR_CFG_CSRC t)
  if src = 1 then decide (strobe = some (s.get (F.TMR_CFG_CSEL t)))
  else if src = 2 then s.masterWrapped wraps t
  else fabric
/-- Whether the gate of timer t is open: not gated, or its master runs (R570). -/
def State.tmrGate (s : State) (t : Nat) : Bool :=
  s.tmrMode t != 1 || (match s.tmrMaster t with | some m => (s.tmr m).run | none => true)
/-- Timer t counts a tick (R568), answering whether it wraps. -/
def State.tmrCount (s : State) (t : Nat) : Bool × State :=
  let r := s.tmr t
  if r.cnt < r.top then (false, s.modTmr t fun r => { r with cnt := r.cnt + 1 })
  else
    let one := s.has (F.TMR_CFG_ONESHOT t)
    (true, (s.modTmr t fun r => { cnt := 0, top := s.get (F.TMR_PRE_PRE t), run := r.run && !one }).flag (G.TMR_WRAP t))
/-- Timer t in one fabric cycle, with the timers that wrapped before it in index order (R568–R571). -/
def State.tmrCycle (s : State) (fabric : Bool) (strobe : Option Nat) (wraps : List Nat) (t : Nat) : List Nat × State :=
  let was := (s.tmr t).run
  let go := was && s.tmrTicked fabric strobe wraps t && s.tmrGate t
  let r := if go then s.tmrCount t else (false, s)
  let mw := s.masterWrapped wraps t
  let u := r.2.when (mw && s.tmrMode t == 2) fun v => v.modTmr t fun x => { x with cnt := 0, top := s.get (F.TMR_PRE_PRE t) }
  let u := u.when (mw && s.tmrMode t == 3 && !was) fun v => v.tmrStart t
  (if r.1 then wraps ++ [t] else wraps, u)
/-- One fabric cycle of all timers in index order (R571). -/
def State.tmrRound (s : State) (fabric : Nat → Bool) (strobe : Option Nat) : State :=
  ((List.range 16).foldl (fun p t => p.2.tmrCycle (fabric t) strobe p.1 t) (([] : List Nat), s)).2

/-- P of compare channel c in force (R579). -/
def State.cmpP (s : State) (c : Nat) : Nat := clampNat 2 26 (s.get (F.CMP_CFG_P c))
/-- Fabric cycles to the next strobe of channel c (R566): its next match from the present cycle on, or from the first cycle in which
it may strobe again. -/
def State.cmpWait (s : State) (c : Nat) : Nat :=
  let m := 2 ^ s.cmpP c
  let d := bankRead (fun _ => 0) s.tmb.cmpFrom c - s.now
  d + (s.get (F.CMP_CFG_PHASE c) % m + m - (s.tb + d) % m) % m
/-- Channel c strobes no earlier than a number of cycles from now. -/
def State.cmpHold (s : State) (c n : Nat) : State :=
  { s with tmb := { s.tmb with cmpFrom := bankWrite (fun _ => 0) s.tmb.cmpFrom c (s.now + n) } }
/-- COMPARE_STROBE (R566, R571): the next match of channel c comes, counts, and ticks the timers it feeds. -/
def execCompareStrobe (c : Fin 48) (s : State) : Out :=
  if s.tbZero.isSome && s.has (F.CMP_CFG_EN c) then
    let s := (s.advanceTo (s.now + s.cmpWait c)).cmpHold c 1
    let f : Fld := ⟨R.CMP_CNT (c / 4), 8 * (c % 4), 8⟩
    .next ((s.set f (s.get f + 1)).tmrRound (fun _ => false) (some c.val))
  else .next s
/-- CMP_CFG_WRITE (R566, R579): in force from the next cycle, in which no strobe falls (DEDUCED, entry 63). -/
def execCmpCfgWrite (c : Fin 48) (w : Word) (s : State) : Out := .next ((s.setWord (R.CMP_CFG c) w).cmpHold c 2)

/-- An alarm fires (R567): its capture trigger is input 4 of CAP_TRIG (R155). -/
def State.fireAlarm (s : State) (a : Nat) : State :=
  let late := (s.alarm a).overdue
  ((s.modAlarm a fun x => { x with en := false, late := late, overdue := false }).flag (G.ALM_FIRED a)).captureEvent 4
    (decide (s.get F.CAP_TRIG_SEL = a))
/-- The alarm that ALM_SEL selects. -/
def State.selAlarm (s : State) : Nat := s.get F.ALM_SEL_A
/-- ALARM_ATL_WRITE (R567). -/
def execAlarmAtlWrite (w : Word) (s : State) : Out := .next (s.modAlarm s.selAlarm fun x => { x with held := w.toNat })
/-- ALARM_SET_TIME (R567): the new AT takes effect; in the cycle in which TB equals the old AT an armed alarm fires first. -/
def execAlarmSetTime (w : Word) (s : State) : Out :=
  let a := s.selAlarm
  let x := s.alarm a
  let s := s.when (x.en && !x.overdue && decide (x.time = s.tb)) fun t => t.fireAlarm a
  .next (s.modAlarm a fun x =>
    let at' := w.toNat * 2 ^ 32 + x.held
    { x with time := at', overdue := x.en && Nat.ble at' s.tb })
/-- ALARM_ARM (R567, R580): a committed write of ALM_CTL. -/
def execAlarmArm (w : Word) (s : State) : Out :=
  let on := w.getLsbD 31
  .next (s.modAlarm s.selAlarm fun x =>
    { x with en := on, owner := w.toNat / 2 ^ 24 % 32, overdue := on && Nat.ble x.time s.tb })
/-- ALARM_FIRE (R567): an armed alarm's moment comes, the next fabric cycle where AT lay at or below TB. -/
def execAlarmFire (a : Fin 32) (s : State) : Out :=
  let x := s.alarm a
  if s.tbZero.isSome && x.en then
    .next ((s.advanceTo (s.now + if x.overdue then 1 else x.time - s.tb)).fireAlarm a)
  else .next s

/-- TIMER_TICK (R568): a cycle of the fabric clock as timer t counts it, with what its wrap does to timers above it. -/
def execTimerTick (t : Fin 16) (s : State) : Out := .next (s.tmrRound (fun i => i == t.val) none)
/-- TIMER_START (R569, R581): the START bits of a committed TMR_CTL; where STOP is also 1 the timer stops. -/
def execTimerStart (w : Word) (s : State) : Out :=
  .next (forAll ((List.range 16).filter fun t => w.getLsbD t && !w.getLsbD (16 + t)) (fun t u => u.tmrStart t) s)
/-- TIMER_STOP (R569): the STOP bits of a committed TMR_CTL. -/
def execTimerStop (w : Word) (s : State) : Out :=
  .next (forAll ((List.range 16).filter fun t => w.getLsbD (16 + t)) (fun t u => u.modTmr t fun r => { r with run := false }) s)

/-- The algorithm of unit u. -/
def State.crcUnit (s : State) (u : Nat) : CrcAlg := crcAlg (s.get (F.CRC_CFG_ALG u))
/-- A refused write of unit u (R574). -/
def State.crcRefuse (s : State) (u : Nat) : State := s.flag (G.CRC_REFUSED u)
/-- Whether unit u is claimed by another than a writer (R574). -/
def State.crcForeign (s : State) (u writer : Nat) : Bool :=
  let o := s.get (F.CRC_STATUS_OWNER u)
  o != 0x1F && o != writer
/-- The running value of unit u, with the result that it shows. -/
def State.crcSet (s : State) (u v : Nat) : State :=
  (s.set (F.CRC_CTX_CTX u) v).set (F.CRC_RES_RESULT u) (crcFinal (s.crcUnit u) v)
/-- The prefix that precedes the first data byte (R576). -/
def State.crcPrefix (s : State) (u : Nat) : List Byte :=
  if s.get (F.CRC_CFG_FOLD_MODE u) = 1 && !s.has (F.CRC_STATUS_FOLDED u) then
    leBytes (2 ^ min 2 (s.get (F.CRC_CFG_FOLD_LEN u))) (s.get (F.CRC_FOLD_FOLD u))
  else []
/-- Unit u absorbs data bytes (R575, R576). -/
def State.crcAbsorb (s : State) (u : Nat) (bs : List Byte) : State :=
  if bs.isEmpty then s
  else
    let p := s.crcPrefix u
    let s := s.crcSet u (crcFeed (s.crcUnit u) (s.get (F.CRC_CTX_CTX u)) (p ++ bs))
    (s.when (!p.isEmpty) fun t => t.put (F.CRC_STATUS_FOLDED u) true).bump (F.CRC_STATUS_COUNT u) bs.length
/-- CRC_INIT (R574, R582): a write of CRC_CFGu, claiming the unit where INIT is 1. -/
def execCrcInit (u : Fin 4) (writer : Fin 17) (w : Word) (s : State) : Out :=
  let foreign := s.crcForeign u writer
  let init := w.getLsbD 31
  if foreign && (!init || s.has (F.CRC_STATUS_BUSY u)) then .next (s.crcRefuse u)
  else
    let s := s.setWord (R.CRC_CFG u) (w &&& 0x0FF00000#32)
    if init then
      let a := s.crcUnit u
      let v0 := crcView a a.init
      let v := if s.get (F.CRC_CFG_FOLD_MODE u) = 2 then v0 ^^^ (s.get (F.CRC_FOLD_FOLD u) % 2 ^ a.width) else v0
      let s := ((s.set (F.CRC_STATUS_OWNER u) writer).set (F.CRC_STATUS_COUNT u) 0).put (F.CRC_STATUS_FOLDED u) false
      .next (s.crcSet u v)
    else .next (s.crcSet u (s.get (F.CRC_CTX_CTX u)))
/-- Whether a feed, a GO or a CTX write of a writer is refused (R574). -/
def State.crcBars (s : State) (u writer : Nat) : Bool := s.crcForeign u writer || s.has (F.CRC_STATUS_BUSY u)
/-- CRC_FEED (R575): the low 1, 2 or 4 bytes of the word. -/
def execCrcFeed (u : Fin 4) (writer : Fin 17) (w : Word) (s : State) : Out :=
  if s.crcBars u writer then .next (s.crcRefuse u)
  else .next (s.crcAbsorb u (leBytes (2 ^ min 2 (s.get (F.CRC_CFG_WIDTH u))) w.toNat))
/-- CRC_BLOCK (R575, R582): a write of CRC_BLKLu; with GO the block begins, refused where LEN is 0. -/
def execCrcBlock (u : Fin 4) (writer : Fin 17) (w : Word) (s : State) : Out :=
  let go := w.getLsbD 31
  if s.crcForeign u writer || (go && (s.has (F.CRC_STATUS_BUSY u) || w.toNat % 2 ^ 16 == 0)) then .next (s.crcRefuse u)
  else .next ((s.setWord (R.CRC_BLKL u) (w &&& 0x6000FFFF#32)).when go fun t => t.put (F.CRC_STATUS_BUSY u) true)
/-- Shared SRAM bytes that nothing has written read 0. -/
def sramZero (_ : Nat) : Byte := 0#8
/-- Addresses of a block in shared SRAM, within the 20 bits of CRC_BLKAu. -/
def sramAddr (base i : Nat) : Nat := (base + i) % 2 ^ 20
/-- Bytes of shared SRAM. -/
def State.sramRead (s : State) (base n : Nat) : List Byte := (List.range n).map fun i => bankRead sramZero s.sram (sramAddr base i)
/-- Bytes stored in shared SRAM. -/
def State.sramWrite (s : State) (base : Nat) (bs : List Byte) : State :=
  { s with sram := bs.zipIdx.foldl (fun m e => bankWrite sramZero m (sramAddr base e.2) e.1) s.sram }
/-- A final value as it lies in memory (R577). -/
def crcBytes (a : CrcAlg) (v : Nat) : List Byte := if a.refl then leBytes (a.width / 8) v else beBytes (a.width / 8) v
/-- CRC_BLOCK_COMPLETE (R575–R577): the block is absorbed; MODE appends, or strips and compares. A STRIP shorter than a
check value has no stated outcome. -/
def execCrcBlockComplete (u : Fin 4) (s : State) : Out :=
  if ! s.has (F.CRC_STATUS_BUSY u) then .next s
  else
    let base := s.get (F.CRC_BLKA_ADDR u)
    let len := s.get (F.CRC_BLKL_LEN u)
    let mode := s.get (F.CRC_BLKL_MODE u)
    let a := s.crcUnit u
    let n := a.width / 8
    let bytes := s.sramRead base len
    let s := s.put (F.CRC_STATUS_BUSY u) false
    if mode = 1 then
      let s := s.crcAbsorb u bytes
      .next (s.sramWrite (base + len) (crcBytes a (s.get (F.CRC_RES_RESULT u))))
    else if mode = 2 then
      let s := s.crcAbsorb u (bytes.take (len - n))
      let short := Nat.blt len n
      let f := s.takeFree
      let ok := if short then f.1 % 2 == 1 else decide (bytes.drop (len - n) = crcBytes a (s.get (F.CRC_RES_RESULT u)))
      let s := (if short then f.2 else s).put (F.CRC_STATUS_MATCH u) ok
      .next (s.when (!ok) fun t => t.flag (G.CRC_MISMATCH u))
    else .next (s.crcAbsorb u bytes)
/-- CRC_CTX_RESTORE (R578): a write of CRC_CTXu sets the running value and FOLDED. -/
def execCrcCtxRestore (u : Fin 4) (writer : Fin 17) (w : Word) (s : State) : Out :=
  if s.crcBars u writer then .next (s.crcRefuse u)
  else .next ((s.crcSet u (w.toNat % 2 ^ (s.crcUnit u).width)).put (F.CRC_STATUS_FOLDED u) true)
/-- A write of CRC_BLKAu (R574, R582). -/
def State.writeBlka (s : State) (u writer : Nat) (w : Word) : State :=
  if s.crcForeign u writer then s.crcRefuse u else s.setWord (R.CRC_BLKA u) (w &&& 0xFFFFF#32)

/-- The block with no command waiting: a frame passes. -/
def State.idle (s : State) : State := { s with now := s.now + frameCycles }

end Sys2Proof.Machine
end

