-- ==== Sys2Proof/Machine/RegOps.lean ====
section
/-!
DEFINITION. The register pages as a reader and a writer meet them: which pages are served (Table SEA-5), what a word reads
(the stored fields, and the fields that show other state), and what a committed word does, field by field (R539).
-/
namespace Sys2Proof.Machine

/-- The state a command leaves. -/
def outState (o : Out) (s : State) : State :=
  match o with
  | .next t => t
  | _ => s

/-- Pages reserved by R609. -/
def pageReserved (p : Nat) : Bool := (Nat.ble 0x22 p && Nat.ble p 0x2F) || p == 0x37 || Nat.ble 0x40 p
/-- Whether a page is served over I²C in the present state (Table SEA-5, R540). -/
def State.pageServed (s : State) (p : Nat) : Bool :=
  !pageReserved p &&
  (if s.isAny [.romBoot, .deepWinter] then p == 0 || p == 6
   else if s.isIn .romRecovery then [0, 1, 2, 3, 6, 9].contains p
   else true)
/-- Pages of units that are off in Off-season: module ports, rails, sequencer and link, and the hub (Tables SEA-1, SEA-5). -/
def State.pageOff (s : State) (p : Nat) : Bool :=
  s.isIn .offSeason && ((Nat.ble 0x10 p && Nat.ble p 0x1F) || (Nat.ble 0x30 p && Nat.ble p 0x35) || p == 0x3C)

/-- HIF_IRQ (R546, R559). -/
def State.irqWord (s : State) : Word :=
  let m := b2n (decide (s.get F.MBX_STATUS_STATE = 2)) + 2 * b2n (decide (s.get F.EVT_WR_WR ≠ s.get F.EVT_RD_RD)) + 4 * b2n s.hif.lostChanged
  BitVec.ofNat 32 (m + 8 * b2n (m &&& s.get F.HIF_IRQ_EN_EN != 0))
/-- Whether a request is pending (R546). -/
def State.irqPending (s : State) : Bool := s.irqWord.getLsbD 3
/-- Word w of the record m of the event window taken last (R563). -/
def State.eventWord (s : State) (m w : Nat) : Word :=
  match s.hif.window[m]? with
  | none => 0#32
  | some e => BitVec.ofNat 32
      (if w = 0 then e.dseq else if w = 1 then e.flags * 2 ^ 24 + e.source * 2 ^ 16 + e.code
       else if w = 2 then e.tb else e.tb / 2 ^ 32)
/-- Records in the event window, 0–14. -/
def State.windowSize (s : State) : Nat := min 14 s.unread
/-- FLT_ESC_ST of the selected source (R495). -/
def State.escWord (s : State) : Word :=
  let e := bankRead (fun _ => ({} : Esc)) s.flt.esc (s.get F.FLT_ESC_SEL_SRC)
  if e.count = 0 then 0#32 else BitVec.ofNat 32 (min 0xFFFF ((s.now - e.openedAt) / msec 10) * 2 ^ 16 + e.count)
/-- SAF_DWTIME (R475). -/
def State.dwTime (s : State) : Word :=
  let inDw := match s.island.dwAt with
    | none => 0
    | some t => if s.isIn .deepWinter then min 0xFFFF ((s.now - t) / msec 1) else 0
  BitVec.ofNat 32 (s.dwSince * 2 ^ 16 + inDw)
/-- LAST of a session, 0 − 1 where none has been accepted (R513). -/
def State.sesLast (s : State) (n : Nat) : Nat := (sessionVal s.sec.last n + 2 ^ 32 - 1) % 2 ^ 32
/-- SES_INFO of a session (R529). -/
def State.sesInfo (s : State) (n : Nat) : Word :=
  let raising := Nat.blt (sessionVal s.sec.ceil n) (sessionVal s.boot.marksDue n)
  let derived := s.has F.PROT_STATUS_SEALED && s.regionOk 1 && s.regionOk 4 && s.rootProgrammed (n / 16)
  BitVec.ofNat 32 (8 * b2n raising + 4 * b2n (s.sec.exhausted.contains n) + 2 * b2n (s.sessionUsable n) + b2n derived)
/-- Whether an OTP word is scrambled (Table SEC-1). -/
def scrambledWord (w : Nat) : Bool := Nat.ble 0x55 w && Nat.ble w 0x7C
/-- Hours since the last full read of the OTP (R525). -/
def State.otpHours (s : State) : Nat :=
  match s.deadline .otpDay with
  | none => 0
  | some d => (s.now + secs 86400 - d) / secs 3600
/-- A number whose bit i, i < n, tells whether a test holds of i. -/
def maskOf (n : Nat) (p : Nat → Bool) : Nat := (List.range n).foldl (fun m i => if p i then m + 2 ^ i else m) 0
/-- ALM_CTL of the selected alarm (R580). -/
def State.almCtl (s : State) : Word :=
  let a := s.alarm s.selAlarm
  BitVec.ofNat 32 (b2n a.en * 2 ^ 31 + b2n a.late * 2 ^ 30 + a.owner * 2 ^ 24)
/-- MSR_PEEK of the selected channel (R145). -/
def State.peekWord (s : State) : Word :=
  let e := bankRead (fun _ => (0, 0, 0)) s.msr.res (s.get F.MSR_PEEK_SEL_CHAN)
  if e.1 = 0 then 0xFFFF0000#32
  else BitVec.ofNat 32 (min 0xFFFF ((s.now - e.2.2) / frameCycles) * 2 ^ 16 + e.2.1 % 4 * 2 ^ 14 + (e.1 - 1) % 2 ^ 14)
/-- The trace entry that SQC_TRC_SEL selects (R350). -/
def State.trcEntry (s : State) : Word × Word := bankRead (fun _ => (0#32, 0#32)) s.seq.traceRam (s.get F.SQC_TRC_SEL_IDX)
/-- AXL_STATUS (R353). -/
def State.axlWord (s : State) : Word :=
  let link := maskOf 4 fun n => n == s.chainPos || (s.linkOn && Nat.blt n s.chainSize && Nat.blt (s.linkAge n) 4 &&
    s.axl.peers.any fun p => p.1 == n)
  let joined := if s.isMaster then s.axl.arm else s.axl.joined
  s.word R.AXL_STATUS ||| BitVec.ofNat 32 (s.chainPos * 2 ^ 30 + b2n s.isMaster * 2 ^ 29 + b2n joined * 2 ^ 28 +
    b2n s.axl.cascHigh * 2 ^ 27 + b2n s.cascOut * 2 ^ 26 + link)
/-- AXL_PEERn (R354). -/
def State.peerWord (s : State) (n : Nat) : Word :=
  match s.axl.peers.find? fun p => p.1 == n with
  | none => 0#32
  | some p => BitVec.ofNat 32 (p.2.2.1 * 2 ^ 16 + p.2.1 % 256 * 2 ^ 8 + min 255 (s.linkAge n))
/-- Whether the port 9 sink switch is on (Table ATT-7). -/
def State.sinkPath (s : State) : Bool := s.isIn .offSeason || (!s.isIn .factoryTest && !s.env.vinOk)
/-- MSR_SAFEn or MSR_DUALn as they read: forced bits 1, those of absent units 0 (R134). -/
def State.markWord (marked : Nat → Bool) (n : Nat) : Word := BitVec.ofNat 32 (maskOf 32 fun i => marked (32 * n + i))
/-- MGT_STATUS of a management function (R419). -/
def State.mgtWord (s : State) (f : Fin 2) : Word :=
  let w := (F.MGT_STATUS_PRESENT f.val).insert (s.word (R.MGT_STATUS f.val)) (b2n (s.fnPresent f))
  let w := (F.MGT_STATUS_BUSY f.val).insert w (b2n (s.mgt[f]).busy)
  (F.MGT_STATUS_EVT_IDX f.val).insert w (s.mgt[f]).idx

/-- Words on pages 0x00–0x0F that show other state. -/
def State.readLow (s : State) (a : Nat) : Option Word :=
  if a = R.HIF_IRQ then some s.irqWord
  else if a = R.HIF_STATUS then some (s.word a ||| BitVec.ofNat 32 (2 * b2n s.env.sclHigh + b2n s.env.sdaHigh))
  else if a = R.EVT_STATUS then some (s.word a ||| BitVec.ofNat 32 (s.unread * 2 ^ 8 + s.windowSize))
  else if Nat.ble (R.EVT_REC 0) a && Nat.blt a (R.EVT_REC 56) then some (s.eventWord ((a - R.EVT_REC 0) / 16) ((a - R.EVT_REC 0) % 16 / 4))
  else if a = R.FLT_STATUS then some (F.FLT_STATUS_QUEUED.insert (s.word a) s.flt.queue.length)
  else if a = R.FLT_ESC_ST then some s.escWord
  else if a = R.SAF_STATUS then some (F.SAF_STATUS_RESTART_OK.insert (s.word a) (b2n (s.island.restartEn && Nat.ble 600 s.dwSince)))
  else if a = R.SAF_DWTIME then some s.dwTime
  else if a = R.SES_LAST then some (BitVec.ofNat 32 (s.sesLast (s.get F.SES_SEL_SES)))
  else if a = R.SES_CEIL then some (BitVec.ofNat 32 (sessionVal s.sec.ceil (s.get F.SES_SEL_SES)))
  else if a = R.SES_INFO then some (s.sesInfo (s.get F.SES_SEL_SES))
  else if a = R.OTP_READ then some (if scrambledWord (s.get F.OTP_SEL_WORD) then 0#32 else s.otpWord (s.get F.OTP_SEL_WORD))
  else if a = R.OTP_MARG then
    some (if scrambledWord (s.get F.OTP_SEL_WORD) then 0#32 else bankRead (fun _ => 0#32) s.sec.marg (s.get F.OTP_SEL_WORD))
  else if a = R.OTP_REREAD then some (F.OTP_REREAD_HOURS.insert (s.word a) (min 255 s.otpHours))
  else if a = R.TB_LO then some (BitVec.ofNat 32 s.tb)
  else if a = R.TB_HI then some (BitVec.ofNat 32 (s.tb / 2 ^ 32))
  else if a = R.ALM_CTL then some s.almCtl
  else if a = R.ALM_ATL then some (BitVec.ofNat 32 (s.alarm s.selAlarm).time)
  else if a = R.ALM_ATH then some (BitVec.ofNat 32 ((s.alarm s.selAlarm).time / 2 ^ 32))
  else if a = R.ALM_ARMED then some (BitVec.ofNat 32 (maskOf 32 fun i => (s.alarm i).en))
  else if a = R.TMR_CNT then some (BitVec.ofNat 32 (s.tmr (s.get F.TMR_SEL_T)).cnt)
  else if a = R.TMR_TOP then some (BitVec.ofNat 32 (s.tmr (s.get F.TMR_SEL_T)).top)
  else if a = R.TMR_RUN then some (BitVec.ofNat 32 (maskOf 16 fun t => (s.tmr t).run))
  else if a = R.BUS_STATUS then
    some (F.BUS_STATUS_VIN_OK.insert (F.BUS_STATUS_OVP.insert (s.word a) (b2n s.env.vinOvp)) (b2n s.env.vinOk))
  else if a = R.CLK_STATUS then
    some (F.CLK_STATUS_SS_LOCK.insert (s.word a) (b2n (s.has F.CLK_STATUS_SS_LOCK && !s.unitOff 0)))
  else if a = R.FRAME_POS then some (BitVec.ofNat 32 (s.tb / 32768 % 2 ^ 19 * 2 ^ 13 + s.tb / 1024 % 32 * 2 ^ 8 + s.tb % 1024 / 4))
  else none
/-- BRK_TIME.T_OFF: the off-time remaining in units of 100 ms, saturated (R294). -/
def State.offTime (s : State) (k : PortId) : Nat :=
  match s.deadline (.retryOff k) with
  | none => 0
  | some d => min 0xFFFF ((d - s.now) / msec 100)
/-- ATT_STATUS: DRY reads 3 with wet-port detection disabled (R176), SNK_PATH stands on port 9 alone (R182). -/
def State.attWord (s : State) (k : PortId) : Word :=
  let w := if s.wetOn || !s.portPresent k then s.word (R.ATT_STATUS k) else (F.ATT_STATUS_DRY k).insert (s.word (R.ATT_STATUS k)) 3
  if k.isModule then w else (F.ATT_STATUS_SNK_PATH k).insert w (b2n s.sinkPath)
/-- Words of port k that show other state (R182, R260, R294). -/
def State.readPort (s : State) (k : PortId) (a : Nat) : Option Word :=
  if a = R.BRK_TIME k then some ((F.BRK_TIME_T_OFF k).insert (s.word a) (s.offTime k))
  else if a = R.ATT_STATUS k then some (s.attWord k)
  else if a = R.CNV_MEAS k && k.isModule then some (BitVec.ofNat 32 (min 0xFFFF (s.portMa k) * 2 ^ 16 + min 0xFFFF (s.vrcp k)))
  else none
/-- Words of rail j that show other state (R384). -/
def State.readRail (s : State) (j : RailId) (a : Nat) : Option Word :=
  if ! s.railPresent j then none
  else if a = R.SQ_EFF j then some (BitVec.ofNat 32 (s.ovFault j * 2 ^ 16 + s.uvFault j))
  else if a = R.SQ_EFF2 j then some (BitVec.ofNat 32 (s.ovWarn j * 2 ^ 16 + s.uvWarn j))
  else if a = R.SQ_MEAS j then some ((F.SQ_MEAS_REG_MV j).insert (s.word a) (s.regMv j))
  else none
/-- Words on pages 0x34–0x3E that show other state. -/
def State.readHigh (s : State) (a : Nat) : Option Word :=
  if a = R.SQC_STATUS then some (F.SQC_STATUS_ON.insert (s.word a) (maskOf 16 fun j => s.has (F.SQ_STATUS_EN (railId j))))
  else if a = R.SQC_TRC0 then some s.trcEntry.1
  else if a = R.SQC_TRC1 then some s.trcEntry.2
  else if a = R.AXL_STATUS then some s.axlWord
  else if a = R.AXL_CYCL then some (BitVec.ofNat 32 s.axl.cyc)
  else if a = R.AXL_CYCH then some (BitVec.ofNat 32 (s.axl.cyc / 2 ^ 32))
  else if Nat.ble (R.AXL_PEER 0) a && Nat.blt a (R.AXL_PEER 4) then some (s.peerWord ((a - R.AXL_PEER 0) / 4))
  else if Nat.ble (R.MSR_SAFE 0) a && Nat.blt a (R.MSR_SAFE 5) then some (State.markWord s.safeMarked ((a - R.MSR_SAFE 0) / 4))
  else if Nat.ble (R.MSR_DUAL 0) a && Nat.blt a (R.MSR_DUAL 5) then some (State.markWord s.dualMarked ((a - R.MSR_DUAL 0) / 4))
  else if a = R.MSR_PEEK then some s.peekWord
  else if a = R.SCH_CTRL then some (BitVec.ofNat 32 (b2n (s.has F.SCH_STATUS_BUSY)))
  else if a = R.SCH_DATA then
    some (entryAt (if s.has F.SCH_ADDR_RD_ACTIVE then s.activeBank else s.shadowBank) (s.get F.SCH_ADDR_INDEX))
  else if a = R.CAP_SPILL then some (F.CAP_SPILL_BUSY.insert (F.CAP_SPILL_SLOTS.insert (s.word a) s.spillSlots) (b2n s.spilling))
  else if a = R.TLM_STATUS then
    some (F.TLM_STATUS_ACTIVE.insert (F.TLM_STATUS_RAW_ONLY.insert (s.word a) (b2n (s.unitOff 1))) (maskOf 8 s.streamRuns))
  else if a = R.HIS_STATUS then some (F.HIS_STATUS_BUSY.insert (s.word a) (b2n (s.his.dayDue.isSome || s.his.cpDue)))
  else if a = R.HUB_STATUS then
    some (F.HUB_STATUS_SS_STOPPED.insert (s.word a) (b2n (s.has F.HUB_STATUS_SS_STOPPED || s.unitOff 0)))
  else if a = R.MGT_STATUS 0 then some (s.mgtWord 0)
  else if a = R.MGT_STATUS 1 then some (s.mgtWord 1)
  else none
/-- The port whose pages an address lies on. -/
def pagePort (a : Nat) : PortId := portId ((a / 256 - 0x10) / 2)
/-- The rail whose block an address lies in, on pages 0x30–0x33. -/
def pageRail (a : Nat) : RailId := railId (4 * (a / 256 - 0x30) + min 3 (a % 256 / 0x3C))
/-- Words that are taken together when byte 0 of the first is read: its address and those of the others (R156, R309, R347,
R350, R354, R384, R470, R493, R524, R529, R557, R563, R565, R581). -/
def takenGroups : List (Nat × List Nat) :=
  [(R.SYS_SEQ_LAST_HSEQ, [R.SYS_SEQ_NEXT_DSEQ, R.SYS_SEQ_LAST, R.SYS_SEQ_PREV_HSEQ, R.SYS_SEQ_PREV_DSEQ]),
   (R.EVT_STATUS, [R.EVT_WR]), (R.FLT_LAST, [R.FLT_LAST_TBL, R.FLT_LAST_TBH]), (R.SAF_TRIP_TBL, [R.SAF_TRIP_TBH]),
   (R.SES_LAST, [R.SES_CEIL, R.SES_INFO]), (R.OTP_READ, [R.OTP_MARG]), (R.TB_LO, [R.TB_HI]), (R.TMR_CNT, [R.TMR_TOP]),
   (R.BUD_STATUS, [R.BUD_VIN]), (R.SQC_STATUS, [R.SQC_RAILS]), (R.SQC_TRC0, [R.SQC_TRC1]), (R.AXL_CYCL, [R.AXL_CYCH]),
   (R.CAP_TBL, [R.CAP_TBH])] ++
  allRails.map fun j => (R.SQ_EFF j, [R.SQ_EFF2 j, R.SQ_MEAS j])
/-- The words taken with a word. -/
def followersOf (a : Nat) : List Nat := ((takenGroups.find? fun g => g.1 == a).map (·.2)).getD []
/-- Whether a word reads as it was taken with another. -/
def isTaken (a : Nat) : Bool := takenGroups.any fun g => g.2.contains a
/-- What a register word holds: stored fields and shown ones; reserved words and words of units that are off read 0 (R609,
Table SEA-5). -/
def State.liveReg (s : State) (a : Nat) : Word :=
  let p := a / 256
  if s.pageOff p || (regFam? a).isNone then 0#32
  else if p < 0x10 then (s.readLow a).getD (s.word a)
  else if p < 0x22 then (s.readPort (pagePort a) a).getD (s.word a)
  else if p < 0x34 then (s.readRail (pageRail a) a).getD (s.word a)
  else (s.readHigh a).getD (s.word a)
/-- What a register word reads: a word taken with another as it was taken, any other as it stands. DEDUCED (entry 109): until
its first word has been read such a word reads its reset value, 0. -/
def State.readReg (s : State) (a : Nat) : Word :=
  if isTaken a && !s.pageOff (a / 256) then bankRead (fun _ => 0#32) s.hif.taken a else s.liveReg a
/-- Byte 0 of a word is read: the words of its group are taken. -/
def State.takeGroup (s : State) (a : Nat) : State :=
  { s with hif := { s.hif with taken := (followersOf a).foldl (fun m b => bankWrite (fun _ => 0#32) m b (s.liveReg b)) s.hif.taken } }
/-- EVT_STATUS is read: the window is taken and the LOST condition cleared (R559, R563). -/
def State.takeWindow (s : State) : State :=
  let n := s.windowSize
  let from' := s.hif.ring.length - s.unread
  { s with hif := { s.hif with window := (s.hif.ring.drop from').take n, lostChanged := false } }
/-- What the read of a word does beside answering it (R128, R415, R474, R563). -/
def State.readEffect (s : State) (a : Nat) : State :=
  let s := s.when (!(followersOf a).isEmpty) fun t => t.takeGroup a
  if a = R.EVT_STATUS then s.takeWindow
  else if a = R.SAF_XCHK then outState (execSafXchkRead s) s
  else if a = R.HUB_BUF then outState (execHubBufRead s) s
  else if a = R.SCH_DATA then outState (execSchDataRead s) s
  else s

/-- EVT_RD is written, clamped to the ring (R555; DEDUCED, entry 133: what is behind EVT_WR and what is ahead of it). -/
def State.writeEvtRd (s : State) (v : Nat) : State :=
  let wr := s.get F.EVT_WR_WR
  let back := (wr + 2 ^ 32 - v) % 2 ^ 32
  let n := s.hif.ring.length
  s.set F.EVT_RD_RD (if back ≤ n then v else if back < 2 ^ 31 then (wr + 2 ^ 32 - n) % 2 ^ 32 else wr)
/-- MBX_CTRL is committed: GO or TAKE (R561). -/
def State.writeMbxCtrl (s : State) (w : Word) : State :=
  if w.getLsbD 0 then outState (execMbxGo (BitVec.ofNat 8 (w.toNat / 2 ^ 16)) s) s
  else if w.getLsbD 8 then outState (execMbxTake s) s
  else s
/-- A word of a CRC unit is committed by host software, writer 16; none where the word has no effect of its own (R574). -/
def State.writeCrc (s : State) (a : Nat) (w : Word) : Option State :=
  let u : Fin 4 := ⟨a % 128 / 32 % 4, by omega⟩
  if a < R.CRC_CFG 0 ∨ R.CRC_CFG 4 ≤ a then none
  else if a = R.CRC_CFG u then some (outState (execCrcInit u 16 w s) s)
  else if a = R.CRC_FEED u then some (outState (execCrcFeed u 16 w s) s)
  else if a = R.CRC_BLKA u then some (s.writeBlka u 16 w)
  else if a = R.CRC_BLKL u then some (outState (execCrcBlock u 16 w s) s)
  else if a = R.CRC_CTX u then some (outState (execCrcCtxRestore u 16 w s) s)
  else none
/-- Words on the timer page that act on the selected alarm or on timers (R580, R581). -/
def State.writeTmr (s : State) (a : Nat) (w : Word) : Option State :=
  if a = R.ALM_CTL then some (outState (execAlarmArm w s) s)
  else if a = R.ALM_ATL then some (outState (execAlarmAtlWrite w s) s)
  else if a = R.ALM_ATH then some (outState (execAlarmSetTime w s) s)
  else if a = R.TMR_CTL then some (outState (execTimerStop w (outState (execTimerStart w s) s)) s)
  else none
/-- Words of the data units that act beyond their fields (R155, R388, R417, R429–R432, R441, R442). -/
def State.writeData (s : State) (a : Nat) (w : Word) : Option State :=
  if a = R.FFL_SEL then some (outState (execFflSelLoad w s) s)
  else if a = R.HIS_SEL then some (outState (execHisSelLoad w s) s)
  else if a = R.CAP_CTRL then some (outState (execCaptureArm w s) s)
  else if a = R.CAP_SPILL then
    let t := s.setWord a ((s.word a &&& ~~~ 3#32) ||| (w &&& 3#32))
    some (t.when (w.getLsbD 2) fun u => outState (execCaptureRelease u) u)
  else if a = R.CAP_SEND then
    some (s.when (w.getLsbD 8) fun t => outState (execCaptureSend (BitVec.ofNat 8 w.toNat) (w.getLsbD 9) t) t)
  else if a = R.HUB_CTRL then some (outState (execHubCounterClear w s) s)
  else if h : R.TLM_STR 0 ≤ a ∧ a < R.TLM_STR 8 then
    some (outState (execTlmStrWrite ⟨(a - R.TLM_STR 0) / 4, by simp only [R.TLM_STR] at h ⊢; omega⟩ w s) s)
  else none
/-- A committed word that acts beyond its fields. -/
def State.writeSpecial (s : State) (a : Nat) (w : Word) : Option State :=
  if a = R.EVT_RD then some (s.writeEvtRd w.toNat)
  else if a = R.MBX_CTRL then some (s.writeMbxCtrl w)
  else if a = R.FLT_INJ then some (outState (execFltInj w s) s)
  else if h : R.CMP_CFG 0 ≤ a ∧ a < R.CMP_CFG 48 then
    some (outState (execCmpCfgWrite ⟨(a - R.CMP_CFG 0) / 4, by simp only [R.CMP_CFG] at h ⊢; omega⟩ w s) s)
  else if a / 256 = 0x0C then s.writeCrc a w
  else if a / 256 = 0x0B then s.writeTmr a w
  else if 0x36 ≤ a / 256 then s.writeData a w
  else none
/-- A word committed by host software, over I²C or by REG_WRITE (R539): RW and W1C fields and what WO words do; RWS fields
are discarded and counted once, RWA fields discarded; the island's page takes no write (R449). -/
def State.commitWord (s : State) (a : Nat) (w : Word) : State :=
  if s.pageOff (a / 256) || a / 256 == 6 then s
  else
    match regFam? a with
    | none => s
    | some f =>
      let s := s.when (f.rws != 0#32) fun t => t.bump F.PROT_STATUS_WR_REFUSED 1
      match s.writeSpecial a w with
      | some t => t
      | none => s.setWord a ((s.word a &&& ~~~ f.rw &&& ~~~ (f.w1c &&& w)) ||| (w &&& f.rw))
/-- Whether rail j takes a margin (R367). -/
def State.marginTaken (s : State) (j : RailId) : Bool := s.railPresent j && s.inReg j && decide (s.get (F.SQ_MGCAL_LIMIT j) ≠ 0)
/-- A margin target of rail j, clamped to LIMIT (R367). -/
def State.margin (s : State) (j : RailId) (t : Int) : State :=
  let lim : Int := s.get (F.SQ_MGCAL_LIMIT j)
  let v := max (-lim) (min lim t)
  s.setMargin j v (decide (v ≠ t))
/-- A word written by REG_WRITE_AUTH: its RWA fields alone (R128, R149, R367). -/
def State.commitAuth (s : State) (a : Nat) (w : Word) : State :=
  match regFam? a with
  | none => s
  | some f =>
    if s.pageOff (a / 256) then s
    else if a = R.SCH_DATA then outState (execSchDataWrite w s) s
    else if a = R.SCH_CTRL then s.when (w.getLsbD 0) fun t => outState (execSchSwapReq t) t
    else if a = R.SCH_ADDR ∨ a = R.SCH_CRC then s.writeSchWord fun t => t.setWord a ((t.word a &&& ~~~ f.rwa) ||| (w &&& f.rwa))
    else if a / 256 < 0x34 && Nat.ble 0x30 (a / 256) && decide (a = R.SQ_MG (pageRail a)) then
      s.when (s.isIn .summer && s.marginTaken (pageRail a)) fun t => t.margin (pageRail a) (ofTwos 8 (w.toNat % 256))
    else s.setWord a ((s.word a &&& ~~~ f.rwa) ||| (w &&& f.rwa))

end Sys2Proof.Machine
end

