-- ==== Sys2Proof/Machine/Commands.lean ====
section
/-!
DEFINITION. The mailbox commands of Table SEC-6 that read and write registers, change the state of the part or of a port,
and margin a rail (SEC, HIF, SEA, RSV). Each acts on the command that passed steps 1 to 8 of Table SEC-5; where the manual
gives no place of an argument in the payload, the operand is the argument, none for a payload that is not accepted.
-/
namespace Sys2Proof.Machine

/-- Whether a register address is one that a command may name: a word of a page that is served. -/
def State.addressOk (s : State) (a : Nat) : Bool := a % 4 == 0 && s.pageServed (a / 256)
/-- Read words in order, each with what its read does besides. -/
def State.readWords (s : State) (l : List Nat) : List Word × State :=
  l.foldl (fun p a => (p.1 ++ [p.2.readReg a], p.2.readEffect a)) ([], s)
/-- REG_READ (R517): the words at the addresses named, at most 48. -/
def execRegRead (arg : Option (List (BitVec 16))) (s : State) : Out :=
  .next (s.onCommand 0x0010 fun f s =>
    match arg with
    | none => s.done f .badArg
    | some l =>
      let as' := l.map (·.toNat)
      if as'.length ≤ 48 && as'.all s.addressOk then (s.readWords as').2.reply f .ok (s.readWords as').1 else s.done f .badArg)
/-- Addresses and words of a write, accepted or not. -/
def State.writesOk (s : State) (l : List (BitVec 16 × Word)) : Bool := l.length ≤ 48 && l.all fun e => s.addressOk e.1.toNat
/-- REG_WRITE (R517, R539). -/
def execRegWrite (arg : Option (List (BitVec 16 × Word))) (s : State) : Out :=
  .next (s.onCommand 0x0011 fun f s =>
    match arg with
    | none => s.done f .badArg
    | some l => if s.writesOk l then (forAll l (fun e t => t.commitWord e.1.toNat e.2) s).done f .ok else s.done f .badArg)
/-- REG_WRITE_AUTH (R517, R128). -/
def execRegWriteAuth (arg : Option (List (BitVec 16 × Word))) (s : State) : Out :=
  .next (s.onCommand 0x0012 fun f s =>
    match arg with
    | none => s.done f .badArg
    | some l => if s.writesOk l then (forAll l (fun e t => t.commitAuth e.1.toNat e.2) s).done f .ok else s.done f .badArg)
/-- SESSION_INFO (R518). -/
def execSessionInfo (arg : Option (BitVec 7)) (s : State) : Out :=
  .next (s.onCommand 0x0020 fun f s =>
    match arg with
    | none => s.done f .badArg
    | some n =>
      s.reply f .ok [BitVec.ofNat 32 (s.sesLast n.toNat), BitVec.ofNat 32 (sessionVal s.sec.ceil n.toNat), s.sesInfo n.toNat])
/-- Bytes of a run of DEVSECRET words (R510). -/
def State.secretBytes (s : State) (w : Nat) : List Byte := (List.range 4).flatMap fun i => leBytes 4 (s.otpPlain (w + i)).toNat
/-- The attestation key (R511). -/
def State.attestKey (s : State) : List Byte := kdf (s.secretBytes 0x75) "KQ ATTEST" (s.secretBytes 0x79 ++ s.uid)
/-- Whether a function of Table SEC-4 is suspended: 0 TRIM, 1 IDENT, 2 firmware, 3 configuration, 5 DEVSECRET, 6 restrictive. -/
def State.suspends (s : State) (i : Nat) : Bool := s.sec.suspended.testBit i
/-- ATTEST (R519, Tables SEC-3 and SEC-4). -/
def execAttest (s : State) : Out :=
  .next (s.onCommand 0x0021 fun f s =>
    if ! s.regionOk 1 || ! s.regionOk 5 || s.suspends 1 || s.suspends 5 then s.done f .notPermitted
    else if f.payload.length ≠ 4 then s.done f .badArg
    else s.reply f .ok (bytesToWords ((cmac s.attestKey (s.uid ++ wordBytes f.payload)).take 8)))

/-- A command that takes no payload. -/
def State.bare (s : State) (f : Frame) (act : State → State) : State := if f.payload.isEmpty then act s else s.done f .badArg
/-- The response that waits is written at once (R553). -/
def State.flushAnswer (s : State) : State :=
  match s.hif.answer with
  | none => s
  | some a => { s with hif := { s.hif with answer := none } }.sendResponse a true
/-- The answer to a command whose execution restarts the part: the response is written before the restart (R553). -/
def State.respondNow (s : State) (f : Frame) : State := (s.done f .ok).flushAnswer
/-- SHUTDOWN (T6, R74): Autumn, committed on entry. -/
def execShutdown (s : State) : Out :=
  .next (s.onCommand 0x0100 fun f s => s.bare f fun s => ((s.requestAutumn 3).commit).done f .ok)
/-- START (T8): BUSY while DONE is 0; a fatal fault that waits for DONE goes before it. -/
def execStart (s : State) : Out :=
  .next (s.onCommand 0x0101 fun f s => s.bare f fun s =>
    if s.has F.SYS_STATE_DONE && s.seq.winterDue.isNone then (s.respondNow f).internalRestart 8 else s.done f .busy)
/-- RESTART (T11, R37, R451). -/
def execRestart (s : State) : Out :=
  .next (s.onCommand 0x0102 fun f s =>
    if s.island.held00A then s.done f .notPermitted else s.bare f fun s => (s.beginRestart false).done f .ok)
/-- FORCE_WINTER (R43, T9). -/
def execForceWinter (s : State) : Out :=
  .next (s.onCommand 0x0103 fun f s => s.bare f fun s => (s.raise 0xC002).done f .ok)
/-- A port's enable is cleared (R520): STATE goes to open, past the off check of R286 that every open command starts, and
holds, latch and retries are over. -/
def State.clearEnable (s : State) (k : PortId) : State :=
  let s := (((s.putBit F.SEC_PORTEN_EN k.val false).hardOpen k).disableAttach k).disarmAll [.retryOff k, .ntcCool k, .errorRecovery k]
  let s := s.modBrk k fun b =>
    { b with after := 0, heldUntilDetach := false, heldNtc := false, latched := false, retried := false, retryClose := false }
  let s := s.set (F.BRK_STATUS_RETRIES k) 0
  if s.get (F.BRK_STATUS_STATE k) = 5 then s else s.set (F.BRK_STATUS_STATE k) 0
/-- A port's enable is set (R520); before step 5 of Spring a module port's attach has not begun. -/
def State.setEnable (s : State) (k : PortId) : State :=
  if s.bit F.SEC_PORTEN_EN k.val then s
  else (s.putBit F.SEC_PORTEN_EN k.val true).when (!k.isModule || !s.isIn .spring || Nat.ble 5 s.boot.step) fun t => t.unattached k
/-- PORT_ENABLE (R520). -/
def execPortEnable (s : State) : Out :=
  .next (s.onCommand 0x0110 fun f s =>
    if f.payload.length ≠ 1 then s.done f .badArg
    else
      let w := f.arg 0
      (forAll (portsOf (w % 512)) (fun k t => if w.testBit (16 + k.val) then t.setEnable k else t.clearEnable k) s).done f .ok)
/-- MARGIN (R367): the rail and the target in 0.1 %. -/
def execMargin (arg : Option (RailId × BitVec 8)) (s : State) : Out :=
  .next (s.onCommand 0x0120 fun f s =>
    match arg with
    | none => s.done f .badArg
    | some (j, t) => if s.marginTaken j then (s.margin j (ofTwos 8 t.toNat)).done f .ok else s.done f .badArg)
/-- TEST_WRITE (R613, R517): page 0x3F, whose layout the manual does not give, or FLT_INJ. -/
def execTestWrite (arg : Option (BitVec 16 × Word)) (s : State) : Out :=
  .next (s.onCommand 0x0600 fun f s =>
    match arg with
    | none => s.done f .badArg
    | some (a, w) =>
      if a.toNat = R.FLT_INJ then (outState (execFltInj w s) s).done f .ok
      else if a.toNat / 256 = 0x3F && a.toNat % 4 = 0 && Nat.blt (a.toNat % 256) 0xFC then s.done f .ok
      else s.done f .badArg)

end Sys2Proof.Machine
end

