-- ==== Sys2Proof/Machine/Update.lean ====
section
/-!
DEFINITION. Firmware update (UPD): transfers into the slot not in use, their checks, activation, trial and CONFIRM, live
handover, and the download of ROM recovery.
-/
namespace Sys2Proof.Machine

/-- Whether the slot-table write of this boot is still to be made or runs (R93, R584). -/
def State.bootWriteDue (s : State) : Bool :=
  s.isAny [.spring, .summer, .winter, .offSeason] && !s.boot.tabTried && decide (s.boot.tab ≠ s.boot.tabOld)
/-- A change of the slot table with its write (R584): where the read-back fails, the table in force is unchanged. -/
def State.changeTable (s : State) (ok : Bool) (act : SlotTab → SlotTab) : State :=
  let t := (s.modTab act).writeTable ok
  if ok then t else { t with boot := { t.boot with tab := s.boot.tab } }
/-- Whether a live handover runs (R593, R594). -/
def State.handoverRuns (s : State) : Bool := s.upd.paused || s.upd.step != 0 || s.upd.held.isSome
/-- State of the slot in use of a kind, 1 firmware or 2 configuration; the built-in configuration uses none. -/
def State.slotInUse (s : State) (kind : Nat) : Option Nat :=
  if kind = 1 then some (s.get F.BOOT_STATUS_FW_SLOT)
  else if s.has F.BOOT_STATUS_CFG_BUILTIN then none else some (s.get F.BOOT_STATUS_CFG_SLOT)
/-- State of a slot of a kind. -/
def SlotTab.stateOf (t : SlotTab) (kind slot : Nat) : Nat := if kind = 1 then t.fwState slot else t.cfgState slot
/-- The table with the state of a slot of a kind changed. -/
def SlotTab.setState (t : SlotTab) (kind slot st : Nat) : SlotTab := if kind = 1 then t.setFw slot st else t.setCfg slot st
/-- The table with the image length of a slot of a kind changed. -/
def SlotTab.setLen (t : SlotTab) (kind slot len : Nat) : SlotTab :=
  if kind = 1 then (if slot = 0 then { t with fwLenA := len } else { t with fwLenB := len })
  else if slot = 0 then { t with cfgLenA := len } else { t with cfgLenB := len }
/-- The table with the active slot of a kind changed. -/
def SlotTab.setActive (t : SlotTab) (kind slot : Nat) : SlotTab := if kind = 1 then { t with fwActive := slot } else { t with cfgActive := slot }
/-- The table with TRIAL_LEFT of a kind changed. -/
def SlotTab.setTrial (t : SlotTab) (kind n : Nat) : SlotTab := if kind = 1 then { t with fwTrial := n } else { t with cfgTrial := n }
/-- Target slot of an update (R583). -/
def State.updTarget (s : State) (kind : Nat) : Nat :=
  match s.slotInUse kind with
  | some n => 1 - n
  | none => 1 - s.boot.tab.cfgFirst
/-- Target slot of a recovery download (R600). -/
def State.recTarget (s : State) (kind : Nat) : Nat :=
  if kind = 1 then
    let named := s.boot.tab.fwFirst
    if s.boot.tab.fwState (1 - named) = slotGood ∧ s.boot.tab.fwState named ≠ slotGood then named else 1 - named
  else s.updTarget 2
/-- Whether an image length is within the limits of its kind (Table UPD-2). -/
def lengthOk (kind len : Nat) : Bool :=
  len % 4 == 0 && (if kind = 1 then Nat.ble 0x500 len && Nat.ble len 0x180000 else Nat.ble 0x88 len && Nat.ble len 0x20000)
/-- Offset in flash of the slot under transfer. -/
def State.updBase (s : State) : Nat :=
  if s.get F.UPD_STATUS_KIND = 1 then fwBase (s.get F.UPD_STATUS_SLOT) else cfgBase (s.get F.UPD_STATUS_SLOT)
/-- The transfer ends in IDLE; RESULT stays. -/
def State.endTransfer (s : State) : State :=
  let s := ((s.set F.UPD_STATUS_STATE 0).set F.UPD_STATUS_KIND 0).set F.UPD_STATUS_SLOT 0
  let s := (s.set F.UPD_NEXT_NEXT 0).set F.UPD_LEN_LEN 0
  { s with upd := { s.upd with session := 0, erasedTo := 0 } }
/-- A failed check ends the transfer (R588, R589). -/
def State.rejectTransfer (s : State) (code : Nat) : State := ((s.set F.UPD_STATUS_RESULT code).endTransfer).postRejected
/-- A result code that the manual does not state: the digest of an engine section has no code of its own in Table BOT-6. -/
def State.freeCode (s : State) : Nat × State := (3 + s.takeFree.1 % 12, s.takeFree.2)

/-- UPD_OPEN and REC_OPEN after their own refusals: the target EMPTY with length 0, the transfer OPEN (Tables UPD-1, UPD-2). -/
def State.openTransfer (s : State) (f : Frame) (kind slot : Nat) (tableOk : Bool) : State :=
  let len := f.arg 1
  let act (t : SlotTab) : SlotTab := (t.setState kind slot slotEmpty).setLen kind slot 0
  let same := decide (act s.boot.tab = s.boot.tab)
  let s := if same then s else s.changeTable tableOk act
  if !same && !tableOk then s.done f .noResource
  else
    let s := ((s.set F.UPD_STATUS_STATE 1).set F.UPD_STATUS_KIND kind).set F.UPD_STATUS_SLOT slot
    let s := (s.set F.UPD_NEXT_NEXT 0).set F.UPD_LEN_LEN len
    { s with upd := { s.upd with session := f.session, erasedTo := 0 } }.reply f .ok [BitVec.ofNat 32 slot]
/-- Whether an update command writes a configuration image while that is suspended, or verifies a firmware image while that
is (Table SEC-4). -/
def State.updSuspended (s : State) (kind : Nat) : Bool := if kind = 1 then s.suspends 2 else s.suspends 3
/-- A command whose work programs or erases flash; it waits for a first-fault record (R373). -/
def State.onFlash (s : State) (code : Nat) (act : Frame → State → State) : State := if s.flashFree then s.onCommand code act else s
/-- UPD_OPEN (R583, R586); `tableOk` is the read-back of a slot-table write. -/
def execUpdOpen (tableOk : Bool) (s : State) : Out :=
  .next (s.onFlash 0x0300 fun f s =>
    let kind := f.arg 0 % 4
    if s.get F.UPD_STATUS_STATE ≠ 0 || s.handoverRuns || s.bootWriteDue then s.done f .busy
    else if (kind == 1 || kind == 2) && (s.slotInUse kind).any fun n => s.boot.tab.stateOf kind n == slotTrial then s.done f .notPermitted
    else if kind == 2 && s.suspends 3 then s.done f .notPermitted
    else if f.payload.length ≠ 2 || !(kind == 1 || kind == 2) || !lengthOk kind (f.arg 1) then s.done f .badArg
    else s.openTransfer f kind (s.updTarget kind) tableOk)

/-- Length of the header that R588 checks. -/
def headLen (kind : Nat) : Nat := if kind = 1 then 0x400 else 0x80
/-- The checks of R588 on the header in flash, in the order of Table BOT-6; 1 where all pass. -/
def State.headCheck (s : State) (kind len : Nat) : Nat :=
  let h := s.flashRead s.updBase (headLen kind)
  if kind = 1 then
    if ! fwForm h len then 0x3 else if ! hdrCrcOk h 0x400 then 0x4 else if ! s.fwKeyOk h then 0x5
    else if ! s.fwSvnOk h then 0x8 else 1
  else
    if ! cfgForm h len then 0x3 else if ! hdrCrcOk h 0x80 then 0x4 else if ! s.signedOk h then 0xD
    else if ! s.cfgSvnOk h then 0x8 else if ! s.bindOk h then 0xA else 1
/-- The sectors that a block reaches first are erased (R587). -/
def State.eraseFor (s : State) (off n : Nat) : State :=
  let last := (off + n - 1) / 4096
  let fresh := (List.range (last + 1)).filter fun c => Nat.ble s.upd.erasedTo c && Nat.ble (off / 4096) c
  let s := forAll fresh (fun c t => t.flashErase (t.updBase + 4096 * c) 4096) s
  { s with upd := { s.upd with erasedTo := max s.upd.erasedTo (last + 1) } }
/-- The write of a block (R587, R588); `failAt` is the byte of the block at which the read-back differs. -/
def State.writeBlock (s : State) (f : Frame) (off : Nat) (bs : List Byte) (failAt : Option Nat) : State :=
  let kind := s.get F.UPD_STATUS_KIND
  let s := s.eraseFor off bs.length
  let s := s.flashProgram (s.updBase + off) bs
  match failAt with
  | some i =>
    let at' := off + min i (bs.length - 1)
    let sector := at' / 4096
    let from' := max off (4096 * sector)
    let s := s.spoil (s.updBase + from') (off + bs.length - from')
    let s := { s.set F.UPD_NEXT_NEXT (4096 * sector) with upd := { s.upd with erasedTo := sector } }
    ((s.raise 0xAA17).flag G.UPD_BLOCK_FAIL).done f .noResource
  | none =>
    let next := off + bs.length
    let s := s.set F.UPD_NEXT_NEXT next
    let head := headLen kind
    if Nat.blt off head && Nat.ble head next then
      let c := s.headCheck kind (s.get F.UPD_LEN_LEN)
      if c = 1 then s.reply f .ok [BitVec.ofNat 32 next] else (s.rejectTransfer c).done f .badArg
    else s.reply f .ok [BitVec.ofNat 32 next]
/-- A block of an open transfer judged (R587). -/
def State.takeBlock (s : State) (f : Frame) (failAt : Option Nat) : State :=
  let off := f.arg 0
  let bs := wordBytes (f.payload.drop 2)
  let next := s.get F.UPD_NEXT_NEXT
  let kind := s.get F.UPD_STATUS_KIND
  let verifies := Nat.blt off (headLen kind) && Nat.ble (headLen kind) (off + bs.length)
  if s.updSuspended kind && (kind == 2 || verifies) then s.done f .notPermitted
  else if Nat.blt f.payload.length 3 || f.arg 1 ≠ crc32 bs || Nat.blt (s.get F.UPD_LEN_LEN) (off + bs.length) then s.done f .badArg
  else if off = next then s.writeBlock f off bs failAt
  else if Nat.ble (off + bs.length) next then
    if s.flashRead (s.updBase + off) bs.length = bs then s.reply f .ok [BitVec.ofNat 32 next] else s.done f .badArg
  else s.done f .badArg
/-- Whether a transfer belongs to another session than a frame's (R590). -/
def State.foreign (s : State) (f : Frame) : Bool := s.get F.UPD_STATUS_STATE ≠ 0 && f.session ≠ s.upd.session
/-- UPD_BLOCK (R587, R588). -/
def execUpdBlock (failAt : Option Nat) (s : State) : Out :=
  .next (s.onFlash 0x0301 fun f s =>
    if s.foreign f then s.done f .notPermitted
    else if s.get F.UPD_STATUS_STATE ≠ 1 then s.done f .busy
    else s.takeBlock f failAt)

/-- Whether every engine section has the digest of the header in the slot (R589). -/
def State.sectionsOk (s : State) (base : Nat) (hdr : List Byte) (es : List Nat) : Bool :=
  es.all fun e => decide ((sectionAt hdr e).2.1 = 0) || s.sectionOk base hdr e
/-- Every check of R589 on a firmware image: `err` is 1 to 3 for a read error in the header, key and signature, the boot
section or another section. The code of a section's digest is not stated. -/
def State.fwFull (s : State) (base len err : Nat) : Nat × State :=
  let c := s.fwChecks base len (if err = 3 then 0 else err)
  if c ≠ 1 then (c, s)
  else if err = 3 then (0xE, s)
  else if s.sectionsOk base (s.flashRead base 0x400) (List.range 16) then (1, s) else s.freeCode
/-- The firmware slot in PENDING, the active one first. -/
def State.pendingFw (s : State) : Option Nat :=
  let a := s.boot.tab.fwFirst
  if s.boot.tab.fwState a = slotPending then some a else if s.boot.tab.fwState (1 - a) = slotPending then some (1 - a) else none
/-- Every check of R589 on the image of a transfer. -/
def State.fullCheck (s : State) (err : Nat) : Nat × State :=
  let len := s.get F.UPD_LEN_LEN
  if s.get F.UPD_STATUS_KIND = 1 then s.fwFull s.updBase len err
  else
    match s.pendingFw with
    | some n =>
      let h := s.flashRead (fwBase n) 0x400
      (s.cfgChecks s.updBase len (err != 0) (leAt h 0x0E 2) h, s)
    | none => (s.cfgChecks s.updBase len (err != 0) (s.get F.BOOT_VERS_FW_IFACE) s.boot.fwHdr, s)
/-- UPD_CLOSE (R589): `readErr` is 0 without a flash read error, else where it fell. -/
def execUpdClose (readErr : Fin 4) (s : State) : Out :=
  .next (s.onCommand 0x0302 fun f s =>
    if s.foreign f then s.done f .notPermitted
    else if s.get F.UPD_STATUS_STATE ≠ 1 || s.get F.UPD_NEXT_NEXT ≠ s.get F.UPD_LEN_LEN then s.done f .busy
    else if s.get F.UPD_STATUS_KIND = 1 && s.suspends 2 then s.done f .notPermitted
    else s.bare f fun s =>
      let c := s.fullCheck readErr.val
      let t := if c.1 = 1 then (c.2.set F.UPD_STATUS_RESULT 1).set F.UPD_STATUS_STATE 2 else c.2.rejectTransfer c.1
      t.reply f .ok [BitVec.ofNat 32 c.1])
/-- UPD_ACTIVATE (R586, Tables UPD-1 and UPD-2). -/
def execUpdActivate (tableOk : Bool) (s : State) : Out :=
  .next (s.onFlash 0x0303 fun f s =>
    let what := f.arg 0 % 4
    let kind := s.get F.UPD_STATUS_KIND
    let slot := s.get F.UPD_STATUS_SLOT
    if s.foreign f then s.done f .notPermitted
    else if f.payload.length ≠ 1 || what == 0 || (what ≠ 3 && what ≠ kind) then s.done f .badArg
    else if s.bootWriteDue || (what ≠ 3 && s.get F.UPD_STATUS_STATE ≠ 2) then s.done f .busy
    else
      let act (t : SlotTab) : SlotTab :=
        if what = 3 then { t with recovery := 0x5A }
        else (((t.setState kind slot slotPending).setActive kind slot).setLen kind slot (s.get F.UPD_LEN_LEN)).setTrial kind
          (orDefault 3 (s.get F.UPD_CFG_TRIALS))
      let t := s.changeTable tableOk act
      if ! tableOk then t.done f .noResource
      else (t.when (what ≠ 3) fun u => u.set F.UPD_STATUS_STATE 3).done f .ok)
/-- UPD_ABORT (R586, R590): taken from any session; an activated slot returns to EMPTY. -/
def execUpdAbort (tableOk : Bool) (s : State) : Out :=
  .next (s.onFlash 0x0306 fun f s => s.bare f fun s =>
    if s.get F.UPD_STATUS_STATE = 3 then
      if s.bootWriteDue then s.done f .busy
      else
        let kind := s.get F.UPD_STATUS_KIND
        let act (t : SlotTab) : SlotTab :=
          let t := t.setState kind (s.get F.UPD_STATUS_SLOT) slotEmpty
          match s.slotInUse kind with
          | some n => t.setActive kind n
          | none => t
        let t := s.changeTable tableOk act
        if tableOk then t.endTransfer.done f .ok else t.done f .noResource
    else s.endTransfer.done f .ok)

/-- The conditions under which the OTP controller programs (R502). -/
def State.otpConditions (s : State) : Bool :=
  s.env.vinOk && !s.has F.BUS_STATUS_VDRV_DROP && Nat.ble (tempCode 0) s.dieMax && Nat.ble s.dieMax (tempCode 105)
/-- Bits of an OTP word are programmed, in the cells and, but for the trims, which stay as shadowed for the whole run (Table
SEC-2), in force (DEDUCED, entry 134); a bit of `failed` does not verify, and what it reads as is not stated (R502). -/
def State.programWord (s : State) (w : Nat) (bits failed : Word) : State :=
  let zero (_ : Nat) : Word := 0#32
  let good := bits &&& ~~~ failed
  let odd := BitVec.ofNat 32 s.takeFree.1 &&& bits &&& failed
  let s := if bits &&& failed = 0#32 then s else s.takeFree.2
  let sec := if w < 0x20 then { s.sec with trimNew := bankWrite zero s.sec.trimNew w (bankRead zero s.sec.trimNew w ||| good ||| odd) }
    else { s.sec with force := bankWrite zero s.sec.force w (s.otpWord w ||| good ||| odd) }
  { s with otp := bankWrite zero s.otp w (s.otpCell w ||| good ||| odd), sec := sec }
/-- A bit fails to verify (R502). -/
def State.programFail (s : State) : State := (s.flag G.OTP_PROG_FAIL).raise 0xA60A
/-- A rollback thermometer is advanced to an SVN (R522); a step of `failed` stays unprogrammed. -/
def State.advanceTherm (s : State) (w svn : Nat) (failed : List Nat) : State :=
  let steps := ((List.range 128).filter fun i => Nat.ble (s.thermometer w) i && Nat.blt i svn && !failed.contains i)
  (forAll steps (fun i t => t.programWord (w + i / 32) (BitVec.ofNat 32 (2 ^ (i % 32))) 0#32) s).showOtp
/-- Whether a step of an advance fails. -/
def State.advanceFails (s : State) (w svn : Nat) (failed : List Nat) : Bool :=
  failed.any fun i => Nat.ble (s.thermometer w) i && Nat.blt i svn
/-- First word of the thermometer of a kind. -/
def thermBase (kind : Nat) : Nat := if kind = 1 then 0x7D else 0x81
/-- Running SVN of a kind. -/
def State.svnOf (s : State) (kind : Nat) : Nat := s.get (if kind = 1 then F.BOOT_VERS_FW_SVN else F.BOOT_VERS_CFG_SVN)
/-- Whether the slot in use of a kind has a state. -/
def State.useIs (s : State) (kind st : Nat) : Bool := (s.slotInUse kind).any fun n => s.boot.tab.stateOf kind n == st
/-- Whether CONFIRM of a kind advances its thermometer. -/
def State.advances (s : State) (kind : Nat) : Bool := s.useIs kind slotTrial && Nat.blt (s.thermometer (thermBase kind)) (s.svnOf kind)
/-- CONFIRM of one kind (R592): the status where it fails, with the state. -/
def State.confirmKind (s : State) (kind : Nat) (failed : List Nat) (tableOk : Bool) : Bool × State :=
  match s.slotInUse kind with
  | none => (true, s)
  | some n =>
    if s.useIs kind slotTrial then
      let svn := s.svnOf kind
      let bad := s.advanceFails (thermBase kind) svn failed
      let t := if s.advances kind then s.advanceTherm (thermBase kind) svn failed else s
      if bad then (false, t.programFail)
      else
        let t := t.changeTable tableOk fun x => x.setState kind n slotGood
        if tableOk then (true, t.post 0x00 0x0304) else (false, t)
    else (true, s)
/-- CONFIRM (R592): `failed` lists the thermometer steps that fail to verify, `tableOk` the read-backs of the table writes. -/
def execConfirm (failedFw failedCfg : List Nat) (fwTableOk cfgTableOk : Bool) (s : State) : Out :=
  .next (s.onFlash 0x0304 fun f s =>
    let kinds := (if (f.arg 0).testBit 0 then [1] else []) ++ (if (f.arg 0).testBit 1 then [2] else [])
    if f.payload.length ≠ 1 || !(kinds.all fun k => s.useIs k slotTrial || s.useIs k slotGood) then s.done f .badArg
    else if s.bootWriteDue then s.done f .busy
    else if kinds.any s.advances && s.suspends 6 then s.done f .notPermitted
    else if kinds.any s.advances && !s.otpConditions then s.done f .noResource
    else
      let a := if kinds.contains 1 then s.confirmKind 1 failedFw fwTableOk else (true, s)
      let b := if a.1 && kinds.contains 2 then a.2.confirmKind 2 failedCfg cfgTableOk else a
      if b.1 then b.2.reply f .ok [BitVec.ofNat 32 (b.2.fwSteps + 256 * b.2.cfgSteps)] else b.2.done f .noResource)

/-- Seconds of continuous Summer (R37): the time for which the timer of the hour has run. -/
def State.summerSecs (s : State) : Nat :=
  match s.deadline .summerHour with
  | none => 3600
  | some d => (s.now + secs 3600 - d) / secs 1
/-- The 64 bytes of port k in the record: the manual gives no layout of them. -/
def State.portBytes (s : State) (k : Nat) : List Byte := (List.range 64).map fun i => Config.freeByte s.free (64 * k + i)
/-- Bytes 0x000–0x7FB of a handover record (Table UPD-4). -/
def State.recordBody (s : State) (dir from' to' : Nat) : List Byte :=
  leBytes 4 0x4F48514B ++ leBytes 2 1 ++ leBytes 2 0x800 ++ leBytes 1 dir ++ leBytes 1 from' ++ leBytes 1 to' ++ leBytes 1 0 ++
  leBytes 8 s.tb ++ leBytes 4 (s.get F.EVT_RD_RD) ++ leBytes 4 (s.mgt[(0 : Fin 2)]).idx ++ leBytes 4 (s.mgt[(1 : Fin 2)]).idx ++
  leBytes 4 s.boot.tabOld.gen ++ leBytes 4 s.summerSecs ++ leBytes 4 ((s.now - s.boot.lifeAt) / secs 1) ++
  leBytes 4 (s.liveReg R.SQC_STATUS).toNat ++ leBytes 4 (s.liveReg R.SQC_RAILS).toNat ++
  (allRails.flatMap fun j => leBytes 1 (s.get (F.SQ_MG_TARGET j))) ++ (allRails.flatMap fun j => leBytes 1 (s.get (F.SQ_MGST_POS j))) ++
  (modulePorts.flatMap fun k => leBytes 4 (s.bud.gPrev.getD k.val 0) ++ leBytes 4 (s.get (F.BUD_GRANT_CEIL k))) ++
  ((List.range 9).flatMap s.portBytes) ++
  ((List.range 128).flatMap fun n => leBytes 4 (s.sesLast n) ++ leBytes 4 (sessionVal s.sec.ceil n)) ++ leBytes 296 0
/-- A handover record with its CRC. -/
def State.recordBytes (s : State) (dir from' to' : Nat) : List Byte :=
  s.recordBody dir from' to' ++ leBytes 4 (crc32 (s.recordBody dir from' to'))
/-- Whether a handover record has its MAGIC and CRC (R596). -/
def recordValid (b : List Byte) : Bool := leAt b 0 4 == 0x4F48514B && leAt b 0x7FC 4 == crc32 (b.take 0x7FC)
/-- Step 1 of Table UPD-3: HANDOVER, the hold of R456, the record; then the supervisor cores are in the boot ROM. -/
def State.beginPause (s : State) (dir from' to' : Nat) : State :=
  let s := s.put F.SYS_STATE_HANDOVER true
  let s := (outState (execSafHold s) s).set F.UPD_HO_PHASE 1
  { s with free := s.free + 1,
           upd := { s.upd with paused := true, step := 3, fromSlot := from', toSlot := to', dir := dir, badSlot := none,
                               codeTo := 0, pauseAt := s.now, left := [], passed := [], record := s.recordBytes dir from' to' } }
/-- MIN_IFACE of the applied configuration; 0 for the built-in one. -/
def State.minIface (s : State) : Nat :=
  match s.slotInUse 2 with
  | none => 0
  | some n => leAt (s.flashRead (cfgBase n) 0x80) 0x12 2
/-- HANDOVER (R593): the response is formed and step 1 of Table UPD-3 begins. -/
def execHandover (s : State) : Out :=
  .next (s.onCommand 0x0305 fun f s =>
    let from' := s.get F.BOOT_STATUS_FW_SLOT
    let to' := 1 - from'
    let iface := leAt (s.flashRead (fwBase to') 0x400) 0x0E 2
    if ! s.has F.UPD_CFG_HO_EN || s.suspends 2 then s.done f .notPermitted
    else if s.get F.UPD_STATUS_STATE = 1 || s.bootWriteDue || s.handoverRuns then s.done f .busy
    else if s.boot.tab.fwState to' ≠ slotPending || iface / 256 ≠ s.get F.BOOT_VERS_FW_IFACE / 256 || Nat.blt iface s.minIface ||
        !f.payload.isEmpty then s.done f .badArg
    else (s.done f .ok).beginPause 0 from' to')

/-- BOOT_STATUS takes the result code of a firmware slot. -/
def State.setFwCode (s : State) (slot code : Nat) : State := if slot = 0 then s.set F.BOOT_STATUS_FW_A code else s.set F.BOOT_STATUS_FW_B code
/-- The ROM starts the supervisor of a slot (Table UPD-3 step 4); one whose SECTION[0] has another digest adopts nothing. -/
def State.startSupervisor (s : State) (slot : Nat) : State :=
  let hdr := s.flashRead (fwBase slot) 0x400
  let s := { s with boot := { s.boot with fwHdr := hdr } }.loadBoot (fwBase slot)
  let ok := s.sectionOk (fwBase slot) hdr 0
  { s.when ok (fun t => t.loadSection0 (fwBase slot)) with upd := { s.upd with step := if ok then 5 else 4 } }
/-- HANDOVER_ROM_VERIFY (R594, R595, R597): TO_SLOT is tried, then FROM_SLOT; the operands are the read errors of
FIRMWARE_SLOT_VERIFY. Where neither verifies, no supervisor starts. -/
def execHandoverRomVerify (errTo errFrom : Fin 3) (s : State) : Out :=
  if s.upd.paused && s.upd.step == 3 then
    let check (n err : Nat) : Nat := s.fwChecks (fwBase n) (s.boot.tab.fwLen n) err
    let u := s.upd
    let cTo := check u.toSlot errTo.val
    let t := s.setFwCode u.toSlot cTo
    if cTo = 1 then
      let bad := if u.dir = 1 then some u.fromSlot else none
      let t := { t with upd := { t.upd with badSlot := bad, codeTo := if u.dir = 1 then u.codeTo else 1 } }
      .next (t.startSupervisor u.toSlot)
    else
      let cFrom := check u.fromSlot errFrom.val
      let t := { t.setFwCode u.fromSlot cFrom with upd := { u with badSlot := some u.toSlot, codeTo := cTo, step := 4 } }
      .next (if cFrom = 1 then t.startSupervisor u.fromSlot else t)
  else .next s
/-- The answer that the watchdog expects now (R454). -/
def State.rightAnswer (s : State) : Word :=
  BitVec.ofNat 32 (s.wdResponse * 2 ^ 16 + s.get F.SAF_WDCHAL_SEQ % 256 * 256 + orDefault 1 (s.get F.SAF_WDCFG_TASKS))
/-- The pause ends (Table UPD-3 step 5): first correct answer, HANDOVER = 0, its length in 10 µs units. -/
def State.endPause (s : State) : State :=
  let s := if s.get F.SAF_STATUS_ISTATE = 3 then outState (execWatchdogAnswer s.rightAnswer s) s else s
  let back := s.upd.badSlot.isSome
  let s := s.put F.SYS_STATE_HANDOVER false
  let s := (s.set F.UPD_HO_PAUSE (min 0xFFFF ((s.now - s.upd.pauseAt) / 1000))).set F.UPD_HO_PHASE (if back then 4 else 2)
  { s with upd := { s.upd with paused := false, step := if back then 9 else 6 } }
/-- What waited for the end of the pause (Table UPD-5): T9 of a fatal fault, then T6, then the commands. -/
def State.afterPause (s : State) : State :=
  let s := match s.flt.deferT9 with
    | none => s
    | some _ => ({ s with flt := { s.flt with deferT9 := none } }.transition .winter 9).abandonHandover
  let s := match s.bus.autumnDue with
    | none => s
    | some c => { s with bus := { s.bus with autumnDue := none } }.requestAutumn c
  s.pump
/-- HANDOVER_ADOPT (R596, R599): the record is adopted, or found damaged, which is fatal. -/
def execHandoverAdopt (damaged : Bool) (s : State) : Out :=
  if s.upd.paused && s.upd.step == 5 then
    if ! damaged && recordValid s.upd.record then .next s.endPause.afterPause
    else .next ((s.endPause.raise 0xEA1A).afterPause)
  else .next s
/-- Engines that live handover reloads, in order (R598). -/
def reloadOrder : List Nat := [11, 1, 2, 3, 4, 5, 6, 7, 8, 9, 12, 14, 13, 15]
/-- HANDOVER_DIGESTS (R594 step 6, R597): `readOk` is false for a flash read error. A difference leads back to the old
slot. -/
def execHandoverDigests (readOk : Bool) (s : State) : Out :=
  if s.upd.step == 6 && !s.upd.paused then
    let u := s.upd
    if readOk && s.sectionsOk (fwBase u.toSlot) s.boot.fwHdr ((List.range 15).map (· + 1)) then
      .next { s.set F.UPD_HO_PHASE 3 with
        upd := { u with step := 7, left := reloadOrder.filter fun e => !s.engineSkipped e, passed := [] } }
    else
      let t := s.freeCode.2.beginPause 1 u.toSlot u.fromSlot
      .next { t with upd := { t.upd with codeTo := s.freeCode.1 } }
  else .next s
/-- The registers that name the running firmware (R115, R116, R118). -/
def State.showFirmware (s : State) (slot : Nat) : State :=
  let h := s.boot.fwHdr
  let s := (s.set F.BOOT_STATUS_FW_SLOT slot).set F.BOOT_FWID_BUILD_ID (leAt h 0x10 4)
  (s.set F.BOOT_VERS_FW_IFACE (leAt h 0x0E 2)).set F.BOOT_VERS_FW_SVN (leAt h 0x0C 1)
/-- HANDBACK (R597): the image that runs writes the rejected slot BAD and its code to BOOT_STATUS. -/
def execHandback (tableOk : Bool) (s : State) : Out :=
  match s.upd.badSlot with
  | none => .next s
  | some bad =>
    if s.upd.step == 9 && !s.upd.paused && s.flashFree then
      let run := 1 - bad
      let s := s.changeTable tableOk fun t => { t.setFw bad slotBad with fwActive := run }
      let s := (s.setFwCode bad s.upd.codeTo).showFirmware run
      let s := { s with upd := { s.upd with step := 0, badSlot := none } }
      .next (((s.flag G.UPD_HANDBACK).raise 0xAA02).postRejected)
    else .next s

/-- The port of an engine that is a port engine. -/
def enginePort? (e : Nat) : Option PortId := if e = 0 then none else sourcePort? e
/-- Whether the reload of an engine may begin (R218). -/
def State.mayReload (s : State) (e : Nat) : Bool :=
  match enginePort? e with
  | none => true
  | some k => [0, 4, 6].contains (s.get (F.PD_STATUS_PE k)) && !s.amsRuns k
/-- The engine reloaded next with what is left and passed over then; port engines that are not quiet in their turn are
passed over, and taken behind port engine 9 as soon as they are quiet (R598). -/
def State.nextReload (s : State) : List Nat → List Nat → Option (Nat × List Nat × List Nat)
  | [], passed => (passed.find? s.mayReload).map fun e => (e, [], passed.filter fun x => decide (x ≠ e))
  | e :: rest, passed =>
    if (enginePort? e).isSome then
      if s.mayReload e then some (e, rest, passed) else s.nextReload rest (passed ++ [e])
    else if passed.isEmpty || e = 11 then some (e, rest, passed)
    else (passed.find? s.mayReload).map fun x => (x, e :: rest, passed.filter fun y => decide (y ≠ x))
/-- The engine that is awaited where none can be reloaded yet: the first one passed over. -/
def State.awaited (s : State) : Nat := ((s.upd.left.filter (fun e => Nat.ble e 9) ++ s.upd.passed).headD 0)
/-- A port engine is held in reset (R218): PE reads 7, SinkTxOK, a reading in progress is lost. -/
def State.holdPortEngine (s : State) (k : PortId) : State :=
  let pe := s.get (F.PD_STATUS_PE k)
  let s := (s.set (F.PD_STATUS_PE k) 7).modPd k fun p => { p with reloading := true, peBefore := pe, ams := false, held := [] }
  let s := if s.contract k && !s.isSink k then s.set (F.ATT_STATUS_RP k) 3 else s
  let s := (s.dropHealth k).modChk k fun c => { c with refP := none, refR := none }
  if (s.port k).att.wetBias then
    ((s.disarmAll [.wetSettle k, .wetWindow k]).closeWindows (.wet k)).modAtt k fun a => { a with wetBias := false, wetPins := 0 }
  else s
/-- A stream drops its block in progress; what is finished stays. -/
def Stream.restart (st : Stream) : Stream := { buf0 := st.buf0, buf9 := st.buf9, lost0 := st.lost0, lost9 := st.lost9 }
/-- An engine is held in reset for its reload (R598 step 1); the codec engine writes a checkpoint before it. -/
def State.holdEngine (s : State) (e : Nat) (cpOk : Bool) : State :=
  let s := if e = 14 then { s.storeCheckpoint cpOk true with streams := s.streams.map Stream.restart } else s
  let s := { s with boot := { s.boot with engRun := s.boot.engRun &&& (2 ^ 16 - 1 - 2 ^ e) }, upd := { s.upd with held := some e } }
  let s := s.set F.UPD_HO_ENGINE e
  match enginePort? e with
  | some k => s.holdPortEngine k
  | none => s
/-- A port engine is released (R218): it adopts the context and handles the queue; step 5 of Table PDP-5 that waited for it
follows. -/
def State.releasePort (s : State) (k : PortId) : State :=
  let p := (s.port k).pd
  let s := (s.set (F.PD_STATUS_PE k) p.peBefore).modPd k fun p => { p with reloading := false, peBefore := 0 }
  if p.hr = .capsDue then s.startPd k else s.handleQueue k
/-- An engine is released: in Winter and beyond, port engines 1–8 stay in reset (Table SAF-3). -/
def State.releaseEngine (s : State) (e : Nat) : State :=
  let off := (enginePort? e).any (fun k => k.isModule) && !s.isAny [.spring, .summer, .autumn]
  let run := s.boot.engRun ||| (if off then 0 else 2 ^ e)
  let s := { s with boot := { s.boot with engRun := run }, upd := { s.upd with held := none } }
  match enginePort? e with
  | some k => s.releasePort k
  | none => s.when (e == 14) State.lateSeconds
/-- Step 8 of Table UPD-3: the slot table, the registers of the running firmware and HANDOVER_DONE. -/
def State.handoverDone (s : State) (tableOk : Bool) : State :=
  let n := s.upd.toSlot
  let s := s.changeTable tableOk fun t => { t.setFw n slotTrial with fwActive := n }
  let s := ((s.showFirmware n).set F.UPD_HO_ENGINE 0).set F.UPD_HO_PHASE (if tableOk then 5 else 6)
  let s := { s with upd := { s.upd with step := 0 } }
  s.when tableOk fun t => t.post 0x00 0x0302
/-- ENGINE_RELOAD (R598): with no engine held, the next one is held in reset, `ok` being the read-back of the checkpoint
that the codec engine writes; with one held, it is loaded and released, `ok` being its digest as read from flash. The
last release is followed by step 8 with `tableOk`. -/
def execEngineReload (ok tableOk : Bool) (s : State) : Out :=
  if ! s.flashFree then .next s
  else
  match s.upd.held with
  | none =>
    if s.upd.step == 7 && !s.upd.paused then
      match s.nextReload s.upd.left s.upd.passed with
      | none => .next (s.set F.UPD_HO_ENGINE s.awaited)
      | some r => .next ({ s with upd := { s.upd with left := r.2.1, passed := r.2.2 } }.holdEngine r.1 ok)
    else .next s
  | some e =>
    let base := fwBase s.upd.toSlot
    if ok && s.sectionOk base s.boot.fwHdr e then
      let s := ((s.loadEngine base e).releaseEngine e).pump
      .next (if s.upd.step == 7 && s.upd.left.isEmpty && s.upd.passed.isEmpty then s.handoverDone tableOk else s)
    else .next (((s.releaseEngine e).raise 0xEA06).pump)

/-- REC_OPEN (R600). -/
def execRecOpen (tableOk : Bool) (s : State) : Out :=
  .next (s.onCommand 0x0380 fun f s =>
    let kind := f.arg 0 % 4
    if s.has F.OTP_STATUS_SCRAP then s.done f .locked
    else if s.get F.UPD_STATUS_STATE ≠ 0 then s.done f .busy
    else if kind == 2 && s.suspends 3 then s.done f .notPermitted
    else if f.payload.length ≠ 2 || !(kind == 1 || kind == 2) || !lengthOk kind (f.arg 1) then s.done f .badArg
    else s.openTransfer f kind (s.recTarget kind) tableOk)
/-- REC_BLOCK (R600): UPD_BLOCK without a session. -/
def execRecBlock (failAt : Option Nat) (s : State) : Out :=
  .next (s.onCommand 0x0381 fun f s => if s.get F.UPD_STATUS_STATE ≠ 1 then s.done f .busy else s.takeBlock f failAt)
/-- The slot-table write of REC_CLOSE (R601): where no copy is valid both are written with GENERATION 1, copy 0 first. -/
def State.recoveryTable (s : State) (ok : Bool) (act : SlotTab → SlotTab) : State :=
  if s.chooseTable.isSome then s.changeTable ok act
  else
    let t := { act s.boot.tab with gen := 1 }
    if ok then
      let s := forAll [0, 1] (fun c u => (u.flashErase (tableBase c) 4096).flashProgram (tableBase c) t.bytes) s
      { s with boot := { s.boot with copy := 1, tabOld := t, tab := t } }
    else ((s.flashErase (tableBase 0) 4096).spoil (tableBase 0) 64).raise 0xAA09
/-- REC_CLOSE (R600, R601): firmware takes T15, its response written before the restart. -/
def execRecClose (readErr : Fin 4) (tableOk : Bool) (s : State) : Out :=
  .next (s.onCommand 0x0382 fun f s =>
    let kind := s.get F.UPD_STATUS_KIND
    let slot := s.get F.UPD_STATUS_SLOT
    if s.get F.UPD_STATUS_STATE ≠ 1 || s.get F.UPD_NEXT_NEXT ≠ s.get F.UPD_LEN_LEN then s.done f .busy
    else if kind = 1 && s.suspends 2 then s.done f .notPermitted
    else s.bare f fun s =>
      let c := s.fullCheck readErr.val
      if c.1 ≠ 1 then (c.2.rejectTransfer c.1).reply f .ok [BitVec.ofNat 32 c.1]
      else
        let len := s.get F.UPD_LEN_LEN
        let act (t : SlotTab) : SlotTab :=
          let t := (t.setState kind slot slotPending).setLen kind slot len
          if kind = 1 then { t with fwActive := slot, recovery := 0 } else t
        let t := c.2.recoveryTable tableOk act
        if ! tableOk then t.done f .noResource
        else
          let t := ((t.set F.UPD_STATUS_RESULT 1).set F.UPD_STATUS_STATE 2).reply f .ok [1#32]
          if kind = 1 then t.flushAnswer.internalRestart 15 else t)
/-- REC_STATUS (R600). -/
def execRecStatus (s : State) : Out :=
  .next (s.onCommand 0x0383 fun f s => s.bare f fun s =>
    s.reply f .ok [s.readReg R.BOOT_STATUS, s.readReg R.OTP_STATUS, s.readReg R.UPD_STATUS, s.readReg R.UPD_NEXT])

end Sys2Proof.Machine
end

