-- ==== Sys2Proof/Machine/Otp.lean ====
section
/-!
DEFINITION. Programming and locking of the OTP array (SEC, R502–R505, R521). The manual gives no place of the arguments in
the payload; the operands are the arguments, none for a payload that is not accepted.
-/
namespace Sys2Proof.Machine

/-- The region a word of the map belongs to, its DIGEST word included (Table SEC-1). -/
def otpRegion (w : Nat) : Nat :=
  if w < 0x20 then 0 else if w < 0x24 then 1 else if w < 0x45 then 2 else if w < 0x55 then 3 else if w < 0x75 then 4
  else if w < 0x7D then 5 else if w < 0x85 then 6 else if w = 0x85 then 7 else w - 0x86
/-- Whether a word is stored scrambled. -/
def otpScrambled (w : Nat) : Bool := Nat.ble 0x55 w && Nat.ble w 0x7C
/-- Whether the lock fuse of a region is in force. -/
def State.regionLocked (s : State) (n : Nat) : Bool := (s.otpWord 0x8E).getLsbD n
/-- Whether OTP_PROGRAM and OTP_LOCK are suspended (Table SEC-4). -/
def State.otpSuspended (s : State) : Bool := s.suspends 0 || s.suspends 1 || s.suspends 6
/-- Bits are programmed as a command's work, and it is answered (R502). -/
def State.programFor (s : State) (f : Frame) (w : Nat) (bits failed : Word) : State :=
  if ! s.otpConditions then s.done f .noResource
  else
    let t := ((s.programWord w bits failed).showOtp).gateMoved s
    if bits &&& failed = 0#32 then t.done f .ok else t.programFail.done f .noResource
/-- OTP_PROGRAM (R502, R503): the word and the bits, as a plain value for a scrambled word; `failed` marks the bits that do
not verify. -/
def execOtpProgram (arg : Option (BitVec 8 × Word)) (failed : Word) (s : State) : Out :=
  .next (s.onCommand 0x0400 fun f s =>
    match arg with
    | none => s.done f .badArg
    | some (w, bits) =>
      let w := w.toNat
      if Nat.ble 0x8E w then s.done f .badArg
      else if s.regionLocked (otpRegion w) then s.done f .locked
      else if (otpScrambled w && s.policy 0) || s.otpSuspended then s.done f .notPermitted
      else s.programFor f w (if otpScrambled w then bits ^^^ s.otpStream w else bits) failed)
/-- The check of R505 on region n, with the reads of the controller. -/
def State.lockable (s : State) (reads : List (Nat × Word × Word × Word)) (n : Nat) : Bool :=
  let d := s.otpReads reads (0x86 + n)
  let own := wordsDigest ((regionWords n).map fun w => (s.otpReads reads w).2.1)
  decide (d.1 ≠ 0#32) && decide (d.1 = d.2.1) && decide (d.1 = own) &&
  (regionWords n).all fun w => decide (marginalBits (s.otpReads reads w) = 0#32)
/-- OTP_LOCK (R505); `reads` lists the words whose reads at the normal, margin-high and margin-low references differ from
the cells. -/
def execOtpLock (arg : Option (Fin 8)) (reads : List (Nat × Word × Word × Word)) (failed : Bool) (s : State) : Out :=
  .next (s.onCommand 0x0401 fun f s =>
    match arg with
    | none => s.done f .badArg
    | some n =>
      if s.regionLocked n.val then s.done f .locked
      else if s.otpSuspended then s.done f .notPermitted
      else if ! s.lockable reads n.val then (s.flag G.OTP_LOCK_REFUSED).done f .notPermitted
      else
        let bit := BitVec.ofNat 32 (2 ^ n.val)
        s.programFor f 0x8E bit (if failed then bit else 0#32))
/-- Whether digest i of FWKEY is revoked or unprogrammed. -/
def State.keyGone (s : State) (i : Nat) : Bool :=
  (s.otpWord 0x44).getLsbD i || (List.range 8).all fun m => decide (s.otpWord (0x24 + 8 * i + m) = 0#32)
/-- REVOKE_FWKEY (R521). -/
def execRevokeFwkey (arg : Option (Fin 4)) (failed : Bool) (s : State) : Out :=
  .next (s.onCommand 0x0402 fun f s =>
    match arg with
    | none => s.done f .badArg
    | some i =>
      let others := (List.range 4).filter fun j => decide (j ≠ i.val)
      if leAt s.boot.fwHdr 0x0D 1 = i.val || others.all s.keyGone || s.suspends 6 then s.done f .notPermitted
      else
        let bit := BitVec.ofNat 32 (2 ^ i.val)
        s.programFor f 0x44 bit (if failed then bit else 0#32))
/-- POLICY_SET (R504, R521): bits are set and never cleared. -/
def execPolicySet (arg : Option (BitVec 4)) (failed : BitVec 4) (s : State) : Out :=
  .next (s.onCommand 0x0403 fun f s =>
    match arg with
    | none => s.done f .badArg
    | some p =>
      if (p.getLsbD 0 && !((List.range 6).all s.regionLocked)) || s.suspends 6 then s.done f .notPermitted
      else s.programFor f 0x85 (p.setWidth 32) (failed.setWidth 32))

end Sys2Proof.Machine
end

