-- ==== Sys2Proof/Machine/Hif.lean ====
section
/-!
DEFINITION. The two-wire bus (HIF, R532–R547): page selection, committed words, START and STOP, timeouts and the in-band
request; and the event ring as the I²C reader takes it (R555, R563).
-/
namespace Sys2Proof.Machine

/-- Whether the part NACKs its own address (Table HIF-1): before the root PLL locks. -/
def State.addressNacked (s : State) : Bool := s.isIn .romBoot && !s.has F.CLK_STATUS_ROOT_LOCK
/-- The byte pointer (R535), modulo 256. -/
def State.point (s : State) (p : Nat) : State := { s with hif := { s.hif with pointer := p % 256 } }
/-- A partial write is discarded where bytes were collected (R538). -/
def State.discardPartial (s : State) (collected : Nat) : State := s.when (collected != 0) fun t => t.flag G.HIF_PARTIAL
/-- PAGE_SEL_WRITE (R536): the page byte takes effect at its ACK, on every page. -/
def execPageSelWrite (b : BitVec 8) (s : State) : Out :=
  .next (if s.addressNacked then s.flag G.HIF_NACKED else (s.set F.PAGE_SEL_PAGE (b.toNat % 64)).point 0xFD)
/-- REGISTER_WRITE (R538–R541): a whole word at word `i` of the selected page. -/
def execRegisterWrite (i : BitVec 6) (w : Word) (s : State) : Out :=
  let page := s.get F.PAGE_SEL_PAGE
  .next (if s.addressNacked then s.flag G.HIF_NACKED
    else if i = 63#6 then (s.set F.PAGE_SEL_PAGE (w.toNat % 64)).point 0
    else if ! s.pageServed page then s.point (4 * i.toNat)
    else if page == 2 && s.get F.MBX_STATUS_STATE == 1 then (s.flag G.HIF_NACKED).point (4 * i.toNat)
    else (s.commitWord (256 * page + 4 * i.toNat) w).point (4 * i.toNat + 4))
/-- I2C_START_STOP (R535, R538, R542): the target state machine is reset; `pointer` is the pointer byte of the transaction
that ends, where it sent one and nothing was committed since, and `collected` the bytes of the word it left unfinished. -/
def execI2cStartStop (pointer : Option (BitVec 8)) (collected : Fin 4) (s : State) : Out :=
  let s := match pointer with
    | none => s
    | some p => s.point (p.toNat + collected.val)
  .next { s.discardPartial collected.val with env := { s.env with sclHigh := true, sdaHigh := true } }
/-- SDA_TIMEOUT (R543): with `own`, the part has held SDA low for SDA_MS and releases it; otherwise another device has, and
`highSince` tells whether SDA was high for 1.0 ms since the last warning. -/
def execSdaTimeout (own highSince : Bool) (collected : Fin 4) (s : State) : Out :=
  .next (if s.isIn .deepWinter then s
    else if own then ((s.discardPartial collected.val).flag G.HIF_SDA_TO).classify 0x2703
    else
      let s := { s with env := { s.env with sdaHigh := false } }
      if s.hif.sdaWarned && !highSince then s
      else ({ s with hif := { s.hif with sdaWarned := true } }.flag G.HIF_SDA_STUCK).classify 0x2701)
/-- SCL_TIMEOUT (R544). -/
def execSclTimeout (highSince : Bool) (collected : Fin 4) (s : State) : Out :=
  .next (if s.isIn .deepWinter then s
    else
      let s := { s.discardPartial collected.val with env := { s.env with sclHigh := false } }
      if s.hif.sclWarned && !highSince then s
      else ({ s with hif := { s.hif with sclWarned := true } }.flag G.HIF_SCL_STUCK).classify 0x2702)
/-- IBR_PULSE (R545, R546): the pulse that follows the first idle of 50 µs, or a further one 10 ms after the last; `whole`
is false where SCL falls during it. -/
def execIbrPulse (first whole : Bool) (s : State) : Out :=
  .next (if s.has F.HIF_CFG_IBR_EN && s.irqPending && !s.isAny [.deepWinter, .romBoot, .romRecovery, .factoryTest] then
      let s := { s with env := { s.env with sclHigh := whole, sdaHigh := true } }
      let s := if first then s else s.advanceTo (s.hif.ibrAt + msec 10)
      if whole then ({ s with hif := { s.hif with ibrAt := s.now } }).bump F.HIF_STATUS_IBR_COUNT 1 else s
    else s)
/-- EVT_RD_WRITE (R555): the index is clamped to the ring. -/
def execEvtRdWrite (v : Word) (s : State) : Out := .next (if s.ringServed then s.writeEvtRd v.toNat else s)
/-- EVT_STATUS_READ (R563): the status and the window are taken together. -/
def execEvtStatusRead (s : State) : Out := .next (if s.ringServed then s.readEffect R.EVT_STATUS else s)

end Sys2Proof.Machine
end

