-- ==== Sys2Proof/Machine/Dispatch.lean ====
section
/-!
DEFINITION. The dispatch: one arm per command, each a direct call of the command's meaning.
-/
namespace Sys2Proof.Machine

def exec (i : Instr) (s : State) : Host.Outcome State Fault Refusal :=
  match i with
  | .powerOnReset vislLost => Sys2Proof.Machine.execPowerOnReset vislLost s
  | .strapLatch a0 a1 a2 c0 c1 test => Sys2Proof.Machine.execStrapLatch a0 a1 a2 c0 c1 test s
  | .clockCheckTimeout xtalOk => Sys2Proof.Machine.execClockCheckTimeout xtalOk s
  | .rootLock selftestOk => Sys2Proof.Machine.execRootLock selftestOk s
  | .otpBootRead reads => Sys2Proof.Machine.execOtpBootRead reads s
  | .slotTableRead sfdpOk mbit => Sys2Proof.Machine.execSlotTableRead sfdpOk mbit s
  | .firmwareSlotVerify readErr => Sys2Proof.Machine.execFirmwareSlotVerify readErr s
  | .configRead errA errB => Sys2Proof.Machine.execConfigRead errA errB s
  | .protectionSetup readBackOk followWinter followIsl => Sys2Proof.Machine.execProtectionSetup readBackOk followWinter followIsl s
  | .protSeal w => Sys2Proof.Machine.execProtSeal w s
  | .slotTableWrite ok => Sys2Proof.Machine.execSlotTableWrite ok s
  | .lifeRecordAppend ok => Sys2Proof.Machine.execLifeRecordAppend ok s
  | .lifeSectorErase ok => Sys2Proof.Machine.execLifeSectorErase ok s
  | .lifeRecordRetry ok => Sys2Proof.Machine.execLifeRecordRetry ok s
  | .acsnsEdge dt => Sys2Proof.Machine.execAcsnsEdge dt s
  | .adcConversion pos ecc r0 r1 r2 r3 => Sys2Proof.Machine.execAdcConversion pos ecc r0 r1 r2 r3 s
  | .superframeChecks outside => Sys2Proof.Machine.execSuperframeChecks outside s
  | .schDataWrite w => Sys2Proof.Machine.execSchDataWrite w s
  | .windowOutside win high => Sys2Proof.Machine.execWindowOutside win high s
  | .captureArm w => Sys2Proof.Machine.execCaptureArm w s
  | .captureSpill ok => Sys2Proof.Machine.execCaptureSpill ok s
  | .captureSend src to9 => Sys2Proof.Machine.execCaptureSend src to9 s
  | .ccChange k cc1 cc2 => Sys2Proof.Machine.execCcChange k cc1 cc2 s
  | .attachDebounceElapsed k => Sys2Proof.Machine.execAttachDebounceElapsed k s
  | .vbusApplyJudge k => Sys2Proof.Machine.execVbusApplyJudge k s
  | .detach k => Sys2Proof.Machine.execDetach k s
  | .vcsnsSafe0Reached k => Sys2Proof.Machine.execVcsnsSafe0Reached k s
  | .seated k => Sys2Proof.Machine.execSeated k s
  | .seatLost k => Sys2Proof.Machine.execSeatLost k s
  | .vconnOvercurrent k => Sys2Proof.Machine.execVconnOvercurrent k s
  | .wetReadingDue k => Sys2Proof.Machine.execWetReadingDue k s
  | .wetSettlingEnd k => Sys2Proof.Machine.execWetSettlingEnd k s
  | .wetWindowEnd k => Sys2Proof.Machine.execWetWindowEnd k s
  | .sourceCapResend k => Sys2Proof.Machine.execSourceCapResend k s
  | .request k id rdo rev2 => Sys2Proof.Machine.execRequest k id rdo rev2 s
  | .eprRequest k id rdo => Sys2Proof.Machine.execEprRequest k id rdo s
  | .getSourceCap k id => Sys2Proof.Machine.execGetSourceCap k id s
  | .eprGetSourceCap k id => Sys2Proof.Machine.execEprGetSourceCap k id s
  | .getSinkCap k id extended => Sys2Proof.Machine.execGetSinkCap k id extended s
  | .getSourceCapExtended k id => Sys2Proof.Machine.execGetSourceCapExtended k id s
  | .getSourceInfo k id => Sys2Proof.Machine.execGetSourceInfo k id s
  | .getRevision k id => Sys2Proof.Machine.execGetRevision k id s
  | .getManufacturerInfo k id => Sys2Proof.Machine.execGetManufacturerInfo k id s
  | .getStatus k id => Sys2Proof.Machine.execGetStatus k id s
  | .getPpsStatus k id => Sys2Proof.Machine.execGetPpsStatus k id s
  | .alert k id => Sys2Proof.Machine.execAlert k id s
  | .softReset k id => Sys2Proof.Machine.execSoftReset k id s
  | .bist k id mode => Sys2Proof.Machine.execBist k id mode s
  | .notSupportedMessage k id => Sys2Proof.Machine.execNotSupportedMessage k id s
  | .vconnSwapReject k id => Sys2Proof.Machine.execVconnSwapReject k id s
  | .prSwap id => Sys2Proof.Machine.execPrSwap id s
  | .vconnSwap id => Sys2Proof.Machine.execVconnSwap id s
  | .drSwap id => Sys2Proof.Machine.execDrSwap id s
  | .port9SourceCapabilities id pdos rev2 => Sys2Proof.Machine.execPort9SourceCapabilities id pdos rev2 s
  | .port9PsRdy k id msg => Sys2Proof.Machine.execPort9PsRdy k id msg s
  | .eprModeEnter k id => Sys2Proof.Machine.execEprModeEnter k id s
  | .eprModeExit k id => Sys2Proof.Machine.execEprModeExit k id s
  | .eprExitSend k => Sys2Proof.Machine.execEprExitSend k s
  | .eprKeepalive k id => Sys2Proof.Machine.execEprKeepalive k id s
  | .eprKeepaliveTimeout k => Sys2Proof.Machine.execEprKeepaliveTimeout k s
  | .ppsTimeout k => Sys2Proof.Machine.execPpsTimeout k s
  | .senderResponseTimeout k => Sys2Proof.Machine.execSenderResponseTimeout k s
  | .hardResetReceived k => Sys2Proof.Machine.execHardResetReceived k s
  | .hardResetPsElapsed k => Sys2Proof.Machine.execHardResetPsElapsed k s
  | .srcRecoverElapsed k => Sys2Proof.Machine.execSrcRecoverElapsed k s
  | .vbusVsafe5vReached k => Sys2Proof.Machine.execVbusVsafe5vReached k s
  | .errorRecoveryElapsed k => Sys2Proof.Machine.execErrorRecoveryElapsed k s
  | .transitionStart k => Sys2Proof.Machine.execTransitionStart k s
  | .transitionEnd k => Sys2Proof.Machine.execTransitionEnd k s
  | .transitionTimeout k => Sys2Proof.Machine.execTransitionTimeout k s
  | .capabilitiesUpdate k => Sys2Proof.Machine.execCapabilitiesUpdate k s
  | .cableDiscovery k => Sys2Proof.Machine.execCableDiscovery k s
  | .cableIdentityResponse k id valid cur vmax epr => Sys2Proof.Machine.execCableIdentityResponse k id valid cur vmax epr s
  | .structuredVdm k id svid cmd => Sys2Proof.Machine.execStructuredVdm k id svid cmd s
  | .authStart k => Sys2Proof.Machine.execAuthStart k s
  | .securityResponse k id msg => Sys2Proof.Machine.execSecurityResponse k id msg s
  | .authTimeout k => Sys2Proof.Machine.execAuthTimeout k s
  | .frenerIdent k id resp => Sys2Proof.Machine.execFrenerIdent k id resp s
  | .frenerVdmTimeout k => Sys2Proof.Machine.execFrenerVdmTimeout k s
  | .pdQueueFull k => Sys2Proof.Machine.execPdQueueFull k s
  | .switchingPeriod k bootOk nodeOk => Sys2Proof.Machine.execSwitchingPeriod k bootOk nodeOk s
  | .outerLoopUpdate k db irip atMax => Sys2Proof.Machine.execOuterLoopUpdate k db irip atMax s
  | .headroomLost k => Sys2Proof.Machine.execHeadroomLost k s
  | .chkReadingDue k => Sys2Proof.Machine.execChkReadingDue k s
  | .chkWindowEnd k => Sys2Proof.Machine.execChkWindowEnd k s
  | .precloseTestElapsed k rose => Sys2Proof.Machine.execPrecloseTestElapsed k rose s
  | .foldbackStep k mv ma => Sys2Proof.Machine.execFoldbackStep k mv ma s
  | .switchClosed k => Sys2Proof.Machine.execSwitchClosed k s
  | .closingTimeout k => Sys2Proof.Machine.execClosingTimeout k s
  | .shortDetected k arm uv => Sys2Proof.Machine.execShortDetected k arm uv s
  | .breakerStep k ma dtNs => Sys2Proof.Machine.execBreakerStep k ma dtNs s
  | .allowanceEnd k => Sys2Proof.Machine.execAllowanceEnd k s
  | .retryOffElapsed k => Sys2Proof.Machine.execRetryOffElapsed k s
  | .retryCountClear k => Sys2Proof.Machine.execRetryCountClear k s
  | .offCheck k => Sys2Proof.Machine.execOffCheck k s
  | .ntcRecovered k => Sys2Proof.Machine.execNtcRecovered k s
  | .gateDriveLost k => Sys2Proof.Machine.execGateDriveLost k s
  | .onDropDegraded k => Sys2Proof.Machine.execOnDropDegraded k s
  | .emergencyLever runDue => Sys2Proof.Machine.execEmergencyLever runDue s
  | .railEnable j => Sys2Proof.Machine.execRailEnable j s
  | .railFrameJudge j pg => Sys2Proof.Machine.execRailFrameJudge j pg s
  | .railRiseTimeout j => Sys2Proof.Machine.execRailRiseTimeout j s
  | .resetStretchElapsed n => Sys2Proof.Machine.execResetStretchElapsed n s
  | .railRelease j => Sys2Proof.Machine.execRailRelease j s
  | .railFallTimeout j => Sys2Proof.Machine.execRailFallTimeout j s
  | .dischargeTimeout j => Sys2Proof.Machine.execDischargeTimeout j s
  | .axkanSync f => Sys2Proof.Machine.execAxkanSync f s
  | .axkanJoin f => Sys2Proof.Machine.execAxkanJoin f s
  | .axkanReport f => Sys2Proof.Machine.execAxkanReport f s
  | .margin arg => Sys2Proof.Machine.execMargin arg s
  | .marginFrameStep j => Sys2Proof.Machine.execMarginFrameStep j s
  | .marginTimeout j => Sys2Proof.Machine.execMarginTimeout j s
  | .fflRecordWrite ok => Sys2Proof.Machine.execFflRecordWrite ok s
  | .fflSectorErase ok => Sys2Proof.Machine.execFflSectorErase ok s
  | .fflSelLoad w => Sys2Proof.Machine.execFflSelLoad w s
  | .hubPortDataEnable k link speed up upConf mf0Conf events => Sys2Proof.Machine.execHubPortDataEnable k link speed up upConf mf0Conf events s
  | .hubPacketReceived up k addr ep bad => Sys2Proof.Machine.execHubPacketReceived up k addr ep bad s
  | .bufferEccError uncorrectable => Sys2Proof.Machine.execBufferEccError uncorrectable s
  | .ssTrainingFailed p speed => Sys2Proof.Machine.execSsTrainingFailed p speed s
  | .linkRecoveryExcess p n => Sys2Proof.Machine.execLinkRecoveryExcess p n s
  | .hubCounterClear w => Sys2Proof.Machine.execHubCounterClear w s
  | .mgtCommandTransfer f bytes => Sys2Proof.Machine.execMgtCommandTransfer f bytes s
  | .mgtEventDelivery f => Sys2Proof.Machine.execMgtEventDelivery f s
  | .mgtVendorRequest f reqType request value index length => Sys2Proof.Machine.execMgtVendorRequest f reqType request value index length s
  | .mgtClearHalt f => Sys2Proof.Machine.execMgtClearHalt f s
  | .streamSample n => Sys2Proof.Machine.execStreamSample n s
  | .streamBlockEncode n => Sys2Proof.Machine.execStreamBlockEncode n s
  | .streamPacketClose n f => Sys2Proof.Machine.execStreamPacketClose n f s
  | .tlmStrWrite n w => Sys2Proof.Machine.execTlmStrWrite n w s
  | .dayRecordWrite ok eraseOk => Sys2Proof.Machine.execDayRecordWrite ok eraseOk s
  | .checkpointWrite ok eraseOk => Sys2Proof.Machine.execCheckpointWrite ok eraseOk s
  | .hisSelLoad w => Sys2Proof.Machine.execHisSelLoad w s
  | .clockCrossCheck count strobe amplitude lock => Sys2Proof.Machine.execClockCrossCheck count strobe amplitude lock s
  | .islandOscCheck count => Sys2Proof.Machine.execIslandOscCheck count s
  | .watchdogAnswer w => Sys2Proof.Machine.execWatchdogAnswer w s
  | .classifierTest right => Sys2Proof.Machine.execClassifierTest right s
  | .engineHeartbeatCheck words => Sys2Proof.Machine.execEngineHeartbeatCheck words s
  | .safOfftest follow => Sys2Proof.Machine.execSafOfftest follow s
  | .memoryEccError uncorrectable supervisor => Sys2Proof.Machine.execMemoryEccError uncorrectable supervisor s
  | .faultClassify codes => Sys2Proof.Machine.execFaultClassify codes s
  | .flagClear reg w hw => Sys2Proof.Machine.execFlagClear reg w hw s
  | .fltInj w => Sys2Proof.Machine.execFltInj w s
  | .otpFullReread daily reads => Sys2Proof.Machine.execOtpFullReread daily reads s
  | .sessionCeilingRaise session => Sys2Proof.Machine.execSessionCeilingRaise session s
  | .regRead arg => Sys2Proof.Machine.execRegRead arg s
  | .regWrite arg => Sys2Proof.Machine.execRegWrite arg s
  | .regWriteAuth arg => Sys2Proof.Machine.execRegWriteAuth arg s
  | .sessionInfo arg => Sys2Proof.Machine.execSessionInfo arg s
  | .updOpen tableOk => Sys2Proof.Machine.execUpdOpen tableOk s
  | .updBlock failAt => Sys2Proof.Machine.execUpdBlock failAt s
  | .updClose readErr => Sys2Proof.Machine.execUpdClose readErr s
  | .updActivate tableOk => Sys2Proof.Machine.execUpdActivate tableOk s
  | .updAbort tableOk => Sys2Proof.Machine.execUpdAbort tableOk s
  | .confirm failedFw failedCfg fwTableOk cfgTableOk => Sys2Proof.Machine.execConfirm failedFw failedCfg fwTableOk cfgTableOk s
  | .handoverRomVerify errTo errFrom => Sys2Proof.Machine.execHandoverRomVerify errTo errFrom s
  | .handoverAdopt damaged => Sys2Proof.Machine.execHandoverAdopt damaged s
  | .handoverDigests readOk => Sys2Proof.Machine.execHandoverDigests readOk s
  | .handback tableOk => Sys2Proof.Machine.execHandback tableOk s
  | .engineReload ok tableOk => Sys2Proof.Machine.execEngineReload ok tableOk s
  | .recOpen tableOk => Sys2Proof.Machine.execRecOpen tableOk s
  | .recBlock failAt => Sys2Proof.Machine.execRecBlock failAt s
  | .recClose readErr tableOk => Sys2Proof.Machine.execRecClose readErr tableOk s
  | .otpProgram arg failed => Sys2Proof.Machine.execOtpProgram arg failed s
  | .otpLock arg reads failed => Sys2Proof.Machine.execOtpLock arg reads failed s
  | .revokeFwkey arg failed => Sys2Proof.Machine.execRevokeFwkey arg failed s
  | .policySet arg failed => Sys2Proof.Machine.execPolicySet arg failed s
  | .testWrite arg => Sys2Proof.Machine.execTestWrite arg s
  | .pageSelWrite b => Sys2Proof.Machine.execPageSelWrite b s
  | .registerWrite idx w => Sys2Proof.Machine.execRegisterWrite idx w s
  | .i2cStartStop pointer collected => Sys2Proof.Machine.execI2cStartStop pointer collected s
  | .sdaTimeout own highSince collected => Sys2Proof.Machine.execSdaTimeout own highSince collected s
  | .sclTimeout highSince collected => Sys2Proof.Machine.execSclTimeout highSince collected s
  | .ibrPulse first whole => Sys2Proof.Machine.execIbrPulse first whole s
  | .mbxGo words => Sys2Proof.Machine.execMbxGo words s
  | .evtRdWrite v => Sys2Proof.Machine.execEvtRdWrite v s
  | .compareStrobe c => Sys2Proof.Machine.execCompareStrobe c s
  | .cmpCfgWrite c w => Sys2Proof.Machine.execCmpCfgWrite c w s
  | .alarmAtlWrite w => Sys2Proof.Machine.execAlarmAtlWrite w s
  | .alarmSetTime w => Sys2Proof.Machine.execAlarmSetTime w s
  | .alarmArm w => Sys2Proof.Machine.execAlarmArm w s
  | .alarmFire a => Sys2Proof.Machine.execAlarmFire a s
  | .timerTick t => Sys2Proof.Machine.execTimerTick t s
  | .timerStart w => Sys2Proof.Machine.execTimerStart w s
  | .timerStop w => Sys2Proof.Machine.execTimerStop w s
  | .crcInit u writer w => Sys2Proof.Machine.execCrcInit u writer w s
  | .crcFeed u writer w => Sys2Proof.Machine.execCrcFeed u writer w s
  | .crcBlock u writer w => Sys2Proof.Machine.execCrcBlock u writer w s
  | .crcBlockComplete u => Sys2Proof.Machine.execCrcBlockComplete u s
  | .crcCtxRestore u writer w => Sys2Proof.Machine.execCrcCtxRestore u writer w s
  | .goodcrcReceived k id => Sys2Proof.Machine.execGoodcrcReceived k id s
  | .goodcrcWaitTimeout k => Sys2Proof.Machine.execGoodcrcWaitTimeout k s
  | .sinkTxElapsed k => Sys2Proof.Machine.execSinkTxElapsed k s
  | .upwardOfferTimer k => Sys2Proof.Machine.execUpwardOfferTimer k s
  | .frenerVdmReceived k id hdr vdo1 vdo2 => Sys2Proof.Machine.execFrenerVdmReceived k id hdr vdo1 vdo2 s
  | .mgtResponseTaken f => Sys2Proof.Machine.execMgtResponseTaken f s
  | .telemetryPacketTaken f => Sys2Proof.Machine.execTelemetryPacketTaken f s
  | .hubPacketSent egress => Sys2Proof.Machine.execHubPacketSent egress s
  | .uvloFall => Sys2Proof.Machine.execUvloFall s
  | .resetInN => Sys2Proof.Machine.execResetInN s
  | .supplyStartupStep => Sys2Proof.Machine.execSupplyStartupStep s
  | .romBootGuardJudge => Sys2Proof.Machine.execRomBootGuardJudge s
  | .engineLoad => Sys2Proof.Machine.execEngineLoad s
  | .lifeHourElapsed => Sys2Proof.Machine.execLifeHourElapsed s
  | .springLimitExpired => Sys2Proof.Machine.execSpringLimitExpired s
  | .winterHoldElapsed => Sys2Proof.Machine.execWinterHoldElapsed s
  | .summerHourElapsed => Sys2Proof.Machine.execSummerHourElapsed s
  | .vinOvpRise => Sys2Proof.Machine.execVinOvpRise s
  | .vinOvpFall => Sys2Proof.Machine.execVinOvpFall s
  | .vinOvpPersist => Sys2Proof.Machine.execVinOvpPersist s
  | .vinOkFall => Sys2Proof.Machine.execVinOkFall s
  | .vinOkRise => Sys2Proof.Machine.execVinOkRise s
  | .sinkSupplyPresent => Sys2Proof.Machine.execSinkSupplyPresent s
  | .mainsLoss => Sys2Proof.Machine.execMainsLoss s
  | .acsnsLockTimeout => Sys2Proof.Machine.execAcsnsLockTimeout s
  | .mainsReturnTimeout => Sys2Proof.Machine.execMainsReturnTimeout s
  | .busJudgement => Sys2Proof.Machine.execBusJudgement s
  | .restartWaitElapsed => Sys2Proof.Machine.execRestartWaitElapsed s
  | .vdrvDropout => Sys2Proof.Machine.execVdrvDropout s
  | .framePlausibility => Sys2Proof.Machine.execFramePlausibility s
  | .schDataRead => Sys2Proof.Machine.execSchDataRead s
  | .schSwapReq => Sys2Proof.Machine.execSchSwapReq s
  | .scheduleCheck => Sys2Proof.Machine.execScheduleCheck s
  | .scheduleSwap => Sys2Proof.Machine.execScheduleSwap s
  | .captureForce => Sys2Proof.Machine.execCaptureForce s
  | .captureTrigger => Sys2Proof.Machine.execCaptureTrigger s
  | .captureFull => Sys2Proof.Machine.execCaptureFull s
  | .captureRelease => Sys2Proof.Machine.execCaptureRelease s
  | .drpToggle => Sys2Proof.Machine.execDrpToggle s
  | .trySnkElapsed => Sys2Proof.Machine.execTrySnkElapsed s
  | .drSwapRetry => Sys2Proof.Machine.execDrSwapRetry s
  | .allocatorRun => Sys2Proof.Machine.execAllocatorRun s
  | .powerupStepDelayElapsed => Sys2Proof.Machine.execPowerupStepDelayElapsed s
  | .powerdownStepDelayElapsed => Sys2Proof.Machine.execPowerdownStepDelayElapsed s
  | .downGateTimeout => Sys2Proof.Machine.execDownGateTimeout s
  | .cascArm => Sys2Proof.Machine.execCascArm s
  | .cascFault => Sys2Proof.Machine.execCascFault s
  | .axkanCycle => Sys2Proof.Machine.execAxkanCycle s
  | .axkanSlaveWindow => Sys2Proof.Machine.execAxkanSlaveWindow s
  | .axkanLinkLost => Sys2Proof.Machine.execAxkanLinkLost s
  | .fflMark => Sys2Proof.Machine.execFflMark s
  | .fflScan => Sys2Proof.Machine.execFflScan s
  | .fflDeferredRecord => Sys2Proof.Machine.execFflDeferredRecord s
  | .poolEmptyTimeout => Sys2Proof.Machine.execPoolEmptyTimeout s
  | .ssPllUnlock => Sys2Proof.Machine.execSsPllUnlock s
  | .hs9PllUnlock => Sys2Proof.Machine.execHs9PllUnlock s
  | .archiveFrameAccumulate => Sys2Proof.Machine.execArchiveFrameAccumulate s
  | .countedSecond => Sys2Proof.Machine.execCountedSecond s
  | .historyScan => Sys2Proof.Machine.execHistoryScan s
  | .lockstepMismatch => Sys2Proof.Machine.execLockstepMismatch s
  | .watchdogPeriodStart => Sys2Proof.Machine.execWatchdogPeriodStart s
  | .watchdogOpenWindow => Sys2Proof.Machine.execWatchdogOpenWindow s
  | .bootTimerExpired => Sys2Proof.Machine.execBootTimerExpired s
  | .sealTimerExpired => Sys2Proof.Machine.execSealTimerExpired s
  | .safHold => Sys2Proof.Machine.execSafHold s
  | .holdTimerExpired => Sys2Proof.Machine.execHoldTimerExpired s
  | .collectorHeartbeatMissing => Sys2Proof.Machine.execCollectorHeartbeatMissing s
  | .dieTempWarning => Sys2Proof.Machine.execDieTempWarning s
  | .coldRestart => Sys2Proof.Machine.execColdRestart s
  | .coldRestartStep => Sys2Proof.Machine.execColdRestartStep s
  | .safAck => Sys2Proof.Machine.execSafAck s
  | .safXchkRead => Sys2Proof.Machine.execSafXchkRead s
  | .faultRecordPost => Sys2Proof.Machine.execFaultRecordPost s
  | .attest => Sys2Proof.Machine.execAttest s
  | .shutdown => Sys2Proof.Machine.execShutdown s
  | .start => Sys2Proof.Machine.execStart s
  | .restart => Sys2Proof.Machine.execRestart s
  | .forceWinter => Sys2Proof.Machine.execForceWinter s
  | .portEnable => Sys2Proof.Machine.execPortEnable s
  | .handover => Sys2Proof.Machine.execHandover s
  | .recStatus => Sys2Proof.Machine.execRecStatus s
  | .mbxResponse => Sys2Proof.Machine.execMbxResponse s
  | .mbxTake => Sys2Proof.Machine.execMbxTake s
  | .evtStatusRead => Sys2Proof.Machine.execEvtStatusRead s
  | .port9SinkDetach => Sys2Proof.Machine.execPort9SinkDetach s
  | .hubBufRead => Sys2Proof.Machine.execHubBufRead s

end Sys2Proof.Machine
end

