-- ==== Sys2Proof/WellFormed.lean ====
section
/-!
DEFINITION. Which operands of a command the part can meet: a value lies within the width its source gives it, an
index within the number of units. A command outside these ranges comes from no pin, bus or unit of the part.
-/
namespace Sys2Proof

/-- A list of values each below a bound. -/
def allBelow (top : Nat) (l : List Nat) : Bool := l.all fun x => decide (x < top)

/-- Whether a command's operands lie within what their source can give. -/
def Instr.wf (i : Instr) : Bool :=
  match i with
  | .powerOnReset _ => true
  | .strapLatch _ _ _ _ _ _ => true
  | .clockCheckTimeout _ => true
  | .rootLock _ => true
  | .otpBootRead reads => reads.all fun r => decide (r.1 < 256)
  | .slotTableRead _ _ => true
  | .firmwareSlotVerify readErr => decide (readErr < 3)
  | .configRead _ _ => true
  | .protectionSetup _ _ _ => true
  | .protSeal _ => true
  | .slotTableWrite _ => true
  | .lifeRecordAppend _ => true
  | .lifeSectorErase _ => true
  | .lifeRecordRetry _ => true
  | .acsnsEdge _ => true
  | .adcConversion pos _ _ _ _ _ => decide (pos < 128)
  | .superframeChecks _ => true
  | .schDataWrite _ => true
  | .windowOutside win _ => decide (win < 64)
  | .captureArm _ => true
  | .captureSpill _ => true
  | .captureSend _ _ => true
  | .ccChange _ _ _ => true
  | .attachDebounceElapsed _ => true
  | .vbusApplyJudge _ => true
  | .detach _ => true
  | .vcsnsSafe0Reached _ => true
  | .seated _ => true
  | .seatLost _ => true
  | .vconnOvercurrent _ => true
  | .wetReadingDue _ => true
  | .wetSettlingEnd _ => true
  | .wetWindowEnd _ => true
  | .sourceCapResend _ => true
  | .request _ _ _ _ => true
  | .eprRequest _ _ _ => true
  | .getSourceCap _ _ => true
  | .eprGetSourceCap _ _ => true
  | .getSinkCap _ _ _ => true
  | .getSourceCapExtended _ _ => true
  | .getSourceInfo _ _ => true
  | .getRevision _ _ => true
  | .getManufacturerInfo _ _ => true
  | .getStatus _ _ => true
  | .getPpsStatus _ _ => true
  | .alert _ _ => true
  | .softReset _ _ => true
  | .bist _ _ mode => decide (mode < 3)
  | .notSupportedMessage _ _ => true
  | .vconnSwapReject k _ => k.isModule
  | .prSwap _ => true
  | .vconnSwap _ => true
  | .drSwap _ => true
  | .port9SourceCapabilities _ _ _ => true
  | .port9PsRdy _ _ msg => decide (msg < 5)
  | .eprModeEnter _ _ => true
  | .eprModeExit _ _ => true
  | .eprExitSend _ => true
  | .eprKeepalive _ _ => true
  | .eprKeepaliveTimeout _ => true
  | .ppsTimeout _ => true
  | .senderResponseTimeout _ => true
  | .hardResetReceived _ => true
  | .hardResetPsElapsed _ => true
  | .srcRecoverElapsed _ => true
  | .vbusVsafe5vReached _ => true
  | .errorRecoveryElapsed _ => true
  | .transitionStart _ => true
  | .transitionEnd _ => true
  | .transitionTimeout _ => true
  | .capabilitiesUpdate _ => true
  | .cableDiscovery _ => true
  | .cableIdentityResponse _ _ _ cur vmax _ => decide (cur < 3) && decide (vmax < 4)
  | .structuredVdm _ _ svid cmd => decide (svid < 65536) && decide (cmd < 32)
  | .authStart _ => true
  | .securityResponse _ _ _ => true
  | .authTimeout _ => true
  | .frenerIdent _ _ _ => true
  | .frenerVdmTimeout _ => true
  | .pdQueueFull _ => true
  | .switchingPeriod k _ _ => k.isModule
  | .outerLoopUpdate k db irip _ => k.isModule && decide (db ≤ 1024) && decide (irip < 65536)
  | .headroomLost _ => true
  | .chkReadingDue _ => true
  | .chkWindowEnd _ => true
  | .precloseTestElapsed _ _ => true
  | .foldbackStep _ mv ma => decide (mv < 65536) && decide (ma < 65536)
  | .switchClosed _ => true
  | .closingTimeout _ => true
  | .shortDetected _ arm uv => decide (arm < 3) && decide (uv < 4294967296)
  | .breakerStep _ ma dtNs => decide (ma < 65536) && decide (0 < dtNs) && decide (dtNs < 4294967296)
  | .allowanceEnd _ => true
  | .retryOffElapsed _ => true
  | .retryCountClear _ => true
  | .offCheck _ => true
  | .ntcRecovered _ => true
  | .gateDriveLost _ => true
  | .onDropDegraded _ => true
  | .emergencyLever _ => true
  | .railEnable _ => true
  | .railFrameJudge _ _ => true
  | .railRiseTimeout _ => true
  | .resetStretchElapsed _ => true
  | .railRelease _ => true
  | .railFallTimeout _ => true
  | .dischargeTimeout _ => true
  | .axkanSync _ => true
  | .axkanJoin _ => true
  | .axkanReport _ => true
  | .margin _ => true
  | .marginFrameStep _ => true
  | .marginTimeout _ => true
  | .fflRecordWrite _ => true
  | .fflSectorErase _ => true
  | .fflSelLoad _ => true
  | .hubPortDataEnable _ link speed up _ _ _ => decide (link.toNat ≤ 8) && decide (speed.toNat ≤ 5) && decide (up.toNat ≤ 5)
  | .hubPacketReceived _ _ _ _ _ => true
  | .bufferEccError _ => true
  | .ssTrainingFailed _ speed => decide (speed.toNat ≤ 5)
  | .linkRecoveryExcess _ _ => true
  | .hubCounterClear _ => true
  | .mgtCommandTransfer _ _ => true
  | .mgtEventDelivery _ => true
  | .mgtVendorRequest _ _ _ _ _ _ => true
  | .mgtClearHalt _ => true
  | .streamSample _ => true
  | .streamBlockEncode _ => true
  | .streamPacketClose _ _ => true
  | .tlmStrWrite _ _ => true
  | .dayRecordWrite _ _ => true
  | .checkpointWrite _ _ => true
  | .hisSelLoad _ => true
  | .clockCrossCheck _ _ _ _ => true
  | .islandOscCheck _ => true
  | .watchdogAnswer _ => true
  | .classifierTest _ => true
  | .engineHeartbeatCheck _ => true
  | .safOfftest _ => true
  | .memoryEccError _ _ => true
  | .faultClassify _ => true
  | .flagClear _ _ _ => true
  | .fltInj _ => true
  | .otpFullReread _ reads => reads.all fun r => decide (r.1 < 256)
  | .sessionCeilingRaise session => decide (session < 128)
  | .regRead _ => true
  | .regWrite _ => true
  | .regWriteAuth _ => true
  | .sessionInfo _ => true
  | .updOpen _ => true
  | .updBlock _ => true
  | .updClose _ => true
  | .updActivate _ => true
  | .updAbort _ => true
  | .confirm _ _ _ _ => true
  | .handoverRomVerify _ _ => true
  | .handoverAdopt _ => true
  | .handoverDigests _ => true
  | .handback _ => true
  | .engineReload _ _ => true
  | .recOpen _ => true
  | .recBlock _ => true
  | .recClose _ _ => true
  | .otpProgram _ _ => true
  | .otpLock _ reads _ => reads.all fun r => decide (r.1 < 256)
  | .revokeFwkey _ _ => true
  | .policySet _ _ => true
  | .testWrite _ => true
  | .pageSelWrite _ => true
  | .registerWrite _ _ => true
  | .i2cStartStop _ _ => true
  | .sdaTimeout _ _ _ => true
  | .sclTimeout _ _ => true
  | .ibrPulse _ _ => true
  | .mbxGo _ => true
  | .evtRdWrite _ => true
  | .compareStrobe _ => true
  | .cmpCfgWrite _ _ => true
  | .alarmAtlWrite _ => true
  | .alarmSetTime _ => true
  | .alarmArm _ => true
  | .alarmFire _ => true
  | .timerTick _ => true
  | .timerStart _ => true
  | .timerStop _ => true
  | .crcInit _ _ _ => true
  | .crcFeed _ _ _ => true
  | .crcBlock _ _ _ => true
  | .crcBlockComplete _ => true
  | .crcCtxRestore _ _ _ => true
  | .goodcrcReceived _ _ => true
  | .goodcrcWaitTimeout _ => true
  | .sinkTxElapsed _ => true
  | .upwardOfferTimer _ => true
  | .frenerVdmReceived _ _ _ _ _ => true
  | .mgtResponseTaken _ => true
  | .telemetryPacketTaken _ => true
  | .hubPacketSent _ => true
  | .uvloFall => true
  | .resetInN => true
  | .supplyStartupStep => true
  | .romBootGuardJudge => true
  | .engineLoad => true
  | .lifeHourElapsed => true
  | .springLimitExpired => true
  | .winterHoldElapsed => true
  | .summerHourElapsed => true
  | .vinOvpRise => true
  | .vinOvpFall => true
  | .vinOvpPersist => true
  | .vinOkFall => true
  | .vinOkRise => true
  | .sinkSupplyPresent => true
  | .mainsLoss => true
  | .acsnsLockTimeout => true
  | .mainsReturnTimeout => true
  | .busJudgement => true
  | .restartWaitElapsed => true
  | .vdrvDropout => true
  | .framePlausibility => true
  | .schDataRead => true
  | .schSwapReq => true
  | .scheduleCheck => true
  | .scheduleSwap => true
  | .captureForce => true
  | .captureTrigger => true
  | .captureFull => true
  | .captureRelease => true
  | .drpToggle => true
  | .trySnkElapsed => true
  | .drSwapRetry => true
  | .allocatorRun => true
  | .powerupStepDelayElapsed => true
  | .powerdownStepDelayElapsed => true
  | .downGateTimeout => true
  | .cascArm => true
  | .cascFault => true
  | .axkanCycle => true
  | .axkanSlaveWindow => true
  | .axkanLinkLost => true
  | .fflMark => true
  | .fflScan => true
  | .fflDeferredRecord => true
  | .poolEmptyTimeout => true
  | .ssPllUnlock => true
  | .hs9PllUnlock => true
  | .archiveFrameAccumulate => true
  | .countedSecond => true
  | .historyScan => true
  | .lockstepMismatch => true
  | .watchdogPeriodStart => true
  | .watchdogOpenWindow => true
  | .bootTimerExpired => true
  | .sealTimerExpired => true
  | .safHold => true
  | .holdTimerExpired => true
  | .collectorHeartbeatMissing => true
  | .dieTempWarning => true
  | .coldRestart => true
  | .coldRestartStep => true
  | .safAck => true
  | .safXchkRead => true
  | .faultRecordPost => true
  | .attest => true
  | .shutdown => true
  | .start => true
  | .restart => true
  | .forceWinter => true
  | .portEnable => true
  | .handover => true
  | .recStatus => true
  | .mbxResponse => true
  | .mbxTake => true
  | .evtStatusRead => true
  | .port9SinkDetach => true
  | .hubBufRead => true

end Sys2Proof
end

