-- ==== Sys2Proof/Safety.lean ====
section
/-!
DEFINITION. What claims call a good state and a safe run: the sparse stores are canonical, the queue holds commands that the
part can meet, and a run ends in neither a fault nor a refusal.
-/
namespace Sys2Proof.Machine

/-- What an unlisted word of the OTP array, of shared words and of engine memories reads as. -/
def zeroWord (_ : Nat) : Word := 0#32

/-- The register bank and the memories are in canonical form. -/
def State.wf (s : State) : Bool :=
  bankWf regReset s.regs && bankWf erased s.flash && bankWf zeroWord s.otp && bankWf sramZero s.sram && bankWf zeroWord s.engMem

/-- The commands that may write a memory: the flash (images, slot table, logs, captures, history), the OTP cells, shared
words (the result of a block check), and the engines' code and data memories (a boot section, a load); a restart clears the last two. -/
def writesMemory : Instr → Bool
  | .powerOnReset .. | .slotTableWrite .. | .lifeRecordAppend .. | .lifeSectorErase .. | .lifeRecordRetry ..
  | .busJudgement .. | .captureSpill .. | .railFrameJudge .. | .railRelease .. | .dischargeTimeout .. | .axkanSync ..
  | .fflRecordWrite .. | .fflSectorErase .. | .dayRecordWrite .. | .checkpointWrite .. | .sessionCeilingRaise ..
  | .updOpen .. | .updBlock .. | .updActivate .. | .updAbort .. | .confirm .. | .handback .. | .engineReload ..
  | .recOpen .. | .recBlock .. | .recClose .. | .otpProgram .. | .otpLock .. | .revokeFwkey .. | .policySet ..
  | .crcBlockComplete .. | .uvloFall .. | .resetInN .. | .engineLoad .. | .vinOkRise .. | .mainsReturnTimeout ..
  | .restartWaitElapsed .. | .powerdownStepDelayElapsed .. | .downGateTimeout .. | .axkanCycle .. | .fflMark ..
  | .coldRestartStep .. | .start .. | .firmwareSlotVerify .. | .handoverRomVerify .. | .mbxResponse ..
  | .mgtResponseTaken .. | .port9SinkDetach .. | .romBootGuardJudge .. => true
  | _ => false

/-- Every waiting command has operands that the part can meet. -/
def State.queueWf (s : State) : Bool := s.pending.all Instr.wf

/-- A step that ends in a next state. -/
def completes (o : Out) : Bool :=
  match o with
  | .next _ => true
  | _ => false

/-- A run of n steps that ends in neither a fault nor a refusal. -/
def safeRun : Nat → State → Bool
  | 0, _ => true
  | n + 1, s =>
    match step s with
    | .next t => safeRun n t
    | _ => false

/-- The outcome is a next state, and that state has a property. -/
def Answers (o : Out) (p : State → Prop) : Prop := ∃ t, o = .next t ∧ p t

/-- Every register word outside a list of addresses reads as before. -/
def SameWords (l : List Nat) (s t : State) : Prop := ∀ a, a ∉ l → t.word a = s.word a

/-- Every byte of the flash outside `n` bytes from address `b` reads as before. -/
def SameFlash (b n : Nat) (s t : State) : Prop :=
  ∀ a, (a < b ∨ b + n ≤ a) → bankRead erased t.flash a = bankRead erased s.flash a

/-- The next fault of a source does not fill its count, so that a contained fault of it stays contained (R486, R487). -/
def State.calm (s : State) (src : Nat) : Bool :=
  s.has (F.FLT_ESC_DIS src) ||
  Nat.blt ((bankRead (fun _ => ({} : Esc)) s.flt.esc src).count + 1) (orDefault 8 (s.get (F.FLT_ESC_N src)))

/-- A port receives messages, its engine handles them now, and no transition runs. -/
def State.hears (s : State) (k : PortId) : Bool := s.pdReceives k && s.policyRuns k && !s.inTransition k

/-- A port hears a message with a MessageID that is not that of the last one, which would be a retransmission (R187). -/
def State.hearsNew (s : State) (k : PortId) (id : BitVec 3) : Bool := s.hears k && decide ((s.port k).pd.rxId ≠ some id.toNat)

/-- New capabilities of a source port may go out now (R194). -/
def State.mayOffer (s : State) (k : PortId) : Bool :=
  let p := (s.port k).pd
  s.switchClosed k && !p.reloading && !p.noPd && decide (p.await = .none) && p.tx.isEmpty && !p.caps.isEmpty && !s.isSink k &&
    (s.contract k || decide (s.get (F.PD_STATUS_PE k) = 2))

/-- What the mailbox has ready to answer: status and payload. -/
def State.answered (s : State) : Option (Nat × List Word) := s.hif.answer.map fun a => (a.status, a.payload)

/-- The port and the MessageID of a command that is a message of the partner for the policy engine (R187, R189, R218). -/
def messageOn : Instr → Option (PortId × BitVec 3)
  | .request k id .. | .eprRequest k id _ | .getSourceCap k id | .eprGetSourceCap k id | .getSinkCap k id _
  | .getSourceCapExtended k id | .getSourceInfo k id | .getRevision k id | .getManufacturerInfo k id | .getStatus k id
  | .getPpsStatus k id | .alert k id | .softReset k id | .bist k id _ | .notSupportedMessage k id | .port9PsRdy k id _
  | .eprModeEnter k id | .eprModeExit k id | .structuredVdm k id .. | .securityResponse k id _ | .frenerVdmReceived k id ..
  | .cableIdentityResponse k id .. | .frenerIdent k id (some _) => some (k, id)
  | .vconnSwapReject k id => if k.isModule then some (k, id) else none
  | .prSwap id | .vconnSwap id | .drSwap id | .port9SourceCapabilities id .. => some (port9, id)
  | _ => none

/-- The timer whose end a command is, for the commands that are nothing but a timer's end. -/
def timerOf : Instr → Option TimerId
  | .clockCheckTimeout _ => some .clockCheck
  | .lifeRecordRetry _ => some .lifeRetry
  | .lifeHourElapsed => some .lifeHour
  | .springLimitExpired => some .springLimit
  | .winterHoldElapsed => some .winterHold
  | .summerHourElapsed => some .summerHour
  | .vinOvpPersist => some .vinOvp
  | .mainsLoss => some .mainsLoss
  | .acsnsLockTimeout => some .acsnsLock
  | .mainsReturnTimeout => some .mainsReturn
  | .restartWaitElapsed => some .restartWait
  | .watchdogOpenWindow => some .wdClosed
  | .watchdogPeriodStart => some .wdPeriod
  | .bootTimerExpired => some .bootTimer
  | .sealTimerExpired => some .sealTimer
  | .holdTimerExpired => some .holdTimer
  | .coldRestart => some .coldRestart
  | .coldRestartStep => some .coldStep
  | .attachDebounceElapsed k => some (.ccDebounce k)
  | .wetReadingDue k => some (.wetNext k)
  | .wetSettlingEnd k => some (.wetSettle k)
  | .wetWindowEnd k => some (.wetWindow k)
  | .drpToggle => some .drp
  | .trySnkElapsed => some .drpTry
  | .goodcrcWaitTimeout k => some (.goodCrc k)
  | .sourceCapResend k => some (.sendCaps k)
  | .senderResponseTimeout k => some (.senderResponse k)
  | .hardResetPsElapsed k => some (.psHardReset k)
  | .srcRecoverElapsed k => some (.srcRecover k)
  | .errorRecoveryElapsed k => some (.errorRecovery k)
  | .transitionStart k => some (.srcTransition k)
  | .transitionTimeout k => some (.transition k)
  | .upwardOfferTimer k => some (.upwardOffer k)
  | .sinkTxElapsed k => some (.sinkTx k)
  | .eprKeepaliveTimeout k => some (.keepAlive k)
  | .ppsTimeout k => some (.ppsTimeout k)
  | .drSwapRetry => some .drSwap
  | .cableDiscovery k => some (.vconnStable k)
  | .frenerVdmTimeout k => some (.frener k)
  | .headroomLost k => some (.headroom k)
  | .chkReadingDue k => some (.chkDue k)
  | .chkWindowEnd k => some (.chkWindow k)
  | .precloseTestElapsed k _ => some (.preClose k)
  | .closingTimeout k => some (.closing k)
  | .allowanceEnd k => some (.allowance k)
  | .retryOffElapsed k => some (.retryOff k)
  | .retryCountClear k => some (.retryClear k)
  | .offCheck k => some (.offCheck k)
  | .ntcRecovered k => some (.ntcCool k)
  | .onDropDegraded k => some (.onDrop k)
  | .powerupStepDelayElapsed | .powerdownStepDelayElapsed => some .seqDelay
  | .railEnable j | .railRelease j => some (.railDelay j)
  | .railRiseTimeout j => some (.rise j)
  | .resetStretchElapsed n => some (.stretch n)
  | .downGateTimeout => some .gateTimeout
  | .railFallTimeout j => some (.fall j)
  | .dischargeTimeout j => some (.discharge j)
  | .poolEmptyTimeout => some .poolEmpty
  | _ => none

end Sys2Proof.Machine
end

