-- ==== Sys2Proof/Certificates/Slice0/Obligations.lean ====
section
/-!
DEFINITION. The statements for the provers. Each says, for every state and every operand that meet its conditions, what the
commands of one group leave; the statements about the whole block follow.
-/

open Sys2Proof Sys2Proof.Machine

/-- A compare strobe comes at the next match, and its count rises by one modulo 256 (timers stopped); a channel's
configuration word takes the written value. A low alarm word is held and alone changes nothing else; the high word
sets the selected alarm's time from both and keeps its enable, and an armed alarm whose new time has passed is
overdue; arming takes enable and owner; no other alarm changes. Firing comes at the alarm's time (one cycle later
where overdue), disarms, marks lateness and sets the flag. A running ticked timer below its top counts one and no
other timer changes; at its top it goes to 0, reloads its top, raises its flag and stops where one-shot. Start and
stop bits act on exactly the timers they name, stop winning. Where words are listed, no other register word changes.
The model's choices it rests on are log entries 62, 63. (R566, R567, R568, R569.) -/
def Obligations.CompareChannelsAlarmsAndTimersAct : Prop :=
  -- COMPARE_STROBE (R566)
  (∀ (s : State) (c : Fin 48), s.tbZero ≠ none → s.has (F.CMP_CFG_EN c.val) = true →
    ((List.range 16).all (fun i => !(s.tmr i).run) = true) → Answers (exec (.compareStrobe c) s) fun t =>
    t.now = s.now + s.cmpWait c.val ∧
    (t.word (R.CMP_CNT (c.val / 4))).toNat / 2 ^ (8 * (c.val % 4)) % 256 = ((s.word (R.CMP_CNT (c.val / 4))).toNat / 2
      ^ (8 * (c.val % 4)) + 1) % 256) ∧
  -- CMP_CFG_WRITE (R566)
  (∀ (s : State) (c : Fin 48) (w : Word), Answers (exec (.cmpCfgWrite c w) s) fun t => t.word (R.CMP_CFG c.val) = w ∧
    t.now = s.now ∧ SameWords [R.CMP_CFG c.val] s t) ∧
  -- ALARM_ATL_WRITE (R567)
  (∀ (s : State) (w : Word), Answers (exec (.alarmAtlWrite w) s) fun t => (t.alarm s.selAlarm).held = w.toNat ∧
    (t.alarm s.selAlarm).time = (s.alarm s.selAlarm).time ∧ (∀ a, a ≠ s.selAlarm → t.alarm a = s.alarm a) ∧
    SameWords [] s t) ∧
  -- ALARM_SET_TIME (R567)
  (∀ (s : State) (w : Word), (s.alarm s.selAlarm).en = false → Answers (exec (.alarmSetTime w) s) fun t =>
    (t.alarm s.selAlarm).time = w.toNat * 2 ^ 32 + (s.alarm s.selAlarm).held ∧ (t.alarm s.selAlarm).en = false ∧
    (∀ a, a ≠ s.selAlarm → t.alarm a = s.alarm a) ∧ SameWords [] s t) ∧
  -- ALARM_SET_TIME (R567)
  (∀ (s : State) (w : Word), (s.alarm s.selAlarm).en = true → (s.alarm s.selAlarm).time ≠ s.tb →
    Answers (exec (.alarmSetTime w) s) fun t =>
    (t.alarm s.selAlarm).time = w.toNat * 2 ^ 32 + (s.alarm s.selAlarm).held ∧ (t.alarm s.selAlarm).en = true ∧
    (t.alarm s.selAlarm).overdue = decide (w.toNat * 2 ^ 32 + (s.alarm s.selAlarm).held ≤ s.tb) ∧ SameWords [] s t) ∧
  -- ALARM_ARM (R567)
  (∀ (s : State) (w : Word), Answers (exec (.alarmArm w) s) fun t => (t.alarm s.selAlarm).en = w.getLsbD 31 ∧
    (t.alarm s.selAlarm).owner = w.toNat / 2 ^ 24 % 32 ∧
    (t.alarm s.selAlarm).overdue = (w.getLsbD 31 && decide ((s.alarm s.selAlarm).time ≤ s.tb)) ∧
    (∀ a, a ≠ s.selAlarm → t.alarm a = s.alarm a) ∧ SameWords [] s t) ∧
  -- ALARM_FIRE (R567)
  (∀ (s : State) (a : Fin 32), s.tbZero ≠ none → (s.alarm a.val).en = true → Answers (exec (.alarmFire a) s) fun t =>
    t.now = s.now + (if (s.alarm a.val).overdue then 1 else (s.alarm a.val).time - s.tb) ∧ (t.alarm a.val).en = false ∧
    (t.alarm a.val).late = (s.alarm a.val).overdue ∧ t.has (G.ALM_FIRED a.val).bit = true) ∧
  -- TIMER_TICK (R568)
  (∀ (s : State) (n : Fin 16), s.get (F.TMR_CFG_CSRC n.val) ≠ 1 → s.get (F.TMR_CFG_CSRC n.val) ≠ 2 →
    (s.tmr n.val).run = true → s.tmrGate n.val = true → (s.tmr n.val).cnt < (s.tmr n.val).top →
    Answers (exec (.timerTick n) s) fun t => (t.tmr n.val).cnt = (s.tmr n.val).cnt + 1 ∧ (t.tmr n.val).run = true ∧
    (t.tmr n.val).top = (s.tmr n.val).top ∧ (∀ i, i ≠ n.val → t.tmr i = s.tmr i) ∧ SameWords [] s t) ∧
  -- TIMER_TICK (R568)
  (∀ (s : State) (n : Fin 16), s.get (F.TMR_CFG_CSRC n.val) ≠ 1 → s.get (F.TMR_CFG_CSRC n.val) ≠ 2 →
    (s.tmr n.val).run = true → s.tmrGate n.val = true → (s.tmr n.val).cnt = (s.tmr n.val).top →
    Answers (exec (.timerTick n) s) fun t =>
    t.tmr n.val = { cnt := 0, top := s.get (F.TMR_PRE_PRE n.val), run := !s.has (F.TMR_CFG_ONESHOT n.val) } ∧
    t.has (G.TMR_WRAP n.val).bit = true ∧ (∀ i, i < n.val → t.tmr i = s.tmr i)) ∧
  -- TIMER_START (R569)
  (∀ (s : State) (w : Word), Answers (exec (.timerStart w) s) fun t =>
    ((List.range 16).all (fun n => !w.getLsbD n || w.getLsbD (16 + n) || t.tmr n == { cnt := 0, top := s.get (F.TMR_PRE_PRE n), run := true }) = true) ∧
    ((List.range 16).all (fun n => (w.getLsbD n && !w.getLsbD (16 + n)) || t.tmr n == s.tmr n) = true) ∧
    SameWords [] s t) ∧
  -- TIMER_STOP (R569)
  (∀ (s : State) (w : Word), Answers (exec (.timerStop w) s) fun t =>
    ((List.range 16).all (fun n => !w.getLsbD (16 + n) || t.tmr n == { s.tmr n with run := false }) = true) ∧
    ((List.range 16).all (fun n => w.getLsbD (16 + n) || t.tmr n == s.tmr n) = true) ∧ SameWords [] s t)

/-- A claim by an engine that no other holds takes the unit, clears count and folded, and stores the written
configuration. A feed folds the written bytes into the context by the unit's algorithm, or is refused with the flag
and no change of the context where a rule bars the writer. A block start stores its length word and makes the unit
busy, changing no other word. Its completion in the feeding mode folds the bytes of shared memory into the context and
leaves that memory unchanged. A restored context is taken in the unit's width, folded. The model's choices it rests on
are log entry 64. (R574, R575, R577, R578.) -/
def Obligations.CheckValueUnitsComputeAndRefuse : Prop :=
  -- CRC_INIT (R574)
  (∀ (s : State) (u : Fin 4) (writer : Fin 17) (w : Word), s.crcForeign u.val writer.val = false →
    w.getLsbD 31 = true → Answers (exec (.crcInit u writer w) s) fun t =>
    t.get (F.CRC_STATUS_OWNER u.val) = writer.val ∧ t.get (F.CRC_STATUS_COUNT u.val) = 0 ∧
    t.has (F.CRC_STATUS_FOLDED u.val) = false ∧ t.word (R.CRC_CFG u.val) = w &&& 0x0FF00000#32) ∧
  -- CRC_FEED (R575)
  (∀ (s : State) (u : Fin 4) (writer : Fin 17) (w : Word), s.crcBars u.val writer.val = false →
    s.get (F.CRC_CFG_FOLD_MODE u.val) = 0 → Answers (exec (.crcFeed u writer w) s) fun t =>
    t.get (F.CRC_CTX_CTX u.val) = crcFeed (s.crcUnit u.val) (s.get (F.CRC_CTX_CTX u.val)) (leBytes (2 ^ min 2 (s.get
      (F.CRC_CFG_WIDTH u.val))) w.toNat) % 2 ^ 32 ∧
    t.get (F.CRC_STATUS_OWNER u.val) = s.get (F.CRC_STATUS_OWNER u.val)) ∧
  -- CRC_FEED (R575)
  (∀ (s : State) (u : Fin 4) (writer : Fin 17) (w : Word), s.crcBars u.val writer.val = true →
    Answers (exec (.crcFeed u writer w) s) fun t => t.has (G.CRC_REFUSED u.val).bit = true ∧
    t.get (F.CRC_CTX_CTX u.val) = s.get (F.CRC_CTX_CTX u.val)) ∧
  -- CRC_BLOCK (R575)
  (∀ (s : State) (u : Fin 4) (writer : Fin 17) (w : Word), s.crcForeign u.val writer.val = false →
    s.has (F.CRC_STATUS_BUSY u.val) = false → w.getLsbD 31 = true → w.toNat % 2 ^ 16 ≠ 0 →
    Answers (exec (.crcBlock u writer w) s) fun t => t.word (R.CRC_BLKL u.val) = w &&& 0x6000FFFF#32 ∧
    t.has (F.CRC_STATUS_BUSY u.val) = true ∧ SameWords [R.CRC_BLKL u.val, R.CRC_STATUS u.val] s t) ∧
  -- CRC_BLOCK_COMPLETE (R577)
  (∀ (s : State) (u : Fin 4), s.has (F.CRC_STATUS_BUSY u.val) = true → s.get (F.CRC_BLKL_MODE u.val) = 0 →
    s.get (F.CRC_CFG_FOLD_MODE u.val) = 0 → s.get (F.CRC_BLKL_LEN u.val) ≠ 0 →
    Answers (exec (.crcBlockComplete u) s) fun t => t.has (F.CRC_STATUS_BUSY u.val) = false ∧
    t.get (F.CRC_CTX_CTX u.val) = crcFeed (s.crcUnit u.val) (s.get (F.CRC_CTX_CTX u.val)) (s.sramRead (s.get
      (F.CRC_BLKA_ADDR u.val)) (s.get (F.CRC_BLKL_LEN u.val))) % 2 ^ 32 ∧
    t.sram = s.sram) ∧
  -- CRC_CTX_RESTORE (R578)
  (∀ (s : State) (u : Fin 4) (writer : Fin 17) (w : Word), s.crcBars u.val writer.val = false →
    Answers (exec (.crcCtxRestore u writer w) s) fun t =>
    t.get (F.CRC_CTX_CTX u.val) = w.toNat % 2 ^ (s.crcUnit u.val).width % 2 ^ 32 ∧
    t.has (F.CRC_STATUS_FOLDED u.val) = true ∧
    SameWords [R.CRC_CTX u.val, (F.CRC_RES_RESULT u.val).reg, R.CRC_STATUS u.val] s t)

/-- Power-on reset, an under-voltage fall and the reset pin each leave ROM boot with flash and OTP unchanged and no old
timer; the trip record is kept except where the island's own supply was lost; the reset pin keeps the trace and the
supplies' step, and with the supplies up arms the 40 ms boot timer and the 5 ms clock check, before that neither.
Supply start-up goes step by step, and the release of reset arms the same two timers. The model's choices it rests on
are log entries 5, 47, 97. (R643, R61, R631, R65.) -/
def Obligations.ResetsAndSupplyStartBootAnew : Prop :=
  -- POWER_ON_RESET (R643)
  (∀ (s : State) (vislLost : Bool), Answers (exec (.powerOnReset vislLost) s) fun t => t.isIn .romBoot = true ∧
    t.word R.SYS_STATE = 0#32 ∧ t.bus.step = 1 ∧ t.boot.afterPor = true ∧ t.timers = [] ∧ t.seq.traceRam = [] ∧
    (vislLost = true → t.get F.SAF_TRIP_CODE = 0) ∧ (vislLost = false → t.word R.SAF_TRIP = s.word R.SAF_TRIP) ∧
    t.flash = s.flash ∧ t.otp = s.otp ∧ t.sram = []) ∧
  -- UVLO_FALL (R61)
  (∀ (s : State), Answers (exec (.uvloFall) s) fun t => t.isIn .romBoot = true ∧ t.bus.step = 0 ∧ t.timers = [] ∧
    t.env.vinOk = false ∧ t.word R.SAF_TRIP = s.word R.SAF_TRIP ∧ t.flash = s.flash ∧ t.otp = s.otp) ∧
  -- RESET_IN_N (R631)
  (∀ (s : State), Answers (exec (.resetInN) s) fun t => t.word R.SYS_STATE = 0#32 ∧ t.isIn .romBoot = true ∧
    t.seq.traceRam = s.seq.traceRam ∧ t.word R.SAF_TRIP = s.word R.SAF_TRIP ∧
    t.get F.SYS_SEQ_PREV_HSEQ_PREV_HSEQ = s.get F.SYS_SEQ_LAST_HSEQ_LAST_HSEQ ∧ t.bus.step = s.bus.step ∧
    (s.bus.step = 5 → t.deadline .bootTimer = some (s.now + msec 40) ∧ t.deadline .clockCheck = some (s.now + msec 5)) ∧
    (s.bus.step ≠ 5 → t.deadline .bootTimer = none ∧ t.deadline .clockCheck = none) ∧ t.flash = s.flash ∧ t.otp = s.otp) ∧
  -- SUPPLY_STARTUP_STEP (R65)
  (∀ (s : State), (s.bus.step = 1 ∨ s.bus.step = 2) → Answers (exec (.supplyStartupStep) s) fun t =>
    t.bus.step = s.bus.step + 1 ∧ SameWords [] s t) ∧
  -- SUPPLY_STARTUP_STEP (R65)
  (∀ (s : State), s.bus.step = 3 → Answers (exec (.supplyStartupStep) s) fun t => t.bus.step = 5 ∧
    t.deadline .bootTimer = some (s.now + msec 40) ∧ t.deadline .clockCheck = some (s.now + msec 5) ∧ SameWords [] s t)

/-- The straps are latched by majority of three samples (TEST needs three ones; disagreement sets UNSTABLE). A clock check
that runs out trips Deep Winter with 0xE201 or 0xE202. Root lock with a good self-test starts the time base and step
2. The OTP read counts one, arms the daily re-read and leaves the cells alone. An unusable flash enters ROM recovery,
a usable table is taken over for step 4. An EMPTY slot is passed with code 2. A PENDING slot that fails its checks is
marked BAD with the code; a GOOD slot that passes them is taken, its header and boot section loaded and its build
shown, for step 5. At step 5 no supply leaves boot waiting without the boot timer, and VIN_OK enters Spring by T1 with
the seal and Spring limits armed. The model's choices it rests on are log entries 3, 13, 43, 44, 104. (R52, R18, R506,
R92, R98, R99.) -/
def Obligations.RomBootStepsAct : Prop :=
  -- STRAP_LATCH (R52)
  (∀ (s : State) (a0 a1 a2 c0 c1 test : BitVec 3), s.romAt 0 = true → s.boot.latched = false →
    Answers (exec (.strapLatch a0 a1 a2 c0 c1 test) s) fun t =>
    t.get F.SYS_STRAP_ADDR = 4 * b2n (majority a2) + 2 * b2n (majority a1) + b2n (majority a0) ∧
    t.get F.SYS_STRAP_I2C_ADDR = 0x60 + (4 * b2n (majority a2) + 2 * b2n (majority a1) + b2n (majority a0)) ∧
    t.get F.SYS_STRAP_CHAIN_POS = 2 * b2n (majority c1) + b2n (majority c0) ∧
    t.has F.SYS_STRAP_TEST = decide (test = 7#3) ∧
    (t.has F.SYS_STRAP_UNSTABLE = !([a0, a1, a2, c0, c1, test].all fun v => v = 0#3 || v = 7#3)) ∧
    t.boot.latched = true ∧ SameWords [R.SYS_STRAP] s t) ∧
  -- CLOCK_CHECK_TIMEOUT (R18)
  (∀ (s : State) (xtalOk : Bool), s.armed .clockCheck = true → s.isIn .deepWinter = false →
    Answers (exec (.clockCheckTimeout xtalOk) s) fun t => t.isIn .deepWinter = true ∧
    t.get F.SAF_TRIP_CODE = (if xtalOk then 0xE202 else 0xE201) ∧ t.has F.SAF_STATUS_ISL_OFF = true ∧
    t.get F.SYS_STATE_ENTRY = 12) ∧
  -- ROOT_LOCK (R18)
  (∀ (s : State) (selftestOk : Bool), s.romAt 0 = true → selftestOk = true →
    Answers (exec (.rootLock selftestOk) s) fun t => t.tbZero = some s.now ∧ t.has F.CLK_STATUS_ROOT_LOCK = true ∧
    t.has F.CLK_STATUS_XTAL_OK = true ∧ t.has F.SAF_STATUS_SELFTEST_OK = true ∧ t.boot.step = 2 ∧
    t.armed .clockCheck = false ∧ SameWords [R.CLK_STATUS, R.SAF_STATUS] s t) ∧
  -- OTP_BOOT_READ (R506)
  (∀ (s : State) (reads : List (Nat × Word × Word × Word)), s.romAt 2 = true → s.boot.latched = true →
    Answers (exec (.otpBootRead reads) s) fun t => t.get F.OTP_REREAD_COUNT = 1 ∧
    t.deadline .otpDay = some (s.now + secs 86400) ∧ t.sec.force = (s.takeOtp reads).sec.force ∧
    t.sec.marg = (s.takeOtp reads).sec.marg ∧ t.otp = s.otp) ∧
  -- SLOT_TABLE_READ (R92)
  (∀ (s : State) (sfdpOk : Bool) (mbit : Nat), s.romAt 3 = true → (sfdpOk = false ∨ mbit < 128) →
    Answers (exec (.slotTableRead sfdpOk mbit) s) fun t => t.isIn .romRecovery = true ∧ t.boot.codeA = 0xE ∧
    t.boot.codeB = 0xE ∧ t.hif.mailboxOpen = true) ∧
  -- SLOT_TABLE_READ (R92)
  (∀ (s : State) (sfdpOk : Bool) (mbit : Nat) (c : Nat × SlotTab × Bool), s.romAt 3 = true → sfdpOk = true →
    128 ≤ mbit → s.chooseTable = some c → c.2.1.recovery ≠ 0x5A → Answers (exec (.slotTableRead sfdpOk mbit) s) fun t =>
    t.boot.step = 4 ∧ t.boot.copy = c.1 ∧ t.boot.tab = c.2.1 ∧ t.boot.tabOld = c.2.1 ∧
    t.boot.density = min mbit 512 * 131072 ∧ SameWords [] s t) ∧
  -- FIRMWARE_SLOT_VERIFY (R98)
  (∀ (s : State) (readErr : Nat), s.romAt 4 = true → s.boot.fwTry = 0 → s.boot.tabOld.fwFirst = 0 →
    s.boot.tab.fwState 0 = 0xFF → slotGood ≠ 0xFF → Answers (exec (.firmwareSlotVerify readErr) s) fun t =>
    t.boot.fwTry = 1 ∧ t.boot.codeA = 2 ∧ t.boot.step = 4 ∧ t.boot.codeB = s.boot.codeB ∧ SameWords [] s t) ∧
  -- FIRMWARE_SLOT_VERIFY (R98)
  (∀ (s : State) (readErr : Nat), s.romAt 4 = true → s.boot.fwTry = 0 → s.boot.tabOld.fwFirst = 0 →
    s.boot.tab.fwState 0 = slotPending → s.fwChecks (fwBase 0) (s.boot.tab.fwLen 0) readErr ≠ 1 →
    s.fwChecks (fwBase 0) (s.boot.tab.fwLen 0) readErr ≠ 0xE → Answers (exec (.firmwareSlotVerify readErr) s) fun t =>
    t.boot.fwTry = 1 ∧ t.boot.codeA = s.fwChecks (fwBase 0) (s.boot.tab.fwLen 0) readErr ∧
    t.boot.tab.fwState 0 = slotBad ∧ t.boot.rejects = s.boot.rejects + 1 ∧ t.boot.step = 4 ∧ SameWords [] s t) ∧
  -- FIRMWARE_SLOT_VERIFY (R98)
  (∀ (s : State) (readErr : Nat), s.romAt 4 = true → s.boot.fwTry = 0 → s.boot.tabOld.fwFirst = 0 →
    s.boot.tab.fwState 0 = slotGood → s.fwChecks (fwBase 0) (s.boot.tab.fwLen 0) readErr = 1 →
    Answers (exec (.firmwareSlotVerify readErr) s) fun t => t.boot.codeA = 1 ∧ t.boot.step = 5 ∧
    t.boot.tab = s.boot.tab ∧ t.boot.fwHdr = s.flashRead (fwBase 0) 0x400 ∧ t.get F.BOOT_STATUS_FW_SLOT = 0 ∧
    t.get F.BOOT_STATUS_FW_A = 1 ∧ t.get F.BOOT_FWID_BUILD_ID = leAt (s.flashRead (fwBase 0) 0x400) 0x10 4 ∧
    t.engMem = bankWriteList zeroWord s.engMem (codeBase 0) (bytesToWords (s.flashRead (fwBase 0 + leAt (s.flashRead
      (fwBase 0) 0x400) 0x20 4) (leAt (s.flashRead (fwBase 0) 0x400) 0x24 4))) ∧
    SameWords [R.BOOT_STATUS, R.BOOT_FWID, R.BOOT_VERS] s t) ∧
  -- ROM_BOOT_GUARD_JUDGE (R99)
  (∀ (s : State), s.romAt 5 = true → s.env.vinOk = false → s.bus.sinkPresent = false →
    Answers (exec (.romBootGuardJudge) s) fun t => t.armed .bootTimer = false ∧ t.isIn .romBoot = true ∧
    t.boot = s.boot ∧ SameWords [] s t) ∧
  -- ROM_BOOT_GUARD_JUDGE (R99)
  (∀ (s : State), s.romAt 5 = true → s.env.vinOk = true → Answers (exec (.romBootGuardJudge) s) fun t =>
    t.isIn .spring = true ∧ t.get F.SYS_STATE_ENTRY = 1 ∧ t.boot.step = 1 ∧ t.get F.SAF_STATUS_ISTATE = 1 ∧
    t.deadline .springLimit = some (s.now + msec 5000) ∧ t.deadline .sealTimer = some (s.now + msec 100) ∧
    t.armed .bootTimer = false)

/-- With both configuration slots empty the built-in configuration is taken; an image in slot A that verifies is taken
over with its serial number and absent ports. A load whose sections all match releases the loaded engines together.
Protection set-up that reads back well, with a following off-test, seals, passes the off-test and opens the mailbox.
The seal value seals, stops the seal timer and latches the kept rails; any other value, or a second seal, leaves the
state as it was. The model's choices it rests on are log entries 4, 103, 104. (R106, R108, R111, R512.) -/
def Obligations.SpringLoadsAndSeals : Prop :=
  -- CONFIG_READ (R106)
  (∀ (s : State) (errA errB : Bool), s.springAtStep 1 = true → s.boot.tab.cfgState 0 = slotEmpty →
    s.boot.tab.cfgState 1 = slotEmpty → s.boot.found = [] → s.boot.rejects = 0 → s.boot.trials = 0 →
    Answers (exec (.configRead errA errB) s) fun t => t.boot.step = 2 ∧ t.boot.builtin = true ∧
    t.has F.BOOT_STATUS_CFG_BUILTIN = true) ∧
  -- CONFIG_READ (R106)
  (∀ (s : State) (errA errB : Bool), s.springAtStep 1 = true → s.boot.tabOld.cfgFirst = 0 → (s.tryCfg 0 errA).1 = 1 →
    Answers (exec (.configRead errA errB) s) fun t => t.boot.step = 2 ∧ t.get F.BOOT_STATUS_CFG_SLOT = 0 ∧
    t.get F.BOOT_STATUS_CFG_A = 1 ∧ t.get F.BOOT_CFGID_SERIAL = leAt (s.flashRead (cfgBase 0) 0x80) 0x14 4 ∧
    t.boot.portsAbsent = (unitsOf ((parseRecs (bodyWords (s.flashRead (cfgBase 0 + 0x80) (leAt (s.flashRead (cfgBase
      0) 0x80) 0x0C 4))).length (bodyWords (s.flashRead (cfgBase 0 + 0x80) (leAt (s.flashRead (cfgBase 0) 0x80) 0x0C
      4)))).getD [])).ports ∧
    t.boot.builtin = s.boot.builtin ∧ t.otp = s.otp ∧ t.flash = s.flash) ∧
  -- ENGINE_LOAD (R108)
  (∀ (s : State), s.springAtStep 2 = true →
    (((if s.isIn .spring then [0] else []) ++ s.loadOrder).all (fun e => s.sectionOk (fwBase (s.get
      F.BOOT_STATUS_FW_SLOT)) s.boot.fwHdr e) = true) →
    s.isIn .offSeason = false → s.engineSkipped 9 = true → Answers (exec (.engineLoad) s) fun t => t.boot.step = 3 ∧
    (t.boot.engRun = s.loadOrder.foldl (fun m e => m + 2 ^ e) 1) ∧ SameWords [] s t) ∧
  -- PROTECTION_SETUP (R111)
  (∀ (s : State) (readBackOk followWinter followIsl : Bool), s.springAtStep 3 = true →
    s.has F.BOOT_STATUS_ENG_FAIL = false → s.has F.PROT_STATUS_SEALED = false → s.armed .sealTimer = true →
    s.island.offTested = false → readBackOk = true → followWinter = true → followIsl = true → s.boot.builtin = false →
    s.linkOn = false → Answers (exec (.protectionSetup readBackOk followWinter followIsl) s) fun t => t.boot.step = 4 ∧
    t.has F.PROT_STATUS_SEALED = true ∧ t.has F.SAF_STATUS_OFFTEST_OK = true ∧ t.hif.mailboxOpen = true) ∧
  -- PROT_SEAL (R512)
  (∀ (s : State) (w : Word), w.toNat % 65536 = 0x5EA1 → s.springAtStep 3 = true → s.has F.PROT_STATUS_SEALED = false →
    Answers (exec (.protSeal w) s) fun t => t.has F.PROT_STATUS_SEALED = true ∧ t.armed .sealTimer = false ∧
    (allRails.all (fun j => (t.rail j).keep == s.has (F.SQ_WIN_KEEP j)) = true)) ∧
  -- PROT_SEAL (R512)
  (∀ (s : State) (w : Word), (w.toNat % 65536 ≠ 0x5EA1 ∨ s.has F.PROT_STATUS_SEALED = true) →
    Answers (exec (.protSeal w) s) fun t => t = s)

/-- A due slot table is written once, with the next generation, into the other copy, or with a contained fault leaves the
table in force. A due life record goes into the next slot, read back, raising the marks and every session's ceiling; a
failed write tries the next slot with a contained fault, a failed retry waits 10 s more; no flash byte outside the
slot, or on failure its sector, changes. A session's raise writes the due record, or where logs are not written takes
the marks that stand. An hour of life makes a record due; a sector erase leaves 4,096 bytes of 0xFF, and a failed one
stays due with a contained fault, no other flash byte changed. The Spring limit takes T9 with 0xC001. The Winter hold
begins the restart's power-down while tries remain. A Summer hour clears the Winter restart count alone. The model's
choices it rests on are log entries 3, 46, 100, 102, 125. (R93, R113, R114, R514, R40, R37.) -/
def Obligations.LifeRecordsAndDeviceLimitsAct : Prop :=
  -- SLOT_TABLE_WRITE (R93)
  (∀ (s : State), s.isAny [.spring, .summer, .winter, .offSeason] = true → 3 ≤ s.boot.step → s.boot.tabTried = false →
    s.flashFree = true → s.boot.tab ≠ s.boot.tabOld → Answers (exec (.slotTableWrite true) s) fun t =>
    t.boot.tabTried = true ∧ t.boot.copy = 1 - s.boot.copy ∧
    t.boot.tab = { s.boot.tab with gen := (s.boot.tabOld.gen + 1) % 2 ^ 32 } ∧
    t.boot.tabOld = { s.boot.tab with gen := (s.boot.tabOld.gen + 1) % 2 ^ 32 } ∧
    t.flashRead (tableBase (1 - s.boot.copy)) 64 = SlotTab.bytes { s.boot.tab with gen := (s.boot.tabOld.gen + 1) % 2 ^ 32 } ∧
    SameFlash (tableBase (1 - s.boot.copy)) 4096 s t ∧ SameWords [] s t) ∧
  -- SLOT_TABLE_WRITE (R93)
  (∀ (s : State), s.isAny [.spring, .summer, .winter, .offSeason] = true → 3 ≤ s.boot.step → s.boot.tabTried = false →
    s.flashFree = true → s.boot.tab ≠ s.boot.tabOld → s.calm 0x2A = true →
    Answers (exec (.slotTableWrite false) s) fun t => t.boot.tabTried = true ∧ t.boot.copy = s.boot.copy ∧
    t.boot.tab = s.boot.tab ∧ t.has G.FLT_CONT.bit = true ∧ SameFlash (tableBase (1 - s.boot.copy)) 4096 s t) ∧
  -- LIFE_RECORD_APPEND (R113)
  (∀ (s : State) (n : Nat), s.logsWritten = true → s.flashFree = true → s.boot.lifeDue = some n →
    s.boot.lifeTries < 3 → s.boot.lifeErased = true →
    s.flashRead (lifeSlotBase s.boot.lifeNext) 1024 = List.replicate 1024 0xFF#8 →
    Answers (exec (.lifeRecordAppend true) s) fun t => t.boot.lifeDue = none ∧ t.boot.lifeSlot = some s.boot.lifeNext ∧
    t.boot.lifeNext = (s.boot.lifeNext + 1) % 56 ∧ t.boot.lifeSeq = (s.boot.lifeSeq + 1) % 2 ^ 32 ∧
    t.boot.marks = s.boot.marksDue ∧
    ((List.range 128).all (fun i => sessionVal t.sec.ceil i == max (sessionVal s.sec.ceil i) (sessionVal
      s.boot.marksDue i)) = true) ∧
    t.flashRead (lifeSlotBase s.boot.lifeNext) 1024 = s.lifeBytes ((s.boot.lifeSeq + 1) % 2 ^ 32) n ∧
    t.armed .lifeRetry = false ∧ SameFlash (lifeSlotBase s.boot.lifeNext) 1024 s t ∧ SameWords [] s t) ∧
  -- LIFE_RECORD_APPEND (R113)
  (∀ (s : State) (n : Nat), s.logsWritten = true → s.flashFree = true → s.boot.lifeDue = some n →
    s.boot.lifeTries < 2 → s.calm 0x2A = true → Answers (exec (.lifeRecordAppend false) s) fun t =>
    t.boot.lifeDue = some n ∧ t.boot.lifeTries = s.boot.lifeTries + 1 ∧ t.boot.lifeNext = (s.boot.lifeNext + 1) % 56 ∧
    t.boot.lifeSeq = s.boot.lifeSeq ∧ t.has G.FLT_CONT.bit = true ∧
    SameFlash (lifeBase + 4096 * (s.boot.lifeNext / 4)) 4096 s t) ∧
  -- LIFE_RECORD_RETRY (R114)
  (∀ (s : State) (n : Nat), s.logsWritten = true → s.flashFree = true → s.armed .lifeRetry = true →
    s.boot.lifeDue = some n → s.boot.lifeErased = true →
    s.flashRead (lifeSlotBase s.boot.lifeNext) 1024 = List.replicate 1024 0xFF#8 →
    Answers (exec (.lifeRecordRetry true) s) fun t => t.boot.lifeDue = none ∧ t.boot.lifeSlot = some s.boot.lifeNext ∧
    t.boot.lifeTries = 0 ∧ t.boot.marks = s.boot.marksDue ∧
    t.flashRead (lifeSlotBase s.boot.lifeNext) 1024 = s.lifeBytes ((s.boot.lifeSeq + 1) % 2 ^ 32) n ∧
    t.armed .lifeRetry = false ∧ SameFlash (lifeSlotBase s.boot.lifeNext) 1024 s t ∧ SameWords [] s t) ∧
  -- LIFE_RECORD_RETRY (R114)
  (∀ (s : State) (n : Nat), s.logsWritten = true → s.flashFree = true → s.armed .lifeRetry = true →
    s.boot.lifeDue = some n → s.has (F.FLT_ESC_DIS 0x2A) = true → Answers (exec (.lifeRecordRetry false) s) fun t =>
    t.deadline .lifeRetry = some (t.now + secs 10) ∧ t.boot.lifeDue = some n ∧ t.boot.lifeTries = s.boot.lifeTries + 1 ∧
    t.has G.FLT_CONT.bit = true) ∧
  -- SESSION_CEILING_RAISE (R514)
  (∀ (s : State) (session : Nat) (n : Nat), s.logsWritten = true → s.flashFree = true → s.boot.lifeDue = some n →
    sessionVal s.boot.marks session < sessionVal s.boot.marksDue session →
    Answers (exec (.sessionCeilingRaise session) s) fun t => t.boot.lifeDue = none ∧
    t.boot.lifeSlot = some s.boot.lifeNext ∧ t.boot.marks = s.boot.marksDue ∧
    sessionVal t.sec.ceil session = max (sessionVal s.sec.ceil session) (sessionVal s.boot.marksDue session) ∧
    (sessionVal s.sec.ceil session < sessionVal s.boot.marksDue session → t.sec.held.contains session = false) ∧
    SameWords [] s t) ∧
  -- SESSION_CEILING_RAISE (R514)
  (∀ (s : State) (session : Nat), s.logsWritten = false → Answers (exec (.sessionCeilingRaise session) s) fun t =>
    sessionVal t.sec.ceil session = max (sessionVal s.sec.ceil session) (sessionVal s.boot.marks session) ∧
    t.flash = s.flash ∧ t.boot = s.boot ∧ SameWords [] s t) ∧
  -- LIFE_HOUR_ELAPSED (R113)
  (∀ (s : State), s.armed .lifeHour = true → Answers (exec (.lifeHourElapsed) s) fun t =>
    t.deadline .lifeHour = some (t.now + secs 3600) ∧ t.boot.lifeDue.isSome = true ∧ SameWords [] s t) ∧
  -- LIFE_SECTOR_ERASE (R114)
  (∀ (s : State) (c : Nat), s.logsWritten = true → s.flashFree = true → s.boot.lifeErase = some c →
    s.calm 0x2A = true → Answers (exec (.lifeSectorErase false) s) fun t => t.boot.lifeErase = some c ∧
    t.free = s.free + 1 ∧ t.has G.FLT_CONT.bit = true ∧ SameFlash (lifeBase + 4096 * c) 4096 s t) ∧
  -- LIFE_SECTOR_ERASE (R114)
  (∀ (s : State) (c : Nat), s.logsWritten = true → s.flashFree = true → s.boot.lifeErase = some c →
    Answers (exec (.lifeSectorErase true) s) fun t => t.boot.lifeErase = none ∧
    t.boot.lifeErased = (s.boot.lifeErased || decide (s.boot.lifeNext / 4 = c)) ∧
    t.flashRead (lifeBase + 4096 * c) 4096 = List.replicate 4096 0xFF#8 ∧ SameFlash (lifeBase + 4096 * c) 4096 s t ∧
    SameWords [] s t) ∧
  -- SPRING_LIMIT_EXPIRED (R40)
  (∀ (s : State), s.isIn .spring = true → s.armed .springLimit = true → s.upd.paused = false →
    Answers (exec (.springLimitExpired) s) fun t => t.isIn .winter = true ∧ t.get F.SYS_STATE_ENTRY = 9 ∧
    t.get F.SYS_STATE_PREV = 1 ∧ t.has F.SAF_STATUS_WINTER_OFF = true ∧ t.has G.FLT_FATAL.bit = true ∧
    (s.get F.FLT_FATAL_CODE = 0 → t.get F.FLT_FATAL_CODE = 0xC001) ∧ t.armed .springLimit = false) ∧
  -- WINTER_HOLD_ELAPSED (R37)
  (∀ (s : State), s.armed .winterHold = true → s.isIn .winter = true → s.get F.SYS_STATE_CFG_WINTER_HOLD ≠ 0 →
    s.island.held00A = false → s.get F.SYS_STATE_WRST_CNT < s.get F.SYS_STATE_CFG_WINTER_RETRY →
    Answers (exec (.winterHoldElapsed) s) fun t => t.seq.forRestart = true ∧ t.seq.restartAuto = true ∧ t.phase = 3 ∧
    t.seqStep = 0) ∧
  -- SUMMER_HOUR_ELAPSED (R37)
  (∀ (s : State), s.armed .summerHour = true → Answers (exec (.summerHourElapsed) s) fun t =>
    t.get F.SYS_STATE_WRST_CNT = 0 ∧ t.armed .summerHour = false ∧ t.get F.SYS_STATE_STATE = s.get F.SYS_STATE_STATE ∧
    SameWords [R.SYS_STATE] s t)

/-- VIN over-voltage sets its flag and its 10 ms limit; its end clears them and starts the 1 s of isolation where held;
persistence raises fatal 0xE007 at its time, from Spring or Summer into Winter. Loss of VIN_OK stops the restart wait
and the DRP timer and drives no module switch; its return keeps the device state, but in Off-season restarts by T14
into ROM boot. A sink supply is noted and starts a part without supply. A driver-supply dropout sets its bit and a
warning. The model's choices it rests on are log entries 3, 40, 97, 98, 123. (R61, R86, R644, R178, R180, R64.) -/
def Obligations.SupplyPinsAct : Prop :=
  -- VIN_OVP_RISE (R61)
  (∀ (s : State), s.env.vinOvp = false → s.calm 0x20 = true → Answers (exec (.vinOvpRise) s) fun t =>
    t.env.vinOvp = true ∧ t.has G.BUS_OVP.bit = true ∧ t.deadline .vinOvp = some (s.now + msec 10)) ∧
  -- VIN_OVP_FALL (R61)
  (∀ (s : State), s.env.vinOvp = true → Answers (exec (.vinOvpFall) s) fun t => t.env.vinOvp = false ∧
    t.armed .vinOvp = false ∧ (s.bus.isoHold = true → t.deadline .busIsolation = some (s.now + secs 1)) ∧
    SameWords [] s t) ∧
  -- VIN_OVP_PERSIST (R86)
  (∀ (s : State) (d : Nat), s.deadline .vinOvp = some d →
    exec (.vinOvpPersist) s = .next ((((s.advanceTo d).disarm .vinOvp).classify 0xE007))) ∧
  -- VIN_OVP_PERSIST (R86)
  (∀ (s : State), s.armed .vinOvp = true → s.isAny [.spring, .summer] = true → s.upd.paused = false →
    Answers (exec (.vinOvpPersist) s) fun t => t.has G.FLT_FATAL.bit = true ∧ t.isIn .winter = true ∧
    t.get F.SYS_STATE_ENTRY = 9 ∧
    t.get F.FLT_FATAL_CODE = (if s.get F.FLT_FATAL_CODE = 0 then 0xE007 else s.get F.FLT_FATAL_CODE) ∧
    t.armed .vinOvp = false) ∧
  -- VIN_OK_FALL (R644)
  (∀ (s : State), s.env.vinOk = true → Answers (exec (.vinOkFall) s) fun t => t.env.vinOk = false ∧
    t.armed .restartWait = false ∧ t.armed .drp = false ∧ (modulePorts.all (fun k => !t.switchDriven k) = true)) ∧
  -- VIN_OK_RISE (R178)
  (∀ (s : State), s.env.vinOk = false → s.isIn .offSeason = false → Answers (exec (.vinOkRise) s) fun t =>
    t.env.vinOk = true ∧ t.get F.SYS_STATE_STATE = s.get F.SYS_STATE_STATE) ∧
  -- VIN_OK_RISE (R178)
  (∀ (s : State), s.env.vinOk = false → s.isIn .offSeason = true → Answers (exec (.vinOkRise) s) fun t =>
    t.env.vinOk = true ∧ t.get F.SYS_STATE_STATE = 0 ∧ t.get F.SYS_STATE_PREV = 6 ∧ t.get F.SYS_STATE_ENTRY = 14) ∧
  -- SINK_SUPPLY_PRESENT (R180)
  (∀ (s : State), Answers (exec (.sinkSupplyPresent) s) fun t => t.bus.sinkPresent = true ∧
    (s.bus.step = 0 → t.bus.step = 1) ∧ SameWords [] s t) ∧
  -- VDRV_DROPOUT (R64)
  (∀ (s : State), s.has F.BUS_STATUS_VDRV_DROP = false → s.isAny [.romBoot, .deepWinter] = false →
    Answers (exec (.vdrvDropout) s) fun t => t.has F.BUS_STATUS_VDRV_DROP = true ∧ t.has G.FLT_WARN.bit = true)

/-- The first edge is timed; the eighth good 50 Hz period locks and arms the loss timer with 1.5 tracked half-periods. A
mains loss sets lost and its flag. A lock timeout warns once. A return within the hold goes back from Autumn to Summer
by T7 with the mains trigger off. The judgement stores the frame's lowest VIN result and begins the next frame's; in
Summer below the commit threshold it commits Autumn and starts the power-down. An ended restart wait of a finished
Autumn restarts by T8, keeping the Winter count. The model's choices it rests on are log entries 3, 40, 41, 99, 101.
(R67, R86, R71, R76.) -/
def Obligations.MainsAndRideThroughAct : Prop :=
  -- ACSNS_EDGE (R67)
  (∀ (s : State) (dt : Nat), s.acsnsOn = true → s.bus.lastEdge = none → Answers (exec (.acsnsEdge dt) s) fun t =>
    t.now = s.now + dt ∧ t.bus.lastEdge = some t.now ∧ SameWords [] s t) ∧
  -- ACSNS_EDGE (R67)
  (∀ (s : State) (dt e : Nat), s.acsnsOn = true → s.bus.lastEdge = some e → s.has F.BUS_STATUS_MAINS_LOCK = false →
    s.bus.skipNext = false → 7 ≤ s.bus.run50 → inWindow false (s.now + dt - e) = true →
    Answers (exec (.acsnsEdge dt) s) fun t => t.bus.lastEdge = some t.now ∧ t.has F.BUS_STATUS_MAINS_LOCK = true ∧
    t.has F.BUS_STATUS_MAINS_60HZ = false ∧ t.deadline .mainsLoss = some (t.now + t.tracked * 3 / 2)) ∧
  -- MAINS_LOSS (R67)
  (∀ (s : State), s.armed .mainsLoss = true → s.bus.lossArmed = true → s.has F.BUS_STATUS_MAINS_LOCK = true →
    Answers (exec (.mainsLoss) s) fun t => t.has F.BUS_STATUS_MAINS_LOST = true ∧ t.bus.lossArmed = false ∧
    t.bus.mainsEdge = !s.bus.mainsOff ∧ t.has G.BUS_MAINS.bit = true) ∧
  -- ACSNS_LOCK_TIMEOUT (R86)
  (∀ (s : State), s.armed .acsnsLock = true → s.acsnsOn = true → s.has F.BUS_STATUS_MAINS_LOCK = false →
    Answers (exec (.acsnsLockTimeout) s) fun t => t.armed .acsnsLock = false ∧ t.has G.FLT_WARN.bit = true ∧
    t.has F.BUS_STATUS_MAINS_LOCK = false) ∧
  -- MAINS_RETURN_TIMEOUT (R86)
  (∀ (s : State), s.armed .mainsReturn = true → s.isIn .autumn = true → s.bus.cause = 2 →
    s.has F.SYS_STATE_COMMITTED = false → s.get F.SYS_STATE_PREV = 2 → s.calm 0x20 = true →
    Answers (exec (.mainsReturnTimeout) s) fun t => t.isIn .summer = true ∧ t.get F.SYS_STATE_ENTRY = 7 ∧
    t.bus.mainsOff = true) ∧
  -- BUS_JUDGEMENT (R71)
  (∀ (s : State), s.triggersAct = false → s.isIn .spring = false → s.isIn .autumn = false →
    Answers (exec (.busJudgement) s) fun t => t.get F.BUS_VIN_VIN_MV = s.frameVin % 2 ^ F.BUS_VIN_VIN_MV.width ∧
    t.env.vinMv = s.frameVin ∧ t.msr.vinLow = none ∧ t.bus.mainsEdge = false) ∧
  -- BUS_JUDGEMENT (R71)
  (∀ (s : State), s.isIn .summer = true → s.upd.paused = false → s.triggersAct = true →
    s.has F.SYS_STATE_COMMITTED = false → 1 ≤ s.bus.lowC → s.frameVin < s.get F.BUS_THR_COMMIT_MV →
    Answers (exec (.busJudgement) s) fun t => t.has F.SYS_STATE_COMMITTED = true ∧ t.isIn .autumn = true ∧ t.phase = 3) ∧
  -- RESTART_WAIT_ELAPSED (R76)
  (∀ (s : State), s.armed .restartWait = true → s.isIn .autumn = true → s.has F.SYS_STATE_DONE = true →
    s.seq.winterDue = none → Answers (exec (.restartWaitElapsed) s) fun t => t.isIn .romBoot = true ∧
    t.get F.SYS_STATE_PREV = 3 ∧ t.get F.SYS_STATE_ENTRY = 8 ∧ t.get F.SYS_STATE_WRST_CNT = s.get F.SYS_STATE_WRST_CNT)

/-- A count in range is stored with XCHK_OK; one out of range, or a missing strobe, trips with 0xE201, 0xE202 or 0xE203;
an oscillator in range changes nothing, and outside it in ROM boot the fault 0xC00A is noted. A lockstep mismatch
trips with 0xE401 and records the state. The watchdog opens its window, and a period with an answer takes the next
sequence and challenge, a period without one trips with 0xE402 detail 1. A right answer in the window is accepted; one
in the hold returns to RUN. The model's choices it rests on are log entries 3, 13, 58, 89, 120, 128. (R450, R451,
R452, R453, R454.) -/
def Obligations.IslandClockAndWatchdogChecksAct : Prop :=
  -- CLOCK_CROSS_CHECK (R450)
  (∀ (s : State) (count : BitVec 10) (strobe amplitude lock : Bool), s.tbZero ≠ none → strobe = true →
    295 ≤ count.toNat → count.toNat ≤ 360 → Answers (exec (.clockCrossCheck count strobe amplitude lock) s) fun t =>
    t.has F.CLK_STATUS_XCHK_OK = true ∧ t.get F.SAF_XCHK_LAST = count.toNat ∧ t.island.xFresh = false ∧
    SameWords [R.CLK_STATUS, R.SAF_XCHK] s t) ∧
  -- CLOCK_CROSS_CHECK (R450)
  (∀ (s : State) (count : BitVec 10) (strobe amplitude lock : Bool), s.tbZero ≠ none → strobe = false →
    s.isIn .deepWinter = false → Answers (exec (.clockCrossCheck count strobe amplitude lock) s) fun t =>
    t.isIn .deepWinter = true ∧
    t.get F.SAF_TRIP_CODE = (if amplitude then 0xE201 else if lock then 0xE202 else 0xE203) ∧
    t.has F.SAF_STATUS_ISL_OFF = true) ∧
  -- CLOCK_CROSS_CHECK (R450)
  (∀ (s : State) (count : BitVec 10) (strobe amplitude lock : Bool), s.tbZero ≠ none → strobe = true →
    (count.toNat < 295 ∨ 360 < count.toNat) → s.isIn .deepWinter = false →
    Answers (exec (.clockCrossCheck count strobe amplitude lock) s) fun t => t.isIn .deepWinter = true ∧
    t.has F.CLK_STATUS_XCHK_OK = false ∧ t.get F.SAF_XCHK_LAST = count.toNat ∧
    t.get F.SAF_TRIP_CODE = (if amplitude then 0xE201 else if lock then 0xE202 else 0xE203)) ∧
  -- ISLAND_OSC_CHECK (R451)
  (∀ (s : State) (count : BitVec 10), (s.tbZero = none ∨ (720 ≤ count.toNat ∧ count.toNat ≤ 880)) →
    Answers (exec (.islandOscCheck count) s) fun t => t = s) ∧
  -- ISLAND_OSC_CHECK (R451)
  (∀ (s : State) (count : BitVec 10), s.tbZero ≠ none → (count.toNat < 720 ∨ 880 < count.toNat) →
    s.isIn .romBoot = true → Answers (exec (.islandOscCheck count) s) fun t => t.island.held00A = true ∧
    t.boot.found = s.boot.found ++ [0xC00A] ∧ SameWords [] s t) ∧
  -- LOCKSTEP_MISMATCH (R452)
  (∀ (s : State), s.isIn .deepWinter = false → Answers (exec (.lockstepMismatch) s) fun t =>
    t.isIn .deepWinter = true ∧ t.get F.SAF_TRIP_CODE = 0xE401 ∧ t.get F.SAF_TRIP_PREV_STATE = s.get F.SYS_STATE_STATE ∧
    t.has F.SAF_STATUS_ISL_OFF = true ∧ t.boot.engRun = 0) ∧
  -- WATCHDOG_OPEN_WINDOW (R453)
  (∀ (s : State), s.armed .wdClosed = true → Answers (exec (.watchdogOpenWindow) s) fun t =>
    t.has F.SAF_STATUS_OPEN = true ∧ t.deadline .wdPeriod = some (t.now + islandCycles 9600) ∧
    t.armed .wdClosed = false ∧ SameWords [R.SAF_STATUS] s t) ∧
  -- WATCHDOG_PERIOD_START (R453)
  (∀ (s : State), s.armed .wdPeriod = true → s.island.answered = true →
    Answers (exec (.watchdogPeriodStart) s) fun t => t.island.answered = false ∧
    t.get F.SAF_WDCHAL_SEQ = (s.get F.SAF_WDCHAL_SEQ + 1) % 2 ^ 16 ∧
    t.get F.SAF_WDCHAL_CHAL = lfsrNext s.island.lfsr % 2 ^ 16 ∧ t.has F.SAF_STATUS_OPEN = false ∧
    t.deadline .wdClosed = some (t.now + islandCycles 9600) ∧ SameWords [R.SAF_STATUS, R.SAF_WDCHAL] s t) ∧
  -- WATCHDOG_PERIOD_START (R453)
  (∀ (s : State), s.armed .wdPeriod = true → s.island.answered = false → s.isIn .deepWinter = false →
    Answers (exec (.watchdogPeriodStart) s) fun t => t.isIn .deepWinter = true ∧ t.get F.SAF_TRIP_CODE = 0xE402 ∧
    t.get F.SAF_TRIP_DETAIL = 1) ∧
  -- WATCHDOG_ANSWER (R454)
  (∀ (s : State) (w : Word), s.get F.SAF_STATUS_ISTATE = 2 → s.wdShut = false → s.island.answered = false →
    s.wdFault w = 0 → Answers (exec (.watchdogAnswer w) s) fun t => t.island.answered = true ∧ SameWords [] s t) ∧
  -- WATCHDOG_ANSWER (R454)
  (∀ (s : State) (w : Word), s.get F.SAF_STATUS_ISTATE = 3 → s.wdFault w = 0 →
    Answers (exec (.watchdogAnswer w) s) fun t => t.get F.SAF_STATUS_ISTATE = 2 ∧ t.armed .holdTimer = false ∧
    t.deadline .wdClosed = some (s.now + islandCycles 9600) ∧ t.has G.SAF_HOLD_USED.bit = true)

/-- The boot, seal and hold timers trip with 0xE402 and details 7, 8 and 9; a hold in a handover takes HOLD, arms 45 ms,
stops the watchdog's timers and advances its sequence; a missing collector heartbeat, or a second wrong classification
in a row, trips with 0xC008, a right one clears the run. While paused no engine heartbeat is judged, yet the words are
kept; otherwise changed words count nothing and the third unchanged word of a running engine raises its fatal fault. A
following off-test passes. The 32nd hot result warns once; a cool one ends it. The model's choices it rests on are log
entries 3, 58. (R455, R456, R457, R458, R459, R460.) -/
def Obligations.IslandTimersAndHeartbeatsAct : Prop :=
  -- BOOT_TIMER_EXPIRED (R455)
  (∀ (s : State), s.armed .bootTimer = true → s.isIn .deepWinter = false →
    Answers (exec (.bootTimerExpired) s) fun t => t.isIn .deepWinter = true ∧ t.get F.SAF_TRIP_CODE = 0xE402 ∧
    t.get F.SAF_TRIP_DETAIL = 7) ∧
  -- SEAL_TIMER_EXPIRED (R455)
  (∀ (s : State), s.armed .sealTimer = true → s.isIn .deepWinter = false →
    Answers (exec (.sealTimerExpired) s) fun t => t.isIn .deepWinter = true ∧ t.get F.SAF_TRIP_CODE = 0xE402 ∧
    t.get F.SAF_TRIP_DETAIL = 8) ∧
  -- SAF_HOLD (R456)
  (∀ (s : State), s.has F.SYS_STATE_HANDOVER = true → s.get F.SAF_STATUS_ISTATE = 2 →
    Answers (exec (.safHold) s) fun t => t.get F.SAF_STATUS_ISTATE = 3 ∧
    t.deadline .holdTimer = some (s.now + msec 45) ∧ t.armed .wdPeriod = false ∧ t.armed .wdClosed = false ∧
    t.get F.SAF_WDCHAL_SEQ = (s.get F.SAF_WDCHAL_SEQ + 1) % 2 ^ 16 ∧ SameWords [R.SAF_STATUS, R.SAF_WDCHAL] s t) ∧
  -- HOLD_TIMER_EXPIRED (R456)
  (∀ (s : State), s.armed .holdTimer = true → s.isIn .deepWinter = false →
    Answers (exec (.holdTimerExpired) s) fun t => t.isIn .deepWinter = true ∧ t.get F.SAF_TRIP_CODE = 0xE402 ∧
    t.get F.SAF_TRIP_DETAIL = 9) ∧
  -- COLLECTOR_HEARTBEAT_MISSING (R457)
  (∀ (s : State), s.isIn .deepWinter = false → Answers (exec (.collectorHeartbeatMissing) s) fun t =>
    t.isIn .deepWinter = true ∧ t.get F.SAF_TRIP_CODE = 0xC008 ∧ t.has F.SAF_STATUS_ISL_OFF = true) ∧
  -- CLASSIFIER_TEST (R457)
  (∀ (s : State) (right : Bool), (right = true ∨ s.island.clsWrong ≠ 1) →
    Answers (exec (.classifierTest right) s) fun t => t.island.clsWrong = (if right then 0 else s.island.clsWrong + 1) ∧
    SameWords [] s t) ∧
  -- CLASSIFIER_TEST (R457)
  (∀ (s : State) (right : Bool), right = false → s.island.clsWrong = 1 → s.isIn .deepWinter = false →
    Answers (exec (.classifierTest right) s) fun t => t.isIn .deepWinter = true ∧ t.get F.SAF_TRIP_CODE = 0xC008) ∧
  -- ENGINE_HEARTBEAT_CHECK (R458)
  (∀ (s : State) (words : List Word), s.isAny [.romBoot, .deepWinter, .romRecovery] = false → s.upd.paused = true →
    s.island.hbSame.length = 16 → s.island.hbWords.length = 16 → Answers (exec (.engineHeartbeatCheck words) s) fun t =>
    ((List.range 16).all (fun e => e == 0 || t.island.hbSame.getD e 0 == 0) = true) ∧
    ((List.range 16).all (fun e => e == 0 || t.island.hbWords.getD e none == some (words.getD e 0#32)) = true) ∧
    SameWords [] s t) ∧
  -- ENGINE_HEARTBEAT_CHECK (R458)
  (∀ (s : State) (words : List Word), s.isAny [.romBoot, .deepWinter, .romRecovery] = false → s.upd.paused = false →
    s.island.hbSame.length = 16 → s.island.hbWords.length = 16 →
    ((List.range 16).all (fun e => !s.engine e || s.island.hbWords.getD e none != some (words.getD e 0#32)) = true) →
    Answers (exec (.engineHeartbeatCheck words) s) fun t =>
    ((List.range 16).all (fun e => e == 0 || t.island.hbSame.getD e 0 == 0) = true) ∧
    ((List.range 16).all (fun e => e == 0 || t.island.hbWords.getD e none == some (words.getD e 0#32)) = true) ∧
    SameWords [] s t) ∧
  -- ENGINE_HEARTBEAT_CHECK (R458)
  (∀ (s : State) (words : List Word) (e : Nat), s.isAny [.romBoot, .deepWinter, .romRecovery] = false →
    s.upd.paused = false → s.island.hbSame.length = 16 → s.island.hbWords.length = 16 → 1 ≤ e → e < 16 → s.phase ≠ 3 →
    s.engine e = true → s.island.hbWords.getD e none = some (words.getD e 0#32) → s.island.hbSame.getD e 0 = 2 →
    ((List.range 16).all (fun i => i == e || !s.engine i || s.island.hbWords.getD i none != some (words.getD i 0#32))
      = true) →
    Answers (exec (.engineHeartbeatCheck words) s) fun t => t.island.hbSame.getD e 0 = 3 ∧
    t.has G.FLT_FATAL.bit = true ∧
    t.get F.FLT_FATAL_CODE = (if s.get F.FLT_FATAL_CODE = 0 then 0xE410 + e else s.get F.FLT_FATAL_CODE)) ∧
  -- SAF_OFFTEST (R459)
  (∀ (s : State) (follow : Bool), s.armed .sealTimer = true → s.island.offTested = false → follow = true →
    Answers (exec (.safOfftest follow) s) fun t => t.has F.SAF_STATUS_OFFTEST_OK = true ∧ t.island.offTested = true ∧
    SameWords [R.SAF_STATUS] s t) ∧
  -- DIE_TEMP_WARNING (R460)
  (∀ (s : State), s.isAny [.romBoot, .deepWinter] = false → s.island.tempActive = false → s.island.tempHot = 31 →
    tempCode (orDefault 140 (s.get F.SAF_TEMP_WARN)) ≤ s.dieMax → Answers (exec (.dieTempWarning) s) fun t =>
    t.island.tempActive = true ∧ t.has G.SAF_TEMP_WARN.bit = true) ∧
  -- DIE_TEMP_WARNING (R460)
  (∀ (s : State), s.isAny [.romBoot, .deepWinter] = false →
    s.dieMax < tempCode (orDefault 140 (s.get F.SAF_TEMP_WARN)) → s.island.tempActive = false →
    Answers (exec (.dieTempWarning) s) fun t => t.island.tempHot = 0 ∧ t.island.tempActive = false ∧ SameWords [] s t)

/-- A corrected memory error counts both flags; an uncorrectable one of the supervisor trips with 0xE303, of a fabric
memory takes T9 with 0xE302 from Spring or Summer; a corrected one of the supervisor changes nothing. The cold restart
goes to its stepwise power-down and, with no kept step left, restarts by T13 into ROM boot with the restart marked and
flash unchanged. An acknowledgement outside Deep Winter clears the trip record alone. Reading the cross-check result
changes no register word. The model's choices it rests on are log entries 47, 59, 60. (R478, R465, R466, R467, R474.) -/
def Obligations.IslandErrorsAndColdRestartAct : Prop :=
  -- MEMORY_ECC_ERROR (R478)
  (∀ (s : State) (uncorrectable supervisor : Bool), uncorrectable = false → supervisor = false →
    s.isAny [.romBoot, .deepWinter] = false → s.calm 0x23 = true →
    Answers (exec (.memoryEccError uncorrectable supervisor) s) fun t => t.has G.SAF_ECC_CORR.bit = true ∧
    t.has G.FLT_CORR.bit = true) ∧
  -- MEMORY_ECC_ERROR (R478)
  (∀ (s : State) (uncorrectable supervisor : Bool), uncorrectable = true → supervisor = true →
    s.isIn .deepWinter = false → Answers (exec (.memoryEccError uncorrectable supervisor) s) fun t =>
    t.isIn .deepWinter = true ∧ t.get F.SAF_TRIP_CODE = 0xE303) ∧
  -- MEMORY_ECC_ERROR (R478)
  (∀ (s : State) (uncorrectable supervisor : Bool), uncorrectable = true → supervisor = false →
    s.isAny [.spring, .summer] = true → s.upd.paused = false →
    Answers (exec (.memoryEccError uncorrectable supervisor) s) fun t => t.isIn .winter = true ∧
    t.has G.FLT_FATAL.bit = true ∧
    t.get F.FLT_FATAL_CODE = (if s.get F.FLT_FATAL_CODE = 0 then 0xE302 else s.get F.FLT_FATAL_CODE)) ∧
  -- MEMORY_ECC_ERROR (R478)
  (∀ (s : State) (uncorrectable supervisor : Bool), uncorrectable = false → supervisor = true →
    Answers (exec (.memoryEccError uncorrectable supervisor) s) fun t => t = s) ∧
  -- COLD_RESTART (R465)
  (∀ (s : State), s.armed .coldRestart = true → s.keptSteps 0 = [] → Answers (exec (.coldRestart) s) fun t =>
    t.get F.SAF_STATUS_ISTATE = 5 ∧ t.deadline .coldStep = some (t.now + msec 1) ∧ t.armed .coldRestart = false ∧
    SameWords [R.SAF_STATUS] s t) ∧
  -- COLD_RESTART_STEP (R466)
  (∀ (s : State), s.armed .coldStep = true → s.keptSteps s.island.coldStep = [] →
    Answers (exec (.coldRestartStep) s) fun t => t.isIn .romBoot = true ∧ t.get F.SYS_STATE_ENTRY = 13 ∧
    t.has F.SYS_STATE_DW_RESTARTED = true ∧ t.boot.afterCold = true ∧ t.has G.SAF_DW_RESTART.bit = true ∧
    t.flash = s.flash) ∧
  -- SAF_ACK (R467)
  (∀ (s : State), s.isIn .deepWinter = false → Answers (exec (.safAck) s) fun t => t.get F.SAF_TRIP_CODE = 0 ∧
    SameWords [R.SAF_TRIP] s t) ∧
  -- SAF_XCHK_READ (R474)
  (∀ (s : State), Answers (exec (.safXchkRead) s) fun t => t.island.xFresh = true ∧ SameWords [] s t)

/-- A listed code of a present source acts by its class: a warning sets the warning flag, a corrected or contained fault
its flag, without a change of device state, a fatal one from Spring or Summer leads to Winter with the first fatal
code kept, an island code trips Deep Winter with that code; an undecoded code is a warning; in Deep Winter nothing is
classified. A waiting fault is posted as the newest record of the event ring with the next DSEQ, and the write index
rises by one. A written 1 clears its flag and keeps its count. Injection in Factory test raises the code. A first
re-read keeps its temperature, a daily one counts up, and neither changes a cell. The model's choices it rests on are
log entries 12, 57, 121. (R485, R489, R490, R491, R508.) -/
def Obligations.FaultCollectorActs : Prop :=
  -- FAULT_CLASSIFY (R485)
  (∀ (s : State) (codes : List (BitVec 16)), (codes = [0x1234#16] ∨ codes = [0x2B02#16]) →
    s.isAny [.romBoot, .deepWinter] = false → Answers (exec (.faultClassify codes) s) fun t =>
    t.has G.FLT_WARN.bit = true) ∧
  -- FAULT_CLASSIFY (R485)
  (∀ (s : State) (codes : List (BitVec 16)), codes = [0xE401#16] → s.isIn .deepWinter = false →
    Answers (exec (.faultClassify codes) s) fun t => t.isIn .deepWinter = true ∧ t.get F.SAF_TRIP_CODE = 0xE401) ∧
  -- FAULT_CLASSIFY (R485)
  (∀ (s : State) (codes : List (BitVec 16)) (c : BitVec 16), codes = [c] → faultListed c.toNat = true →
    s.sourceAbsent (faultSource c.toNat) = false → islandCode c.toNat = false →
    s.isAny [.romBoot, .deepWinter] = false → faultClass c.toNat = 0 → Answers (exec (.faultClassify codes) s) fun t =>
    t.has G.FLT_WARN.bit = true ∧ t.get F.SYS_STATE_STATE = s.get F.SYS_STATE_STATE) ∧
  -- FAULT_CLASSIFY (R485)
  (∀ (s : State) (codes : List (BitVec 16)) (c : BitVec 16), codes = [c] → faultListed c.toNat = true →
    s.sourceAbsent (faultSource c.toNat) = false → islandCode c.toNat = false →
    s.isAny [.romBoot, .deepWinter] = false → (faultClass c.toNat = 1 ∨ faultClass c.toNat = 2) →
    s.calm (faultSource c.toNat) = true → Answers (exec (.faultClassify codes) s) fun t =>
    t.has (if faultClass c.toNat = 1 then G.FLT_CORR.bit else G.FLT_CONT.bit) = true ∧
    t.get F.SYS_STATE_STATE = s.get F.SYS_STATE_STATE) ∧
  -- FAULT_CLASSIFY (R485)
  (∀ (s : State) (codes : List (BitVec 16)) (c : BitVec 16), codes = [c] → faultListed c.toNat = true →
    s.sourceAbsent (faultSource c.toNat) = false → islandCode c.toNat = false → s.isAny [.spring, .summer] = true →
    s.upd.paused = false → faultClass c.toNat = 3 → Answers (exec (.faultClassify codes) s) fun t =>
    t.isIn .winter = true ∧ t.has G.FLT_FATAL.bit = true ∧
    t.get F.FLT_FATAL_CODE = (if s.get F.FLT_FATAL_CODE = 0 then c.toNat else s.get F.FLT_FATAL_CODE)) ∧
  -- FAULT_CLASSIFY (R485)
  (∀ (s : State) (codes : List (BitVec 16)) (c : BitVec 16), codes = [c] → faultListed c.toNat = true →
    s.sourceAbsent (faultSource c.toNat) = false → islandCode c.toNat = true → s.isIn .deepWinter = false →
    Answers (exec (.faultClassify codes) s) fun t => t.isIn .deepWinter = true ∧ t.get F.SAF_TRIP_CODE = c.toNat ∧
    t.get F.SAF_TRIP_PREV_STATE = s.get F.SYS_STATE_STATE) ∧
  -- FAULT_CLASSIFY (R485)
  (∀ (s : State) (codes : List (BitVec 16)), s.isIn .deepWinter = true →
    Answers (exec (.faultClassify codes) s) fun t => t = s) ∧
  -- FAULT_RECORD_POST (R489)
  (∀ (s : State) (r : FaultRec) (rest : List FaultRec), s.flt.queue = r :: rest → s.ringServed = true →
    s.unread < 256 → s.get F.EVT_RD_RD = 0 → Answers (exec (.faultRecordPost) s) fun t => t.flt.queue = rest ∧
    t.get F.EVT_WR_WR = (s.get F.EVT_WR_WR + 1) % 2 ^ 32 ∧
    t.hif.ring.getLast? = some { dseq := s.get F.SYS_SEQ_NEXT_DSEQ_NEXT_DSEQ, flags := r.flags, source := faultSource r.code, code := r.code, tb := r.tb }) ∧
  -- FLAG_CLEAR (R490)
  (∀ (s : State) (reg : BitVec 16) (w hw : Word), reg.toNat = G.FLT_WARN.bit.reg → hw = 0#32 →
    w.getLsbD G.FLT_WARN.bit.lo = true → Answers (exec (.flagClear reg w hw) s) fun t => t.has G.FLT_WARN.bit = false ∧
    t.get G.FLT_WARN.cnt = s.get G.FLT_WARN.cnt ∧ SameWords [G.FLT_WARN.bit.reg] s t) ∧
  -- FLT_INJ (R491)
  (∀ (s : State) (w : Word), s.isIn .factoryTest = true → w = 0x00001234#32 → Answers (exec (.fltInj w) s) fun t =>
    t.has G.FLT_WARN.bit = true) ∧
  -- OTP_FULL_REREAD (R508)
  (∀ (s : State) (daily : Bool) (reads : List (Nat × Word × Word × Word)), s.isAny [.romBoot, .deepWinter] = false →
    daily = false → s.sec.readTemp = none → Answers (exec (.otpFullReread daily reads) s) fun t =>
    t.sec.readTemp = some s.dieMax ∧ t.otp = s.otp ∧ SameWords [] s t) ∧
  -- OTP_FULL_REREAD (R508)
  (∀ (s : State) (daily : Bool) (reads : List (Nat × Word × Word × Word)), s.isAny [.romBoot, .deepWinter] = false →
    daily = true → s.armed .otpDay = true → ((List.range 0x8F).all (fun w => s.otpChange reads w == 0) = true) →
    Answers (exec (.otpFullReread daily reads) s) fun t =>
    t.get F.OTP_REREAD_COUNT = min (2 ^ F.OTP_REREAD_COUNT.width - 1) (s.get F.OTP_REREAD_COUNT + 1) ∧
    t.sec.force = s.sec.force ∧ t.deadline .otpDay = some (t.now + secs 86400) ∧ t.otp = s.otp)

/-- A page byte selects its page modulo 64 and points past it, changing no other word; while the address is refused it
changes nothing but the refusal's flag. A register write to word 63 selects the page; to a page not served it moves
the pointer alone; to a served page it commits the word and moves the pointer; to the mailbox page while the mailbox
is busy it is refused with the flag and no change of the word. The model's choices it rests on are log entries 20, 21,
83. (R536, R539.) -/
def Obligations.HostInterfaceWritesAct : Prop :=
  -- PAGE_SEL_WRITE (R536)
  (∀ (s : State) (b : BitVec 8), s.addressNacked = false → Answers (exec (.pageSelWrite b) s) fun t =>
    t.get F.PAGE_SEL_PAGE = b.toNat % 64 ∧ t.hif.pointer = 0xFD ∧ SameWords [R.PAGE_SEL] s t) ∧
  -- PAGE_SEL_WRITE (R536)
  (∀ (s : State) (b : BitVec 8), s.addressNacked = true → Answers (exec (.pageSelWrite b) s) fun t =>
    t.get F.PAGE_SEL_PAGE = s.get F.PAGE_SEL_PAGE ∧ t.has G.HIF_NACKED.bit = true ∧ t.hif = s.hif) ∧
  -- REGISTER_WRITE (R539)
  (∀ (s : State) (i : BitVec 6) (w : Word), s.addressNacked = false → i = 63#6 →
    Answers (exec (.registerWrite i w) s) fun t => t.get F.PAGE_SEL_PAGE = w.toNat % 64 ∧ t.hif.pointer = 0 ∧
    SameWords [R.PAGE_SEL] s t) ∧
  -- REGISTER_WRITE (R539)
  (∀ (s : State) (i : BitVec 6) (w : Word), s.addressNacked = false → i ≠ 63#6 →
    s.pageServed (s.get F.PAGE_SEL_PAGE) = false → Answers (exec (.registerWrite i w) s) fun t =>
    t.hif.pointer = 4 * i.toNat % 256 ∧ SameWords [] s t) ∧
  -- REGISTER_WRITE (R539)
  (∀ (s : State) (i : BitVec 6) (w : Word), s.addressNacked = false → i ≠ 63#6 →
    s.pageServed (s.get F.PAGE_SEL_PAGE) = true →
    (s.get F.PAGE_SEL_PAGE == 2 && s.get F.MBX_STATUS_STATE == 1) = false →
    exec (.registerWrite i w) s = .next ((s.commitWord (256 * s.get F.PAGE_SEL_PAGE + 4 * i.toNat) w).point (4 *
      i.toNat + 4))) ∧
  -- REGISTER_WRITE (R539)
  (∀ (s : State) (i : BitVec 6) (w : Word), s.addressNacked = false → i ≠ 63#6 → s.get F.PAGE_SEL_PAGE = 2 →
    s.get F.MBX_STATUS_STATE = 1 → Answers (exec (.registerWrite i w) s) fun t => t.has G.HIF_NACKED.bit = true ∧
    t.word (0x200 + 4 * i.toNat) = s.word (0x200 + 4 * i.toNat) ∧ t.hif.pointer = 4 * i.toNat % 256)

/-- A broken write points to the bytes done and sets PARTIAL; a plain start or stop sets the pointer and no word. Stuck
data and clock lines set their flags and are noted once. A whole in-band reset pulse counts up, saturating, at its
time, a later one 10 ms after the last; without enable or request nothing changes. An event read index within the ring
is taken and the ring kept; reading the event status fills the window with the oldest unread records, at most 14. The
model's choices it rests on are log entries 83, 84, 85. (R542, R543, R544, R545, R555, R559.) -/
def Obligations.HostInterfaceTimeoutsAndEventsAct : Prop :=
  -- I2C_START_STOP (R542)
  (∀ (s : State) (p : BitVec 8) (n : Fin 4), n.val ≠ 0 → Answers (exec (.i2cStartStop (some p) n) s) fun t =>
    t.hif.pointer = (p.toNat + n.val) % 256 ∧ t.has G.HIF_PARTIAL.bit = true ∧ t.env.sclHigh = true ∧
    t.env.sdaHigh = true) ∧
  -- I2C_START_STOP (R542)
  (∀ (s : State) (q : Option (BitVec 8)), Answers (exec (.i2cStartStop q 0) s) fun t =>
    t.hif.pointer = (match q with | none => s.hif.pointer | some p => p.toNat) ∧ SameWords [] s t) ∧
  -- SDA_TIMEOUT (R543)
  (∀ (s : State) (own highSince : Bool) (n : Fin 4), s.isIn .deepWinter = false → own = true →
    Answers (exec (.sdaTimeout own highSince n) s) fun t => t.has G.HIF_SDA_TO.bit = true ∧
    t.hif.sdaWarned = s.hif.sdaWarned) ∧
  -- SDA_TIMEOUT (R543)
  (∀ (s : State) (own highSince : Bool) (n : Fin 4), s.isIn .deepWinter = false → own = false →
    (s.hif.sdaWarned = false ∨ highSince = true) → Answers (exec (.sdaTimeout own highSince n) s) fun t =>
    t.has G.HIF_SDA_STUCK.bit = true ∧ t.hif.sdaWarned = true ∧ t.env.sdaHigh = false) ∧
  -- SCL_TIMEOUT (R544)
  (∀ (s : State) (highSince : Bool) (n : Fin 4), s.isIn .deepWinter = false →
    (s.hif.sclWarned = false ∨ highSince = true) → Answers (exec (.sclTimeout highSince n) s) fun t =>
    t.has G.HIF_SCL_STUCK.bit = true ∧ t.hif.sclWarned = true ∧ t.env.sclHigh = false) ∧
  -- IBR_PULSE (R545)
  (∀ (s : State) (first whole : Bool), s.has F.HIF_CFG_IBR_EN = true → s.irqPending = true →
    s.isAny [.deepWinter, .romBoot, .romRecovery, .factoryTest] = false → first = true → whole = true →
    Answers (exec (.ibrPulse first whole) s) fun t =>
    t.get F.HIF_STATUS_IBR_COUNT = min (2 ^ F.HIF_STATUS_IBR_COUNT.width - 1) (s.get F.HIF_STATUS_IBR_COUNT + 1) ∧
    t.hif.ibrAt = s.now ∧ SameWords [R.HIF_STATUS] s t) ∧
  -- IBR_PULSE (R545)
  (∀ (s : State) (first whole : Bool), (s.has F.HIF_CFG_IBR_EN = false ∨ s.irqPending = false) →
    exec (.ibrPulse first whole) s = .next (s)) ∧
  -- IBR_PULSE (R545)
  (∀ (s : State) (whole : Bool), s.has F.HIF_CFG_IBR_EN = true → s.irqPending = true →
    s.isAny [.deepWinter, .romBoot, .romRecovery, .factoryTest] = false →
    Answers (exec (.ibrPulse false whole) s) fun t => t.now = max s.now (s.hif.ibrAt + msec 10) ∧
    t.env.sclHigh = whole ∧ t.hif.ibrAt = (if whole then max s.now (s.hif.ibrAt + msec 10) else s.hif.ibrAt) ∧
    t.get F.HIF_STATUS_IBR_COUNT = (if whole then min (2 ^ F.HIF_STATUS_IBR_COUNT.width - 1) (s.get
      F.HIF_STATUS_IBR_COUNT + 1) else s.get F.HIF_STATUS_IBR_COUNT) ∧
    SameWords [R.HIF_STATUS] s t) ∧
  -- EVT_RD_WRITE (R555)
  (∀ (s : State) (v : Word), s.ringServed = true →
    (s.get F.EVT_WR_WR + 2 ^ 32 - v.toNat) % 2 ^ 32 ≤ s.hif.ring.length → Answers (exec (.evtRdWrite v) s) fun t =>
    t.get F.EVT_RD_RD = v.toNat ∧ t.hif.ring = s.hif.ring ∧ SameWords [R.EVT_RD] s t) ∧
  -- EVT_STATUS_READ (R559)
  (∀ (s : State), s.ringServed = true → Answers (exec (.evtStatusRead) s) fun t =>
    t.hif.window = (s.hif.ring.drop (s.hif.ring.length - s.unread)).take (min 14 s.unread) ∧ t.hif.lostChanged = false ∧
    t.hif.ring = s.hif.ring ∧ SameWords [] s t)

/-- GO takes the frame into the queue of frames and goes busy, or is refused while busy. A ready answer is laid into the
response words with the next DSEQ, its status and LAST_HSEQ. A taken response frees the mailbox. A function's command
transfer queues its words and makes it busy, one too long halts the pipe with a warning; responses and events leave in
order; the vendor request reads SYS_STATE and anything else is stalled; clear halt clears the bit alone. The model's
choices it rests on are log entries 14, 53, 118, 123. (R561, R550, R406, R407, R408, R409.) -/
def Obligations.MailboxAndManagementFunctionsAct : Prop :=
  -- MBX_GO (R561)
  (∀ (s : State) (words : BitVec 8), s.mailboxServed = true → s.get F.MBX_STATUS_STATE ≠ 1 → s.hif.current ≠ none →
    Answers (exec (.mbxGo words) s) fun t => t.get F.MBX_STATUS_STATE = 1 ∧
    (t.hif.exec = s.hif.exec ++ [{ via := 0, words := (List.range (min 54 words.toNat)).map fun i => s.word (R.MBX_FRAME i), odd := decide (54 < words.toNat) }]) ∧
    SameWords [R.MBX_STATUS] s t) ∧
  -- MBX_GO (R561)
  (∀ (s : State) (words : BitVec 8), s.mailboxServed = true → s.get F.MBX_STATUS_STATE = 1 →
    Answers (exec (.mbxGo words) s) fun t => t.has G.HIF_NACKED.bit = true ∧ t.hif = s.hif ∧
    t.get F.MBX_STATUS_STATE = 1) ∧
  -- MBX_RESPONSE (R550)
  (∀ (s : State) (a : Answer), s.hif.answer = some a → a.frame.via = 0 → 2 ≤ a.frame.words.length →
    a.frame.flags % 2 = 1 → a.macKey = [] → a.payload = [] → s.hif.exec = [] → Answers (exec (.mbxResponse) s) fun t =>
    t.hif.answer = none ∧ t.get F.MBX_STATUS_STATE = 2 ∧
    t.get F.MBX_STATUS_LAST_STATUS = a.status % 2 ^ F.MBX_STATUS_LAST_STATUS.width ∧
    t.get F.SYS_SEQ_LAST_HSEQ_LAST_HSEQ = a.frame.hseq % 2 ^ 32 ∧
    t.word (R.MBR_FRAME 2) = BitVec.ofNat 32 (s.get F.SYS_SEQ_NEXT_DSEQ_NEXT_DSEQ)) ∧
  -- MBX_TAKE (R561)
  (∀ (s : State), s.mailboxServed = true → s.get F.MBX_STATUS_STATE = 2 → Answers (exec (.mbxTake) s) fun t =>
    t.get F.MBX_STATUS_STATE = 0 ∧ SameWords [R.MBX_STATUS] s t) ∧
  -- MGT_COMMAND_TRANSFER (R406)
  (∀ (s : State) (f : Fin 2) (bytes : List Byte), s.fnServes f = true → s.has (F.MGT_STATUS_HALTED f.val) = false →
    bytes.length ≤ 512 → s.mgt[f].busy = false → s.hif.current ≠ none →
    Answers (exec (.mgtCommandTransfer f bytes) s) fun t => t.mgt[f].busy = true ∧
    t.hif.exec = s.hif.exec ++ [{ via := f.val + 1, words := wholeWords bytes, odd := decide (bytes.length % 4 ≠ 0) }] ∧
    t.has (F.MGT_STATUS_CONFIGURED f.val) = true) ∧
  -- MGT_COMMAND_TRANSFER (R406)
  (∀ (s : State) (f : Fin 2) (bytes : List Byte), s.fnServes f = true → s.has (F.MGT_STATUS_HALTED f.val) = false →
    512 < bytes.length → Answers (exec (.mgtCommandTransfer f bytes) s) fun t =>
    t.has (F.MGT_STATUS_HALTED f.val) = true ∧ t.hif.exec = s.hif.exec ∧ t.has G.FLT_WARN.bit = true) ∧
  -- MGT_RESPONSE_TAKEN (R407)
  (∀ (s : State) (f : Fin 2) (r : Bool × List Word) (rest : List (Bool × List Word)), s.fnServes f = true →
    s.mgt[f].out = r :: rest → Answers (exec (.mgtResponseTaken f) s) fun t => t.mgt[f].out = rest ∧
    t.mgt[f].busy = (s.mgt[f].busy && !r.1) ∧ SameWords [] s t) ∧
  -- MGT_EVENT_DELIVERY (R408)
  (∀ (s : State) (f : Fin 2) (e : Event), s.fnServes f = true → s.ringServed = true → s.ringAt s.mgt[f].idx = some e →
    Answers (exec (.mgtEventDelivery f) s) fun t => t.mgt[f].ep2 = [e] ∧ t.mgt[f].idx = (s.mgt[f].idx + 1) % 2 ^ 32 ∧
    SameWords [] s t) ∧
  -- MGT_VENDOR_REQUEST (R409)
  (∀ (s : State) (f : Fin 2) (reqType request : BitVec 8) (value index length : BitVec 16), s.fnServes f = true →
    Answers (exec (.mgtVendorRequest f reqType request value index length) s) fun t =>
    t.mgt[f].ep0 = (if reqType = 0xC1#8 ∧ request = 0x01#8 ∧ value = 0#16 ∧ index = 0#16 ∧ length = 4#16 then some
      [s.word R.SYS_STATE] else none) ∧
    SameWords [] s t) ∧
  -- MGT_CLEAR_HALT (R406)
  (∀ (s : State) (f : Fin 2), s.fnServes f = true → Answers (exec (.mgtClearHalt f) s) fun t =>
    t.has (F.MGT_STATUS_HALTED f.val) = false ∧ SameWords [(F.MGT_STATUS_HALTED f.val).reg] s t)

/-- Register reads of served addresses answer 0x00 with their words, and any other list 0x08. Writes commit their words in
order, plain or authenticated, and answer 0x00 (two words are written out); a list with another address is answered
0x08 and writes nothing. Session info answers the last sequence, ceiling and information word and changes no key.
Attestation answers 0x07 where its key region is suspect, and else the first eight bytes of the CMAC over UID and
nonce. A test write injects a fault through FLT_INJ in Factory test, answers 0x00 for the test page and 0x08 for any
other address, with no word changed. The model's choices it rests on are log entries 14, 15, 18, 19, 22, 66. (R517,
R518, R519.) -/
def Obligations.RegisterAndSessionCommandsAct : Prop :=
  -- REG_READ (R517)
  (∀ (s : State) (l : List (BitVec 16)) (f : Frame), s.hif.current = some f → f.cmd = 0x0010 → l.length ≤ 48 →
    ((l.map (·.toNat)).all s.addressOk) = true → Answers (exec (.regRead (some l)) s) fun t =>
    t.answered = some (0x00, (s.readWords (l.map (·.toNat))).1) ∧ t.hif.current = none ∧ t.hif.exec = s.hif.exec) ∧
  -- REG_READ (R517)
  (∀ (s : State) (l : List (BitVec 16)) (f : Frame), s.hif.current = some f → f.cmd = 0x0010 →
    (¬(l.length ≤ 48 ∧ (l.map (·.toNat)).all s.addressOk = true)) → Answers (exec (.regRead (some l)) s) fun t =>
    t.answered = some (0x08, []) ∧ t.hif.current = none) ∧
  -- REG_WRITE (R517)
  (∀ (s : State) (l : List (BitVec 16 × Word)) (f : Frame), s.hif.current = some f → f.cmd = 0x0011 →
    s.writesOk l = true →
    exec (.regWrite (some l)) s = .next ((forAll l (fun e t => t.commitWord e.1.toNat e.2) s).done f .ok)) ∧
  -- REG_WRITE (R517)
  (∀ (s : State) (w : Word) (f : Frame), s.hif.current = some f → f.cmd = 0x0011 → s.pageServed 1 = true →
    Answers (exec (.regWrite (some [(BitVec.ofNat 16 R.HIF_IRQ_EN, w)])) s) fun t =>
    t.word R.HIF_IRQ_EN = (s.word R.HIF_IRQ_EN &&& ~~~ 7#32) ||| (w &&& 7#32) ∧ t.answered = some (0x00, []) ∧
    SameWords [R.HIF_IRQ_EN] s t) ∧
  -- REG_WRITE (R517)
  (∀ (s : State) (l : List (BitVec 16 × Word)) (f : Frame), s.hif.current = some f → f.cmd = 0x0011 →
    s.writesOk l = false → Answers (exec (.regWrite (some l)) s) fun t => t.answered = some (0x08, []) ∧
    SameWords [] s t) ∧
  -- REG_WRITE_AUTH (R517)
  (∀ (s : State) (l : List (BitVec 16 × Word)) (f : Frame), s.hif.current = some f → f.cmd = 0x0012 →
    s.writesOk l = true →
    exec (.regWriteAuth (some l)) s = .next ((forAll l (fun e t => t.commitAuth e.1.toNat e.2) s).done f .ok)) ∧
  -- REG_WRITE_AUTH (R517)
  (∀ (s : State) (w : Word) (f : Frame), s.hif.current = some f → f.cmd = 0x0012 → s.pageServed 0x39 = true →
    s.has F.SCH_STATUS_BUSY = false → Answers (exec (.regWriteAuth (some [(BitVec.ofNat 16 R.SCH_ADDR, w)])) s) fun t =>
    t.word R.SCH_ADDR = (s.word R.SCH_ADDR &&& ~~~ 0x13FFF#32) ||| (w &&& 0x13FFF#32) ∧ t.answered = some (0x00, []) ∧
    SameWords [R.SCH_ADDR] s t) ∧
  -- SESSION_INFO (R518)
  (∀ (s : State) (n : BitVec 7) (f : Frame), s.hif.current = some f → f.cmd = 0x0020 →
    Answers (exec (.sessionInfo (some n)) s) fun t =>
    t.answered = some (0x00, [BitVec.ofNat 32 (s.sesLast n.toNat), BitVec.ofNat 32 (sessionVal s.sec.ceil n.toNat),
      s.sesInfo n.toNat]) ∧
    t.sec = s.sec ∧ SameWords [] s t) ∧
  -- ATTEST (R519)
  (∀ (s : State) (f : Frame), s.hif.current = some f → f.cmd = 0x0021 →
    (!s.regionOk 1 || !s.regionOk 5 || s.suspends 1 || s.suspends 5) = true → Answers (exec (.attest) s) fun t =>
    t.answered = some (0x07, []) ∧ SameWords [] s t) ∧
  -- ATTEST (R519)
  (∀ (s : State) (f : Frame), s.hif.current = some f → f.cmd = 0x0021 →
    (!s.regionOk 1 || !s.regionOk 5 || s.suspends 1 || s.suspends 5) = false → f.payload.length = 4 →
    Answers (exec (.attest) s) fun t =>
    t.answered = some (0x00, bytesToWords ((cmac s.attestKey (s.uid ++ wordBytes f.payload)).take 8)) ∧ SameWords [] s t) ∧
  -- TEST_WRITE (R517)
  (∀ (s : State) (w : Word) (f : Frame), s.hif.current = some f → f.cmd = 0x0600 →
    exec (.testWrite (some (BitVec.ofNat 16 R.FLT_INJ, w))) s = .next ((outState (execFltInj w s) s).done f .ok)) ∧
  -- TEST_WRITE (R517)
  (∀ (s : State) (a : BitVec 16) (w : Word) (f : Frame), s.hif.current = some f → f.cmd = 0x0600 →
    a.toNat / 256 ≠ 0x3F → a.toNat ≠ R.FLT_INJ → Answers (exec (.testWrite (some (a, w))) s) fun t =>
    t.answered = some (0x08, []) ∧ SameWords [] s t) ∧
  -- TEST_WRITE (R517)
  (∀ (s : State) (a : BitVec 16) (w : Word) (f : Frame), s.hif.current = some f → f.cmd = 0x0600 →
    a.toNat / 256 = 0x3F → a.toNat % 4 = 0 → a.toNat % 256 < 0xFC → Answers (exec (.testWrite (some (a, w))) s) fun t =>
    t.answered = some (0x00, []) ∧ SameWords [] s t) ∧
  -- TEST_WRITE (R517)
  (∀ (s : State) (w : Word) (f : Frame), s.hif.current = some f → f.cmd = 0x0600 → s.isIn .factoryTest = true →
    faultListed (w.toNat % 2 ^ 16) = true → w.getLsbD 16 = false → w.toNat / 2 ^ 14 % 4 = 0 →
    Answers (exec (.testWrite (some (BitVec.ofNat 16 R.FLT_INJ, w))) s) fun t => t.has G.FLT_WARN.bit = true ∧
    t.isIn .factoryTest = true ∧ t.answered = some (0x00, []))

/-- SHUTDOWN requests and commits Autumn by T6 and starts the power-down. START of a finished Autumn restarts by T8, and
otherwise answers 0x01 and changes no word. RESTART begins the restart's power-down at its first step's delay, or
answers 0x07 while the oscillator fault is held. FORCE_WINTER raises 0xC002 and from Spring or Summer takes T9.
PORT_ENABLE sets a port's enable, or clears it, opens its switch and disables it. MARGIN moves a rail where it may be
margined, with its 100 ms, and else answers 0x08 with no word changed. The model's choices it rests on are log entries
14, 15, 16, 65. (R74, R35, R37, R43, R520, R367.) -/
def Obligations.PowerAndPortCommandsAct : Prop :=
  -- SHUTDOWN (R74)
  (∀ (s : State) (f : Frame), s.hif.current = some f → f.cmd = 0x0100 → f.payload = [] →
    exec (.shutdown) s = .next (((s.requestAutumn 3).commit).done f .ok)) ∧
  -- SHUTDOWN (R74)
  (∀ (s : State) (f : Frame), s.hif.current = some f → f.cmd = 0x0100 → f.payload = [] →
    s.isAny [.spring, .summer] = true → s.upd.paused = false → Answers (exec (.shutdown) s) fun t =>
    t.isIn .autumn = true ∧ t.get F.SYS_STATE_ENTRY = 6 ∧ t.has F.SYS_STATE_COMMITTED = true ∧
    t.has F.BUS_STATUS_COMMITTED = true ∧ t.get F.SQC_STATUS_PHASE = 3 ∧ t.has G.BUS_COMMIT.bit = true ∧
    t.bus.cause = 3 ∧ t.pins.ups = false ∧ t.answered = some (0x00, [])) ∧
  -- START (R35)
  (∀ (s : State) (f : Frame), s.hif.current = some f → f.cmd = 0x0101 → f.payload = [] →
    (s.has F.SYS_STATE_DONE && s.seq.winterDue.isNone) = true →
    exec (.start) s = .next ((s.respondNow f).internalRestart 8)) ∧
  -- START (R35)
  (∀ (s : State) (f : Frame), s.hif.current = some f → f.cmd = 0x0101 → f.payload = [] →
    s.has F.SYS_STATE_DONE = false → Answers (exec (.start) s) fun t => t.answered = some (0x01, []) ∧ SameWords [] s t) ∧
  -- START (R35)
  (∀ (s : State) (f : Frame), s.hif.current = some f → f.cmd = 0x0101 → f.payload = [] →
    s.has F.SYS_STATE_DONE = true → s.seq.winterDue = none → Answers (exec (.start) s) fun t => t.isIn .romBoot = true ∧
    t.get F.SYS_STATE_ENTRY = 8 ∧ t.get F.SYS_STATE_PREV = s.get F.SYS_STATE_STATE ∧ t.boot.step = 0 ∧ t.otp = s.otp ∧
    t.flash = s.flash) ∧
  -- RESTART (R37)
  (∀ (s : State) (f : Frame), s.hif.current = some f → f.cmd = 0x0102 → s.island.held00A = true →
    Answers (exec (.restart) s) fun t => t.answered = some (0x07, []) ∧ SameWords [] s t) ∧
  -- RESTART (R37)
  (∀ (s : State) (f : Frame), s.hif.current = some f → f.cmd = 0x0102 → f.payload = [] → s.island.held00A = false →
    exec (.restart) s = .next ((s.beginRestart false).done f .ok)) ∧
  -- RESTART (R37)
  (∀ (s : State) (f : Frame), s.hif.current = some f → f.cmd = 0x0102 → f.payload = [] → s.island.held00A = false →
    s.seq.forRestart = false → Answers (exec (.restart) s) fun t => t.seq.forRestart = true ∧
    t.seq.restartAuto = false ∧ t.get F.SQC_STATUS_PHASE = 3 ∧ t.get F.SQC_STATUS_STEP = 0 ∧
    t.deadline .seqDelay = some (s.now + msec (s.get (F.SQC_DN_DLY 0))) ∧ t.answered = some (0x00, [])) ∧
  -- FORCE_WINTER (R43)
  (∀ (s : State) (f : Frame), s.hif.current = some f → f.cmd = 0x0103 → f.payload = [] →
    exec (.forceWinter) s = .next ((s.raise 0xC002).done f .ok)) ∧
  -- FORCE_WINTER (R43)
  (∀ (s : State) (f : Frame), s.hif.current = some f → f.cmd = 0x0103 → f.payload = [] →
    s.isAny [.spring, .summer] = true → s.upd.paused = false → Answers (exec (.forceWinter) s) fun t =>
    t.isIn .winter = true ∧ t.get F.SYS_STATE_ENTRY = 9 ∧ t.has G.FLT_FATAL.bit = true ∧
    t.get F.FLT_FATAL_CODE = (if s.get F.FLT_FATAL_CODE = 0 then 0xC002 else s.get F.FLT_FATAL_CODE) ∧
    t.answered = some (0x00, [])) ∧
  -- PORT_ENABLE (R520)
  (∀ (s : State) (f : Frame) (k : PortId), s.hif.current = some f → f.cmd = 0x0110 →
    f.payload = [BitVec.ofNat 32 (2 ^ k.val)] → exec (.portEnable) s = .next ((s.clearEnable k).done f .ok)) ∧
  -- PORT_ENABLE (R520)
  (∀ (s : State) (f : Frame) (k : PortId), s.hif.current = some f → f.cmd = 0x0110 →
    f.payload = [BitVec.ofNat 32 (2 ^ k.val)] → Answers (exec (.portEnable) s) fun t =>
    t.bit F.SEC_PORTEN_EN k.val = false ∧ t.switchDriven k = false ∧ t.astate k = 0 ∧ t.answered = some (0x00, [])) ∧
  -- PORT_ENABLE (R520)
  (∀ (s : State) (f : Frame) (k : PortId), s.hif.current = some f → f.cmd = 0x0110 →
    f.payload = [BitVec.ofNat 32 (2 ^ k.val + 2 ^ (16 + k.val))] → Answers (exec (.portEnable) s) fun t =>
    t.bit F.SEC_PORTEN_EN k.val = true ∧ t.answered = some (0x00, []) ∧ t.otp = s.otp ∧ t.flash = s.flash) ∧
  -- MARGIN (R367)
  (∀ (s : State) (j : RailId) (v : BitVec 8) (f : Frame), s.hif.current = some f → f.cmd = 0x0120 →
    s.marginTaken j = true → exec (.margin (some (j, v))) s = .next ((s.margin j (ofTwos 8 v.toNat)).done f .ok)) ∧
  -- MARGIN (R367)
  (∀ (s : State) (j : RailId) (v : BitVec 8) (f : Frame), s.hif.current = some f → f.cmd = 0x0120 →
    s.marginTaken j = false → Answers (exec (.margin (some (j, v))) s) fun t => t.answered = some (0x08, []) ∧
    SameWords [] s t) ∧
  -- MARGIN (R367)
  (∀ (s : State) (j : RailId) (v : BitVec 8) (f : Frame), s.hif.current = some f → f.cmd = 0x0120 →
    s.marginTaken j = true → (ofTwos 8 v.toNat).natAbs ≤ s.get (F.SQ_MGCAL_LIMIT j) → ofTwos 8 v.toNat ≠ s.mgPos j →
    Answers (exec (.margin (some (j, v))) s) fun t => t.get (F.SQ_MG_TARGET j) = v.toNat ∧
    t.has (F.SQ_MGST_CLAMPED j) = false ∧ t.has (F.SQ_MGST_MOVING j) = true ∧
    t.deadline (.margin j) = some (s.now + msec 100) ∧ t.answered = some (0x00, []) ∧
    SameWords [R.SQ_MG j, R.SQ_MGST j] s t)

/-- An open outside IDLE answers 0x01, a failed table write 0x0B; else it answers the target slot, goes to OPEN and holds
kind, length and session. A block outside a session answers 0x01; the first one of four bytes with a right CRC is
programmed, and no flash byte outside its sector and no word but NEXT changes. A close before the end answers 0x01;
else it answers the check's result and takes CLOSED or IDLE, the flash unchanged. Activation of recovery marks it, of
a checked firmware makes it PENDING with its trials; a failed table write answers 0x0B and changes neither. An abort
before activation clears the session alone; one after it also empties the slot and makes the running one active again,
or answers 0x0B. A confirm without trial answers 0x08, one of a trial that advances nothing marks the slot GOOD and
programs no cell, one of two GOOD slots answers their steps and changes nothing. The model's choices it rests on are
log entries 14, 67, 68, 70, 71, 72, 125. (R586, R587, R589, R592.) -/
def Obligations.UpdateSessionActs : Prop :=
  -- UPD_OPEN (R586)
  (∀ (s : State) (tableOk : Bool) (f : Frame), s.flashFree = true → s.hif.current = some f → f.cmd = 0x0300 →
    s.get F.UPD_STATUS_STATE ≠ 0 → Answers (exec (.updOpen tableOk) s) fun t => t.answered = some (0x01, []) ∧
    t.boot.tab = s.boot.tab ∧ SameWords [] s t) ∧
  -- UPD_OPEN (R586)
  (∀ (s : State) (tableOk : Bool) (f : Frame), s.flashFree = true → s.hif.current = some f → f.cmd = 0x0300 →
    s.get F.UPD_STATUS_STATE = 0 → s.handoverRuns = false → s.bootWriteDue = false → s.useIs 1 slotTrial = false →
    f.payload = [1#32, BitVec.ofNat 32 0x1000] → tableOk = true → Answers (exec (.updOpen tableOk) s) fun t =>
    t.answered = some (0x00, [BitVec.ofNat 32 (s.updTarget 1)]) ∧ t.get F.UPD_STATUS_STATE = 1 ∧
    t.get F.UPD_STATUS_KIND = 1 ∧ t.get F.UPD_NEXT_NEXT = 0 ∧ t.get F.UPD_LEN_LEN = 0x1000 ∧ t.upd.session = f.session) ∧
  -- UPD_OPEN (R586)
  (∀ (s : State) (tableOk : Bool) (f : Frame), s.flashFree = true → s.hif.current = some f → f.cmd = 0x0300 →
    s.get F.UPD_STATUS_STATE = 0 → s.handoverRuns = false → s.bootWriteDue = false → s.useIs 1 slotTrial = false →
    f.payload = [1#32, BitVec.ofNat 32 0x1000] → s.boot.tab.fwLen (s.updTarget 1) ≠ 0 → s.updTarget 1 < 2 →
    tableOk = false → Answers (exec (.updOpen tableOk) s) fun t => t.answered = some (0x0B, []) ∧
    t.get F.UPD_STATUS_STATE = 0 ∧ t.boot.tab = s.boot.tab ∧ t.boot.copy = s.boot.copy) ∧
  -- UPD_BLOCK (R587)
  (∀ (s : State) (failAt : Option Nat) (f : Frame), s.flashFree = true → s.hif.current = some f → f.cmd = 0x0301 →
    s.get F.UPD_STATUS_STATE = 0 → Answers (exec (.updBlock failAt) s) fun t => t.answered = some (0x01, []) ∧
    t.flash = s.flash ∧ SameWords [] s t) ∧
  -- UPD_BLOCK (R587)
  (∀ (s : State) (failAt : Option Nat) (f : Frame) (x : Word), s.flashFree = true → s.hif.current = some f →
    f.cmd = 0x0301 → s.get F.UPD_STATUS_STATE = 1 → f.session = s.upd.session →
    s.updSuspended (s.get F.UPD_STATUS_KIND) = false →
    f.payload = [0#32, BitVec.ofNat 32 (crc32 (leBytes 4 x.toNat)), x] → s.get F.UPD_NEXT_NEXT = 0 →
    4 ≤ s.get F.UPD_LEN_LEN → s.upd.erasedTo = 0 → failAt = none → Answers (exec (.updBlock failAt) s) fun t =>
    t.answered = some (0x00, [4#32]) ∧ t.get F.UPD_NEXT_NEXT = 4 ∧ t.flashRead s.updBase 4 = leBytes 4 x.toNat ∧
    SameFlash s.updBase 4096 s t ∧ SameWords [R.UPD_NEXT] s t) ∧
  -- UPD_CLOSE (R589)
  (∀ (s : State) (e : Fin 4) (f : Frame), s.hif.current = some f → f.cmd = 0x0302 → s.foreign f = false →
    (s.get F.UPD_STATUS_STATE ≠ 1 ∨ s.get F.UPD_NEXT_NEXT ≠ s.get F.UPD_LEN_LEN) →
    Answers (exec (.updClose e) s) fun t => t.answered = some (0x01, []) ∧ SameWords [] s t) ∧
  -- UPD_CLOSE (R589)
  (∀ (s : State) (e : Fin 4) (f : Frame), s.hif.current = some f → f.cmd = 0x0302 → s.foreign f = false →
    s.get F.UPD_STATUS_STATE = 1 → s.get F.UPD_NEXT_NEXT = s.get F.UPD_LEN_LEN →
    (s.get F.UPD_STATUS_KIND == 1 && s.suspends 2) = false → f.payload = [] → Answers (exec (.updClose e) s) fun t =>
    t.answered = some (0x00, [BitVec.ofNat 32 (s.fullCheck e.val).1]) ∧
    t.get F.UPD_STATUS_STATE = (if (s.fullCheck e.val).1 = 1 then 2 else 0) ∧
    t.get F.UPD_STATUS_RESULT = (s.fullCheck e.val).1 % 2 ^ F.UPD_STATUS_RESULT.width ∧ t.flash = s.flash) ∧
  -- UPD_CLOSE (R589)
  (∀ (s : State) (e : Fin 4) (f : Frame), s.hif.current = some f → f.cmd = 0x0302 → f.payload = [] →
    s.foreign f = false → s.get F.UPD_STATUS_STATE = 1 → s.get F.UPD_NEXT_NEXT = s.get F.UPD_LEN_LEN →
    s.get F.UPD_STATUS_KIND = 2 → (s.fullCheck e.val).1 = 1 → Answers (exec (.updClose e) s) fun t =>
    t.answered = some (0x00, [1#32]) ∧ t.get F.UPD_STATUS_RESULT = 1 ∧ t.get F.UPD_STATUS_STATE = 2 ∧
    t.flash = s.flash ∧ SameWords [R.UPD_STATUS] s t) ∧
  -- UPD_ACTIVATE (R586)
  (∀ (s : State) (tableOk : Bool) (f : Frame), s.flashFree = true → s.hif.current = some f → f.cmd = 0x0303 →
    s.foreign f = false → f.payload = [3#32] → s.bootWriteDue = false → tableOk = true →
    Answers (exec (.updActivate tableOk) s) fun t => t.answered = some (0x00, []) ∧ t.boot.tab.recovery = 0x5A ∧
    t.boot.tabOld = t.boot.tab ∧ SameWords [] s t) ∧
  -- UPD_ACTIVATE (R586)
  (∀ (s : State) (tableOk : Bool) (f : Frame), s.flashFree = true → s.hif.current = some f → f.cmd = 0x0303 →
    s.foreign f = false → s.get F.UPD_STATUS_STATE = 2 → s.get F.UPD_STATUS_KIND = 1 → f.payload = [1#32] →
    s.bootWriteDue = false → tableOk = true → Answers (exec (.updActivate tableOk) s) fun t =>
    t.answered = some (0x00, []) ∧ t.get F.UPD_STATUS_STATE = 3 ∧
    t.boot.tab.fwState (s.get F.UPD_STATUS_SLOT) = slotPending ∧ t.boot.tab.fwActive = s.get F.UPD_STATUS_SLOT ∧
    t.boot.tab.fwTrial = orDefault 3 (s.get F.UPD_CFG_TRIALS)) ∧
  -- UPD_ACTIVATE (R586)
  (∀ (s : State) (tableOk : Bool) (f : Frame), s.flashFree = true → s.hif.current = some f → f.cmd = 0x0303 →
    s.foreign f = false → f.payload = [3#32] → s.bootWriteDue = false → tableOk = false →
    Answers (exec (.updActivate tableOk) s) fun t => t.answered = some (0x0B, []) ∧ t.boot.tab = s.boot.tab ∧
    t.boot.copy = s.boot.copy ∧ t.get F.UPD_STATUS_STATE = s.get F.UPD_STATUS_STATE) ∧
  -- UPD_ABORT (R586)
  (∀ (s : State) (tableOk : Bool) (f : Frame), s.flashFree = true → s.hif.current = some f → f.cmd = 0x0306 →
    f.payload = [] → s.get F.UPD_STATUS_STATE ≠ 3 → Answers (exec (.updAbort tableOk) s) fun t =>
    t.answered = some (0x00, []) ∧ t.get F.UPD_STATUS_STATE = 0 ∧
    t.get F.UPD_STATUS_RESULT = s.get F.UPD_STATUS_RESULT ∧ t.get F.UPD_NEXT_NEXT = 0 ∧ t.boot.tab = s.boot.tab ∧
    t.flash = s.flash ∧ SameWords [R.UPD_STATUS, R.UPD_NEXT, R.UPD_LEN] s t) ∧
  -- UPD_ABORT (R586)
  (∀ (s : State) (tableOk : Bool) (f : Frame), s.flashFree = true → s.hif.current = some f → f.cmd = 0x0306 →
    f.payload = [] → s.get F.UPD_STATUS_STATE = 3 → s.get F.UPD_STATUS_KIND = 1 → s.get F.UPD_STATUS_SLOT < 2 →
    s.bootWriteDue = false → tableOk = true → Answers (exec (.updAbort tableOk) s) fun t =>
    t.answered = some (0x00, []) ∧ t.get F.UPD_STATUS_STATE = 0 ∧
    t.boot.tab.fwState (s.get F.UPD_STATUS_SLOT) = slotEmpty ∧ t.boot.tab.fwActive = s.get F.BOOT_STATUS_FW_SLOT ∧
    t.boot.tabOld = t.boot.tab ∧ SameFlash (tableBase (1 - s.boot.copy)) 4096 s t) ∧
  -- UPD_ABORT (R586)
  (∀ (s : State) (tableOk : Bool) (f : Frame), s.flashFree = true → s.hif.current = some f → f.cmd = 0x0306 →
    f.payload = [] → s.get F.UPD_STATUS_STATE = 3 → s.bootWriteDue = false → tableOk = false →
    Answers (exec (.updAbort tableOk) s) fun t => t.answered = some (0x0B, []) ∧ t.get F.UPD_STATUS_STATE = 3 ∧
    t.boot.tab = s.boot.tab) ∧
  -- CONFIRM (R592)
  (∀ (s : State) (failedFw failedCfg : List Nat) (fwTableOk cfgTableOk : Bool) (f : Frame), s.flashFree = true →
    s.hif.current = some f → f.cmd = 0x0304 → f.payload = [1#32] → s.useIs 1 slotTrial = false →
    s.useIs 1 slotGood = false → Answers (exec (.confirm failedFw failedCfg fwTableOk cfgTableOk) s) fun t =>
    t.answered = some (0x08, []) ∧ t.otp = s.otp ∧ SameWords [] s t) ∧
  -- CONFIRM (R592)
  (∀ (s : State) (failedFw failedCfg : List Nat) (fwTableOk cfgTableOk : Bool) (f : Frame), s.flashFree = true →
    s.hif.current = some f → f.cmd = 0x0304 → f.payload = [1#32] → s.useIs 1 slotTrial = true → s.advances 1 = false →
    s.advanceFails (thermBase 1) (s.svnOf 1) failedFw = false → s.bootWriteDue = false → fwTableOk = true →
    Answers (exec (.confirm failedFw failedCfg fwTableOk cfgTableOk) s) fun t => t.answered.map (·.1) = some 0x00 ∧
    t.boot.tab.fwState (s.get F.BOOT_STATUS_FW_SLOT) = slotGood ∧ t.otp = s.otp) ∧
  -- CONFIRM (R592)
  (∀ (s : State) (failedFw failedCfg : List Nat) (fwTableOk cfgTableOk : Bool) (f : Frame), s.flashFree = true →
    s.hif.current = some f → f.cmd = 0x0304 → f.payload = [3#32] → s.useIs 1 slotGood = true →
    s.useIs 2 slotGood = true → s.bootWriteDue = false →
    Answers (exec (.confirm failedFw failedCfg fwTableOk cfgTableOk) s) fun t =>
    t.answered = some (0x00, [BitVec.ofNat 32 (s.fwSteps + 256 * s.cfgSteps)]) ∧ t.otp = s.otp ∧ t.flash = s.flash ∧
    SameWords [] s t)

/-- A handover without its enable answers 0x07; one whose conditions hold starts the pause in phase 1. The ROM's check
goes on where the new slot verifies, and otherwise names it bad, and has no slot left where the old one fails too. A
whole record is adopted and the pause ends with its length in phase 2; a damaged one also raises 0xEA1A, in Winter by
T9. Good digests start the reloads in phase 3; an unreadable or differing section turns back to the old slot. A reload
holds the next engine, then loads and releases it; the last ends the handover in phase 5, the slot active and on
TRIAL, or 6 where the table write fails; a failed one raises 0xEA06. The hand-back marks the bad slot BAD with its
code and flags; where its table write fails the table stands. The model's choices it rests on are log entries 76, 77,
79, 80, 81, 124, 125. (R593, R594, R596, R597, R598.) -/
def Obligations.LiveHandoverActs : Prop :=
  -- HANDOVER (R593)
  (∀ (s : State) (f : Frame), s.hif.current = some f → f.cmd = 0x0305 → s.has F.UPD_CFG_HO_EN = false →
    Answers (exec (.handover) s) fun t => t.answered = some (0x07, []) ∧ SameWords [] s t) ∧
  -- HANDOVER (R593)
  (∀ (s : State) (f : Frame), s.hif.current = some f → f.cmd = 0x0305 → s.has F.UPD_CFG_HO_EN = true →
    s.suspends 2 = false → s.get F.UPD_STATUS_STATE ≠ 1 → s.bootWriteDue = false → s.handoverRuns = false →
    s.boot.tab.fwState (1 - s.get F.BOOT_STATUS_FW_SLOT) = slotPending →
    leAt (s.flashRead (fwBase (1 - s.get F.BOOT_STATUS_FW_SLOT)) 0x400) 0x0E 2 / 256 = s.get F.BOOT_VERS_FW_IFACE / 256 →
    s.minIface ≤ leAt (s.flashRead (fwBase (1 - s.get F.BOOT_STATUS_FW_SLOT)) 0x400) 0x0E 2 → f.payload = [] →
    Answers (exec (.handover) s) fun t => t.has F.SYS_STATE_HANDOVER = true ∧ t.get F.UPD_HO_PHASE = 1 ∧
    t.upd.paused = true ∧ t.upd.step = 3 ∧ t.upd.toSlot = 1 - s.get F.BOOT_STATUS_FW_SLOT ∧ t.answered = some (0x00, [])) ∧
  -- HANDOVER_ROM_VERIFY (R594)
  (∀ (s : State) (errTo errFrom : Fin 3), s.upd.paused = true → s.upd.step = 3 →
    Answers (exec (.handoverRomVerify errTo errFrom) s) fun t => t.upd.paused = true ∧
    (s.fwChecks (fwBase s.upd.toSlot) (s.boot.tab.fwLen s.upd.toSlot) errTo.val = 1 → (t.upd.step = 4 ∨ t.upd.step =
      5) ∧ t.upd.badSlot = (if s.upd.dir = 1 then some s.upd.fromSlot else none)) ∧
    (s.fwChecks (fwBase s.upd.toSlot) (s.boot.tab.fwLen s.upd.toSlot) errTo.val ≠ 1 → t.upd.badSlot = some s.upd.toSlot) ∧
    (s.fwChecks (fwBase s.upd.toSlot) (s.boot.tab.fwLen s.upd.toSlot) errTo.val ≠ 1 → s.fwChecks (fwBase
      s.upd.fromSlot) (s.boot.tab.fwLen s.upd.fromSlot) errFrom.val ≠ 1 → t.upd.step = 4) ∧
    SameWords [R.BOOT_STATUS] s t) ∧
  -- HANDOVER_ADOPT (R596)
  (∀ (s : State) (damaged : Bool), s.upd.paused = true → s.upd.step = 5 →
    (!damaged && recordValid s.upd.record) = true → exec (.handoverAdopt damaged) s = .next (s.endPause.afterPause)) ∧
  -- HANDOVER_ADOPT (R596)
  (∀ (s : State) (damaged : Bool), s.upd.paused = true → s.upd.step = 5 → damaged = true →
    exec (.handoverAdopt damaged) s = .next ((s.endPause.raise 0xEA1A).afterPause)) ∧
  -- HANDOVER_ADOPT (R596)
  (∀ (s : State) (damaged : Bool), s.upd.paused = true → s.upd.step = 5 → s.upd.badSlot = none → s.flt.deferT9 = none →
    s.bus.autumnDue = none → s.hif.exec = [] → (!damaged && recordValid s.upd.record) = true →
    Answers (exec (.handoverAdopt damaged) s) fun t => t.upd.paused = false ∧ t.upd.step = 6 ∧
    t.has F.SYS_STATE_HANDOVER = false ∧ t.get F.UPD_HO_PHASE = 2 ∧
    t.get F.UPD_HO_PAUSE = min 0xFFFF ((s.now - s.upd.pauseAt) / 1000)) ∧
  -- HANDOVER_ADOPT (R596)
  (∀ (s : State) (damaged : Bool), s.upd.paused = true → s.upd.step = 5 → damaged = true →
    s.isAny [.spring, .summer] = true → s.hif.exec = [] → Answers (exec (.handoverAdopt damaged) s) fun t =>
    t.upd.paused = false ∧ t.isIn .winter = true ∧ t.has G.FLT_FATAL.bit = true ∧
    t.get F.FLT_FATAL_CODE = (if s.get F.FLT_FATAL_CODE = 0 then 0xEA1A else s.get F.FLT_FATAL_CODE)) ∧
  -- HANDOVER_DIGESTS (R594)
  (∀ (s : State) (readOk : Bool), s.upd.step = 6 → s.upd.paused = false → readOk = true →
    s.sectionsOk (fwBase s.upd.toSlot) s.boot.fwHdr ((List.range 15).map (· + 1)) = true →
    Answers (exec (.handoverDigests readOk) s) fun t => t.get F.UPD_HO_PHASE = 3 ∧ t.upd.step = 7 ∧
    (t.upd.left = reloadOrder.filter fun e => !s.engineSkipped e) ∧ SameWords [R.UPD_HO] s t) ∧
  -- HANDOVER_DIGESTS (R594)
  (∀ (s : State) (readOk : Bool), s.upd.step = 6 → s.upd.paused = false → readOk = false →
    Answers (exec (.handoverDigests readOk) s) fun t => t.upd.dir = 1 ∧ t.upd.paused = true ∧ t.upd.step = 3 ∧
    t.upd.toSlot = s.upd.fromSlot ∧ t.has F.SYS_STATE_HANDOVER = true) ∧
  -- HANDOVER_DIGESTS (R594)
  (∀ (s : State) (readOk : Bool), s.upd.step = 6 → s.upd.paused = false →
    s.sectionsOk (fwBase s.upd.toSlot) s.boot.fwHdr ((List.range 15).map (· + 1)) = false →
    Answers (exec (.handoverDigests readOk) s) fun t => t.upd.dir = 1 ∧ t.upd.paused = true ∧ t.upd.step = 3 ∧
    t.upd.fromSlot = s.upd.toSlot ∧ t.upd.toSlot = s.upd.fromSlot ∧ t.has F.SYS_STATE_HANDOVER = true ∧
    t.get F.UPD_HO_PHASE = 1) ∧
  -- HANDBACK (R597)
  (∀ (s : State) (tableOk : Bool), s.flashFree = true → s.upd.badSlot = some 1 → s.upd.step = 9 →
    s.upd.paused = false → tableOk = true → Answers (exec (.handback tableOk) s) fun t =>
    t.boot.tab.fwState 1 = slotBad ∧ t.get F.BOOT_STATUS_FW_B = s.upd.codeTo % 2 ^ F.BOOT_STATUS_FW_B.width ∧
    t.has G.UPD_HANDBACK.bit = true ∧ t.upd.step = 0) ∧
  -- HANDBACK (R597)
  (∀ (s : State) (tableOk : Bool), s.flashFree = true → s.upd.badSlot = some 0 → s.upd.step = 9 →
    s.upd.paused = false → s.calm 0x2A = true → Answers (exec (.handback tableOk) s) fun t => t.upd.step = 0 ∧
    t.upd.badSlot = none ∧ t.get F.BOOT_STATUS_FW_A = s.upd.codeTo % 2 ^ F.BOOT_STATUS_FW_A.width ∧
    t.get F.BOOT_STATUS_FW_SLOT = 1 ∧ t.has G.UPD_HANDBACK.bit = true ∧ t.has G.UPD_REJECTED.bit = true ∧
    (tableOk = true → t.boot.tab.fwState 0 = slotBad ∧ t.boot.tab.fwActive = 1) ∧
    (tableOk = false → t.boot.tab = s.boot.tab)) ∧
  -- ENGINE_RELOAD (R598)
  (∀ (s : State) (ok tableOk : Bool) (r : Nat × List Nat × List Nat), s.flashFree = true → s.upd.held = none →
    s.upd.step = 7 → s.upd.paused = false → s.nextReload s.upd.left s.upd.passed = some r → r.1 < 14 →
    Answers (exec (.engineReload ok tableOk) s) fun t => t.upd.held = some r.1 ∧ t.get F.UPD_HO_ENGINE = r.1 ∧
    t.boot.engRun = s.boot.engRun &&& (2 ^ 16 - 1 - 2 ^ r.1)) ∧
  -- ENGINE_RELOAD (R598)
  (∀ (s : State) (ok tableOk : Bool), s.flashFree = true → s.upd.held = some 13 → ok = false →
    exec (.engineReload ok tableOk) s = .next (((s.releaseEngine 13).raise 0xEA06).pump)) ∧
  -- ENGINE_RELOAD (R598)
  (∀ (s : State) (ok tableOk : Bool) (e : Nat), s.flashFree = true → s.upd.held = some e → enginePort? e = none →
    e ≠ 14 → ok = true → s.sectionOk (fwBase s.upd.toSlot) s.boot.fwHdr e = true → s.upd.step = 7 → s.upd.left ≠ [] →
    s.hif.exec = [] → Answers (exec (.engineReload ok tableOk) s) fun t => t.upd.held = none ∧ t.engine e = true ∧
    t.upd.left = s.upd.left ∧ t.upd.step = 7 ∧ t.engMem = (s.loadEngine (fwBase s.upd.toSlot) e).engMem ∧
    SameWords [] s t) ∧
  -- ENGINE_RELOAD (R598)
  (∀ (s : State) (ok tableOk : Bool) (e : Nat), s.flashFree = true → s.upd.held = some e → enginePort? e = none →
    e ≠ 14 → ok = true → s.sectionOk (fwBase s.upd.toSlot) s.boot.fwHdr e = true → s.upd.step = 7 → s.upd.left = [] →
    s.upd.passed = [] → s.upd.toSlot < 2 → s.hif.exec = [] → s.calm 0x2A = true →
    Answers (exec (.engineReload ok tableOk) s) fun t => t.upd.held = none ∧ t.engine e = true ∧ t.upd.step = 0 ∧
    t.get F.UPD_HO_PHASE = (if tableOk then 5 else 6) ∧ t.get F.UPD_HO_ENGINE = 0 ∧
    t.get F.BOOT_STATUS_FW_SLOT = s.upd.toSlot ∧
    (tableOk = true → t.boot.tab.fwState s.upd.toSlot = slotTrial ∧ t.boot.tab.fwActive = s.upd.toSlot) ∧
    (tableOk = false → t.boot.tab = s.boot.tab)) ∧
  -- ENGINE_RELOAD (R598)
  (∀ (s : State) (ok tableOk : Bool) (e : Nat), s.flashFree = true → s.upd.held = some e → enginePort? e = none →
    e ≠ 14 → ok = false → s.isAny [.spring, .summer] = true → s.upd.paused = false → s.hif.exec = [] →
    Answers (exec (.engineReload ok tableOk) s) fun t => t.upd.held = none ∧ t.engine e = true ∧ t.isIn .winter = true ∧
    t.has G.FLT_FATAL.bit = true ∧
    t.get F.FLT_FATAL_CODE = (if s.get F.FLT_FATAL_CODE = 0 then 0xEA06 else s.get F.FLT_FATAL_CODE))

/-- Recovery: a scrapped part answers 0x0A; an open answers its target and goes to OPEN with its length; a block outside a
session answers 0x01; a block too short answers 0x08, the first block of four bytes is programmed inside its sector
with no word but NEXT changed; a close with a failed check answers the result and goes to IDLE, one of a configuration
that passes makes the slot PENDING with its length; the status answers four registers and changes no word. OTP:
OTP_PROGRAM under its conditions sets exactly the given bits of one word and no other cell; without operands it
answers 0x08 and changes nothing. OTP_LOCK sets the region's lock bit, or refuses an unlockable region with 0x07 and
its flag, a locked one with 0x0A, none with 0x08, no cell changed. REVOKE_FWKEY and POLICY_SET set their bits in words
0x44 and 0x85. The model's choices it rests on are log entries 14, 15, 67, 73, 74, 82. (R600, R601, R502, R505, R521.) -/
def Obligations.RecoveryAndOtpCommandsAct : Prop :=
  -- REC_OPEN (R600)
  (∀ (s : State) (tableOk : Bool) (f : Frame), s.hif.current = some f → f.cmd = 0x0380 →
    s.has F.OTP_STATUS_SCRAP = true → Answers (exec (.recOpen tableOk) s) fun t => t.answered = some (0x0A, []) ∧
    SameWords [] s t) ∧
  -- REC_OPEN (R600)
  (∀ (s : State) (tableOk : Bool) (f : Frame), s.hif.current = some f → f.cmd = 0x0380 →
    s.has F.OTP_STATUS_SCRAP = false → s.get F.UPD_STATUS_STATE = 0 → f.payload = [1#32, BitVec.ofNat 32 0x1000] →
    tableOk = true → Answers (exec (.recOpen tableOk) s) fun t =>
    t.answered = some (0x00, [BitVec.ofNat 32 (s.recTarget 1)]) ∧ t.get F.UPD_STATUS_STATE = 1 ∧
    t.get F.UPD_LEN_LEN = 0x1000) ∧
  -- REC_BLOCK (R600)
  (∀ (s : State) (failAt : Option Nat) (f : Frame), s.hif.current = some f → f.cmd = 0x0381 →
    s.get F.UPD_STATUS_STATE ≠ 1 → Answers (exec (.recBlock failAt) s) fun t => t.answered = some (0x01, []) ∧
    SameWords [] s t) ∧
  -- REC_BLOCK (R600)
  (∀ (s : State) (failAt : Option Nat) (f : Frame) (x : Word), s.hif.current = some f → f.cmd = 0x0381 →
    s.get F.UPD_STATUS_STATE = 1 → s.updSuspended (s.get F.UPD_STATUS_KIND) = false →
    f.payload = [0#32, BitVec.ofNat 32 (crc32 (leBytes 4 x.toNat)), x] → s.get F.UPD_NEXT_NEXT = 0 →
    4 ≤ s.get F.UPD_LEN_LEN → s.upd.erasedTo = 0 → failAt = none → Answers (exec (.recBlock failAt) s) fun t =>
    t.answered = some (0x00, [4#32]) ∧ t.get F.UPD_NEXT_NEXT = 4 ∧ t.flashRead s.updBase 4 = leBytes 4 x.toNat ∧
    SameFlash s.updBase 4096 s t ∧ SameWords [R.UPD_NEXT] s t) ∧
  -- REC_BLOCK (R600)
  (∀ (s : State) (failAt : Option Nat) (f : Frame), s.hif.current = some f → f.cmd = 0x0381 →
    s.get F.UPD_STATUS_STATE = 1 → s.updSuspended (s.get F.UPD_STATUS_KIND) = false → f.payload.length < 3 →
    Answers (exec (.recBlock failAt) s) fun t => t.answered = some (0x08, []) ∧ t.flash = s.flash ∧ SameWords [] s t) ∧
  -- REC_CLOSE (R601)
  (∀ (s : State) (e : Fin 4) (tableOk : Bool) (f : Frame), s.hif.current = some f → f.cmd = 0x0382 →
    s.get F.UPD_STATUS_STATE = 1 → s.get F.UPD_NEXT_NEXT = s.get F.UPD_LEN_LEN →
    (s.get F.UPD_STATUS_KIND == 1 && s.suspends 2) = false → f.payload = [] → (s.fullCheck e.val).1 ≠ 1 →
    Answers (exec (.recClose e tableOk) s) fun t => t.answered = some (0x00, [BitVec.ofNat 32 (s.fullCheck e.val).1]) ∧
    t.get F.UPD_STATUS_STATE = 0) ∧
  -- REC_CLOSE (R601)
  (∀ (s : State) (e : Fin 4) (tableOk : Bool) (f : Frame), s.hif.current = some f → f.cmd = 0x0382 → f.payload = [] →
    s.get F.UPD_STATUS_STATE = 1 → s.get F.UPD_NEXT_NEXT = s.get F.UPD_LEN_LEN → s.get F.UPD_STATUS_KIND = 2 →
    s.get F.UPD_STATUS_SLOT < 2 → (s.fullCheck e.val).1 = 1 → tableOk = true →
    Answers (exec (.recClose e tableOk) s) fun t => t.answered = some (0x00, [1#32]) ∧ t.get F.UPD_STATUS_RESULT = 1 ∧
    t.get F.UPD_STATUS_STATE = 2 ∧ t.boot.tab.cfgState (s.get F.UPD_STATUS_SLOT) = slotPending ∧
    t.boot.tab.cfgLen (s.get F.UPD_STATUS_SLOT) = s.get F.UPD_LEN_LEN ∧ t.boot.tabOld = t.boot.tab ∧
    SameWords [R.UPD_STATUS] s t) ∧
  -- REC_STATUS (R600)
  (∀ (s : State) (f : Frame), s.hif.current = some f → f.cmd = 0x0383 → f.payload = [] →
    Answers (exec (.recStatus) s) fun t =>
    t.answered = some (0x00, [s.readReg R.BOOT_STATUS, s.readReg R.OTP_STATUS, s.readReg R.UPD_STATUS, s.readReg
      R.UPD_NEXT]) ∧
    SameWords [] s t) ∧
  -- OTP_PROGRAM (R502)
  (∀ (s : State) (n : BitVec 8) (bits failed : Word) (f : Frame), s.hif.current = some f → f.cmd = 0x0400 →
    n.toNat < 0x8E → s.regionLocked (otpRegion n.toNat) = false → s.policy 0 = false → otpScrambled n.toNat = false →
    s.otpSuspended = false → s.otpConditions = true → bits &&& failed = 0#32 →
    Answers (exec (.otpProgram (some (n, bits)) failed) s) fun t => t.otpCell n.toNat = s.otpCell n.toNat ||| bits ∧
    t.otpWord n.toNat = (if n.toNat < 0x20 then s.otpWord n.toNat else s.otpWord n.toNat ||| bits) ∧
    t.hif.current = none ∧ t.answered = some (0, []) ∧ (∀ i, i ≠ n.toNat → t.otpCell i = s.otpCell i)) ∧
  -- OTP_PROGRAM (R502)
  (∀ (s : State) (failed : Word) (f : Frame), s.hif.current = some f → f.cmd = 0x0400 →
    Answers (exec (.otpProgram none failed) s) fun t => t.answered = some (8, []) ∧ t.otp = s.otp ∧ SameWords [] s t) ∧
  -- OTP_LOCK (R505)
  (∀ (s : State) (n : Fin 8) (reads : List (Nat × Word × Word × Word)) (failed : Bool) (f : Frame),
    s.hif.current = some f → f.cmd = 0x0401 → s.regionLocked n.val = false → s.otpSuspended = false →
    s.lockable reads n.val = true → s.otpConditions = true → failed = false →
    Answers (exec (.otpLock (some n) reads failed) s) fun t =>
    t.otpCell 0x8E = s.otpCell 0x8E ||| BitVec.ofNat 32 (2 ^ n.val) ∧ t.answered = some (0, [])) ∧
  -- OTP_LOCK (R505)
  (∀ (s : State) (n : Fin 8) (reads : List (Nat × Word × Word × Word)) (failed : Bool) (f : Frame),
    s.hif.current = some f → f.cmd = 0x0401 → s.regionLocked n.val = false → s.otpSuspended = false →
    s.lockable reads n.val = false → Answers (exec (.otpLock (some n) reads failed) s) fun t =>
    t.has G.OTP_LOCK_REFUSED.bit = true ∧ t.answered = some (7, []) ∧ t.otp = s.otp) ∧
  -- OTP_LOCK (R505)
  (∀ (s : State) (arg : Option (Fin 8)) (reads : List (Nat × Word × Word × Word)) (failed : Bool) (f : Frame),
    s.hif.current = some f → f.cmd = 0x0401 → (arg = none ∨ (arg.any fun n => s.regionLocked n.val) = true) →
    Answers (exec (.otpLock arg reads failed) s) fun t => t.answered = some (if arg = none then 0x08 else 0x0A, []) ∧
    t.otp = s.otp ∧ SameWords [] s t) ∧
  -- REVOKE_FWKEY (R521)
  (∀ (s : State) (i : Fin 4) (failed : Bool) (f : Frame), s.hif.current = some f → f.cmd = 0x0402 →
    leAt s.boot.fwHdr 0x0D 1 ≠ i.val → (((List.range 4).filter fun j => decide (j ≠ i.val)).all s.keyGone = false) →
    s.suspends 6 = false → s.otpConditions = true → failed = false →
    Answers (exec (.revokeFwkey (some i) failed) s) fun t =>
    t.otpCell 0x44 = s.otpCell 0x44 ||| BitVec.ofNat 32 (2 ^ i.val) ∧ t.answered = some (0, [])) ∧
  -- POLICY_SET (R521)
  (∀ (s : State) (p failed : BitVec 4) (f : Frame), s.hif.current = some f → f.cmd = 0x0403 → p.getLsbD 0 = false →
    s.suspends 6 = false → s.otpConditions = true → p &&& failed = 0#4 →
    Answers (exec (.policySet (some p) failed) s) fun t => t.otpCell 0x85 = s.otpCell 0x85 ||| p.setWidth 32 ∧
    t.answered = some (0, []))

/-- A valid reference conversion of the default schedule, or ADC 3's conversion of an entry of the active bank, stores its
result at its position's time. A frame without bad results clears the runs and one with a bad result counts it and
warns. A superframe stores which windows are outside and the bus energy. Shadow writes and reads move the index, touch
one entry and never the active bank, and are discarded while busy. A swap request makes the unit busy or is ignored;
the check passes a valid shadow bank and refuses an invalid one with its index; a passed swap turns the banks at the
frame. A general window outside warns; a port's high window trips its breaker with cause 0x34. The model's choices it
rests on are log entries 1, 48, 106, 107, 108. (R124, R135, R136, R128, R129, R130, R131, R137.) -/
def Obligations.MeasurementAndScheduleAct : Prop :=
  -- ADC_CONVERSION (R124)
  (∀ (s : State) (pos : Nat) (ecc : BitVec 4) (r0 r1 r2 r3 : Option (BitVec 14)) (c : BitVec 14),
    s.isIn .deepWinter = false → s.get F.SCH_STATUS_ACTIVE = 0 → pos % 4 = 0 → r3 = some c →
    Answers (exec (.adcConversion pos ecc r0 r1 r2 r3) s) fun t => t.result? 0x65 = some c.toNat ∧
    t.now = max s.now (s.now - s.tb % 1024 + 8 * pos)) ∧
  -- ADC_CONVERSION (R124)
  (∀ (s : State) (pos : Nat) (ecc : BitVec 4) (r0 r1 r2 r3 : Option (BitVec 14)) (c : BitVec 14),
    s.isIn .deepWinter = false → s.get F.SCH_STATUS_ACTIVE ≠ 0 → pos < 128 → ecc.getLsbD 3 = false →
    s.entryNow 3 pos % 256 ≠ 0xFF → (s.entryNow 3 pos).testBit 8 = false → r3 = some c →
    Answers (exec (.adcConversion pos ecc r0 r1 r2 r3) s) fun t => t.result? (s.entryNow 3 pos % 256) = some c.toNat ∧
    t.now = max s.now (s.now - s.tb % 1024 + 8 * pos)) ∧
  -- FRAME_PLAUSIBILITY (R135)
  (∀ (s : State), s.msr.badNow = 0 → Answers (exec (.framePlausibility) s) fun t => t.msr.badRun = [0, 0, 0, 0] ∧
    t.msr.badNow = 0 ∧ SameWords [] s t) ∧
  -- FRAME_PLAUSIBILITY (R135)
  (∀ (s : State), s.msr.badNow.testBit 2 = true → s.msr.badRun = [0, 0, 0, 0] →
    Answers (exec (.framePlausibility) s) fun t => t.has G.MSR_GROSS.bit = true ∧ t.msr.badNow = 0 ∧
    t.msr.badRun.getD 2 0 = 1) ∧
  -- SUPERFRAME_CHECKS (R136)
  (∀ (s : State) (outside : BitVec 64), s.get F.SCH_STATUS_ACTIVE = 0 → s.msr.windows = [] →
    ((List.range 64).all (fun w => !s.windowDisagrees w (outside.getLsbD w)) = true) →
    Answers (exec (.superframeChecks outside) s) fun t => t.get F.MSR_CMP_ST0_OUT = outside.toNat % 2 ^ 32 ∧
    t.get F.MSR_CMP_ST1_OUT = outside.toNat / 2 ^ 32 ∧ t.get F.BUS_VIN_E_BUS = s.eBus % 2 ^ 16 ∧ t.msr.driftRun = 0 ∧
    t.msr.dualRun = 0 ∧ t.msr.cmpRun = 0) ∧
  -- SCH_DATA_WRITE (R128)
  (∀ (s : State) (w : Word), s.has F.SCH_STATUS_BUSY = false → Answers (exec (.schDataWrite w) s) fun t =>
    entryAt t.shadowBank (s.get F.SCH_ADDR_INDEX) = w ∧ t.get F.SCH_ADDR_INDEX = (s.get F.SCH_ADDR_INDEX + 1) % 16384 ∧
    (∀ i, i ≠ s.get F.SCH_ADDR_INDEX → entryAt t.shadowBank i = entryAt s.shadowBank i) ∧ t.activeBank = s.activeBank ∧
    SameWords [R.SCH_ADDR] s t) ∧
  -- SCH_DATA_WRITE (R128)
  (∀ (s : State) (w : Word), s.has F.SCH_STATUS_BUSY = true → Answers (exec (.schDataWrite w) s) fun t =>
    t.has G.SCH_WR_DISCARDED.bit = true ∧ t.msr = s.msr ∧ t.get F.SCH_ADDR_INDEX = s.get F.SCH_ADDR_INDEX) ∧
  -- SCH_DATA_READ (R128)
  (∀ (s : State), Answers (exec (.schDataRead) s) fun t =>
    t.get F.SCH_ADDR_INDEX = (s.get F.SCH_ADDR_INDEX + 1) % 16384 ∧ t.msr = s.msr ∧ SameWords [R.SCH_ADDR] s t) ∧
  -- SCH_SWAP_REQ (R129)
  (∀ (s : State), s.has F.SCH_STATUS_BUSY = false → Answers (exec (.schSwapReq) s) fun t =>
    t.has F.SCH_STATUS_BUSY = true ∧ SameWords [R.SCH_STATUS] s t) ∧
  -- SCH_SWAP_REQ (R129)
  (∀ (s : State), s.has F.SCH_STATUS_BUSY = true → Answers (exec (.schSwapReq) s) fun t =>
    t.has G.SCH_REQ_IGNORED.bit = true ∧ t.has F.SCH_STATUS_BUSY = true) ∧
  -- SCHEDULE_CHECK (R130)
  (∀ (s : State), s.has F.SCH_STATUS_BUSY = true → s.msr.passed = false → Answers (exec (.scheduleCheck) s) fun t =>
    (s.firstInvalid = none → s.uncovered = none → bankCrc s.shadowBank = s.get F.SCH_CRC_CRC → t.msr.passed = true)) ∧
  -- SCHEDULE_CHECK (R130)
  (∀ (s : State) (e : Nat × Nat), s.has F.SCH_STATUS_BUSY = true → s.msr.passed = false → s.firstInvalid = some e →
    s.calm 0x25 = true → Answers (exec (.scheduleCheck) s) fun t => t.get F.SCH_STATUS_LAST_RESULT = 2 ∧
    t.has F.SCH_STATUS_BUSY = false ∧ t.get F.SCH_REFUSE_INDEX = e.1 % 2 ^ F.SCH_REFUSE_INDEX.width ∧
    t.has G.SCH_REFUSED.bit = true ∧ t.msr.passed = false) ∧
  -- SCHEDULE_SWAP (R131)
  (∀ (s : State), s.has F.SCH_STATUS_BUSY = true → s.msr.passed = true → s.isIn .spring = false →
    Answers (exec (.scheduleSwap) s) fun t => t.get F.SCH_STATUS_ACTIVE = (if s.shadowIsB then 2 else 1) ∧
    t.has F.SCH_STATUS_BUSY = false ∧ t.get F.SCH_STATUS_LAST_RESULT = 1 ∧ t.msr.passed = false ∧
    t.msr.crcAccepted = s.get F.SCH_CRC_CRC ∧ SameWords [R.SCH_STATUS] s t) ∧
  -- WINDOW_OUTSIDE (R137)
  (∀ (s : State) (win : Nat) (high : Bool), 55 ≤ win → win < 64 → s.get (F.MSR_GPW_CHAN (win - 55)) ≠ 0xFF →
    s.isAny [.romBoot, .deepWinter] = false → Answers (exec (.windowOutside win high) s) fun t =>
    t.bit F.MSR_CMP_ST1_OUT (win - 32) = true ∧ t.has G.FLT_WARN.bit = true) ∧
  -- WINDOW_OUTSIDE (R137)
  (∀ (s : State) (win : Nat) (high : Bool), 16 ≤ win → win < 25 → high = true →
    s.portPresent (portId (win - 16)) = true → s.calm (win - 15) = true → s.isAny [.romBoot, .deepWinter] = false →
    Answers (exec (.windowOutside win high) s) fun t => t.get (F.BRK_STATUS_LAST_CAUSE (portId (win - 16))) = 0x34 ∧
    t.switchDriven (portId (win - 16)) = false ∧ t.has (G.BRK_TRIP (portId (win - 16))).bit = true)

/-- Arming an idle ring takes PRE and ALL and clears it, the present frame counted as marked unless it just begins;
disarming an armed one keeps its words. A forced or real trigger goes to TRIGGERED, stores the word and, for the real
one, the time; a trigger later than that is missed, with its flag and last code. When the words after the trigger are
in, the ring is FULL and changes no more; a release without spill makes it IDLE. The model's choices it rests on are
log entry 50. (R155, R141, R441.) -/
def Obligations.CaptureStatesFollow : Prop :=
  -- CAPTURE_ARM (R155)
  (∀ (s : State) (w : Word), s.get F.CAP_STATUS_STATE = 0 → w.getLsbD 0 = true → w.getLsbD 2 = false →
    Answers (exec (.captureArm w) s) fun t => t.get F.CAP_STATUS_STATE = 1 ∧
    t.get F.CAP_CTRL_PRE = w.toNat / 2 ^ 8 % 2 ^ F.CAP_CTRL_PRE.width ∧ t.has F.CAP_CTRL_CAP_ALL = w.getLsbD 1 ∧
    t.cap = { marked := if s.tb % 1024 = 0 then none else some (s.tb / 1024) } ∧
    SameWords [R.CAP_CTRL, R.CAP_STATUS] s t) ∧
  -- CAPTURE_ARM (R155)
  (∀ (s : State) (w : Word), s.get F.CAP_STATUS_STATE = 1 → w.getLsbD 0 = false → w.getLsbD 2 = false →
    Answers (exec (.captureArm w) s) fun t => t.get F.CAP_STATUS_STATE = 0 ∧ t.cap = s.cap ∧
    SameWords [R.CAP_CTRL, R.CAP_STATUS] s t) ∧
  -- CAPTURE_FORCE (R155)
  (∀ (s : State), s.get F.CAP_STATUS_STATE = 1 → Answers (exec (.captureForce) s) fun t =>
    t.get F.CAP_STATUS_STATE = 2 ∧ t.get F.CAP_STATUS_TRIG_WORD = s.cap.next % 2 ^ F.CAP_STATUS_TRIG_WORD.width ∧
    t.cap.left = ringWords - s.preWords ∧ t.cap.ram = s.cap.ram ∧ t.has G.CAP_TRIGGERED.bit = true) ∧
  -- CAPTURE_TRIGGER (R141)
  (∀ (s : State), s.get F.CAP_STATUS_STATE = 1 → Answers (exec (.captureTrigger) s) fun t =>
    t.get F.CAP_STATUS_STATE = 2 ∧ t.get F.CAP_STATUS_TRIG_WORD = s.cap.next % 2 ^ F.CAP_STATUS_TRIG_WORD.width ∧
    t.get F.CAP_TBL_TB = s.tb % 2 ^ 32 ∧ t.get F.CAP_TBH_TB = s.tb / 2 ^ 32 ∧ t.has G.CAP_TRIGGERED.bit = true) ∧
  -- CAPTURE_TRIGGER (R141)
  (∀ (s : State), 2 ≤ s.get F.CAP_STATUS_STATE → Answers (exec (.captureTrigger) s) fun t =>
    t.has G.CAP_MISSED.bit = true ∧ t.get F.FLT_LAST_CODE = 0x250A ∧
    t.get F.CAP_STATUS_STATE = s.get F.CAP_STATUS_STATE ∧ t.cap = s.cap) ∧
  -- CAPTURE_FULL (R141)
  (∀ (s : State), s.get F.CAP_STATUS_STATE = 2 → s.cap.left = 0 → Answers (exec (.captureFull) s) fun t =>
    t.get F.CAP_STATUS_STATE = 3 ∧ t.cap = s.cap ∧ SameWords [R.CAP_STATUS] s t) ∧
  -- CAPTURE_RELEASE (R441)
  (∀ (s : State), s.get F.CAP_STATUS_STATE = 3 → s.has F.CAP_SPILL_EN = false →
    Answers (exec (.captureRelease) s) fun t => t.get F.CAP_STATUS_STATE = 0 ∧ t.has F.CAP_CTRL_ARM = false ∧
    SameWords [R.CAP_STATUS, R.CAP_CTRL] s t)

/-- A CC change that shows a partner starts the 150 ms debounce. A debounced double Rd is refused; a debounced Rp attaches
as sink with its Rp. An attached port's judgement either starts closing its switch at 5 V or leaves the judged state.
Detach clears orientation, VCONN and contract and waits for vSafe0V; reaching it returns to UNATTACHED. Seating and
its loss act where enabled, the loss opening the switch. A VCONN overcurrent turns VCONN off until detach with its
flag. The model's choices it rests on are log entry 39. (R162, R163, R164, R167, R169.) -/
def Obligations.AttachAndDetachAct : Prop :=
  -- CC_CHANGE (R162)
  (∀ (s : State) (k : PortId) (cc1 cc2 : Term), s.astate k = 1 → s.looksForSource k = false →
    seesSink { (s.port k).pins with cc1 := cc1, cc2 := cc2 } = true → s.ccBiased k = false →
    Answers (exec (.ccChange k cc1 cc2) s) fun t => t.astate k = 2 ∧
    t.deadline (.ccDebounce k) = some (s.now + msec 150) ∧ (t.port k).pins.cc1 = cc1 ∧ (t.port k).pins.cc2 = cc2) ∧
  -- CC_CHANGE (R162)
  (∀ (s : State) (k : PortId) (cc1 cc2 : Term), s.astate k = 2 → s.looksForSource k = true →
    seesRp { (s.port k).pins with cc1 := cc1, cc2 := cc2 } ≠ 0 → Answers (exec (.ccChange k cc1 cc2) s) fun t =>
    t.astate k = 2 ∧ t.deadline (.ccDebounce k) = some (s.now + msec 150)) ∧
  -- ATTACH_DEBOUNCE_ELAPSED (R162)
  (∀ (s : State) (k : PortId), (s.port k).pd.reloading = false → s.armed (.ccDebounce k) = true → s.astate k = 2 →
    s.looksForSource k = false → (s.port k).pins.cc1 = .rd → (s.port k).pins.cc2 = .rd →
    Answers (exec (.attachDebounceElapsed k) s) fun t => t.astate k = 0xA ∧ t.has (G.ATT_REFUSED k).bit = true) ∧
  -- ATTACH_DEBOUNCE_ELAPSED (R162)
  (∀ (s : State) (k : PortId), (s.port k).pd.reloading = false → s.armed (.ccDebounce k) = true → s.astate k = 2 →
    s.looksForSource k = true → seesRp (s.port k).pins ≠ 0 → Answers (exec (.attachDebounceElapsed k) s) fun t =>
    t.astate k = 8 ∧ t.has (F.ATT_STATUS_PWR_ROLE k) = true ∧ t.get (F.ATT_STATUS_RP k) = seesRp (s.port k).pins) ∧
  -- VBUS_APPLY_JUDGE (R163)
  (∀ (s : State) (k : PortId), s.sinkAttached k = true → s.switchDriven k = false → (s.port k).pd.reloading = false →
    s.has F.PROT_STATUS_SEALED = true → (s.presentRp k).judged k = 7 → (s.presentRp k).get (F.BRK_STATUS_STATE k) = 0 →
    Answers (exec (.vbusApplyJudge k) s) fun t => t.get (F.BRK_STATUS_STATE k) = 1 ∧ t.astate k = 7 ∧
    (k.isModule = true → (if (s.port k).cnv.offsets.length < 16 then (t.port k).cnv.startDue = some 5000 else (t.port
      k).cnv.run = true))) ∧
  -- VBUS_APPLY_JUDGE (R163)
  (∀ (s : State) (k : PortId), s.sinkAttached k = true → s.switchDriven k = false → (s.port k).pd.reloading = false →
    (s.presentRp k).judged k ≠ 7 → Answers (exec (.vbusApplyJudge k) s) fun t => t.astate k = (s.presentRp k).judged k) ∧
  -- DETACH (R164)
  (∀ (s : State) (k : PortId), s.sinkAttached k = true → Answers (exec (.detach k) s) fun t =>
    t.get (F.ATT_STATUS_ORIENT k) = 0 ∧ t.astate k = (if (s.port k).pins.vcsnsSafe then 1 else 3) ∧
    t.has (F.ATT_STATUS_VCONN_ON k) = false ∧ t.has (F.PD_STATUS_CONTRACT k) = false) ∧
  -- VCSNS_SAFE0_REACHED (R164)
  (∀ (s : State) (k : PortId), s.switchClosed k = false → s.get (F.ATT_STATUS_ORIENT k) = 0 → s.astate k = 3 →
    s.portServed k = true → s.looksForSource k = false → seesSink (s.port k).pins = false →
    Answers (exec (.vcsnsSafe0Reached k) s) fun t => t.astate k = 1 ∧ (t.port k).pins.vcsnsSafe = true) ∧
  -- SEATED (R167)
  (∀ (s : State) (k : PortId), s.has (F.ATT_CFG_SEAT_EN k) = true → s.astate k ≠ 0 →
    Answers (exec (.seated k) s) fun t => t.has (F.ATT_STATUS_SEATED k) = true ∧ (t.port k).pd.noPd = false) ∧
  -- SEAT_LOST (R167)
  (∀ (s : State) (k : PortId), s.has (F.ATT_CFG_SEAT_EN k) = true → s.astate k ≠ 0 → s.switchDriven k = true →
    Answers (exec (.seatLost k) s) fun t => t.has (F.ATT_STATUS_SEATED k) = false ∧ t.switchDriven k = false ∧
    t.has (G.ATT_SEAT_LOST k).bit = true) ∧
  -- VCONN_OVERCURRENT (R169)
  (∀ (s : State) (k : PortId), s.has (F.ATT_STATUS_VCONN_ON k) = true → s.calm k.num = true →
    Answers (exec (.vconnOvercurrent k) s) fun t => t.has (F.ATT_STATUS_VCONN_ON k) = false ∧
    (t.port k).att.vconnLockout = true ∧ t.has (G.ATT_VCONN_OC k).bit = true)

/-- A due wet reading biases the pins, settles 5 ms, reads 20 ms and comes again in 1 s; a wet verdict clears the dry time
and sets its flag, a dry one on an open port counts on and shows the dry time. The DRP timer turns the role of an open
port 9 every 37.5 ms; the try timer goes to its second part without Rp and to sink with Rp. A sink detach leaves port
9 open without contract. The model's choices it rests on are log entries 3, 39, 110, 116, 122. (R171, R173, R177.) -/
def Obligations.WetReadingsAndPort9RolesAct : Prop :=
  -- WET_READING_DUE (R171)
  (∀ (s : State) (k : PortId), s.armed (.wetNext k) = true → s.wetOn = true → readingState (s.astate k) = true →
    (s.port k).pd.reloading = false → Answers (exec (.wetReadingDue k) s) fun t => (t.port k).att.wetBias = true ∧
    (t.port k).att.wetPins = s.wetMask k ∧ t.deadline (.wetSettle k) = some (t.now + msec 5) ∧
    t.deadline (.wetNext k) = some (t.now + secs 1)) ∧
  -- WET_SETTLING_END (R171)
  (∀ (s : State) (k : PortId), s.armed (.wetSettle k) = true → Answers (exec (.wetSettlingEnd k) s) fun t =>
    t.deadline (.wetWindow k) = some (t.now + msec 20) ∧ t.armed (.wetSettle k) = false) ∧
  -- WET_WINDOW_END (R173)
  (∀ (s : State) (k : PortId), s.armed (.wetWindow k) = true → (s.port k).att.wetMiss < 9 → s.wetDryVerdict k = false →
    Answers (exec (.wetWindowEnd k) s) fun t => (t.port k).att.wetBias = false ∧ t.get (F.ATT_STATUS_DRY k) = 1 ∧
    t.get (F.ATT_STATUS_DRY_S k) = 0 ∧ t.has (G.ATT_WET k).bit = true) ∧
  -- WET_WINDOW_END (R173)
  (∀ (s : State) (k : PortId), s.armed (.wetWindow k) = true → s.wetDryVerdict k = true → s.astate k = 1 →
    seesSink (s.port k).pins = false → seesRp (s.port k).pins = 0 → Answers (exec (.wetWindowEnd k) s) fun t =>
    (t.port k).att.wetBias = false ∧ (t.port k).att.dryRun = (s.port k).att.dryRun + 1 ∧ (t.port k).att.wetMiss = 0 ∧
    t.get (F.ATT_STATUS_DRY_S k) = min 0xFFFF ((t.now - (s.port k).att.dryStart.getD t.now) / secs 1) % 2 ^
      (F.ATT_STATUS_DRY_S k).width ∧
    t.get (F.ATT_STATUS_DRY k) = (if 60 ≤ min 0xFFFF ((t.now - (s.port k).att.dryStart.getD t.now) / secs 1) ∧ 60 ≤
      (s.port k).att.dryRun then 2 else s.get (F.ATT_STATUS_DRY k))) ∧
  -- DRP_TOGGLE (R177)
  (∀ (s : State), s.armed .drp = true → s.astate port9 = 1 → s.env.vinOk = true → s.isIn .offSeason = false →
    seesSink (s.port port9).pins = false → seesRp (s.port port9).pins = 0 → Answers (exec (.drpToggle) s) fun t =>
    (t.port port9).att.asSource = !(s.port port9).att.asSource ∧
    t.has (F.ATT_STATUS_PWR_ROLE port9) = (s.port port9).att.asSource ∧
    t.get (F.ATT_STATUS_RP port9) = (if (s.port port9).att.asSource then 0 else 3) ∧
    t.deadline .drp = some (t.now + usec 37500)) ∧
  -- TRY_SNK_ELAPSED (R177)
  (∀ (s : State), s.armed .drpTry = true → s.astate port9 = 0xB → (s.port port9).att.trySub = 1 →
    seesRp (s.port port9).pins = 0 → Answers (exec (.trySnkElapsed) s) fun t => (t.port port9).att.trySub = 2 ∧
    t.get (F.ATT_STATUS_RP port9) = 3 ∧ t.deadline .drpTry = some (t.now + msec 100)) ∧
  -- TRY_SNK_ELAPSED (R177)
  (∀ (s : State), s.armed .drpTry = true → s.astate port9 = 0xB → (s.port port9).att.trySub = 1 →
    seesRp (s.port port9).pins ≠ 0 → Answers (exec (.trySnkElapsed) s) fun t => t.astate port9 = 8 ∧
    t.has (F.ATT_STATUS_PWR_ROLE port9) = true) ∧
  -- PORT9_SINK_DETACH (R177)
  (∀ (s : State), s.astate port9 = 8 → Answers (exec (.port9SinkDetach) s) fun t =>
    t.get (F.ATT_STATUS_ORIENT port9) = 0 ∧ (t.port port9).pins.cc1 = .opn ∧ (t.port port9).pins.cc2 = .opn ∧
    t.has (F.PD_STATUS_CONTRACT port9) = false)

/-- Every query here is one the port hears, with a new MessageID. An allowed request is acknowledged and answered Accept,
awaits the transition and keeps the object's voltage and current; one for no object is answered Reject with its flag.
Capability queries are answered with the capabilities built now (a sink only tells them), an EPR query with seven SPR
places before the EPR part, or Not_Supported to a partner at Revision 2.0; modules answer a sink query Not_Supported
and port 9 its 5 V 3 A object. Extended capabilities, source info, revision, manufacturer info, status and PPS status
are each answered with their message. The model's choices it rests on are log entries 23, 24, 25, 28, 111, 114, 132.
(R195, R189, R210, R190, R205.) -/
def Obligations.RequestsAndCapabilityMessagesAct : Prop :=
  -- REQUEST (R195)
  (∀ (s : State) (k : PortId) (id : BitVec 3) (rdo : Word) (rev2 : Bool) (o : Word), s.hearsNew k id = true →
    s.isSink k = false → s.rdoObj? k rdo = some o → s.capBreaks k o rdo = false → objAllows o rdo = true →
    s.ceilAllows k o rdo = true → Answers (exec (.request k id rdo rev2) s) fun t =>
    (t.port k).pd.acked = some id.toNat ∧ (t.port k).pd.tx = (s.port k).pd.tx ++ [{ kind := .accept }] ∧
    (t.port k).pd.await = .srcTransition ∧ (t.port k).pd.reqRdo = rdo ∧ (t.port k).pd.reqMv = rdoMv o rdo ∧
    (t.port k).pd.reqMa = rdoMa o rdo ∧ t.get (F.PD_STATUS_PE k) = 3 ∧
    t.get (F.PD_STATUS_REV k) = (if rev2 then 1 else 2)) ∧
  -- REQUEST (R195)
  (∀ (s : State) (k : PortId) (id : BitVec 3) (rdo : Word) (rev2 : Bool), s.hearsNew k id = true → s.isSink k = false →
    s.rdoObj? k rdo = none → Answers (exec (.request k id rdo rev2) s) fun t =>
    (t.port k).pd.tx = (s.port k).pd.tx ++ [{ kind := .reject }] ∧ t.has (G.PD_REJECTED k).bit = true ∧
    t.get (F.PD_STATUS_PE k) = (if s.contract k then 4 else 2)) ∧
  -- EPR_REQUEST (R195)
  (∀ (s : State) (k : PortId) (id : BitVec 3) (rdo : Word) (o : Word), k.isModule = true → s.hearsNew k id = true →
    s.rdoObj? k rdo = some o → s.capBreaks k o rdo = false → objAllows o rdo = true → s.ceilAllows k o rdo = true →
    Answers (exec (.eprRequest k id rdo) s) fun t => (t.port k).pd.tx = (s.port k).pd.tx ++ [{ kind := .accept }] ∧
    (t.port k).pd.await = .srcTransition ∧ (t.port k).pd.reqRdo = rdo ∧ t.get (F.PD_STATUS_REV k) = 2) ∧
  -- GET_SOURCE_CAP (R189)
  (∀ (s : State) (k : PortId) (id : BitVec 3), s.hearsNew k id = true → s.isSink k = true →
    Answers (exec (.getSourceCap k id) s) fun t => (t.port k).pd.tx = (s.port k).pd.tx ++ [s.capsMsg k] ∧
    (t.port k).pd.caps = (s.port k).pd.caps ∧ (t.port k).pd.await = (s.port k).pd.await ∧
    (t.port k).pd.acked = some id.toNat) ∧
  -- GET_SOURCE_CAP (R189)
  (∀ (s : State) (k : PortId) (id : BitVec 3), s.hearsNew k id = true → s.isSink k = false →
    Answers (exec (.getSourceCap k id) s) fun t => (t.port k).pd.acked = some id.toNat ∧
    (t.port k).pd.tx = (s.port k).pd.tx ++ [s.capsMsg k] ∧ (t.port k).pd.caps = s.buildCaps k ∧
    (t.port k).pd.await = .request) ∧
  -- EPR_GET_SOURCE_CAP (R189)
  (∀ (s : State) (k : PortId) (id : BitVec 3), k.isModule = true → s.hearsNew k id = true → s.rev2 k = false →
    Answers (exec (.eprGetSourceCap k id) s) fun t =>
    (t.port k).pd.tx = (s.port k).pd.tx ++ [{ kind := .eprSourceCap, objs := s.sprSection k ++ List.replicate (7 - (s.sprSection k).length) 0#32 ++ s.eprSection k }]) ∧
  -- EPR_GET_SOURCE_CAP (R189)
  (∀ (s : State) (k : PortId) (id : BitVec 3), s.hearsNew k id = true → s.rev2 k = true →
    Answers (exec (.eprGetSourceCap k id) s) fun t => (t.port k).pd.tx = (s.port k).pd.tx ++ [{ kind := .notSupported }]) ∧
  -- GET_SINK_CAP (R210)
  (∀ (s : State) (k : PortId) (id : BitVec 3) (extended : Bool), k.isModule = true → s.hearsNew k id = true →
    Answers (exec (.getSinkCap k id extended) s) fun t =>
    (t.port k).pd.tx = (s.port k).pd.tx ++ [{ kind := .notSupported }]) ∧
  -- GET_SINK_CAP (R210)
  (∀ (s : State) (id : BitVec 3), s.hearsNew port9 id = true → Answers (exec (.getSinkCap port9 id false) s) fun t =>
    (t.port port9).pd.tx = (s.port port9).pd.tx ++ [{ kind := .sinkCap, objs := [fixedPdo 5000 3000 ||| 0x22000000#32] }]) ∧
  -- GET_SOURCE_CAP_EXTENDED (R190)
  (∀ (s : State) (k : PortId) (id : BitVec 3), s.hearsNew k id = true → s.rev2 k = false →
    Answers (exec (.getSourceCapExtended k id) s) fun t =>
    (t.port k).pd.tx = (s.port k).pd.tx ++ [{ kind := .sourceCapExt, objs := bytesToWords (leBytes 2 0x2E7A ++ leBytes 2 0x9160 ++ leBytes 17 0 ++ [1#8, 0#8, BitVec.ofNat 8 (s.largestW k), BitVec.ofNat 8 (s.largestW k)]) }]) ∧
  -- GET_SOURCE_INFO (R190)
  (∀ (s : State) (k : PortId) (id : BitVec 3), s.hearsNew k id = true → Answers (exec (.getSourceInfo k id) s) fun t =>
    (t.port k).pd.tx.dropLast = (s.port k).pd.tx ∧ (t.port k).pd.tx.getLast?.map (·.kind) = some .sourceInfo) ∧
  -- GET_REVISION (R190)
  (∀ (s : State) (k : PortId) (id : BitVec 3), s.hearsNew k id = true → Answers (exec (.getRevision k id) s) fun t =>
    (t.port k).pd.tx = (s.port k).pd.tx ++ [{ kind := .revision, objs := [0x32110000#32] }] ∧
    (t.port k).pd.rxId = some id.toNat) ∧
  -- GET_MANUFACTURER_INFO (R190)
  (∀ (s : State) (k : PortId) (id : BitVec 3), s.hearsNew k id = true → s.rev2 k = false →
    Answers (exec (.getManufacturerInfo k id) s) fun t =>
    (t.port k).pd.tx = (s.port k).pd.tx ++ [{ kind := .manufacturerInfo, objs := bytesToWords (leBytes 2 0x2E7A ++ leBytes 2 0x9160 ++ ascii "Frener KQ9160") }]) ∧
  -- GET_STATUS (R190)
  (∀ (s : State) (k : PortId) (id : BitVec 3), s.hearsNew k id = true → s.rev2 k = false →
    Answers (exec (.getStatus k id) s) fun t => (t.port k).pd.tx.dropLast = (s.port k).pd.tx ∧
    (t.port k).pd.tx.getLast?.map (·.kind) = some .status ∧ (t.port k).pd.tripSeen = 0) ∧
  -- GET_PPS_STATUS (R205)
  (∀ (s : State) (k : PortId) (id : BitVec 3), s.hearsNew k id = true → s.get (F.PD_CONTRACT_TYPE k) ≠ 2 →
    Answers (exec (.getPpsStatus k id) s) fun t => (t.port k).pd.tx = (s.port k).pd.tx ++ [{ kind := .notSupported }]) ∧
  -- GET_PPS_STATUS (R205)
  (∀ (s : State) (k : PortId) (id : BitVec 3), s.hearsNew k id = true → k.isModule = true → s.contract k = true →
    s.get (F.PD_CONTRACT_TYPE k) = 2 → s.rev2 k = false → Answers (exec (.getPpsStatus k id) s) fun t =>
    (t.port k).pd.tx.dropLast = (s.port k).pd.tx ∧ (t.port k).pd.tx.getLast?.map (·.kind) = some .ppsStatus)

/-- An Alert in a contract makes Get_Status wait; Soft_Reset is answered Accept, begins the MessageIDs anew, empties the
queue and keeps contract and authentication; BIST at 5 V takes its mode; an unknown message is answered Not_Supported,
VCONN_Swap on a module Reject. On port 9 PR_Swap, VCONN_Swap and DR_Swap are accepted where the role allows it and
rejected otherwise. Source capabilities make port 9 request its operating object; Accept and PS_RDY lead to the sink
contract. The model's choices it rests on are log entries 24, 25, 30, 113, 129, 132. (R189, R209, R211, R210.) -/
def Obligations.ControlMessagesAndSwapsAct : Prop :=
  -- ALERT (R189)
  (∀ (s : State) (k : PortId) (id : BitVec 3), s.hearsNew k id = true → s.contract k = true → s.isSink k = false →
    Answers (exec (.alert k id) s) fun t => (t.port k).pd.held = (s.port k).pd.held ++ [{ kind := .getStatus }] ∧
    (t.port k).pd.ams = true) ∧
  -- SOFT_RESET (R189)
  (∀ (s : State) (k : PortId) (id : BitVec 3), s.hears k = true → Answers (exec (.softReset k id) s) fun t =>
    (t.port k).pd.tx = [{ kind := .accept }] ∧ (t.port k).pd.txId = 0 ∧ (t.port k).pd.rxId = some id.toNat ∧
    (t.port k).pd.held = [] ∧ (t.port k).pd.ams = false ∧ t.contract k = s.contract k ∧
    t.get (F.PD_STATUS_AUTH k) = s.get (F.PD_STATUS_AUTH k)) ∧
  -- BIST (R189)
  (∀ (s : State) (k : PortId) (id : BitVec 3) (mode : Nat), s.hearsNew k id = true → mode ≤ 1 → s.contractMv k = 5000 →
    Answers (exec (.bist k id mode) s) fun t => (t.port k).pd.bist = mode + 1) ∧
  -- NOT_SUPPORTED_MESSAGE (R189)
  (∀ (s : State) (k : PortId) (id : BitVec 3), s.hearsNew k id = true →
    Answers (exec (.notSupportedMessage k id) s) fun t =>
    (t.port k).pd.tx = (s.port k).pd.tx ++ [{ kind := .notSupported }]) ∧
  -- VCONN_SWAP_REJECT (R189)
  (∀ (s : State) (k : PortId) (id : BitVec 3), k.isModule = true → s.hearsNew k id = true →
    Answers (exec (.vconnSwapReject k id) s) fun t => (t.port k).pd.tx = (s.port k).pd.tx ++ [{ kind := .reject }]) ∧
  -- PR_SWAP (R209)
  (∀ (s : State) (id : BitVec 3), s.hearsNew port9 id = true → (s.isSink port9 = false ∨ s.mayBecomeSource = true) →
    Answers (exec (.prSwap id) s) fun t => (t.port port9).pd.tx = (s.port port9).pd.tx ++ [{ kind := .accept }] ∧
    (t.port port9).pd.await = .prSwap) ∧
  -- PR_SWAP (R209)
  (∀ (s : State) (id : BitVec 3), s.hearsNew port9 id = true → s.isSink port9 = true → s.mayBecomeSource = false →
    Answers (exec (.prSwap id) s) fun t => (t.port port9).pd.tx = (s.port port9).pd.tx ++ [{ kind := .reject }]) ∧
  -- VCONN_SWAP (R209)
  (∀ (s : State) (id : BitVec 3), s.hearsNew port9 id = true →
    (s.has (F.PD_STATUS_VCONN_SRC port9) = true ∨ (s.mayBecomeSource = true ∧ s.vconnMay port9 = true)) →
    Answers (exec (.vconnSwap id) s) fun t => (t.port port9).pd.tx = (s.port port9).pd.tx ++ [{ kind := .accept }] ∧
    (t.port port9).pd.await = .vconnSwap) ∧
  -- DR_SWAP (R211)
  (∀ (s : State) (id : BitVec 3), s.hearsNew port9 id = true → s.has (F.PD_STATUS_DATA_ROLE port9) = true →
    Answers (exec (.drSwap id) s) fun t => (t.port port9).pd.tx = (s.port port9).pd.tx ++ [{ kind := .accept }] ∧
    t.has (F.PD_STATUS_DATA_ROLE port9) = false ∧ (t.port port9).pd.drTries = 0) ∧
  -- DR_SWAP (R211)
  (∀ (s : State) (id : BitVec 3), s.hearsNew port9 id = true → s.has (F.PD_STATUS_DATA_ROLE port9) = false →
    Answers (exec (.drSwap id) s) fun t => (t.port port9).pd.tx = (s.port port9).pd.tx ++ [{ kind := .reject }]) ∧
  -- PORT9_SOURCE_CAPABILITIES (R210)
  (∀ (s : State) (id : BitVec 3) (pdos : List Word) (rev2 : Bool), s.hearsNew port9 id = true → s.isSink port9 = true →
    s.env.vinOk = true → Answers (exec (.port9SourceCapabilities id pdos rev2) s) fun t =>
    (t.port port9).pd.tx = (s.port port9).pd.tx ++ [{ kind := .request, objs := [0x1000C832#32] }] ∧
    (t.port port9).pd.await = .sinkAccept ∧ (t.port port9).pd.reqMa = 500) ∧
  -- PORT9_PS_RDY (R189)
  (∀ (s : State) (k : PortId) (id : BitVec 3) (msg : Nat), s.hearsNew k id = true → (s.port k).pd.await = .sinkAccept →
    msg = 0 → Answers (exec (.port9PsRdy k id msg) s) fun t => (t.port k).pd.await = .sinkPsRdy ∧
    t.get (F.PD_STATUS_PE k) = 3) ∧
  -- PORT9_PS_RDY (R189)
  (∀ (s : State) (id : BitVec 3), s.hearsNew port9 id = true → (s.port port9).pd.await = .sinkPsRdy →
    Answers (exec (.port9PsRdy port9 id 3) s) fun t => t.contract port9 = true ∧
    t.get (F.PD_CONTRACT_V_20MV port9) = 250 ∧ t.word (R.PD_RDO port9) = (s.port port9).pd.reqRdo ∧
    t.get (F.PD_STATUS_PE port9) = 4)

/-- EPR entry is acknowledged and succeeds where the port, its offer and the request allow it, or fails with its cause;
exit leaves EPR and awaits a request. Structured VDMs are ACKed, with the identity for Discover Identity, or NAKed by
command; an Attention is not answered. A DIGESTS answer begins the chain of its first slot; a part of a chain under a
trusted root is kept and the next asked for, one under another root in the last slot fails; a challenge answer sets
authentication passed or failed by its signature. A contact message under its header in its window keeps its values,
one not awaited is Not_Supported. Keep-alive is acknowledged and re-arms 900 ms. Hard Reset drops the contract and
waits 30 ms. A fifth message while the port engine does not run sets the queue's flag and is dropped. The model's
choices it rests on are log entries 24, 27, 31, 114, 115, 132. (R202, R204, R214, R207, R215, R203, R198, R218.) -/
def Obligations.EprVendorAndResetMessagesAct : Prop :=
  -- EPR_MODE_ENTER (R202)
  (∀ (s : State) (k : PortId) (id : BitVec 3), k.isModule = true → s.hearsNew k id = true → s.eprCapable k = true →
    ((s.port k).pd.caps.getD 0 0#32).getLsbD 23 = true → (s.port k).pd.eprCapRdo = true →
    Answers (exec (.eprModeEnter k id) s) fun t =>
    (t.port k).pd.tx = (s.port k).pd.tx ++ [{ kind := .eprModeEnterAck, objs := [0x02000000#32] }, { kind := .eprModeEnterOk, objs := [0x03000000#32] }]) ∧
  -- EPR_MODE_ENTER (R202)
  (∀ (s : State) (k : PortId) (id : BitVec 3), k.isModule = true → s.hearsNew k id = true → s.eprCapable k = false →
    Answers (exec (.eprModeEnter k id) s) fun t =>
    (t.port k).pd.tx = (s.port k).pd.tx ++ [{ kind := .eprModeEnterAck, objs := [0x02000000#32] }, { kind := .eprModeEnterFailed, objs := [eprModeDo 4 (s.eprFailCause k)] }]) ∧
  -- EPR_MODE_EXIT (R204)
  (∀ (s : State) (k : PortId) (id : BitVec 3), k.isModule = true → s.hearsNew k id = true →
    s.has (F.PD_STATUS_EPR k) = true → Answers (exec (.eprModeExit k id) s) fun t => t.has (F.PD_STATUS_EPR k) = false ∧
    t.armed (.keepAlive k) = false ∧ (t.port k).pd.await = .request) ∧
  -- STRUCTURED_VDM (R214)
  (∀ (s : State) (k : PortId) (id : BitVec 3) (svid cmd : Nat), s.hearsNew k id = true → cmd = 2 →
    Answers (exec (.structuredVdm k id svid cmd) s) fun t =>
    (t.port k).pd.tx = (s.port k).pd.tx ++ [{ kind := .vdmAck, objs := [vdmHeader svid 1 2, 0x2E7A0000#32] }]) ∧
  -- STRUCTURED_VDM (R214)
  (∀ (s : State) (k : PortId) (id : BitVec 3) (svid cmd : Nat), s.hearsNew k id = true → 3 ≤ cmd → cmd ≠ 6 →
    Answers (exec (.structuredVdm k id svid cmd) s) fun t =>
    (t.port k).pd.tx = (s.port k).pd.tx ++ [{ kind := .vdmNak, objs := [vdmHeader svid 2 cmd] }]) ∧
  -- STRUCTURED_VDM (R214)
  (∀ (s : State) (k : PortId) (id : BitVec 3) (svid cmd : Nat), s.hearsNew k id = true → cmd = 1 →
    Answers (exec (.structuredVdm k id svid cmd) s) fun t =>
    (t.port k).pd.tx = (s.port k).pd.tx ++ [{ kind := .vdmAck, objs := [vdmHeader svid 1 1, 0x802E7A#32, 0#32, BitVec.ofNat 32 (0x91600000 + s.get F.BOOT_VERS_FW_IFACE), BitVec.ofNat 32 k.num] }]) ∧
  -- STRUCTURED_VDM (R214)
  (∀ (s : State) (k : PortId) (id : BitVec 3) (svid cmd : Nat), s.hearsNew k id = true → cmd = 6 →
    Answers (exec (.structuredVdm k id svid cmd) s) fun t => (t.port k).pd.tx = (s.port k).pd.tx ∧ t.regs = s.regs) ∧
  -- SECURITY_RESPONSE (R207)
  (∀ (s : State) (k : PortId) (id : BitVec 3) (msg : List Byte) (slot : Nat) (rest : List Nat),
    s.hearsNew k id = true → (s.port k).pd.auth = .digests → msg.getD 1 0#8 = 0x01#8 →
    ((List.range 8).filter (fun i => (msg.getD 3 0#8).toNat.testBit i) = slot :: rest) →
    Answers (exec (.securityResponse k id msg) s) fun t => (t.port k).pd.auth = .certificate ∧
    (t.port k).pd.authSlots = slot :: rest ∧ (t.port k).pd.authChain = [] ∧
    (t.port k).pd.tx = (s.port k).pd.tx ++ [getCertificate slot 0 36] ∧ t.armed (.authResponse k) = false) ∧
  -- SECURITY_RESPONSE (R207)
  (∀ (s : State) (k : PortId) (id : BitVec 3) (msg : List Byte) (slot : Nat) (rest : List Nat),
    s.hearsNew k id = true → (s.port k).pd.auth = .certificate → (s.port k).pd.authSlots = slot :: rest →
    msg.getD 1 0#8 = 0x02#8 → (msg.getD 2 0#8).toNat = slot → 4 < msg.length → 36 ≤ (s.port k).pd.authChain.length →
    (s.trustedRoots k).contains (chainRoot ((s.port k).pd.authChain ++ msg.drop 4)) = true →
    ((s.port k).pd.authChain ++ msg.drop 4).length < chainLength ((s.port k).pd.authChain ++ msg.drop 4) →
    Answers (exec (.securityResponse k id msg) s) fun t =>
    (t.port k).pd.authChain = (s.port k).pd.authChain ++ msg.drop 4 ∧ (t.port k).pd.auth = .certificate ∧
    (t.port k).pd.tx = (s.port k).pd.tx ++ [getCertificate slot ((s.port k).pd.authChain ++ msg.drop 4).length (min
      256 (chainLength ((s.port k).pd.authChain ++ msg.drop 4) - ((s.port k).pd.authChain ++ msg.drop 4).length))]) ∧
  -- SECURITY_RESPONSE (R207)
  (∀ (s : State) (k : PortId) (id : BitVec 3) (msg : List Byte) (slot : Nat) (rest : List Nat),
    s.hearsNew k id = true → (s.port k).pd.auth = .certificate → (s.port k).pd.authSlots = slot :: rest →
    msg.getD 1 0#8 = 0x02#8 → (msg.getD 2 0#8).toNat = slot → 4 < msg.length → 36 ≤ (s.port k).pd.authChain.length →
    (s.trustedRoots k).contains (chainRoot ((s.port k).pd.authChain ++ msg.drop 4)) = false → rest = [] →
    Answers (exec (.securityResponse k id msg) s) fun t => t.get (F.PD_STATUS_AUTH k) = 3 ∧ (t.port k).pd.auth = .idle ∧
    t.has (G.PD_AUTH_FAIL k).bit = true) ∧
  -- SECURITY_RESPONSE (R207)
  (∀ (s : State) (k : PortId) (id : BitVec 3) (msg : List Byte) (slot : Nat), s.hearsNew k id = true →
    (s.port k).pd.auth = .challenge → (s.port k).pd.authSlots.head? = some slot → msg.getD 1 0#8 = 0x03#8 →
    (msg.getD 2 0#8).toNat = slot →
    challengeOk (s.port k).pd.authLeaf (s.port k).pd.authChain (challengeMsg slot (s.port k).pd.authNonce) msg = true →
    Answers (exec (.securityResponse k id msg) s) fun t => t.get (F.PD_STATUS_AUTH k) = 2 ∧ (t.port k).pd.auth = .idle ∧
    (t.port k).pd.capsDue = true ∧ t.armed (.authWhole k) = false) ∧
  -- SECURITY_RESPONSE (R207)
  (∀ (s : State) (k : PortId) (id : BitVec 3) (msg : List Byte) (slot : Nat), s.hearsNew k id = true →
    (s.port k).pd.auth = .challenge → (s.port k).pd.authSlots.head? = some slot → msg.getD 1 0#8 = 0x03#8 →
    challengeOk (s.port k).pd.authLeaf (s.port k).pd.authChain (challengeMsg slot (s.port k).pd.authNonce) msg = false →
    Answers (exec (.securityResponse k id msg) s) fun t => t.get (F.PD_STATUS_AUTH k) = 3 ∧ (t.port k).pd.auth = .idle ∧
    t.has (G.PD_AUTH_FAIL k).bit = true) ∧
  -- FRENER_VDM_RECEIVED (R215)
  (∀ (s : State) (k : PortId) (id : BitVec 3) (hdr vdo1 vdo2 : Word), s.hearsNew k id = true →
    (s.port k).pd.frWait ≠ 2 → Answers (exec (.frenerVdmReceived k id hdr vdo1 vdo2) s) fun t =>
    (t.port k).pd.tx = (s.port k).pd.tx ++ [{ kind := .notSupported }]) ∧
  -- FRENER_VDM_RECEIVED (R215)
  (∀ (s : State) (k : PortId) (id : BitVec 3) (hdr vdo1 vdo2 : Word), s.hearsNew k id = true → hdr = 0x2E7A2102#32 →
    (s.port k).pd.frWait = 2 → s.armed (.chkWindow k) = true → vdo1.toNat / 2 ^ 16 = (s.port k).pd.frTag →
    Answers (exec (.frenerVdmReceived k id hdr vdo1 vdo2) s) fun t =>
    (t.port k).chk.vin = some (vdo1.toNat % 2 ^ 16, vdo2.toNat / 2 ^ 16, vdo2.toNat / 2 ^ 8 % 2 ^ 8, vdo2.toNat % 2 ^ 8) ∧
    (t.port k).pd.frWait = 0) ∧
  -- EPR_KEEPALIVE (R203)
  (∀ (s : State) (k : PortId) (id : BitVec 3), s.pdReceives k = true → (s.port k).pd.rxId ≠ some id.toNat →
    s.has (F.PD_STATUS_EPR k) = true → Answers (exec (.eprKeepalive k id) s) fun t =>
    (t.port k).pd.acked = some id.toNat ∧ (t.port k).pd.tx = (s.port k).pd.tx ++ [{ kind := .eprKeepAliveAck }] ∧
    t.deadline (.keepAlive k) = some (s.now + msec 900)) ∧
  -- HARD_RESET_RECEIVED (R198)
  (∀ (s : State) (k : PortId), s.pdReceives k = true → s.isSink k = false →
    Answers (exec (.hardResetReceived k) s) fun t => (t.port k).pd.hr = .wait ∧ (t.port k).pd.noPd = false ∧
    t.contract k = false ∧ t.has (G.PD_HARD_RESET k).bit = true ∧ t.deadline (.psHardReset k) = some (s.now + msec 30)) ∧
  -- PD_QUEUE_FULL (R218)
  (∀ (s : State) (k : PortId), s.pdReceives k = true → s.policyRuns k = false → 4 ≤ (s.port k).pd.rxq.length →
    Answers (exec (.pdQueueFull k) s) fun t => t.has (G.PD_Q_FULL k).bit = true ∧ (t.port k).pd.rxq = (s.port k).pd.rxq)

/-- GoodCRC with the message's MessageID moves the counter on: for Accept it starts the 28 ms transition wait, for
capabilities the 30 ms response wait, for a chunk that is not the last the next chunk goes out. A missing GoodCRC is
retried within 1 ms, at most twice. Capabilities repeat every 150 ms up to 50 times, then no partner is assumed. A
sender-response timeout begins a Hard Reset; 30 ms later VBUS is off, 700 ms later it may be applied again, and at
vSafe5V capabilities go out. Error recovery ends with no orientation and no contract. The model's choices it rests on
are log entries 3, 23, 114, 132. (R196, R187, R200, R199, R198.) -/
def Obligations.MessageTimersAct : Prop :=
  -- GOODCRC_RECEIVED (R196)
  (∀ (s : State) (k : PortId) (id : BitVec 3) (m : PdMsg) (rest : List PdMsg), (s.port k).pd.tx = m :: rest →
    (s.port k).pd.idOf m = id.toNat → m.kind = .accept → (s.port k).pd.await = .srcTransition →
    Answers (exec (.goodcrcReceived k id) s) fun t => (t.port k).pd.tx = rest ∧
    (t.port k).pd.txId = ((s.port k).pd.txId + 1) % 8 ∧ t.deadline (.srcTransition k) = some (s.now + msec 28)) ∧
  -- GOODCRC_RECEIVED (R196)
  (∀ (s : State) (k : PortId) (id : BitVec 3) (m : PdMsg) (rest : List PdMsg), (s.port k).pd.tx = m :: rest →
    (s.port k).pd.idOf m = id.toNat → m.kind = .sourceCap → s.isSink k = false →
    Answers (exec (.goodcrcReceived k id) s) fun t => (t.port k).pd.tx = rest ∧ (t.port k).pd.capsCount = 0 ∧
    t.armed (.sendCaps k) = false ∧ t.deadline (.senderResponse k) = some (s.now + msec 30)) ∧
  -- GOODCRC_RECEIVED (R196)
  (∀ (s : State) (k : PortId) (id : BitVec 3) (m : PdMsg) (rest : List PdMsg), (s.port k).pd.tx = m :: rest →
    (s.port k).pd.idOf m = id.toNat → m.lastChunk = false → Answers (exec (.goodcrcReceived k id) s) fun t =>
    (t.port k).pd.tx = { m with chunk := m.chunk + 1 } :: rest ∧ (t.port k).pd.txId = ((s.port k).pd.txId + 1) % 8 ∧
    t.deadline (.goodCrc k) = some (s.now + msec 1) ∧ SameWords [] s t) ∧
  -- GOODCRC_WAIT_TIMEOUT (R187)
  (∀ (s : State) (k : PortId), s.armed (.goodCrc k) = true → (s.port k).pd.tx ≠ [] → (s.port k).pd.retries < 2 →
    Answers (exec (.goodcrcWaitTimeout k) s) fun t => (t.port k).pd.retries = (s.port k).pd.retries + 1 ∧
    (t.port k).pd.tx = (s.port k).pd.tx ∧ t.deadline (.goodCrc k) = some (t.now + msec 1)) ∧
  -- SOURCE_CAP_RESEND (R200)
  (∀ (s : State) (k : PortId), s.armed (.sendCaps k) = true → s.contract k = false → (s.port k).pd.reloading = false →
    (s.port k).pd.capsCount < 50 → Answers (exec (.sourceCapResend k) s) fun t => (t.port k).pd.tx = [s.capsMsg k] ∧
    (t.port k).pd.capsCount = (s.port k).pd.capsCount + 1 ∧ t.deadline (.sendCaps k) = some (t.now + msec 150)) ∧
  -- SOURCE_CAP_RESEND (R200)
  (∀ (s : State) (k : PortId), s.armed (.sendCaps k) = true → s.contract k = false → (s.port k).pd.reloading = false →
    50 ≤ (s.port k).pd.capsCount → Answers (exec (.sourceCapResend k) s) fun t => (t.port k).pd.noPd = true ∧
    (t.port k).pd.tx = [] ∧ t.get (F.PD_STATUS_PE k) = 6) ∧
  -- SENDER_RESPONSE_TIMEOUT (R199)
  (∀ (s : State) (k : PortId), s.armed (.senderResponse k) = true → s.discovers k = false →
    (s.port k).pd.await = .request → (s.port k).pd.hrCount < 2 → s.isSink k = false →
    Answers (exec (.senderResponseTimeout k) s) fun t => (t.port k).pd.hr = .wait ∧
    (t.port k).pd.hrCount = (s.port k).pd.hrCount + 1 ∧ t.has (G.PD_HARD_RESET k).bit = true ∧
    t.deadline (.psHardReset k) = some (t.now + msec 30)) ∧
  -- HARD_RESET_PS_ELAPSED (R198)
  (∀ (s : State) (k : PortId), s.armed (.psHardReset k) = true → Answers (exec (.hardResetPsElapsed k) s) fun t =>
    (t.port k).pd.hr = .recover ∧ t.deadline (.srcRecover k) = some (t.now + msec 700) ∧
    (k.isModule = true → (t.port k).cnv.run = false) ∧ t.switchDriven k = false) ∧
  -- SRC_RECOVER_ELAPSED (R198)
  (∀ (s : State) (k : PortId), s.armed (.srcRecover k) = true → Answers (exec (.srcRecoverElapsed k) s) fun t =>
    (t.port k).pd.hr = .reapply ∧ t.armed (.srcRecover k) = false) ∧
  -- VBUS_VSAFE5V_REACHED (R198)
  (∀ (s : State) (k : PortId), s.switchClosed k = true → s.astate k = 7 → s.contract k = false →
    (s.get (F.PD_STATUS_PE k) = 0 ∨ s.get (F.PD_STATUS_PE k) = 5) → (s.port k).pd.reloading = false →
    (s.port k).pd.await ≠ .prSwap → (s.port k).att.dcp = false → (s.port k).pd.noPd = false →
    s.has (F.ATT_STATUS_VCONN_ON k) = false → Answers (exec (.vbusVsafe5vReached k) s) fun t =>
    (t.port k).pd.hr = .none ∧ (t.port k).pd.tx = (s.port k).pd.tx ++ [s.capsMsg k] ∧ (t.port k).pd.capsCount = 1 ∧
    t.get (F.PD_STATUS_PE k) = 1 ∧ t.deadline (.sendCaps k) = some (s.now + msec 150)) ∧
  -- ERROR_RECOVERY_ELAPSED (R199)
  (∀ (s : State) (k : PortId), s.armed (.errorRecovery k) = true → Answers (exec (.errorRecoveryElapsed k) s) fun t =>
    t.get (F.ATT_STATUS_ORIENT k) = 0 ∧ t.contract k = false ∧ t.armed (.errorRecovery k) = false)

/-- A transition starts the converter towards the requested voltage, and its end makes the contract, stores it and sends
PS_RDY; its timeout drops the contract with a contained fault. New capabilities are queued behind the 18 ms SinkTx
wait, an upward offer once a second; the wait's end sends what was held. EPR exit is sent where the port no longer
allows EPR. Keep-alive and PPS timeouts begin a Hard Reset. DR_Swap is tried again, outside a reload. The model's
choices it rests on are log entries 3, 23, 29. (R196, R244, R194, R197, R204, R203, R205, R211.) -/
def Obligations.TransitionsAndOffersAct : Prop :=
  -- TRANSITION_START (R196)
  (∀ (s : State) (k : PortId), s.armed (.srcTransition k) = true → k.isModule = true →
    (s.port k).pd.await = .srcTransition → (s.port k).pd.reqKeep = false →
    (s.port k).pd.reqMv ≤ orDefault 48000 (s.get (F.CNV_MAX_VMAX k)) → Answers (exec (.transitionStart k) s) fun t =>
    (t.port k).pd.await = .transition ∧ (t.port k).cnv.target = (s.port k).pd.reqMv ∧ (t.port k).cnv.rampOpen = true ∧
    t.armed (.transition k) = true) ∧
  -- TRANSITION_END (R244)
  (∀ (s : State) (k : PortId), (s.port k).pd.await = .transition → 2 ≤ (s.port k).cnv.inRange →
    Answers (exec (.transitionEnd k) s) fun t => t.contract k = true ∧
    t.get (F.PD_CONTRACT_V_20MV k) = (s.port k).pd.reqMv / 20 % 2 ^ (F.PD_CONTRACT_V_20MV k).width ∧
    t.word (R.PD_RDO k) = (s.port k).pd.reqRdo ∧ (t.port k).pd.tx = (s.port k).pd.tx ++ [{ kind := .psRdy }] ∧
    t.armed (.transition k) = false) ∧
  -- TRANSITION_TIMEOUT (R196)
  (∀ (s : State) (k : PortId), s.armed (.transition k) = true → (s.port k).pd.await = .transition →
    (s.port k).pd.hrCount < 2 → s.isSink k = false → s.calm k.num = true → s.portPresent k = true →
    Answers (exec (.transitionTimeout k) s) fun t => (t.port k).pd.hr = .wait ∧ t.contract k = false ∧
    t.has G.FLT_CONT.bit = true) ∧
  -- CAPABILITIES_UPDATE (R194)
  (∀ (s : State) (k : PortId), s.mayOffer k = true → s.overCeiling k = false → (s.port k).pd.ams = false →
    (s.port k).pd.capsDue = true → s.contract k = true → Answers (exec (.capabilitiesUpdate k) s) fun t =>
    (t.port k).pd.held = (s.port k).pd.held ++ [s.capsMsg k] ∧ t.deadline (.sinkTx k) = some (s.now + msec 18)) ∧
  -- UPWARD_OFFER_TIMER (R194)
  (∀ (s : State) (k : PortId), s.armed (.upwardOffer k) = true → s.mayOffer k = true → s.overCeiling k = false →
    (s.port k).pd.ams = false → (s.port k).pd.capsDue = false → s.upward k = true → s.contract k = true →
    Answers (exec (.upwardOfferTimer k) s) fun t => (t.port k).pd.held = (s.port k).pd.held ++ [s.capsMsg k] ∧
    t.deadline (.upwardOffer k) = some (t.now + secs 1)) ∧
  -- SINK_TX_ELAPSED (R197)
  (∀ (s : State) (k : PortId), s.armed (.sinkTx k) = true → Answers (exec (.sinkTxElapsed k) s) fun t =>
    (t.port k).pd.tx = (s.port k).pd.tx ++ (s.port k).pd.held ∧ (t.port k).pd.held = []) ∧
  -- EPR_EXIT_SEND (R204)
  (∀ (s : State) (k : PortId), s.has (F.PD_STATUS_EPR k) = true → s.eprCapable k = false →
    (s.port k).pd.reloading = false → s.switchClosed k = true →
    (((s.port k).pd.tx.any fun m => decide (m.kind = .eprModeExit)) = false) →
    Answers (exec (.eprExitSend k) s) fun t =>
    (t.port k).pd.tx = (s.port k).pd.tx ++ [{ kind := .eprModeExit, objs := [0x05000000#32] }]) ∧
  -- EPR_KEEPALIVE_TIMEOUT (R203)
  (∀ (s : State) (k : PortId), s.armed (.keepAlive k) = true → (s.port k).pd.hrCount < 2 → s.isSink k = false →
    Answers (exec (.eprKeepaliveTimeout k) s) fun t => (t.port k).pd.hr = .wait ∧ t.contract k = false ∧
    t.has (F.PD_STATUS_EPR k) = false ∧ t.deadline (.psHardReset k) = some (t.now + msec 30)) ∧
  -- PPS_TIMEOUT (R205)
  (∀ (s : State) (k : PortId), s.armed (.ppsTimeout k) = true → (s.port k).pd.hrCount < 2 → s.isSink k = false →
    Answers (exec (.ppsTimeout k) s) fun t => (t.port k).pd.hr = .wait ∧ t.contract k = false ∧
    t.deadline (.psHardReset k) = some (t.now + msec 30)) ∧
  -- DR_SWAP_RETRY (R211)
  (∀ (s : State), (s.port port9).pd.reloading = false → s.get (F.ATT_STATUS_RP port9) = 3 → s.armed .drSwap = true →
    s.contract port9 = true → s.has (F.PD_STATUS_DATA_ROLE port9) = true → s.isSink port9 = true →
    Answers (exec (.drSwapRetry) s) fun t => (t.port port9).pd.drTries = (s.port port9).pd.drTries + 1 ∧
    (t.port port9).pd.await = .drSwap ∧ (t.port port9).pd.tx = (s.port port9).pd.tx ++ [{ kind := .drSwap }])

/-- Cable discovery asks once VCONN is stable and counts its tries; an answer without identity is asked again, up to three
times; a 5 A cable's identity is stored, with 50 V where EPR. Authentication starts where the gate lies below the
ceiling and runs at most 3 s; its timeout is a failure with its flag. The contact identity is sent once, its answer
stores type, capability and serial, and its timeout leaves no capability. The model's choices it rests on are log
entries 3, 26, 27, 115, 132. (R213, R207, R216, R215.) -/
def Obligations.CableAuthAndContactTimersAct : Prop :=
  -- CABLE_DISCOVERY (R213)
  (∀ (s : State) (k : PortId), (s.port k).pd.reloading = false → s.armed (.vconnStable k) = true →
    s.has (F.ATT_STATUS_VCONN_ON k) = true → (s.port k).pd.cableDone = false → s.switchDriven k = true →
    Answers (exec (.cableDiscovery k) s) fun t => (t.port k).pd.cableTries = (s.port k).pd.cableTries + 1 ∧
    (t.port k).pd.tx = (s.port k).pd.tx ++ [{ kind := .discoverIdentity }]) ∧
  -- CABLE_IDENTITY_RESPONSE (R213)
  (∀ (s : State) (k : PortId) (id : BitVec 3) (cur vmax : Nat) (epr : Bool), s.pdReceives k = true →
    s.policyRuns k = true → (s.port k).pd.rxIdP ≠ some id.toNat → s.discovers k = true →
    s.has (F.ATT_STATUS_VCONN_ON k) = true → (s.port k).pd.cableTries < 3 →
    Answers (exec (.cableIdentityResponse k id false cur vmax epr) s) fun t =>
    (t.port k).pd.cableTries = (s.port k).pd.cableTries + 1 ∧
    (t.port k).pd.tx = (s.port k).pd.tx ++ [{ kind := .discoverIdentity }] ∧ (t.port k).pd.rxIdP = some id.toNat ∧
    SameWords [] s t) ∧
  -- CABLE_IDENTITY_RESPONSE (R213)
  (∀ (s : State) (k : PortId) (id : BitVec 3) (cur vmax : Nat) (epr : Bool), s.pdReceives k = true →
    s.policyRuns k = true → (s.port k).pd.rxIdP ≠ some id.toNat → s.discovers k = true → s.get (F.PD_STATUS_PE k) = 1 →
    s.has (F.ATT_STATUS_VCONN_ON k) = true → cur = 2 → vmax = 3 →
    Answers (exec (.cableIdentityResponse k id true cur vmax epr) s) fun t => t.has (F.ATT_CABLE_EMARKED k) = true ∧
    t.get (F.ATT_CABLE_CUR k) = 2 ∧ t.has (F.ATT_CABLE_EPR_OK k) = epr ∧
    t.get (F.ATT_CABLE_VMAX k) = (if epr then 3 else 0) ∧ (t.port k).pd.cableDone = true ∧
    (t.port k).pd.tx = [t.capsMsg k]) ∧
  -- AUTH_START (R207)
  (∀ (s : State) (k : PortId) (g : Nat), s.gateMw? k = some g → s.contract k = true → g < s.ceilMw k →
    s.get (F.PD_STATUS_AUTH k) = 0 → s.amsRuns k = false → (s.port k).pd.reloading = false → s.trustedRoots k ≠ [] →
    s.rev2 k = false → Answers (exec (.authStart k) s) fun t => t.get (F.PD_STATUS_AUTH k) = 1 ∧
    (t.port k).pd.auth = .digests ∧ t.deadline (.authWhole k) = some (s.now + secs 3)) ∧
  -- AUTH_TIMEOUT (R207)
  (∀ (s : State) (k : PortId), s.armed (.authWhole k) = true → s.armed (.authResponse k) = false →
    Answers (exec (.authTimeout k) s) fun t => t.get (F.PD_STATUS_AUTH k) = 3 ∧ (t.port k).pd.auth = .idle ∧
    t.has (G.PD_AUTH_FAIL k).bit = true ∧ t.armed (.authWhole k) = false) ∧
  -- FRENER_IDENT (R216)
  (∀ (s : State) (k : PortId) (id : BitVec 3), s.frenerOn k = true → (s.port k).pd.frIdentSent = false →
    s.amsRuns k = false → (s.port k).pd.reloading = false → s.isSink k = false →
    Answers (exec (.frenerIdent k id none) s) fun t => (t.port k).pd.frIdentSent = true ∧ (t.port k).pd.frWait = 1 ∧
    (t.port k).pd.held = (s.port k).pd.held ++ [{ kind := .frIdent, objs := [0x2E7A2001#32] }]) ∧
  -- FRENER_IDENT (R216)
  (∀ (s : State) (k : PortId) (id : BitVec 3) (v : Word × Word), s.pdReceives k = true → s.policyRuns k = true →
    (s.port k).pd.rxId ≠ some id.toNat → (s.port k).pd.frWait = 1 →
    Answers (exec (.frenerIdent k id (some v)) s) fun t => (t.port k).pd.frType = v.1.toNat / 2 ^ 16 ∧
    (t.port k).pd.frCap = v.1.toNat / 2 ^ 8 % 2 ^ 8 ∧ (t.port k).pd.frSerial = v.2.toNat ∧ (t.port k).pd.frWait = 0) ∧
  -- FRENER_VDM_TIMEOUT (R215)
  (∀ (s : State) (k : PortId), s.armed (.frener k) = true → (s.port k).pd.frWait ≠ 2 →
    Answers (exec (.frenerVdmTimeout k) s) fun t => (t.port k).pd.frCap = 0 ∧ (t.port k).pd.frWait = 0 ∧
    t.armed (.frener k) = false)

/-- A switching period stores the mode and counts low bootstrap and bad nodes; the fourth low bootstrap trips the drive
with its flag. The outer loop of a stopped converter takes the limit, shows mode 0 and measures only, of a running one
slews its position unless in current limit. Lost headroom sets its bit, flag and one warning. Contact readings are put
off 1 s at low current and otherwise open a 2 ms window; a disturbed window is read again in 1 s; a steady one without
a reference becomes the reference, one with a reference gives the receptacle-only resistance as LAST. The allocator
takes over VIN and what is available and, out of Autumn, grants each port what its two passes leave; the emergency
lever sets its flag and its VIN where the limits exceed what is available, and with no run due lowers the limits,
ceilings and reasons of the ports it lowers. The model's choices it rests on are log entries 31, 33, 38, 112, 130.
(R231, R236, R246, R247, R248, R301, R303.) -/
def Obligations.ConvertersAndBudgetAct : Prop :=
  -- SWITCHING_PERIOD (R231)
  (∀ (s : State) (k : PortId) (bootOk nodeOk : Bool), s.mayswitch k = true →
    (bootOk = true ∨ (s.port k).cnv.bootLow < 3) → (nodeOk = true ∨ (s.port k).cnv.nodeBad < 7) → s.reverses k = false →
    Answers (exec (.switchingPeriod k bootOk nodeOk) s) fun t =>
    t.get (F.CNV_STATUS_MODE k) = modeOf (s.port k).cnv.mode s.env.vinMv (s.vtgt k) % 2 ^ (F.CNV_STATUS_MODE k).width ∧
    (t.port k).cnv.bootLow = (if bootOk then 0 else (s.port k).cnv.bootLow + 1) ∧
    (t.port k).cnv.nodeBad = (if nodeOk then 0 else (s.port k).cnv.nodeBad + 1) ∧ SameWords [R.CNV_STATUS k] s t) ∧
  -- SWITCHING_PERIOD (R231)
  (∀ (s : State) (k : PortId) (bootOk nodeOk : Bool), s.mayswitch k = true → bootOk = false →
    3 ≤ (s.port k).cnv.bootLow → s.calm k.num = true → Answers (exec (.switchingPeriod k bootOk nodeOk) s) fun t =>
    t.has (G.CNV_DRIVE k).bit = true ∧ t.switchDriven k = false ∧ (t.port k).cnv.run = false) ∧
  -- OUTER_LOOP_UPDATE (R236)
  (∀ (s : State) (k : PortId) (db irip : Nat) (atMax : Bool), k.isModule = true →
    ((s.atUpdate k).set (F.CNV_ILIM_EFF k) (s.ilimOf k)).mayswitch k = false →
    Answers (exec (.outerLoopUpdate k db irip atMax) s) fun t =>
    t.get (F.CNV_ILIM_EFF k) = s.ilimOf k % 2 ^ (F.CNV_ILIM_EFF k).width ∧ t.get (F.CNV_STATUS_MODE k) = 0 ∧
    t.readReg (R.CNV_MEAS k) = BitVec.ofNat 32 (min 0xFFFF (t.portMa k) * 2 ^ 16 + min 0xFFFF (t.vrcp k)) ∧
    (t.port k).cnv.position = (s.port k).cnv.position ∧ (t.port k).cnv.integ = (s.port k).cnv.integ) ∧
  -- OUTER_LOOP_UPDATE (R236)
  (∀ (s : State) (k : PortId) (db irip : Nat) (atMax : Bool),
    ((s.atUpdate k).set (F.CNV_ILIM_EFF k) (s.ilimOf k)).mayswitch k = true →
    (s.port k).cnv.position + s.slew k ≤ 10 * (s.port k).cnv.target →
    Answers (exec (.outerLoopUpdate k db irip atMax) s) fun t =>
    (t.port k).cnv.position = (if t.has (F.CNV_STATUS_CLIM k) then (s.port k).cnv.position else (s.port
      k).cnv.position + s.slew k) ∧
    (t.port k).cnv.target = (s.port k).cnv.target) ∧
  -- HEADROOM_LOST (R246)
  (∀ (s : State) (k : PortId), s.armed (.headroom k) = true → Answers (exec (.headroomLost k) s) fun t =>
    t.has (F.CNV_STATUS_HEADROOM k) = true ∧ t.has (G.CNV_HEADROOM k).bit = true ∧ (t.port k).cnv.headWarned = true) ∧
  -- CHK_READING_DUE (R247)
  (∀ (s : State) (k : PortId), s.armed (.chkDue k) = true → s.contract k = true → s.unitOff 5 = false →
    s.portPresent k = true →
    ((s.port k).pd.reloading = true ∨ s.portMa k < 100 * orDefault 10 (s.get (F.CHK_CFG_IMIN k))) →
    Answers (exec (.chkReadingDue k) s) fun t => t.deadline (.chkDue k) = some (t.now + secs 1)) ∧
  -- CHK_READING_DUE (R247)
  (∀ (s : State) (k : PortId), s.armed (.chkDue k) = true → s.contract k = true → s.unitOff 5 = false →
    s.portPresent k = true → (s.port k).pd.reloading = false →
    100 * orDefault 10 (s.get (F.CHK_CFG_IMIN k)) ≤ s.portMa k → s.frenerOn k = false →
    Answers (exec (.chkReadingDue k) s) fun t => (t.port k).chk.winOpen = true ∧ (t.port k).chk.partner = false ∧
    t.deadline (.chkWindow k) = some (t.now + msec 2) ∧ t.deadline (.chkDue k) = some (t.now + secs 60)) ∧
  -- CHK_WINDOW_END (R248)
  (∀ (s : State) (k : PortId), s.armed (.chkWindow k) = true → (s.port k).chk.winOpen = true →
    (s.port k).pd.frWait ≠ 2 → (s.port k).chk.disturbed = true → Answers (exec (.chkWindowEnd k) s) fun t =>
    (t.port k).chk.winOpen = false ∧ t.deadline (.chkDue k) = some (t.now + secs 1)) ∧
  -- CHK_WINDOW_END (R248)
  (∀ (s : State) (k : PortId) (r : Reading), s.armed (.chkWindow k) = true → (s.port k).chk.winOpen = true →
    (s.port k).pd.frWait ≠ 2 → (s.port k).chk.disturbed = false → (s.port k).chk.mismatch = false →
    (s.port k).chk.vin = none → (s.port k).chk.refR = none → s.reading? k = some r → r.steady = true →
    Answers (exec (.chkWindowEnd k) s) fun t => (t.port k).chk.winOpen = false ∧
    (t.port k).chk.refR = some (r.vbs - r.vcs + r.gnd, r.ma) ∧ t.deadline (.chkDue k) = s.deadline (.chkDue k) ∧
    t.deadline (.chkWindow k) = none ∧ SameWords [] s t) ∧
  -- CHK_WINDOW_END (R248)
  (∀ (s : State) (k : PortId) (r : Reading) (d0 : Int) (i0 : Nat), s.armed (.chkWindow k) = true →
    (s.port k).chk.winOpen = true → (s.port k).pd.frWait ≠ 2 → (s.port k).chk.disturbed = false →
    (s.port k).chk.mismatch = false → (s.port k).chk.vin = none → (s.port k).chk.refR = some (d0, i0) →
    (s.port k).chk.last3.length < 2 → s.reading? k = some r → r.steady = true →
    100 * orDefault 10 (s.get (F.CHK_CFG_DI k)) ≤ ((r.ma : Int) - (i0 : Int)).natAbs →
    400 ≤ ((r.ma : Int) - (i0 : Int)).natAbs → Answers (exec (.chkWindowEnd k) s) fun t =>
    (t.port k).chk.winOpen = false ∧
    t.get (F.CHK_STATUS_LAST k) = min 0xFFFE (((r.vbs - r.vcs + r.gnd - d0) * 1000).tdiv ((r.ma : Int) - (i0 :
      Int))).toNat ∧
    t.get (F.CHK_STATUS_METHOD k) = 2 ∧ (t.port k).chk.last3.length = (s.port k).chk.last3.length + 1 ∧
    SameWords [R.CHK_STATUS k] s t) ∧
  -- ALLOCATOR_RUN (R301)
  (∀ (s : State), s.budgetRuns = true → s.bus.restorePrio = none → s.bud.vinMins = [] →
    Answers (exec (.allocatorRun) s) fun t =>
    t.get F.BUD_VIN_VIN_RUN = s.get F.BUS_VIN_VIN_MV % 2 ^ F.BUD_VIN_VIN_RUN.width ∧
    t.get F.BUD_STATUS_AVAIL = s.pAvail (s.get F.BUS_VIN_VIN_MV) / 100 % 2 ^ F.BUD_STATUS_AVAIL.width ∧
    t.bud.vinMins = [(0, 0)]) ∧
  -- ALLOCATOR_RUN (R301)
  (∀ (s : State) (k : PortId) (vin : Nat), s.budgetRuns = true → s.isIn .autumn = false → s.bus.restorePrio = none →
    k ≠ port9 → vin = s.vinRun → Answers (exec (.allocatorRun) s) fun t =>
    t.get (F.BUD_GRANT_CEIL k) = (s.pass2 vin s.prioOrder (s.pass1 vin s.prioOrder)).of k / 100 % 2 ^
      (F.BUD_GRANT_CEIL k).width ∧
    t.get F.BUD_VIN_VIN_RUN = vin % 2 ^ F.BUD_VIN_VIN_RUN.width) ∧
  -- EMERGENCY_LEVER (R303)
  (∀ (s : State) (runDue : Bool), s.budgetRuns = true →
    s.pAvail (s.get F.BUS_VIN_VIN_MV) < (modulePorts.map s.limitMw).foldl (· + ·) 0 →
    Answers (exec (.emergencyLever runDue) s) fun t => t.has G.BUD_EMERGENCY.bit = true ∧
    t.get F.BUD_VIN_VIN_EMG = s.get F.BUS_VIN_VIN_MV % 2 ^ F.BUD_VIN_VIN_EMG.width ∧ t.bud.emgWarned = true) ∧
  -- EMERGENCY_LEVER (R303)
  (∀ (s : State) (k : PortId), s.budgetRuns = true →
    s.pAvail (s.get F.BUS_VIN_VIN_MV) < (modulePorts.map s.limitMw).foldl (· + ·) 0 → k ≠ port9 →
    s.leverPass.of k < s.limitMw k → Answers (exec (.emergencyLever false) s) fun t =>
    t.get (F.CNV_ILIM_ALLOC k) = s.leverPass.of k * 1000 / s.contractMv k % 2 ^ (F.CNV_ILIM_ALLOC k).width ∧
    t.get (F.BUD_GRANT_CEIL k) = s.leverPass.of k / 100 % 2 ^ (F.BUD_GRANT_CEIL k).width ∧
    t.get (F.BUD_GRANT_REASON k) = 6 ∧ t.get F.BUD_STATUS_GRANTED = t.grantSum % 2 ^ F.BUD_STATUS_GRANTED.width)

/-- A passed pre-close test starts closing with its limit, one in which VCSNS rose finds the switch shorted (fatal 0xCk3A,
LAST_CAUSE kept); foldback sets the gate by the product of voltage and current against its limit; a closed switch is
ON with VBUS_ON and the retry clear in 30 s. A closing timeout, a voltage beyond an armed short arm's threshold and a
full accumulator open the switch with causes 0x33, 0x30 or 0x31, and 0x32, and set the trip flag. Below the curve the
accumulator cools and no word but the status changes. The model's choices it rests on are log entries 3, 34, 131.
(R270, R271, R272, R274, R279.) -/
def Obligations.PortSwitchClosesAndTrips : Prop :=
  -- PRECLOSE_TEST_ELAPSED (R270)
  (∀ (s : State) (k : PortId) (rose : Bool), s.armed (.preClose k) = true → s.get (F.BRK_STATUS_STATE k) = 1 →
    rose = false → Answers (exec (.precloseTestElapsed k rose) s) fun t => t.get (F.BRK_STATUS_STATE k) = 2 ∧
    (t.port k).brk.closeAt = t.now ∧ (t.port k).brk.gate = 0 ∧
    t.deadline (.closing k) = some (t.now + msec (orDefault 10 (s.get (F.BRK_SW_TSOA k))))) ∧
  -- PRECLOSE_TEST_ELAPSED (R270)
  (∀ (s : State) (k : PortId) (rose : Bool), s.armed (.preClose k) = true → s.get (F.BRK_STATUS_STATE k) = 1 →
    rose = true → s.portPresent k = true → s.isAny [.spring, .summer] = true → s.upd.paused = false →
    Answers (exec (.precloseTestElapsed k rose) s) fun t => t.switchDriven k = false ∧ t.isIn .winter = true ∧
    t.has G.FLT_FATAL.bit = true ∧
    t.get F.FLT_FATAL_CODE = (if s.get F.FLT_FATAL_CODE = 0 then 0xC03A + 0x100 * k.num else s.get F.FLT_FATAL_CODE) ∧
    t.get (F.BRK_STATUS_LAST_CAUSE k) = s.get (F.BRK_STATUS_LAST_CAUSE k)) ∧
  -- FOLDBACK_STEP (R271)
  (∀ (s : State) (k : PortId) (mv ma : Nat), s.get (F.BRK_STATUS_STATE k) = 2 →
    Answers (exec (.foldbackStep k mv ma) s) fun t =>
    (t.port k).brk.gate = (if 5 * (1000000 * orDefault 10 (s.get (F.BRK_SW_PFB k))) < 4 * (mv * ma) then 2 else if
      1000000 * orDefault 10 (s.get (F.BRK_SW_PFB k)) < mv * ma then 1 else 0) ∧
    SameWords [] s t) ∧
  -- SWITCH_CLOSED (R270)
  (∀ (s : State) (k : PortId), s.get (F.BRK_STATUS_STATE k) = 2 → Answers (exec (.switchClosed k) s) fun t =>
    t.get (F.BRK_STATUS_STATE k) = 3 ∧ t.has (F.ATT_STATUS_VBUS_ON k) = true ∧ (t.port k).brk.dropArmed = k.isModule ∧
    t.armed (.closing k) = false ∧ t.deadline (.retryClear k) = some (s.now + secs 30) ∧
    (k.isModule = false → t.pins.p9swg = true) ∧ SameWords [R.BRK_STATUS k, R.ATT_STATUS k] s t) ∧
  -- CLOSING_TIMEOUT (R272)
  (∀ (s : State) (k : PortId), s.armed (.closing k) = true → s.get (F.BRK_STATUS_STATE k) = 2 → s.calm k.num = true →
    Answers (exec (.closingTimeout k) s) fun t => t.get (F.BRK_STATUS_LAST_CAUSE k) = 0x33 ∧ t.switchDriven k = false ∧
    t.has (G.BRK_TRIP k).bit = true) ∧
  -- SHORT_DETECTED (R274)
  (∀ (s : State) (k : PortId) (arm uv : Nat), s.armArmed k arm = true → s.shortTrips k arm uv = true →
    s.portPresent k = true → s.calm k.num = true → Answers (exec (.shortDetected k arm uv) s) fun t =>
    t.get (F.BRK_STATUS_LAST_CAUSE k) = (if arm = 1 then 0x31 else 0x30) ∧ t.switchDriven k = false ∧
    t.has (G.BRK_TRIP k).bit = true ∧ (k.isModule = true → (t.port k).cnv.run = false)) ∧
  -- BREAKER_STEP (R279)
  (∀ (s : State) (k : PortId) (ma dtNs : Nat), (s.get (F.BRK_STATUS_STATE k) = 2 ∨ s.get (F.BRK_STATUS_STATE k) = 3) →
    s.get (F.BRK_CFG_NPTS k) ≠ 0 → ma * 64 / max 1 (s.port k).brk.iRef < s.curveR k 0 → (s.port k).brk.acc < 2 ^ 32 →
    Answers (exec (.breakerStep k ma dtNs) s) fun t =>
    (t.port k).brk.acc = (s.port k).brk.acc - dtNs * 2 ^ 32 / (orDefault 60 (s.get (F.BRK_CFG_COOL k)) * 1000000000) ∧
    t.get (F.BRK_STATUS_ACC k) = (t.port k).brk.acc / 2 ^ 24 ∧ SameWords [R.BRK_STATUS k] s t) ∧
  -- BREAKER_STEP (R279)
  (∀ (s : State) (k : PortId) (ma dtNs : Nat), (s.get (F.BRK_STATUS_STATE k) = 2 ∨ s.get (F.BRK_STATUS_STATE k) = 3) →
    s.get (F.BRK_CFG_NPTS k) ≠ 0 → 2 ^ 32 ≤ s.accStep k (ma * 64 / max 1 (s.port k).brk.iRef) dtNs →
    s.calm k.num = true → Answers (exec (.breakerStep k ma dtNs) s) fun t => t.get (F.BRK_STATUS_LAST_CAUSE k) = 0x32 ∧
    t.switchDriven k = false ∧ (t.port k).brk.acc = 0 ∧ t.has (G.BRK_TRIP k).bit = true)

/-- The end of an allowance returns to ON with the new reference. An ended off time closes again as a retry; the retry
count clears after its time. A failed off check keeps its verdict's state. A recovered NTC lets the port reapply. A
lost gate drive opens the switch until detach with cause 0x3B; a degraded ON drop warns once. The model's choices it
rests on are log entries 3, 32. (R281, R284, R286, R276, R287.) -/
def Obligations.BreakerRetriesAndChecksAct : Prop :=
  -- ALLOWANCE_END (R281)
  (∀ (s : State) (k : PortId), s.armed (.allowance k) = true → s.get (F.BRK_STATUS_STATE k) = 4 →
    Answers (exec (.allowanceEnd k) s) fun t => t.get (F.BRK_STATUS_STATE k) = 3 ∧
    (t.port k).brk.iRef = (s.port k).brk.iRefNext ∧ t.armed (.allowance k) = false ∧ SameWords [R.BRK_STATUS k] s t) ∧
  -- RETRY_OFF_ELAPSED (R284)
  (∀ (s : State) (k : PortId), s.armed (.retryOff k) = true → s.get (F.BRK_STATUS_STATE k) = 6 →
    Answers (exec (.retryOffElapsed k) s) fun t => (t.port k).brk.retryClose = true ∧ (t.port k).pd.hr = .reapply ∧
    t.get (F.BRK_STATUS_STATE k) ≤ 1) ∧
  -- RETRY_COUNT_CLEAR (R284)
  (∀ (s : State) (k : PortId), s.armed (.retryClear k) = true → Answers (exec (.retryCountClear k) s) fun t =>
    t.get (F.BRK_STATUS_RETRIES k) = 0 ∧ (t.port k).brk.retried = false ∧ (t.port k).brk.retryClose = false ∧
    t.armed (.retryClear k) = false ∧ SameWords [R.BRK_STATUS k] s t) ∧
  -- OFF_CHECK (R286)
  (∀ (s : State) (k : PortId), s.armed (.offCheck k) = true → s.get (F.BRK_STATUS_STATE k) = 5 →
    s.vcsns k + 500 ≤ s.vbsns k → (s.port k).brk.after = 7 → Answers (exec (.offCheck k) s) fun t =>
    t.get (F.BRK_STATUS_STATE k) = 7 ∧ (t.port k).brk.verdictDue = false) ∧
  -- NTC_RECOVERED (R276)
  (∀ (s : State) (k : PortId), s.armed (.ntcCool k) = true → s.get (F.BRK_STATUS_STATE k) = 8 →
    (s.port k).brk.heldNtc = true → (s.port k).brk.heldUntilDetach = false → Answers (exec (.ntcRecovered k) s) fun t =>
    (t.port k).brk.heldNtc = false ∧ (t.port k).pd.hr = .reapply ∧ t.get (F.BRK_STATUS_STATE k) ≤ 1) ∧
  -- GATE_DRIVE_LOST (R287)
  (∀ (s : State) (k : PortId), s.switchClosed k = true → s.calm k.num = true →
    Answers (exec (.gateDriveLost k) s) fun t => t.get (F.BRK_STATUS_LAST_CAUSE k) = 0x3B ∧ t.switchDriven k = false ∧
    (t.port k).brk.heldUntilDetach = true ∧ t.has (G.BRK_HELD k).bit = true) ∧
  -- ON_DROP_DEGRADED (R287)
  (∀ (s : State) (k : PortId), s.armed (.onDrop k) = true → (s.port k).brk.degradedWarned = false →
    s.switchClosed k = true → Answers (exec (.onDropDegraded k) s) fun t => (t.port k).brk.degradedWarned = true ∧
    t.has (G.BRK_SW_DEGRADED k).bit = true)

/-- In Spring an ended step delay waits at a closed gate or runs the step, whose rails have their delays armed. A rail is
enabled with its rise limit armed; a passed rise limit raises that rail's fault at its time with the trace and flag, a
fatal one in Spring or Summer into Winter. A frame's judgement of a pin-supervised rail follows its PG and keeps EN;
one of a measured rail stores the mean and counts the frames in regulation and off. A stretched reset is released
where resets move and nothing holds it, and otherwise stays as it was. The model's choices it rests on are log entries
3, 35. (R319, R314, R321.) -/
def Obligations.PowerUpAndResetsSequence : Prop :=
  -- POWERUP_STEP_DELAY_ELAPSED (R319)
  (∀ (s : State), s.phase = 1 → s.isIn .spring = true → s.armed .seqDelay = true →
    s.has (F.SQC_UP_GATE s.seqStep) = true → s.linkOn = true → s.upGateOpen s.seqStep = false →
    Answers (exec (.powerupStepDelayElapsed) s) fun t => t.seq.sub = .gate ∧ t.has F.SQC_STATUS_GATE_WAIT = true ∧
    t.armed .seqDelay = false) ∧
  -- POWERUP_STEP_DELAY_ELAPSED (R319)
  (∀ (s : State), s.phase = 1 → s.isIn .spring = true → s.armed .seqDelay = true →
    s.has (F.SQC_UP_GATE s.seqStep) = false →
    (((s.upRails s.seqStep).any fun j => !s.inReg j && !(s.rail j).lostUntilSpring) = true) →
    Answers (exec (.powerupStepDelayElapsed) s) fun t => t.seq.sub = .run ∧ t.has F.SQC_STATUS_GATE_WAIT = false ∧
    t.seqStep = s.seqStep) ∧
  -- POWERUP_STEP_DELAY_ELAPSED (R319)
  (∀ (s : State) (j : RailId), s.phase = 1 → s.isIn .spring = true → s.armed .seqDelay = true →
    s.has (F.SQC_UP_GATE s.seqStep) = false → (s.upRails s.seqStep).contains j = true → s.inReg j = false →
    (s.rail j).lostUntilSpring = false → Answers (exec (.powerupStepDelayElapsed) s) fun t =>
    t.deadline (.railDelay j) = some (t.now + 10000 * s.get (F.SQ_UP_UP_DLY j)) ∧ t.seq.sub = .run ∧ t.phase = 1) ∧
  -- RAIL_ENABLE (R319)
  (∀ (s : State) (j : RailId), s.phase = 1 → s.isIn .spring = true → s.armed (.railDelay j) = true →
    Answers (exec (.railEnable j) s) fun t => t.has (F.SQ_STATUS_EN j) = true ∧ t.get (F.SQ_STATUS_RSTATE j) = 2 ∧
    (t.rail j).enabledAt = t.now ∧ t.deadline (.rise j) = some (t.now + msec (orDefault 10 (s.get (F.SQ_UP_T_RISE j))))) ∧
  -- RAIL_RISE_TIMEOUT (R319)
  (∀ (s : State) (j : RailId) (d : Nat), s.deadline (.rise j) = some d →
    exec (.railRiseTimeout j) s = .next ((((((s.advanceTo d).disarm (.rise j)).traceRail 0x04 j).flag
      G.SQC_RISE_TO).raise (0xD020 + 0x100 * j.val)))) ∧
  -- RAIL_RISE_TIMEOUT (R319)
  (∀ (s : State) (j : RailId), s.armed (.rise j) = true → s.railPresent j = true → s.isAny [.spring, .summer] = true →
    s.upd.paused = false → Answers (exec (.railRiseTimeout j) s) fun t => t.has G.SQC_RISE_TO.bit = true ∧
    t.has G.FLT_FATAL.bit = true ∧ t.isIn .winter = true ∧ t.get F.SYS_STATE_ENTRY = 9 ∧
    t.get F.FLT_FATAL_CODE = (if s.get F.FLT_FATAL_CODE = 0 then 0xD020 + 0x100 * j.val else s.get F.FLT_FATAL_CODE)) ∧
  -- RAIL_FRAME_JUDGE (R314)
  (∀ (s : State) (j : RailId) (pg : Bool), s.railPresent j = true → s.window? (.rail j) (0x51 + j.val) = none →
    s.phase = 0 → Answers (exec (.railFrameJudge j pg) s) fun t => t.has (F.SQ_STATUS_PG j) = pg ∧
    t.has (F.SQ_STATUS_EN j) = s.has (F.SQ_STATUS_EN j)) ∧
  -- RAIL_FRAME_JUDGE (R314)
  (∀ (s : State) (j : RailId) (pg : Bool) (v : Win) (m : Nat), s.railPresent j = true →
    s.window? (.rail j) (0x51 + j.val) = some v → v.n ≠ 0 → s.phase = 0 →
    (m = (if 10 * s.regMv j ≤ 4 * v.lo.toNat ∧ (s.has (F.SQ_UP_PG_USE j) = false ∨ pg = true) then (s.rail
      j).regFrames + 1 else 0)) →
    Answers (exec (.railFrameJudge j pg) s) fun t => t.has (F.SQ_STATUS_PG j) = pg ∧
    t.get (F.SQ_MEAS_V_MV j) = (4 * v.sum / (10 * (v.n : Int))).toNat % 2 ^ (F.SQ_MEAS_V_MV j).width ∧
    (t.rail j).regFrames = m ∧ t.bit F.SQC_RAILS_INREG j.val = decide (2 ≤ m) ∧
    (t.rail j).offFrames = (if 4 * v.hi.toNat < 10 * s.get (F.SQ_NOM_OFF_MV j) then (s.rail j).offFrames + 1 else 0)) ∧
  -- RESET_STRETCH_ELAPSED (R321)
  (∀ (s : State) (n : Fin 4), s.armed (.stretch n) = true → s.resetsMove = true → s.releaseHolds n = true →
    Answers (exec (.resetStretchElapsed n) s) fun t => t.bit F.SQC_RST_ST_RELEASED n.val = true ∧
    t.bit F.SQC_RST_ST_STRETCHING n.val = false ∧ t.armed (.stretch n) = false ∧ SameWords [R.SQC_RST_ST] s t) ∧
  -- RESET_STRETCH_ELAPSED (R321)
  (∀ (s : State) (n : Fin 4), s.armed (.stretch n) = true → s.resetsMove = false →
    Answers (exec (.resetStretchElapsed n) s) fun t =>
    t.bit F.SQC_RST_ST_RELEASED n.val = s.bit F.SQC_RST_ST_RELEASED n.val ∧ t.bit F.SQC_RST_ST_STRETCHING n.val = false)

/-- In the power-down an ended step delay waits at a closed gate with its limit or runs the step, whose rails have their
delays armed; the limit's end runs the step with its flag. A release drops EN, lets the margin pin float and arms the
fall limit, whose end discharges the rail through the pin with its flag, whose own end marks the step done. A margin
move first drives the DAC's zero and then steps towards its target within 0 to 1023, changing its own word alone; its
timeout turns the target to 0 with its flag. The model's choices it rests on are log entries 3, 35, 93. (R323, R367.) -/
def Obligations.PowerDownAndMarginSequence : Prop :=
  -- POWERDOWN_STEP_DELAY_ELAPSED (R323)
  (∀ (s : State), s.phase = 3 → s.armed .seqDelay = true → s.has (F.SQC_DN_GATE s.seqStep) = true → s.linkOn = true →
    s.downGateOpen s.seqStep = false → Answers (exec (.powerdownStepDelayElapsed) s) fun t => t.seq.sub = .gate ∧
    t.has F.SQC_STATUS_GATE_WAIT = true ∧
    t.deadline .gateTimeout = some (t.now + msec (orDefault 20 (s.get F.SQC_CFG_GATE_TO)))) ∧
  -- POWERDOWN_STEP_DELAY_ELAPSED (R323)
  (∀ (s : State) (j : RailId), s.phase = 3 → s.armed .seqDelay = true → s.has (F.SQC_DN_GATE s.seqStep) = false →
    (s.downRails s.seqStep).contains j = true → (s.rail j).stepDone = false →
    Answers (exec (.powerdownStepDelayElapsed) s) fun t =>
    t.deadline (.railDelay j) = some (t.now + 10000 * s.get (F.SQ_DN_DN_DLY j)) ∧ t.seq.sub = .run ∧
    t.has F.SQC_STATUS_GATE_WAIT = false ∧ t.phase = 3) ∧
  -- DOWN_GATE_TIMEOUT (R323)
  (∀ (s : State), s.armed .gateTimeout = true → s.phase = 3 →
    (((s.downRails s.seqStep).any fun j => !(s.rail j).stepDone) = true) → Answers (exec (.downGateTimeout) s) fun t =>
    t.seq.sub = .run ∧ t.has F.SQC_STATUS_GATE_WAIT = false ∧ t.has G.SQC_GATE_TO.bit = true ∧
    t.armed .gateTimeout = false) ∧
  -- RAIL_RELEASE (R323)
  (∀ (s : State) (j : RailId), s.phase = 3 → s.armed (.railDelay j) = true → s.below j = false →
    Answers (exec (.railRelease j) s) fun t => t.has (F.SQ_STATUS_EN j) = false ∧ t.get (F.SQ_STATUS_RSTATE j) = 4 ∧
    (t.rail j).mg = .hiZ ∧ t.deadline (.fall j) = some (t.now + msec (orDefault 50 (s.get (F.SQ_DN_T_FALL j))))) ∧
  -- RAIL_FALL_TIMEOUT (R323)
  (∀ (s : State) (j : RailId), s.armed (.fall j) = true → Answers (exec (.railFallTimeout j) s) fun t =>
    t.has (F.SQ_STATUS_MG_DIS j) = true ∧ (t.rail j).mg = .discharge ∧ t.get (F.SQ_STATUS_RSTATE j) = 5 ∧
    t.has G.SQC_DISCHARGE.bit = true ∧
    t.deadline (.discharge j) = some (t.now + msec (orDefault 50 (s.get (F.SQ_DN_T_FALL j))))) ∧
  -- DISCHARGE_TIMEOUT (R323)
  (∀ (s : State) (j : RailId), s.armed (.discharge j) = true → s.below j = false → s.phase ≠ 3 →
    s.calm (0x10 + j.val) = true → Answers (exec (.dischargeTimeout j) s) fun t => t.get (F.SQ_STATUS_RSTATE j) = 6 ∧
    (t.rail j).stepDone = true ∧ (t.rail j).mg = (s.rail j).mg) ∧
  -- MARGIN_FRAME_STEP (R367)
  (∀ (s : State) (j : RailId), s.isAny [.autumn, .winter, .deepWinter] = false → s.has (F.SQ_MGST_MOVING j) = true →
    (s.rail j).n ≠ 0 → s.has (F.SQ_MGST_DRIVING j) = false → Answers (exec (.marginFrameStep j) s) fun t =>
    t.has (F.SQ_MGST_DRIVING j) = true ∧ t.get (F.SQ_MGST_DAC j) = s.get (F.SQ_MGCAL_ZERO j) ∧ (t.rail j).mg = .dac ∧
    SameWords [R.SQ_MGST j] s t) ∧
  -- MARGIN_FRAME_STEP (R367)
  (∀ (s : State) (j : RailId), (s.rail j).n ≠ 0 → s.isAny [.autumn, .winter, .deepWinter] = false →
    s.has (F.SQ_MGST_MOVING j) = true → s.has (F.SQ_MGST_DRIVING j) = true →
    s.marginErr j < -(((s.rail j).n * s.vnom j : Nat) : Int) → s.has (F.SQ_MGCAL_DIR j) = true →
    Answers (exec (.marginFrameStep j) s) fun t =>
    t.get (F.SQ_MGST_DAC j) = min 1023 (s.get (F.SQ_MGST_DAC j) + orDefault 1 (s.get (F.SQ_MGCAL_SLEW j))) ∧
    (t.rail j).stable = 0 ∧ SameWords [R.SQ_MGST j] s t) ∧
  -- MARGIN_TIMEOUT (R367)
  (∀ (s : State) (j : RailId), s.has (F.SQ_MGST_MOVING j) = true → s.marginHeld = false → s.railPresent j = true →
    8 ≤ (s.rail j).atRail → s.calm (0x10 + j.val) = true → Answers (exec (.marginTimeout j) s) fun t =>
    t.get (F.SQ_MG_TARGET j) = 0 ∧ t.has (F.SQ_MGST_MOVING j) = true ∧ t.has (G.SQ_MARGIN j).bit = true ∧
    t.deadline (.margin j) = some (s.now + msec 100))

/-- An allowed cascade line is armed high; its fall lowers it with 0xE904, on the master with the chain fault, in Spring
or Summer into Winter. The master's cycle counts up and sends one frame; a joined slave sends one in its window. A
SYNC with a right MAC and a newer cycle joins and takes over the four go fields; a JOIN of a new boot takes its key
and leaves the chain. A report with a right MAC and cycle counts for its source, one with a wrong MAC or a stale cycle
sets its flag and counts for nothing. Four missing cycles lose the link with its flag and keep the go fields' UPV and
DNV. The model's choices it rests on are log entries 36, 127. (R333, R334, R336, R339, R341.) -/
def Obligations.AxkanLinkActs : Prop :=
  -- CASC_ARM (R333)
  (∀ (s : State), s.linkOn = true → s.cascOk = true → s.axl.chainFault = false → Answers (exec (.cascArm) s) fun t =>
    t.has F.AXL_STATUS_CASC_ARMED = true ∧ t.axl.cascHigh = true) ∧
  -- CASC_FAULT (R334)
  (∀ (s : State), s.has F.AXL_STATUS_CASC_ARMED = true → s.isMaster = false → s.isIn .deepWinter = false →
    exec (.cascFault) s = .next ((({ s with axl := { s.axl with cascHigh := false } }.flag G.AXL_CASC).raise 0xE904))) ∧
  -- CASC_FAULT (R334)
  (∀ (s : State), s.has F.AXL_STATUS_CASC_ARMED = true → s.isAny [.spring, .summer] = true → s.upd.paused = false →
    Answers (exec (.cascFault) s) fun t => t.axl.cascHigh = false ∧
    t.axl.chainFault = (s.axl.chainFault || s.isMaster) ∧ t.has G.AXL_CASC.bit = true ∧ t.has G.FLT_FATAL.bit = true ∧
    t.isIn .winter = true ∧
    t.get F.FLT_FATAL_CODE = (if s.get F.FLT_FATAL_CODE = 0 then 0xE904 else s.get F.FLT_FATAL_CODE)) ∧
  -- AXKAN_CYCLE (R336)
  (∀ (s : State), s.isMaster = true → s.linkServed = true → s.seq.sub ≠ .gate → Answers (exec (.axkanCycle) s) fun t =>
    t.axl.cyc = (s.axl.cyc + 1) % 2 ^ 48 ∧ t.axl.sent.length = 1 ∧ t.axl.reported = []) ∧
  -- AXKAN_SLAVE_WINDOW (R336)
  (∀ (s : State), s.linkServed = true → s.chainPos ≠ 0 → s.axl.joined = true →
    Answers (exec (.axkanSlaveWindow) s) fun t => t.axl.sent.length = 1 ∧
    (t.axl.sinceValid = s.axl.sinceValid.map fun n => min 255 (n + 1)) ∧ SameWords [] s t) ∧
  -- AXKAN_SYNC (R339)
  (∀ (s : State) (f : BitVec 96), s.linkServed = true → s.chainPos ≠ 0 → frameType f = 1 → s.axl.bootsM ≠ none →
    f.toNat % 2 ^ 32 = s.linkMac s.axl.kS (some (frameTop f % 2 ^ 48)) (frameTop f) → frameSrc f = 0 →
    s.axl.cyc < frameTop f % 2 ^ 48 → s.seq.sub ≠ .gate → Answers (exec (.axkanSync f) s) fun t =>
    t.axl.cyc = frameTop f % 2 ^ 48 ∧ t.axl.joined = true ∧ t.has F.AXL_STATUS_UPV = (frameTop f).testBit 57 ∧
    t.has F.AXL_STATUS_DNV = (frameTop f).testBit 56 ∧ t.get F.AXL_STATUS_GO_UP = frameTop f / 2 ^ 52 % 16 ∧
    t.get F.AXL_STATUS_GO_DN = frameTop f / 2 ^ 48 % 16) ∧
  -- AXKAN_JOIN (R339)
  (∀ (s : State) (f : BitVec 96), s.linkServed = true → s.chainPos ≠ 0 → frameType f = 2 →
    f.toNat % 2 ^ 32 = s.linkMac s.joinKey none (frameTop f) → frameSrc f = 0 →
    s.axl.bootsM ≠ some (frameTop f % 2 ^ 32) → Answers (exec (.axkanJoin f) s) fun t =>
    t.axl.bootsM = some (frameTop f % 2 ^ 32) ∧ t.axl.kS = s.linkKey (frameTop f % 2 ^ 32) ∧ t.axl.cyc = 0 ∧
    t.axl.joined = false ∧ SameWords [] s t) ∧
  -- AXKAN_REPORT (R339)
  (∀ (s : State) (f : BitVec 96), s.isMaster = true → s.linkServed = true → frameType f = 8 →
    f.toNat % 2 ^ 32 = s.linkMac s.axl.kS (some s.axl.cyc) (frameTop f) → frameTop f % 2 ^ 32 = s.axl.cyc % 2 ^ 32 →
    frameSrc f ≠ 0 → frameSrc f < s.chainSize → Answers (exec (.axkanReport f) s) fun t =>
    t.axl.reported = frameSrc f :: s.axl.reported ∧ t.axl.sinceValid = s.axl.sinceValid.set (frameSrc f) 0 ∧
    SameWords [] s t) ∧
  -- AXKAN_REPORT (R339)
  (∀ (s : State) (f : BitVec 96), s.isMaster = true → s.linkServed = true → frameType f = 8 →
    frameTop f % 2 ^ 32 = s.axl.cyc % 2 ^ 32 → f.toNat % 2 ^ 32 ≠ s.linkMac s.axl.kS (some s.axl.cyc) (frameTop f) →
    Answers (exec (.axkanReport f) s) fun t => t.has G.AXL_MAC.bit = true ∧ t.axl.reported = s.axl.reported) ∧
  -- AXKAN_REPORT (R339)
  (∀ (s : State) (f : BitVec 96), s.isMaster = true → s.linkServed = true → frameType f = 8 →
    frameTop f % 2 ^ 32 ≠ s.axl.cyc % 2 ^ 32 → Answers (exec (.axkanReport f) s) fun t =>
    t.has G.AXL_CYC_BAD.bit = true ∧ t.axl.reported = s.axl.reported) ∧
  -- AXKAN_LINK_LOST (R341)
  (∀ (s : State), s.isMaster = false → s.linkServed = true → s.axl.lost = false → 4 ≤ s.linkAge 0 →
    s.calm 0x29 = true → Answers (exec (.axkanLinkLost) s) fun t => t.axl.lost = true ∧
    t.has F.AXL_STATUS_UPV = s.has F.AXL_STATUS_UPV ∧ t.has F.AXL_STATUS_DNV = s.has F.AXL_STATUS_DNV ∧
    t.has G.AXL_LOST.bit = true)

/-- A port whose conditions hold goes on with no blocking condition; one that loses a condition goes off and shows it; one
that is on shows its link and speed, and an event of its USB 2.0 side moves its translator. A packet received on an
enabled SuperSpeed port lies in the hub and the free count follows, a sent one leaves it, and no other word changes;
one with a CRC error is counted where it came in and not taken. Reading the buffer register restarts the minimum from
the free count. A buffer error sets its flag and, where uncorrectable, retires one buffer. An empty pool warns. Failed
training falls back to the USB 2 speed with its flag, upstream and downstream. Link recoveries count up, saturating,
and above 16 set their flag and note the time. A lost SuperSpeed PLL stops SuperSpeed and drops its packets; a lost
HS9 PLL is a contained fault. A counter clear zeroes exactly the ports named. The model's choices it rests on are log
entries 3, 51, 52. (R395, R403, R400, R415, R401, R421, R20, R417.) -/
def Obligations.HubDataPathActs : Prop :=
  -- HUB_PORT_DATA_ENABLE (R395)
  (∀ (s : State) (k : Fin 8) (link : BitVec 4) (speed up : BitVec 3) (upConf mf0Conf : Bool) (events : List HubEvent),
    s.hubBlock (hubPort k) = 0 → s.has (F.HUB_PSTAT_DATA_ON (hubPort k)) = false →
    Answers (exec (.hubPortDataEnable k link speed up upConf mf0Conf events) s) fun t =>
    t.has (F.HUB_PSTAT_DATA_ON (hubPort k)) = true ∧ t.get (F.HUB_PSTAT_BLOCK (hubPort k)) = 0 ∧
    t.get (F.HUB_PSTAT_SPEED (hubPort k)) = 0) ∧
  -- HUB_PORT_DATA_ENABLE (R395)
  (∀ (s : State) (k : Fin 8) (link : BitVec 4) (speed up : BitVec 3) (upConf mf0Conf : Bool) (events : List HubEvent),
    s.hubBlock (hubPort k) ≠ 0 → s.has (F.HUB_PSTAT_DATA_ON (hubPort k)) = true →
    Answers (exec (.hubPortDataEnable k link speed up upConf mf0Conf events) s) fun t =>
    t.has (F.HUB_PSTAT_DATA_ON (hubPort k)) = false ∧ t.get (F.HUB_PSTAT_BLOCK (hubPort k)) = s.hubBlock (hubPort k) ∧
    t.get (F.HUB_PSTAT_LINK (hubPort k)) = 0) ∧
  -- HUB_PORT_DATA_ENABLE (R395)
  (∀ (s : State) (k : Fin 8) (link : BitVec 4) (speed up : BitVec 3) (upConf mf0Conf : Bool) (e : HubEvent),
    s.hubBlock (hubPort k) = 0 → s.has (F.HUB_PSTAT_DATA_ON (hubPort k)) = true → s.ssPort (hubPort k) = true →
    Answers (exec (.hubPortDataEnable k link speed up upConf mf0Conf [e]) s) fun t =>
    t.get (F.HUB_PSTAT_LINK (hubPort k)) = link.toNat ∧ t.get (F.HUB_PSTAT_SPEED (hubPort k)) = speed.toNat ∧
    t.hub.tt[k] = s.hub.tt[k].after e ∧ (s.pins.ups = true → t.has F.HUB_STATUS_UP_CONF = upConf)) ∧
  -- HUB_PACKET_RECEIVED (R403)
  (∀ (s : State) (up : Bool) (k : Fin 8) (addr : BitVec 7) (ep : BitVec 4),
    s.has (F.HUB_PSTAT_DATA_ON (hubPort k)) = true → s.ssPort (hubPort k) = true → s.pins.ups = true →
    Answers (exec (.hubPacketReceived up k addr ep true) s) fun t =>
    t.get (F.HUB_ERR_SS_ERR (if up then k.val + 1 else 0)) = min 255 (s.get (F.HUB_ERR_SS_ERR (if up then k.val + 1
      else 0)) + 1) ∧
    t.hub.pkts = s.hub.pkts ∧ SameWords [R.HUB_ERR (if up then k.val + 1 else 0)] s t) ∧
  -- HUB_PACKET_RECEIVED (R403)
  (∀ (s : State) (up : Bool) (k : Fin 8) (addr : BitVec 7) (ep : BitVec 4),
    s.has (F.HUB_PSTAT_DATA_ON (hubPort k)) = true → s.ssPort (hubPort k) = true → s.pins.ups = true →
    Answers (exec (.hubPacketReceived up k addr ep false) s) fun t => t.hub.pkts.length = s.hub.pkts.length + 1 ∧
    t.get F.HUB_BUF_FREE = t.sharedFree % 2 ^ F.HUB_BUF_FREE.width ∧ SameWords [R.HUB_BUF] s t) ∧
  -- HUB_PACKET_SENT (R400)
  (∀ (s : State) (egress : Fin 9), (s.hub.pkts.any (fun p => p.sending && decide (p.egress = egress.val)) = true) →
    Answers (exec (.hubPacketSent egress) s) fun t => t.hub.pkts.length + 1 = s.hub.pkts.length ∧
    SameWords [R.HUB_BUF] s t) ∧
  -- HUB_BUF_READ (R415)
  (∀ (s : State), Answers (exec (.hubBufRead) s) fun t => t.get F.HUB_BUF_MIN_FREE = s.get F.HUB_BUF_FREE ∧
    t.get F.HUB_BUF_FREE = s.get F.HUB_BUF_FREE ∧ SameWords [R.HUB_BUF] s t) ∧
  -- BUFFER_ECC_ERROR (R401)
  (∀ (s : State) (uncorrectable : Bool), s.calm 0x28 = true → Answers (exec (.bufferEccError uncorrectable) s) fun t =>
    t.has G.HUB_ECC.bit = true ∧
    t.get F.HUB_BUF_RETIRED = (if uncorrectable then min (2 ^ F.HUB_BUF_RETIRED.width - 1) (s.get F.HUB_BUF_RETIRED +
      1) else s.get F.HUB_BUF_RETIRED)) ∧
  -- POOL_EMPTY_TIMEOUT (R400)
  (∀ (s : State), s.armed .poolEmpty = true → Answers (exec (.poolEmptyTimeout) s) fun t =>
    t.has G.HUB_POOL_EMPTY.bit = true ∧ t.has G.FLT_WARN.bit = true ∧ t.armed .poolEmpty = false) ∧
  -- SS_TRAINING_FAILED (R421)
  (∀ (s : State) (p : Fin 9) (speed : BitVec 3), p.val = 0 → s.pins.ups = true →
    Answers (exec (.ssTrainingFailed p speed) s) fun t => t.get F.HUB_STATUS_UP_SPEED = s.upSpeed speed.toNat ∧
    t.has G.HUB_SS_FALLBACK.bit = true) ∧
  -- SS_TRAINING_FAILED (R421)
  (∀ (s : State) (p : Fin 9) (speed : BitVec 3) (k : Fin 8), p.val = k.val + 1 →
    s.has (F.HUB_PSTAT_DATA_ON (hubPort k)) = true → s.ssPort (hubPort k) = true →
    Answers (exec (.ssTrainingFailed p speed) s) fun t => t.get (F.HUB_PSTAT_LINK (hubPort k)) = 0 ∧
    t.get (F.HUB_PSTAT_SPEED (hubPort k)) = min 3 speed.toNat ∧ t.hub.fallback.testBit k.val = true ∧
    t.has G.HUB_SS_FALLBACK.bit = true) ∧
  -- LINK_RECOVERY_EXCESS (R421)
  (∀ (s : State) (p : Fin 9) (n : Nat), s.sourceAbsent p.val = false → n ≤ 16 →
    Answers (exec (.linkRecoveryExcess p n) s) fun t =>
    t.get (F.HUB_ERR_RECOV p.val) = min (2 ^ (F.HUB_ERR_RECOV p.val).width - 1) (s.get (F.HUB_ERR_RECOV p.val) + n) ∧
    SameWords [R.HUB_ERR p.val] s t) ∧
  -- LINK_RECOVERY_EXCESS (R421)
  (∀ (s : State) (p : Fin 9) (n : Nat), s.sourceAbsent p.val = false → 16 < n →
    (bankRead (fun _ => 0) s.hub.recWarned p.val = 0) → Answers (exec (.linkRecoveryExcess p n) s) fun t =>
    t.has G.HUB_LINK_ERR.bit = true ∧ (bankRead (fun _ => 0) t.hub.recWarned p.val = s.now + 1)) ∧
  -- SS_PLL_UNLOCK (R20)
  (∀ (s : State), s.ssOn = true → s.calm 0x22 = true → Answers (exec (.ssPllUnlock) s) fun t =>
    t.has F.CLK_STATUS_SS_LOCK = false ∧ t.has F.HUB_STATUS_SS_STOPPED = true ∧ t.hub.pkts = []) ∧
  -- HS9_PLL_UNLOCK (R20)
  (∀ (s : State), s.isAny [.romBoot, .deepWinter] = false → s.has F.CLK_STATUS_HS9_LOCK = true → s.calm 0x22 = true →
    Answers (exec (.hs9PllUnlock) s) fun t => t.has F.CLK_STATUS_HS9_LOCK = false ∧ t.has G.FLT_CONT.bit = true) ∧
  -- HUB_COUNTER_CLEAR (R417)
  (∀ (s : State) (w : Word), Answers (exec (.hubCounterClear w) s) fun t =>
    ((List.range 9).all (fun k => !w.getLsbD k || t.word (R.HUB_ERR k) == 0#32) = true) ∧
    ((List.range 9).all (fun k => w.getLsbD k || t.word (R.HUB_ERR k) == s.word (R.HUB_ERR k)) = true) ∧
    SameWords ((List.range 9).map R.HUB_ERR) s t)

/-- A due sample marks its frame, and with no averaging enters as the frame's value; a full block of 64 samples is taken
out, and lies encoded in the one function's buffer it goes to; a packet closes with as many of its blocks as fit and
its sequence rises; a taken packet leaves the pipe, a capture's last one too. A stream's configuration is taken with
its reserved bits 0 where the load fits, and refused with its flag otherwise. A full capture is spilled into its slot,
no flash byte outside it changed, a failed spill keeps it and takes the next slot with a contained fault; or it is
sent on request. The model's choices it rests on are log entries 50, 54, 96, 125. (R422, R424, R428, R429, R431,
R432.) -/
def Obligations.TelemetryStreamsAct : Prop :=
  -- STREAM_SAMPLE (R422)
  (∀ (s : State) (n : Fin 8), s.streamRuns n.val = true → s.streams[n].frame ≠ some (s.tb / 1024) →
    Answers (exec (.streamSample n) s) fun t => t.streams[n].frame = some (s.tb / 1024) ∧ SameWords [] s t) ∧
  -- STREAM_SAMPLE (R422)
  (∀ (s : State) (n : Fin 8) (c a : Nat) (u : Nat), s.streamRuns n.val = true → s.streams[n].frame = none →
    s.get (F.TLM_STR_D n.val) = 0 →
    (bankRead (fun _ => (0, 0, 0)) s.msr.res (s.get (F.TLM_STR_CHAN n.val)) = (c + 1, a, u)) →
    (u - s.tbZero.getD 0) / 1024 = s.tb / 1024 → Answers (exec (.streamSample n) s) fun t =>
    t.streams[n].xs = s.streams[n].xs ++ [decimated 0 (codeValue (s.get (F.TLM_STR_CHAN n.val)) c)] ∧
    t.streams[n].held = s.streams[n].held ++ [false] ∧ t.streams[n].last = c ∧ t.streams[n].frame = some (s.tb / 1024) ∧
    SameWords [] s t) ∧
  -- STREAM_BLOCK_ENCODE (R424)
  (∀ (s : State) (n : Fin 8), s.streamRuns n.val = true → 64 ≤ s.streams[n].xs.length → s.streamTo n.val 0 = false →
    s.streamTo n.val 1 = false → Answers (exec (.streamBlockEncode n) s) fun t =>
    t.streams[n].xs = s.streams[n].xs.drop 64 ∧ t.streams[n].held = s.streams[n].held.drop 64 ∧
    t.bit F.TLM_STATUS_HOLD n.val = (s.streams[n].held.take 64).any id ∧ SameWords [R.TLM_STATUS] s t) ∧
  -- STREAM_BLOCK_ENCODE (R424)
  (∀ (s : State) (n : Fin 8) (b : Block), s.streamRuns n.val = true → 64 ≤ s.streams[n].xs.length →
    s.streamTo n.val 0 = true → s.streamTo n.val 1 = false → s.buffered n 0 < 16 →
    b = Block.mk (encodeBlock (s.unitOff 1) (s.get (F.TLM_STR_K n.val)) ((s.streams[n].held.take 64).any id)
      (s.streams[n].xs.take 64)) (s.word (R.TLM_STR n.val)) (1024 * s.streams[n].first) s.now →
    Answers (exec (.streamBlockEncode n) s) fun t => t.streams[n].buf 0 = s.streams[n].buf 0 ++ [b] ∧
    t.streams[n].xs = s.streams[n].xs.drop 64 ∧ t.streams[n].held = s.streams[n].held.drop 64 ∧
    SameWords [R.TLM_STATUS] s t) ∧
  -- STREAM_PACKET_CLOSE (R428)
  (∀ (s : State) (n : Fin 8) (f : Fin 2) (b : Block), s.codecServed = true → s.mgt[f].send = none →
    s.streams[n].buf f = [b] → Answers (exec (.streamPacketClose n f) s) fun t => t.streams[n].buf f = [] ∧
    t.streams[n].lost f = 0 ∧ t.now = max s.now (b.at' + msec 100) ∧ t.mgt[f].ep3.length = s.mgt[f].ep3.length + 1 ∧
    t.mgt[f].seq = (s.mgt[f].seq + 1) % 2 ^ 16 ∧ SameWords [] s t) ∧
  -- STREAM_PACKET_CLOSE (R428)
  (∀ (s : State) (n : Fin 8) (f : Fin 2), s.codecServed = true → s.mgt[f].send = none →
    packetBlocks 3 (s.streams[n].buf f) ≠ [] → Answers (exec (.streamPacketClose n f) s) fun t =>
    t.streams[n].buf f = (s.streams[n].buf f).drop (packetBlocks 3 (s.streams[n].buf f)).length ∧
    t.streams[n].lost f = 0 ∧ t.mgt[f].ep3.length = s.mgt[f].ep3.length + 1 ∧
    ((t.mgt[f].ep3.getLast?.map fun p => (p.stream, p.nblk)) = some (n.val, (packetBlocks 3 (s.streams[n].buf
      f)).length)) ∧
    t.mgt[f].seq = (s.mgt[f].seq + 1) % 2 ^ 16 ∧ SameWords [] s t) ∧
  -- TELEMETRY_PACKET_TAKEN (R428)
  (∀ (s : State) (f : Fin 2) (p : TlmPkt) (rest : List TlmPkt), s.fnServes f = true → s.mgt[f].ep3 = p :: rest →
    p.stream ≠ 0xC0 → Answers (exec (.telemetryPacketTaken f) s) fun t => t.mgt[f].ep3 = rest ∧ SameWords [] s t) ∧
  -- TELEMETRY_PACKET_TAKEN (R428)
  (∀ (s : State) (f : Fin 2) (p : TlmPkt) (rest : List TlmPkt), s.fnServes f = true → s.mgt[f].ep3 = p :: rest →
    p.stream = 0xC0 → s.mgt[f].send = none → Answers (exec (.telemetryPacketTaken f) s) fun t => t.mgt[f].ep3 = rest ∧
    t.mgt[f].send = none ∧ SameWords [] s t) ∧
  -- TLM_STR_WRITE (R429)
  (∀ (s : State) (n : Fin 8) (w : Word), s.streamLoad n.val (w &&& 0xE0FC00FF#32) ≤ 512 →
    Answers (exec (.tlmStrWrite n w) s) fun t => t.word (R.TLM_STR n.val) = w &&& 0xE0FC00FF#32 ∧ t.streams[n].xs = [] ∧
    t.streams[n].held = [] ∧ t.streams[n].going = false ∧ SameWords [R.TLM_STR n.val] s t) ∧
  -- TLM_STR_WRITE (R429)
  (∀ (s : State) (n : Fin 8) (w : Word), 512 < s.streamLoad n.val (w &&& 0xE0FC00FF#32) →
    Answers (exec (.tlmStrWrite n w) s) fun t => t.has G.TLM_REFUSED.bit = true ∧
    t.word (R.TLM_STR n.val) = s.word (R.TLM_STR n.val) ∧ t.streams = s.streams) ∧
  -- CAPTURE_SPILL (R431)
  (∀ (s : State), s.flashFree = true → s.get F.CAP_STATUS_STATE = 3 → s.has F.CAP_SPILL_EN = true →
    s.codecServed = true → s.spillSlots ≠ 0 → s.isAny [.summer, .autumn, .winter] = true →
    Answers (exec (.captureSpill true) s) fun t =>
    t.get F.CAP_STATUS_STATE = (if s.has F.CAP_SPILL_REARM then 1 else 0) ∧
    t.get F.CAP_SPILL_NEXT = (s.get F.CAP_SPILL_NEXT + 1) % s.spillSlots % 2 ^ F.CAP_SPILL_NEXT.width ∧
    t.cap.count = 0 ∧ SameFlash (spillSlotBase (s.get F.CAP_SPILL_NEXT)) 0x80000 s t ∧
    SameWords [R.CAP_STATUS, R.CAP_SPILL] s t) ∧
  -- CAPTURE_SPILL (R431)
  (∀ (s : State), s.flashFree = true → s.get F.CAP_STATUS_STATE = 3 → s.has F.CAP_SPILL_EN = true →
    s.codecServed = true → s.spillSlots ≠ 0 → s.isAny [.summer, .autumn, .winter] = true → s.calm 0x2A = true →
    Answers (exec (.captureSpill false) s) fun t => t.get F.CAP_STATUS_STATE = 3 ∧
    t.get F.CAP_SPILL_NEXT = (s.get F.CAP_SPILL_NEXT + 1) % s.spillSlots % 2 ^ F.CAP_SPILL_NEXT.width ∧
    t.cap.count = s.cap.count ∧ t.has G.FLT_CONT.bit = true ∧ t.free = s.free + 1) ∧
  -- CAPTURE_SEND (R432)
  (∀ (s : State) (src : BitVec 8) (to9 : Bool), s.engine 14 = true → s.tlmOn (if to9 then 1 else 0) = true →
    s.mgt[(if to9 then 1 else 0 : Fin 2)].send = none → src = 0xFF#8 → s.get F.CAP_STATUS_STATE = 3 → 0 < s.capWords →
    Answers (exec (.captureSend src to9) s) fun t =>
    t.mgt[(if to9 then 1 else 0 : Fin 2)].ep3.length = s.mgt[(if to9 then 1 else 0 : Fin 2)].ep3.length + 1 ∧
    t.mgt[(if to9 then 1 else 0 : Fin 2)].send = some { src := 0xFF, off := min 492 (4 * s.capWords), len := 4 * s.capWords } ∧
    SameWords [] s t)

/-- A frame keeps the highest die temperature and the lowest VIN of the day and adds each present port's energy and peak
current. A counted second counts up to the day's end and every 600th makes a checkpoint due. Day records and
checkpoints are programmed at their slots and the slots advance, at a sector's last slot with the erase of the next; a
failed write keeps the record due, with its flag and a contained fault, for the next slot. A scan of an empty history
opens day 0. The window's selection takes its bits with the reserved ones 0 and changes only the window. The model's
choices it rests on are log entries 46, 55, 124, 125. (R433, R434, R436, R437, R442.) -/
def Obligations.HistoryIsKept : Prop :=
  -- ARCHIVE_FRAME_ACCUMULATE (R433)
  (∀ (s : State), s.archiveOn = true → s.his.open' = true → Answers (exec (.archiveFrameAccumulate) s) fun t =>
    t.his.tmax = some (max (s.his.tmax.getD 0) s.dieMax) ∧
    t.his.vinMin = some (min (s.his.vinMin.getD (s.get F.BUS_VIN_VIN_MV)) (s.get F.BUS_VIN_VIN_MV)) ∧
    t.his.secs = s.his.secs ∧ SameWords [] s t) ∧
  -- ARCHIVE_FRAME_ACCUMULATE (R433)
  (∀ (s : State) (k : PortId), s.archiveOn = true → s.his.open' = true → k ≠ port9 → s.portPresent k = true →
    k.val < s.his.acc.length → k.val < s.his.peak.length → Answers (exec (.archiveFrameAccumulate) s) fun t =>
    t.his.acc.getD k.val 0 = (s.his.acc.getD k.val 0 + s.vrcp k * s.portMa k) % 2 ^ 64 ∧
    t.his.peak.getD k.val 0 = max (s.his.peak.getD k.val 0) (s.portMa k) ∧ SameWords [] s t) ∧
  -- COUNTED_SECOND (R433)
  (∀ (s : State), s.archiveOn = true → s.his.open' = true → s.his.secs + 1 < 86400 →
    Answers (exec (.countedSecond) s) fun t => t.his.secs = s.his.secs + 1 ∧
    t.get F.HIS_DAY_DAY_S = (s.his.secs + 1) % 2 ^ F.HIS_DAY_DAY_S.width ∧ t.now = s.now + (secs 1 - s.tb % secs 1) ∧
    ((s.his.secs + 1) % 600 = 0 → t.his.cpDue = true) ∧ SameWords [R.HIS_DAY] s t) ∧
  -- DAY_RECORD_WRITE (R434)
  (∀ (s : State) (eraseOk : Bool) (b : List Byte), s.flashFree = true → s.his.dayDue = some b → s.archiveOn = true →
    s.his.daySlot % 8 ≠ 7 → Answers (exec (.dayRecordWrite true eraseOk) s) fun t => t.his.dayDue = none ∧
    t.his.newest = some s.his.daySlot ∧ t.his.daySlot = (s.his.daySlot + 1) % daySlots ∧
    t.get F.HIS_LASTNO_DAYNO = leAt b 4 4 % 2 ^ 32 ∧ t.flash = (s.flashProgram (dayBase s.his.daySlot) b).flash ∧
    t.has G.HIS_WRITTEN.bit = true) ∧
  -- DAY_RECORD_WRITE (R434)
  (∀ (s : State) (eraseOk : Bool) (b : List Byte), s.flashFree = true → s.his.dayDue = some b → s.archiveOn = true →
    s.his.daySlot % 8 = 7 → eraseOk = true → Answers (exec (.dayRecordWrite true eraseOk) s) fun t =>
    t.his.dayDue = none ∧ t.his.newest = some s.his.daySlot ∧ t.his.daySlot = (s.his.daySlot + 1) % daySlots ∧
    t.get F.HIS_LASTNO_DAYNO = leAt b 4 4 % 2 ^ 32 ∧
    t.flash = ((s.flashProgram (dayBase s.his.daySlot) b).flashErase (archiveBase + 4096 * ((s.his.daySlot / 8 + 1) %
      (daySlots / 8))) 4096).flash ∧
    t.has G.HIS_WRITTEN.bit = true) ∧
  -- DAY_RECORD_WRITE (R434)
  (∀ (s : State) (eraseOk : Bool) (b : List Byte), s.flashFree = true → s.his.dayDue = some b → s.archiveOn = true →
    s.has (F.FLT_ESC_DIS 0x2A) = true → Answers (exec (.dayRecordWrite false eraseOk) s) fun t =>
    t.his.dayDue = some b ∧ t.his.newest = s.his.newest ∧ t.his.daySlot = (s.his.daySlot + 1) % daySlots ∧
    t.get F.HIS_LASTNO_DAYNO = s.get F.HIS_LASTNO_DAYNO ∧ t.has G.HIS_WRITE_FAIL.bit = true ∧
    t.has G.FLT_CONT.bit = true) ∧
  -- CHECKPOINT_WRITE (R436)
  (∀ (s : State) (ok eraseOk : Bool), s.flashFree = true → s.his.cpDue = true → s.archiveOn = true →
    s.his.open' = true → ok = true → s.his.cpSlot % 8 ≠ 7 → Answers (exec (.checkpointWrite ok eraseOk) s) fun t =>
    t.his.cpDue = false ∧ t.his.cpSlot = (s.his.cpSlot + 1) % cpSlots ∧
    t.flash = (s.flashProgram (cpBase s.his.cpSlot) (s.dayBytes 0x4348514B)).flash ∧ SameWords [] s t) ∧
  -- CHECKPOINT_WRITE (R436)
  (∀ (s : State) (ok eraseOk : Bool), s.flashFree = true → s.his.cpDue = true → s.archiveOn = true →
    s.his.open' = true → ok = false → s.has (F.FLT_ESC_DIS 0x2A) = true →
    Answers (exec (.checkpointWrite ok eraseOk) s) fun t => t.his.cpDue = true ∧
    t.his.cpSlot = (s.his.cpSlot + 1) % cpSlots ∧ t.has G.HIS_WRITE_FAIL.bit = true ∧ t.has G.FLT_CONT.bit = true) ∧
  -- CHECKPOINT_WRITE (R436)
  (∀ (s : State) (ok eraseOk : Bool), s.flashFree = true → s.his.cpDue = true → s.archiveOn = true →
    s.his.open' = true → ok = true → s.his.cpSlot % 8 = 7 → eraseOk = true →
    Answers (exec (.checkpointWrite ok eraseOk) s) fun t => t.his.cpDue = false ∧
    t.his.cpSlot = (s.his.cpSlot + 1) % cpSlots ∧
    t.flash = ((s.flashProgram (cpBase s.his.cpSlot) (s.dayBytes 0x4348514B)).flashErase (cpBase 0 + 4096 *
      ((s.his.cpSlot / 8 + 1) % (cpSlots / 8))) 4096).flash ∧
    SameWords [] s t) ∧
  -- HISTORY_SCAN (R437)
  (∀ (s : State), s.isIn .spring = true → s.archiveOn = true → s.has F.HIS_STATUS_SCANNED = false →
    s.newestDay = none → s.newestCp = none → Answers (exec (.historyScan) s) fun t =>
    t.has F.HIS_STATUS_SCANNED = true ∧ t.his.open' = true ∧ t.his.dayno = 0 ∧ t.his.daySlot = 0) ∧
  -- HIS_SEL_LOAD (R442)
  (∀ (s : State) (w : Word), s.unitOff 2 = true → Answers (exec (.hisSelLoad w) s) fun t =>
    t.word R.HIS_SEL = w &&& 0x000F7FFF#32 ∧ SameWords [R.HIS_SEL] s t) ∧
  -- HIS_SEL_LOAD (R442)
  (∀ (s : State) (w : Word), s.unitOff 2 = false → Answers (exec (.hisSelLoad w) s) fun t =>
    t.word R.HIS_SEL = w &&& 0x000F7FFF#32 ∧ SameWords (R.HIS_SEL :: (List.range 16).map R.HIS_REC) s t)

/-- A due record is written into the next erased slot with the next number and its flag, a sector's last slot making the
next sector's erase due; a failed write moves on to the next slot with its own flag and keeps the number; no flash
byte outside the slot changes. A mark programs one byte. An erase leaves 4,096 bytes of 0xFF, or stays due until after
the next record, with its flag. A scan of an empty log begins at slot 0, of one with a single valid closed record
behind it, with its number. A trip that was not recorded is recorded late. The window's selection is stored. The
model's choices it rests on are log entries 37, 46, 125. (R373, R374, R375, R376, R377, R388.) -/
def Obligations.FirstFaultLogIsKept : Prop :=
  -- FFL_RECORD_WRITE (R373)
  (∀ (s : State) (r : FflRec) (rest : List FflRec), s.ffl.due = r :: rest → s.has F.FFL_STATUS_SCANNED = true →
    s.logsWritten = true → s.phase ≠ 4 → Answers (exec (.fflRecordWrite true) s) fun t => t.ffl.due = rest ∧
    t.ffl.written = true ∧ t.ffl.slot = some s.recordSlot ∧ t.ffl.nextSlot = (s.recordSlot + 1) % logSlots ∧
    t.ffl.eraseDue = (if s.recordSlot % 64 = 63 then some ((s.recordSlot / 64 + 1) % 32) else s.ffl.eraseDue) ∧
    t.get F.FFL_LASTNO_RECNO = (if s.ffl.recno = 0 then (s.get F.FFL_LASTNO_RECNO + 1) % 2 ^ 32 else s.ffl.recno % 2 ^
      32) ∧
    t.flash = (s.flashProgram (fflBase + 64 * s.recordSlot) (r.bytes (if s.ffl.recno = 0 then (s.get
      F.FFL_LASTNO_RECNO + 1) % 2 ^ 32 else s.ffl.recno))).flash ∧
    t.has F.FFL_STATUS_BUSY = !rest.isEmpty ∧ t.has G.FFL_WRITTEN.bit = true ∧
    SameFlash (fflBase + 64 * s.recordSlot) 64 s t) ∧
  -- FFL_RECORD_WRITE (R373)
  (∀ (s : State) (r : FflRec) (rest : List FflRec), s.ffl.due = r :: rest → s.has F.FFL_STATUS_SCANNED = true →
    s.logsWritten = true → s.calm 0x2A = true → Answers (exec (.fflRecordWrite false) s) fun t =>
    t.ffl.due = r :: rest ∧ t.ffl.nextSlot = (s.recordSlot + 1) % logSlots ∧
    t.ffl.recno = (if s.ffl.recno = 0 then (s.get F.FFL_LASTNO_RECNO + 1) % 2 ^ 32 else s.ffl.recno) ∧
    t.has G.FFL_WRITE_FAIL.bit = true ∧ t.has G.FLT_CONT.bit = true ∧ t.free = s.free + 1 ∧
    SameFlash (fflBase + 64 * s.recordSlot) 64 s t) ∧
  -- FFL_MARK (R374)
  (∀ (s : State) (n : Nat), s.ffl.markSlot = some n → s.ffl.markCommit = true → s.has F.SYS_STATE_DONE = true →
    s.logsWritten = true → s.flashFree = true → Answers (exec (.fflMark) s) fun t => t.ffl.markSlot = none ∧
    t.flash = (s.flashProgram (fflBase + 64 * n + 3) [0x44#8]).flash ∧ SameFlash (fflBase + 64 * n + 3) 1 s t ∧
    SameWords [] s t) ∧
  -- FFL_SECTOR_ERASE (R375)
  (∀ (s : State) (c : Nat), s.ffl.eraseDue = some c → s.logsWritten = true → s.flashFree = true →
    s.ffl.eraseWait = false → Answers (exec (.fflSectorErase true) s) fun t => t.ffl.eraseDue = none ∧
    t.flashRead (fflBase + 4096 * c) 4096 = List.replicate 4096 0xFF#8 ∧ SameFlash (fflBase + 4096 * c) 4096 s t ∧
    SameWords [] s t) ∧
  -- FFL_SECTOR_ERASE (R375)
  (∀ (s : State) (c : Nat), s.ffl.eraseDue = some c → s.logsWritten = true → s.flashFree = true →
    s.ffl.eraseWait = false → s.calm 0x2A = true → Answers (exec (.fflSectorErase false) s) fun t =>
    t.ffl.eraseDue = some c ∧ t.ffl.eraseWait = true ∧ t.has G.FFL_WRITE_FAIL.bit = true ∧ t.has G.FLT_CONT.bit = true ∧
    SameFlash (fflBase + 4096 * c) 4096 s t) ∧
  -- FFL_SCAN (R376)
  (∀ (s : State), s.isIn .spring = true → s.has F.FFL_STATUS_SCANNED = false → s.usedSlots = [] →
    Answers (exec (.fflScan) s) fun t => t.has F.FFL_STATUS_SCANNED = true ∧ t.get F.FFL_STATUS_COUNT = 0 ∧
    t.ffl.nextSlot = 0 ∧ SameWords [R.FFL_STATUS] s t) ∧
  -- FFL_SCAN (R376)
  (∀ (s : State) (n : Nat), s.isIn .spring = true → s.has F.FFL_STATUS_SCANNED = false → s.usedSlots = [n] →
    recValid (s.logBytes n) = true → leAt (s.logBytes n) 3 1 ≠ 0xFF → Answers (exec (.fflScan) s) fun t =>
    t.has F.FFL_STATUS_SCANNED = true ∧ t.get F.FFL_STATUS_COUNT = 1 ∧
    t.get F.FFL_STATUS_NEWEST = n % 2 ^ F.FFL_STATUS_NEWEST.width ∧
    t.get F.FFL_LASTNO_RECNO = recNo (s.logBytes n) % 2 ^ F.FFL_LASTNO_RECNO.width ∧ t.ffl.slot = some n ∧
    t.ffl.nextSlot = s.erasedFrom ((n + 1) % logSlots) ∧ SameWords [R.FFL_STATUS, R.FFL_LASTNO] s t) ∧
  -- FFL_DEFERRED_RECORD (R377)
  (∀ (s : State), s.isIn .spring = true → s.has F.FFL_STATUS_SCANNED = true → s.island.recordDue = true →
    s.get F.SAF_TRIP_CODE ≠ 0 → Answers (exec (.fflDeferredRecord) s) fun t => t.ffl.due.dropLast = s.ffl.due ∧
    (t.ffl.due.getLast?.map (fun r => (r.deferred, r.first, r.vin, r.state)) = some (true, 0xFF, 0xFFFF, s.get
      F.SAF_TRIP_PREV_STATE)) ∧
    t.island.recordDue = false ∧ t.has F.FFL_STATUS_BUSY = true ∧ SameWords [R.FFL_STATUS] s t) ∧
  -- FFL_SEL_LOAD (R388)
  (∀ (s : State) (w : Word), Answers (exec (.fflSelLoad w) s) fun t => t.get F.FFL_SEL_SLOT = w.toNat % 2 ^ 11 ∧
    t.has F.FFL_SEL_BACK = w.getLsbD 16 ∧ t.ffl = s.ffl)

/-- For every command c and state with c at the front of its queue, step is exec of c on the state with the rest of the
queue. With an empty queue the block idles: 1,024 fabric cycles pass and nothing else changes (the model's choice, log
entry 2). (file 95; log entry 2 for the idle step, which is the model's choice.) -/
def Obligations.StepRunsTheFrontCommand : Prop :=
  (∀ (c : Instr) (s : State) (rest : List Instr), s.pending = c :: rest → step s = exec c { s with pending := rest }) ∧
  (∀ s : State, s.pending = [] → step s = .next { s with now := s.now + 1024 })

/-- State.reset is canonical, in ROM boot with an empty queue and empty memories; the words of Table MAP-4 that need no
image and no OTP read their stated values (SYS_ID, HIF_IRQ_EN, SAF_DWTIME, SEC_PORTEN, SCH_DATA, PD_STATUSk,
CHK_STATUSk, CHK_CAPk, CRC_STATUSu, MSR_GPWn), and every other word reads 0. That moment and the empty memories are
the model's choice (log entries 5 to 7). (R619, R618; the moment of State.reset and what unwritten memory holds are
the model's choices, log entries 5 to 7.) -/
def Obligations.ResetLeavesTheStatedValues : Prop :=
  State.reset.wf = true ∧ State.reset.isIn .romBoot = true ∧ State.reset.pending = [] ∧ State.reset.flash = [] ∧
  State.reset.otp = [] ∧ State.reset.sram = [] ∧ State.reset.engMem = [] ∧
  State.reset.word R.SYS_ID = 0x91600101#32 ∧ State.reset.word R.HIF_IRQ_EN = 3#32 ∧
  State.reset.word R.SAF_DWTIME = 0xFFFF0000#32 ∧ State.reset.word R.SEC_PORTEN = 0x1FF#32 ∧
  State.reset.word R.SCH_DATA = 0xFF#32 ∧ (∀ k : PortId, State.reset.word (R.PD_STATUS k) = 0x11#32) ∧
  (∀ k : PortId, k.isModule = true →
    State.reset.word (R.CHK_STATUS k) = 0xFFFF0000#32 ∧ State.reset.word (R.CHK_CAP k) = 0xFFFFFFFF#32) ∧
  (∀ u : Fin 4, State.reset.word (R.CRC_STATUS u.val) = 0x1F000000#32) ∧
  (∀ n : Fin 9, State.reset.word (R.MSR_GPW n.val) = 0xFF#32) ∧
  (∀ a : Nat, a ∉ [R.SYS_ID, R.HIF_IRQ_EN, R.SAF_DWTIME, R.SEC_PORTEN, R.SCH_DATA] → (∀ k : PortId, a ≠ R.PD_STATUS k) →
    (∀ k : PortId, a ≠ R.CHK_STATUS k ∧ a ≠ R.CHK_CAP k) → (∀ u : Fin 4, a ≠ R.CRC_STATUS u.val) →
    (∀ n : Fin 9, a ≠ R.MSR_GPW n.val) → State.reset.word a = 0#32)

/-- From every state whose register bank, flash, OTP array, shared memory and engine memories are in canonical form
(addresses strictly rising, no entry equal to what an unlisted address reads as), any step, whatever command it
carries out, answers a state of which the same holds. (the canonical form of the register bank, the flash, the OTP
array, shared memory and the engines' memories.) -/
def Obligations.EveryStepKeepsTheStoresCanonical : Prop :=
  ∀ s t : State, s.wf = true → step s = .next t → t.wf = true

/-- From every state, whatever commands wait, a run of any number of steps answers a next state at every step: the model
has no command that stops it, and faults of the part are effects on its state. (no operation of the table is without
effect or leaves the device states of Table SEA-1.) -/
def Obligations.NoRunStops : Prop :=
  ∀ (n : Nat) (s : State), safeRun n s = true

/-- For every state and whatever command it carries out, a step answers a state whose time is not earlier, and whose queue
is the old one without its front command. (R565; the queue is the model's.) -/
def Obligations.TimeNeverRunsBackAndTheQueueDrains : Prop :=
  ∀ s t : State, step s = .next t → s.now ≤ t.now ∧ t.pending = s.pending.tail

/-- Every command that writesMemory does not name completes in every state with the flash, the OTP array, the shared
memory and the engines' memories exactly as before; the list names 49 of the 275 commands. (the frame of all
memories.) -/
def Obligations.OnlyNamedCommandsWriteMemory : Prop :=
  ∀ (c : Instr) (s : State), writesMemory c = false →
    Answers (exec c s) fun t => t.flash = s.flash ∧ t.otp = s.otp ∧ t.sram = s.sram ∧ t.engMem = s.engMem

/-- For every state, whatever command it carries out, every OTP bit that is 1 before a step is 1 after it. (R498, R502.) -/
def Obligations.ProgrammedOtpBitsStayProgrammed : Prop :=
  ∀ (s t : State) (w i : Nat), step s = .next t → (s.otpCell w).getLsbD i = true → (t.otpCell w).getLsbD i = true

/-- For every state, address and byte list, a programmed byte reads as the AND of its old value and the given one; a byte
of an erased run reads 0xFF; every byte outside the run reads as before. (the flash of R87, as the model's shared
operations program and erase it.) -/
def Obligations.FlashProgramsOnlyClearBits : Prop :=
  (∀ (s : State) (a : Nat) (bs : List Byte) (i : Nat), bankRead erased (s.flashProgram a bs).flash i =
    if a ≤ i ∧ i < a + bs.length then bankRead erased s.flash i &&& bs.getD (i - a) 0xFF#8 else bankRead erased s.flash i) ∧
  (∀ (s : State) (a n i : Nat), bankRead erased (s.flashErase a n).flash i =
    if a ≤ i ∧ i < a + n then 0xFF#8 else bankRead erased s.flash i)

/-- Where two states are in canonical form and every register word, flash byte, OTP cell, shared byte and engine memory
word reads the same in both, their register banks and memories are equal data. (the canonical form, the model's choice
of data for the stores.) -/
def Obligations.CanonicalStoresWithEqualReadsAreEqual : Prop :=
  ∀ s t : State, s.wf = true → t.wf = true → (∀ a, s.word a = t.word a) →
    (∀ a, bankRead erased s.flash a = bankRead erased t.flash a) → (∀ a, s.otpCell a = t.otpCell a) →
    (∀ a, bankRead sramZero s.sram a = bankRead sramZero t.sram a) →
    (∀ a, bankRead zeroWord s.engMem a = bankRead zeroWord t.engMem a) →
    s.regs = t.regs ∧ s.flash = t.flash ∧ s.otp = t.otp ∧ s.sram = t.sram ∧ s.engMem = t.engMem

/-- For every W1C flag of the part, every written word and every set of flags that hardware sets in the same cycle: the
flag is 1 afterwards where hardware sets it, whatever is written, and otherwise where it was 1 and is not written 1;
its counter rises by one, at most to 255, where hardware sets it and else stays. No committed write changes a counter.
T0 and an internal restart leave flag and counter 0. (R490.) -/
def Obligations.FlagsFollowSetClearAndCount : Prop :=
  (∀ (s : State) (g : Flag) (reg : BitVec 16) (w hw : Word), g ∈ allFlags → reg.toNat = g.bit.reg →
    Answers (exec (.flagClear reg w hw) s) fun t =>
      t.has g.bit = (hw.getLsbD g.bit.lo || (s.has g.bit && !w.getLsbD g.bit.lo)) ∧
      t.get g.cnt = (if hw.getLsbD g.bit.lo then min 255 (s.get g.cnt + 1) else s.get g.cnt)) ∧
  (∀ (s : State) (g : Flag) (w : Word), g ∈ allFlags → (s.commitWord g.cnt.reg w).get g.cnt = s.get g.cnt) ∧
  (∀ (s : State) (g : Flag) (vislLost : Bool), g ∈ allFlags →
    Answers (exec (.powerOnReset vislLost) s) fun t => t.has g.bit = false ∧ t.get g.cnt = 0) ∧
  (∀ (s : State) (g : Flag) (n : Nat), g ∈ allFlags →
    (s.internalRestart n).has g.bit = false ∧ (s.internalRestart n).get g.cnt = 0)

/-- A configuration write with INIT, from the claimer, with no claimer, or from another writer while the unit is not busy,
takes the claim for its writer, counts 0 and sets the running value to the initial value, XORed with the low bits of
FOLD where FOLD_MODE is 2. A configuration write of another writer without INIT or while busy, a FEED or CTX write of
another or while busy, a BLKL write of another or with GO while busy, and a BLKA write of another change nothing but
the unit's REFUSED flag and its counter. A unit belongs to another where its owner is neither nobody nor the writer.
(R574.) -/
def Obligations.CheckValueUnitsBelongToTheirClaimer : Prop :=
  (∀ (s : State) (u : Fin 4) (writer : Fin 17), s.crcForeign u.val writer.val = true ↔
    s.get (F.CRC_STATUS_OWNER u.val) ≠ 0x1F ∧ s.get (F.CRC_STATUS_OWNER u.val) ≠ writer.val) ∧
  (∀ (s : State) (u : Fin 4) (writer : Fin 17) (w : Word), w.getLsbD 31 = true →
    (s.crcForeign u.val writer.val = false ∨ s.has (F.CRC_STATUS_BUSY u.val) = false) →
    Answers (exec (.crcInit u writer w) s) fun t =>
      t.get (F.CRC_STATUS_OWNER u.val) = writer.val ∧ t.get (F.CRC_STATUS_COUNT u.val) = 0 ∧
      t.get (F.CRC_CTX_CTX u.val) = (if t.get (F.CRC_CFG_FOLD_MODE u.val) = 2
        then crcView (t.crcUnit u.val) (t.crcUnit u.val).init ^^^ (s.get (F.CRC_FOLD_FOLD u.val) % 2 ^ (t.crcUnit u.val).width)
        else crcView (t.crcUnit u.val) (t.crcUnit u.val).init) % 2 ^ 32) ∧
  (∀ (s : State) (u : Fin 4) (writer : Fin 17) (w : Word), s.crcForeign u.val writer.val = true →
    (w.getLsbD 31 = false ∨ s.has (F.CRC_STATUS_BUSY u.val) = true) →
    exec (.crcInit u writer w) s = .next (s.flag (G.CRC_REFUSED u.val))) ∧
  (∀ (s : State) (u : Fin 4) (writer : Fin 17) (w : Word),
    (s.crcForeign u.val writer.val = true ∨ s.has (F.CRC_STATUS_BUSY u.val) = true) →
    exec (.crcFeed u writer w) s = .next (s.flag (G.CRC_REFUSED u.val)) ∧
    exec (.crcCtxRestore u writer w) s = .next (s.flag (G.CRC_REFUSED u.val))) ∧
  (∀ (s : State) (u : Fin 4) (writer : Fin 17) (w : Word),
    (s.crcForeign u.val writer.val = true ∨ (w.getLsbD 31 = true ∧ s.has (F.CRC_STATUS_BUSY u.val) = true)) →
    exec (.crcBlock u writer w) s = .next (s.flag (G.CRC_REFUSED u.val))) ∧
  (∀ (s : State) (u : Fin 4) (writer : Fin 17) (w : Word), s.crcForeign u.val writer.val = true →
    s.writeBlka u.val writer.val w = s.flag (G.CRC_REFUSED u.val))

/-- Where the data of hub port k is on and a condition no longer holds, the port's data goes off, and of the packets in
the hub exactly those toward port k, and those of port k that no buffer has taken yet, are gone; every other packet
stays in its place and order, those received whole from port k among them. (R402.) -/
def Obligations.DisabledHubPortsDropTheirPackets : Prop :=
  ∀ (s : State) (k : Fin 8) (link : BitVec 4) (speed up : BitVec 3) (upConf mf0Conf : Bool) (events : List HubEvent), s.hubBlock (hubPort k) ≠ 0 →
    s.has (F.HUB_PSTAT_DATA_ON (hubPort k)) = true →
    Answers (exec (.hubPortDataEnable k link speed up upConf mf0Conf events) s) fun t =>
      t.has (F.HUB_PSTAT_DATA_ON (hubPort k)) = false ∧
      (∀ p ∈ t.hub.pkts, p.port = k.val → p.up = true) ∧
      t.hub.pkts.map (fun p => (p.up, p.port, p.prio)) =
        (s.hub.pkts.filter fun p => !(decide (p.port = k.val) && (!p.up || decide (p.store = 3)))).map
          (fun p => (p.up, p.port, p.prio))

/-- A request is pending exactly while HIF_IRQ AND HIF_IRQ_EN is not 0. The bits of HIF_IRQ are levels: a response waits,
EVT_WR differs from EVT_RD, records were lost since EVT_STATUS was read. Taking the response removes the first,
advancing EVT_RD to EVT_WR the second, reading EVT_STATUS the third. (R546.) -/
def Obligations.RequestsFollowTheInterruptWord : Prop :=
  (∀ s : State, s.irqPending = true ↔ (s.irqWord &&& s.word R.HIF_IRQ_EN).toNat % 8 ≠ 0) ∧
  (∀ s : State, s.irqWord.getLsbD 0 = decide (s.get F.MBX_STATUS_STATE = 2) ∧
    s.irqWord.getLsbD 1 = decide (s.get F.EVT_WR_WR ≠ s.get F.EVT_RD_RD) ∧ s.irqWord.getLsbD 2 = s.hif.lostChanged) ∧
  (∀ s : State, s.mailboxServed = true → s.get F.MBX_STATUS_STATE = 2 →
    Answers (exec .mbxTake s) fun t => t.irqWord.getLsbD 0 = false) ∧
  (∀ s : State, s.ringServed = true → Answers (exec (.evtRdWrite (s.word R.EVT_WR)) s) fun t => t.irqWord.getLsbD 1 = false) ∧
  (∀ s : State, s.ringServed = true → Answers (exec .evtStatusRead s) fun t => t.irqWord.getLsbD 2 = false)

/-- For each of the commands that are nothing but the end of a timer (60 of them, named in timerOf), in every state in
which that timer is not armed, exec answers exactly the state it was given (the model's reading, log entries 3 and 4).
(R34; that the end of a timer that does not run changes nothing is log entries 3 and 4.) -/
def Obligations.StoppedTimersElapseIntoNothing : Prop :=
  ∀ (c : Instr) (x : TimerId) (s : State), timerOf c = some x → s.armed x = false → exec c s = .next s

/-- For each of the messages of Power Delivery (messageOn names them with their port and MessageID): where the port does
not receive, nothing changes; a message with the MessageID of the one before is answered with GoodCRC and changes
nothing else; while the port engine does not run a new one is answered with GoodCRC and joins the queue behind at most
three others, and nothing else changes; with four waiting it is not taken, and the queue's flag and warning alone come
about. (R218, R187, R15; that a message to a port that does not receive changes nothing is log entry 4.) -/
def Obligations.MessagesAreHeardQueuedOrLost : Prop :=
  ∀ (c : Instr) (k : PortId) (id : BitVec 3) (s : State), messageOn c = some (k, id) →
    (s.pdReceives k = false → exec c s = .next s) ∧
    (s.pdReceives k = true → (s.port k).pd.lastRx c = some id.toNat →
      exec c s = .next (s.modPd k fun p => { p with acked := some id.toNat })) ∧
    (s.pdReceives k = true → (s.port k).pd.lastRx c ≠ some id.toNat → s.policyRuns k = false → (s.port k).pd.rxq.length < 4 →
      exec c s = .next (s.modPd k fun p => { p.noteRx c id.toNat with rxq := p.rxq ++ [c] })) ∧
    (s.pdReceives k = true → (s.port k).pd.lastRx c ≠ some id.toNat → s.policyRuns k = false → 4 ≤ (s.port k).pd.rxq.length →
      exec c s = .next ((s.flag (G.PD_Q_FULL k)).warn (portFault k 0 0x17)))

/-- Where the ring is served and is not full of unread records, posting an event makes it the newest record, with the
number held, the device state, its source, code and time; EVT_WR rises by one, the number's low 24 bits advance by one
and wrap while its epoch stays, the ring holds one more record up to 256, and no other register word changes but the
functions' status. Where the ring is not served nothing changes. (R552, R554, R555.) -/
def Obligations.EventsTakeRisingNumbers : Prop :=
  (∀ (s : State) (source code : Nat), s.ringServed = true → s.unread < 256 →
    (s.post source code).hif.ring.getLast? = some { dseq := s.get F.SYS_SEQ_NEXT_DSEQ_NEXT_DSEQ, flags := s.get F.SYS_STATE_STATE, source := source, code := code, tb := s.tb } ∧
    (s.post source code).get F.EVT_WR_WR = (s.get F.EVT_WR_WR + 1) % 2 ^ 32 ∧
    (s.post source code).get F.SYS_SEQ_NEXT_DSEQ_NEXT_DSEQ / 2 ^ 24 = s.get F.SYS_SEQ_NEXT_DSEQ_NEXT_DSEQ / 2 ^ 24 ∧
    (s.post source code).get F.SYS_SEQ_NEXT_DSEQ_NEXT_DSEQ % 2 ^ 24 = (s.get F.SYS_SEQ_NEXT_DSEQ_NEXT_DSEQ + 1) % 2 ^ 24 ∧
    (s.hif.ring.length ≤ 256 → (s.post source code).hif.ring.length = min 256 (s.hif.ring.length + 1)) ∧
    SameWords [R.EVT_WR, R.SYS_SEQ_NEXT_DSEQ, R.MGT_STATUS 0, R.MGT_STATUS 1] s (s.post source code)) ∧
  (∀ (s : State) (source code : Nat), s.ringServed = false → s.post source code = s)

/-- A committed write to the island's page or to a reserved word changes nothing. A word with neither RW nor W1C nor WO
fields keeps every register word as it is, but for the count of refused writes where it holds RWS fields. A word
without an operation of its own takes the written value in its RW fields, loses the W1C bits written 1 and keeps every
other bit. (R539, R609, R449.) -/
def Obligations.CommittedWordsChangeOnlyWritableFields : Prop :=
  (∀ (s : State) (a : Nat) (w : Word), a / 256 = 6 → s.commitWord a w = s) ∧
  (∀ (s : State) (a : Nat) (w : Word), regFam? a = none → s.commitWord a w = s) ∧
  (∀ (s : State) (a : Nat) (w : Word) (f : RegFam), regFam? a = some f → s.pageOff (a / 256) = false → a / 256 ≠ 6 →
    f.rw = 0#32 → f.w1c = 0#32 → f.wo = 0#32 →
    (s.commitWord a w).get F.PROT_STATUS_WR_REFUSED =
      (if f.rws = 0#32 then s.get F.PROT_STATUS_WR_REFUSED else min (2 ^ 16 - 1) (s.get F.PROT_STATUS_WR_REFUSED + 1)) ∧
    SameWords [R.PROT_STATUS] s (s.commitWord a w)) ∧
  (∀ (s : State) (a : Nat) (w : Word) (f : RegFam), regFam? a = some f → s.pageOff (a / 256) = false → a / 256 ≠ 6 →
    f.rws = 0#32 → s.writeSpecial a w = none →
    (s.commitWord a w).word a = ((s.word a &&& ~~~ f.rw &&& ~~~ (f.w1c &&& w)) ||| (w &&& f.rw)) ∧
    SameWords [a] s (s.commitWord a w))

/-- After an internal restart by transition n below 16, every register word outside SYS_STATE, SAF_STATUS and the retained
words has its reset value; SYS_STRAP, the trace head and the trip words keep theirs, the previous HSEQ and DSEQ are
the last ones issued, SYS_STATE shows ROM boot with the state before, n, the Winter count and DW_RESTARTED, SAF_STATUS
keeps DW_COUNT alone, and flash, OTP and the queue stand. (R618, R553; the flash, the OTP array and the order in which
SYS_STATE is written are R32 and R35.) -/
def Obligations.RestartsKeepOnlyRetainedWords : Prop :=
  ∀ (s : State) (n : Nat), n < 16 →
    (∀ a, a ∉ retainedWords → a ≠ R.SYS_STATE → a ≠ R.SAF_STATUS → (s.internalRestart n).word a = regReset a) ∧
    (∀ a ∈ [R.SYS_STRAP, R.SQC_TRC_HEAD, R.SAF_TRIP, R.SAF_TRIP_TBL, R.SAF_TRIP_TBH], (s.internalRestart n).word a = s.word a) ∧
    (s.internalRestart n).get F.SYS_SEQ_PREV_HSEQ_PREV_HSEQ = s.get F.SYS_SEQ_LAST_HSEQ_LAST_HSEQ ∧
    (s.internalRestart n).get F.SYS_SEQ_PREV_DSEQ_PREV_DSEQ = s.hif.lastDseq % 2 ^ 32 ∧
    (s.internalRestart n).get F.SYS_STATE_STATE = 0 ∧
    (s.internalRestart n).get F.SYS_STATE_PREV = s.get F.SYS_STATE_STATE ∧
    (s.internalRestart n).get F.SYS_STATE_ENTRY = n ∧
    (s.internalRestart n).get F.SYS_STATE_WRST_CNT = s.get F.SYS_STATE_WRST_CNT ∧
    (s.internalRestart n).get F.SYS_STATE_DW_RESTARTED = s.get F.SYS_STATE_DW_RESTARTED ∧
    (s.internalRestart n).get F.SAF_STATUS_DW_COUNT = s.get F.SAF_STATUS_DW_COUNT ∧
    (s.internalRestart n).flash = s.flash ∧ (s.internalRestart n).otp = s.otp ∧ (s.internalRestart n).pending = s.pending

/-- A fatal fault, not of an absent port or rail, raised in Spring or Summer, with no handover pause running, leaves
Winter entered by T9 from the state before, with WINTER_OFF asserted. An island trip anywhere outside Deep Winter
leaves Deep Winter entered by T12 with the code, the detail and the state before it latched, ISL_OFF asserted, every
engine held in reset and the sink switch of port 9 off; in Deep Winter it changes nothing. (R35 T9 and T12, R461,
R463.) -/
def Obligations.FatalFaultsLeadToWinterAndTripsToDeepWinter : Prop :=
  (∀ (s : State) (code : Nat), faultClass code = 3 → s.sourceAbsent (faultSource code) = false → s.isAny [.spring, .summer] = true →
    s.upd.paused = false →
    (s.raise code).isIn .winter = true ∧ (s.raise code).has F.SAF_STATUS_WINTER_OFF = true ∧
    (s.raise code).get F.SYS_STATE_ENTRY = 9 ∧ (s.raise code).get F.SYS_STATE_PREV = s.get F.SYS_STATE_STATE) ∧
  (∀ (s : State) (code detail : Nat), s.isIn .deepWinter = false →
    (s.trip code detail).isIn .deepWinter = true ∧ (s.trip code detail).get F.SYS_STATE_ENTRY = 12 ∧
    (s.trip code detail).get F.SAF_TRIP_CODE = code % 2 ^ F.SAF_TRIP_CODE.width ∧
    (s.trip code detail).get F.SAF_TRIP_DETAIL = detail % 2 ^ F.SAF_TRIP_DETAIL.width ∧
    (s.trip code detail).get F.SAF_TRIP_PREV_STATE = s.get F.SYS_STATE_STATE ∧
    (s.trip code detail).has F.SAF_STATUS_ISL_OFF = true ∧ (s.trip code detail).boot.engRun = 0 ∧
    (s.trip code detail).pins.p9swg = false) ∧
  (∀ (s : State) (code detail : Nat), s.isIn .deepWinter = true → s.trip code detail = s)
end

