-- ==== Sys2Proof/Laws/Bank.lean ====
section
/-!
SUPPORT. The laws of the sparse stores: every operation keeps the canonical form, a read after a write of the same address
gives the value written, and a write leaves every other address alone.
-/
namespace Sys2Proof.Machine

variable {β : Type}

theorem bankAbove_erase (lo : Nat) (m : Bank β) (a : Nat) (h : bankAbove lo m = true) : bankAbove lo (bankErase m a) = true := by
  induction m with
  | nil => rfl
  | cons e m ih =>
    simp only [bankAbove, List.all_cons, Bool.and_eq_true] at h ih ⊢
    simp only [bankErase]
    split
    · exact ih h.2
    · simp only [List.all_cons, Bool.and_eq_true]
      exact ⟨h.1, ih h.2⟩
theorem bankAbove_mono {lo lo' : Nat} (hl : lo ≤ lo') (m : Bank β) (h : bankAbove lo' m = true) : bankAbove lo m = true := by
  simp only [bankAbove, List.all_eq_true, decide_eq_true_eq] at h ⊢
  exact fun e he => Nat.lt_of_le_of_lt hl (h e he)
theorem bankWf_erase [DecidableEq β] (d : Nat → β) (m : Bank β) (a : Nat) (h : bankWf d m = true) : bankWf d (bankErase m a) = true := by
  induction m with
  | nil => rfl
  | cons e m ih =>
    simp only [bankWf, Bool.and_eq_true] at h
    simp only [bankErase]
    split
    · exact ih h.2
    · simp only [bankWf, Bool.and_eq_true]
      exact ⟨⟨h.1.1, bankAbove_erase _ _ _ h.1.2⟩, ih h.2⟩
theorem bankAbove_insert (lo : Nat) (m : Bank β) (a : Nat) (v : β) (hl : lo < a) (h : bankAbove lo m = true) :
    bankAbove lo (bankInsert m a v) = true := by
  induction m with
  | nil => simp [bankInsert, bankAbove, hl]
  | cons e m ih =>
    simp only [bankAbove, List.all_cons, Bool.and_eq_true, decide_eq_true_eq] at h ih
    simp only [bankInsert]
    split
    · simp only [bankAbove, List.all_cons, Bool.and_eq_true, decide_eq_true_eq]
      exact ⟨hl, h.1, h.2⟩
    · simp only [bankAbove, List.all_cons, Bool.and_eq_true, decide_eq_true_eq]
      exact ⟨h.1, ih h.2⟩
/-- An address that a store does not list. -/
def bankLacks (m : Bank β) (a : Nat) : Bool := m.all fun e => decide (e.1 ≠ a)
theorem bankLacks_erase (m : Bank β) (a : Nat) : bankLacks (bankErase m a) a = true := by
  induction m with
  | nil => rfl
  | cons e m ih =>
    simp only [bankErase]
    split
    · exact ih
    · rename_i hne
      simp only [bankLacks, List.all_cons, Bool.and_eq_true, decide_eq_true_eq]
      exact ⟨hne, ih⟩
theorem bankWf_insert [DecidableEq β] (d : Nat → β) (m : Bank β) (a : Nat) (v : β) (hv : v ≠ d a) (hm : bankLacks m a = true)
    (h : bankWf d m = true) : bankWf d (bankInsert m a v) = true := by
  induction m with
  | nil => simp [bankInsert, bankWf, bankAbove, hv]
  | cons e m ih =>
    simp only [bankWf, Bool.and_eq_true, decide_eq_true_eq] at h
    simp only [bankLacks, List.all_cons, Bool.and_eq_true, decide_eq_true_eq] at hm ih
    simp only [bankInsert]
    split
    · rename_i hlt
      simp only [bankWf, Bool.and_eq_true, decide_eq_true_eq]
      refine ⟨⟨hv, ?_⟩, h.1, h.2⟩
      simp only [bankAbove, List.all_cons, Bool.and_eq_true, decide_eq_true_eq]
      exact ⟨hlt, bankAbove_mono (Nat.le_of_lt hlt) m h.1.2⟩
    · rename_i hnlt
      simp only [bankWf, Bool.and_eq_true, decide_eq_true_eq]
      exact ⟨⟨h.1.1, bankAbove_insert _ _ _ _ (by omega) h.1.2⟩, ih hm.2 h.2⟩
/-- A write keeps the canonical form. -/
theorem bankWf_write [DecidableEq β] (d : Nat → β) (m : Bank β) (a : Nat) (v : β) (h : bankWf d m = true) :
    bankWf d (bankWrite d m a v) = true := by
  simp only [bankWrite]
  split
  · exact bankWf_erase d m a h
  · rename_i hv
    exact bankWf_insert d _ a v hv (bankLacks_erase m a) (bankWf_erase d m a h)
/-- A run of writes keeps the canonical form. -/
theorem bankWf_writeList [DecidableEq β] (d : Nat → β) (vs : List β) : ∀ (m : Bank β) (a : Nat), bankWf d m = true →
    bankWf d (bankWriteList d m a vs) = true := by
  induction vs with
  | nil => intro m a h; exact h
  | cons v vs ih => intro m a h; exact ih _ _ (bankWf_write d m a v h)
theorem bankAbove_clear (lo : Nat) (m : Bank β) (a n : Nat) (h : bankAbove lo m = true) : bankAbove lo (bankClear m a n) = true := by
  simp only [bankAbove, bankClear, List.all_eq_true, decide_eq_true_eq] at h ⊢
  exact fun e he => h e (List.mem_filter.mp he).1
/-- Clearing a range keeps the canonical form. -/
theorem bankWf_clear [DecidableEq β] (d : Nat → β) (m : Bank β) (a n : Nat) (h : bankWf d m = true) : bankWf d (bankClear m a n) = true := by
  induction m with
  | nil => rfl
  | cons e m ih =>
    simp only [bankWf, Bool.and_eq_true] at h
    simp only [bankClear, List.filter_cons]
    split
    · simp only [bankWf, Bool.and_eq_true]
      exact ⟨⟨h.1.1, bankAbove_clear _ _ _ _ h.1.2⟩, ih h.2⟩
    · exact ih h.2
/-- A fold of writes keeps the canonical form. -/
theorem bankWf_foldl [DecidableEq β] {γ : Type} (d : Nat → β) (f : Bank β → γ → Bank β) (hf : ∀ m x, bankWf d m = true → bankWf d (f m x) = true)
    (l : List γ) : ∀ m, bankWf d m = true → bankWf d (l.foldl f m) = true := by
  induction l with
  | nil => intro m h; exact h
  | cons x l ih => intro m h; exact ih _ (hf m x h)

theorem bankRead_erase_self (d : Nat → β) (m : Bank β) (a : Nat) : bankRead d (bankErase m a) a = d a := by
  induction m with
  | nil => rfl
  | cons e m ih =>
    simp only [bankErase]
    split
    · exact ih
    · rename_i hne
      simp only [bankRead, if_neg hne]
      exact ih
theorem bankRead_erase_other (d : Nat → β) (m : Bank β) (a b : Nat) (hab : b ≠ a) : bankRead d (bankErase m a) b = bankRead d m b := by
  induction m with
  | nil => rfl
  | cons e m ih =>
    obtain ⟨x, u⟩ := e
    simp only [bankErase]
    split
    · rename_i hx
      subst hx
      simp only [bankRead, if_neg (Ne.symm hab)]
      exact ih
    · simp only [bankRead]
      split
      · rfl
      · exact ih
theorem bankRead_insert_self (d : Nat → β) (m : Bank β) (a : Nat) (v : β) (hm : bankLacks m a = true) : bankRead d (bankInsert m a v) a = v := by
  induction m with
  | nil => simp [bankInsert, bankRead]
  | cons e m ih =>
    obtain ⟨x, u⟩ := e
    simp only [bankLacks, List.all_cons, Bool.and_eq_true, decide_eq_true_eq] at hm ih
    simp only [bankInsert]
    split
    · simp [bankRead]
    · simp only [bankRead, if_neg hm.1]
      exact ih hm.2
theorem bankRead_insert_other (d : Nat → β) (m : Bank β) (a b : Nat) (v : β) (hab : b ≠ a) : bankRead d (bankInsert m a v) b = bankRead d m b := by
  induction m with
  | nil => simp [bankInsert, bankRead, Ne.symm hab]
  | cons e m ih =>
    obtain ⟨x, u⟩ := e
    simp only [bankInsert]
    split
    · simp [bankRead, Ne.symm hab]
    · simp only [bankRead]
      split
      · rfl
      · exact ih
/-- A read after a write of the same address gives the value written. -/
@[simp] theorem bankRead_write_self [DecidableEq β] (d : Nat → β) (m : Bank β) (a : Nat) (v : β) : bankRead d (bankWrite d m a v) a = v := by
  simp only [bankWrite]
  split
  · rename_i h
    rw [bankRead_erase_self, h]
  · exact bankRead_insert_self d _ a v (bankLacks_erase m a)
/-- A write leaves every other address alone. -/
theorem bankRead_write_other [DecidableEq β] (d : Nat → β) (m : Bank β) (a b : Nat) (v : β) (hab : b ≠ a) :
    bankRead d (bankWrite d m a v) b = bankRead d m b := by
  simp only [bankWrite]
  split
  · exact bankRead_erase_other d m a b hab
  · rw [bankRead_insert_other d _ a b v hab, bankRead_erase_other d m a b hab]

end Sys2Proof.Machine
end

