-- ==== Sys2Proof/Laws/Field.lean ====
section
/-!
SUPPORT. Reading a register word or field after a write: the same field gives the value written, cut to its width; every
other word, and every field of the same word that shares no bit, stands.
-/
namespace Sys2Proof

/-- A field lies within its word. -/
def Fld.inWord (f : Fld) : Bool := Nat.ble (f.lo + f.width) 32
/-- Two fields share no bit of a word. -/
def Fld.apart (g f : Fld) : Bool := g.reg != f.reg || Nat.ble (g.lo + g.width) f.lo || Nat.ble (f.lo + f.width) g.lo

theorem mask_getLsbD (f : Fld) (i : Nat) (hi : i < 32) : f.mask.getLsbD i = (decide (f.lo ≤ i) && decide (i < f.lo + f.width)) := by
  simp only [Fld.mask, BitVec.getLsbD_shiftLeft, BitVec.getLsbD_ofNat, Nat.testBit_two_pow_sub_one]
  by_cases h : i < f.lo
  · simp [h, hi, Nat.not_le.mpr h]
  · have h' : f.lo ≤ i := Nat.le_of_not_lt h
    simp only [hi, h, h', decide_true, decide_false, Bool.not_false, Bool.true_and]
    have h1 : i - f.lo < 32 := by omega
    simp only [h1, decide_true, Bool.true_and]
    exact decide_eq_decide.mpr (by omega)

theorem insert_getLsbD (f : Fld) (w : Word) (v i : Nat) (hi : i < 32) :
    (f.insert w v).getLsbD i = if f.lo ≤ i ∧ i < f.lo + f.width then v.testBit (i - f.lo) else w.getLsbD i := by
  simp only [Fld.insert, BitVec.getLsbD_or, BitVec.getLsbD_and, BitVec.getLsbD_not, mask_getLsbD f i hi,
    BitVec.getLsbD_shiftLeft, BitVec.getLsbD_ofNat, Nat.testBit_mod_two_pow]
  by_cases h : f.lo ≤ i
  · have h1 : i - f.lo < 32 := by omega
    by_cases h2 : i < f.lo + f.width
    · have h3 : i - f.lo < f.width := by omega
      simp [h, h2, h3, hi, h1, Nat.not_lt.mpr h]
    · have h3 : ¬ i - f.lo < f.width := by omega
      simp [h, h2, h3, hi]
  · have h2 : i < f.lo := Nat.lt_of_not_le h
    simp [h, h2, hi]

theorem extract_testBit (f : Fld) (w : Word) (i : Nat) : (f.extract w).testBit i = (decide (i < f.width) && w.getLsbD (f.lo + i)) := by
  simp only [Fld.extract, Nat.testBit_mod_two_pow, Nat.testBit_div_two_pow, BitVec.testBit_toNat]
  rw [Nat.add_comm]

theorem extract_lt (f : Fld) (w : Word) : f.extract w < 2 ^ f.width := Nat.mod_lt _ (Nat.two_pow_pos _)

/-- A field written reads the value, cut to its width. -/
theorem extract_insert_self (f : Fld) (w : Word) (v : Nat) (h : f.inWord = true) : f.extract (f.insert w v) = v % 2 ^ f.width := by
  have h' : f.lo + f.width ≤ 32 := Nat.le_of_ble_eq_true h
  apply Nat.eq_of_testBit_eq
  intro i
  rw [extract_testBit, Nat.testBit_mod_two_pow]
  by_cases hi : i < f.width
  · rw [insert_getLsbD f w v _ (by omega), if_pos (by omega), Nat.add_sub_cancel_left]
  · simp [hi]

/-- A field that shares no bit with the one written stands. -/
theorem extract_insert_apart (g f : Fld) (w : Word) (v : Nat) (hg : g.inWord = true)
    (h : g.lo + g.width ≤ f.lo ∨ f.lo + f.width ≤ g.lo) : g.extract (f.insert w v) = g.extract w := by
  have h' : g.lo + g.width ≤ 32 := Nat.le_of_ble_eq_true hg
  apply Nat.eq_of_testBit_eq
  intro i
  rw [extract_testBit, extract_testBit]
  by_cases hi : i < g.width
  · rw [insert_getLsbD f w v _ (by omega), if_neg (by omega)]
  · simp [hi]

namespace Machine
variable (s : State)

@[simp] theorem word_setWord_self (a : Nat) (w : Word) : (s.setWord a w).word a = w := bankRead_write_self _ _ _ _
theorem word_setWord_other (a b : Nat) (w : Word) (h : b ≠ a) : (s.setWord a w).word b = s.word b := bankRead_write_other _ _ _ _ _ h

theorem get_setWord (f : Fld) (w : Word) : (s.setWord f.reg w).get f = f.extract w := by simp only [State.get, word_setWord_self]
theorem get_setWord_other (f : Fld) (a : Nat) (w : Word) (h : f.reg ≠ a) : (s.setWord a w).get f = s.get f := by
  simp only [State.get, word_setWord_other s a f.reg w h]
/-- A field written reads the value, cut to its width. -/
theorem get_set_self (f : Fld) (v : Nat) (h : f.inWord = true) : (s.set f v).get f = v % 2 ^ f.width := by
  simp only [State.get, State.set, word_setWord_self, extract_insert_self f _ v h]
/-- A write of a field leaves every field apart from it. -/
theorem get_set_apart (g f : Fld) (v : Nat) (hg : g.inWord = true) (h : g.apart f = true) : (s.set f v).get g = s.get g := by
  by_cases hr : g.reg = f.reg
  · simp only [Fld.apart, Bool.or_eq_true, bne_iff_ne, ne_eq, hr, not_true, false_or] at h
    rw [State.get, State.set, hr, word_setWord_self, State.get, hr]
    exact extract_insert_apart g f _ v hg (h.imp Nat.le_of_ble_eq_true Nat.le_of_ble_eq_true)
  · exact get_setWord_other s g f.reg _ hr
theorem word_set_other (f : Fld) (v b : Nat) (h : b ≠ f.reg) : (s.set f v).word b = s.word b := word_setWord_other s _ _ _ h
theorem get_lt (f : Fld) : s.get f < 2 ^ f.width := extract_lt f _

theorem get_put_self (f : Fld) (b : Bool) (h : f.inWord = true) (hw : f.width = 1) : (s.put f b).get f = b2n b := by
  rw [State.put, get_set_self s f _ h, hw]
  cases b <;> rfl
theorem has_put_self (f : Fld) (b : Bool) (h : f.inWord = true) (hw : f.width = 1) : (s.put f b).has f = b := by
  rw [State.has, get_put_self s f b h hw]
  cases b <;> rfl
theorem get_put_apart (g f : Fld) (b : Bool) (hg : g.inWord = true) (h : g.apart f = true) : (s.put f b).get g = s.get g :=
  get_set_apart s g f _ hg h
theorem has_set_apart (g f : Fld) (v : Nat) (hg : g.inWord = true) (h : g.apart f = true) : (s.set f v).has g = s.has g := by
  rw [State.has, get_set_apart s g f v hg h]
  rfl
theorem has_put_apart (g f : Fld) (b : Bool) (hg : g.inWord = true) (h : g.apart f = true) : (s.put f b).has g = s.has g :=
  has_set_apart s g f _ hg h
theorem get_bump_apart (g f : Fld) (n : Nat) (hg : g.inWord = true) (h : g.apart f = true) : (s.bump f n).get g = s.get g :=
  get_set_apart s g f _ hg h
theorem has_bump_apart (g f : Fld) (n : Nat) (hg : g.inWord = true) (h : g.apart f = true) : (s.bump f n).has g = s.has g :=
  has_set_apart s g f _ hg h
/-- A counter increased saturates at its largest value. -/
theorem get_bump_self (f : Fld) (n : Nat) (h : f.inWord = true) : (s.bump f n).get f = min (2 ^ f.width - 1) (s.get f + n) := by
  rw [State.bump, get_set_self s f _ h, satAdd, Nat.mod_eq_of_lt]
  have := Nat.two_pow_pos f.width
  omega
theorem get_flag_apart (g : Fld) (f : Flag) (hg : g.inWord = true) (hb : g.apart f.bit = true) (hc : g.apart f.cnt = true) :
    (s.flag f).get g = s.get g := by
  rw [State.flag, get_bump_apart _ _ _ _ hg hc, get_put_apart _ _ _ _ hg hb]
theorem has_flag_apart (g : Fld) (f : Flag) (hg : g.inWord = true) (hb : g.apart f.bit = true) (hc : g.apart f.cnt = true) :
    (s.flag f).has g = s.has g := by
  rw [State.has, get_flag_apart s g f hg hb hc]
  rfl
/-- A flag set reads 1. -/
theorem has_flag_self (f : Flag) (h : f.bit.inWord = true) (hw : f.bit.width = 1) (hc : f.bit.apart f.cnt = true) :
    (s.flag f).has f.bit = true := by
  rw [State.flag, has_bump_apart _ _ _ _ h hc, has_put_self _ _ _ h hw]

end Machine
end Sys2Proof
end

