-- ==== Sys2Proof/Laws/Kept.lean ====
section
/-!
SUPPORT. What every operation keeps, whatever its operands: the queue, the canonical form of the stores, the direction of
time and every programmed OTP bit. The lemmas of the operations follow in the files named Kept and stand for unfolding them.
-/
namespace Sys2Proof.Machine

/-- The memories stand: the flash, the OTP cells, shared words and the engines' memories. -/
structure MemSame (s t : State) : Prop where
  flash : t.flash = s.flash
  otp : t.otp = s.otp
  sram : t.sram = s.sram
  engMem : t.engMem = s.engMem

theorem MemSame.refl (s : State) : MemSame s s := ⟨rfl, rfl, rfl, rfl⟩
theorem MemSame.trans {a b c : State} (h : MemSame a b) (k : MemSame b c) : MemSame a c :=
  ⟨k.flash.trans h.flash, k.otp.trans h.otp, k.sram.trans h.sram, k.engMem.trans h.engMem⟩

/-- What an operation that turns `s` into `t` has kept; with `μ` false it writes no memory either. -/
structure Kept (μ : Bool) (s t : State) : Prop where
  pending : t.pending = s.pending
  wf : s.wf = true → t.wf = true
  now : s.now ≤ t.now
  otp : ∀ a, bankRead zeroWord s.otp a &&& bankRead zeroWord t.otp a = bankRead zeroWord s.otp a
  mem : μ = false → MemSame s t

variable {s₀ s t : State} {μ : Bool}

theorem and_kept_trans {a b c : Word} (h : a &&& b = a) (k : b &&& c = b) : a &&& c = a := by
  rw [← h, BitVec.and_assoc, k]

theorem Kept.refl (s : State) : Kept μ s s := ⟨rfl, id, Nat.le_refl _, fun _ => BitVec.and_self, fun _ => MemSame.refl s⟩
theorem Kept.trans (h : Kept μ s₀ s) (k : Kept μ s t) : Kept μ s₀ t :=
  ⟨k.pending.trans h.pending, fun w => k.wf (h.wf w), Nat.le_trans h.now k.now, fun a => and_kept_trans (h.otp a) (k.otp a),
    fun m => (h.mem m).trans (k.mem m)⟩
/-- A change of anything but the stores, the queue and time. -/
theorem Kept.same (h : Kept μ s₀ s) (hp : t.pending = s.pending) (hr : t.regs = s.regs) (hf : t.flash = s.flash)
    (ho : t.otp = s.otp) (hs : t.sram = s.sram) (he : t.engMem = s.engMem) (hn : t.now = s.now) : Kept μ s₀ t :=
  h.trans ⟨hp, fun w => by simpa only [State.wf, hr, hf, ho, hs, he] using w, Nat.le_of_eq hn.symm,
    fun a => by rw [ho]; exact BitVec.and_self, fun _ => ⟨hf, ho, hs, he⟩⟩

/-- A record that differs in nothing that `Kept` speaks of. -/
theorem kept_mk
    {tbZero' : Option Nat} {timers' : List (TimerId × Nat)} {env' : Env} {pins' : Pins} {ports' : Vector Port 9} {rails'
    : Vector Rail 16} {seq' : Seq} {axl' : Axl} {bus' : Bus} {island' : Island} {hif' : Hif} {flt' : Collector} {ffl' :
    Ffl} {boot' : Boot} {msr' : Msr} {cap' : Cap} {hub' : Hub} {mgt' : Vector MgtFn 2} {streams' : Vector Stream 8}
    {his' : His} {tmb' : Tmb} {upd' : Upd} {sec' : Sec} {bud' : Bud} {free' : Nat}
    (h : Kept μ s₀ s) :
    Kept μ s₀ { s with
      tbZero := tbZero', timers := timers', env := env', pins := pins', ports := ports', rails := rails', seq := seq',
      axl := axl', bus := bus', island := island', hif := hif', flt := flt', ffl := ffl', boot := boot', msr := msr',
      cap := cap', hub := hub', mgt := mgt', streams := streams', his := his', tmb := tmb', upd := upd', sec := sec',
      bud := bud', free := free' } :=
  Kept.same h rfl rfl rfl rfl rfl rfl rfl
/-- A change of the register bank. -/
theorem Kept.regs (h : Kept μ s₀ s) (hp : t.pending = s.pending) (hr : bankWf regReset s.regs = true → bankWf regReset t.regs = true)
    (hf : t.flash = s.flash) (ho : t.otp = s.otp) (hs : t.sram = s.sram) (he : t.engMem = s.engMem) (hn : t.now = s.now) :
    Kept μ s₀ t := by
  refine h.trans ⟨hp, fun w => ?_, Nat.le_of_eq hn.symm, fun a => by rw [ho]; exact BitVec.and_self, fun _ => ⟨hf, ho, hs, he⟩⟩
  simp only [State.wf, Bool.and_eq_true, hf, ho, hs, he] at w ⊢
  exact ⟨⟨⟨⟨hr w.1.1.1.1, w.1.1.1.2⟩, w.1.1.2⟩, w.1.2⟩, w.2⟩
/-- A change of the flash. -/
theorem Kept.flash (h : Kept true s₀ s) (hp : t.pending = s.pending) (hr : t.regs = s.regs)
    (hf : bankWf erased s.flash = true → bankWf erased t.flash = true) (ho : t.otp = s.otp) (hs : t.sram = s.sram)
    (he : t.engMem = s.engMem) (hn : t.now = s.now) : Kept true s₀ t := by
  refine h.trans ⟨hp, fun w => ?_, Nat.le_of_eq hn.symm, fun a => by rw [ho]; exact BitVec.and_self, nofun⟩
  simp only [State.wf, Bool.and_eq_true, hr, ho, hs, he] at w ⊢
  exact ⟨⟨⟨⟨w.1.1.1.1, hf w.1.1.1.2⟩, w.1.1.2⟩, w.1.2⟩, w.2⟩
/-- A change of shared SRAM. -/
theorem Kept.sram (h : Kept true s₀ s) (hp : t.pending = s.pending) (hr : t.regs = s.regs) (hf : t.flash = s.flash)
    (ho : t.otp = s.otp) (hs : bankWf sramZero s.sram = true → bankWf sramZero t.sram = true) (he : t.engMem = s.engMem)
    (hn : t.now = s.now) : Kept true s₀ t := by
  refine h.trans ⟨hp, fun w => ?_, Nat.le_of_eq hn.symm, fun a => by rw [ho]; exact BitVec.and_self, nofun⟩
  simp only [State.wf, Bool.and_eq_true, hr, hf, ho, he] at w ⊢
  exact ⟨⟨⟨⟨w.1.1.1.1, w.1.1.1.2⟩, w.1.1.2⟩, hs w.1.2⟩, w.2⟩
/-- A change of the engines' memories. -/
theorem Kept.engMem (h : Kept true s₀ s) (hp : t.pending = s.pending) (hr : t.regs = s.regs) (hf : t.flash = s.flash)
    (ho : t.otp = s.otp) (hs : t.sram = s.sram) (he : bankWf zeroWord s.engMem = true → bankWf zeroWord t.engMem = true)
    (hn : t.now = s.now) : Kept true s₀ t := by
  refine h.trans ⟨hp, fun w => ?_, Nat.le_of_eq hn.symm, fun a => by rw [ho]; exact BitVec.and_self, nofun⟩
  simp only [State.wf, Bool.and_eq_true, hr, hf, ho, hs] at w ⊢
  exact ⟨⟨⟨⟨w.1.1.1.1, w.1.1.1.2⟩, w.1.1.2⟩, w.1.2⟩, he w.2⟩

/-- A value is put aside under a name: it is kept, and whatever is kept may stand for it. -/
theorem Kept.aside {p : Prop} {x : State} (hp : Kept μ s₀ x → p) (hx : Kept μ s₀ x) : p := hp hx
/-- The same for the state that comes with an answer. -/
theorem Kept.aside2 {p : Prop} {α : Type} {x : α × State} (hp : Kept μ s₀ x.2 → p) (hx : Kept μ s₀ x.2) : p := hp hx
/-- What holds of every kept state; it marks where a value gives way to any kept state. -/
theorem Kept.hold {p : Prop} (h : p) : p := h
theorem Kept.ite {c : Prop} [Decidable c] (hs : c → Kept μ s₀ s) (ht : ¬ c → Kept μ s₀ t) : Kept μ s₀ (if c then s else t) := by
  split
  · exact hs ‹_›
  · exact ht ‹_›
/-- Every operation of a list in order. -/
theorem forAll_kept {α : Type} {act : α → State → State} (ha : ∀ x t, Kept μ s₀ t → Kept μ s₀ (act x t)) (l : List α) :
    ∀ {s}, Kept μ s₀ s → Kept μ s₀ (forAll l act s) := by
  induction l with
  | nil => exact fun h => h
  | cons x l ih => exact fun {s} h => ih (s := act x s) (ha x s h)
theorem foldl_kept {α : Type} {act : State → α → State} (ha : ∀ t x, Kept μ s₀ t → Kept μ s₀ (act t x)) (l : List α) :
    ∀ {s}, Kept μ s₀ s → Kept μ s₀ (l.foldl act s) := by
  induction l with
  | nil => exact fun h => h
  | cons x l ih => exact fun {s} h => ih (s := act s x) (ha s x h)
theorem foldl2_kept {α β : Type} {act : β × State → α → β × State} (ha : ∀ p x, Kept μ s₀ p.2 → Kept μ s₀ (act p x).2) (l : List α) :
    ∀ {p}, Kept μ s₀ p.2 → Kept μ s₀ (l.foldl act p).2 := by
  induction l with
  | nil => exact fun h => h
  | cons x l ih => exact fun {p} h => ih (p := act p x) (ha p x h)
theorem when_kept {c : Bool} {act : State → State} (h : Kept μ s₀ s) (ha : ∀ t, Kept μ s₀ t → Kept μ s₀ (act t)) : Kept μ s₀ (s.when c act) := by
  unfold State.when
  split
  · exact ha s h
  · exact h

theorem setWord_kept {a : Nat} {w : Word} (h : Kept μ s₀ s) : Kept μ s₀ (s.setWord a w) :=
  Kept.regs h rfl (bankWf_write _ _ _ _) rfl rfl rfl rfl rfl
theorem advanceTo_kept {n : Nat} (h : Kept μ s₀ s) : Kept μ s₀ (s.advanceTo n) :=
  h.trans ⟨rfl, id, Nat.le_max_left _ _, fun _ => BitVec.and_self, fun _ => ⟨rfl, rfl, rfl, rfl⟩⟩
theorem disarm_kept {i : TimerId} (h : Kept μ s₀ s) : Kept μ s₀ (s.disarm i) := Kept.same h rfl rfl rfl rfl rfl rfl rfl
theorem elapse_kept {i : TimerId} {t : State} (h : Kept μ s₀ s) (he : s.elapse i = some t) : Kept μ s₀ t := by
  simp only [State.elapse] at he
  split at he
  · cases he
  · cases he
    exact disarm_kept (advanceTo_kept h)
theorem onElapse_kept {i : TimerId} {act : State → State} (h : Kept μ s₀ s) (ha : ∀ t, Kept μ s₀ t → Kept μ s₀ (act t)) :
    Kept μ s₀ (s.onElapse i act) := by
  unfold State.onElapse
  split
  · exact h
  · rename_i t ht
    exact ha t (elapse_kept h ht)

/-- A command answers a next state, and it has kept what every operation keeps. -/
def OutKept (μ : Bool) (s₀ : State) (o : Out) : Prop := ∃ t, o = .next t ∧ Kept μ s₀ t
theorem OutKept.next (h : Kept μ s₀ t) : OutKept μ s₀ (.next t) := ⟨t, rfl, h⟩

theorem OutKept.ite {c : Prop} [Decidable c] {o o' : Out} (hs : c → OutKept μ s₀ o) (ht : ¬ c → OutKept μ s₀ o') :
    OutKept μ s₀ (if c then o else o') := by
  split
  · exact hs ‹_›
  · exact ht ‹_›

/-- The state that an operation may answer has kept what every operation keeps. -/
def OptKept (μ : Bool) (s₀ : State) (o : Option State) : Prop := ∀ t, o = some t → Kept μ s₀ t
theorem OptKept.none : OptKept μ s₀ none := fun _ h => nomatch h
theorem OptKept.some (h : Kept μ s₀ t) : OptKept μ s₀ (some t) := fun _ e => Option.some.inj e ▸ h
theorem OptKept.ite {c : Prop} [Decidable c] {o o' : Option State} (hs : c → OptKept μ s₀ o) (ht : ¬ c → OptKept μ s₀ o') :
    OptKept μ s₀ (if c then o else o') := by
  split
  · exact hs ‹_›
  · exact ht ‹_›

theorem OptKept.dite {c : Prop} [Decidable c] {o : c → Option State} {o' : ¬ c → Option State} (hs : ∀ h, OptKept μ s₀ (o h))
    (ht : ∀ h, OptKept μ s₀ (o' h)) : OptKept μ s₀ (if h : c then o h else o' h) := by
  split
  · exact hs ‹_›
  · exact ht ‹_›

end Sys2Proof.Machine
end

