-- ==== Sys2Proof/Laws/KeptOps.lean ====
section
/-!
SUPPORT. What every operation keeps (see Kept): the shared operations: registers and flags, events, ports, rails, transitions, flash and images.
-/
set_option linter.tactic.unusedName false
set_option linter.unusedTactic false
set_option linter.unreachableTactic false
namespace Sys2Proof.Machine

variable {s₀ : State} {μ : Bool}

/-! Machine/Ops -/

theorem set_kept {s : State} {f : Fld} {v : Nat} (h : Kept μ s₀ s) :
    Kept μ s₀ (State.set s f v) := by
  unfold State.set
  repeat' first
    | with_reducible first | assumption
    | with_reducible first | apply setWord_kept

theorem put_kept {s : State} {f : Fld} {b : Bool} (h : Kept μ s₀ s) :
    Kept μ s₀ (State.put s f b) := by
  unfold State.put
  repeat' first
    | with_reducible first | assumption
    | with_reducible first | apply set_kept

theorem putBit_kept {s : State} {f : Fld} {i : Nat} {b : Bool} (h : Kept μ s₀ s) :
    Kept μ s₀ (State.putBit s f i b) := by
  unfold State.putBit
  repeat' first
    | with_reducible first | assumption
    | with_reducible first | apply set_kept

theorem bump_kept {s : State} {f : Fld} {n : Nat} (h : Kept μ s₀ s) :
    Kept μ s₀ (State.bump s f n) := by
  unfold State.bump
  repeat' first
    | with_reducible first | assumption
    | with_reducible first | apply set_kept

theorem modPort_kept {s : State} {k : PortId} {f : Port → Port} (h : Kept μ s₀ s) :
    Kept μ s₀ (State.modPort s k f) := by
  unfold State.modPort
  repeat' first
    | (extract_lets +onlyGivenNames x; first | (refine Kept.aside (μ := μ) (s₀ := s₀) (x := x) ?_ ?_; clear_value x; revert x; refine Kept.hold ?_; intro x hx; rotate_left; subst x) | skip)
    | with_reducible first | assumption
    | with_reducible intro _ _ _
    | with_reducible intro _ _
    | with_reducible intro _
    | with_reducible (apply kept_mk; assumption)
    | with_reducible first | apply set_kept

theorem modAtt_kept {s : State} {k : PortId} {f : AttPort → AttPort} (h : Kept μ s₀ s) :
    Kept μ s₀ (State.modAtt s k f) := by
  unfold State.modAtt
  repeat' first
    | (extract_lets +onlyGivenNames x; first | (refine Kept.aside (μ := μ) (s₀ := s₀) (x := x) ?_ ?_; clear_value x; revert x; refine Kept.hold ?_; intro x hx; rotate_left; subst x) | skip)
    | with_reducible first | assumption
    | with_reducible intro _ _ _
    | with_reducible intro _ _
    | with_reducible intro _
    | with_reducible (apply kept_mk; assumption)
    | with_reducible first | apply modPort_kept

theorem modPd_kept {s : State} {k : PortId} {f : PdPort → PdPort} (h : Kept μ s₀ s) :
    Kept μ s₀ (State.modPd s k f) := by
  unfold State.modPd
  repeat' first
    | (extract_lets +onlyGivenNames x; first | (refine Kept.aside (μ := μ) (s₀ := s₀) (x := x) ?_ ?_; clear_value x; revert x; refine Kept.hold ?_; intro x hx; rotate_left; subst x) | skip)
    | with_reducible first | assumption
    | with_reducible intro _ _ _
    | with_reducible intro _ _
    | with_reducible intro _
    | with_reducible (apply kept_mk; assumption)
    | with_reducible first | apply modPort_kept

theorem modCnv_kept {s : State} {k : PortId} {f : CnvPort → CnvPort} (h : Kept μ s₀ s) :
    Kept μ s₀ (State.modCnv s k f) := by
  unfold State.modCnv
  repeat' first
    | (extract_lets +onlyGivenNames x; first | (refine Kept.aside (μ := μ) (s₀ := s₀) (x := x) ?_ ?_; clear_value x; revert x; refine Kept.hold ?_; intro x hx; rotate_left; subst x) | skip)
    | with_reducible first | assumption
    | with_reducible intro _ _ _
    | with_reducible intro _ _
    | with_reducible intro _
    | with_reducible (apply kept_mk; assumption)
    | with_reducible first | apply modPort_kept

theorem modChk_kept {s : State} {k : PortId} {f : ChkPort → ChkPort} (h : Kept μ s₀ s) :
    Kept μ s₀ (State.modChk s k f) := by
  unfold State.modChk
  repeat' first
    | (extract_lets +onlyGivenNames x; first | (refine Kept.aside (μ := μ) (s₀ := s₀) (x := x) ?_ ?_; clear_value x; revert x; refine Kept.hold ?_; intro x hx; rotate_left; subst x) | skip)
    | with_reducible first | assumption
    | with_reducible intro _ _ _
    | with_reducible intro _ _
    | with_reducible intro _
    | with_reducible (apply kept_mk; assumption)
    | with_reducible first | apply modPort_kept

theorem modBrk_kept {s : State} {k : PortId} {f : BrkPort → BrkPort} (h : Kept μ s₀ s) :
    Kept μ s₀ (State.modBrk s k f) := by
  unfold State.modBrk
  repeat' first
    | (extract_lets +onlyGivenNames x; first | (refine Kept.aside (μ := μ) (s₀ := s₀) (x := x) ?_ ?_; clear_value x; revert x; refine Kept.hold ?_; intro x hx; rotate_left; subst x) | skip)
    | with_reducible first | assumption
    | with_reducible intro _ _ _
    | with_reducible intro _ _
    | with_reducible intro _
    | with_reducible (apply kept_mk; assumption)
    | with_reducible first | apply modPort_kept

theorem modPins_kept {s : State} {k : PortId} {f : PortPins → PortPins} (h : Kept μ s₀ s) :
    Kept μ s₀ (State.modPins s k f) := by
  unfold State.modPins
  repeat' first
    | (extract_lets +onlyGivenNames x; first | (refine Kept.aside (μ := μ) (s₀ := s₀) (x := x) ?_ ?_; clear_value x; revert x; refine Kept.hold ?_; intro x hx; rotate_left; subst x) | skip)
    | with_reducible first | assumption
    | with_reducible intro _ _ _
    | with_reducible intro _ _
    | with_reducible intro _
    | with_reducible (apply kept_mk; assumption)
    | with_reducible first | apply modPort_kept

theorem modRail_kept {s : State} {j : RailId} {f : Rail → Rail} (h : Kept μ s₀ s) :
    Kept μ s₀ (State.modRail s j f) := by
  unfold State.modRail
  repeat' first
    | (extract_lets +onlyGivenNames x; first | (refine Kept.aside (μ := μ) (s₀ := s₀) (x := x) ?_ ?_; clear_value x; revert x; refine Kept.hold ?_; intro x hx; rotate_left; subst x) | skip)
    | with_reducible first | assumption
    | with_reducible intro _ _ _
    | with_reducible intro _ _
    | with_reducible intro _
    | with_reducible (apply kept_mk; assumption)
    | with_reducible first | apply set_kept

theorem arm_kept {s : State} {t : TimerId} {cycles : Nat} (h : Kept μ s₀ s) :
    Kept μ s₀ (State.arm s t cycles) := by
  unfold State.arm
  repeat' first
    | (extract_lets +onlyGivenNames x; first | (refine Kept.aside (μ := μ) (s₀ := s₀) (x := x) ?_ ?_; clear_value x; revert x; refine Kept.hold ?_; intro x hx; rotate_left; subst x) | skip)
    | with_reducible first | assumption
    | with_reducible (apply kept_mk; assumption)
    | with_reducible first | apply disarm_kept

theorem armOnce_kept {s : State} {t : TimerId} {cycles : Nat} (h : Kept μ s₀ s) :
    Kept μ s₀ (State.armOnce s t cycles) := by
  unfold State.armOnce
  repeat' first
    | with_reducible first | assumption | apply Kept.ite
    | with_reducible intro _
    | with_reducible first | apply arm_kept
    | split

theorem takeFree_kept {s : State} (h : Kept μ s₀ s) :
    Kept μ s₀ (State.takeFree s).2 := by
  unfold State.takeFree
  repeat' first
    | (extract_lets +onlyGivenNames x; first | (refine Kept.aside (μ := μ) (s₀ := s₀) (x := x) ?_ ?_; clear_value x; revert x; refine Kept.hold ?_; intro x hx; rotate_left; subst x) | (refine Kept.aside2 (μ := μ) (s₀ := s₀) (x := x) ?_ ?_; clear_value x; revert x; refine Kept.hold ?_; intro x hx; rotate_left; subst x) | skip)
    | with_reducible first | assumption
    | dsimp only
    | with_reducible (apply kept_mk; assumption)

/-! Machine/Flags -/

theorem flag_kept {s : State} {g : Flag} (h : Kept μ s₀ s) :
    Kept μ s₀ (State.flag s g) := by
  unfold State.flag
  repeat' first
    | with_reducible first | assumption
    | with_reducible first | apply bump_kept | apply put_kept

theorem clearFlag_kept {s : State} {g : Flag} (h : Kept μ s₀ s) :
    Kept μ s₀ (State.clearFlag s g) := by
  unfold State.clearFlag
  repeat' first
    | with_reducible first | assumption
    | with_reducible first | apply put_kept

theorem clearMask_kept {s : State} {reg : Nat} {w : Word} (h : Kept μ s₀ s) :
    Kept μ s₀ (State.clearMask s reg w) := by
  unfold State.clearMask
  repeat' first
    | with_reducible first | assumption
    | with_reducible first | apply setWord_kept

theorem clearWithSet_kept {s : State} {g : Flag} {hardwareSets : Bool} (h : Kept μ s₀ s) :
    Kept μ s₀ (State.clearWithSet s g hardwareSets) := by
  unfold State.clearWithSet
  repeat' first
    | with_reducible first | assumption | apply Kept.ite
    | with_reducible intro _
    | with_reducible first | apply clearFlag_kept | apply flag_kept
    | split

/-! Machine/Events -/

theorem takeDseq_kept {s : State} (h : Kept μ s₀ s) :
    Kept μ s₀ (State.takeDseq s).2 := by
  unfold State.takeDseq
  repeat' first
    | (extract_lets +onlyGivenNames x; first | (refine Kept.aside (μ := μ) (s₀ := s₀) (x := x) ?_ ?_; clear_value x; revert x; refine Kept.hold ?_; intro x hx; rotate_left; subst x) | (refine Kept.aside2 (μ := μ) (s₀ := s₀) (x := x) ?_ ?_; clear_value x; revert x; refine Kept.hold ?_; intro x hx; rotate_left; subst x) | skip)
    | with_reducible first | assumption
    | dsimp only
    | with_reducible (apply kept_mk; assumption)
    | with_reducible first | apply set_kept

theorem enqueue_kept {s : State} {r : FaultRec} (h : Kept μ s₀ s) :
    Kept μ s₀ (State.enqueue s r) := by
  unfold State.enqueue
  repeat' first
    | (extract_lets +onlyGivenNames x; first | (refine Kept.aside (μ := μ) (s₀ := s₀) (x := x) ?_ ?_; clear_value x; revert x; refine Kept.hold ?_; intro x hx; rotate_left; subst x) | skip)
    | with_reducible first | assumption | apply Kept.ite
    | with_reducible intro _ _ _
    | with_reducible intro _ _
    | with_reducible intro _
    | with_reducible (apply kept_mk; assumption)
    | with_reducible first | apply bump_kept
    | split

theorem noteFault_kept {s : State} {code : Nat} {promoted : Bool} (h : Kept μ s₀ s) :
    Kept μ s₀ (State.noteFault s code promoted) := by
  unfold State.noteFault
  repeat' first
    | (extract_lets +onlyGivenNames x; first | (refine Kept.aside (μ := μ) (s₀ := s₀) (x := x) ?_ ?_; clear_value x; revert x; refine Kept.hold ?_; intro x hx; rotate_left; subst x) | skip)
    | with_reducible first | assumption
    | with_reducible first | apply enqueue_kept | apply put_kept | apply set_kept

theorem captureTrigger_kept {s : State} (h : Kept μ s₀ s) :
    Kept μ s₀ (State.captureTrigger s) := by
  unfold State.captureTrigger
  repeat' first
    | (extract_lets +onlyGivenNames x; first | (refine Kept.aside (μ := μ) (s₀ := s₀) (x := x) ?_ ?_; clear_value x; revert x; refine Kept.hold ?_; intro x hx; rotate_left; subst x) | skip)
    | with_reducible first | assumption | apply Kept.ite
    | with_reducible intro _
    | with_reducible (apply kept_mk; assumption)
    | with_reducible first | apply flag_kept | apply noteFault_kept | apply put_kept | apply set_kept
    | split

theorem captureEvent_kept {s : State} {src : Nat} {hit : Bool} (h : Kept μ s₀ s) :
    Kept μ s₀ (State.captureEvent s src hit) := by
  unfold State.captureEvent
  repeat' first
    | with_reducible first | assumption
    | with_reducible intro _ _ _
    | with_reducible intro _ _
    | with_reducible intro _
    | with_reducible first | apply captureTrigger_kept | apply when_kept

theorem recordFault_kept {s : State} {code : Nat} {promoted : Bool} (h : Kept μ s₀ s) :
    Kept μ s₀ (State.recordFault s code promoted) := by
  unfold State.recordFault
  repeat' first
    | (extract_lets +onlyGivenNames x; first | (refine Kept.aside (μ := μ) (s₀ := s₀) (x := x) ?_ ?_; clear_value x; revert x; refine Kept.hold ?_; intro x hx; rotate_left; subst x) | skip)
    | with_reducible first | assumption
    | with_reducible first | apply captureEvent_kept | apply noteFault_kept

theorem warn_kept {s : State} {code : Nat} (h : Kept μ s₀ s) :
    Kept μ s₀ (State.warn s code) := by
  unfold State.warn
  repeat' first
    | with_reducible first | assumption
    | with_reducible first | apply flag_kept | apply recordFault_kept

theorem warnEvtLost_kept {s : State} (h : Kept μ s₀ s) :
    Kept μ s₀ (State.warnEvtLost s) := by
  unfold State.warnEvtLost
  repeat' first
    | (extract_lets +onlyGivenNames x; first | (refine Kept.aside (μ := μ) (s₀ := s₀) (x := x) ?_ ?_; clear_value x; revert x; refine Kept.hold ?_; intro x hx; rotate_left; subst x) | skip)
    | with_reducible first | assumption | apply Kept.ite
    | with_reducible intro _
    | split
    | with_reducible (apply kept_mk; assumption)
    | with_reducible first | apply warn_kept

theorem loseEvents_kept {s : State} (h : Kept μ s₀ s) :
    Kept μ s₀ (State.loseEvents s) := by
  unfold State.loseEvents
  repeat' first
    | (extract_lets +onlyGivenNames x; first | (refine Kept.aside (μ := μ) (s₀ := s₀) (x := x) ?_ ?_; clear_value x; revert x; refine Kept.hold ?_; intro x hx; rotate_left; subst x) | skip)
    | with_reducible first | assumption
    | with_reducible intro _ _ _
    | with_reducible intro _ _
    | with_reducible intro _
    | with_reducible (apply kept_mk; assumption)
    | with_reducible first | apply bump_kept | apply flag_kept | apply forAll_kept | apply set_kept | apply warnEvtLost_kept

theorem loseForFn_kept {s : State} {f : Fin 2} (h : Kept μ s₀ s) :
    Kept μ s₀ (State.loseForFn s f) := by
  unfold State.loseForFn
  repeat' first
    | (extract_lets +onlyGivenNames x; first | (refine Kept.aside (μ := μ) (s₀ := s₀) (x := x) ?_ ?_; clear_value x; revert x; refine Kept.hold ?_; intro x hx; rotate_left; subst x) | skip)
    | with_reducible first | assumption | apply Kept.ite
    | with_reducible intro _
    | with_reducible (apply kept_mk; assumption)
    | with_reducible first | apply bump_kept | apply set_kept
    | split

theorem postEvent_kept {s : State} {flags : Nat} {source : Nat} {code : Nat} {tb : Nat} (h : Kept μ s₀ s) :
    Kept μ s₀ (State.postEvent s flags source code tb) := by
  unfold State.postEvent
  repeat' first
    | (extract_lets +onlyGivenNames x; first | (refine Kept.aside (μ := μ) (s₀ := s₀) (x := x) ?_ ?_; clear_value x; revert x; refine Kept.hold ?_; intro x hx; rotate_left; subst x) | (refine Kept.aside2 (μ := μ) (s₀ := s₀) (x := x) ?_ ?_; clear_value x; revert x; refine Kept.hold ?_; intro x hx; rotate_left; subst x) | skip)
    | with_reducible first | assumption | apply Kept.ite
    | with_reducible intro _ _ _
    | with_reducible intro _ _
    | with_reducible intro _
    | dsimp only
    | split
    | with_reducible (apply kept_mk; assumption)
    | with_reducible first | apply loseEvents_kept | apply loseForFn_kept | apply set_kept | apply when_kept
    | with_reducible first | apply takeDseq_kept

theorem post_kept {s : State} {source : Nat} {code : Nat} (h : Kept μ s₀ s) :
    Kept μ s₀ (State.post s source code) := by
  unfold State.post
  repeat' first
    | with_reducible first | assumption
    | with_reducible first | apply postEvent_kept

theorem trace_kept {s : State} {code : Nat} {idx : Nat} {mv : Nat} (h : Kept μ s₀ s) :
    Kept μ s₀ (State.trace s code idx mv) := by
  unfold State.trace
  repeat' first
    | (extract_lets +onlyGivenNames x; first | (refine Kept.aside (μ := μ) (s₀ := s₀) (x := x) ?_ ?_; clear_value x; revert x; refine Kept.hold ?_; intro x hx; rotate_left; subst x) | skip)
    | with_reducible first | assumption
    | with_reducible intro _ _ _
    | with_reducible intro _ _
    | with_reducible intro _
    | with_reducible (apply kept_mk; assumption)
    | with_reducible first | apply bump_kept | apply set_kept

theorem traceRail_kept {s : State} {code : Nat} {j : RailId} (h : Kept μ s₀ s) :
    Kept μ s₀ (State.traceRail s code j) := by
  unfold State.traceRail
  repeat' first
    | with_reducible first | assumption
    | with_reducible first | apply trace_kept

theorem setPhase_kept {s : State} {p : Nat} (h : Kept μ s₀ s) :
    Kept μ s₀ (State.setPhase s p) := by
  unfold State.setPhase
  repeat' first
    | (extract_lets +onlyGivenNames x; first | (refine Kept.aside (μ := μ) (s₀ := s₀) (x := x) ?_ ?_; clear_value x; revert x; refine Kept.hold ?_; intro x hx; rotate_left; subst x) | skip)
    | with_reducible first | assumption | apply Kept.ite
    | with_reducible intro _
    | with_reducible first | apply set_kept | apply trace_kept
    | split

/-! Machine/PortOps -/

theorem stopConverter_kept {s : State} {k : PortId} (h : Kept μ s₀ s) :
    Kept μ s₀ (State.stopConverter s k) := by
  unfold State.stopConverter
  repeat' first
    | (extract_lets +onlyGivenNames x; first | (refine Kept.aside (μ := μ) (s₀ := s₀) (x := x) ?_ ?_; clear_value x; revert x; refine Kept.hold ?_; intro x hx; rotate_left; subst x) | skip)
    | with_reducible first | assumption | apply Kept.ite
    | with_reducible intro _ _ _
    | with_reducible intro _ _
    | with_reducible intro _
    | with_reducible (apply kept_mk; assumption)
    | with_reducible first | apply disarm_kept | apply modCnv_kept | apply put_kept | apply set_kept
    | split

theorem standConverter_kept {s : State} {k : PortId} (h : Kept μ s₀ s) :
    Kept μ s₀ (State.standConverter s k) := by
  unfold State.standConverter
  repeat' first
    | (extract_lets +onlyGivenNames x; first | (refine Kept.aside (μ := μ) (s₀ := s₀) (x := x) ?_ ?_; clear_value x; revert x; refine Kept.hold ?_; intro x hx; rotate_left; subst x) | skip)
    | with_reducible first | assumption
    | with_reducible first | apply disarm_kept | apply put_kept | apply set_kept

theorem disarmAll_kept {s : State} {l : List TimerId} (h : Kept μ s₀ s) :
    Kept μ s₀ (State.disarmAll s l) := by
  unfold State.disarmAll
  repeat' first
    | (extract_lets +onlyGivenNames x; first | (refine Kept.aside (μ := μ) (s₀ := s₀) (x := x) ?_ ?_; clear_value x; revert x; refine Kept.hold ?_; intro x hx; rotate_left; subst x) | skip)
    | with_reducible first | assumption
    | with_reducible intro _ _ _
    | with_reducible intro _ _
    | with_reducible intro _
    | with_reducible (apply kept_mk; assumption)

theorem openSwitch_kept {s : State} {k : PortId} (h : Kept μ s₀ s) :
    Kept μ s₀ (State.openSwitch s k) := by
  unfold State.openSwitch
  repeat' first
    | (extract_lets +onlyGivenNames x; first | (refine Kept.aside (μ := μ) (s₀ := s₀) (x := x) ?_ ?_; clear_value x; revert x; refine Kept.hold ?_; intro x hx; rotate_left; subst x) | skip)
    | with_reducible first | assumption | apply Kept.ite
    | with_reducible intro _ _ _
    | with_reducible intro _ _
    | with_reducible intro _
    | with_reducible (apply kept_mk; assumption)
    | with_reducible first | apply arm_kept | apply disarmAll_kept | apply modBrk_kept | apply put_kept | apply set_kept
    | split

theorem settleOpen_kept {s : State} {k : PortId} (h : Kept μ s₀ s) :
    Kept μ s₀ (State.settleOpen s k) := by
  unfold State.settleOpen
  repeat' first
    | (extract_lets +onlyGivenNames x; first | (refine Kept.aside (μ := μ) (s₀ := s₀) (x := x) ?_ ?_; clear_value x; revert x; refine Kept.hold ?_; intro x hx; rotate_left; subst x) | skip)
    | with_reducible first | assumption | apply Kept.ite
    | with_reducible intro _ _ _
    | with_reducible intro _ _
    | with_reducible intro _
    | with_reducible (apply kept_mk; assumption)
    | with_reducible first | apply modBrk_kept | apply set_kept
    | split

theorem vconnOff_kept {s : State} {k : PortId} (h : Kept μ s₀ s) :
    Kept μ s₀ (State.vconnOff s k) := by
  unfold State.vconnOff
  repeat' first
    | with_reducible first | assumption
    | with_reducible first | apply put_kept

theorem dropHealth_kept {s : State} {k : PortId} (h : Kept μ s₀ s) :
    Kept μ s₀ (State.dropHealth s k) := by
  unfold State.dropHealth
  repeat' first
    | (extract_lets +onlyGivenNames x; first | (refine Kept.aside (μ := μ) (s₀ := s₀) (x := x) ?_ ?_; clear_value x; revert x; refine Kept.hold ?_; intro x hx; rotate_left; subst x) | skip)
    | with_reducible first | assumption
    | with_reducible intro _ _ _
    | with_reducible intro _ _
    | with_reducible intro _
    | with_reducible (apply kept_mk; assumption)
    | with_reducible first | apply disarm_kept | apply modChk_kept

theorem clearPd_kept {s : State} {k : PortId} (h : Kept μ s₀ s) :
    Kept μ s₀ (State.clearPd s k) := by
  unfold State.clearPd
  repeat' first
    | (extract_lets +onlyGivenNames x; first | (refine Kept.aside (μ := μ) (s₀ := s₀) (x := x) ?_ ?_; clear_value x; revert x; refine Kept.hold ?_; intro x hx; rotate_left; subst x) | skip)
    | with_reducible first | assumption | apply Kept.ite
    | with_reducible intro _ _ _
    | with_reducible intro _ _
    | with_reducible intro _
    | with_reducible (apply kept_mk; assumption)
    | with_reducible first | apply disarmAll_kept | apply dropHealth_kept | apply modBrk_kept | apply modChk_kept
                           | apply modCnv_kept | apply modPd_kept | apply put_kept | apply set_kept | apply setWord_kept
                           | apply vconnOff_kept
    | split

theorem hardOpen_kept {s : State} {k : PortId} (h : Kept μ s₀ s) :
    Kept μ s₀ (State.hardOpen s k) := by
  unfold State.hardOpen
  repeat' first
    | with_reducible first | assumption
    | with_reducible first | apply clearPd_kept | apply openSwitch_kept | apply stopConverter_kept

theorem holdOpen_kept {s : State} {k : PortId} {untilDetach : Bool} (h : Kept μ s₀ s) :
    Kept μ s₀ (State.holdOpen s k untilDetach) := by
  unfold State.holdOpen
  repeat' first
    | (extract_lets +onlyGivenNames x; first | (refine Kept.aside (μ := μ) (s₀ := s₀) (x := x) ?_ ?_; clear_value x; revert x; refine Kept.hold ?_; intro x hx; rotate_left; subst x) | skip)
    | with_reducible first | assumption
    | with_reducible intro _ _ _
    | with_reducible intro _ _
    | with_reducible intro _
    | with_reducible (apply kept_mk; assumption)
    | with_reducible first | apply hardOpen_kept | apply modBrk_kept | apply settleOpen_kept

theorem abandonAms_kept {s : State} {k : PortId} (h : Kept μ s₀ s) :
    Kept μ s₀ (State.abandonAms s k) := by
  unfold State.abandonAms
  repeat' first
    | (extract_lets +onlyGivenNames x; first | (refine Kept.aside (μ := μ) (s₀ := s₀) (x := x) ?_ ?_; clear_value x; revert x; refine Kept.hold ?_; intro x hx; rotate_left; subst x) | skip)
    | with_reducible first | assumption
    | with_reducible intro _ _ _
    | with_reducible intro _ _
    | with_reducible intro _
    | with_reducible (apply kept_mk; assumption)
    | with_reducible first | apply disarmAll_kept | apply modPd_kept

theorem softOpen_kept {s : State} {k : PortId} (h : Kept μ s₀ s) :
    Kept μ s₀ (State.softOpen s k) := by
  unfold State.softOpen
  repeat' first
    | with_reducible first | assumption
    | with_reducible first | apply abandonAms_kept | apply openSwitch_kept | apply stopConverter_kept

theorem partFrom_kept {s : State} {k : PortId} (h : Kept μ s₀ s) :
    Kept μ s₀ (State.partFrom s k) := by
  unfold State.partFrom
  repeat' first
    | (extract_lets +onlyGivenNames x; first | (refine Kept.aside (μ := μ) (s₀ := s₀) (x := x) ?_ ?_; clear_value x; revert x; refine Kept.hold ?_; intro x hx; rotate_left; subst x) | skip)
    | with_reducible first | assumption
    | with_reducible intro _ _ _
    | with_reducible intro _ _
    | with_reducible intro _
    | with_reducible first | apply modAtt_kept | apply put_kept | apply set_kept | apply setWord_kept | apply when_kept

theorem disableAttach_kept {s : State} {k : PortId} (h : Kept μ s₀ s) :
    Kept μ s₀ (State.disableAttach s k) := by
  unfold State.disableAttach
  repeat' first
    | (extract_lets +onlyGivenNames x; first | (refine Kept.aside (μ := μ) (s₀ := s₀) (x := x) ?_ ?_; clear_value x; revert x; refine Kept.hold ?_; intro x hx; rotate_left; subst x) | skip)
    | with_reducible first | assumption
    | with_reducible intro _ _ _
    | with_reducible intro _ _
    | with_reducible intro _
    | with_reducible (apply kept_mk; assumption)
    | with_reducible first | apply disarmAll_kept | apply modAtt_kept | apply partFrom_kept | apply set_kept
                           | apply vconnOff_kept

theorem shutPort_kept {s : State} {k : PortId} (h : Kept μ s₀ s) :
    Kept μ s₀ (State.shutPort s k) := by
  unfold State.shutPort
  repeat' first
    | with_reducible first | assumption
    | with_reducible first | apply disableAttach_kept | apply disarmAll_kept | apply hardOpen_kept

theorem shed_kept {s : State} {k : PortId} (h : Kept μ s₀ s) :
    Kept μ s₀ (State.shed s k) := by
  unfold State.shed
  repeat' first
    | with_reducible first | assumption
    | with_reducible first | apply putBit_kept | apply softOpen_kept

/-! Machine/RailOps -/

theorem assertReset_kept {s : State} {n : Fin 4} (h : Kept μ s₀ s) :
    Kept μ s₀ (State.assertReset s n) := by
  unfold State.assertReset
  repeat' first
    | with_reducible first | assumption
    | with_reducible first | apply disarm_kept | apply putBit_kept

theorem assertWatching_kept {s : State} {j : RailId} (h : Kept μ s₀ s) :
    Kept μ s₀ (State.assertWatching s j) := by
  unfold State.assertWatching
  repeat' first
    | with_reducible first | assumption
    | with_reducible intro _ _ _
    | with_reducible intro _ _
    | with_reducible intro _
    | with_reducible first | apply assertReset_kept | apply forAll_kept | apply when_kept

theorem releaseRail_kept {s : State} {j : RailId} {discharge : Bool} {rstate : Nat} (h : Kept μ s₀ s) :
    Kept μ s₀ (State.releaseRail s j discharge rstate) := by
  unfold State.releaseRail
  repeat' first
    | (extract_lets +onlyGivenNames x; first | (refine Kept.aside (μ := μ) (s₀ := s₀) (x := x) ?_ ?_; clear_value x; revert x; refine Kept.hold ?_; intro x hx; rotate_left; subst x) | skip)
    | with_reducible first | assumption | apply Kept.ite
    | with_reducible intro _ _ _
    | with_reducible intro _ _
    | with_reducible intro _
    | with_reducible (apply kept_mk; assumption)
    | with_reducible first | apply assertWatching_kept | apply disarmAll_kept | apply modRail_kept | apply put_kept
                           | apply set_kept | apply traceRail_kept
    | split

theorem isolateRail_kept {s : State} {j : RailId} (h : Kept μ s₀ s) :
    Kept μ s₀ (State.isolateRail s j) := by
  unfold State.isolateRail
  repeat' first
    | (extract_lets +onlyGivenNames x; first | (refine Kept.aside (μ := μ) (s₀ := s₀) (x := x) ?_ ?_; clear_value x; revert x; refine Kept.hold ?_; intro x hx; rotate_left; subst x) | skip)
    | with_reducible first | assumption | apply Kept.ite
    | with_reducible intro _ _ _
    | with_reducible intro _ _
    | with_reducible intro _
    | with_reducible (apply kept_mk; assumption)
    | with_reducible first | apply modRail_kept | apply releaseRail_kept | apply arm_kept
    | split

theorem traceAsIn_kept {t : State} {s : State} (h : Kept μ s₀ t) (hs : Kept μ s₀ s) :
    Kept μ s₀ (State.traceAsIn t s) := by
  unfold State.traceAsIn
  repeat' first
    | (extract_lets +onlyGivenNames x; first | (refine Kept.aside (μ := μ) (s₀ := s₀) (x := x) ?_ ?_; clear_value x; revert x; refine Kept.hold ?_; intro x hx; rotate_left; subst x) | skip)
    | with_reducible first | assumption
    | with_reducible (apply kept_mk; assumption)
    | with_reducible first | apply setWord_kept

theorem winterTable_kept {s : State} {phase : Nat} {code : Nat} {clockRuns : Bool} (h : Kept μ s₀ s) :
    Kept μ s₀ (State.winterTable s phase code clockRuns) := by
  unfold State.winterTable
  repeat' first
    | (extract_lets +onlyGivenNames x; first | (refine Kept.aside (μ := μ) (s₀ := s₀) (x := x) ?_ ?_; clear_value x; revert x; refine Kept.hold ?_; intro x hx; rotate_left; subst x) | skip)
    | with_reducible first | assumption | apply Kept.ite
    | with_reducible intro _ _ _
    | with_reducible intro _ _
    | with_reducible intro _
    | with_reducible (apply kept_mk; assumption)
    | with_reducible first | apply assertReset_kept | apply disarmAll_kept | apply forAll_kept | apply modRail_kept
                           | apply put_kept | apply putBit_kept | apply releaseRail_kept | apply set_kept
                           | apply setPhase_kept | apply trace_kept | apply traceAsIn_kept | apply when_kept
    | split

theorem fflTrigger_kept {s : State} {code : Nat} {commit : Bool} (h : Kept μ s₀ s) :
    Kept μ s₀ (State.fflTrigger s code commit) := by
  unfold State.fflTrigger
  repeat' first
    | (extract_lets +onlyGivenNames x; first | (refine Kept.aside (μ := μ) (s₀ := s₀) (x := x) ?_ ?_; clear_value x; revert x; refine Kept.hold ?_; intro x hx; rotate_left; subst x) | skip)
    | with_reducible first | assumption
    | with_reducible intro _ _ _
    | with_reducible intro _ _
    | with_reducible intro _
    | with_reducible (apply kept_mk; assumption)
    | with_reducible first | apply put_kept

/-! Machine/Reaction -/

theorem writeSysState_kept {s : State} {d : DevState} {n : Nat} (h : Kept μ s₀ s) :
    Kept μ s₀ (State.writeSysState s d n) := by
  unfold State.writeSysState
  repeat' first
    | (extract_lets +onlyGivenNames x; first | (refine Kept.aside (μ := μ) (s₀ := s₀) (x := x) ?_ ?_; clear_value x; revert x; refine Kept.hold ?_; intro x hx; rotate_left; subst x) | skip)
    | with_reducible first | assumption
    | with_reducible first | apply set_kept

theorem transition_kept {s : State} {d : DevState} {n : Nat} (h : Kept μ s₀ s) :
    Kept μ s₀ (State.transition s d n) := by
  unfold State.transition
  repeat' first
    | (extract_lets +onlyGivenNames x; first | (refine Kept.aside (μ := μ) (s₀ := s₀) (x := x) ?_ ?_; clear_value x; revert x; refine Kept.hold ?_; intro x hx; rotate_left; subst x) | skip)
    | with_reducible first | assumption | apply Kept.ite
    | with_reducible intro _ _ _
    | with_reducible intro _ _
    | with_reducible intro _
    | split
    | with_reducible (apply kept_mk; assumption)
    | with_reducible first | apply arm_kept | apply disarm_kept | apply disarmAll_kept | apply forAll_kept | apply post_kept
                           | apply set_kept | apply when_kept | apply writeSysState_kept
    | (clear_value *; split)

theorem endEpoch_kept {s : State} (h : Kept μ s₀ s) :
    Kept μ s₀ (State.endEpoch s) := by
  unfold State.endEpoch
  repeat' first
    | (extract_lets +onlyGivenNames x; first | (refine Kept.aside (μ := μ) (s₀ := s₀) (x := x) ?_ ?_; clear_value x; revert x; refine Kept.hold ?_; intro x hx; rotate_left; subst x) | skip)
    | with_reducible first | assumption
    | with_reducible first | apply set_kept

/-- A state that holds what outlasts a restart, over a register bank at its reset values. -/
theorem Kept.fresh {t : State} {s : State} (h : Kept true s₀ s) (hp : t.pending = s.pending) (hr : t.regs = []) (hf : t.flash = s.flash)
    (ho : t.otp = s.otp) (hs : t.sram = []) (he : t.engMem = []) (hn : t.now = s.now) : Kept true s₀ t := by
  refine h.trans ⟨hp, fun w => ?_, Nat.le_of_eq hn.symm, fun a => by rw [ho]; exact BitVec.and_self, nofun⟩
  simp only [State.wf, Bool.and_eq_true, hr, hf, ho, hs, he] at w ⊢
  exact ⟨⟨⟨⟨rfl, w.1.1.1.2⟩, w.1.1.2⟩, rfl⟩, rfl⟩
theorem restartAll_kept {s : State} (h : Kept true s₀ s) : Kept true s₀ s.restartAll := by
  unfold State.restartAll
  extract_lets fresh t u v
  have hf : Kept true s₀ fresh := Kept.fresh h rfl rfl rfl rfl rfl rfl rfl
  clear_value fresh
  have ht : Kept true s₀ t := forAll_kept (fun _ _ ht => setWord_kept ht) _ hf
  clear_value t
  have hu : Kept true s₀ u := set_kept ht
  clear_value u
  have hv : Kept true s₀ v := kept_mk hu
  clear_value v
  exact when_kept hv fun _ ht => arm_kept (arm_kept ht)

theorem supplyLost_kept {s : State} (h : Kept true s₀ s) :
    Kept true s₀ (State.supplyLost s) := by
  unfold State.supplyLost
  repeat' first
    | (extract_lets +onlyGivenNames x; first | (refine Kept.aside (μ := true) (s₀ := s₀) (x := x) ?_ ?_; clear_value x; revert x; refine Kept.hold ?_; intro x hx; rotate_left; subst x) | skip)
    | with_reducible first | assumption
    | with_reducible (apply kept_mk; assumption)
    | with_reducible first | apply restartAll_kept

theorem internalRestart_kept {s : State} {n : Nat} (h : Kept true s₀ s) :
    Kept true s₀ (State.internalRestart s n) := by
  unfold State.internalRestart
  repeat' first
    | (extract_lets +onlyGivenNames x; first | (refine Kept.aside (μ := true) (s₀ := s₀) (x := x) ?_ ?_; clear_value x; revert x; refine Kept.hold ?_; intro x hx; rotate_left; subst x) | skip)
    | with_reducible first | assumption
    | with_reducible first | apply endEpoch_kept | apply restartAll_kept | apply set_kept

theorem dropUpstream_kept {s : State} (h : Kept μ s₀ s) :
    Kept μ s₀ (State.dropUpstream s) := by
  unfold State.dropUpstream
  repeat' first
    | (extract_lets +onlyGivenNames x; first | (refine Kept.aside (μ := μ) (s₀ := s₀) (x := x) ?_ ?_; clear_value x; revert x; refine Kept.hold ?_; intro x hx; rotate_left; subst x) | skip)
    | with_reducible first | assumption
    | with_reducible (apply kept_mk; assumption)
    | with_reducible first | apply put_kept | apply set_kept

theorem hubPortOff_kept {s : State} {k : PortId} (h : Kept μ s₀ s) :
    Kept μ s₀ (State.hubPortOff s k) := by
  unfold State.hubPortOff
  repeat' first
    | (extract_lets +onlyGivenNames x; first | (refine Kept.aside (μ := μ) (s₀ := s₀) (x := x) ?_ ?_; clear_value x; revert x; refine Kept.hold ?_; intro x hx; rotate_left; subst x) | skip)
    | with_reducible first | assumption | apply Kept.ite
    | with_reducible intro _ _ _
    | with_reducible intro _ _
    | with_reducible intro _
    | with_reducible (apply kept_mk; assumption)
    | with_reducible first | apply forAll_kept | apply put_kept | apply set_kept
    | split

theorem winterActs_kept {s : State} (h : Kept μ s₀ s) :
    Kept μ s₀ (State.winterActs s) := by
  unfold State.winterActs
  repeat' first
    | (extract_lets +onlyGivenNames x; first | (refine Kept.aside (μ := μ) (s₀ := s₀) (x := x) ?_ ?_; clear_value x; revert x; refine Kept.hold ?_; intro x hx; rotate_left; subst x) | skip)
    | with_reducible first | assumption | apply Kept.ite
    | with_reducible intro _ _ _
    | with_reducible intro _ _
    | with_reducible intro _
    | with_reducible (apply kept_mk; assumption)
    | with_reducible first | apply dropUpstream_kept | apply forAll_kept | apply hubPortOff_kept | apply shutPort_kept
                           | apply winterTable_kept
    | split

theorem abandonHandover_kept {s : State} (h : Kept μ s₀ s) :
    Kept μ s₀ (State.abandonHandover s) := by
  unfold State.abandonHandover
  repeat' first
    | (extract_lets +onlyGivenNames x; first | (refine Kept.aside (μ := μ) (s₀ := s₀) (x := x) ?_ ?_; clear_value x; revert x; refine Kept.hold ?_; intro x hx; rotate_left; subst x) | skip)
    | with_reducible first | assumption | apply Kept.ite
    | with_reducible intro _
    | with_reducible (apply kept_mk; assumption)
    | with_reducible first | apply flag_kept | apply post_kept | apply set_kept | apply warn_kept
    | split

theorem winterEntry_kept {s : State} {n : Nat} {code : Nat} (h : Kept μ s₀ s) :
    Kept μ s₀ (State.winterEntry s n code) := by
  unfold State.winterEntry
  repeat' first
    | (extract_lets +onlyGivenNames x; first | (refine Kept.aside (μ := μ) (s₀ := s₀) (x := x) ?_ ?_; clear_value x; revert x; refine Kept.hold ?_; intro x hx; rotate_left; subst x) | skip)
    | with_reducible first | assumption
    | with_reducible first | apply abandonHandover_kept | apply fflTrigger_kept | apply put_kept | apply transition_kept
                           | apply winterActs_kept

theorem isolate_kept {s : State} {src : Nat} (h : Kept μ s₀ s) :
    Kept μ s₀ (State.isolate s src) := by
  unfold State.isolate
  repeat' first
    | (extract_lets +onlyGivenNames x; first | (refine Kept.aside (μ := μ) (s₀ := s₀) (x := x) ?_ ?_; clear_value x; revert x; refine Kept.hold ?_; intro x hx; rotate_left; subst x) | skip)
    | with_reducible first | assumption | apply Kept.ite
    | with_reducible intro _ _ _
    | with_reducible intro _ _
    | with_reducible intro _
    | split
    | with_reducible (apply kept_mk; assumption)
    | with_reducible first | apply arm_kept | apply bump_kept | apply forAll_kept | apply holdOpen_kept
                           | apply isolateRail_kept | apply stopConverter_kept
    | (clear_value *; split)

theorem lateWinter_kept {s : State} (h : Kept μ s₀ s) :
    Kept μ s₀ (State.lateWinter s) := by
  unfold State.lateWinter
  repeat' first
    | (extract_lets +onlyGivenNames x; first | (refine Kept.aside (μ := μ) (s₀ := s₀) (x := x) ?_ ?_; clear_value x; revert x; refine Kept.hold ?_; intro x hx; rotate_left; subst x) | skip)
    | with_reducible first | assumption
    | with_reducible intro _ _ _
    | with_reducible intro _ _
    | with_reducible intro _
    | with_reducible (apply kept_mk; assumption)
    | with_reducible first | apply forAll_kept | apply hubPortOff_kept | apply shutPort_kept | apply transition_kept

theorem fatal_kept {s : State} {code : Nat} (h : Kept μ s₀ s) :
    Kept μ s₀ (State.fatal s code) := by
  unfold State.fatal
  repeat' first
    | (extract_lets +onlyGivenNames x; first | (refine Kept.aside (μ := μ) (s₀ := s₀) (x := x) ?_ ?_; clear_value x; revert x; refine Kept.hold ?_; intro x hx; rotate_left; subst x) | skip)
    | with_reducible first | assumption | apply Kept.ite
    | with_reducible intro _ _ _
    | with_reducible intro _ _
    | with_reducible intro _
    | with_reducible (apply kept_mk; assumption)
    | with_reducible first | apply disarm_kept | apply fflTrigger_kept | apply forAll_kept | apply lateWinter_kept
                           | apply put_kept | apply set_kept | apply shutPort_kept | apply when_kept | apply winterActs_kept
                           | apply winterEntry_kept | apply winterTable_kept
    | split

theorem escalate_kept {s : State} {src : Nat} {cls : Nat} (h : Kept μ s₀ s) :
    Kept μ s₀ (State.escalate s src cls).2 := by
  unfold State.escalate
  repeat' first
    | (extract_lets +onlyGivenNames x; first | (refine Kept.aside (μ := μ) (s₀ := s₀) (x := x) ?_ ?_; clear_value x; revert x; refine Kept.hold ?_; intro x hx; rotate_left; subst x) | (refine Kept.aside2 (μ := μ) (s₀ := s₀) (x := x) ?_ ?_; clear_value x; revert x; refine Kept.hold ?_; intro x hx; rotate_left; subst x) | skip)
    | with_reducible first | assumption | apply Kept.ite
    | with_reducible intro _ _ _
    | with_reducible intro _ _
    | with_reducible intro _
    | dsimp only
    | split
    | with_reducible (apply kept_mk; assumption)

theorem react_kept {s : State} {code : Nat} {promoted : Bool} (h : Kept μ s₀ s) :
    Kept μ s₀ (State.react s code promoted) := by
  unfold State.react
  repeat' first
    | (extract_lets +onlyGivenNames x; first | (refine Kept.aside (μ := μ) (s₀ := s₀) (x := x) ?_ ?_; clear_value x; revert x; refine Kept.hold ?_; intro x hx; rotate_left; subst x) | skip)
    | with_reducible first | assumption
    | with_reducible intro _ _ _
    | with_reducible intro _ _
    | with_reducible intro _
    | split
    | with_reducible (apply kept_mk; assumption)
    | with_reducible first | apply bump_kept | apply fatal_kept | apply flag_kept | apply isolate_kept
                           | apply recordFault_kept | apply when_kept
    | (clear_value *; split)

theorem raise_kept {s : State} {code : Nat} (h : Kept μ s₀ s) :
    Kept μ s₀ (State.raise s code) := by
  unfold State.raise
  repeat' first
    | (extract_lets +onlyGivenNames x; first | (refine Kept.aside (μ := μ) (s₀ := s₀) (x := x) ?_ ?_; clear_value x; revert x; refine Kept.hold ?_; intro x hx; rotate_left; subst x) | (refine Kept.aside2 (μ := μ) (s₀ := s₀) (x := x) ?_ ?_; clear_value x; revert x; refine Kept.hold ?_; intro x hx; rotate_left; subst x) | skip)
    | with_reducible first | assumption | apply Kept.ite
    | with_reducible intro _
    | dsimp only
    | split
    | with_reducible first | apply react_kept
    | with_reducible first | apply escalate_kept

theorem find_kept {s : State} {code : Nat} (h : Kept μ s₀ s) :
    Kept μ s₀ (State.find s code) := by
  unfold State.find
  repeat' first
    | (extract_lets +onlyGivenNames x; first | (refine Kept.aside (μ := μ) (s₀ := s₀) (x := x) ?_ ?_; clear_value x; revert x; refine Kept.hold ?_; intro x hx; rotate_left; subst x) | skip)
    | with_reducible first | assumption
    | with_reducible (apply kept_mk; assumption)

theorem classify_kept {s : State} {code : Nat} (h : Kept μ s₀ s) :
    Kept μ s₀ (State.classify s code) := by
  unfold State.classify
  repeat' first
    | with_reducible first | assumption | apply Kept.ite
    | with_reducible intro _
    | with_reducible first | apply find_kept | apply raise_kept
    | split

theorem trip_kept {s : State} {code : Nat} {detail : Nat} (h : Kept μ s₀ s) :
    Kept μ s₀ (State.trip s code detail) := by
  unfold State.trip
  repeat' first
    | (extract_lets +onlyGivenNames x; first | (refine Kept.aside (μ := μ) (s₀ := s₀) (x := x) ?_ ?_; clear_value x; revert x; refine Kept.hold ?_; intro x hx; rotate_left; subst x) | skip)
    | with_reducible first | assumption | apply Kept.ite
    | with_reducible intro _ _ _
    | with_reducible intro _ _
    | with_reducible intro _
    | with_reducible (apply kept_mk; assumption)
    | with_reducible first | apply arm_kept | apply bump_kept | apply dropUpstream_kept | apply forAll_kept
                           | apply hubPortOff_kept | apply put_kept | apply set_kept | apply setWord_kept
                           | apply shutPort_kept | apply transition_kept | apply winterTable_kept
    | split

theorem beginDownStep_kept {s : State} {n : Nat} (h : Kept μ s₀ s) :
    Kept μ s₀ (State.beginDownStep s n) := by
  unfold State.beginDownStep
  repeat' first
    | (extract_lets +onlyGivenNames x; first | (refine Kept.aside (μ := μ) (s₀ := s₀) (x := x) ?_ ?_; clear_value x; revert x; refine Kept.hold ?_; intro x hx; rotate_left; subst x) | skip)
    | with_reducible first | assumption
    | with_reducible intro _ _ _
    | with_reducible intro _ _
    | with_reducible intro _
    | with_reducible (apply kept_mk; assumption)
    | with_reducible first | apply arm_kept | apply forAll_kept | apply modRail_kept | apply set_kept

theorem startPowerDown_kept {s : State} (h : Kept μ s₀ s) :
    Kept μ s₀ (State.startPowerDown s) := by
  unfold State.startPowerDown
  repeat' first
    | (extract_lets +onlyGivenNames x; first | (refine Kept.aside (μ := μ) (s₀ := s₀) (x := x) ?_ ?_; clear_value x; revert x; refine Kept.hold ?_; intro x hx; rotate_left; subst x) | skip)
    | with_reducible first | assumption
    | with_reducible intro _ _ _
    | with_reducible intro _ _
    | with_reducible intro _
    | with_reducible (apply kept_mk; assumption)
    | with_reducible first | apply assertReset_kept | apply beginDownStep_kept | apply disarmAll_kept | apply forAll_kept
                           | apply put_kept | apply setPhase_kept

theorem commit_kept {s : State} (h : Kept μ s₀ s) :
    Kept μ s₀ (State.commit s) := by
  unfold State.commit
  repeat' first
    | (extract_lets +onlyGivenNames x; first | (refine Kept.aside (μ := μ) (s₀ := s₀) (x := x) ?_ ?_; clear_value x; revert x; refine Kept.hold ?_; intro x hx; rotate_left; subst x) | skip)
    | with_reducible first | assumption
    | with_reducible intro _ _ _
    | with_reducible intro _ _
    | with_reducible intro _
    | with_reducible (apply kept_mk; assumption)
    | with_reducible first | apply dropUpstream_kept | apply fflTrigger_kept | apply flag_kept | apply forAll_kept
                           | apply put_kept | apply shed_kept | apply startPowerDown_kept | apply warn_kept

/-! Machine/MeasOps -/

theorem openWindows_kept {s : State} {id : WinId} {chs : List Nat} (h : Kept μ s₀ s) :
    Kept μ s₀ (State.openWindows s id chs) := by
  unfold State.openWindows
  repeat' first
    | (extract_lets +onlyGivenNames x; first | (refine Kept.aside (μ := μ) (s₀ := s₀) (x := x) ?_ ?_; clear_value x; revert x; refine Kept.hold ?_; intro x hx; rotate_left; subst x) | skip)
    | with_reducible first | assumption
    | with_reducible intro _ _ _
    | with_reducible intro _ _
    | with_reducible intro _
    | with_reducible (apply kept_mk; assumption)

theorem closeWindows_kept {s : State} {id : WinId} (h : Kept μ s₀ s) :
    Kept μ s₀ (State.closeWindows s id) := by
  unfold State.closeWindows
  repeat' first
    | (extract_lets +onlyGivenNames x; first | (refine Kept.aside (μ := μ) (s₀ := s₀) (x := x) ?_ ?_; clear_value x; revert x; refine Kept.hold ?_; intro x hx; rotate_left; subst x) | skip)
    | with_reducible first | assumption
    | with_reducible intro _ _ _
    | with_reducible intro _ _
    | with_reducible intro _
    | with_reducible (apply kept_mk; assumption)

theorem endWindows_kept {s : State} {id : WinId} (h : Kept μ s₀ s) :
    Kept μ s₀ (State.endWindows s id) := by
  unfold State.endWindows
  repeat' first
    | (extract_lets +onlyGivenNames x; first | (refine Kept.aside (μ := μ) (s₀ := s₀) (x := x) ?_ ?_; clear_value x; revert x; refine Kept.hold ?_; intro x hx; rotate_left; subst x) | skip)
    | with_reducible first | assumption | apply Kept.ite
    | with_reducible intro _ _ _
    | with_reducible intro _ _
    | with_reducible intro _
    | with_reducible (apply kept_mk; assumption)
    | split

theorem accumulate_kept {s : State} {a : AdcId} {ch : Nat} {v : Int} (h : Kept μ s₀ s) :
    Kept μ s₀ (State.accumulate s a ch v) := by
  unfold State.accumulate
  repeat' first
    | (extract_lets +onlyGivenNames x; first | (refine Kept.aside (μ := μ) (s₀ := s₀) (x := x) ?_ ?_; clear_value x; revert x; refine Kept.hold ?_; intro x hx; rotate_left; subst x) | skip)
    | with_reducible first | assumption
    | with_reducible (apply kept_mk; assumption)

theorem ensureWindow_kept {s : State} {id : WinId} {ch : Nat} (h : Kept μ s₀ s) :
    Kept μ s₀ (State.ensureWindow s id ch) := by
  unfold State.ensureWindow
  repeat' first
    | (extract_lets +onlyGivenNames x; first | (refine Kept.aside (μ := μ) (s₀ := s₀) (x := x) ?_ ?_; clear_value x; revert x; refine Kept.hold ?_; intro x hx; rotate_left; subst x) | skip)
    | with_reducible first | assumption | apply Kept.ite
    | with_reducible intro _
    | with_reducible (apply kept_mk; assumption)
    | split

/-! Machine/AttachOps -/

theorem presentRp_kept {s : State} {k : PortId} (h : Kept μ s₀ s) :
    Kept μ s₀ (State.presentRp s k) := by
  unfold State.presentRp
  repeat' first
    | (extract_lets +onlyGivenNames x; first | (refine Kept.aside (μ := μ) (s₀ := s₀) (x := x) ?_ ?_; clear_value x; revert x; refine Kept.hold ?_; intro x hx; rotate_left; subst x) | skip)
    | with_reducible first | assumption | apply Kept.ite
    | with_reducible intro _ _ _
    | with_reducible intro _ _
    | with_reducible intro _
    | with_reducible (apply kept_mk; assumption)
    | with_reducible first | apply modBrk_kept | apply set_kept
    | split

theorem endReading_kept {s : State} {k : PortId} (h : Kept μ s₀ s) :
    Kept μ s₀ (State.endReading s k) := by
  unfold State.endReading
  repeat' first
    | (extract_lets +onlyGivenNames x; first | (refine Kept.aside (μ := μ) (s₀ := s₀) (x := x) ?_ ?_; clear_value x; revert x; refine Kept.hold ?_; intro x hx; rotate_left; subst x) | skip)
    | with_reducible first | assumption
    | with_reducible intro _ _ _
    | with_reducible intro _ _
    | with_reducible intro _
    | with_reducible (apply kept_mk; assumption)
    | with_reducible first | apply closeWindows_kept | apply disarmAll_kept | apply modAtt_kept

theorem setAState_kept {s : State} {k : PortId} {st : Nat} (h : Kept μ s₀ s) :
    Kept μ s₀ (State.setAState s k st) := by
  unfold State.setAState
  repeat' first
    | (extract_lets +onlyGivenNames x; first | (refine Kept.aside (μ := μ) (s₀ := s₀) (x := x) ?_ ?_; clear_value x; revert x; refine Kept.hold ?_; intro x hx; rotate_left; subst x) | skip)
    | with_reducible first | assumption | apply Kept.ite
    | with_reducible intro _
    | with_reducible first | apply arm_kept | apply endReading_kept | apply set_kept
    | split

theorem ccEval_kept {s : State} {k : PortId} (h : Kept μ s₀ s) :
    Kept μ s₀ (State.ccEval s k) := by
  unfold State.ccEval
  repeat' first
    | (extract_lets +onlyGivenNames x; first | (refine Kept.aside (μ := μ) (s₀ := s₀) (x := x) ?_ ?_; clear_value x; revert x; refine Kept.hold ?_; intro x hx; rotate_left; subst x) | skip)
    | with_reducible first | assumption | apply Kept.ite
    | with_reducible intro _
    | with_reducible first | apply arm_kept | apply disarm_kept | apply setAState_kept
    | split

theorem vconnApply_kept {s : State} {k : PortId} (h : Kept μ s₀ s) :
    Kept μ s₀ (State.vconnApply s k) := by
  unfold State.vconnApply
  repeat' first
    | (extract_lets +onlyGivenNames x; first | (refine Kept.aside (μ := μ) (s₀ := s₀) (x := x) ?_ ?_; clear_value x; revert x; refine Kept.hold ?_; intro x hx; rotate_left; subst x) | skip)
    | with_reducible first | assumption
    | with_reducible intro _ _ _
    | with_reducible intro _ _
    | with_reducible intro _
    | with_reducible (apply kept_mk; assumption)
    | with_reducible first | apply arm_kept | apply modPd_kept | apply put_kept

theorem vconnOn_kept {s : State} {k : PortId} (h : Kept μ s₀ s) :
    Kept μ s₀ (State.vconnOn s k) := by
  unfold State.vconnOn
  repeat' first
    | with_reducible first | assumption | apply Kept.ite
    | with_reducible intro _
    | with_reducible first | apply vconnApply_kept
    | split

theorem rampTo_kept {s : State} {k : PortId} {mv : Nat} (h : Kept μ s₀ s) :
    Kept μ s₀ (State.rampTo s k mv) := by
  unfold State.rampTo
  repeat' first
    | (extract_lets +onlyGivenNames x; first | (refine Kept.aside (μ := μ) (s₀ := s₀) (x := x) ?_ ?_; clear_value x; revert x; refine Kept.hold ?_; intro x hx; rotate_left; subst x) | skip)
    | with_reducible first | assumption
    | with_reducible intro _ _ _
    | with_reducible intro _ _
    | with_reducible intro _
    | with_reducible (apply kept_mk; assumption)
    | with_reducible first | apply modCnv_kept | apply put_kept

theorem runConverter_kept {s : State} {k : PortId} {mv : Nat} (h : Kept μ s₀ s) :
    Kept μ s₀ (State.runConverter s k mv) := by
  unfold State.runConverter
  repeat' first
    | (extract_lets +onlyGivenNames x; first | (refine Kept.aside (μ := μ) (s₀ := s₀) (x := x) ?_ ?_; clear_value x; revert x; refine Kept.hold ?_; intro x hx; rotate_left; subst x) | skip)
    | with_reducible first | assumption
    | with_reducible intro _ _ _
    | with_reducible intro _ _
    | with_reducible intro _
    | with_reducible (apply kept_mk; assumption)
    | with_reducible first | apply modCnv_kept | apply rampTo_kept | apply set_kept

theorem startConverter_kept {s : State} {k : PortId} {mv : Nat} (h : Kept μ s₀ s) :
    Kept μ s₀ (State.startConverter s k mv) := by
  unfold State.startConverter
  repeat' first
    | (extract_lets +onlyGivenNames x; first | (refine Kept.aside (μ := μ) (s₀ := s₀) (x := x) ?_ ?_; clear_value x; revert x; refine Kept.hold ?_; intro x hx; rotate_left; subst x) | skip)
    | with_reducible first | assumption | apply Kept.ite
    | with_reducible intro _ _ _
    | with_reducible intro _ _
    | with_reducible intro _
    | with_reducible (apply kept_mk; assumption)
    | with_reducible first | apply modCnv_kept | apply runConverter_kept
    | split

theorem offsetResult_kept {s : State} {k : PortId} {code : Nat} (h : Kept μ s₀ s) :
    Kept μ s₀ (State.offsetResult s k code) := by
  unfold State.offsetResult
  repeat' first
    | (extract_lets +onlyGivenNames x; first | (refine Kept.aside (μ := μ) (s₀ := s₀) (x := x) ?_ ?_; clear_value x; revert x; refine Kept.hold ?_; intro x hx; rotate_left; subst x) | skip)
    | with_reducible first | assumption | apply Kept.ite
    | with_reducible intro _ _ _
    | with_reducible intro _ _
    | with_reducible intro _
    | split
    | with_reducible (apply kept_mk; assumption)
    | with_reducible first | apply modCnv_kept | apply startConverter_kept
    | (clear_value *; split)

theorem beginClose_kept {s : State} {k : PortId} (h : Kept μ s₀ s) :
    Kept μ s₀ (State.beginClose s k) := by
  unfold State.beginClose
  repeat' first
    | (extract_lets +onlyGivenNames x; first | (refine Kept.aside (μ := μ) (s₀ := s₀) (x := x) ?_ ?_; clear_value x; revert x; refine Kept.hold ?_; intro x hx; rotate_left; subst x) | skip)
    | with_reducible first | assumption | apply Kept.ite
    | with_reducible intro _ _ _
    | with_reducible intro _ _
    | with_reducible intro _
    | with_reducible (apply kept_mk; assumption)
    | with_reducible first | apply arm_kept | apply modBrk_kept | apply set_kept
    | split

theorem applyVbus_kept {s : State} {k : PortId} (h : Kept μ s₀ s) :
    Kept μ s₀ (State.applyVbus s k) := by
  unfold State.applyVbus
  repeat' first
    | with_reducible first | assumption
    | with_reducible first | apply beginClose_kept | apply setAState_kept | apply startConverter_kept | apply vconnOn_kept

theorem judgeVbus_kept {s : State} {k : PortId} (h : Kept μ s₀ s) :
    Kept μ s₀ (State.judgeVbus s k) := by
  unfold State.judgeVbus
  repeat' first
    | (extract_lets +onlyGivenNames x; first | (refine Kept.aside (μ := μ) (s₀ := s₀) (x := x) ?_ ?_; clear_value x; revert x; refine Kept.hold ?_; intro x hx; rotate_left; subst x) | skip)
    | with_reducible first | assumption | apply Kept.ite
    | with_reducible intro _
    | with_reducible first | apply applyVbus_kept | apply presentRp_kept | apply setAState_kept
    | split

theorem sinkFound_kept {s : State} {k : PortId} {orient : Nat} {ra : Bool} (h : Kept μ s₀ s) :
    Kept μ s₀ (State.sinkFound s k orient ra) := by
  unfold State.sinkFound
  repeat' first
    | (extract_lets +onlyGivenNames x; first | (refine Kept.aside (μ := μ) (s₀ := s₀) (x := x) ?_ ?_; clear_value x; revert x; refine Kept.hold ?_; intro x hx; rotate_left; subst x) | skip)
    | with_reducible first | assumption | apply Kept.ite
    | with_reducible intro _ _ _
    | with_reducible intro _ _
    | with_reducible intro _
    | with_reducible (apply kept_mk; assumption)
    | with_reducible first | apply flag_kept | apply judgeVbus_kept | apply modAtt_kept | apply put_kept | apply set_kept
                           | apply setAState_kept | apply warn_kept
    | split

theorem forgetPartner_kept {s : State} {k : PortId} (h : Kept μ s₀ s) :
    Kept μ s₀ (State.forgetPartner s k) := by
  unfold State.forgetPartner
  repeat' first
    | (extract_lets +onlyGivenNames x; first | (refine Kept.aside (μ := μ) (s₀ := s₀) (x := x) ?_ ?_; clear_value x; revert x; refine Kept.hold ?_; intro x hx; rotate_left; subst x) | skip)
    | with_reducible first | assumption
    | with_reducible intro _ _ _
    | with_reducible intro _ _
    | with_reducible intro _
    | with_reducible (apply kept_mk; assumption)
    | with_reducible first | apply clearPd_kept | apply disarmAll_kept | apply modBrk_kept | apply modChk_kept
                           | apply modPd_kept | apply partFrom_kept | apply put_kept | apply set_kept | apply setWord_kept
                           | apply settleOpen_kept

theorem detach_kept {s : State} {k : PortId} (h : Kept μ s₀ s) :
    Kept μ s₀ (State.detach s k) := by
  unfold State.detach
  repeat' first
    | (extract_lets +onlyGivenNames x; first | (refine Kept.aside (μ := μ) (s₀ := s₀) (x := x) ?_ ?_; clear_value x; revert x; refine Kept.hold ?_; intro x hx; rotate_left; subst x) | skip)
    | with_reducible first | assumption | apply Kept.ite
    | with_reducible intro _ _ _
    | with_reducible intro _ _
    | with_reducible intro _
    | with_reducible (apply kept_mk; assumption)
    | with_reducible first | apply forgetPartner_kept | apply modAtt_kept | apply modPins_kept | apply presentRp_kept
                           | apply put_kept | apply setAState_kept | apply softOpen_kept
    | split

theorem unattached_kept {s : State} {k : PortId} (h : Kept μ s₀ s) :
    Kept μ s₀ (State.unattached s k) := by
  unfold State.unattached
  repeat' first
    | (extract_lets +onlyGivenNames x; first | (refine Kept.aside (μ := μ) (s₀ := s₀) (x := x) ?_ ?_; clear_value x; revert x; refine Kept.hold ?_; intro x hx; rotate_left; subst x) | skip)
    | with_reducible first | assumption | apply Kept.ite
    | with_reducible intro _ _ _
    | with_reducible intro _ _
    | with_reducible intro _
    | with_reducible (apply kept_mk; assumption)
    | with_reducible first | apply arm_kept | apply ccEval_kept | apply modAtt_kept | apply presentRp_kept | apply put_kept
                           | apply set_kept | apply setAState_kept | apply when_kept
    | split

theorem startPort9_kept {s : State} (h : Kept μ s₀ s) :
    Kept μ s₀ (State.startPort9 s) := by
  unfold State.startPort9
  repeat' first
    | with_reducible first | assumption
    | with_reducible first | apply unattached_kept

/-! Machine/Flash -/

theorem bankWf_programBytes (bs : List Byte) : ∀ (m : Bank Byte) (a : Nat), bankWf erased m = true →
    bankWf erased (programBytes m a bs) = true := by
  induction bs with
  | nil => exact fun m a h => h
  | cons b bs ih => exact fun m a h => ih _ _ (bankWf_write erased m a _ h)
theorem flashProgram_kept {s : State} {a : Nat} {bs : List Byte} (h : Kept true s₀ s) : Kept true s₀ (s.flashProgram a bs) :=
  Kept.flash h rfl rfl (bankWf_programBytes bs _ _) rfl rfl rfl rfl

theorem flashErase_kept {s : State} {a n : Nat} (h : Kept true s₀ s) : Kept true s₀ (s.flashErase a n) :=
  Kept.flash h rfl rfl (bankWf_clear _ _ _ _) rfl rfl rfl rfl

theorem spoil_kept {s : State} {a n : Nat} (h : Kept true s₀ s) : Kept true s₀ (s.spoil a n) :=
  Kept.flash h rfl rfl (bankWf_writeList _ _ _ _) rfl rfl rfl rfl

theorem writeTable_kept {s : State} {ok : Bool} (h : Kept true s₀ s) :
    Kept true s₀ (State.writeTable s ok) := by
  unfold State.writeTable
  repeat' first
    | (extract_lets +onlyGivenNames x; first | (refine Kept.aside (μ := true) (s₀ := s₀) (x := x) ?_ ?_; clear_value x; revert x; refine Kept.hold ?_; intro x hx; rotate_left; subst x) | skip)
    | with_reducible first | assumption | apply Kept.ite
    | with_reducible intro _
    | with_reducible (apply kept_mk; assumption)
    | with_reducible first | apply flashErase_kept | apply flashProgram_kept | apply raise_kept | apply spoil_kept
    | split

theorem modTab_kept {s : State} {f : SlotTab → SlotTab} (h : Kept μ s₀ s) :
    Kept μ s₀ (State.modTab s f) := by
  unfold State.modTab
  repeat' first
    | (extract_lets +onlyGivenNames x; first | (refine Kept.aside (μ := μ) (s₀ := s₀) (x := x) ?_ ?_; clear_value x; revert x; refine Kept.hold ?_; intro x hx; rotate_left; subst x) | skip)
    | with_reducible first | assumption
    | with_reducible intro _ _ _
    | with_reducible intro _ _
    | with_reducible intro _
    | with_reducible (apply kept_mk; assumption)

theorem postRejected_kept {s : State} (h : Kept μ s₀ s) :
    Kept μ s₀ (State.postRejected s) := by
  unfold State.postRejected
  repeat' first
    | with_reducible first | assumption
    | with_reducible first | apply flag_kept | apply post_kept

theorem dueLife_kept {s : State} (h : Kept μ s₀ s) :
    Kept μ s₀ (State.dueLife s) := by
  unfold State.dueLife
  repeat' first
    | (extract_lets +onlyGivenNames x; first | (refine Kept.aside (μ := μ) (s₀ := s₀) (x := x) ?_ ?_; clear_value x; revert x; refine Kept.hold ?_; intro x hx; rotate_left; subst x) | skip)
    | with_reducible first | assumption | apply Kept.ite
    | with_reducible intro _
    | with_reducible (apply kept_mk; assumption)
    | split

theorem exhaust_kept {s : State} {n : Nat} (h : Kept μ s₀ s) :
    Kept μ s₀ (State.exhaust s n) := by
  unfold State.exhaust
  repeat' first
    | (extract_lets +onlyGivenNames x; first | (refine Kept.aside (μ := μ) (s₀ := s₀) (x := x) ?_ ?_; clear_value x; revert x; refine Kept.hold ?_; intro x hx; rotate_left; subst x) | skip)
    | with_reducible first | assumption | apply Kept.ite
    | with_reducible intro _
    | with_reducible (apply kept_mk; assumption)
    | split

theorem dueMark_kept {s : State} {n : Nat} {mark : Nat} (h : Kept μ s₀ s) :
    Kept μ s₀ (State.dueMark s n mark) := by
  unfold State.dueMark
  repeat' first
    | (extract_lets +onlyGivenNames x; first | (refine Kept.aside (μ := μ) (s₀ := s₀) (x := x) ?_ ?_; clear_value x; revert x; refine Kept.hold ?_; intro x hx; rotate_left; subst x) | skip)
    | with_reducible first | assumption | apply Kept.ite
    | with_reducible intro _ _ _
    | with_reducible intro _ _
    | with_reducible intro _
    | with_reducible (apply kept_mk; assumption)
    | with_reducible first | apply dueLife_kept | apply exhaust_kept | apply raise_kept | apply when_kept
    | split

theorem raiseCeil_kept {s : State} {n : Nat} (h : Kept μ s₀ s) :
    Kept μ s₀ (State.raiseCeil s n) := by
  unfold State.raiseCeil
  repeat' first
    | (extract_lets +onlyGivenNames x; first | (refine Kept.aside (μ := μ) (s₀ := s₀) (x := x) ?_ ?_; clear_value x; revert x; refine Kept.hold ?_; intro x hx; rotate_left; subst x) | skip)
    | with_reducible first | assumption | apply Kept.ite
    | with_reducible intro _
    | with_reducible (apply kept_mk; assumption)
    | split

theorem lifeWritten_kept {s : State} {n : Nat} {secs' : Nat} (h : Kept true s₀ s) :
    Kept true s₀ (State.lifeWritten s n secs') := by
  unfold State.lifeWritten
  repeat' first
    | (extract_lets +onlyGivenNames x; first | (refine Kept.aside (μ := true) (s₀ := s₀) (x := x) ?_ ?_; clear_value x; revert x; refine Kept.hold ?_; intro x hx; rotate_left; subst x) | skip)
    | with_reducible first | assumption
    | with_reducible (apply kept_mk; assumption)
    | with_reducible first | apply disarm_kept | apply flashProgram_kept

theorem lifeGiveUp_kept {s : State} (h : Kept μ s₀ s) :
    Kept μ s₀ (State.lifeGiveUp s) := by
  unfold State.lifeGiveUp
  repeat' first
    | with_reducible first | assumption | apply Kept.ite
    | with_reducible intro _
    | with_reducible first | apply arm_kept | apply raise_kept
    | split

theorem lifeFailed_kept {s : State} {n : Nat} (h : Kept true s₀ s) :
    Kept true s₀ (State.lifeFailed s n) := by
  unfold State.lifeFailed
  repeat' first
    | (extract_lets +onlyGivenNames x; first | (refine Kept.aside (μ := true) (s₀ := s₀) (x := x) ?_ ?_; clear_value x; revert x; refine Kept.hold ?_; intro x hx; rotate_left; subst x) | skip)
    | with_reducible first | assumption
    | with_reducible (apply kept_mk; assumption)
    | with_reducible first | apply lifeGiveUp_kept | apply raise_kept | apply spoil_kept

theorem lifeErase_kept {s : State} {n : Nat} (h : Kept true s₀ s) :
    Kept true s₀ (State.lifeErase s n) := by
  unfold State.lifeErase
  repeat' first
    | (extract_lets +onlyGivenNames x; first | (refine Kept.aside (μ := true) (s₀ := s₀) (x := x) ?_ ?_; clear_value x; revert x; refine Kept.hold ?_; intro x hx; rotate_left; subst x) | skip)
    | with_reducible first | assumption | apply Kept.ite
    | with_reducible intro _
    | with_reducible (apply kept_mk; assumption)
    | with_reducible first | apply flashErase_kept
    | split

theorem appendLife_kept {s : State} {ok : Bool} (h : Kept true s₀ s) :
    Kept true s₀ (State.appendLife s ok) := by
  unfold State.appendLife
  repeat' first
    | (extract_lets +onlyGivenNames x; first | (refine Kept.aside (μ := true) (s₀ := s₀) (x := x) ?_ ?_; clear_value x; revert x; refine Kept.hold ?_; intro x hx; rotate_left; subst x) | skip)
    | with_reducible first | assumption | apply Kept.ite
    | with_reducible intro _
    | split
    | with_reducible (apply kept_mk; assumption)
    | with_reducible first | apply lifeErase_kept | apply lifeFailed_kept | apply lifeWritten_kept
    | (clear_value *; split)

/-! Machine/Image -/

theorem storeCode_kept {s : State} {at' : Nat} {bs : List Byte} (h : Kept true s₀ s) : Kept true s₀ (s.storeCode at' bs) :=
  Kept.engMem h rfl rfl rfl rfl rfl (bankWf_writeList _ _ _ _) rfl

theorem loadBoot_kept {s : State} {base : Nat} (h : Kept true s₀ s) :
    Kept true s₀ (State.loadBoot s base) := by
  unfold State.loadBoot
  repeat' first
    | with_reducible first | assumption
    | with_reducible first | apply storeCode_kept

theorem loadSection0_kept {s : State} {base : Nat} (h : Kept true s₀ s) :
    Kept true s₀ (State.loadSection0 s base) := by
  unfold State.loadSection0
  repeat' first
    | (extract_lets +onlyGivenNames x; first | (refine Kept.aside (μ := true) (s₀ := s₀) (x := x) ?_ ?_; clear_value x; revert x; refine Kept.hold ?_; intro x hx; rotate_left; subst x) | skip)
    | with_reducible first | assumption
    | with_reducible first | apply storeCode_kept

/-! Machine/SchedOps -/

theorem setShadow_kept {s : State} {b : Bank Word} (h : Kept μ s₀ s) :
    Kept μ s₀ (State.setShadow s b) := by
  unfold State.setShadow
  repeat' first
    | (extract_lets +onlyGivenNames x; first | (refine Kept.aside (μ := μ) (s₀ := s₀) (x := x) ?_ ?_; clear_value x; revert x; refine Kept.hold ?_; intro x hx; rotate_left; subst x) | skip)
    | with_reducible first | assumption | apply Kept.ite
    | with_reducible intro _
    | with_reducible (apply kept_mk; assumption)
    | split

theorem writeShadow_kept {s : State} {i : Nat} {w : Word} (h : Kept μ s₀ s) :
    Kept μ s₀ (State.writeShadow s i w) := by
  unfold State.writeShadow
  repeat' first
    | (extract_lets +onlyGivenNames x; first | (refine Kept.aside (μ := μ) (s₀ := s₀) (x := x) ?_ ?_; clear_value x; revert x; refine Kept.hold ?_; intro x hx; rotate_left; subst x) | skip)
    | with_reducible first | assumption | apply Kept.ite
    | with_reducible intro _
    | with_reducible (apply kept_mk; assumption)
    | split

theorem storeEntry_kept {s : State} {w : Word} (h : Kept μ s₀ s) :
    Kept μ s₀ (State.storeEntry s w) := by
  unfold State.storeEntry
  repeat' first
    | (extract_lets +onlyGivenNames x; first | (refine Kept.aside (μ := μ) (s₀ := s₀) (x := x) ?_ ?_; clear_value x; revert x; refine Kept.hold ?_; intro x hx; rotate_left; subst x) | skip)
    | with_reducible first | assumption
    | with_reducible first | apply set_kept | apply writeShadow_kept

theorem writeSchWord_kept {s : State} {act : State → State} (h : Kept μ s₀ s) (hact : ∀ t, Kept μ s₀ t → Kept μ s₀ (act t)) :
    Kept μ s₀ (State.writeSchWord s act) := by
  unfold State.writeSchWord
  repeat' first
    | with_reducible first | assumption | apply Kept.ite
    | with_reducible intro _ _ _
    | with_reducible intro _ _
    | with_reducible intro _
    | with_reducible first | apply flag_kept | apply hact
    | split

theorem requestSwap_kept {s : State} (h : Kept μ s₀ s) :
    Kept μ s₀ (State.requestSwap s) := by
  unfold State.requestSwap
  repeat' first
    | with_reducible first | assumption | apply Kept.ite
    | with_reducible intro _
    | with_reducible first | apply flag_kept | apply put_kept
    | split

theorem applySched_kept {s : State} {rs : List Rec} (h : Kept μ s₀ s) :
    Kept μ s₀ (State.applySched s rs) := by
  unfold State.applySched
  repeat' first
    | with_reducible first | assumption
    | with_reducible intro _ _ _
    | with_reducible intro _ _
    | with_reducible intro _
    | with_reducible first | apply foldl_kept | apply set_kept | apply storeEntry_kept
    | with_reducible first | apply foldl2_kept

/-! Machine/IslandOps -/

theorem newChallenge_kept {s : State} (h : Kept μ s₀ s) :
    Kept μ s₀ (State.newChallenge s) := by
  unfold State.newChallenge
  repeat' first
    | (extract_lets +onlyGivenNames x; first | (refine Kept.aside (μ := μ) (s₀ := s₀) (x := x) ?_ ?_; clear_value x; revert x; refine Kept.hold ?_; intro x hx; rotate_left; subst x) | skip)
    | with_reducible first | assumption
    | with_reducible (apply kept_mk; assumption)
    | with_reducible first | apply set_kept

theorem startPeriod_kept {s : State} (h : Kept μ s₀ s) :
    Kept μ s₀ (State.startPeriod s) := by
  unfold State.startPeriod
  repeat' first
    | with_reducible first | assumption
    | with_reducible first | apply arm_kept | apply disarm_kept | apply newChallenge_kept | apply put_kept

theorem seal_kept {s : State} (h : Kept μ s₀ s) :
    Kept μ s₀ (State.seal s) := by
  unfold State.seal
  repeat' first
    | (extract_lets +onlyGivenNames x; first | (refine Kept.aside (μ := μ) (s₀ := s₀) (x := x) ?_ ?_; clear_value x; revert x; refine Kept.hold ?_; intro x hx; rotate_left; subst x) | (refine Kept.aside2 (μ := μ) (s₀ := s₀) (x := x) ?_ ?_; clear_value x; revert x; refine Kept.hold ?_; intro x hx; rotate_left; subst x) | skip)
    | with_reducible first | assumption
    | with_reducible intro _ _ _
    | with_reducible intro _ _
    | with_reducible intro _
    | dsimp only
    | with_reducible (apply kept_mk; assumption)
    | with_reducible first | apply disarm_kept | apply forAll_kept | apply modRail_kept | apply put_kept | apply set_kept
                           | apply startPeriod_kept
    | with_reducible first | apply takeFree_kept

theorem resetSealed_kept {s : State} (h : Kept μ s₀ s) :
    Kept μ s₀ (State.resetSealed s) := by
  unfold State.resetSealed
  repeat' first
    | (extract_lets +onlyGivenNames x; first | (refine Kept.aside (μ := μ) (s₀ := s₀) (x := x) ?_ ?_; clear_value x; revert x; refine Kept.hold ?_; intro x hx; rotate_left; subst x) | skip)
    | with_reducible first | assumption
    | with_reducible intro _ _ _
    | with_reducible intro _ _
    | with_reducible intro _
    | with_reducible first | apply foldl_kept | apply setWord_kept
    | with_reducible first | apply foldl2_kept

theorem writeBusThresholds_kept {s : State} (h : Kept μ s₀ s) :
    Kept μ s₀ (State.writeBusThresholds s) := by
  unfold State.writeBusThresholds
  repeat' first
    | (extract_lets +onlyGivenNames x; first | (refine Kept.aside (μ := μ) (s₀ := s₀) (x := x) ?_ ?_; clear_value x; revert x; refine Kept.hold ?_; intro x hx; rotate_left; subst x) | skip)
    | with_reducible first | assumption | apply Kept.ite
    | with_reducible intro _ _ _
    | with_reducible intro _ _
    | with_reducible intro _
    | with_reducible first | apply forAll_kept | apply set_kept | apply setWord_kept | apply shed_kept
    | split

end Sys2Proof.Machine
end

