-- ==== Sys2Proof/Laws/KeptPorts.lean ====
section
/-!
SUPPORT. What every operation keeps (see Kept): the attach, PD, converter and breaker families.
-/
set_option linter.tactic.unusedName false
set_option linter.unusedTactic false
set_option linter.unreachableTactic false
namespace Sys2Proof.Machine

variable {s₀ : State} {μ : Bool}

/-! Machine/PdOps -/

theorem say_kept {s : State} {k : PortId} {kind : MsgKind} {objs : List Word} (h : Kept μ s₀ s) :
    Kept μ s₀ (State.say s k kind objs) := by
  unfold State.say
  repeat' first
    | (extract_lets +onlyGivenNames x; first | (refine Kept.aside (μ := μ) (s₀ := s₀) (x := x) ?_ ?_; clear_value x; revert x; refine Kept.hold ?_; intro x hx; rotate_left; subst x) | skip)
    | with_reducible first | assumption | apply Kept.ite
    | with_reducible intro _ _ _
    | with_reducible intro _ _
    | with_reducible intro _
    | with_reducible (apply kept_mk; assumption)
    | with_reducible first | apply arm_kept | apply modPd_kept
    | split

theorem setPe_kept {s : State} {k : PortId} {pe : Nat} (h : Kept μ s₀ s) :
    Kept μ s₀ (State.setPe s k pe) := by
  unfold State.setPe
  repeat' first
    | (extract_lets +onlyGivenNames x; first | (refine Kept.aside (μ := μ) (s₀ := s₀) (x := x) ?_ ?_; clear_value x; revert x; refine Kept.hold ?_; intro x hx; rotate_left; subst x) | skip)
    | with_reducible first | assumption | apply Kept.ite
    | with_reducible intro _ _ _
    | with_reducible intro _ _
    | with_reducible intro _
    | with_reducible (apply kept_mk; assumption)
    | with_reducible first | apply modPd_kept | apply set_kept
    | split

theorem releaseHeld_kept {s : State} {k : PortId} (h : Kept μ s₀ s) :
    Kept μ s₀ (State.releaseHeld s k) := by
  unfold State.releaseHeld
  repeat' first
    | (extract_lets +onlyGivenNames x; first | (refine Kept.aside (μ := μ) (s₀ := s₀) (x := x) ?_ ?_; clear_value x; revert x; refine Kept.hold ?_; intro x hx; rotate_left; subst x) | skip)
    | with_reducible first | assumption
    | with_reducible intro _ _ _
    | with_reducible intro _ _
    | with_reducible intro _
    | with_reducible (apply kept_mk; assumption)
    | with_reducible first | apply forAll_kept | apply modPd_kept | apply say_kept

theorem waitSinkTx_kept {s : State} {k : PortId} (h : Kept μ s₀ s) :
    Kept μ s₀ (State.waitSinkTx s k) := by
  unfold State.waitSinkTx
  repeat' first
    | (extract_lets +onlyGivenNames x; first | (refine Kept.aside (μ := μ) (s₀ := s₀) (x := x) ?_ ?_; clear_value x; revert x; refine Kept.hold ?_; intro x hx; rotate_left; subst x) | skip)
    | with_reducible first | assumption
    | with_reducible intro _ _ _
    | with_reducible intro _ _
    | with_reducible intro _
    | with_reducible (apply kept_mk; assumption)
    | with_reducible first | apply arm_kept | apply modPd_kept | apply set_kept

theorem ownAms_kept {s : State} {k : PortId} {msgs : List PdMsg} (h : Kept μ s₀ s) :
    Kept μ s₀ (State.ownAms s k msgs) := by
  unfold State.ownAms
  repeat' first
    | (extract_lets +onlyGivenNames x; first | (refine Kept.aside (μ := μ) (s₀ := s₀) (x := x) ?_ ?_; clear_value x; revert x; refine Kept.hold ?_; intro x hx; rotate_left; subst x) | skip)
    | with_reducible first | assumption | apply Kept.ite
    | with_reducible intro _ _ _
    | with_reducible intro _ _
    | with_reducible intro _
    | with_reducible (apply kept_mk; assumption)
    | with_reducible first | apply forAll_kept | apply modPd_kept | apply say_kept | apply waitSinkTx_kept
    | split

theorem endAms_kept {s : State} {k : PortId} (h : Kept μ s₀ s) :
    Kept μ s₀ (State.endAms s k) := by
  unfold State.endAms
  repeat' first
    | (extract_lets +onlyGivenNames x; first | (refine Kept.aside (μ := μ) (s₀ := s₀) (x := x) ?_ ?_; clear_value x; revert x; refine Kept.hold ?_; intro x hx; rotate_left; subst x) | skip)
    | with_reducible first | assumption | apply Kept.ite
    | with_reducible intro _ _ _
    | with_reducible intro _ _
    | with_reducible intro _
    | with_reducible (apply kept_mk; assumption)
    | with_reducible first | apply disarm_kept | apply modPd_kept | apply set_kept | apply waitSinkTx_kept
    | split

theorem queueFull_kept {s : State} {k : PortId} (h : Kept μ s₀ s) :
    Kept μ s₀ (State.queueFull s k) := by
  unfold State.queueFull
  repeat' first
    | with_reducible first | assumption
    | with_reducible first | apply flag_kept | apply warn_kept

theorem receive_kept {s : State} {k : PortId} {i : Instr} {id : Nat} {act : State → State} (h : Kept μ s₀ s) (hact : ∀ t, Kept μ
    s₀ t → Kept μ s₀ (act t)) :
    Kept μ s₀ (State.receive s k i id act) := by
  unfold State.receive
  repeat' first
    | (extract_lets +onlyGivenNames x; first | (refine Kept.aside (μ := μ) (s₀ := s₀) (x := x) ?_ ?_; clear_value x; revert x; refine Kept.hold ?_; intro x hx; rotate_left; subst x) | skip)
    | with_reducible first | assumption | apply Kept.ite
    | with_reducible intro _ _ _
    | with_reducible intro _ _
    | with_reducible intro _
    | with_reducible (apply kept_mk; assumption)
    | with_reducible first | apply modPd_kept | apply queueFull_kept | apply hact
    | split

theorem gateMoved_kept {t : State} {s : State} (h : Kept μ s₀ t) (hs : Kept μ s₀ s) :
    Kept μ s₀ (State.gateMoved t s) := by
  unfold State.gateMoved
  repeat' first
    | (extract_lets +onlyGivenNames x; first | (refine Kept.aside (μ := μ) (s₀ := s₀) (x := x) ?_ ?_; clear_value x; revert x; refine Kept.hold ?_; intro x hx; rotate_left; subst x) | skip)
    | with_reducible first | assumption
    | with_reducible intro _ _ _
    | with_reducible intro _ _
    | with_reducible intro _
    | with_reducible (apply kept_mk; assumption)
    | with_reducible first | apply forAll_kept | apply modPd_kept | apply when_kept

theorem sendCaps_kept {s : State} {k : PortId} (h : Kept μ s₀ s) :
    Kept μ s₀ (State.sendCaps s k) := by
  unfold State.sendCaps
  repeat' first
    | (extract_lets +onlyGivenNames x; first | (refine Kept.aside (μ := μ) (s₀ := s₀) (x := x) ?_ ?_; clear_value x; revert x; refine Kept.hold ?_; intro x hx; rotate_left; subst x) | skip)
    | with_reducible first | assumption | apply Kept.ite
    | with_reducible intro _ _ _
    | with_reducible intro _ _
    | with_reducible intro _
    | with_reducible (apply kept_mk; assumption)
    | with_reducible first | apply arm_kept | apply modPd_kept | apply say_kept | apply setPe_kept
    | split

theorem offerCaps_kept {s : State} {k : PortId} (h : Kept μ s₀ s) :
    Kept μ s₀ (State.offerCaps s k) := by
  unfold State.offerCaps
  repeat' first
    | with_reducible first | assumption | apply Kept.ite
    | with_reducible intro _
    | with_reducible first | apply ownAms_kept | apply sendCaps_kept
    | split

theorem acceptRequest_kept {s : State} {k : PortId} {o : Word} {r : Word} (h : Kept μ s₀ s) :
    Kept μ s₀ (State.acceptRequest s k o r) := by
  unfold State.acceptRequest
  repeat' first
    | (extract_lets +onlyGivenNames x; first | (refine Kept.aside (μ := μ) (s₀ := s₀) (x := x) ?_ ?_; clear_value x; revert x; refine Kept.hold ?_; intro x hx; rotate_left; subst x) | skip)
    | with_reducible first | assumption
    | with_reducible intro _ _ _
    | with_reducible intro _ _
    | with_reducible intro _
    | with_reducible (apply kept_mk; assumption)
    | with_reducible first | apply modPd_kept | apply put_kept | apply say_kept | apply setPe_kept

theorem rejectRequest_kept {s : State} {k : PortId} {ceilAlone : Bool} (h : Kept μ s₀ s) :
    Kept μ s₀ (State.rejectRequest s k ceilAlone) := by
  unfold State.rejectRequest
  repeat' first
    | (extract_lets +onlyGivenNames x; first | (refine Kept.aside (μ := μ) (s₀ := s₀) (x := x) ?_ ?_; clear_value x; revert x; refine Kept.hold ?_; intro x hx; rotate_left; subst x) | skip)
    | with_reducible first | assumption | apply Kept.ite
    | with_reducible intro _ _ _
    | with_reducible intro _ _
    | with_reducible intro _
    | with_reducible (apply kept_mk; assumption)
    | with_reducible first | apply flag_kept | apply modPd_kept | apply say_kept | apply sendCaps_kept | apply setPe_kept
                           | apply warn_kept
    | split

theorem judgeRequest_kept {s : State} {k : PortId} {r : Word} {rev2 : Bool} (h : Kept μ s₀ s) :
    Kept μ s₀ (State.judgeRequest s k r rev2) := by
  unfold State.judgeRequest
  repeat' first
    | (extract_lets +onlyGivenNames x; first | (refine Kept.aside (μ := μ) (s₀ := s₀) (x := x) ?_ ?_; clear_value x; revert x; refine Kept.hold ?_; intro x hx; rotate_left; subst x) | skip)
    | with_reducible first | assumption | apply Kept.ite
    | with_reducible intro _
    | split
    | with_reducible (apply kept_mk; assumption)
    | with_reducible first | apply acceptRequest_kept | apply arm_kept | apply disarmAll_kept | apply rejectRequest_kept
                           | apply sendCaps_kept | apply set_kept
    | (clear_value *; split)

theorem enterContract_kept {s : State} {k : PortId} (h : Kept μ s₀ s) :
    Kept μ s₀ (State.enterContract s k) := by
  unfold State.enterContract
  repeat' first
    | (extract_lets +onlyGivenNames x; first | (refine Kept.aside (μ := μ) (s₀ := s₀) (x := x) ?_ ?_; clear_value x; revert x; refine Kept.hold ?_; intro x hx; rotate_left; subst x) | skip)
    | with_reducible first | assumption | apply Kept.ite
    | with_reducible intro _ _ _
    | with_reducible intro _ _
    | with_reducible intro _
    | with_reducible (apply kept_mk; assumption)
    | with_reducible first | apply arm_kept | apply armOnce_kept | apply disarm_kept | apply modBrk_kept | apply modChk_kept
                           | apply modCnv_kept | apply modPd_kept | apply put_kept | apply say_kept | apply set_kept
                           | apply setPe_kept | apply setWord_kept
    | split

theorem hardResetStep1_kept {s : State} {k : PortId} (h : Kept μ s₀ s) :
    Kept μ s₀ (State.hardResetStep1 s k) := by
  unfold State.hardResetStep1
  repeat' first
    | (extract_lets +onlyGivenNames x; first | (refine Kept.aside (μ := μ) (s₀ := s₀) (x := x) ?_ ?_; clear_value x; revert x; refine Kept.hold ?_; intro x hx; rotate_left; subst x) | skip)
    | with_reducible first | assumption | apply Kept.ite
    | with_reducible intro _ _ _
    | with_reducible intro _ _
    | with_reducible intro _
    | with_reducible (apply kept_mk; assumption)
    | with_reducible first | apply arm_kept | apply clearPd_kept | apply disarm_kept | apply flag_kept | apply modPd_kept
                           | apply set_kept | apply setPe_kept | apply when_kept
    | split

theorem sendHardReset_kept {s : State} {k : PortId} (h : Kept μ s₀ s) :
    Kept μ s₀ (State.sendHardReset s k) := by
  unfold State.sendHardReset
  repeat' first
    | (extract_lets +onlyGivenNames x; first | (refine Kept.aside (μ := μ) (s₀ := s₀) (x := x) ?_ ?_; clear_value x; revert x; refine Kept.hold ?_; intro x hx; rotate_left; subst x) | skip)
    | with_reducible first | assumption | apply Kept.ite
    | with_reducible intro _ _ _
    | with_reducible intro _ _
    | with_reducible intro _
    | with_reducible (apply kept_mk; assumption)
    | with_reducible first | apply arm_kept | apply clearPd_kept | apply hardResetStep1_kept | apply modPd_kept
                           | apply raise_kept | apply set_kept | apply setAState_kept | apply setPe_kept
                           | apply softOpen_kept | apply warn_kept
    | split

theorem startSoftReset_kept {s : State} {k : PortId} (h : Kept μ s₀ s) :
    Kept μ s₀ (State.startSoftReset s k) := by
  unfold State.startSoftReset
  repeat' first
    | (extract_lets +onlyGivenNames x; first | (refine Kept.aside (μ := μ) (s₀ := s₀) (x := x) ?_ ?_; clear_value x; revert x; refine Kept.hold ?_; intro x hx; rotate_left; subst x) | skip)
    | with_reducible first | assumption | apply Kept.ite
    | with_reducible intro _ _ _
    | with_reducible intro _ _
    | with_reducible intro _
    | with_reducible (apply kept_mk; assumption)
    | with_reducible first | apply disarm_kept | apply modPd_kept | apply say_kept | apply sendHardReset_kept
    | split

theorem discover_kept {s : State} {k : PortId} (h : Kept μ s₀ s) :
    Kept μ s₀ (State.discover s k) := by
  unfold State.discover
  repeat' first
    | (extract_lets +onlyGivenNames x; first | (refine Kept.aside (μ := μ) (s₀ := s₀) (x := x) ?_ ?_; clear_value x; revert x; refine Kept.hold ?_; intro x hx; rotate_left; subst x) | skip)
    | with_reducible first | assumption
    | with_reducible intro _ _ _
    | with_reducible intro _ _
    | with_reducible intro _
    | with_reducible (apply kept_mk; assumption)
    | with_reducible first | apply modPd_kept | apply say_kept

theorem startPd_kept {s : State} {k : PortId} (h : Kept μ s₀ s) :
    Kept μ s₀ (State.startPd s k) := by
  unfold State.startPd
  repeat' first
    | (extract_lets +onlyGivenNames x; first | (refine Kept.aside (μ := μ) (s₀ := s₀) (x := x) ?_ ?_; clear_value x; revert x; refine Kept.hold ?_; intro x hx; rotate_left; subst x) | skip)
    | with_reducible first | assumption | apply Kept.ite
    | with_reducible intro _ _ _
    | with_reducible intro _ _
    | with_reducible intro _
    | with_reducible (apply kept_mk; assumption)
    | with_reducible first | apply discover_kept | apply modPd_kept | apply sendCaps_kept | apply setAState_kept
                           | apply setPe_kept
    | split

theorem cableOutcome_kept {s : State} {k : PortId} {emarked : Bool} {amps : Nat} {vmax : Nat} {epr : Bool} (h : Kept μ s₀ s) :
    Kept μ s₀ (State.cableOutcome s k emarked amps vmax epr) := by
  unfold State.cableOutcome
  repeat' first
    | (extract_lets +onlyGivenNames x; first | (refine Kept.aside (μ := μ) (s₀ := s₀) (x := x) ?_ ?_; clear_value x; revert x; refine Kept.hold ?_; intro x hx; rotate_left; subst x) | skip)
    | with_reducible first | assumption | apply Kept.ite
    | with_reducible intro _ _ _
    | with_reducible intro _ _
    | with_reducible intro _
    | with_reducible (apply kept_mk; assumption)
    | with_reducible first | apply disarmAll_kept | apply modPd_kept | apply put_kept | apply sendCaps_kept | apply set_kept
                           | apply setWord_kept
    | split

theorem cableMiss_kept {s : State} {k : PortId} (h : Kept μ s₀ s) :
    Kept μ s₀ (State.cableMiss s k) := by
  unfold State.cableMiss
  repeat' first
    | with_reducible first | assumption | apply Kept.ite
    | with_reducible intro _
    | with_reducible first | apply cableOutcome_kept | apply discover_kept
    | split

theorem onCableIdentity_kept {s : State} {k : PortId} {valid : Bool} {cur : Nat} {vmax : Nat} {epr : Bool} (h : Kept μ s₀ s) :
    Kept μ s₀ (State.onCableIdentity s k valid cur vmax epr) := by
  unfold State.onCableIdentity
  repeat' first
    | (extract_lets +onlyGivenNames x; first | (refine Kept.aside (μ := μ) (s₀ := s₀) (x := x) ?_ ?_; clear_value x; revert x; refine Kept.hold ?_; intro x hx; rotate_left; subst x) | skip)
    | with_reducible first | assumption | apply Kept.ite
    | with_reducible intro _
    | with_reducible first | apply cableMiss_kept | apply cableOutcome_kept | apply disarm_kept
    | split

theorem authFail_kept {s : State} {k : PortId} (h : Kept μ s₀ s) :
    Kept μ s₀ (State.authFail s k) := by
  unfold State.authFail
  repeat' first
    | (extract_lets +onlyGivenNames x; first | (refine Kept.aside (μ := μ) (s₀ := s₀) (x := x) ?_ ?_; clear_value x; revert x; refine Kept.hold ?_; intro x hx; rotate_left; subst x) | skip)
    | with_reducible first | assumption
    | with_reducible intro _ _ _
    | with_reducible intro _ _
    | with_reducible intro _
    | with_reducible (apply kept_mk; assumption)
    | with_reducible first | apply disarmAll_kept | apply endAms_kept | apply flag_kept | apply modPd_kept | apply set_kept
                           | apply warn_kept

/-! Machine/Attach -/

theorem execCcChange_kept {k : PortId} {cc1 : Term} {cc2 : Term} {s : State} (h : Kept μ s₀ s) :
    OutKept μ s₀ (execCcChange k cc1 cc2 s) := by
  unfold execCcChange
  repeat' first
    | (extract_lets +onlyGivenNames x; first | (refine Kept.aside (μ := μ) (s₀ := s₀) (x := x) ?_ ?_; clear_value x; revert x; refine Kept.hold ?_; intro x hx; rotate_left; subst x) | skip)
    | with_reducible first | assumption | apply Kept.ite | apply OutKept.ite
    | with_reducible intro _ _ _
    | with_reducible intro _ _
    | with_reducible intro _
    | with_reducible (apply kept_mk; assumption)
    | with_reducible first | apply arm_kept | apply ccEval_kept | apply disarm_kept | apply modPins_kept
                           | apply releaseHeld_kept | apply set_kept | apply unattached_kept | apply when_kept
                           | apply OutKept.next
    | split

theorem attachSink_kept {s : State} {k : PortId} (h : Kept μ s₀ s) :
    Kept μ s₀ (State.attachSink s k) := by
  unfold State.attachSink
  repeat' first
    | (extract_lets +onlyGivenNames x; first | (refine Kept.aside (μ := μ) (s₀ := s₀) (x := x) ?_ ?_; clear_value x; revert x; refine Kept.hold ?_; intro x hx; rotate_left; subst x) | skip)
    | with_reducible first | assumption | apply Kept.ite
    | with_reducible intro _ _ _
    | with_reducible intro _ _
    | with_reducible intro _
    | with_reducible (apply kept_mk; assumption)
    | with_reducible first | apply modAtt_kept | apply put_kept | apply set_kept | apply setAState_kept | apply when_kept
    | split

theorem refuseAccessory_kept {s : State} {k : PortId} (h : Kept μ s₀ s) :
    Kept μ s₀ (State.refuseAccessory s k) := by
  unfold State.refuseAccessory
  repeat' first
    | with_reducible first | assumption
    | with_reducible first | apply flag_kept | apply setAState_kept | apply warn_kept

theorem sinkJudged_kept {s : State} {k : PortId} {orient : Nat} {ra : Bool} (h : Kept μ s₀ s) :
    Kept μ s₀ (State.sinkJudged s k orient ra) := by
  unfold State.sinkJudged
  repeat' first
    | (extract_lets +onlyGivenNames x; first | (refine Kept.aside (μ := μ) (s₀ := s₀) (x := x) ?_ ?_; clear_value x; revert x; refine Kept.hold ?_; intro x hx; rotate_left; subst x) | skip)
    | with_reducible first | assumption | apply Kept.ite
    | with_reducible intro _ _ _
    | with_reducible intro _ _
    | with_reducible intro _
    | with_reducible (apply kept_mk; assumption)
    | with_reducible first | apply arm_kept | apply modAtt_kept | apply put_kept | apply set_kept | apply setAState_kept
                           | apply sinkFound_kept
    | split

theorem judgeCombination_kept {s : State} {k : PortId} (h : Kept μ s₀ s) :
    Kept μ s₀ (State.judgeCombination s k) := by
  unfold State.judgeCombination
  repeat' first
    | (extract_lets +onlyGivenNames x; first | (refine Kept.aside (μ := μ) (s₀ := s₀) (x := x) ?_ ?_; clear_value x; revert x; refine Kept.hold ?_; intro x hx; rotate_left; subst x) | skip)
    | with_reducible first | assumption
    | split
    | with_reducible (apply kept_mk; assumption)
    | with_reducible first | apply refuseAccessory_kept | apply sinkJudged_kept | apply unattached_kept

theorem execAttachDebounceElapsed_kept {k : PortId} {s : State} (h : Kept μ s₀ s) :
    OutKept μ s₀ (execAttachDebounceElapsed k s) := by
  unfold execAttachDebounceElapsed
  repeat' first
    | with_reducible first | assumption | apply Kept.ite | apply OutKept.ite
    | with_reducible intro _ _ _
    | with_reducible intro _ _
    | with_reducible intro _
    | with_reducible first | apply attachSink_kept | apply judgeCombination_kept | apply onElapse_kept
                           | apply unattached_kept | apply OutKept.next
    | split

theorem execVbusApplyJudge_kept {k : PortId} {s : State} (h : Kept μ s₀ s) :
    OutKept μ s₀ (execVbusApplyJudge k s) := by
  unfold execVbusApplyJudge
  repeat' first
    | with_reducible first | assumption
    | with_reducible first | apply judgeVbus_kept | apply OutKept.next

theorem execDetach_kept {k : PortId} {s : State} (h : Kept μ s₀ s) :
    OutKept μ s₀ (execDetach k s) := by
  unfold execDetach
  repeat' first
    | (extract_lets +onlyGivenNames x; first | (refine Kept.aside (μ := μ) (s₀ := s₀) (x := x) ?_ ?_; clear_value x; revert x; refine Kept.hold ?_; intro x hx; rotate_left; subst x) | skip)
    | with_reducible first | assumption | apply Kept.ite | apply OutKept.ite
    | with_reducible intro _ _ _
    | with_reducible intro _ _
    | with_reducible intro _
    | with_reducible (apply kept_mk; assumption)
    | with_reducible first | apply detach_kept | apply forgetPartner_kept | apply modPins_kept | apply when_kept
                           | apply OutKept.next
    | split

theorem execVcsnsSafe0Reached_kept {k : PortId} {s : State} (h : Kept μ s₀ s) :
    OutKept μ s₀ (execVcsnsSafe0Reached k s) := by
  unfold execVcsnsSafe0Reached
  repeat' first
    | (extract_lets +onlyGivenNames x; first | (refine Kept.aside (μ := μ) (s₀ := s₀) (x := x) ?_ ?_; clear_value x; revert x; refine Kept.hold ?_; intro x hx; rotate_left; subst x) | skip)
    | with_reducible first | assumption | apply Kept.ite | apply OutKept.ite
    | with_reducible intro _ _ _
    | with_reducible intro _ _
    | with_reducible intro _
    | with_reducible (apply kept_mk; assumption)
    | with_reducible first | apply judgeVbus_kept | apply modAtt_kept | apply modBrk_kept | apply modPins_kept
                           | apply settleOpen_kept | apply unattached_kept | apply OutKept.next
    | split

theorem execSeated_kept {k : PortId} {s : State} (h : Kept μ s₀ s) :
    OutKept μ s₀ (execSeated k s) := by
  unfold execSeated
  repeat' first
    | (extract_lets +onlyGivenNames x; first | (refine Kept.aside (μ := μ) (s₀ := s₀) (x := x) ?_ ?_; clear_value x; revert x; refine Kept.hold ?_; intro x hx; rotate_left; subst x) | skip)
    | with_reducible first | assumption | apply Kept.ite | apply OutKept.ite
    | with_reducible intro _ _ _
    | with_reducible intro _ _
    | with_reducible intro _
    | with_reducible (apply kept_mk; assumption)
    | with_reducible first | apply judgeVbus_kept | apply modPd_kept | apply modPins_kept | apply put_kept
                           | apply OutKept.next
    | split

theorem execSeatLost_kept {k : PortId} {s : State} (h : Kept μ s₀ s) :
    OutKept μ s₀ (execSeatLost k s) := by
  unfold execSeatLost
  repeat' first
    | (extract_lets +onlyGivenNames x; first | (refine Kept.aside (μ := μ) (s₀ := s₀) (x := x) ?_ ?_; clear_value x; revert x; refine Kept.hold ?_; intro x hx; rotate_left; subst x) | skip)
    | with_reducible first | assumption | apply Kept.ite | apply OutKept.ite
    | with_reducible intro _ _ _
    | with_reducible intro _ _
    | with_reducible intro _
    | with_reducible (apply kept_mk; assumption)
    | with_reducible first | apply clearPd_kept | apply flag_kept | apply judgeVbus_kept | apply modPd_kept
                           | apply modPins_kept | apply put_kept | apply softOpen_kept | apply warn_kept
                           | apply OutKept.next
    | split

theorem execVconnOvercurrent_kept {k : PortId} {s : State} (h : Kept μ s₀ s) :
    OutKept μ s₀ (execVconnOvercurrent k s) := by
  unfold execVconnOvercurrent
  repeat' first
    | (extract_lets +onlyGivenNames x; first | (refine Kept.aside (μ := μ) (s₀ := s₀) (x := x) ?_ ?_; clear_value x; revert x; refine Kept.hold ?_; intro x hx; rotate_left; subst x) | skip)
    | with_reducible first | assumption | apply Kept.ite | apply OutKept.ite
    | with_reducible intro _ _ _
    | with_reducible intro _ _
    | with_reducible intro _
    | with_reducible (apply kept_mk; assumption)
    | with_reducible first | apply cableOutcome_kept | apply disarm_kept | apply flag_kept | apply modAtt_kept
                           | apply raise_kept | apply vconnOff_kept | apply OutKept.next
    | split

theorem keepWet_kept {s : State} (h : Kept μ s₀ s) :
    Kept μ s₀ (State.keepWet s) := by
  unfold State.keepWet
  repeat' first
    | (extract_lets +onlyGivenNames x; first | (refine Kept.aside (μ := μ) (s₀ := s₀) (x := x) ?_ ?_; clear_value x; revert x; refine Kept.hold ?_; intro x hx; rotate_left; subst x) | skip)
    | with_reducible first | assumption | apply Kept.ite
    | with_reducible intro _ _ _
    | with_reducible intro _ _
    | with_reducible intro _
    | with_reducible first | apply foldl_kept | apply requestSwap_kept | apply set_kept | apply setShadow_kept
    | with_reducible first | apply foldl2_kept
    | split

theorem execWetReadingDue_kept {k : PortId} {s : State} (h : Kept μ s₀ s) :
    OutKept μ s₀ (execWetReadingDue k s) := by
  unfold execWetReadingDue
  repeat' first
    | (extract_lets +onlyGivenNames x; first | (refine Kept.aside (μ := μ) (s₀ := s₀) (x := x) ?_ ?_; clear_value x; revert x; refine Kept.hold ?_; intro x hx; rotate_left; subst x) | skip)
    | with_reducible first | assumption | apply Kept.ite | apply OutKept.ite
    | with_reducible intro _ _ _
    | with_reducible intro _ _
    | with_reducible intro _
    | with_reducible (apply kept_mk; assumption)
    | with_reducible first | apply arm_kept | apply keepWet_kept | apply modAtt_kept | apply onElapse_kept
                           | apply OutKept.next
    | split

theorem execWetSettlingEnd_kept {k : PortId} {s : State} (h : Kept μ s₀ s) :
    OutKept μ s₀ (execWetSettlingEnd k s) := by
  unfold execWetSettlingEnd
  repeat' first
    | with_reducible first | assumption
    | with_reducible intro _ _ _
    | with_reducible intro _ _
    | with_reducible intro _
    | with_reducible first | apply arm_kept | apply onElapse_kept | apply openWindows_kept | apply OutKept.next

theorem wetVerdict_kept {s : State} {k : PortId} (h : Kept μ s₀ s) :
    Kept μ s₀ (State.wetVerdict s k) := by
  unfold State.wetVerdict
  repeat' first
    | (extract_lets +onlyGivenNames x; first | (refine Kept.aside (μ := μ) (s₀ := s₀) (x := x) ?_ ?_; clear_value x; revert x; refine Kept.hold ?_; intro x hx; rotate_left; subst x) | skip)
    | with_reducible first | assumption
    | with_reducible intro _ _ _
    | with_reducible intro _ _
    | with_reducible intro _
    | with_reducible (apply kept_mk; assumption)
    | with_reducible first | apply flag_kept | apply modAtt_kept | apply set_kept | apply warn_kept

theorem dryReading_kept {s : State} {k : PortId} (h : Kept μ s₀ s) :
    Kept μ s₀ (State.dryReading s k) := by
  unfold State.dryReading
  repeat' first
    | (extract_lets +onlyGivenNames x; first | (refine Kept.aside (μ := μ) (s₀ := s₀) (x := x) ?_ ?_; clear_value x; revert x; refine Kept.hold ?_; intro x hx; rotate_left; subst x) | skip)
    | with_reducible first | assumption | apply Kept.ite
    | with_reducible intro _ _ _
    | with_reducible intro _ _
    | with_reducible intro _
    | with_reducible (apply kept_mk; assumption)
    | with_reducible first | apply modAtt_kept | apply set_kept
    | split

theorem execWetWindowEnd_kept {k : PortId} {s : State} (h : Kept μ s₀ s) :
    OutKept μ s₀ (execWetWindowEnd k s) := by
  unfold execWetWindowEnd
  repeat' first
    | (extract_lets +onlyGivenNames x; first | (refine Kept.aside (μ := μ) (s₀ := s₀) (x := x) ?_ ?_; clear_value x; revert x; refine Kept.hold ?_; intro x hx; rotate_left; subst x) | skip)
    | with_reducible first | assumption | apply Kept.ite | apply OutKept.ite
    | with_reducible intro _ _ _
    | with_reducible intro _ _
    | with_reducible intro _
    | with_reducible (apply kept_mk; assumption)
    | with_reducible first | apply ccEval_kept | apply closeWindows_kept | apply dryReading_kept | apply judgeVbus_kept
                           | apply modAtt_kept | apply onElapse_kept | apply raise_kept | apply set_kept
                           | apply wetVerdict_kept | apply OutKept.next
    | split

theorem execDrpToggle_kept {s : State} (h : Kept μ s₀ s) :
    OutKept μ s₀ (execDrpToggle s) := by
  unfold execDrpToggle
  repeat' first
    | (extract_lets +onlyGivenNames x; first | (refine Kept.aside (μ := μ) (s₀ := s₀) (x := x) ?_ ?_; clear_value x; revert x; refine Kept.hold ?_; intro x hx; rotate_left; subst x) | skip)
    | with_reducible first | assumption | apply Kept.ite | apply OutKept.ite
    | with_reducible intro _ _ _
    | with_reducible intro _ _
    | with_reducible intro _
    | with_reducible (apply kept_mk; assumption)
    | with_reducible first | apply arm_kept | apply ccEval_kept | apply modAtt_kept | apply onElapse_kept | apply put_kept
                           | apply set_kept | apply OutKept.next
    | split

theorem execTrySnkElapsed_kept {s : State} (h : Kept μ s₀ s) :
    OutKept μ s₀ (execTrySnkElapsed s) := by
  unfold execTrySnkElapsed
  repeat' first
    | (extract_lets +onlyGivenNames x; first | (refine Kept.aside (μ := μ) (s₀ := s₀) (x := x) ?_ ?_; clear_value x; revert x; refine Kept.hold ?_; intro x hx; rotate_left; subst x) | skip)
    | with_reducible first | assumption | apply Kept.ite | apply OutKept.ite
    | with_reducible intro _ _ _
    | with_reducible intro _ _
    | with_reducible intro _
    | split
    | with_reducible (apply kept_mk; assumption)
    | with_reducible first | apply arm_kept | apply attachSink_kept | apply modAtt_kept | apply onElapse_kept
                           | apply put_kept | apply set_kept | apply sinkFound_kept | apply unattached_kept
                           | apply OutKept.next
    | (clear_value *; split)

theorem sinkGone_kept {s : State} (h : Kept true s₀ s) :
    Kept true s₀ (State.sinkGone s) := by
  unfold State.sinkGone
  repeat' first
    | (extract_lets +onlyGivenNames x; first | (refine Kept.aside (μ := true) (s₀ := s₀) (x := x) ?_ ?_; clear_value x; revert x; refine Kept.hold ?_; intro x hx; rotate_left; subst x) | skip)
    | with_reducible first | assumption | apply Kept.ite
    | with_reducible intro _
    | with_reducible (apply kept_mk; assumption)
    | with_reducible first | apply supplyLost_kept
    | split

theorem execPort9SinkDetach_kept {s : State} (h : Kept true s₀ s) :
    OutKept true s₀ (execPort9SinkDetach s) := by
  unfold execPort9SinkDetach
  repeat' first
    | (extract_lets +onlyGivenNames x; first | (refine Kept.aside (μ := true) (s₀ := s₀) (x := x) ?_ ?_; clear_value x; revert x; refine Kept.hold ?_; intro x hx; rotate_left; subst x) | skip)
    | with_reducible first | assumption | apply Kept.ite | apply OutKept.ite
    | with_reducible intro _ _ _
    | with_reducible intro _ _
    | with_reducible intro _
    | with_reducible (apply kept_mk; assumption)
    | with_reducible first | apply forgetPartner_kept | apply modPins_kept | apply put_kept | apply set_kept
                           | apply sinkGone_kept | apply unattached_kept | apply OutKept.next
    | split

/-! Machine/HealthOps -/

theorem beginHealth_kept {s : State} {k : PortId} {partner : Bool} (h : Kept μ s₀ s) :
    Kept μ s₀ (State.beginHealth s k partner) := by
  unfold State.beginHealth
  repeat' first
    | (extract_lets +onlyGivenNames x; first | (refine Kept.aside (μ := μ) (s₀ := s₀) (x := x) ?_ ?_; clear_value x; revert x; refine Kept.hold ?_; intro x hx; rotate_left; subst x) | skip)
    | with_reducible first | assumption
    | with_reducible intro _ _ _
    | with_reducible intro _ _
    | with_reducible intro _
    | with_reducible (apply kept_mk; assumption)
    | with_reducible first | apply arm_kept | apply modChk_kept | apply openWindows_kept

theorem frenerDone_kept {s : State} {k : PortId} (h : Kept μ s₀ s) :
    Kept μ s₀ (State.frenerDone s k) := by
  unfold State.frenerDone
  repeat' first
    | (extract_lets +onlyGivenNames x; first | (refine Kept.aside (μ := μ) (s₀ := s₀) (x := x) ?_ ?_; clear_value x; revert x; refine Kept.hold ?_; intro x hx; rotate_left; subst x) | skip)
    | with_reducible first | assumption
    | with_reducible intro _ _ _
    | with_reducible intro _ _
    | with_reducible intro _
    | with_reducible (apply kept_mk; assumption)
    | with_reducible first | apply disarm_kept | apply endAms_kept | apply modPd_kept

theorem derate_kept {s : State} {k : PortId} {cap : Nat} (h : Kept μ s₀ s) :
    Kept μ s₀ (State.derate s k cap) := by
  unfold State.derate
  repeat' first
    | (extract_lets +onlyGivenNames x; first | (refine Kept.aside (μ := μ) (s₀ := s₀) (x := x) ?_ ?_; clear_value x; revert x; refine Kept.hold ?_; intro x hx; rotate_left; subst x) | skip)
    | with_reducible first | assumption | apply Kept.ite
    | with_reducible intro _ _ _
    | with_reducible intro _ _
    | with_reducible intro _
    | with_reducible (apply kept_mk; assumption)
    | with_reducible first | apply flag_kept | apply modBrk_kept | apply put_kept | apply raise_kept | apply set_kept
                           | apply settleOpen_kept | apply softOpen_kept | apply warn_kept
    | split

theorem judgeMed3_kept {s : State} {k : PortId} {med3 : Nat} (h : Kept μ s₀ s) :
    Kept μ s₀ (State.judgeMed3 s k med3) := by
  unfold State.judgeMed3
  repeat' first
    | (extract_lets +onlyGivenNames x; first | (refine Kept.aside (μ := μ) (s₀ := s₀) (x := x) ?_ ?_; clear_value x; revert x; refine Kept.hold ?_; intro x hx; rotate_left; subst x) | skip)
    | with_reducible first | assumption | apply Kept.ite
    | with_reducible intro _ _ _
    | with_reducible intro _ _
    | with_reducible intro _
    | with_reducible (apply kept_mk; assumption)
    | with_reducible first | apply derate_kept | apply flag_kept | apply modChk_kept | apply set_kept | apply warn_kept
    | split

theorem acceptResult_kept {s : State} {k : PortId} {r : Nat} {partner : Bool} (h : Kept μ s₀ s) :
    Kept μ s₀ (State.acceptResult s k r partner) := by
  unfold State.acceptResult
  repeat' first
    | (extract_lets +onlyGivenNames x; first | (refine Kept.aside (μ := μ) (s₀ := s₀) (x := x) ?_ ?_; clear_value x; revert x; refine Kept.hold ?_; intro x hx; rotate_left; subst x) | skip)
    | with_reducible first | assumption | apply Kept.ite
    | with_reducible intro _ _ _
    | with_reducible intro _ _
    | with_reducible intro _
    | with_reducible (apply kept_mk; assumption)
    | with_reducible first | apply judgeMed3_kept | apply modChk_kept | apply set_kept | apply when_kept
    | split

theorem pairReading_kept {s : State} {k : PortId} {d : Int} {i : Nat} {vinAcc : Nat} {partner : Bool} (h : Kept μ s₀ s) :
    Kept μ s₀ (State.pairReading s k d i vinAcc partner) := by
  unfold State.pairReading
  repeat' first
    | (extract_lets +onlyGivenNames x; first | (refine Kept.aside (μ := μ) (s₀ := s₀) (x := x) ?_ ?_; clear_value x; revert x; refine Kept.hold ?_; intro x hx; rotate_left; subst x) | skip)
    | with_reducible first | assumption | apply Kept.ite
    | with_reducible intro _ _ _
    | with_reducible intro _ _
    | with_reducible intro _
    | split
    | with_reducible (apply kept_mk; assumption)
    | with_reducible first | apply acceptResult_kept | apply modChk_kept
    | (clear_value *; split)

theorem judgeHealth_kept {s : State} {k : PortId} (h : Kept μ s₀ s) :
    Kept μ s₀ (State.judgeHealth s k) := by
  unfold State.judgeHealth
  repeat' first
    | (extract_lets +onlyGivenNames x; first | (refine Kept.aside (μ := μ) (s₀ := s₀) (x := x) ?_ ?_; clear_value x; revert x; refine Kept.hold ?_; intro x hx; rotate_left; subst x) | skip)
    | with_reducible first | assumption | apply Kept.ite
    | with_reducible intro _ _ _
    | with_reducible intro _ _
    | with_reducible intro _
    | split
    | with_reducible (apply kept_mk; assumption)
    | with_reducible first | apply arm_kept | apply closeWindows_kept | apply modChk_kept | apply pairReading_kept
    | (clear_value *; split)

theorem frenerAbsent_kept {s : State} {k : PortId} (h : Kept μ s₀ s) :
    Kept μ s₀ (State.frenerAbsent s k) := by
  unfold State.frenerAbsent
  repeat' first
    | (extract_lets +onlyGivenNames x; first | (refine Kept.aside (μ := μ) (s₀ := s₀) (x := x) ?_ ?_; clear_value x; revert x; refine Kept.hold ?_; intro x hx; rotate_left; subst x) | skip)
    | with_reducible first | assumption | apply Kept.ite
    | with_reducible intro _ _ _
    | with_reducible intro _ _
    | with_reducible intro _
    | with_reducible (apply kept_mk; assumption)
    | with_reducible first | apply frenerDone_kept | apply judgeHealth_kept | apply modPd_kept | apply warn_kept
    | split

/-! Machine/AuthOps -/

theorem askChain_kept {s : State} {k : PortId} (h : Kept μ s₀ s) :
    Kept μ s₀ (State.askChain s k) := by
  unfold State.askChain
  repeat' first
    | (extract_lets +onlyGivenNames x; first | (refine Kept.aside (μ := μ) (s₀ := s₀) (x := x) ?_ ?_; clear_value x; revert x; refine Kept.hold ?_; intro x hx; rotate_left; subst x) | skip)
    | with_reducible first | assumption
    | with_reducible intro _ _ _
    | with_reducible intro _ _
    | with_reducible intro _
    | split
    | with_reducible (apply kept_mk; assumption)
    | with_reducible first | apply authFail_kept | apply modPd_kept | apply say_kept
    | (clear_value *; split)

theorem onDigests_kept {s : State} {k : PortId} {msg : List Byte} (h : Kept μ s₀ s) :
    Kept μ s₀ (State.onDigests s k msg) := by
  unfold State.onDigests
  repeat' first
    | (extract_lets +onlyGivenNames x; first | (refine Kept.aside (μ := μ) (s₀ := s₀) (x := x) ?_ ?_; clear_value x; revert x; refine Kept.hold ?_; intro x hx; rotate_left; subst x) | skip)
    | with_reducible first | assumption
    | with_reducible intro _ _ _
    | with_reducible intro _ _
    | with_reducible intro _
    | with_reducible (apply kept_mk; assumption)
    | with_reducible first | apply askChain_kept | apply modPd_kept

theorem onChain_kept {s : State} {k : PortId} {slot : Nat} (h : Kept μ s₀ s) :
    Kept μ s₀ (State.onChain s k slot) := by
  unfold State.onChain
  repeat' first
    | (extract_lets +onlyGivenNames x; first | (refine Kept.aside (μ := μ) (s₀ := s₀) (x := x) ?_ ?_; clear_value x; revert x; refine Kept.hold ?_; intro x hx; rotate_left; subst x) | skip)
    | with_reducible first | assumption
    | with_reducible intro _ _ _
    | with_reducible intro _ _
    | with_reducible intro _
    | split
    | with_reducible (apply kept_mk; assumption)
    | with_reducible first | apply authFail_kept | apply modPd_kept | apply say_kept
    | (clear_value *; split)

theorem onCertificate_kept {s : State} {k : PortId} {slot : Nat} {part : List Byte} (h : Kept μ s₀ s) :
    Kept μ s₀ (State.onCertificate s k slot part) := by
  unfold State.onCertificate
  repeat' first
    | (extract_lets +onlyGivenNames x; first | (refine Kept.aside (μ := μ) (s₀ := s₀) (x := x) ?_ ?_; clear_value x; revert x; refine Kept.hold ?_; intro x hx; rotate_left; subst x) | skip)
    | with_reducible first | assumption | apply Kept.ite
    | with_reducible intro _ _ _
    | with_reducible intro _ _
    | with_reducible intro _
    | with_reducible (apply kept_mk; assumption)
    | with_reducible first | apply askChain_kept | apply authFail_kept | apply modPd_kept | apply onChain_kept
                           | apply say_kept
    | split

theorem onChallengeAuth_kept {s : State} {k : PortId} {slot : Nat} {msg : List Byte} (h : Kept μ s₀ s) :
    Kept μ s₀ (State.onChallengeAuth s k slot msg) := by
  unfold State.onChallengeAuth
  repeat' first
    | (extract_lets +onlyGivenNames x; first | (refine Kept.aside (μ := μ) (s₀ := s₀) (x := x) ?_ ?_; clear_value x; revert x; refine Kept.hold ?_; intro x hx; rotate_left; subst x) | skip)
    | with_reducible first | assumption | apply Kept.ite
    | with_reducible intro _ _ _
    | with_reducible intro _ _
    | with_reducible intro _
    | with_reducible (apply kept_mk; assumption)
    | with_reducible first | apply authFail_kept | apply disarm_kept | apply endAms_kept | apply modPd_kept | apply set_kept
    | split

theorem authStep_kept {s : State} {k : PortId} {msg : List Byte} (h : Kept μ s₀ s) :
    Kept μ s₀ (State.authStep s k msg) := by
  unfold State.authStep
  repeat' first
    | (extract_lets +onlyGivenNames x; first | (refine Kept.aside (μ := μ) (s₀ := s₀) (x := x) ?_ ?_; clear_value x; revert x; refine Kept.hold ?_; intro x hx; rotate_left; subst x) | skip)
    | with_reducible first | assumption | apply Kept.ite
    | with_reducible intro _
    | split
    | with_reducible (apply kept_mk; assumption)
    | with_reducible first | apply authFail_kept | apply disarm_kept | apply onCertificate_kept | apply onChallengeAuth_kept
                           | apply onDigests_kept
    | (clear_value *; split)

/-! Machine/Pd -/

theorem policyMsg_kept {s : State} {k : PortId} {act : State → State} (h : Kept μ s₀ s) (hact : ∀ t, Kept μ s₀ t → Kept μ s₀ (act t)) :
    Kept μ s₀ (State.policyMsg s k act) := by
  unfold State.policyMsg
  repeat' first
    | with_reducible first | assumption | apply Kept.ite
    | with_reducible intro _ _ _
    | with_reducible intro _ _
    | with_reducible intro _
    | with_reducible first | apply sendHardReset_kept | apply hact
    | split

theorem answer_kept {s : State} {k : PortId} {kind : MsgKind} {objs : List Word} (h : Kept μ s₀ s) :
    Kept μ s₀ (State.answer s k kind objs) := by
  unfold State.answer
  repeat' first
    | with_reducible first | assumption
    | with_reducible intro _ _ _
    | with_reducible intro _ _
    | with_reducible intro _
    | with_reducible first | apply policyMsg_kept | apply say_kept

theorem answerExt_kept {s : State} {k : PortId} {kind : MsgKind} {objs : List Word} (h : Kept μ s₀ s) :
    Kept μ s₀ (State.answerExt s k kind objs) := by
  unfold State.answerExt
  repeat' first
    | with_reducible first | assumption | apply Kept.ite
    | with_reducible intro _
    | with_reducible first | apply answer_kept
    | split

theorem onRequest_kept {s : State} {k : PortId} {rdo : Word} {rev2 : Bool} (h : Kept μ s₀ s) :
    Kept μ s₀ (State.onRequest s k rdo rev2) := by
  unfold State.onRequest
  repeat' first
    | with_reducible first | assumption | apply Kept.ite
    | with_reducible intro _ _ _
    | with_reducible intro _ _
    | with_reducible intro _
    | with_reducible first | apply judgeRequest_kept | apply policyMsg_kept | apply say_kept
    | split

theorem onEprRequest_kept {s : State} {k : PortId} {rdo : Word} (h : Kept μ s₀ s) :
    Kept μ s₀ (State.onEprRequest s k rdo) := by
  unfold State.onEprRequest
  repeat' first
    | with_reducible first | assumption | apply Kept.ite
    | with_reducible intro _ _ _
    | with_reducible intro _ _
    | with_reducible intro _
    | with_reducible first | apply judgeRequest_kept | apply policyMsg_kept | apply say_kept
    | split

theorem onGetSourceCap_kept {s : State} {k : PortId} (h : Kept μ s₀ s) :
    Kept μ s₀ (State.onGetSourceCap s k) := by
  unfold State.onGetSourceCap
  repeat' first
    | with_reducible first | assumption
    | with_reducible intro _ _ _
    | with_reducible intro _ _
    | with_reducible intro _
    | with_reducible first | apply policyMsg_kept | apply say_kept

theorem onEprGetSourceCap_kept {s : State} {k : PortId} (h : Kept μ s₀ s) :
    Kept μ s₀ (State.onEprGetSourceCap s k) := by
  unfold State.onEprGetSourceCap
  repeat' first
    | (extract_lets +onlyGivenNames x; first | (refine Kept.aside (μ := μ) (s₀ := s₀) (x := x) ?_ ?_; clear_value x; revert x; refine Kept.hold ?_; intro x hx; rotate_left; subst x) | skip)
    | with_reducible first | assumption | apply Kept.ite
    | with_reducible intro _ _ _
    | with_reducible intro _ _
    | with_reducible intro _
    | with_reducible first | apply policyMsg_kept | apply say_kept
    | split

theorem onGetSinkCap_kept {s : State} {k : PortId} {extended : Bool} (h : Kept μ s₀ s) :
    Kept μ s₀ (State.onGetSinkCap s k extended) := by
  unfold State.onGetSinkCap
  repeat' first
    | with_reducible first | assumption | apply Kept.ite
    | with_reducible intro _
    | with_reducible first | apply answer_kept | apply answerExt_kept
    | split

theorem onGetSourceCapExtended_kept {s : State} {k : PortId} (h : Kept μ s₀ s) :
    Kept μ s₀ (State.onGetSourceCapExtended s k) := by
  unfold State.onGetSourceCapExtended
  repeat' first
    | (extract_lets +onlyGivenNames x; first | (refine Kept.aside (μ := μ) (s₀ := s₀) (x := x) ?_ ?_; clear_value x; revert x; refine Kept.hold ?_; intro x hx; rotate_left; subst x) | skip)
    | with_reducible first | assumption
    | with_reducible first | apply answerExt_kept

theorem onGetSourceInfo_kept {s : State} {k : PortId} (h : Kept μ s₀ s) :
    Kept μ s₀ (State.onGetSourceInfo s k) := by
  unfold State.onGetSourceInfo
  repeat' first
    | with_reducible first | assumption
    | with_reducible first | apply answer_kept

theorem onGetRevision_kept {s : State} {k : PortId} (h : Kept μ s₀ s) :
    Kept μ s₀ (State.onGetRevision s k) := by
  unfold State.onGetRevision
  repeat' first
    | with_reducible first | assumption
    | with_reducible first | apply answer_kept

theorem onGetManufacturerInfo_kept {s : State} {k : PortId} (h : Kept μ s₀ s) :
    Kept μ s₀ (State.onGetManufacturerInfo s k) := by
  unfold State.onGetManufacturerInfo
  repeat' first
    | with_reducible first | assumption
    | with_reducible first | apply answerExt_kept

theorem onGetStatus_kept {s : State} {k : PortId} (h : Kept μ s₀ s) :
    Kept μ s₀ (State.onGetStatus s k) := by
  unfold State.onGetStatus
  repeat' first
    | (extract_lets +onlyGivenNames x; first | (refine Kept.aside (μ := μ) (s₀ := s₀) (x := x) ?_ ?_; clear_value x; revert x; refine Kept.hold ?_; intro x hx; rotate_left; subst x) | (refine Kept.aside2 (μ := μ) (s₀ := s₀) (x := x) ?_ ?_; clear_value x; revert x; refine Kept.hold ?_; intro x hx; rotate_left; subst x) | skip)
    | with_reducible first | assumption | apply Kept.ite
    | with_reducible intro _ _ _
    | with_reducible intro _ _
    | with_reducible intro _
    | dsimp only
    | split
    | with_reducible (apply kept_mk; assumption)
    | with_reducible first | apply modPd_kept | apply policyMsg_kept | apply say_kept
    | with_reducible first | apply takeFree_kept

theorem onGetPpsStatus_kept {s : State} {k : PortId} (h : Kept μ s₀ s) :
    Kept μ s₀ (State.onGetPpsStatus s k) := by
  unfold State.onGetPpsStatus
  repeat' first
    | with_reducible first | assumption | apply Kept.ite
    | with_reducible intro _
    | with_reducible first | apply answer_kept | apply answerExt_kept
    | split

theorem onAlert_kept {s : State} {k : PortId} (h : Kept μ s₀ s) :
    Kept μ s₀ (State.onAlert s k) := by
  unfold State.onAlert
  repeat' first
    | with_reducible first | assumption
    | with_reducible intro _ _ _
    | with_reducible intro _ _
    | with_reducible intro _
    | with_reducible first | apply ownAms_kept | apply policyMsg_kept

theorem onSoftReset_kept {s : State} {k : PortId} (h : Kept μ s₀ s) :
    Kept μ s₀ (State.onSoftReset s k) := by
  unfold State.onSoftReset
  repeat' first
    | (extract_lets +onlyGivenNames x; first | (refine Kept.aside (μ := μ) (s₀ := s₀) (x := x) ?_ ?_; clear_value x; revert x; refine Kept.hold ?_; intro x hx; rotate_left; subst x) | skip)
    | with_reducible first | assumption
    | with_reducible intro _ _ _
    | with_reducible intro _ _
    | with_reducible intro _
    | with_reducible (apply kept_mk; assumption)
    | with_reducible first | apply disarmAll_kept | apply endAms_kept | apply modPd_kept | apply policyMsg_kept
                           | apply say_kept

theorem onBist_kept {s : State} {k : PortId} {mode : Nat} (h : Kept μ s₀ s) :
    Kept μ s₀ (State.onBist s k mode) := by
  unfold State.onBist
  repeat' first
    | (extract_lets +onlyGivenNames x; first | (refine Kept.aside (μ := μ) (s₀ := s₀) (x := x) ?_ ?_; clear_value x; revert x; refine Kept.hold ?_; intro x hx; rotate_left; subst x) | skip)
    | with_reducible first | assumption | apply Kept.ite
    | with_reducible intro _ _ _
    | with_reducible intro _ _
    | with_reducible intro _
    | with_reducible (apply kept_mk; assumption)
    | with_reducible first | apply modPd_kept | apply policyMsg_kept | apply say_kept
    | split

theorem onPrSwap_kept {s : State} (h : Kept μ s₀ s) :
    Kept μ s₀ (State.onPrSwap s) := by
  unfold State.onPrSwap
  repeat' first
    | (extract_lets +onlyGivenNames x; first | (refine Kept.aside (μ := μ) (s₀ := s₀) (x := x) ?_ ?_; clear_value x; revert x; refine Kept.hold ?_; intro x hx; rotate_left; subst x) | skip)
    | with_reducible first | assumption | apply Kept.ite
    | with_reducible intro _ _ _
    | with_reducible intro _ _
    | with_reducible intro _
    | with_reducible (apply kept_mk; assumption)
    | with_reducible first | apply modPd_kept | apply policyMsg_kept | apply say_kept
    | split

theorem onVconnSwap_kept {s : State} (h : Kept μ s₀ s) :
    Kept μ s₀ (State.onVconnSwap s) := by
  unfold State.onVconnSwap
  repeat' first
    | (extract_lets +onlyGivenNames x; first | (refine Kept.aside (μ := μ) (s₀ := s₀) (x := x) ?_ ?_; clear_value x; revert x; refine Kept.hold ?_; intro x hx; rotate_left; subst x) | skip)
    | with_reducible first | assumption | apply Kept.ite
    | with_reducible intro _ _ _
    | with_reducible intro _ _
    | with_reducible intro _
    | with_reducible (apply kept_mk; assumption)
    | with_reducible first | apply modPd_kept | apply policyMsg_kept | apply say_kept
    | split

theorem onDrSwap_kept {s : State} (h : Kept μ s₀ s) :
    Kept μ s₀ (State.onDrSwap s) := by
  unfold State.onDrSwap
  repeat' first
    | (extract_lets +onlyGivenNames x; first | (refine Kept.aside (μ := μ) (s₀ := s₀) (x := x) ?_ ?_; clear_value x; revert x; refine Kept.hold ?_; intro x hx; rotate_left; subst x) | skip)
    | with_reducible first | assumption | apply Kept.ite
    | with_reducible intro _ _ _
    | with_reducible intro _ _
    | with_reducible intro _
    | with_reducible (apply kept_mk; assumption)
    | with_reducible first | apply disarm_kept | apply modPd_kept | apply policyMsg_kept | apply put_kept | apply say_kept
    | split

theorem onSourceCaps_kept {s : State} {pdos : List Word} {rev2 : Bool} (h : Kept μ s₀ s) :
    Kept μ s₀ (State.onSourceCaps s pdos rev2) := by
  unfold State.onSourceCaps
  repeat' first
    | (extract_lets +onlyGivenNames x; first | (refine Kept.aside (μ := μ) (s₀ := s₀) (x := x) ?_ ?_; clear_value x; revert x; refine Kept.hold ?_; intro x hx; rotate_left; subst x) | skip)
    | with_reducible first | assumption | apply Kept.ite
    | with_reducible intro _ _ _
    | with_reducible intro _ _
    | with_reducible intro _
    | with_reducible (apply kept_mk; assumption)
    | with_reducible first | apply modPd_kept | apply policyMsg_kept | apply say_kept | apply set_kept | apply setPe_kept
                           | apply startSoftReset_kept
    | split

theorem drFailed_kept {s : State} (h : Kept μ s₀ s) :
    Kept μ s₀ (State.drFailed s) := by
  unfold State.drFailed
  repeat' first
    | (extract_lets +onlyGivenNames x; first | (refine Kept.aside (μ := μ) (s₀ := s₀) (x := x) ?_ ?_; clear_value x; revert x; refine Kept.hold ?_; intro x hx; rotate_left; subst x) | skip)
    | with_reducible first | assumption | apply Kept.ite
    | with_reducible intro _ _ _
    | with_reducible intro _ _
    | with_reducible intro _
    | with_reducible (apply kept_mk; assumption)
    | with_reducible first | apply arm_kept | apply endAms_kept | apply modAtt_kept | apply modPd_kept | apply warn_kept
    | split

theorem enterSinkContract_kept {s : State} (h : Kept μ s₀ s) :
    Kept μ s₀ (State.enterSinkContract s) := by
  unfold State.enterSinkContract
  repeat' first
    | (extract_lets +onlyGivenNames x; first | (refine Kept.aside (μ := μ) (s₀ := s₀) (x := x) ?_ ?_; clear_value x; revert x; refine Kept.hold ?_; intro x hx; rotate_left; subst x) | skip)
    | with_reducible first | assumption | apply Kept.ite
    | with_reducible intro _ _ _
    | with_reducible intro _ _
    | with_reducible intro _
    | with_reducible (apply kept_mk; assumption)
    | with_reducible first | apply armOnce_kept | apply modPd_kept | apply put_kept | apply set_kept | apply setPe_kept
                           | apply setWord_kept
    | split

theorem afterAnswer_kept {s : State} {k : PortId} {ready : Bool} (h : Kept μ s₀ s) :
    Kept μ s₀ (State.afterAnswer s k ready) := by
  unfold State.afterAnswer
  repeat' first
    | (extract_lets +onlyGivenNames x; first | (refine Kept.aside (μ := μ) (s₀ := s₀) (x := x) ?_ ?_; clear_value x; revert x; refine Kept.hold ?_; intro x hx; rotate_left; subst x) | skip)
    | with_reducible first | assumption | apply Kept.ite
    | with_reducible intro _ _ _
    | with_reducible intro _ _
    | with_reducible intro _
    | with_reducible (apply kept_mk; assumption)
    | with_reducible first | apply disarm_kept | apply modPd_kept
    | split

theorem swapContext_kept {s : State} {k : PortId} (h : Kept μ s₀ s) :
    Kept μ s₀ (State.swapContext s k) := by
  unfold State.swapContext
  repeat' first
    | (extract_lets +onlyGivenNames x; first | (refine Kept.aside (μ := μ) (s₀ := s₀) (x := x) ?_ ?_; clear_value x; revert x; refine Kept.hold ?_; intro x hx; rotate_left; subst x) | skip)
    | with_reducible first | assumption
    | with_reducible first | apply clearPd_kept | apply put_kept

theorem onNotSupported_kept {s : State} {k : PortId} (h : Kept μ s₀ s) :
    Kept μ s₀ (State.onNotSupported s k) := by
  unfold State.onNotSupported
  repeat' first
    | with_reducible first | assumption | apply Kept.ite
    | with_reducible intro _
    | with_reducible first | apply authFail_kept | apply endAms_kept | apply frenerAbsent_kept
    | split

theorem onPsRdy_kept {s : State} {k : PortId} {msg : Nat} (h : Kept μ s₀ s) :
    Kept μ s₀ (State.onPsRdy s k msg) := by
  unfold State.onPsRdy
  repeat' first
    | (extract_lets +onlyGivenNames x; first | (refine Kept.aside (μ := μ) (s₀ := s₀) (x := x) ?_ ?_; clear_value x; revert x; refine Kept.hold ?_; intro x hx; rotate_left; subst x) | skip)
    | with_reducible first | assumption | apply Kept.ite
    | with_reducible intro _ _ _
    | with_reducible intro _ _
    | with_reducible intro _
    | split
    | with_reducible (apply kept_mk; assumption)
    | with_reducible first | apply afterAnswer_kept | apply answer_kept | apply beginClose_kept | apply disarm_kept
                           | apply drFailed_kept | apply endAms_kept | apply enterSinkContract_kept | apply modPd_kept
                           | apply onNotSupported_kept | apply policyMsg_kept | apply put_kept | apply set_kept
                           | apply setAState_kept | apply setPe_kept | apply startSoftReset_kept | apply swapContext_kept
                           | apply vconnOff_kept
    | (clear_value *; split)

theorem onEprEnter_kept {s : State} {k : PortId} (h : Kept μ s₀ s) :
    Kept μ s₀ (State.onEprEnter s k) := by
  unfold State.onEprEnter
  repeat' first
    | (extract_lets +onlyGivenNames x; first | (refine Kept.aside (μ := μ) (s₀ := s₀) (x := x) ?_ ?_; clear_value x; revert x; refine Kept.hold ?_; intro x hx; rotate_left; subst x) | skip)
    | with_reducible first | assumption | apply Kept.ite
    | with_reducible intro _ _ _
    | with_reducible intro _ _
    | with_reducible intro _
    | with_reducible first | apply policyMsg_kept | apply say_kept
    | split

theorem leaveEpr_kept {s : State} {k : PortId} (h : Kept μ s₀ s) :
    Kept μ s₀ (State.leaveEpr s k) := by
  unfold State.leaveEpr
  repeat' first
    | (extract_lets +onlyGivenNames x; first | (refine Kept.aside (μ := μ) (s₀ := s₀) (x := x) ?_ ?_; clear_value x; revert x; refine Kept.hold ?_; intro x hx; rotate_left; subst x) | skip)
    | with_reducible first | assumption
    | with_reducible first | apply disarm_kept | apply put_kept | apply sendCaps_kept

theorem onEprExit_kept {s : State} {k : PortId} (h : Kept μ s₀ s) :
    Kept μ s₀ (State.onEprExit s k) := by
  unfold State.onEprExit
  repeat' first
    | with_reducible first | assumption | apply Kept.ite
    | with_reducible intro _ _ _
    | with_reducible intro _ _
    | with_reducible intro _
    | with_reducible first | apply leaveEpr_kept | apply policyMsg_kept | apply say_kept
    | split

theorem onStructuredVdm_kept {s : State} {k : PortId} {svid : Nat} {cmd : Nat} (h : Kept μ s₀ s) :
    Kept μ s₀ (State.onStructuredVdm s k svid cmd) := by
  unfold State.onStructuredVdm
  repeat' first
    | with_reducible first | assumption | apply Kept.ite
    | with_reducible intro _
    | with_reducible first | apply answer_kept
    | split

theorem onSecurityResponse_kept {s : State} {k : PortId} {msg : List Byte} (h : Kept μ s₀ s) :
    Kept μ s₀ (State.onSecurityResponse s k msg) := by
  unfold State.onSecurityResponse
  repeat' first
    | with_reducible first | assumption
    | with_reducible intro _ _ _
    | with_reducible intro _ _
    | with_reducible intro _
    | with_reducible first | apply authStep_kept | apply policyMsg_kept

theorem onFrenerVdm_kept {s : State} {k : PortId} {hdr : Word} {vdo1 : Word} {vdo2 : Word} (h : Kept μ s₀ s) :
    Kept μ s₀ (State.onFrenerVdm s k hdr vdo1 vdo2) := by
  unfold State.onFrenerVdm
  repeat' first
    | (extract_lets +onlyGivenNames x; first | (refine Kept.aside (μ := μ) (s₀ := s₀) (x := x) ?_ ?_; clear_value x; revert x; refine Kept.hold ?_; intro x hx; rotate_left; subst x) | skip)
    | with_reducible first | assumption | apply Kept.ite
    | with_reducible intro _ _ _
    | with_reducible intro _ _
    | with_reducible intro _
    | with_reducible (apply kept_mk; assumption)
    | with_reducible first | apply frenerDone_kept | apply judgeHealth_kept | apply modChk_kept | apply policyMsg_kept
                           | apply say_kept
    | split

theorem onIdent_kept {s : State} {k : PortId} {vdo1 : Word} {vdo2 : Word} (h : Kept μ s₀ s) :
    Kept μ s₀ (State.onIdent s k vdo1 vdo2) := by
  unfold State.onIdent
  repeat' first
    | (extract_lets +onlyGivenNames x; first | (refine Kept.aside (μ := μ) (s₀ := s₀) (x := x) ?_ ?_; clear_value x; revert x; refine Kept.hold ?_; intro x hx; rotate_left; subst x) | skip)
    | with_reducible first | assumption | apply Kept.ite
    | with_reducible intro _ _ _
    | with_reducible intro _ _
    | with_reducible intro _
    | with_reducible (apply kept_mk; assumption)
    | with_reducible first | apply answer_kept | apply frenerDone_kept | apply modPd_kept
    | split

theorem handleQueued_kept {s : State} {i : Instr} (h : Kept μ s₀ s) : Kept μ s₀ (State.handleQueued s i) := by
  cases i
  case request => exact onRequest_kept h
  case eprRequest => exact onEprRequest_kept h
  case getSourceCap => exact onGetSourceCap_kept h
  case eprGetSourceCap => exact onEprGetSourceCap_kept h
  case getSinkCap => exact onGetSinkCap_kept h
  case getSourceCapExtended => exact onGetSourceCapExtended_kept h
  case getSourceInfo => exact onGetSourceInfo_kept h
  case getRevision => exact onGetRevision_kept h
  case getManufacturerInfo => exact onGetManufacturerInfo_kept h
  case getStatus => exact onGetStatus_kept h
  case getPpsStatus => exact onGetPpsStatus_kept h
  case alert => exact onAlert_kept h
  case softReset => exact onSoftReset_kept h
  case bist => exact onBist_kept h
  case notSupportedMessage => exact answer_kept h
  case vconnSwapReject => exact answer_kept h
  case prSwap => exact onPrSwap_kept h
  case vconnSwap => exact onVconnSwap_kept h
  case drSwap => exact onDrSwap_kept h
  case port9SourceCapabilities => exact onSourceCaps_kept h
  case port9PsRdy => exact onPsRdy_kept h
  case eprModeEnter => exact onEprEnter_kept h
  case eprModeExit => exact onEprExit_kept h
  case structuredVdm => exact onStructuredVdm_kept h
  case securityResponse => exact onSecurityResponse_kept h
  case frenerVdmReceived => exact onFrenerVdm_kept h
  case frenerIdent k v =>
    cases v
    · exact h
    · exact onIdent_kept h
  case cableIdentityResponse => exact onCableIdentity_kept h
  all_goals exact h

theorem handleQueue_kept {s : State} {k : PortId} (h : Kept μ s₀ s) :
    Kept μ s₀ (State.handleQueue s k) := by
  unfold State.handleQueue
  repeat' first
    | (extract_lets +onlyGivenNames x; first | (refine Kept.aside (μ := μ) (s₀ := s₀) (x := x) ?_ ?_; clear_value x; revert x; refine Kept.hold ?_; intro x hx; rotate_left; subst x) | skip)
    | with_reducible first | assumption
    | with_reducible intro _ _ _
    | with_reducible intro _ _
    | with_reducible intro _
    | with_reducible (apply kept_mk; assumption)
    | with_reducible first | apply forAll_kept | apply handleQueued_kept | apply modPd_kept

theorem execRequest_kept {k : PortId} {id : BitVec 3} {rdo : Word} {rev2 : Bool} {s : State} (h : Kept μ s₀ s) :
    OutKept μ s₀ (execRequest k id rdo rev2 s) := by
  unfold execRequest
  repeat' first
    | with_reducible first | assumption
    | with_reducible intro _ _ _
    | with_reducible intro _ _
    | with_reducible intro _
    | with_reducible first | apply onRequest_kept | apply receive_kept | apply OutKept.next

theorem execEprRequest_kept {k : PortId} {id : BitVec 3} {rdo : Word} {s : State} (h : Kept μ s₀ s) :
    OutKept μ s₀ (execEprRequest k id rdo s) := by
  unfold execEprRequest
  repeat' first
    | with_reducible first | assumption
    | with_reducible intro _ _ _
    | with_reducible intro _ _
    | with_reducible intro _
    | with_reducible first | apply onEprRequest_kept | apply receive_kept | apply OutKept.next

theorem execGetSourceCap_kept {k : PortId} {id : BitVec 3} {s : State} (h : Kept μ s₀ s) :
    OutKept μ s₀ (execGetSourceCap k id s) := by
  unfold execGetSourceCap
  repeat' first
    | with_reducible first | assumption
    | with_reducible intro _ _ _
    | with_reducible intro _ _
    | with_reducible intro _
    | with_reducible first | apply onGetSourceCap_kept | apply receive_kept | apply OutKept.next

theorem execEprGetSourceCap_kept {k : PortId} {id : BitVec 3} {s : State} (h : Kept μ s₀ s) :
    OutKept μ s₀ (execEprGetSourceCap k id s) := by
  unfold execEprGetSourceCap
  repeat' first
    | with_reducible first | assumption
    | with_reducible intro _ _ _
    | with_reducible intro _ _
    | with_reducible intro _
    | with_reducible first | apply onEprGetSourceCap_kept | apply receive_kept | apply OutKept.next

theorem execGetSinkCap_kept {k : PortId} {id : BitVec 3} {extended : Bool} {s : State} (h : Kept μ s₀ s) :
    OutKept μ s₀ (execGetSinkCap k id extended s) := by
  unfold execGetSinkCap
  repeat' first
    | with_reducible first | assumption
    | with_reducible intro _ _ _
    | with_reducible intro _ _
    | with_reducible intro _
    | with_reducible first | apply onGetSinkCap_kept | apply receive_kept | apply OutKept.next

theorem execGetSourceCapExtended_kept {k : PortId} {id : BitVec 3} {s : State} (h : Kept μ s₀ s) :
    OutKept μ s₀ (execGetSourceCapExtended k id s) := by
  unfold execGetSourceCapExtended
  repeat' first
    | with_reducible first | assumption
    | with_reducible intro _ _ _
    | with_reducible intro _ _
    | with_reducible intro _
    | with_reducible first | apply onGetSourceCapExtended_kept | apply receive_kept | apply OutKept.next

theorem execGetSourceInfo_kept {k : PortId} {id : BitVec 3} {s : State} (h : Kept μ s₀ s) :
    OutKept μ s₀ (execGetSourceInfo k id s) := by
  unfold execGetSourceInfo
  repeat' first
    | with_reducible first | assumption
    | with_reducible intro _ _ _
    | with_reducible intro _ _
    | with_reducible intro _
    | with_reducible first | apply onGetSourceInfo_kept | apply receive_kept | apply OutKept.next

theorem execGetRevision_kept {k : PortId} {id : BitVec 3} {s : State} (h : Kept μ s₀ s) :
    OutKept μ s₀ (execGetRevision k id s) := by
  unfold execGetRevision
  repeat' first
    | with_reducible first | assumption
    | with_reducible intro _ _ _
    | with_reducible intro _ _
    | with_reducible intro _
    | with_reducible first | apply onGetRevision_kept | apply receive_kept | apply OutKept.next

theorem execGetManufacturerInfo_kept {k : PortId} {id : BitVec 3} {s : State} (h : Kept μ s₀ s) :
    OutKept μ s₀ (execGetManufacturerInfo k id s) := by
  unfold execGetManufacturerInfo
  repeat' first
    | with_reducible first | assumption
    | with_reducible intro _ _ _
    | with_reducible intro _ _
    | with_reducible intro _
    | with_reducible first | apply onGetManufacturerInfo_kept | apply receive_kept | apply OutKept.next

theorem execGetStatus_kept {k : PortId} {id : BitVec 3} {s : State} (h : Kept μ s₀ s) :
    OutKept μ s₀ (execGetStatus k id s) := by
  unfold execGetStatus
  repeat' first
    | with_reducible first | assumption
    | with_reducible intro _ _ _
    | with_reducible intro _ _
    | with_reducible intro _
    | with_reducible first | apply onGetStatus_kept | apply receive_kept | apply OutKept.next

theorem execGetPpsStatus_kept {k : PortId} {id : BitVec 3} {s : State} (h : Kept μ s₀ s) :
    OutKept μ s₀ (execGetPpsStatus k id s) := by
  unfold execGetPpsStatus
  repeat' first
    | with_reducible first | assumption
    | with_reducible intro _ _ _
    | with_reducible intro _ _
    | with_reducible intro _
    | with_reducible first | apply onGetPpsStatus_kept | apply receive_kept | apply OutKept.next

theorem execAlert_kept {k : PortId} {id : BitVec 3} {s : State} (h : Kept μ s₀ s) :
    OutKept μ s₀ (execAlert k id s) := by
  unfold execAlert
  repeat' first
    | with_reducible first | assumption
    | with_reducible intro _ _ _
    | with_reducible intro _ _
    | with_reducible intro _
    | with_reducible first | apply onAlert_kept | apply receive_kept | apply OutKept.next

theorem execSoftReset_kept {k : PortId} {id : BitVec 3} {s : State} (h : Kept μ s₀ s) :
    OutKept μ s₀ (execSoftReset k id s) := by
  unfold execSoftReset
  repeat' first
    | with_reducible first | assumption
    | with_reducible intro _ _ _
    | with_reducible intro _ _
    | with_reducible intro _
    | with_reducible first | apply onSoftReset_kept | apply receive_kept | apply OutKept.next

theorem execBist_kept {k : PortId} {id : BitVec 3} {mode : Nat} {s : State} (h : Kept μ s₀ s) :
    OutKept μ s₀ (execBist k id mode s) := by
  unfold execBist
  repeat' first
    | with_reducible first | assumption
    | with_reducible intro _ _ _
    | with_reducible intro _ _
    | with_reducible intro _
    | with_reducible first | apply onBist_kept | apply receive_kept | apply OutKept.next

theorem execNotSupportedMessage_kept {k : PortId} {id : BitVec 3} {s : State} (h : Kept μ s₀ s) :
    OutKept μ s₀ (execNotSupportedMessage k id s) := by
  unfold execNotSupportedMessage
  repeat' first
    | with_reducible first | assumption
    | with_reducible intro _ _ _
    | with_reducible intro _ _
    | with_reducible intro _
    | with_reducible first | apply answer_kept | apply receive_kept | apply OutKept.next

theorem execVconnSwapReject_kept {k : PortId} {id : BitVec 3} {s : State} (h : Kept μ s₀ s) :
    OutKept μ s₀ (execVconnSwapReject k id s) := by
  unfold execVconnSwapReject
  repeat' first
    | with_reducible first | assumption | apply Kept.ite | apply OutKept.ite
    | with_reducible intro _ _ _
    | with_reducible intro _ _
    | with_reducible intro _
    | with_reducible first | apply answer_kept | apply receive_kept | apply OutKept.next
    | split

theorem execPrSwap_kept {id : BitVec 3} {s : State} (h : Kept μ s₀ s) :
    OutKept μ s₀ (execPrSwap id s) := by
  unfold execPrSwap
  repeat' first
    | with_reducible first | assumption
    | with_reducible intro _ _ _
    | with_reducible intro _ _
    | with_reducible intro _
    | with_reducible first | apply onPrSwap_kept | apply receive_kept | apply OutKept.next

theorem execVconnSwap_kept {id : BitVec 3} {s : State} (h : Kept μ s₀ s) :
    OutKept μ s₀ (execVconnSwap id s) := by
  unfold execVconnSwap
  repeat' first
    | with_reducible first | assumption
    | with_reducible intro _ _ _
    | with_reducible intro _ _
    | with_reducible intro _
    | with_reducible first | apply onVconnSwap_kept | apply receive_kept | apply OutKept.next

theorem execDrSwap_kept {id : BitVec 3} {s : State} (h : Kept μ s₀ s) :
    OutKept μ s₀ (execDrSwap id s) := by
  unfold execDrSwap
  repeat' first
    | with_reducible first | assumption
    | with_reducible intro _ _ _
    | with_reducible intro _ _
    | with_reducible intro _
    | with_reducible first | apply onDrSwap_kept | apply receive_kept | apply OutKept.next

theorem execPort9SourceCapabilities_kept {id : BitVec 3} {pdos : List Word} {rev2 : Bool} {s : State} (h : Kept μ s₀ s) :
    OutKept μ s₀ (execPort9SourceCapabilities id pdos rev2 s) := by
  unfold execPort9SourceCapabilities
  repeat' first
    | with_reducible first | assumption
    | with_reducible intro _ _ _
    | with_reducible intro _ _
    | with_reducible intro _
    | with_reducible first | apply onSourceCaps_kept | apply receive_kept | apply OutKept.next

theorem execPort9PsRdy_kept {k : PortId} {id : BitVec 3} {msg : Nat} {s : State} (h : Kept μ s₀ s) :
    OutKept μ s₀ (execPort9PsRdy k id msg s) := by
  unfold execPort9PsRdy
  repeat' first
    | with_reducible first | assumption
    | with_reducible intro _ _ _
    | with_reducible intro _ _
    | with_reducible intro _
    | with_reducible first | apply onPsRdy_kept | apply receive_kept | apply OutKept.next

theorem execEprModeEnter_kept {k : PortId} {id : BitVec 3} {s : State} (h : Kept μ s₀ s) :
    OutKept μ s₀ (execEprModeEnter k id s) := by
  unfold execEprModeEnter
  repeat' first
    | with_reducible first | assumption
    | with_reducible intro _ _ _
    | with_reducible intro _ _
    | with_reducible intro _
    | with_reducible first | apply onEprEnter_kept | apply receive_kept | apply OutKept.next

theorem execEprModeExit_kept {k : PortId} {id : BitVec 3} {s : State} (h : Kept μ s₀ s) :
    OutKept μ s₀ (execEprModeExit k id s) := by
  unfold execEprModeExit
  repeat' first
    | with_reducible first | assumption
    | with_reducible intro _ _ _
    | with_reducible intro _ _
    | with_reducible intro _
    | with_reducible first | apply onEprExit_kept | apply receive_kept | apply OutKept.next

theorem execStructuredVdm_kept {k : PortId} {id : BitVec 3} {svid : Nat} {cmd : Nat} {s : State} (h : Kept μ s₀ s) :
    OutKept μ s₀ (execStructuredVdm k id svid cmd s) := by
  unfold execStructuredVdm
  repeat' first
    | with_reducible first | assumption
    | with_reducible intro _ _ _
    | with_reducible intro _ _
    | with_reducible intro _
    | with_reducible first | apply onStructuredVdm_kept | apply receive_kept | apply OutKept.next

theorem execSecurityResponse_kept {k : PortId} {id : BitVec 3} {msg : List Byte} {s : State} (h : Kept μ s₀ s) :
    OutKept μ s₀ (execSecurityResponse k id msg s) := by
  unfold execSecurityResponse
  repeat' first
    | with_reducible first | assumption
    | with_reducible intro _ _ _
    | with_reducible intro _ _
    | with_reducible intro _
    | with_reducible first | apply onSecurityResponse_kept | apply receive_kept | apply OutKept.next

theorem execFrenerVdmReceived_kept {k : PortId} {id : BitVec 3} {hdr : Word} {vdo1 : Word} {vdo2 : Word} {s : State} (h :
    Kept μ s₀ s) :
    OutKept μ s₀ (execFrenerVdmReceived k id hdr vdo1 vdo2 s) := by
  unfold execFrenerVdmReceived
  repeat' first
    | with_reducible first | assumption
    | with_reducible intro _ _ _
    | with_reducible intro _ _
    | with_reducible intro _
    | with_reducible first | apply onFrenerVdm_kept | apply receive_kept | apply OutKept.next

theorem execEprKeepalive_kept {k : PortId} {id : BitVec 3} {s : State} (h : Kept μ s₀ s) :
    OutKept μ s₀ (execEprKeepalive k id s) := by
  unfold execEprKeepalive
  repeat' first
    | (extract_lets +onlyGivenNames x; first | (refine Kept.aside (μ := μ) (s₀ := s₀) (x := x) ?_ ?_; clear_value x; revert x; refine Kept.hold ?_; intro x hx; rotate_left; subst x) | skip)
    | with_reducible first | assumption | apply Kept.ite | apply OutKept.ite
    | with_reducible intro _ _ _
    | with_reducible intro _ _
    | with_reducible intro _
    | with_reducible (apply kept_mk; assumption)
    | with_reducible first | apply answer_kept | apply arm_kept | apply modPd_kept | apply say_kept | apply OutKept.next
    | split

theorem execHardResetReceived_kept {k : PortId} {s : State} (h : Kept μ s₀ s) :
    OutKept μ s₀ (execHardResetReceived k s) := by
  unfold execHardResetReceived
  repeat' first
    | (extract_lets +onlyGivenNames x; first | (refine Kept.aside (μ := μ) (s₀ := s₀) (x := x) ?_ ?_; clear_value x; revert x; refine Kept.hold ?_; intro x hx; rotate_left; subst x) | skip)
    | with_reducible first | assumption | apply Kept.ite | apply OutKept.ite
    | with_reducible intro _ _ _
    | with_reducible intro _ _
    | with_reducible intro _
    | with_reducible (apply kept_mk; assumption)
    | with_reducible first | apply hardResetStep1_kept | apply modPd_kept | apply warn_kept | apply OutKept.next
    | split

theorem execPdQueueFull_kept {k : PortId} {s : State} (h : Kept μ s₀ s) :
    OutKept μ s₀ (execPdQueueFull k s) := by
  unfold execPdQueueFull
  repeat' first
    | with_reducible first | assumption | apply Kept.ite | apply OutKept.ite
    | with_reducible intro _
    | with_reducible first | apply queueFull_kept | apply OutKept.next
    | split

/-! Machine/PdTime -/

theorem swapToSink_kept {s : State} {k : PortId} (h : Kept μ s₀ s) :
    Kept μ s₀ (State.swapToSink s k) := by
  unfold State.swapToSink
  repeat' first
    | (extract_lets +onlyGivenNames x; first | (refine Kept.aside (μ := μ) (s₀ := s₀) (x := x) ?_ ?_; clear_value x; revert x; refine Kept.hold ?_; intro x hx; rotate_left; subst x) | skip)
    | with_reducible first | assumption
    | with_reducible intro _ _ _
    | with_reducible intro _ _
    | with_reducible intro _
    | with_reducible (apply kept_mk; assumption)
    | with_reducible first | apply modPd_kept | apply put_kept | apply say_kept | apply set_kept | apply setAState_kept
                           | apply softOpen_kept | apply swapContext_kept

theorem afterAccept_kept {s : State} {k : PortId} (h : Kept μ s₀ s) :
    Kept μ s₀ (State.afterAccept s k) := by
  unfold State.afterAccept
  repeat' first
    | (extract_lets +onlyGivenNames x; first | (refine Kept.aside (μ := μ) (s₀ := s₀) (x := x) ?_ ?_; clear_value x; revert x; refine Kept.hold ?_; intro x hx; rotate_left; subst x) | skip)
    | with_reducible first | assumption | apply Kept.ite
    | with_reducible intro _ _ _
    | with_reducible intro _ _
    | with_reducible intro _
    | split
    | with_reducible (apply kept_mk; assumption)
    | with_reducible first | apply arm_kept | apply endAms_kept | apply modPd_kept | apply say_kept | apply swapToSink_kept
                           | apply vconnApply_kept

theorem afterPsRdy_kept {s : State} {k : PortId} (h : Kept μ s₀ s) :
    Kept μ s₀ (State.afterPsRdy s k) := by
  unfold State.afterPsRdy
  repeat' first
    | (extract_lets +onlyGivenNames x; first | (refine Kept.aside (μ := μ) (s₀ := s₀) (x := x) ?_ ?_; clear_value x; revert x; refine Kept.hold ?_; intro x hx; rotate_left; subst x) | skip)
    | with_reducible first | assumption | apply Kept.ite
    | with_reducible intro _ _ _
    | with_reducible intro _ _
    | with_reducible intro _
    | with_reducible (apply kept_mk; assumption)
    | with_reducible first | apply endAms_kept | apply modPd_kept | apply set_kept | apply startPd_kept
    | split

theorem afterSent_kept {s : State} {k : PortId} {m : PdMsg} (h : Kept μ s₀ s) :
    Kept μ s₀ (State.afterSent s k m) := by
  unfold State.afterSent
  repeat' first
    | (extract_lets +onlyGivenNames x; first | (refine Kept.aside (μ := μ) (s₀ := s₀) (x := x) ?_ ?_; clear_value x; revert x; refine Kept.hold ?_; intro x hx; rotate_left; subst x) | skip)
    | with_reducible first | assumption | apply Kept.ite
    | with_reducible intro _ _ _
    | with_reducible intro _ _
    | with_reducible intro _
    | split
    | with_reducible (apply kept_mk; assumption)
    | with_reducible first | apply afterAccept_kept | apply afterPsRdy_kept | apply arm_kept | apply beginHealth_kept
                           | apply disarm_kept | apply endAms_kept | apply leaveEpr_kept | apply modPd_kept | apply put_kept
                           | apply sendCaps_kept | apply setPe_kept

theorem nextTx_kept {s : State} {k : PortId} {m : PdMsg} (h : Kept μ s₀ s) :
    Kept μ s₀ (State.nextTx s k m) := by
  unfold State.nextTx
  repeat' first
    | (extract_lets +onlyGivenNames x; first | (refine Kept.aside (μ := μ) (s₀ := s₀) (x := x) ?_ ?_; clear_value x; revert x; refine Kept.hold ?_; intro x hx; rotate_left; subst x) | skip)
    | with_reducible first | assumption | apply Kept.ite
    | with_reducible intro _ _ _
    | with_reducible intro _ _
    | with_reducible intro _
    | with_reducible (apply kept_mk; assumption)
    | with_reducible first | apply arm_kept | apply disarm_kept | apply modPd_kept
    | split

theorem nextChunk_kept {s : State} {k : PortId} {m : PdMsg} (h : Kept μ s₀ s) :
    Kept μ s₀ (State.nextChunk s k m) := by
  unfold State.nextChunk
  repeat' first
    | (extract_lets +onlyGivenNames x; first | (refine Kept.aside (μ := μ) (s₀ := s₀) (x := x) ?_ ?_; clear_value x; revert x; refine Kept.hold ?_; intro x hx; rotate_left; subst x) | skip)
    | with_reducible first | assumption
    | with_reducible intro _ _ _
    | with_reducible intro _ _
    | with_reducible intro _
    | with_reducible (apply kept_mk; assumption)
    | with_reducible first | apply arm_kept | apply modPd_kept

theorem execGoodcrcReceived_kept {k : PortId} {id : BitVec 3} {s : State} (h : Kept μ s₀ s) :
    OutKept μ s₀ (execGoodcrcReceived k id s) := by
  unfold execGoodcrcReceived
  repeat' first
    | (extract_lets +onlyGivenNames x; first | (refine Kept.aside (μ := μ) (s₀ := s₀) (x := x) ?_ ?_; clear_value x; revert x; refine Kept.hold ?_; intro x hx; rotate_left; subst x) | skip)
    | with_reducible first | assumption | apply Kept.ite | apply OutKept.ite
    | with_reducible intro _
    | split
    | with_reducible (apply kept_mk; assumption)
    | with_reducible first | apply afterSent_kept | apply nextChunk_kept | apply nextTx_kept | apply OutKept.next

theorem sendFailed_kept {s : State} {k : PortId} {m : PdMsg} (h : Kept μ s₀ s) :
    Kept μ s₀ (State.sendFailed s k m) := by
  unfold State.sendFailed
  repeat' first
    | (extract_lets +onlyGivenNames x; first | (refine Kept.aside (μ := μ) (s₀ := s₀) (x := x) ?_ ?_; clear_value x; revert x; refine Kept.hold ?_; intro x hx; rotate_left; subst x) | skip)
    | with_reducible first | assumption | apply Kept.ite
    | with_reducible intro _
    | split
    | with_reducible (apply kept_mk; assumption)
    | with_reducible first | apply authFail_kept | apply beginHealth_kept | apply cableMiss_kept | apply frenerAbsent_kept
                           | apply sendHardReset_kept | apply startSoftReset_kept

theorem execGoodcrcWaitTimeout_kept {k : PortId} {s : State} (h : Kept μ s₀ s) :
    OutKept μ s₀ (execGoodcrcWaitTimeout k s) := by
  unfold execGoodcrcWaitTimeout
  repeat' first
    | (extract_lets +onlyGivenNames x; first | (refine Kept.aside (μ := μ) (s₀ := s₀) (x := x) ?_ ?_; clear_value x; revert x; refine Kept.hold ?_; intro x hx; rotate_left; subst x) | skip)
    | with_reducible first | assumption | apply Kept.ite | apply OutKept.ite
    | with_reducible intro _ _ _
    | with_reducible intro _ _
    | with_reducible intro _
    | split
    | with_reducible (apply kept_mk; assumption)
    | with_reducible first | apply arm_kept | apply modPd_kept | apply nextTx_kept | apply onElapse_kept
                           | apply sendFailed_kept | apply OutKept.next

theorem capsExhausted_kept {s : State} {k : PortId} (h : Kept μ s₀ s) :
    Kept μ s₀ (State.capsExhausted s k) := by
  unfold State.capsExhausted
  repeat' first
    | (extract_lets +onlyGivenNames x; first | (refine Kept.aside (μ := μ) (s₀ := s₀) (x := x) ?_ ?_; clear_value x; revert x; refine Kept.hold ?_; intro x hx; rotate_left; subst x) | skip)
    | with_reducible first | assumption | apply Kept.ite
    | with_reducible intro _ _ _
    | with_reducible intro _ _
    | with_reducible intro _
    | with_reducible (apply kept_mk; assumption)
    | with_reducible first | apply disarm_kept | apply modAtt_kept | apply modPd_kept | apply set_kept
                           | apply setAState_kept | apply setPe_kept | apply warn_kept
    | split

theorem execSourceCapResend_kept {k : PortId} {s : State} (h : Kept μ s₀ s) :
    OutKept μ s₀ (execSourceCapResend k s) := by
  unfold execSourceCapResend
  repeat' first
    | (extract_lets +onlyGivenNames x; first | (refine Kept.aside (μ := μ) (s₀ := s₀) (x := x) ?_ ?_; clear_value x; revert x; refine Kept.hold ?_; intro x hx; rotate_left; subst x) | skip)
    | with_reducible first | assumption | apply Kept.ite | apply OutKept.ite
    | with_reducible intro _ _ _
    | with_reducible intro _ _
    | with_reducible intro _
    | with_reducible (apply kept_mk; assumption)
    | with_reducible first | apply capsExhausted_kept | apply modPd_kept | apply onElapse_kept | apply sendCaps_kept
                           | apply OutKept.next
    | split

theorem execSenderResponseTimeout_kept {k : PortId} {s : State} (h : Kept μ s₀ s) :
    OutKept μ s₀ (execSenderResponseTimeout k s) := by
  unfold execSenderResponseTimeout
  repeat' first
    | (extract_lets +onlyGivenNames x; first | (refine Kept.aside (μ := μ) (s₀ := s₀) (x := x) ?_ ?_; clear_value x; revert x; refine Kept.hold ?_; intro x hx; rotate_left; subst x) | skip)
    | with_reducible first | assumption | apply Kept.ite | apply OutKept.ite
    | with_reducible intro _ _ _
    | with_reducible intro _ _
    | with_reducible intro _
    | split
    | with_reducible (apply kept_mk; assumption)
    | with_reducible first | apply cableMiss_kept | apply drFailed_kept | apply onElapse_kept | apply sendHardReset_kept
                           | apply OutKept.next

theorem execHardResetPsElapsed_kept {k : PortId} {s : State} (h : Kept μ s₀ s) :
    OutKept μ s₀ (execHardResetPsElapsed k s) := by
  unfold execHardResetPsElapsed
  repeat' first
    | (extract_lets +onlyGivenNames x; first | (refine Kept.aside (μ := μ) (s₀ := s₀) (x := x) ?_ ?_; clear_value x; revert x; refine Kept.hold ?_; intro x hx; rotate_left; subst x) | skip)
    | with_reducible first | assumption
    | with_reducible intro _ _ _
    | with_reducible intro _ _
    | with_reducible intro _
    | with_reducible (apply kept_mk; assumption)
    | with_reducible first | apply arm_kept | apply judgeVbus_kept | apply modPd_kept | apply onElapse_kept
                           | apply softOpen_kept | apply OutKept.next

theorem execSrcRecoverElapsed_kept {k : PortId} {s : State} (h : Kept μ s₀ s) :
    OutKept μ s₀ (execSrcRecoverElapsed k s) := by
  unfold execSrcRecoverElapsed
  repeat' first
    | (extract_lets +onlyGivenNames x; first | (refine Kept.aside (μ := μ) (s₀ := s₀) (x := x) ?_ ?_; clear_value x; revert x; refine Kept.hold ?_; intro x hx; rotate_left; subst x) | skip)
    | with_reducible first | assumption
    | with_reducible intro _ _ _
    | with_reducible intro _ _
    | with_reducible intro _
    | with_reducible (apply kept_mk; assumption)
    | with_reducible first | apply judgeVbus_kept | apply modPd_kept | apply onElapse_kept | apply OutKept.next

theorem execVbusVsafe5vReached_kept {k : PortId} {s : State} (h : Kept μ s₀ s) :
    OutKept μ s₀ (execVbusVsafe5vReached k s) := by
  unfold execVbusVsafe5vReached
  repeat' first
    | (extract_lets +onlyGivenNames x; first | (refine Kept.aside (μ := μ) (s₀ := s₀) (x := x) ?_ ?_; clear_value x; revert x; refine Kept.hold ?_; intro x hx; rotate_left; subst x) | skip)
    | with_reducible first | assumption | apply Kept.ite | apply OutKept.ite
    | with_reducible intro _ _ _
    | with_reducible intro _ _
    | with_reducible intro _
    | with_reducible (apply kept_mk; assumption)
    | with_reducible first | apply modPd_kept | apply say_kept | apply startPd_kept | apply OutKept.next
    | split

theorem execErrorRecoveryElapsed_kept {k : PortId} {s : State} (h : Kept μ s₀ s) :
    OutKept μ s₀ (execErrorRecoveryElapsed k s) := by
  unfold execErrorRecoveryElapsed
  repeat' first
    | with_reducible first | assumption
    | with_reducible intro _ _ _
    | with_reducible intro _ _
    | with_reducible intro _
    | with_reducible first | apply forgetPartner_kept | apply onElapse_kept | apply unattached_kept | apply OutKept.next

theorem beginAllowance_kept {s : State} {k : PortId} (h : Kept μ s₀ s) :
    Kept μ s₀ (State.beginAllowance s k) := by
  unfold State.beginAllowance
  repeat' first
    | (extract_lets +onlyGivenNames x; first | (refine Kept.aside (μ := μ) (s₀ := s₀) (x := x) ?_ ?_; clear_value x; revert x; refine Kept.hold ?_; intro x hx; rotate_left; subst x) | skip)
    | with_reducible first | assumption | apply Kept.ite
    | with_reducible intro _ _ _
    | with_reducible intro _ _
    | with_reducible intro _
    | with_reducible (apply kept_mk; assumption)
    | with_reducible first | apply arm_kept | apply modBrk_kept | apply set_kept
    | split

theorem endAllowance_kept {s : State} {k : PortId} (h : Kept μ s₀ s) :
    Kept μ s₀ (State.endAllowance s k) := by
  unfold State.endAllowance
  repeat' first
    | (extract_lets +onlyGivenNames x; first | (refine Kept.aside (μ := μ) (s₀ := s₀) (x := x) ?_ ?_; clear_value x; revert x; refine Kept.hold ?_; intro x hx; rotate_left; subst x) | skip)
    | with_reducible first | assumption | apply Kept.ite
    | with_reducible intro _ _ _
    | with_reducible intro _ _
    | with_reducible intro _
    | with_reducible (apply kept_mk; assumption)
    | with_reducible first | apply disarm_kept | apply modBrk_kept | apply set_kept
    | split

theorem execTransitionStart_kept {k : PortId} {s : State} (h : Kept μ s₀ s) :
    OutKept μ s₀ (execTransitionStart k s) := by
  unfold execTransitionStart
  repeat' first
    | (extract_lets +onlyGivenNames x; first | (refine Kept.aside (μ := μ) (s₀ := s₀) (x := x) ?_ ?_; clear_value x; revert x; refine Kept.hold ?_; intro x hx; rotate_left; subst x) | skip)
    | with_reducible first | assumption | apply Kept.ite | apply OutKept.ite
    | with_reducible intro _ _ _
    | with_reducible intro _ _
    | with_reducible intro _
    | with_reducible (apply kept_mk; assumption)
    | with_reducible first | apply arm_kept | apply beginAllowance_kept | apply enterContract_kept | apply modChk_kept
                           | apply modPd_kept | apply onElapse_kept | apply rampTo_kept | apply transition_kept
                           | apply OutKept.next
    | split

theorem execTransitionEnd_kept {k : PortId} {s : State} (h : Kept μ s₀ s) :
    OutKept μ s₀ (execTransitionEnd k s) := by
  unfold execTransitionEnd
  repeat' first
    | (extract_lets +onlyGivenNames x; first | (refine Kept.aside (μ := μ) (s₀ := s₀) (x := x) ?_ ?_; clear_value x; revert x; refine Kept.hold ?_; intro x hx; rotate_left; subst x) | skip)
    | with_reducible first | assumption | apply Kept.ite | apply OutKept.ite
    | with_reducible intro _ _ _
    | with_reducible intro _ _
    | with_reducible intro _
    | with_reducible (apply kept_mk; assumption)
    | with_reducible first | apply disarm_kept | apply endAllowance_kept | apply enterContract_kept | apply modCnv_kept
                           | apply transition_kept | apply OutKept.next
    | split

theorem execTransitionTimeout_kept {k : PortId} {s : State} (h : Kept μ s₀ s) :
    OutKept μ s₀ (execTransitionTimeout k s) := by
  unfold execTransitionTimeout
  repeat' first
    | with_reducible first | assumption | apply Kept.ite | apply OutKept.ite
    | with_reducible intro _ _ _
    | with_reducible intro _ _
    | with_reducible intro _
    | with_reducible first | apply onElapse_kept | apply raise_kept | apply sendHardReset_kept | apply transition_kept
                           | apply OutKept.next
    | split

theorem notice_kept {s : State} {k : PortId} (h : Kept μ s₀ s) :
    Kept μ s₀ (State.notice s k) := by
  unfold State.notice
  repeat' first
    | with_reducible first | assumption | apply Kept.ite
    | with_reducible intro _
    | with_reducible first | apply say_kept
    | split

theorem updateCaps_kept {s : State} {k : PortId} (h : Kept μ s₀ s) :
    Kept μ s₀ (State.updateCaps s k) := by
  unfold State.updateCaps
  repeat' first
    | (extract_lets +onlyGivenNames x; first | (refine Kept.aside (μ := μ) (s₀ := s₀) (x := x) ?_ ?_; clear_value x; revert x; refine Kept.hold ?_; intro x hx; rotate_left; subst x) | skip)
    | with_reducible first | assumption | apply Kept.ite
    | with_reducible intro _
    | with_reducible first | apply arm_kept | apply notice_kept | apply offerCaps_kept | apply sendCaps_kept
    | split

theorem execCapabilitiesUpdate_kept {k : PortId} {s : State} (h : Kept μ s₀ s) :
    OutKept μ s₀ (execCapabilitiesUpdate k s) := by
  unfold execCapabilitiesUpdate
  repeat' first
    | with_reducible first | assumption
    | with_reducible first | apply updateCaps_kept | apply OutKept.next

theorem execUpwardOfferTimer_kept {k : PortId} {s : State} (h : Kept μ s₀ s) :
    OutKept μ s₀ (execUpwardOfferTimer k s) := by
  unfold execUpwardOfferTimer
  repeat' first
    | with_reducible first | assumption
    | with_reducible intro _ _ _
    | with_reducible intro _ _
    | with_reducible intro _
    | with_reducible first | apply onElapse_kept | apply updateCaps_kept | apply OutKept.next

theorem execSinkTxElapsed_kept {k : PortId} {s : State} (h : Kept μ s₀ s) :
    OutKept μ s₀ (execSinkTxElapsed k s) := by
  unfold execSinkTxElapsed
  repeat' first
    | with_reducible first | assumption
    | with_reducible intro _ _ _
    | with_reducible intro _ _
    | with_reducible intro _
    | with_reducible first | apply onElapse_kept | apply releaseHeld_kept | apply OutKept.next

theorem execEprExitSend_kept {k : PortId} {s : State} (h : Kept μ s₀ s) :
    OutKept μ s₀ (execEprExitSend k s) := by
  unfold execEprExitSend
  repeat' first
    | with_reducible first | assumption | apply Kept.ite | apply OutKept.ite
    | with_reducible intro _ _ _
    | with_reducible intro _ _
    | with_reducible intro _
    | with_reducible first | apply say_kept | apply OutKept.next
    | split

theorem execEprKeepaliveTimeout_kept {k : PortId} {s : State} (h : Kept μ s₀ s) :
    OutKept μ s₀ (execEprKeepaliveTimeout k s) := by
  unfold execEprKeepaliveTimeout
  repeat' first
    | with_reducible first | assumption
    | with_reducible intro _ _ _
    | with_reducible intro _ _
    | with_reducible intro _
    | with_reducible first | apply onElapse_kept | apply sendHardReset_kept | apply warn_kept | apply OutKept.next

theorem execPpsTimeout_kept {k : PortId} {s : State} (h : Kept μ s₀ s) :
    OutKept μ s₀ (execPpsTimeout k s) := by
  unfold execPpsTimeout
  repeat' first
    | with_reducible first | assumption
    | with_reducible intro _ _ _
    | with_reducible intro _ _
    | with_reducible intro _
    | with_reducible first | apply onElapse_kept | apply sendHardReset_kept | apply warn_kept | apply OutKept.next

theorem execDrSwapRetry_kept {s : State} (h : Kept μ s₀ s) :
    OutKept μ s₀ (execDrSwapRetry s) := by
  unfold execDrSwapRetry
  repeat' first
    | (extract_lets +onlyGivenNames x; first | (refine Kept.aside (μ := μ) (s₀ := s₀) (x := x) ?_ ?_; clear_value x; revert x; refine Kept.hold ?_; intro x hx; rotate_left; subst x) | skip)
    | with_reducible first | assumption | apply Kept.ite | apply OutKept.ite
    | with_reducible intro _ _ _
    | with_reducible intro _ _
    | with_reducible intro _
    | with_reducible (apply kept_mk; assumption)
    | with_reducible first | apply modPd_kept | apply onElapse_kept | apply ownAms_kept | apply OutKept.next
    | split

theorem execCableDiscovery_kept {k : PortId} {s : State} (h : Kept μ s₀ s) :
    OutKept μ s₀ (execCableDiscovery k s) := by
  unfold execCableDiscovery
  repeat' first
    | with_reducible first | assumption | apply Kept.ite | apply OutKept.ite
    | with_reducible intro _ _ _
    | with_reducible intro _ _
    | with_reducible intro _
    | with_reducible first | apply discover_kept | apply onElapse_kept | apply OutKept.next
    | split

theorem execCableIdentityResponse_kept {k : PortId} {id : BitVec 3} {valid : Bool} {cur : Nat} {vmax : Nat} {epr : Bool} {s :
    State} (h : Kept μ s₀ s) :
    OutKept μ s₀ (execCableIdentityResponse k id valid cur vmax epr s) := by
  unfold execCableIdentityResponse
  repeat' first
    | with_reducible first | assumption
    | with_reducible intro _ _ _
    | with_reducible intro _ _
    | with_reducible intro _
    | with_reducible first | apply onCableIdentity_kept | apply receive_kept | apply OutKept.next

theorem execAuthStart_kept {k : PortId} {s : State} (h : Kept μ s₀ s) :
    OutKept μ s₀ (execAuthStart k s) := by
  unfold execAuthStart
  repeat' first
    | (extract_lets +onlyGivenNames x; first | (refine Kept.aside (μ := μ) (s₀ := s₀) (x := x) ?_ ?_; clear_value x; revert x; refine Kept.hold ?_; intro x hx; rotate_left; subst x) | skip)
    | with_reducible first | assumption | apply Kept.ite | apply OutKept.ite
    | with_reducible intro _ _ _
    | with_reducible intro _ _
    | with_reducible intro _
    | split
    | with_reducible (apply kept_mk; assumption)
    | with_reducible first | apply arm_kept | apply authFail_kept | apply modPd_kept | apply ownAms_kept | apply set_kept
                           | apply OutKept.next
    | (clear_value *; split)

theorem execAuthTimeout_kept {k : PortId} {s : State} (h : Kept μ s₀ s) :
    OutKept μ s₀ (execAuthTimeout k s) := by
  unfold execAuthTimeout
  repeat' first
    | (extract_lets +onlyGivenNames x; first | (refine Kept.aside (μ := μ) (s₀ := s₀) (x := x) ?_ ?_; clear_value x; revert x; refine Kept.hold ?_; intro x hx; rotate_left; subst x) | skip)
    | with_reducible first | assumption | apply Kept.ite | apply OutKept.ite
    | with_reducible intro _ _ _
    | with_reducible intro _ _
    | with_reducible intro _
    | split
    | with_reducible (apply kept_mk; assumption)
    | with_reducible first | apply authFail_kept | apply onElapse_kept | apply OutKept.next

theorem execFrenerIdent_kept {k : PortId} {id : BitVec 3} {resp : Option (Word × Word)} {s : State} (h : Kept μ s₀ s) :
    OutKept μ s₀ (execFrenerIdent k id resp s) := by
  unfold execFrenerIdent
  repeat' first
    | (extract_lets +onlyGivenNames x; first | (refine Kept.aside (μ := μ) (s₀ := s₀) (x := x) ?_ ?_; clear_value x; revert x; refine Kept.hold ?_; intro x hx; rotate_left; subst x) | skip)
    | with_reducible first | assumption | apply Kept.ite | apply OutKept.ite
    | with_reducible intro _ _ _
    | with_reducible intro _ _
    | with_reducible intro _
    | split
    | with_reducible (apply kept_mk; assumption)
    | with_reducible first | apply modPd_kept | apply onIdent_kept | apply ownAms_kept | apply receive_kept
                           | apply OutKept.next

theorem execFrenerVdmTimeout_kept {k : PortId} {s : State} (h : Kept μ s₀ s) :
    OutKept μ s₀ (execFrenerVdmTimeout k s) := by
  unfold execFrenerVdmTimeout
  repeat' first
    | with_reducible first | assumption
    | with_reducible intro _ _ _
    | with_reducible intro _ _
    | with_reducible intro _
    | with_reducible first | apply frenerAbsent_kept | apply onElapse_kept | apply OutKept.next

/-! Machine/Converter -/

theorem driveFault_kept {s : State} {k : PortId} {cause : Nat} (h : Kept μ s₀ s) :
    Kept μ s₀ (State.driveFault s k cause) := by
  unfold State.driveFault
  repeat' first
    | with_reducible first | assumption
    | with_reducible first | apply flag_kept | apply holdOpen_kept | apply raise_kept

theorem advanceTb_kept {s : State} {t : Nat} (h : Kept μ s₀ s) :
    Kept μ s₀ (State.advanceTb s t) := by
  unfold State.advanceTb
  repeat' first
    | with_reducible first | assumption
    | with_reducible first | apply advanceTo_kept

theorem atPeriod_kept {s : State} {k : PortId} (h : Kept μ s₀ s) :
    Kept μ s₀ (State.atPeriod s k) := by
  unfold State.atPeriod
  repeat' first
    | (extract_lets +onlyGivenNames x; first | (refine Kept.aside (μ := μ) (s₀ := s₀) (x := x) ?_ ?_; clear_value x; revert x; refine Kept.hold ?_; intro x hx; rotate_left; subst x) | skip)
    | with_reducible first | assumption
    | with_reducible intro _ _ _
    | with_reducible intro _ _
    | with_reducible intro _
    | with_reducible (apply kept_mk; assumption)
    | with_reducible first | apply advanceTb_kept | apply modCnv_kept

theorem applyPeak_kept {s : State} {k : PortId} (h : Kept μ s₀ s) :
    Kept μ s₀ (State.applyPeak s k) := by
  unfold State.applyPeak
  repeat' first
    | (extract_lets +onlyGivenNames x; first | (refine Kept.aside (μ := μ) (s₀ := s₀) (x := x) ?_ ?_; clear_value x; revert x; refine Kept.hold ?_; intro x hx; rotate_left; subst x) | skip)
    | with_reducible first | assumption
    | with_reducible intro _ _ _
    | with_reducible intro _ _
    | with_reducible intro _
    | with_reducible (apply kept_mk; assumption)
    | with_reducible first | apply modCnv_kept

theorem execSwitchingPeriod_kept {k : PortId} {bootOk : Bool} {nodeOk : Bool} {s : State} (h : Kept μ s₀ s) :
    OutKept μ s₀ (execSwitchingPeriod k bootOk nodeOk s) := by
  unfold execSwitchingPeriod
  repeat' first
    | (extract_lets +onlyGivenNames x; first | (refine Kept.aside (μ := μ) (s₀ := s₀) (x := x) ?_ ?_; clear_value x; revert x; refine Kept.hold ?_; intro x hx; rotate_left; subst x) | skip)
    | with_reducible first | assumption | apply Kept.ite | apply OutKept.ite
    | with_reducible intro _ _ _
    | with_reducible intro _ _
    | with_reducible intro _
    | with_reducible (apply kept_mk; assumption)
    | with_reducible first | apply applyPeak_kept | apply atPeriod_kept | apply driveFault_kept | apply modCnv_kept
                           | apply set_kept | apply when_kept | apply OutKept.next
    | split

theorem loopStep_kept {s : State} {k : PortId} {db : Nat} {irip : Nat} (h : Kept μ s₀ s) :
    Kept μ s₀ (State.loopStep s k db irip) := by
  unfold State.loopStep
  repeat' first
    | (extract_lets +onlyGivenNames x; first | (refine Kept.aside (μ := μ) (s₀ := s₀) (x := x) ?_ ?_; clear_value x; revert x; refine Kept.hold ?_; intro x hx; rotate_left; subst x) | skip)
    | with_reducible first | assumption | apply Kept.ite
    | with_reducible intro _ _ _
    | with_reducible intro _ _
    | with_reducible intro _
    | with_reducible (apply kept_mk; assumption)
    | with_reducible first | apply modCnv_kept | apply put_kept
    | split

theorem rampStep_kept {s : State} {k : PortId} (h : Kept μ s₀ s) :
    Kept μ s₀ (State.rampStep s k) := by
  unfold State.rampStep
  repeat' first
    | (extract_lets +onlyGivenNames x; first | (refine Kept.aside (μ := μ) (s₀ := s₀) (x := x) ?_ ?_; clear_value x; revert x; refine Kept.hold ?_; intro x hx; rotate_left; subst x) | skip)
    | with_reducible first | assumption | apply Kept.ite
    | with_reducible intro _ _ _
    | with_reducible intro _ _
    | with_reducible intro _
    | with_reducible (apply kept_mk; assumption)
    | with_reducible first | apply modCnv_kept | apply put_kept | apply set_kept
    | split

theorem headroomStep_kept {s : State} {k : PortId} {atMax : Bool} (h : Kept μ s₀ s) :
    Kept μ s₀ (State.headroomStep s k atMax) := by
  unfold State.headroomStep
  repeat' first
    | (extract_lets +onlyGivenNames x; first | (refine Kept.aside (μ := μ) (s₀ := s₀) (x := x) ?_ ?_; clear_value x; revert x; refine Kept.hold ?_; intro x hx; rotate_left; subst x) | skip)
    | with_reducible first | assumption | apply Kept.ite
    | with_reducible intro _
    | with_reducible first | apply armOnce_kept | apply disarm_kept | apply put_kept
    | split

theorem transitionFrame_kept {s : State} {k : PortId} (h : Kept μ s₀ s) :
    Kept μ s₀ (State.transitionFrame s k) := by
  unfold State.transitionFrame
  repeat' first
    | (extract_lets +onlyGivenNames x; first | (refine Kept.aside (μ := μ) (s₀ := s₀) (x := x) ?_ ?_; clear_value x; revert x; refine Kept.hold ?_; intro x hx; rotate_left; subst x) | skip)
    | with_reducible first | assumption | apply Kept.ite
    | with_reducible intro _ _ _
    | with_reducible intro _ _
    | with_reducible intro _
    | split
    | with_reducible (apply kept_mk; assumption)
    | with_reducible first | apply arm_kept | apply modCnv_kept | apply transition_kept
    | (clear_value *; split)

theorem closeReady_kept {s : State} {k : PortId} (h : Kept μ s₀ s) :
    Kept μ s₀ (State.closeReady s k) := by
  unfold State.closeReady
  repeat' first
    | with_reducible first | assumption | apply Kept.ite
    | with_reducible intro _
    | with_reducible first | apply armOnce_kept
    | split

theorem atUpdate_kept {s : State} {k : PortId} (h : Kept μ s₀ s) :
    Kept μ s₀ (State.atUpdate s k) := by
  unfold State.atUpdate
  repeat' first
    | (extract_lets +onlyGivenNames x; first | (refine Kept.aside (μ := μ) (s₀ := s₀) (x := x) ?_ ?_; clear_value x; revert x; refine Kept.hold ?_; intro x hx; rotate_left; subst x) | skip)
    | with_reducible first | assumption
    | with_reducible intro _ _ _
    | with_reducible intro _ _
    | with_reducible intro _
    | with_reducible (apply kept_mk; assumption)
    | with_reducible first | apply advanceTb_kept | apply modCnv_kept

theorem execOuterLoopUpdate_kept {k : PortId} {db : Nat} {irip : Nat} {atMax : Bool} {s : State} (h : Kept μ s₀ s) :
    OutKept μ s₀ (execOuterLoopUpdate k db irip atMax s) := by
  unfold execOuterLoopUpdate
  repeat' first
    | (extract_lets +onlyGivenNames x; first | (refine Kept.aside (μ := μ) (s₀ := s₀) (x := x) ?_ ?_; clear_value x; revert x; refine Kept.hold ?_; intro x hx; rotate_left; subst x) | skip)
    | with_reducible first | assumption | apply Kept.ite | apply OutKept.ite
    | with_reducible intro _ _ _
    | with_reducible intro _ _
    | with_reducible intro _
    | with_reducible (apply kept_mk; assumption)
    | with_reducible first | apply atUpdate_kept | apply closeReady_kept | apply headroomStep_kept | apply loopStep_kept
                           | apply modChk_kept | apply rampStep_kept | apply set_kept | apply standConverter_kept
                           | apply transitionFrame_kept | apply when_kept | apply OutKept.next
    | split

theorem execHeadroomLost_kept {k : PortId} {s : State} (h : Kept μ s₀ s) :
    OutKept μ s₀ (execHeadroomLost k s) := by
  unfold execHeadroomLost
  repeat' first
    | (extract_lets +onlyGivenNames x; first | (refine Kept.aside (μ := μ) (s₀ := s₀) (x := x) ?_ ?_; clear_value x; revert x; refine Kept.hold ?_; intro x hx; rotate_left; subst x) | skip)
    | with_reducible first | assumption | apply Kept.ite | apply OutKept.ite
    | with_reducible intro _ _ _
    | with_reducible intro _ _
    | with_reducible intro _
    | with_reducible (apply kept_mk; assumption)
    | with_reducible first | apply flag_kept | apply modCnv_kept | apply onElapse_kept | apply put_kept | apply warn_kept
                           | apply OutKept.next
    | split

theorem execChkReadingDue_kept {k : PortId} {s : State} (h : Kept μ s₀ s) :
    OutKept μ s₀ (execChkReadingDue k s) := by
  unfold execChkReadingDue
  repeat' first
    | (extract_lets +onlyGivenNames x; first | (refine Kept.aside (μ := μ) (s₀ := s₀) (x := x) ?_ ?_; clear_value x; revert x; refine Kept.hold ?_; intro x hx; rotate_left; subst x) | skip)
    | with_reducible first | assumption | apply Kept.ite | apply OutKept.ite
    | with_reducible intro _ _ _
    | with_reducible intro _ _
    | with_reducible intro _
    | with_reducible (apply kept_mk; assumption)
    | with_reducible first | apply arm_kept | apply beginHealth_kept | apply modPd_kept | apply onElapse_kept
                           | apply ownAms_kept | apply OutKept.next
    | split

theorem execChkWindowEnd_kept {k : PortId} {s : State} (h : Kept μ s₀ s) :
    OutKept μ s₀ (execChkWindowEnd k s) := by
  unfold execChkWindowEnd
  repeat' first
    | with_reducible first | assumption
    | with_reducible intro _ _ _
    | with_reducible intro _ _
    | with_reducible intro _
    | with_reducible first | apply endWindows_kept | apply judgeHealth_kept | apply onElapse_kept | apply OutKept.next

theorem dropTerm_kept {s : State} {k : PortId} (h : Kept μ s₀ s) :
    Kept μ s₀ (State.dropTerm s k) := by
  unfold State.dropTerm
  repeat' first
    | (extract_lets +onlyGivenNames x; first | (refine Kept.aside (μ := μ) (s₀ := s₀) (x := x) ?_ ?_; clear_value x; revert x; refine Kept.hold ?_; intro x hx; rotate_left; subst x) | skip)
    | with_reducible first | assumption | apply Kept.ite
    | with_reducible intro _ _ _
    | with_reducible intro _ _
    | with_reducible intro _
    | split
    | with_reducible (apply kept_mk; assumption)
    | with_reducible first | apply modCnv_kept | apply openWindows_kept | apply put_kept | apply set_kept | apply warn_kept
    | (clear_value *; split)

/-! Machine/BreakerOps -/

theorem noteCause_kept {s : State} {k : PortId} {cause : Nat} (h : Kept μ s₀ s) :
    Kept μ s₀ (State.noteCause s k cause) := by
  unfold State.noteCause
  repeat' first
    | (extract_lets +onlyGivenNames x; first | (refine Kept.aside (μ := μ) (s₀ := s₀) (x := x) ?_ ?_; clear_value x; revert x; refine Kept.hold ?_; intro x hx; rotate_left; subst x) | skip)
    | with_reducible first | assumption
    | with_reducible intro _ _ _
    | with_reducible intro _ _
    | with_reducible intro _
    | with_reducible (apply kept_mk; assumption)
    | with_reducible first | apply modPd_kept | apply set_kept

theorem latch_kept {s : State} {k : PortId} (h : Kept μ s₀ s) :
    Kept μ s₀ (State.latch s k) := by
  unfold State.latch
  repeat' first
    | (extract_lets +onlyGivenNames x; first | (refine Kept.aside (μ := μ) (s₀ := s₀) (x := x) ?_ ?_; clear_value x; revert x; refine Kept.hold ?_; intro x hx; rotate_left; subst x) | skip)
    | with_reducible first | assumption | apply Kept.ite
    | with_reducible intro _ _ _
    | with_reducible intro _ _
    | with_reducible intro _
    | with_reducible (apply kept_mk; assumption)
    | with_reducible first | apply disarm_kept | apply flag_kept | apply modBrk_kept | apply settleOpen_kept
                           | apply warn_kept
    | split

theorem beginOff_kept {s : State} {k : PortId} {on : Nat} (h : Kept μ s₀ s) :
    Kept μ s₀ (State.beginOff s k on) := by
  unfold State.beginOff
  repeat' first
    | with_reducible first | assumption
    | with_reducible first | apply arm_kept | apply settleOpen_kept

theorem classRules_kept {s : State} {k : PortId} {on : Nat} {closed : Bool} (h : Kept μ s₀ s) :
    Kept μ s₀ (State.classRules s k on closed) := by
  unfold State.classRules
  repeat' first
    | (extract_lets +onlyGivenNames x; first | (refine Kept.aside (μ := μ) (s₀ := s₀) (x := x) ?_ ?_; clear_value x; revert x; refine Kept.hold ?_; intro x hx; rotate_left; subst x) | skip)
    | with_reducible first | assumption | apply Kept.ite
    | with_reducible intro _
    | with_reducible first | apply beginOff_kept | apply latch_kept | apply set_kept
    | split

theorem tripPort_kept {s : State} {k : PortId} {cause : Nat} (h : Kept μ s₀ s) :
    Kept μ s₀ (State.tripPort s k cause) := by
  unfold State.tripPort
  repeat' first
    | (extract_lets +onlyGivenNames x; first | (refine Kept.aside (μ := μ) (s₀ := s₀) (x := x) ?_ ?_; clear_value x; revert x; refine Kept.hold ?_; intro x hx; rotate_left; subst x) | skip)
    | with_reducible first | assumption
    | with_reducible intro _ _ _
    | with_reducible intro _ _
    | with_reducible intro _
    | with_reducible (apply kept_mk; assumption)
    | with_reducible first | apply classRules_kept | apply flag_kept | apply hardOpen_kept | apply modBrk_kept
                           | apply noteCause_kept | apply raise_kept | apply set_kept

theorem holdPort_kept {s : State} {k : PortId} {cause : Nat} {untilDetach : Bool} (h : Kept μ s₀ s) :
    Kept μ s₀ (State.holdPort s k cause untilDetach) := by
  unfold State.holdPort
  repeat' first
    | with_reducible first | assumption
    | with_reducible first | apply flag_kept | apply holdOpen_kept | apply noteCause_kept | apply raise_kept

theorem switchShorted_kept {s : State} {k : PortId} (h : Kept μ s₀ s) :
    Kept μ s₀ (State.switchShorted s k) := by
  unfold State.switchShorted
  repeat' first
    | with_reducible first | assumption
    | with_reducible first | apply hardOpen_kept | apply raise_kept

/-! Machine/Breaker -/

theorem execPrecloseTestElapsed_kept {k : PortId} {rose : Bool} {s : State} (h : Kept μ s₀ s) :
    OutKept μ s₀ (execPrecloseTestElapsed k rose s) := by
  unfold execPrecloseTestElapsed
  repeat' first
    | (extract_lets +onlyGivenNames x; first | (refine Kept.aside (μ := μ) (s₀ := s₀) (x := x) ?_ ?_; clear_value x; revert x; refine Kept.hold ?_; intro x hx; rotate_left; subst x) | skip)
    | with_reducible first | assumption | apply Kept.ite | apply OutKept.ite
    | with_reducible intro _ _ _
    | with_reducible intro _ _
    | with_reducible intro _
    | with_reducible (apply kept_mk; assumption)
    | with_reducible first | apply arm_kept | apply modBrk_kept | apply onElapse_kept | apply set_kept
                           | apply switchShorted_kept | apply OutKept.next
    | split

theorem execFoldbackStep_kept {k : PortId} {mv : Nat} {ma : Nat} {s : State} (h : Kept μ s₀ s) :
    OutKept μ s₀ (execFoldbackStep k mv ma s) := by
  unfold execFoldbackStep
  repeat' first
    | (extract_lets +onlyGivenNames x; first | (refine Kept.aside (μ := μ) (s₀ := s₀) (x := x) ?_ ?_; clear_value x; revert x; refine Kept.hold ?_; intro x hx; rotate_left; subst x) | skip)
    | with_reducible first | assumption | apply Kept.ite | apply OutKept.ite
    | with_reducible intro _ _ _
    | with_reducible intro _ _
    | with_reducible intro _
    | with_reducible (apply kept_mk; assumption)
    | with_reducible first | apply modBrk_kept | apply OutKept.next
    | split

theorem execSwitchClosed_kept {k : PortId} {s : State} (h : Kept μ s₀ s) :
    OutKept μ s₀ (execSwitchClosed k s) := by
  unfold execSwitchClosed
  repeat' first
    | (extract_lets +onlyGivenNames x; first | (refine Kept.aside (μ := μ) (s₀ := s₀) (x := x) ?_ ?_; clear_value x; revert x; refine Kept.hold ?_; intro x hx; rotate_left; subst x) | skip)
    | with_reducible first | assumption | apply Kept.ite | apply OutKept.ite
    | with_reducible intro _ _ _
    | with_reducible intro _ _
    | with_reducible intro _
    | with_reducible (apply kept_mk; assumption)
    | with_reducible first | apply arm_kept | apply disarm_kept | apply modBrk_kept | apply modCnv_kept | apply modPins_kept
                           | apply put_kept | apply set_kept | apply OutKept.next
    | split

theorem execClosingTimeout_kept {k : PortId} {s : State} (h : Kept μ s₀ s) :
    OutKept μ s₀ (execClosingTimeout k s) := by
  unfold execClosingTimeout
  repeat' first
    | with_reducible first | assumption | apply Kept.ite | apply OutKept.ite
    | with_reducible intro _ _ _
    | with_reducible intro _ _
    | with_reducible intro _
    | with_reducible first | apply onElapse_kept | apply tripPort_kept | apply OutKept.next
    | split

theorem execShortDetected_kept {k : PortId} {arm : Nat} {uv : Nat} {s : State} (h : Kept μ s₀ s) :
    OutKept μ s₀ (execShortDetected k arm uv s) := by
  unfold execShortDetected
  repeat' first
    | with_reducible first | assumption | apply Kept.ite | apply OutKept.ite
    | with_reducible intro _
    | with_reducible first | apply arm_kept | apply tripPort_kept | apply OutKept.next
    | split

theorem execBreakerStep_kept {k : PortId} {ma : Nat} {dtNs : Nat} {s : State} (h : Kept μ s₀ s) :
    OutKept μ s₀ (execBreakerStep k ma dtNs s) := by
  unfold execBreakerStep
  repeat' first
    | (extract_lets +onlyGivenNames x; first | (refine Kept.aside (μ := μ) (s₀ := s₀) (x := x) ?_ ?_; clear_value x; revert x; refine Kept.hold ?_; intro x hx; rotate_left; subst x) | skip)
    | with_reducible first | assumption | apply Kept.ite | apply OutKept.ite
    | with_reducible intro _ _ _
    | with_reducible intro _ _
    | with_reducible intro _
    | with_reducible (apply kept_mk; assumption)
    | with_reducible first | apply modBrk_kept | apply set_kept | apply tripPort_kept | apply OutKept.next
    | split

theorem execAllowanceEnd_kept {k : PortId} {s : State} (h : Kept μ s₀ s) :
    OutKept μ s₀ (execAllowanceEnd k s) := by
  unfold execAllowanceEnd
  repeat' first
    | with_reducible first | assumption
    | with_reducible intro _ _ _
    | with_reducible intro _ _
    | with_reducible intro _
    | with_reducible first | apply endAllowance_kept | apply onElapse_kept | apply OutKept.next

theorem reenter_kept {s : State} {k : PortId} (h : Kept μ s₀ s) :
    Kept μ s₀ (State.reenter s k) := by
  unfold State.reenter
  repeat' first
    | (extract_lets +onlyGivenNames x; first | (refine Kept.aside (μ := μ) (s₀ := s₀) (x := x) ?_ ?_; clear_value x; revert x; refine Kept.hold ?_; intro x hx; rotate_left; subst x) | skip)
    | with_reducible first | assumption | apply Kept.ite
    | with_reducible intro _ _ _
    | with_reducible intro _ _
    | with_reducible intro _
    | with_reducible (apply kept_mk; assumption)
    | with_reducible first | apply judgeVbus_kept | apply modPd_kept | apply settleOpen_kept
    | split

theorem execRetryOffElapsed_kept {k : PortId} {s : State} (h : Kept μ s₀ s) :
    OutKept μ s₀ (execRetryOffElapsed k s) := by
  unfold execRetryOffElapsed
  repeat' first
    | (extract_lets +onlyGivenNames x; first | (refine Kept.aside (μ := μ) (s₀ := s₀) (x := x) ?_ ?_; clear_value x; revert x; refine Kept.hold ?_; intro x hx; rotate_left; subst x) | skip)
    | with_reducible first | assumption
    | with_reducible intro _ _ _
    | with_reducible intro _ _
    | with_reducible intro _
    | with_reducible (apply kept_mk; assumption)
    | with_reducible first | apply modBrk_kept | apply onElapse_kept | apply reenter_kept | apply OutKept.next

theorem execRetryCountClear_kept {k : PortId} {s : State} (h : Kept μ s₀ s) :
    OutKept μ s₀ (execRetryCountClear k s) := by
  unfold execRetryCountClear
  repeat' first
    | (extract_lets +onlyGivenNames x; first | (refine Kept.aside (μ := μ) (s₀ := s₀) (x := x) ?_ ?_; clear_value x; revert x; refine Kept.hold ?_; intro x hx; rotate_left; subst x) | skip)
    | with_reducible first | assumption
    | with_reducible intro _ _ _
    | with_reducible intro _ _
    | with_reducible intro _
    | with_reducible (apply kept_mk; assumption)
    | with_reducible first | apply modBrk_kept | apply onElapse_kept | apply set_kept | apply OutKept.next

theorem execOffCheck_kept {k : PortId} {s : State} (h : Kept μ s₀ s) :
    OutKept μ s₀ (execOffCheck k s) := by
  unfold execOffCheck
  repeat' first
    | (extract_lets +onlyGivenNames x; first | (refine Kept.aside (μ := μ) (s₀ := s₀) (x := x) ?_ ?_; clear_value x; revert x; refine Kept.hold ?_; intro x hx; rotate_left; subst x) | skip)
    | with_reducible first | assumption | apply Kept.ite | apply OutKept.ite
    | with_reducible intro _ _ _
    | with_reducible intro _ _
    | with_reducible intro _
    | with_reducible (apply kept_mk; assumption)
    | with_reducible first | apply judgeVbus_kept | apply modBrk_kept | apply onElapse_kept | apply set_kept
                           | apply switchShorted_kept | apply when_kept | apply OutKept.next
    | split

theorem execNtcRecovered_kept {k : PortId} {s : State} (h : Kept μ s₀ s) :
    OutKept μ s₀ (execNtcRecovered k s) := by
  unfold execNtcRecovered
  repeat' first
    | (extract_lets +onlyGivenNames x; first | (refine Kept.aside (μ := μ) (s₀ := s₀) (x := x) ?_ ?_; clear_value x; revert x; refine Kept.hold ?_; intro x hx; rotate_left; subst x) | skip)
    | with_reducible first | assumption | apply Kept.ite | apply OutKept.ite
    | with_reducible intro _ _ _
    | with_reducible intro _ _
    | with_reducible intro _
    | with_reducible (apply kept_mk; assumption)
    | with_reducible first | apply modBrk_kept | apply onElapse_kept | apply reenter_kept | apply OutKept.next
    | split

theorem execGateDriveLost_kept {k : PortId} {s : State} (h : Kept μ s₀ s) :
    OutKept μ s₀ (execGateDriveLost k s) := by
  unfold execGateDriveLost
  repeat' first
    | with_reducible first | assumption | apply Kept.ite | apply OutKept.ite
    | with_reducible intro _
    | with_reducible first | apply holdPort_kept | apply OutKept.next
    | split

theorem execOnDropDegraded_kept {k : PortId} {s : State} (h : Kept μ s₀ s) :
    OutKept μ s₀ (execOnDropDegraded k s) := by
  unfold execOnDropDegraded
  repeat' first
    | (extract_lets +onlyGivenNames x; first | (refine Kept.aside (μ := μ) (s₀ := s₀) (x := x) ?_ ?_; clear_value x; revert x; refine Kept.hold ?_; intro x hx; rotate_left; subst x) | skip)
    | with_reducible first | assumption | apply Kept.ite | apply OutKept.ite
    | with_reducible intro _ _ _
    | with_reducible intro _ _
    | with_reducible intro _
    | with_reducible (apply kept_mk; assumption)
    | with_reducible first | apply flag_kept | apply modBrk_kept | apply onElapse_kept | apply warn_kept
                           | apply OutKept.next
    | split

theorem onDropFrame_kept {s : State} {k : PortId} (h : Kept μ s₀ s) :
    Kept μ s₀ (State.onDropFrame s k) := by
  unfold State.onDropFrame
  repeat' first
    | (extract_lets +onlyGivenNames x; first | (refine Kept.aside (μ := μ) (s₀ := s₀) (x := x) ?_ ?_; clear_value x; revert x; refine Kept.hold ?_; intro x hx; rotate_left; subst x) | skip)
    | with_reducible first | assumption | apply Kept.ite
    | with_reducible intro _
    | with_reducible first | apply armOnce_kept | apply disarm_kept
    | split

end Sys2Proof.Machine
end

