-- ==== Sys2Proof/Laws/KeptRails.lean ====
section
/-!
SUPPORT. What every operation keeps (see Kept): the budget, sequencer, link, margin, first-fault log and bus families.
-/
set_option linter.tactic.unusedName false
set_option linter.unusedTactic false
set_option linter.unreachableTactic false
namespace Sys2Proof.Machine

variable {s₀ : State} {μ : Bool}

/-! Machine/SeqOps -/

theorem stretchCheck_kept {s : State} {n : Fin 4} (h : Kept μ s₀ s) :
    Kept μ s₀ (State.stretchCheck s n) := by
  unfold State.stretchCheck
  repeat' first
    | with_reducible first | assumption | apply Kept.ite
    | with_reducible intro _
    | with_reducible first | apply arm_kept | apply disarm_kept | apply putBit_kept
    | split

theorem stretchAll_kept {s : State} (h : Kept μ s₀ s) :
    Kept μ s₀ (State.stretchAll s) := by
  unfold State.stretchAll
  repeat' first
    | with_reducible first | assumption
    | with_reducible intro _ _ _
    | with_reducible intro _ _
    | with_reducible intro _
    | with_reducible first | apply forAll_kept | apply stretchCheck_kept

theorem beginUpStep_kept {s : State} {n : Nat} (h : Kept μ s₀ s) :
    Kept μ s₀ (State.beginUpStep s n) := by
  unfold State.beginUpStep
  repeat' first
    | (extract_lets +onlyGivenNames x; first | (refine Kept.aside (μ := μ) (s₀ := s₀) (x := x) ?_ ?_; clear_value x; revert x; refine Kept.hold ?_; intro x hx; rotate_left; subst x) | skip)
    | with_reducible first | assumption | apply Kept.ite
    | with_reducible intro _ _ _
    | with_reducible intro _ _
    | with_reducible intro _
    | with_reducible (apply kept_mk; assumption)
    | with_reducible first | apply arm_kept | apply forAll_kept | apply set_kept

theorem springStep5_kept {s : State} (h : Kept μ s₀ s) :
    Kept μ s₀ (State.springStep5 s) := by
  unfold State.springStep5
  repeat' first
    | (extract_lets +onlyGivenNames x; first | (refine Kept.aside (μ := μ) (s₀ := s₀) (x := x) ?_ ?_; clear_value x; revert x; refine Kept.hold ?_; intro x hx; rotate_left; subst x) | skip)
    | with_reducible first | assumption
    | with_reducible intro _ _ _
    | with_reducible intro _ _
    | with_reducible intro _
    | with_reducible (apply kept_mk; assumption)
    | with_reducible first | apply forAll_kept | apply unattached_kept

theorem upTableDone_kept {s : State} (h : Kept μ s₀ s) :
    Kept μ s₀ (State.upTableDone s) := by
  unfold State.upTableDone
  repeat' first
    | (extract_lets +onlyGivenNames x; first | (refine Kept.aside (μ := μ) (s₀ := s₀) (x := x) ?_ ?_; clear_value x; revert x; refine Kept.hold ?_; intro x hx; rotate_left; subst x) | skip)
    | with_reducible first | assumption
    | with_reducible (apply kept_mk; assumption)
    | with_reducible first | apply setPhase_kept | apply springStep5_kept | apply stretchAll_kept

theorem upStepCheck_kept {s : State} (h : Kept μ s₀ s) :
    Kept μ s₀ (State.upStepCheck s) := by
  unfold State.upStepCheck
  repeat' first
    | (extract_lets +onlyGivenNames x; first | (refine Kept.aside (μ := μ) (s₀ := s₀) (x := x) ?_ ?_; clear_value x; revert x; refine Kept.hold ?_; intro x hx; rotate_left; subst x) | skip)
    | with_reducible first | assumption | apply Kept.ite
    | with_reducible intro _ _ _
    | with_reducible intro _ _
    | with_reducible intro _
    | with_reducible first | apply beginUpStep_kept | apply upTableDone_kept
    | split

theorem startUpStep_kept {s : State} (h : Kept μ s₀ s) :
    Kept μ s₀ (State.startUpStep s) := by
  unfold State.startUpStep
  repeat' first
    | (extract_lets +onlyGivenNames x; first | (refine Kept.aside (μ := μ) (s₀ := s₀) (x := x) ?_ ?_; clear_value x; revert x; refine Kept.hold ?_; intro x hx; rotate_left; subst x) | skip)
    | with_reducible first | assumption | apply Kept.ite
    | with_reducible intro _ _ _
    | with_reducible intro _ _
    | with_reducible intro _
    | with_reducible (apply kept_mk; assumption)
    | with_reducible first | apply arm_kept | apply forAll_kept | apply put_kept | apply trace_kept | apply upStepCheck_kept
    | split

theorem tryPowerUp_kept {s : State} (h : Kept μ s₀ s) :
    Kept μ s₀ (State.tryPowerUp s) := by
  unfold State.tryPowerUp
  repeat' first
    | with_reducible first | assumption | apply Kept.ite
    | with_reducible intro _
    | with_reducible first | apply beginUpStep_kept | apply setPhase_kept
    | split

theorem tryT5_kept {s : State} (h : Kept μ s₀ s) :
    Kept μ s₀ (State.tryT5 s) := by
  unfold State.tryT5
  repeat' first
    | with_reducible first | assumption | apply Kept.ite
    | with_reducible intro _ _ _
    | with_reducible intro _ _
    | with_reducible intro _
    | with_reducible first | apply transition_kept
    | split

theorem programMark_kept {s : State} (h : Kept true s₀ s) :
    Kept true s₀ (State.programMark s) := by
  unfold State.programMark
  repeat' first
    | (extract_lets +onlyGivenNames x; first | (refine Kept.aside (μ := true) (s₀ := s₀) (x := x) ?_ ?_; clear_value x; revert x; refine Kept.hold ?_; intro x hx; rotate_left; subst x) | skip)
    | with_reducible first | assumption
    | split
    | with_reducible (apply kept_mk; assumption)
    | with_reducible first | apply flashProgram_kept

theorem armRestartWait_kept {s : State} (h : Kept μ s₀ s) :
    Kept μ s₀ (State.armRestartWait s) := by
  unfold State.armRestartWait
  repeat' first
    | with_reducible first | assumption
    | with_reducible first | apply arm_kept

theorem powerDownDone_kept {s : State} (h : Kept true s₀ s) :
    Kept true s₀ (State.powerDownDone s) := by
  unfold State.powerDownDone
  repeat' first
    | (extract_lets +onlyGivenNames x; first | (refine Kept.aside (μ := true) (s₀ := s₀) (x := x) ?_ ?_; clear_value x; revert x; refine Kept.hold ?_; intro x hx; rotate_left; subst x) | skip)
    | with_reducible first | assumption | apply Kept.ite
    | with_reducible intro _
    | with_reducible (apply kept_mk; assumption)
    | with_reducible first | apply armRestartWait_kept | apply internalRestart_kept | apply lateWinter_kept
                           | apply programMark_kept | apply put_kept | apply set_kept
    | split

theorem downStepCheck_kept {s : State} (h : Kept true s₀ s) :
    Kept true s₀ (State.downStepCheck s) := by
  unfold State.downStepCheck
  repeat' first
    | (extract_lets +onlyGivenNames x; first | (refine Kept.aside (μ := true) (s₀ := s₀) (x := x) ?_ ?_; clear_value x; revert x; refine Kept.hold ?_; intro x hx; rotate_left; subst x) | skip)
    | with_reducible first | assumption | apply Kept.ite
    | with_reducible intro _ _ _
    | with_reducible intro _ _
    | with_reducible intro _
    | with_reducible (apply kept_mk; assumption)
    | with_reducible first | apply beginDownStep_kept | apply powerDownDone_kept | apply setPhase_kept
    | split

theorem startDownStep_kept {s : State} (h : Kept true s₀ s) :
    Kept true s₀ (State.startDownStep s) := by
  unfold State.startDownStep
  repeat' first
    | (extract_lets +onlyGivenNames x; first | (refine Kept.aside (μ := true) (s₀ := s₀) (x := x) ?_ ?_; clear_value x; revert x; refine Kept.hold ?_; intro x hx; rotate_left; subst x) | skip)
    | with_reducible first | assumption
    | with_reducible intro _ _ _
    | with_reducible intro _ _
    | with_reducible intro _
    | with_reducible (apply kept_mk; assumption)
    | with_reducible first | apply arm_kept | apply disarm_kept | apply downStepCheck_kept | apply forAll_kept
                           | apply put_kept | apply trace_kept

theorem railDone_kept {s : State} {j : RailId} (h : Kept true s₀ s) :
    Kept true s₀ (State.railDone s j) := by
  unfold State.railDone
  repeat' first
    | (extract_lets +onlyGivenNames x; first | (refine Kept.aside (μ := true) (s₀ := s₀) (x := x) ?_ ?_; clear_value x; revert x; refine Kept.hold ?_; intro x hx; rotate_left; subst x) | skip)
    | with_reducible first | assumption
    | with_reducible intro _ _ _
    | with_reducible intro _ _
    | with_reducible intro _
    | with_reducible (apply kept_mk; assumption)
    | with_reducible first | apply downStepCheck_kept | apply modRail_kept

theorem gateCheck_kept {s : State} (h : Kept true s₀ s) :
    Kept true s₀ (State.gateCheck s) := by
  unfold State.gateCheck
  repeat' first
    | with_reducible first | assumption | apply Kept.ite
    | with_reducible intro _
    | with_reducible first | apply startDownStep_kept | apply startUpStep_kept | apply trace_kept
    | split

theorem waitAtGate_kept {s : State} (h : Kept μ s₀ s) :
    Kept μ s₀ (State.waitAtGate s) := by
  unfold State.waitAtGate
  repeat' first
    | (extract_lets +onlyGivenNames x; first | (refine Kept.aside (μ := μ) (s₀ := s₀) (x := x) ?_ ?_; clear_value x; revert x; refine Kept.hold ?_; intro x hx; rotate_left; subst x) | skip)
    | with_reducible first | assumption
    | with_reducible (apply kept_mk; assumption)
    | with_reducible first | apply put_kept | apply trace_kept

theorem beginRestart_kept {s : State} {auto : Bool} (h : Kept μ s₀ s) :
    Kept μ s₀ (State.beginRestart s auto) := by
  unfold State.beginRestart
  split
  · exact h
  repeat' first
    | (extract_lets +onlyGivenNames x; first | (refine Kept.aside (μ := μ) (s₀ := s₀) (x := x) ?_ ?_; clear_value x; revert x; refine Kept.hold ?_; intro x hx; rotate_left; subst x) | skip)
    | with_reducible first | assumption
    | with_reducible (apply kept_mk; assumption)
    | with_reducible first | apply startPowerDown_kept

/-! Machine/Budget -/

theorem writeGrant_kept {s : State} {k : PortId} {vin : Nat} {p1 : Pass} {p2 : Pass} (h : Kept μ s₀ s) :
    Kept μ s₀ (State.writeGrant s k vin p1 p2) := by
  unfold State.writeGrant
  repeat' first
    | (extract_lets +onlyGivenNames x; first | (refine Kept.aside (μ := μ) (s₀ := s₀) (x := x) ?_ ?_; clear_value x; revert x; refine Kept.hold ?_; intro x hx; rotate_left; subst x) | skip)
    | with_reducible first | assumption | apply Kept.ite
    | with_reducible intro _
    | with_reducible (apply kept_mk; assumption)
    | with_reducible first | apply set_kept
    | split

theorem noteShort_kept {s : State} {k : PortId} {short : Bool} (h : Kept μ s₀ s) :
    Kept μ s₀ (State.noteShort s k short) := by
  unfold State.noteShort
  repeat' first
    | (extract_lets +onlyGivenNames x; first | (refine Kept.aside (μ := μ) (s₀ := s₀) (x := x) ?_ ?_; clear_value x; revert x; refine Kept.hold ?_; intro x hx; rotate_left; subst x) | skip)
    | with_reducible first | assumption | apply Kept.ite
    | with_reducible intro _
    | with_reducible (apply kept_mk; assumption)
    | with_reducible first | apply flag_kept | apply set_kept | apply warn_kept
    | split

theorem unshed_kept {s : State} {k : PortId} (h : Kept μ s₀ s) :
    Kept μ s₀ (State.unshed s k) := by
  unfold State.unshed
  repeat' first
    | (extract_lets +onlyGivenNames x; first | (refine Kept.aside (μ := μ) (s₀ := s₀) (x := x) ?_ ?_; clear_value x; revert x; refine Kept.hold ?_; intro x hx; rotate_left; subst x) | skip)
    | with_reducible first | assumption
    | with_reducible intro _ _ _
    | with_reducible intro _ _
    | with_reducible intro _
    | with_reducible (apply kept_mk; assumption)
    | with_reducible first | apply clearPd_kept | apply modPd_kept | apply putBit_kept

theorem restoreNext_kept {s : State} (h : Kept μ s₀ s) :
    Kept μ s₀ (State.restoreNext s) := by
  unfold State.restoreNext
  repeat' first
    | (extract_lets +onlyGivenNames x; first | (refine Kept.aside (μ := μ) (s₀ := s₀) (x := x) ?_ ?_; clear_value x; revert x; refine Kept.hold ?_; intro x hx; rotate_left; subst x) | skip)
    | with_reducible first | assumption | apply Kept.ite
    | with_reducible intro _ _ _
    | with_reducible intro _ _
    | with_reducible intro _
    | split
    | with_reducible (apply kept_mk; assumption)
    | with_reducible first | apply forAll_kept | apply unshed_kept
    | (clear_value *; split)

theorem execAllocatorRun_kept {s : State} (h : Kept μ s₀ s) :
    OutKept μ s₀ (execAllocatorRun s) := by
  unfold execAllocatorRun
  repeat' first
    | (extract_lets +onlyGivenNames x; first | (refine Kept.aside (μ := μ) (s₀ := s₀) (x := x) ?_ ?_; clear_value x; revert x; refine Kept.hold ?_; intro x hx; rotate_left; subst x) | skip)
    | with_reducible first | assumption | apply Kept.ite | apply OutKept.ite
    | with_reducible intro _ _ _
    | with_reducible intro _ _
    | with_reducible intro _
    | with_reducible (apply kept_mk; assumption)
    | with_reducible first | apply forAll_kept | apply judgeVbus_kept | apply noteShort_kept | apply presentRp_kept
                           | apply restoreNext_kept | apply set_kept | apply tryT5_kept | apply writeGrant_kept
                           | apply OutKept.next
    | split

theorem execEmergencyLever_kept {runDue : Bool} {s : State} (h : Kept μ s₀ s) :
    OutKept μ s₀ (execEmergencyLever runDue s) := by
  unfold execEmergencyLever
  repeat' first
    | (extract_lets +onlyGivenNames x; first | (refine Kept.aside (μ := μ) (s₀ := s₀) (x := x) ?_ ?_; clear_value x; revert x; refine Kept.hold ?_; intro x hx; rotate_left; subst x) | skip)
    | with_reducible first | assumption | apply Kept.ite | apply OutKept.ite
    | with_reducible intro _ _ _
    | with_reducible intro _ _
    | with_reducible intro _
    | with_reducible (apply kept_mk; assumption)
    | with_reducible first | apply flag_kept | apply foldl_kept | apply forAll_kept | apply set_kept | apply warn_kept
                           | apply OutKept.next
    | with_reducible first | apply foldl2_kept
    | split

/-! Machine/Sequencer -/

theorem execPowerupStepDelayElapsed_kept {s : State} (h : Kept μ s₀ s) :
    OutKept μ s₀ (execPowerupStepDelayElapsed s) := by
  unfold execPowerupStepDelayElapsed
  repeat' first
    | (extract_lets +onlyGivenNames x; first | (refine Kept.aside (μ := μ) (s₀ := s₀) (x := x) ?_ ?_; clear_value x; revert x; refine Kept.hold ?_; intro x hx; rotate_left; subst x) | skip)
    | with_reducible first | assumption | apply Kept.ite | apply OutKept.ite
    | with_reducible intro _ _ _
    | with_reducible intro _ _
    | with_reducible intro _
    | with_reducible first | apply onElapse_kept | apply startUpStep_kept | apply waitAtGate_kept | apply OutKept.next
    | split

theorem execRailEnable_kept {j : RailId} {s : State} (h : Kept μ s₀ s) :
    OutKept μ s₀ (execRailEnable j s) := by
  unfold execRailEnable
  repeat' first
    | (extract_lets +onlyGivenNames x; first | (refine Kept.aside (μ := μ) (s₀ := s₀) (x := x) ?_ ?_; clear_value x; revert x; refine Kept.hold ?_; intro x hx; rotate_left; subst x) | skip)
    | with_reducible first | assumption | apply Kept.ite | apply OutKept.ite
    | with_reducible intro _ _ _
    | with_reducible intro _ _
    | with_reducible intro _
    | with_reducible (apply kept_mk; assumption)
    | with_reducible first | apply arm_kept | apply modRail_kept | apply onElapse_kept | apply put_kept | apply set_kept
                           | apply traceRail_kept | apply OutKept.next
    | split

theorem execRailRiseTimeout_kept {j : RailId} {s : State} (h : Kept μ s₀ s) :
    OutKept μ s₀ (execRailRiseTimeout j s) := by
  unfold execRailRiseTimeout
  repeat' first
    | with_reducible first | assumption
    | with_reducible intro _ _ _
    | with_reducible intro _ _
    | with_reducible intro _
    | with_reducible first | apply flag_kept | apply onElapse_kept | apply raise_kept | apply traceRail_kept
                           | apply OutKept.next

theorem reached_kept {s : State} {j : RailId} (h : Kept μ s₀ s) :
    Kept μ s₀ (State.reached s j) := by
  unfold State.reached
  repeat' first
    | (extract_lets +onlyGivenNames x; first | (refine Kept.aside (μ := μ) (s₀ := s₀) (x := x) ?_ ?_; clear_value x; revert x; refine Kept.hold ?_; intro x hx; rotate_left; subst x) | skip)
    | with_reducible first | assumption | apply Kept.ite
    | with_reducible intro _
    | with_reducible first | apply disarm_kept | apply put_kept | apply set_kept | apply traceRail_kept
                           | apply upStepCheck_kept
    | split

theorem fallTimed_kept {s : State} {j : RailId} (h : Kept μ s₀ s) :
    Kept μ s₀ (State.fallTimed s j) := by
  unfold State.fallTimed
  repeat' first
    | (extract_lets +onlyGivenNames x; first | (refine Kept.aside (μ := μ) (s₀ := s₀) (x := x) ?_ ?_; clear_value x; revert x; refine Kept.hold ?_; intro x hx; rotate_left; subst x) | skip)
    | with_reducible first | assumption | apply Kept.ite
    | with_reducible intro _ _ _
    | with_reducible intro _ _
    | with_reducible intro _
    | with_reducible (apply kept_mk; assumption)
    | with_reducible first | apply modRail_kept | apply set_kept
    | split

theorem fallen_kept {s : State} {j : RailId} (h : Kept true s₀ s) :
    Kept true s₀ (State.fallen s j) := by
  unfold State.fallen
  repeat' first
    | (extract_lets +onlyGivenNames x; first | (refine Kept.aside (μ := true) (s₀ := s₀) (x := x) ?_ ?_; clear_value x; revert x; refine Kept.hold ?_; intro x hx; rotate_left; subst x) | skip)
    | with_reducible first | assumption | apply Kept.ite
    | with_reducible intro _ _ _
    | with_reducible intro _ _
    | with_reducible intro _
    | with_reducible (apply kept_mk; assumption)
    | with_reducible first | apply disarm_kept | apply fallTimed_kept | apply modRail_kept | apply put_kept
                           | apply railDone_kept | apply set_kept | apply traceRail_kept
    | split

theorem frameLevels_kept {s : State} {j : RailId} {lo : Nat} {hi : Nat} {pg : Bool} (h : Kept true s₀ s) :
    Kept true s₀ (State.frameLevels s j lo hi pg) := by
  unfold State.frameLevels
  repeat' first
    | (extract_lets +onlyGivenNames x; first | (refine Kept.aside (μ := true) (s₀ := s₀) (x := x) ?_ ?_; clear_value x; revert x; refine Kept.hold ?_; intro x hx; rotate_left; subst x) | skip)
    | with_reducible first | assumption | apply Kept.ite
    | with_reducible intro _ _ _
    | with_reducible intro _ _
    | with_reducible intro _
    | with_reducible (apply kept_mk; assumption)
    | with_reducible first | apply fallen_kept | apply modRail_kept | apply putBit_kept | apply reached_kept
    | split

theorem noteRaise_kept {s : State} {j : RailId} (h : Kept μ s₀ s) :
    Kept μ s₀ (State.noteRaise s j) := by
  unfold State.noteRaise
  repeat' first
    | (extract_lets +onlyGivenNames x; first | (refine Kept.aside (μ := μ) (s₀ := s₀) (x := x) ?_ ?_; clear_value x; revert x; refine Kept.hold ?_; intro x hx; rotate_left; subst x) | skip)
    | with_reducible first | assumption
    | with_reducible intro _ _ _
    | with_reducible intro _ _
    | with_reducible intro _
    | with_reducible (apply kept_mk; assumption)
    | with_reducible first | apply modRail_kept

theorem frameWarnings_kept {s : State} {j : RailId} {lo : Nat} {hi : Nat} (h : Kept μ s₀ s) :
    Kept μ s₀ (State.frameWarnings s j lo hi) := by
  unfold State.frameWarnings
  repeat' first
    | (extract_lets +onlyGivenNames x; first | (refine Kept.aside (μ := μ) (s₀ := s₀) (x := x) ?_ ?_; clear_value x; revert x; refine Kept.hold ?_; intro x hx; rotate_left; subst x) | skip)
    | with_reducible first | assumption | apply Kept.ite
    | with_reducible intro _ _ _
    | with_reducible intro _ _
    | with_reducible intro _
    | with_reducible (apply kept_mk; assumption)
    | with_reducible first | apply flag_kept | apply modRail_kept | apply noteRaise_kept | apply put_kept | apply warn_kept
    | split

theorem senseFrame_kept {s : State} {j : RailId} {m : Nat} (h : Kept μ s₀ s) :
    Kept μ s₀ (State.senseFrame s j m) := by
  unfold State.senseFrame
  repeat' first
    | (extract_lets +onlyGivenNames x; first | (refine Kept.aside (μ := μ) (s₀ := s₀) (x := x) ?_ ?_; clear_value x; revert x; refine Kept.hold ?_; intro x hx; rotate_left; subst x) | skip)
    | with_reducible first | assumption | apply Kept.ite
    | with_reducible intro _ _ _
    | with_reducible intro _ _
    | with_reducible intro _
    | split
    | with_reducible (apply kept_mk; assumption)
    | with_reducible first | apply flag_kept | apply openWindows_kept | apply set_kept | apply warn_kept
    | (clear_value *; split)

theorem execRailFrameJudge_kept {j : RailId} {pg : Bool} {s : State} (h : Kept true s₀ s) :
    OutKept true s₀ (execRailFrameJudge j pg s) := by
  unfold execRailFrameJudge
  repeat' first
    | (extract_lets +onlyGivenNames x; first | (refine Kept.aside (μ := true) (s₀ := s₀) (x := x) ?_ ?_; clear_value x; revert x; refine Kept.hold ?_; intro x hx; rotate_left; subst x) | skip)
    | with_reducible first | assumption | apply Kept.ite | apply OutKept.ite
    | with_reducible intro _ _ _
    | with_reducible intro _ _
    | with_reducible intro _
    | split
    | with_reducible (apply kept_mk; assumption)
    | with_reducible first | apply forAll_kept | apply frameLevels_kept | apply frameWarnings_kept | apply modRail_kept
                           | apply openWindows_kept | apply put_kept | apply senseFrame_kept | apply set_kept
                           | apply stretchAll_kept | apply tryT5_kept | apply upStepCheck_kept | apply OutKept.next
    | (clear_value *; split)

theorem execResetStretchElapsed_kept {n : Fin 4} {s : State} (h : Kept μ s₀ s) :
    OutKept μ s₀ (execResetStretchElapsed n s) := by
  unfold execResetStretchElapsed
  repeat' first
    | (extract_lets +onlyGivenNames x; first | (refine Kept.aside (μ := μ) (s₀ := s₀) (x := x) ?_ ?_; clear_value x; revert x; refine Kept.hold ?_; intro x hx; rotate_left; subst x) | skip)
    | with_reducible first | assumption | apply Kept.ite | apply OutKept.ite
    | with_reducible intro _ _ _
    | with_reducible intro _ _
    | with_reducible intro _
    | with_reducible first | apply onElapse_kept | apply putBit_kept | apply OutKept.next
    | split

theorem execPowerdownStepDelayElapsed_kept {s : State} (h : Kept true s₀ s) :
    OutKept true s₀ (execPowerdownStepDelayElapsed s) := by
  unfold execPowerdownStepDelayElapsed
  repeat' first
    | (extract_lets +onlyGivenNames x; first | (refine Kept.aside (μ := true) (s₀ := s₀) (x := x) ?_ ?_; clear_value x; revert x; refine Kept.hold ?_; intro x hx; rotate_left; subst x) | skip)
    | with_reducible first | assumption | apply Kept.ite | apply OutKept.ite
    | with_reducible intro _ _ _
    | with_reducible intro _ _
    | with_reducible intro _
    | with_reducible first | apply arm_kept | apply onElapse_kept | apply startDownStep_kept | apply waitAtGate_kept
                           | apply OutKept.next
    | split

theorem execDownGateTimeout_kept {s : State} (h : Kept true s₀ s) :
    OutKept true s₀ (execDownGateTimeout s) := by
  unfold execDownGateTimeout
  repeat' first
    | with_reducible first | assumption
    | with_reducible intro _ _ _
    | with_reducible intro _ _
    | with_reducible intro _
    | with_reducible first | apply flag_kept | apply onElapse_kept | apply startDownStep_kept | apply trace_kept
                           | apply warn_kept | apply OutKept.next

theorem execRailRelease_kept {j : RailId} {s : State} (h : Kept true s₀ s) :
    OutKept true s₀ (execRailRelease j s) := by
  unfold execRailRelease
  repeat' first
    | (extract_lets +onlyGivenNames x; first | (refine Kept.aside (μ := true) (s₀ := s₀) (x := x) ?_ ?_; clear_value x; revert x; refine Kept.hold ?_; intro x hx; rotate_left; subst x) | skip)
    | with_reducible first | assumption | apply Kept.ite | apply OutKept.ite
    | with_reducible intro _ _ _
    | with_reducible intro _ _
    | with_reducible intro _
    | with_reducible first | apply arm_kept | apply fallTimed_kept | apply onElapse_kept | apply railDone_kept
                           | apply releaseRail_kept | apply set_kept | apply traceRail_kept | apply OutKept.next
    | split

theorem execRailFallTimeout_kept {j : RailId} {s : State} (h : Kept μ s₀ s) :
    OutKept μ s₀ (execRailFallTimeout j s) := by
  unfold execRailFallTimeout
  repeat' first
    | (extract_lets +onlyGivenNames x; first | (refine Kept.aside (μ := μ) (s₀ := s₀) (x := x) ?_ ?_; clear_value x; revert x; refine Kept.hold ?_; intro x hx; rotate_left; subst x) | skip)
    | with_reducible first | assumption
    | with_reducible intro _ _ _
    | with_reducible intro _ _
    | with_reducible intro _
    | with_reducible (apply kept_mk; assumption)
    | with_reducible first | apply arm_kept | apply flag_kept | apply modRail_kept | apply onElapse_kept | apply put_kept
                           | apply set_kept | apply traceRail_kept | apply OutKept.next

theorem execDischargeTimeout_kept {j : RailId} {s : State} (h : Kept true s₀ s) :
    OutKept true s₀ (execDischargeTimeout j s) := by
  unfold execDischargeTimeout
  repeat' first
    | (extract_lets +onlyGivenNames x; first | (refine Kept.aside (μ := true) (s₀ := s₀) (x := x) ?_ ?_; clear_value x; revert x; refine Kept.hold ?_; intro x hx; rotate_left; subst x) | skip)
    | with_reducible first | assumption | apply Kept.ite | apply OutKept.ite
    | with_reducible intro _ _ _
    | with_reducible intro _ _
    | with_reducible intro _
    | with_reducible (apply kept_mk; assumption)
    | with_reducible first | apply downStepCheck_kept | apply modRail_kept | apply onElapse_kept | apply put_kept
                           | apply railDone_kept | apply raise_kept | apply set_kept | apply traceRail_kept
                           | apply warn_kept | apply OutKept.next
    | split

theorem railTrip_kept {s : State} {j : RailId} {cause : Nat} (h : Kept μ s₀ s) :
    Kept μ s₀ (State.railTrip s j cause) := by
  unfold State.railTrip
  repeat' first
    | (extract_lets +onlyGivenNames x; first | (refine Kept.aside (μ := μ) (s₀ := s₀) (x := x) ?_ ?_; clear_value x; revert x; refine Kept.hold ?_; intro x hx; rotate_left; subst x) | skip)
    | with_reducible first | assumption | apply Kept.ite
    | with_reducible intro _
    | with_reducible first | apply assertWatching_kept | apply flag_kept | apply isolateRail_kept | apply noteRaise_kept
                           | apply raise_kept | apply set_kept | apply traceRail_kept | apply upStepCheck_kept
                           | apply warn_kept
    | split

/-! Machine/Axkan -/

theorem execCascArm_kept {s : State} (h : Kept μ s₀ s) :
    OutKept μ s₀ (execCascArm s) := by
  unfold execCascArm
  repeat' first
    | (extract_lets +onlyGivenNames x; first | (refine Kept.aside (μ := μ) (s₀ := s₀) (x := x) ?_ ?_; clear_value x; revert x; refine Kept.hold ?_; intro x hx; rotate_left; subst x) | skip)
    | with_reducible first | assumption | apply Kept.ite | apply OutKept.ite
    | with_reducible intro _
    | with_reducible (apply kept_mk; assumption)
    | with_reducible first | apply put_kept | apply tryPowerUp_kept | apply OutKept.next
    | split

theorem execCascFault_kept {s : State} (h : Kept μ s₀ s) :
    OutKept μ s₀ (execCascFault s) := by
  unfold execCascFault
  repeat' first
    | (extract_lets +onlyGivenNames x; first | (refine Kept.aside (μ := μ) (s₀ := s₀) (x := x) ?_ ?_; clear_value x; revert x; refine Kept.hold ?_; intro x hx; rotate_left; subst x) | skip)
    | with_reducible first | assumption | apply Kept.ite | apply OutKept.ite
    | with_reducible intro _
    | with_reducible (apply kept_mk; assumption)
    | with_reducible first | apply flag_kept | apply raise_kept | apply OutKept.next
    | split

theorem releaseFields_kept {s : State} {cyc : Nat} (h : Kept μ s₀ s) :
    Kept μ s₀ (State.releaseFields s cyc) := by
  unfold State.releaseFields
  repeat' first
    | (extract_lets +onlyGivenNames x; first | (refine Kept.aside (μ := μ) (s₀ := s₀) (x := x) ?_ ?_; clear_value x; revert x; refine Kept.hold ?_; intro x hx; rotate_left; subst x) | skip)
    | with_reducible first | assumption | apply Kept.ite
    | with_reducible intro _ _ _
    | with_reducible intro _ _
    | with_reducible intro _
    | split
    | with_reducible (apply kept_mk; assumption)
    | with_reducible first | apply put_kept | apply set_kept
    | (clear_value *; split)

theorem ageLink_kept {s : State} (h : Kept μ s₀ s) :
    Kept μ s₀ (State.ageLink s) := by
  unfold State.ageLink
  repeat' first
    | (extract_lets +onlyGivenNames x; first | (refine Kept.aside (μ := μ) (s₀ := s₀) (x := x) ?_ ?_; clear_value x; revert x; refine Kept.hold ?_; intro x hx; rotate_left; subst x) | skip)
    | with_reducible first | assumption
    | with_reducible intro _ _ _
    | with_reducible intro _ _
    | with_reducible intro _
    | with_reducible (apply kept_mk; assumption)

theorem heard_kept {s : State} {n : Nat} {b95 : Nat} {b79 : Nat} {cyc : Nat} (h : Kept μ s₀ s) :
    Kept μ s₀ (State.heard s n b95 b79 cyc) := by
  unfold State.heard
  repeat' first
    | (extract_lets +onlyGivenNames x; first | (refine Kept.aside (μ := μ) (s₀ := s₀) (x := x) ?_ ?_; clear_value x; revert x; refine Kept.hold ?_; intro x hx; rotate_left; subst x) | skip)
    | with_reducible first | assumption | apply Kept.ite
    | with_reducible intro _ _ _
    | with_reducible intro _ _
    | with_reducible intro _
    | with_reducible (apply kept_mk; assumption)
    | with_reducible first | apply set_kept
    | split

theorem execAxkanCycle_kept {s : State} (h : Kept true s₀ s) :
    OutKept true s₀ (execAxkanCycle s) := by
  unfold execAxkanCycle
  repeat' first
    | (extract_lets +onlyGivenNames x; first | (refine Kept.aside (μ := true) (s₀ := s₀) (x := x) ?_ ?_; clear_value x; revert x; refine Kept.hold ?_; intro x hx; rotate_left; subst x) | skip)
    | with_reducible first | assumption | apply Kept.ite | apply OutKept.ite
    | with_reducible intro _
    | with_reducible (apply kept_mk; assumption)
    | with_reducible first | apply ageLink_kept | apply arm_kept | apply gateCheck_kept | apply releaseFields_kept
                           | apply OutKept.next
    | split

theorem execAxkanSlaveWindow_kept {s : State} (h : Kept μ s₀ s) :
    OutKept μ s₀ (execAxkanSlaveWindow s) := by
  unfold execAxkanSlaveWindow
  repeat' first
    | (extract_lets +onlyGivenNames x; first | (refine Kept.aside (μ := μ) (s₀ := s₀) (x := x) ?_ ?_; clear_value x; revert x; refine Kept.hold ?_; intro x hx; rotate_left; subst x) | skip)
    | with_reducible first | assumption | apply Kept.ite | apply OutKept.ite
    | with_reducible intro _
    | with_reducible (apply kept_mk; assumption)
    | with_reducible first | apply ageLink_kept | apply OutKept.next
    | split

theorem macFailed_kept {s : State} (h : Kept μ s₀ s) :
    Kept μ s₀ (State.macFailed s) := by
  unfold State.macFailed
  repeat' first
    | with_reducible first | assumption
    | with_reducible first | apply flag_kept | apply warn_kept

theorem cycFailed_kept {s : State} (h : Kept μ s₀ s) :
    Kept μ s₀ (State.cycFailed s) := by
  unfold State.cycFailed
  repeat' first
    | with_reducible first | assumption
    | with_reducible first | apply flag_kept | apply warn_kept

theorem execAxkanSync_kept {f : BitVec 96} {s : State} (h : Kept true s₀ s) :
    OutKept true s₀ (execAxkanSync f s) := by
  unfold execAxkanSync
  repeat' first
    | (extract_lets +onlyGivenNames x; first | (refine Kept.aside (μ := true) (s₀ := s₀) (x := x) ?_ ?_; clear_value x; revert x; refine Kept.hold ?_; intro x hx; rotate_left; subst x) | skip)
    | with_reducible first | assumption | apply Kept.ite | apply OutKept.ite
    | with_reducible intro _
    | with_reducible (apply kept_mk; assumption)
    | with_reducible first | apply cycFailed_kept | apply gateCheck_kept | apply heard_kept | apply macFailed_kept
                           | apply put_kept | apply set_kept | apply OutKept.next
    | split

theorem execAxkanJoin_kept {f : BitVec 96} {s : State} (h : Kept μ s₀ s) :
    OutKept μ s₀ (execAxkanJoin f s) := by
  unfold execAxkanJoin
  repeat' first
    | (extract_lets +onlyGivenNames x; first | (refine Kept.aside (μ := μ) (s₀ := s₀) (x := x) ?_ ?_; clear_value x; revert x; refine Kept.hold ?_; intro x hx; rotate_left; subst x) | skip)
    | with_reducible first | assumption | apply Kept.ite | apply OutKept.ite
    | with_reducible intro _
    | with_reducible (apply kept_mk; assumption)
    | with_reducible first | apply heard_kept | apply macFailed_kept | apply OutKept.next
    | split

theorem execAxkanReport_kept {f : BitVec 96} {s : State} (h : Kept μ s₀ s) :
    OutKept μ s₀ (execAxkanReport f s) := by
  unfold execAxkanReport
  repeat' first
    | (extract_lets +onlyGivenNames x; first | (refine Kept.aside (μ := μ) (s₀ := s₀) (x := x) ?_ ?_; clear_value x; revert x; refine Kept.hold ?_; intro x hx; rotate_left; subst x) | skip)
    | with_reducible first | assumption | apply Kept.ite | apply OutKept.ite
    | with_reducible intro _ _ _
    | with_reducible intro _ _
    | with_reducible intro _
    | with_reducible (apply kept_mk; assumption)
    | with_reducible first | apply arm_kept | apply cycFailed_kept | apply heard_kept | apply macFailed_kept
                           | apply OutKept.next
    | split

theorem execAxkanLinkLost_kept {s : State} (h : Kept μ s₀ s) :
    OutKept μ s₀ (execAxkanLinkLost s) := by
  unfold execAxkanLinkLost
  repeat' first
    | (extract_lets +onlyGivenNames x; first | (refine Kept.aside (μ := μ) (s₀ := s₀) (x := x) ?_ ?_; clear_value x; revert x; refine Kept.hold ?_; intro x hx; rotate_left; subst x) | skip)
    | with_reducible first | assumption | apply Kept.ite | apply OutKept.ite
    | with_reducible intro _ _ _
    | with_reducible intro _ _
    | with_reducible intro _
    | with_reducible (apply kept_mk; assumption)
    | with_reducible first | apply flag_kept | apply raise_kept | apply OutKept.next
    | split

/-! Machine/Margin -/

theorem setMargin_kept {s : State} {j : RailId} {target : Int} {clamped : Bool} (h : Kept μ s₀ s) :
    Kept μ s₀ (State.setMargin s j target clamped) := by
  unfold State.setMargin
  repeat' first
    | (extract_lets +onlyGivenNames x; first | (refine Kept.aside (μ := μ) (s₀ := s₀) (x := x) ?_ ?_; clear_value x; revert x; refine Kept.hold ?_; intro x hx; rotate_left; subst x) | skip)
    | with_reducible first | assumption | apply Kept.ite
    | with_reducible intro _ _ _
    | with_reducible intro _ _
    | with_reducible intro _
    | with_reducible (apply kept_mk; assumption)
    | with_reducible first | apply arm_kept | apply modRail_kept | apply put_kept | apply set_kept
    | split

theorem marginFail_kept {s : State} {j : RailId} (h : Kept μ s₀ s) :
    Kept μ s₀ (State.marginFail s j) := by
  unfold State.marginFail
  repeat' first
    | (extract_lets +onlyGivenNames x; first | (refine Kept.aside (μ := μ) (s₀ := s₀) (x := x) ?_ ?_; clear_value x; revert x; refine Kept.hold ?_; intro x hx; rotate_left; subst x) | skip)
    | with_reducible first | assumption
    | with_reducible intro _ _ _
    | with_reducible intro _ _
    | with_reducible intro _
    | with_reducible (apply kept_mk; assumption)
    | with_reducible first | apply arm_kept | apply flag_kept | apply modRail_kept | apply put_kept | apply raise_kept
                           | apply set_kept

theorem marginSettled_kept {s : State} {j : RailId} (h : Kept μ s₀ s) :
    Kept μ s₀ (State.marginSettled s j) := by
  unfold State.marginSettled
  repeat' first
    | (extract_lets +onlyGivenNames x; first | (refine Kept.aside (μ := μ) (s₀ := s₀) (x := x) ?_ ?_; clear_value x; revert x; refine Kept.hold ?_; intro x hx; rotate_left; subst x) | skip)
    | with_reducible first | assumption | apply Kept.ite
    | with_reducible intro _ _ _
    | with_reducible intro _ _
    | with_reducible intro _
    | with_reducible (apply kept_mk; assumption)
    | with_reducible first | apply disarm_kept | apply modRail_kept | apply put_kept | apply set_kept
    | split

theorem execMarginFrameStep_kept {j : RailId} {s : State} (h : Kept μ s₀ s) :
    OutKept μ s₀ (execMarginFrameStep j s) := by
  unfold execMarginFrameStep
  repeat' first
    | (extract_lets +onlyGivenNames x; first | (refine Kept.aside (μ := μ) (s₀ := s₀) (x := x) ?_ ?_; clear_value x; revert x; refine Kept.hold ?_; intro x hx; rotate_left; subst x) | skip)
    | with_reducible first | assumption | apply Kept.ite | apply OutKept.ite
    | with_reducible intro _ _ _
    | with_reducible intro _ _
    | with_reducible intro _
    | with_reducible (apply kept_mk; assumption)
    | with_reducible first | apply marginSettled_kept | apply modRail_kept | apply put_kept | apply set_kept
                           | apply OutKept.next
    | split

theorem execMarginTimeout_kept {j : RailId} {s : State} (h : Kept μ s₀ s) :
    OutKept μ s₀ (execMarginTimeout j s) := by
  unfold execMarginTimeout
  repeat' first
    | with_reducible first | assumption | apply Kept.ite | apply OutKept.ite
    | with_reducible intro _ _ _
    | with_reducible intro _ _
    | with_reducible intro _
    | with_reducible first | apply marginFail_kept | apply onElapse_kept | apply OutKept.next
    | split

/-! Machine/FirstFault -/

theorem execFflRecordWrite_kept {ok : Bool} {s : State} (h : Kept true s₀ s) :
    OutKept true s₀ (execFflRecordWrite ok s) := by
  unfold execFflRecordWrite
  repeat' first
    | (extract_lets +onlyGivenNames x; first | (refine Kept.aside (μ := true) (s₀ := s₀) (x := x) ?_ ?_; clear_value x; revert x; refine Kept.hold ?_; intro x hx; rotate_left; subst x) | skip)
    | with_reducible first | assumption | apply Kept.ite | apply OutKept.ite
    | with_reducible intro _ _ _
    | with_reducible intro _ _
    | with_reducible intro _
    | split
    | with_reducible (apply kept_mk; assumption)
    | with_reducible first | apply bump_kept | apply commit_kept | apply flag_kept | apply flashProgram_kept
                           | apply powerDownDone_kept | apply put_kept | apply raise_kept | apply set_kept
                           | apply OutKept.next
    | (clear_value *; split)

theorem execFflMark_kept {s : State} (h : Kept true s₀ s) :
    OutKept true s₀ (execFflMark s) := by
  unfold execFflMark
  repeat' first
    | with_reducible first | assumption | apply Kept.ite | apply OutKept.ite
    | with_reducible intro _
    | with_reducible first | apply programMark_kept | apply OutKept.next
    | split

theorem execFflSectorErase_kept {ok : Bool} {s : State} (h : Kept true s₀ s) :
    OutKept true s₀ (execFflSectorErase ok s) := by
  unfold execFflSectorErase
  repeat' first
    | (extract_lets +onlyGivenNames x; first | (refine Kept.aside (μ := true) (s₀ := s₀) (x := x) ?_ ?_; clear_value x; revert x; refine Kept.hold ?_; intro x hx; rotate_left; subst x) | skip)
    | with_reducible first | assumption | apply Kept.ite | apply OutKept.ite
    | with_reducible intro _
    | split
    | with_reducible (apply kept_mk; assumption)
    | with_reducible first | apply flag_kept | apply flashErase_kept | apply spoil_kept | apply raise_kept | apply OutKept.next
    | (clear_value *; split)

theorem execFflScan_kept {s : State} (h : Kept μ s₀ s) :
    OutKept μ s₀ (execFflScan s) := by
  unfold execFflScan
  repeat' first
    | (extract_lets +onlyGivenNames x; first | (refine Kept.aside (μ := μ) (s₀ := s₀) (x := x) ?_ ?_; clear_value x; revert x; refine Kept.hold ?_; intro x hx; rotate_left; subst x) | skip)
    | with_reducible first | assumption | apply Kept.ite | apply OutKept.ite
    | with_reducible intro _ _ _
    | with_reducible intro _ _
    | with_reducible intro _
    | split
    | with_reducible (apply kept_mk; assumption)
    | with_reducible first | apply foldl_kept | apply put_kept | apply set_kept | apply warn_kept | apply OutKept.next
    | with_reducible first | apply foldl2_kept
    | (clear_value *; split)

theorem execFflDeferredRecord_kept {s : State} (h : Kept μ s₀ s) :
    OutKept μ s₀ (execFflDeferredRecord s) := by
  unfold execFflDeferredRecord
  repeat' first
    | (extract_lets +onlyGivenNames x; first | (refine Kept.aside (μ := μ) (s₀ := s₀) (x := x) ?_ ?_; clear_value x; revert x; refine Kept.hold ?_; intro x hx; rotate_left; subst x) | skip)
    | with_reducible first | assumption | apply Kept.ite | apply OutKept.ite
    | with_reducible intro _
    | with_reducible (apply kept_mk; assumption)
    | with_reducible first | apply put_kept | apply OutKept.next
    | split

theorem loadRec_kept {s : State} {n : Nat} (h : Kept μ s₀ s) :
    Kept μ s₀ (State.loadRec s n) := by
  unfold State.loadRec
  repeat' first
    | with_reducible first | assumption
    | with_reducible intro _ _ _
    | with_reducible intro _ _
    | with_reducible intro _
    | with_reducible first | apply foldl_kept | apply set_kept
    | with_reducible first | apply foldl2_kept

theorem execFflSelLoad_kept {w : Word} {s : State} (h : Kept μ s₀ s) :
    OutKept μ s₀ (execFflSelLoad w s) := by
  unfold execFflSelLoad
  repeat' first
    | (extract_lets +onlyGivenNames x; first | (refine Kept.aside (μ := μ) (s₀ := s₀) (x := x) ?_ ?_; clear_value x; revert x; refine Kept.hold ?_; intro x hx; rotate_left; subst x) | skip)
    | with_reducible first | assumption | apply Kept.ite | apply OutKept.ite
    | with_reducible intro _
    | with_reducible first | apply loadRec_kept | apply put_kept | apply set_kept | apply OutKept.next
    | split

/-! Machine/HisOps -/

theorem archiveFail_kept {s : State} (h : Kept μ s₀ s) :
    Kept μ s₀ (State.archiveFail s) := by
  unfold State.archiveFail
  repeat' first
    | with_reducible first | assumption
    | with_reducible first | apply flag_kept | apply raise_kept

theorem eraseNext_kept {s : State} {base : Nat} {slots : Nat} {n : Nat} {ok : Bool} (h : Kept true s₀ s) :
    Kept true s₀ (State.eraseNext s base slots n ok) := by
  unfold State.eraseNext
  repeat' first
    | (extract_lets +onlyGivenNames x; first | (refine Kept.aside (μ := true) (s₀ := s₀) (x := x) ?_ ?_; clear_value x; revert x; refine Kept.hold ?_; intro x hx; rotate_left; subst x) | skip)
    | with_reducible first | assumption | apply Kept.ite
    | with_reducible intro _
    | with_reducible first | apply archiveFail_kept | apply flashErase_kept | apply spoil_kept
    | split

theorem storeCheckpoint_kept {s : State} {ok : Bool} {eraseOk : Bool} (h : Kept true s₀ s) :
    Kept true s₀ (State.storeCheckpoint s ok eraseOk) := by
  unfold State.storeCheckpoint
  repeat' first
    | (extract_lets +onlyGivenNames x; first | (refine Kept.aside (μ := true) (s₀ := s₀) (x := x) ?_ ?_; clear_value x; revert x; refine Kept.hold ?_; intro x hx; rotate_left; subst x) | skip)
    | with_reducible first | assumption | apply Kept.ite
    | with_reducible intro _
    | with_reducible (apply kept_mk; assumption)
    | with_reducible first | apply archiveFail_kept | apply eraseNext_kept | apply flashProgram_kept | apply spoil_kept
    | split

theorem showDay_kept {s : State} (h : Kept μ s₀ s) :
    Kept μ s₀ (State.showDay s) := by
  unfold State.showDay
  repeat' first
    | with_reducible first | assumption
    | with_reducible first | apply set_kept

/-! Machine/Bus -/

theorem execVinOvpRise_kept {s : State} (h : Kept μ s₀ s) :
    OutKept μ s₀ (execVinOvpRise s) := by
  unfold execVinOvpRise
  repeat' first
    | (extract_lets +onlyGivenNames x; first | (refine Kept.aside (μ := μ) (s₀ := s₀) (x := x) ?_ ?_; clear_value x; revert x; refine Kept.hold ?_; intro x hx; rotate_left; subst x) | skip)
    | with_reducible first | assumption | apply Kept.ite | apply OutKept.ite
    | with_reducible intro _ _ _
    | with_reducible intro _ _
    | with_reducible intro _
    | with_reducible (apply kept_mk; assumption)
    | with_reducible first | apply arm_kept | apply classify_kept | apply disarm_kept | apply flag_kept | apply forAll_kept
                           | apply standConverter_kept | apply OutKept.next
    | split

theorem execVinOvpFall_kept {s : State} (h : Kept μ s₀ s) :
    OutKept μ s₀ (execVinOvpFall s) := by
  unfold execVinOvpFall
  repeat' first
    | (extract_lets +onlyGivenNames x; first | (refine Kept.aside (μ := μ) (s₀ := s₀) (x := x) ?_ ?_; clear_value x; revert x; refine Kept.hold ?_; intro x hx; rotate_left; subst x) | skip)
    | with_reducible first | assumption | apply Kept.ite | apply OutKept.ite
    | with_reducible intro _ _ _
    | with_reducible intro _ _
    | with_reducible intro _
    | with_reducible (apply kept_mk; assumption)
    | with_reducible first | apply arm_kept | apply disarm_kept | apply when_kept | apply OutKept.next
    | split

theorem execVinOvpPersist_kept {s : State} (h : Kept μ s₀ s) :
    OutKept μ s₀ (execVinOvpPersist s) := by
  unfold execVinOvpPersist
  repeat' first
    | with_reducible first | assumption
    | with_reducible intro _ _ _
    | with_reducible intro _ _
    | with_reducible intro _
    | with_reducible first | apply classify_kept | apply onElapse_kept | apply raise_kept | apply OutKept.next

theorem vinLostPort_kept {s : State} {k : PortId} (h : Kept μ s₀ s) :
    Kept μ s₀ (State.vinLostPort s k) := by
  unfold State.vinLostPort
  repeat' first
    | (extract_lets +onlyGivenNames x; first | (refine Kept.aside (μ := μ) (s₀ := s₀) (x := x) ?_ ?_; clear_value x; revert x; refine Kept.hold ?_; intro x hx; rotate_left; subst x) | skip)
    | with_reducible first | assumption | apply Kept.ite
    | with_reducible intro _ _ _
    | with_reducible intro _ _
    | with_reducible intro _
    | with_reducible (apply kept_mk; assumption)
    | with_reducible first | apply clearPd_kept | apply modPd_kept | apply softOpen_kept | apply stopConverter_kept
    | split

theorem vinLostPort9_kept {s : State} (h : Kept μ s₀ s) :
    Kept μ s₀ (State.vinLostPort9 s) := by
  unfold State.vinLostPort9
  repeat' first
    | (extract_lets +onlyGivenNames x; first | (refine Kept.aside (μ := μ) (s₀ := s₀) (x := x) ?_ ?_; clear_value x; revert x; refine Kept.hold ?_; intro x hx; rotate_left; subst x) | skip)
    | with_reducible first | assumption | apply Kept.ite
    | with_reducible intro _
    | with_reducible first | apply disarmAll_kept | apply forgetPartner_kept | apply softOpen_kept | apply unattached_kept
    | split

theorem execVinOkFall_kept {s : State} (h : Kept μ s₀ s) :
    OutKept μ s₀ (execVinOkFall s) := by
  unfold execVinOkFall
  repeat' first
    | (extract_lets +onlyGivenNames x; first | (refine Kept.aside (μ := μ) (s₀ := s₀) (x := x) ?_ ?_; clear_value x; revert x; refine Kept.hold ?_; intro x hx; rotate_left; subst x) | skip)
    | with_reducible first | assumption | apply Kept.ite | apply OutKept.ite
    | with_reducible intro _ _ _
    | with_reducible intro _ _
    | with_reducible intro _
    | with_reducible (apply kept_mk; assumption)
    | with_reducible first | apply disarm_kept | apply forAll_kept | apply vinLostPort_kept | apply vinLostPort9_kept
                           | apply OutKept.next
    | split

theorem tryT14_kept {s : State} (h : Kept true s₀ s) :
    Kept true s₀ (State.tryT14 s) := by
  unfold State.tryT14
  repeat' first
    | with_reducible first | assumption | apply Kept.ite
    | with_reducible intro _
    | with_reducible first | apply internalRestart_kept | apply storeCheckpoint_kept
    | split

theorem execVinOkRise_kept {s : State} (h : Kept true s₀ s) :
    OutKept true s₀ (execVinOkRise s) := by
  unfold execVinOkRise
  repeat' first
    | (extract_lets +onlyGivenNames x; first | (refine Kept.aside (μ := true) (s₀ := s₀) (x := x) ?_ ?_; clear_value x; revert x; refine Kept.hold ?_; intro x hx; rotate_left; subst x) | skip)
    | with_reducible first | assumption | apply Kept.ite | apply OutKept.ite
    | with_reducible intro _ _ _
    | with_reducible intro _ _
    | with_reducible intro _
    | with_reducible (apply kept_mk; assumption)
    | with_reducible first | apply armRestartWait_kept | apply tryT14_kept | apply unattached_kept | apply when_kept
                           | apply OutKept.next
    | split

theorem execSinkSupplyPresent_kept {s : State} (h : Kept μ s₀ s) :
    OutKept μ s₀ (execSinkSupplyPresent s) := by
  unfold execSinkSupplyPresent
  repeat' first
    | (extract_lets +onlyGivenNames x; first | (refine Kept.aside (μ := μ) (s₀ := s₀) (x := x) ?_ ?_; clear_value x; revert x; refine Kept.hold ?_; intro x hx; rotate_left; subst x) | skip)
    | with_reducible first | assumption | apply Kept.ite | apply OutKept.ite
    | with_reducible intro _
    | with_reducible (apply kept_mk; assumption)
    | with_reducible first | apply OutKept.next
    | split

theorem armMainsLoss_kept {s : State} (h : Kept μ s₀ s) :
    Kept μ s₀ (State.armMainsLoss s) := by
  unfold State.armMainsLoss
  repeat' first
    | with_reducible first | assumption
    | with_reducible first | apply arm_kept

theorem acsnsLock_kept {s : State} {sixty : Bool} (h : Kept μ s₀ s) :
    Kept μ s₀ (State.acsnsLock s sixty) := by
  unfold State.acsnsLock
  repeat' first
    | (extract_lets +onlyGivenNames x; first | (refine Kept.aside (μ := μ) (s₀ := s₀) (x := x) ?_ ?_; clear_value x; revert x; refine Kept.hold ?_; intro x hx; rotate_left; subst x) | skip)
    | with_reducible first | assumption
    | with_reducible (apply kept_mk; assumption)
    | with_reducible first | apply put_kept

theorem acsnsUnlock_kept {s : State} (h : Kept μ s₀ s) :
    Kept μ s₀ (State.acsnsUnlock s) := by
  unfold State.acsnsUnlock
  repeat' first
    | (extract_lets +onlyGivenNames x; first | (refine Kept.aside (μ := μ) (s₀ := s₀) (x := x) ?_ ?_; clear_value x; revert x; refine Kept.hold ?_; intro x hx; rotate_left; subst x) | skip)
    | with_reducible first | assumption
    | with_reducible (apply kept_mk; assumption)
    | with_reducible first | apply disarm_kept | apply put_kept | apply set_kept

theorem returnInterval_kept {s : State} {iv : Nat} (h : Kept μ s₀ s) :
    Kept μ s₀ (State.returnInterval s iv) := by
  unfold State.returnInterval
  repeat' first
    | (extract_lets +onlyGivenNames x; first | (refine Kept.aside (μ := μ) (s₀ := s₀) (x := x) ?_ ?_; clear_value x; revert x; refine Kept.hold ?_; intro x hx; rotate_left; subst x) | skip)
    | with_reducible first | assumption | apply Kept.ite
    | with_reducible intro _
    | with_reducible (apply kept_mk; assumption)
    | with_reducible first | apply put_kept
    | split

theorem judgeInterval_kept {s : State} {iv : Nat} (h : Kept μ s₀ s) :
    Kept μ s₀ (State.judgeInterval s iv) := by
  unfold State.judgeInterval
  repeat' first
    | (extract_lets +onlyGivenNames x; first | (refine Kept.aside (μ := μ) (s₀ := s₀) (x := x) ?_ ?_; clear_value x; revert x; refine Kept.hold ?_; intro x hx; rotate_left; subst x) | skip)
    | with_reducible first | assumption | apply Kept.ite
    | with_reducible intro _ _ _
    | with_reducible intro _ _
    | with_reducible intro _
    | with_reducible (apply kept_mk; assumption)
    | with_reducible first | apply acsnsLock_kept | apply acsnsUnlock_kept | apply returnInterval_kept | apply set_kept
                           | apply when_kept
    | split

theorem execAcsnsEdge_kept {dt : Nat} {s : State} (h : Kept μ s₀ s) :
    OutKept μ s₀ (execAcsnsEdge dt s) := by
  unfold execAcsnsEdge
  repeat' first
    | (extract_lets +onlyGivenNames x; first | (refine Kept.aside (μ := μ) (s₀ := s₀) (x := x) ?_ ?_; clear_value x; revert x; refine Kept.hold ?_; intro x hx; rotate_left; subst x) | skip)
    | with_reducible first | assumption | apply Kept.ite | apply OutKept.ite
    | with_reducible intro _ _ _
    | with_reducible intro _ _
    | with_reducible intro _
    | split
    | with_reducible (apply kept_mk; assumption)
    | with_reducible first | apply advanceTo_kept | apply arm_kept | apply armMainsLoss_kept | apply judgeInterval_kept
                           | apply when_kept | apply OutKept.next
    | (clear_value *; split)

theorem execMainsLoss_kept {s : State} (h : Kept μ s₀ s) :
    OutKept μ s₀ (execMainsLoss s) := by
  unfold execMainsLoss
  repeat' first
    | (extract_lets +onlyGivenNames x; first | (refine Kept.aside (μ := μ) (s₀ := s₀) (x := x) ?_ ?_; clear_value x; revert x; refine Kept.hold ?_; intro x hx; rotate_left; subst x) | skip)
    | with_reducible first | assumption | apply Kept.ite | apply OutKept.ite
    | with_reducible intro _ _ _
    | with_reducible intro _ _
    | with_reducible intro _
    | with_reducible (apply kept_mk; assumption)
    | with_reducible first | apply classify_kept | apply flag_kept | apply onElapse_kept | apply put_kept | apply warn_kept | apply OutKept.next
    | split

theorem execAcsnsLockTimeout_kept {s : State} (h : Kept μ s₀ s) :
    OutKept μ s₀ (execAcsnsLockTimeout s) := by
  unfold execAcsnsLockTimeout
  repeat' first
    | with_reducible first | assumption | apply Kept.ite | apply OutKept.ite
    | with_reducible intro _ _ _
    | with_reducible intro _ _
    | with_reducible intro _
    | with_reducible first | apply acsnsLock_kept | apply onElapse_kept | apply warn_kept | apply OutKept.next
    | split

theorem supplyReturns_kept {s : State} (h : Kept true s₀ s) :
    Kept true s₀ (State.supplyReturns s) := by
  unfold State.supplyReturns
  repeat' first
    | (extract_lets +onlyGivenNames x; first | (refine Kept.aside (μ := true) (s₀ := s₀) (x := x) ?_ ?_; clear_value x; revert x; refine Kept.hold ?_; intro x hx; rotate_left; subst x) | skip)
    | with_reducible first | assumption | apply Kept.ite
    | with_reducible intro _ _ _
    | with_reducible intro _ _
    | with_reducible intro _
    | with_reducible (apply kept_mk; assumption)
    | with_reducible first | apply disarm_kept | apply gateCheck_kept | apply transition_kept | apply tryPowerUp_kept
                           | apply tryT5_kept | apply upStepCheck_kept
    | split

theorem execMainsReturnTimeout_kept {s : State} (h : Kept true s₀ s) :
    OutKept true s₀ (execMainsReturnTimeout s) := by
  unfold execMainsReturnTimeout
  repeat' first
    | (extract_lets +onlyGivenNames x; first | (refine Kept.aside (μ := true) (s₀ := s₀) (x := x) ?_ ?_; clear_value x; revert x; refine Kept.hold ?_; intro x hx; rotate_left; subst x) | skip)
    | with_reducible first | assumption | apply Kept.ite | apply OutKept.ite
    | with_reducible intro _ _ _
    | with_reducible intro _ _
    | with_reducible intro _
    | with_reducible (apply kept_mk; assumption)
    | with_reducible first | apply onElapse_kept | apply raise_kept | apply supplyReturns_kept | apply when_kept
                           | apply OutKept.next
    | split

theorem requestAutumn_kept {s : State} {cause : Nat} (h : Kept μ s₀ s) :
    Kept μ s₀ (State.requestAutumn s cause) := by
  unfold State.requestAutumn
  repeat' first
    | (extract_lets +onlyGivenNames x; first | (refine Kept.aside (μ := μ) (s₀ := s₀) (x := x) ?_ ?_; clear_value x; revert x; refine Kept.hold ?_; intro x hx; rotate_left; subst x) | skip)
    | with_reducible first | assumption | apply Kept.ite
    | with_reducible intro _ _ _
    | with_reducible intro _ _
    | with_reducible intro _
    | with_reducible (apply kept_mk; assumption)
    | with_reducible first | apply abandonHandover_kept | apply arm_kept | apply transition_kept | apply when_kept
    | split

theorem shedUpTo_kept {s : State} {p : Nat} (h : Kept μ s₀ s) :
    Kept μ s₀ (State.shedUpTo s p) := by
  unfold State.shedUpTo
  repeat' first
    | with_reducible first | assumption | apply Kept.ite
    | with_reducible intro _ _ _
    | with_reducible intro _ _
    | with_reducible intro _
    | with_reducible first | apply forAll_kept | apply shed_kept
    | split

theorem countBus_kept {s : State} {v : Nat} (h : Kept μ s₀ s) :
    Kept μ s₀ (State.countBus s v) := by
  unfold State.countBus
  repeat' first
    | (extract_lets +onlyGivenNames x; first | (refine Kept.aside (μ := μ) (s₀ := s₀) (x := x) ?_ ?_; clear_value x; revert x; refine Kept.hold ?_; intro x hx; rotate_left; subst x) | skip)
    | with_reducible first | assumption
    | with_reducible intro _ _ _
    | with_reducible intro _ _
    | with_reducible intro _
    | with_reducible (apply kept_mk; assumption)

theorem armBus_kept {s : State} {v : Nat} (h : Kept μ s₀ s) :
    Kept μ s₀ (State.armBus s v) := by
  unfold State.armBus
  repeat' first
    | (extract_lets +onlyGivenNames x; first | (refine Kept.aside (μ := μ) (s₀ := s₀) (x := x) ?_ ?_; clear_value x; revert x; refine Kept.hold ?_; intro x hx; rotate_left; subst x) | skip)
    | with_reducible first | assumption | apply Kept.ite
    | with_reducible intro _ _ _
    | with_reducible intro _ _
    | with_reducible intro _
    | with_reducible first | apply acsnsLock_kept | apply arm_kept | apply put_kept | apply tryPowerUp_kept
                           | apply when_kept
    | split

theorem judgeCommit_kept {s : State} (h : Kept μ s₀ s) :
    Kept μ s₀ (State.judgeCommit s) := by
  unfold State.judgeCommit
  repeat' first
    | with_reducible first | assumption | apply Kept.ite
    | with_reducible intro _
    | with_reducible first | apply commit_kept | apply requestAutumn_kept
    | split

theorem judgeSag_kept {s : State} (h : Kept μ s₀ s) :
    Kept μ s₀ (State.judgeSag s) := by
  unfold State.judgeSag
  repeat' first
    | with_reducible first | assumption | apply Kept.ite
    | with_reducible intro _
    | with_reducible first | apply flag_kept | apply requestAutumn_kept | apply warn_kept
    | split

theorem judgeMains_kept {s : State} {edge : Bool} (h : Kept μ s₀ s) :
    Kept μ s₀ (State.judgeMains s edge) := by
  unfold State.judgeMains
  repeat' first
    | (extract_lets +onlyGivenNames x; first | (refine Kept.aside (μ := μ) (s₀ := s₀) (x := x) ?_ ?_; clear_value x; revert x; refine Kept.hold ?_; intro x hx; rotate_left; subst x) | skip)
    | with_reducible first | assumption | apply Kept.ite
    | with_reducible intro _ _ _
    | with_reducible intro _ _
    | with_reducible intro _
    | with_reducible first | apply requestAutumn_kept | apply shedUpTo_kept | apply when_kept
    | split

theorem busActs_kept {s : State} {edge : Bool} (h : Kept μ s₀ s) :
    Kept μ s₀ (State.busActs s edge) := by
  unfold State.busActs
  repeat' first
    | (extract_lets +onlyGivenNames x; first | (refine Kept.aside (μ := μ) (s₀ := s₀) (x := x) ?_ ?_; clear_value x; revert x; refine Kept.hold ?_; intro x hx; rotate_left; subst x) | skip)
    | with_reducible first | assumption
    | with_reducible intro _ _ _
    | with_reducible intro _ _
    | with_reducible intro _
    | with_reducible first | apply forAll_kept | apply judgeCommit_kept | apply judgeMains_kept | apply judgeSag_kept
                           | apply shedUpTo_kept | apply when_kept

theorem trackReturn_kept {s : State} {v : Nat} (h : Kept μ s₀ s) :
    Kept μ s₀ (State.trackReturn s v) := by
  unfold State.trackReturn
  repeat' first
    | (extract_lets +onlyGivenNames x; first | (refine Kept.aside (μ := μ) (s₀ := s₀) (x := x) ?_ ?_; clear_value x; revert x; refine Kept.hold ?_; intro x hx; rotate_left; subst x) | skip)
    | with_reducible first | assumption | apply Kept.ite
    | with_reducible intro _ _ _
    | with_reducible intro _ _
    | with_reducible intro _
    | with_reducible (apply kept_mk; assumption)
    | with_reducible first | apply arm_kept | apply when_kept
    | split

theorem judgeReturn_kept {s : State} (h : Kept true s₀ s) :
    Kept true s₀ (State.judgeReturn s) := by
  unfold State.judgeReturn
  repeat' first
    | with_reducible first | assumption | apply Kept.ite
    | with_reducible intro _
    | with_reducible first | apply supplyReturns_kept
    | split

theorem enterDropout_kept {s : State} (h : Kept μ s₀ s) :
    Kept μ s₀ (State.enterDropout s) := by
  unfold State.enterDropout
  repeat' first
    | with_reducible first | assumption | apply Kept.ite
    | with_reducible intro _
    | with_reducible first | apply classify_kept | apply put_kept
    | split

theorem releaseBus_kept {s : State} {v : Nat} (h : Kept μ s₀ s) :
    Kept μ s₀ (State.releaseBus s v) := by
  unfold State.releaseBus
  repeat' first
    | (extract_lets +onlyGivenNames x; first | (refine Kept.aside (μ := μ) (s₀ := s₀) (x := x) ?_ ?_; clear_value x; revert x; refine Kept.hold ?_; intro x hx; rotate_left; subst x) | skip)
    | with_reducible first | assumption | apply Kept.ite
    | with_reducible intro _
    | split
    | with_reducible (apply kept_mk; assumption)
    | with_reducible first | apply disarm_kept | apply enterDropout_kept | apply put_kept
    | (clear_value *; split)

theorem seeUvlo_kept {s : State} {v : Nat} (h : Kept μ s₀ s) :
    Kept μ s₀ (State.seeUvlo s v) := by
  unfold State.seeUvlo
  repeat' first
    | (extract_lets +onlyGivenNames x; first | (refine Kept.aside (μ := μ) (s₀ := s₀) (x := x) ?_ ?_; clear_value x; revert x; refine Kept.hold ?_; intro x hx; rotate_left; subst x) | skip)
    | with_reducible first | assumption | apply Kept.ite
    | with_reducible intro _
    | with_reducible (apply kept_mk; assumption)
    | split

theorem execBusJudgement_kept {s : State} (h : Kept true s₀ s) :
    OutKept true s₀ (execBusJudgement s) := by
  unfold execBusJudgement
  repeat' first
    | (extract_lets +onlyGivenNames x; first | (refine Kept.aside (μ := true) (s₀ := s₀) (x := x) ?_ ?_; clear_value x; revert x; refine Kept.hold ?_; intro x hx; rotate_left; subst x) | skip)
    | with_reducible first | assumption
    | with_reducible intro _ _ _
    | with_reducible intro _ _
    | with_reducible intro _
    | with_reducible (apply kept_mk; assumption)
    | with_reducible first | apply armBus_kept | apply busActs_kept | apply countBus_kept | apply judgeReturn_kept
                           | apply releaseBus_kept | apply seeUvlo_kept | apply set_kept | apply trackReturn_kept
                           | apply when_kept | apply OutKept.next

theorem execRestartWaitElapsed_kept {s : State} (h : Kept true s₀ s) :
    OutKept true s₀ (execRestartWaitElapsed s) := by
  unfold execRestartWaitElapsed
  repeat' first
    | with_reducible first | assumption | apply Kept.ite | apply OutKept.ite
    | with_reducible intro _ _ _
    | with_reducible intro _ _
    | with_reducible intro _
    | with_reducible first | apply internalRestart_kept | apply onElapse_kept | apply OutKept.next
    | split

theorem execVdrvDropout_kept {s : State} (h : Kept μ s₀ s) :
    OutKept μ s₀ (execVdrvDropout s) := by
  unfold execVdrvDropout
  repeat' first
    | with_reducible first | assumption
    | with_reducible first | apply enterDropout_kept | apply OutKept.next

end Sys2Proof.Machine
end

