-- ==== Sys2Proof/Laws/KeptBoot.lean ====
section
/-!
SUPPORT. What every operation keeps (see Kept): the boot, measurement, hub and mailbox families.
-/
set_option linter.tactic.unusedName false
set_option linter.unusedTactic false
set_option linter.unreachableTactic false
namespace Sys2Proof.Machine

variable {s₀ : State} {μ : Bool}

/-! Machine/Boot -/

theorem execPowerOnReset_kept {vislLost : Bool} {s : State} (h : Kept true s₀ s) :
    OutKept true s₀ (execPowerOnReset vislLost s) := by
  unfold execPowerOnReset
  repeat' first
    | (extract_lets +onlyGivenNames x; first | (refine Kept.aside (μ := true) (s₀ := s₀) (x := x) ?_ ?_; clear_value x; revert x; refine Kept.hold ?_; intro x hx; rotate_left; subst x) | skip)
    | with_reducible first | assumption | apply Kept.ite | apply OutKept.ite
    | with_reducible intro _ _ _
    | with_reducible intro _ _
    | with_reducible intro _
    | with_reducible (apply kept_mk; assumption)
    | with_reducible first | apply forAll_kept | apply restartAll_kept | apply set_kept | apply setWord_kept
                           | apply OutKept.next
    | split

theorem execUvloFall_kept {s : State} (h : Kept true s₀ s) :
    OutKept true s₀ (execUvloFall s) := by
  unfold execUvloFall
  repeat' first
    | with_reducible first | assumption
    | with_reducible first | apply supplyLost_kept | apply OutKept.next

theorem execResetInN_kept {s : State} (h : Kept true s₀ s) :
    OutKept true s₀ (execResetInN s) := by
  unfold execResetInN
  repeat' first
    | with_reducible first | assumption
    | with_reducible first | apply endEpoch_kept | apply restartAll_kept | apply setWord_kept | apply OutKept.next

theorem execSupplyStartupStep_kept {s : State} (h : Kept μ s₀ s) :
    OutKept μ s₀ (execSupplyStartupStep s) := by
  unfold execSupplyStartupStep
  repeat' first
    | (extract_lets +onlyGivenNames x; first | (refine Kept.aside (μ := μ) (s₀ := s₀) (x := x) ?_ ?_; clear_value x; revert x; refine Kept.hold ?_; intro x hx; rotate_left; subst x) | skip)
    | with_reducible first | assumption | apply Kept.ite | apply OutKept.ite
    | with_reducible intro _
    | with_reducible (apply kept_mk; assumption)
    | with_reducible first | apply arm_kept | apply OutKept.next
    | split

theorem bootStep_kept {s : State} {n : Nat} (h : Kept μ s₀ s) :
    Kept μ s₀ (State.bootStep s n) := by
  unfold State.bootStep
  repeat' first
    | (extract_lets +onlyGivenNames x; first | (refine Kept.aside (μ := μ) (s₀ := s₀) (x := x) ?_ ?_; clear_value x; revert x; refine Kept.hold ?_; intro x hx; rotate_left; subst x) | skip)
    | with_reducible first | assumption
    | with_reducible (apply kept_mk; assumption)

theorem execStrapLatch_kept {a0 : BitVec 3} {a1 : BitVec 3} {a2 : BitVec 3} {c0 : BitVec 3} {c1 : BitVec 3} {test : BitVec 3}
    {s : State} (h : Kept μ s₀ s) :
    OutKept μ s₀ (execStrapLatch a0 a1 a2 c0 c1 test s) := by
  unfold execStrapLatch
  repeat' first
    | (extract_lets +onlyGivenNames x; first | (refine Kept.aside (μ := μ) (s₀ := s₀) (x := x) ?_ ?_; clear_value x; revert x; refine Kept.hold ?_; intro x hx; rotate_left; subst x) | skip)
    | with_reducible first | assumption | apply Kept.ite | apply OutKept.ite
    | with_reducible intro _ _ _
    | with_reducible intro _ _
    | with_reducible intro _
    | with_reducible (apply kept_mk; assumption)
    | with_reducible first | apply find_kept | apply put_kept | apply set_kept | apply setWord_kept | apply when_kept
                           | apply OutKept.next
    | split

theorem execClockCheckTimeout_kept {xtalOk : Bool} {s : State} (h : Kept μ s₀ s) :
    OutKept μ s₀ (execClockCheckTimeout xtalOk s) := by
  unfold execClockCheckTimeout
  repeat' first
    | with_reducible first | assumption | apply Kept.ite | apply OutKept.ite
    | with_reducible intro _ _ _
    | with_reducible intro _ _
    | with_reducible intro _
    | with_reducible first | apply onElapse_kept | apply trip_kept | apply OutKept.next
    | split

theorem execRootLock_kept {selftestOk : Bool} {s : State} (h : Kept μ s₀ s) :
    OutKept μ s₀ (execRootLock selftestOk s) := by
  unfold execRootLock
  repeat' first
    | (extract_lets +onlyGivenNames x; first | (refine Kept.aside (μ := μ) (s₀ := s₀) (x := x) ?_ ?_; clear_value x; revert x; refine Kept.hold ?_; intro x hx; rotate_left; subst x) | skip)
    | with_reducible first | assumption | apply Kept.ite | apply OutKept.ite
    | with_reducible intro _
    | with_reducible (apply kept_mk; assumption)
    | with_reducible first | apply bootStep_kept | apply disarm_kept | apply put_kept | apply trip_kept | apply OutKept.next
    | split

theorem showOtp_kept {s : State} (h : Kept μ s₀ s) :
    Kept μ s₀ (State.showOtp s) := by
  unfold State.showOtp
  repeat' first
    | (extract_lets +onlyGivenNames x; first | (refine Kept.aside (μ := μ) (s₀ := s₀) (x := x) ?_ ?_; clear_value x; revert x; refine Kept.hold ?_; intro x hx; rotate_left; subst x) | skip)
    | with_reducible first | assumption
    | with_reducible first | apply put_kept | apply set_kept

theorem takeOtp_kept {s : State} {reads : List (Nat × Word × Word × Word)} (h : Kept μ s₀ s) :
    Kept μ s₀ (State.takeOtp s reads) := by
  unfold State.takeOtp
  repeat' first
    | (extract_lets +onlyGivenNames x; first | (refine Kept.aside (μ := μ) (s₀ := s₀) (x := x) ?_ ?_; clear_value x; revert x; refine Kept.hold ?_; intro x hx; rotate_left; subst x) | skip)
    | with_reducible first | assumption
    | with_reducible intro _ _ _
    | with_reducible intro _ _
    | with_reducible intro _
    | with_reducible (apply kept_mk; assumption)
    | with_reducible first | apply foldl_kept
    | with_reducible first | apply foldl2_kept

theorem loadTrim_kept {s : State} (h : Kept μ s₀ s) :
    Kept μ s₀ (State.loadTrim s) := by
  unfold State.loadTrim
  repeat' first
    | with_reducible first | assumption
    | with_reducible intro _ _ _
    | with_reducible intro _ _
    | with_reducible intro _
    | with_reducible first | apply forAll_kept | apply set_kept

theorem toRecovery_kept {s : State} (h : Kept μ s₀ s) :
    Kept μ s₀ (State.toRecovery s) := by
  unfold State.toRecovery
  repeat' first
    | (extract_lets +onlyGivenNames x; first | (refine Kept.aside (μ := μ) (s₀ := s₀) (x := x) ?_ ?_; clear_value x; revert x; refine Kept.hold ?_; intro x hx; rotate_left; subst x) | skip)
    | with_reducible first | assumption
    | with_reducible (apply kept_mk; assumption)
    | with_reducible first | apply disarm_kept | apply set_kept | apply transition_kept

theorem toFactory_kept {s : State} (h : Kept μ s₀ s) :
    Kept μ s₀ (State.toFactory s) := by
  unfold State.toFactory
  repeat' first
    | (extract_lets +onlyGivenNames x; first | (refine Kept.aside (μ := μ) (s₀ := s₀) (x := x) ?_ ?_; clear_value x; revert x; refine Kept.hold ?_; intro x hx; rotate_left; subst x) | skip)
    | with_reducible first | assumption
    | with_reducible (apply kept_mk; assumption)
    | with_reducible first | apply disarm_kept | apply set_kept | apply transition_kept

theorem execOtpBootRead_kept {reads : List (Nat × Word × Word × Word)} {s : State} (h : Kept μ s₀ s) :
    OutKept μ s₀ (execOtpBootRead reads s) := by
  unfold execOtpBootRead
  repeat' first
    | (extract_lets +onlyGivenNames x; first | (refine Kept.aside (μ := μ) (s₀ := s₀) (x := x) ?_ ?_; clear_value x; revert x; refine Kept.hold ?_; intro x hx; rotate_left; subst x) | skip)
    | with_reducible first | assumption | apply Kept.ite | apply OutKept.ite
    | with_reducible intro _ _ _
    | with_reducible intro _ _
    | with_reducible intro _
    | with_reducible (apply kept_mk; assumption)
    | with_reducible first | apply arm_kept | apply bootStep_kept | apply find_kept | apply loadTrim_kept | apply put_kept
                           | apply set_kept | apply showOtp_kept | apply takeOtp_kept | apply toFactory_kept
                           | apply toRecovery_kept | apply OutKept.next
    | split

theorem execSlotTableRead_kept {sfdpOk : Bool} {mbit : Nat} {s : State} (h : Kept μ s₀ s) :
    OutKept μ s₀ (execSlotTableRead sfdpOk mbit s) := by
  unfold execSlotTableRead
  repeat' first
    | (extract_lets +onlyGivenNames x; first | (refine Kept.aside (μ := μ) (s₀ := s₀) (x := x) ?_ ?_; clear_value x; revert x; refine Kept.hold ?_; intro x hx; rotate_left; subst x) | skip)
    | with_reducible first | assumption | apply Kept.ite | apply OutKept.ite
    | with_reducible intro _ _ _
    | with_reducible intro _ _
    | with_reducible intro _
    | split
    | with_reducible (apply kept_mk; assumption)
    | with_reducible first | apply bootStep_kept | apply find_kept | apply toRecovery_kept | apply when_kept
                           | apply OutKept.next
    | (clear_value *; split)

theorem noteTried_kept {s : State} {t : Tried} (h : Kept μ s₀ s) :
    Kept μ s₀ (State.noteTried s t) := by
  unfold State.noteTried
  repeat' first
    | (extract_lets +onlyGivenNames x; first | (refine Kept.aside (μ := μ) (s₀ := s₀) (x := x) ?_ ?_; clear_value x; revert x; refine Kept.hold ?_; intro x hx; rotate_left; subst x) | skip)
    | with_reducible first | assumption
    | with_reducible intro _ _ _
    | with_reducible intro _ _
    | with_reducible intro _
    | with_reducible (apply kept_mk; assumption)
    | with_reducible first | apply find_kept | apply when_kept

theorem fwBoots_kept {s : State} {slot : Nat} (h : Kept true s₀ s) :
    Kept true s₀ (State.fwBoots s slot) := by
  unfold State.fwBoots
  repeat' first
    | (extract_lets +onlyGivenNames x; first | (refine Kept.aside (μ := true) (s₀ := s₀) (x := x) ?_ ?_; clear_value x; revert x; refine Kept.hold ?_; intro x hx; rotate_left; subst x) | skip)
    | with_reducible first | assumption
    | with_reducible (apply kept_mk; assumption)
    | with_reducible first | apply bootStep_kept | apply loadBoot_kept | apply set_kept

theorem execFirmwareSlotVerify_kept {readErr : Nat} {s : State} (h : Kept true s₀ s) :
    OutKept true s₀ (execFirmwareSlotVerify readErr s) := by
  unfold execFirmwareSlotVerify
  repeat' first
    | (extract_lets +onlyGivenNames x; first | (refine Kept.aside (μ := true) (s₀ := s₀) (x := x) ?_ ?_; clear_value x; revert x; refine Kept.hold ?_; intro x hx; rotate_left; subst x) | skip)
    | with_reducible first | assumption | apply Kept.ite | apply OutKept.ite
    | with_reducible intro _ _ _
    | with_reducible intro _ _
    | with_reducible intro _
    | with_reducible (apply kept_mk; assumption)
    | with_reducible first | apply find_kept | apply fwBoots_kept | apply modTab_kept | apply noteTried_kept
                           | apply toRecovery_kept | apply when_kept | apply OutKept.next
    | split

theorem leaveRom_kept {s : State} {d : DevState} {n : Nat} (h : Kept true s₀ s) :
    Kept true s₀ (State.leaveRom s d n) := by
  unfold State.leaveRom
  repeat' first
    | (extract_lets +onlyGivenNames x; first | (refine Kept.aside (μ := true) (s₀ := s₀) (x := x) ?_ ?_; clear_value x; revert x; refine Kept.hold ?_; intro x hx; rotate_left; subst x) | skip)
    | with_reducible first | assumption | apply Kept.ite
    | with_reducible intro _ _ _
    | with_reducible intro _ _
    | with_reducible intro _
    | split
    | with_reducible (apply kept_mk; assumption)
    | with_reducible first | apply arm_kept | apply bootStep_kept | apply disarm_kept | apply dueLife_kept | apply find_kept
                           | apply foldl_kept | apply lifeErase_kept | apply set_kept | apply transition_kept
                           | apply when_kept
    | with_reducible first | apply foldl2_kept
    | (clear_value *; split)

theorem execRomBootGuardJudge_kept {s : State} (h : Kept true s₀ s) :
    OutKept true s₀ (execRomBootGuardJudge s) := by
  unfold execRomBootGuardJudge
  repeat' first
    | with_reducible first | assumption | apply Kept.ite | apply OutKept.ite
    | with_reducible intro _
    | with_reducible first | apply disarm_kept | apply leaveRom_kept | apply OutKept.next
    | split

theorem bankWf_applyWord (u : Units) (m : Bank Word) (a : Nat) (w : Word) (h : bankWf regReset m = true) :
    bankWf regReset (applyWord u m a w) = true := by
  unfold applyWord
  split
  · exact h
  · split
    · exact h
    · exact bankWf_write _ _ _ _ h
theorem bankWf_applyRegs (u : Units) (rs : List Rec) (m : Bank Word) (h : bankWf regReset m = true) :
    bankWf regReset (applyRegs u rs m) = true :=
  bankWf_foldl _ _ (fun _ _ hm => bankWf_foldl _ _ (fun _ _ hm => bankWf_applyWord _ _ _ _ hm) _ _ hm) _ _ h
theorem applyImage_kept {s : State} {u : Units} {rs : List Rec} (h : Kept μ s₀ s) : Kept μ s₀ (s.applyImage u rs) := by
  unfold State.applyImage
  exact forAll_kept (fun _ _ ht => setWord_kept ht) _
    (applySched_kept (Kept.regs h rfl (bankWf_applyRegs u rs s.regs) rfl rfl rfl rfl rfl))

theorem armSpringLimit_kept {s : State} (h : Kept μ s₀ s) :
    Kept μ s₀ (State.armSpringLimit s) := by
  unfold State.armSpringLimit
  repeat' first
    | (extract_lets +onlyGivenNames x; first | (refine Kept.aside (μ := μ) (s₀ := s₀) (x := x) ?_ ?_; clear_value x; revert x; refine Kept.hold ?_; intro x hx; rotate_left; subst x) | skip)
    | with_reducible first | assumption | apply Kept.ite
    | with_reducible intro _
    | with_reducible (apply kept_mk; assumption)
    | with_reducible first | apply disarm_kept
    | split

theorem tryCfg_kept {s : State} {slot : Nat} {err : Bool} (h : Kept μ s₀ s) :
    Kept μ s₀ (State.tryCfg s slot err).2 := by
  unfold State.tryCfg
  repeat' first
    | (extract_lets +onlyGivenNames x; first | (refine Kept.aside (μ := μ) (s₀ := s₀) (x := x) ?_ ?_; clear_value x; revert x; refine Kept.hold ?_; intro x hx; rotate_left; subst x) | (refine Kept.aside2 (μ := μ) (s₀ := s₀) (x := x) ?_ ?_; clear_value x; revert x; refine Kept.hold ?_; intro x hx; rotate_left; subst x) | skip)
    | with_reducible first | assumption | apply Kept.ite
    | with_reducible intro _
    | dsimp only
    | split
    | with_reducible (apply kept_mk; assumption)
    | with_reducible first | apply noteTried_kept | apply set_kept

theorem useCfg_kept {s : State} {slot : Nat} (h : Kept μ s₀ s) :
    Kept μ s₀ (State.useCfg s slot) := by
  unfold State.useCfg
  repeat' first
    | (extract_lets +onlyGivenNames x; first | (refine Kept.aside (μ := μ) (s₀ := s₀) (x := x) ?_ ?_; clear_value x; revert x; refine Kept.hold ?_; intro x hx; rotate_left; subst x) | skip)
    | with_reducible first | assumption
    | with_reducible (apply kept_mk; assumption)
    | with_reducible first | apply applyImage_kept | apply set_kept

theorem reportBoot_kept {s : State} (h : Kept μ s₀ s) :
    Kept μ s₀ (State.reportBoot s) := by
  unfold State.reportBoot
  repeat' first
    | (extract_lets +onlyGivenNames x; first | (refine Kept.aside (μ := μ) (s₀ := s₀) (x := x) ?_ ?_; clear_value x; revert x; refine Kept.hold ?_; intro x hx; rotate_left; subst x) | skip)
    | with_reducible first | assumption
    | with_reducible intro _ _ _
    | with_reducible intro _ _
    | with_reducible intro _
    | with_reducible (apply kept_mk; assumption)
    | with_reducible first | apply forAll_kept | apply post_kept | apply postRejected_kept | apply raise_kept
                           | apply warn_kept | apply when_kept

theorem execConfigRead_kept {errA : Bool} {errB : Bool} {s : State} (h : Kept μ s₀ s) :
    OutKept μ s₀ (execConfigRead errA errB s) := by
  unfold execConfigRead
  repeat' first
    | (extract_lets +onlyGivenNames x; first | (refine Kept.aside (μ := μ) (s₀ := s₀) (x := x) ?_ ?_; clear_value x; revert x; refine Kept.hold ?_; intro x hx; rotate_left; subst x) | (refine Kept.aside2 (μ := μ) (s₀ := s₀) (x := x) ?_ ?_; clear_value x; revert x; refine Kept.hold ?_; intro x hx; rotate_left; subst x) | skip)
    | with_reducible first | assumption | apply Kept.ite | apply OutKept.ite
    | with_reducible intro _ _ _
    | with_reducible intro _ _
    | with_reducible intro _
    | dsimp only
    | split
    | with_reducible (apply kept_mk; assumption)
    | with_reducible first | apply applyImage_kept | apply armSpringLimit_kept | apply bootStep_kept | apply find_kept
                           | apply modTab_kept | apply put_kept | apply reportBoot_kept | apply useCfg_kept
                           | apply when_kept | apply OutKept.next
    | with_reducible first | apply tryCfg_kept

theorem loadEngine_kept {s : State} {base e : Nat} (h : Kept true s₀ s) : Kept true s₀ (s.loadEngine base e) := by
  unfold State.loadEngine
  extract_lets x zero data t m m'
  have ht : Kept true s₀ t := storeCode_kept h
  exact Kept.engMem ht rfl rfl rfl rfl rfl (fun w => bankWf_foldl _ _ (fun _ _ hm => bankWf_writeList _ _ _ _ hm) _ _
    (bankWf_writeList _ _ _ _ (bankWf_clear _ _ _ _ w))) rfl

theorem sealBuiltin_kept {s : State} (h : Kept μ s₀ s) :
    Kept μ s₀ (State.sealBuiltin s) := by
  unfold State.sealBuiltin
  repeat' first
    | (extract_lets +onlyGivenNames x; first | (refine Kept.aside (μ := μ) (s₀ := s₀) (x := x) ?_ ?_; clear_value x; revert x; refine Kept.hold ?_; intro x hx; rotate_left; subst x) | skip)
    | with_reducible first | assumption
    | with_reducible (apply kept_mk; assumption)
    | with_reducible first | apply resetSealed_kept | apply seal_kept

theorem loadAll_kept {s : State} (h : Kept true s₀ s) :
    Kept true s₀ (State.loadAll s) := by
  unfold State.loadAll
  repeat' first
    | (extract_lets +onlyGivenNames x; first | (refine Kept.aside (μ := true) (s₀ := s₀) (x := x) ?_ ?_; clear_value x; revert x; refine Kept.hold ?_; intro x hx; rotate_left; subst x) | skip)
    | with_reducible first | assumption
    | with_reducible intro _ _ _
    | with_reducible intro _ _
    | with_reducible intro _
    | with_reducible (apply kept_mk; assumption)
    | with_reducible first | apply foldl_kept | apply forAll_kept | apply loadEngine_kept | apply loadSection0_kept
                           | apply when_kept
    | with_reducible first | apply foldl2_kept

theorem engineFails_kept {s : State} {e : Nat} (h : Kept μ s₀ s) :
    Kept μ s₀ (State.engineFails s e) := by
  unfold State.engineFails
  repeat' first
    | (extract_lets +onlyGivenNames x; first | (refine Kept.aside (μ := μ) (s₀ := s₀) (x := x) ?_ ?_; clear_value x; revert x; refine Kept.hold ?_; intro x hx; rotate_left; subst x) | skip)
    | with_reducible first | assumption
    | with_reducible intro _ _ _
    | with_reducible intro _ _
    | with_reducible intro _
    | with_reducible first | apply modTab_kept | apply put_kept | apply sealBuiltin_kept | apply set_kept

theorem execEngineLoad_kept {s : State} (h : Kept true s₀ s) :
    OutKept true s₀ (execEngineLoad s) := by
  unfold execEngineLoad
  repeat' first
    | (extract_lets +onlyGivenNames x; first | (refine Kept.aside (μ := true) (s₀ := s₀) (x := x) ?_ ?_; clear_value x; revert x; refine Kept.hold ?_; intro x hx; rotate_left; subst x) | skip)
    | with_reducible first | assumption | apply Kept.ite | apply OutKept.ite
    | with_reducible intro _ _ _
    | with_reducible intro _ _
    | with_reducible intro _
    | split
    | with_reducible (apply kept_mk; assumption)
    | with_reducible first | apply bootStep_kept | apply engineFails_kept | apply find_kept | apply loadAll_kept
                           | apply raise_kept | apply startPort9_kept | apply when_kept | apply OutKept.next
    | (clear_value *; split)

theorem execProtectionSetup_kept {readBackOk : Bool} {followWinter : Bool} {followIsl : Bool} {s : State} (h : Kept μ s₀ s) :
    OutKept μ s₀ (execProtectionSetup readBackOk followWinter followIsl s) := by
  unfold execProtectionSetup
  repeat' first
    | (extract_lets +onlyGivenNames x; first | (refine Kept.aside (μ := μ) (s₀ := s₀) (x := x) ?_ ?_; clear_value x; revert x; refine Kept.hold ?_; intro x hx; rotate_left; subst x) | skip)
    | with_reducible first | assumption | apply Kept.ite | apply OutKept.ite
    | with_reducible intro _ _ _
    | with_reducible intro _ _
    | with_reducible intro _
    | with_reducible (apply kept_mk; assumption)
    | with_reducible first | apply bootStep_kept | apply judgeVbus_kept | apply put_kept | apply raise_kept
                           | apply requestSwap_kept | apply resetSealed_kept | apply seal_kept | apply set_kept
                           | apply tryPowerUp_kept | apply when_kept | apply writeBusThresholds_kept
                           | apply writeSchWord_kept | apply OutKept.next
    | split

theorem execProtSeal_kept {w : Word} {s : State} (h : Kept μ s₀ s) :
    OutKept μ s₀ (execProtSeal w s) := by
  unfold execProtSeal
  repeat' first
    | with_reducible first | assumption | apply Kept.ite | apply OutKept.ite
    | with_reducible intro _
    | with_reducible first | apply judgeVbus_kept | apply seal_kept | apply OutKept.next
    | split

theorem execSlotTableWrite_kept {ok : Bool} {s : State} (h : Kept true s₀ s) :
    OutKept true s₀ (execSlotTableWrite ok s) := by
  unfold execSlotTableWrite
  repeat' first
    | (extract_lets +onlyGivenNames x; first | (refine Kept.aside (μ := true) (s₀ := s₀) (x := x) ?_ ?_; clear_value x; revert x; refine Kept.hold ?_; intro x hx; rotate_left; subst x) | skip)
    | with_reducible first | assumption | apply Kept.ite | apply OutKept.ite
    | with_reducible intro _
    | with_reducible (apply kept_mk; assumption)
    | with_reducible first | apply writeTable_kept | apply OutKept.next
    | split

theorem raiseAll_kept {s : State} (h : Kept μ s₀ s) :
    Kept μ s₀ (State.raiseAll s) := by
  unfold State.raiseAll
  repeat' first
    | with_reducible first | assumption
    | with_reducible intro _ _ _
    | with_reducible intro _ _
    | with_reducible intro _
    | with_reducible first | apply forAll_kept | apply raiseCeil_kept

theorem execLifeRecordAppend_kept {ok : Bool} {s : State} (h : Kept true s₀ s) :
    OutKept true s₀ (execLifeRecordAppend ok s) := by
  unfold execLifeRecordAppend
  repeat' first
    | with_reducible first | assumption | apply Kept.ite | apply OutKept.ite
    | with_reducible intro _ _ _
    | with_reducible intro _ _
    | with_reducible intro _
    | with_reducible first | apply appendLife_kept | apply raiseAll_kept | apply when_kept | apply OutKept.next
    | split

theorem execLifeRecordRetry_kept {ok : Bool} {s : State} (h : Kept true s₀ s) :
    OutKept true s₀ (execLifeRecordRetry ok s) := by
  unfold execLifeRecordRetry
  repeat' first
    | (extract_lets +onlyGivenNames x; first | (refine Kept.aside (μ := true) (s₀ := s₀) (x := x) ?_ ?_; clear_value x; revert x; refine Kept.hold ?_; intro x hx; rotate_left; subst x) | skip)
    | with_reducible first | assumption | apply Kept.ite | apply OutKept.ite
    | with_reducible intro _ _ _
    | with_reducible intro _ _
    | with_reducible intro _
    | with_reducible first | apply appendLife_kept | apply arm_kept | apply onElapse_kept | apply raiseAll_kept
                           | apply when_kept | apply OutKept.next
    | split

theorem execSessionCeilingRaise_kept {session : Nat} {s : State} (h : Kept true s₀ s) :
    OutKept true s₀ (execSessionCeilingRaise session s) := by
  unfold execSessionCeilingRaise
  repeat' first
    | (extract_lets +onlyGivenNames x; first | (refine Kept.aside (μ := true) (s₀ := s₀) (x := x) ?_ ?_; clear_value x; revert x; refine Kept.hold ?_; intro x hx; rotate_left; subst x) | skip)
    | with_reducible first | assumption
    | with_reducible intro _ _ _
    | with_reducible intro _ _
    | with_reducible intro _
    | with_reducible first | apply appendLife_kept | apply raiseCeil_kept | apply when_kept | apply OutKept.next

theorem execLifeHourElapsed_kept {s : State} (h : Kept μ s₀ s) :
    OutKept μ s₀ (execLifeHourElapsed s) := by
  unfold execLifeHourElapsed
  repeat' first
    | with_reducible first | assumption
    | with_reducible intro _ _ _
    | with_reducible intro _ _
    | with_reducible intro _
    | with_reducible first | apply arm_kept | apply dueLife_kept | apply onElapse_kept | apply OutKept.next

theorem execLifeSectorErase_kept {ok : Bool} {s : State} (h : Kept true s₀ s) :
    OutKept true s₀ (execLifeSectorErase ok s) := by
  unfold execLifeSectorErase
  repeat' first
    | (extract_lets +onlyGivenNames x; first | (refine Kept.aside (μ := true) (s₀ := s₀) (x := x) ?_ ?_; clear_value x; revert x; refine Kept.hold ?_; intro x hx; rotate_left; subst x) | skip)
    | with_reducible first | assumption | apply Kept.ite | apply OutKept.ite
    | with_reducible intro _
    | split
    | with_reducible (apply kept_mk; assumption)
    | with_reducible first | apply flashErase_kept | apply lifeErase_kept | apply spoil_kept | apply raise_kept | apply OutKept.next
    | (clear_value *; split)

theorem execSpringLimitExpired_kept {s : State} (h : Kept μ s₀ s) :
    OutKept μ s₀ (execSpringLimitExpired s) := by
  unfold execSpringLimitExpired
  repeat' first
    | with_reducible first | assumption | apply Kept.ite | apply OutKept.ite
    | with_reducible intro _ _ _
    | with_reducible intro _ _
    | with_reducible intro _
    | with_reducible first | apply onElapse_kept | apply raise_kept | apply OutKept.next
    | split

theorem execWinterHoldElapsed_kept {s : State} (h : Kept μ s₀ s) :
    OutKept μ s₀ (execWinterHoldElapsed s) := by
  unfold execWinterHoldElapsed
  repeat' first
    | with_reducible first | assumption | apply Kept.ite | apply OutKept.ite
    | with_reducible intro _ _ _
    | with_reducible intro _ _
    | with_reducible intro _
    | with_reducible first | apply beginRestart_kept | apply onElapse_kept | apply OutKept.next
    | split

theorem execSummerHourElapsed_kept {s : State} (h : Kept μ s₀ s) :
    OutKept μ s₀ (execSummerHourElapsed s) := by
  unfold execSummerHourElapsed
  repeat' first
    | with_reducible first | assumption
    | with_reducible intro _ _ _
    | with_reducible intro _ _
    | with_reducible intro _
    | with_reducible first | apply onElapse_kept | apply set_kept | apply OutKept.next

/-! Machine/Measure -/

theorem capWord_kept {s : State} {w : Nat} (h : Kept μ s₀ s) :
    Kept μ s₀ (State.capWord s w) := by
  unfold State.capWord
  repeat' first
    | (extract_lets +onlyGivenNames x; first | (refine Kept.aside (μ := μ) (s₀ := s₀) (x := x) ?_ ?_; clear_value x; revert x; refine Kept.hold ?_; intro x hx; rotate_left; subst x) | skip)
    | with_reducible first | assumption | apply Kept.ite
    | with_reducible intro _ _ _
    | with_reducible intro _ _
    | with_reducible intro _
    | with_reducible (apply kept_mk; assumption)
    | split

theorem capMarker_kept {s : State} (h : Kept μ s₀ s) :
    Kept μ s₀ (State.capMarker s) := by
  unfold State.capMarker
  repeat' first
    | (extract_lets +onlyGivenNames x; first | (refine Kept.aside (μ := μ) (s₀ := s₀) (x := x) ?_ ?_; clear_value x; revert x; refine Kept.hold ?_; intro x hx; rotate_left; subst x) | skip)
    | with_reducible first | assumption | apply Kept.ite
    | with_reducible intro _
    | with_reducible (apply kept_mk; assumption)
    | with_reducible first | apply capWord_kept
    | split

theorem levelTrigger_kept {s : State} {ch : Nat} {code : Nat} (h : Kept μ s₀ s) :
    Kept μ s₀ (State.levelTrigger s ch code) := by
  unfold State.levelTrigger
  repeat' first
    | (extract_lets +onlyGivenNames x; first | (refine Kept.aside (μ := μ) (s₀ := s₀) (x := x) ?_ ?_; clear_value x; revert x; refine Kept.hold ?_; intro x hx; rotate_left; subst x) | skip)
    | with_reducible first | assumption | apply Kept.ite
    | with_reducible intro _
    | split
    | with_reducible (apply kept_mk; assumption)
    | with_reducible first | apply captureEvent_kept
    | (clear_value *; split)

theorem openFor_kept {s : State} {a : AdcId} {ch : Nat} (h : Kept μ s₀ s) :
    Kept μ s₀ (State.openFor s a ch) := by
  unfold State.openFor
  repeat' first
    | (extract_lets +onlyGivenNames x; first | (refine Kept.aside (μ := μ) (s₀ := s₀) (x := x) ?_ ?_; clear_value x; revert x; refine Kept.hold ?_; intro x hx; rotate_left; subst x) | skip)
    | with_reducible first | assumption | apply Kept.ite
    | with_reducible intro _ _ _
    | with_reducible intro _ _
    | with_reducible intro _
    | with_reducible first | apply ensureWindow_kept | apply forAll_kept
    | split

theorem noteVcsns_kept {s : State} {k : PortId} {safe : Bool} (h : Kept μ s₀ s) :
    Kept μ s₀ (State.noteVcsns s k safe) := by
  unfold State.noteVcsns
  repeat' first
    | with_reducible assumption
    | with_reducible intro _ _ _
    | with_reducible intro _ _
    | with_reducible intro _
    | with_reducible (apply kept_mk; assumption)
    | with_reducible first | apply modBrk_kept | apply modPins_kept

theorem portResult_kept {s : State} {k : PortId} {n : Nat} {code : Nat} (h : Kept μ s₀ s) :
    Kept μ s₀ (State.portResult s k n code) := by
  unfold State.portResult
  repeat' first
    | (extract_lets +onlyGivenNames x; first | (refine Kept.aside (μ := μ) (s₀ := s₀) (x := x) ?_ ?_; clear_value x; revert x; refine Kept.hold ?_; intro x hx; rotate_left; subst x) | skip)
    | with_reducible first | assumption | apply Kept.ite
    | with_reducible intro _ _ _
    | with_reducible intro _ _
    | with_reducible intro _
    | with_reducible first | apply armOnce_kept | apply disarm_kept | apply noteVcsns_kept | apply offsetResult_kept
                           | apply onDropFrame_kept | apply when_kept
    | split

theorem windowBit_kept {s : State} {w : Nat} {b : Bool} (h : Kept μ s₀ s) :
    Kept μ s₀ (State.windowBit s w b) := by
  unfold State.windowBit
  repeat' first
    | with_reducible first | assumption | apply Kept.ite
    | with_reducible intro _
    | with_reducible first | apply putBit_kept
    | split

theorem windowsInside_kept {s : State} {ch : Nat} {code : Nat} (h : Kept μ s₀ s) :
    Kept μ s₀ (State.windowsInside s ch code) := by
  unfold State.windowsInside
  repeat' first
    | with_reducible first | assumption | apply Kept.ite
    | with_reducible intro _ _ _
    | with_reducible intro _ _
    | with_reducible intro _
    | with_reducible first | apply forAll_kept | apply windowBit_kept
    | split

theorem noteVin_kept {s : State} {ch : Nat} {code : Nat} (h : Kept μ s₀ s) :
    Kept μ s₀ (State.noteVin s ch code) := by
  unfold State.noteVin
  repeat' first
    | (extract_lets +onlyGivenNames x; first | (refine Kept.aside (μ := μ) (s₀ := s₀) (x := x) ?_ ?_; clear_value x; revert x; refine Kept.hold ?_; intro x hx; rotate_left; subst x) | skip)
    | with_reducible first | assumption | apply Kept.ite
    | with_reducible intro _
    | with_reducible (apply kept_mk; assumption)
    | split

theorem takeResult_kept {s : State} {a : AdcId} {ch : Nat} {code : Nat} (h : Kept μ s₀ s) :
    Kept μ s₀ (State.takeResult s a ch code) := by
  unfold State.takeResult
  repeat' first
    | (extract_lets +onlyGivenNames x; first | (refine Kept.aside (μ := μ) (s₀ := s₀) (x := x) ?_ ?_; clear_value x; revert x; refine Kept.hold ?_; intro x hx; rotate_left; subst x) | skip)
    | with_reducible first | assumption | apply Kept.ite
    | with_reducible intro _ _ _
    | with_reducible intro _ _
    | with_reducible intro _
    | with_reducible (apply kept_mk; assumption)
    | with_reducible first | apply accumulate_kept | apply forAll_kept | apply levelTrigger_kept | apply noteVin_kept
                           | apply openFor_kept | apply portResult_kept | apply windowsInside_kept
    | split

theorem noteEcc_kept {s : State} {i : Nat} (h : Kept μ s₀ s) :
    Kept μ s₀ (State.noteEcc s i) := by
  unfold State.noteEcc
  repeat' first
    | (extract_lets +onlyGivenNames x; first | (refine Kept.aside (μ := μ) (s₀ := s₀) (x := x) ?_ ?_; clear_value x; revert x; refine Kept.hold ?_; intro x hx; rotate_left; subst x) | skip)
    | with_reducible first | assumption | apply Kept.ite
    | with_reducible intro _
    | with_reducible (apply kept_mk; assumption)
    | split

theorem convert_kept {s : State} {a : AdcId} {pos : Nat} {ecc : Bool} {r : Option (BitVec 14)} (h : Kept μ s₀ s) :
    Kept μ s₀ (State.convert s a pos ecc r) := by
  unfold State.convert
  repeat' first
    | (extract_lets +onlyGivenNames x; first | (refine Kept.aside (μ := μ) (s₀ := s₀) (x := x) ?_ ?_; clear_value x; revert x; refine Kept.hold ?_; intro x hx; rotate_left; subst x) | skip)
    | with_reducible first | assumption | apply Kept.ite
    | with_reducible intro _ _ _
    | with_reducible intro _ _
    | with_reducible intro _
    | split
    | with_reducible (apply kept_mk; assumption)
    | with_reducible first | apply capWord_kept | apply noteEcc_kept | apply takeResult_kept | apply when_kept
    | (clear_value *; split)

theorem execAdcConversion_kept {pos : Nat} {ecc : BitVec 4} {r0 : Option (BitVec 14)} {r1 : Option (BitVec 14)} {r2 : Option
    (BitVec 14)} {r3 : Option (BitVec 14)} {s : State} (h : Kept μ s₀ s) :
    OutKept μ s₀ (execAdcConversion pos ecc r0 r1 r2 r3 s) := by
  unfold execAdcConversion
  repeat' first
    | (extract_lets +onlyGivenNames x; first | (refine Kept.aside (μ := μ) (s₀ := s₀) (x := x) ?_ ?_; clear_value x; revert x; refine Kept.hold ?_; intro x hx; rotate_left; subst x) | skip)
    | with_reducible first | assumption | apply Kept.ite | apply OutKept.ite
    | with_reducible intro _
    | with_reducible first | apply advanceTo_kept | apply capMarker_kept | apply convert_kept | apply OutKept.next
    | split

theorem execFramePlausibility_kept {s : State} (h : Kept μ s₀ s) :
    OutKept μ s₀ (execFramePlausibility s) := by
  unfold execFramePlausibility
  repeat' first
    | (extract_lets +onlyGivenNames x; first | (refine Kept.aside (μ := μ) (s₀ := s₀) (x := x) ?_ ?_; clear_value x; revert x; refine Kept.hold ?_; intro x hx; rotate_left; subst x) | skip)
    | with_reducible first | assumption | apply Kept.ite | apply OutKept.ite
    | with_reducible intro _ _ _
    | with_reducible intro _ _
    | with_reducible intro _
    | with_reducible (apply kept_mk; assumption)
    | with_reducible first | apply classify_kept | apply flag_kept | apply raise_kept | apply when_kept | apply OutKept.next
    | split

theorem checkMeans_kept {s : State} (h : Kept μ s₀ s) :
    Kept μ s₀ (State.checkMeans s).2 := by
  unfold State.checkMeans
  repeat' first
    | (extract_lets +onlyGivenNames x; first | (refine Kept.aside (μ := μ) (s₀ := s₀) (x := x) ?_ ?_; clear_value x; revert x; refine Kept.hold ?_; intro x hx; rotate_left; subst x) | (refine Kept.aside2 (μ := μ) (s₀ := s₀) (x := x) ?_ ?_; clear_value x; revert x; refine Kept.hold ?_; intro x hx; rotate_left; subst x) | skip)
    | with_reducible first | assumption | apply Kept.ite
    | with_reducible intro _ _ _
    | with_reducible intro _ _
    | with_reducible intro _
    | dsimp only
    | split
    | with_reducible (apply kept_mk; assumption)
    | with_reducible first | apply foldl_kept | apply openWindows_kept | apply set_kept
    | with_reducible first | apply foldl2_kept
    | (clear_value *; split)

theorem compareCrc_kept {s : State} (h : Kept μ s₀ s) :
    Kept μ s₀ (State.compareCrc s) := by
  unfold State.compareCrc
  repeat' first
    | (extract_lets +onlyGivenNames x; first | (refine Kept.aside (μ := μ) (s₀ := s₀) (x := x) ?_ ?_; clear_value x; revert x; refine Kept.hold ?_; intro x hx; rotate_left; subst x) | skip)
    | with_reducible first | assumption | apply Kept.ite
    | with_reducible intro _ _ _
    | with_reducible intro _ _
    | with_reducible intro _
    | with_reducible (apply kept_mk; assumption)
    | with_reducible first | apply classify_kept | apply set_kept | apply when_kept
    | split

theorem senseMeans_kept {s : State} (h : Kept μ s₀ s) :
    Kept μ s₀ (State.senseMeans s) := by
  unfold State.senseMeans
  repeat' first
    | (extract_lets +onlyGivenNames x; first | (refine Kept.aside (μ := μ) (s₀ := s₀) (x := x) ?_ ?_; clear_value x; revert x; refine Kept.hold ?_; intro x hx; rotate_left; subst x) | skip)
    | with_reducible first | assumption
    | with_reducible intro _ _ _
    | with_reducible intro _ _
    | with_reducible intro _
    | split
    | with_reducible (apply kept_mk; assumption)
    | with_reducible first | apply forAll_kept | apply openWindows_kept | apply set_kept

theorem execSuperframeChecks_kept {outside : BitVec 64} {s : State} (h : Kept μ s₀ s) :
    OutKept μ s₀ (execSuperframeChecks outside s) := by
  unfold execSuperframeChecks
  repeat' first
    | (extract_lets +onlyGivenNames x; first | (refine Kept.aside (μ := μ) (s₀ := s₀) (x := x) ?_ ?_; clear_value x; revert x; refine Kept.hold ?_; intro x hx; rotate_left; subst x) | (refine Kept.aside2 (μ := μ) (s₀ := s₀) (x := x) ?_ ?_; clear_value x; revert x; refine Kept.hold ?_; intro x hx; rotate_left; subst x) | skip)
    | with_reducible first | assumption
    | with_reducible intro _ _ _
    | with_reducible intro _ _
    | with_reducible intro _
    | dsimp only
    | with_reducible (apply kept_mk; assumption)
    | with_reducible first | apply classify_kept | apply compareCrc_kept | apply dropTerm_kept | apply flag_kept
                           | apply forAll_kept | apply senseMeans_kept | apply set_kept | apply when_kept
                           | apply OutKept.next
    | with_reducible first | apply checkMeans_kept

theorem execSchDataWrite_kept {w : Word} {s : State} (h : Kept μ s₀ s) :
    OutKept μ s₀ (execSchDataWrite w s) := by
  unfold execSchDataWrite
  repeat' first
    | with_reducible first | assumption
    | with_reducible intro _ _ _
    | with_reducible intro _ _
    | with_reducible intro _
    | with_reducible first | apply storeEntry_kept | apply writeSchWord_kept | apply OutKept.next

theorem execSchDataRead_kept {s : State} (h : Kept μ s₀ s) :
    OutKept μ s₀ (execSchDataRead s) := by
  unfold execSchDataRead
  repeat' first
    | with_reducible first | assumption
    | with_reducible first | apply set_kept | apply OutKept.next

theorem execSchSwapReq_kept {s : State} (h : Kept μ s₀ s) :
    OutKept μ s₀ (execSchSwapReq s) := by
  unfold execSchSwapReq
  repeat' first
    | with_reducible first | assumption
    | with_reducible first | apply requestSwap_kept | apply OutKept.next

theorem refuseSwap_kept {s : State} {result : Nat} {chan : Nat} {frame : Nat} {index : Nat} {code : Nat} (h : Kept μ s₀ s) :
    Kept μ s₀ (State.refuseSwap s result chan frame index code) := by
  unfold State.refuseSwap
  repeat' first
    | (extract_lets +onlyGivenNames x; first | (refine Kept.aside (μ := μ) (s₀ := s₀) (x := x) ?_ ?_; clear_value x; revert x; refine Kept.hold ?_; intro x hx; rotate_left; subst x) | skip)
    | with_reducible first | assumption
    | with_reducible first | apply flag_kept | apply put_kept | apply raise_kept | apply set_kept

theorem execScheduleCheck_kept {s : State} (h : Kept μ s₀ s) :
    OutKept μ s₀ (execScheduleCheck s) := by
  unfold execScheduleCheck
  repeat' first
    | (extract_lets +onlyGivenNames x; first | (refine Kept.aside (μ := μ) (s₀ := s₀) (x := x) ?_ ?_; clear_value x; revert x; refine Kept.hold ?_; intro x hx; rotate_left; subst x) | skip)
    | with_reducible first | assumption | apply Kept.ite | apply OutKept.ite
    | with_reducible intro _
    | split
    | with_reducible (apply kept_mk; assumption)
    | with_reducible first | apply refuseSwap_kept | apply OutKept.next

theorem execScheduleSwap_kept {s : State} (h : Kept μ s₀ s) :
    OutKept μ s₀ (execScheduleSwap s) := by
  unfold execScheduleSwap
  repeat' first
    | (extract_lets +onlyGivenNames x; first | (refine Kept.aside (μ := μ) (s₀ := s₀) (x := x) ?_ ?_; clear_value x; revert x; refine Kept.hold ?_; intro x hx; rotate_left; subst x) | skip)
    | with_reducible first | assumption | apply Kept.ite | apply OutKept.ite
    | with_reducible intro _
    | with_reducible (apply kept_mk; assumption)
    | with_reducible first | apply bump_kept | apply put_kept | apply set_kept | apply tryPowerUp_kept | apply OutKept.next
    | split

theorem railWindow_kept {s : State} {j : RailId} {high : Bool} (h : Kept μ s₀ s) :
    Kept μ s₀ (State.railWindow s j high) := by
  unfold State.railWindow
  repeat' first
    | with_reducible first | assumption | apply Kept.ite
    | with_reducible intro _ _ _
    | with_reducible intro _ _
    | with_reducible intro _
    | with_reducible first | apply railTrip_kept | apply when_kept
    | split

theorem portWindow_kept {s : State} {k : PortId} {kind : Nat} {high : Bool} (h : Kept μ s₀ s) :
    Kept μ s₀ (State.portWindow s k kind high) := by
  unfold State.portWindow
  repeat' first
    | with_reducible first | assumption | apply Kept.ite
    | with_reducible intro _ _ _
    | with_reducible intro _ _
    | with_reducible intro _
    | with_reducible first | apply holdPort_kept | apply tripPort_kept | apply when_kept
    | split

theorem senseWindow_kept {s : State} {m : Nat} {high : Bool} (h : Kept μ s₀ s) :
    Kept μ s₀ (State.senseWindow s m high) := by
  unfold State.senseWindow
  repeat' first
    | (extract_lets +onlyGivenNames x; first | (refine Kept.aside (μ := μ) (s₀ := s₀) (x := x) ?_ ?_; clear_value x; revert x; refine Kept.hold ?_; intro x hx; rotate_left; subst x) | skip)
    | with_reducible first | assumption | apply Kept.ite
    | with_reducible intro _
    | with_reducible first | apply flag_kept | apply railTrip_kept
    | split

theorem supplyWindow_kept {s : State} {n : Nat} {high : Bool} (h : Kept μ s₀ s) :
    Kept μ s₀ (State.supplyWindow s n high) := by
  unfold State.supplyWindow
  repeat' first
    | with_reducible first | assumption | apply Kept.ite
    | with_reducible intro _ _ _
    | with_reducible intro _ _
    | with_reducible intro _
    | with_reducible first | apply classify_kept | apply raise_kept | apply trip_kept | apply when_kept
    | split

theorem execWindowOutside_kept {win : Nat} {high : Bool} {s : State} (h : Kept μ s₀ s) :
    OutKept μ s₀ (execWindowOutside win high s) := by
  unfold execWindowOutside
  repeat' first
    | (extract_lets +onlyGivenNames x; first | (refine Kept.aside (μ := μ) (s₀ := s₀) (x := x) ?_ ?_; clear_value x; revert x; refine Kept.hold ?_; intro x hx; rotate_left; subst x) | skip)
    | with_reducible first | assumption | apply Kept.ite | apply OutKept.ite
    | with_reducible intro _ _ _
    | with_reducible intro _ _
    | with_reducible intro _
    | with_reducible first | apply captureEvent_kept | apply classify_kept | apply portWindow_kept | apply railWindow_kept
                           | apply senseWindow_kept | apply supplyWindow_kept | apply when_kept | apply windowBit_kept
                           | apply OutKept.next
    | split

theorem execCaptureArm_kept {w : Word} {s : State} (h : Kept μ s₀ s) :
    OutKept μ s₀ (execCaptureArm w s) := by
  unfold execCaptureArm
  repeat' first
    | (extract_lets +onlyGivenNames x; first | (refine Kept.aside (μ := μ) (s₀ := s₀) (x := x) ?_ ?_; clear_value x; revert x; refine Kept.hold ?_; intro x hx; rotate_left; subst x) | skip)
    | with_reducible first | assumption | apply Kept.ite | apply OutKept.ite
    | with_reducible intro _ _ _
    | with_reducible intro _ _
    | with_reducible intro _
    | with_reducible (apply kept_mk; assumption)
    | with_reducible first | apply arm_kept | apply captureTrigger_kept | apply put_kept | apply set_kept | apply when_kept
                           | apply OutKept.next
    | split

theorem execCaptureForce_kept {s : State} (h : Kept μ s₀ s) :
    OutKept μ s₀ (execCaptureForce s) := by
  unfold execCaptureForce
  repeat' first
    | with_reducible first | assumption
    | with_reducible first | apply captureTrigger_kept | apply OutKept.next

theorem execCaptureTrigger_kept {s : State} (h : Kept μ s₀ s) :
    OutKept μ s₀ (execCaptureTrigger s) := by
  unfold execCaptureTrigger
  repeat' first
    | with_reducible first | assumption
    | with_reducible first | apply captureTrigger_kept | apply OutKept.next

theorem execCaptureFull_kept {s : State} (h : Kept μ s₀ s) :
    OutKept μ s₀ (execCaptureFull s) := by
  unfold execCaptureFull
  repeat' first
    | with_reducible first | assumption | apply Kept.ite | apply OutKept.ite
    | with_reducible intro _
    | with_reducible first | apply set_kept | apply OutKept.next
    | split

theorem execCaptureRelease_kept {s : State} (h : Kept μ s₀ s) :
    OutKept μ s₀ (execCaptureRelease s) := by
  unfold execCaptureRelease
  repeat' first
    | with_reducible first | assumption | apply Kept.ite | apply OutKept.ite
    | with_reducible intro _
    | with_reducible first | apply put_kept | apply set_kept | apply OutKept.next
    | split

/-! Machine/Hub -/

theorem bufferPkt_kept {s : State} {i : Nat} (h : Kept μ s₀ s) :
    Kept μ s₀ (State.bufferPkt s i) := by
  unfold State.bufferPkt
  repeat' first
    | (extract_lets +onlyGivenNames x; first | (refine Kept.aside (μ := μ) (s₀ := s₀) (x := x) ?_ ?_; clear_value x; revert x; refine Kept.hold ?_; intro x hx; rotate_left; subst x) | skip)
    | with_reducible first | assumption | apply Kept.ite
    | with_reducible intro _
    | split
    | with_reducible (apply kept_mk; assumption)
    | with_reducible first | apply set_kept

theorem showPool_kept {s : State} (h : Kept μ s₀ s) :
    Kept μ s₀ (State.showPool s) := by
  unfold State.showPool
  repeat' first
    | (extract_lets +onlyGivenNames x; first | (refine Kept.aside (μ := μ) (s₀ := s₀) (x := x) ?_ ?_; clear_value x; revert x; refine Kept.hold ?_; intro x hx; rotate_left; subst x) | skip)
    | with_reducible first | assumption | apply Kept.ite
    | with_reducible intro _ _ _
    | with_reducible intro _ _
    | with_reducible intro _
    | with_reducible (apply kept_mk; assumption)
    | with_reducible first | apply arm_kept | apply disarm_kept | apply set_kept
    | split

theorem settleHub_kept {s : State} (h : Kept μ s₀ s) :
    Kept μ s₀ (State.settleHub s) := by
  unfold State.settleHub
  repeat' first
    | (extract_lets +onlyGivenNames x; first | (refine Kept.aside (μ := μ) (s₀ := s₀) (x := x) ?_ ?_; clear_value x; revert x; refine Kept.hold ?_; intro x hx; rotate_left; subst x) | skip)
    | with_reducible first | assumption
    | with_reducible intro _ _ _
    | with_reducible intro _ _
    | with_reducible intro _
    | with_reducible (apply kept_mk; assumption)
    | with_reducible first | apply bufferPkt_kept | apply foldl_kept | apply forAll_kept | apply showPool_kept
    | with_reducible first | apply foldl2_kept

theorem hubEvent_kept {s : State} {k : Fin 8} {e : HubEvent} (h : Kept μ s₀ s) :
    Kept μ s₀ (State.hubEvent s k e) := by
  unfold State.hubEvent
  repeat' first
    | (extract_lets +onlyGivenNames x; first | (refine Kept.aside (μ := μ) (s₀ := s₀) (x := x) ?_ ?_; clear_value x; revert x; refine Kept.hold ?_; intro x hx; rotate_left; subst x) | skip)
    | with_reducible first | assumption | apply Kept.ite
    | with_reducible intro _
    | split
    | with_reducible (apply kept_mk; assumption)
    | with_reducible first | apply bump_kept | apply set_kept
    | (clear_value *; split)

theorem noteConnect_kept {s : State} {k : PortId} {before : Nat} (h : Kept μ s₀ s) :
    Kept μ s₀ (State.noteConnect s k before) := by
  unfold State.noteConnect
  repeat' first
    | (extract_lets +onlyGivenNames x; first | (refine Kept.aside (μ := μ) (s₀ := s₀) (x := x) ?_ ?_; clear_value x; revert x; refine Kept.hold ?_; intro x hx; rotate_left; subst x) | skip)
    | with_reducible first | assumption | apply Kept.ite
    | with_reducible intro _
    | with_reducible (apply kept_mk; assumption)
    | split

theorem execHubPortDataEnable_kept {k : Fin 8} {link : BitVec 4} {speed : BitVec 3} {up : BitVec 3} {upConf : Bool} {mf0Conf
    : Bool} {events : List HubEvent} {s : State} (h : Kept μ s₀ s) :
    OutKept μ s₀ (execHubPortDataEnable k link speed up upConf mf0Conf events s) := by
  unfold execHubPortDataEnable
  repeat' first
    | (extract_lets +onlyGivenNames x; first | (refine Kept.aside (μ := μ) (s₀ := s₀) (x := x) ?_ ?_; clear_value x; revert x; refine Kept.hold ?_; intro x hx; rotate_left; subst x) | skip)
    | with_reducible first | assumption | apply Kept.ite | apply OutKept.ite
    | with_reducible intro _ _ _
    | with_reducible intro _ _
    | with_reducible intro _
    | with_reducible (apply kept_mk; assumption)
    | with_reducible first | apply forAll_kept | apply hubEvent_kept | apply hubPortOff_kept | apply noteConnect_kept
                           | apply put_kept | apply set_kept | apply settleHub_kept | apply OutKept.next
    | split

theorem execHubPacketReceived_kept {up : Bool} {k : Fin 8} {addr : BitVec 7} {ep : BitVec 4} {bad : Bool} {s : State} (h :
    Kept μ s₀ s) :
    OutKept μ s₀ (execHubPacketReceived up k addr ep bad s) := by
  unfold execHubPacketReceived
  repeat' first
    | (extract_lets +onlyGivenNames x; first | (refine Kept.aside (μ := μ) (s₀ := s₀) (x := x) ?_ ?_; clear_value x; revert x; refine Kept.hold ?_; intro x hx; rotate_left; subst x) | skip)
    | with_reducible first | assumption | apply Kept.ite | apply OutKept.ite
    | with_reducible intro _
    | with_reducible (apply kept_mk; assumption)
    | with_reducible first | apply bump_kept | apply settleHub_kept | apply OutKept.next
    | split

theorem execHubPacketSent_kept {egress : Fin 9} {s : State} (h : Kept μ s₀ s) :
    OutKept μ s₀ (execHubPacketSent egress s) := by
  unfold execHubPacketSent
  repeat' first
    | (extract_lets +onlyGivenNames x; first | (refine Kept.aside (μ := μ) (s₀ := s₀) (x := x) ?_ ?_; clear_value x; revert x; refine Kept.hold ?_; intro x hx; rotate_left; subst x) | skip)
    | with_reducible first | assumption
    | with_reducible intro _ _ _
    | with_reducible intro _ _
    | with_reducible intro _
    | with_reducible (apply kept_mk; assumption)
    | with_reducible first | apply settleHub_kept | apply OutKept.next

theorem execHubBufRead_kept {s : State} (h : Kept μ s₀ s) :
    OutKept μ s₀ (execHubBufRead s) := by
  unfold execHubBufRead
  repeat' first
    | with_reducible first | assumption
    | with_reducible first | apply set_kept | apply OutKept.next

theorem execBufferEccError_kept {uncorrectable : Bool} {s : State} (h : Kept μ s₀ s) :
    OutKept μ s₀ (execBufferEccError uncorrectable s) := by
  unfold execBufferEccError
  repeat' first
    | (extract_lets +onlyGivenNames x; first | (refine Kept.aside (μ := μ) (s₀ := s₀) (x := x) ?_ ?_; clear_value x; revert x; refine Kept.hold ?_; intro x hx; rotate_left; subst x) | skip)
    | with_reducible first | assumption | apply Kept.ite | apply OutKept.ite
    | with_reducible intro _
    | with_reducible first | apply classify_kept | apply bump_kept | apply flag_kept | apply raise_kept | apply showPool_kept | apply OutKept.next
    | split

theorem execPoolEmptyTimeout_kept {s : State} (h : Kept μ s₀ s) :
    OutKept μ s₀ (execPoolEmptyTimeout s) := by
  unfold execPoolEmptyTimeout
  repeat' first
    | with_reducible first | assumption
    | with_reducible intro _ _ _
    | with_reducible intro _ _
    | with_reducible intro _
    | with_reducible first | apply flag_kept | apply onElapse_kept | apply warn_kept | apply OutKept.next

theorem execSsTrainingFailed_kept {p : Fin 9} {speed : BitVec 3} {s : State} (h : Kept μ s₀ s) :
    OutKept μ s₀ (execSsTrainingFailed p speed s) := by
  unfold execSsTrainingFailed
  repeat' first
    | (extract_lets +onlyGivenNames x; first | (refine Kept.aside (μ := μ) (s₀ := s₀) (x := x) ?_ ?_; clear_value x; revert x; refine Kept.hold ?_; intro x hx; rotate_left; subst x) | skip)
    | with_reducible first | assumption | apply Kept.ite | apply OutKept.ite
    | with_reducible intro _
    | with_reducible (apply kept_mk; assumption)
    | with_reducible first | apply flag_kept | apply set_kept | apply settleHub_kept | apply warn_kept | apply OutKept.next
    | split

theorem execLinkRecoveryExcess_kept {p : Fin 9} {n : Nat} {s : State} (h : Kept μ s₀ s) :
    OutKept μ s₀ (execLinkRecoveryExcess p n s) := by
  unfold execLinkRecoveryExcess
  repeat' first
    | (extract_lets +onlyGivenNames x; first | (refine Kept.aside (μ := μ) (s₀ := s₀) (x := x) ?_ ?_; clear_value x; revert x; refine Kept.hold ?_; intro x hx; rotate_left; subst x) | skip)
    | with_reducible first | assumption | apply Kept.ite | apply OutKept.ite
    | with_reducible intro _ _ _
    | with_reducible intro _ _
    | with_reducible intro _
    | with_reducible (apply kept_mk; assumption)
    | with_reducible first | apply bump_kept | apply flag_kept | apply warn_kept | apply OutKept.next
    | split

theorem execSsPllUnlock_kept {s : State} (h : Kept μ s₀ s) :
    OutKept μ s₀ (execSsPllUnlock s) := by
  unfold execSsPllUnlock
  repeat' first
    | (extract_lets +onlyGivenNames x; first | (refine Kept.aside (μ := μ) (s₀ := s₀) (x := x) ?_ ?_; clear_value x; revert x; refine Kept.hold ?_; intro x hx; rotate_left; subst x) | skip)
    | with_reducible first | assumption | apply Kept.ite | apply OutKept.ite
    | with_reducible intro _ _ _
    | with_reducible intro _ _
    | with_reducible intro _
    | with_reducible (apply kept_mk; assumption)
    | with_reducible first | apply classify_kept | apply forAll_kept | apply put_kept | apply raise_kept | apply set_kept | apply showPool_kept
                           | apply when_kept | apply OutKept.next
    | split

theorem execHs9PllUnlock_kept {s : State} (h : Kept μ s₀ s) :
    OutKept μ s₀ (execHs9PllUnlock s) := by
  unfold execHs9PllUnlock
  repeat' first
    | with_reducible first | assumption | apply Kept.ite | apply OutKept.ite
    | with_reducible intro _
    | with_reducible first | apply classify_kept | apply put_kept | apply raise_kept | apply OutKept.next
    | split

theorem execHubCounterClear_kept {w : Word} {s : State} (h : Kept μ s₀ s) :
    OutKept μ s₀ (execHubCounterClear w s) := by
  unfold execHubCounterClear
  repeat' first
    | with_reducible first | assumption | apply Kept.ite | apply OutKept.ite
    | with_reducible intro _ _ _
    | with_reducible intro _ _
    | with_reducible intro _
    | with_reducible first | apply forAll_kept | apply setWord_kept | apply OutKept.next
    | split

/-! Machine/Descriptors -/

theorem portPower_kept {s : State} {_k : Fin 9} {_on : Bool} (h : Kept μ s₀ s) :
    Kept μ s₀ (State.portPower s _k _on) := by
  unfold State.portPower
  repeat' first
    | with_reducible first | assumption

theorem fnStandard_kept {s : State} {f : Fin 2} {reqType : BitVec 8} {request : BitVec 8} {value : BitVec 16} {index : BitVec
    16} {length : BitVec 16} (h : Kept μ s₀ s) :
    Kept μ s₀ (State.fnStandard s f reqType request value index length).2 := by
  unfold State.fnStandard
  repeat' first
    | (extract_lets +onlyGivenNames x; first | (refine Kept.aside (μ := μ) (s₀ := s₀) (x := x) ?_ ?_; clear_value x; revert x; refine Kept.hold ?_; intro x hx; rotate_left; subst x) | (refine Kept.aside2 (μ := μ) (s₀ := s₀) (x := x) ?_ ?_; clear_value x; revert x; refine Kept.hold ?_; intro x hx; rotate_left; subst x) | skip)
    | with_reducible first | assumption | apply Kept.ite
    | with_reducible intro _ _ _
    | with_reducible intro _ _
    | with_reducible intro _
    | dsimp only
    | split
    | with_reducible first | apply put_kept | apply when_kept

/-! Machine/Mailbox -/

theorem holdFor_kept {s : State} {n : Nat} {mark : Nat} (h : Kept μ s₀ s) :
    Kept μ s₀ (State.holdFor s n mark) := by
  unfold State.holdFor
  repeat' first
    | (extract_lets +onlyGivenNames x; first | (refine Kept.aside (μ := μ) (s₀ := s₀) (x := x) ?_ ?_; clear_value x; revert x; refine Kept.hold ?_; intro x hx; rotate_left; subst x) | skip)
    | with_reducible first | assumption | apply Kept.ite
    | with_reducible intro _
    | with_reducible (apply kept_mk; assumption)
    | with_reducible first | apply dueMark_kept | apply warn_kept
    | split

theorem judgeCounter_kept {s : State} {n : Nat} {c : Nat} (h : Kept μ s₀ s) :
    Kept μ s₀ (State.judgeCounter s n c).2 := by
  unfold State.judgeCounter
  repeat' first
    | (extract_lets +onlyGivenNames x; first | (refine Kept.aside (μ := μ) (s₀ := s₀) (x := x) ?_ ?_; clear_value x; revert x; refine Kept.hold ?_; intro x hx; rotate_left; subst x) | (refine Kept.aside2 (μ := μ) (s₀ := s₀) (x := x) ?_ ?_; clear_value x; revert x; refine Kept.hold ?_; intro x hx; rotate_left; subst x) | skip)
    | with_reducible first | assumption | apply Kept.ite
    | with_reducible intro _
    | dsimp only
    | split
    | with_reducible first | apply flag_kept | apply holdFor_kept

theorem acceptCounter_kept {s : State} {n : Nat} {c : Nat} (h : Kept μ s₀ s) :
    Kept μ s₀ (State.acceptCounter s n c) := by
  unfold State.acceptCounter
  repeat' first
    | (extract_lets +onlyGivenNames x; first | (refine Kept.aside (μ := μ) (s₀ := s₀) (x := x) ?_ ?_; clear_value x; revert x; refine Kept.hold ?_; intro x hx; rotate_left; subst x) | skip)
    | with_reducible first | assumption | apply Kept.ite
    | with_reducible intro _
    | with_reducible (apply kept_mk; assumption)
    | with_reducible first | apply dueMark_kept
    | split

theorem judge_kept {s : State} {f : Frame} (h : Kept μ s₀ s) :
    Kept μ s₀ (State.judge s f).2 := by
  unfold State.judge
  repeat' first
    | (extract_lets +onlyGivenNames x; first | (refine Kept.aside (μ := μ) (s₀ := s₀) (x := x) ?_ ?_; clear_value x; revert x; refine Kept.hold ?_; intro x hx; rotate_left; subst x) | (refine Kept.aside2 (μ := μ) (s₀ := s₀) (x := x) ?_ ?_; clear_value x; revert x; refine Kept.hold ?_; intro x hx; rotate_left; subst x) | skip)
    | with_reducible first | assumption | apply Kept.ite
    | with_reducible intro _ _ _
    | with_reducible intro _ _
    | with_reducible intro _
    | dsimp only
    | split
    | with_reducible (apply kept_mk; assumption)
    | with_reducible first | apply acceptCounter_kept | apply authFail_kept | apply find_kept | apply flag_kept
                           | apply warn_kept
    | with_reducible first | apply judgeCounter_kept
    | (clear_value *; split)

theorem answerFrame_kept {s : State} {f : Frame} {st : Status} {req : Nat} {payload : List Word} {mac : Bool} (h : Kept μ s₀ s) :
    Kept μ s₀ (State.answerFrame s f st req payload mac) := by
  unfold State.answerFrame
  repeat' first
    | (extract_lets +onlyGivenNames x; first | (refine Kept.aside (μ := μ) (s₀ := s₀) (x := x) ?_ ?_; clear_value x; revert x; refine Kept.hold ?_; intro x hx; rotate_left; subst x) | skip)
    | with_reducible first | assumption | apply Kept.ite
    | with_reducible intro _
    | with_reducible (apply kept_mk; assumption)
    | with_reducible first | apply answer_kept
    | split

theorem afterVerdict_kept {s : State} {f : Frame} {v : Verdict} (h : Kept μ s₀ s) :
    Kept μ s₀ (State.afterVerdict s f v) := by
  unfold State.afterVerdict
  repeat' first
    | (extract_lets +onlyGivenNames x; first | (refine Kept.aside (μ := μ) (s₀ := s₀) (x := x) ?_ ?_; clear_value x; revert x; refine Kept.hold ?_; intro x hx; rotate_left; subst x) | skip)
    | with_reducible first | assumption
    | split
    | with_reducible (apply kept_mk; assumption)
    | with_reducible first | apply answerFrame_kept

theorem takeFrame_kept {s : State} {f : Frame} {rest : List Frame} (h : Kept μ s₀ s) :
    Kept μ s₀ (State.takeFrame s f rest) := by
  unfold State.takeFrame
  repeat' first
    | (extract_lets +onlyGivenNames x; first | (refine Kept.aside (μ := μ) (s₀ := s₀) (x := x) ?_ ?_; clear_value x; revert x; refine Kept.hold ?_; intro x hx; rotate_left; subst x) | (refine Kept.aside2 (μ := μ) (s₀ := s₀) (x := x) ?_ ?_; clear_value x; revert x; refine Kept.hold ?_; intro x hx; rotate_left; subst x) | skip)
    | with_reducible first | assumption
    | dsimp only
    | with_reducible (apply kept_mk; assumption)
    | with_reducible first | apply afterVerdict_kept
    | with_reducible first | apply judge_kept

theorem pump_kept {s : State} (h : Kept μ s₀ s) :
    Kept μ s₀ (State.pump s) := by
  unfold State.pump
  repeat' first
    | (extract_lets +onlyGivenNames x; first | (refine Kept.aside (μ := μ) (s₀ := s₀) (x := x) ?_ ?_; clear_value x; revert x; refine Kept.hold ?_; intro x hx; rotate_left; subst x) | skip)
    | with_reducible first | assumption | apply Kept.ite
    | with_reducible intro _
    | split
    | with_reducible (apply kept_mk; assumption)
    | with_reducible first | apply answer_kept | apply takeFrame_kept

theorem submit_kept {s : State} {f : Frame} (h : Kept μ s₀ s) :
    Kept μ s₀ (State.submit s f) := by
  unfold State.submit
  repeat' first
    | (extract_lets +onlyGivenNames x; first | (refine Kept.aside (μ := μ) (s₀ := s₀) (x := x) ?_ ?_; clear_value x; revert x; refine Kept.hold ?_; intro x hx; rotate_left; subst x) | skip)
    | with_reducible first | assumption
    | with_reducible (apply kept_mk; assumption)
    | with_reducible first | apply pump_kept

theorem onCommand_kept {s : State} {code : Nat} {act : Frame → State → State} (h : Kept μ s₀ s) (hact : ∀ x0 t, Kept μ s₀ t →
    Kept μ s₀ (act x0 t)) :
    Kept μ s₀ (State.onCommand s code act) := by
  unfold State.onCommand
  repeat' first
    | (extract_lets +onlyGivenNames x; first | (refine Kept.aside (μ := μ) (s₀ := s₀) (x := x) ?_ ?_; clear_value x; revert x; refine Kept.hold ?_; intro x hx; rotate_left; subst x) | skip)
    | with_reducible first | assumption | apply Kept.ite
    | with_reducible intro _ _ _
    | with_reducible intro _ _
    | with_reducible intro _
    | split
    | with_reducible (apply kept_mk; assumption)
    | with_reducible first | apply hact

theorem reply_kept {s : State} {f : Frame} {st : Status} {payload : List Word} (h : Kept μ s₀ s) :
    Kept μ s₀ (State.reply s f st payload) := by
  unfold State.reply
  repeat' first
    | with_reducible first | assumption
    | with_reducible first | apply answerFrame_kept

theorem done_kept {s : State} {f : Frame} {st : Status} (h : Kept μ s₀ s) :
    Kept μ s₀ (State.done s f st) := by
  unfold State.done
  repeat' first
    | with_reducible first | assumption
    | with_reducible first | apply reply_kept

theorem sendResponse_kept {s : State} {a : Answer} {own : Bool} (h : Kept μ s₀ s) :
    Kept μ s₀ (State.sendResponse s a own) := by
  unfold State.sendResponse
  repeat' first
    | (extract_lets +onlyGivenNames x; first | (refine Kept.aside (μ := μ) (s₀ := s₀) (x := x) ?_ ?_; clear_value x; revert x; refine Kept.hold ?_; intro x hx; rotate_left; subst x) | (refine Kept.aside2 (μ := μ) (s₀ := s₀) (x := x) ?_ ?_; clear_value x; revert x; refine Kept.hold ?_; intro x hx; rotate_left; subst x) | skip)
    | with_reducible first | assumption | apply Kept.ite
    | with_reducible intro _ _ _
    | with_reducible intro _ _
    | with_reducible intro _
    | dsimp only
    | split
    | with_reducible (apply kept_mk; assumption)
    | with_reducible first | apply foldl_kept | apply post_kept | apply set_kept | apply setWord_kept
    | with_reducible first | apply foldl2_kept | apply takeDseq_kept

theorem execMbxGo_kept {words : BitVec 8} {s : State} (h : Kept μ s₀ s) :
    OutKept μ s₀ (execMbxGo words s) := by
  unfold execMbxGo
  repeat' first
    | (extract_lets +onlyGivenNames x; first | (refine Kept.aside (μ := μ) (s₀ := s₀) (x := x) ?_ ?_; clear_value x; revert x; refine Kept.hold ?_; intro x hx; rotate_left; subst x) | skip)
    | with_reducible first | assumption | apply Kept.ite | apply OutKept.ite
    | with_reducible intro _ _ _
    | with_reducible intro _ _
    | with_reducible intro _
    | with_reducible first | apply flag_kept | apply set_kept | apply submit_kept | apply OutKept.next
    | split

theorem execMbxResponse_kept {s : State} (h : Kept true s₀ s) :
    OutKept true s₀ (execMbxResponse s) := by
  unfold execMbxResponse
  repeat' first
    | (extract_lets +onlyGivenNames x; first | (refine Kept.aside (μ := true) (s₀ := s₀) (x := x) ?_ ?_; clear_value x; revert x; refine Kept.hold ?_; intro x hx; rotate_left; subst x) | skip)
    | with_reducible first | assumption
    | split
    | with_reducible (apply kept_mk; assumption)
    | with_reducible first | apply answer_kept | apply pump_kept | apply sendResponse_kept | apply tryT14_kept
                           | apply OutKept.next

theorem execMbxTake_kept {s : State} (h : Kept μ s₀ s) :
    OutKept μ s₀ (execMbxTake s) := by
  unfold execMbxTake
  repeat' first
    | with_reducible first | assumption | apply Kept.ite | apply OutKept.ite
    | with_reducible intro _
    | with_reducible first | apply set_kept | apply OutKept.next
    | split

theorem modFn_kept {s : State} {f : Fin 2} {act : MgtFn → MgtFn} (h : Kept μ s₀ s) :
    Kept μ s₀ (State.modFn s f act) := by
  unfold State.modFn
  repeat' first
    | (extract_lets +onlyGivenNames x; first | (refine Kept.aside (μ := μ) (s₀ := s₀) (x := x) ?_ ?_; clear_value x; revert x; refine Kept.hold ?_; intro x hx; rotate_left; subst x) | skip)
    | with_reducible first | assumption
    | with_reducible intro _ _ _
    | with_reducible intro _ _
    | with_reducible intro _
    | with_reducible (apply kept_mk; assumption)
    | with_reducible first | apply set_kept

theorem execMgtCommandTransfer_kept {f : Fin 2} {bytes : List Byte} {s : State} (h : Kept μ s₀ s) :
    OutKept μ s₀ (execMgtCommandTransfer f bytes s) := by
  unfold execMgtCommandTransfer
  repeat' first
    | (extract_lets +onlyGivenNames x; first | (refine Kept.aside (μ := μ) (s₀ := s₀) (x := x) ?_ ?_; clear_value x; revert x; refine Kept.hold ?_; intro x hx; rotate_left; subst x) | skip)
    | with_reducible first | assumption | apply Kept.ite | apply OutKept.ite
    | with_reducible intro _ _ _
    | with_reducible intro _ _
    | with_reducible intro _
    | with_reducible (apply kept_mk; assumption)
    | with_reducible first | apply modFn_kept | apply put_kept | apply sendResponse_kept | apply submit_kept
                           | apply warn_kept | apply when_kept | apply OutKept.next
    | split

theorem execMgtResponseTaken_kept {f : Fin 2} {s : State} (h : Kept true s₀ s) :
    OutKept true s₀ (execMgtResponseTaken f s) := by
  unfold execMgtResponseTaken
  repeat' first
    | (extract_lets +onlyGivenNames x; first | (refine Kept.aside (μ := true) (s₀ := s₀) (x := x) ?_ ?_; clear_value x; revert x; refine Kept.hold ?_; intro x hx; rotate_left; subst x) | skip)
    | with_reducible first | assumption | apply Kept.ite | apply OutKept.ite
    | with_reducible intro _ _ _
    | with_reducible intro _ _
    | with_reducible intro _
    | split
    | with_reducible (apply kept_mk; assumption)
    | with_reducible first | apply modFn_kept | apply tryT14_kept | apply OutKept.next

theorem execMgtEventDelivery_kept {f : Fin 2} {s : State} (h : Kept μ s₀ s) :
    OutKept μ s₀ (execMgtEventDelivery f s) := by
  unfold execMgtEventDelivery
  repeat' first
    | (extract_lets +onlyGivenNames x; first | (refine Kept.aside (μ := μ) (s₀ := s₀) (x := x) ?_ ?_; clear_value x; revert x; refine Kept.hold ?_; intro x hx; rotate_left; subst x) | skip)
    | with_reducible first | assumption | apply Kept.ite | apply OutKept.ite
    | with_reducible intro _ _ _
    | with_reducible intro _ _
    | with_reducible intro _
    | split
    | with_reducible (apply kept_mk; assumption)
    | with_reducible first | apply modFn_kept | apply OutKept.next

theorem execMgtVendorRequest_kept {f : Fin 2} {reqType : BitVec 8} {request : BitVec 8} {value : BitVec 16} {index : BitVec
    16} {length : BitVec 16} {s : State} (h : Kept μ s₀ s) :
    OutKept μ s₀ (execMgtVendorRequest f reqType request value index length s) := by
  unfold execMgtVendorRequest
  repeat' first
    | (extract_lets +onlyGivenNames x; first | (refine Kept.aside (μ := μ) (s₀ := s₀) (x := x) ?_ ?_; clear_value x; revert x; refine Kept.hold ?_; intro x hx; rotate_left; subst x) | (refine Kept.aside2 (μ := μ) (s₀ := s₀) (x := x) ?_ ?_; clear_value x; revert x; refine Kept.hold ?_; intro x hx; rotate_left; subst x) | skip)
    | with_reducible first | assumption | apply Kept.ite | apply OutKept.ite
    | with_reducible intro _ _ _
    | with_reducible intro _ _
    | with_reducible intro _
    | dsimp only
    | split
    | with_reducible (apply kept_mk; assumption)
    | with_reducible first | apply modFn_kept | apply OutKept.next
    | with_reducible first | apply fnStandard_kept

theorem execMgtClearHalt_kept {f : Fin 2} {s : State} (h : Kept μ s₀ s) :
    OutKept μ s₀ (execMgtClearHalt f s) := by
  unfold execMgtClearHalt
  repeat' first
    | with_reducible first | assumption | apply Kept.ite | apply OutKept.ite
    | with_reducible intro _
    | with_reducible first | apply put_kept | apply OutKept.next
    | split

end Sys2Proof.Machine
end

