-- ==== Sys2Proof/Laws/KeptData.lean ====
section
/-!
SUPPORT. What every operation keeps (see Kept): the telemetry, island, fault, time, register, update and OTP families.
-/
set_option linter.tactic.unusedName false
set_option linter.unusedTactic false
set_option linter.unreachableTactic false
namespace Sys2Proof.Machine

variable {s₀ : State} {μ : Bool}

/-! Machine/Telemetry -/

theorem modStream_kept {s : State} {n : Fin 8} {act : Stream → Stream} (h : Kept μ s₀ s) :
    Kept μ s₀ (State.modStream s n act) := by
  unfold State.modStream
  repeat' first
    | (extract_lets +onlyGivenNames x; first | (refine Kept.aside (μ := μ) (s₀ := s₀) (x := x) ?_ ?_; clear_value x; revert x; refine Kept.hold ?_; intro x hx; rotate_left; subst x) | skip)
    | with_reducible first | assumption
    | with_reducible intro _ _ _
    | with_reducible intro _ _
    | with_reducible intro _
    | with_reducible (apply kept_mk; assumption)
    | with_reducible first | apply set_kept

theorem execStreamSample_kept {n : Fin 8} {s : State} (h : Kept μ s₀ s) :
    OutKept μ s₀ (execStreamSample n s) := by
  unfold execStreamSample
  repeat' first
    | (extract_lets +onlyGivenNames x; first | (refine Kept.aside (μ := μ) (s₀ := s₀) (x := x) ?_ ?_; clear_value x; revert x; refine Kept.hold ?_; intro x hx; rotate_left; subst x) | skip)
    | with_reducible first | assumption | apply Kept.ite | apply OutKept.ite
    | with_reducible intro _ _ _
    | with_reducible intro _ _
    | with_reducible intro _
    | with_reducible (apply kept_mk; assumption)
    | with_reducible first | apply set_kept | apply OutKept.next
    | split

theorem pushBlock_kept {s : State} {n : Fin 8} {f : Fin 2} {b : Block} (h : Kept μ s₀ s) :
    Kept μ s₀ (State.pushBlock s n f b) := by
  unfold State.pushBlock
  repeat' first
    | with_reducible first | assumption | apply Kept.ite
    | with_reducible intro _ _ _
    | with_reducible intro _ _
    | with_reducible intro _
    | with_reducible first | apply flag_kept | apply modStream_kept
    | split

theorem execStreamBlockEncode_kept {n : Fin 8} {s : State} (h : Kept μ s₀ s) :
    OutKept μ s₀ (execStreamBlockEncode n s) := by
  unfold execStreamBlockEncode
  repeat' first
    | (extract_lets +onlyGivenNames x; first | (refine Kept.aside (μ := μ) (s₀ := s₀) (x := x) ?_ ?_; clear_value x; revert x; refine Kept.hold ?_; intro x hx; rotate_left; subst x) | skip)
    | with_reducible first | assumption | apply Kept.ite | apply OutKept.ite
    | with_reducible intro _ _ _
    | with_reducible intro _ _
    | with_reducible intro _
    | with_reducible (apply kept_mk; assumption)
    | with_reducible first | apply modStream_kept | apply pushBlock_kept | apply putBit_kept | apply OutKept.next
    | split

theorem offer_kept {s : State} {f : Fin 2} {p : TlmPkt} (h : Kept μ s₀ s) :
    Kept μ s₀ (State.offer s f p) := by
  unfold State.offer
  repeat' first
    | (extract_lets +onlyGivenNames x; first | (refine Kept.aside (μ := μ) (s₀ := s₀) (x := x) ?_ ?_; clear_value x; revert x; refine Kept.hold ?_; intro x hx; rotate_left; subst x) | skip)
    | with_reducible first | assumption
    | with_reducible intro _ _ _
    | with_reducible intro _ _
    | with_reducible intro _
    | with_reducible (apply kept_mk; assumption)
    | with_reducible first | apply modFn_kept

theorem execStreamPacketClose_kept {n : Fin 8} {f : Fin 2} {s : State} (h : Kept μ s₀ s) :
    OutKept μ s₀ (execStreamPacketClose n f s) := by
  unfold execStreamPacketClose
  repeat' first
    | (extract_lets +onlyGivenNames x; first | (refine Kept.aside (μ := μ) (s₀ := s₀) (x := x) ?_ ?_; clear_value x; revert x; refine Kept.hold ?_; intro x hx; rotate_left; subst x) | skip)
    | with_reducible first | assumption | apply Kept.ite | apply OutKept.ite
    | with_reducible intro _ _ _
    | with_reducible intro _ _
    | with_reducible intro _
    | split
    | with_reducible (apply kept_mk; assumption)
    | with_reducible first | apply advanceTo_kept | apply modStream_kept | apply offer_kept | apply OutKept.next
    | (clear_value *; split)

theorem execTlmStrWrite_kept {n : Fin 8} {w : Word} {s : State} (h : Kept μ s₀ s) :
    OutKept μ s₀ (execTlmStrWrite n w s) := by
  unfold execTlmStrWrite
  repeat' first
    | (extract_lets +onlyGivenNames x; first | (refine Kept.aside (μ := μ) (s₀ := s₀) (x := x) ?_ ?_; clear_value x; revert x; refine Kept.hold ?_; intro x hx; rotate_left; subst x) | skip)
    | with_reducible first | assumption | apply Kept.ite | apply OutKept.ite
    | with_reducible intro _ _ _
    | with_reducible intro _ _
    | with_reducible intro _
    | with_reducible (apply kept_mk; assumption)
    | with_reducible first | apply flag_kept | apply modStream_kept | apply setWord_kept | apply OutKept.next
    | split

theorem execCaptureSpill_kept {ok : Bool} {s : State} (h : Kept true s₀ s) :
    OutKept true s₀ (execCaptureSpill ok s) := by
  unfold execCaptureSpill
  repeat' first
    | (extract_lets +onlyGivenNames x; first | (refine Kept.aside (μ := true) (s₀ := s₀) (x := x) ?_ ?_; clear_value x; revert x; refine Kept.hold ?_; intro x hx; rotate_left; subst x) | skip)
    | with_reducible first | assumption | apply Kept.ite | apply OutKept.ite
    | with_reducible intro _ _ _
    | with_reducible intro _ _
    | with_reducible intro _
    | with_reducible (apply kept_mk; assumption)
    | with_reducible first | apply flashErase_kept | apply flashProgram_kept | apply raise_kept | apply set_kept
                           | apply spoil_kept | apply OutKept.next
    | split

theorem nextCapPacket_kept {s : State} {f : Fin 2} (h : Kept μ s₀ s) :
    Kept μ s₀ (State.nextCapPacket s f) := by
  unfold State.nextCapPacket
  repeat' first
    | (extract_lets +onlyGivenNames x; first | (refine Kept.aside (μ := μ) (s₀ := s₀) (x := x) ?_ ?_; clear_value x; revert x; refine Kept.hold ?_; intro x hx; rotate_left; subst x) | skip)
    | with_reducible first | assumption | apply Kept.ite
    | with_reducible intro _ _ _
    | with_reducible intro _ _
    | with_reducible intro _
    | split
    | with_reducible (apply kept_mk; assumption)
    | with_reducible first | apply modFn_kept | apply offer_kept
    | (clear_value *; split)

theorem execCaptureSend_kept {src : BitVec 8} {to9 : Bool} {s : State} (h : Kept μ s₀ s) :
    OutKept μ s₀ (execCaptureSend src to9 s) := by
  unfold execCaptureSend
  repeat' first
    | (extract_lets +onlyGivenNames x; first | (refine Kept.aside (μ := μ) (s₀ := s₀) (x := x) ?_ ?_; clear_value x; revert x; refine Kept.hold ?_; intro x hx; rotate_left; subst x) | skip)
    | with_reducible first | assumption | apply Kept.ite | apply OutKept.ite
    | with_reducible intro _ _ _
    | with_reducible intro _ _
    | with_reducible intro _
    | with_reducible (apply kept_mk; assumption)
    | with_reducible first | apply modFn_kept | apply nextCapPacket_kept | apply OutKept.next
    | split

theorem execTelemetryPacketTaken_kept {f : Fin 2} {s : State} (h : Kept μ s₀ s) :
    OutKept μ s₀ (execTelemetryPacketTaken f s) := by
  unfold execTelemetryPacketTaken
  repeat' first
    | (extract_lets +onlyGivenNames x; first | (refine Kept.aside (μ := μ) (s₀ := s₀) (x := x) ?_ ?_; clear_value x; revert x; refine Kept.hold ?_; intro x hx; rotate_left; subst x) | skip)
    | with_reducible first | assumption | apply Kept.ite | apply OutKept.ite
    | with_reducible intro _ _ _
    | with_reducible intro _ _
    | with_reducible intro _
    | split
    | with_reducible (apply kept_mk; assumption)
    | with_reducible first | apply modFn_kept | apply nextCapPacket_kept | apply OutKept.next
    | (clear_value *; split)

theorem execArchiveFrameAccumulate_kept {s : State} (h : Kept μ s₀ s) :
    OutKept μ s₀ (execArchiveFrameAccumulate s) := by
  unfold execArchiveFrameAccumulate
  repeat' first
    | (extract_lets +onlyGivenNames x; first | (refine Kept.aside (μ := μ) (s₀ := s₀) (x := x) ?_ ?_; clear_value x; revert x; refine Kept.hold ?_; intro x hx; rotate_left; subst x) | skip)
    | with_reducible first | assumption | apply Kept.ite | apply OutKept.ite
    | with_reducible intro _ _ _
    | with_reducible intro _ _
    | with_reducible intro _
    | with_reducible (apply kept_mk; assumption)
    | with_reducible first | apply foldl_kept | apply OutKept.next
    | with_reducible first | apply foldl2_kept
    | split

theorem daySample_kept {s : State} (h : Kept μ s₀ s) :
    Kept μ s₀ (State.daySample s) := by
  unfold State.daySample
  repeat' first
    | (extract_lets +onlyGivenNames x; first | (refine Kept.aside (μ := μ) (s₀ := s₀) (x := x) ?_ ?_; clear_value x; revert x; refine Kept.hold ?_; intro x hx; rotate_left; subst x) | skip)
    | with_reducible first | assumption
    | with_reducible intro _ _ _
    | with_reducible intro _ _
    | with_reducible intro _
    | with_reducible (apply kept_mk; assumption)
    | with_reducible first | apply foldl_kept
    | with_reducible first | apply foldl2_kept

theorem endDay_kept {s : State} (h : Kept μ s₀ s) :
    Kept μ s₀ (State.endDay s) := by
  unfold State.endDay
  repeat' first
    | (extract_lets +onlyGivenNames x; first | (refine Kept.aside (μ := μ) (s₀ := s₀) (x := x) ?_ ?_; clear_value x; revert x; refine Kept.hold ?_; intro x hx; rotate_left; subst x) | skip)
    | with_reducible first | assumption
    | with_reducible intro _ _ _
    | with_reducible intro _ _
    | with_reducible intro _
    | with_reducible (apply kept_mk; assumption)
    | with_reducible first | apply forAll_kept | apply modChk_kept | apply set_kept

theorem endSecond_kept {s : State} (h : Kept μ s₀ s) :
    Kept μ s₀ (State.endSecond s) := by
  unfold State.endSecond
  repeat' first
    | (extract_lets +onlyGivenNames x; first | (refine Kept.aside (μ := μ) (s₀ := s₀) (x := x) ?_ ?_; clear_value x; revert x; refine Kept.hold ?_; intro x hx; rotate_left; subst x) | skip)
    | with_reducible first | assumption | apply Kept.ite
    | with_reducible intro _ _ _
    | with_reducible intro _ _
    | with_reducible intro _
    | with_reducible (apply kept_mk; assumption)
    | with_reducible first | apply endDay_kept | apply when_kept
    | split

theorem countSecond_kept {s : State} (h : Kept μ s₀ s) :
    Kept μ s₀ (State.countSecond s) := by
  unfold State.countSecond
  repeat' first
    | (extract_lets +onlyGivenNames x; first | (refine Kept.aside (μ := μ) (s₀ := s₀) (x := x) ?_ ?_; clear_value x; revert x; refine Kept.hold ?_; intro x hx; rotate_left; subst x) | skip)
    | with_reducible first | assumption
    | with_reducible intro _ _ _
    | with_reducible intro _ _
    | with_reducible intro _
    | with_reducible (apply kept_mk; assumption)
    | with_reducible first | apply daySample_kept | apply endSecond_kept | apply showDay_kept | apply when_kept

theorem execCountedSecond_kept {s : State} (h : Kept μ s₀ s) :
    OutKept μ s₀ (execCountedSecond s) := by
  unfold execCountedSecond
  repeat' first
    | (extract_lets +onlyGivenNames x; first | (refine Kept.aside (μ := μ) (s₀ := s₀) (x := x) ?_ ?_; clear_value x; revert x; refine Kept.hold ?_; intro x hx; rotate_left; subst x) | skip)
    | with_reducible first | assumption | apply Kept.ite | apply OutKept.ite
    | with_reducible intro _
    | with_reducible (apply kept_mk; assumption)
    | with_reducible first | apply advanceTo_kept | apply countSecond_kept | apply OutKept.next
    | split

theorem lateSeconds_kept {s : State} (h : Kept μ s₀ s) :
    Kept μ s₀ (State.lateSeconds s) := by
  unfold State.lateSeconds
  repeat' first
    | (extract_lets +onlyGivenNames x; first | (refine Kept.aside (μ := μ) (s₀ := s₀) (x := x) ?_ ?_; clear_value x; revert x; refine Kept.hold ?_; intro x hx; rotate_left; subst x) | skip)
    | with_reducible first | assumption
    | with_reducible intro _ _ _
    | with_reducible intro _ _
    | with_reducible intro _
    | with_reducible (apply kept_mk; assumption)
    | with_reducible first | apply countSecond_kept | apply foldl_kept
    | with_reducible first | apply foldl2_kept

theorem execDayRecordWrite_kept {ok : Bool} {eraseOk : Bool} {s : State} (h : Kept true s₀ s) :
    OutKept true s₀ (execDayRecordWrite ok eraseOk s) := by
  unfold execDayRecordWrite
  repeat' first
    | (extract_lets +onlyGivenNames x; first | (refine Kept.aside (μ := true) (s₀ := s₀) (x := x) ?_ ?_; clear_value x; revert x; refine Kept.hold ?_; intro x hx; rotate_left; subst x) | skip)
    | with_reducible first | assumption | apply Kept.ite | apply OutKept.ite
    | with_reducible intro _
    | split
    | with_reducible (apply kept_mk; assumption)
    | with_reducible first | apply archiveFail_kept | apply eraseNext_kept | apply flag_kept | apply flashProgram_kept
                           | apply set_kept | apply spoil_kept | apply OutKept.next
    | (clear_value *; split)

theorem execCheckpointWrite_kept {ok : Bool} {eraseOk : Bool} {s : State} (h : Kept true s₀ s) :
    OutKept true s₀ (execCheckpointWrite ok eraseOk s) := by
  unfold execCheckpointWrite
  repeat' first
    | with_reducible first | assumption | apply Kept.ite | apply OutKept.ite
    | with_reducible intro _
    | with_reducible first | apply storeCheckpoint_kept | apply OutKept.next
    | split

theorem showNewest_kept {s : State} {day : Option (Nat × List Byte)} (h : Kept μ s₀ s) :
    Kept μ s₀ (State.showNewest s day) := by
  unfold State.showNewest
  repeat' first
    | (extract_lets +onlyGivenNames x; first | (refine Kept.aside (μ := μ) (s₀ := s₀) (x := x) ?_ ?_; clear_value x; revert x; refine Kept.hold ?_; intro x hx; rotate_left; subst x) | skip)
    | with_reducible first | assumption
    | split
    | with_reducible (apply kept_mk; assumption)
    | with_reducible first | apply set_kept

theorem resumeDay_kept {s : State} {h : His} (hk : Kept μ s₀ s) :
    Kept μ s₀ (State.resumeDay s h) := by
  unfold State.resumeDay
  repeat' first
    | (extract_lets +onlyGivenNames x; first | (refine Kept.aside (μ := μ) (s₀ := s₀) (x := x) ?_ ?_; clear_value x; revert x; refine Kept.hold ?_; intro x hx; rotate_left; subst x) | skip)
    | with_reducible first | assumption | apply Kept.ite
    | with_reducible intro _
    | with_reducible (apply kept_mk; assumption)
    | with_reducible first | apply flag_kept | apply showDay_kept | apply warn_kept
    | split

theorem beginDay_kept {s : State} {h : His} {next : Nat} {cp : Option (Nat × List Byte)} (hk : Kept μ s₀ s) :
    Kept μ s₀ (State.beginDay s h next cp) := by
  unfold State.beginDay
  repeat' first
    | (extract_lets +onlyGivenNames x; first | (refine Kept.aside (μ := μ) (s₀ := s₀) (x := x) ?_ ?_; clear_value x; revert x; refine Kept.hold ?_; intro x hx; rotate_left; subst x) | skip)
    | with_reducible first | assumption | apply Kept.ite
    | with_reducible intro _
    | split
    | with_reducible (apply kept_mk; assumption)
    | with_reducible first | apply resumeDay_kept | apply showDay_kept

theorem execHistoryScan_kept {s : State} (h : Kept μ s₀ s) :
    OutKept μ s₀ (execHistoryScan s) := by
  unfold execHistoryScan
  repeat' first
    | (extract_lets +onlyGivenNames x; first | (refine Kept.aside (μ := μ) (s₀ := s₀) (x := x) ?_ ?_; clear_value x; revert x; refine Kept.hold ?_; intro x hx; rotate_left; subst x) | skip)
    | with_reducible first | assumption | apply Kept.ite | apply OutKept.ite
    | with_reducible intro _
    | with_reducible first | apply beginDay_kept | apply put_kept | apply showNewest_kept | apply OutKept.next
    | split

theorem execHisSelLoad_kept {w : Word} {s : State} (h : Kept μ s₀ s) :
    OutKept μ s₀ (execHisSelLoad w s) := by
  unfold execHisSelLoad
  repeat' first
    | (extract_lets +onlyGivenNames x; first | (refine Kept.aside (μ := μ) (s₀ := s₀) (x := x) ?_ ?_; clear_value x; revert x; refine Kept.hold ?_; intro x hx; rotate_left; subst x) | skip)
    | with_reducible first | assumption | apply Kept.ite | apply OutKept.ite
    | with_reducible intro _ _ _
    | with_reducible intro _ _
    | with_reducible intro _
    | with_reducible first | apply foldl_kept | apply setWord_kept | apply OutKept.next
    | with_reducible first | apply foldl2_kept
    | split

/-! Machine/Island -/

theorem noteXchk_kept {s : State} {c : Nat} (h : Kept μ s₀ s) :
    Kept μ s₀ (State.noteXchk s c) := by
  unfold State.noteXchk
  repeat' first
    | (extract_lets +onlyGivenNames x; first | (refine Kept.aside (μ := μ) (s₀ := s₀) (x := x) ?_ ?_; clear_value x; revert x; refine Kept.hold ?_; intro x hx; rotate_left; subst x) | skip)
    | with_reducible first | assumption | apply Kept.ite
    | with_reducible intro _
    | with_reducible (apply kept_mk; assumption)
    | with_reducible first | apply set_kept
    | split

theorem execClockCrossCheck_kept {count : BitVec 10} {strobe : Bool} {amplitude : Bool} {lock : Bool} {s : State} (h : Kept μ
    s₀ s) :
    OutKept μ s₀ (execClockCrossCheck count strobe amplitude lock s) := by
  unfold execClockCrossCheck
  repeat' first
    | (extract_lets +onlyGivenNames x; first | (refine Kept.aside (μ := μ) (s₀ := s₀) (x := x) ?_ ?_; clear_value x; revert x; refine Kept.hold ?_; intro x hx; rotate_left; subst x) | skip)
    | with_reducible first | assumption | apply Kept.ite | apply OutKept.ite
    | with_reducible intro _ _ _
    | with_reducible intro _ _
    | with_reducible intro _
    | with_reducible (apply kept_mk; assumption)
    | with_reducible first | apply noteXchk_kept | apply put_kept | apply trip_kept | apply when_kept | apply OutKept.next
    | split

theorem execIslandOscCheck_kept {count : BitVec 10} {s : State} (h : Kept μ s₀ s) :
    OutKept μ s₀ (execIslandOscCheck count s) := by
  unfold execIslandOscCheck
  repeat' first
    | (extract_lets +onlyGivenNames x; first | (refine Kept.aside (μ := μ) (s₀ := s₀) (x := x) ?_ ?_; clear_value x; revert x; refine Kept.hold ?_; intro x hx; rotate_left; subst x) | skip)
    | with_reducible first | assumption | apply Kept.ite | apply OutKept.ite
    | with_reducible intro _
    | with_reducible (apply kept_mk; assumption)
    | with_reducible first | apply classify_kept | apply OutKept.next
    | split

theorem execLockstepMismatch_kept {s : State} (h : Kept μ s₀ s) :
    OutKept μ s₀ (execLockstepMismatch s) := by
  unfold execLockstepMismatch
  repeat' first
    | with_reducible first | assumption
    | with_reducible first | apply trip_kept | apply OutKept.next

theorem execWatchdogOpenWindow_kept {s : State} (h : Kept μ s₀ s) :
    OutKept μ s₀ (execWatchdogOpenWindow s) := by
  unfold execWatchdogOpenWindow
  repeat' first
    | with_reducible first | assumption
    | with_reducible intro _ _ _
    | with_reducible intro _ _
    | with_reducible intro _
    | with_reducible first | apply arm_kept | apply onElapse_kept | apply put_kept | apply OutKept.next

theorem execWatchdogPeriodStart_kept {s : State} (h : Kept μ s₀ s) :
    OutKept μ s₀ (execWatchdogPeriodStart s) := by
  unfold execWatchdogPeriodStart
  repeat' first
    | with_reducible first | assumption | apply Kept.ite | apply OutKept.ite
    | with_reducible intro _ _ _
    | with_reducible intro _ _
    | with_reducible intro _
    | with_reducible first | apply onElapse_kept | apply startPeriod_kept | apply trip_kept | apply OutKept.next
    | split

theorem execWatchdogAnswer_kept {w : Word} {s : State} (h : Kept μ s₀ s) :
    OutKept μ s₀ (execWatchdogAnswer w s) := by
  unfold execWatchdogAnswer
  repeat' first
    | (extract_lets +onlyGivenNames x; first | (refine Kept.aside (μ := μ) (s₀ := s₀) (x := x) ?_ ?_; clear_value x; revert x; refine Kept.hold ?_; intro x hx; rotate_left; subst x) | skip)
    | with_reducible first | assumption | apply Kept.ite | apply OutKept.ite
    | with_reducible intro _
    | with_reducible (apply kept_mk; assumption)
    | with_reducible first | apply disarm_kept | apply flag_kept | apply set_kept | apply startPeriod_kept | apply trip_kept
                           | apply OutKept.next
    | split

theorem execBootTimerExpired_kept {s : State} (h : Kept μ s₀ s) :
    OutKept μ s₀ (execBootTimerExpired s) := by
  unfold execBootTimerExpired
  repeat' first
    | with_reducible first | assumption
    | with_reducible intro _ _ _
    | with_reducible intro _ _
    | with_reducible intro _
    | with_reducible first | apply onElapse_kept | apply trip_kept | apply OutKept.next

theorem execSealTimerExpired_kept {s : State} (h : Kept μ s₀ s) :
    OutKept μ s₀ (execSealTimerExpired s) := by
  unfold execSealTimerExpired
  repeat' first
    | with_reducible first | assumption
    | with_reducible intro _ _ _
    | with_reducible intro _ _
    | with_reducible intro _
    | with_reducible first | apply onElapse_kept | apply trip_kept | apply OutKept.next

theorem execSafHold_kept {s : State} (h : Kept μ s₀ s) :
    OutKept μ s₀ (execSafHold s) := by
  unfold execSafHold
  repeat' first
    | with_reducible first | assumption | apply Kept.ite | apply OutKept.ite
    | with_reducible intro _
    | with_reducible first | apply arm_kept | apply disarm_kept | apply newChallenge_kept | apply put_kept | apply set_kept
                           | apply OutKept.next
    | split

theorem execHoldTimerExpired_kept {s : State} (h : Kept μ s₀ s) :
    OutKept μ s₀ (execHoldTimerExpired s) := by
  unfold execHoldTimerExpired
  repeat' first
    | with_reducible first | assumption
    | with_reducible intro _ _ _
    | with_reducible intro _ _
    | with_reducible intro _
    | with_reducible first | apply onElapse_kept | apply trip_kept | apply OutKept.next

theorem execCollectorHeartbeatMissing_kept {s : State} (h : Kept μ s₀ s) :
    OutKept μ s₀ (execCollectorHeartbeatMissing s) := by
  unfold execCollectorHeartbeatMissing
  repeat' first
    | with_reducible first | assumption
    | with_reducible first | apply trip_kept | apply OutKept.next

theorem execClassifierTest_kept {right : Bool} {s : State} (h : Kept μ s₀ s) :
    OutKept μ s₀ (execClassifierTest right s) := by
  unfold execClassifierTest
  repeat' first
    | (extract_lets +onlyGivenNames x; first | (refine Kept.aside (μ := μ) (s₀ := s₀) (x := x) ?_ ?_; clear_value x; revert x; refine Kept.hold ?_; intro x hx; rotate_left; subst x) | skip)
    | with_reducible first | assumption | apply Kept.ite | apply OutKept.ite
    | with_reducible intro _
    | with_reducible (apply kept_mk; assumption)
    | with_reducible first | apply trip_kept | apply OutKept.next
    | split

theorem heartbeat_kept {s : State} {words : List Word} {e : Nat} (h : Kept μ s₀ s) :
    Kept μ s₀ (State.heartbeat s words e) := by
  unfold State.heartbeat
  repeat' first
    | (extract_lets +onlyGivenNames x; first | (refine Kept.aside (μ := μ) (s₀ := s₀) (x := x) ?_ ?_; clear_value x; revert x; refine Kept.hold ?_; intro x hx; rotate_left; subst x) | skip)
    | with_reducible first | assumption | apply Kept.ite
    | with_reducible intro _ _ _
    | with_reducible intro _ _
    | with_reducible intro _
    | with_reducible (apply kept_mk; assumption)
    | with_reducible first | apply trace_kept | apply raise_kept | apply set_kept | apply when_kept
    | split

theorem execEngineHeartbeatCheck_kept {words : List Word} {s : State} (h : Kept μ s₀ s) :
    OutKept μ s₀ (execEngineHeartbeatCheck words s) := by
  unfold execEngineHeartbeatCheck
  repeat' first
    | with_reducible first | assumption | apply Kept.ite | apply OutKept.ite
    | with_reducible intro _ _ _
    | with_reducible intro _ _
    | with_reducible intro _
    | with_reducible first | apply forAll_kept | apply heartbeat_kept | apply OutKept.next
    | split

theorem execSafOfftest_kept {follow : Bool} {s : State} (h : Kept μ s₀ s) :
    OutKept μ s₀ (execSafOfftest follow s) := by
  unfold execSafOfftest
  repeat' first
    | (extract_lets +onlyGivenNames x; first | (refine Kept.aside (μ := μ) (s₀ := s₀) (x := x) ?_ ?_; clear_value x; revert x; refine Kept.hold ?_; intro x hx; rotate_left; subst x) | skip)
    | with_reducible first | assumption | apply Kept.ite | apply OutKept.ite
    | with_reducible intro _
    | with_reducible (apply kept_mk; assumption)
    | with_reducible first | apply put_kept | apply raise_kept | apply OutKept.next
    | split

theorem execDieTempWarning_kept {s : State} (h : Kept μ s₀ s) :
    OutKept μ s₀ (execDieTempWarning s) := by
  unfold execDieTempWarning
  repeat' first
    | (extract_lets +onlyGivenNames x; first | (refine Kept.aside (μ := μ) (s₀ := s₀) (x := x) ?_ ?_; clear_value x; revert x; refine Kept.hold ?_; intro x hx; rotate_left; subst x) | skip)
    | with_reducible first | assumption | apply Kept.ite | apply OutKept.ite
    | with_reducible intro _
    | with_reducible (apply kept_mk; assumption)
    | with_reducible first | apply flag_kept | apply warn_kept | apply OutKept.next
    | split

theorem execMemoryEccError_kept {uncorrectable : Bool} {supervisor : Bool} {s : State} (h : Kept μ s₀ s) :
    OutKept μ s₀ (execMemoryEccError uncorrectable supervisor s) := by
  unfold execMemoryEccError
  repeat' first
    | with_reducible first | assumption | apply Kept.ite | apply OutKept.ite
    | with_reducible intro _
    | with_reducible first | apply classify_kept | apply flag_kept | apply trip_kept | apply OutKept.next
    | split

theorem coldRelease_kept {s : State} {j : RailId} (h : Kept μ s₀ s) :
    Kept μ s₀ (State.coldRelease s j) := by
  unfold State.coldRelease
  repeat' first
    | (extract_lets +onlyGivenNames x; first | (refine Kept.aside (μ := μ) (s₀ := s₀) (x := x) ?_ ?_; clear_value x; revert x; refine Kept.hold ?_; intro x hx; rotate_left; subst x) | skip)
    | with_reducible first | assumption | apply Kept.ite
    | with_reducible intro _
    | with_reducible first | apply releaseRail_kept | apply traceAsIn_kept
    | split

theorem coldStepAt_kept {s : State} {d : Nat} (h : Kept μ s₀ s) :
    Kept μ s₀ (State.coldStepAt s d) := by
  unfold State.coldStepAt
  repeat' first
    | (extract_lets +onlyGivenNames x; first | (refine Kept.aside (μ := μ) (s₀ := s₀) (x := x) ?_ ?_; clear_value x; revert x; refine Kept.hold ?_; intro x hx; rotate_left; subst x) | skip)
    | with_reducible first | assumption
    | with_reducible intro _ _ _
    | with_reducible intro _ _
    | with_reducible intro _
    | with_reducible (apply kept_mk; assumption)
    | with_reducible first | apply arm_kept | apply coldRelease_kept | apply forAll_kept | apply when_kept

theorem execColdRestart_kept {s : State} (h : Kept μ s₀ s) :
    OutKept μ s₀ (execColdRestart s) := by
  unfold execColdRestart
  repeat' first
    | (extract_lets +onlyGivenNames x; first | (refine Kept.aside (μ := μ) (s₀ := s₀) (x := x) ?_ ?_; clear_value x; revert x; refine Kept.hold ?_; intro x hx; rotate_left; subst x) | skip)
    | with_reducible first | assumption
    | with_reducible intro _ _ _
    | with_reducible intro _ _
    | with_reducible intro _
    | split
    | with_reducible (apply kept_mk; assumption)
    | with_reducible first | apply arm_kept | apply coldStepAt_kept | apply onElapse_kept | apply set_kept
                           | apply OutKept.next
    | (clear_value *; split)

theorem execColdRestartStep_kept {s : State} (h : Kept true s₀ s) :
    OutKept true s₀ (execColdRestartStep s) := by
  unfold execColdRestartStep
  repeat' first
    | (extract_lets +onlyGivenNames x; first | (refine Kept.aside (μ := true) (s₀ := s₀) (x := x) ?_ ?_; clear_value x; revert x; refine Kept.hold ?_; intro x hx; rotate_left; subst x) | skip)
    | with_reducible first | assumption
    | with_reducible intro _ _ _
    | with_reducible intro _ _
    | with_reducible intro _
    | split
    | with_reducible (apply kept_mk; assumption)
    | with_reducible first | apply coldStepAt_kept | apply flag_kept | apply internalRestart_kept | apply onElapse_kept
                           | apply put_kept | apply OutKept.next
    | (clear_value *; split)

theorem execSafAck_kept {s : State} (h : Kept μ s₀ s) :
    OutKept μ s₀ (execSafAck s) := by
  unfold execSafAck
  repeat' first
    | with_reducible first | assumption | apply Kept.ite | apply OutKept.ite
    | with_reducible intro _
    | with_reducible first | apply set_kept | apply OutKept.next
    | split

theorem execSafXchkRead_kept {s : State} (h : Kept μ s₀ s) :
    OutKept μ s₀ (execSafXchkRead s) := by
  unfold execSafXchkRead
  repeat' first
    | (extract_lets +onlyGivenNames x; first | (refine Kept.aside (μ := μ) (s₀ := s₀) (x := x) ?_ ?_; clear_value x; revert x; refine Kept.hold ?_; intro x hx; rotate_left; subst x) | skip)
    | with_reducible first | assumption
    | with_reducible (apply kept_mk; assumption)
    | with_reducible first | apply OutKept.next

/-! Machine/Faults -/

theorem countFault_kept {s : State} {code : Nat} (h : Kept μ s₀ s) :
    Kept μ s₀ (State.countFault s code).2 := by
  unfold State.countFault
  repeat' first
    | (extract_lets +onlyGivenNames x; first | (refine Kept.aside (μ := μ) (s₀ := s₀) (x := x) ?_ ?_; clear_value x; revert x; refine Kept.hold ?_; intro x hx; rotate_left; subst x) | (refine Kept.aside2 (μ := μ) (s₀ := s₀) (x := x) ?_ ?_; clear_value x; revert x; refine Kept.hold ?_; intro x hx; rotate_left; subst x) | skip)
    | with_reducible first | assumption | apply Kept.ite
    | with_reducible intro _
    | dsimp only
    | split
    | with_reducible first | apply escalate_kept

theorem classifyTogether_kept {s : State} {codes : List Nat} (h : Kept μ s₀ s) :
    Kept μ s₀ (State.classifyTogether s codes) := by
  unfold State.classifyTogether
  repeat' first
    | (extract_lets +onlyGivenNames x; first | (refine Kept.aside (μ := μ) (s₀ := s₀) (x := x) ?_ ?_; clear_value x; revert x; refine Kept.hold ?_; intro x hx; rotate_left; subst x) | (refine Kept.aside2 (μ := μ) (s₀ := s₀) (x := x) ?_ ?_; clear_value x; revert x; refine Kept.hold ?_; intro x hx; rotate_left; subst x) | skip)
    | with_reducible first | assumption
    | with_reducible intro _ _ _
    | with_reducible intro _ _
    | with_reducible intro _
    | dsimp only
    | split
    | with_reducible (apply kept_mk; assumption)
    | with_reducible first | apply foldl_kept | apply forAll_kept | apply react_kept | apply setWord_kept
    | with_reducible first | apply countFault_kept | apply foldl2_kept
    | (clear_value *; split)

theorem execFaultClassify_kept {codes : List (BitVec 16)} {s : State} (h : Kept μ s₀ s) :
    OutKept μ s₀ (execFaultClassify codes s) := by
  unfold execFaultClassify
  repeat' first
    | (extract_lets +onlyGivenNames x; first | (refine Kept.aside (μ := μ) (s₀ := s₀) (x := x) ?_ ?_; clear_value x; revert x; refine Kept.hold ?_; intro x hx; rotate_left; subst x) | skip)
    | with_reducible first | assumption | apply Kept.ite | apply OutKept.ite
    | with_reducible intro _ _ _
    | with_reducible intro _ _
    | with_reducible intro _
    | split
    | with_reducible (apply kept_mk; assumption)
    | with_reducible first | apply bump_kept | apply classifyTogether_kept | apply find_kept | apply flag_kept
                           | apply foldl_kept | apply forAll_kept | apply trip_kept | apply when_kept | apply OutKept.next
    | with_reducible first | apply foldl2_kept
    | (clear_value *; split)

theorem execFaultRecordPost_kept {s : State} (h : Kept μ s₀ s) :
    OutKept μ s₀ (execFaultRecordPost s) := by
  unfold execFaultRecordPost
  repeat' first
    | (extract_lets +onlyGivenNames x; first | (refine Kept.aside (μ := μ) (s₀ := s₀) (x := x) ?_ ?_; clear_value x; revert x; refine Kept.hold ?_; intro x hx; rotate_left; subst x) | skip)
    | with_reducible first | assumption | apply Kept.ite | apply OutKept.ite
    | with_reducible intro _
    | split
    | with_reducible (apply kept_mk; assumption)
    | with_reducible first | apply postEvent_kept | apply OutKept.next

theorem execFlagClear_kept {reg : BitVec 16} {w : Word} {hw : Word} {s : State} (h : Kept μ s₀ s) :
    OutKept μ s₀ (execFlagClear reg w hw s) := by
  unfold execFlagClear
  repeat' first
    | (extract_lets +onlyGivenNames x; first | (refine Kept.aside (μ := μ) (s₀ := s₀) (x := x) ?_ ?_; clear_value x; revert x; refine Kept.hold ?_; intro x hx; rotate_left; subst x) | skip)
    | with_reducible first | assumption
    | with_reducible intro _ _ _
    | with_reducible intro _ _
    | with_reducible intro _
    | with_reducible first | apply clearWithSet_kept | apply forAll_kept | apply when_kept | apply OutKept.next

theorem execFltInj_kept {w : Word} {s : State} (h : Kept μ s₀ s) :
    OutKept μ s₀ (execFltInj w s) := by
  unfold execFltInj
  repeat' first
    | (extract_lets +onlyGivenNames x; first | (refine Kept.aside (μ := μ) (s₀ := s₀) (x := x) ?_ ?_; clear_value x; revert x; refine Kept.hold ?_; intro x hx; rotate_left; subst x) | (refine Kept.aside2 (μ := μ) (s₀ := s₀) (x := x) ?_ ?_; clear_value x; revert x; refine Kept.hold ?_; intro x hx; rotate_left; subst x) | skip)
    | with_reducible first | assumption | apply Kept.ite | apply OutKept.ite
    | with_reducible intro _ _ _
    | with_reducible intro _ _
    | with_reducible intro _
    | dsimp only
    | split
    | with_reducible (apply kept_mk; assumption)
    | with_reducible first | apply bump_kept | apply fatal_kept | apply flag_kept | apply recordFault_kept | apply when_kept
                           | apply OutKept.next
    | with_reducible first | apply countFault_kept
    | (clear_value *; split)

theorem suspendFor_kept {s : State} {w : Nat} (h : Kept μ s₀ s) :
    Kept μ s₀ (State.suspendFor s w) := by
  unfold State.suspendFor
  repeat' first
    | (extract_lets +onlyGivenNames x; first | (refine Kept.aside (μ := μ) (s₀ := s₀) (x := x) ?_ ?_; clear_value x; revert x; refine Kept.hold ?_; intro x hx; rotate_left; subst x) | skip)
    | with_reducible first | assumption | apply Kept.ite
    | with_reducible intro _
    | with_reducible (apply kept_mk; assumption)
    | split

theorem rereadOtp_kept {s : State} {reads : List (Nat × Word × Word × Word)} (h : Kept μ s₀ s) :
    Kept μ s₀ (State.rereadOtp s reads) := by
  unfold State.rereadOtp
  repeat' first
    | (extract_lets +onlyGivenNames x; first | (refine Kept.aside (μ := μ) (s₀ := s₀) (x := x) ?_ ?_; clear_value x; revert x; refine Kept.hold ?_; intro x hx; rotate_left; subst x) | skip)
    | with_reducible first | assumption
    | with_reducible intro _ _ _
    | with_reducible intro _ _
    | with_reducible intro _
    | with_reducible (apply kept_mk; assumption)
    | with_reducible first | apply arm_kept | apply bump_kept | apply flag_kept | apply foldl_kept | apply forAll_kept
                           | apply gateMoved_kept | apply put_kept | apply raise_kept | apply set_kept | apply showOtp_kept
                           | apply suspendFor_kept | apply when_kept
    | with_reducible first | apply foldl2_kept

theorem execOtpFullReread_kept {daily : Bool} {reads : List (Nat × Word × Word × Word)} {s : State} (h : Kept μ s₀ s) :
    OutKept μ s₀ (execOtpFullReread daily reads s) := by
  unfold execOtpFullReread
  repeat' first
    | (extract_lets +onlyGivenNames x; first | (refine Kept.aside (μ := μ) (s₀ := s₀) (x := x) ?_ ?_; clear_value x; revert x; refine Kept.hold ?_; intro x hx; rotate_left; subst x) | skip)
    | with_reducible first | assumption | apply Kept.ite | apply OutKept.ite
    | with_reducible intro _ _ _
    | with_reducible intro _ _
    | with_reducible intro _
    | split
    | with_reducible (apply kept_mk; assumption)
    | with_reducible first | apply onElapse_kept | apply rereadOtp_kept | apply OutKept.next

/-! Machine/TimeBase -/

theorem modAlarm_kept {s : State} {a : Nat} {f : Alarm → Alarm} (h : Kept μ s₀ s) :
    Kept μ s₀ (State.modAlarm s a f) := by
  unfold State.modAlarm
  repeat' first
    | (extract_lets +onlyGivenNames x; first | (refine Kept.aside (μ := μ) (s₀ := s₀) (x := x) ?_ ?_; clear_value x; revert x; refine Kept.hold ?_; intro x hx; rotate_left; subst x) | skip)
    | with_reducible first | assumption
    | with_reducible intro _ _ _
    | with_reducible intro _ _
    | with_reducible intro _
    | with_reducible (apply kept_mk; assumption)

theorem modTmr_kept {s : State} {t : Nat} {f : Tmr → Tmr} (h : Kept μ s₀ s) :
    Kept μ s₀ (State.modTmr s t f) := by
  unfold State.modTmr
  repeat' first
    | (extract_lets +onlyGivenNames x; first | (refine Kept.aside (μ := μ) (s₀ := s₀) (x := x) ?_ ?_; clear_value x; revert x; refine Kept.hold ?_; intro x hx; rotate_left; subst x) | skip)
    | with_reducible first | assumption
    | with_reducible intro _ _ _
    | with_reducible intro _ _
    | with_reducible intro _
    | with_reducible (apply kept_mk; assumption)

theorem tmrStart_kept {s : State} {t : Nat} (h : Kept μ s₀ s) :
    Kept μ s₀ (State.tmrStart s t) := by
  unfold State.tmrStart
  repeat' first
    | with_reducible first | assumption
    | with_reducible intro _ _ _
    | with_reducible intro _ _
    | with_reducible intro _
    | with_reducible first | apply modTmr_kept

theorem tmrCount_kept {s : State} {t : Nat} (h : Kept μ s₀ s) :
    Kept μ s₀ (State.tmrCount s t).2 := by
  unfold State.tmrCount
  repeat' first
    | (extract_lets +onlyGivenNames x; first | (refine Kept.aside (μ := μ) (s₀ := s₀) (x := x) ?_ ?_; clear_value x; revert x; refine Kept.hold ?_; intro x hx; rotate_left; subst x) | (refine Kept.aside2 (μ := μ) (s₀ := s₀) (x := x) ?_ ?_; clear_value x; revert x; refine Kept.hold ?_; intro x hx; rotate_left; subst x) | skip)
    | with_reducible first | assumption | apply Kept.ite
    | with_reducible intro _ _ _
    | with_reducible intro _ _
    | with_reducible intro _
    | dsimp only
    | split
    | with_reducible (apply kept_mk; assumption)
    | with_reducible first | apply flag_kept | apply modTmr_kept

theorem tmrCycle_kept {s : State} {fabric : Bool} {strobe : Option Nat} {wraps : List Nat} {t : Nat} (h : Kept μ s₀ s) :
    Kept μ s₀ (State.tmrCycle s fabric strobe wraps t).2 := by
  unfold State.tmrCycle
  repeat' first
    | (extract_lets +onlyGivenNames x; first | (refine Kept.aside (μ := μ) (s₀ := s₀) (x := x) ?_ ?_; clear_value x; revert x; refine Kept.hold ?_; intro x hx; rotate_left; subst x) | (refine Kept.aside2 (μ := μ) (s₀ := s₀) (x := x) ?_ ?_; clear_value x; revert x; refine Kept.hold ?_; intro x hx; rotate_left; subst x) | skip)
    | with_reducible first | assumption | apply Kept.ite
    | with_reducible intro _ _ _
    | with_reducible intro _ _
    | with_reducible intro _
    | dsimp only
    | split
    | with_reducible (apply kept_mk; assumption)
    | with_reducible first | apply modTmr_kept | apply tmrStart_kept | apply when_kept
    | with_reducible first | apply tmrCount_kept

theorem tmrRound_kept {s : State} {fabric : Nat → Bool} {strobe : Option Nat} (h : Kept μ s₀ s) :
    Kept μ s₀ (State.tmrRound s fabric strobe) := by
  unfold State.tmrRound
  repeat' first
    | with_reducible first | assumption
    | with_reducible intro _ _ _
    | with_reducible intro _ _
    | with_reducible intro _
    | dsimp only
    | with_reducible first | apply foldl_kept
    | with_reducible first | apply foldl2_kept | apply tmrCycle_kept

theorem cmpHold_kept {s : State} {c : Nat} {n : Nat} (h : Kept μ s₀ s) :
    Kept μ s₀ (State.cmpHold s c n) := by
  unfold State.cmpHold
  repeat' first
    | (extract_lets +onlyGivenNames x; first | (refine Kept.aside (μ := μ) (s₀ := s₀) (x := x) ?_ ?_; clear_value x; revert x; refine Kept.hold ?_; intro x hx; rotate_left; subst x) | skip)
    | with_reducible first | assumption
    | with_reducible intro _ _ _
    | with_reducible intro _ _
    | with_reducible intro _
    | with_reducible (apply kept_mk; assumption)

theorem execCompareStrobe_kept {c : Fin 48} {s : State} (h : Kept μ s₀ s) :
    OutKept μ s₀ (execCompareStrobe c s) := by
  unfold execCompareStrobe
  repeat' first
    | (extract_lets +onlyGivenNames x; first | (refine Kept.aside (μ := μ) (s₀ := s₀) (x := x) ?_ ?_; clear_value x; revert x; refine Kept.hold ?_; intro x hx; rotate_left; subst x) | skip)
    | with_reducible first | assumption | apply Kept.ite | apply OutKept.ite
    | with_reducible intro _ _ _
    | with_reducible intro _ _
    | with_reducible intro _
    | with_reducible first | apply advanceTo_kept | apply cmpHold_kept | apply set_kept | apply tmrRound_kept
                           | apply OutKept.next
    | split

theorem execCmpCfgWrite_kept {c : Fin 48} {w : Word} {s : State} (h : Kept μ s₀ s) :
    OutKept μ s₀ (execCmpCfgWrite c w s) := by
  unfold execCmpCfgWrite
  repeat' first
    | with_reducible first | assumption
    | with_reducible first | apply cmpHold_kept | apply setWord_kept | apply OutKept.next

theorem fireAlarm_kept {s : State} {a : Nat} (h : Kept μ s₀ s) :
    Kept μ s₀ (State.fireAlarm s a) := by
  unfold State.fireAlarm
  repeat' first
    | (extract_lets +onlyGivenNames x; first | (refine Kept.aside (μ := μ) (s₀ := s₀) (x := x) ?_ ?_; clear_value x; revert x; refine Kept.hold ?_; intro x hx; rotate_left; subst x) | skip)
    | with_reducible first | assumption
    | with_reducible intro _ _ _
    | with_reducible intro _ _
    | with_reducible intro _
    | with_reducible (apply kept_mk; assumption)
    | with_reducible first | apply captureEvent_kept | apply flag_kept | apply modAlarm_kept

theorem execAlarmAtlWrite_kept {w : Word} {s : State} (h : Kept μ s₀ s) :
    OutKept μ s₀ (execAlarmAtlWrite w s) := by
  unfold execAlarmAtlWrite
  repeat' first
    | (extract_lets +onlyGivenNames x; first | (refine Kept.aside (μ := μ) (s₀ := s₀) (x := x) ?_ ?_; clear_value x; revert x; refine Kept.hold ?_; intro x hx; rotate_left; subst x) | skip)
    | with_reducible first | assumption
    | with_reducible intro _ _ _
    | with_reducible intro _ _
    | with_reducible intro _
    | with_reducible (apply kept_mk; assumption)
    | with_reducible first | apply modAlarm_kept | apply OutKept.next

theorem execAlarmSetTime_kept {w : Word} {s : State} (h : Kept μ s₀ s) :
    OutKept μ s₀ (execAlarmSetTime w s) := by
  unfold execAlarmSetTime
  repeat' first
    | (extract_lets +onlyGivenNames x; first | (refine Kept.aside (μ := μ) (s₀ := s₀) (x := x) ?_ ?_; clear_value x; revert x; refine Kept.hold ?_; intro x hx; rotate_left; subst x) | skip)
    | with_reducible first | assumption
    | with_reducible intro _ _ _
    | with_reducible intro _ _
    | with_reducible intro _
    | with_reducible (apply kept_mk; assumption)
    | with_reducible first | apply fireAlarm_kept | apply modAlarm_kept | apply when_kept | apply OutKept.next

theorem execAlarmArm_kept {w : Word} {s : State} (h : Kept μ s₀ s) :
    OutKept μ s₀ (execAlarmArm w s) := by
  unfold execAlarmArm
  repeat' first
    | (extract_lets +onlyGivenNames x; first | (refine Kept.aside (μ := μ) (s₀ := s₀) (x := x) ?_ ?_; clear_value x; revert x; refine Kept.hold ?_; intro x hx; rotate_left; subst x) | skip)
    | with_reducible first | assumption
    | with_reducible intro _ _ _
    | with_reducible intro _ _
    | with_reducible intro _
    | with_reducible (apply kept_mk; assumption)
    | with_reducible first | apply modAlarm_kept | apply OutKept.next

theorem execAlarmFire_kept {a : Fin 32} {s : State} (h : Kept μ s₀ s) :
    OutKept μ s₀ (execAlarmFire a s) := by
  unfold execAlarmFire
  repeat' first
    | (extract_lets +onlyGivenNames x; first | (refine Kept.aside (μ := μ) (s₀ := s₀) (x := x) ?_ ?_; clear_value x; revert x; refine Kept.hold ?_; intro x hx; rotate_left; subst x) | skip)
    | with_reducible first | assumption | apply Kept.ite | apply OutKept.ite
    | with_reducible intro _
    | with_reducible first | apply advanceTo_kept | apply fireAlarm_kept | apply OutKept.next
    | split

theorem execTimerTick_kept {t : Fin 16} {s : State} (h : Kept μ s₀ s) :
    OutKept μ s₀ (execTimerTick t s) := by
  unfold execTimerTick
  repeat' first
    | with_reducible first | assumption
    | with_reducible intro _ _ _
    | with_reducible intro _ _
    | with_reducible intro _
    | with_reducible first | apply tmrRound_kept | apply OutKept.next

theorem execTimerStart_kept {w : Word} {s : State} (h : Kept μ s₀ s) :
    OutKept μ s₀ (execTimerStart w s) := by
  unfold execTimerStart
  repeat' first
    | with_reducible first | assumption
    | with_reducible intro _ _ _
    | with_reducible intro _ _
    | with_reducible intro _
    | with_reducible first | apply forAll_kept | apply tmrStart_kept | apply OutKept.next

theorem execTimerStop_kept {w : Word} {s : State} (h : Kept μ s₀ s) :
    OutKept μ s₀ (execTimerStop w s) := by
  unfold execTimerStop
  repeat' first
    | (extract_lets +onlyGivenNames x; first | (refine Kept.aside (μ := μ) (s₀ := s₀) (x := x) ?_ ?_; clear_value x; revert x; refine Kept.hold ?_; intro x hx; rotate_left; subst x) | skip)
    | with_reducible first | assumption
    | with_reducible intro _ _ _
    | with_reducible intro _ _
    | with_reducible intro _
    | with_reducible (apply kept_mk; assumption)
    | with_reducible first | apply forAll_kept | apply modTmr_kept | apply OutKept.next

theorem crcRefuse_kept {s : State} {u : Nat} (h : Kept μ s₀ s) :
    Kept μ s₀ (State.crcRefuse s u) := by
  unfold State.crcRefuse
  repeat' first
    | with_reducible first | assumption
    | with_reducible first | apply flag_kept

theorem crcSet_kept {s : State} {u : Nat} {v : Nat} (h : Kept μ s₀ s) :
    Kept μ s₀ (State.crcSet s u v) := by
  unfold State.crcSet
  repeat' first
    | with_reducible first | assumption
    | with_reducible first | apply set_kept

theorem crcAbsorb_kept {s : State} {u : Nat} {bs : List Byte} (h : Kept μ s₀ s) :
    Kept μ s₀ (State.crcAbsorb s u bs) := by
  unfold State.crcAbsorb
  repeat' first
    | (extract_lets +onlyGivenNames x; first | (refine Kept.aside (μ := μ) (s₀ := s₀) (x := x) ?_ ?_; clear_value x; revert x; refine Kept.hold ?_; intro x hx; rotate_left; subst x) | skip)
    | with_reducible first | assumption | apply Kept.ite
    | with_reducible intro _ _ _
    | with_reducible intro _ _
    | with_reducible intro _
    | with_reducible first | apply bump_kept | apply crcSet_kept | apply put_kept | apply when_kept
    | split

theorem execCrcInit_kept {u : Fin 4} {writer : Fin 17} {w : Word} {s : State} (h : Kept μ s₀ s) :
    OutKept μ s₀ (execCrcInit u writer w s) := by
  unfold execCrcInit
  repeat' first
    | (extract_lets +onlyGivenNames x; first | (refine Kept.aside (μ := μ) (s₀ := s₀) (x := x) ?_ ?_; clear_value x; revert x; refine Kept.hold ?_; intro x hx; rotate_left; subst x) | skip)
    | with_reducible first | assumption | apply Kept.ite | apply OutKept.ite
    | with_reducible intro _
    | with_reducible first | apply crcRefuse_kept | apply crcSet_kept | apply put_kept | apply set_kept | apply setWord_kept
                           | apply OutKept.next
    | split

theorem execCrcFeed_kept {u : Fin 4} {writer : Fin 17} {w : Word} {s : State} (h : Kept μ s₀ s) :
    OutKept μ s₀ (execCrcFeed u writer w s) := by
  unfold execCrcFeed
  repeat' first
    | with_reducible first | assumption | apply Kept.ite | apply OutKept.ite
    | with_reducible intro _
    | with_reducible first | apply crcAbsorb_kept | apply crcRefuse_kept | apply OutKept.next
    | split

theorem execCrcBlock_kept {u : Fin 4} {writer : Fin 17} {w : Word} {s : State} (h : Kept μ s₀ s) :
    OutKept μ s₀ (execCrcBlock u writer w s) := by
  unfold execCrcBlock
  repeat' first
    | (extract_lets +onlyGivenNames x; first | (refine Kept.aside (μ := μ) (s₀ := s₀) (x := x) ?_ ?_; clear_value x; revert x; refine Kept.hold ?_; intro x hx; rotate_left; subst x) | skip)
    | with_reducible first | assumption | apply Kept.ite | apply OutKept.ite
    | with_reducible intro _ _ _
    | with_reducible intro _ _
    | with_reducible intro _
    | with_reducible first | apply crcRefuse_kept | apply put_kept | apply setWord_kept | apply when_kept
                           | apply OutKept.next
    | split

theorem sramWrite_kept {s : State} {base : Nat} {bs : List Byte} (h : Kept true s₀ s) : Kept true s₀ (s.sramWrite base bs) :=
  Kept.sram h rfl rfl rfl rfl (bankWf_foldl _ _ (fun _ _ hm => bankWf_write _ _ _ _ hm) _ _) rfl rfl

theorem execCrcBlockComplete_kept {u : Fin 4} {s : State} (h : Kept true s₀ s) :
    OutKept true s₀ (execCrcBlockComplete u s) := by
  unfold execCrcBlockComplete
  repeat' first
    | (extract_lets +onlyGivenNames x; first | (refine Kept.aside (μ := true) (s₀ := s₀) (x := x) ?_ ?_; clear_value x; revert x; refine Kept.hold ?_; intro x hx; rotate_left; subst x) | (refine Kept.aside2 (μ := true) (s₀ := s₀) (x := x) ?_ ?_; clear_value x; revert x; refine Kept.hold ?_; intro x hx; rotate_left; subst x) | skip)
    | with_reducible first | assumption | apply Kept.ite | apply OutKept.ite
    | with_reducible intro _ _ _
    | with_reducible intro _ _
    | with_reducible intro _
    | dsimp only
    | split
    | with_reducible first | apply crcAbsorb_kept | apply flag_kept | apply put_kept | apply sramWrite_kept
                           | apply when_kept | apply OutKept.next
    | with_reducible first | apply takeFree_kept

theorem execCrcCtxRestore_kept {u : Fin 4} {writer : Fin 17} {w : Word} {s : State} (h : Kept μ s₀ s) :
    OutKept μ s₀ (execCrcCtxRestore u writer w s) := by
  unfold execCrcCtxRestore
  repeat' first
    | with_reducible first | assumption | apply Kept.ite | apply OutKept.ite
    | with_reducible intro _
    | with_reducible first | apply crcRefuse_kept | apply crcSet_kept | apply put_kept | apply OutKept.next
    | split

theorem writeBlka_kept {s : State} {u : Nat} {writer : Nat} {w : Word} (h : Kept μ s₀ s) :
    Kept μ s₀ (State.writeBlka s u writer w) := by
  unfold State.writeBlka
  repeat' first
    | with_reducible first | assumption | apply Kept.ite
    | with_reducible intro _
    | with_reducible first | apply crcRefuse_kept | apply setWord_kept
    | split

theorem idle_kept {s : State} (h : Kept μ s₀ s) : Kept μ s₀ s.idle := h.trans ⟨rfl, id, Nat.le_add_right _ _, fun _ => BitVec.and_self, fun _ => ⟨rfl, rfl, rfl, rfl⟩⟩

/-! Machine/RegOps -/

theorem outState_kept {o : Out} {s : State} (ho : OutKept μ s₀ o) : Kept μ s₀ (outState o s) := by
  obtain ⟨t, rfl, ht⟩ := ho
  exact ht

theorem takeGroup_kept {s : State} {a : Nat} (h : Kept μ s₀ s) :
    Kept μ s₀ (State.takeGroup s a) := by
  unfold State.takeGroup
  repeat' first
    | (extract_lets +onlyGivenNames x; first | (refine Kept.aside (μ := μ) (s₀ := s₀) (x := x) ?_ ?_; clear_value x; revert x; refine Kept.hold ?_; intro x hx; rotate_left; subst x) | skip)
    | with_reducible first | assumption
    | with_reducible intro _ _ _
    | with_reducible intro _ _
    | with_reducible intro _
    | with_reducible (apply kept_mk; assumption)
    | with_reducible first | apply foldl_kept
    | with_reducible first | apply foldl2_kept

theorem takeWindow_kept {s : State} (h : Kept μ s₀ s) :
    Kept μ s₀ (State.takeWindow s) := by
  unfold State.takeWindow
  repeat' first
    | (extract_lets +onlyGivenNames x; first | (refine Kept.aside (μ := μ) (s₀ := s₀) (x := x) ?_ ?_; clear_value x; revert x; refine Kept.hold ?_; intro x hx; rotate_left; subst x) | skip)
    | with_reducible first | assumption
    | with_reducible (apply kept_mk; assumption)

theorem readEffect_kept {s : State} {a : Nat} (h : Kept μ s₀ s) :
    Kept μ s₀ (State.readEffect s a) := by
  unfold State.readEffect
  repeat' first
    | (extract_lets +onlyGivenNames x; first | (refine Kept.aside (μ := μ) (s₀ := s₀) (x := x) ?_ ?_; clear_value x; revert x; refine Kept.hold ?_; intro x hx; rotate_left; subst x) | skip)
    | with_reducible first | assumption | apply Kept.ite
    | with_reducible intro _ _ _
    | with_reducible intro _ _
    | with_reducible intro _
    | with_reducible first | apply execHubBufRead_kept | apply execSafXchkRead_kept | apply execSchDataRead_kept
                           | apply outState_kept | apply takeGroup_kept | apply takeWindow_kept | apply when_kept
    | split

theorem writeEvtRd_kept {s : State} {v : Nat} (h : Kept μ s₀ s) :
    Kept μ s₀ (State.writeEvtRd s v) := by
  unfold State.writeEvtRd
  repeat' first
    | (extract_lets +onlyGivenNames x; first | (refine Kept.aside (μ := μ) (s₀ := s₀) (x := x) ?_ ?_; clear_value x; revert x; refine Kept.hold ?_; intro x hx; rotate_left; subst x) | skip)
    | with_reducible first | assumption | apply Kept.ite
    | with_reducible intro _
    | with_reducible first | apply set_kept
    | split

theorem writeMbxCtrl_kept {s : State} {w : Word} (h : Kept μ s₀ s) :
    Kept μ s₀ (State.writeMbxCtrl s w) := by
  unfold State.writeMbxCtrl
  repeat' first
    | with_reducible first | assumption | apply Kept.ite
    | with_reducible intro _
    | with_reducible first | apply execMbxGo_kept | apply execMbxTake_kept | apply outState_kept
    | split

theorem writeCrc_kept {s : State} {a : Nat} {w : Word} (h : Kept μ s₀ s) :
    OptKept μ s₀ (State.writeCrc s a w) := by
  unfold State.writeCrc
  repeat' first
    | (extract_lets +onlyGivenNames x; first | (refine Kept.aside (μ := μ) (s₀ := s₀) (x := x) ?_ ?_; clear_value x; revert x; refine Kept.hold ?_; intro x hx; rotate_left; subst x) | skip)
    | with_reducible first | assumption | apply Kept.ite
    | with_reducible intro _
    | with_reducible first | apply execCrcBlock_kept | apply execCrcCtxRestore_kept | apply execCrcFeed_kept
                           | apply execCrcInit_kept | apply outState_kept | apply writeBlka_kept | apply OptKept.none
                           | apply OptKept.some | apply OptKept.ite | apply OptKept.dite
    | split

theorem writeTmr_kept {s : State} {a : Nat} {w : Word} (h : Kept μ s₀ s) :
    OptKept μ s₀ (State.writeTmr s a w) := by
  unfold State.writeTmr
  repeat' first
    | with_reducible first | assumption | apply Kept.ite
    | with_reducible intro _
    | with_reducible first | apply execAlarmArm_kept | apply execAlarmAtlWrite_kept | apply execAlarmSetTime_kept
                           | apply execTimerStart_kept | apply execTimerStop_kept | apply outState_kept | apply OptKept.none
                           | apply OptKept.some | apply OptKept.ite | apply OptKept.dite
    | split

theorem writeData_kept {s : State} {a : Nat} {w : Word} (h : Kept μ s₀ s) :
    OptKept μ s₀ (State.writeData s a w) := by
  unfold State.writeData
  repeat' first
    | (extract_lets +onlyGivenNames x; first | (refine Kept.aside (μ := μ) (s₀ := s₀) (x := x) ?_ ?_; clear_value x; revert x; refine Kept.hold ?_; intro x hx; rotate_left; subst x) | skip)
    | with_reducible first | assumption | apply Kept.ite
    | with_reducible intro _ _ _
    | with_reducible intro _ _
    | with_reducible intro _
    | with_reducible first | apply execCaptureArm_kept | apply execCaptureRelease_kept | apply execCaptureSend_kept
                           | apply execFflSelLoad_kept | apply execHisSelLoad_kept | apply execHubCounterClear_kept
                           | apply execTlmStrWrite_kept | apply outState_kept | apply setWord_kept | apply when_kept
                           | apply OptKept.none | apply OptKept.some | apply OptKept.ite | apply OptKept.dite
    | split

theorem writeSpecial_kept {s : State} {a : Nat} {w : Word} (h : Kept μ s₀ s) :
    OptKept μ s₀ (State.writeSpecial s a w) := by
  unfold State.writeSpecial
  repeat' first
    | with_reducible first | assumption | apply Kept.ite
    | with_reducible intro _
    | with_reducible first | apply execCmpCfgWrite_kept | apply execFltInj_kept | apply outState_kept | apply writeCrc_kept
                           | apply writeData_kept | apply writeEvtRd_kept | apply writeMbxCtrl_kept | apply writeTmr_kept
                           | apply OptKept.none | apply OptKept.some | apply OptKept.ite | apply OptKept.dite
    | split

theorem commitWord_kept {s : State} {a : Nat} {w : Word} (h : Kept μ s₀ s) : Kept μ s₀ (s.commitWord a w) := by
  unfold State.commitWord
  split
  · exact h
  · split
    · exact h
    · rename_i f _
      have hw : Kept μ s₀ (s.when (f.rws != 0#32) fun t => t.bump F.PROT_STATUS_WR_REFUSED 1) := when_kept h fun _ ht => bump_kept ht
      extract_lets x
      change Kept μ s₀ x at hw
      clear_value x
      split
      · exact writeSpecial_kept hw _ ‹_›
      · exact setWord_kept hw

theorem margin_kept {s : State} {j : RailId} {t : Int} (h : Kept μ s₀ s) :
    Kept μ s₀ (State.margin s j t) := by
  unfold State.margin
  repeat' first
    | (extract_lets +onlyGivenNames x; first | (refine Kept.aside (μ := μ) (s₀ := s₀) (x := x) ?_ ?_; clear_value x; revert x; refine Kept.hold ?_; intro x hx; rotate_left; subst x) | skip)
    | with_reducible first | assumption
    | with_reducible first | apply setMargin_kept

theorem commitAuth_kept {s : State} {a : Nat} {w : Word} (h : Kept μ s₀ s) :
    Kept μ s₀ (State.commitAuth s a w) := by
  unfold State.commitAuth
  repeat' first
    | (extract_lets +onlyGivenNames x; first | (refine Kept.aside (μ := μ) (s₀ := s₀) (x := x) ?_ ?_; clear_value x; revert x; refine Kept.hold ?_; intro x hx; rotate_left; subst x) | skip)
    | with_reducible first | assumption | apply Kept.ite
    | with_reducible intro _ _ _
    | with_reducible intro _ _
    | with_reducible intro _
    | split
    | with_reducible (apply kept_mk; assumption)
    | with_reducible first | apply execSchDataWrite_kept | apply execSchSwapReq_kept | apply margin_kept
                           | apply outState_kept | apply setWord_kept | apply when_kept | apply writeSchWord_kept

/-! Machine/Commands -/

theorem readWords_kept {s : State} {l : List Nat} (h : Kept μ s₀ s) :
    Kept μ s₀ (State.readWords s l).2 := by
  unfold State.readWords
  repeat' first
    | with_reducible first | assumption
    | with_reducible intro _ _ _
    | with_reducible intro _ _
    | with_reducible intro _
    | dsimp only
    | with_reducible first | apply foldl_kept | apply readEffect_kept
    | with_reducible first | apply foldl2_kept

theorem execRegRead_kept {arg : Option (List (BitVec 16))} {s : State} (h : Kept μ s₀ s) :
    OutKept μ s₀ (execRegRead arg s) := by
  unfold execRegRead
  repeat' first
    | (extract_lets +onlyGivenNames x; first | (refine Kept.aside (μ := μ) (s₀ := s₀) (x := x) ?_ ?_; clear_value x; revert x; refine Kept.hold ?_; intro x hx; rotate_left; subst x) | (refine Kept.aside2 (μ := μ) (s₀ := s₀) (x := x) ?_ ?_; clear_value x; revert x; refine Kept.hold ?_; intro x hx; rotate_left; subst x) | skip)
    | with_reducible first | assumption | apply Kept.ite | apply OutKept.ite
    | with_reducible intro _ _ _
    | with_reducible intro _ _
    | with_reducible intro _
    | dsimp only
    | split
    | with_reducible (apply kept_mk; assumption)
    | with_reducible first | apply done_kept | apply onCommand_kept | apply reply_kept | apply OutKept.next
    | with_reducible first | apply readWords_kept
    | (clear_value *; split)

theorem execRegWrite_kept {arg : Option (List (BitVec 16 × Word))} {s : State} (h : Kept μ s₀ s) :
    OutKept μ s₀ (execRegWrite arg s) := by
  unfold execRegWrite
  repeat' first
    | (extract_lets +onlyGivenNames x; first | (refine Kept.aside (μ := μ) (s₀ := s₀) (x := x) ?_ ?_; clear_value x; revert x; refine Kept.hold ?_; intro x hx; rotate_left; subst x) | skip)
    | with_reducible first | assumption | apply Kept.ite | apply OutKept.ite
    | with_reducible intro _ _ _
    | with_reducible intro _ _
    | with_reducible intro _
    | split
    | with_reducible (apply kept_mk; assumption)
    | with_reducible first | apply commitWord_kept | apply done_kept | apply forAll_kept | apply onCommand_kept
                           | apply OutKept.next

theorem execRegWriteAuth_kept {arg : Option (List (BitVec 16 × Word))} {s : State} (h : Kept μ s₀ s) :
    OutKept μ s₀ (execRegWriteAuth arg s) := by
  unfold execRegWriteAuth
  repeat' first
    | (extract_lets +onlyGivenNames x; first | (refine Kept.aside (μ := μ) (s₀ := s₀) (x := x) ?_ ?_; clear_value x; revert x; refine Kept.hold ?_; intro x hx; rotate_left; subst x) | skip)
    | with_reducible first | assumption | apply Kept.ite | apply OutKept.ite
    | with_reducible intro _ _ _
    | with_reducible intro _ _
    | with_reducible intro _
    | split
    | with_reducible (apply kept_mk; assumption)
    | with_reducible first | apply commitAuth_kept | apply done_kept | apply forAll_kept | apply onCommand_kept
                           | apply OutKept.next

theorem execSessionInfo_kept {arg : Option (BitVec 7)} {s : State} (h : Kept μ s₀ s) :
    OutKept μ s₀ (execSessionInfo arg s) := by
  unfold execSessionInfo
  repeat' first
    | (extract_lets +onlyGivenNames x; first | (refine Kept.aside (μ := μ) (s₀ := s₀) (x := x) ?_ ?_; clear_value x; revert x; refine Kept.hold ?_; intro x hx; rotate_left; subst x) | skip)
    | with_reducible first | assumption
    | with_reducible intro _ _ _
    | with_reducible intro _ _
    | with_reducible intro _
    | split
    | with_reducible (apply kept_mk; assumption)
    | with_reducible first | apply done_kept | apply onCommand_kept | apply reply_kept | apply OutKept.next

theorem execAttest_kept {s : State} (h : Kept μ s₀ s) :
    OutKept μ s₀ (execAttest s) := by
  unfold execAttest
  repeat' first
    | with_reducible first | assumption | apply Kept.ite | apply OutKept.ite
    | with_reducible intro _ _ _
    | with_reducible intro _ _
    | with_reducible intro _
    | with_reducible first | apply done_kept | apply onCommand_kept | apply reply_kept | apply OutKept.next
    | split

theorem bare_kept {s : State} {f : Frame} {act : State → State} (h : Kept μ s₀ s) (hact : ∀ t, Kept μ s₀ t → Kept μ s₀ (act t)) :
    Kept μ s₀ (State.bare s f act) := by
  unfold State.bare
  repeat' first
    | with_reducible first | assumption | apply Kept.ite
    | with_reducible intro _ _ _
    | with_reducible intro _ _
    | with_reducible intro _
    | with_reducible first | apply done_kept | apply hact
    | split

theorem flushAnswer_kept {s : State} (h : Kept μ s₀ s) :
    Kept μ s₀ (State.flushAnswer s) := by
  unfold State.flushAnswer
  repeat' first
    | (extract_lets +onlyGivenNames x; first | (refine Kept.aside (μ := μ) (s₀ := s₀) (x := x) ?_ ?_; clear_value x; revert x; refine Kept.hold ?_; intro x hx; rotate_left; subst x) | skip)
    | with_reducible first | assumption
    | split
    | with_reducible (apply kept_mk; assumption)
    | with_reducible first | apply answer_kept | apply sendResponse_kept

theorem respondNow_kept {s : State} {f : Frame} (h : Kept μ s₀ s) :
    Kept μ s₀ (State.respondNow s f) := by
  unfold State.respondNow
  repeat' first
    | with_reducible first | assumption
    | with_reducible first | apply done_kept | apply flushAnswer_kept

theorem execShutdown_kept {s : State} (h : Kept μ s₀ s) :
    OutKept μ s₀ (execShutdown s) := by
  unfold execShutdown
  repeat' first
    | with_reducible first | assumption
    | with_reducible intro _ _ _
    | with_reducible intro _ _
    | with_reducible intro _
    | with_reducible first | apply bare_kept | apply commit_kept | apply done_kept | apply onCommand_kept
                           | apply requestAutumn_kept | apply OutKept.next

theorem execStart_kept {s : State} (h : Kept true s₀ s) :
    OutKept true s₀ (execStart s) := by
  unfold execStart
  repeat' first
    | with_reducible first | assumption | apply Kept.ite | apply OutKept.ite
    | with_reducible intro _ _ _
    | with_reducible intro _ _
    | with_reducible intro _
    | with_reducible first | apply bare_kept | apply done_kept | apply internalRestart_kept | apply onCommand_kept
                           | apply respondNow_kept | apply OutKept.next
    | split

theorem execRestart_kept {s : State} (h : Kept μ s₀ s) :
    OutKept μ s₀ (execRestart s) := by
  unfold execRestart
  repeat' first
    | with_reducible first | assumption | apply Kept.ite | apply OutKept.ite
    | with_reducible intro _ _ _
    | with_reducible intro _ _
    | with_reducible intro _
    | with_reducible first | apply bare_kept | apply beginRestart_kept | apply done_kept | apply onCommand_kept
                           | apply OutKept.next
    | split

theorem execForceWinter_kept {s : State} (h : Kept μ s₀ s) :
    OutKept μ s₀ (execForceWinter s) := by
  unfold execForceWinter
  repeat' first
    | with_reducible first | assumption
    | with_reducible intro _ _ _
    | with_reducible intro _ _
    | with_reducible intro _
    | with_reducible first | apply bare_kept | apply done_kept | apply onCommand_kept | apply raise_kept
                           | apply OutKept.next

theorem clearEnable_kept {s : State} {k : PortId} (h : Kept μ s₀ s) :
    Kept μ s₀ (State.clearEnable s k) := by
  unfold State.clearEnable
  repeat' first
    | (extract_lets +onlyGivenNames x; first | (refine Kept.aside (μ := μ) (s₀ := s₀) (x := x) ?_ ?_; clear_value x; revert x; refine Kept.hold ?_; intro x hx; rotate_left; subst x) | skip)
    | with_reducible first | assumption | apply Kept.ite
    | with_reducible intro _ _ _
    | with_reducible intro _ _
    | with_reducible intro _
    | with_reducible (apply kept_mk; assumption)
    | with_reducible first | apply disableAttach_kept | apply disarmAll_kept | apply hardOpen_kept | apply modBrk_kept
                           | apply putBit_kept | apply set_kept
    | split

theorem setEnable_kept {s : State} {k : PortId} (h : Kept μ s₀ s) :
    Kept μ s₀ (State.setEnable s k) := by
  unfold State.setEnable
  repeat' first
    | with_reducible first | assumption | apply Kept.ite
    | with_reducible intro _ _ _
    | with_reducible intro _ _
    | with_reducible intro _
    | with_reducible first | apply putBit_kept | apply unattached_kept | apply when_kept
    | split

theorem execPortEnable_kept {s : State} (h : Kept μ s₀ s) :
    OutKept μ s₀ (execPortEnable s) := by
  unfold execPortEnable
  repeat' first
    | (extract_lets +onlyGivenNames x; first | (refine Kept.aside (μ := μ) (s₀ := s₀) (x := x) ?_ ?_; clear_value x; revert x; refine Kept.hold ?_; intro x hx; rotate_left; subst x) | skip)
    | with_reducible first | assumption | apply Kept.ite | apply OutKept.ite
    | with_reducible intro _ _ _
    | with_reducible intro _ _
    | with_reducible intro _
    | with_reducible first | apply clearEnable_kept | apply done_kept | apply forAll_kept | apply onCommand_kept
                           | apply setEnable_kept | apply OutKept.next
    | split

theorem execMargin_kept {arg : Option (RailId × BitVec 8)} {s : State} (h : Kept μ s₀ s) :
    OutKept μ s₀ (execMargin arg s) := by
  unfold execMargin
  repeat' first
    | (extract_lets +onlyGivenNames x; first | (refine Kept.aside (μ := μ) (s₀ := s₀) (x := x) ?_ ?_; clear_value x; revert x; refine Kept.hold ?_; intro x hx; rotate_left; subst x) | skip)
    | with_reducible first | assumption | apply Kept.ite | apply OutKept.ite
    | with_reducible intro _ _ _
    | with_reducible intro _ _
    | with_reducible intro _
    | split
    | with_reducible (apply kept_mk; assumption)
    | with_reducible first | apply done_kept | apply margin_kept | apply onCommand_kept | apply OutKept.next

theorem execTestWrite_kept {arg : Option (BitVec 16 × Word)} {s : State} (h : Kept μ s₀ s) :
    OutKept μ s₀ (execTestWrite arg s) := by
  unfold execTestWrite
  repeat' first
    | (extract_lets +onlyGivenNames x; first | (refine Kept.aside (μ := μ) (s₀ := s₀) (x := x) ?_ ?_; clear_value x; revert x; refine Kept.hold ?_; intro x hx; rotate_left; subst x) | skip)
    | with_reducible first | assumption | apply Kept.ite | apply OutKept.ite
    | with_reducible intro _ _ _
    | with_reducible intro _ _
    | with_reducible intro _
    | split
    | with_reducible (apply kept_mk; assumption)
    | with_reducible first | apply done_kept | apply execFltInj_kept | apply onCommand_kept | apply outState_kept
                           | apply OutKept.next

/-! Machine/Update -/

theorem changeTable_kept {s : State} {ok : Bool} {act : SlotTab → SlotTab} (h : Kept true s₀ s) :
    Kept true s₀ (State.changeTable s ok act) := by
  unfold State.changeTable
  repeat' first
    | (extract_lets +onlyGivenNames x; first | (refine Kept.aside (μ := true) (s₀ := s₀) (x := x) ?_ ?_; clear_value x; revert x; refine Kept.hold ?_; intro x hx; rotate_left; subst x) | skip)
    | with_reducible first | assumption | apply Kept.ite
    | with_reducible intro _ _ _
    | with_reducible intro _ _
    | with_reducible intro _
    | with_reducible (apply kept_mk; assumption)
    | with_reducible first | apply modTab_kept | apply writeTable_kept
    | split

theorem endTransfer_kept {s : State} (h : Kept μ s₀ s) :
    Kept μ s₀ (State.endTransfer s) := by
  unfold State.endTransfer
  repeat' first
    | (extract_lets +onlyGivenNames x; first | (refine Kept.aside (μ := μ) (s₀ := s₀) (x := x) ?_ ?_; clear_value x; revert x; refine Kept.hold ?_; intro x hx; rotate_left; subst x) | skip)
    | with_reducible first | assumption
    | with_reducible (apply kept_mk; assumption)
    | with_reducible first | apply set_kept

theorem rejectTransfer_kept {s : State} {code : Nat} (h : Kept μ s₀ s) :
    Kept μ s₀ (State.rejectTransfer s code) := by
  unfold State.rejectTransfer
  repeat' first
    | with_reducible first | assumption
    | with_reducible first | apply endTransfer_kept | apply postRejected_kept | apply set_kept

theorem freeCode_kept {s : State} (h : Kept μ s₀ s) :
    Kept μ s₀ (State.freeCode s).2 := by
  unfold State.freeCode
  repeat' first
    | with_reducible first | assumption
    | dsimp only
    | with_reducible first | apply takeFree_kept

theorem openTransfer_kept {s : State} {f : Frame} {kind : Nat} {slot : Nat} {tableOk : Bool} (h : Kept true s₀ s) :
    Kept true s₀ (State.openTransfer s f kind slot tableOk) := by
  unfold State.openTransfer
  repeat' first
    | (extract_lets +onlyGivenNames x; first | (refine Kept.aside (μ := true) (s₀ := s₀) (x := x) ?_ ?_; clear_value x; revert x; refine Kept.hold ?_; intro x hx; rotate_left; subst x) | skip)
    | with_reducible first | assumption | apply Kept.ite
    | with_reducible intro _
    | with_reducible (apply kept_mk; assumption)
    | with_reducible first | apply changeTable_kept | apply done_kept | apply reply_kept | apply set_kept
    | split

theorem onFlash_kept {s : State} {code : Nat} {act : Frame → State → State} (h : Kept μ s₀ s) (hact : ∀ x0 t, Kept μ s₀ t → Kept μ
    s₀ (act x0 t)) :
    Kept μ s₀ (State.onFlash s code act) := by
  unfold State.onFlash
  repeat' first
    | with_reducible first | assumption | apply Kept.ite
    | with_reducible intro _ _ _
    | with_reducible intro _ _
    | with_reducible intro _
    | with_reducible first | apply onCommand_kept | apply hact
    | split

theorem execUpdOpen_kept {tableOk : Bool} {s : State} (h : Kept true s₀ s) :
    OutKept true s₀ (execUpdOpen tableOk s) := by
  unfold execUpdOpen
  repeat' first
    | (extract_lets +onlyGivenNames x; first | (refine Kept.aside (μ := true) (s₀ := s₀) (x := x) ?_ ?_; clear_value x; revert x; refine Kept.hold ?_; intro x hx; rotate_left; subst x) | skip)
    | with_reducible first | assumption | apply Kept.ite | apply OutKept.ite
    | with_reducible intro _ _ _
    | with_reducible intro _ _
    | with_reducible intro _
    | with_reducible first | apply done_kept | apply onFlash_kept | apply openTransfer_kept | apply OutKept.next
    | split

theorem eraseFor_kept {s : State} {off : Nat} {n : Nat} (h : Kept true s₀ s) :
    Kept true s₀ (State.eraseFor s off n) := by
  unfold State.eraseFor
  repeat' first
    | (extract_lets +onlyGivenNames x; first | (refine Kept.aside (μ := true) (s₀ := s₀) (x := x) ?_ ?_; clear_value x; revert x; refine Kept.hold ?_; intro x hx; rotate_left; subst x) | skip)
    | with_reducible first | assumption
    | with_reducible intro _ _ _
    | with_reducible intro _ _
    | with_reducible intro _
    | with_reducible (apply kept_mk; assumption)
    | with_reducible first | apply flashErase_kept | apply forAll_kept

theorem writeBlock_kept {s : State} {f : Frame} {off : Nat} {bs : List Byte} {failAt : Option Nat} (h : Kept true s₀ s) :
    Kept true s₀ (State.writeBlock s f off bs failAt) := by
  unfold State.writeBlock
  repeat' first
    | (extract_lets +onlyGivenNames x; first | (refine Kept.aside (μ := true) (s₀ := s₀) (x := x) ?_ ?_; clear_value x; revert x; refine Kept.hold ?_; intro x hx; rotate_left; subst x) | skip)
    | with_reducible first | assumption | apply Kept.ite
    | with_reducible intro _
    | split
    | with_reducible (apply kept_mk; assumption)
    | with_reducible first | apply done_kept | apply eraseFor_kept | apply flag_kept | apply flashProgram_kept
                           | apply raise_kept | apply rejectTransfer_kept | apply reply_kept | apply set_kept
                           | apply spoil_kept
    | (clear_value *; split)

theorem takeBlock_kept {s : State} {f : Frame} {failAt : Option Nat} (h : Kept true s₀ s) :
    Kept true s₀ (State.takeBlock s f failAt) := by
  unfold State.takeBlock
  repeat' first
    | (extract_lets +onlyGivenNames x; first | (refine Kept.aside (μ := true) (s₀ := s₀) (x := x) ?_ ?_; clear_value x; revert x; refine Kept.hold ?_; intro x hx; rotate_left; subst x) | skip)
    | with_reducible first | assumption | apply Kept.ite
    | with_reducible intro _
    | with_reducible first | apply done_kept | apply reply_kept | apply writeBlock_kept
    | split

theorem execUpdBlock_kept {failAt : Option Nat} {s : State} (h : Kept true s₀ s) :
    OutKept true s₀ (execUpdBlock failAt s) := by
  unfold execUpdBlock
  repeat' first
    | with_reducible first | assumption | apply Kept.ite | apply OutKept.ite
    | with_reducible intro _ _ _
    | with_reducible intro _ _
    | with_reducible intro _
    | with_reducible first | apply done_kept | apply onFlash_kept | apply takeBlock_kept | apply OutKept.next
    | split

theorem fwFull_kept {s : State} {base : Nat} {len : Nat} {err : Nat} (h : Kept μ s₀ s) :
    Kept μ s₀ (State.fwFull s base len err).2 := by
  unfold State.fwFull
  repeat' first
    | (extract_lets +onlyGivenNames x; first | (refine Kept.aside (μ := μ) (s₀ := s₀) (x := x) ?_ ?_; clear_value x; revert x; refine Kept.hold ?_; intro x hx; rotate_left; subst x) | (refine Kept.aside2 (μ := μ) (s₀ := s₀) (x := x) ?_ ?_; clear_value x; revert x; refine Kept.hold ?_; intro x hx; rotate_left; subst x) | skip)
    | with_reducible first | assumption | apply Kept.ite
    | with_reducible intro _
    | dsimp only
    | split
    | with_reducible first | apply freeCode_kept

theorem fullCheck_kept {s : State} {err : Nat} (h : Kept μ s₀ s) :
    Kept μ s₀ (State.fullCheck s err).2 := by
  unfold State.fullCheck
  repeat' first
    | (extract_lets +onlyGivenNames x; first | (refine Kept.aside (μ := μ) (s₀ := s₀) (x := x) ?_ ?_; clear_value x; revert x; refine Kept.hold ?_; intro x hx; rotate_left; subst x) | (refine Kept.aside2 (μ := μ) (s₀ := s₀) (x := x) ?_ ?_; clear_value x; revert x; refine Kept.hold ?_; intro x hx; rotate_left; subst x) | skip)
    | with_reducible first | assumption | apply Kept.ite
    | with_reducible intro _
    | dsimp only
    | split
    | with_reducible (apply kept_mk; assumption)
    | with_reducible first | apply fwFull_kept
    | (clear_value *; split)

theorem execUpdClose_kept {readErr : Fin 4} {s : State} (h : Kept μ s₀ s) :
    OutKept μ s₀ (execUpdClose readErr s) := by
  unfold execUpdClose
  repeat' first
    | (extract_lets +onlyGivenNames x; first | (refine Kept.aside (μ := μ) (s₀ := s₀) (x := x) ?_ ?_; clear_value x; revert x; refine Kept.hold ?_; intro x hx; rotate_left; subst x) | (refine Kept.aside2 (μ := μ) (s₀ := s₀) (x := x) ?_ ?_; clear_value x; revert x; refine Kept.hold ?_; intro x hx; rotate_left; subst x) | skip)
    | with_reducible first | assumption | apply Kept.ite | apply OutKept.ite
    | with_reducible intro _ _ _
    | with_reducible intro _ _
    | with_reducible intro _
    | dsimp only
    | split
    | with_reducible first | apply bare_kept | apply done_kept | apply onCommand_kept | apply rejectTransfer_kept
                           | apply reply_kept | apply set_kept | apply OutKept.next
    | with_reducible first | apply fullCheck_kept

theorem execUpdActivate_kept {tableOk : Bool} {s : State} (h : Kept true s₀ s) :
    OutKept true s₀ (execUpdActivate tableOk s) := by
  unfold execUpdActivate
  repeat' first
    | (extract_lets +onlyGivenNames x; first | (refine Kept.aside (μ := true) (s₀ := s₀) (x := x) ?_ ?_; clear_value x; revert x; refine Kept.hold ?_; intro x hx; rotate_left; subst x) | skip)
    | with_reducible first | assumption | apply Kept.ite | apply OutKept.ite
    | with_reducible intro _ _ _
    | with_reducible intro _ _
    | with_reducible intro _
    | with_reducible (apply kept_mk; assumption)
    | with_reducible first | apply changeTable_kept | apply done_kept | apply onFlash_kept | apply set_kept
                           | apply when_kept | apply OutKept.next
    | split

theorem execUpdAbort_kept {tableOk : Bool} {s : State} (h : Kept true s₀ s) :
    OutKept true s₀ (execUpdAbort tableOk s) := by
  unfold execUpdAbort
  repeat' first
    | (extract_lets +onlyGivenNames x; first | (refine Kept.aside (μ := true) (s₀ := s₀) (x := x) ?_ ?_; clear_value x; revert x; refine Kept.hold ?_; intro x hx; rotate_left; subst x) | skip)
    | with_reducible first | assumption | apply Kept.ite | apply OutKept.ite
    | with_reducible intro _ _ _
    | with_reducible intro _ _
    | with_reducible intro _
    | split
    | with_reducible (apply kept_mk; assumption)
    | with_reducible first | apply bare_kept | apply changeTable_kept | apply done_kept | apply endTransfer_kept
                           | apply onFlash_kept | apply OutKept.next
    | (clear_value *; split)

/-- A programmed word keeps every bit that was set. -/
theorem otp_word_kept (w : Nat) (x : Word) (m : Bank Word) (a : Nat) :
    bankRead zeroWord m a &&& bankRead zeroWord (bankWrite zeroWord m w (bankRead zeroWord m w ||| x)) a = bankRead zeroWord m a := by
  by_cases ha : a = w
  · subst ha
    rw [bankRead_write_self]
    ext i
    simp only [BitVec.getElem_and, BitVec.getElem_or]
    cases (bankRead zeroWord m a)[i] <;> rfl
  · rw [bankRead_write_other _ _ _ _ _ ha, BitVec.and_self]
theorem programCells_kept {s t : State} {w : Nat} {x : Word} (h : Kept true s₀ s) (hp : t.pending = s.pending) (hr : t.regs = s.regs)
    (hf : t.flash = s.flash) (ho : t.otp = bankWrite zeroWord s.otp w (bankRead zeroWord s.otp w ||| x)) (hs : t.sram = s.sram)
    (he : t.engMem = s.engMem) (hn : t.now = s.now) : Kept true s₀ t := by
  refine h.trans ⟨hp, fun wf => ?_, Nat.le_of_eq hn.symm, fun a => by rw [ho]; exact otp_word_kept w x s.otp a, nofun⟩
  simp only [State.wf, Bool.and_eq_true, hr, hf, ho, hs, he] at wf ⊢
  exact ⟨⟨⟨⟨wf.1.1.1.1, wf.1.1.1.2⟩, bankWf_write _ _ _ _ wf.1.1.2⟩, wf.1.2⟩, wf.2⟩
theorem programWord_kept {s : State} {w : Nat} {bits failed : Word} (h : Kept true s₀ s) : Kept true s₀ (s.programWord w bits failed) := by
  unfold State.programWord
  extract_lets zero good odd x sec
  have hx : Kept true s₀ x := by
    subst x
    split
    · exact h
    · exact takeFree_kept h
  refine programCells_kept (w := w) (x := good ||| odd) hx rfl rfl rfl ?_ rfl rfl rfl
  simp only [BitVec.or_assoc]
  rfl

theorem programFail_kept {s : State} (h : Kept μ s₀ s) :
    Kept μ s₀ (State.programFail s) := by
  unfold State.programFail
  repeat' first
    | with_reducible first | assumption
    | with_reducible first | apply flag_kept | apply raise_kept

theorem advanceTherm_kept {s : State} {w : Nat} {svn : Nat} {failed : List Nat} (h : Kept true s₀ s) :
    Kept true s₀ (State.advanceTherm s w svn failed) := by
  unfold State.advanceTherm
  repeat' first
    | (extract_lets +onlyGivenNames x; first | (refine Kept.aside (μ := true) (s₀ := s₀) (x := x) ?_ ?_; clear_value x; revert x; refine Kept.hold ?_; intro x hx; rotate_left; subst x) | skip)
    | with_reducible first | assumption
    | with_reducible intro _ _ _
    | with_reducible intro _ _
    | with_reducible intro _
    | with_reducible first | apply forAll_kept | apply programWord_kept | apply showOtp_kept

theorem confirmKind_kept {s : State} {kind : Nat} {failed : List Nat} {tableOk : Bool} (h : Kept true s₀ s) :
    Kept true s₀ (State.confirmKind s kind failed tableOk).2 := by
  unfold State.confirmKind
  repeat' first
    | (extract_lets +onlyGivenNames x; first | (refine Kept.aside (μ := true) (s₀ := s₀) (x := x) ?_ ?_; clear_value x; revert x; refine Kept.hold ?_; intro x hx; rotate_left; subst x) | (refine Kept.aside2 (μ := true) (s₀ := s₀) (x := x) ?_ ?_; clear_value x; revert x; refine Kept.hold ?_; intro x hx; rotate_left; subst x) | skip)
    | with_reducible first | assumption | apply Kept.ite
    | with_reducible intro _ _ _
    | with_reducible intro _ _
    | with_reducible intro _
    | dsimp only
    | split
    | with_reducible (apply kept_mk; assumption)
    | with_reducible first | apply advanceTherm_kept | apply changeTable_kept | apply post_kept | apply programFail_kept
    | (clear_value *; split)

theorem execConfirm_kept {failedFw : List Nat} {failedCfg : List Nat} {fwTableOk : Bool} {cfgTableOk : Bool} {s : State} (h :
    Kept true s₀ s) :
    OutKept true s₀ (execConfirm failedFw failedCfg fwTableOk cfgTableOk s) := by
  unfold execConfirm
  repeat' first
    | (extract_lets +onlyGivenNames x; first | (refine Kept.aside (μ := true) (s₀ := s₀) (x := x) ?_ ?_; clear_value x; revert x; refine Kept.hold ?_; intro x hx; rotate_left; subst x) | (refine Kept.aside2 (μ := true) (s₀ := s₀) (x := x) ?_ ?_; clear_value x; revert x; refine Kept.hold ?_; intro x hx; rotate_left; subst x) | skip)
    | with_reducible first | assumption | apply Kept.ite | apply OutKept.ite
    | with_reducible intro _ _ _
    | with_reducible intro _ _
    | with_reducible intro _
    | dsimp only
    | split
    | with_reducible first | apply done_kept | apply onFlash_kept | apply reply_kept | apply OutKept.next
    | with_reducible first | apply confirmKind_kept

theorem beginPause_kept {s : State} {dir : Nat} {from' : Nat} {to' : Nat} (h : Kept μ s₀ s) :
    Kept μ s₀ (State.beginPause s dir from' to') := by
  unfold State.beginPause
  repeat' first
    | (extract_lets +onlyGivenNames x; first | (refine Kept.aside (μ := μ) (s₀ := s₀) (x := x) ?_ ?_; clear_value x; revert x; refine Kept.hold ?_; intro x hx; rotate_left; subst x) | skip)
    | with_reducible first | assumption
    | with_reducible (apply kept_mk; assumption)
    | with_reducible first | apply execSafHold_kept | apply outState_kept | apply put_kept | apply set_kept

theorem execHandover_kept {s : State} (h : Kept μ s₀ s) :
    OutKept μ s₀ (execHandover s) := by
  unfold execHandover
  repeat' first
    | (extract_lets +onlyGivenNames x; first | (refine Kept.aside (μ := μ) (s₀ := s₀) (x := x) ?_ ?_; clear_value x; revert x; refine Kept.hold ?_; intro x hx; rotate_left; subst x) | skip)
    | with_reducible first | assumption | apply Kept.ite | apply OutKept.ite
    | with_reducible intro _ _ _
    | with_reducible intro _ _
    | with_reducible intro _
    | with_reducible first | apply beginPause_kept | apply done_kept | apply onCommand_kept | apply OutKept.next
    | split

theorem setFwCode_kept {s : State} {slot : Nat} {code : Nat} (h : Kept μ s₀ s) :
    Kept μ s₀ (State.setFwCode s slot code) := by
  unfold State.setFwCode
  repeat' first
    | with_reducible first | assumption | apply Kept.ite
    | with_reducible intro _
    | with_reducible first | apply set_kept
    | split

theorem startSupervisor_kept {s : State} {slot : Nat} (h : Kept true s₀ s) :
    Kept true s₀ (State.startSupervisor s slot) := by
  unfold State.startSupervisor
  repeat' first
    | (extract_lets +onlyGivenNames x; first | (refine Kept.aside (μ := true) (s₀ := s₀) (x := x) ?_ ?_; clear_value x; revert x; refine Kept.hold ?_; intro x hx; rotate_left; subst x) | skip)
    | with_reducible first | assumption | apply Kept.ite
    | with_reducible intro _ _ _
    | with_reducible intro _ _
    | with_reducible intro _
    | with_reducible (apply kept_mk; assumption)
    | with_reducible first | apply loadBoot_kept | apply loadSection0_kept | apply when_kept
    | split

theorem execHandoverRomVerify_kept {errTo : Fin 3} {errFrom : Fin 3} {s : State} (h : Kept true s₀ s) :
    OutKept true s₀ (execHandoverRomVerify errTo errFrom s) := by
  unfold execHandoverRomVerify
  repeat' first
    | (extract_lets +onlyGivenNames x; first | (refine Kept.aside (μ := true) (s₀ := s₀) (x := x) ?_ ?_; clear_value x; revert x; refine Kept.hold ?_; intro x hx; rotate_left; subst x) | skip)
    | with_reducible first | assumption | apply Kept.ite | apply OutKept.ite
    | with_reducible intro _
    | with_reducible (apply kept_mk; assumption)
    | with_reducible first | apply setFwCode_kept | apply startSupervisor_kept | apply OutKept.next
    | split

theorem endPause_kept {s : State} (h : Kept μ s₀ s) :
    Kept μ s₀ (State.endPause s) := by
  unfold State.endPause
  repeat' first
    | (extract_lets +onlyGivenNames x; first | (refine Kept.aside (μ := μ) (s₀ := s₀) (x := x) ?_ ?_; clear_value x; revert x; refine Kept.hold ?_; intro x hx; rotate_left; subst x) | skip)
    | with_reducible first | assumption | apply Kept.ite
    | with_reducible intro _
    | with_reducible (apply kept_mk; assumption)
    | with_reducible first | apply execWatchdogAnswer_kept | apply outState_kept | apply put_kept | apply set_kept
    | split

theorem afterPause_kept {s : State} (h : Kept μ s₀ s) :
    Kept μ s₀ (State.afterPause s) := by
  unfold State.afterPause
  repeat' first
    | (extract_lets +onlyGivenNames x; first | (refine Kept.aside (μ := μ) (s₀ := s₀) (x := x) ?_ ?_; clear_value x; revert x; refine Kept.hold ?_; intro x hx; rotate_left; subst x) | skip)
    | with_reducible first | assumption
    | split
    | with_reducible (apply kept_mk; assumption)
    | with_reducible first | apply abandonHandover_kept | apply pump_kept | apply requestAutumn_kept | apply transition_kept
    | (clear_value *; split)

theorem execHandoverAdopt_kept {damaged : Bool} {s : State} (h : Kept μ s₀ s) :
    OutKept μ s₀ (execHandoverAdopt damaged s) := by
  unfold execHandoverAdopt
  repeat' first
    | with_reducible first | assumption | apply Kept.ite | apply OutKept.ite
    | with_reducible intro _
    | with_reducible first | apply afterPause_kept | apply endPause_kept | apply raise_kept | apply OutKept.next
    | split

theorem execHandoverDigests_kept {readOk : Bool} {s : State} (h : Kept μ s₀ s) :
    OutKept μ s₀ (execHandoverDigests readOk s) := by
  unfold execHandoverDigests
  repeat' first
    | (extract_lets +onlyGivenNames x; first | (refine Kept.aside (μ := μ) (s₀ := s₀) (x := x) ?_ ?_; clear_value x; revert x; refine Kept.hold ?_; intro x hx; rotate_left; subst x) | (refine Kept.aside2 (μ := μ) (s₀ := s₀) (x := x) ?_ ?_; clear_value x; revert x; refine Kept.hold ?_; intro x hx; rotate_left; subst x) | skip)
    | with_reducible first | assumption | apply Kept.ite | apply OutKept.ite
    | with_reducible intro _ _ _
    | with_reducible intro _ _
    | with_reducible intro _
    | dsimp only
    | split
    | with_reducible (apply kept_mk; assumption)
    | with_reducible first | apply beginPause_kept | apply set_kept | apply OutKept.next
    | with_reducible first | apply freeCode_kept

theorem showFirmware_kept {s : State} {slot : Nat} (h : Kept μ s₀ s) :
    Kept μ s₀ (State.showFirmware s slot) := by
  unfold State.showFirmware
  repeat' first
    | (extract_lets +onlyGivenNames x; first | (refine Kept.aside (μ := μ) (s₀ := s₀) (x := x) ?_ ?_; clear_value x; revert x; refine Kept.hold ?_; intro x hx; rotate_left; subst x) | skip)
    | with_reducible first | assumption
    | with_reducible first | apply set_kept

theorem execHandback_kept {tableOk : Bool} {s : State} (h : Kept true s₀ s) :
    OutKept true s₀ (execHandback tableOk s) := by
  unfold execHandback
  repeat' first
    | (extract_lets +onlyGivenNames x; first | (refine Kept.aside (μ := true) (s₀ := s₀) (x := x) ?_ ?_; clear_value x; revert x; refine Kept.hold ?_; intro x hx; rotate_left; subst x) | skip)
    | with_reducible first | assumption | apply Kept.ite | apply OutKept.ite
    | with_reducible intro _ _ _
    | with_reducible intro _ _
    | with_reducible intro _
    | split
    | with_reducible (apply kept_mk; assumption)
    | with_reducible first | apply changeTable_kept | apply flag_kept | apply postRejected_kept | apply raise_kept
                           | apply setFwCode_kept | apply showFirmware_kept | apply OutKept.next
    | (clear_value *; split)

theorem holdPortEngine_kept {s : State} {k : PortId} (h : Kept μ s₀ s) :
    Kept μ s₀ (State.holdPortEngine s k) := by
  unfold State.holdPortEngine
  repeat' first
    | (extract_lets +onlyGivenNames x; first | (refine Kept.aside (μ := μ) (s₀ := s₀) (x := x) ?_ ?_; clear_value x; revert x; refine Kept.hold ?_; intro x hx; rotate_left; subst x) | skip)
    | with_reducible first | assumption | apply Kept.ite
    | with_reducible intro _ _ _
    | with_reducible intro _ _
    | with_reducible intro _
    | with_reducible (apply kept_mk; assumption)
    | with_reducible first | apply closeWindows_kept | apply disarmAll_kept | apply dropHealth_kept | apply modAtt_kept
                           | apply modChk_kept | apply modPd_kept | apply set_kept
    | split

theorem holdEngine_kept {s : State} {e : Nat} {cpOk : Bool} (h : Kept true s₀ s) :
    Kept true s₀ (State.holdEngine s e cpOk) := by
  unfold State.holdEngine
  repeat' first
    | (extract_lets +onlyGivenNames x; first | (refine Kept.aside (μ := true) (s₀ := s₀) (x := x) ?_ ?_; clear_value x; revert x; refine Kept.hold ?_; intro x hx; rotate_left; subst x) | skip)
    | with_reducible first | assumption | apply Kept.ite
    | with_reducible intro _
    | split
    | with_reducible (apply kept_mk; assumption)
    | with_reducible first | apply holdPortEngine_kept | apply set_kept | apply storeCheckpoint_kept
    | (clear_value *; split)

theorem releasePort_kept {s : State} {k : PortId} (h : Kept μ s₀ s) :
    Kept μ s₀ (State.releasePort s k) := by
  unfold State.releasePort
  repeat' first
    | (extract_lets +onlyGivenNames x; first | (refine Kept.aside (μ := μ) (s₀ := s₀) (x := x) ?_ ?_; clear_value x; revert x; refine Kept.hold ?_; intro x hx; rotate_left; subst x) | skip)
    | with_reducible first | assumption | apply Kept.ite
    | with_reducible intro _ _ _
    | with_reducible intro _ _
    | with_reducible intro _
    | with_reducible (apply kept_mk; assumption)
    | with_reducible first | apply handleQueue_kept | apply modPd_kept | apply set_kept | apply startPd_kept
    | split

theorem releaseEngine_kept {s : State} {e : Nat} (h : Kept μ s₀ s) :
    Kept μ s₀ (State.releaseEngine s e) := by
  unfold State.releaseEngine
  repeat' first
    | (extract_lets +onlyGivenNames x; first | (refine Kept.aside (μ := μ) (s₀ := s₀) (x := x) ?_ ?_; clear_value x; revert x; refine Kept.hold ?_; intro x hx; rotate_left; subst x) | skip)
    | with_reducible first | assumption | apply Kept.ite
    | with_reducible intro _ _ _
    | with_reducible intro _ _
    | with_reducible intro _
    | split
    | with_reducible (apply kept_mk; assumption)
    | with_reducible first | apply lateSeconds_kept | apply releasePort_kept | apply when_kept
    | (clear_value *; split)

theorem handoverDone_kept {s : State} {tableOk : Bool} (h : Kept true s₀ s) :
    Kept true s₀ (State.handoverDone s tableOk) := by
  unfold State.handoverDone
  repeat' first
    | (extract_lets +onlyGivenNames x; first | (refine Kept.aside (μ := true) (s₀ := s₀) (x := x) ?_ ?_; clear_value x; revert x; refine Kept.hold ?_; intro x hx; rotate_left; subst x) | skip)
    | with_reducible first | assumption | apply Kept.ite
    | with_reducible intro _ _ _
    | with_reducible intro _ _
    | with_reducible intro _
    | with_reducible (apply kept_mk; assumption)
    | with_reducible first | apply changeTable_kept | apply post_kept | apply set_kept | apply showFirmware_kept
                           | apply when_kept
    | split

theorem execEngineReload_kept {ok : Bool} {tableOk : Bool} {s : State} (h : Kept true s₀ s) :
    OutKept true s₀ (execEngineReload ok tableOk s) := by
  unfold execEngineReload
  repeat' first
    | (extract_lets +onlyGivenNames x; first | (refine Kept.aside (μ := true) (s₀ := s₀) (x := x) ?_ ?_; clear_value x; revert x; refine Kept.hold ?_; intro x hx; rotate_left; subst x) | skip)
    | with_reducible first | assumption | apply Kept.ite | apply OutKept.ite
    | with_reducible intro _
    | split
    | with_reducible (apply kept_mk; assumption)
    | with_reducible first | apply handoverDone_kept | apply holdEngine_kept | apply loadEngine_kept | apply pump_kept
                           | apply raise_kept | apply releaseEngine_kept | apply set_kept | apply OutKept.next
    | (clear_value *; split)

theorem execRecOpen_kept {tableOk : Bool} {s : State} (h : Kept true s₀ s) :
    OutKept true s₀ (execRecOpen tableOk s) := by
  unfold execRecOpen
  repeat' first
    | (extract_lets +onlyGivenNames x; first | (refine Kept.aside (μ := true) (s₀ := s₀) (x := x) ?_ ?_; clear_value x; revert x; refine Kept.hold ?_; intro x hx; rotate_left; subst x) | skip)
    | with_reducible first | assumption | apply Kept.ite | apply OutKept.ite
    | with_reducible intro _ _ _
    | with_reducible intro _ _
    | with_reducible intro _
    | with_reducible first | apply done_kept | apply onCommand_kept | apply openTransfer_kept | apply OutKept.next
    | split

theorem execRecBlock_kept {failAt : Option Nat} {s : State} (h : Kept true s₀ s) :
    OutKept true s₀ (execRecBlock failAt s) := by
  unfold execRecBlock
  repeat' first
    | with_reducible first | assumption | apply Kept.ite | apply OutKept.ite
    | with_reducible intro _ _ _
    | with_reducible intro _ _
    | with_reducible intro _
    | with_reducible first | apply done_kept | apply onCommand_kept | apply takeBlock_kept | apply OutKept.next
    | split

theorem recoveryTable_kept {s : State} {ok : Bool} {act : SlotTab → SlotTab} (h : Kept true s₀ s) :
    Kept true s₀ (State.recoveryTable s ok act) := by
  unfold State.recoveryTable
  repeat' first
    | (extract_lets +onlyGivenNames x; first | (refine Kept.aside (μ := true) (s₀ := s₀) (x := x) ?_ ?_; clear_value x; revert x; refine Kept.hold ?_; intro x hx; rotate_left; subst x) | skip)
    | with_reducible first | assumption | apply Kept.ite
    | with_reducible intro _ _ _
    | with_reducible intro _ _
    | with_reducible intro _
    | with_reducible (apply kept_mk; assumption)
    | with_reducible first | apply changeTable_kept | apply flashErase_kept | apply flashProgram_kept | apply forAll_kept
                           | apply raise_kept | apply spoil_kept
    | split

theorem execRecClose_kept {readErr : Fin 4} {tableOk : Bool} {s : State} (h : Kept true s₀ s) :
    OutKept true s₀ (execRecClose readErr tableOk s) := by
  unfold execRecClose
  repeat' first
    | (extract_lets +onlyGivenNames x; first | (refine Kept.aside (μ := true) (s₀ := s₀) (x := x) ?_ ?_; clear_value x; revert x; refine Kept.hold ?_; intro x hx; rotate_left; subst x) | (refine Kept.aside2 (μ := true) (s₀ := s₀) (x := x) ?_ ?_; clear_value x; revert x; refine Kept.hold ?_; intro x hx; rotate_left; subst x) | skip)
    | with_reducible first | assumption | apply Kept.ite | apply OutKept.ite
    | with_reducible intro _ _ _
    | with_reducible intro _ _
    | with_reducible intro _
    | dsimp only
    | split
    | with_reducible (apply kept_mk; assumption)
    | with_reducible first | apply bare_kept | apply done_kept | apply flushAnswer_kept | apply internalRestart_kept
                           | apply onCommand_kept | apply recoveryTable_kept | apply rejectTransfer_kept | apply reply_kept
                           | apply set_kept | apply OutKept.next
    | with_reducible first | apply fullCheck_kept

theorem execRecStatus_kept {s : State} (h : Kept μ s₀ s) :
    OutKept μ s₀ (execRecStatus s) := by
  unfold execRecStatus
  repeat' first
    | with_reducible first | assumption
    | with_reducible intro _ _ _
    | with_reducible intro _ _
    | with_reducible intro _
    | with_reducible first | apply bare_kept | apply onCommand_kept | apply reply_kept | apply OutKept.next

/-! Machine/Otp -/

theorem programFor_kept {s : State} {f : Frame} {w : Nat} {bits : Word} {failed : Word} (h : Kept true s₀ s) :
    Kept true s₀ (State.programFor s f w bits failed) := by
  unfold State.programFor
  repeat' first
    | (extract_lets +onlyGivenNames x; first | (refine Kept.aside (μ := true) (s₀ := s₀) (x := x) ?_ ?_; clear_value x; revert x; refine Kept.hold ?_; intro x hx; rotate_left; subst x) | skip)
    | with_reducible first | assumption | apply Kept.ite
    | with_reducible intro _
    | with_reducible first | apply done_kept | apply gateMoved_kept | apply programFail_kept | apply programWord_kept
                           | apply showOtp_kept
    | split

theorem execOtpProgram_kept {arg : Option (BitVec 8 × Word)} {failed : Word} {s : State} (h : Kept true s₀ s) :
    OutKept true s₀ (execOtpProgram arg failed s) := by
  unfold execOtpProgram
  repeat' first
    | (extract_lets +onlyGivenNames x; first | (refine Kept.aside (μ := true) (s₀ := s₀) (x := x) ?_ ?_; clear_value x; revert x; refine Kept.hold ?_; intro x hx; rotate_left; subst x) | skip)
    | with_reducible first | assumption | apply Kept.ite | apply OutKept.ite
    | with_reducible intro _ _ _
    | with_reducible intro _ _
    | with_reducible intro _
    | split
    | with_reducible (apply kept_mk; assumption)
    | with_reducible first | apply done_kept | apply onCommand_kept | apply programFor_kept | apply OutKept.next
    | (clear_value *; split)

theorem execOtpLock_kept {arg : Option (Fin 8)} {reads : List (Nat × Word × Word × Word)} {failed : Bool} {s : State} (h :
    Kept true s₀ s) :
    OutKept true s₀ (execOtpLock arg reads failed s) := by
  unfold execOtpLock
  repeat' first
    | (extract_lets +onlyGivenNames x; first | (refine Kept.aside (μ := true) (s₀ := s₀) (x := x) ?_ ?_; clear_value x; revert x; refine Kept.hold ?_; intro x hx; rotate_left; subst x) | skip)
    | with_reducible first | assumption | apply Kept.ite | apply OutKept.ite
    | with_reducible intro _ _ _
    | with_reducible intro _ _
    | with_reducible intro _
    | split
    | with_reducible (apply kept_mk; assumption)
    | with_reducible first | apply done_kept | apply flag_kept | apply onCommand_kept | apply programFor_kept
                           | apply OutKept.next
    | (clear_value *; split)

theorem execRevokeFwkey_kept {arg : Option (Fin 4)} {failed : Bool} {s : State} (h : Kept true s₀ s) :
    OutKept true s₀ (execRevokeFwkey arg failed s) := by
  unfold execRevokeFwkey
  repeat' first
    | (extract_lets +onlyGivenNames x; first | (refine Kept.aside (μ := true) (s₀ := s₀) (x := x) ?_ ?_; clear_value x; revert x; refine Kept.hold ?_; intro x hx; rotate_left; subst x) | skip)
    | with_reducible first | assumption | apply Kept.ite | apply OutKept.ite
    | with_reducible intro _ _ _
    | with_reducible intro _ _
    | with_reducible intro _
    | split
    | with_reducible (apply kept_mk; assumption)
    | with_reducible first | apply done_kept | apply onCommand_kept | apply programFor_kept | apply OutKept.next
    | (clear_value *; split)

theorem execPolicySet_kept {arg : Option (BitVec 4)} {failed : BitVec 4} {s : State} (h : Kept true s₀ s) :
    OutKept true s₀ (execPolicySet arg failed s) := by
  unfold execPolicySet
  repeat' first
    | (extract_lets +onlyGivenNames x; first | (refine Kept.aside (μ := true) (s₀ := s₀) (x := x) ?_ ?_; clear_value x; revert x; refine Kept.hold ?_; intro x hx; rotate_left; subst x) | skip)
    | with_reducible first | assumption | apply Kept.ite | apply OutKept.ite
    | with_reducible intro _ _ _
    | with_reducible intro _ _
    | with_reducible intro _
    | split
    | with_reducible (apply kept_mk; assumption)
    | with_reducible first | apply done_kept | apply onCommand_kept | apply programFor_kept | apply OutKept.next

/-! Machine/Hif -/

theorem point_kept {s : State} {p : Nat} (h : Kept μ s₀ s) :
    Kept μ s₀ (State.point s p) := by
  unfold State.point
  repeat' first
    | (extract_lets +onlyGivenNames x; first | (refine Kept.aside (μ := μ) (s₀ := s₀) (x := x) ?_ ?_; clear_value x; revert x; refine Kept.hold ?_; intro x hx; rotate_left; subst x) | skip)
    | with_reducible first | assumption
    | with_reducible (apply kept_mk; assumption)

theorem discardPartial_kept {s : State} {collected : Nat} (h : Kept μ s₀ s) :
    Kept μ s₀ (State.discardPartial s collected) := by
  unfold State.discardPartial
  repeat' first
    | with_reducible first | assumption
    | with_reducible intro _ _ _
    | with_reducible intro _ _
    | with_reducible intro _
    | with_reducible first | apply flag_kept | apply when_kept

theorem execPageSelWrite_kept {b : BitVec 8} {s : State} (h : Kept μ s₀ s) :
    OutKept μ s₀ (execPageSelWrite b s) := by
  unfold execPageSelWrite
  repeat' first
    | with_reducible first | assumption | apply Kept.ite | apply OutKept.ite
    | with_reducible intro _
    | with_reducible first | apply flag_kept | apply point_kept | apply set_kept | apply OutKept.next
    | split

theorem execRegisterWrite_kept {i : BitVec 6} {w : Word} {s : State} (h : Kept μ s₀ s) :
    OutKept μ s₀ (execRegisterWrite i w s) := by
  unfold execRegisterWrite
  repeat' first
    | (extract_lets +onlyGivenNames x; first | (refine Kept.aside (μ := μ) (s₀ := s₀) (x := x) ?_ ?_; clear_value x; revert x; refine Kept.hold ?_; intro x hx; rotate_left; subst x) | skip)
    | with_reducible first | assumption | apply Kept.ite | apply OutKept.ite
    | with_reducible intro _
    | with_reducible first | apply commitWord_kept | apply flag_kept | apply point_kept | apply set_kept
                           | apply OutKept.next
    | split

theorem execI2cStartStop_kept {pointer : Option (BitVec 8)} {collected : Fin 4} {s : State} (h : Kept μ s₀ s) :
    OutKept μ s₀ (execI2cStartStop pointer collected s) := by
  unfold execI2cStartStop
  repeat' first
    | (extract_lets +onlyGivenNames x; first | (refine Kept.aside (μ := μ) (s₀ := s₀) (x := x) ?_ ?_; clear_value x; revert x; refine Kept.hold ?_; intro x hx; rotate_left; subst x) | skip)
    | with_reducible first | assumption
    | split
    | with_reducible (apply kept_mk; assumption)
    | with_reducible first | apply discardPartial_kept | apply point_kept | apply OutKept.next
    | (clear_value *; split)

theorem execSdaTimeout_kept {own : Bool} {highSince : Bool} {collected : Fin 4} {s : State} (h : Kept μ s₀ s) :
    OutKept μ s₀ (execSdaTimeout own highSince collected s) := by
  unfold execSdaTimeout
  repeat' first
    | (extract_lets +onlyGivenNames x; first | (refine Kept.aside (μ := μ) (s₀ := s₀) (x := x) ?_ ?_; clear_value x; revert x; refine Kept.hold ?_; intro x hx; rotate_left; subst x) | skip)
    | with_reducible first | assumption | apply Kept.ite | apply OutKept.ite
    | with_reducible intro _
    | with_reducible (apply kept_mk; assumption)
    | with_reducible first | apply classify_kept | apply discardPartial_kept | apply flag_kept | apply OutKept.next
    | split

theorem execSclTimeout_kept {highSince : Bool} {collected : Fin 4} {s : State} (h : Kept μ s₀ s) :
    OutKept μ s₀ (execSclTimeout highSince collected s) := by
  unfold execSclTimeout
  repeat' first
    | (extract_lets +onlyGivenNames x; first | (refine Kept.aside (μ := μ) (s₀ := s₀) (x := x) ?_ ?_; clear_value x; revert x; refine Kept.hold ?_; intro x hx; rotate_left; subst x) | skip)
    | with_reducible first | assumption | apply Kept.ite | apply OutKept.ite
    | with_reducible intro _
    | with_reducible (apply kept_mk; assumption)
    | with_reducible first | apply classify_kept | apply discardPartial_kept | apply flag_kept | apply OutKept.next
    | split

theorem execIbrPulse_kept {first : Bool} {whole : Bool} {s : State} (h : Kept μ s₀ s) :
    OutKept μ s₀ (execIbrPulse first whole s) := by
  unfold execIbrPulse
  repeat' first
    | (extract_lets +onlyGivenNames x; first | (refine Kept.aside (μ := μ) (s₀ := s₀) (x := x) ?_ ?_; clear_value x; revert x; refine Kept.hold ?_; intro x hx; rotate_left; subst x) | skip)
    | with_reducible first | assumption | apply Kept.ite | apply OutKept.ite
    | with_reducible intro _
    | with_reducible (apply kept_mk; assumption)
    | with_reducible first | apply advanceTo_kept | apply bump_kept | apply OutKept.next
    | split

theorem execEvtRdWrite_kept {v : Word} {s : State} (h : Kept μ s₀ s) :
    OutKept μ s₀ (execEvtRdWrite v s) := by
  unfold execEvtRdWrite
  repeat' first
    | with_reducible first | assumption | apply Kept.ite | apply OutKept.ite
    | with_reducible intro _
    | with_reducible first | apply writeEvtRd_kept | apply OutKept.next
    | split

theorem execEvtStatusRead_kept {s : State} (h : Kept μ s₀ s) :
    OutKept μ s₀ (execEvtStatusRead s) := by
  unfold execEvtStatusRead
  repeat' first
    | with_reducible first | assumption | apply Kept.ite | apply OutKept.ite
    | with_reducible intro _
    | with_reducible first | apply readEffect_kept | apply OutKept.next
    | split

end Sys2Proof.Machine
end

