-- ==== Sys2Proof/Laws/State.lean ====
section
/-!
SUPPORT. What each named update of the state leaves: one lemma for each field an update does not touch, true by definition, so
that no proof unfolds a record update; and what each update does to the field it touches.
-/
namespace Sys2Proof.Machine

variable (s : State)

@[simp] theorem setWord_now (a : Nat) (w : Word) : (s.setWord a w).now = s.now := rfl
@[simp] theorem setWord_tbZero (a : Nat) (w : Word) : (s.setWord a w).tbZero = s.tbZero := rfl
@[simp] theorem setWord_timers (a : Nat) (w : Word) : (s.setWord a w).timers = s.timers := rfl
@[simp] theorem setWord_env (a : Nat) (w : Word) : (s.setWord a w).env = s.env := rfl
@[simp] theorem setWord_pins (a : Nat) (w : Word) : (s.setWord a w).pins = s.pins := rfl
@[simp] theorem setWord_ports (a : Nat) (w : Word) : (s.setWord a w).ports = s.ports := rfl
@[simp] theorem setWord_rails (a : Nat) (w : Word) : (s.setWord a w).rails = s.rails := rfl
@[simp] theorem setWord_seq (a : Nat) (w : Word) : (s.setWord a w).seq = s.seq := rfl
@[simp] theorem setWord_axl (a : Nat) (w : Word) : (s.setWord a w).axl = s.axl := rfl
@[simp] theorem setWord_bus (a : Nat) (w : Word) : (s.setWord a w).bus = s.bus := rfl
@[simp] theorem setWord_island (a : Nat) (w : Word) : (s.setWord a w).island = s.island := rfl
@[simp] theorem setWord_hif (a : Nat) (w : Word) : (s.setWord a w).hif = s.hif := rfl
@[simp] theorem setWord_flt (a : Nat) (w : Word) : (s.setWord a w).flt = s.flt := rfl
@[simp] theorem setWord_ffl (a : Nat) (w : Word) : (s.setWord a w).ffl = s.ffl := rfl
@[simp] theorem setWord_boot (a : Nat) (w : Word) : (s.setWord a w).boot = s.boot := rfl
@[simp] theorem setWord_msr (a : Nat) (w : Word) : (s.setWord a w).msr = s.msr := rfl
@[simp] theorem setWord_cap (a : Nat) (w : Word) : (s.setWord a w).cap = s.cap := rfl
@[simp] theorem setWord_hub (a : Nat) (w : Word) : (s.setWord a w).hub = s.hub := rfl
@[simp] theorem setWord_mgt (a : Nat) (w : Word) : (s.setWord a w).mgt = s.mgt := rfl
@[simp] theorem setWord_streams (a : Nat) (w : Word) : (s.setWord a w).streams = s.streams := rfl
@[simp] theorem setWord_his (a : Nat) (w : Word) : (s.setWord a w).his = s.his := rfl
@[simp] theorem setWord_tmb (a : Nat) (w : Word) : (s.setWord a w).tmb = s.tmb := rfl
@[simp] theorem setWord_upd (a : Nat) (w : Word) : (s.setWord a w).upd = s.upd := rfl
@[simp] theorem setWord_sec (a : Nat) (w : Word) : (s.setWord a w).sec = s.sec := rfl
@[simp] theorem setWord_bud (a : Nat) (w : Word) : (s.setWord a w).bud = s.bud := rfl
@[simp] theorem setWord_free (a : Nat) (w : Word) : (s.setWord a w).free = s.free := rfl
@[simp] theorem setWord_flash (a : Nat) (w : Word) : (s.setWord a w).flash = s.flash := rfl
@[simp] theorem setWord_otp (a : Nat) (w : Word) : (s.setWord a w).otp = s.otp := rfl
@[simp] theorem setWord_sram (a : Nat) (w : Word) : (s.setWord a w).sram = s.sram := rfl
@[simp] theorem setWord_engMem (a : Nat) (w : Word) : (s.setWord a w).engMem = s.engMem := rfl
@[simp] theorem setWord_pending (a : Nat) (w : Word) : (s.setWord a w).pending = s.pending := rfl

@[simp] theorem set_now (f : Fld) (v : Nat) : (s.set f v).now = s.now := rfl
@[simp] theorem set_tbZero (f : Fld) (v : Nat) : (s.set f v).tbZero = s.tbZero := rfl
@[simp] theorem set_timers (f : Fld) (v : Nat) : (s.set f v).timers = s.timers := rfl
@[simp] theorem set_env (f : Fld) (v : Nat) : (s.set f v).env = s.env := rfl
@[simp] theorem set_pins (f : Fld) (v : Nat) : (s.set f v).pins = s.pins := rfl
@[simp] theorem set_ports (f : Fld) (v : Nat) : (s.set f v).ports = s.ports := rfl
@[simp] theorem set_rails (f : Fld) (v : Nat) : (s.set f v).rails = s.rails := rfl
@[simp] theorem set_seq (f : Fld) (v : Nat) : (s.set f v).seq = s.seq := rfl
@[simp] theorem set_axl (f : Fld) (v : Nat) : (s.set f v).axl = s.axl := rfl
@[simp] theorem set_bus (f : Fld) (v : Nat) : (s.set f v).bus = s.bus := rfl
@[simp] theorem set_island (f : Fld) (v : Nat) : (s.set f v).island = s.island := rfl
@[simp] theorem set_hif (f : Fld) (v : Nat) : (s.set f v).hif = s.hif := rfl
@[simp] theorem set_flt (f : Fld) (v : Nat) : (s.set f v).flt = s.flt := rfl
@[simp] theorem set_ffl (f : Fld) (v : Nat) : (s.set f v).ffl = s.ffl := rfl
@[simp] theorem set_boot (f : Fld) (v : Nat) : (s.set f v).boot = s.boot := rfl
@[simp] theorem set_msr (f : Fld) (v : Nat) : (s.set f v).msr = s.msr := rfl
@[simp] theorem set_cap (f : Fld) (v : Nat) : (s.set f v).cap = s.cap := rfl
@[simp] theorem set_hub (f : Fld) (v : Nat) : (s.set f v).hub = s.hub := rfl
@[simp] theorem set_mgt (f : Fld) (v : Nat) : (s.set f v).mgt = s.mgt := rfl
@[simp] theorem set_streams (f : Fld) (v : Nat) : (s.set f v).streams = s.streams := rfl
@[simp] theorem set_his (f : Fld) (v : Nat) : (s.set f v).his = s.his := rfl
@[simp] theorem set_tmb (f : Fld) (v : Nat) : (s.set f v).tmb = s.tmb := rfl
@[simp] theorem set_upd (f : Fld) (v : Nat) : (s.set f v).upd = s.upd := rfl
@[simp] theorem set_sec (f : Fld) (v : Nat) : (s.set f v).sec = s.sec := rfl
@[simp] theorem set_bud (f : Fld) (v : Nat) : (s.set f v).bud = s.bud := rfl
@[simp] theorem set_free (f : Fld) (v : Nat) : (s.set f v).free = s.free := rfl
@[simp] theorem set_flash (f : Fld) (v : Nat) : (s.set f v).flash = s.flash := rfl
@[simp] theorem set_otp (f : Fld) (v : Nat) : (s.set f v).otp = s.otp := rfl
@[simp] theorem set_sram (f : Fld) (v : Nat) : (s.set f v).sram = s.sram := rfl
@[simp] theorem set_engMem (f : Fld) (v : Nat) : (s.set f v).engMem = s.engMem := rfl
@[simp] theorem set_pending (f : Fld) (v : Nat) : (s.set f v).pending = s.pending := rfl

@[simp] theorem put_now (f : Fld) (b : Bool) : (s.put f b).now = s.now := rfl
@[simp] theorem put_tbZero (f : Fld) (b : Bool) : (s.put f b).tbZero = s.tbZero := rfl
@[simp] theorem put_timers (f : Fld) (b : Bool) : (s.put f b).timers = s.timers := rfl
@[simp] theorem put_env (f : Fld) (b : Bool) : (s.put f b).env = s.env := rfl
@[simp] theorem put_pins (f : Fld) (b : Bool) : (s.put f b).pins = s.pins := rfl
@[simp] theorem put_ports (f : Fld) (b : Bool) : (s.put f b).ports = s.ports := rfl
@[simp] theorem put_rails (f : Fld) (b : Bool) : (s.put f b).rails = s.rails := rfl
@[simp] theorem put_seq (f : Fld) (b : Bool) : (s.put f b).seq = s.seq := rfl
@[simp] theorem put_axl (f : Fld) (b : Bool) : (s.put f b).axl = s.axl := rfl
@[simp] theorem put_bus (f : Fld) (b : Bool) : (s.put f b).bus = s.bus := rfl
@[simp] theorem put_island (f : Fld) (b : Bool) : (s.put f b).island = s.island := rfl
@[simp] theorem put_hif (f : Fld) (b : Bool) : (s.put f b).hif = s.hif := rfl
@[simp] theorem put_flt (f : Fld) (b : Bool) : (s.put f b).flt = s.flt := rfl
@[simp] theorem put_ffl (f : Fld) (b : Bool) : (s.put f b).ffl = s.ffl := rfl
@[simp] theorem put_boot (f : Fld) (b : Bool) : (s.put f b).boot = s.boot := rfl
@[simp] theorem put_msr (f : Fld) (b : Bool) : (s.put f b).msr = s.msr := rfl
@[simp] theorem put_cap (f : Fld) (b : Bool) : (s.put f b).cap = s.cap := rfl
@[simp] theorem put_hub (f : Fld) (b : Bool) : (s.put f b).hub = s.hub := rfl
@[simp] theorem put_mgt (f : Fld) (b : Bool) : (s.put f b).mgt = s.mgt := rfl
@[simp] theorem put_streams (f : Fld) (b : Bool) : (s.put f b).streams = s.streams := rfl
@[simp] theorem put_his (f : Fld) (b : Bool) : (s.put f b).his = s.his := rfl
@[simp] theorem put_tmb (f : Fld) (b : Bool) : (s.put f b).tmb = s.tmb := rfl
@[simp] theorem put_upd (f : Fld) (b : Bool) : (s.put f b).upd = s.upd := rfl
@[simp] theorem put_sec (f : Fld) (b : Bool) : (s.put f b).sec = s.sec := rfl
@[simp] theorem put_bud (f : Fld) (b : Bool) : (s.put f b).bud = s.bud := rfl
@[simp] theorem put_free (f : Fld) (b : Bool) : (s.put f b).free = s.free := rfl
@[simp] theorem put_flash (f : Fld) (b : Bool) : (s.put f b).flash = s.flash := rfl
@[simp] theorem put_otp (f : Fld) (b : Bool) : (s.put f b).otp = s.otp := rfl
@[simp] theorem put_sram (f : Fld) (b : Bool) : (s.put f b).sram = s.sram := rfl
@[simp] theorem put_engMem (f : Fld) (b : Bool) : (s.put f b).engMem = s.engMem := rfl
@[simp] theorem put_pending (f : Fld) (b : Bool) : (s.put f b).pending = s.pending := rfl

@[simp] theorem putBit_now (f : Fld) (i : Nat) (b : Bool) : (s.putBit f i b).now = s.now := rfl
@[simp] theorem putBit_tbZero (f : Fld) (i : Nat) (b : Bool) : (s.putBit f i b).tbZero = s.tbZero := rfl
@[simp] theorem putBit_timers (f : Fld) (i : Nat) (b : Bool) : (s.putBit f i b).timers = s.timers := rfl
@[simp] theorem putBit_env (f : Fld) (i : Nat) (b : Bool) : (s.putBit f i b).env = s.env := rfl
@[simp] theorem putBit_pins (f : Fld) (i : Nat) (b : Bool) : (s.putBit f i b).pins = s.pins := rfl
@[simp] theorem putBit_ports (f : Fld) (i : Nat) (b : Bool) : (s.putBit f i b).ports = s.ports := rfl
@[simp] theorem putBit_rails (f : Fld) (i : Nat) (b : Bool) : (s.putBit f i b).rails = s.rails := rfl
@[simp] theorem putBit_seq (f : Fld) (i : Nat) (b : Bool) : (s.putBit f i b).seq = s.seq := rfl
@[simp] theorem putBit_axl (f : Fld) (i : Nat) (b : Bool) : (s.putBit f i b).axl = s.axl := rfl
@[simp] theorem putBit_bus (f : Fld) (i : Nat) (b : Bool) : (s.putBit f i b).bus = s.bus := rfl
@[simp] theorem putBit_island (f : Fld) (i : Nat) (b : Bool) : (s.putBit f i b).island = s.island := rfl
@[simp] theorem putBit_hif (f : Fld) (i : Nat) (b : Bool) : (s.putBit f i b).hif = s.hif := rfl
@[simp] theorem putBit_flt (f : Fld) (i : Nat) (b : Bool) : (s.putBit f i b).flt = s.flt := rfl
@[simp] theorem putBit_ffl (f : Fld) (i : Nat) (b : Bool) : (s.putBit f i b).ffl = s.ffl := rfl
@[simp] theorem putBit_boot (f : Fld) (i : Nat) (b : Bool) : (s.putBit f i b).boot = s.boot := rfl
@[simp] theorem putBit_msr (f : Fld) (i : Nat) (b : Bool) : (s.putBit f i b).msr = s.msr := rfl
@[simp] theorem putBit_cap (f : Fld) (i : Nat) (b : Bool) : (s.putBit f i b).cap = s.cap := rfl
@[simp] theorem putBit_hub (f : Fld) (i : Nat) (b : Bool) : (s.putBit f i b).hub = s.hub := rfl
@[simp] theorem putBit_mgt (f : Fld) (i : Nat) (b : Bool) : (s.putBit f i b).mgt = s.mgt := rfl
@[simp] theorem putBit_streams (f : Fld) (i : Nat) (b : Bool) : (s.putBit f i b).streams = s.streams := rfl
@[simp] theorem putBit_his (f : Fld) (i : Nat) (b : Bool) : (s.putBit f i b).his = s.his := rfl
@[simp] theorem putBit_tmb (f : Fld) (i : Nat) (b : Bool) : (s.putBit f i b).tmb = s.tmb := rfl
@[simp] theorem putBit_upd (f : Fld) (i : Nat) (b : Bool) : (s.putBit f i b).upd = s.upd := rfl
@[simp] theorem putBit_sec (f : Fld) (i : Nat) (b : Bool) : (s.putBit f i b).sec = s.sec := rfl
@[simp] theorem putBit_bud (f : Fld) (i : Nat) (b : Bool) : (s.putBit f i b).bud = s.bud := rfl
@[simp] theorem putBit_free (f : Fld) (i : Nat) (b : Bool) : (s.putBit f i b).free = s.free := rfl
@[simp] theorem putBit_flash (f : Fld) (i : Nat) (b : Bool) : (s.putBit f i b).flash = s.flash := rfl
@[simp] theorem putBit_otp (f : Fld) (i : Nat) (b : Bool) : (s.putBit f i b).otp = s.otp := rfl
@[simp] theorem putBit_sram (f : Fld) (i : Nat) (b : Bool) : (s.putBit f i b).sram = s.sram := rfl
@[simp] theorem putBit_engMem (f : Fld) (i : Nat) (b : Bool) : (s.putBit f i b).engMem = s.engMem := rfl
@[simp] theorem putBit_pending (f : Fld) (i : Nat) (b : Bool) : (s.putBit f i b).pending = s.pending := rfl

@[simp] theorem bump_now (f : Fld) (n : Nat) : (s.bump f n).now = s.now := rfl
@[simp] theorem bump_tbZero (f : Fld) (n : Nat) : (s.bump f n).tbZero = s.tbZero := rfl
@[simp] theorem bump_timers (f : Fld) (n : Nat) : (s.bump f n).timers = s.timers := rfl
@[simp] theorem bump_env (f : Fld) (n : Nat) : (s.bump f n).env = s.env := rfl
@[simp] theorem bump_pins (f : Fld) (n : Nat) : (s.bump f n).pins = s.pins := rfl
@[simp] theorem bump_ports (f : Fld) (n : Nat) : (s.bump f n).ports = s.ports := rfl
@[simp] theorem bump_rails (f : Fld) (n : Nat) : (s.bump f n).rails = s.rails := rfl
@[simp] theorem bump_seq (f : Fld) (n : Nat) : (s.bump f n).seq = s.seq := rfl
@[simp] theorem bump_axl (f : Fld) (n : Nat) : (s.bump f n).axl = s.axl := rfl
@[simp] theorem bump_bus (f : Fld) (n : Nat) : (s.bump f n).bus = s.bus := rfl
@[simp] theorem bump_island (f : Fld) (n : Nat) : (s.bump f n).island = s.island := rfl
@[simp] theorem bump_hif (f : Fld) (n : Nat) : (s.bump f n).hif = s.hif := rfl
@[simp] theorem bump_flt (f : Fld) (n : Nat) : (s.bump f n).flt = s.flt := rfl
@[simp] theorem bump_ffl (f : Fld) (n : Nat) : (s.bump f n).ffl = s.ffl := rfl
@[simp] theorem bump_boot (f : Fld) (n : Nat) : (s.bump f n).boot = s.boot := rfl
@[simp] theorem bump_msr (f : Fld) (n : Nat) : (s.bump f n).msr = s.msr := rfl
@[simp] theorem bump_cap (f : Fld) (n : Nat) : (s.bump f n).cap = s.cap := rfl
@[simp] theorem bump_hub (f : Fld) (n : Nat) : (s.bump f n).hub = s.hub := rfl
@[simp] theorem bump_mgt (f : Fld) (n : Nat) : (s.bump f n).mgt = s.mgt := rfl
@[simp] theorem bump_streams (f : Fld) (n : Nat) : (s.bump f n).streams = s.streams := rfl
@[simp] theorem bump_his (f : Fld) (n : Nat) : (s.bump f n).his = s.his := rfl
@[simp] theorem bump_tmb (f : Fld) (n : Nat) : (s.bump f n).tmb = s.tmb := rfl
@[simp] theorem bump_upd (f : Fld) (n : Nat) : (s.bump f n).upd = s.upd := rfl
@[simp] theorem bump_sec (f : Fld) (n : Nat) : (s.bump f n).sec = s.sec := rfl
@[simp] theorem bump_bud (f : Fld) (n : Nat) : (s.bump f n).bud = s.bud := rfl
@[simp] theorem bump_free (f : Fld) (n : Nat) : (s.bump f n).free = s.free := rfl
@[simp] theorem bump_flash (f : Fld) (n : Nat) : (s.bump f n).flash = s.flash := rfl
@[simp] theorem bump_otp (f : Fld) (n : Nat) : (s.bump f n).otp = s.otp := rfl
@[simp] theorem bump_sram (f : Fld) (n : Nat) : (s.bump f n).sram = s.sram := rfl
@[simp] theorem bump_engMem (f : Fld) (n : Nat) : (s.bump f n).engMem = s.engMem := rfl
@[simp] theorem bump_pending (f : Fld) (n : Nat) : (s.bump f n).pending = s.pending := rfl

@[simp] theorem flag_now (g : Flag) : (s.flag g).now = s.now := rfl
@[simp] theorem flag_tbZero (g : Flag) : (s.flag g).tbZero = s.tbZero := rfl
@[simp] theorem flag_timers (g : Flag) : (s.flag g).timers = s.timers := rfl
@[simp] theorem flag_env (g : Flag) : (s.flag g).env = s.env := rfl
@[simp] theorem flag_pins (g : Flag) : (s.flag g).pins = s.pins := rfl
@[simp] theorem flag_ports (g : Flag) : (s.flag g).ports = s.ports := rfl
@[simp] theorem flag_rails (g : Flag) : (s.flag g).rails = s.rails := rfl
@[simp] theorem flag_seq (g : Flag) : (s.flag g).seq = s.seq := rfl
@[simp] theorem flag_axl (g : Flag) : (s.flag g).axl = s.axl := rfl
@[simp] theorem flag_bus (g : Flag) : (s.flag g).bus = s.bus := rfl
@[simp] theorem flag_island (g : Flag) : (s.flag g).island = s.island := rfl
@[simp] theorem flag_hif (g : Flag) : (s.flag g).hif = s.hif := rfl
@[simp] theorem flag_flt (g : Flag) : (s.flag g).flt = s.flt := rfl
@[simp] theorem flag_ffl (g : Flag) : (s.flag g).ffl = s.ffl := rfl
@[simp] theorem flag_boot (g : Flag) : (s.flag g).boot = s.boot := rfl
@[simp] theorem flag_msr (g : Flag) : (s.flag g).msr = s.msr := rfl
@[simp] theorem flag_cap (g : Flag) : (s.flag g).cap = s.cap := rfl
@[simp] theorem flag_hub (g : Flag) : (s.flag g).hub = s.hub := rfl
@[simp] theorem flag_mgt (g : Flag) : (s.flag g).mgt = s.mgt := rfl
@[simp] theorem flag_streams (g : Flag) : (s.flag g).streams = s.streams := rfl
@[simp] theorem flag_his (g : Flag) : (s.flag g).his = s.his := rfl
@[simp] theorem flag_tmb (g : Flag) : (s.flag g).tmb = s.tmb := rfl
@[simp] theorem flag_upd (g : Flag) : (s.flag g).upd = s.upd := rfl
@[simp] theorem flag_sec (g : Flag) : (s.flag g).sec = s.sec := rfl
@[simp] theorem flag_bud (g : Flag) : (s.flag g).bud = s.bud := rfl
@[simp] theorem flag_free (g : Flag) : (s.flag g).free = s.free := rfl
@[simp] theorem flag_flash (g : Flag) : (s.flag g).flash = s.flash := rfl
@[simp] theorem flag_otp (g : Flag) : (s.flag g).otp = s.otp := rfl
@[simp] theorem flag_sram (g : Flag) : (s.flag g).sram = s.sram := rfl
@[simp] theorem flag_engMem (g : Flag) : (s.flag g).engMem = s.engMem := rfl
@[simp] theorem flag_pending (g : Flag) : (s.flag g).pending = s.pending := rfl

@[simp] theorem clearFlag_now (g : Flag) : (s.clearFlag g).now = s.now := rfl
@[simp] theorem clearFlag_tbZero (g : Flag) : (s.clearFlag g).tbZero = s.tbZero := rfl
@[simp] theorem clearFlag_timers (g : Flag) : (s.clearFlag g).timers = s.timers := rfl
@[simp] theorem clearFlag_env (g : Flag) : (s.clearFlag g).env = s.env := rfl
@[simp] theorem clearFlag_pins (g : Flag) : (s.clearFlag g).pins = s.pins := rfl
@[simp] theorem clearFlag_ports (g : Flag) : (s.clearFlag g).ports = s.ports := rfl
@[simp] theorem clearFlag_rails (g : Flag) : (s.clearFlag g).rails = s.rails := rfl
@[simp] theorem clearFlag_seq (g : Flag) : (s.clearFlag g).seq = s.seq := rfl
@[simp] theorem clearFlag_axl (g : Flag) : (s.clearFlag g).axl = s.axl := rfl
@[simp] theorem clearFlag_bus (g : Flag) : (s.clearFlag g).bus = s.bus := rfl
@[simp] theorem clearFlag_island (g : Flag) : (s.clearFlag g).island = s.island := rfl
@[simp] theorem clearFlag_hif (g : Flag) : (s.clearFlag g).hif = s.hif := rfl
@[simp] theorem clearFlag_flt (g : Flag) : (s.clearFlag g).flt = s.flt := rfl
@[simp] theorem clearFlag_ffl (g : Flag) : (s.clearFlag g).ffl = s.ffl := rfl
@[simp] theorem clearFlag_boot (g : Flag) : (s.clearFlag g).boot = s.boot := rfl
@[simp] theorem clearFlag_msr (g : Flag) : (s.clearFlag g).msr = s.msr := rfl
@[simp] theorem clearFlag_cap (g : Flag) : (s.clearFlag g).cap = s.cap := rfl
@[simp] theorem clearFlag_hub (g : Flag) : (s.clearFlag g).hub = s.hub := rfl
@[simp] theorem clearFlag_mgt (g : Flag) : (s.clearFlag g).mgt = s.mgt := rfl
@[simp] theorem clearFlag_streams (g : Flag) : (s.clearFlag g).streams = s.streams := rfl
@[simp] theorem clearFlag_his (g : Flag) : (s.clearFlag g).his = s.his := rfl
@[simp] theorem clearFlag_tmb (g : Flag) : (s.clearFlag g).tmb = s.tmb := rfl
@[simp] theorem clearFlag_upd (g : Flag) : (s.clearFlag g).upd = s.upd := rfl
@[simp] theorem clearFlag_sec (g : Flag) : (s.clearFlag g).sec = s.sec := rfl
@[simp] theorem clearFlag_bud (g : Flag) : (s.clearFlag g).bud = s.bud := rfl
@[simp] theorem clearFlag_free (g : Flag) : (s.clearFlag g).free = s.free := rfl
@[simp] theorem clearFlag_flash (g : Flag) : (s.clearFlag g).flash = s.flash := rfl
@[simp] theorem clearFlag_otp (g : Flag) : (s.clearFlag g).otp = s.otp := rfl
@[simp] theorem clearFlag_sram (g : Flag) : (s.clearFlag g).sram = s.sram := rfl
@[simp] theorem clearFlag_engMem (g : Flag) : (s.clearFlag g).engMem = s.engMem := rfl
@[simp] theorem clearFlag_pending (g : Flag) : (s.clearFlag g).pending = s.pending := rfl

@[simp] theorem modPort_regs (k : PortId) (f : Port → Port) : (s.modPort k f).regs = s.regs := rfl
@[simp] theorem modPort_now (k : PortId) (f : Port → Port) : (s.modPort k f).now = s.now := rfl
@[simp] theorem modPort_tbZero (k : PortId) (f : Port → Port) : (s.modPort k f).tbZero = s.tbZero := rfl
@[simp] theorem modPort_timers (k : PortId) (f : Port → Port) : (s.modPort k f).timers = s.timers := rfl
@[simp] theorem modPort_env (k : PortId) (f : Port → Port) : (s.modPort k f).env = s.env := rfl
@[simp] theorem modPort_pins (k : PortId) (f : Port → Port) : (s.modPort k f).pins = s.pins := rfl
@[simp] theorem modPort_rails (k : PortId) (f : Port → Port) : (s.modPort k f).rails = s.rails := rfl
@[simp] theorem modPort_seq (k : PortId) (f : Port → Port) : (s.modPort k f).seq = s.seq := rfl
@[simp] theorem modPort_axl (k : PortId) (f : Port → Port) : (s.modPort k f).axl = s.axl := rfl
@[simp] theorem modPort_bus (k : PortId) (f : Port → Port) : (s.modPort k f).bus = s.bus := rfl
@[simp] theorem modPort_island (k : PortId) (f : Port → Port) : (s.modPort k f).island = s.island := rfl
@[simp] theorem modPort_hif (k : PortId) (f : Port → Port) : (s.modPort k f).hif = s.hif := rfl
@[simp] theorem modPort_flt (k : PortId) (f : Port → Port) : (s.modPort k f).flt = s.flt := rfl
@[simp] theorem modPort_ffl (k : PortId) (f : Port → Port) : (s.modPort k f).ffl = s.ffl := rfl
@[simp] theorem modPort_boot (k : PortId) (f : Port → Port) : (s.modPort k f).boot = s.boot := rfl
@[simp] theorem modPort_msr (k : PortId) (f : Port → Port) : (s.modPort k f).msr = s.msr := rfl
@[simp] theorem modPort_cap (k : PortId) (f : Port → Port) : (s.modPort k f).cap = s.cap := rfl
@[simp] theorem modPort_hub (k : PortId) (f : Port → Port) : (s.modPort k f).hub = s.hub := rfl
@[simp] theorem modPort_mgt (k : PortId) (f : Port → Port) : (s.modPort k f).mgt = s.mgt := rfl
@[simp] theorem modPort_streams (k : PortId) (f : Port → Port) : (s.modPort k f).streams = s.streams := rfl
@[simp] theorem modPort_his (k : PortId) (f : Port → Port) : (s.modPort k f).his = s.his := rfl
@[simp] theorem modPort_tmb (k : PortId) (f : Port → Port) : (s.modPort k f).tmb = s.tmb := rfl
@[simp] theorem modPort_upd (k : PortId) (f : Port → Port) : (s.modPort k f).upd = s.upd := rfl
@[simp] theorem modPort_sec (k : PortId) (f : Port → Port) : (s.modPort k f).sec = s.sec := rfl
@[simp] theorem modPort_bud (k : PortId) (f : Port → Port) : (s.modPort k f).bud = s.bud := rfl
@[simp] theorem modPort_free (k : PortId) (f : Port → Port) : (s.modPort k f).free = s.free := rfl
@[simp] theorem modPort_flash (k : PortId) (f : Port → Port) : (s.modPort k f).flash = s.flash := rfl
@[simp] theorem modPort_otp (k : PortId) (f : Port → Port) : (s.modPort k f).otp = s.otp := rfl
@[simp] theorem modPort_sram (k : PortId) (f : Port → Port) : (s.modPort k f).sram = s.sram := rfl
@[simp] theorem modPort_engMem (k : PortId) (f : Port → Port) : (s.modPort k f).engMem = s.engMem := rfl
@[simp] theorem modPort_pending (k : PortId) (f : Port → Port) : (s.modPort k f).pending = s.pending := rfl
@[simp] theorem modPort_word (k : PortId) (f : Port → Port) (a : Nat) : (s.modPort k f).word a = s.word a := rfl
@[simp] theorem modPort_get (k : PortId) (f : Port → Port) (g : Fld) : (s.modPort k f).get g = s.get g := rfl
@[simp] theorem modPort_has (k : PortId) (f : Port → Port) (g : Fld) : (s.modPort k f).has g = s.has g := rfl

@[simp] theorem modAtt_regs (k : PortId) (f : AttPort → AttPort) : (s.modAtt k f).regs = s.regs := rfl
@[simp] theorem modAtt_now (k : PortId) (f : AttPort → AttPort) : (s.modAtt k f).now = s.now := rfl
@[simp] theorem modAtt_tbZero (k : PortId) (f : AttPort → AttPort) : (s.modAtt k f).tbZero = s.tbZero := rfl
@[simp] theorem modAtt_timers (k : PortId) (f : AttPort → AttPort) : (s.modAtt k f).timers = s.timers := rfl
@[simp] theorem modAtt_env (k : PortId) (f : AttPort → AttPort) : (s.modAtt k f).env = s.env := rfl
@[simp] theorem modAtt_pins (k : PortId) (f : AttPort → AttPort) : (s.modAtt k f).pins = s.pins := rfl
@[simp] theorem modAtt_rails (k : PortId) (f : AttPort → AttPort) : (s.modAtt k f).rails = s.rails := rfl
@[simp] theorem modAtt_seq (k : PortId) (f : AttPort → AttPort) : (s.modAtt k f).seq = s.seq := rfl
@[simp] theorem modAtt_axl (k : PortId) (f : AttPort → AttPort) : (s.modAtt k f).axl = s.axl := rfl
@[simp] theorem modAtt_bus (k : PortId) (f : AttPort → AttPort) : (s.modAtt k f).bus = s.bus := rfl
@[simp] theorem modAtt_island (k : PortId) (f : AttPort → AttPort) : (s.modAtt k f).island = s.island := rfl
@[simp] theorem modAtt_hif (k : PortId) (f : AttPort → AttPort) : (s.modAtt k f).hif = s.hif := rfl
@[simp] theorem modAtt_flt (k : PortId) (f : AttPort → AttPort) : (s.modAtt k f).flt = s.flt := rfl
@[simp] theorem modAtt_ffl (k : PortId) (f : AttPort → AttPort) : (s.modAtt k f).ffl = s.ffl := rfl
@[simp] theorem modAtt_boot (k : PortId) (f : AttPort → AttPort) : (s.modAtt k f).boot = s.boot := rfl
@[simp] theorem modAtt_msr (k : PortId) (f : AttPort → AttPort) : (s.modAtt k f).msr = s.msr := rfl
@[simp] theorem modAtt_cap (k : PortId) (f : AttPort → AttPort) : (s.modAtt k f).cap = s.cap := rfl
@[simp] theorem modAtt_hub (k : PortId) (f : AttPort → AttPort) : (s.modAtt k f).hub = s.hub := rfl
@[simp] theorem modAtt_mgt (k : PortId) (f : AttPort → AttPort) : (s.modAtt k f).mgt = s.mgt := rfl
@[simp] theorem modAtt_streams (k : PortId) (f : AttPort → AttPort) : (s.modAtt k f).streams = s.streams := rfl
@[simp] theorem modAtt_his (k : PortId) (f : AttPort → AttPort) : (s.modAtt k f).his = s.his := rfl
@[simp] theorem modAtt_tmb (k : PortId) (f : AttPort → AttPort) : (s.modAtt k f).tmb = s.tmb := rfl
@[simp] theorem modAtt_upd (k : PortId) (f : AttPort → AttPort) : (s.modAtt k f).upd = s.upd := rfl
@[simp] theorem modAtt_sec (k : PortId) (f : AttPort → AttPort) : (s.modAtt k f).sec = s.sec := rfl
@[simp] theorem modAtt_bud (k : PortId) (f : AttPort → AttPort) : (s.modAtt k f).bud = s.bud := rfl
@[simp] theorem modAtt_free (k : PortId) (f : AttPort → AttPort) : (s.modAtt k f).free = s.free := rfl
@[simp] theorem modAtt_flash (k : PortId) (f : AttPort → AttPort) : (s.modAtt k f).flash = s.flash := rfl
@[simp] theorem modAtt_otp (k : PortId) (f : AttPort → AttPort) : (s.modAtt k f).otp = s.otp := rfl
@[simp] theorem modAtt_sram (k : PortId) (f : AttPort → AttPort) : (s.modAtt k f).sram = s.sram := rfl
@[simp] theorem modAtt_engMem (k : PortId) (f : AttPort → AttPort) : (s.modAtt k f).engMem = s.engMem := rfl
@[simp] theorem modAtt_pending (k : PortId) (f : AttPort → AttPort) : (s.modAtt k f).pending = s.pending := rfl
@[simp] theorem modAtt_word (k : PortId) (f : AttPort → AttPort) (a : Nat) : (s.modAtt k f).word a = s.word a := rfl
@[simp] theorem modAtt_get (k : PortId) (f : AttPort → AttPort) (g : Fld) : (s.modAtt k f).get g = s.get g := rfl
@[simp] theorem modAtt_has (k : PortId) (f : AttPort → AttPort) (g : Fld) : (s.modAtt k f).has g = s.has g := rfl

@[simp] theorem modPd_regs (k : PortId) (f : PdPort → PdPort) : (s.modPd k f).regs = s.regs := rfl
@[simp] theorem modPd_now (k : PortId) (f : PdPort → PdPort) : (s.modPd k f).now = s.now := rfl
@[simp] theorem modPd_tbZero (k : PortId) (f : PdPort → PdPort) : (s.modPd k f).tbZero = s.tbZero := rfl
@[simp] theorem modPd_timers (k : PortId) (f : PdPort → PdPort) : (s.modPd k f).timers = s.timers := rfl
@[simp] theorem modPd_env (k : PortId) (f : PdPort → PdPort) : (s.modPd k f).env = s.env := rfl
@[simp] theorem modPd_pins (k : PortId) (f : PdPort → PdPort) : (s.modPd k f).pins = s.pins := rfl
@[simp] theorem modPd_rails (k : PortId) (f : PdPort → PdPort) : (s.modPd k f).rails = s.rails := rfl
@[simp] theorem modPd_seq (k : PortId) (f : PdPort → PdPort) : (s.modPd k f).seq = s.seq := rfl
@[simp] theorem modPd_axl (k : PortId) (f : PdPort → PdPort) : (s.modPd k f).axl = s.axl := rfl
@[simp] theorem modPd_bus (k : PortId) (f : PdPort → PdPort) : (s.modPd k f).bus = s.bus := rfl
@[simp] theorem modPd_island (k : PortId) (f : PdPort → PdPort) : (s.modPd k f).island = s.island := rfl
@[simp] theorem modPd_hif (k : PortId) (f : PdPort → PdPort) : (s.modPd k f).hif = s.hif := rfl
@[simp] theorem modPd_flt (k : PortId) (f : PdPort → PdPort) : (s.modPd k f).flt = s.flt := rfl
@[simp] theorem modPd_ffl (k : PortId) (f : PdPort → PdPort) : (s.modPd k f).ffl = s.ffl := rfl
@[simp] theorem modPd_boot (k : PortId) (f : PdPort → PdPort) : (s.modPd k f).boot = s.boot := rfl
@[simp] theorem modPd_msr (k : PortId) (f : PdPort → PdPort) : (s.modPd k f).msr = s.msr := rfl
@[simp] theorem modPd_cap (k : PortId) (f : PdPort → PdPort) : (s.modPd k f).cap = s.cap := rfl
@[simp] theorem modPd_hub (k : PortId) (f : PdPort → PdPort) : (s.modPd k f).hub = s.hub := rfl
@[simp] theorem modPd_mgt (k : PortId) (f : PdPort → PdPort) : (s.modPd k f).mgt = s.mgt := rfl
@[simp] theorem modPd_streams (k : PortId) (f : PdPort → PdPort) : (s.modPd k f).streams = s.streams := rfl
@[simp] theorem modPd_his (k : PortId) (f : PdPort → PdPort) : (s.modPd k f).his = s.his := rfl
@[simp] theorem modPd_tmb (k : PortId) (f : PdPort → PdPort) : (s.modPd k f).tmb = s.tmb := rfl
@[simp] theorem modPd_upd (k : PortId) (f : PdPort → PdPort) : (s.modPd k f).upd = s.upd := rfl
@[simp] theorem modPd_sec (k : PortId) (f : PdPort → PdPort) : (s.modPd k f).sec = s.sec := rfl
@[simp] theorem modPd_bud (k : PortId) (f : PdPort → PdPort) : (s.modPd k f).bud = s.bud := rfl
@[simp] theorem modPd_free (k : PortId) (f : PdPort → PdPort) : (s.modPd k f).free = s.free := rfl
@[simp] theorem modPd_flash (k : PortId) (f : PdPort → PdPort) : (s.modPd k f).flash = s.flash := rfl
@[simp] theorem modPd_otp (k : PortId) (f : PdPort → PdPort) : (s.modPd k f).otp = s.otp := rfl
@[simp] theorem modPd_sram (k : PortId) (f : PdPort → PdPort) : (s.modPd k f).sram = s.sram := rfl
@[simp] theorem modPd_engMem (k : PortId) (f : PdPort → PdPort) : (s.modPd k f).engMem = s.engMem := rfl
@[simp] theorem modPd_pending (k : PortId) (f : PdPort → PdPort) : (s.modPd k f).pending = s.pending := rfl
@[simp] theorem modPd_word (k : PortId) (f : PdPort → PdPort) (a : Nat) : (s.modPd k f).word a = s.word a := rfl
@[simp] theorem modPd_get (k : PortId) (f : PdPort → PdPort) (g : Fld) : (s.modPd k f).get g = s.get g := rfl
@[simp] theorem modPd_has (k : PortId) (f : PdPort → PdPort) (g : Fld) : (s.modPd k f).has g = s.has g := rfl

@[simp] theorem modCnv_regs (k : PortId) (f : CnvPort → CnvPort) : (s.modCnv k f).regs = s.regs := rfl
@[simp] theorem modCnv_now (k : PortId) (f : CnvPort → CnvPort) : (s.modCnv k f).now = s.now := rfl
@[simp] theorem modCnv_tbZero (k : PortId) (f : CnvPort → CnvPort) : (s.modCnv k f).tbZero = s.tbZero := rfl
@[simp] theorem modCnv_timers (k : PortId) (f : CnvPort → CnvPort) : (s.modCnv k f).timers = s.timers := rfl
@[simp] theorem modCnv_env (k : PortId) (f : CnvPort → CnvPort) : (s.modCnv k f).env = s.env := rfl
@[simp] theorem modCnv_pins (k : PortId) (f : CnvPort → CnvPort) : (s.modCnv k f).pins = s.pins := rfl
@[simp] theorem modCnv_rails (k : PortId) (f : CnvPort → CnvPort) : (s.modCnv k f).rails = s.rails := rfl
@[simp] theorem modCnv_seq (k : PortId) (f : CnvPort → CnvPort) : (s.modCnv k f).seq = s.seq := rfl
@[simp] theorem modCnv_axl (k : PortId) (f : CnvPort → CnvPort) : (s.modCnv k f).axl = s.axl := rfl
@[simp] theorem modCnv_bus (k : PortId) (f : CnvPort → CnvPort) : (s.modCnv k f).bus = s.bus := rfl
@[simp] theorem modCnv_island (k : PortId) (f : CnvPort → CnvPort) : (s.modCnv k f).island = s.island := rfl
@[simp] theorem modCnv_hif (k : PortId) (f : CnvPort → CnvPort) : (s.modCnv k f).hif = s.hif := rfl
@[simp] theorem modCnv_flt (k : PortId) (f : CnvPort → CnvPort) : (s.modCnv k f).flt = s.flt := rfl
@[simp] theorem modCnv_ffl (k : PortId) (f : CnvPort → CnvPort) : (s.modCnv k f).ffl = s.ffl := rfl
@[simp] theorem modCnv_boot (k : PortId) (f : CnvPort → CnvPort) : (s.modCnv k f).boot = s.boot := rfl
@[simp] theorem modCnv_msr (k : PortId) (f : CnvPort → CnvPort) : (s.modCnv k f).msr = s.msr := rfl
@[simp] theorem modCnv_cap (k : PortId) (f : CnvPort → CnvPort) : (s.modCnv k f).cap = s.cap := rfl
@[simp] theorem modCnv_hub (k : PortId) (f : CnvPort → CnvPort) : (s.modCnv k f).hub = s.hub := rfl
@[simp] theorem modCnv_mgt (k : PortId) (f : CnvPort → CnvPort) : (s.modCnv k f).mgt = s.mgt := rfl
@[simp] theorem modCnv_streams (k : PortId) (f : CnvPort → CnvPort) : (s.modCnv k f).streams = s.streams := rfl
@[simp] theorem modCnv_his (k : PortId) (f : CnvPort → CnvPort) : (s.modCnv k f).his = s.his := rfl
@[simp] theorem modCnv_tmb (k : PortId) (f : CnvPort → CnvPort) : (s.modCnv k f).tmb = s.tmb := rfl
@[simp] theorem modCnv_upd (k : PortId) (f : CnvPort → CnvPort) : (s.modCnv k f).upd = s.upd := rfl
@[simp] theorem modCnv_sec (k : PortId) (f : CnvPort → CnvPort) : (s.modCnv k f).sec = s.sec := rfl
@[simp] theorem modCnv_bud (k : PortId) (f : CnvPort → CnvPort) : (s.modCnv k f).bud = s.bud := rfl
@[simp] theorem modCnv_free (k : PortId) (f : CnvPort → CnvPort) : (s.modCnv k f).free = s.free := rfl
@[simp] theorem modCnv_flash (k : PortId) (f : CnvPort → CnvPort) : (s.modCnv k f).flash = s.flash := rfl
@[simp] theorem modCnv_otp (k : PortId) (f : CnvPort → CnvPort) : (s.modCnv k f).otp = s.otp := rfl
@[simp] theorem modCnv_sram (k : PortId) (f : CnvPort → CnvPort) : (s.modCnv k f).sram = s.sram := rfl
@[simp] theorem modCnv_engMem (k : PortId) (f : CnvPort → CnvPort) : (s.modCnv k f).engMem = s.engMem := rfl
@[simp] theorem modCnv_pending (k : PortId) (f : CnvPort → CnvPort) : (s.modCnv k f).pending = s.pending := rfl
@[simp] theorem modCnv_word (k : PortId) (f : CnvPort → CnvPort) (a : Nat) : (s.modCnv k f).word a = s.word a := rfl
@[simp] theorem modCnv_get (k : PortId) (f : CnvPort → CnvPort) (g : Fld) : (s.modCnv k f).get g = s.get g := rfl
@[simp] theorem modCnv_has (k : PortId) (f : CnvPort → CnvPort) (g : Fld) : (s.modCnv k f).has g = s.has g := rfl

@[simp] theorem modChk_regs (k : PortId) (f : ChkPort → ChkPort) : (s.modChk k f).regs = s.regs := rfl
@[simp] theorem modChk_now (k : PortId) (f : ChkPort → ChkPort) : (s.modChk k f).now = s.now := rfl
@[simp] theorem modChk_tbZero (k : PortId) (f : ChkPort → ChkPort) : (s.modChk k f).tbZero = s.tbZero := rfl
@[simp] theorem modChk_timers (k : PortId) (f : ChkPort → ChkPort) : (s.modChk k f).timers = s.timers := rfl
@[simp] theorem modChk_env (k : PortId) (f : ChkPort → ChkPort) : (s.modChk k f).env = s.env := rfl
@[simp] theorem modChk_pins (k : PortId) (f : ChkPort → ChkPort) : (s.modChk k f).pins = s.pins := rfl
@[simp] theorem modChk_rails (k : PortId) (f : ChkPort → ChkPort) : (s.modChk k f).rails = s.rails := rfl
@[simp] theorem modChk_seq (k : PortId) (f : ChkPort → ChkPort) : (s.modChk k f).seq = s.seq := rfl
@[simp] theorem modChk_axl (k : PortId) (f : ChkPort → ChkPort) : (s.modChk k f).axl = s.axl := rfl
@[simp] theorem modChk_bus (k : PortId) (f : ChkPort → ChkPort) : (s.modChk k f).bus = s.bus := rfl
@[simp] theorem modChk_island (k : PortId) (f : ChkPort → ChkPort) : (s.modChk k f).island = s.island := rfl
@[simp] theorem modChk_hif (k : PortId) (f : ChkPort → ChkPort) : (s.modChk k f).hif = s.hif := rfl
@[simp] theorem modChk_flt (k : PortId) (f : ChkPort → ChkPort) : (s.modChk k f).flt = s.flt := rfl
@[simp] theorem modChk_ffl (k : PortId) (f : ChkPort → ChkPort) : (s.modChk k f).ffl = s.ffl := rfl
@[simp] theorem modChk_boot (k : PortId) (f : ChkPort → ChkPort) : (s.modChk k f).boot = s.boot := rfl
@[simp] theorem modChk_msr (k : PortId) (f : ChkPort → ChkPort) : (s.modChk k f).msr = s.msr := rfl
@[simp] theorem modChk_cap (k : PortId) (f : ChkPort → ChkPort) : (s.modChk k f).cap = s.cap := rfl
@[simp] theorem modChk_hub (k : PortId) (f : ChkPort → ChkPort) : (s.modChk k f).hub = s.hub := rfl
@[simp] theorem modChk_mgt (k : PortId) (f : ChkPort → ChkPort) : (s.modChk k f).mgt = s.mgt := rfl
@[simp] theorem modChk_streams (k : PortId) (f : ChkPort → ChkPort) : (s.modChk k f).streams = s.streams := rfl
@[simp] theorem modChk_his (k : PortId) (f : ChkPort → ChkPort) : (s.modChk k f).his = s.his := rfl
@[simp] theorem modChk_tmb (k : PortId) (f : ChkPort → ChkPort) : (s.modChk k f).tmb = s.tmb := rfl
@[simp] theorem modChk_upd (k : PortId) (f : ChkPort → ChkPort) : (s.modChk k f).upd = s.upd := rfl
@[simp] theorem modChk_sec (k : PortId) (f : ChkPort → ChkPort) : (s.modChk k f).sec = s.sec := rfl
@[simp] theorem modChk_bud (k : PortId) (f : ChkPort → ChkPort) : (s.modChk k f).bud = s.bud := rfl
@[simp] theorem modChk_free (k : PortId) (f : ChkPort → ChkPort) : (s.modChk k f).free = s.free := rfl
@[simp] theorem modChk_flash (k : PortId) (f : ChkPort → ChkPort) : (s.modChk k f).flash = s.flash := rfl
@[simp] theorem modChk_otp (k : PortId) (f : ChkPort → ChkPort) : (s.modChk k f).otp = s.otp := rfl
@[simp] theorem modChk_sram (k : PortId) (f : ChkPort → ChkPort) : (s.modChk k f).sram = s.sram := rfl
@[simp] theorem modChk_engMem (k : PortId) (f : ChkPort → ChkPort) : (s.modChk k f).engMem = s.engMem := rfl
@[simp] theorem modChk_pending (k : PortId) (f : ChkPort → ChkPort) : (s.modChk k f).pending = s.pending := rfl
@[simp] theorem modChk_word (k : PortId) (f : ChkPort → ChkPort) (a : Nat) : (s.modChk k f).word a = s.word a := rfl
@[simp] theorem modChk_get (k : PortId) (f : ChkPort → ChkPort) (g : Fld) : (s.modChk k f).get g = s.get g := rfl
@[simp] theorem modChk_has (k : PortId) (f : ChkPort → ChkPort) (g : Fld) : (s.modChk k f).has g = s.has g := rfl

@[simp] theorem modBrk_regs (k : PortId) (f : BrkPort → BrkPort) : (s.modBrk k f).regs = s.regs := rfl
@[simp] theorem modBrk_now (k : PortId) (f : BrkPort → BrkPort) : (s.modBrk k f).now = s.now := rfl
@[simp] theorem modBrk_tbZero (k : PortId) (f : BrkPort → BrkPort) : (s.modBrk k f).tbZero = s.tbZero := rfl
@[simp] theorem modBrk_timers (k : PortId) (f : BrkPort → BrkPort) : (s.modBrk k f).timers = s.timers := rfl
@[simp] theorem modBrk_env (k : PortId) (f : BrkPort → BrkPort) : (s.modBrk k f).env = s.env := rfl
@[simp] theorem modBrk_pins (k : PortId) (f : BrkPort → BrkPort) : (s.modBrk k f).pins = s.pins := rfl
@[simp] theorem modBrk_rails (k : PortId) (f : BrkPort → BrkPort) : (s.modBrk k f).rails = s.rails := rfl
@[simp] theorem modBrk_seq (k : PortId) (f : BrkPort → BrkPort) : (s.modBrk k f).seq = s.seq := rfl
@[simp] theorem modBrk_axl (k : PortId) (f : BrkPort → BrkPort) : (s.modBrk k f).axl = s.axl := rfl
@[simp] theorem modBrk_bus (k : PortId) (f : BrkPort → BrkPort) : (s.modBrk k f).bus = s.bus := rfl
@[simp] theorem modBrk_island (k : PortId) (f : BrkPort → BrkPort) : (s.modBrk k f).island = s.island := rfl
@[simp] theorem modBrk_hif (k : PortId) (f : BrkPort → BrkPort) : (s.modBrk k f).hif = s.hif := rfl
@[simp] theorem modBrk_flt (k : PortId) (f : BrkPort → BrkPort) : (s.modBrk k f).flt = s.flt := rfl
@[simp] theorem modBrk_ffl (k : PortId) (f : BrkPort → BrkPort) : (s.modBrk k f).ffl = s.ffl := rfl
@[simp] theorem modBrk_boot (k : PortId) (f : BrkPort → BrkPort) : (s.modBrk k f).boot = s.boot := rfl
@[simp] theorem modBrk_msr (k : PortId) (f : BrkPort → BrkPort) : (s.modBrk k f).msr = s.msr := rfl
@[simp] theorem modBrk_cap (k : PortId) (f : BrkPort → BrkPort) : (s.modBrk k f).cap = s.cap := rfl
@[simp] theorem modBrk_hub (k : PortId) (f : BrkPort → BrkPort) : (s.modBrk k f).hub = s.hub := rfl
@[simp] theorem modBrk_mgt (k : PortId) (f : BrkPort → BrkPort) : (s.modBrk k f).mgt = s.mgt := rfl
@[simp] theorem modBrk_streams (k : PortId) (f : BrkPort → BrkPort) : (s.modBrk k f).streams = s.streams := rfl
@[simp] theorem modBrk_his (k : PortId) (f : BrkPort → BrkPort) : (s.modBrk k f).his = s.his := rfl
@[simp] theorem modBrk_tmb (k : PortId) (f : BrkPort → BrkPort) : (s.modBrk k f).tmb = s.tmb := rfl
@[simp] theorem modBrk_upd (k : PortId) (f : BrkPort → BrkPort) : (s.modBrk k f).upd = s.upd := rfl
@[simp] theorem modBrk_sec (k : PortId) (f : BrkPort → BrkPort) : (s.modBrk k f).sec = s.sec := rfl
@[simp] theorem modBrk_bud (k : PortId) (f : BrkPort → BrkPort) : (s.modBrk k f).bud = s.bud := rfl
@[simp] theorem modBrk_free (k : PortId) (f : BrkPort → BrkPort) : (s.modBrk k f).free = s.free := rfl
@[simp] theorem modBrk_flash (k : PortId) (f : BrkPort → BrkPort) : (s.modBrk k f).flash = s.flash := rfl
@[simp] theorem modBrk_otp (k : PortId) (f : BrkPort → BrkPort) : (s.modBrk k f).otp = s.otp := rfl
@[simp] theorem modBrk_sram (k : PortId) (f : BrkPort → BrkPort) : (s.modBrk k f).sram = s.sram := rfl
@[simp] theorem modBrk_engMem (k : PortId) (f : BrkPort → BrkPort) : (s.modBrk k f).engMem = s.engMem := rfl
@[simp] theorem modBrk_pending (k : PortId) (f : BrkPort → BrkPort) : (s.modBrk k f).pending = s.pending := rfl
@[simp] theorem modBrk_word (k : PortId) (f : BrkPort → BrkPort) (a : Nat) : (s.modBrk k f).word a = s.word a := rfl
@[simp] theorem modBrk_get (k : PortId) (f : BrkPort → BrkPort) (g : Fld) : (s.modBrk k f).get g = s.get g := rfl
@[simp] theorem modBrk_has (k : PortId) (f : BrkPort → BrkPort) (g : Fld) : (s.modBrk k f).has g = s.has g := rfl

@[simp] theorem modPins_regs (k : PortId) (f : PortPins → PortPins) : (s.modPins k f).regs = s.regs := rfl
@[simp] theorem modPins_now (k : PortId) (f : PortPins → PortPins) : (s.modPins k f).now = s.now := rfl
@[simp] theorem modPins_tbZero (k : PortId) (f : PortPins → PortPins) : (s.modPins k f).tbZero = s.tbZero := rfl
@[simp] theorem modPins_timers (k : PortId) (f : PortPins → PortPins) : (s.modPins k f).timers = s.timers := rfl
@[simp] theorem modPins_env (k : PortId) (f : PortPins → PortPins) : (s.modPins k f).env = s.env := rfl
@[simp] theorem modPins_pins (k : PortId) (f : PortPins → PortPins) : (s.modPins k f).pins = s.pins := rfl
@[simp] theorem modPins_rails (k : PortId) (f : PortPins → PortPins) : (s.modPins k f).rails = s.rails := rfl
@[simp] theorem modPins_seq (k : PortId) (f : PortPins → PortPins) : (s.modPins k f).seq = s.seq := rfl
@[simp] theorem modPins_axl (k : PortId) (f : PortPins → PortPins) : (s.modPins k f).axl = s.axl := rfl
@[simp] theorem modPins_bus (k : PortId) (f : PortPins → PortPins) : (s.modPins k f).bus = s.bus := rfl
@[simp] theorem modPins_island (k : PortId) (f : PortPins → PortPins) : (s.modPins k f).island = s.island := rfl
@[simp] theorem modPins_hif (k : PortId) (f : PortPins → PortPins) : (s.modPins k f).hif = s.hif := rfl
@[simp] theorem modPins_flt (k : PortId) (f : PortPins → PortPins) : (s.modPins k f).flt = s.flt := rfl
@[simp] theorem modPins_ffl (k : PortId) (f : PortPins → PortPins) : (s.modPins k f).ffl = s.ffl := rfl
@[simp] theorem modPins_boot (k : PortId) (f : PortPins → PortPins) : (s.modPins k f).boot = s.boot := rfl
@[simp] theorem modPins_msr (k : PortId) (f : PortPins → PortPins) : (s.modPins k f).msr = s.msr := rfl
@[simp] theorem modPins_cap (k : PortId) (f : PortPins → PortPins) : (s.modPins k f).cap = s.cap := rfl
@[simp] theorem modPins_hub (k : PortId) (f : PortPins → PortPins) : (s.modPins k f).hub = s.hub := rfl
@[simp] theorem modPins_mgt (k : PortId) (f : PortPins → PortPins) : (s.modPins k f).mgt = s.mgt := rfl
@[simp] theorem modPins_streams (k : PortId) (f : PortPins → PortPins) : (s.modPins k f).streams = s.streams := rfl
@[simp] theorem modPins_his (k : PortId) (f : PortPins → PortPins) : (s.modPins k f).his = s.his := rfl
@[simp] theorem modPins_tmb (k : PortId) (f : PortPins → PortPins) : (s.modPins k f).tmb = s.tmb := rfl
@[simp] theorem modPins_upd (k : PortId) (f : PortPins → PortPins) : (s.modPins k f).upd = s.upd := rfl
@[simp] theorem modPins_sec (k : PortId) (f : PortPins → PortPins) : (s.modPins k f).sec = s.sec := rfl
@[simp] theorem modPins_bud (k : PortId) (f : PortPins → PortPins) : (s.modPins k f).bud = s.bud := rfl
@[simp] theorem modPins_free (k : PortId) (f : PortPins → PortPins) : (s.modPins k f).free = s.free := rfl
@[simp] theorem modPins_flash (k : PortId) (f : PortPins → PortPins) : (s.modPins k f).flash = s.flash := rfl
@[simp] theorem modPins_otp (k : PortId) (f : PortPins → PortPins) : (s.modPins k f).otp = s.otp := rfl
@[simp] theorem modPins_sram (k : PortId) (f : PortPins → PortPins) : (s.modPins k f).sram = s.sram := rfl
@[simp] theorem modPins_engMem (k : PortId) (f : PortPins → PortPins) : (s.modPins k f).engMem = s.engMem := rfl
@[simp] theorem modPins_pending (k : PortId) (f : PortPins → PortPins) : (s.modPins k f).pending = s.pending := rfl
@[simp] theorem modPins_word (k : PortId) (f : PortPins → PortPins) (a : Nat) : (s.modPins k f).word a = s.word a := rfl
@[simp] theorem modPins_get (k : PortId) (f : PortPins → PortPins) (g : Fld) : (s.modPins k f).get g = s.get g := rfl
@[simp] theorem modPins_has (k : PortId) (f : PortPins → PortPins) (g : Fld) : (s.modPins k f).has g = s.has g := rfl

@[simp] theorem modRail_regs (j : RailId) (f : Rail → Rail) : (s.modRail j f).regs = s.regs := rfl
@[simp] theorem modRail_now (j : RailId) (f : Rail → Rail) : (s.modRail j f).now = s.now := rfl
@[simp] theorem modRail_tbZero (j : RailId) (f : Rail → Rail) : (s.modRail j f).tbZero = s.tbZero := rfl
@[simp] theorem modRail_timers (j : RailId) (f : Rail → Rail) : (s.modRail j f).timers = s.timers := rfl
@[simp] theorem modRail_env (j : RailId) (f : Rail → Rail) : (s.modRail j f).env = s.env := rfl
@[simp] theorem modRail_pins (j : RailId) (f : Rail → Rail) : (s.modRail j f).pins = s.pins := rfl
@[simp] theorem modRail_ports (j : RailId) (f : Rail → Rail) : (s.modRail j f).ports = s.ports := rfl
@[simp] theorem modRail_seq (j : RailId) (f : Rail → Rail) : (s.modRail j f).seq = s.seq := rfl
@[simp] theorem modRail_axl (j : RailId) (f : Rail → Rail) : (s.modRail j f).axl = s.axl := rfl
@[simp] theorem modRail_bus (j : RailId) (f : Rail → Rail) : (s.modRail j f).bus = s.bus := rfl
@[simp] theorem modRail_island (j : RailId) (f : Rail → Rail) : (s.modRail j f).island = s.island := rfl
@[simp] theorem modRail_hif (j : RailId) (f : Rail → Rail) : (s.modRail j f).hif = s.hif := rfl
@[simp] theorem modRail_flt (j : RailId) (f : Rail → Rail) : (s.modRail j f).flt = s.flt := rfl
@[simp] theorem modRail_ffl (j : RailId) (f : Rail → Rail) : (s.modRail j f).ffl = s.ffl := rfl
@[simp] theorem modRail_boot (j : RailId) (f : Rail → Rail) : (s.modRail j f).boot = s.boot := rfl
@[simp] theorem modRail_msr (j : RailId) (f : Rail → Rail) : (s.modRail j f).msr = s.msr := rfl
@[simp] theorem modRail_cap (j : RailId) (f : Rail → Rail) : (s.modRail j f).cap = s.cap := rfl
@[simp] theorem modRail_hub (j : RailId) (f : Rail → Rail) : (s.modRail j f).hub = s.hub := rfl
@[simp] theorem modRail_mgt (j : RailId) (f : Rail → Rail) : (s.modRail j f).mgt = s.mgt := rfl
@[simp] theorem modRail_streams (j : RailId) (f : Rail → Rail) : (s.modRail j f).streams = s.streams := rfl
@[simp] theorem modRail_his (j : RailId) (f : Rail → Rail) : (s.modRail j f).his = s.his := rfl
@[simp] theorem modRail_tmb (j : RailId) (f : Rail → Rail) : (s.modRail j f).tmb = s.tmb := rfl
@[simp] theorem modRail_upd (j : RailId) (f : Rail → Rail) : (s.modRail j f).upd = s.upd := rfl
@[simp] theorem modRail_sec (j : RailId) (f : Rail → Rail) : (s.modRail j f).sec = s.sec := rfl
@[simp] theorem modRail_bud (j : RailId) (f : Rail → Rail) : (s.modRail j f).bud = s.bud := rfl
@[simp] theorem modRail_free (j : RailId) (f : Rail → Rail) : (s.modRail j f).free = s.free := rfl
@[simp] theorem modRail_flash (j : RailId) (f : Rail → Rail) : (s.modRail j f).flash = s.flash := rfl
@[simp] theorem modRail_otp (j : RailId) (f : Rail → Rail) : (s.modRail j f).otp = s.otp := rfl
@[simp] theorem modRail_sram (j : RailId) (f : Rail → Rail) : (s.modRail j f).sram = s.sram := rfl
@[simp] theorem modRail_engMem (j : RailId) (f : Rail → Rail) : (s.modRail j f).engMem = s.engMem := rfl
@[simp] theorem modRail_pending (j : RailId) (f : Rail → Rail) : (s.modRail j f).pending = s.pending := rfl
@[simp] theorem modRail_word (j : RailId) (f : Rail → Rail) (a : Nat) : (s.modRail j f).word a = s.word a := rfl
@[simp] theorem modRail_get (j : RailId) (f : Rail → Rail) (g : Fld) : (s.modRail j f).get g = s.get g := rfl
@[simp] theorem modRail_has (j : RailId) (f : Rail → Rail) (g : Fld) : (s.modRail j f).has g = s.has g := rfl

@[simp] theorem disarm_regs (t : TimerId) : (s.disarm t).regs = s.regs := rfl
@[simp] theorem disarm_now (t : TimerId) : (s.disarm t).now = s.now := rfl
@[simp] theorem disarm_tbZero (t : TimerId) : (s.disarm t).tbZero = s.tbZero := rfl
@[simp] theorem disarm_env (t : TimerId) : (s.disarm t).env = s.env := rfl
@[simp] theorem disarm_pins (t : TimerId) : (s.disarm t).pins = s.pins := rfl
@[simp] theorem disarm_ports (t : TimerId) : (s.disarm t).ports = s.ports := rfl
@[simp] theorem disarm_rails (t : TimerId) : (s.disarm t).rails = s.rails := rfl
@[simp] theorem disarm_seq (t : TimerId) : (s.disarm t).seq = s.seq := rfl
@[simp] theorem disarm_axl (t : TimerId) : (s.disarm t).axl = s.axl := rfl
@[simp] theorem disarm_bus (t : TimerId) : (s.disarm t).bus = s.bus := rfl
@[simp] theorem disarm_island (t : TimerId) : (s.disarm t).island = s.island := rfl
@[simp] theorem disarm_hif (t : TimerId) : (s.disarm t).hif = s.hif := rfl
@[simp] theorem disarm_flt (t : TimerId) : (s.disarm t).flt = s.flt := rfl
@[simp] theorem disarm_ffl (t : TimerId) : (s.disarm t).ffl = s.ffl := rfl
@[simp] theorem disarm_boot (t : TimerId) : (s.disarm t).boot = s.boot := rfl
@[simp] theorem disarm_msr (t : TimerId) : (s.disarm t).msr = s.msr := rfl
@[simp] theorem disarm_cap (t : TimerId) : (s.disarm t).cap = s.cap := rfl
@[simp] theorem disarm_hub (t : TimerId) : (s.disarm t).hub = s.hub := rfl
@[simp] theorem disarm_mgt (t : TimerId) : (s.disarm t).mgt = s.mgt := rfl
@[simp] theorem disarm_streams (t : TimerId) : (s.disarm t).streams = s.streams := rfl
@[simp] theorem disarm_his (t : TimerId) : (s.disarm t).his = s.his := rfl
@[simp] theorem disarm_tmb (t : TimerId) : (s.disarm t).tmb = s.tmb := rfl
@[simp] theorem disarm_upd (t : TimerId) : (s.disarm t).upd = s.upd := rfl
@[simp] theorem disarm_sec (t : TimerId) : (s.disarm t).sec = s.sec := rfl
@[simp] theorem disarm_bud (t : TimerId) : (s.disarm t).bud = s.bud := rfl
@[simp] theorem disarm_free (t : TimerId) : (s.disarm t).free = s.free := rfl
@[simp] theorem disarm_flash (t : TimerId) : (s.disarm t).flash = s.flash := rfl
@[simp] theorem disarm_otp (t : TimerId) : (s.disarm t).otp = s.otp := rfl
@[simp] theorem disarm_sram (t : TimerId) : (s.disarm t).sram = s.sram := rfl
@[simp] theorem disarm_engMem (t : TimerId) : (s.disarm t).engMem = s.engMem := rfl
@[simp] theorem disarm_pending (t : TimerId) : (s.disarm t).pending = s.pending := rfl
@[simp] theorem disarm_word (t : TimerId) (a : Nat) : (s.disarm t).word a = s.word a := rfl
@[simp] theorem disarm_get (t : TimerId) (g : Fld) : (s.disarm t).get g = s.get g := rfl
@[simp] theorem disarm_has (t : TimerId) (g : Fld) : (s.disarm t).has g = s.has g := rfl

@[simp] theorem arm_regs (t : TimerId) (n : Nat) : (s.arm t n).regs = s.regs := rfl
@[simp] theorem arm_now (t : TimerId) (n : Nat) : (s.arm t n).now = s.now := rfl
@[simp] theorem arm_tbZero (t : TimerId) (n : Nat) : (s.arm t n).tbZero = s.tbZero := rfl
@[simp] theorem arm_env (t : TimerId) (n : Nat) : (s.arm t n).env = s.env := rfl
@[simp] theorem arm_pins (t : TimerId) (n : Nat) : (s.arm t n).pins = s.pins := rfl
@[simp] theorem arm_ports (t : TimerId) (n : Nat) : (s.arm t n).ports = s.ports := rfl
@[simp] theorem arm_rails (t : TimerId) (n : Nat) : (s.arm t n).rails = s.rails := rfl
@[simp] theorem arm_seq (t : TimerId) (n : Nat) : (s.arm t n).seq = s.seq := rfl
@[simp] theorem arm_axl (t : TimerId) (n : Nat) : (s.arm t n).axl = s.axl := rfl
@[simp] theorem arm_bus (t : TimerId) (n : Nat) : (s.arm t n).bus = s.bus := rfl
@[simp] theorem arm_island (t : TimerId) (n : Nat) : (s.arm t n).island = s.island := rfl
@[simp] theorem arm_hif (t : TimerId) (n : Nat) : (s.arm t n).hif = s.hif := rfl
@[simp] theorem arm_flt (t : TimerId) (n : Nat) : (s.arm t n).flt = s.flt := rfl
@[simp] theorem arm_ffl (t : TimerId) (n : Nat) : (s.arm t n).ffl = s.ffl := rfl
@[simp] theorem arm_boot (t : TimerId) (n : Nat) : (s.arm t n).boot = s.boot := rfl
@[simp] theorem arm_msr (t : TimerId) (n : Nat) : (s.arm t n).msr = s.msr := rfl
@[simp] theorem arm_cap (t : TimerId) (n : Nat) : (s.arm t n).cap = s.cap := rfl
@[simp] theorem arm_hub (t : TimerId) (n : Nat) : (s.arm t n).hub = s.hub := rfl
@[simp] theorem arm_mgt (t : TimerId) (n : Nat) : (s.arm t n).mgt = s.mgt := rfl
@[simp] theorem arm_streams (t : TimerId) (n : Nat) : (s.arm t n).streams = s.streams := rfl
@[simp] theorem arm_his (t : TimerId) (n : Nat) : (s.arm t n).his = s.his := rfl
@[simp] theorem arm_tmb (t : TimerId) (n : Nat) : (s.arm t n).tmb = s.tmb := rfl
@[simp] theorem arm_upd (t : TimerId) (n : Nat) : (s.arm t n).upd = s.upd := rfl
@[simp] theorem arm_sec (t : TimerId) (n : Nat) : (s.arm t n).sec = s.sec := rfl
@[simp] theorem arm_bud (t : TimerId) (n : Nat) : (s.arm t n).bud = s.bud := rfl
@[simp] theorem arm_free (t : TimerId) (n : Nat) : (s.arm t n).free = s.free := rfl
@[simp] theorem arm_flash (t : TimerId) (n : Nat) : (s.arm t n).flash = s.flash := rfl
@[simp] theorem arm_otp (t : TimerId) (n : Nat) : (s.arm t n).otp = s.otp := rfl
@[simp] theorem arm_sram (t : TimerId) (n : Nat) : (s.arm t n).sram = s.sram := rfl
@[simp] theorem arm_engMem (t : TimerId) (n : Nat) : (s.arm t n).engMem = s.engMem := rfl
@[simp] theorem arm_pending (t : TimerId) (n : Nat) : (s.arm t n).pending = s.pending := rfl
@[simp] theorem arm_word (t : TimerId) (n : Nat) (a : Nat) : (s.arm t n).word a = s.word a := rfl
@[simp] theorem arm_get (t : TimerId) (n : Nat) (g : Fld) : (s.arm t n).get g = s.get g := rfl
@[simp] theorem arm_has (t : TimerId) (n : Nat) (g : Fld) : (s.arm t n).has g = s.has g := rfl

@[simp] theorem disarmAll_regs (l : List TimerId) : (s.disarmAll l).regs = s.regs := rfl
@[simp] theorem disarmAll_now (l : List TimerId) : (s.disarmAll l).now = s.now := rfl
@[simp] theorem disarmAll_tbZero (l : List TimerId) : (s.disarmAll l).tbZero = s.tbZero := rfl
@[simp] theorem disarmAll_env (l : List TimerId) : (s.disarmAll l).env = s.env := rfl
@[simp] theorem disarmAll_pins (l : List TimerId) : (s.disarmAll l).pins = s.pins := rfl
@[simp] theorem disarmAll_ports (l : List TimerId) : (s.disarmAll l).ports = s.ports := rfl
@[simp] theorem disarmAll_rails (l : List TimerId) : (s.disarmAll l).rails = s.rails := rfl
@[simp] theorem disarmAll_seq (l : List TimerId) : (s.disarmAll l).seq = s.seq := rfl
@[simp] theorem disarmAll_axl (l : List TimerId) : (s.disarmAll l).axl = s.axl := rfl
@[simp] theorem disarmAll_bus (l : List TimerId) : (s.disarmAll l).bus = s.bus := rfl
@[simp] theorem disarmAll_island (l : List TimerId) : (s.disarmAll l).island = s.island := rfl
@[simp] theorem disarmAll_hif (l : List TimerId) : (s.disarmAll l).hif = s.hif := rfl
@[simp] theorem disarmAll_flt (l : List TimerId) : (s.disarmAll l).flt = s.flt := rfl
@[simp] theorem disarmAll_ffl (l : List TimerId) : (s.disarmAll l).ffl = s.ffl := rfl
@[simp] theorem disarmAll_boot (l : List TimerId) : (s.disarmAll l).boot = s.boot := rfl
@[simp] theorem disarmAll_msr (l : List TimerId) : (s.disarmAll l).msr = s.msr := rfl
@[simp] theorem disarmAll_cap (l : List TimerId) : (s.disarmAll l).cap = s.cap := rfl
@[simp] theorem disarmAll_hub (l : List TimerId) : (s.disarmAll l).hub = s.hub := rfl
@[simp] theorem disarmAll_mgt (l : List TimerId) : (s.disarmAll l).mgt = s.mgt := rfl
@[simp] theorem disarmAll_streams (l : List TimerId) : (s.disarmAll l).streams = s.streams := rfl
@[simp] theorem disarmAll_his (l : List TimerId) : (s.disarmAll l).his = s.his := rfl
@[simp] theorem disarmAll_tmb (l : List TimerId) : (s.disarmAll l).tmb = s.tmb := rfl
@[simp] theorem disarmAll_upd (l : List TimerId) : (s.disarmAll l).upd = s.upd := rfl
@[simp] theorem disarmAll_sec (l : List TimerId) : (s.disarmAll l).sec = s.sec := rfl
@[simp] theorem disarmAll_bud (l : List TimerId) : (s.disarmAll l).bud = s.bud := rfl
@[simp] theorem disarmAll_free (l : List TimerId) : (s.disarmAll l).free = s.free := rfl
@[simp] theorem disarmAll_flash (l : List TimerId) : (s.disarmAll l).flash = s.flash := rfl
@[simp] theorem disarmAll_otp (l : List TimerId) : (s.disarmAll l).otp = s.otp := rfl
@[simp] theorem disarmAll_sram (l : List TimerId) : (s.disarmAll l).sram = s.sram := rfl
@[simp] theorem disarmAll_engMem (l : List TimerId) : (s.disarmAll l).engMem = s.engMem := rfl
@[simp] theorem disarmAll_pending (l : List TimerId) : (s.disarmAll l).pending = s.pending := rfl
@[simp] theorem disarmAll_word (l : List TimerId) (a : Nat) : (s.disarmAll l).word a = s.word a := rfl
@[simp] theorem disarmAll_get (l : List TimerId) (g : Fld) : (s.disarmAll l).get g = s.get g := rfl
@[simp] theorem disarmAll_has (l : List TimerId) (g : Fld) : (s.disarmAll l).has g = s.has g := rfl

@[simp] theorem advanceTo_regs (n : Nat) : (s.advanceTo n).regs = s.regs := rfl
@[simp] theorem advanceTo_tbZero (n : Nat) : (s.advanceTo n).tbZero = s.tbZero := rfl
@[simp] theorem advanceTo_timers (n : Nat) : (s.advanceTo n).timers = s.timers := rfl
@[simp] theorem advanceTo_env (n : Nat) : (s.advanceTo n).env = s.env := rfl
@[simp] theorem advanceTo_pins (n : Nat) : (s.advanceTo n).pins = s.pins := rfl
@[simp] theorem advanceTo_ports (n : Nat) : (s.advanceTo n).ports = s.ports := rfl
@[simp] theorem advanceTo_rails (n : Nat) : (s.advanceTo n).rails = s.rails := rfl
@[simp] theorem advanceTo_seq (n : Nat) : (s.advanceTo n).seq = s.seq := rfl
@[simp] theorem advanceTo_axl (n : Nat) : (s.advanceTo n).axl = s.axl := rfl
@[simp] theorem advanceTo_bus (n : Nat) : (s.advanceTo n).bus = s.bus := rfl
@[simp] theorem advanceTo_island (n : Nat) : (s.advanceTo n).island = s.island := rfl
@[simp] theorem advanceTo_hif (n : Nat) : (s.advanceTo n).hif = s.hif := rfl
@[simp] theorem advanceTo_flt (n : Nat) : (s.advanceTo n).flt = s.flt := rfl
@[simp] theorem advanceTo_ffl (n : Nat) : (s.advanceTo n).ffl = s.ffl := rfl
@[simp] theorem advanceTo_boot (n : Nat) : (s.advanceTo n).boot = s.boot := rfl
@[simp] theorem advanceTo_msr (n : Nat) : (s.advanceTo n).msr = s.msr := rfl
@[simp] theorem advanceTo_cap (n : Nat) : (s.advanceTo n).cap = s.cap := rfl
@[simp] theorem advanceTo_hub (n : Nat) : (s.advanceTo n).hub = s.hub := rfl
@[simp] theorem advanceTo_mgt (n : Nat) : (s.advanceTo n).mgt = s.mgt := rfl
@[simp] theorem advanceTo_streams (n : Nat) : (s.advanceTo n).streams = s.streams := rfl
@[simp] theorem advanceTo_his (n : Nat) : (s.advanceTo n).his = s.his := rfl
@[simp] theorem advanceTo_tmb (n : Nat) : (s.advanceTo n).tmb = s.tmb := rfl
@[simp] theorem advanceTo_upd (n : Nat) : (s.advanceTo n).upd = s.upd := rfl
@[simp] theorem advanceTo_sec (n : Nat) : (s.advanceTo n).sec = s.sec := rfl
@[simp] theorem advanceTo_bud (n : Nat) : (s.advanceTo n).bud = s.bud := rfl
@[simp] theorem advanceTo_free (n : Nat) : (s.advanceTo n).free = s.free := rfl
@[simp] theorem advanceTo_flash (n : Nat) : (s.advanceTo n).flash = s.flash := rfl
@[simp] theorem advanceTo_otp (n : Nat) : (s.advanceTo n).otp = s.otp := rfl
@[simp] theorem advanceTo_sram (n : Nat) : (s.advanceTo n).sram = s.sram := rfl
@[simp] theorem advanceTo_engMem (n : Nat) : (s.advanceTo n).engMem = s.engMem := rfl
@[simp] theorem advanceTo_pending (n : Nat) : (s.advanceTo n).pending = s.pending := rfl
@[simp] theorem advanceTo_word (n : Nat) (a : Nat) : (s.advanceTo n).word a = s.word a := rfl
@[simp] theorem advanceTo_get (n : Nat) (g : Fld) : (s.advanceTo n).get g = s.get g := rfl
@[simp] theorem advanceTo_has (n : Nat) (g : Fld) : (s.advanceTo n).has g = s.has g := rfl

/-- The changed port holds the change. -/
@[simp] theorem port_modPort_self (k : PortId) (f : Port → Port) : (s.modPort k f).port k = f (s.port k) := by
  simp [State.port, State.modPort]
/-- Every other port stands. -/
theorem port_modPort_other (k j : PortId) (f : Port → Port) (h : j ≠ k) : (s.modPort k f).port j = s.port j := by
  have : k.val ≠ j.val := fun e => h (Fin.ext e.symm)
  simp [State.port, State.modPort, this]
/-- The changed rail holds the change. -/
@[simp] theorem rail_modRail_self (j : RailId) (f : Rail → Rail) : (s.modRail j f).rail j = f (s.rail j) := by
  simp [State.rail, State.modRail]
/-- Every other rail stands. -/
theorem rail_modRail_other (j i : RailId) (f : Rail → Rail) (h : i ≠ j) : (s.modRail j f).rail i = s.rail i := by
  have : j.val ≠ i.val := fun e => h (Fin.ext e.symm)
  simp [State.rail, State.modRail, this]

theorem find?_filter_ne (l : List (TimerId × Nat)) (t u : TimerId) (h : u ≠ t) :
    (l.filter fun e => decide (e.1 ≠ t)).find? (fun e => decide (e.1 = u)) = l.find? fun e => decide (e.1 = u) := by
  rw [List.find?_filter]
  congr 1
  funext e
  by_cases h2 : e.1 = u
  · simp [h2, h]
  · simp [h2]
theorem find?_filter_self (l : List (TimerId × Nat)) (t : TimerId) :
    (l.filter fun e => decide (e.1 ≠ t)).find? (fun e => decide (e.1 = t)) = none := by
  simp
/-- A stopped timer does not run. -/
@[simp] theorem deadline_disarm_self (t : TimerId) : (s.disarm t).deadline t = none := by
  simp only [State.deadline, State.disarm, find?_filter_self, Option.map_none]
/-- Stopping a timer leaves the others. -/
theorem deadline_disarm_other (t u : TimerId) (h : u ≠ t) : (s.disarm t).deadline u = s.deadline u := by
  simp only [State.deadline, State.disarm, find?_filter_ne _ t u h]
/-- A timer started runs for its time from now. -/
@[simp] theorem deadline_arm_self (t : TimerId) (n : Nat) : (s.arm t n).deadline t = some (s.now + n) := by
  simp [State.deadline, State.arm]
/-- Starting a timer leaves the others. -/
theorem deadline_arm_other (t u : TimerId) (n : Nat) (h : u ≠ t) : (s.arm t n).deadline u = s.deadline u := by
  have h' : ¬ t = u := fun e => h e.symm
  have := deadline_disarm_other s t u h
  simp only [State.deadline] at this ⊢
  simp [State.arm, h', this]
theorem elapse_eq (t : TimerId) (d : Nat) (h : s.deadline t = some d) : s.elapse t = some ((s.advanceTo d).disarm t) := by
  simp only [State.elapse, h]
/-- Where a timer runs, its elapsing acts at its moment or later, with the timer stopped. -/
theorem onElapse_eq (t : TimerId) (act : State → State) (d : Nat) (h : s.deadline t = some d) :
    s.onElapse t act = act ((s.advanceTo d).disarm t) := by
  simp only [State.onElapse, elapse_eq s t d h]
/-- Where a timer does not run, nothing comes about. -/
theorem onElapse_none (t : TimerId) (act : State → State) (h : s.deadline t = none) : s.onElapse t act = s := by
  simp only [State.onElapse, State.elapse, h]
@[simp] theorem when_true (act : State → State) : s.when true act = act s := rfl
@[simp] theorem when_false (act : State → State) : s.when false act = s := rfl

end Sys2Proof.Machine
end

