-- ==== Sys2Proof/Laws/Log.lean ====
section
/-!
SUPPORT. What a classification and an event leave behind: they write the collector's registers, the capture trigger's and the
event ring's, and touch nothing else. A proof about a command that warns or raises a contained fault cites these lemmas
and unfolds none of it.
-/
set_option linter.unusedTactic false
set_option linter.unreachableTactic false
namespace Sys2Proof.Machine

/-- The registers that classifying a fault and posting an event may write. -/
def logRegs : List Nat :=
  [R.FLT_LAST, R.FLT_LAST_TBL, R.FLT_LAST_TBH, R.FLT_STATUS, G.FLT_WARN.bit.reg, G.FLT_WARN.cnt.reg, G.FLT_CORR.cnt.reg, G.FLT_CONT.cnt.reg, R.CAP_STATUS, R.CAP_START,
   R.CAP_TBL, R.CAP_TBH, G.CAP_MISSED.bit.reg, G.CAP_MISSED.cnt.reg, R.SYS_SEQ_NEXT_DSEQ, R.EVT_WR, R.EVT_RD, R.EVT_STATUS,
   G.HIF_EVT_LOST.bit.reg, G.HIF_EVT_LOST.cnt.reg, R.MGT_STATUS 0, R.MGT_STATUS 1]

/-- `t` differs from `s` in the log alone: the registers above, the collector, the capture, the event ring and the delivery
state of the management functions. -/
structure Logged (s t : State) : Prop where
  word : ∀ a, a ∉ logRegs → t.word a = s.word a
  now : t.now = s.now
  tbZero : t.tbZero = s.tbZero
  timers : t.timers = s.timers
  env : t.env = s.env
  pins : t.pins = s.pins
  ports : t.ports = s.ports
  rails : t.rails = s.rails
  seq : t.seq = s.seq
  axl : t.axl = s.axl
  bus : t.bus = s.bus
  island : t.island = s.island
  current : t.hif.current = s.hif.current
  answer : t.hif.answer = s.hif.answer
  exec : t.hif.exec = s.hif.exec
  opened : t.hif.mailboxOpen = s.hif.mailboxOpen
  pointer : t.hif.pointer = s.hif.pointer
  sdaWarned : t.hif.sdaWarned = s.hif.sdaWarned
  sclWarned : t.hif.sclWarned = s.hif.sclWarned
  ibrAt : t.hif.ibrAt = s.hif.ibrAt
  ffl : t.ffl = s.ffl
  boot : t.boot = s.boot
  msr : t.msr = s.msr
  hub : t.hub = s.hub
  streams : t.streams = s.streams
  his : t.his = s.his
  tmb : t.tmb = s.tmb
  upd : t.upd = s.upd
  sec : t.sec = s.sec
  bud : t.bud = s.bud
  free : t.free = s.free
  flash : t.flash = s.flash
  otp : t.otp = s.otp
  sram : t.sram = s.sram
  engMem : t.engMem = s.engMem
  pending : t.pending = s.pending

variable {s₀ s t : State}
theorem Logged.refl (s : State) : Logged s s := by constructor <;> first | rfl | exact fun _ _ => rfl
theorem Logged.trans (h : Logged s₀ s) (k : Logged s t) : Logged s₀ t where
  word := fun a ha => (k.word a ha).trans (h.word a ha)
  now := k.now.trans h.now
  tbZero := k.tbZero.trans h.tbZero
  timers := k.timers.trans h.timers
  env := k.env.trans h.env
  pins := k.pins.trans h.pins
  ports := k.ports.trans h.ports
  rails := k.rails.trans h.rails
  seq := k.seq.trans h.seq
  axl := k.axl.trans h.axl
  bus := k.bus.trans h.bus
  island := k.island.trans h.island
  current := k.current.trans h.current
  answer := k.answer.trans h.answer
  exec := k.exec.trans h.exec
  opened := k.opened.trans h.opened
  pointer := k.pointer.trans h.pointer
  sdaWarned := k.sdaWarned.trans h.sdaWarned
  sclWarned := k.sclWarned.trans h.sclWarned
  ibrAt := k.ibrAt.trans h.ibrAt
  ffl := k.ffl.trans h.ffl
  boot := k.boot.trans h.boot
  msr := k.msr.trans h.msr
  hub := k.hub.trans h.hub
  streams := k.streams.trans h.streams
  his := k.his.trans h.his
  tmb := k.tmb.trans h.tmb
  upd := k.upd.trans h.upd
  sec := k.sec.trans h.sec
  bud := k.bud.trans h.bud
  free := k.free.trans h.free
  flash := k.flash.trans h.flash
  otp := k.otp.trans h.otp
  sram := k.sram.trans h.sram
  engMem := k.engMem.trans h.engMem
  pending := k.pending.trans h.pending
/-- A field outside the log reads as before. -/
theorem Logged.get (h : Logged s t) (f : Fld) (hf : f.reg ∉ logRegs) : t.get f = s.get f := by rw [State.get, h.word _ hf, State.get]
theorem Logged.has (h : Logged s t) (f : Fld) (hf : f.reg ∉ logRegs) : t.has f = s.has f := by rw [State.has, h.get f hf, State.has]
theorem Logged.port (h : Logged s t) (k : PortId) : t.port k = s.port k := by rw [State.port, h.ports, State.port]
theorem Logged.rail (h : Logged s t) (j : RailId) : t.rail j = s.rail j := by rw [State.rail, h.rails, State.rail]
theorem Logged.deadline (h : Logged s t) (i : TimerId) : t.deadline i = s.deadline i := by rw [State.deadline, h.timers, State.deadline]
theorem Logged.isIn (h : Logged s t) (d : DevState) : t.isIn d = s.isIn d := by
  rw [State.isIn, h.get F.SYS_STATE_STATE (by decide), State.isIn]

/-- A word of the log is written. -/
theorem Logged.setWord {a : Nat} {w : Word} (ha : a ∈ logRegs) (h : Logged s₀ s) : Logged s₀ (s.setWord a w) :=
  h.trans { Logged.refl s with word := fun b hb => word_setWord_other s a b w fun e => hb (e ▸ ha) }
theorem Logged.set {f : Fld} {v : Nat} (hf : f.reg ∈ logRegs) (h : Logged s₀ s) : Logged s₀ (s.set f v) := h.setWord hf
theorem Logged.put {f : Fld} {b : Bool} (hf : f.reg ∈ logRegs) (h : Logged s₀ s) : Logged s₀ (s.put f b) := h.set hf
theorem Logged.bump {f : Fld} {n : Nat} (hf : f.reg ∈ logRegs) (h : Logged s₀ s) : Logged s₀ (s.bump f n) := h.set hf
theorem Logged.flag {g : Flag} (hb : g.bit.reg ∈ logRegs) (hc : g.cnt.reg ∈ logRegs) (h : Logged s₀ s) : Logged s₀ (s.flag g) :=
  (h.put hb).bump hc
theorem Logged.collector {c : Collector} (h : Logged s₀ s) : Logged s₀ { s with flt := c } :=
  h.trans { Logged.refl s with }
theorem Logged.capture {c : Cap} (h : Logged s₀ s) : Logged s₀ { s with cap := c } := h.trans { Logged.refl s with }
theorem Logged.delivery {m : Vector MgtFn 2} (h : Logged s₀ s) : Logged s₀ { s with mgt := m } := h.trans { Logged.refl s with }
theorem Logged.ring {r win : List Event} {wa : Option Nat} {d : Nat} {l : Bool} (h : Logged s₀ s) :
    Logged s₀ { s with hif := { s.hif with ring := r, window := win, evtWarnAt := wa, lastDseq := d, lostChanged := l } } :=
  h.trans { Logged.refl s with }
theorem Logged.ite {c : Prop} [Decidable c] (hs : Logged s₀ s) (ht : Logged s₀ t) : Logged s₀ (if c then s else t) := by
  split
  · exact hs
  · exact ht

theorem enqueue_logged {r : FaultRec} (h : Logged s₀ s) : Logged s₀ (s.enqueue r) := by
  unfold State.enqueue
  exact .ite h.collector (.ite h.collector (h.bump (by decide)))
theorem noteFault_logged {code : Nat} {p : Bool} (h : Logged s₀ s) : Logged s₀ (s.noteFault code p) := by
  unfold State.noteFault
  exact enqueue_logged (((((h.put (by decide)).set (by decide)).set (by decide)).set (by decide)).set (by decide))
theorem captureTrigger_logged (h : Logged s₀ s) : Logged s₀ s.captureTrigger := by
  unfold State.captureTrigger
  exact .ite (Logged.flag (by decide) (by decide) (Logged.capture
      (((((((h.set (by decide)).set (by decide)).put (by decide)).set (by decide)).set (by decide)).set (by decide)))))
    (.ite h ((noteFault_logged (h.flag (by decide) (by decide))).flag (by decide) (by decide)))
theorem when_logged {c : Bool} {act : State → State} (h : Logged s₀ s) (ha : Logged s₀ s → Logged s₀ (act s)) : Logged s₀ (s.when c act) := by
  unfold State.when
  exact .ite (ha h) h
theorem recordFault_logged {code : Nat} {p : Bool} (h : Logged s₀ s) : Logged s₀ (s.recordFault code p) := by
  unfold State.recordFault State.captureEvent
  exact when_logged (noteFault_logged h) captureTrigger_logged
/-- A warning touches the log alone. -/
theorem warn_logged {code : Nat} (h : Logged s₀ s) : Logged s₀ (s.warn code) := by
  unfold State.warn
  exact (recordFault_logged h).flag (by decide) (by decide)

theorem takeDseq_logged (h : Logged s₀ s) : Logged s₀ s.takeDseq.2 := by
  unfold State.takeDseq
  exact Logged.ring (h.set (by decide))
theorem flagAll_logged {g : Flag} (hb : g.bit.reg ∈ logRegs) (hc : g.cnt.reg ∈ logRegs) (l : List Nat) :
    ∀ {s}, Logged s₀ s → Logged s₀ (forAll l (fun _ t => t.flag g) s) := by
  induction l with
  | nil => exact fun h => h
  | cons x l ih => exact fun {s} h => ih (s := s.flag g) (h.flag hb hc)
theorem warnEvtLost_logged (h : Logged s₀ s) : Logged s₀ s.warnEvtLost := by
  unfold State.warnEvtLost
  split
  · exact warn_logged h.ring
  · exact .ite h (warn_logged h.ring)
theorem loseEvents_logged (h : Logged s₀ s) : Logged s₀ s.loseEvents := by
  unfold State.loseEvents
  exact warnEvtLost_logged (flagAll_logged (by decide) (by decide) _ (Logged.ring ((h.set (by decide)).bump (by decide))))
theorem loseForFn_logged {f : Fin 2} (h : Logged s₀ s) : Logged s₀ (s.loseForFn f) := by
  have hf : R.MGT_STATUS f.val ∈ logRegs := by revert f; decide
  unfold State.loseForFn
  exact .ite h (Logged.bump hf h.delivery)
theorem postEvent_logged {fl src code tb : Nat} (h : Logged s₀ s) : Logged s₀ (s.postEvent fl src code tb) := by
  unfold State.postEvent
  refine .ite (loseForFn_logged (loseForFn_logged (when_logged (Logged.set (by decide) (Logged.ring (takeDseq_logged h))) loseEvents_logged))) h
/-- An event posted touches the log alone. -/
theorem post_logged {src code : Nat} (h : Logged s₀ s) : Logged s₀ (s.post src code) := postEvent_logged h

theorem ite_le_of {c : Prop} [Decidable c] {a b n : Nat} (ha : a ≤ n) (hb : b ≤ n) : (if c then a else b) ≤ n := by
  split
  · exact ha
  · exact hb
/-- A fault of a source that does not fill its count is not promoted. -/
theorem escalate_calm {src cls : Nat} (hq : s.calm src = true) : (s.escalate src cls).1 = false := by
  simp only [State.calm, Bool.or_eq_true, Nat.blt_eq] at hq
  unfold State.escalate
  split
  · rfl
  · rename_i hd
    have hn := hq.resolve_left hd
    simp only [Bool.and_eq_false_iff]
    refine .inl ?_
    rw [← Bool.not_eq_true, Nat.ble_eq]
    refine Nat.not_le.mpr (Nat.lt_of_le_of_lt ?_ hn)
    rw [apply_ite Esc.count]
    exact ite_le_of (Nat.le_refl _) (Nat.le_add_left 1 _)
theorem escalate_logged {src cls : Nat} (h : Logged s₀ s) : Logged s₀ (s.escalate src cls).2 := by
  unfold State.escalate
  split
  · exact h
  · exact h.collector
/-- The reaction to a fault that is not promoted and not fatal touches the log alone. -/
theorem react_logged {code : Nat} (hc : faultClass code ≤ 2) (h : Logged s₀ s) : Logged s₀ (s.react code false) := by
  unfold State.react
  simp only [when_false]
  have hl := recordFault_logged (code := code) (p := false) h
  match hcl : faultClass code, hc with
  | 0, _ => exact hl.flag (by decide) (by decide)
  | 1, _ => exact hl.flag (by decide) (by decide)
  | 2, _ => exact hl.flag (by decide) (by decide)
/-- A warning, and a corrected or contained fault that does not fill its source's count, touches the log alone. -/
theorem raise_logged {code : Nat} (hc : faultClass code ≤ 2) (hq : faultClass code = 0 ∨ s.calm (faultSource code) = true) (h : Logged s₀ s) :
    Logged s₀ (s.raise code) := by
  unfold State.raise
  dsimp only
  split
  · exact h
  · split
    · rename_i hcl
      have hcalm := hq.resolve_left (by omega)
      rw [escalate_calm hcalm]
      exact react_logged hc (escalate_logged h)
    · exact react_logged hc h

end Sys2Proof.Machine
end

