-- ==== Sys2Proof/Laws/Season.lean ====
section
/-!
SUPPORT. What shutting the ports, the Winter table and the hub leave alone: the device state and the island's status. A proof about
a transition cites `winterActs_stands` and unfolds none of it.
-/
set_option linter.tactic.unusedName false
set_option linter.unusedTactic false
set_option linter.unreachableTactic false
namespace Sys2Proof.Machine

/-- SYS_STATE, and SAF_STATUS with WINTER_OFF. -/
def seasonRegs : List Nat := [R.SYS_STATE, R.SAF_STATUS]
/-- The device state and the island's status read in `t` as in `s`. -/
def Stands (s t : State) : Prop := ∀ a, a ∈ seasonRegs → t.word a = s.word a

variable {s₀ s t : State}

theorem Stands.refl (s : State) : Stands s s := fun _ _ => rfl
theorem Stands.trans (h : Stands s₀ s) (k : Stands s t) : Stands s₀ t := fun a ha => (k a ha).trans (h a ha)
theorem Stands.get (h : Stands s t) (f : Fld) (hf : f.reg ∈ seasonRegs) : t.get f = s.get f := by rw [State.get, h _ hf, State.get]
theorem Stands.has (h : Stands s t) (f : Fld) (hf : f.reg ∈ seasonRegs) : t.has f = s.has f := by rw [State.has, h.get f hf, State.has]
theorem Stands.isIn (h : Stands s t) (d : DevState) : t.isIn d = s.isIn d := by
  rw [State.isIn, h.get F.SYS_STATE_STATE (by decide), State.isIn]
/-- What touches the log alone leaves them alone. -/
theorem Logged.stands (h : Logged s t) : Stands s t := fun a ha => h.word a (by revert a; decide)
theorem stands_mk
    {now' : Nat} {tbZero' : Option Nat} {timers' : List (TimerId × Nat)} {env' : Env} {pins' : Pins} {ports' : Vector Port 9}
    {rails' : Vector Rail 16} {seq' : Seq} {axl' : Axl} {bus' : Bus} {island' : Island} {hif' : Hif} {flt' : Collector}
    {ffl' : Ffl} {boot' : Boot} {msr' : Msr} {cap' : Cap} {hub' : Hub} {mgt' : Vector MgtFn 2} {streams' : Vector Stream 8}
    {his' : His} {tmb' : Tmb} {upd' : Upd} {sec' : Sec} {bud' : Bud} {free' : Nat} (h : Stands s₀ s) :
    Stands s₀ { s with
      now := now', tbZero := tbZero', timers := timers', env := env', pins := pins', ports := ports', rails := rails',
      seq := seq', axl := axl', bus := bus', island := island', hif := hif', flt := flt', ffl := ffl', boot := boot',
      msr := msr', cap := cap', hub := hub', mgt := mgt', streams := streams', his := his', tmb := tmb', upd := upd',
      sec := sec', bud := bud', free := free' } := h
/-- A value is put aside under a name: it stands, and whatever stands may take its place. -/
theorem Stands.aside {p : Prop} {x : State} (hp : Stands s₀ x → p) (hx : Stands s₀ x) : p := hp hx
theorem Stands.aside2 {p : Prop} {α : Type} {x : α × State} (hp : Stands s₀ x.2 → p) (hx : Stands s₀ x.2) : p := hp hx
theorem Stands.hold {p : Prop} (h : p) : p := h
theorem Stands.ite {c : Prop} [Decidable c] (hs : c → Stands s₀ s) (ht : ¬ c → Stands s₀ t) : Stands s₀ (if c then s else t) := by
  split
  · exact hs ‹_›
  · exact ht ‹_›
theorem forAll_stands {α : Type} {act : α → State → State} (ha : ∀ x t, Stands s₀ t → Stands s₀ (act x t)) (l : List α) :
    ∀ {s}, Stands s₀ s → Stands s₀ (forAll l act s) := by
  induction l with
  | nil => exact fun h => h
  | cons x l ih => exact fun {s} h => ih (s := act x s) (ha x s h)
theorem when_stands {c : Bool} {act : State → State} (h : Stands s₀ s) (ha : ∀ t, Stands s₀ t → Stands s₀ (act t)) :
    Stands s₀ (s.when c act) := by
  unfold State.when
  split
  · exact ha s h
  · exact h
theorem setWord_stands {a : Nat} {w : Word} (ha : a ∉ seasonRegs) (h : Stands s₀ s) : Stands s₀ (s.setWord a w) :=
  h.trans fun b hb => word_setWord_other s a b w fun e => ha (e ▸ hb)
theorem set_stands {f : Fld} {v : Nat} (hf : f.reg ∉ seasonRegs) (h : Stands s₀ s) : Stands s₀ (s.set f v) := setWord_stands hf h
theorem put_stands {f : Fld} {b : Bool} (hf : f.reg ∉ seasonRegs) (h : Stands s₀ s) : Stands s₀ (s.put f b) := set_stands hf h
theorem putBit_stands {f : Fld} {i : Nat} {b : Bool} (hf : f.reg ∉ seasonRegs) (h : Stands s₀ s) : Stands s₀ (s.putBit f i b) :=
  set_stands hf h
theorem bump_stands {f : Fld} {n : Nat} (hf : f.reg ∉ seasonRegs) (h : Stands s₀ s) : Stands s₀ (s.bump f n) := set_stands hf h
theorem flag_stands {g : Flag} (hb : g.bit.reg ∉ seasonRegs) (hc : g.cnt.reg ∉ seasonRegs) (h : Stands s₀ s) : Stands s₀ (s.flag g) :=
  bump_stands hc (put_stands hb h)
theorem disarm_stands {i : TimerId} (h : Stands s₀ s) : Stands s₀ (s.disarm i) := h
theorem arm_stands {i : TimerId} {n : Nat} (h : Stands s₀ s) : Stands s₀ (s.arm i n) := h
theorem warn_stands {code : Nat} (h : Stands s₀ s) : Stands s₀ (s.warn code) := h.trans (warn_logged (Logged.refl s)).stands
theorem post_stands {src code : Nat} (h : Stands s₀ s) : Stands s₀ (s.post src code) := h.trans (post_logged (Logged.refl s)).stands

/-! No register that these acts write is one of the two. -/

theorem free_F_ATT_STATUS_ASTATE (k : PortId) : (F.ATT_STATUS_ASTATE k).reg ∉ seasonRegs := by revert k; decide
theorem free_F_ATT_STATUS_ORIENT (k : PortId) : (F.ATT_STATUS_ORIENT k).reg ∉ seasonRegs := by revert k; decide
theorem free_F_ATT_STATUS_RA (k : PortId) : (F.ATT_STATUS_RA k).reg ∉ seasonRegs := by revert k; decide
theorem free_F_ATT_STATUS_RP (k : PortId) : (F.ATT_STATUS_RP k).reg ∉ seasonRegs := by revert k; decide
theorem free_F_ATT_STATUS_VBUS_ON (k : PortId) : (F.ATT_STATUS_VBUS_ON k).reg ∉ seasonRegs := by revert k; decide
theorem free_F_ATT_STATUS_VCONN_ON (k : PortId) : (F.ATT_STATUS_VCONN_ON k).reg ∉ seasonRegs := by revert k; decide
theorem free_F_AXL_STATUS_CASC_ARMED : F.AXL_STATUS_CASC_ARMED.reg ∉ seasonRegs := by decide
theorem free_F_BRK_STATUS_STATE (k : PortId) : (F.BRK_STATUS_STATE k).reg ∉ seasonRegs := by revert k; decide
theorem free_F_CNV_MEAS_IOUT (k : PortId) : (F.CNV_MEAS_IOUT k).reg ∉ seasonRegs := by revert k; decide
theorem free_F_CNV_STATUS_CLIM (k : PortId) : (F.CNV_STATUS_CLIM k).reg ∉ seasonRegs := by revert k; decide
theorem free_F_CNV_STATUS_HEADROOM (k : PortId) : (F.CNV_STATUS_HEADROOM k).reg ∉ seasonRegs := by revert k; decide
theorem free_F_CNV_DROP_DROP (k : PortId) : (F.CNV_DROP_DROP k).reg ∉ seasonRegs := by revert k; decide
theorem free_F_CNV_STATUS_MODE (k : PortId) : (F.CNV_STATUS_MODE k).reg ∉ seasonRegs := by revert k; decide
theorem free_F_CNV_STATUS_PKLIM (k : PortId) : (F.CNV_STATUS_PKLIM k).reg ∉ seasonRegs := by revert k; decide
theorem free_F_FFL_STATUS_BUSY : F.FFL_STATUS_BUSY.reg ∉ seasonRegs := by decide
theorem free_F_HUB_PRI_EN (n : Nat) : (F.HUB_PRI_EN n).reg ∉ seasonRegs := by
  simp only [seasonRegs, F.HUB_PRI_EN, R.HUB_PRI, R.SYS_STATE, R.SAF_STATUS, List.mem_cons, List.not_mem_nil, or_false]
  omega
theorem free_F_HUB_PSTAT_DATA_ON (k : PortId) : (F.HUB_PSTAT_DATA_ON k).reg ∉ seasonRegs := by revert k; decide
theorem free_F_HUB_PSTAT_LINK (k : PortId) : (F.HUB_PSTAT_LINK k).reg ∉ seasonRegs := by revert k; decide
theorem free_F_HUB_PSTAT_SPEED (k : PortId) : (F.HUB_PSTAT_SPEED k).reg ∉ seasonRegs := by revert k; decide
theorem free_F_HUB_STATUS_MF0_CONF : F.HUB_STATUS_MF0_CONF.reg ∉ seasonRegs := by decide
theorem free_F_HUB_STATUS_UP_CONF : F.HUB_STATUS_UP_CONF.reg ∉ seasonRegs := by decide
theorem free_F_HUB_STATUS_UP_SPEED : F.HUB_STATUS_UP_SPEED.reg ∉ seasonRegs := by decide
theorem free_F_PD_STATUS_AUTH (k : PortId) : (F.PD_STATUS_AUTH k).reg ∉ seasonRegs := by revert k; decide
theorem free_F_PD_STATUS_CONTRACT (k : PortId) : (F.PD_STATUS_CONTRACT k).reg ∉ seasonRegs := by revert k; decide
theorem free_F_PD_STATUS_EPR (k : PortId) : (F.PD_STATUS_EPR k).reg ∉ seasonRegs := by revert k; decide
theorem free_F_PD_STATUS_MISMATCH (k : PortId) : (F.PD_STATUS_MISMATCH k).reg ∉ seasonRegs := by revert k; decide
theorem free_F_PD_STATUS_PDO (k : PortId) : (F.PD_STATUS_PDO k).reg ∉ seasonRegs := by revert k; decide
theorem free_F_PD_STATUS_PE (k : PortId) : (F.PD_STATUS_PE k).reg ∉ seasonRegs := by revert k; decide
theorem free_F_PD_STATUS_REV (k : PortId) : (F.PD_STATUS_REV k).reg ∉ seasonRegs := by revert k; decide
theorem free_F_PD_STATUS_VCONN_SRC (k : PortId) : (F.PD_STATUS_VCONN_SRC k).reg ∉ seasonRegs := by revert k; decide
theorem free_F_SQC_RAILS_INREG : F.SQC_RAILS_INREG.reg ∉ seasonRegs := by decide
theorem free_F_SQC_RST_ST_RELEASED : F.SQC_RST_ST_RELEASED.reg ∉ seasonRegs := by decide
theorem free_F_SQC_RST_ST_STRETCHING : F.SQC_RST_ST_STRETCHING.reg ∉ seasonRegs := by decide
theorem free_F_SQC_STATUS_GATE_WAIT : F.SQC_STATUS_GATE_WAIT.reg ∉ seasonRegs := by decide
theorem free_F_SQC_STATUS_PHASE : F.SQC_STATUS_PHASE.reg ∉ seasonRegs := by decide
theorem free_F_SQC_TRC_HEAD_NEXT : F.SQC_TRC_HEAD_NEXT.reg ∉ seasonRegs := by decide
theorem free_F_SQC_TRC_HEAD_TOTAL : F.SQC_TRC_HEAD_TOTAL.reg ∉ seasonRegs := by decide
theorem free_F_SQ_MEAS_V_MV (j : RailId) : (F.SQ_MEAS_V_MV j).reg ∉ seasonRegs := by revert j; decide
theorem free_F_SQ_MGST_DRIVING (j : RailId) : (F.SQ_MGST_DRIVING j).reg ∉ seasonRegs := by revert j; decide
theorem free_F_SQ_MGST_MOVING (j : RailId) : (F.SQ_MGST_MOVING j).reg ∉ seasonRegs := by revert j; decide
theorem free_F_SQ_MGST_POS (j : RailId) : (F.SQ_MGST_POS j).reg ∉ seasonRegs := by revert j; decide
theorem free_F_SQ_MGST_UV_ARMED (j : RailId) : (F.SQ_MGST_UV_ARMED j).reg ∉ seasonRegs := by revert j; decide
theorem free_F_SQ_MGST_UVW_ACT (j : RailId) : (F.SQ_MGST_UVW_ACT j).reg ∉ seasonRegs := by revert j; decide
theorem free_F_SQ_MG_TARGET (j : RailId) : (F.SQ_MG_TARGET j).reg ∉ seasonRegs := by revert j; decide
theorem free_F_SQ_STATUS_EN (j : RailId) : (F.SQ_STATUS_EN j).reg ∉ seasonRegs := by revert j; decide
theorem free_F_SQ_STATUS_MG_DIS (j : RailId) : (F.SQ_STATUS_MG_DIS j).reg ∉ seasonRegs := by revert j; decide
theorem free_F_SQ_STATUS_RSTATE (j : RailId) : (F.SQ_STATUS_RSTATE j).reg ∉ seasonRegs := by revert j; decide
theorem free_F_UPD_HO_ENGINE : F.UPD_HO_ENGINE.reg ∉ seasonRegs := by decide
theorem free_F_UPD_HO_PHASE : F.UPD_HO_PHASE.reg ∉ seasonRegs := by decide
theorem free_G_UPD_ABANDONED_bit : G.UPD_ABANDONED.bit.reg ∉ seasonRegs := by decide
theorem free_G_UPD_ABANDONED_cnt : G.UPD_ABANDONED.cnt.reg ∉ seasonRegs := by decide
theorem free_F_CNV_STATUS_RAMP (k : PortId) : (F.CNV_STATUS_RAMP k).reg ∉ seasonRegs := by revert k; decide
theorem free_F_PD_STATUS_DATA_ROLE (k : PortId) : (F.PD_STATUS_DATA_ROLE k).reg ∉ seasonRegs := by revert k; decide
theorem free_F_ATT_STATUS_SEATED (k : PortId) : (F.ATT_STATUS_SEATED k).reg ∉ seasonRegs := by revert k; decide
theorem free_R_ATT_CABLE (k : PortId) : R.ATT_CABLE k ∉ seasonRegs := by revert k; decide
theorem free_F_BUD_STATUS_GRANTED : F.BUD_STATUS_GRANTED.reg ∉ seasonRegs := by decide
theorem free_R_SQC_TRC_HEAD : R.SQC_TRC_HEAD ∉ seasonRegs := by decide
theorem free_R_PD_CONTRACT (k : PortId) : (R.PD_CONTRACT k) ∉ seasonRegs := by revert k; decide
theorem free_R_PD_RDO (k : PortId) : (R.PD_RDO k) ∉ seasonRegs := by revert k; decide

theorem modPort_stands {s : State} {k : PortId} {f : Port → Port} (h : Stands s₀ s) :
    Stands s₀ (State.modPort s k f) := by
  unfold State.modPort
  repeat' first
    | (extract_lets +onlyGivenNames x; first | (refine Stands.aside (s₀ := s₀) (x := x) ?_ ?_; clear_value x; revert x; refine Stands.hold ?_; intro x hx; rotate_left; subst x) | skip)
    | with_reducible first | assumption
    | with_reducible intro _ _ _
    | with_reducible intro _ _
    | with_reducible intro _
    | with_reducible (apply stands_mk; assumption)
    | with_reducible first | apply set_stands

theorem modAtt_stands {s : State} {k : PortId} {f : AttPort → AttPort} (h : Stands s₀ s) :
    Stands s₀ (State.modAtt s k f) := by
  unfold State.modAtt
  repeat' first
    | (extract_lets +onlyGivenNames x; first | (refine Stands.aside (s₀ := s₀) (x := x) ?_ ?_; clear_value x; revert x; refine Stands.hold ?_; intro x hx; rotate_left; subst x) | skip)
    | with_reducible first | assumption
    | with_reducible intro _ _ _
    | with_reducible intro _ _
    | with_reducible intro _
    | with_reducible (apply stands_mk; assumption)
    | with_reducible first | apply modPort_stands

theorem modPd_stands {s : State} {k : PortId} {f : PdPort → PdPort} (h : Stands s₀ s) :
    Stands s₀ (State.modPd s k f) := by
  unfold State.modPd
  repeat' first
    | (extract_lets +onlyGivenNames x; first | (refine Stands.aside (s₀ := s₀) (x := x) ?_ ?_; clear_value x; revert x; refine Stands.hold ?_; intro x hx; rotate_left; subst x) | skip)
    | with_reducible first | assumption
    | with_reducible intro _ _ _
    | with_reducible intro _ _
    | with_reducible intro _
    | with_reducible (apply stands_mk; assumption)
    | with_reducible first | apply modPort_stands

theorem modCnv_stands {s : State} {k : PortId} {f : CnvPort → CnvPort} (h : Stands s₀ s) :
    Stands s₀ (State.modCnv s k f) := by
  unfold State.modCnv
  repeat' first
    | (extract_lets +onlyGivenNames x; first | (refine Stands.aside (s₀ := s₀) (x := x) ?_ ?_; clear_value x; revert x; refine Stands.hold ?_; intro x hx; rotate_left; subst x) | skip)
    | with_reducible first | assumption
    | with_reducible intro _ _ _
    | with_reducible intro _ _
    | with_reducible intro _
    | with_reducible (apply stands_mk; assumption)
    | with_reducible first | apply modPort_stands

theorem modChk_stands {s : State} {k : PortId} {f : ChkPort → ChkPort} (h : Stands s₀ s) :
    Stands s₀ (State.modChk s k f) := by
  unfold State.modChk
  repeat' first
    | (extract_lets +onlyGivenNames x; first | (refine Stands.aside (s₀ := s₀) (x := x) ?_ ?_; clear_value x; revert x; refine Stands.hold ?_; intro x hx; rotate_left; subst x) | skip)
    | with_reducible first | assumption
    | with_reducible intro _ _ _
    | with_reducible intro _ _
    | with_reducible intro _
    | with_reducible (apply stands_mk; assumption)
    | with_reducible first | apply modPort_stands

theorem modBrk_stands {s : State} {k : PortId} {f : BrkPort → BrkPort} (h : Stands s₀ s) :
    Stands s₀ (State.modBrk s k f) := by
  unfold State.modBrk
  repeat' first
    | (extract_lets +onlyGivenNames x; first | (refine Stands.aside (s₀ := s₀) (x := x) ?_ ?_; clear_value x; revert x; refine Stands.hold ?_; intro x hx; rotate_left; subst x) | skip)
    | with_reducible first | assumption
    | with_reducible intro _ _ _
    | with_reducible intro _ _
    | with_reducible intro _
    | with_reducible (apply stands_mk; assumption)
    | with_reducible first | apply modPort_stands

theorem modRail_stands {s : State} {j : RailId} {f : Rail → Rail} (h : Stands s₀ s) :
    Stands s₀ (State.modRail s j f) := by
  unfold State.modRail
  repeat' first
    | (extract_lets +onlyGivenNames x; first | (refine Stands.aside (s₀ := s₀) (x := x) ?_ ?_; clear_value x; revert x; refine Stands.hold ?_; intro x hx; rotate_left; subst x) | skip)
    | with_reducible first | assumption
    | with_reducible intro _ _ _
    | with_reducible intro _ _
    | with_reducible intro _
    | with_reducible (apply stands_mk; assumption)
    | with_reducible first | apply set_stands

theorem trace_stands {s : State} {code : Nat} {idx : Nat} {mv : Nat} (h : Stands s₀ s) :
    Stands s₀ (State.trace s code idx mv) := by
  unfold State.trace
  repeat' first
    | with_reducible first | exact free_F_SQC_STATUS_PHASE | exact free_F_SQC_TRC_HEAD_NEXT | exact free_F_SQC_TRC_HEAD_TOTAL
    | (extract_lets +onlyGivenNames x; first | (refine Stands.aside (s₀ := s₀) (x := x) ?_ ?_; clear_value x; revert x; refine Stands.hold ?_; intro x hx; rotate_left; subst x) | skip)
    | with_reducible first | assumption
    | with_reducible intro _ _ _
    | with_reducible intro _ _
    | with_reducible intro _
    | with_reducible (apply stands_mk; assumption)
    | with_reducible first | apply bump_stands | apply set_stands

theorem traceRail_stands {s : State} {code : Nat} {j : RailId} (h : Stands s₀ s) :
    Stands s₀ (State.traceRail s code j) := by
  unfold State.traceRail
  repeat' first
    | with_reducible first | exact free_F_SQ_MEAS_V_MV _
    | with_reducible first | assumption
    | with_reducible first | apply trace_stands

theorem setPhase_stands {s : State} {p : Nat} (h : Stands s₀ s) :
    Stands s₀ (State.setPhase s p) := by
  unfold State.setPhase
  repeat' first
    | with_reducible first | exact free_F_SQC_STATUS_PHASE
    | (extract_lets +onlyGivenNames x; first | (refine Stands.aside (s₀ := s₀) (x := x) ?_ ?_; clear_value x; revert x; refine Stands.hold ?_; intro x hx; rotate_left; subst x) | skip)
    | with_reducible first | assumption | apply Stands.ite
    | with_reducible intro _
    | with_reducible first | apply set_stands | apply trace_stands
    | split

theorem stopConverter_stands {s : State} {k : PortId} (h : Stands s₀ s) :
    Stands s₀ (State.stopConverter s k) := by
  unfold State.stopConverter
  repeat' first
    | with_reducible first | exact free_F_CNV_STATUS_RAMP _ | exact free_F_CNV_STATUS_CLIM _ | exact free_F_CNV_STATUS_HEADROOM _ | exact free_F_CNV_STATUS_MODE _ | exact free_F_CNV_STATUS_PKLIM _
    | (extract_lets +onlyGivenNames x; first | (refine Stands.aside (s₀ := s₀) (x := x) ?_ ?_; clear_value x; revert x; refine Stands.hold ?_; intro x hx; rotate_left; subst x) | skip)
    | with_reducible first | assumption | apply Stands.ite
    | with_reducible intro _ _ _
    | with_reducible intro _ _
    | with_reducible intro _
    | with_reducible (apply stands_mk; assumption)
    | with_reducible first | apply disarm_stands | apply modCnv_stands | apply put_stands | apply set_stands
    | split

theorem disarmAll_stands {s : State} {l : List TimerId} (h : Stands s₀ s) :
    Stands s₀ (State.disarmAll s l) := by
  unfold State.disarmAll
  repeat' first
    | (extract_lets +onlyGivenNames x; first | (refine Stands.aside (s₀ := s₀) (x := x) ?_ ?_; clear_value x; revert x; refine Stands.hold ?_; intro x hx; rotate_left; subst x) | skip)
    | with_reducible first | assumption
    | with_reducible intro _ _ _
    | with_reducible intro _ _
    | with_reducible intro _
    | with_reducible (apply stands_mk; assumption)

theorem openSwitch_stands {s : State} {k : PortId} (h : Stands s₀ s) :
    Stands s₀ (State.openSwitch s k) := by
  unfold State.openSwitch
  repeat' first
    | with_reducible first | exact free_F_ATT_STATUS_VBUS_ON _ | exact free_F_BRK_STATUS_STATE _ | exact free_F_CNV_MEAS_IOUT _ | exact free_F_CNV_DROP_DROP _
    | (extract_lets +onlyGivenNames x; first | (refine Stands.aside (s₀ := s₀) (x := x) ?_ ?_; clear_value x; revert x; refine Stands.hold ?_; intro x hx; rotate_left; subst x) | skip)
    | with_reducible first | assumption | apply Stands.ite
    | with_reducible intro _ _ _
    | with_reducible intro _ _
    | with_reducible intro _
    | with_reducible (apply stands_mk; assumption)
    | with_reducible first | apply arm_stands | apply disarmAll_stands | apply modBrk_stands | apply put_stands | apply set_stands
    | split

theorem vconnOff_stands {s : State} {k : PortId} (h : Stands s₀ s) :
    Stands s₀ (State.vconnOff s k) := by
  unfold State.vconnOff
  repeat' first
    | with_reducible first | exact free_F_ATT_STATUS_VCONN_ON _ | exact free_F_PD_STATUS_VCONN_SRC _
    | with_reducible first | assumption
    | with_reducible first | apply put_stands

theorem dropHealth_stands {s : State} {k : PortId} (h : Stands s₀ s) :
    Stands s₀ (State.dropHealth s k) := by
  unfold State.dropHealth
  repeat' first
    | (extract_lets +onlyGivenNames x; first | (refine Stands.aside (s₀ := s₀) (x := x) ?_ ?_; clear_value x; revert x; refine Stands.hold ?_; intro x hx; rotate_left; subst x) | skip)
    | with_reducible first | assumption
    | with_reducible intro _ _ _
    | with_reducible intro _ _
    | with_reducible intro _
    | with_reducible (apply stands_mk; assumption)
    | with_reducible first | apply disarm_stands | apply modChk_stands

theorem clearPd_stands {s : State} {k : PortId} (h : Stands s₀ s) :
    Stands s₀ (State.clearPd s k) := by
  unfold State.clearPd
  repeat' first
    | with_reducible first | exact free_F_PD_STATUS_DATA_ROLE _ | exact free_F_ATT_STATUS_ASTATE _ | exact free_F_ATT_STATUS_RP _ | exact free_F_PD_STATUS_AUTH _ | exact free_F_PD_STATUS_CONTRACT _ | exact free_F_PD_STATUS_EPR _ | exact free_F_PD_STATUS_MISMATCH _ | exact free_F_PD_STATUS_PDO _ | exact free_F_PD_STATUS_PE _ | exact free_F_PD_STATUS_REV _ | exact free_R_PD_CONTRACT _ | exact free_R_PD_RDO _
    | (extract_lets +onlyGivenNames x; first | (refine Stands.aside (s₀ := s₀) (x := x) ?_ ?_; clear_value x; revert x; refine Stands.hold ?_; intro x hx; rotate_left; subst x) | skip)
    | with_reducible first | assumption | apply Stands.ite
    | with_reducible intro _ _ _
    | with_reducible intro _ _
    | with_reducible intro _
    | with_reducible (apply stands_mk; assumption)
    | with_reducible first | apply disarmAll_stands | apply dropHealth_stands | apply modChk_stands | apply modCnv_stands
                           | apply modPd_stands | apply put_stands | apply set_stands | apply setWord_stands | apply vconnOff_stands
    | with_reducible (apply modBrk_stands; assumption)
    | (dsimp only; apply modBrk_stands)
    | split

theorem hardOpen_stands {s : State} {k : PortId} (h : Stands s₀ s) :
    Stands s₀ (State.hardOpen s k) := by
  unfold State.hardOpen
  repeat' first
    | with_reducible first | assumption
    | with_reducible first | apply clearPd_stands | apply openSwitch_stands | apply stopConverter_stands

theorem partFrom_stands {s : State} {k : PortId} (h : Stands s₀ s) : Stands s₀ (State.partFrom s k) :=
  modAtt_stands (when_stands (setWord_stands (free_R_ATT_CABLE k) (put_stands (free_F_ATT_STATUS_RA k)
    (set_stands (free_F_ATT_STATUS_ORIENT k) h))) fun _ hx => put_stands (free_F_ATT_STATUS_SEATED k) hx)

theorem disableAttach_stands {s : State} {k : PortId} (h : Stands s₀ s) :
    Stands s₀ (State.disableAttach s k) := by
  unfold State.disableAttach
  repeat' first
    | with_reducible first | exact free_F_ATT_STATUS_ASTATE _ | exact free_F_ATT_STATUS_ORIENT _ | exact free_F_ATT_STATUS_RA _ | exact free_F_ATT_STATUS_RP _
    | (extract_lets +onlyGivenNames x; first | (refine Stands.aside (s₀ := s₀) (x := x) ?_ ?_; clear_value x; revert x; refine Stands.hold ?_; intro x hx; rotate_left; subst x) | skip)
    | with_reducible first | assumption
    | with_reducible intro _ _ _
    | with_reducible intro _ _
    | with_reducible intro _
    | with_reducible (apply stands_mk; assumption)
    | with_reducible first | apply partFrom_stands | apply disarmAll_stands | apply modAtt_stands | apply put_stands | apply set_stands
                           | apply vconnOff_stands

theorem shutPort_stands {s : State} {k : PortId} (h : Stands s₀ s) :
    Stands s₀ (State.shutPort s k) := by
  unfold State.shutPort
  repeat' first
    | with_reducible first | assumption
    | with_reducible first | apply disableAttach_stands | apply disarmAll_stands | apply hardOpen_stands

theorem assertReset_stands {s : State} {n : Fin 4} (h : Stands s₀ s) :
    Stands s₀ (State.assertReset s n) := by
  unfold State.assertReset
  repeat' first
    | with_reducible first | exact free_F_SQC_RST_ST_RELEASED | exact free_F_SQC_RST_ST_STRETCHING
    | with_reducible first | assumption
    | with_reducible first | apply disarm_stands | apply putBit_stands

theorem assertWatching_stands {s : State} {j : RailId} (h : Stands s₀ s) :
    Stands s₀ (State.assertWatching s j) := by
  unfold State.assertWatching
  repeat' first
    | with_reducible first | assumption
    | with_reducible intro _ _ _
    | with_reducible intro _ _
    | with_reducible intro _
    | with_reducible first | apply assertReset_stands | apply forAll_stands | apply when_stands

theorem releaseRail_stands {s : State} {j : RailId} {discharge : Bool} {rstate : Nat} (h : Stands s₀ s) :
    Stands s₀ (State.releaseRail s j discharge rstate) := by
  unfold State.releaseRail
  repeat' first
    | with_reducible first | exact free_F_SQC_RAILS_INREG | exact free_F_SQ_MGST_DRIVING _ | exact free_F_SQ_MGST_MOVING _ | exact free_F_SQ_MGST_POS _ | exact free_F_SQ_MGST_UV_ARMED _ | exact free_F_SQ_MGST_UVW_ACT _ | exact free_F_SQ_MG_TARGET _ | exact free_F_SQ_STATUS_EN _ | exact free_F_SQ_STATUS_MG_DIS _ | exact free_F_SQ_STATUS_RSTATE _
    | (extract_lets +onlyGivenNames x; first | (refine Stands.aside (s₀ := s₀) (x := x) ?_ ?_; clear_value x; revert x; refine Stands.hold ?_; intro x hx; rotate_left; subst x) | skip)
    | with_reducible first | assumption | apply Stands.ite
    | with_reducible intro _ _ _
    | with_reducible intro _ _
    | with_reducible intro _
    | with_reducible (apply stands_mk; assumption)
    | with_reducible first | apply assertWatching_stands | apply disarmAll_stands | apply modRail_stands | apply put_stands
                           | apply putBit_stands | apply set_stands | apply traceRail_stands
    | split

theorem traceAsIn_stands {s t : State} (h : Stands s₀ t) : Stands s₀ (State.traceAsIn t s) :=
  setWord_stands free_R_SQC_TRC_HEAD (stands_mk h)

theorem winterTable_stands {s : State} {phase : Nat} {code : Nat} {clockRuns : Bool} (h : Stands s₀ s) :
    Stands s₀ (State.winterTable s phase code clockRuns) := by
  unfold State.winterTable
  repeat' first
    | with_reducible first | exact free_F_SQC_RST_ST_RELEASED | exact free_F_SQC_STATUS_GATE_WAIT | exact free_F_SQC_STATUS_PHASE | exact free_F_SQ_STATUS_EN _ | exact free_F_SQ_STATUS_RSTATE _
    | (extract_lets +onlyGivenNames x; first | (refine Stands.aside (s₀ := s₀) (x := x) ?_ ?_; clear_value x; revert x; refine Stands.hold ?_; intro x hx; rotate_left; subst x) | skip)
    | with_reducible first | assumption | apply Stands.ite
    | with_reducible intro _ _ _
    | with_reducible intro _ _
    | with_reducible intro _
    | with_reducible (apply stands_mk; assumption)
    | with_reducible first | apply traceAsIn_stands | apply assertReset_stands | apply disarmAll_stands | apply forAll_stands | apply modRail_stands
                           | apply put_stands | apply putBit_stands | apply releaseRail_stands | apply set_stands
                           | apply setPhase_stands | apply trace_stands | apply when_stands
    | split

theorem fflTrigger_stands {s : State} {code : Nat} {commit : Bool} (h : Stands s₀ s) :
    Stands s₀ (State.fflTrigger s code commit) := by
  unfold State.fflTrigger
  repeat' first
    | with_reducible first | exact free_F_FFL_STATUS_BUSY
    | (extract_lets +onlyGivenNames x; first | (refine Stands.aside (s₀ := s₀) (x := x) ?_ ?_; clear_value x; revert x; refine Stands.hold ?_; intro x hx; rotate_left; subst x) | skip)
    | with_reducible first | assumption
    | with_reducible intro _ _ _
    | with_reducible intro _ _
    | with_reducible intro _
    | with_reducible (apply stands_mk; assumption)
    | with_reducible first | apply put_stands

theorem dropUpstream_stands {s : State} (h : Stands s₀ s) :
    Stands s₀ (State.dropUpstream s) := by
  unfold State.dropUpstream
  repeat' first
    | with_reducible first | exact free_F_HUB_STATUS_MF0_CONF | exact free_F_HUB_STATUS_UP_CONF | exact free_F_HUB_STATUS_UP_SPEED
    | (extract_lets +onlyGivenNames x; first | (refine Stands.aside (s₀ := s₀) (x := x) ?_ ?_; clear_value x; revert x; refine Stands.hold ?_; intro x hx; rotate_left; subst x) | skip)
    | with_reducible first | assumption
    | with_reducible (apply stands_mk; assumption)
    | with_reducible first | apply put_stands | apply set_stands

theorem hubPortOff_stands {s : State} {k : PortId} (h : Stands s₀ s) :
    Stands s₀ (State.hubPortOff s k) := by
  unfold State.hubPortOff
  repeat' first
    | with_reducible first | exact free_F_HUB_PRI_EN _ | exact free_F_HUB_PSTAT_DATA_ON _ | exact free_F_HUB_PSTAT_LINK _ | exact free_F_HUB_PSTAT_SPEED _
    | (extract_lets +onlyGivenNames x; first | (refine Stands.aside (s₀ := s₀) (x := x) ?_ ?_; clear_value x; revert x; refine Stands.hold ?_; intro x hx; rotate_left; subst x) | skip)
    | with_reducible first | assumption | apply Stands.ite
    | with_reducible intro _ _ _
    | with_reducible intro _ _
    | with_reducible intro _
    | with_reducible (apply stands_mk; assumption)
    | with_reducible first | apply forAll_stands | apply put_stands | apply set_stands
    | split

theorem winterActs_stands {s : State} (h : Stands s₀ s) :
    Stands s₀ (State.winterActs s) := by
  unfold State.winterActs
  repeat' first
    | with_reducible first | exact free_F_AXL_STATUS_CASC_ARMED
    | (extract_lets +onlyGivenNames x; first | (refine Stands.aside (s₀ := s₀) (x := x) ?_ ?_; clear_value x; revert x; refine Stands.hold ?_; intro x hx; rotate_left; subst x) | skip)
    | with_reducible first | assumption | apply Stands.ite
    | with_reducible intro _ _ _
    | with_reducible intro _ _
    | with_reducible intro _
    | with_reducible (apply stands_mk; assumption)
    | with_reducible first | apply dropUpstream_stands | apply forAll_stands | apply hubPortOff_stands | apply put_stands
                           | apply shutPort_stands | apply winterTable_stands
    | split

theorem abandonHandover_stands {s : State} (h : Stands s₀ s) :
    Stands s₀ (State.abandonHandover s) := by
  unfold State.abandonHandover
  repeat' first
    | with_reducible first | exact free_F_UPD_HO_ENGINE | exact free_F_UPD_HO_PHASE | exact free_G_UPD_ABANDONED_bit | exact free_G_UPD_ABANDONED_cnt
    | (extract_lets +onlyGivenNames x; first | (refine Stands.aside (s₀ := s₀) (x := x) ?_ ?_; clear_value x; revert x; refine Stands.hold ?_; intro x hx; rotate_left; subst x) | skip)
    | with_reducible first | assumption | apply Stands.ite
    | with_reducible intro _
    | with_reducible (apply stands_mk; assumption)
    | with_reducible first | apply flag_stands | apply post_stands | apply set_stands | apply warn_stands
    | split

theorem idle_stands {s : State} (h : Stands s₀ s) :
    Stands s₀ (State.idle s) := by
  unfold State.idle
  repeat' first
    | (extract_lets +onlyGivenNames x; first | (refine Stands.aside (s₀ := s₀) (x := x) ?_ ?_; clear_value x; revert x; refine Stands.hold ?_; intro x hx; rotate_left; subst x) | skip)
    | with_reducible first | assumption
    | with_reducible (apply stands_mk; assumption)

theorem free_F_BUD_GRANT_CEIL (k : PortId) : (F.BUD_GRANT_CEIL k).reg ∉ seasonRegs := by revert k; decide
theorem free_F_CNV_ILIM_ALLOC (k : PortId) : (F.CNV_ILIM_ALLOC k).reg ∉ seasonRegs := by revert k; decide
/-- After SYS_STATE is written, the rest of a transition leaves it alone (R35). -/
theorem transition_stands (s : State) (d : DevState) (n : Nat) : Stands (s.writeSysState d n) (s.transition d n) := by
  unfold State.transition
  extract_lets a b pins' c e f
  have ha : Stands a a := Stands.refl a
  have hb : Stands a b := Stands.ite (fun _ => ha) fun _ => post_stands ha
  have hc : Stands a c := hb
  have he : Stands a e := hc
  have hf : Stands a f := Stands.ite (fun _ => he) fun _ =>
    set_stands free_F_BUD_STATUS_GRANTED
      (forAll_stands (fun k _ h => set_stands (free_F_CNV_ILIM_ALLOC k) (set_stands (free_F_BUD_GRANT_CEIL k) h)) _ he)
  clear_value f
  cases d
  case summer => exact arm_stands (disarm_stands hf)
  case winter => exact when_stands hf fun _ h => arm_stands h
  all_goals exact hf
/-- SYS_STATE names the state that a transition enters. -/
theorem writeSysState_isIn (s : State) (d : DevState) (n : Nat) : (s.writeSysState d n).isIn d = true := by
  unfold State.writeSysState State.isIn
  rw [get_set_apart _ _ _ _ (by decide) (by decide), get_set_apart _ _ _ _ (by decide) (by decide), get_set_self _ _ _ (by decide)]
  cases d <;> decide
end Sys2Proof.Machine
end

