-- ==== Sys2Proof/Machine/PinLevels.lean ====
section
/-!
DEFINITION. Levels of the pins that no register shows and no command moves by itself (PIN, R49, Tables PIN-4 to PIN-6), read from the
state: reset state until R18 releases the outputs, Safe state in Winter and Deep Winter.
-/
namespace Sys2Proof.Machine

/-- Whether the outputs are still held: until XTAL_OK and ROOT_LOCK are both 1 (R18). -/
def State.outputsHeld (s : State) : Bool :=
  decide (s.bus.step ≠ 5) || !(s.has F.CLK_STATUS_XTAL_OK && s.has F.CLK_STATUS_ROOT_LOCK)
/-- Whether the flash pins are driven; else QSPI_CS_N is pulled up, QSPI_CLK and QSPI_D0–QSPI_D3 are at high impedance. -/
def State.qspiDriven (s : State) : Bool := !s.outputsHeld && !s.isIn .deepWinter
/-- The bias of Pk_NTC: off at reset, on in Winter. In the states between, it is on where the thermistor is fitted (DEDUCED from
BRK_CFG.NTC_EN, log entry 119). -/
def State.ntcBias (s : State) (k : PortId) : Bool :=
  !s.outputsHeld && (s.isAny [.winter, .deepWinter] || s.has (F.BRK_CFG_NTC_EN k))
/-- Whether Rd stands on P9_CC1 and P9_CC2: the clockless dead-battery network while VIN is below VIN_OK at reset and in Deep Winter,
else as ATT presents it. -/
def State.p9Rd (s : State) : Bool :=
  if s.outputsHeld || s.isIn .deepWinter then !s.env.vinOk
  else decide (s.get (F.ATT_STATUS_ASTATE port9) ≠ 0) && s.has (F.ATT_STATUS_PWR_ROLE port9)
/-- P9_SNKG: the dead-battery network at reset, else Table ATT-7. -/
def State.p9Snkg (s : State) : Bool := if s.outputsHeld then !s.env.vinOk else s.sinkPath
/-- High impedance of U_DP, U_DM and the U_TX and U_RX pairs: wherever the upstream terminations are not presented (R398). -/
def State.upHiZ (s : State) : Bool := s.outputsHeld || !s.pins.ups
/-- High impedance of Pk_DP and Pk_DM, in no state with the port's data enabled; in DCP the two are shorted instead (R170). -/
def State.dpHiZ (s : State) (k : PortId) : Bool := s.outputsHeld || s.isIn .deepWinter || !(s.has (F.HUB_PSTAT_DATA_ON k))
/-- The lane pair that a port's multiplexer routes, 0 none (R168): none while the outputs are held, in Deep Winter or with the
port's data disabled. -/
def State.lanePair (s : State) (k : PortId) : Nat := if s.dpHiZ k then 0 else (s.port k).att.lanes
/-- High impedance of P9_DP and P9_DM: wherever its management function is absent. -/
def State.p9DpHiZ (s : State) : Bool := s.outputsHeld || s.isIn .deepWinter || !s.fnPresent 1
/-- RSTOn_N and CASC_OUT are low and SQENj is pulled down while the outputs are held. -/
def State.pinLow (s : State) (driven : Bool) : Bool := s.outputsHeld || !driven

end Sys2Proof.Machine
end

