-- ==== Sys2Proof/Tests/Slice0.lean ====
section
/-!
SUPPORT. Tests: ill-formed commands refused by WellFormed, values that the manual or the standards it names print, single
steps on small states, and for each statement with conditions a state and operands that meet all of them together.
-/

open Sys2Proof Sys2Proof.Machine

section
-- One check of the kernel after another: many at once would each hold a thread.
set_option Elab.async false

/-- A frame of the mailbox with a command code and a payload; its two last words stand for the MAC. -/
def testFrame (code : Nat) (p : List Word) : Frame :=
  { via := 0, words := [BitVec.ofNat 32 code, 0#32, 0xFFFFFFFF#32, 0#32] ++ p ++ [0#32, 0#32] }
/-- Port 1 attached and closed, its engine in reset for a reload, with the messages given in its queue. -/
def testReload (q : List Instr) : State :=
  let s := (State.reset.set F.SYS_STATE_STATE 2).set (F.BRK_STATUS_STATE 0) 3
  s.modPd 0 fun p => { p with reloading := true, rxq := q }
/-- A leaf key under which the signature of `testAuthMsg` holds, chosen for it. -/
def testAuthKey : List Byte :=
  [0x72, 0x13, 0x9A, 0x94, 0x2E, 0x60, 0x64, 0xC7, 0x8C, 0x28, 0x9E, 0x6F, 0xCD, 0x59, 0x2D, 0xC9, 0xDA, 0x77,
   0x69, 0x09, 0x78, 0xEF, 0x22, 0x18, 0x38, 0x60, 0xB7, 0x89, 0xBC, 0x45, 0x6F, 0x6D, 0xB4, 0xB8, 0x4E, 0x8A,
   0xF3, 0x24, 0x37, 0x67, 0x79, 0xFD, 0x7F, 0xE6, 0xEC, 0xAF, 0x68, 0x84, 0x8B, 0x0B, 0xE5, 0xA4, 0x88, 0x50,
   0xC5, 0x40, 0xFC, 0xF8, 0xBF, 0x3A, 0x32, 0x26, 0x22, 0x15].map (BitVec.ofNat 8)
/-- A CHALLENGE_AUTH of slot 0 for a chain of one byte 0x01 and a nonce of bytes 0x07. -/
def testAuthMsg : List Byte :=
  [0x10, 0x03, 0x00, 0x01, 0x00, 0x00, 0x00, 0x00, 0x4B, 0xF5, 0x12, 0x2F, 0x34, 0x45, 0x54, 0xC5, 0x3B, 0xDE,
   0x2E, 0xBB, 0x8C, 0xD2, 0xB7, 0xE3, 0xD1, 0x60, 0x0A, 0xD6, 0x31, 0xC3, 0x85, 0xA5, 0xD7, 0xCC, 0xE2, 0x3C,
   0x77, 0x85, 0x45, 0x9A, 0x01, 0x00, 0x00, 0x00, 0x00, 0x00, 0x00, 0x00, 0x00, 0x00, 0x00, 0x00, 0x00, 0x00,
   0x00, 0x00, 0x00, 0x00, 0x00, 0x00, 0x00, 0x00, 0x00, 0x00, 0x00, 0x00, 0x00, 0x00, 0x00, 0x00, 0x00, 0x00,
   0x00, 0x00, 0x00, 0x00, 0x00, 0x00, 0x00, 0x00, 0x00, 0x00, 0x00, 0x00, 0x00, 0x00, 0x00, 0x00, 0x00, 0x00,
   0x00, 0x00, 0x00, 0x00, 0x00, 0x00, 0x00, 0x00, 0x00, 0x00, 0x00, 0x00, 0x00, 0x00, 0x9F, 0x72, 0x91, 0x05,
   0x47, 0xFC, 0x8E, 0xA7, 0xDC, 0x45, 0x4E, 0x9A, 0xAD, 0xFB, 0x70, 0xAB, 0xD3, 0x5D, 0x2F, 0x47, 0x47, 0x7C,
   0xFC, 0x5B, 0x69, 0x9B, 0x4D, 0xF2, 0xED, 0x41, 0x00, 0x57, 0x9F, 0x72, 0x91, 0x05, 0x47, 0xFC, 0x8E, 0xA7,
   0xDC, 0x45, 0x4E, 0x9A, 0xAD, 0xFB, 0x70, 0xAB, 0xD3, 0x5D, 0x2F, 0x47, 0x47, 0x7C, 0xFC, 0x5B, 0x69, 0x9B,
   0x4D, 0xF2, 0xED, 0x41, 0x00, 0x57].map (BitVec.ofNat 8)
/-- A firmware image whose sections hold one word each, signed by the key of `testFwKeyWords`. -/
def testFwImage : List Byte :=
  ([0x4B, 0x51, 0x46, 0x57, 0x01, 0x00, 0x00, 0x04, 0x00, 0x05, 0x00, 0x00, 0x00, 0x00, 0x01, 0x00, 0x34, 0x12].map
    (BitVec.ofNat 8)) ++
  List.replicate 15 0#8 ++
  ([0x04, 0x00, 0x00, 0x04, 0x00, 0x00, 0x00, 0xCB, 0x4B, 0x9D, 0xBB, 0xEB, 0x77, 0x70, 0x43, 0x37, 0xF1, 0xB4,
    0x5F, 0xD4, 0x23, 0x80, 0x1E, 0x5D, 0xF7, 0xD6, 0x22, 0x12, 0xF2, 0x35, 0xC0, 0x52, 0x9A, 0x39, 0xF7, 0x66,
    0x58, 0x6A, 0x7F, 0x04, 0x04, 0x00, 0x00, 0x04, 0x00, 0x00, 0x00, 0x00, 0x00, 0x00, 0x00, 0x00, 0x00, 0x00,
    0x00, 0x04, 0x73, 0xF2, 0xD2, 0x99, 0x54, 0x95, 0x6C, 0xFC].map (BitVec.ofNat 8)) ++
  ([0xAE, 0xD1, 0xFD, 0x7D, 0xE7, 0x61, 0x32, 0x93, 0x3D, 0x03, 0xC8, 0xA6, 0xEC, 0xDF, 0xA1, 0x5B, 0x3E, 0xBF,
    0x72, 0xA5, 0x96, 0x1C, 0xBD].map (BitVec.ofNat 8)) ++
  List.replicate 384 0#8 ++
  ([0x08, 0x04, 0x00, 0x00, 0x04, 0x00, 0x00, 0x00, 0x00, 0x00, 0x00, 0x00, 0x00, 0x00, 0x00, 0x00, 0x31, 0x53,
    0x36, 0x82, 0xF0, 0xF2, 0x63, 0xB5, 0x77, 0x83, 0xE4, 0xBB, 0xDE, 0x76, 0x89, 0xCA, 0x4C, 0x81, 0x81, 0x08,
    0x9F, 0xBE, 0xBE, 0x51, 0x56, 0x7E, 0xA3, 0xC7, 0x89, 0x5C, 0x8B, 0xDE].map (BitVec.ofNat 8)) ++
  List.replicate 48 0#8 ++
  ([0x0C, 0x04, 0x00, 0x00, 0x04, 0x00, 0x00, 0x00, 0x00, 0x00, 0x00, 0x00, 0x00, 0x00, 0x00, 0x00, 0xC9, 0x8D,
    0xFB, 0xD3, 0x42, 0x44, 0x92, 0xF0, 0xD4, 0xF3, 0x2B, 0x02, 0x1A, 0x3F, 0xCC, 0x1A, 0x5B, 0x29, 0x95, 0xBF,
    0x43, 0x16, 0x8B, 0xC3, 0x75, 0x27, 0xDB, 0xDB, 0x09, 0x6D, 0x40, 0xD2, 0x10, 0x04, 0x00, 0x00, 0x04, 0x00,
    0x00, 0x00, 0x00, 0x00, 0x00, 0x00, 0x00, 0x00, 0x00, 0x00].map (BitVec.ofNat 8)) ++
  ([0x10, 0x8D, 0x1F, 0x2D, 0x7D, 0xE4, 0xAB, 0x02, 0x5A, 0xD8, 0x70, 0x8B, 0x1A, 0xDE, 0x6B, 0xC6, 0x74, 0x80,
    0x29, 0x8B, 0xEB, 0xAC, 0xB6, 0xEC, 0xC5, 0x57, 0xED, 0xAA, 0xB4, 0xCA, 0xAF, 0x6B, 0x14, 0x04, 0x00, 0x00,
    0x04, 0x00, 0x00, 0x00, 0x00, 0x00, 0x00, 0x00, 0x00, 0x00, 0x00, 0x00, 0xA9, 0xE2, 0x52, 0xD0, 0x05, 0x76,
    0x7F, 0x71, 0x60, 0x21, 0x97, 0x50, 0x9C, 0x54, 0x71, 0x23].map (BitVec.ofNat 8)) ++
  ([0xB4, 0x5E, 0x71, 0x3E, 0xC1, 0xC3, 0x5F, 0xE1, 0x47, 0xD8, 0xFB, 0xD8, 0x58, 0x62, 0x6D, 0x33].map
    (BitVec.ofNat 8)) ++
  List.replicate 48 0#8 ++
  ([0x18, 0x04, 0x00, 0x00, 0x04, 0x00, 0x00, 0x00, 0x00, 0x00, 0x00, 0x00, 0x00, 0x00, 0x00, 0x00, 0xDF, 0x37,
    0xB2, 0x8F, 0x86, 0xA3, 0xD9, 0x01, 0x07, 0x13, 0xB7, 0x15, 0xBF, 0xCA, 0xE9, 0x8F, 0xE7, 0xF5, 0xC8, 0x46,
    0x2B, 0xC7, 0x22, 0x1B, 0x84, 0xB9, 0x9C, 0xA8, 0xDD, 0x34, 0x50, 0xD3].map (BitVec.ofNat 8)) ++
  List.replicate 180 0#8 ++
  ([0xCE, 0xBB, 0xDA, 0xB6, 0x6F, 0x00, 0x00, 0x00, 0x00, 0xC0, 0xDE, 0x01, 0x09, 0xC0, 0xDE, 0x01, 0x0B, 0xC0,
    0xDE, 0x01, 0x0C, 0xC0, 0xDE, 0x01, 0x0D, 0xC0, 0xDE, 0x01, 0x0F, 0xC0, 0xDE, 0x01].map (BitVec.ofNat 8)) ++
  List.replicate 100 0#8 ++
  ([0xAC, 0x89, 0xAB, 0x5B, 0x69, 0xF7, 0x6E, 0x0B, 0xEC, 0xC6, 0x14, 0x7C, 0x47, 0x90, 0xCB, 0xD4, 0x94, 0x44,
    0x37, 0x54, 0xD7, 0x94, 0xCF, 0xB5, 0x7B, 0xD6, 0x4A, 0x15, 0x78, 0x97, 0x00, 0xB1, 0xBC, 0x34, 0xD7, 0x29,
    0x20, 0x7E, 0x5C, 0x5C, 0xCF, 0xC5, 0x6B, 0xFD, 0xBD, 0xB0, 0x37, 0x2D, 0x9E, 0x38, 0x4A, 0x8C, 0x2D, 0x5F,
    0x8B, 0x80, 0x22, 0x4D, 0x50, 0x79, 0xF8, 0xC1, 0xD6, 0xB1].map (BitVec.ofNat 8)) ++
  ([0xF9, 0xEB, 0xE4, 0x64, 0x14, 0x7C, 0xC1, 0x02, 0xD9, 0x23, 0x24, 0xD0, 0x99, 0xD9, 0x27, 0xC1, 0xA5, 0x0E,
    0x42, 0xD5, 0x7A, 0x08, 0xA1, 0x16, 0xFF, 0xEC, 0x0A, 0x29, 0x81, 0x9D, 0x8C, 0x65, 0xD9, 0xD3, 0x4D, 0xFC,
    0x84, 0xAD, 0x8D, 0xE2, 0x62, 0xAD, 0xF4, 0x51, 0x73, 0x06, 0x38, 0xF8, 0x13, 0xF4, 0x82, 0x8C, 0xDF, 0xBC,
    0x43, 0xB9, 0x7F, 0x8F, 0xCC, 0xCE, 0x12, 0x2B, 0xC4, 0x21].map (BitVec.ofNat 8))
/-- OTP words in force that hold the digest of the key of `testFwImage` as FWKEY 0. -/
def testFwKeyWords : Bank Word :=
  [(0x24, 0xA4941711#32), (0x25, 0x19CE0D1E#32), (0x26, 0xEB73A8C3#32), (0x27, 0xAF58A73E#32), (0x28,
   0x32739AE7#32), (0x29, 0xF6D8D351#32), (0x2A, 0x18F1E0DE#32), (0x2B, 0x63C7E525#32)]
/-- A run of bytes as entries of the flash. -/
def testFlash : Nat → List Byte → Bank Byte
  | _, [] => []
  | a, b :: bs => (a, b) :: testFlash (a + 1) bs
/-- An unsigned Immond image that marks every unit absent or disabled and gives the words no image may leave at 0. -/
def testCfgImage : List Byte :=
  ([0x49, 0x4D, 0x4D, 0x44, 0x01, 0x00, 0x80, 0x00, 0xE4, 0x00, 0x00, 0x00, 0x60, 0x00, 0x00, 0x00, 0x00, 0xFF,
    0x00, 0x00, 0x4D].map (BitVec.ofNat 8)) ++
  List.replicate 19 0#8 ++
  ([0x74, 0x65, 0x73, 0x74].map (BitVec.ofNat 8)) ++
  List.replicate 80 0#8 ++
  ([0x20, 0x2C, 0x05, 0xFC, 0x02, 0x00, 0x00, 0x02, 0xFF, 0x00, 0xFF, 0xFF, 0xFF, 0x3F, 0x00, 0x00, 0x03, 0x00,
    0x00, 0x01, 0x0C, 0x0D, 0x00, 0x00, 0x10, 0x00, 0x00, 0x01, 0x10, 0x00, 0x64, 0x00, 0x03, 0x00, 0x00, 0x01,
    0x00, 0x0E, 0x00, 0x00, 0x00, 0x00, 0x96, 0x00, 0x00, 0x00, 0x0A, 0x00, 0x0B, 0x00, 0x00, 0x01, 0x30, 0x21,
    0x00, 0x00, 0x00, 0x00, 0x00, 0x01, 0x64, 0x00, 0x41].map (BitVec.ofNat 8)) ++
  List.replicate 29 0#8 ++
  ([0x32, 0x00, 0x00, 0x0A, 0x00, 0x00, 0x00, 0x7F, 0x53, 0xE3, 0x0A, 0x4B].map (BitVec.ofNat 8))
/-- A register family for a place where none is found. -/
def testFam : RegFam := { base := 0, n1 := 0, s1 := 0, n2 := 0, s2 := 0, reset := 0, rw := 0, w1c := 0, wo := 0, rws := 0, rwa := 0, img := 0, recordable := false }

/-- Every check of WellFormed refuses a command that breaks it alone. -/
theorem test_wellformed_refuses :
    ([.otpBootRead [(256, 0, 0, 0)], .firmwareSlotVerify 3, .adcConversion 128 0 none none none none,
      .windowOutside 64 true, .bist 0 0 3, .vconnSwapReject 8 0, .port9PsRdy 8 0 5, .cableIdentityResponse 0 0 true 3 0 true,
      .cableIdentityResponse 0 0 true 0 4 true, .structuredVdm 0 0 65536 1, .structuredVdm 0 0 0x2E7A 32, .switchingPeriod 8 true true,
      .outerLoopUpdate 8 0 0 true, .outerLoopUpdate 0 1025 0 true, .outerLoopUpdate 0 0 65536 true, .foldbackStep 0 65536 0,
      .foldbackStep 0 0 65536, .shortDetected 0 3 0, .shortDetected 0 0 4294967296, .breakerStep 0 65536 1, .breakerStep 0 0 0, .breakerStep 0 0 4294967296,
      .hubPortDataEnable 0 9 0 0 true true [], .hubPortDataEnable 0 0 6 0 true true [],
      .hubPortDataEnable 0 0 0 6 true true [], .ssTrainingFailed 0 6, .otpFullReread true [(256, 0, 0, 0)],
      .sessionCeilingRaise 128, .otpLock none [(256, 0, 0, 0)] true] : List Instr).all (fun i => !i.wf) = true := by decide

/-- The check column of Table TMB-1. -/
theorem test_check_values :
    [crc 0 (ascii "123456789"), crc 1 (ascii "123456789"), crc 2 (ascii "123456789"), crc 3 (ascii "123456789")] =
      [0xF4, 0x29B1, 0xCBF43926, 0xE3069283] := by decide +kernel
/-- The PEC of the worked example of chapter TMB: 0x52 after the address, 0x9D after the command, 0xCF after the data. -/
theorem test_pec_example : [crc 0 [0xC4#8], crc 0 [0xC4#8, 0x0C#8], crc 0 [0xC4#8, 0x0C#8, 0x07#8]] = [0x52, 0x9D, 0xCF] := by
  decide +kernel
/-- FIPS 180-4: the digest of "abc", first eight bytes. -/
theorem test_sha256_abc :
    (sha256 (ascii "abc")).take 8 = [0xBA#8, 0x78#8, 0x16#8, 0xBF#8, 0x8F#8, 0x01#8, 0xCF#8, 0xEA#8] := by decide +kernel
/-- FIPS 197, appendix C.1. -/
theorem test_aes128 :
    aes128 ((List.range 16).map fun i => BitVec.ofNat 8 i) ((List.range 16).map fun i => BitVec.ofNat 8 (17 * i)) =
      [0x69#8, 0xC4#8, 0xE0#8, 0xD8#8, 0x6A#8, 0x7B#8, 0x04#8, 0x30#8, 0xD8#8, 0xCD#8, 0xB7#8, 0x80#8, 0x70#8, 0xB4#8, 0xC5#8, 0x5A#8] := by
  decide +kernel
/-- The fixed supply object of 5 V and 3.00 A (R191): 100 units of 50 mV in bits 19:10 and 300 of 10 mA in bits 9:0. -/
theorem test_fixed_object : (fixedPdo 5000 3000).toNat % 2 ^ 20 = 100 * 2 ^ 10 + 300 := by decide +kernel
/-- No row of the operation table has bits, so no word spells a command (R1 and the table's header). -/
theorem test_no_word_spells : decodeTableWord 32 0 = none := by decide
/-- The straps of address 5, position 2 of a chain (R52): the part answers at 0x65. -/
theorem test_strap_latch :
    completes (exec (.strapLatch 7#3 0#3 7#3 0#3 7#3 0#3) State.reset) = true ∧
    (outState (exec (.strapLatch 7#3 0#3 7#3 0#3 7#3 0#3) State.reset) State.reset).get F.SYS_STRAP_I2C_ADDR = 0x65 ∧
    (outState (exec (.strapLatch 7#3 0#3 7#3 0#3 7#3 0#3) State.reset) State.reset).get F.SYS_STRAP_CHAIN_POS = 2 := by
  decide +kernel
/-- The alarm time is 64 bits: the held low word joins the high word (R567). -/
theorem test_alarm_time :
    ((outState (exec (.alarmSetTime 1#32) (outState (exec (.alarmAtlWrite 2#32) State.reset) State.reset)) State.reset).alarm 0).time =
      0x100000002 := by decide +kernel
/-- An empty queue lets one frame of 1,024 cycles pass (log entry 2). -/
theorem test_idle_step : step State.reset = .next { State.reset with now := 1024 } := rfl

/-- A frame's parts are read back from it. -/
theorem frameOf_parts (top mac : Nat) (ht : top < 2 ^ 64) (hm : mac < 2 ^ 32) :
    (frameOf top mac).toNat = top * 2 ^ 32 + mac ∧ frameTop (frameOf top mac) = top := by
  have h : (frameOf top mac).toNat = top * 2 ^ 32 + mac := by
    unfold frameOf; rw [BitVec.toNat_ofNat]; omega
  refine ⟨h, ?_⟩
  unfold frameTop; rw [h]; omega
/-- A number of n bytes lies below 256^n. -/
theorem leNat_lt : ∀ l : List Byte, leNat l < 256 ^ l.length
  | [] => by decide
  | b :: l => by
    have hb := b.isLt
    have hl := leNat_lt l
    simp only [leNat, List.length_cons, Nat.pow_succ]
    omega
/-- A MAC has 32 bits. -/
theorem linkMac_lt (s : State) (key : List Byte) (cyc : Option Nat) (top : Nat) : s.linkMac key cyc top < 2 ^ 32 := by
  have h : ∀ l : List Byte, beNat (l.take 4) < 2 ^ 32 := fun l => by
    refine Nat.lt_of_lt_of_le (leNat_lt _) ?_
    rw [List.length_reverse, List.length_take]
    exact Nat.pow_le_pow_right (n := 256) (by decide) (Nat.min_le_left 4 l.length)
  exact h _

/-- A flash that lists nothing holds no record in any slot. -/
theorem newestOf_empty (s : State) (h : s.flash = []) (magic n : Nat) (base : Nat → Nat) (key : List Byte → Nat)
    (hm : magic ≠ 0xFFFFFFFF) : s.newestOf magic n base key = none := by
  have hr : ∀ a, leAt (s.flashRead a 4) 0 4 = 0xFFFFFFFF := fun a => by
    rw [State.flashRead, h, show bankReadList erased [] a 4 = [0xFF#8, 0xFF#8, 0xFF#8, 0xFF#8] from rfl]; decide +kernel
  unfold State.newestOf
  generalize List.range n = l
  induction l with
  | nil => rfl
  | cons x l ih => rw [List.foldl_cons, if_neg (by rw [hr]; exact hm.symm)]; exact ih

def wit_compareStrobe1 : State :=
  let s := State.reset
  let s : State := s.put (F.CMP_CFG_EN 5) true
  { s with tbZero := some 0, tmb := {} }
def wit_alarmSetTime1 : State :=
  let s := State.reset
  { s with tmb := {} }
def wit_alarmSetTime2 : State :=
  let s := State.reset
  let s : State := { s with tmb := {} }
  s.modAlarm s.selAlarm fun x => { x with en := true, time := 2 ^ 63 }
def wit_alarmFire1 : State :=
  let s := State.reset
  let s : State := { s with tbZero := some 0 }
  s.modAlarm 5 fun x => { x with en := true, time := 2 ^ 63 }
def wit_timerTick1 : State :=
  let s := State.reset
  let s : State := s.modTmr 3 fun _ => { cnt := 1, top := 5, run := true }
  s.setWord (F.TMR_CFG_CSRC 3).reg 0
def wit_timerTick2 : State :=
  let s := State.reset
  let s : State := s.modTmr 3 fun _ => { cnt := 5, top := 5, run := true }
  s.setWord (F.TMR_CFG_CSRC 3).reg 0
/-- The conditions of each clause of CompareChannelsAlarmsAndTimersAct can be met. -/
theorem test_met_CompareChannelsAlarmsAndTimersAct :
    (∃ (s : State) (c : Fin 48), s.tbZero ≠ none ∧ s.has (F.CMP_CFG_EN c.val) = true ∧ ((List.range 16).all (fun i =>
      !(s.tmr i).run) = true)) ∧
    (∃ (s : State), (s.alarm s.selAlarm).en = false) ∧
    (∃ (s : State), (s.alarm s.selAlarm).en = true ∧ (s.alarm s.selAlarm).time ≠ s.tb) ∧
    (∃ (s : State) (a : Fin 32), s.tbZero ≠ none ∧ (s.alarm a.val).en = true) ∧
    (∃ (s : State) (n : Fin 16), s.get (F.TMR_CFG_CSRC n.val) ≠ 1 ∧ s.get (F.TMR_CFG_CSRC n.val) ≠ 2 ∧ (s.tmr n.val).run =
      true ∧ s.tmrGate n.val = true ∧ (s.tmr n.val).cnt < (s.tmr n.val).top) ∧
    (∃ (s : State) (n : Fin 16), s.get (F.TMR_CFG_CSRC n.val) ≠ 1 ∧ s.get (F.TMR_CFG_CSRC n.val) ≠ 2 ∧ (s.tmr n.val).run =
      true ∧ s.tmrGate n.val = true ∧ (s.tmr n.val).cnt = (s.tmr n.val).top) :=
  ⟨⟨wit_compareStrobe1, 5, by decide +kernel⟩,
   ⟨wit_alarmSetTime1, by decide +kernel⟩,
   ⟨wit_alarmSetTime2, by decide +kernel⟩,
   ⟨wit_alarmFire1, 5, by decide +kernel⟩,
   ⟨wit_timerTick1, 3, by decide +kernel⟩,
   ⟨wit_timerTick2, 3, by decide +kernel⟩⟩

def wit_crcInit1 : State :=
  let s := State.reset
  s.set (F.CRC_STATUS_OWNER 1) 0x1F
def wit_crcFeed1 : State :=
  let s := State.reset
  let s : State := s.set (F.CRC_STATUS_OWNER 1) 3
  let s : State := s.put (F.CRC_STATUS_BUSY 1) false
  s.setWord (R.CRC_CFG 1) 0
def wit_crcFeed2 : State :=
  let s := State.reset
  s.put (F.CRC_STATUS_BUSY 1) true
def wit_crcBlock1 : State :=
  let s := State.reset
  let s : State := s.set (F.CRC_STATUS_OWNER 1) 3
  s.put (F.CRC_STATUS_BUSY 1) false
def wit_crcBlockComplete1 : State :=
  let s := State.reset
  let s : State := s.put (F.CRC_STATUS_BUSY 1) true
  let s : State := s.setWord (R.CRC_CFG 1) 0
  s.setWord (R.CRC_BLKL 1) 4
def wit_crcCtxRestore1 : State :=
  let s := State.reset
  let s : State := s.set (F.CRC_STATUS_OWNER 1) 3
  s.put (F.CRC_STATUS_BUSY 1) false
/-- The conditions of each clause of CheckValueUnitsComputeAndRefuse can be met. -/
theorem test_met_CheckValueUnitsComputeAndRefuse :
    (∃ (s : State) (u : Fin 4) (writer : Fin 17) (w : Word), s.crcForeign u.val writer.val = false ∧ w.getLsbD 31 = true) ∧
    (∃ (s : State) (u : Fin 4) (writer : Fin 17), s.crcBars u.val writer.val = false ∧ s.get (F.CRC_CFG_FOLD_MODE u.val) =
      0) ∧
    (∃ (s : State) (u : Fin 4) (writer : Fin 17), s.crcBars u.val writer.val = true) ∧
    (∃ (s : State) (u : Fin 4) (writer : Fin 17) (w : Word), s.crcForeign u.val writer.val = false ∧ s.has
      (F.CRC_STATUS_BUSY u.val) = false ∧ w.getLsbD 31 = true ∧ w.toNat % 2 ^ 16 ≠ 0) ∧
    (∃ (s : State) (u : Fin 4), s.has (F.CRC_STATUS_BUSY u.val) = true ∧ s.get (F.CRC_BLKL_MODE u.val) = 0 ∧ s.get
      (F.CRC_CFG_FOLD_MODE u.val) = 0 ∧ s.get (F.CRC_BLKL_LEN u.val) ≠ 0) ∧
    (∃ (s : State) (u : Fin 4) (writer : Fin 17), s.crcBars u.val writer.val = false) :=
  ⟨⟨wit_crcInit1, 1, 3, 0x80000000#32, by decide +kernel⟩,
   ⟨wit_crcFeed1, 1, 3, by decide +kernel⟩,
   ⟨wit_crcFeed2, 1, 3, by decide +kernel⟩,
   ⟨wit_crcBlock1, 1, 3, 0x80000004#32, by decide +kernel⟩,
   ⟨wit_crcBlockComplete1, 1, by decide +kernel⟩,
   ⟨wit_crcCtxRestore1, 1, 3, by decide +kernel⟩⟩

def wit_supplyStartupStep1 : State :=
  let s := State.reset
  { s with bus := { s.bus with step := 1 } }
def wit_supplyStartupStep2 : State :=
  let s := State.reset
  { s with bus := { s.bus with step := 3 } }
/-- The conditions of each clause of ResetsAndSupplyStartBootAnew can be met. -/
theorem test_met_ResetsAndSupplyStartBootAnew :
    (∃ (s : State), (s.bus.step = 1 ∨ s.bus.step = 2)) ∧
    (∃ (s : State), s.bus.step = 3) :=
  ⟨⟨wit_supplyStartupStep1, by decide +kernel⟩,
   ⟨wit_supplyStartupStep2, by decide +kernel⟩⟩

def wit_strapLatch1 : State :=
  let s := State.reset
  let s : State := s.set F.SYS_STATE_STATE 0
  { s with boot := { s.boot with step := 0, latched := false }, bus := { s.bus with step := 5 } }
def wit_clockCheckTimeout1 : State :=
  let s := State.reset
  let s : State := s.arm .clockCheck 3
  s.set F.SYS_STATE_STATE 0
def wit_rootLock1 : State :=
  let s := State.reset
  let s : State := s.set F.SYS_STATE_STATE 0
  { s with boot := { s.boot with step := 0 }, bus := { s.bus with step := 5 } }
def wit_otpBootRead1 : State :=
  let s := State.reset
  let s : State := s.set F.SYS_STATE_STATE 0
  { s with boot := { s.boot with step := 2, latched := true }, bus := { s.bus with step := 5 } }
def wit_slotTableRead1 : State :=
  let s := State.reset
  let s : State := s.set F.SYS_STATE_STATE 0
  { s with boot := { s.boot with step := 3 }, bus := { s.bus with step := 5 } }
def wit_slotTableRead2 : State :=
  let s := State.reset
  let s : State := s.set F.SYS_STATE_STATE 0
  let s : State := { s with boot := { s.boot with step := 3 }, bus := { s.bus with step := 5 }, flash := [] }
  s.flashProgram (tableBase 0) (SlotTab.bytes { gen := 3 })
def wit_firmwareSlotVerify1 : State :=
  let s := State.reset
  let s : State := s.set F.SYS_STATE_STATE 0
  { s with boot := { s.boot with step := 4, fwTry := 0, tab := {}, tabOld := {} }, bus := { s.bus with step := 5 } }
def wit_firmwareSlotVerify2 : State :=
  let s := State.reset
  let s : State := s.set F.SYS_STATE_STATE 0
  { s with boot := { s.boot with step := 4, fwTry := 0, tab := { fwA := 0x5A }, tabOld := {} }, bus := { s.bus with step := 5 }, flash := [] }
def wit_firmwareSlotVerify3 : State :=
  let s := State.reset
  let s : State := s.set F.SYS_STATE_STATE 0
  let s : State := { s with boot := { s.boot with step := 4, fwTry := 0, tab := { fwA := 0xA5, fwLenA := 0x500 }, tabOld := {} }, bus := { s.bus with step := 5 } }
  let s : State := { s with sec := { s.sec with force := testFwKeyWords }, otp := [], flash := [] }
  { s.setWord R.OTP_STATUS 0 with flash := testFlash (fwBase 0) testFwImage }
/-- The flash of `testFlash` reads back any run of its bytes. -/
theorem testFlash_readList (d : Nat → Byte) (bs : List Byte) (a n : Nat) (h : n ≤ bs.length) :
    bankReadList d (testFlash a bs) a n = bs.take n := by
  induction bs generalizing a n with
  | nil => obtain rfl : n = 0 := by simpa using h
           rfl
  | cons b bs ih =>
    cases n with
    | zero => rfl
    | succ n =>
      have := ih (a + 1) n (by simpa using h)
      simp only [bankReadList, List.take_succ_cons, List.range_succ_eq_map, List.map_cons, List.map_map] at this ⊢
      rw [← this]
      simp only [testFlash, bankRead, Nat.add_zero, if_true, List.cons.injEq, true_and]
      refine List.map_congr_left fun i _ => ?_
      simp only [Function.comp, Nat.succ_eq_add_one]
      rw [if_neg (by omega)]
      congr 1; omega
theorem testFlash_read (d : Nat → Byte) (bs : List Byte) (a i n : Nat) (h : i + n ≤ bs.length) :
    bankReadList d (testFlash a bs) (a + i) n = (bs.drop i).take n := by
  induction i generalizing bs a with
  | zero => simpa using testFlash_readList d bs a n (by omega)
  | succ i ih =>
    cases bs with
    | nil => simp at h
    | cons b bs =>
      have e : a + (i + 1) = a + 1 + i := by omega
      have := ih bs (a + 1) (by simp at h; omega)
      rw [e, List.drop_succ_cons, ← this]
      simp only [bankReadList, testFlash, bankRead]
      refine List.map_congr_left fun j _ => ?_
      rw [if_neg (by omega)]
/-- The firmware checks pass where what they read has the right parts. -/
theorem fwChecks_passed {s : State} {base len : Nat} {hdr key sig boot : List Byte} (h1 : s.flashRead base 0x400 = hdr)
    (h2 : s.flashRead (base + len - 128) 64 = key) (h3 : s.flashRead (base + len - 64) 64 = sig)
    (h4 : s.flashRead (base + leAt hdr 0x20 4) (leAt hdr 0x24 4) = boot) (f1 : fwForm hdr len = true)
    (f2 : hdrCrcOk hdr 0x400 = true) (f3 : s.fwKeyOk hdr = true) (f4 : sha256 key = s.otpDigest (0x24 + 8 * leAt hdr 0x0D 1))
    (f5 : ecdsaVerify key (sha256 (hdr ++ key)) sig = true) (f6 : s.fwSvnOk hdr = true)
    (f7 : sha256 boot = (hdr.drop 0x28).take 32) : s.fwChecks base len 0 = 1 := by
  simp [State.fwChecks, h1, h2, h3, h4, f1, f2, f3, f4, f5, f6, f7]

set_option maxRecDepth 1000000 in
/-- The image of `testFwImage` passes every check of a firmware slot. -/
theorem fw_met : wit_firmwareSlotVerify3.fwChecks (fwBase 0) (wit_firmwareSlotVerify3.boot.tab.fwLen 0) 0 = 1 :=
  fwChecks_passed (testFlash_readList _ testFwImage _ _ (by decide +kernel)) (testFlash_read _ testFwImage (fwBase 0) 0x480 64 (by decide +kernel))
    (testFlash_read _ testFwImage (fwBase 0) 0x4C0 64 (by decide +kernel))
    (testFlash_read _ testFwImage (fwBase 0) 0x400 4 (by decide +kernel))
    (by decide +kernel) (by decide +kernel) (by decide +kernel) (by decide +kernel) (by decide +kernel) (by decide +kernel) (by decide +kernel)

def wit_romBootGuardJudge1 : State :=
  let s := State.reset
  let s : State := s.set F.SYS_STATE_STATE 0
  { s with boot := { s.boot with step := 5 }, bus := { s.bus with step := 5, sinkPresent := false }, env := { s.env with vinOk := false } }
def wit_romBootGuardJudge2 : State :=
  let s := State.reset
  let s : State := s.set F.SYS_STATE_STATE 0
  { s with boot := { s.boot with step := 5 }, bus := { s.bus with step := 5 }, env := { s.env with vinOk := true } }
/-- The conditions of each clause of RomBootStepsAct can be met. -/
theorem test_met_RomBootStepsAct :
    (∃ (s : State), s.romAt 0 = true ∧ s.boot.latched = false) ∧
    (∃ (s : State), s.armed .clockCheck = true ∧ s.isIn .deepWinter = false) ∧
    (∃ (s : State) (selftestOk : Bool), s.romAt 0 = true ∧ selftestOk = true) ∧
    (∃ (s : State), s.romAt 2 = true ∧ s.boot.latched = true) ∧
    (∃ (s : State) (sfdpOk : Bool) (mbit : Nat), s.romAt 3 = true ∧ (sfdpOk = false ∨ mbit < 128)) ∧
    (∃ (s : State) (sfdpOk : Bool) (mbit : Nat) (c : Nat × SlotTab × Bool), s.romAt 3 = true ∧ sfdpOk = true ∧ 128 ≤ mbit
      ∧ s.chooseTable = some c ∧ c.2.1.recovery ≠ 0x5A) ∧
    (∃ (s : State), s.romAt 4 = true ∧ s.boot.fwTry = 0 ∧ s.boot.tabOld.fwFirst = 0 ∧ s.boot.tab.fwState 0 = 0xFF ∧
      slotGood ≠ 0xFF) ∧
    (∃ (s : State) (readErr : Nat), s.romAt 4 = true ∧ s.boot.fwTry = 0 ∧ s.boot.tabOld.fwFirst = 0 ∧ s.boot.tab.fwState 0
      = slotPending ∧ s.fwChecks (fwBase 0) (s.boot.tab.fwLen 0) readErr ≠ 1 ∧ s.fwChecks (fwBase 0) (s.boot.tab.fwLen 0)
      readErr ≠ 0xE) ∧
    (∃ (s : State) (readErr : Nat), s.romAt 4 = true ∧ s.boot.fwTry = 0 ∧ s.boot.tabOld.fwFirst = 0 ∧ s.boot.tab.fwState 0
      = slotGood ∧ s.fwChecks (fwBase 0) (s.boot.tab.fwLen 0) readErr = 1) ∧
    (∃ (s : State), s.romAt 5 = true ∧ s.env.vinOk = false ∧ s.bus.sinkPresent = false) ∧
    (∃ (s : State), s.romAt 5 = true ∧ s.env.vinOk = true) :=
  ⟨⟨wit_strapLatch1, by decide +kernel⟩,
   ⟨wit_clockCheckTimeout1, by decide +kernel⟩,
   ⟨wit_rootLock1, true, by decide +kernel⟩,
   ⟨wit_otpBootRead1, by decide +kernel⟩,
   ⟨wit_slotTableRead1, false, 256, by decide +kernel⟩,
   ⟨wit_slotTableRead2, true, 256, (0, { gen := 3 }, true), by decide +kernel⟩,
   ⟨wit_firmwareSlotVerify1, by decide +kernel⟩,
   ⟨wit_firmwareSlotVerify2, 0, by decide +kernel⟩,
   ⟨wit_firmwareSlotVerify3, 0, by decide +kernel, by decide +kernel, by decide +kernel, by decide +kernel, fw_met⟩,
   ⟨wit_romBootGuardJudge1, by decide +kernel⟩,
   ⟨wit_romBootGuardJudge2, by decide +kernel⟩⟩

def wit_configRead1 : State :=
  let s := State.reset
  let s : State := s.set F.SYS_STATE_STATE 1
  { s with boot := { s.boot with step := 1, tab := {}, tabOld := {}, found := [], rejects := 0, trials := 0 } }
def wit_configRead2 : State :=
  let s := State.reset
  let s : State := s.set F.SYS_STATE_STATE 1
  let s : State := { s with boot := { s.boot with step := 1, tab := { cfgA := slotGood, cfgLenA := 0xe4 }, tabOld := {}, found := [], rejects := 0, trials := 0 }, sec := { s.sec with cfgSign := false, force := [] } }
  { s with flash := testFlash (cfgBase 0) testCfgImage }
def wit_engineLoad1 : State :=
  let s := State.reset
  let s : State := s.set F.SYS_STATE_STATE 1
  { s with boot := { s.boot with step := 2, fwHdr := List.replicate 0x58 0#8 ++ sha256 [] } }
def wit_protectionSetup1 : State :=
  let s := State.reset
  let s : State := s.set F.SYS_STATE_STATE 1
  let s : State := s.put F.BOOT_STATUS_ENG_FAIL false
  let s : State := s.put F.PROT_STATUS_SEALED false
  let s : State := s.arm .sealTimer 9
  { s with boot := { s.boot with step := 3, builtin := false, disabled := 8 }, island := { s.island with offTested := false } }
def wit_protSeal1 : State :=
  let s := State.reset
  let s : State := s.set F.SYS_STATE_STATE 1
  let s : State := s.put F.PROT_STATUS_SEALED false
  { s with boot := { s.boot with step := 3 } }
def wit_protSeal2 : State :=
  State.reset
set_option maxRecDepth 1000000 in
/-- The conditions of each clause of SpringLoadsAndSeals can be met. -/
theorem test_met_SpringLoadsAndSeals :
    (∃ (s : State), s.springAtStep 1 = true ∧ s.boot.tab.cfgState 0 = slotEmpty ∧ s.boot.tab.cfgState 1 = slotEmpty ∧
      s.boot.found = [] ∧ s.boot.rejects = 0 ∧ s.boot.trials = 0) ∧
    (∃ (s : State) (errA : Bool), s.springAtStep 1 = true ∧ s.boot.tabOld.cfgFirst = 0 ∧ (s.tryCfg 0 errA).1 = 1) ∧
    (∃ (s : State), s.springAtStep 2 = true ∧ (((if s.isIn .spring then [0] else []) ++ s.loadOrder).all (fun e =>
      s.sectionOk (fwBase (s.get F.BOOT_STATUS_FW_SLOT)) s.boot.fwHdr e) = true) ∧ s.isIn .offSeason = false ∧
      s.engineSkipped 9 = true) ∧
    (∃ (s : State) (readBackOk : Bool) (followWinter : Bool) (followIsl : Bool), s.springAtStep 3 = true ∧ s.has
      F.BOOT_STATUS_ENG_FAIL = false ∧ s.has F.PROT_STATUS_SEALED = false ∧ s.armed .sealTimer = true ∧ s.island.offTested =
      false ∧ readBackOk = true ∧ followWinter = true ∧ followIsl = true ∧ s.boot.builtin = false ∧ s.linkOn = false) ∧
    (∃ (s : State) (w : Word), w.toNat % 65536 = 0x5EA1 ∧ s.springAtStep 3 = true ∧ s.has F.PROT_STATUS_SEALED = false) ∧
    (∃ (s : State) (w : Word), (w.toNat % 65536 ≠ 0x5EA1 ∨ s.has F.PROT_STATUS_SEALED = true)) :=
  ⟨⟨wit_configRead1, by decide +kernel⟩,
   ⟨wit_configRead2, false, by decide +kernel⟩,
   ⟨wit_engineLoad1, by decide +kernel⟩,
   ⟨wit_protectionSetup1, true, true, true, by decide +kernel⟩,
   ⟨wit_protSeal1, 0x5EA1#32, by decide +kernel⟩,
   ⟨wit_protSeal2, 0#32, by decide +kernel⟩⟩

def wit_slotTableWrite1 : State :=
  let s := State.reset
  let s : State := s.set F.SYS_STATE_STATE 1
  { s with boot := { s.boot with step := 3, tabTried := false, tab := { fwLenA := 4096 }, tabOld := {} }, ffl := { s.ffl with due := [] } }
def wit_slotTableWrite2 : State :=
  let s := State.reset
  let s : State := s.set F.SYS_STATE_STATE 1
  let s : State := { s with boot := { s.boot with step := 3, tabTried := false, tab := { fwLenA := 4096 }, tabOld := {} }, ffl := { s.ffl with due := [] } }
  s.put (F.FLT_ESC_DIS 0x2A) true
def wit_lifeRecordAppend1 : State :=
  let s := State.reset
  let s : State := s.set F.SYS_STATE_STATE 2
  { s with boot := { s.boot with lifeDue := some 7, lifeTries := 0, lifeNext := 5, lifeErased := true }, ffl := { s.ffl with due := [] }, flash := [] }
def wit_lifeRecordAppend2 : State :=
  let s := State.reset
  let s : State := s.set F.SYS_STATE_STATE 2
  let s : State := { s with boot := { s.boot with lifeDue := some 7, lifeTries := 0, lifeNext := 5, lifeErased := true }, ffl := { s.ffl with due := [] }, flash := [] }
  s.put (F.FLT_ESC_DIS 0x2A) true
def wit_lifeRecordRetry1 : State :=
  let s := State.reset
  let s : State := s.set F.SYS_STATE_STATE 2
  let s : State := { s with boot := { s.boot with lifeDue := some 7, lifeTries := 0, lifeNext := 5, lifeErased := true }, ffl := { s.ffl with due := [] }, flash := [] }
  s.arm .lifeRetry 3
def wit_lifeRecordRetry2 : State :=
  let s := State.reset
  let s : State := s.set F.SYS_STATE_STATE 2
  let s : State := { s with boot := { s.boot with lifeDue := some 7, lifeTries := 0, lifeNext := 5, lifeErased := true }, ffl := { s.ffl with due := [] }, flash := [] }
  let s : State := s.arm .lifeRetry 3
  s.put (F.FLT_ESC_DIS 0x2A) true
def wit_sessionCeilingRaise1 : State :=
  let s := State.reset
  let s : State := s.set F.SYS_STATE_STATE 2
  let s : State := { s with boot := { s.boot with lifeDue := some 7, lifeTries := 0, lifeNext := 5, lifeErased := true }, ffl := { s.ffl with due := [] }, flash := [] }
  { s with boot := { s.boot with marks := [], marksDue := [(3, 4096)] } }
def wit_sessionCeilingRaise2 : State :=
  let s := State.reset
  s.set F.SYS_STATE_STATE 0
def wit_lifeHourElapsed1 : State :=
  let s := State.reset
  s.arm .lifeHour 3
def wit_lifeSectorErase1 : State :=
  let s := State.reset
  let s : State := s.set F.SYS_STATE_STATE 2
  let s : State := { s with boot := { s.boot with lifeErase := some 3 }, ffl := { s.ffl with due := [] } }
  s.put (F.FLT_ESC_DIS 0x2A) true
def wit_lifeSectorErase2 : State :=
  let s := State.reset
  let s : State := s.set F.SYS_STATE_STATE 2
  { s with boot := { s.boot with lifeErase := some 3 }, ffl := { s.ffl with due := [] } }
def wit_springLimitExpired1 : State :=
  let s := State.reset
  let s : State := s.set F.SYS_STATE_STATE 1
  let s : State := { s with now := 0 }
  s.arm .springLimit 3
def wit_winterHoldElapsed1 : State :=
  let s := State.reset
  let s : State := s.arm .winterHold 3
  let s : State := s.set F.SYS_STATE_STATE 4
  let s : State := s.set F.SYS_STATE_CFG_WINTER_HOLD 5
  let s : State := s.set F.SYS_STATE_WRST_CNT 0
  let s : State := s.set F.SYS_STATE_CFG_WINTER_RETRY 3
  { s with island := { s.island with held00A := false } }
def wit_summerHourElapsed1 : State :=
  let s := State.reset
  let s : State := s.arm .summerHour 3
  s.set F.SYS_STATE_WRST_CNT 2
/-- The conditions of each clause of LifeRecordsAndDeviceLimitsAct can be met. -/
theorem test_met_LifeRecordsAndDeviceLimitsAct :
    (∃ (s : State), s.isAny [.spring, .summer, .winter, .offSeason] = true ∧ 3 ≤ s.boot.step ∧ s.boot.tabTried = false ∧
      s.flashFree = true ∧ s.boot.tab ≠ s.boot.tabOld) ∧
    (∃ (s : State), s.isAny [.spring, .summer, .winter, .offSeason] = true ∧ 3 ≤ s.boot.step ∧ s.boot.tabTried = false ∧
      s.flashFree = true ∧ s.boot.tab ≠ s.boot.tabOld ∧ s.calm 0x2A = true) ∧
    (∃ (s : State) (n : Nat), s.logsWritten = true ∧ s.flashFree = true ∧ s.boot.lifeDue = some n ∧ s.boot.lifeTries < 3 ∧
      s.boot.lifeErased = true ∧ s.flashRead (lifeSlotBase s.boot.lifeNext) 1024 = List.replicate 1024 0xFF#8) ∧
    (∃ (s : State) (n : Nat), s.logsWritten = true ∧ s.flashFree = true ∧ s.boot.lifeDue = some n ∧ s.boot.lifeTries < 2 ∧
      s.calm 0x2A = true) ∧
    (∃ (s : State) (n : Nat), s.logsWritten = true ∧ s.flashFree = true ∧ s.armed .lifeRetry = true ∧ s.boot.lifeDue =
      some n ∧ s.boot.lifeErased = true ∧ s.flashRead (lifeSlotBase s.boot.lifeNext) 1024 = List.replicate 1024 0xFF#8) ∧
    (∃ (s : State) (n : Nat), s.logsWritten = true ∧ s.flashFree = true ∧ s.armed .lifeRetry = true ∧ s.boot.lifeDue =
      some n ∧ s.has (F.FLT_ESC_DIS 0x2A) = true) ∧
    (∃ (s : State) (session : Nat) (n : Nat), s.logsWritten = true ∧ s.flashFree = true ∧ s.boot.lifeDue = some n ∧
      sessionVal s.boot.marks session < sessionVal s.boot.marksDue session) ∧
    (∃ (s : State), s.logsWritten = false) ∧
    (∃ (s : State), s.armed .lifeHour = true) ∧
    (∃ (s : State) (c : Nat), s.logsWritten = true ∧ s.flashFree = true ∧ s.boot.lifeErase = some c ∧ s.calm 0x2A = true) ∧
    (∃ (s : State) (c : Nat), s.logsWritten = true ∧ s.flashFree = true ∧ s.boot.lifeErase = some c) ∧
    (∃ (s : State), s.isIn .spring = true ∧ s.armed .springLimit = true ∧ s.upd.paused = false) ∧
    (∃ (s : State), s.armed .winterHold = true ∧ s.isIn .winter = true ∧ s.get F.SYS_STATE_CFG_WINTER_HOLD ≠ 0 ∧
      s.island.held00A = false ∧ s.get F.SYS_STATE_WRST_CNT < s.get F.SYS_STATE_CFG_WINTER_RETRY) ∧
    (∃ (s : State), s.armed .summerHour = true) :=
  ⟨⟨wit_slotTableWrite1, by decide +kernel⟩,
   ⟨wit_slotTableWrite2, by decide +kernel⟩,
   ⟨wit_lifeRecordAppend1, 7, by decide +kernel⟩,
   ⟨wit_lifeRecordAppend2, 7, by decide +kernel⟩,
   ⟨wit_lifeRecordRetry1, 7, by decide +kernel⟩,
   ⟨wit_lifeRecordRetry2, 7, by decide +kernel⟩,
   ⟨wit_sessionCeilingRaise1, 3, 7, by decide +kernel⟩,
   ⟨wit_sessionCeilingRaise2, by decide +kernel⟩,
   ⟨wit_lifeHourElapsed1, by decide +kernel⟩,
   ⟨wit_lifeSectorErase1, 3, by decide +kernel⟩,
   ⟨wit_lifeSectorErase2, 3, by decide +kernel⟩,
   ⟨wit_springLimitExpired1, by decide +kernel⟩,
   ⟨wit_winterHoldElapsed1, by decide +kernel⟩,
   ⟨wit_summerHourElapsed1, by decide +kernel⟩⟩

def wit_vinOvpRise1 : State :=
  let s := State.reset
  let s : State := { s with env := { s.env with vinOvp := false } }
  s.put (F.FLT_ESC_DIS 0x20) true
def wit_vinOvpFall1 : State :=
  let s := State.reset
  { s with env := { s.env with vinOvp := true }, bus := { s.bus with isoHold := true } }
def wit_vinOvpPersist1 : State :=
  let s := State.reset
  let s : State := { s with now := 0 }
  s.arm .vinOvp 3
def wit_vinOvpPersist2 : State :=
  let s := State.reset
  let s : State := s.set F.SYS_STATE_STATE 2
  let s : State := { s with upd := { s.upd with paused := false } }
  s.arm .vinOvp 3
def wit_vinOkFall1 : State :=
  let s := State.reset
  { s with env := { s.env with vinOk := true } }
def wit_vinOkRise1 : State :=
  let s := State.reset
  let s : State := { s with env := { s.env with vinOk := false } }
  s.set F.SYS_STATE_STATE 2
def wit_vinOkRise2 : State :=
  let s := State.reset
  let s : State := { s with env := { s.env with vinOk := false } }
  s.set F.SYS_STATE_STATE 6
def wit_vdrvDropout1 : State :=
  let s := State.reset
  let s : State := s.set F.SYS_STATE_STATE 2
  s.put F.BUS_STATUS_VDRV_DROP false
/-- The conditions of each clause of SupplyPinsAct can be met. -/
theorem test_met_SupplyPinsAct :
    (∃ (s : State), s.env.vinOvp = false ∧ s.calm 0x20 = true) ∧
    (∃ (s : State), s.env.vinOvp = true) ∧
    (∃ (s : State) (d : Nat), s.deadline .vinOvp = some d) ∧
    (∃ (s : State), s.armed .vinOvp = true ∧ s.isAny [.spring, .summer] = true ∧ s.upd.paused = false) ∧
    (∃ (s : State), s.env.vinOk = true) ∧
    (∃ (s : State), s.env.vinOk = false ∧ s.isIn .offSeason = false) ∧
    (∃ (s : State), s.env.vinOk = false ∧ s.isIn .offSeason = true) ∧
    (∃ (s : State), s.has F.BUS_STATUS_VDRV_DROP = false ∧ s.isAny [.romBoot, .deepWinter] = false) :=
  ⟨⟨wit_vinOvpRise1, by decide +kernel⟩,
   ⟨wit_vinOvpFall1, by decide +kernel⟩,
   ⟨wit_vinOvpPersist1, 3, by decide +kernel⟩,
   ⟨wit_vinOvpPersist2, by decide +kernel⟩,
   ⟨wit_vinOkFall1, by decide +kernel⟩,
   ⟨wit_vinOkRise1, by decide +kernel⟩,
   ⟨wit_vinOkRise2, by decide +kernel⟩,
   ⟨wit_vdrvDropout1, by decide +kernel⟩⟩

def wit_acsnsEdge1 : State :=
  let s := State.reset
  let s : State := s.put F.BUS_CFG_ACSNS_AUTO true
  let s : State := s.set F.BUS_RESERVE_C_BUS 5
  { s with bus := { s.bus with lastEdge := none } }
def wit_acsnsEdge2 : State :=
  let s := State.reset
  let s : State := s.put F.BUS_CFG_ACSNS_AUTO true
  let s : State := s.set F.BUS_RESERVE_C_BUS 5
  let s : State := s.put F.BUS_STATUS_MAINS_LOCK false
  { s with now := 0, bus := { s.bus with lastEdge := some 0, skipNext := false, run50 := 7 } }
def wit_mainsLoss1 : State :=
  let s := State.reset
  let s : State := s.arm .mainsLoss 3
  let s : State := s.put F.BUS_STATUS_MAINS_LOCK true
  { s with bus := { s.bus with lossArmed := true } }
def wit_acsnsLockTimeout1 : State :=
  let s := State.reset
  let s : State := s.arm .acsnsLock 3
  let s : State := s.put F.BUS_CFG_ACSNS_AUTO true
  let s : State := s.set F.BUS_RESERVE_C_BUS 5
  s.put F.BUS_STATUS_MAINS_LOCK false
def wit_mainsReturnTimeout1 : State :=
  let s := State.reset
  let s : State := s.arm .mainsReturn 3
  let s : State := s.set F.SYS_STATE_STATE 3
  let s : State := s.set F.SYS_STATE_PREV 2
  let s : State := s.put F.SYS_STATE_COMMITTED false
  let s : State := { s with bus := { s.bus with cause := 2 } }
  s.put (F.FLT_ESC_DIS 0x20) true
def wit_busJudgement1 : State :=
  let s := State.reset
  let s : State := { s with msr := { s.msr with vinLow := some 1000 } }
  let s : State := s.set F.SYS_STATE_STATE 4
  s.put F.BUS_STATUS_ARMED false
def wit_busJudgement2 : State :=
  let s := State.reset
  let s : State := { s with msr := { s.msr with vinLow := some 1000 } }
  let s : State := s.set F.SYS_STATE_STATE 2
  let s : State := s.put F.BUS_STATUS_ARMED true
  let s : State := s.put F.SYS_STATE_COMMITTED false
  let s : State := s.set F.BUS_THR_COMMIT_MV 40000
  let s : State := s.set (F.SQC_DN_DLY 0) 1
  { s with upd := { s.upd with paused := false }, bus := { s.bus with lowC := 1 } }
def wit_restartWaitElapsed1 : State :=
  let s := State.reset
  let s : State := s.arm .restartWait 3
  let s : State := s.set F.SYS_STATE_STATE 3
  let s : State := s.put F.SYS_STATE_DONE true
  { s with seq := { s.seq with winterDue := none } }
/-- The conditions of each clause of MainsAndRideThroughAct can be met. -/
theorem test_met_MainsAndRideThroughAct :
    (∃ (s : State), s.acsnsOn = true ∧ s.bus.lastEdge = none) ∧
    (∃ (s : State) (dt : Nat) (e : Nat), s.acsnsOn = true ∧ s.bus.lastEdge = some e ∧ s.has F.BUS_STATUS_MAINS_LOCK =
      false ∧ s.bus.skipNext = false ∧ 7 ≤ s.bus.run50 ∧ inWindow false (s.now + dt - e) = true) ∧
    (∃ (s : State), s.armed .mainsLoss = true ∧ s.bus.lossArmed = true ∧ s.has F.BUS_STATUS_MAINS_LOCK = true) ∧
    (∃ (s : State), s.armed .acsnsLock = true ∧ s.acsnsOn = true ∧ s.has F.BUS_STATUS_MAINS_LOCK = false) ∧
    (∃ (s : State), s.armed .mainsReturn = true ∧ s.isIn .autumn = true ∧ s.bus.cause = 2 ∧ s.has F.SYS_STATE_COMMITTED =
      false ∧ s.get F.SYS_STATE_PREV = 2 ∧ s.calm 0x20 = true) ∧
    (∃ (s : State), s.triggersAct = false ∧ s.isIn .spring = false ∧ s.isIn .autumn = false) ∧
    (∃ (s : State), s.isIn .summer = true ∧ s.upd.paused = false ∧ s.triggersAct = true ∧ s.has F.SYS_STATE_COMMITTED =
      false ∧ 1 ≤ s.bus.lowC ∧ s.frameVin < s.get F.BUS_THR_COMMIT_MV) ∧
    (∃ (s : State), s.armed .restartWait = true ∧ s.isIn .autumn = true ∧ s.has F.SYS_STATE_DONE = true ∧ s.seq.winterDue
      = none) :=
  ⟨⟨wit_acsnsEdge1, by decide +kernel⟩,
   ⟨wit_acsnsEdge2, 1000000, 0, by decide +kernel⟩,
   ⟨wit_mainsLoss1, by decide +kernel⟩,
   ⟨wit_acsnsLockTimeout1, by decide +kernel⟩,
   ⟨wit_mainsReturnTimeout1, by decide +kernel⟩,
   ⟨wit_busJudgement1, by decide +kernel⟩,
   ⟨wit_busJudgement2, by decide +kernel⟩,
   ⟨wit_restartWaitElapsed1, by decide +kernel⟩⟩

def wit_clockCrossCheck1 : State :=
  let s := State.reset
  { s with tbZero := some 0 }
def wit_clockCrossCheck2 : State :=
  let s := State.reset
  let s : State := { s with tbZero := some 0 }
  s.set F.SYS_STATE_STATE 2
def wit_clockCrossCheck3 : State :=
  let s := State.reset
  let s : State := s.set F.SYS_STATE_STATE 2
  { s with tbZero := some 0 }
def wit_islandOscCheck1 : State :=
  State.reset
def wit_islandOscCheck2 : State :=
  let s := State.reset
  let s : State := { s with tbZero := some 0 }
  s.set F.SYS_STATE_STATE 0
def wit_lockstepMismatch1 : State :=
  let s := State.reset
  s.set F.SYS_STATE_STATE 2
def wit_watchdogOpenWindow1 : State :=
  let s := State.reset
  s.arm .wdClosed 3
def wit_watchdogPeriodStart1 : State :=
  let s := State.reset
  let s : State := s.arm .wdPeriod 3
  { s with island := { s.island with answered := true } }
def wit_watchdogPeriodStart2 : State :=
  let s := State.reset
  let s : State := s.arm .wdPeriod 3
  let s : State := s.set F.SYS_STATE_STATE 2
  { s with island := { s.island with answered := false } }
def wit_watchdogAnswer1 : State :=
  let s := State.reset
  let s : State := { s with regs := [] }
  let s : State := s.set F.SAF_STATUS_ISTATE 2
  let s : State := s.disarm .wdClosed
  { s with island := { s.island with answered := false } }
def wit_watchdogAnswer2 : State :=
  let s := State.reset
  let s : State := { s with regs := [] }
  s.set F.SAF_STATUS_ISTATE 3
/-- The conditions of each clause of IslandClockAndWatchdogChecksAct can be met. -/
theorem test_met_IslandClockAndWatchdogChecksAct :
    (∃ (s : State) (count : BitVec 10) (strobe : Bool), s.tbZero ≠ none ∧ strobe = true ∧ 295 ≤ count.toNat ∧ count.toNat
      ≤ 360) ∧
    (∃ (s : State) (strobe : Bool), s.tbZero ≠ none ∧ strobe = false ∧ s.isIn .deepWinter = false) ∧
    (∃ (s : State) (count : BitVec 10) (strobe : Bool), s.tbZero ≠ none ∧ strobe = true ∧ (count.toNat < 295 ∨ 360 <
      count.toNat) ∧ s.isIn .deepWinter = false) ∧
    (∃ (s : State) (count : BitVec 10), (s.tbZero = none ∨ (720 ≤ count.toNat ∧ count.toNat ≤ 880))) ∧
    (∃ (s : State) (count : BitVec 10), s.tbZero ≠ none ∧ (count.toNat < 720 ∨ 880 < count.toNat) ∧ s.isIn .romBoot =
      true) ∧
    (∃ (s : State), s.isIn .deepWinter = false) ∧
    (∃ (s : State), s.armed .wdClosed = true) ∧
    (∃ (s : State), s.armed .wdPeriod = true ∧ s.island.answered = true) ∧
    (∃ (s : State), s.armed .wdPeriod = true ∧ s.island.answered = false ∧ s.isIn .deepWinter = false) ∧
    (∃ (s : State) (w : Word), s.get F.SAF_STATUS_ISTATE = 2 ∧ s.wdShut = false ∧ s.island.answered = false ∧ s.wdFault w
      = 0) ∧
    (∃ (s : State) (w : Word), s.get F.SAF_STATUS_ISTATE = 3 ∧ s.wdFault w = 0) :=
  ⟨⟨wit_clockCrossCheck1, 328#10, true, by decide +kernel⟩,
   ⟨wit_clockCrossCheck2, false, by decide +kernel⟩,
   ⟨wit_clockCrossCheck3, 200#10, true, by decide +kernel⟩,
   ⟨wit_islandOscCheck1, 800#10, by decide +kernel⟩,
   ⟨wit_islandOscCheck2, 700#10, by decide +kernel⟩,
   ⟨wit_lockstepMismatch1, by decide +kernel⟩,
   ⟨wit_watchdogOpenWindow1, by decide +kernel⟩,
   ⟨wit_watchdogPeriodStart1, by decide +kernel⟩,
   ⟨wit_watchdogPeriodStart2, by decide +kernel⟩,
   ⟨wit_watchdogAnswer1, (wit_watchdogAnswer1.rightAnswer), by decide +kernel⟩,
   ⟨wit_watchdogAnswer2, (wit_watchdogAnswer2.rightAnswer), by decide +kernel⟩⟩

def wit_bootTimerExpired1 : State :=
  let s := State.reset
  let s : State := s.arm .bootTimer 3
  s.set F.SYS_STATE_STATE 0
def wit_sealTimerExpired1 : State :=
  let s := State.reset
  let s : State := s.arm .sealTimer 3
  s.set F.SYS_STATE_STATE 1
def wit_safHold1 : State :=
  let s := State.reset
  let s : State := s.put F.SYS_STATE_HANDOVER true
  s.set F.SAF_STATUS_ISTATE 2
def wit_holdTimerExpired1 : State :=
  let s := State.reset
  let s : State := s.arm .holdTimer 3
  s.set F.SYS_STATE_STATE 1
def wit_collectorHeartbeatMissing1 : State :=
  let s := State.reset
  s.set F.SYS_STATE_STATE 1
def wit_classifierTest1 : State :=
  let s := State.reset
  { s with island := { s.island with clsWrong := 0 } }
def wit_classifierTest2 : State :=
  let s := State.reset
  let s : State := { s with island := { s.island with clsWrong := 1 } }
  s.set F.SYS_STATE_STATE 1
def wit_engineHeartbeatCheck1 : State :=
  let s := State.reset
  let s : State := s.set F.SYS_STATE_STATE 2
  { s with upd := { s.upd with paused := true }, island := { s.island with hbSame := List.replicate 16 1, hbWords := List.replicate 16 none } }
def wit_engineHeartbeatCheck2 : State :=
  let s := State.reset
  let s : State := s.set F.SYS_STATE_STATE 2
  { s with upd := { s.upd with paused := false }, boot := { s.boot with engRun := 0xFFFF }, island := { s.island with hbSame := List.replicate 16 2, hbWords := List.replicate 16 none } }
def wit_engineHeartbeatCheck3 : State :=
  let s := State.reset
  let s : State := s.set F.SYS_STATE_STATE 2
  let s : State := s.set F.SQC_STATUS_PHASE 2
  { s with upd := { s.upd with paused := false }, boot := { s.boot with engRun := 0xFFFF }, island := { s.island with hbSame := List.replicate 16 2, hbWords := [none, none, none, some 4] ++ List.replicate 12 none } }
def wit_safOfftest1 : State :=
  let s := State.reset
  let s : State := s.arm .sealTimer 3
  { s with island := { s.island with offTested := false } }
def wit_dieTempWarning1 : State :=
  let s := State.reset
  let s : State := s.set F.SYS_STATE_STATE 2
  let s : State := s.set F.SAF_TEMP_WARN 1
  { s with island := { s.island with tempActive := false, tempHot := 31 }, msr := { s.msr with res := [(0x6F, (4001, 0, 0))] } }
def wit_dieTempWarning2 : State :=
  let s := State.reset
  let s : State := s.set F.SYS_STATE_STATE 2
  let s : State := s.set F.SAF_TEMP_WARN 0
  { s with island := { s.island with tempActive := false, tempHot := 30 }, msr := { s.msr with res := [] } }
/-- The conditions of each clause of IslandTimersAndHeartbeatsAct can be met. -/
theorem test_met_IslandTimersAndHeartbeatsAct :
    (∃ (s : State), s.armed .bootTimer = true ∧ s.isIn .deepWinter = false) ∧
    (∃ (s : State), s.armed .sealTimer = true ∧ s.isIn .deepWinter = false) ∧
    (∃ (s : State), s.has F.SYS_STATE_HANDOVER = true ∧ s.get F.SAF_STATUS_ISTATE = 2) ∧
    (∃ (s : State), s.armed .holdTimer = true ∧ s.isIn .deepWinter = false) ∧
    (∃ (s : State), s.isIn .deepWinter = false) ∧
    (∃ (s : State) (right : Bool), (right = true ∨ s.island.clsWrong ≠ 1)) ∧
    (∃ (s : State) (right : Bool), right = false ∧ s.island.clsWrong = 1 ∧ s.isIn .deepWinter = false) ∧
    (∃ (s : State), s.isAny [.romBoot, .deepWinter, .romRecovery] = false ∧ s.upd.paused = true ∧ s.island.hbSame.length =
      16 ∧ s.island.hbWords.length = 16) ∧
    (∃ (s : State) (words : List Word), s.isAny [.romBoot, .deepWinter, .romRecovery] = false ∧ s.upd.paused = false ∧
      s.island.hbSame.length = 16 ∧ s.island.hbWords.length = 16 ∧ ((List.range 16).all (fun e => !s.engine e ||
      s.island.hbWords.getD e none != some (words.getD e 0#32)) = true)) ∧
    (∃ (s : State) (words : List Word) (e : Nat), s.isAny [.romBoot, .deepWinter, .romRecovery] = false ∧ s.upd.paused =
      false ∧ s.island.hbSame.length = 16 ∧ s.island.hbWords.length = 16 ∧ 1 ≤ e ∧ e < 16 ∧ s.phase ≠ 3 ∧ s.engine e = true
      ∧ s.island.hbWords.getD e none = some (words.getD e 0#32) ∧ s.island.hbSame.getD e 0 = 2 ∧ ((List.range 16).all (fun i
      => i == e || !s.engine i || s.island.hbWords.getD i none != some (words.getD i 0#32)) = true)) ∧
    (∃ (s : State) (follow : Bool), s.armed .sealTimer = true ∧ s.island.offTested = false ∧ follow = true) ∧
    (∃ (s : State), s.isAny [.romBoot, .deepWinter] = false ∧ s.island.tempActive = false ∧ s.island.tempHot = 31 ∧
      tempCode (orDefault 140 (s.get F.SAF_TEMP_WARN)) ≤ s.dieMax) ∧
    (∃ (s : State), s.isAny [.romBoot, .deepWinter] = false ∧ s.dieMax < tempCode (orDefault 140 (s.get F.SAF_TEMP_WARN))
      ∧ s.island.tempActive = false) :=
  ⟨⟨wit_bootTimerExpired1, by decide +kernel⟩,
   ⟨wit_sealTimerExpired1, by decide +kernel⟩,
   ⟨wit_safHold1, by decide +kernel⟩,
   ⟨wit_holdTimerExpired1, by decide +kernel⟩,
   ⟨wit_collectorHeartbeatMissing1, by decide +kernel⟩,
   ⟨wit_classifierTest1, true, by decide +kernel⟩,
   ⟨wit_classifierTest2, false, by decide +kernel⟩,
   ⟨wit_engineHeartbeatCheck1, by decide +kernel⟩,
   ⟨wit_engineHeartbeatCheck2, [1,2,3,4,5,6,7,8,9,10,11,12,13,14,15,16], by decide +kernel⟩,
   ⟨wit_engineHeartbeatCheck3, [1,2,3,4,5], 3, by decide +kernel⟩,
   ⟨wit_safOfftest1, true, by decide +kernel⟩,
   ⟨wit_dieTempWarning1, by decide +kernel⟩,
   ⟨wit_dieTempWarning2, by decide +kernel⟩⟩

def wit_memoryEccError1 : State :=
  let s := State.reset
  let s : State := s.set F.SYS_STATE_STATE 2
  s.put (F.FLT_ESC_DIS 0x23) true
def wit_memoryEccError2 : State :=
  let s := State.reset
  s.set F.SYS_STATE_STATE 2
def wit_memoryEccError3 : State :=
  let s := State.reset
  let s : State := s.set F.SYS_STATE_STATE 2
  { s with upd := { s.upd with paused := false } }
def wit_memoryEccError4 : State :=
  State.reset
def wit_coldRestart1 : State :=
  let s := State.reset
  let s : State := s.arm .coldRestart 3
  { s with rails := Vector.replicate 16 {} }
def wit_coldRestartStep1 : State :=
  let s := State.reset
  let s : State := s.arm .coldStep 3
  { s with rails := Vector.replicate 16 {} }
def wit_safAck1 : State :=
  let s := State.reset
  let s : State := s.set F.SYS_STATE_STATE 2
  s.set F.SAF_TRIP_CODE 0xE402
/-- The conditions of each clause of IslandErrorsAndColdRestartAct can be met. -/
theorem test_met_IslandErrorsAndColdRestartAct :
    (∃ (s : State) (uncorrectable : Bool) (supervisor : Bool), uncorrectable = false ∧ supervisor = false ∧ s.isAny
      [.romBoot, .deepWinter] = false ∧ s.calm 0x23 = true) ∧
    (∃ (s : State) (uncorrectable : Bool) (supervisor : Bool), uncorrectable = true ∧ supervisor = true ∧ s.isIn
      .deepWinter = false) ∧
    (∃ (s : State) (uncorrectable : Bool) (supervisor : Bool), uncorrectable = true ∧ supervisor = false ∧ s.isAny
      [.spring, .summer] = true ∧ s.upd.paused = false) ∧
    (∃ (uncorrectable : Bool) (supervisor : Bool), uncorrectable = false ∧ supervisor = true) ∧
    (∃ (s : State), s.armed .coldRestart = true ∧ s.keptSteps 0 = []) ∧
    (∃ (s : State), s.armed .coldStep = true ∧ s.keptSteps s.island.coldStep = []) ∧
    (∃ (s : State), s.isIn .deepWinter = false) :=
  ⟨⟨wit_memoryEccError1, false, false, by decide +kernel⟩,
   ⟨wit_memoryEccError2, true, true, by decide +kernel⟩,
   ⟨wit_memoryEccError3, true, false, by decide +kernel⟩,
   ⟨false, true, by decide +kernel⟩,
   ⟨wit_coldRestart1, by decide +kernel⟩,
   ⟨wit_coldRestartStep1, by decide +kernel⟩,
   ⟨wit_safAck1, by decide +kernel⟩⟩

def wit_faultClassify1 : State :=
  let s := State.reset
  s.set F.SYS_STATE_STATE 2
def wit_faultClassify2 : State :=
  let s := State.reset
  s.set F.SYS_STATE_STATE 2
def wit_faultClassify3 : State :=
  let s := State.reset
  s.set F.SYS_STATE_STATE 2
def wit_faultClassify4 : State :=
  let s := State.reset
  let s : State := s.set F.SYS_STATE_STATE 2
  let s : State := s.put (F.FLT_ESC_DIS 0x2A) true
  s.put (F.FLT_ESC_DIS 0x23) true
def wit_faultClassify5 : State :=
  let s := State.reset
  let s : State := s.set F.SYS_STATE_STATE 2
  { s with upd := { s.upd with paused := false } }
def wit_faultClassify6 : State :=
  let s := State.reset
  s.set F.SYS_STATE_STATE 2
def wit_faultClassify7 : State :=
  let s := State.reset
  s.set F.SYS_STATE_STATE 5
def wit_faultRecordPost1 : State :=
  let s := State.reset
  let s : State := s.set F.SYS_STATE_STATE 2
  let s : State := s.set F.EVT_WR_WR 3
  let s : State := s.set F.EVT_RD_RD 0
  { s with flt := { s.flt with queue := [{ code := 0x1234, promoted := false, state := 2, tb := 5 }] } }
def wit_flagClear1 : State :=
  State.reset
def wit_fltInj1 : State :=
  let s := State.reset
  s.set F.SYS_STATE_STATE 8
def wit_otpFullReread1 : State :=
  let s := State.reset
  let s : State := s.set F.SYS_STATE_STATE 2
  { s with sec := { s.sec with readTemp := none } }
def wit_otpFullReread2 : State :=
  let s := State.reset
  let s : State := s.set F.SYS_STATE_STATE 2
  let s : State := s.arm .otpDay 3
  { s with otp := [], sec := {} }
/-- The conditions of each clause of FaultCollectorActs can be met. -/
theorem test_met_FaultCollectorActs :
    (∃ (s : State) (codes : List (BitVec 16)), (codes = [0x1234#16] ∨ codes = [0x2B02#16]) ∧ s.isAny [.romBoot,
      .deepWinter] = false) ∧
    (∃ (s : State) (codes : List (BitVec 16)), codes = [0xE401#16] ∧ s.isIn .deepWinter = false) ∧
    (∃ (s : State) (codes : List (BitVec 16)) (c : BitVec 16), codes = [c] ∧ faultListed c.toNat = true ∧ s.sourceAbsent
      (faultSource c.toNat) = false ∧ islandCode c.toNat = false ∧ s.isAny [.romBoot, .deepWinter] = false ∧ faultClass
      c.toNat = 0) ∧
    (∃ (s : State) (codes : List (BitVec 16)) (c : BitVec 16), codes = [c] ∧ faultListed c.toNat = true ∧ s.sourceAbsent
      (faultSource c.toNat) = false ∧ islandCode c.toNat = false ∧ s.isAny [.romBoot, .deepWinter] = false ∧ (faultClass
      c.toNat = 1 ∨ faultClass c.toNat = 2) ∧ s.calm (faultSource c.toNat) = true) ∧
    (∃ (s : State) (codes : List (BitVec 16)) (c : BitVec 16), codes = [c] ∧ faultListed c.toNat = true ∧ s.sourceAbsent
      (faultSource c.toNat) = false ∧ islandCode c.toNat = false ∧ s.isAny [.spring, .summer] = true ∧ s.upd.paused = false
      ∧ faultClass c.toNat = 3) ∧
    (∃ (s : State) (codes : List (BitVec 16)) (c : BitVec 16), codes = [c] ∧ faultListed c.toNat = true ∧ s.sourceAbsent
      (faultSource c.toNat) = false ∧ islandCode c.toNat = true ∧ s.isIn .deepWinter = false) ∧
    (∃ (s : State), s.isIn .deepWinter = true) ∧
    (∃ (s : State) (r : FaultRec) (rest : List FaultRec), s.flt.queue = r :: rest ∧ s.ringServed = true ∧ s.unread < 256 ∧
      s.get F.EVT_RD_RD = 0) ∧
    (∃ (reg : BitVec 16) (w : Word) (hw : Word), reg.toNat = G.FLT_WARN.bit.reg ∧ hw = 0#32 ∧ w.getLsbD G.FLT_WARN.bit.lo
      = true) ∧
    (∃ (s : State) (w : Word), s.isIn .factoryTest = true ∧ w = 0x00001234#32) ∧
    (∃ (s : State) (daily : Bool), s.isAny [.romBoot, .deepWinter] = false ∧ daily = false ∧ s.sec.readTemp = none) ∧
    (∃ (s : State) (daily : Bool) (reads : List (Nat × Word × Word × Word)), s.isAny [.romBoot, .deepWinter] = false ∧
      daily = true ∧ s.armed .otpDay = true ∧ ((List.range 0x8F).all (fun w => s.otpChange reads w == 0) = true)) :=
  ⟨⟨wit_faultClassify1, [0x1234#16], by decide +kernel⟩,
   ⟨wit_faultClassify2, [0xE401#16], by decide +kernel⟩,
   ⟨wit_faultClassify3, [0x2B02#16], 0x2B02#16, by decide +kernel⟩,
   ⟨wit_faultClassify4, [0xAA11#16], 0xAA11#16, by decide +kernel⟩,
   ⟨wit_faultClassify5, [0xE904#16], 0xE904#16, by decide +kernel⟩,
   ⟨wit_faultClassify6, [0xE402#16], 0xE402#16, by decide +kernel⟩,
   ⟨wit_faultClassify7, by decide +kernel⟩,
   ⟨wit_faultRecordPost1, ({code:=0x1234,promoted:=false,state:=2,tb:=5}), [], by decide +kernel⟩,
   ⟨(BitVec.ofNat 16 G.FLT_WARN.bit.reg), (BitVec.ofNat 32 (2 ^ G.FLT_WARN.bit.lo)), 0#32, by decide +kernel⟩,
   ⟨wit_fltInj1, 0x1234#32, by decide +kernel⟩,
   ⟨wit_otpFullReread1, false, by decide +kernel⟩,
   ⟨wit_otpFullReread2, true, [], by decide +kernel⟩⟩

def wit_pageSelWrite1 : State :=
  let s := State.reset
  s.set F.SYS_STATE_STATE 2
def wit_pageSelWrite2 : State :=
  let s := State.reset
  let s : State := s.set F.SYS_STATE_STATE 0
  s.put F.CLK_STATUS_ROOT_LOCK false
def wit_registerWrite1 : State :=
  let s := State.reset
  s.set F.SYS_STATE_STATE 2
def wit_registerWrite2 : State :=
  let s := State.reset
  let s : State := s.set F.SYS_STATE_STATE 2
  s.set F.PAGE_SEL_PAGE 0x23
def wit_registerWrite3 : State :=
  let s := State.reset
  let s : State := s.set F.SYS_STATE_STATE 2
  let s : State := s.set F.PAGE_SEL_PAGE 2
  s.set F.MBX_STATUS_STATE 0
def wit_registerWrite4 : State :=
  let s := State.reset
  let s : State := s.set F.SYS_STATE_STATE 2
  let s : State := s.set F.PAGE_SEL_PAGE 2
  s.set F.MBX_STATUS_STATE 1
/-- The conditions of each clause of HostInterfaceWritesAct can be met. -/
theorem test_met_HostInterfaceWritesAct :
    (∃ (s : State), s.addressNacked = false) ∧
    (∃ (s : State), s.addressNacked = true) ∧
    (∃ (s : State) (i : BitVec 6), s.addressNacked = false ∧ i = 63#6) ∧
    (∃ (s : State) (i : BitVec 6), s.addressNacked = false ∧ i ≠ 63#6 ∧ s.pageServed (s.get F.PAGE_SEL_PAGE) = false) ∧
    (∃ (s : State) (i : BitVec 6), s.addressNacked = false ∧ i ≠ 63#6 ∧ s.pageServed (s.get F.PAGE_SEL_PAGE) = true ∧
      (s.get F.PAGE_SEL_PAGE == 2 && s.get F.MBX_STATUS_STATE == 1) = false) ∧
    (∃ (s : State) (i : BitVec 6), s.addressNacked = false ∧ i ≠ 63#6 ∧ s.get F.PAGE_SEL_PAGE = 2 ∧ s.get
      F.MBX_STATUS_STATE = 1) :=
  ⟨⟨wit_pageSelWrite1, by decide +kernel⟩,
   ⟨wit_pageSelWrite2, by decide +kernel⟩,
   ⟨wit_registerWrite1, 63#6, by decide +kernel⟩,
   ⟨wit_registerWrite2, 3#6, by decide +kernel⟩,
   ⟨wit_registerWrite3, 0#6, by decide +kernel⟩,
   ⟨wit_registerWrite4, 0#6, by decide +kernel⟩⟩

def wit_i2cStartStop1 : State :=
  State.reset
def wit_sdaTimeout1 : State :=
  let s := State.reset
  s.set F.SYS_STATE_STATE 2
def wit_sdaTimeout2 : State :=
  let s := State.reset
  let s : State := s.set F.SYS_STATE_STATE 2
  { s with hif := { s.hif with sdaWarned := false } }
def wit_sclTimeout1 : State :=
  let s := State.reset
  let s : State := s.set F.SYS_STATE_STATE 2
  { s with hif := { s.hif with sclWarned := false } }
def wit_ibrPulse1 : State :=
  let s := State.reset
  let s : State := s.set F.SYS_STATE_STATE 2
  let s : State := s.put F.HIF_CFG_IBR_EN true
  let s : State := s.set F.MBX_STATUS_STATE 2
  s.set F.HIF_IRQ_EN_EN 1
def wit_ibrPulse2 : State :=
  State.reset
def wit_ibrPulse3 : State :=
  let s := State.reset
  let s : State := s.set F.SYS_STATE_STATE 2
  let s : State := s.put F.HIF_CFG_IBR_EN true
  let s : State := s.set F.MBX_STATUS_STATE 2
  s.set F.HIF_IRQ_EN_EN 1
def wit_evtRdWrite1 : State :=
  let s := State.reset
  s.set F.SYS_STATE_STATE 2
def wit_evtStatusRead1 : State :=
  let s := State.reset
  s.set F.SYS_STATE_STATE 2
/-- The conditions of each clause of HostInterfaceTimeoutsAndEventsAct can be met. -/
theorem test_met_HostInterfaceTimeoutsAndEventsAct :
    (∃ (n : Fin 4), n.val ≠ 0) ∧
    (∃ (s : State) (own : Bool), s.isIn .deepWinter = false ∧ own = true) ∧
    (∃ (s : State) (own : Bool) (highSince : Bool), s.isIn .deepWinter = false ∧ own = false ∧ (s.hif.sdaWarned = false ∨
      highSince = true)) ∧
    (∃ (s : State) (highSince : Bool), s.isIn .deepWinter = false ∧ (s.hif.sclWarned = false ∨ highSince = true)) ∧
    (∃ (s : State) (first : Bool) (whole : Bool), s.has F.HIF_CFG_IBR_EN = true ∧ s.irqPending = true ∧ s.isAny
      [.deepWinter, .romBoot, .romRecovery, .factoryTest] = false ∧ first = true ∧ whole = true) ∧
    (∃ (s : State), (s.has F.HIF_CFG_IBR_EN = false ∨ s.irqPending = false)) ∧
    (∃ (s : State), s.has F.HIF_CFG_IBR_EN = true ∧ s.irqPending = true ∧ s.isAny [.deepWinter, .romBoot, .romRecovery,
      .factoryTest] = false) ∧
    (∃ (s : State) (v : Word), s.ringServed = true ∧ (s.get F.EVT_WR_WR + 2 ^ 32 - v.toNat) % 2 ^ 32 ≤ s.hif.ring.length) ∧
    (∃ (s : State), s.ringServed = true) :=
  ⟨⟨3, by decide +kernel⟩,
   ⟨wit_sdaTimeout1, true, by decide +kernel⟩,
   ⟨wit_sdaTimeout2, false, false, by decide +kernel⟩,
   ⟨wit_sclTimeout1, false, by decide +kernel⟩,
   ⟨wit_ibrPulse1, true, true, by decide +kernel⟩,
   ⟨wit_ibrPulse2, by decide +kernel⟩,
   ⟨wit_ibrPulse3, by decide +kernel⟩,
   ⟨wit_evtRdWrite1, 0#32, by decide +kernel⟩,
   ⟨wit_evtStatusRead1, by decide +kernel⟩⟩

def wit_mbxGo1 : State :=
  let s := State.reset
  let s : State := s.set F.SYS_STATE_STATE 2
  let s : State := s.set F.MBX_STATUS_STATE 0
  { s with hif := { s.hif with current := some (testFrame 0x10 []) } }
def wit_mbxGo2 : State :=
  let s := State.reset
  let s : State := s.set F.SYS_STATE_STATE 2
  s.set F.MBX_STATUS_STATE 1
def wit_mbxResponse1 : State :=
  let s := State.reset
  { s with hif := { s.hif with answer := some { frame := testFrame (0x10 + 0x10000) [], status := 0, reqState := 2, payload := [], macKey := [] }, exec := [] } }
def wit_mbxTake1 : State :=
  let s := State.reset
  let s : State := s.set F.SYS_STATE_STATE 2
  s.set F.MBX_STATUS_STATE 2
def wit_mgtCommandTransfer1 : State :=
  let s := State.reset
  let s : State := s.set F.SYS_STATE_STATE 2
  let s : State := { s with boot := { s.boot with engRun := 0xFFFF }, pins := { s.pins with ups := true }, mgt := Vector.replicate 2 {} }
  let s : State := s.put (F.MGT_STATUS_HALTED 0) false
  let s : State := s.put F.CLK_STATUS_HS9_LOCK true
  { s with hif := { s.hif with current := some (testFrame 0x10 []) } }
def wit_mgtCommandTransfer2 : State :=
  let s := State.reset
  let s : State := s.set F.SYS_STATE_STATE 2
  let s : State := { s with boot := { s.boot with engRun := 0xFFFF }, pins := { s.pins with ups := true }, mgt := Vector.replicate 2 {} }
  s.put (F.MGT_STATUS_HALTED 0) false
def wit_mgtResponseTaken1 : State :=
  let s := State.reset
  let s : State := s.set F.SYS_STATE_STATE 2
  { s with boot := { s.boot with engRun := 0xFFFF }, pins := { s.pins with ups := true }, mgt := Vector.replicate 2 { busy := true, out := [(true, [])] } }
def wit_mgtEventDelivery1 : State :=
  let s := State.reset
  let s : State := s.set F.SYS_STATE_STATE 2
  let s : State := { s with boot := { s.boot with engRun := 0xFFFF }, pins := { s.pins with ups := true }, mgt := Vector.replicate 2 { idx := 6 } }
  let s : State := s.set F.EVT_WR_WR 7
  { s with hif := { s.hif with ring := [{ dseq := 1, flags := 0, source := 0, code := 1, tb := 0 }] } }
def wit_mgtVendorRequest1 : State :=
  let s := State.reset
  let s : State := s.set F.SYS_STATE_STATE 2
  { s with boot := { s.boot with engRun := 0xFFFF }, pins := { s.pins with ups := true } }
def wit_mgtClearHalt1 : State :=
  let s := State.reset
  let s : State := s.set F.SYS_STATE_STATE 2
  let s : State := { s with boot := { s.boot with engRun := 0xFFFF }, pins := { s.pins with ups := true } }
  s.put (F.MGT_STATUS_HALTED 0) true
/-- The conditions of each clause of MailboxAndManagementFunctionsAct can be met. -/
theorem test_met_MailboxAndManagementFunctionsAct :
    (∃ (s : State), s.mailboxServed = true ∧ s.get F.MBX_STATUS_STATE ≠ 1 ∧ s.hif.current ≠ none) ∧
    (∃ (s : State), s.mailboxServed = true ∧ s.get F.MBX_STATUS_STATE = 1) ∧
    (∃ (s : State) (a : Answer), s.hif.answer = some a ∧ a.frame.via = 0 ∧ 2 ≤ a.frame.words.length ∧ a.frame.flags % 2 =
      1 ∧ a.macKey = [] ∧ a.payload = [] ∧ s.hif.exec = []) ∧
    (∃ (s : State), s.mailboxServed = true ∧ s.get F.MBX_STATUS_STATE = 2) ∧
    (∃ (s : State) (f : Fin 2) (bytes : List Byte), s.fnServes f = true ∧ s.has (F.MGT_STATUS_HALTED f.val) = false ∧
      bytes.length ≤ 512 ∧ s.mgt[f].busy = false ∧ s.hif.current ≠ none) ∧
    (∃ (s : State) (f : Fin 2) (bytes : List Byte), s.fnServes f = true ∧ s.has (F.MGT_STATUS_HALTED f.val) = false ∧ 512
      < bytes.length) ∧
    (∃ (s : State) (f : Fin 2) (r : Bool × List Word) (rest : List (Bool × List Word)), s.fnServes f = true ∧ s.mgt[f].out
      = r :: rest) ∧
    (∃ (s : State) (f : Fin 2) (e : Event), s.fnServes f = true ∧ s.ringServed = true ∧ s.ringAt s.mgt[f].idx = some e) ∧
    (∃ (s : State) (f : Fin 2), s.fnServes f = true) ∧
    (∃ (s : State) (f : Fin 2), s.fnServes f = true) :=
  ⟨⟨wit_mbxGo1, by decide +kernel⟩,
   ⟨wit_mbxGo2, by decide +kernel⟩,
   ⟨wit_mbxResponse1, ({ frame := testFrame (0x10 + 0x10000) [], status := 0, reqState := 2, payload := [], macKey := [] }), by decide +kernel⟩,
   ⟨wit_mbxTake1, by decide +kernel⟩,
   ⟨wit_mgtCommandTransfer1, 0, (List.replicate 24 1#8), by decide +kernel⟩,
   ⟨wit_mgtCommandTransfer2, 0, (List.replicate 516 1#8), by decide +kernel⟩,
   ⟨wit_mgtResponseTaken1, 0, (true,[]), [], by decide +kernel⟩,
   ⟨wit_mgtEventDelivery1, 0, ({dseq:=1,flags:=0,source:=0,code:=1,tb:=0}), by decide +kernel⟩,
   ⟨wit_mgtVendorRequest1, 0, by decide +kernel⟩,
   ⟨wit_mgtClearHalt1, 0, by decide +kernel⟩⟩

def wit_regRead1 : State :=
  let s := State.reset
  let s : State := s.set F.SYS_STATE_STATE 2
  { s with hif := { s.hif with current := some (testFrame 0x10 []), answer := none } }
def wit_regRead2 : State :=
  let s := State.reset
  let s : State := s.set F.SYS_STATE_STATE 2
  { s with hif := { s.hif with current := some (testFrame 0x10 []), answer := none } }
def wit_regWrite1 : State :=
  let s := State.reset
  let s : State := s.set F.SYS_STATE_STATE 2
  { s with hif := { s.hif with current := some (testFrame 0x11 []), answer := none } }
def wit_regWrite2 : State :=
  let s := State.reset
  let s : State := s.set F.SYS_STATE_STATE 2
  { s with hif := { s.hif with current := some (testFrame 0x11 []), answer := none } }
def wit_regWrite3 : State :=
  let s := State.reset
  let s : State := s.set F.SYS_STATE_STATE 2
  { s with hif := { s.hif with current := some (testFrame 0x11 []), answer := none } }
def wit_regWriteAuth1 : State :=
  let s := State.reset
  let s : State := s.set F.SYS_STATE_STATE 2
  { s with hif := { s.hif with current := some (testFrame 0x12 []), answer := none } }
def wit_regWriteAuth2 : State :=
  let s := State.reset
  let s : State := s.set F.SYS_STATE_STATE 2
  let s : State := s.put F.SCH_STATUS_BUSY false
  { s with hif := { s.hif with current := some (testFrame 0x12 []), answer := none } }
def wit_sessionInfo1 : State :=
  let s := State.reset
  { s with hif := { s.hif with current := some (testFrame 0x20 []), answer := none } }
def wit_attest1 : State :=
  let s := State.reset
  let s : State := { s with hif := { s.hif with current := some (testFrame 0x21 []), answer := none } }
  { s with sec := { s.sec with suspended := 63 } }
def wit_attest2 : State :=
  let s := State.reset
  let s : State := { s with hif := { s.hif with current := some (testFrame 0x21 [1#32,2#32,3#32,4#32]), answer := none } }
  let s : State := { s with sec := { s.sec with suspended := 0 } }
  let s : State := s.set F.OTP_STATUS_ABSENT 0
  s.set F.OTP_STATUS_UNUSABLE 0
def wit_testWrite1 : State :=
  let s := State.reset
  let s : State := s.set F.SYS_STATE_STATE 7
  { s with hif := { s.hif with current := some (testFrame 0x600 []), answer := none } }
def wit_testWrite2 : State :=
  let s := State.reset
  { s with hif := { s.hif with current := some (testFrame 0x600 []), answer := none } }
def wit_testWrite3 : State :=
  let s := State.reset
  let s : State := s.set F.SYS_STATE_STATE 7
  { s with hif := { s.hif with current := some (testFrame 0x600 []), answer := none } }
def wit_testWrite4 : State :=
  let s := State.reset
  let s : State := s.set F.SYS_STATE_STATE 8
  { s with hif := { s.hif with current := some (testFrame 0x600 []), answer := none } }
/-- The conditions of each clause of RegisterAndSessionCommandsAct can be met. -/
theorem test_met_RegisterAndSessionCommandsAct :
    (∃ (s : State) (l : List (BitVec 16)) (f : Frame), s.hif.current = some f ∧ f.cmd = 0x0010 ∧ l.length ≤ 48 ∧ ((l.map
      (·.toNat)).all s.addressOk) = true) ∧
    (∃ (s : State) (l : List (BitVec 16)) (f : Frame), s.hif.current = some f ∧ f.cmd = 0x0010 ∧ ¬(l.length ≤ 48 ∧ (l.map
      (·.toNat)).all s.addressOk = true)) ∧
    (∃ (s : State) (l : List (BitVec 16 × Word)) (f : Frame), s.hif.current = some f ∧ f.cmd = 0x0011 ∧ s.writesOk l =
      true) ∧
    (∃ (s : State) (f : Frame), s.hif.current = some f ∧ f.cmd = 0x0011 ∧ s.pageServed 1 = true) ∧
    (∃ (s : State) (l : List (BitVec 16 × Word)) (f : Frame), s.hif.current = some f ∧ f.cmd = 0x0011 ∧ s.writesOk l =
      false) ∧
    (∃ (s : State) (l : List (BitVec 16 × Word)) (f : Frame), s.hif.current = some f ∧ f.cmd = 0x0012 ∧ s.writesOk l =
      true) ∧
    (∃ (s : State) (f : Frame), s.hif.current = some f ∧ f.cmd = 0x0012 ∧ s.pageServed 0x39 = true ∧ s.has
      F.SCH_STATUS_BUSY = false) ∧
    (∃ (s : State) (f : Frame), s.hif.current = some f ∧ f.cmd = 0x0020) ∧
    (∃ (s : State) (f : Frame), s.hif.current = some f ∧ f.cmd = 0x0021 ∧ (!s.regionOk 1 || !s.regionOk 5 || s.suspends 1
      || s.suspends 5) = true) ∧
    (∃ (s : State) (f : Frame), s.hif.current = some f ∧ f.cmd = 0x0021 ∧ (!s.regionOk 1 || !s.regionOk 5 || s.suspends 1
      || s.suspends 5) = false ∧ f.payload.length = 4) ∧
    (∃ (s : State) (f : Frame), s.hif.current = some f ∧ f.cmd = 0x0600) ∧
    (∃ (s : State) (a : BitVec 16) (f : Frame), s.hif.current = some f ∧ f.cmd = 0x0600 ∧ a.toNat / 256 ≠ 0x3F ∧ a.toNat ≠
      R.FLT_INJ) ∧
    (∃ (s : State) (a : BitVec 16) (f : Frame), s.hif.current = some f ∧ f.cmd = 0x0600 ∧ a.toNat / 256 = 0x3F ∧ a.toNat %
      4 = 0 ∧ a.toNat % 256 < 0xFC) ∧
    (∃ (s : State) (w : Word) (f : Frame), s.hif.current = some f ∧ f.cmd = 0x0600 ∧ s.isIn .factoryTest = true ∧
      faultListed (w.toNat % 2 ^ 16) = true ∧ w.getLsbD 16 = false ∧ w.toNat / 2 ^ 14 % 4 = 0) :=
  ⟨⟨wit_regRead1, [0x000#16,0x408#16], (testFrame 0x10 []), by decide +kernel⟩,
   ⟨wit_regRead2, [0x001#16], (testFrame 0x10 []), by decide +kernel⟩,
   ⟨wit_regWrite1, [(0x204#16,7#32)], (testFrame 0x11 []), by decide +kernel⟩,
   ⟨wit_regWrite2, (testFrame 0x11 []), by decide +kernel⟩,
   ⟨wit_regWrite3, [(0x102#16, 7#32)], (testFrame 0x11 []), by decide +kernel⟩,
   ⟨wit_regWriteAuth1, [(0x204#16,7#32)], (testFrame 0x12 []), by decide +kernel⟩,
   ⟨wit_regWriteAuth2, (testFrame 0x12 []), by decide +kernel⟩,
   ⟨wit_sessionInfo1, (testFrame 0x20 []), by decide +kernel⟩,
   ⟨wit_attest1, (testFrame 0x21 []), by decide +kernel⟩,
   ⟨wit_attest2, (testFrame 0x21 [1#32,2#32,3#32,4#32]), by decide +kernel⟩,
   ⟨wit_testWrite1, (testFrame 0x600 []), by decide +kernel⟩,
   ⟨wit_testWrite2, 0#16, (testFrame 0x600 []), by decide +kernel⟩,
   ⟨wit_testWrite3, 0x3F04#16, (testFrame 0x600 []), by decide +kernel⟩,
   ⟨wit_testWrite4, 0x2B02#32, (testFrame 0x600 []), by decide +kernel⟩⟩

def wit_shutdown1 : State :=
  let s := State.reset
  let s : State := s.set F.SYS_STATE_STATE 2
  { s with hif := { s.hif with current := some (testFrame 0x100 []), answer := none } }
def wit_shutdown2 : State :=
  let s := State.reset
  let s : State := s.set F.SYS_STATE_STATE 2
  let s : State := { s with upd := { s.upd with paused := false } }
  { s with hif := { s.hif with current := some (testFrame 0x100 []), answer := none } }
def wit_start1 : State :=
  let s := State.reset
  let s : State := s.set F.SYS_STATE_STATE 4
  let s : State := s.put F.SYS_STATE_DONE true
  let s : State := { s with seq := { s.seq with winterDue := none } }
  { s with hif := { s.hif with current := some (testFrame 0x101 []), answer := none } }
def wit_start2 : State :=
  let s := State.reset
  let s : State := s.set F.SYS_STATE_STATE 4
  let s : State := s.put F.SYS_STATE_DONE false
  { s with hif := { s.hif with current := some (testFrame 0x101 []), answer := none } }
def wit_start3 : State :=
  let s := State.reset
  let s : State := s.set F.SYS_STATE_STATE 4
  let s : State := s.put F.SYS_STATE_DONE true
  let s : State := { s with seq := { s.seq with winterDue := none } }
  { s with hif := { s.hif with current := some (testFrame 0x101 []), answer := none } }
def wit_restart1 : State :=
  let s := State.reset
  { s with island := { s.island with held00A := true }, hif := { s.hif with current := some (testFrame 0x102 []), answer := none } }
def wit_restart2 : State :=
  let s := State.reset
  let s : State := s.set F.SYS_STATE_STATE 2
  { s with island := { s.island with held00A := false }, hif := { s.hif with current := some (testFrame 0x102 []), answer := none } }
def wit_restart3 : State :=
  let s := State.reset
  let s : State := s.set F.SYS_STATE_STATE 2
  let s : State := { s with seq := { s.seq with forRestart := false }, island := { s.island with held00A := false } }
  { s with hif := { s.hif with current := some (testFrame 0x102 []), answer := none } }
def wit_forceWinter1 : State :=
  let s := State.reset
  let s : State := s.set F.SYS_STATE_STATE 2
  { s with hif := { s.hif with current := some (testFrame 0x103 []), answer := none } }
def wit_forceWinter2 : State :=
  let s := State.reset
  let s : State := s.set F.SYS_STATE_STATE 2
  let s : State := { s with upd := { s.upd with paused := false } }
  { s with hif := { s.hif with current := some (testFrame 0x103 []), answer := none } }
def wit_portEnable1 : State :=
  let s := State.reset
  let s : State := s.set F.SYS_STATE_STATE 2
  { s with hif := { s.hif with current := some (testFrame 0x110 [1#32]), answer := none } }
def wit_portEnable2 : State :=
  let s := State.reset
  let s : State := s.set F.SYS_STATE_STATE 2
  { s with hif := { s.hif with current := some (testFrame 0x110 [1#32]), answer := none } }
def wit_portEnable3 : State :=
  let k : PortId := 0
  let s := State.reset
  let s : State := s.set F.SYS_STATE_STATE 2
  let s : State := s.putBit F.SEC_PORTEN_EN k.val false
  { s with hif := { s.hif with current := some (testFrame 0x110 [0x10001#32]), answer := none } }
def wit_margin1 : State :=
  let s := State.reset
  let s : State := s.set F.SYS_STATE_STATE 2
  let s : State := s.put (F.SQ_STATUS_EN 0) true
  let s : State := s.set F.SQC_RAILS_INREG 1
  let s : State := { s with boot := { s.boot with railsAbsent := 0 } }
  let s : State := s.set (F.SQ_MGCAL_LIMIT 0) 50
  { s with hif := { s.hif with current := some (testFrame 0x120 []), answer := none } }
def wit_margin2 : State :=
  let s := State.reset
  let s : State := s.set F.SYS_STATE_STATE 2
  let s : State := s.set (F.SQ_MGCAL_LIMIT 0) 0
  { s with hif := { s.hif with current := some (testFrame 0x120 []), answer := none } }
def wit_margin3 : State :=
  let s := State.reset
  let s : State := s.set F.SYS_STATE_STATE 2
  let s : State := s.put (F.SQ_STATUS_EN 0) true
  let s : State := s.set F.SQC_RAILS_INREG 1
  let s : State := { s with boot := { s.boot with railsAbsent := 0 } }
  let s : State := s.set (F.SQ_MGCAL_LIMIT 0) 50
  { s with hif := { s.hif with current := some (testFrame 0x120 []), answer := none } }
/-- The conditions of each clause of PowerAndPortCommandsAct can be met. -/
theorem test_met_PowerAndPortCommandsAct :
    (∃ (s : State) (f : Frame), s.hif.current = some f ∧ f.cmd = 0x0100 ∧ f.payload = []) ∧
    (∃ (s : State) (f : Frame), s.hif.current = some f ∧ f.cmd = 0x0100 ∧ f.payload = [] ∧ s.isAny [.spring, .summer] =
      true ∧ s.upd.paused = false) ∧
    (∃ (s : State) (f : Frame), s.hif.current = some f ∧ f.cmd = 0x0101 ∧ f.payload = [] ∧ (s.has F.SYS_STATE_DONE &&
      s.seq.winterDue.isNone) = true) ∧
    (∃ (s : State) (f : Frame), s.hif.current = some f ∧ f.cmd = 0x0101 ∧ f.payload = [] ∧ s.has F.SYS_STATE_DONE = false) ∧
    (∃ (s : State) (f : Frame), s.hif.current = some f ∧ f.cmd = 0x0101 ∧ f.payload = [] ∧ s.has F.SYS_STATE_DONE = true ∧
      s.seq.winterDue = none) ∧
    (∃ (s : State) (f : Frame), s.hif.current = some f ∧ f.cmd = 0x0102 ∧ s.island.held00A = true) ∧
    (∃ (s : State) (f : Frame), s.hif.current = some f ∧ f.cmd = 0x0102 ∧ f.payload = [] ∧ s.island.held00A = false) ∧
    (∃ (s : State) (f : Frame), s.hif.current = some f ∧ f.cmd = 0x0102 ∧ f.payload = [] ∧ s.island.held00A = false ∧
      s.seq.forRestart = false) ∧
    (∃ (s : State) (f : Frame), s.hif.current = some f ∧ f.cmd = 0x0103 ∧ f.payload = []) ∧
    (∃ (s : State) (f : Frame), s.hif.current = some f ∧ f.cmd = 0x0103 ∧ f.payload = [] ∧ s.isAny [.spring, .summer] =
      true ∧ s.upd.paused = false) ∧
    (∃ (s : State) (f : Frame) (k : PortId), s.hif.current = some f ∧ f.cmd = 0x0110 ∧ f.payload = [BitVec.ofNat 32 (2 ^
      k.val)]) ∧
    (∃ (s : State) (f : Frame) (k : PortId), s.hif.current = some f ∧ f.cmd = 0x0110 ∧ f.payload = [BitVec.ofNat 32 (2 ^
      k.val)]) ∧
    (∃ (s : State) (f : Frame) (k : PortId), s.hif.current = some f ∧ f.cmd = 0x0110 ∧ f.payload = [BitVec.ofNat 32 (2 ^
      k.val + 2 ^ (16 + k.val))]) ∧
    (∃ (s : State) (j : RailId) (f : Frame), s.hif.current = some f ∧ f.cmd = 0x0120 ∧ s.marginTaken j = true) ∧
    (∃ (s : State) (j : RailId) (f : Frame), s.hif.current = some f ∧ f.cmd = 0x0120 ∧ s.marginTaken j = false) ∧
    (∃ (s : State) (j : RailId) (v : BitVec 8) (f : Frame), s.hif.current = some f ∧ f.cmd = 0x0120 ∧ s.marginTaken j =
      true ∧ (ofTwos 8 v.toNat).natAbs ≤ s.get (F.SQ_MGCAL_LIMIT j) ∧ ofTwos 8 v.toNat ≠ s.mgPos j) :=
  ⟨⟨wit_shutdown1, (testFrame 0x100 []), by decide +kernel⟩,
   ⟨wit_shutdown2, (testFrame 0x100 []), by decide +kernel⟩,
   ⟨wit_start1, (testFrame 0x101 []), by decide +kernel⟩,
   ⟨wit_start2, (testFrame 0x101 []), by decide +kernel⟩,
   ⟨wit_start3, (testFrame 0x101 []), by decide +kernel⟩,
   ⟨wit_restart1, (testFrame 0x102 []), by decide +kernel⟩,
   ⟨wit_restart2, (testFrame 0x102 []), by decide +kernel⟩,
   ⟨wit_restart3, (testFrame 0x102 []), by decide +kernel⟩,
   ⟨wit_forceWinter1, (testFrame 0x103 []), by decide +kernel⟩,
   ⟨wit_forceWinter2, (testFrame 0x103 []), by decide +kernel⟩,
   ⟨wit_portEnable1, (testFrame 0x110 [1#32]), 0, by decide +kernel⟩,
   ⟨wit_portEnable2, (testFrame 0x110 [1#32]), 0, by decide +kernel⟩,
   ⟨wit_portEnable3, (testFrame 0x110 [0x10001#32]), 0, by decide +kernel⟩,
   ⟨wit_margin1, 0, (testFrame 0x120 []), by decide +kernel⟩,
   ⟨wit_margin2, 0, (testFrame 0x120 []), by decide +kernel⟩,
   ⟨wit_margin3, 0, 5#8, (testFrame 0x120 []), by decide +kernel⟩⟩

def wit_updOpen1 : State :=
  let s := State.reset
  let s : State := s.set F.SYS_STATE_STATE 2
  let s : State := s.set F.UPD_STATUS_STATE 1
  { s with hif := { s.hif with current := some (testFrame 0x300 [1#32,0x1000#32]), answer := none } }
def wit_updOpen2 : State :=
  let s := State.reset
  let s : State := s.set F.SYS_STATE_STATE 2
  let s : State := s.set F.UPD_STATUS_STATE 0
  let s : State := { s with hif := { s.hif with current := some (testFrame 0x300 [1#32,0x1000#32]), answer := none }, upd := {} }
  { s with boot := { s.boot with tabTried := true, tab := { s.boot.tab with fwA := 0, fwB := 0, fwLenA := 0, fwLenB := 0 }, tabOld := { s.boot.tab with fwA := 0, fwB := 0, fwLenA := 0, fwLenB := 0 } } }
def wit_updOpen3 : State :=
  let s := State.reset
  let s : State := s.set F.SYS_STATE_STATE 2
  let s : State := s.set F.UPD_STATUS_STATE 0
  let s : State := s.set F.BOOT_STATUS_FW_SLOT 0
  let s : State := { s with hif := { s.hif with current := some (testFrame 0x300 [1#32,0x1000#32]), answer := none }, upd := {} }
  { s with boot := { s.boot with tabTried := true, tab := { fwLenB := 4096 }, tabOld := {} } }
def wit_updBlock1 : State :=
  let s := State.reset
  let s : State := s.set F.SYS_STATE_STATE 2
  let s : State := s.set F.UPD_STATUS_STATE 0
  { s with hif := { s.hif with current := some (testFrame 0x301 []), answer := none } }
def wit_updBlock2 : State :=
  let s := State.reset
  let s : State := s.set F.SYS_STATE_STATE 2
  let s : State := s.set F.UPD_STATUS_STATE 1
  let s : State := s.set F.UPD_STATUS_KIND 1
  let s : State := s.set F.UPD_NEXT_NEXT 0
  let s : State := s.set F.UPD_LEN_LEN 0x1000
  let s : State := { s with upd := { s.upd with session := 0xFFFFFFFF, erasedTo := 0 }, sec := { s.sec with suspended := 0 } }
  { s with hif := { s.hif with current := some (testFrame 0x301 [0#32, BitVec.ofNat 32 (crc32 (leBytes 4 0x12345678)), 0x12345678#32]), answer := none } }
def wit_updClose1 : State :=
  let s := State.reset
  let s : State := s.set F.UPD_STATUS_STATE 0
  { s with hif := { s.hif with current := some (testFrame 0x302 []), answer := none } }
def wit_updClose2 : State :=
  let s := State.reset
  let s : State := s.set F.UPD_STATUS_STATE 1
  let s : State := s.set F.UPD_STATUS_KIND 1
  let s : State := s.set F.UPD_NEXT_NEXT 0
  let s : State := s.set F.UPD_LEN_LEN 0
  let s : State := { s with upd := { s.upd with session := 0xFFFFFFFF, erasedTo := 0 }, sec := { s.sec with suspended := 0 } }
  { s with hif := { s.hif with current := some (testFrame 0x302 []), answer := none } }
def wit_updClose3 : State :=
  let s := State.reset
  let s : State := s.set F.SYS_STATE_STATE 2
  let s : State := s.set F.UPD_STATUS_STATE 1
  let s : State := s.set F.UPD_STATUS_KIND 2
  let s : State := s.set F.UPD_STATUS_SLOT 0
  let s : State := s.set F.UPD_NEXT_NEXT 0xe4
  let s : State := s.set F.UPD_LEN_LEN 0xe4
  let s : State := { s with sec := { s.sec with suspended := 0, cfgSign := false, force := [] }, upd := { s.upd with session := 0xFFFFFFFF } }
  let s : State := { s with flash := testFlash (cfgBase 0) testCfgImage, boot := { s.boot with tab := { s.boot.tab with fwA := 0, fwB := 0 }, fwHdr := [] } }
  { s with hif := { s.hif with current := some (testFrame 0x302 []), answer := none } }
def wit_updActivate1 : State :=
  let s := State.reset
  let s : State := s.set F.SYS_STATE_STATE 2
  let s : State := s.set F.UPD_STATUS_STATE 0
  { s with boot := { s.boot with tabTried := true }, hif := { s.hif with current := some (testFrame 0x303 [3#32]), answer := none } }
def wit_updActivate2 : State :=
  let s := State.reset
  let s : State := s.set F.SYS_STATE_STATE 2
  let s : State := s.set F.UPD_STATUS_STATE 2
  let s : State := s.set F.UPD_STATUS_KIND 1
  { s with upd := { s.upd with session := 0xFFFFFFFF }, boot := { s.boot with tabTried := true }, hif := { s.hif with current := some (testFrame 0x303 [1#32]), answer := none } }
def wit_updActivate3 : State :=
  let s := State.reset
  let s : State := s.set F.SYS_STATE_STATE 2
  let s : State := s.set F.UPD_STATUS_STATE 0
  { s with boot := { s.boot with tabTried := true }, hif := { s.hif with current := some (testFrame 0x303 [3#32]), answer := none } }
def wit_updAbort1 : State :=
  let s := State.reset
  let s : State := s.set F.SYS_STATE_STATE 2
  let s : State := s.set F.UPD_STATUS_STATE 2
  { s with hif := { s.hif with current := some (testFrame 0x306 []), answer := none } }
def wit_updAbort2 : State :=
  let s := State.reset
  let s : State := s.set F.SYS_STATE_STATE 2
  let s : State := s.set F.UPD_STATUS_STATE 3
  let s : State := s.set F.UPD_STATUS_KIND 1
  let s : State := s.set F.UPD_STATUS_SLOT 1
  { s with boot := { s.boot with tabTried := true }, hif := { s.hif with current := some (testFrame 0x306 []), answer := none } }
def wit_updAbort3 : State :=
  let s := State.reset
  let s : State := s.set F.SYS_STATE_STATE 2
  let s : State := s.set F.UPD_STATUS_STATE 3
  { s with boot := { s.boot with tabTried := true }, hif := { s.hif with current := some (testFrame 0x306 []), answer := none } }
def wit_confirm1 : State :=
  let s := State.reset
  let s : State := s.set F.SYS_STATE_STATE 2
  let s : State := { s with boot := { s.boot with tab := { s.boot.tab with fwA := 0, fwB := 0 } } }
  { s with hif := { s.hif with current := some (testFrame 0x304 [1#32]), answer := none } }
def wit_confirm2 : State :=
  let s := State.reset
  let s : State := s.set F.SYS_STATE_STATE 2
  let s : State := s.set F.BOOT_VERS_FW_SVN 0
  let s : State := { s with boot := { s.boot with tabTried := true, tab := { s.boot.tab with fwA := slotTrial, fwB := slotTrial } } }
  { s with hif := { s.hif with current := some (testFrame 0x304 [1#32]), answer := none } }
def wit_confirm3 : State :=
  let s := State.reset
  let s : State := s.set F.SYS_STATE_STATE 2
  let s : State := s.put F.BOOT_STATUS_CFG_BUILTIN false
  let s : State := { s with boot := { s.boot with tabTried := true, tab := { s.boot.tab with fwA := slotGood, fwB := slotGood, cfgA := slotGood, cfgB := slotGood } } }
  { s with hif := { s.hif with current := some (testFrame 0x304 [3#32]), answer := none } }
set_option maxRecDepth 1000000 in
/-- The conditions of each clause of UpdateSessionActs can be met. -/
theorem test_met_UpdateSessionActs :
    (∃ (s : State) (f : Frame), s.flashFree = true ∧ s.hif.current = some f ∧ f.cmd = 0x0300 ∧ s.get F.UPD_STATUS_STATE ≠
      0) ∧
    (∃ (s : State) (tableOk : Bool) (f : Frame), s.flashFree = true ∧ s.hif.current = some f ∧ f.cmd = 0x0300 ∧ s.get
      F.UPD_STATUS_STATE = 0 ∧ s.handoverRuns = false ∧ s.bootWriteDue = false ∧ s.useIs 1 slotTrial = false ∧ f.payload =
      [1#32, BitVec.ofNat 32 0x1000] ∧ tableOk = true) ∧
    (∃ (s : State) (tableOk : Bool) (f : Frame), s.flashFree = true ∧ s.hif.current = some f ∧ f.cmd = 0x0300 ∧ s.get
      F.UPD_STATUS_STATE = 0 ∧ s.handoverRuns = false ∧ s.bootWriteDue = false ∧ s.useIs 1 slotTrial = false ∧ f.payload =
      [1#32, BitVec.ofNat 32 0x1000] ∧ s.boot.tab.fwLen (s.updTarget 1) ≠ 0 ∧ s.updTarget 1 < 2 ∧ tableOk = false) ∧
    (∃ (s : State) (f : Frame), s.flashFree = true ∧ s.hif.current = some f ∧ f.cmd = 0x0301 ∧ s.get F.UPD_STATUS_STATE =
      0) ∧
    (∃ (s : State) (failAt : Option Nat) (f : Frame) (x : Word), s.flashFree = true ∧ s.hif.current = some f ∧ f.cmd =
      0x0301 ∧ s.get F.UPD_STATUS_STATE = 1 ∧ f.session = s.upd.session ∧ s.updSuspended (s.get F.UPD_STATUS_KIND) = false ∧
      f.payload = [0#32, BitVec.ofNat 32 (crc32 (leBytes 4 x.toNat)), x] ∧ s.get F.UPD_NEXT_NEXT = 0 ∧ 4 ≤ s.get
      F.UPD_LEN_LEN ∧ s.upd.erasedTo = 0 ∧ failAt = none) ∧
    (∃ (s : State) (f : Frame), s.hif.current = some f ∧ f.cmd = 0x0302 ∧ s.foreign f = false ∧ (s.get F.UPD_STATUS_STATE
      ≠ 1 ∨ s.get F.UPD_NEXT_NEXT ≠ s.get F.UPD_LEN_LEN)) ∧
    (∃ (s : State) (f : Frame), s.hif.current = some f ∧ f.cmd = 0x0302 ∧ s.foreign f = false ∧ s.get F.UPD_STATUS_STATE =
      1 ∧ s.get F.UPD_NEXT_NEXT = s.get F.UPD_LEN_LEN ∧ (s.get F.UPD_STATUS_KIND == 1 && s.suspends 2) = false ∧ f.payload =
      []) ∧
    (∃ (s : State) (e : Fin 4) (f : Frame), s.hif.current = some f ∧ f.cmd = 0x0302 ∧ f.payload = [] ∧ s.foreign f = false
      ∧ s.get F.UPD_STATUS_STATE = 1 ∧ s.get F.UPD_NEXT_NEXT = s.get F.UPD_LEN_LEN ∧ s.get F.UPD_STATUS_KIND = 2 ∧
      (s.fullCheck e.val).1 = 1) ∧
    (∃ (s : State) (tableOk : Bool) (f : Frame), s.flashFree = true ∧ s.hif.current = some f ∧ f.cmd = 0x0303 ∧ s.foreign
      f = false ∧ f.payload = [3#32] ∧ s.bootWriteDue = false ∧ tableOk = true) ∧
    (∃ (s : State) (tableOk : Bool) (f : Frame), s.flashFree = true ∧ s.hif.current = some f ∧ f.cmd = 0x0303 ∧ s.foreign
      f = false ∧ s.get F.UPD_STATUS_STATE = 2 ∧ s.get F.UPD_STATUS_KIND = 1 ∧ f.payload = [1#32] ∧ s.bootWriteDue = false ∧
      tableOk = true) ∧
    (∃ (s : State) (tableOk : Bool) (f : Frame), s.flashFree = true ∧ s.hif.current = some f ∧ f.cmd = 0x0303 ∧ s.foreign
      f = false ∧ f.payload = [3#32] ∧ s.bootWriteDue = false ∧ tableOk = false) ∧
    (∃ (s : State) (f : Frame), s.flashFree = true ∧ s.hif.current = some f ∧ f.cmd = 0x0306 ∧ f.payload = [] ∧ s.get
      F.UPD_STATUS_STATE ≠ 3) ∧
    (∃ (s : State) (tableOk : Bool) (f : Frame), s.flashFree = true ∧ s.hif.current = some f ∧ f.cmd = 0x0306 ∧ f.payload
      = [] ∧ s.get F.UPD_STATUS_STATE = 3 ∧ s.get F.UPD_STATUS_KIND = 1 ∧ s.get F.UPD_STATUS_SLOT < 2 ∧ s.bootWriteDue =
      false ∧ tableOk = true) ∧
    (∃ (s : State) (tableOk : Bool) (f : Frame), s.flashFree = true ∧ s.hif.current = some f ∧ f.cmd = 0x0306 ∧ f.payload
      = [] ∧ s.get F.UPD_STATUS_STATE = 3 ∧ s.bootWriteDue = false ∧ tableOk = false) ∧
    (∃ (s : State) (f : Frame), s.flashFree = true ∧ s.hif.current = some f ∧ f.cmd = 0x0304 ∧ f.payload = [1#32] ∧
      s.useIs 1 slotTrial = false ∧ s.useIs 1 slotGood = false) ∧
    (∃ (s : State) (failedFw : List Nat) (fwTableOk : Bool) (f : Frame), s.flashFree = true ∧ s.hif.current = some f ∧
      f.cmd = 0x0304 ∧ f.payload = [1#32] ∧ s.useIs 1 slotTrial = true ∧ s.advances 1 = false ∧ s.advanceFails (thermBase 1)
      (s.svnOf 1) failedFw = false ∧ s.bootWriteDue = false ∧ fwTableOk = true) ∧
    (∃ (s : State) (f : Frame), s.flashFree = true ∧ s.hif.current = some f ∧ f.cmd = 0x0304 ∧ f.payload = [3#32] ∧
      s.useIs 1 slotGood = true ∧ s.useIs 2 slotGood = true ∧ s.bootWriteDue = false) :=
  ⟨⟨wit_updOpen1, (testFrame 0x300 [1#32,0x1000#32]), by decide +kernel⟩,
   ⟨wit_updOpen2, true, (testFrame 0x300 [1#32,0x1000#32]), by decide +kernel⟩,
   ⟨wit_updOpen3, false, (testFrame 0x300 [1#32,0x1000#32]), by decide +kernel⟩,
   ⟨wit_updBlock1, (testFrame 0x301 []), by decide +kernel⟩,
   ⟨wit_updBlock2, none, (testFrame 0x301 [0#32, BitVec.ofNat 32 (crc32 (leBytes 4 0x12345678)), 0x12345678#32]), 0x12345678#32, by decide +kernel⟩,
   ⟨wit_updClose1, (testFrame 0x302 []), by decide +kernel⟩,
   ⟨wit_updClose2, (testFrame 0x302 []), by decide +kernel⟩,
   ⟨wit_updClose3, 0, (testFrame 0x302 []), by decide +kernel⟩,
   ⟨wit_updActivate1, true, (testFrame 0x303 [3#32]), by decide +kernel⟩,
   ⟨wit_updActivate2, true, (testFrame 0x303 [1#32]), by decide +kernel⟩,
   ⟨wit_updActivate3, false, (testFrame 0x303 [3#32]), by decide +kernel⟩,
   ⟨wit_updAbort1, (testFrame 0x306 []), by decide +kernel⟩,
   ⟨wit_updAbort2, true, (testFrame 0x306 []), by decide +kernel⟩,
   ⟨wit_updAbort3, false, (testFrame 0x306 []), by decide +kernel⟩,
   ⟨wit_confirm1, (testFrame 0x304 [1#32]), by decide +kernel⟩,
   ⟨wit_confirm2, [], true, (testFrame 0x304 [1#32]), by decide +kernel⟩,
   ⟨wit_confirm3, (testFrame 0x304 [3#32]), by decide +kernel⟩⟩

def wit_handover1 : State :=
  let s := State.reset
  let s : State := s.set F.SYS_STATE_STATE 2
  let s : State := s.put F.UPD_CFG_HO_EN false
  { s with hif := { s.hif with current := some (testFrame 0x305 []), answer := none } }
def wit_handover2 : State :=
  let s := State.reset
  let s : State := s.set F.SYS_STATE_STATE 2
  let s : State := s.put F.UPD_CFG_HO_EN true
  let s : State := s.set F.UPD_STATUS_STATE 0
  let s : State := s.set F.BOOT_VERS_FW_IFACE 0xFF01
  let s : State := s.put F.BOOT_STATUS_CFG_BUILTIN true
  let s : State := { s with upd := {}, sec := { s.sec with suspended := 0 }, flash := [], boot := { s.boot with tabTried := true, tab := { s.boot.tab with fwA := slotPending, fwB := slotPending } } }
  { s with hif := { s.hif with current := some (testFrame 0x305 []), answer := none } }
def wit_handoverRomVerify1 : State :=
  let s := State.reset
  { s with upd := { s.upd with paused := true, step := 3, toSlot := 1, fromSlot := 0 } }
def wit_handoverAdopt1 : State :=
  let s := State.reset
  { s with upd := { s.upd with paused := true, step := 5, record := [0x4B#8, 0x51#8, 0x48#8, 0x4F#8, 0x36#8, 0xD7#8, 0x35#8, 0xB3#8] } }
def wit_handoverAdopt2 : State :=
  let s := State.reset
  { s with upd := { s.upd with paused := true, step := 5 } }
def wit_handoverAdopt3 : State :=
  let s := State.reset
  { s with upd := { s.upd with paused := true, step := 5, badSlot := none, record := [0x4B#8, 0x51#8, 0x48#8, 0x4F#8, 0x36#8, 0xD7#8, 0x35#8, 0xB3#8] }, hif := { s.hif with exec := [] }, flt := { s.flt with deferT9 := none }, bus := { s.bus with autumnDue := none } }
def wit_handoverAdopt4 : State :=
  let s := State.reset
  let s : State := s.set F.SYS_STATE_STATE 2
  { s with upd := { s.upd with paused := true, step := 5 }, hif := { s.hif with exec := [] } }
def wit_handoverDigests1 : State :=
  let s := State.reset
  { s with upd := { s.upd with paused := false, step := 6 }, boot := { s.boot with fwHdr := [] } }
def wit_handoverDigests2 : State :=
  let s := State.reset
  { s with upd := { s.upd with paused := false, step := 6 } }
def wit_handoverDigests3 : State :=
  let s := State.reset
  let s : State := s.set F.SYS_STATE_STATE 2
  { s with flash := [], upd := { s.upd with step := 6, paused := false, toSlot := 0 }, boot := { s.boot with fwHdr := List.replicate 0x7C 0#8 ++ [4#8] ++ List.replicate 0x383 0#8 } }
def wit_handback1 : State :=
  let s := State.reset
  { s with upd := { s.upd with badSlot := some 1, step := 9, paused := false } }
def wit_handback2 : State :=
  let s := State.reset
  let s : State := s.put (F.FLT_ESC_DIS 0x2A) true
  let s : State := s.set F.SYS_STATE_STATE 2
  { s with upd := { s.upd with badSlot := some 0, step := 9, paused := false, codeTo := 9 } }
def wit_engineReload1 : State :=
  let s := State.reset
  { s with upd := { s.upd with held := none, step := 7, paused := false, left := [11], passed := [] } }
def wit_engineReload2 : State :=
  let s := State.reset
  { s with upd := { s.upd with held := some 13, step := 7, paused := false } }
def wit_engineReload3 : State :=
  let s := State.reset
  let s : State := s.set F.SYS_STATE_STATE 2
  let s : State := { s with flash := [], upd := { s.upd with held := some 11, step := 7, toSlot := 0, left := [12], passed := [] }, hif := { s.hif with exec := [] } }
  { s with boot := { s.boot with fwHdr := List.replicate 0x268 0#8 ++ sha256 [] } }
def wit_engineReload4 : State :=
  let s := State.reset
  let s : State := s.set F.SYS_STATE_STATE 2
  let s : State := s.put (F.FLT_ESC_DIS 0x2A) true
  let s : State := { s with flash := [], upd := { s.upd with held := some 15, step := 7, toSlot := 1, left := [], passed := [] }, hif := { s.hif with exec := [] } }
  { s with boot := { s.boot with fwHdr := List.replicate 0x328 0#8 ++ sha256 [] } }
def wit_engineReload5 : State :=
  let s := State.reset
  let s : State := s.set F.SYS_STATE_STATE 2
  { s with upd := { s.upd with held := some 13, step := 7, paused := false }, hif := { s.hif with exec := [] } }
/-- The conditions of each clause of LiveHandoverActs can be met. -/
theorem test_met_LiveHandoverActs :
    (∃ (s : State) (f : Frame), s.hif.current = some f ∧ f.cmd = 0x0305 ∧ s.has F.UPD_CFG_HO_EN = false) ∧
    (∃ (s : State) (f : Frame), s.hif.current = some f ∧ f.cmd = 0x0305 ∧ s.has F.UPD_CFG_HO_EN = true ∧ s.suspends 2 =
      false ∧ s.get F.UPD_STATUS_STATE ≠ 1 ∧ s.bootWriteDue = false ∧ s.handoverRuns = false ∧ s.boot.tab.fwState (1 - s.get
      F.BOOT_STATUS_FW_SLOT) = slotPending ∧ leAt (s.flashRead (fwBase (1 - s.get F.BOOT_STATUS_FW_SLOT)) 0x400) 0x0E 2 /
      256 = s.get F.BOOT_VERS_FW_IFACE / 256 ∧ s.minIface ≤ leAt (s.flashRead (fwBase (1 - s.get F.BOOT_STATUS_FW_SLOT))
      0x400) 0x0E 2 ∧ f.payload = []) ∧
    (∃ (s : State), s.upd.paused = true ∧ s.upd.step = 3) ∧
    (∃ (s : State) (damaged : Bool), s.upd.paused = true ∧ s.upd.step = 5 ∧ (!damaged && recordValid s.upd.record) = true) ∧
    (∃ (s : State) (damaged : Bool), s.upd.paused = true ∧ s.upd.step = 5 ∧ damaged = true) ∧
    (∃ (s : State) (damaged : Bool), s.upd.paused = true ∧ s.upd.step = 5 ∧ s.upd.badSlot = none ∧ s.flt.deferT9 = none ∧
      s.bus.autumnDue = none ∧ s.hif.exec = [] ∧ (!damaged && recordValid s.upd.record) = true) ∧
    (∃ (s : State) (damaged : Bool), s.upd.paused = true ∧ s.upd.step = 5 ∧ damaged = true ∧ s.isAny [.spring, .summer] =
      true ∧ s.hif.exec = []) ∧
    (∃ (s : State) (readOk : Bool), s.upd.step = 6 ∧ s.upd.paused = false ∧ readOk = true ∧ s.sectionsOk (fwBase
      s.upd.toSlot) s.boot.fwHdr ((List.range 15).map (· + 1)) = true) ∧
    (∃ (s : State) (readOk : Bool), s.upd.step = 6 ∧ s.upd.paused = false ∧ readOk = false) ∧
    (∃ (s : State), s.upd.step = 6 ∧ s.upd.paused = false ∧ s.sectionsOk (fwBase s.upd.toSlot) s.boot.fwHdr ((List.range
      15).map (· + 1)) = false) ∧
    (∃ (s : State) (tableOk : Bool), s.flashFree = true ∧ s.upd.badSlot = some 1 ∧ s.upd.step = 9 ∧ s.upd.paused = false ∧
      tableOk = true) ∧
    (∃ (s : State), s.flashFree = true ∧ s.upd.badSlot = some 0 ∧ s.upd.step = 9 ∧ s.upd.paused = false ∧ s.calm 0x2A =
      true) ∧
    (∃ (s : State) (r : Nat × List Nat × List Nat), s.flashFree = true ∧ s.upd.held = none ∧ s.upd.step = 7 ∧ s.upd.paused
      = false ∧ s.nextReload s.upd.left s.upd.passed = some r ∧ r.1 < 14) ∧
    (∃ (s : State) (ok : Bool), s.flashFree = true ∧ s.upd.held = some 13 ∧ ok = false) ∧
    (∃ (s : State) (ok : Bool) (e : Nat), s.flashFree = true ∧ s.upd.held = some e ∧ enginePort? e = none ∧ e ≠ 14 ∧ ok =
      true ∧ s.sectionOk (fwBase s.upd.toSlot) s.boot.fwHdr e = true ∧ s.upd.step = 7 ∧ s.upd.left ≠ [] ∧ s.hif.exec = []) ∧
    (∃ (s : State) (ok : Bool) (e : Nat), s.flashFree = true ∧ s.upd.held = some e ∧ enginePort? e = none ∧ e ≠ 14 ∧ ok =
      true ∧ s.sectionOk (fwBase s.upd.toSlot) s.boot.fwHdr e = true ∧ s.upd.step = 7 ∧ s.upd.left = [] ∧ s.upd.passed = []
      ∧ s.upd.toSlot < 2 ∧ s.hif.exec = [] ∧ s.calm 0x2A = true) ∧
    (∃ (s : State) (ok : Bool) (e : Nat), s.flashFree = true ∧ s.upd.held = some e ∧ enginePort? e = none ∧ e ≠ 14 ∧ ok =
      false ∧ s.isAny [.spring, .summer] = true ∧ s.upd.paused = false ∧ s.hif.exec = []) :=
  ⟨⟨wit_handover1, (testFrame 0x305 []), by decide +kernel⟩,
   ⟨wit_handover2, (testFrame 0x305 []), by decide +kernel⟩,
   ⟨wit_handoverRomVerify1, by decide +kernel⟩,
   ⟨wit_handoverAdopt1, false, by decide +kernel⟩,
   ⟨wit_handoverAdopt2, true, by decide +kernel⟩,
   ⟨wit_handoverAdopt3, false, by decide +kernel⟩,
   ⟨wit_handoverAdopt4, true, by decide +kernel⟩,
   ⟨wit_handoverDigests1, true, by decide +kernel⟩,
   ⟨wit_handoverDigests2, false, by decide +kernel⟩,
   ⟨wit_handoverDigests3, by decide +kernel⟩,
   ⟨wit_handback1, true, by decide +kernel⟩,
   ⟨wit_handback2, by decide +kernel⟩,
   ⟨wit_engineReload1, (11,[],[]), by decide +kernel⟩,
   ⟨wit_engineReload2, false, by decide +kernel⟩,
   ⟨wit_engineReload3, true, 11, by decide +kernel⟩,
   ⟨wit_engineReload4, true, 15, by decide +kernel⟩,
   ⟨wit_engineReload5, false, 13, by decide +kernel⟩⟩

def wit_recOpen1 : State :=
  let s := State.reset
  let s : State := s.put F.OTP_STATUS_SCRAP true
  { s with hif := { s.hif with current := some (testFrame 0x380 [1#32,0x1000#32]), answer := none } }
def wit_recOpen2 : State :=
  let s := State.reset
  let s : State := s.set F.SYS_STATE_STATE 5
  let s : State := s.set F.UPD_STATUS_STATE 0
  let s : State := s.put F.OTP_STATUS_SCRAP false
  let s : State := { s with boot := { s.boot with tab := { s.boot.tab with fwA := 0, fwB := 0, fwLenA := 0, fwLenB := 0 } } }
  { s with hif := { s.hif with current := some (testFrame 0x380 [1#32,0x1000#32]), answer := none } }
def wit_recBlock1 : State :=
  let s := State.reset
  let s : State := s.set F.UPD_STATUS_STATE 0
  { s with hif := { s.hif with current := some (testFrame 0x381 []), answer := none } }
def wit_recBlock2 : State :=
  let s := State.reset
  let s : State := s.set F.UPD_STATUS_STATE 1
  let s : State := s.set F.UPD_STATUS_KIND 1
  let s : State := s.set F.UPD_NEXT_NEXT 0
  let s : State := s.set F.UPD_LEN_LEN 0x1000
  let s : State := { s with upd := { s.upd with erasedTo := 0 }, sec := { s.sec with suspended := 0 } }
  { s with hif := { s.hif with current := some (testFrame 0x381 [0#32, BitVec.ofNat 32 (crc32 (leBytes 4 0x12345678)), 0x12345678#32]), answer := none } }
def wit_recBlock3 : State :=
  let s := State.reset
  let s : State := s.set F.SYS_STATE_STATE 7
  let s : State := s.set F.UPD_STATUS_STATE 1
  let s : State := { s with sec := { s.sec with suspended := 0 } }
  { s with hif := { s.hif with current := some (testFrame 0x381 [0#32]), answer := none } }
def wit_recClose1 : State :=
  let s := State.reset
  let s : State := s.set F.UPD_STATUS_STATE 1
  let s : State := s.set F.UPD_STATUS_KIND 1
  let s : State := s.set F.UPD_NEXT_NEXT 0
  let s : State := s.set F.UPD_LEN_LEN 0
  let s : State := { s with upd := { s.upd with erasedTo := 0 }, sec := { s.sec with suspended := 0 } }
  { s with hif := { s.hif with current := some (testFrame 0x382 []), answer := none } }
def wit_recClose2 : State :=
  let s := State.reset
  let s : State := s.set F.SYS_STATE_STATE 7
  let s : State := s.set F.UPD_STATUS_STATE 1
  let s : State := s.set F.UPD_STATUS_KIND 2
  let s : State := s.set F.UPD_STATUS_SLOT 0
  let s : State := s.set F.UPD_NEXT_NEXT 0xe4
  let s : State := s.set F.UPD_LEN_LEN 0xe4
  let s : State := { s with sec := { s.sec with suspended := 0, cfgSign := false, force := [] }, upd := { s.upd with session := 0xFFFFFFFF } }
  let s : State := { s with flash := testFlash (cfgBase 0) testCfgImage, boot := { s.boot with tab := { s.boot.tab with fwA := 0, fwB := 0 }, fwHdr := [] } }
  { s with hif := { s.hif with current := some (testFrame 0x382 []), answer := none } }
def wit_recStatus1 : State :=
  let s := State.reset
  { s with hif := { s.hif with current := some (testFrame 0x383 []), answer := none } }
def wit_otpProgram1 : State :=
  let s := State.reset
  let s : State := { s with hif := { s.hif with current := some (testFrame 0x400 []) }, otp := [], sec := {}, env := { s.env with vinOk := true }, msr := { s.msr with res := [(0x6F, (4001, 0, 0))] } }
  s.put F.BUS_STATUS_VDRV_DROP false
def wit_otpProgram2 : State :=
  let s := State.reset
  { s with hif := { s.hif with current := some (testFrame 0x400 []) } }
def wit_otpLock1 : State :=
  let s := State.reset
  let s : State := { s with hif := { s.hif with current := some (testFrame 0x401 []) }, otp := [], sec := {}, env := { s.env with vinOk := true }, msr := { s.msr with res := [(0x6F, (4001, 0, 0))] } }
  s.put F.BUS_STATUS_VDRV_DROP false
def wit_otpLock2 : State :=
  let s := State.reset
  { s with hif := { s.hif with current := some (testFrame 0x401 []) }, otp := [], sec := {} }
def wit_otpLock3 : State :=
  let s := State.reset
  let s : State := s.set F.SYS_STATE_STATE 2
  { s with hif := { s.hif with current := some (testFrame 0x401 []), answer := none } }
def wit_revokeFwkey1 : State :=
  let s := State.reset
  let s : State := { s with hif := { s.hif with current := some (testFrame 0x402 []) }, boot := { s.boot with fwHdr := [] }, sec := { force := [(0x24, 1#32)] }, env := { s.env with vinOk := true }, msr := { s.msr with res := [(0x6F, (4001, 0, 0))] } }
  s.put F.BUS_STATUS_VDRV_DROP false
def wit_policySet1 : State :=
  let s := State.reset
  let s : State := { s with hif := { s.hif with current := some (testFrame 0x403 []) }, sec := {}, env := { s.env with vinOk := true }, msr := { s.msr with res := [(0x6F, (4001, 0, 0))] } }
  s.put F.BUS_STATUS_VDRV_DROP false
set_option maxRecDepth 1000000 in
/-- The conditions of each clause of RecoveryAndOtpCommandsAct can be met. -/
theorem test_met_RecoveryAndOtpCommandsAct :
    (∃ (s : State) (f : Frame), s.hif.current = some f ∧ f.cmd = 0x0380 ∧ s.has F.OTP_STATUS_SCRAP = true) ∧
    (∃ (s : State) (tableOk : Bool) (f : Frame), s.hif.current = some f ∧ f.cmd = 0x0380 ∧ s.has F.OTP_STATUS_SCRAP =
      false ∧ s.get F.UPD_STATUS_STATE = 0 ∧ f.payload = [1#32, BitVec.ofNat 32 0x1000] ∧ tableOk = true) ∧
    (∃ (s : State) (f : Frame), s.hif.current = some f ∧ f.cmd = 0x0381 ∧ s.get F.UPD_STATUS_STATE ≠ 1) ∧
    (∃ (s : State) (failAt : Option Nat) (f : Frame) (x : Word), s.hif.current = some f ∧ f.cmd = 0x0381 ∧ s.get
      F.UPD_STATUS_STATE = 1 ∧ s.updSuspended (s.get F.UPD_STATUS_KIND) = false ∧ f.payload = [0#32, BitVec.ofNat 32 (crc32
      (leBytes 4 x.toNat)), x] ∧ s.get F.UPD_NEXT_NEXT = 0 ∧ 4 ≤ s.get F.UPD_LEN_LEN ∧ s.upd.erasedTo = 0 ∧ failAt = none) ∧
    (∃ (s : State) (f : Frame), s.hif.current = some f ∧ f.cmd = 0x0381 ∧ s.get F.UPD_STATUS_STATE = 1 ∧ s.updSuspended
      (s.get F.UPD_STATUS_KIND) = false ∧ f.payload.length < 3) ∧
    (∃ (s : State) (e : Fin 4) (f : Frame), s.hif.current = some f ∧ f.cmd = 0x0382 ∧ s.get F.UPD_STATUS_STATE = 1 ∧ s.get
      F.UPD_NEXT_NEXT = s.get F.UPD_LEN_LEN ∧ (s.get F.UPD_STATUS_KIND == 1 && s.suspends 2) = false ∧ f.payload = [] ∧
      (s.fullCheck e.val).1 ≠ 1) ∧
    (∃ (s : State) (e : Fin 4) (tableOk : Bool) (f : Frame), s.hif.current = some f ∧ f.cmd = 0x0382 ∧ f.payload = [] ∧
      s.get F.UPD_STATUS_STATE = 1 ∧ s.get F.UPD_NEXT_NEXT = s.get F.UPD_LEN_LEN ∧ s.get F.UPD_STATUS_KIND = 2 ∧ s.get
      F.UPD_STATUS_SLOT < 2 ∧ (s.fullCheck e.val).1 = 1 ∧ tableOk = true) ∧
    (∃ (s : State) (f : Frame), s.hif.current = some f ∧ f.cmd = 0x0383 ∧ f.payload = []) ∧
    (∃ (s : State) (n : BitVec 8) (bits : Word) (failed : Word) (f : Frame), s.hif.current = some f ∧ f.cmd = 0x0400 ∧
      n.toNat < 0x8E ∧ s.regionLocked (otpRegion n.toNat) = false ∧ s.policy 0 = false ∧ otpScrambled n.toNat = false ∧
      s.otpSuspended = false ∧ s.otpConditions = true ∧ bits &&& failed = 0#32) ∧
    (∃ (s : State) (f : Frame), s.hif.current = some f ∧ f.cmd = 0x0400) ∧
    (∃ (s : State) (n : Fin 8) (reads : List (Nat × Word × Word × Word)) (failed : Bool) (f : Frame), s.hif.current = some
      f ∧ f.cmd = 0x0401 ∧ s.regionLocked n.val = false ∧ s.otpSuspended = false ∧ s.lockable reads n.val = true ∧
      s.otpConditions = true ∧ failed = false) ∧
    (∃ (s : State) (n : Fin 8) (reads : List (Nat × Word × Word × Word)) (f : Frame), s.hif.current = some f ∧ f.cmd =
      0x0401 ∧ s.regionLocked n.val = false ∧ s.otpSuspended = false ∧ s.lockable reads n.val = false) ∧
    (∃ (s : State) (arg : Option (Fin 8)) (f : Frame), s.hif.current = some f ∧ f.cmd = 0x0401 ∧ (arg = none ∨ (arg.any
      fun n => s.regionLocked n.val) = true)) ∧
    (∃ (s : State) (i : Fin 4) (failed : Bool) (f : Frame), s.hif.current = some f ∧ f.cmd = 0x0402 ∧ leAt s.boot.fwHdr
      0x0D 1 ≠ i.val ∧ (((List.range 4).filter fun j => decide (j ≠ i.val)).all s.keyGone = false) ∧ s.suspends 6 = false ∧
      s.otpConditions = true ∧ failed = false) ∧
    (∃ (s : State) (p : BitVec 4) (failed : BitVec 4) (f : Frame), s.hif.current = some f ∧ f.cmd = 0x0403 ∧ p.getLsbD 0 =
      false ∧ s.suspends 6 = false ∧ s.otpConditions = true ∧ p &&& failed = 0#4) :=
  ⟨⟨wit_recOpen1, (testFrame 0x380 [1#32,0x1000#32]), by decide +kernel⟩,
   ⟨wit_recOpen2, true, (testFrame 0x380 [1#32,0x1000#32]), by decide +kernel⟩,
   ⟨wit_recBlock1, (testFrame 0x381 []), by decide +kernel⟩,
   ⟨wit_recBlock2, none, (testFrame 0x381 [0#32, BitVec.ofNat 32 (crc32 (leBytes 4 0x12345678)), 0x12345678#32]), 0x12345678#32, by decide +kernel⟩,
   ⟨wit_recBlock3, (testFrame 0x381 [0#32]), by decide +kernel⟩,
   ⟨wit_recClose1, 1, (testFrame 0x382 []), by decide +kernel⟩,
   ⟨wit_recClose2, 0, true, (testFrame 0x382 []), by decide +kernel⟩,
   ⟨wit_recStatus1, (testFrame 0x383 []), by decide +kernel⟩,
   ⟨wit_otpProgram1, 5#8, 3#32, 0#32, (testFrame 0x400 []), by decide +kernel⟩,
   ⟨wit_otpProgram2, (testFrame 0x400 []), by decide +kernel⟩,
   ⟨wit_otpLock1, 7, [(0x8D, wordsDigest ((regionWords 7).map fun _ => 0#32), wordsDigest ((regionWords 7).map fun _ => 0#32), wordsDigest ((regionWords 7).map fun _ => 0#32))], false, (testFrame 0x401 []), by decide +kernel⟩,
   ⟨wit_otpLock2, 3, [], (testFrame 0x401 []), by decide +kernel⟩,
   ⟨wit_otpLock3, none, (testFrame 0x401 []), by decide +kernel⟩,
   ⟨wit_revokeFwkey1, 2, false, (testFrame 0x402 []), by decide +kernel⟩,
   ⟨wit_policySet1, 6#4, 0#4, (testFrame 0x403 []), by decide +kernel⟩⟩

def wit_adcConversion1 : State :=
  let s := State.reset
  s.set F.SCH_STATUS_ACTIVE 0
def wit_adcConversion2 : State :=
  let s := State.reset
  let s : State := s.set F.SCH_STATUS_ACTIVE 1
  { s with tbZero := none, now := 5, msr := { s.msr with bankA := [(12292, 0x65#32)], bankB := [(12292, 0x65#32)] } }
def wit_framePlausibility1 : State :=
  let s := State.reset
  { s with msr := { s.msr with badNow := 0 } }
def wit_framePlausibility2 : State :=
  let s := State.reset
  { s with msr := { s.msr with badNow := 4, badRun := [0, 0, 0, 0] } }
def wit_superframeChecks1 : State :=
  let s := State.reset
  let s : State := s.set F.SCH_STATUS_ACTIVE 0
  { s with msr := {} }
def wit_schDataWrite1 : State :=
  let s := State.reset
  s.put F.SCH_STATUS_BUSY false
def wit_schDataWrite2 : State :=
  let s := State.reset
  s.put F.SCH_STATUS_BUSY true
def wit_schSwapReq1 : State :=
  let s := State.reset
  s.put F.SCH_STATUS_BUSY false
def wit_schSwapReq2 : State :=
  let s := State.reset
  s.put F.SCH_STATUS_BUSY true
def wit_scheduleCheck1 : State :=
  let s := State.reset
  let s : State := s.put F.SCH_STATUS_BUSY true
  { s with msr := { s.msr with passed := false } }
def wit_scheduleCheck2 : State :=
  let s := State.reset
  let s : State := s.put F.SCH_STATUS_BUSY true
  let s : State := { s with msr := { s.msr with passed := false, bankA := [(7, 0x9F#32)], bankB := [(7, 0x9F#32)] } }
  s.put (F.FLT_ESC_DIS 0x25) true
def wit_scheduleSwap1 : State :=
  let s := State.reset
  let s : State := s.put F.SCH_STATUS_BUSY true
  let s : State := s.set F.SYS_STATE_STATE 2
  { s with msr := { s.msr with passed := true } }
def wit_windowOutside1 : State :=
  let s := State.reset
  let s : State := s.set F.SYS_STATE_STATE 2
  s.set (F.MSR_GPW_CHAN 2) 0x66
def wit_windowOutside2 : State :=
  let s := State.reset
  let s : State := s.set F.SYS_STATE_STATE 2
  let s : State := { s with boot := { s.boot with portsAbsent := 0 } }
  s.put (F.FLT_ESC_DIS 1) true
/-- The conditions of each clause of MeasurementAndScheduleAct can be met. -/
theorem test_met_MeasurementAndScheduleAct :
    (∃ (s : State) (pos : Nat) (r3 : Option (BitVec 14)) (c : BitVec 14), s.isIn .deepWinter = false ∧ s.get
      F.SCH_STATUS_ACTIVE = 0 ∧ pos % 4 = 0 ∧ r3 = some c) ∧
    (∃ (s : State) (pos : Nat) (ecc : BitVec 4) (r3 : Option (BitVec 14)) (c : BitVec 14), s.isIn .deepWinter = false ∧
      s.get F.SCH_STATUS_ACTIVE ≠ 0 ∧ pos < 128 ∧ ecc.getLsbD 3 = false ∧ s.entryNow 3 pos % 256 ≠ 0xFF ∧ (s.entryNow 3
      pos).testBit 8 = false ∧ r3 = some c) ∧
    (∃ (s : State), s.msr.badNow = 0) ∧
    (∃ (s : State), s.msr.badNow.testBit 2 = true ∧ s.msr.badRun = [0, 0, 0, 0]) ∧
    (∃ (s : State) (outside : BitVec 64), s.get F.SCH_STATUS_ACTIVE = 0 ∧ s.msr.windows = [] ∧ ((List.range 64).all (fun w
      => !s.windowDisagrees w (outside.getLsbD w)) = true)) ∧
    (∃ (s : State), s.has F.SCH_STATUS_BUSY = false) ∧
    (∃ (s : State), s.has F.SCH_STATUS_BUSY = true) ∧
    (∃ (s : State), s.has F.SCH_STATUS_BUSY = false) ∧
    (∃ (s : State), s.has F.SCH_STATUS_BUSY = true) ∧
    (∃ (s : State), s.has F.SCH_STATUS_BUSY = true ∧ s.msr.passed = false) ∧
    (∃ (s : State) (e : Nat × Nat), s.has F.SCH_STATUS_BUSY = true ∧ s.msr.passed = false ∧ s.firstInvalid = some e ∧
      s.calm 0x25 = true) ∧
    (∃ (s : State), s.has F.SCH_STATUS_BUSY = true ∧ s.msr.passed = true ∧ s.isIn .spring = false) ∧
    (∃ (s : State) (win : Nat), 55 ≤ win ∧ win < 64 ∧ s.get (F.MSR_GPW_CHAN (win - 55)) ≠ 0xFF ∧ s.isAny [.romBoot,
      .deepWinter] = false) ∧
    (∃ (s : State) (win : Nat) (high : Bool), 16 ≤ win ∧ win < 25 ∧ high = true ∧ s.portPresent (portId (win - 16)) = true
      ∧ s.calm (win - 15) = true ∧ s.isAny [.romBoot, .deepWinter] = false) :=
  ⟨⟨wit_adcConversion1, 4, (some 100#14), 100#14, by decide +kernel⟩,
   ⟨wit_adcConversion2, 4, 0#4, (some 100#14), 100#14, by decide +kernel⟩,
   ⟨wit_framePlausibility1, by decide +kernel⟩,
   ⟨wit_framePlausibility2, by decide +kernel⟩,
   ⟨wit_superframeChecks1, 5#64, by decide +kernel⟩,
   ⟨wit_schDataWrite1, by decide +kernel⟩,
   ⟨wit_schDataWrite2, by decide +kernel⟩,
   ⟨wit_schSwapReq1, by decide +kernel⟩,
   ⟨wit_schSwapReq2, by decide +kernel⟩,
   ⟨wit_scheduleCheck1, by decide +kernel⟩,
   ⟨wit_scheduleCheck2, (7,0x9F), by decide +kernel⟩,
   ⟨wit_scheduleSwap1, by decide +kernel⟩,
   ⟨wit_windowOutside1, 57, by decide +kernel⟩,
   ⟨wit_windowOutside2, 16, true, by decide +kernel⟩⟩

def wit_captureArm1 : State :=
  let s := State.reset
  s.set F.CAP_STATUS_STATE 0
def wit_captureArm2 : State :=
  let s := State.reset
  s.set F.CAP_STATUS_STATE 1
def wit_captureForce1 : State :=
  let s := State.reset
  s.set F.CAP_STATUS_STATE 1
def wit_captureTrigger1 : State :=
  let s := State.reset
  s.set F.CAP_STATUS_STATE 1
def wit_captureTrigger2 : State :=
  let s := State.reset
  s.set F.CAP_STATUS_STATE 3
def wit_captureFull1 : State :=
  let s := State.reset
  let s : State := s.set F.CAP_STATUS_STATE 2
  { s with cap := { s.cap with left := 0 } }
def wit_captureRelease1 : State :=
  let s := State.reset
  let s : State := s.set F.CAP_STATUS_STATE 3
  s.put F.CAP_SPILL_EN false
/-- The conditions of each clause of CaptureStatesFollow can be met. -/
theorem test_met_CaptureStatesFollow :
    (∃ (s : State) (w : Word), s.get F.CAP_STATUS_STATE = 0 ∧ w.getLsbD 0 = true ∧ w.getLsbD 2 = false) ∧
    (∃ (s : State) (w : Word), s.get F.CAP_STATUS_STATE = 1 ∧ w.getLsbD 0 = false ∧ w.getLsbD 2 = false) ∧
    (∃ (s : State), s.get F.CAP_STATUS_STATE = 1) ∧
    (∃ (s : State), s.get F.CAP_STATUS_STATE = 1) ∧
    (∃ (s : State), 2 ≤ s.get F.CAP_STATUS_STATE) ∧
    (∃ (s : State), s.get F.CAP_STATUS_STATE = 2 ∧ s.cap.left = 0) ∧
    (∃ (s : State), s.get F.CAP_STATUS_STATE = 3 ∧ s.has F.CAP_SPILL_EN = false) :=
  ⟨⟨wit_captureArm1, 0x4001#32, by decide +kernel⟩,
   ⟨wit_captureArm2, 0#32, by decide +kernel⟩,
   ⟨wit_captureForce1, by decide +kernel⟩,
   ⟨wit_captureTrigger1, by decide +kernel⟩,
   ⟨wit_captureTrigger2, by decide +kernel⟩,
   ⟨wit_captureFull1, by decide +kernel⟩,
   ⟨wit_captureRelease1, by decide +kernel⟩⟩

def wit_ccChange1 : State :=
  let k : PortId := 0
  let s := State.reset
  let s : State := s.set (F.ATT_STATUS_ASTATE k) 1
  s.modAtt k fun a => { a with wetBias := false }
def wit_ccChange2 : State :=
  let k : PortId := 8
  let s := State.reset
  let s : State := s.set (F.ATT_STATUS_ASTATE k) 2
  s.modAtt k fun a => { a with asSource := false }
def wit_attachDebounceElapsed1 : State :=
  let k : PortId := 0
  let s := State.reset
  let s : State := s.set (F.ATT_STATUS_ASTATE k) 2
  let s : State := s.arm (.ccDebounce k) 0
  let s : State := s.modPd k fun p => { p with reloading := false }
  let s : State := s.modPins k fun p => { p with cc1 := .rd, cc2 := .rd }
  let s : State := { s with env := { s.env with vinOk := true } }
  let s : State := s.modAtt k fun a => { a with asSource := true }
  s.set F.SYS_STATE_STATE 2
def wit_attachDebounceElapsed2 : State :=
  let k : PortId := 8
  let s := State.reset
  let s : State := s.set (F.ATT_STATUS_ASTATE k) 2
  let s : State := s.arm (.ccDebounce k) 0
  let s : State := s.modPd k fun p => { p with reloading := false }
  let s : State := s.modPins k fun p => { p with cc1 := .opn, cc2 := .rp30 }
  s.modAtt k fun a => { a with asSource := false }
def wit_vbusApplyJudge1 : State :=
  let k : PortId := 0
  let s := State.reset
  let s : State := s.put F.PROT_STATUS_SEALED true
  let s : State := s.set (F.ATT_STATUS_ASTATE k) 6
  let s : State := s.set (F.ATT_STATUS_ORIENT k) 1
  let s : State := s.put (F.ATT_STATUS_PWR_ROLE k) false
  let s : State := s.set (F.BRK_STATUS_STATE k) 0
  let s : State := s.set (F.ATT_STATUS_DRY k) 2
  let s : State := s.put (F.ATT_STATUS_SEATED k) true
  let s : State := s.modPd k fun p => { p with reloading := false, hr := .none }
  let s : State := s.modPins k fun p => { p with vcsnsSafe := true }
  let s : State := s.set (F.BUD_GRANT_CEIL k) 1000
  let s : State := { s with env := { s.env with vinOk := true } }
  s.set F.BUS_STATUS_SHED 0
def wit_vbusApplyJudge2 : State :=
  let k : PortId := 0
  let s := State.reset
  let s : State := s.set (F.ATT_STATUS_ASTATE k) 6
  let s : State := s.set (F.ATT_STATUS_ORIENT k) 1
  let s : State := s.put (F.ATT_STATUS_PWR_ROLE k) false
  let s : State := s.set (F.BRK_STATUS_STATE k) 0
  let s : State := s.modPd k fun p => { p with reloading := false, hr := .none }
  s.modPins k fun p => { p with vcsnsSafe := false }
def wit_detach1 : State :=
  let k : PortId := 0
  let s := State.reset
  let s : State := s.set (F.ATT_STATUS_ASTATE k) 7
  let s : State := s.set (F.ATT_STATUS_ORIENT k) 1
  s.put (F.ATT_STATUS_PWR_ROLE k) false
def wit_vcsnsSafe0Reached1 : State :=
  let k : PortId := 0
  let s := State.reset
  let s : State := s.set (F.ATT_STATUS_ASTATE k) 3
  let s : State := s.set (F.ATT_STATUS_ORIENT k) 0
  let s : State := s.modPins k fun p => { p with cc1 := .opn, cc2 := .opn, vcsnsSafe := false }
  let s : State := s.set (F.BRK_STATUS_STATE k) 0
  let s : State := { s with boot := { s.boot with engRun := 0xFFFF, portsAbsent := 0 } }
  s.set F.SEC_PORTEN_EN 0x1FF
def wit_seated1 : State :=
  let k : PortId := 0
  let s := State.reset
  let s : State := s.put (F.ATT_CFG_SEAT_EN k) true
  s.set (F.ATT_STATUS_ASTATE k) 4
def wit_seatLost1 : State :=
  let k : PortId := 0
  let s := State.reset
  let s : State := s.put (F.ATT_CFG_SEAT_EN k) true
  let s : State := s.set (F.ATT_STATUS_ASTATE k) 7
  s.set (F.BRK_STATUS_STATE k) 4
def wit_vconnOvercurrent1 : State :=
  let k : PortId := 0
  let s := State.reset
  let s : State := s.put (F.ATT_STATUS_VCONN_ON k) true
  s.put (F.FLT_ESC_DIS k.num) true
/-- The conditions of each clause of AttachAndDetachAct can be met. -/
theorem test_met_AttachAndDetachAct :
    (∃ (s : State) (k : PortId) (cc1 : Term) (cc2 : Term), s.astate k = 1 ∧ s.looksForSource k = false ∧ seesSink {
      (s.port k).pins with cc1 := cc1, cc2 := cc2 } = true ∧ s.ccBiased k = false) ∧
    (∃ (s : State) (k : PortId) (cc1 : Term) (cc2 : Term), s.astate k = 2 ∧ s.looksForSource k = true ∧ seesRp { (s.port
      k).pins with cc1 := cc1, cc2 := cc2 } ≠ 0) ∧
    (∃ (s : State) (k : PortId), (s.port k).pd.reloading = false ∧ s.armed (.ccDebounce k) = true ∧ s.astate k = 2 ∧
      s.looksForSource k = false ∧ (s.port k).pins.cc1 = .rd ∧ (s.port k).pins.cc2 = .rd) ∧
    (∃ (s : State) (k : PortId), (s.port k).pd.reloading = false ∧ s.armed (.ccDebounce k) = true ∧ s.astate k = 2 ∧
      s.looksForSource k = true ∧ seesRp (s.port k).pins ≠ 0) ∧
    (∃ (s : State) (k : PortId), s.sinkAttached k = true ∧ s.switchDriven k = false ∧ (s.port k).pd.reloading = false ∧
      s.has F.PROT_STATUS_SEALED = true ∧ (s.presentRp k).judged k = 7 ∧ (s.presentRp k).get (F.BRK_STATUS_STATE k) = 0) ∧
    (∃ (s : State) (k : PortId), s.sinkAttached k = true ∧ s.switchDriven k = false ∧ (s.port k).pd.reloading = false ∧
      (s.presentRp k).judged k ≠ 7) ∧
    (∃ (s : State) (k : PortId), s.sinkAttached k = true) ∧
    (∃ (s : State) (k : PortId), s.switchClosed k = false ∧ s.get (F.ATT_STATUS_ORIENT k) = 0 ∧ s.astate k = 3 ∧
      s.portServed k = true ∧ s.looksForSource k = false ∧ seesSink (s.port k).pins = false) ∧
    (∃ (s : State) (k : PortId), s.has (F.ATT_CFG_SEAT_EN k) = true ∧ s.astate k ≠ 0) ∧
    (∃ (s : State) (k : PortId), s.has (F.ATT_CFG_SEAT_EN k) = true ∧ s.astate k ≠ 0 ∧ s.switchDriven k = true) ∧
    (∃ (s : State) (k : PortId), s.has (F.ATT_STATUS_VCONN_ON k) = true ∧ s.calm k.num = true) :=
  ⟨⟨wit_ccChange1, 0, .rd, .opn, by decide +kernel⟩,
   ⟨wit_ccChange2, 8, .rp15, .opn, by decide +kernel⟩,
   ⟨wit_attachDebounceElapsed1, 0, by decide +kernel⟩,
   ⟨wit_attachDebounceElapsed2, 8, by decide +kernel⟩,
   ⟨wit_vbusApplyJudge1, 0, by decide +kernel⟩,
   ⟨wit_vbusApplyJudge2, 0, by decide +kernel⟩,
   ⟨wit_detach1, 0, by decide +kernel⟩,
   ⟨wit_vcsnsSafe0Reached1, 0, by decide +kernel⟩,
   ⟨wit_seated1, 0, by decide +kernel⟩,
   ⟨wit_seatLost1, 0, by decide +kernel⟩,
   ⟨wit_vconnOvercurrent1, 0, by decide +kernel⟩⟩

def wit_wetReadingDue1 : State :=
  let k : PortId := 0
  let s := State.reset
  let s : State := s.arm (.wetNext k) 0
  let s : State := s.set (F.ATT_STATUS_ASTATE k) 1
  let s : State := s.modPd k fun p => { p with reloading := false }
  { s with boot := { s.boot with disabled := 0 } }
def wit_wetSettlingEnd1 : State :=
  let k : PortId := 0
  let s := State.reset
  s.arm (.wetSettle k) 5
def wit_wetWindowEnd1 : State :=
  let k : PortId := 0
  let s := State.reset
  let s : State := s.arm (.wetWindow k) 5
  let s : State := s.modAtt k fun a => { a with wetMiss := 0, wetPins := 3 }
  { s with msr := { s.msr with windows := [] } }
def wit_wetWindowEnd2 : State :=
  let k : PortId := 0
  let s := State.reset
  let s : State := s.arm (.wetWindow k) 5
  let s : State := s.set (F.ATT_STATUS_ASTATE k) 1
  let s : State := s.modAtt k fun a => { a with wetMiss := 2, wetPins := 0 }
  { s with msr := { s.msr with windows := [] } }
def wit_drpToggle1 : State :=
  let s := State.reset
  let s : State := s.arm .drp 4
  let s : State := s.set (F.ATT_STATUS_ASTATE port9) 1
  let s : State := s.set F.SYS_STATE_STATE 2
  let s : State := s.modPins port9 fun p => { p with cc1 := .opn, cc2 := .opn }
  { s with env := { s.env with vinOk := true } }
def wit_trySnkElapsed1 : State :=
  let s := State.reset
  let s : State := s.arm .drpTry 4
  let s : State := s.set (F.ATT_STATUS_ASTATE port9) 0xB
  let s : State := s.modPins port9 fun p => { p with cc1 := .opn, cc2 := .opn }
  s.modAtt port9 fun a => { a with trySub := 1 }
def wit_trySnkElapsed2 : State :=
  let s := State.reset
  let s : State := s.arm .drpTry 4
  let s : State := s.set (F.ATT_STATUS_ASTATE port9) 0xB
  let s : State := s.modPins port9 fun p => { p with cc1 := .rp15, cc2 := .opn }
  s.modAtt port9 fun a => { a with trySub := 1 }
def wit_port9SinkDetach1 : State :=
  let s := State.reset
  s.set (F.ATT_STATUS_ASTATE port9) 8
/-- The conditions of each clause of WetReadingsAndPort9RolesAct can be met. -/
theorem test_met_WetReadingsAndPort9RolesAct :
    (∃ (s : State) (k : PortId), s.armed (.wetNext k) = true ∧ s.wetOn = true ∧ readingState (s.astate k) = true ∧ (s.port
      k).pd.reloading = false) ∧
    (∃ (s : State) (k : PortId), s.armed (.wetSettle k) = true) ∧
    (∃ (s : State) (k : PortId), s.armed (.wetWindow k) = true ∧ (s.port k).att.wetMiss < 9 ∧ s.wetDryVerdict k = false) ∧
    (∃ (s : State) (k : PortId), s.armed (.wetWindow k) = true ∧ s.wetDryVerdict k = true ∧ s.astate k = 1 ∧ seesSink
      (s.port k).pins = false ∧ seesRp (s.port k).pins = 0) ∧
    (∃ (s : State), s.armed .drp = true ∧ s.astate port9 = 1 ∧ s.env.vinOk = true ∧ s.isIn .offSeason = false ∧ seesSink
      (s.port port9).pins = false ∧ seesRp (s.port port9).pins = 0) ∧
    (∃ (s : State), s.armed .drpTry = true ∧ s.astate port9 = 0xB ∧ (s.port port9).att.trySub = 1 ∧ seesRp (s.port
      port9).pins = 0) ∧
    (∃ (s : State), s.armed .drpTry = true ∧ s.astate port9 = 0xB ∧ (s.port port9).att.trySub = 1 ∧ seesRp (s.port
      port9).pins ≠ 0) ∧
    (∃ (s : State), s.astate port9 = 8) :=
  ⟨⟨wit_wetReadingDue1, 0, by decide +kernel⟩,
   ⟨wit_wetSettlingEnd1, 0, by decide +kernel⟩,
   ⟨wit_wetWindowEnd1, 0, by decide +kernel⟩,
   ⟨wit_wetWindowEnd2, 0, by decide +kernel⟩,
   ⟨wit_drpToggle1, by decide +kernel⟩,
   ⟨wit_trySnkElapsed1, by decide +kernel⟩,
   ⟨wit_trySnkElapsed2, by decide +kernel⟩,
   ⟨wit_port9SinkDetach1, by decide +kernel⟩⟩

def wit_request1 : State :=
  let k : PortId := 0
  let s := State.reset
  let s : State := s.set F.SYS_STATE_STATE 2
  let s : State := s.modPd k fun p => { p with hr := .none, reloading := false, await := .none, rxId := none }
  let s : State := { s with boot := { s.boot with engRun := 0xFFFF } }
  let s : State := s.set (F.BRK_STATUS_STATE k) 3
  let s : State := s.put (F.ATT_STATUS_PWR_ROLE k) false
  let s : State := s.modPd k fun p => { p with caps := [fixedPdo 5000 3000] }
  let s : State := s.set (F.BUD_GRANT_CEIL k) 300
  s.set (F.CHK_CAP_CAP_MA k) 0xFFFF
def wit_request2 : State :=
  let k : PortId := 0
  let s := State.reset
  let s : State := s.set F.SYS_STATE_STATE 2
  let s : State := s.modPd k fun p => { p with hr := .none, reloading := false, await := .none, rxId := none }
  let s : State := { s with boot := { s.boot with engRun := 0xFFFF } }
  let s : State := s.set (F.BRK_STATUS_STATE k) 3
  s.put (F.ATT_STATUS_PWR_ROLE k) false
def wit_eprRequest1 : State :=
  let k : PortId := 0
  let s := State.reset
  let s : State := s.set F.SYS_STATE_STATE 2
  let s : State := s.modPd k fun p => { p with hr := .none, reloading := false, await := .none, rxId := none }
  let s : State := { s with boot := { s.boot with engRun := 0xFFFF } }
  let s : State := s.set (F.BRK_STATUS_STATE k) 3
  let s : State := s.put (F.ATT_STATUS_PWR_ROLE k) false
  let s : State := s.modPd k fun p => { p with caps := [fixedPdo 5000 3000] }
  let s : State := s.set (F.BUD_GRANT_CEIL k) 300
  s.set (F.CHK_CAP_CAP_MA k) 0xFFFF
def wit_getSourceCap1 : State :=
  let s := State.reset
  let s : State := s.set F.SYS_STATE_STATE 2
  let s : State := s.modPd port9 fun p => { p with hr := .none, reloading := false, await := .none, rxId := none }
  let s : State := { s with boot := { s.boot with engRun := 0xFFFF } }
  let s : State := s.put (F.ATT_STATUS_PWR_ROLE port9) true
  s.set (F.ATT_STATUS_ASTATE port9) 8
def wit_getSourceCap2 : State :=
  let k : PortId := 0
  let s := State.reset
  let s : State := s.set F.SYS_STATE_STATE 2
  let s : State := s.modPd k fun p => { p with hr := .none, reloading := false, await := .none, rxId := none }
  let s : State := { s with boot := { s.boot with engRun := 0xFFFF } }
  let s : State := s.set (F.BRK_STATUS_STATE k) 3
  s.put (F.ATT_STATUS_PWR_ROLE k) false
def wit_eprGetSourceCap1 : State :=
  let k : PortId := 0
  let s := State.reset
  let s : State := s.set F.SYS_STATE_STATE 2
  let s : State := s.modPd k fun p => { p with hr := .none, reloading := false, await := .none, rxId := none }
  let s : State := { s with boot := { s.boot with engRun := 0xFFFF } }
  let s : State := s.set (F.BRK_STATUS_STATE k) 3
  let s : State := s.put (F.ATT_STATUS_PWR_ROLE k) false
  s.set (F.PD_STATUS_REV k) 2
def wit_eprGetSourceCap2 : State :=
  let k : PortId := 0
  let s := State.reset
  let s : State := s.set F.SYS_STATE_STATE 2
  let s : State := s.modPd k fun p => { p with hr := .none, reloading := false, await := .none, rxId := none }
  let s : State := { s with boot := { s.boot with engRun := 0xFFFF } }
  let s : State := s.set (F.BRK_STATUS_STATE k) 3
  let s : State := s.put (F.ATT_STATUS_PWR_ROLE k) false
  s.set (F.PD_STATUS_REV k) 1
def wit_getSinkCap1 : State :=
  let k : PortId := 0
  let s := State.reset
  let s : State := s.set F.SYS_STATE_STATE 2
  let s : State := s.modPd k fun p => { p with hr := .none, reloading := false, await := .none, rxId := none }
  let s : State := { s with boot := { s.boot with engRun := 0xFFFF } }
  let s : State := s.set (F.BRK_STATUS_STATE k) 3
  s.put (F.ATT_STATUS_PWR_ROLE k) false
def wit_getSinkCap2 : State :=
  let s := State.reset
  let s : State := s.set F.SYS_STATE_STATE 2
  let s : State := s.modPd port9 fun p => { p with hr := .none, reloading := false, await := .none, rxId := none }
  let s : State := { s with boot := { s.boot with engRun := 0xFFFF } }
  let s : State := s.put (F.ATT_STATUS_PWR_ROLE port9) true
  s.set (F.ATT_STATUS_ASTATE port9) 8
def wit_getSourceCapExtended1 : State :=
  let k : PortId := 0
  let s := State.reset
  let s : State := s.set F.SYS_STATE_STATE 2
  let s : State := s.modPd k fun p => { p with hr := .none, reloading := false, await := .none, rxId := none }
  let s : State := { s with boot := { s.boot with engRun := 0xFFFF } }
  let s : State := s.set (F.BRK_STATUS_STATE k) 3
  let s : State := s.put (F.ATT_STATUS_PWR_ROLE k) false
  s.set (F.PD_STATUS_REV k) 2
def wit_getSourceInfo1 : State :=
  let k : PortId := 0
  let s := State.reset
  let s : State := s.set F.SYS_STATE_STATE 2
  let s : State := s.modPd k fun p => { p with hr := .none, reloading := false, await := .none, rxId := none }
  let s : State := { s with boot := { s.boot with engRun := 0xFFFF } }
  let s : State := s.set (F.BRK_STATUS_STATE k) 3
  s.put (F.ATT_STATUS_PWR_ROLE k) false
def wit_getRevision1 : State :=
  let k : PortId := 0
  let s := State.reset
  let s : State := s.set F.SYS_STATE_STATE 2
  let s : State := s.modPd k fun p => { p with hr := .none, reloading := false, await := .none, rxId := none }
  let s : State := { s with boot := { s.boot with engRun := 0xFFFF } }
  let s : State := s.set (F.BRK_STATUS_STATE k) 3
  s.put (F.ATT_STATUS_PWR_ROLE k) false
def wit_getManufacturerInfo1 : State :=
  let k : PortId := 0
  let s := State.reset
  let s : State := s.set F.SYS_STATE_STATE 2
  let s : State := s.modPd k fun p => { p with hr := .none, reloading := false, await := .none, rxId := none }
  let s : State := { s with boot := { s.boot with engRun := 0xFFFF } }
  let s : State := s.set (F.BRK_STATUS_STATE k) 3
  let s : State := s.put (F.ATT_STATUS_PWR_ROLE k) false
  s.set (F.PD_STATUS_REV k) 2
def wit_getStatus1 : State :=
  let k : PortId := 0
  let s := State.reset
  let s : State := s.set F.SYS_STATE_STATE 2
  let s : State := s.modPd k fun p => { p with hr := .none, reloading := false, await := .none, rxId := none }
  let s : State := { s with boot := { s.boot with engRun := 0xFFFF } }
  let s : State := s.set (F.BRK_STATUS_STATE k) 3
  let s : State := s.put (F.ATT_STATUS_PWR_ROLE k) false
  s.set (F.PD_STATUS_REV k) 2
def wit_getPpsStatus1 : State :=
  let k : PortId := 0
  let s := State.reset
  let s : State := s.set F.SYS_STATE_STATE 2
  let s : State := s.modPd k fun p => { p with hr := .none, reloading := false, await := .none, rxId := none }
  let s : State := { s with boot := { s.boot with engRun := 0xFFFF } }
  let s : State := s.set (F.BRK_STATUS_STATE k) 3
  let s : State := s.put (F.ATT_STATUS_PWR_ROLE k) false
  s.set (F.PD_CONTRACT_TYPE k) 1
def wit_getPpsStatus2 : State :=
  let k : PortId := 0
  let s := State.reset
  let s : State := s.set F.SYS_STATE_STATE 2
  let s : State := s.modPd k fun p => { p with hr := .none, reloading := false, await := .none, rxId := none }
  let s : State := { s with boot := { s.boot with engRun := 0xFFFF } }
  let s : State := s.set (F.BRK_STATUS_STATE k) 3
  let s : State := s.put (F.ATT_STATUS_PWR_ROLE k) false
  let s : State := s.set (F.PD_CONTRACT_TYPE k) 2
  let s : State := s.put (F.PD_STATUS_CONTRACT k) true
  s.set (F.PD_STATUS_REV k) 2
/-- The conditions of each clause of RequestsAndCapabilityMessagesAct can be met. -/
theorem test_met_RequestsAndCapabilityMessagesAct :
    (∃ (s : State) (k : PortId) (id : BitVec 3) (rdo : Word) (o : Word), s.hearsNew k id = true ∧ s.isSink k = false ∧
      s.rdoObj? k rdo = some o ∧ s.capBreaks k o rdo = false ∧ objAllows o rdo = true ∧ s.ceilAllows k o rdo = true) ∧
    (∃ (s : State) (k : PortId) (id : BitVec 3) (rdo : Word), s.hearsNew k id = true ∧ s.isSink k = false ∧ s.rdoObj? k
      rdo = none) ∧
    (∃ (s : State) (k : PortId) (id : BitVec 3) (rdo : Word) (o : Word), k.isModule = true ∧ s.hearsNew k id = true ∧
      s.rdoObj? k rdo = some o ∧ s.capBreaks k o rdo = false ∧ objAllows o rdo = true ∧ s.ceilAllows k o rdo = true) ∧
    (∃ (s : State) (k : PortId) (id : BitVec 3), s.hearsNew k id = true ∧ s.isSink k = true) ∧
    (∃ (s : State) (k : PortId) (id : BitVec 3), s.hearsNew k id = true ∧ s.isSink k = false) ∧
    (∃ (s : State) (k : PortId) (id : BitVec 3), k.isModule = true ∧ s.hearsNew k id = true ∧ s.rev2 k = false) ∧
    (∃ (s : State) (k : PortId) (id : BitVec 3), s.hearsNew k id = true ∧ s.rev2 k = true) ∧
    (∃ (s : State) (k : PortId) (id : BitVec 3), k.isModule = true ∧ s.hearsNew k id = true) ∧
    (∃ (s : State) (id : BitVec 3), s.hearsNew port9 id = true) ∧
    (∃ (s : State) (k : PortId) (id : BitVec 3), s.hearsNew k id = true ∧ s.rev2 k = false) ∧
    (∃ (s : State) (k : PortId) (id : BitVec 3), s.hearsNew k id = true) ∧
    (∃ (s : State) (k : PortId) (id : BitVec 3), s.hearsNew k id = true) ∧
    (∃ (s : State) (k : PortId) (id : BitVec 3), s.hearsNew k id = true ∧ s.rev2 k = false) ∧
    (∃ (s : State) (k : PortId) (id : BitVec 3), s.hearsNew k id = true ∧ s.rev2 k = false) ∧
    (∃ (s : State) (k : PortId) (id : BitVec 3), s.hearsNew k id = true ∧ s.get (F.PD_CONTRACT_TYPE k) ≠ 2) ∧
    (∃ (s : State) (k : PortId) (id : BitVec 3), s.hearsNew k id = true ∧ k.isModule = true ∧ s.contract k = true ∧ s.get
      (F.PD_CONTRACT_TYPE k) = 2 ∧ s.rev2 k = false) :=
  ⟨⟨wit_request1, 0, 5#3, 0x1002C8B2#32, (fixedPdo 5000 3000), by decide +kernel⟩,
   ⟨wit_request2, 0, 5#3, 0#32, by decide +kernel⟩,
   ⟨wit_eprRequest1, 0, 5#3, 0x1002C8B2#32, (fixedPdo 5000 3000), by decide +kernel⟩,
   ⟨wit_getSourceCap1, 8, 5#3, by decide +kernel⟩,
   ⟨wit_getSourceCap2, 0, 5#3, by decide +kernel⟩,
   ⟨wit_eprGetSourceCap1, 0, 5#3, by decide +kernel⟩,
   ⟨wit_eprGetSourceCap2, 0, 5#3, by decide +kernel⟩,
   ⟨wit_getSinkCap1, 0, 5#3, by decide +kernel⟩,
   ⟨wit_getSinkCap2, 5#3, by decide +kernel⟩,
   ⟨wit_getSourceCapExtended1, 0, 5#3, by decide +kernel⟩,
   ⟨wit_getSourceInfo1, 0, 5#3, by decide +kernel⟩,
   ⟨wit_getRevision1, 0, 5#3, by decide +kernel⟩,
   ⟨wit_getManufacturerInfo1, 0, 5#3, by decide +kernel⟩,
   ⟨wit_getStatus1, 0, 5#3, by decide +kernel⟩,
   ⟨wit_getPpsStatus1, 0, 5#3, by decide +kernel⟩,
   ⟨wit_getPpsStatus2, 0, 5#3, by decide +kernel⟩⟩

def wit_alert1 : State :=
  let k : PortId := 0
  let s := State.reset
  let s : State := s.set F.SYS_STATE_STATE 2
  let s : State := s.modPd k fun p => { p with hr := .none, reloading := false, await := .none, rxId := none }
  let s : State := { s with boot := { s.boot with engRun := 0xFFFF } }
  let s : State := s.set (F.BRK_STATUS_STATE k) 3
  let s : State := s.put (F.ATT_STATUS_PWR_ROLE k) false
  s.put (F.PD_STATUS_CONTRACT k) true
def wit_softReset1 : State :=
  let k : PortId := 0
  let s := State.reset
  let s : State := s.set F.SYS_STATE_STATE 2
  let s : State := s.modPd k fun p => { p with hr := .none, reloading := false, await := .none, rxId := none }
  let s : State := { s with boot := { s.boot with engRun := 0xFFFF } }
  let s : State := s.set (F.BRK_STATUS_STATE k) 3
  s.put (F.ATT_STATUS_PWR_ROLE k) false
def wit_bist1 : State :=
  let k : PortId := 0
  let s := State.reset
  let s : State := s.set F.SYS_STATE_STATE 2
  let s : State := s.modPd k fun p => { p with hr := .none, reloading := false, await := .none, rxId := none }
  let s : State := { s with boot := { s.boot with engRun := 0xFFFF } }
  let s : State := s.set (F.BRK_STATUS_STATE k) 3
  let s : State := s.put (F.ATT_STATUS_PWR_ROLE k) false
  s.put (F.PD_STATUS_CONTRACT k) false
def wit_notSupportedMessage1 : State :=
  let k : PortId := 0
  let s := State.reset
  let s : State := s.set F.SYS_STATE_STATE 2
  let s : State := s.modPd k fun p => { p with hr := .none, reloading := false, await := .none, rxId := none }
  let s : State := { s with boot := { s.boot with engRun := 0xFFFF } }
  let s : State := s.set (F.BRK_STATUS_STATE k) 3
  s.put (F.ATT_STATUS_PWR_ROLE k) false
def wit_vconnSwapReject1 : State :=
  let k : PortId := 0
  let s := State.reset
  let s : State := s.set F.SYS_STATE_STATE 2
  let s : State := s.modPd k fun p => { p with hr := .none, reloading := false, await := .none, rxId := none }
  let s : State := { s with boot := { s.boot with engRun := 0xFFFF } }
  let s : State := s.set (F.BRK_STATUS_STATE k) 3
  s.put (F.ATT_STATUS_PWR_ROLE k) false
def wit_prSwap1 : State :=
  let s := State.reset
  let s : State := s.set F.SYS_STATE_STATE 2
  let s : State := s.modPd port9 fun p => { p with hr := .none, reloading := false, await := .none, rxId := none }
  let s : State := { s with boot := { s.boot with engRun := 0xFFFF } }
  let s : State := s.put (F.ATT_STATUS_PWR_ROLE port9) false
  s.set (F.BRK_STATUS_STATE port9) 3
def wit_prSwap2 : State :=
  let s := State.reset
  let s : State := s.set F.SYS_STATE_STATE 2
  let s : State := s.modPd port9 fun p => { p with hr := .none, reloading := false, await := .none, rxId := none }
  let s : State := { s with boot := { s.boot with engRun := 0xFFFF } }
  let s : State := s.put (F.ATT_STATUS_PWR_ROLE port9) true
  let s : State := s.set (F.ATT_STATUS_ASTATE port9) 8
  { s with env := { s.env with vinOk := false } }
def wit_vconnSwap1 : State :=
  let s := State.reset
  let s : State := s.set F.SYS_STATE_STATE 2
  let s : State := s.modPd port9 fun p => { p with hr := .none, reloading := false, await := .none, rxId := none }
  let s : State := { s with boot := { s.boot with engRun := 0xFFFF } }
  let s : State := s.put (F.ATT_STATUS_PWR_ROLE port9) true
  let s : State := s.set (F.ATT_STATUS_ASTATE port9) 8
  s.put (F.PD_STATUS_VCONN_SRC port9) true
def wit_drSwap1 : State :=
  let s := State.reset
  let s : State := s.set F.SYS_STATE_STATE 2
  let s : State := s.modPd port9 fun p => { p with hr := .none, reloading := false, await := .none, rxId := none }
  let s : State := { s with boot := { s.boot with engRun := 0xFFFF } }
  let s : State := s.put (F.ATT_STATUS_PWR_ROLE port9) false
  let s : State := s.set (F.BRK_STATUS_STATE port9) 3
  s.put (F.PD_STATUS_DATA_ROLE port9) true
def wit_drSwap2 : State :=
  let s := State.reset
  let s : State := s.set F.SYS_STATE_STATE 2
  let s : State := s.modPd port9 fun p => { p with hr := .none, reloading := false, await := .none, rxId := none }
  let s : State := { s with boot := { s.boot with engRun := 0xFFFF } }
  let s : State := s.put (F.ATT_STATUS_PWR_ROLE port9) true
  let s : State := s.set (F.ATT_STATUS_ASTATE port9) 8
  s.put (F.PD_STATUS_DATA_ROLE port9) false
def wit_port9SourceCapabilities1 : State :=
  let s := State.reset
  let s : State := s.set F.SYS_STATE_STATE 2
  let s : State := s.modPd port9 fun p => { p with hr := .none, reloading := false, await := .none, rxId := none }
  let s : State := { s with boot := { s.boot with engRun := 0xFFFF } }
  let s : State := s.put (F.ATT_STATUS_PWR_ROLE port9) true
  let s : State := s.set (F.ATT_STATUS_ASTATE port9) 8
  { s with env := { s.env with vinOk := true } }
def wit_port9PsRdy1 : State :=
  let s := State.reset
  let s : State := s.set F.SYS_STATE_STATE 2
  let s : State := s.modPd port9 fun p => { p with hr := .none, reloading := false, await := .none, rxId := none }
  let s : State := { s with boot := { s.boot with engRun := 0xFFFF } }
  let s : State := s.put (F.ATT_STATUS_PWR_ROLE port9) true
  let s : State := s.set (F.ATT_STATUS_ASTATE port9) 8
  s.modPd port9 fun p => { p with await := .sinkAccept }
def wit_port9PsRdy2 : State :=
  let s := State.reset
  let s : State := s.set F.SYS_STATE_STATE 2
  let s : State := s.modPd port9 fun p => { p with hr := .none, reloading := false, await := .none, rxId := none }
  let s : State := { s with boot := { s.boot with engRun := 0xFFFF } }
  let s : State := s.put (F.ATT_STATUS_PWR_ROLE port9) true
  let s : State := s.set (F.ATT_STATUS_ASTATE port9) 8
  s.modPd port9 fun p => { p with await := .sinkPsRdy }
/-- The conditions of each clause of ControlMessagesAndSwapsAct can be met. -/
theorem test_met_ControlMessagesAndSwapsAct :
    (∃ (s : State) (k : PortId) (id : BitVec 3), s.hearsNew k id = true ∧ s.contract k = true ∧ s.isSink k = false) ∧
    (∃ (s : State) (k : PortId), s.hears k = true) ∧
    (∃ (s : State) (k : PortId) (id : BitVec 3) (mode : Nat), s.hearsNew k id = true ∧ mode ≤ 1 ∧ s.contractMv k = 5000) ∧
    (∃ (s : State) (k : PortId) (id : BitVec 3), s.hearsNew k id = true) ∧
    (∃ (s : State) (k : PortId) (id : BitVec 3), k.isModule = true ∧ s.hearsNew k id = true) ∧
    (∃ (s : State) (id : BitVec 3), s.hearsNew port9 id = true ∧ (s.isSink port9 = false ∨ s.mayBecomeSource = true)) ∧
    (∃ (s : State) (id : BitVec 3), s.hearsNew port9 id = true ∧ s.isSink port9 = true ∧ s.mayBecomeSource = false) ∧
    (∃ (s : State) (id : BitVec 3), s.hearsNew port9 id = true ∧ (s.has (F.PD_STATUS_VCONN_SRC port9) = true ∨
      (s.mayBecomeSource = true ∧ s.vconnMay port9 = true))) ∧
    (∃ (s : State) (id : BitVec 3), s.hearsNew port9 id = true ∧ s.has (F.PD_STATUS_DATA_ROLE port9) = true) ∧
    (∃ (s : State) (id : BitVec 3), s.hearsNew port9 id = true ∧ s.has (F.PD_STATUS_DATA_ROLE port9) = false) ∧
    (∃ (s : State) (id : BitVec 3), s.hearsNew port9 id = true ∧ s.isSink port9 = true ∧ s.env.vinOk = true) ∧
    (∃ (s : State) (k : PortId) (id : BitVec 3) (msg : Nat), s.hearsNew k id = true ∧ (s.port k).pd.await = .sinkAccept ∧
      msg = 0) ∧
    (∃ (s : State) (id : BitVec 3), s.hearsNew port9 id = true ∧ (s.port port9).pd.await = .sinkPsRdy) :=
  ⟨⟨wit_alert1, 0, 5#3, by decide +kernel⟩,
   ⟨wit_softReset1, 0, by decide +kernel⟩,
   ⟨wit_bist1, 0, 5#3, 0, by decide +kernel⟩,
   ⟨wit_notSupportedMessage1, 0, 5#3, by decide +kernel⟩,
   ⟨wit_vconnSwapReject1, 0, 5#3, by decide +kernel⟩,
   ⟨wit_prSwap1, 5#3, by decide +kernel⟩,
   ⟨wit_prSwap2, 5#3, by decide +kernel⟩,
   ⟨wit_vconnSwap1, 5#3, by decide +kernel⟩,
   ⟨wit_drSwap1, 5#3, by decide +kernel⟩,
   ⟨wit_drSwap2, 5#3, by decide +kernel⟩,
   ⟨wit_port9SourceCapabilities1, 5#3, by decide +kernel⟩,
   ⟨wit_port9PsRdy1, 8, 5#3, 0, by decide +kernel⟩,
   ⟨wit_port9PsRdy2, 5#3, by decide +kernel⟩⟩

def wit_eprModeEnter1 : State :=
  let k : PortId := 0
  let s := State.reset
  let s : State := s.set F.SYS_STATE_STATE 2
  let s : State := s.modPd k fun p => { p with hr := .none, reloading := false, await := .none, rxId := none }
  let s : State := { s with boot := { s.boot with engRun := 0xFFFF } }
  let s : State := s.set (F.BRK_STATUS_STATE k) 3
  let s : State := s.put (F.ATT_STATUS_PWR_ROLE k) false
  let s : State := s.put (F.PD_CFG_EPR28 k) true
  let s : State := s.put (F.ATT_CABLE_EPR_OK k) true
  let s : State := s.put (F.ATT_STATUS_VCONN_ON k) true
  let s : State := s.set (F.BUD_GRANT_CEIL k) 2000
  let s : State := s.set (F.PD_STATUS_AUTH k) 2
  s.modPd k fun p => { p with caps := [0x00800000#32], eprCapRdo := true }
def wit_eprModeEnter2 : State :=
  let k : PortId := 0
  let s := State.reset
  let s : State := s.set F.SYS_STATE_STATE 2
  let s : State := s.modPd k fun p => { p with hr := .none, reloading := false, await := .none, rxId := none }
  let s : State := { s with boot := { s.boot with engRun := 0xFFFF } }
  let s : State := s.set (F.BRK_STATUS_STATE k) 3
  let s : State := s.put (F.ATT_STATUS_PWR_ROLE k) false
  s.put (F.ATT_CABLE_EPR_OK k) false
def wit_eprModeExit1 : State :=
  let k : PortId := 0
  let s := State.reset
  let s : State := s.set F.SYS_STATE_STATE 2
  let s : State := s.modPd k fun p => { p with hr := .none, reloading := false, await := .none, rxId := none }
  let s : State := { s with boot := { s.boot with engRun := 0xFFFF } }
  let s : State := s.set (F.BRK_STATUS_STATE k) 3
  let s : State := s.put (F.ATT_STATUS_PWR_ROLE k) false
  s.put (F.PD_STATUS_EPR k) true
def wit_structuredVdm1 : State :=
  let k : PortId := 0
  let s := State.reset
  let s : State := s.set F.SYS_STATE_STATE 2
  let s : State := s.modPd k fun p => { p with hr := .none, reloading := false, await := .none, rxId := none }
  let s : State := { s with boot := { s.boot with engRun := 0xFFFF } }
  let s : State := s.set (F.BRK_STATUS_STATE k) 3
  s.put (F.ATT_STATUS_PWR_ROLE k) false
def wit_structuredVdm2 : State :=
  let k : PortId := 0
  let s := State.reset
  let s : State := s.set F.SYS_STATE_STATE 2
  let s : State := s.modPd k fun p => { p with hr := .none, reloading := false, await := .none, rxId := none }
  let s : State := { s with boot := { s.boot with engRun := 0xFFFF } }
  let s : State := s.set (F.BRK_STATUS_STATE k) 3
  s.put (F.ATT_STATUS_PWR_ROLE k) false
def wit_structuredVdm3 : State :=
  let k : PortId := 0
  let s := State.reset
  let s : State := s.set F.SYS_STATE_STATE 2
  let s : State := s.modPd k fun p => { p with hr := .none, reloading := false, await := .none, rxId := none }
  let s : State := { s with boot := { s.boot with engRun := 0xFFFF } }
  let s : State := s.set (F.BRK_STATUS_STATE k) 3
  s.put (F.ATT_STATUS_PWR_ROLE k) false
def wit_structuredVdm4 : State :=
  let k : PortId := 0
  let s := State.reset
  let s : State := s.set F.SYS_STATE_STATE 2
  let s : State := s.modPd k fun p => { p with hr := .none, reloading := false, await := .none, rxId := none }
  let s : State := { s with boot := { s.boot with engRun := 0xFFFF } }
  let s : State := s.set (F.BRK_STATUS_STATE k) 3
  s.put (F.ATT_STATUS_PWR_ROLE k) false
def wit_securityResponse1 : State :=
  let k : PortId := 0
  let s := State.reset
  let s : State := s.set F.SYS_STATE_STATE 2
  let s : State := s.modPd k fun p => { p with hr := .none, reloading := false, await := .none, rxId := none }
  let s : State := { s with boot := { s.boot with engRun := 0xFFFF } }
  let s : State := s.set (F.BRK_STATUS_STATE k) 3
  let s : State := s.put (F.ATT_STATUS_PWR_ROLE k) false
  s.modPd k fun p => { p with auth := .digests }
def wit_securityResponse2 : State :=
  let k : PortId := 0
  let s := State.reset
  let s : State := s.set F.SYS_STATE_STATE 2
  let s : State := s.modPd k fun p => { p with hr := .none, reloading := false, await := .none, rxId := none }
  let s : State := { s with boot := { s.boot with engRun := 0xFFFF } }
  let s : State := s.set (F.BRK_STATUS_STATE k) 3
  let s : State := s.put (F.ATT_STATUS_PWR_ROLE k) false
  let s : State := s.modPd k fun p => { p with auth := .certificate, authSlots := [0], authChain := [100#8, 0#8, 0#8, 0#8] ++ List.replicate 32 0#8 }
  { s with engMem := bankWrite zeroWord s.engMem (k.num * 2 ^ 16) 1#32 }
def wit_securityResponse3 : State :=
  let k : PortId := 0
  let s := State.reset
  let s : State := s.set F.SYS_STATE_STATE 2
  let s : State := s.modPd k fun p => { p with hr := .none, reloading := false, await := .none, rxId := none }
  let s : State := { s with boot := { s.boot with engRun := 0xFFFF } }
  let s : State := s.set (F.BRK_STATUS_STATE k) 3
  let s : State := s.put (F.ATT_STATUS_PWR_ROLE k) false
  let s : State := s.modPd k fun p => { p with auth := .certificate, authSlots := [0], authChain := [100#8, 0#8, 0#8, 0#8] ++ List.replicate 32 1#8 }
  { s with engMem := [] }
def wit_securityResponse4 : State :=
  let k : PortId := 0
  let s := State.reset
  let s : State := s.set F.SYS_STATE_STATE 2
  let s : State := s.modPd k fun p => { p with hr := .none, reloading := false, await := .none, rxId := none }
  let s : State := { s with boot := { s.boot with engRun := 0xFFFF } }
  let s : State := s.set (F.BRK_STATUS_STATE k) 3
  let s : State := s.put (F.ATT_STATUS_PWR_ROLE k) false
  s.modPd k fun p => { p with auth := .challenge, authSlots := [0], authLeaf := testAuthKey, authChain := [1#8], authNonce := List.replicate 32 7#8 }
def wit_securityResponse5 : State :=
  let k : PortId := 0
  let s := State.reset
  let s : State := s.set F.SYS_STATE_STATE 2
  let s : State := s.modPd k fun p => { p with hr := .none, reloading := false, await := .none, rxId := none }
  let s : State := { s with boot := { s.boot with engRun := 0xFFFF } }
  let s : State := s.set (F.BRK_STATUS_STATE k) 3
  let s : State := s.put (F.ATT_STATUS_PWR_ROLE k) false
  s.modPd k fun p => { p with auth := .challenge, authSlots := [0] }
def wit_frenerVdmReceived1 : State :=
  let k : PortId := 0
  let s := State.reset
  let s : State := s.set F.SYS_STATE_STATE 2
  let s : State := s.modPd k fun p => { p with hr := .none, reloading := false, await := .none, rxId := none }
  let s : State := { s with boot := { s.boot with engRun := 0xFFFF } }
  let s : State := s.set (F.BRK_STATUS_STATE k) 3
  let s : State := s.put (F.ATT_STATUS_PWR_ROLE k) false
  s.modPd k fun p => { p with frWait := 0 }
def wit_frenerVdmReceived2 : State :=
  let k : PortId := 0
  let s := State.reset
  let s : State := s.set F.SYS_STATE_STATE 2
  let s : State := s.modPd k fun p => { p with hr := .none, reloading := false, await := .none, rxId := none }
  let s : State := { s with boot := { s.boot with engRun := 0xFFFF } }
  let s : State := s.set (F.BRK_STATUS_STATE k) 3
  let s : State := s.put (F.ATT_STATUS_PWR_ROLE k) false
  let s : State := s.modPd k fun p => { p with frWait := 2, frTag := 1 }
  s.arm (.chkWindow k) 5
def wit_eprKeepalive1 : State :=
  let k : PortId := 0
  let s := State.reset
  let s : State := s.set F.SYS_STATE_STATE 2
  let s : State := s.modPd k fun p => { p with hr := .none, reloading := false, await := .none, rxId := none }
  let s : State := { s with boot := { s.boot with engRun := 0xFFFF } }
  let s : State := s.set (F.BRK_STATUS_STATE k) 3
  let s : State := s.put (F.ATT_STATUS_PWR_ROLE k) false
  s.put (F.PD_STATUS_EPR k) true
def wit_hardResetReceived1 : State :=
  let k : PortId := 0
  let s := State.reset
  let s : State := s.set F.SYS_STATE_STATE 2
  let s : State := s.modPd k fun p => { p with hr := .none, reloading := false, await := .none, rxId := none }
  let s : State := { s with boot := { s.boot with engRun := 0xFFFF } }
  let s : State := s.set (F.BRK_STATUS_STATE k) 3
  s.put (F.ATT_STATUS_PWR_ROLE k) false
def wit_pdQueueFull1 : State :=
  let k : PortId := 0
  let s := State.reset
  let s : State := s.set F.SYS_STATE_STATE 2
  let s : State := s.modPd k fun p => { p with hr := .none, reloading := false, await := .none, rxId := none }
  let s : State := { s with boot := { s.boot with engRun := 0xFFFF } }
  let s : State := s.set (F.BRK_STATUS_STATE k) 3
  let s : State := s.put (F.ATT_STATUS_PWR_ROLE k) false
  s.modPd k fun p => { p with reloading := true, rxq := List.replicate 4 .uvloFall }
/-- The conditions of each clause of EprVendorAndResetMessagesAct can be met. -/
theorem test_met_EprVendorAndResetMessagesAct :
    (∃ (s : State) (k : PortId) (id : BitVec 3), k.isModule = true ∧ s.hearsNew k id = true ∧ s.eprCapable k = true ∧
      ((s.port k).pd.caps.getD 0 0#32).getLsbD 23 = true ∧ (s.port k).pd.eprCapRdo = true) ∧
    (∃ (s : State) (k : PortId) (id : BitVec 3), k.isModule = true ∧ s.hearsNew k id = true ∧ s.eprCapable k = false) ∧
    (∃ (s : State) (k : PortId) (id : BitVec 3), k.isModule = true ∧ s.hearsNew k id = true ∧ s.has (F.PD_STATUS_EPR k) =
      true) ∧
    (∃ (s : State) (k : PortId) (id : BitVec 3) (cmd : Nat), s.hearsNew k id = true ∧ cmd = 2) ∧
    (∃ (s : State) (k : PortId) (id : BitVec 3) (cmd : Nat), s.hearsNew k id = true ∧ 3 ≤ cmd ∧ cmd ≠ 6) ∧
    (∃ (s : State) (k : PortId) (id : BitVec 3) (cmd : Nat), s.hearsNew k id = true ∧ cmd = 1) ∧
    (∃ (s : State) (k : PortId) (id : BitVec 3) (cmd : Nat), s.hearsNew k id = true ∧ cmd = 6) ∧
    (∃ (s : State) (k : PortId) (id : BitVec 3) (msg : List Byte) (slot : Nat) (rest : List Nat), s.hearsNew k id = true ∧
      (s.port k).pd.auth = .digests ∧ msg.getD 1 0#8 = 0x01#8 ∧ ((List.range 8).filter (fun i => (msg.getD 3
      0#8).toNat.testBit i) = slot :: rest)) ∧
    (∃ (s : State) (k : PortId) (id : BitVec 3) (msg : List Byte) (slot : Nat) (rest : List Nat), s.hearsNew k id = true ∧
      (s.port k).pd.auth = .certificate ∧ (s.port k).pd.authSlots = slot :: rest ∧ msg.getD 1 0#8 = 0x02#8 ∧ (msg.getD 2
      0#8).toNat = slot ∧ 4 < msg.length ∧ 36 ≤ (s.port k).pd.authChain.length ∧ (s.trustedRoots k).contains (chainRoot
      ((s.port k).pd.authChain ++ msg.drop 4)) = true ∧ ((s.port k).pd.authChain ++ msg.drop 4).length < chainLength
      ((s.port k).pd.authChain ++ msg.drop 4)) ∧
    (∃ (s : State) (k : PortId) (id : BitVec 3) (msg : List Byte) (slot : Nat) (rest : List Nat), s.hearsNew k id = true ∧
      (s.port k).pd.auth = .certificate ∧ (s.port k).pd.authSlots = slot :: rest ∧ msg.getD 1 0#8 = 0x02#8 ∧ (msg.getD 2
      0#8).toNat = slot ∧ 4 < msg.length ∧ 36 ≤ (s.port k).pd.authChain.length ∧ (s.trustedRoots k).contains (chainRoot
      ((s.port k).pd.authChain ++ msg.drop 4)) = false ∧ rest = []) ∧
    (∃ (s : State) (k : PortId) (id : BitVec 3) (msg : List Byte) (slot : Nat), s.hearsNew k id = true ∧ (s.port
      k).pd.auth = .challenge ∧ (s.port k).pd.authSlots.head? = some slot ∧ msg.getD 1 0#8 = 0x03#8 ∧ (msg.getD 2 0#8).toNat
      = slot ∧ challengeOk (s.port k).pd.authLeaf (s.port k).pd.authChain (challengeMsg slot (s.port k).pd.authNonce) msg =
      true) ∧
    (∃ (s : State) (k : PortId) (id : BitVec 3) (msg : List Byte) (slot : Nat), s.hearsNew k id = true ∧ (s.port
      k).pd.auth = .challenge ∧ (s.port k).pd.authSlots.head? = some slot ∧ msg.getD 1 0#8 = 0x03#8 ∧ challengeOk (s.port
      k).pd.authLeaf (s.port k).pd.authChain (challengeMsg slot (s.port k).pd.authNonce) msg = false) ∧
    (∃ (s : State) (k : PortId) (id : BitVec 3), s.hearsNew k id = true ∧ (s.port k).pd.frWait ≠ 2) ∧
    (∃ (s : State) (k : PortId) (id : BitVec 3) (hdr : Word) (vdo1 : Word), s.hearsNew k id = true ∧ hdr = 0x2E7A2102#32 ∧
      (s.port k).pd.frWait = 2 ∧ s.armed (.chkWindow k) = true ∧ vdo1.toNat / 2 ^ 16 = (s.port k).pd.frTag) ∧
    (∃ (s : State) (k : PortId) (id : BitVec 3), s.pdReceives k = true ∧ (s.port k).pd.rxId ≠ some id.toNat ∧ s.has
      (F.PD_STATUS_EPR k) = true) ∧
    (∃ (s : State) (k : PortId), s.pdReceives k = true ∧ s.isSink k = false) ∧
    (∃ (s : State) (k : PortId), s.pdReceives k = true ∧ s.policyRuns k = false ∧ 4 ≤ (s.port k).pd.rxq.length) :=
  ⟨⟨wit_eprModeEnter1, 0, 5#3, by decide +kernel⟩,
   ⟨wit_eprModeEnter2, 0, 5#3, by decide +kernel⟩,
   ⟨wit_eprModeExit1, 0, 5#3, by decide +kernel⟩,
   ⟨wit_structuredVdm1, 0, 5#3, 2, by decide +kernel⟩,
   ⟨wit_structuredVdm2, 0, 5#3, 3, by decide +kernel⟩,
   ⟨wit_structuredVdm3, 0, 5#3, 1, by decide +kernel⟩,
   ⟨wit_structuredVdm4, 0, 5#3, 6, by decide +kernel⟩,
   ⟨wit_securityResponse1, 0, 5#3, [0x10#8, 0x01#8, 0#8, 5#8], 0, [2], by decide +kernel⟩,
   ⟨wit_securityResponse2, 0, 5#3, [0x10#8, 0x02#8, 0#8, 1#8, 0x30#8], 0, [], by decide +kernel⟩,
   ⟨wit_securityResponse3, 0, 5#3, [0x10#8, 0x02#8, 0#8, 1#8, 0x30#8], 0, [], by decide +kernel⟩,
   ⟨wit_securityResponse4, 0, 5#3, testAuthMsg, 0, by decide +kernel⟩,
   ⟨wit_securityResponse5, 0, 5#3, [0x10#8, 0x03#8, 0#8, 0#8], 0, by decide +kernel⟩,
   ⟨wit_frenerVdmReceived1, 0, 5#3, by decide +kernel⟩,
   ⟨wit_frenerVdmReceived2, 0, 5#3, 0x2E7A2102#32, 0x00011388#32, by decide +kernel⟩,
   ⟨wit_eprKeepalive1, 0, 5#3, by decide +kernel⟩,
   ⟨wit_hardResetReceived1, 0, by decide +kernel⟩,
   ⟨wit_pdQueueFull1, 0, by decide +kernel⟩⟩

def wit_goodcrcReceived1 : State :=
  let k : PortId := 0
  let s := State.reset
  s.modPd k fun p => { p with tx := [{ kind := .accept }], await := .srcTransition, txId := 5 }
def wit_goodcrcReceived2 : State :=
  let k : PortId := 0
  let s := State.reset
  let s : State := s.modPd k fun p => { p with tx := [{ kind := .sourceCap }], await := .request, txId := 5 }
  s.put (F.ATT_STATUS_PWR_ROLE k) false
def wit_goodcrcReceived3 : State :=
  let k : PortId := 0
  let s := State.reset
  s.modPd k fun p => { p with tx := [{ kind := .eprSourceCap, objs := List.replicate 8 0#32 }], txId := 5 }
def wit_goodcrcWaitTimeout1 : State :=
  let k : PortId := 0
  let s := State.reset
  let s : State := s.arm (.goodCrc k) 7
  s.modPd k fun p => { p with tx := [{ kind := .accept }], retries := 1 }
def wit_sourceCapResend1 : State :=
  let k : PortId := 0
  let s := State.reset
  let s : State := s.arm (.sendCaps k) 7
  let s : State := s.put (F.PD_STATUS_CONTRACT k) false
  s.modPd k fun p => { p with reloading := false, capsCount := 1 }
def wit_sourceCapResend2 : State :=
  let k : PortId := 0
  let s := State.reset
  let s : State := s.arm (.sendCaps k) 7
  let s : State := s.put (F.PD_STATUS_CONTRACT k) false
  s.modPd k fun p => { p with reloading := false, capsCount := 50 }
def wit_senderResponseTimeout1 : State :=
  let k : PortId := 0
  let s := State.reset
  let s : State := s.arm (.senderResponse k) 7
  let s : State := s.put (F.ATT_STATUS_PWR_ROLE k) false
  s.modPd k fun p => { p with await := .request, hrCount := 0, cableDone := true }
def wit_hardResetPsElapsed1 : State :=
  let k : PortId := 0
  let s := State.reset
  s.arm (.psHardReset k) 7
def wit_srcRecoverElapsed1 : State :=
  let k : PortId := 0
  let s := State.reset
  s.arm (.srcRecover k) 7
def wit_vbusVsafe5vReached1 : State :=
  let k : PortId := 0
  let s := State.reset
  let s : State := s.set (F.BRK_STATUS_STATE k) 3
  let s : State := s.set (F.ATT_STATUS_ASTATE k) 7
  let s : State := s.put (F.PD_STATUS_CONTRACT k) false
  let s : State := s.set (F.PD_STATUS_PE k) 0
  let s : State := s.modPd k fun p => { p with reloading := false, await := .none, noPd := false }
  let s : State := s.modAtt k fun p => { p with dcp := false }
  s.put (F.ATT_STATUS_VCONN_ON k) false
def wit_errorRecoveryElapsed1 : State :=
  let k : PortId := 0
  let s := State.reset
  s.arm (.errorRecovery k) 7
/-- The conditions of each clause of MessageTimersAct can be met. -/
theorem test_met_MessageTimersAct :
    (∃ (s : State) (k : PortId) (id : BitVec 3) (m : PdMsg) (rest : List PdMsg), (s.port k).pd.tx = m :: rest ∧ (s.port
      k).pd.idOf m = id.toNat ∧ m.kind = .accept ∧ (s.port k).pd.await = .srcTransition) ∧
    (∃ (s : State) (k : PortId) (id : BitVec 3) (m : PdMsg) (rest : List PdMsg), (s.port k).pd.tx = m :: rest ∧ (s.port
      k).pd.idOf m = id.toNat ∧ m.kind = .sourceCap ∧ s.isSink k = false) ∧
    (∃ (s : State) (k : PortId) (id : BitVec 3) (m : PdMsg) (rest : List PdMsg), (s.port k).pd.tx = m :: rest ∧ (s.port
      k).pd.idOf m = id.toNat ∧ m.lastChunk = false) ∧
    (∃ (s : State) (k : PortId), s.armed (.goodCrc k) = true ∧ (s.port k).pd.tx ≠ [] ∧ (s.port k).pd.retries < 2) ∧
    (∃ (s : State) (k : PortId), s.armed (.sendCaps k) = true ∧ s.contract k = false ∧ (s.port k).pd.reloading = false ∧
      (s.port k).pd.capsCount < 50) ∧
    (∃ (s : State) (k : PortId), s.armed (.sendCaps k) = true ∧ s.contract k = false ∧ (s.port k).pd.reloading = false ∧
      50 ≤ (s.port k).pd.capsCount) ∧
    (∃ (s : State) (k : PortId), s.armed (.senderResponse k) = true ∧ s.discovers k = false ∧ (s.port k).pd.await =
      .request ∧ (s.port k).pd.hrCount < 2 ∧ s.isSink k = false) ∧
    (∃ (s : State) (k : PortId), s.armed (.psHardReset k) = true) ∧
    (∃ (s : State) (k : PortId), s.armed (.srcRecover k) = true) ∧
    (∃ (s : State) (k : PortId), s.switchClosed k = true ∧ s.astate k = 7 ∧ s.contract k = false ∧ (s.get (F.PD_STATUS_PE
      k) = 0 ∨ s.get (F.PD_STATUS_PE k) = 5) ∧ (s.port k).pd.reloading = false ∧ (s.port k).pd.await ≠ .prSwap ∧ (s.port
      k).att.dcp = false ∧ (s.port k).pd.noPd = false ∧ s.has (F.ATT_STATUS_VCONN_ON k) = false) ∧
    (∃ (s : State) (k : PortId), s.armed (.errorRecovery k) = true) :=
  ⟨⟨wit_goodcrcReceived1, 0, 5#3, ({kind:=.accept}), [], by decide +kernel⟩,
   ⟨wit_goodcrcReceived2, 0, 5#3, ({kind:=.sourceCap}), [], by decide +kernel⟩,
   ⟨wit_goodcrcReceived3, 0, 5#3, ({kind:=.eprSourceCap,objs:=List.replicate 8 0#32}), [], by decide +kernel⟩,
   ⟨wit_goodcrcWaitTimeout1, 0, by decide +kernel⟩,
   ⟨wit_sourceCapResend1, 0, by decide +kernel⟩,
   ⟨wit_sourceCapResend2, 0, by decide +kernel⟩,
   ⟨wit_senderResponseTimeout1, 0, by decide +kernel⟩,
   ⟨wit_hardResetPsElapsed1, 0, by decide +kernel⟩,
   ⟨wit_srcRecoverElapsed1, 0, by decide +kernel⟩,
   ⟨wit_vbusVsafe5vReached1, 0, by decide +kernel⟩,
   ⟨wit_errorRecoveryElapsed1, 0, by decide +kernel⟩⟩

def wit_transitionStart1 : State :=
  let k : PortId := 0
  let s := State.reset
  let s : State := s.arm (.srcTransition k) 7
  let s : State := s.modPd k fun p => { p with await := .srcTransition, reqKeep := false, reqMv := 9000 }
  s.set (F.CNV_MAX_VMAX k) 0
def wit_transitionEnd1 : State :=
  let k : PortId := 0
  let s := State.reset
  let s : State := s.modPd k fun p => { p with await := .transition }
  s.modCnv k fun p => { p with inRange := 2 }
def wit_transitionTimeout1 : State :=
  let k : PortId := 0
  let s := State.reset
  let s : State := s.arm (.transition k) 7
  let s : State := s.put (F.ATT_STATUS_PWR_ROLE k) false
  let s : State := s.put (F.FLT_ESC_DIS k.num) true
  s.modPd k fun p => { p with await := .transition, hrCount := 0 }
def wit_capabilitiesUpdate1 : State :=
  let k : PortId := 0
  let s := State.reset
  let s : State := s.modPd k fun p => { p with reloading := false, noPd := false, await := .none, tx := [], caps := [0#32], ams := false, capsDue := true }
  let s : State := s.set (F.BRK_STATUS_STATE k) 3
  let s : State := s.put (F.PD_STATUS_CONTRACT k) true
  let s : State := s.put (F.ATT_STATUS_PWR_ROLE k) false
  s.setWord (R.PD_CONTRACT k) 0
def wit_upwardOfferTimer1 : State :=
  let k : PortId := 0
  let s := State.reset
  let s : State := s.arm (.upwardOffer k) 7
  let s : State := s.modPd k fun p => { p with reloading := false, noPd := false, await := .none, tx := [], caps := [0#32], ams := false, capsDue := false }
  let s : State := s.set (F.BRK_STATUS_STATE k) 3
  let s : State := s.put (F.PD_STATUS_CONTRACT k) true
  let s : State := s.put (F.ATT_STATUS_PWR_ROLE k) false
  let s : State := s.set (F.BUD_GRANT_CEIL k) 300
  s.setWord (R.PD_CONTRACT k) 0
def wit_sinkTxElapsed1 : State :=
  let k : PortId := 0
  let s := State.reset
  let s : State := s.arm (.sinkTx k) 7
  s.modPd k fun p => { p with held := [{ kind := .getStatus }] }
def wit_eprExitSend1 : State :=
  let k : PortId := 0
  let s := State.reset
  let s : State := s.put (F.PD_STATUS_EPR k) true
  let s : State := s.put (F.ATT_CABLE_EPR_OK k) false
  let s : State := s.set (F.BRK_STATUS_STATE k) 3
  s.modPd k fun p => { p with reloading := false, tx := [] }
def wit_eprKeepaliveTimeout1 : State :=
  let k : PortId := 0
  let s := State.reset
  let s : State := s.arm (.keepAlive k) 7
  let s : State := s.put (F.ATT_STATUS_PWR_ROLE k) false
  s.modPd k fun p => { p with hrCount := 1 }
def wit_ppsTimeout1 : State :=
  let k : PortId := 0
  let s := State.reset
  let s : State := s.arm (.ppsTimeout k) 7
  let s : State := s.put (F.ATT_STATUS_PWR_ROLE k) false
  s.modPd k fun p => { p with hrCount := 1 }
def wit_drSwapRetry1 : State :=
  let s := State.reset
  let s : State := s.arm .drSwap 7
  let s : State := s.put (F.PD_STATUS_CONTRACT port9) true
  let s : State := s.put (F.PD_STATUS_DATA_ROLE port9) true
  let s : State := s.put (F.ATT_STATUS_PWR_ROLE port9) true
  let s : State := s.set (F.ATT_STATUS_RP port9) 3
  s.modPd port9 fun p => { p with reloading := false }
/-- The conditions of each clause of TransitionsAndOffersAct can be met. -/
theorem test_met_TransitionsAndOffersAct :
    (∃ (s : State) (k : PortId), s.armed (.srcTransition k) = true ∧ k.isModule = true ∧ (s.port k).pd.await =
      .srcTransition ∧ (s.port k).pd.reqKeep = false ∧ (s.port k).pd.reqMv ≤ orDefault 48000 (s.get (F.CNV_MAX_VMAX k))) ∧
    (∃ (s : State) (k : PortId), (s.port k).pd.await = .transition ∧ 2 ≤ (s.port k).cnv.inRange) ∧
    (∃ (s : State) (k : PortId), s.armed (.transition k) = true ∧ (s.port k).pd.await = .transition ∧ (s.port
      k).pd.hrCount < 2 ∧ s.isSink k = false ∧ s.calm k.num = true ∧ s.portPresent k = true) ∧
    (∃ (s : State) (k : PortId), s.mayOffer k = true ∧ s.overCeiling k = false ∧ (s.port k).pd.ams = false ∧ (s.port
      k).pd.capsDue = true ∧ s.contract k = true) ∧
    (∃ (s : State) (k : PortId), s.armed (.upwardOffer k) = true ∧ s.mayOffer k = true ∧ s.overCeiling k = false ∧ (s.port
      k).pd.ams = false ∧ (s.port k).pd.capsDue = false ∧ s.upward k = true ∧ s.contract k = true) ∧
    (∃ (s : State) (k : PortId), s.armed (.sinkTx k) = true) ∧
    (∃ (s : State) (k : PortId), s.has (F.PD_STATUS_EPR k) = true ∧ s.eprCapable k = false ∧ (s.port k).pd.reloading =
      false ∧ s.switchClosed k = true ∧ (((s.port k).pd.tx.any fun m => decide (m.kind = .eprModeExit)) = false)) ∧
    (∃ (s : State) (k : PortId), s.armed (.keepAlive k) = true ∧ (s.port k).pd.hrCount < 2 ∧ s.isSink k = false) ∧
    (∃ (s : State) (k : PortId), s.armed (.ppsTimeout k) = true ∧ (s.port k).pd.hrCount < 2 ∧ s.isSink k = false) ∧
    (∃ (s : State), (s.port port9).pd.reloading = false ∧ s.get (F.ATT_STATUS_RP port9) = 3 ∧ s.armed .drSwap = true ∧
      s.contract port9 = true ∧ s.has (F.PD_STATUS_DATA_ROLE port9) = true ∧ s.isSink port9 = true) :=
  ⟨⟨wit_transitionStart1, 0, by decide +kernel⟩,
   ⟨wit_transitionEnd1, 0, by decide +kernel⟩,
   ⟨wit_transitionTimeout1, 0, by decide +kernel⟩,
   ⟨wit_capabilitiesUpdate1, 0, by decide +kernel⟩,
   ⟨wit_upwardOfferTimer1, 0, by decide +kernel⟩,
   ⟨wit_sinkTxElapsed1, 0, by decide +kernel⟩,
   ⟨wit_eprExitSend1, 0, by decide +kernel⟩,
   ⟨wit_eprKeepaliveTimeout1, 0, by decide +kernel⟩,
   ⟨wit_ppsTimeout1, 0, by decide +kernel⟩,
   ⟨wit_drSwapRetry1, by decide +kernel⟩⟩

def wit_cableDiscovery1 : State :=
  let k : PortId := 0
  let s := State.reset
  let s : State := s.arm (.vconnStable k) 7
  let s : State := s.put (F.ATT_STATUS_VCONN_ON k) true
  let s : State := s.set (F.BRK_STATUS_STATE k) 3
  s.modPd k fun p => { p with cableDone := false, reloading := false }
def wit_cableIdentityResponse1 : State :=
  let k : PortId := 0
  let s := State.reset
  let s : State := s.set F.SYS_STATE_STATE 2
  let s : State := { s with boot := { s.boot with engRun := 0xFFFF } }
  let s : State := s.set (F.BRK_STATUS_STATE k) 3
  let s : State := s.put (F.ATT_STATUS_PWR_ROLE k) false
  let s : State := s.put (F.ATT_STATUS_VCONN_ON k) true
  s.modPd k fun p => { p with hr := .none, reloading := false, cableDone := false, cableTries := 1, rxIdP := none }
def wit_cableIdentityResponse2 : State :=
  let k : PortId := 0
  let s := State.reset
  let s : State := s.set F.SYS_STATE_STATE 2
  let s : State := { s with boot := { s.boot with engRun := 0xFFFF } }
  let s : State := s.set (F.BRK_STATUS_STATE k) 3
  let s : State := s.put (F.ATT_STATUS_PWR_ROLE k) false
  let s : State := s.put (F.ATT_STATUS_VCONN_ON k) true
  let s : State := s.set (F.PD_STATUS_PE k) 1
  s.modPd k fun p => { p with hr := .none, reloading := false, cableDone := false, cableTries := 1, rxIdP := none }
def wit_authStart1 : State :=
  let k : PortId := 0
  let s := State.reset
  let s : State := s.set (F.PD_CFG_AUTH_W k) 15
  let s : State := s.put (F.PD_STATUS_CONTRACT k) true
  let s : State := s.set (F.BUD_GRANT_CEIL k) 300
  let s : State := s.set (F.PD_STATUS_AUTH k) 0
  let s : State := s.set (F.PD_STATUS_REV k) 2
  let s : State := s.modPd k fun p => { p with ams := false, await := .none, tx := [], reloading := false }
  let s : State := { s with engMem := bankWrite (fun _ => 0#32) s.engMem (k.num * 2 ^ 16) 1#32 }
  { s with otp := [], sec := { s.sec with force := [] } }
def wit_authTimeout1 : State :=
  let k : PortId := 0
  let s := State.reset
  let s : State := s.disarm (.authResponse k)
  s.arm (.authWhole k) 7
def wit_frenerIdent1 : State :=
  let k : PortId := 0
  let s := State.reset
  let s : State := s.put (F.PD_CFG_FRVDM_EN k) true
  let s : State := s.put (F.PD_STATUS_CONTRACT k) true
  let s : State := s.put (F.ATT_STATUS_PWR_ROLE k) false
  let s : State := s.set (F.PD_STATUS_REV k) 2
  s.modPd k fun p => { p with ams := false, await := .none, tx := [], reloading := false, frIdentSent := false }
def wit_frenerIdent2 : State :=
  let k : PortId := 0
  let s := State.reset
  let s : State := s.set F.SYS_STATE_STATE 2
  let s : State := s.modPd k fun p => { p with hr := .none, reloading := false, await := .none, frWait := 1, rxId := none }
  let s : State := { s with boot := { s.boot with engRun := 0xFFFF } }
  let s : State := s.set (F.BRK_STATUS_STATE k) 3
  s.put (F.ATT_STATUS_PWR_ROLE k) false
def wit_frenerVdmTimeout1 : State :=
  let k : PortId := 0
  let s := State.reset
  let s : State := s.arm (.frener k) 7
  s.modPd k fun p => { p with frWait := 1 }
/-- The conditions of each clause of CableAuthAndContactTimersAct can be met. -/
theorem test_met_CableAuthAndContactTimersAct :
    (∃ (s : State) (k : PortId), (s.port k).pd.reloading = false ∧ s.armed (.vconnStable k) = true ∧ s.has
      (F.ATT_STATUS_VCONN_ON k) = true ∧ (s.port k).pd.cableDone = false ∧ s.switchDriven k = true) ∧
    (∃ (s : State) (k : PortId) (id : BitVec 3), s.pdReceives k = true ∧ s.policyRuns k = true ∧ (s.port k).pd.rxIdP ≠
      some id.toNat ∧ s.discovers k = true ∧ s.has (F.ATT_STATUS_VCONN_ON k) = true ∧ (s.port k).pd.cableTries < 3) ∧
    (∃ (s : State) (k : PortId) (id : BitVec 3) (cur : Nat) (vmax : Nat), s.pdReceives k = true ∧ s.policyRuns k = true ∧
      (s.port k).pd.rxIdP ≠ some id.toNat ∧ s.discovers k = true ∧ s.get (F.PD_STATUS_PE k) = 1 ∧ s.has
      (F.ATT_STATUS_VCONN_ON k) = true ∧ cur = 2 ∧ vmax = 3) ∧
    (∃ (s : State) (k : PortId) (g : Nat), s.gateMw? k = some g ∧ s.contract k = true ∧ g < s.ceilMw k ∧ s.get
      (F.PD_STATUS_AUTH k) = 0 ∧ s.amsRuns k = false ∧ (s.port k).pd.reloading = false ∧ s.trustedRoots k ≠ [] ∧ s.rev2 k =
      false) ∧
    (∃ (s : State) (k : PortId), s.armed (.authWhole k) = true ∧ s.armed (.authResponse k) = false) ∧
    (∃ (s : State) (k : PortId), s.frenerOn k = true ∧ (s.port k).pd.frIdentSent = false ∧ s.amsRuns k = false ∧ (s.port
      k).pd.reloading = false ∧ s.isSink k = false) ∧
    (∃ (s : State) (k : PortId) (id : BitVec 3), s.pdReceives k = true ∧ s.policyRuns k = true ∧ (s.port k).pd.rxId ≠ some
      id.toNat ∧ (s.port k).pd.frWait = 1) ∧
    (∃ (s : State) (k : PortId), s.armed (.frener k) = true ∧ (s.port k).pd.frWait ≠ 2) :=
  ⟨⟨wit_cableDiscovery1, 0, by decide +kernel⟩,
   ⟨wit_cableIdentityResponse1, 0, 5#3, by decide +kernel⟩,
   ⟨wit_cableIdentityResponse2, 0, 5#3, 2, 3, by decide +kernel⟩,
   ⟨wit_authStart1, 0, 15000, by decide +kernel⟩,
   ⟨wit_authTimeout1, 0, by decide +kernel⟩,
   ⟨wit_frenerIdent1, 0, by decide +kernel⟩,
   ⟨wit_frenerIdent2, 0, 5#3, by decide +kernel⟩,
   ⟨wit_frenerVdmTimeout1, 0, by decide +kernel⟩⟩

def wit_switchingPeriod1 : State :=
  let k : PortId := 0
  let s := State.reset
  let s : State := s.modCnv k fun c => { c with run := true, limitZero := false, rampOpen := false }
  let s : State := s.set (F.CNV_ILIM_ALLOC k) 3000
  let s : State := s.set (F.CNV_ILIM_EFF k) 3000
  let s : State := s.setWord (R.PD_CONTRACT k) 0
  { s with env := { s.env with vinOk := true, vinOvp := false, vinMv := 54000 }, bus := { s.bus with isoHold := false } }
def wit_switchingPeriod2 : State :=
  let k : PortId := 0
  let s := State.reset
  let s : State := s.modCnv k fun c => { c with run := true, limitZero := false, rampOpen := false, bootLow := 3 }
  let s : State := s.set (F.CNV_ILIM_ALLOC k) 3000
  let s : State := s.set (F.CNV_ILIM_EFF k) 3000
  let s : State := s.setWord (R.PD_CONTRACT k) 0
  let s : State := { s with env := { s.env with vinOk := true, vinOvp := false, vinMv := 54000 }, bus := { s.bus with isoHold := false } }
  s.put (F.FLT_ESC_DIS k.num) true
def wit_outerLoopUpdate1 : State :=
  let s := State.reset
  { s with env := { s.env with vinOk := false } }
def wit_outerLoopUpdate2 : State :=
  let k : PortId := 0
  let s := State.reset
  let s : State := s.modCnv k fun c => { c with run := true, limitZero := false, rampOpen := true, target := 9000, position := 50000 }
  let s : State := s.set (F.CNV_ILIM_ALLOC k) 3000
  let s : State := s.set (F.CNV_ILIM_EFF k) 3000
  let s : State := s.setWord (R.PD_CONTRACT k) 0
  { s with env := { s.env with vinOk := true, vinOvp := false, vinMv := 54000 }, bus := { s.bus with isoHold := false } }
def wit_headroomLost1 : State :=
  let k : PortId := 0
  let s := State.reset
  s.arm (.headroom k) 3
def wit_chkReadingDue1 : State :=
  let k : PortId := 0
  let s := State.reset
  let s : State := s.arm (.chkDue k) 3
  let s : State := s.put (F.PD_STATUS_CONTRACT k) true
  let s : State := { s with boot := { s.boot with disabled := 0, portsAbsent := 0 } }
  s.modPd k fun p => { p with reloading := true }
def wit_chkReadingDue2 : State :=
  let k : PortId := 0
  let s := State.reset
  let s : State := s.arm (.chkDue k) 3
  let s : State := s.put (F.PD_STATUS_CONTRACT k) true
  let s : State := { s with boot := { s.boot with disabled := 0, portsAbsent := 0 } }
  let s : State := s.modPd k fun p => { p with reloading := false }
  let s : State := s.put (F.PD_CFG_FRVDM_EN k) false
  let s : State := s.set (F.CNV_STATUS_MODE k) 0
  let s : State := s.set (F.CNV_CFG_RSNS k) 100
  let s : State := s.set (F.CNV_DROP_IOFS k) 0
  { s with msr := { s.msr with res := [(portChan k 2, (8001, 0, 0))] } }
def wit_chkWindowEnd1 : State :=
  let k : PortId := 0
  let s := State.reset
  let s : State := s.arm (.chkWindow k) 3
  let s : State := s.modChk k fun c => { c with winOpen := true, disturbed := true }
  s.modPd k fun p => { p with frWait := 0 }
def wit_chkWindowEnd2 : State :=
  let k : PortId := 0
  let s := State.reset
  let s : State := { s with msr := { s.msr with windows := [{ id := .health 0, ch := portChan 0 0, sum := 83200, n := 64, lo := 1300, hi := 1300 }, { id := .health 0, ch := portChan 0 1, sum := 82560, n := 64, lo := 1290, hi := 1290 }, { id := .health 0, ch := portChan 0 2, sum := 6400, n := 64, lo := 100, hi := 100 }, { id := .health 0, ch := portChan 0 3, sum := 320, n := 64, lo := 5, hi := 5 }] } }
  let s : State := s.arm (.chkWindow k) 3
  let s : State := s.modChk k fun c => { c with winOpen := true, disturbed := false, mismatch := false, vin := none, refR := none }
  s.modPd k fun p => { p with frWait := 0 }
def wit_chkWindowEnd3 : State :=
  let k : PortId := 0
  let s := State.reset
  let s : State := { s with msr := { s.msr with windows := [{ id := .health 0, ch := portChan 0 0, sum := 83200, n := 64, lo := 1300, hi := 1300 }, { id := .health 0, ch := portChan 0 1, sum := 82560, n := 64, lo := 1290, hi := 1290 }, { id := .health 0, ch := portChan 0 2, sum := 6400, n := 64, lo := 100, hi := 100 }, { id := .health 0, ch := portChan 0 3, sum := 320, n := 64, lo := 5, hi := 5 }] } }
  let s : State := s.arm (.chkWindow k) 3
  let s : State := s.modChk k fun c => { c with winOpen := true, disturbed := false, mismatch := false, vin := none, refR := some (30, ((s.reading? 0).getD ⟨0, 0, 0, 0, 0, 0⟩).ma + 1500), last3 := [] }
  let s : State := s.modPd k fun p => { p with frWait := 0 }
  s.set (F.CHK_CFG_DI k) 10
def wit_allocatorRun1 : State :=
  let s := State.reset
  let s : State := s.set F.SYS_STATE_STATE 2
  { s with upd := { s.upd with paused := false }, bus := { s.bus with restorePrio := none }, bud := { s.bud with vinMins := [] } }
def wit_allocatorRun2 : State :=
  let s := State.reset
  let s : State := s.set F.SYS_STATE_STATE 2
  { s with upd := { s.upd with paused := false }, bus := { s.bus with restorePrio := none } }
def wit_emergencyLever1 : State :=
  let s := State.reset
  let s : State := s.set F.SYS_STATE_STATE 2
  let s : State := { s with upd := { s.upd with paused := false } }
  let s : State := s.set (F.CNV_ILIM_ALLOC 0) 3000
  s.set F.BUD_CFG_P_SUP 0
def wit_emergencyLever2 : State :=
  let s := State.reset
  let s : State := s.set F.SYS_STATE_STATE 2
  let s : State := { s with upd := { s.upd with paused := false } }
  let s : State := s.set (F.CNV_ILIM_ALLOC 0) 3000
  s.set F.BUD_CFG_P_SUP 0
/-- The conditions of each clause of ConvertersAndBudgetAct can be met. -/
theorem test_met_ConvertersAndBudgetAct :
    (∃ (s : State) (k : PortId) (bootOk : Bool) (nodeOk : Bool), s.mayswitch k = true ∧ (bootOk = true ∨ (s.port
      k).cnv.bootLow < 3) ∧ (nodeOk = true ∨ (s.port k).cnv.nodeBad < 7) ∧ s.reverses k = false) ∧
    (∃ (s : State) (k : PortId) (bootOk : Bool), s.mayswitch k = true ∧ bootOk = false ∧ 3 ≤ (s.port k).cnv.bootLow ∧
      s.calm k.num = true) ∧
    (∃ (s : State) (k : PortId), k.isModule = true ∧ ((s.atUpdate k).set (F.CNV_ILIM_EFF k) (s.ilimOf k)).mayswitch k =
      false) ∧
    (∃ (s : State) (k : PortId), ((s.atUpdate k).set (F.CNV_ILIM_EFF k) (s.ilimOf k)).mayswitch k = true ∧ (s.port
      k).cnv.position + s.slew k ≤ 10 * (s.port k).cnv.target) ∧
    (∃ (s : State) (k : PortId), s.armed (.headroom k) = true) ∧
    (∃ (s : State) (k : PortId), s.armed (.chkDue k) = true ∧ s.contract k = true ∧ s.unitOff 5 = false ∧ s.portPresent k
      = true ∧ ((s.port k).pd.reloading = true ∨ s.portMa k < 100 * orDefault 10 (s.get (F.CHK_CFG_IMIN k)))) ∧
    (∃ (s : State) (k : PortId), s.armed (.chkDue k) = true ∧ s.contract k = true ∧ s.unitOff 5 = false ∧ s.portPresent k
      = true ∧ (s.port k).pd.reloading = false ∧ 100 * orDefault 10 (s.get (F.CHK_CFG_IMIN k)) ≤ s.portMa k ∧ s.frenerOn k =
      false) ∧
    (∃ (s : State) (k : PortId), s.armed (.chkWindow k) = true ∧ (s.port k).chk.winOpen = true ∧ (s.port k).pd.frWait ≠ 2
      ∧ (s.port k).chk.disturbed = true) ∧
    (∃ (s : State) (k : PortId) (r : Reading), s.armed (.chkWindow k) = true ∧ (s.port k).chk.winOpen = true ∧ (s.port
      k).pd.frWait ≠ 2 ∧ (s.port k).chk.disturbed = false ∧ (s.port k).chk.mismatch = false ∧ (s.port k).chk.vin = none ∧
      (s.port k).chk.refR = none ∧ s.reading? k = some r ∧ r.steady = true) ∧
    (∃ (s : State) (k : PortId) (r : Reading) (d0 : Int) (i0 : Nat), s.armed (.chkWindow k) = true ∧ (s.port
      k).chk.winOpen = true ∧ (s.port k).pd.frWait ≠ 2 ∧ (s.port k).chk.disturbed = false ∧ (s.port k).chk.mismatch = false
      ∧ (s.port k).chk.vin = none ∧ (s.port k).chk.refR = some (d0, i0) ∧ (s.port k).chk.last3.length < 2 ∧ s.reading? k =
      some r ∧ r.steady = true ∧ 100 * orDefault 10 (s.get (F.CHK_CFG_DI k)) ≤ ((r.ma : Int) - (i0 : Int)).natAbs ∧ 400 ≤
      ((r.ma : Int) - (i0 : Int)).natAbs) ∧
    (∃ (s : State), s.budgetRuns = true ∧ s.bus.restorePrio = none ∧ s.bud.vinMins = []) ∧
    (∃ (s : State) (k : PortId) (vin : Nat), s.budgetRuns = true ∧ s.isIn .autumn = false ∧ s.bus.restorePrio = none ∧ k ≠
      port9 ∧ vin = s.vinRun) ∧
    (∃ (s : State), s.budgetRuns = true ∧ s.pAvail (s.get F.BUS_VIN_VIN_MV) < (modulePorts.map s.limitMw).foldl (· + ·) 0) ∧
    (∃ (s : State) (k : PortId), s.budgetRuns = true ∧ s.pAvail (s.get F.BUS_VIN_VIN_MV) < (modulePorts.map
      s.limitMw).foldl (· + ·) 0 ∧ k ≠ port9 ∧ s.leverPass.of k < s.limitMw k) :=
  ⟨⟨wit_switchingPeriod1, 0, true, true, by decide +kernel⟩,
   ⟨wit_switchingPeriod2, 0, false, by decide +kernel⟩,
   ⟨wit_outerLoopUpdate1, 0, by decide +kernel⟩,
   ⟨wit_outerLoopUpdate2, 0, by decide +kernel⟩,
   ⟨wit_headroomLost1, 0, by decide +kernel⟩,
   ⟨wit_chkReadingDue1, 0, by decide +kernel⟩,
   ⟨wit_chkReadingDue2, 0, by decide +kernel⟩,
   ⟨wit_chkWindowEnd1, 0, by decide +kernel⟩,
   ⟨wit_chkWindowEnd2, 0, ((wit_chkWindowEnd2.reading? 0).getD ⟨0, 0, 0, 0, 0, 0⟩), by decide +kernel⟩,
   ⟨wit_chkWindowEnd3, 0, ((wit_chkWindowEnd3.reading? 0).getD ⟨0, 0, 0, 0, 0, 0⟩), 30, (((wit_chkWindowEnd3.reading? 0).getD ⟨0, 0, 0, 0, 0, 0⟩).ma + 1500), by decide +kernel⟩,
   ⟨wit_allocatorRun1, by decide +kernel⟩,
   ⟨wit_allocatorRun2, 0, wit_allocatorRun2.vinRun, by decide +kernel⟩,
   ⟨wit_emergencyLever1, by decide +kernel⟩,
   ⟨wit_emergencyLever2, 0, by decide +kernel⟩⟩

def wit_precloseTestElapsed1 : State :=
  let k : PortId := 0
  let s := State.reset
  let s : State := s.arm (.preClose k) 3
  s.set (F.BRK_STATUS_STATE k) 1
def wit_precloseTestElapsed2 : State :=
  let k : PortId := 0
  let s := State.reset
  let s : State := s.set F.SYS_STATE_STATE 2
  let s : State := s.set (F.BRK_STATUS_STATE k) 1
  let s : State := s.arm (.preClose k) 3
  { s with boot := { s.boot with portsAbsent := 0 }, upd := { s.upd with paused := false } }
def wit_foldbackStep1 : State :=
  let k : PortId := 0
  let s := State.reset
  s.set (F.BRK_STATUS_STATE k) 2
def wit_switchClosed1 : State :=
  let k : PortId := 0
  let s := State.reset
  s.set (F.BRK_STATUS_STATE k) 2
def wit_closingTimeout1 : State :=
  let k : PortId := 0
  let s := State.reset
  let s : State := s.arm (.closing k) 3
  let s : State := s.set (F.BRK_STATUS_STATE k) 2
  s.put (F.FLT_ESC_DIS k.num) true
def wit_shortDetected1 : State :=
  let k : PortId := 0
  let s := State.reset
  let s : State := s.modBrk k fun b => { b with dropArmed := true }
  let s : State := s.set (F.BRK_STATUS_STATE k) 3
  s.put (F.FLT_ESC_DIS k.num) true
def wit_breakerStep1 : State :=
  let k : PortId := 0
  let s := State.reset
  let s : State := s.set (F.BRK_STATUS_STATE k) 3
  let s : State := s.set (F.BRK_CFG_NPTS k) 2
  let s : State := s.set (F.BRK_PT_R k 0) 80
  s.modBrk k fun b => { b with acc := 4096, iRef := 900 }
def wit_breakerStep2 : State :=
  let k : PortId := 0
  let s := State.reset
  let s : State := s.set (F.BRK_STATUS_STATE k) 3
  let s : State := s.set (F.BRK_CFG_NPTS k) 2
  let s : State := s.set (F.BRK_PT_R k 0) 80
  let s : State := s.modBrk k fun b => { b with acc := 2 ^ 32, iRef := 900 }
  s.put (F.FLT_ESC_DIS k.num) true
/-- The conditions of each clause of PortSwitchClosesAndTrips can be met. -/
theorem test_met_PortSwitchClosesAndTrips :
    (∃ (s : State) (k : PortId) (rose : Bool), s.armed (.preClose k) = true ∧ s.get (F.BRK_STATUS_STATE k) = 1 ∧ rose =
      false) ∧
    (∃ (s : State) (k : PortId) (rose : Bool), s.armed (.preClose k) = true ∧ s.get (F.BRK_STATUS_STATE k) = 1 ∧ rose =
      true ∧ s.portPresent k = true ∧ s.isAny [.spring, .summer] = true ∧ s.upd.paused = false) ∧
    (∃ (s : State) (k : PortId), s.get (F.BRK_STATUS_STATE k) = 2) ∧
    (∃ (s : State) (k : PortId), s.get (F.BRK_STATUS_STATE k) = 2) ∧
    (∃ (s : State) (k : PortId), s.armed (.closing k) = true ∧ s.get (F.BRK_STATUS_STATE k) = 2 ∧ s.calm k.num = true) ∧
    (∃ (s : State) (k : PortId) (arm : Nat) (uv : Nat), s.armArmed k arm = true ∧ s.shortTrips k arm uv = true ∧
      s.portPresent k = true ∧ s.calm k.num = true) ∧
    (∃ (s : State) (k : PortId) (ma : Nat), (s.get (F.BRK_STATUS_STATE k) = 2 ∨ s.get (F.BRK_STATUS_STATE k) = 3) ∧ s.get
      (F.BRK_CFG_NPTS k) ≠ 0 ∧ ma * 64 / max 1 (s.port k).brk.iRef < s.curveR k 0 ∧ (s.port k).brk.acc < 2 ^ 32) ∧
    (∃ (s : State) (k : PortId) (ma : Nat) (dtNs : Nat), (s.get (F.BRK_STATUS_STATE k) = 2 ∨ s.get (F.BRK_STATUS_STATE k)
      = 3) ∧ s.get (F.BRK_CFG_NPTS k) ≠ 0 ∧ 2 ^ 32 ≤ s.accStep k (ma * 64 / max 1 (s.port k).brk.iRef) dtNs ∧ s.calm k.num =
      true) :=
  ⟨⟨wit_precloseTestElapsed1, 0, false, by decide +kernel⟩,
   ⟨wit_precloseTestElapsed2, 0, true, by decide +kernel⟩,
   ⟨wit_foldbackStep1, 0, by decide +kernel⟩,
   ⟨wit_switchClosed1, 0, by decide +kernel⟩,
   ⟨wit_closingTimeout1, 0, by decide +kernel⟩,
   ⟨wit_shortDetected1, 0, 0, 200000, by decide +kernel⟩,
   ⟨wit_breakerStep1, 0, 900, by decide +kernel⟩,
   ⟨wit_breakerStep2, 0, 900, 0, by decide +kernel⟩⟩

def wit_allowanceEnd1 : State :=
  let k : PortId := 0
  let s := State.reset
  let s : State := s.arm (.allowance k) 3
  s.set (F.BRK_STATUS_STATE k) 4
def wit_retryOffElapsed1 : State :=
  let k : PortId := 0
  let s := State.reset
  let s : State := s.arm (.retryOff k) 3
  s.set (F.BRK_STATUS_STATE k) 6
def wit_retryCountClear1 : State :=
  let k : PortId := 0
  let s := State.reset
  let s : State := s.arm (.retryClear k) 3
  s.set (F.BRK_STATUS_RETRIES k) 2
def wit_offCheck1 : State :=
  let k : PortId := 0
  let s := State.reset
  let s : State := s.arm (.offCheck k) 3
  let s : State := s.set (F.BRK_STATUS_STATE k) 5
  let s : State := s.modBrk k fun b => { b with after := 7 }
  { s with msr := { s.msr with res := [(portChan k 0, (2001, 0, 0))] } }
def wit_ntcRecovered1 : State :=
  let k : PortId := 0
  let s := State.reset
  let s : State := s.arm (.ntcCool k) 3
  let s : State := s.set (F.BRK_STATUS_STATE k) 8
  s.modBrk k fun b => { b with heldNtc := true, heldUntilDetach := false }
def wit_gateDriveLost1 : State :=
  let k : PortId := 0
  let s := State.reset
  let s : State := s.set (F.BRK_STATUS_STATE k) 3
  s.put (F.FLT_ESC_DIS k.num) true
def wit_onDropDegraded1 : State :=
  let k : PortId := 0
  let s := State.reset
  let s : State := s.arm (.onDrop k) 3
  let s : State := s.set (F.BRK_STATUS_STATE k) 3
  s.modBrk k fun b => { b with degradedWarned := false }
/-- The conditions of each clause of BreakerRetriesAndChecksAct can be met. -/
theorem test_met_BreakerRetriesAndChecksAct :
    (∃ (s : State) (k : PortId), s.armed (.allowance k) = true ∧ s.get (F.BRK_STATUS_STATE k) = 4) ∧
    (∃ (s : State) (k : PortId), s.armed (.retryOff k) = true ∧ s.get (F.BRK_STATUS_STATE k) = 6) ∧
    (∃ (s : State) (k : PortId), s.armed (.retryClear k) = true) ∧
    (∃ (s : State) (k : PortId), s.armed (.offCheck k) = true ∧ s.get (F.BRK_STATUS_STATE k) = 5 ∧ s.vcsns k + 500 ≤
      s.vbsns k ∧ (s.port k).brk.after = 7) ∧
    (∃ (s : State) (k : PortId), s.armed (.ntcCool k) = true ∧ s.get (F.BRK_STATUS_STATE k) = 8 ∧ (s.port k).brk.heldNtc =
      true ∧ (s.port k).brk.heldUntilDetach = false) ∧
    (∃ (s : State) (k : PortId), s.switchClosed k = true ∧ s.calm k.num = true) ∧
    (∃ (s : State) (k : PortId), s.armed (.onDrop k) = true ∧ (s.port k).brk.degradedWarned = false ∧ s.switchClosed k =
      true) :=
  ⟨⟨wit_allowanceEnd1, 0, by decide +kernel⟩,
   ⟨wit_retryOffElapsed1, 0, by decide +kernel⟩,
   ⟨wit_retryCountClear1, 0, by decide +kernel⟩,
   ⟨wit_offCheck1, 0, by decide +kernel⟩,
   ⟨wit_ntcRecovered1, 0, by decide +kernel⟩,
   ⟨wit_gateDriveLost1, 0, by decide +kernel⟩,
   ⟨wit_onDropDegraded1, 0, by decide +kernel⟩⟩

def wit_powerupStepDelayElapsed1 : State :=
  let s := State.reset
  let s : State := s.set F.SYS_STATE_STATE 1
  let s : State := s.set F.SQC_STATUS_PHASE 1
  let s : State := s.arm .seqDelay 3
  let s : State := s.set F.SQC_STATUS_STEP 2
  let s : State := s.put (F.SQC_UP_GATE 2) true
  let s : State := s.put F.AXL_STATUS_UPV false
  { s with boot := { s.boot with disabled := 0 } }
def wit_powerupStepDelayElapsed2 : State :=
  let s := State.reset
  let s : State := s.set F.SYS_STATE_STATE 1
  let s : State := s.set F.SQC_STATUS_PHASE 1
  let s : State := s.arm .seqDelay 3
  let s : State := s.set F.SQC_STATUS_STEP 2
  let s : State := s.put (F.SQC_UP_GATE 2) false
  let s : State := s.set (F.SQ_UP_UP 4) 3
  let s : State := s.put (F.SQ_STATUS_EN 4) false
  let s : State := s.modRail 4 fun r => { r with lostUntilSpring := false }
  { s with boot := { s.boot with railsAbsent := 0 } }
def wit_powerupStepDelayElapsed3 : State :=
  let s := State.reset
  let s : State := s.set F.SYS_STATE_STATE 1
  let s : State := s.set F.SQC_STATUS_PHASE 1
  let s : State := s.arm .seqDelay 3
  let s : State := s.set F.SQC_STATUS_STEP 2
  let s : State := s.put (F.SQC_UP_GATE 2) false
  let s : State := s.set (F.SQ_UP_UP 4) 3
  let s : State := s.set (F.SQ_UP_UP_DLY 4) 7
  let s : State := s.put (F.SQ_STATUS_EN 4) false
  let s : State := s.modRail 4 fun r => { r with lostUntilSpring := false }
  { s with boot := { s.boot with railsAbsent := 0 } }
def wit_railEnable1 : State :=
  let j : RailId := 3
  let s := State.reset
  let s : State := s.set F.SYS_STATE_STATE 1
  let s : State := s.set F.SQC_STATUS_PHASE 1
  s.arm (.railDelay j) 3
def wit_railRiseTimeout1 : State :=
  let j : RailId := 3
  let s := State.reset
  let s : State := { s with now := 4 }
  s.arm (.rise j) 3
def wit_railRiseTimeout2 : State :=
  let j : RailId := 3
  let s := State.reset
  let s : State := s.set F.SYS_STATE_STATE 1
  let s : State := { s with boot := { s.boot with railsAbsent := 0 }, upd := { s.upd with paused := false } }
  s.arm (.rise j) 3
def wit_railFrameJudge1 : State :=
  let s := State.reset
  let s : State := s.set F.SQC_STATUS_PHASE 0
  { s with boot := { s.boot with railsAbsent := 0 }, msr := { s.msr with windows := [] } }
def wit_railFrameJudge2 : State :=
  let s := State.reset
  let s : State := s.set F.SQC_STATUS_PHASE 0
  let s : State := s.set (F.SQ_NOM_VNOM 3) 0
  { s with boot := { s.boot with railsAbsent := 0 }, msr := { s.msr with windows := [{ id := .rail 3, ch := 0x54, sum := 25000, n := 2, lo := 12000, hi := 13000 }] } }
def wit_resetStretchElapsed1 : State :=
  let n : Fin 4 := 1
  let s := State.reset
  let s : State := s.arm (.stretch n) 3
  let s : State := s.set F.SQC_STATUS_PHASE 2
  let s : State := s.set (F.SQC_RST_WATCH 1) 0
  { s with seq := { s.seq with tableDone := true } }
def wit_resetStretchElapsed2 : State :=
  let n : Fin 4 := 1
  let s := State.reset
  let s : State := s.arm (.stretch n) 3
  s.set F.SQC_STATUS_PHASE 3
/-- The conditions of each clause of PowerUpAndResetsSequence can be met. -/
theorem test_met_PowerUpAndResetsSequence :
    (∃ (s : State), s.phase = 1 ∧ s.isIn .spring = true ∧ s.armed .seqDelay = true ∧ s.has (F.SQC_UP_GATE s.seqStep) =
      true ∧ s.linkOn = true ∧ s.upGateOpen s.seqStep = false) ∧
    (∃ (s : State), s.phase = 1 ∧ s.isIn .spring = true ∧ s.armed .seqDelay = true ∧ s.has (F.SQC_UP_GATE s.seqStep) =
      false ∧ (((s.upRails s.seqStep).any fun j => !s.inReg j && !(s.rail j).lostUntilSpring) = true)) ∧
    (∃ (s : State) (j : RailId), s.phase = 1 ∧ s.isIn .spring = true ∧ s.armed .seqDelay = true ∧ s.has (F.SQC_UP_GATE
      s.seqStep) = false ∧ (s.upRails s.seqStep).contains j = true ∧ s.inReg j = false ∧ (s.rail j).lostUntilSpring = false) ∧
    (∃ (s : State) (j : RailId), s.phase = 1 ∧ s.isIn .spring = true ∧ s.armed (.railDelay j) = true) ∧
    (∃ (s : State) (j : RailId) (d : Nat), s.deadline (.rise j) = some d) ∧
    (∃ (s : State) (j : RailId), s.armed (.rise j) = true ∧ s.railPresent j = true ∧ s.isAny [.spring, .summer] = true ∧
      s.upd.paused = false) ∧
    (∃ (s : State) (j : RailId), s.railPresent j = true ∧ s.window? (.rail j) (0x51 + j.val) = none ∧ s.phase = 0) ∧
    (∃ (s : State) (j : RailId) (pg : Bool) (v : Win) (m : Nat), s.railPresent j = true ∧ s.window? (.rail j) (0x51 +
      j.val) = some v ∧ v.n ≠ 0 ∧ s.phase = 0 ∧ (m = (if 10 * s.regMv j ≤ 4 * v.lo.toNat ∧ (s.has (F.SQ_UP_PG_USE j) = false
      ∨ pg = true) then (s.rail j).regFrames + 1 else 0))) ∧
    (∃ (s : State) (n : Fin 4), s.armed (.stretch n) = true ∧ s.resetsMove = true ∧ s.releaseHolds n = true) ∧
    (∃ (s : State) (n : Fin 4), s.armed (.stretch n) = true ∧ s.resetsMove = false) :=
  ⟨⟨wit_powerupStepDelayElapsed1, by decide +kernel⟩,
   ⟨wit_powerupStepDelayElapsed2, by decide +kernel⟩,
   ⟨wit_powerupStepDelayElapsed3, 4, by decide +kernel⟩,
   ⟨wit_railEnable1, 3, by decide +kernel⟩,
   ⟨wit_railRiseTimeout1, 3, 7, by decide +kernel⟩,
   ⟨wit_railRiseTimeout2, 3, by decide +kernel⟩,
   ⟨wit_railFrameJudge1, 3, by decide +kernel⟩,
   ⟨wit_railFrameJudge2, 3, true, ({ id:=.rail 3, ch:=0x54,sum:=25000,n:=2,lo:=12000,hi:=13000}), 1, by decide +kernel⟩,
   ⟨wit_resetStretchElapsed1, 1, by decide +kernel⟩,
   ⟨wit_resetStretchElapsed2, 1, by decide +kernel⟩⟩

def wit_powerdownStepDelayElapsed1 : State :=
  let s := State.reset
  let s : State := s.set F.SQC_STATUS_PHASE 3
  let s : State := s.arm .seqDelay 3
  let s : State := s.set F.SQC_STATUS_STEP 2
  let s : State := s.put (F.SQC_DN_GATE 2) true
  let s : State := s.put F.AXL_STATUS_DNV false
  { s with boot := { s.boot with disabled := 0 } }
def wit_powerdownStepDelayElapsed2 : State :=
  let s := State.reset
  let s : State := s.set F.SYS_STATE_STATE 3
  let s : State := s.set F.SQC_STATUS_PHASE 3
  let s : State := s.arm .seqDelay 3
  let s : State := s.set F.SQC_STATUS_STEP 2
  let s : State := s.put (F.SQC_DN_GATE 2) false
  let s : State := s.set (F.SQ_DN_DN 4) 3
  let s : State := s.set (F.SQ_DN_DN_DLY 4) 7
  let s : State := s.modRail 4 fun r => { r with stepDone := false }
  { s with boot := { s.boot with railsAbsent := 0 } }
def wit_downGateTimeout1 : State :=
  let s := State.reset
  let s : State := s.set F.SQC_STATUS_PHASE 3
  let s : State := s.arm .gateTimeout 3
  let s : State := s.set F.SQC_STATUS_STEP 2
  let s : State := s.set (F.SQ_DN_DN 4) 3
  let s : State := s.modRail 4 fun r => { r with stepDone := false }
  { s with boot := { s.boot with railsAbsent := 0 } }
def wit_railRelease1 : State :=
  let j : RailId := 3
  let s := State.reset
  let s : State := s.set F.SQC_STATUS_PHASE 3
  let s : State := s.arm (.railDelay j) 3
  s.set F.SQC_RAILS_BELOW 0
def wit_railFallTimeout1 : State :=
  let j : RailId := 3
  let s := State.reset
  s.arm (.fall j) 3
def wit_dischargeTimeout1 : State :=
  let j : RailId := 3
  let s := State.reset
  let s : State := s.arm (.discharge j) 3
  let s : State := s.set F.SQC_STATUS_PHASE 5
  let s : State := s.set F.SQC_RAILS_BELOW 0
  s.put (F.FLT_ESC_DIS (0x10 + j.val)) true
def wit_marginFrameStep1 : State :=
  let j : RailId := 2
  let s := State.reset
  let s : State := s.modRail j fun r => { r with n := 1, sum := 8250 }
  let s : State := s.put (F.SQ_MGST_MOVING j) true
  s.put (F.SQ_MGST_DRIVING j) false
def wit_marginFrameStep2 : State :=
  let j : RailId := 2
  let s := State.reset
  let s : State := s.modRail j fun r => { r with n := 1, sum := 7500 }
  let s : State := s.put (F.SQ_MGST_MOVING j) true
  let s : State := s.put (F.SQ_MGST_DRIVING j) true
  let s : State := s.put (F.SQ_MGCAL_DIR j) true
  s.set (F.SQ_NOM_VNOM j) 3300
def wit_marginTimeout1 : State :=
  let j : RailId := 2
  let s := State.reset
  let s : State := s.set F.SYS_STATE_STATE 2
  let s : State := { s with boot := { s.boot with railsAbsent := 0 } }
  let s : State := s.put (F.SQ_MGST_MOVING j) true
  let s : State := s.modRail j fun r => { r with atRail := 8 }
  s.put (F.FLT_ESC_DIS (0x10 + j.val)) true
/-- The conditions of each clause of PowerDownAndMarginSequence can be met. -/
theorem test_met_PowerDownAndMarginSequence :
    (∃ (s : State), s.phase = 3 ∧ s.armed .seqDelay = true ∧ s.has (F.SQC_DN_GATE s.seqStep) = true ∧ s.linkOn = true ∧
      s.downGateOpen s.seqStep = false) ∧
    (∃ (s : State) (j : RailId), s.phase = 3 ∧ s.armed .seqDelay = true ∧ s.has (F.SQC_DN_GATE s.seqStep) = false ∧
      (s.downRails s.seqStep).contains j = true ∧ (s.rail j).stepDone = false) ∧
    (∃ (s : State), s.armed .gateTimeout = true ∧ s.phase = 3 ∧ (((s.downRails s.seqStep).any fun j => !(s.rail
      j).stepDone) = true)) ∧
    (∃ (s : State) (j : RailId), s.phase = 3 ∧ s.armed (.railDelay j) = true ∧ s.below j = false) ∧
    (∃ (s : State) (j : RailId), s.armed (.fall j) = true) ∧
    (∃ (s : State) (j : RailId), s.armed (.discharge j) = true ∧ s.below j = false ∧ s.phase ≠ 3 ∧ s.calm (0x10 + j.val) =
      true) ∧
    (∃ (s : State) (j : RailId), s.isAny [.autumn, .winter, .deepWinter] = false ∧ s.has (F.SQ_MGST_MOVING j) = true ∧
      (s.rail j).n ≠ 0 ∧ s.has (F.SQ_MGST_DRIVING j) = false) ∧
    (∃ (s : State) (j : RailId), (s.rail j).n ≠ 0 ∧ s.isAny [.autumn, .winter, .deepWinter] = false ∧ s.has
      (F.SQ_MGST_MOVING j) = true ∧ s.has (F.SQ_MGST_DRIVING j) = true ∧ s.marginErr j < -(((s.rail j).n * s.vnom j : Nat) :
      Int) ∧ s.has (F.SQ_MGCAL_DIR j) = true) ∧
    (∃ (s : State) (j : RailId), s.has (F.SQ_MGST_MOVING j) = true ∧ s.marginHeld = false ∧ s.railPresent j = true ∧ 8 ≤
      (s.rail j).atRail ∧ s.calm (0x10 + j.val) = true) :=
  ⟨⟨wit_powerdownStepDelayElapsed1, by decide +kernel⟩,
   ⟨wit_powerdownStepDelayElapsed2, 4, by decide +kernel⟩,
   ⟨wit_downGateTimeout1, by decide +kernel⟩,
   ⟨wit_railRelease1, 3, by decide +kernel⟩,
   ⟨wit_railFallTimeout1, 3, by decide +kernel⟩,
   ⟨wit_dischargeTimeout1, 3, by decide +kernel⟩,
   ⟨wit_marginFrameStep1, 2, by decide +kernel⟩,
   ⟨wit_marginFrameStep2, 2, by decide +kernel⟩,
   ⟨wit_marginTimeout1, 2, by decide +kernel⟩⟩

def wit_cascArm1 : State :=
  let s := State.reset
  let s : State := { s with boot := { s.boot with disabled := 0 }, axl := { s.axl with chainFault := false } }
  let s : State := s.put F.PROT_STATUS_SEALED true
  let s : State := s.set F.SYS_STATE_STATE 1
  let s : State := s.put F.SYS_STATE_COMMITTED false
  s.set F.SQC_STATUS_PHASE 0
def wit_cascFault1 : State :=
  let s := State.reset
  let s : State := s.set F.SYS_STATE_STATE 2
  let s : State := s.put F.AXL_STATUS_CASC_ARMED true
  { s with boot := { s.boot with disabled := 8 } }
def wit_cascFault2 : State :=
  let s := State.reset
  let s : State := s.set F.SYS_STATE_STATE 2
  let s : State := s.put F.AXL_STATUS_CASC_ARMED true
  { s with upd := { s.upd with paused := false } }
def wit_axkanCycle1 : State :=
  let s := State.reset
  let s : State := { s with boot := { s.boot with disabled := 0, engRun := 2 ^ 10 }, seq := { s.seq with sub := .idle } }
  let s : State := s.set F.SYS_STRAP_CHAIN_POS 0
  s.put F.PROT_STATUS_SEALED true
def wit_axkanSlaveWindow1 : State :=
  let s := State.reset
  let s : State := { s with boot := { s.boot with disabled := 0, engRun := 2 ^ 10 }, axl := { s.axl with joined := true } }
  let s : State := s.set F.SYS_STRAP_CHAIN_POS 1
  s.put F.PROT_STATUS_SEALED true
def wit_axkanSync1 : State :=
  let s := State.reset
  let s : State := { s with boot := { s.boot with disabled := 0, engRun := 2 ^ 10 }, axl := { s.axl with bootsM := some 1, cyc := 4, kS := [] }, seq := { s.seq with sub := .idle } }
  let s : State := s.set F.SYS_STRAP_CHAIN_POS 1
  s.put F.PROT_STATUS_SEALED true
def wit_axkanJoin1 : State :=
  let s := State.reset
  let s : State := { s with boot := { s.boot with disabled := 0, engRun := 2 ^ 10 }, axl := { s.axl with bootsM := none } }
  let s : State := s.set F.SYS_STRAP_CHAIN_POS 1
  s.put F.PROT_STATUS_SEALED true
/-- A JOIN frame with the MAC that the state asks for, whatever its value. -/
theorem join_frame_met : ∃ (s : State) (f : BitVec 96), s.linkServed = true ∧ s.chainPos ≠ 0 ∧
    frameType f = 2 ∧ f.toNat % 2 ^ 32 = s.linkMac s.joinKey none (frameTop f) ∧ frameSrc f = 0 ∧
    s.axl.bootsM ≠ some (frameTop f % 2 ^ 32) := by
  have hm := linkMac_lt wit_axkanJoin1 wit_axkanJoin1.joinKey none (2 ^ 61 + 9)
  obtain ⟨h, ht⟩ := frameOf_parts (2 ^ 61 + 9) _ (by decide) hm
  refine ⟨wit_axkanJoin1, frameOf (2 ^ 61 + 9) (wit_axkanJoin1.linkMac wit_axkanJoin1.joinKey none (2 ^ 61 + 9)),
    by decide +kernel, by decide +kernel, ?_, ?_, ?_, ?_⟩
  · unfold frameType; rw [h]; omega
  · rw [ht, h]; omega
  · unfold frameSrc; rw [h]; omega
  · rw [ht]; decide +kernel

def wit_axkanReport1 : State :=
  let s := State.reset
  let s : State := { s with boot := { s.boot with disabled := 0, engRun := 2 ^ 10 }, axl := { s.axl with cyc := 4, kS := [] } }
  let s : State := s.set F.SYS_STRAP_CHAIN_POS 0
  let s : State := s.set F.AXL_CFG_SIZE 3
  s.put F.PROT_STATUS_SEALED true
def wit_axkanReport2 : State :=
  let s := State.reset
  let s : State := { s with boot := { s.boot with disabled := 0, engRun := 2 ^ 10 }, axl := { s.axl with cyc := 4, kS := [] } }
  let s : State := s.set F.SYS_STRAP_CHAIN_POS 0
  s.put F.PROT_STATUS_SEALED true
def wit_axkanReport3 : State :=
  let s := State.reset
  let s : State := { s with boot := { s.boot with disabled := 0, engRun := 2 ^ 10 }, axl := { s.axl with cyc := 4, kS := [] } }
  let s : State := s.set F.SYS_STRAP_CHAIN_POS 0
  s.put F.PROT_STATUS_SEALED true
def wit_axkanLinkLost1 : State :=
  let s := State.reset
  let s : State := { s with boot := { s.boot with disabled := 0, engRun := 2 ^ 10 }, axl := { s.axl with lost := false, sinceValid := [5, 0, 0, 0] } }
  let s : State := s.set F.SYS_STRAP_CHAIN_POS 1
  let s : State := s.put F.PROT_STATUS_SEALED true
  s.put (F.FLT_ESC_DIS 0x29) true
/-- The conditions of each clause of AxkanLinkActs can be met. -/
theorem test_met_AxkanLinkActs :
    (∃ (s : State), s.linkOn = true ∧ s.cascOk = true ∧ s.axl.chainFault = false) ∧
    (∃ (s : State), s.has F.AXL_STATUS_CASC_ARMED = true ∧ s.isMaster = false ∧ s.isIn .deepWinter = false) ∧
    (∃ (s : State), s.has F.AXL_STATUS_CASC_ARMED = true ∧ s.isAny [.spring, .summer] = true ∧ s.upd.paused = false) ∧
    (∃ (s : State), s.isMaster = true ∧ s.linkServed = true ∧ s.seq.sub ≠ .gate) ∧
    (∃ (s : State), s.linkServed = true ∧ s.chainPos ≠ 0 ∧ s.axl.joined = true) ∧
    (∃ (s : State) (f : BitVec 96), s.linkServed = true ∧ s.chainPos ≠ 0 ∧ frameType f = 1 ∧ s.axl.bootsM ≠ none ∧ f.toNat
      % 2 ^ 32 = s.linkMac s.axl.kS (some (frameTop f % 2 ^ 48)) (frameTop f) ∧ frameSrc f = 0 ∧ s.axl.cyc < frameTop f % 2
      ^ 48 ∧ s.seq.sub ≠ .gate) ∧
    (∃ (s : State) (f : BitVec 96), s.linkServed = true ∧ s.chainPos ≠ 0 ∧ frameType f = 2 ∧ f.toNat % 2 ^ 32 = s.linkMac
      s.joinKey none (frameTop f) ∧ frameSrc f = 0 ∧ s.axl.bootsM ≠ some (frameTop f % 2 ^ 32)) ∧
    (∃ (s : State) (f : BitVec 96), s.isMaster = true ∧ s.linkServed = true ∧ frameType f = 8 ∧ f.toNat % 2 ^ 32 =
      s.linkMac s.axl.kS (some s.axl.cyc) (frameTop f) ∧ frameTop f % 2 ^ 32 = s.axl.cyc % 2 ^ 32 ∧ frameSrc f ≠ 0 ∧
      frameSrc f < s.chainSize) ∧
    (∃ (s : State) (f : BitVec 96), s.isMaster = true ∧ s.linkServed = true ∧ frameType f = 8 ∧ frameTop f % 2 ^ 32 =
      s.axl.cyc % 2 ^ 32 ∧ f.toNat % 2 ^ 32 ≠ s.linkMac s.axl.kS (some s.axl.cyc) (frameTop f)) ∧
    (∃ (s : State) (f : BitVec 96), s.isMaster = true ∧ s.linkServed = true ∧ frameType f = 8 ∧ frameTop f % 2 ^ 32 ≠
      s.axl.cyc % 2 ^ 32) ∧
    (∃ (s : State), s.isMaster = false ∧ s.linkServed = true ∧ s.axl.lost = false ∧ 4 ≤ s.linkAge 0 ∧ s.calm 0x29 = true) :=
  ⟨⟨wit_cascArm1, by decide +kernel⟩,
   ⟨wit_cascFault1, by decide +kernel⟩,
   ⟨wit_cascFault2, by decide +kernel⟩,
   ⟨wit_axkanCycle1, by decide +kernel⟩,
   ⟨wit_axkanSlaveWindow1, by decide +kernel⟩,
   ⟨wit_axkanSync1, (frameOf (2 ^ 60 + 7) (wit_axkanSync1.linkMac wit_axkanSync1.axl.kS (some 7) (2 ^ 60 + 7))), by decide +kernel⟩,
   join_frame_met,
   ⟨wit_axkanReport1, (frameOf (2 ^ 63 + 2 ^ 58 + 4) (wit_axkanReport1.linkMac wit_axkanReport1.axl.kS (some 4) (2 ^ 63 + 2 ^ 58 + 4))), by decide +kernel⟩,
   ⟨wit_axkanReport2, (frameOf (2 ^ 63 + 2 ^ 58 + 4) (wit_axkanReport2.linkMac wit_axkanReport2.axl.kS (some 4) (2 ^ 63 + 2 ^ 58 + 4) + 1)), by decide +kernel⟩,
   ⟨wit_axkanReport3, (frameOf (2 ^ 63 + 2 ^ 58 + 3) (wit_axkanReport3.linkMac wit_axkanReport3.axl.kS (some 3) (2 ^ 63 + 2 ^ 58 + 3))), by decide +kernel⟩,
   ⟨wit_axkanLinkLost1, by decide +kernel⟩⟩

def wit_hubPortDataEnable1 : State :=
  let s := State.reset
  let s : State := { s with boot := { s.boot with portsAbsent := 0 } }
  let s : State := s.set F.HUB_PORTS_DATA_EN 0xFF
  let s : State := s.set F.SYS_STATE_STATE 2
  let s : State := s.set (F.ATT_STATUS_ASTATE (hubPort 2)) 7
  let s : State := s.set (F.BRK_STATUS_STATE (hubPort 2)) 3
  s.put (F.HUB_PSTAT_DATA_ON (hubPort 2)) false
def wit_hubPortDataEnable2 : State :=
  let s := State.reset
  let s : State := s.set F.HUB_PORTS_DATA_EN 0
  s.put (F.HUB_PSTAT_DATA_ON (hubPort 2)) true
def wit_hubPortDataEnable3 : State :=
  let s := State.reset
  let s : State := { s with boot := { s.boot with portsAbsent := 0, disabled := 0 }, hub := {} }
  let s : State := s.set F.HUB_PORTS_DATA_EN 0xFF
  let s : State := s.set F.SYS_STATE_STATE 2
  let s : State := s.set (F.ATT_STATUS_ASTATE (hubPort 2)) 7
  let s : State := s.set (F.BRK_STATUS_STATE (hubPort 2)) 3
  let s : State := s.put (F.HUB_PSTAT_DATA_ON (hubPort 2)) true
  let s : State := s.put F.HUB_STATUS_SS_STOPPED false
  s.set F.HUB_CFG_SS_DIS 0
def wit_hubPacketReceived1 : State :=
  let s := State.reset
  let s : State := s.put (F.HUB_PSTAT_DATA_ON (hubPort 2)) true
  let s : State := { s with boot := { s.boot with disabled := 0 }, pins := { s.pins with ups := true } , hub := {} }
  let s : State := s.put F.HUB_STATUS_SS_STOPPED false
  s.set F.HUB_CFG_SS_DIS 0
def wit_hubPacketReceived2 : State :=
  let s := State.reset
  let s : State := s.put (F.HUB_PSTAT_DATA_ON (hubPort 2)) true
  let s : State := { s with boot := { s.boot with disabled := 0 }, pins := { s.pins with ups := true } , hub := {} }
  let s : State := s.put F.HUB_STATUS_SS_STOPPED false
  s.set F.HUB_CFG_SS_DIS 0
def wit_hubPacketSent1 : State :=
  let s := State.reset
  { s with hub := { s.hub with pkts := [{ up := true, port := 2, prio := false, store := 2, sending := true }] } }
def wit_bufferEccError1 : State :=
  let s := State.reset
  s.put (F.FLT_ESC_DIS 0x28) true
def wit_poolEmptyTimeout1 : State :=
  let s := State.reset
  s.arm .poolEmpty 3
def wit_ssTrainingFailed1 : State :=
  let s := State.reset
  { s with pins := { s.pins with ups := true } }
def wit_ssTrainingFailed2 : State :=
  let s := State.reset
  let s : State := s.put (F.HUB_PSTAT_DATA_ON (hubPort 2)) true
  let s : State := { s with boot := { s.boot with disabled := 0 } , hub := {} }
  let s : State := s.put F.HUB_STATUS_SS_STOPPED false
  s.set F.HUB_CFG_SS_DIS 0
def wit_linkRecoveryExcess1 : State :=
  State.reset
def wit_linkRecoveryExcess2 : State :=
  let s := State.reset
  { s with hub := { s.hub with recWarned := [] } }
def wit_ssPllUnlock1 : State :=
  let s := State.reset
  let s : State := { s with boot := { s.boot with disabled := 0 } }
  let s : State := s.put F.HUB_STATUS_SS_STOPPED false
  s.put (F.FLT_ESC_DIS 0x22) true
def wit_hs9PllUnlock1 : State :=
  let s := State.reset
  let s : State := s.set F.SYS_STATE_STATE 2
  let s : State := s.put F.CLK_STATUS_HS9_LOCK true
  s.put (F.FLT_ESC_DIS 0x22) true
/-- The conditions of each clause of HubDataPathActs can be met. -/
theorem test_met_HubDataPathActs :
    (∃ (s : State) (k : Fin 8), s.hubBlock (hubPort k) = 0 ∧ s.has (F.HUB_PSTAT_DATA_ON (hubPort k)) = false) ∧
    (∃ (s : State) (k : Fin 8), s.hubBlock (hubPort k) ≠ 0 ∧ s.has (F.HUB_PSTAT_DATA_ON (hubPort k)) = true) ∧
    (∃ (s : State) (k : Fin 8), s.hubBlock (hubPort k) = 0 ∧ s.has (F.HUB_PSTAT_DATA_ON (hubPort k)) = true ∧ s.ssPort
      (hubPort k) = true) ∧
    (∃ (s : State) (k : Fin 8), s.has (F.HUB_PSTAT_DATA_ON (hubPort k)) = true ∧ s.ssPort (hubPort k) = true ∧ s.pins.ups
      = true) ∧
    (∃ (s : State) (k : Fin 8), s.has (F.HUB_PSTAT_DATA_ON (hubPort k)) = true ∧ s.ssPort (hubPort k) = true ∧ s.pins.ups
      = true) ∧
    (∃ (s : State) (egress : Fin 9), (s.hub.pkts.any (fun p => p.sending && decide (p.egress = egress.val)) = true)) ∧
    (∃ (s : State), s.calm 0x28 = true) ∧
    (∃ (s : State), s.armed .poolEmpty = true) ∧
    (∃ (s : State) (p : Fin 9), p.val = 0 ∧ s.pins.ups = true) ∧
    (∃ (s : State) (p : Fin 9) (k : Fin 8), p.val = k.val + 1 ∧ s.has (F.HUB_PSTAT_DATA_ON (hubPort k)) = true ∧ s.ssPort
      (hubPort k) = true) ∧
    (∃ (s : State) (p : Fin 9) (n : Nat), s.sourceAbsent p.val = false ∧ n ≤ 16) ∧
    (∃ (s : State) (p : Fin 9) (n : Nat), s.sourceAbsent p.val = false ∧ 16 < n ∧ (bankRead (fun _ => 0) s.hub.recWarned
      p.val = 0)) ∧
    (∃ (s : State), s.ssOn = true ∧ s.calm 0x22 = true) ∧
    (∃ (s : State), s.isAny [.romBoot, .deepWinter] = false ∧ s.has F.CLK_STATUS_HS9_LOCK = true ∧ s.calm 0x22 = true) :=
  ⟨⟨wit_hubPortDataEnable1, 2, by decide +kernel⟩,
   ⟨wit_hubPortDataEnable2, 2, by decide +kernel⟩,
   ⟨wit_hubPortDataEnable3, 2, by decide +kernel⟩,
   ⟨wit_hubPacketReceived1, 2, by decide +kernel⟩,
   ⟨wit_hubPacketReceived2, 2, by decide +kernel⟩,
   ⟨wit_hubPacketSent1, 0, by decide +kernel⟩,
   ⟨wit_bufferEccError1, by decide +kernel⟩,
   ⟨wit_poolEmptyTimeout1, by decide +kernel⟩,
   ⟨wit_ssTrainingFailed1, 0, by decide +kernel⟩,
   ⟨wit_ssTrainingFailed2, 3, 2, by decide +kernel⟩,
   ⟨wit_linkRecoveryExcess1, 4, 9, by decide +kernel⟩,
   ⟨wit_linkRecoveryExcess2, 4, 19, by decide +kernel⟩,
   ⟨wit_ssPllUnlock1, by decide +kernel⟩,
   ⟨wit_hs9PllUnlock1, by decide +kernel⟩⟩

def wit_streamSample1 : State :=
  let s := State.reset
  let s : State := s.put (F.TLM_STR_EN 2) true
  { s with boot := { s.boot with engRun := 0xFFFF }, streams := Vector.replicate 8 {}, tbZero := none }
def wit_streamSample2 : State :=
  let s := State.reset
  let s : State := s.put (F.TLM_STR_EN 2) true
  let s : State := s.set (F.TLM_STR_CHAN 2) 0x65
  { s with boot := { s.boot with engRun := 0xFFFF }, streams := Vector.replicate 8 {}, tbZero := none, now := 5, msr := { s.msr with res := [(0x65, 101, 0, 1)] } }
def wit_streamBlockEncode1 : State :=
  let s := State.reset
  let s : State := s.put (F.TLM_STR_EN 2) true
  let s : State := s.put F.MGT_CFG_TLM_EN0 false
  let s : State := s.put F.MGT_CFG_TLM_EN9 false
  { s with boot := { s.boot with engRun := 0xFFFF }, streams := Vector.replicate 8 { xs := List.replicate 64 0, held := List.replicate 64 true } }
def wit_streamBlockEncode2 : State :=
  let s := State.reset
  let s : State := s.put (F.TLM_STR_EN 2) true
  let s : State := s.put (F.TLM_STR_DEST0 2) true
  let s : State := s.put (F.TLM_STR_DEST9 2) false
  let s : State := s.put F.MGT_CFG_TLM_EN0 true
  { s with boot := { s.boot with engRun := 0xFFFF, disabled := 2 }, mgt := Vector.replicate 2 {}, streams := Vector.replicate 8 { xs := List.replicate 64 0, held := List.replicate 64 true } }
def wit_streamPacketClose1 : State :=
  let s := State.reset
  { s with boot := { s.boot with engRun := 0xFFFF }, streams := Vector.replicate 8 { buf0 := [{ words := [], cfg := 0#32, tb := 0, at' := 0 }] }, mgt := Vector.replicate 2 {} }
def wit_streamPacketClose2 : State :=
  let s := State.reset
  let s : State := { s with boot := { s.boot with engRun := 0xFFFF }, mgt := s.mgt.set 0 { s.mgt[0] with send := none } }
  s.modStream 2 fun st => st.setBuf 0 [⟨[1#32], 0#32, 0, 0⟩, ⟨[2#32], 0#32, 64, 0⟩]
def wit_telemetryPacketTaken1 : State :=
  let s := State.reset
  let s : State := s.set F.SYS_STATE_STATE 2
  { s with boot := { s.boot with engRun := 0xFFFF }, pins := { s.pins with ups := true }, mgt := Vector.replicate 2 { ep3 := [{ stream := 2, nblk := 1, words := [] }] } }
def wit_telemetryPacketTaken2 : State :=
  let s := State.reset
  let s : State := s.set F.SYS_STATE_STATE 2
  { s with boot := { s.boot with engRun := 0xFFFF }, pins := { s.pins with ups := true }, mgt := Vector.replicate 2 { ep3 := [{ stream := 0xC0, nblk := 0, words := [] }] } }
def wit_tlmStrWrite1 : State :=
  let s := State.reset
  { s with regs := [] }
def wit_tlmStrWrite2 : State :=
  let s := State.reset
  let s : State := { s with regs := [] }
  let s : State := s.setWord (R.TLM_STR 0) 0x80000000#32
  let s : State := s.setWord (R.TLM_STR 1) 0x80000000#32
  let s : State := s.setWord (R.TLM_STR 2) 0x80000000#32
  let s : State := s.setWord (R.TLM_STR 3) 0x80000000#32
  s.setWord (R.TLM_STR 4) 0x80000000#32
def wit_captureSpill1 : State :=
  let s := State.reset
  let s : State := s.set F.SYS_STATE_STATE 2
  let s : State := s.set F.CAP_STATUS_STATE 3
  let s : State := s.put F.CAP_SPILL_EN true
  let s : State := s.set F.CAP_SPILL_NEXT 0
  { s with boot := { s.boot with engRun := 0xFFFF, density := 2 ^ 24 }, cap := { s.cap with count := 0 } }
def wit_captureSpill2 : State :=
  let s := State.reset
  let s : State := s.set F.SYS_STATE_STATE 2
  let s : State := s.set F.CAP_STATUS_STATE 3
  let s : State := s.put F.CAP_SPILL_EN true
  let s : State := s.set F.CAP_SPILL_NEXT 0
  let s : State := s.put (F.FLT_ESC_DIS 0x2A) true
  { s with boot := { s.boot with engRun := 0xFFFF, density := 2 ^ 24 }, cap := { s.cap with count := 0 } }
def wit_captureSend1 : State :=
  let s := State.reset
  let s : State := s.set F.CAP_STATUS_STATE 3
  let s : State := s.put F.MGT_CFG_TLM_EN0 true
  { s with boot := { s.boot with engRun := 0xFFFF }, cap := { s.cap with count := 3 }, mgt := Vector.replicate 2 {} }
/-- The conditions of each clause of TelemetryStreamsAct can be met. -/
theorem test_met_TelemetryStreamsAct :
    (∃ (s : State) (n : Fin 8), s.streamRuns n.val = true ∧ s.streams[n].frame ≠ some (s.tb / 1024)) ∧
    (∃ (s : State) (n : Fin 8) (c : Nat) (a : Nat) (u : Nat), s.streamRuns n.val = true ∧ s.streams[n].frame = none ∧
      s.get (F.TLM_STR_D n.val) = 0 ∧ (bankRead (fun _ => (0, 0, 0)) s.msr.res (s.get (F.TLM_STR_CHAN n.val)) = (c + 1, a,
      u)) ∧ (u - s.tbZero.getD 0) / 1024 = s.tb / 1024) ∧
    (∃ (s : State) (n : Fin 8), s.streamRuns n.val = true ∧ 64 ≤ s.streams[n].xs.length ∧ s.streamTo n.val 0 = false ∧
      s.streamTo n.val 1 = false) ∧
    (∃ (s : State) (n : Fin 8) (b : Block), s.streamRuns n.val = true ∧ 64 ≤ s.streams[n].xs.length ∧ s.streamTo n.val 0 =
      true ∧ s.streamTo n.val 1 = false ∧ s.buffered n 0 < 16 ∧ b = Block.mk (encodeBlock (s.unitOff 1) (s.get (F.TLM_STR_K
      n.val)) ((s.streams[n].held.take 64).any id) (s.streams[n].xs.take 64)) (s.word (R.TLM_STR n.val)) (1024 *
      s.streams[n].first) s.now) ∧
    (∃ (s : State) (n : Fin 8) (f : Fin 2) (b : Block), s.codecServed = true ∧ s.mgt[f].send = none ∧ s.streams[n].buf f =
      [b]) ∧
    (∃ (s : State) (n : Fin 8) (f : Fin 2), s.codecServed = true ∧ s.mgt[f].send = none ∧ packetBlocks 3 (s.streams[n].buf
      f) ≠ []) ∧
    (∃ (s : State) (f : Fin 2) (p : TlmPkt) (rest : List TlmPkt), s.fnServes f = true ∧ s.mgt[f].ep3 = p :: rest ∧
      p.stream ≠ 0xC0) ∧
    (∃ (s : State) (f : Fin 2) (p : TlmPkt) (rest : List TlmPkt), s.fnServes f = true ∧ s.mgt[f].ep3 = p :: rest ∧
      p.stream = 0xC0 ∧ s.mgt[f].send = none) ∧
    (∃ (s : State) (n : Fin 8) (w : Word), s.streamLoad n.val (w &&& 0xE0FC00FF#32) ≤ 512) ∧
    (∃ (s : State) (n : Fin 8) (w : Word), 512 < s.streamLoad n.val (w &&& 0xE0FC00FF#32)) ∧
    (∃ (s : State), s.flashFree = true ∧ s.get F.CAP_STATUS_STATE = 3 ∧ s.has F.CAP_SPILL_EN = true ∧ s.codecServed = true
      ∧ s.spillSlots ≠ 0 ∧ s.isAny [.summer, .autumn, .winter] = true) ∧
    (∃ (s : State), s.flashFree = true ∧ s.get F.CAP_STATUS_STATE = 3 ∧ s.has F.CAP_SPILL_EN = true ∧ s.codecServed = true
      ∧ s.spillSlots ≠ 0 ∧ s.isAny [.summer, .autumn, .winter] = true ∧ s.calm 0x2A = true) ∧
    (∃ (s : State) (src : BitVec 8) (to9 : Bool), s.engine 14 = true ∧ s.tlmOn (if to9 then 1 else 0) = true ∧ s.mgt[(if
      to9 then 1 else 0 : Fin 2)].send = none ∧ src = 0xFF#8 ∧ s.get F.CAP_STATUS_STATE = 3 ∧ 0 < s.capWords) :=
  ⟨⟨wit_streamSample1, 2, by decide +kernel⟩,
   ⟨wit_streamSample2, 2, 100, 0, 1, by decide +kernel⟩,
   ⟨wit_streamBlockEncode1, 2, by decide +kernel⟩,
   ⟨wit_streamBlockEncode2, 2, (Block.mk (encodeBlock (wit_streamBlockEncode2.unitOff 1) (wit_streamBlockEncode2.get (F.TLM_STR_K 2)) ((wit_streamBlockEncode2.streams[2].held.take 64).any id) (wit_streamBlockEncode2.streams[2].xs.take 64)) (wit_streamBlockEncode2.word (R.TLM_STR 2)) (1024 * wit_streamBlockEncode2.streams[2].first) wit_streamBlockEncode2.now), by decide +kernel⟩,
   ⟨wit_streamPacketClose1, 2, 0, ({ words := [], cfg := 0#32, tb := 0, at' := 0 }), by decide +kernel⟩,
   ⟨wit_streamPacketClose2, 2, 0, by decide +kernel⟩,
   ⟨wit_telemetryPacketTaken1, 0, ({stream:=2,nblk:=1,words:=[]}), [], by decide +kernel⟩,
   ⟨wit_telemetryPacketTaken2, 0, ({stream:=0xC0,nblk:=0,words:=[]}), [], by decide +kernel⟩,
   ⟨wit_tlmStrWrite1, 2, 0x80000005#32, by decide +kernel⟩,
   ⟨wit_tlmStrWrite2, 7, 0x80000005#32, by decide +kernel⟩,
   ⟨wit_captureSpill1, by decide +kernel⟩,
   ⟨wit_captureSpill2, by decide +kernel⟩,
   ⟨wit_captureSend1, 0xFF#8, false, by decide +kernel⟩⟩

def wit_archiveFrameAccumulate1 : State :=
  let s := State.reset
  let s : State := s.set F.SYS_STATE_STATE 2
  { s with boot := { s.boot with engRun := 0xFFFF, disabled := 0 }, his := { s.his with open' := true } }
def wit_archiveFrameAccumulate2 : State :=
  let s := State.reset
  let s : State := s.set F.SYS_STATE_STATE 2
  { s with boot := { s.boot with engRun := 0xFFFF, disabled := 0, portsAbsent := 0 }, his := { s.his with open' := true, acc := List.replicate 8 1, peak := List.replicate 8 1 } }
def wit_countedSecond1 : State :=
  let s := State.reset
  let s : State := s.set F.SYS_STATE_STATE 2
  { s with boot := { s.boot with engRun := 0xFFFF, disabled := 0 }, his := { s.his with open' := true, secs := 599 } }
def wit_dayRecordWrite1 : State :=
  let s := State.reset
  let s : State := s.set F.SYS_STATE_STATE 2
  { s with boot := { s.boot with engRun := 0xFFFF, disabled := 0 }, his := { s.his with open' := true, dayDue := some [1#8], daySlot := 2 } }
def wit_dayRecordWrite2 : State :=
  let s := State.reset
  let s : State := s.set F.SYS_STATE_STATE 2
  { s with boot := { s.boot with engRun := 0xFFFF, disabled := 0 }, his := { s.his with open' := true, dayDue := some [1#8], daySlot := 7 } }
def wit_dayRecordWrite3 : State :=
  let s := State.reset
  let s : State := s.set F.SYS_STATE_STATE 2
  let s : State := s.put (F.FLT_ESC_DIS 0x2A) true
  { s with boot := { s.boot with engRun := 0xFFFF, disabled := 0 }, his := { s.his with open' := true, dayDue := some [1#8], daySlot := 2 } }
def wit_checkpointWrite1 : State :=
  let s := State.reset
  let s : State := s.set F.SYS_STATE_STATE 2
  { s with boot := { s.boot with engRun := 0xFFFF, disabled := 0 }, his := { s.his with open' := true, cpDue := true, cpSlot := 2 } }
def wit_checkpointWrite2 : State :=
  let s := State.reset
  let s : State := s.set F.SYS_STATE_STATE 2
  let s : State := s.put (F.FLT_ESC_DIS 0x2A) true
  { s with boot := { s.boot with engRun := 0xFFFF, disabled := 0 }, his := { s.his with open' := true, cpDue := true, cpSlot := 2 } }
def wit_checkpointWrite3 : State :=
  let s := State.reset
  let s : State := s.set F.SYS_STATE_STATE 2
  { s with boot := { s.boot with engRun := 0xFFFF, disabled := 0 }, his := { s.his with open' := true, cpDue := true, cpSlot := 7 } }
def wit_historyScan1 : State :=
  let s := State.reset
  let s : State := s.set F.SYS_STATE_STATE 1
  let s : State := s.put F.HIS_STATUS_SCANNED false
  { s with boot := { s.boot with engRun := 0xFFFF, disabled := 0 }, flash := [] }
def wit_hisSelLoad1 : State :=
  let s := State.reset
  { s with boot := { s.boot with disabled := 4 } }
def wit_hisSelLoad2 : State :=
  let s := State.reset
  { s with boot := { s.boot with disabled := 0 } }
/-- The conditions of each clause of HistoryIsKept can be met. -/
theorem test_met_HistoryIsKept :
    (∃ (s : State), s.archiveOn = true ∧ s.his.open' = true) ∧
    (∃ (s : State) (k : PortId), s.archiveOn = true ∧ s.his.open' = true ∧ k ≠ port9 ∧ s.portPresent k = true ∧ k.val <
      s.his.acc.length ∧ k.val < s.his.peak.length) ∧
    (∃ (s : State), s.archiveOn = true ∧ s.his.open' = true ∧ s.his.secs + 1 < 86400) ∧
    (∃ (s : State) (b : List Byte), s.flashFree = true ∧ s.his.dayDue = some b ∧ s.archiveOn = true ∧ s.his.daySlot % 8 ≠
      7) ∧
    (∃ (s : State) (eraseOk : Bool) (b : List Byte), s.flashFree = true ∧ s.his.dayDue = some b ∧ s.archiveOn = true ∧
      s.his.daySlot % 8 = 7 ∧ eraseOk = true) ∧
    (∃ (s : State) (b : List Byte), s.flashFree = true ∧ s.his.dayDue = some b ∧ s.archiveOn = true ∧ s.has (F.FLT_ESC_DIS
      0x2A) = true) ∧
    (∃ (s : State) (ok : Bool), s.flashFree = true ∧ s.his.cpDue = true ∧ s.archiveOn = true ∧ s.his.open' = true ∧ ok =
      true ∧ s.his.cpSlot % 8 ≠ 7) ∧
    (∃ (s : State) (ok : Bool), s.flashFree = true ∧ s.his.cpDue = true ∧ s.archiveOn = true ∧ s.his.open' = true ∧ ok =
      false ∧ s.has (F.FLT_ESC_DIS 0x2A) = true) ∧
    (∃ (s : State) (ok : Bool) (eraseOk : Bool), s.flashFree = true ∧ s.his.cpDue = true ∧ s.archiveOn = true ∧
      s.his.open' = true ∧ ok = true ∧ s.his.cpSlot % 8 = 7 ∧ eraseOk = true) ∧
    (∃ (s : State), s.isIn .spring = true ∧ s.archiveOn = true ∧ s.has F.HIS_STATUS_SCANNED = false ∧ s.newestDay = none ∧
      s.newestCp = none) ∧
    (∃ (s : State), s.unitOff 2 = true) ∧
    (∃ (s : State), s.unitOff 2 = false) :=
  ⟨⟨wit_archiveFrameAccumulate1, by decide +kernel⟩,
   ⟨wit_archiveFrameAccumulate2, 3, by decide +kernel⟩,
   ⟨wit_countedSecond1, by decide +kernel⟩,
   ⟨wit_dayRecordWrite1, [1#8], by decide +kernel⟩,
   ⟨wit_dayRecordWrite2, true, [1#8], by decide +kernel⟩,
   ⟨wit_dayRecordWrite3, [1#8], by decide +kernel⟩,
   ⟨wit_checkpointWrite1, true, by decide +kernel⟩,
   ⟨wit_checkpointWrite2, false, by decide +kernel⟩,
   ⟨wit_checkpointWrite3, true, true, by decide +kernel⟩,
   ⟨wit_historyScan1, by decide +kernel, by decide +kernel, by decide +kernel, newestOf_empty _ rfl _ _ _ _ (by decide), newestOf_empty _ rfl _ _ _ _ (by decide)⟩,
   ⟨wit_hisSelLoad1, by decide +kernel⟩,
   ⟨wit_hisSelLoad2, by decide +kernel⟩⟩

def wit_fflRecordWrite1 : State :=
  let s := State.reset
  let s : State := s.put F.FFL_STATUS_SCANNED true
  let s : State := s.set F.SYS_STATE_STATE 2
  let s : State := s.set F.SQC_STATUS_PHASE 0
  { s with ffl := { s.ffl with due := [State.reset.fflContents 1 false] } }
def wit_fflRecordWrite2 : State :=
  let s := State.reset
  let s : State := s.set F.SYS_STATE_STATE 2
  let s : State := s.put F.FFL_STATUS_SCANNED true
  let s : State := s.put (F.FLT_ESC_DIS 0x2A) true
  { s with ffl := { s.ffl with due := [State.reset.fflContents 1 false] } }
def wit_fflMark1 : State :=
  let s := State.reset
  let s : State := s.set F.SYS_STATE_STATE 3
  let s : State := { s with ffl := { s.ffl with due := [], markSlot := some 5, markCommit := true } }
  s.put F.SYS_STATE_DONE true
def wit_fflSectorErase1 : State :=
  let s := State.reset
  let s : State := s.set F.SYS_STATE_STATE 2
  { s with ffl := { s.ffl with due := [], eraseDue := some 3, eraseWait := false } }
def wit_fflSectorErase2 : State :=
  let s := State.reset
  let s : State := s.set F.SYS_STATE_STATE 2
  let s : State := { s with ffl := { s.ffl with due := [], eraseDue := some 3, eraseWait := false } }
  s.put (F.FLT_ESC_DIS 0x2A) true
def wit_fflScan1 : State :=
  let s := State.reset
  let s : State := s.set F.SYS_STATE_STATE 1
  let s : State := s.put F.FFL_STATUS_SCANNED false
  { s with flash := [] }
def wit_fflScan2 : State :=
  let s := State.reset
  let s : State := s.set F.SYS_STATE_STATE 1
  let s : State := s.put F.FFL_STATUS_SCANNED false
  { s with flash := [(fflBase + 320, 0x4B#8), (fflBase + 321, 0x51#8), (fflBase + 322, 0x46#8), (fflBase + 323, 0#8), (fflBase + 382, BitVec.ofNat 8 (crc16 (List.replicate 58 0xFF#8))), (fflBase + 383, BitVec.ofNat 8 (crc16 (List.replicate 58 0xFF#8) / 256))] }
def wit_fflDeferredRecord1 : State :=
  let s := State.reset
  let s : State := s.set F.SYS_STATE_STATE 1
  let s : State := s.put F.FFL_STATUS_SCANNED true
  let s : State := { s with island := { s.island with recordDue := true } }
  s.set F.SAF_TRIP_CODE 0xE402
/-- The conditions of each clause of FirstFaultLogIsKept can be met. -/
theorem test_met_FirstFaultLogIsKept :
    (∃ (s : State) (r : FflRec) (rest : List FflRec), s.ffl.due = r :: rest ∧ s.has F.FFL_STATUS_SCANNED = true ∧
      s.logsWritten = true ∧ s.phase ≠ 4) ∧
    (∃ (s : State) (r : FflRec) (rest : List FflRec), s.ffl.due = r :: rest ∧ s.has F.FFL_STATUS_SCANNED = true ∧
      s.logsWritten = true ∧ s.calm 0x2A = true) ∧
    (∃ (s : State) (n : Nat), s.ffl.markSlot = some n ∧ s.ffl.markCommit = true ∧ s.has F.SYS_STATE_DONE = true ∧
      s.logsWritten = true ∧ s.flashFree = true) ∧
    (∃ (s : State) (c : Nat), s.ffl.eraseDue = some c ∧ s.logsWritten = true ∧ s.flashFree = true ∧ s.ffl.eraseWait =
      false) ∧
    (∃ (s : State) (c : Nat), s.ffl.eraseDue = some c ∧ s.logsWritten = true ∧ s.flashFree = true ∧ s.ffl.eraseWait =
      false ∧ s.calm 0x2A = true) ∧
    (∃ (s : State), s.isIn .spring = true ∧ s.has F.FFL_STATUS_SCANNED = false ∧ s.usedSlots = []) ∧
    (∃ (s : State) (n : Nat), s.isIn .spring = true ∧ s.has F.FFL_STATUS_SCANNED = false ∧ s.usedSlots = [n] ∧ recValid
      (s.logBytes n) = true ∧ leAt (s.logBytes n) 3 1 ≠ 0xFF) ∧
    (∃ (s : State), s.isIn .spring = true ∧ s.has F.FFL_STATUS_SCANNED = true ∧ s.island.recordDue = true ∧ s.get
      F.SAF_TRIP_CODE ≠ 0) :=
  ⟨⟨wit_fflRecordWrite1, (State.reset.fflContents 1 false), [], by decide +kernel⟩,
   ⟨wit_fflRecordWrite2, (State.reset.fflContents 1 false), [], by decide +kernel⟩,
   ⟨wit_fflMark1, 5, by decide +kernel⟩,
   ⟨wit_fflSectorErase1, 3, by decide +kernel⟩,
   ⟨wit_fflSectorErase2, 3, by decide +kernel⟩,
   ⟨wit_fflScan1, by decide +kernel⟩,
   ⟨wit_fflScan2, 5, by decide +kernel⟩,
   ⟨wit_fflDeferredRecord1, by decide +kernel⟩⟩

/-- The conditions of StepRunsTheFrontCommand can be met. -/
theorem test_met_StepRunsTheFrontCommand :
    (∃ (c : Instr) (s : State) (rest : List Instr), s.pending = c :: rest) ∧ (∃ s : State, s.pending = []) :=
  ⟨⟨.strapLatch 0#3 0#3 0#3 0#3 0#3 0#3, { State.reset with pending := [.strapLatch 0#3 0#3 0#3 0#3 0#3 0#3, .rootLock true] }, [.rootLock true], rfl⟩,
   ⟨State.reset, rfl⟩⟩

/-- The conditions of ResetLeavesTheStatedValues can be met. -/
theorem test_met_ResetLeavesTheStatedValues :
    (∃ k : PortId, k.isModule = true) ∧
    (∃ a : Nat, a ∉ [R.SYS_ID, R.HIF_IRQ_EN, R.SAF_DWTIME, R.SEC_PORTEN, R.SCH_DATA] ∧ (∀ k : PortId, a ≠ R.PD_STATUS k) ∧
      (∀ k : PortId, a ≠ R.CHK_STATUS k ∧ a ≠ R.CHK_CAP k) ∧ (∀ u : Fin 4, a ≠ R.CRC_STATUS u.val) ∧
      (∀ n : Fin 9, a ≠ R.MSR_GPW n.val)) :=
  ⟨⟨0, rfl⟩, ⟨R.SYS_STATE, by decide +kernel⟩⟩

/-- The conditions of EveryStepKeepsTheStoresCanonical can be met. -/
theorem test_met_EveryStepKeepsTheStoresCanonical : ∃ s t : State, s.wf = true ∧ step s = .next t :=
  ⟨State.reset, { State.reset with now := 1024 }, by decide +kernel, rfl⟩

/-- The conditions of TimeNeverRunsBackAndTheQueueDrains can be met. -/
theorem test_met_TimeNeverRunsBackAndTheQueueDrains : ∃ s t : State, step s = .next t :=
  ⟨State.reset, { State.reset with now := 1024 }, rfl⟩

/-- The conditions of OnlyNamedCommandsWriteMemory can be met. -/
theorem test_met_OnlyNamedCommandsWriteMemory : ∃ (c : Instr) (_ : State), writesMemory c = false :=
  ⟨.mbxTake, State.reset, by decide⟩

/-- The conditions of ProgrammedOtpBitsStayProgrammed can be met. -/
theorem test_met_ProgrammedOtpBitsStayProgrammed :
    ∃ (s t : State) (w i : Nat), step s = .next t ∧ (s.otpCell w).getLsbD i = true :=
  ⟨{ State.reset with otp := [(0x85, 1#32)] }, { State.reset with otp := [(0x85, 1#32)], now := 1024 }, 0x85, 0, rfl, by decide +kernel⟩

/-- The conditions of CanonicalStoresWithEqualReadsAreEqual can be met. -/
theorem test_met_CanonicalStoresWithEqualReadsAreEqual :
    ∃ s t : State, s.wf = true ∧ t.wf = true ∧ (∀ a, s.word a = t.word a) ∧
      (∀ a, bankRead erased s.flash a = bankRead erased t.flash a) ∧ (∀ a, s.otpCell a = t.otpCell a) ∧
      (∀ a, bankRead sramZero s.sram a = bankRead sramZero t.sram a) ∧
      (∀ a, bankRead zeroWord s.engMem a = bankRead zeroWord t.engMem a) :=
  ⟨State.reset, { State.reset with now := 5 }, by decide +kernel, by decide +kernel, fun _ => rfl, fun _ => rfl, fun _ => rfl,
   fun _ => rfl, fun _ => rfl⟩

/-- The conditions of FlagsFollowSetClearAndCount can be met. -/
theorem test_met_FlagsFollowSetClearAndCount :
    (∃ (g : Flag) (reg : BitVec 16), g ∈ allFlags ∧ reg.toNat = g.bit.reg) ∧
    (∃ (g : Flag) (reg : BitVec 16), g ∈ allFlags ∧ reg.toNat = g.bit.reg ∧ g.bit.lo = 31) :=
  ⟨⟨G.FLT_WARN, BitVec.ofNat 16 G.FLT_WARN.bit.reg, by decide +kernel⟩,
   ⟨G.ALM_FIRED 31, BitVec.ofNat 16 (G.ALM_FIRED 31).bit.reg, by decide +kernel⟩⟩

/-- The conditions of CheckValueUnitsBelongToTheirClaimer can be met. -/
theorem test_met_CheckValueUnitsBelongToTheirClaimer :
    (∃ (s : State) (u : Fin 4) (writer : Fin 17) (w : Word), w.getLsbD 31 = true ∧
      (s.crcForeign u.val writer.val = false ∨ s.has (F.CRC_STATUS_BUSY u.val) = false)) ∧
    (∃ (s : State) (u : Fin 4) (writer : Fin 17) (w : Word), s.crcForeign u.val writer.val = true ∧
      (w.getLsbD 31 = false ∨ s.has (F.CRC_STATUS_BUSY u.val) = true)) ∧
    (∃ (s : State) (u : Fin 4) (writer : Fin 17), s.crcForeign u.val writer.val = true ∨ s.has (F.CRC_STATUS_BUSY u.val) = true) ∧
    (∃ (s : State) (u : Fin 4) (writer : Fin 17) (w : Word),
      s.crcForeign u.val writer.val = true ∨ (w.getLsbD 31 = true ∧ s.has (F.CRC_STATUS_BUSY u.val) = true)) ∧
    (∃ (s : State) (u : Fin 4) (writer : Fin 17), s.crcForeign u.val writer.val = true) :=
  ⟨⟨State.reset, 3, 16, 0x80000000#32, by decide +kernel⟩,
   ⟨State.reset.set (F.CRC_STATUS_OWNER 3) 5, 3, 16, 0#32, by decide +kernel⟩,
   ⟨State.reset.put (F.CRC_STATUS_BUSY 0) true, 0, 0, by decide +kernel⟩,
   ⟨State.reset.put (F.CRC_STATUS_BUSY 0) true, 0, 0, 0x80000000#32, by decide +kernel⟩,
   ⟨State.reset.set (F.CRC_STATUS_OWNER 0) 15, 0, 16, by decide +kernel⟩⟩

/-- The conditions of DisabledHubPortsDropTheirPackets can be met. -/
theorem test_met_DisabledHubPortsDropTheirPackets :
    ∃ (s : State) (k : Fin 8), s.hubBlock (hubPort k) ≠ 0 ∧ s.has (F.HUB_PSTAT_DATA_ON (hubPort k)) = true :=
  ⟨State.reset.put (F.HUB_PSTAT_DATA_ON 7) true, 7, by decide +kernel⟩

/-- The conditions of RequestsFollowTheInterruptWord can be met. -/
theorem test_met_RequestsFollowTheInterruptWord :
    (∃ s : State, s.mailboxServed = true ∧ s.get F.MBX_STATUS_STATE = 2) ∧ (∃ s : State, s.ringServed = true) :=
  ⟨⟨(State.reset.set F.SYS_STATE_STATE 2).set F.MBX_STATUS_STATE 2, by decide +kernel⟩,
   ⟨State.reset.set F.SYS_STATE_STATE 2, by decide +kernel⟩⟩

/-- The conditions of StoppedTimersElapseIntoNothing can be met. -/
theorem test_met_StoppedTimersElapseIntoNothing :
    ∃ (c : Instr) (x : TimerId) (s : State), timerOf c = some x ∧ s.armed x = false :=
  ⟨.sinkTxElapsed 8, .sinkTx 8, State.reset, by decide +kernel⟩

/-- The conditions of MessagesAreHeardQueuedOrLost can be met. -/
theorem test_met_MessagesAreHeardQueuedOrLost :
    (∃ (c : Instr) (k : PortId) (id : BitVec 3) (s : State), messageOn c = some (k, id) ∧ s.pdReceives k = false) ∧
    (∃ (c : Instr) (k : PortId) (id : BitVec 3) (s : State), messageOn c = some (k, id) ∧ s.pdReceives k = true ∧
      (s.port k).pd.lastRx c = some id.toNat) ∧
    (∃ (c : Instr) (k : PortId) (id : BitVec 3) (s : State), messageOn c = some (k, id) ∧ s.pdReceives k = true ∧
      (s.port k).pd.lastRx c ≠ some id.toNat ∧ s.policyRuns k = false ∧ (s.port k).pd.rxq.length < 4) ∧
    (∃ (c : Instr) (k : PortId) (id : BitVec 3) (s : State), messageOn c = some (k, id) ∧ s.pdReceives k = true ∧
      (s.port k).pd.lastRx c ≠ some id.toNat ∧ s.policyRuns k = false ∧ 4 ≤ (s.port k).pd.rxq.length) :=
  ⟨⟨.softReset 0 1#3, 0, 1#3, State.reset, by decide +kernel⟩,
   ⟨.alert 0 1#3, 0, 1#3, (testReload []).modPd 0 fun p => { p with rxId := some 1 }, by decide +kernel⟩,
   ⟨.softReset 0 1#3, 0, 1#3, testReload [], by decide +kernel⟩,
   ⟨.softReset 0 1#3, 0, 1#3, testReload (List.replicate 4 (.alert 0 2#3)), by decide +kernel⟩⟩

/-- The conditions of EventsTakeRisingNumbers can be met. -/
theorem test_met_EventsTakeRisingNumbers :
    (∃ s : State, s.ringServed = true ∧ s.unread < 256) ∧ (∃ s : State, s.ringServed = false) :=
  ⟨⟨State.reset.set F.SYS_STATE_STATE 2, by decide +kernel⟩, ⟨State.reset, by decide +kernel⟩⟩

/-- The conditions of CommittedWordsChangeOnlyWritableFields can be met. -/
theorem test_met_CommittedWordsChangeOnlyWritableFields :
    (∃ a : Nat, a / 256 = 6) ∧ (∃ a : Nat, regFam? a = none) ∧
    (∃ (s : State) (a : Nat) (f : RegFam), regFam? a = some f ∧ s.pageOff (a / 256) = false ∧ a / 256 ≠ 6 ∧ f.rw = 0#32 ∧
      f.w1c = 0#32 ∧ f.wo = 0#32) ∧
    (∃ (s : State) (a : Nat) (w : Word) (f : RegFam), regFam? a = some f ∧ s.pageOff (a / 256) = false ∧ a / 256 ≠ 6 ∧
      f.rws = 0#32 ∧ s.writeSpecial a w = none) :=
  ⟨⟨0x6FF, by decide⟩, ⟨0x2200, by decide +kernel⟩,
   ⟨State.reset, R.SYS_ID, (regFam? R.SYS_ID).getD testFam, by decide +kernel⟩,
   ⟨State.reset, R.FLT_FLAGS, 3#32, (regFam? R.FLT_FLAGS).getD testFam, by decide +kernel⟩⟩

/-- The conditions of RestartsKeepOnlyRetainedWords can be met. -/
theorem test_met_RestartsKeepOnlyRetainedWords : (∃ n : Nat, n < 16) ∧ (∃ a : Nat, a ∉ retainedWords ∧ a ≠ R.SYS_STATE ∧ a ≠ R.SAF_STATUS) ∧
    (∃ a : Nat, a ∈ [R.SYS_STRAP, R.SQC_TRC_HEAD, R.SAF_TRIP, R.SAF_TRIP_TBL, R.SAF_TRIP_TBH]) :=
  ⟨⟨15, by decide⟩, ⟨R.HIF_CFG, by decide +kernel⟩, ⟨R.SAF_TRIP, by decide +kernel⟩⟩

/-- The conditions of FatalFaultsLeadToWinterAndTripsToDeepWinter can be met. -/
theorem test_met_FatalFaultsLeadToWinterAndTripsToDeepWinter :
    (∃ (s : State) (code : Nat), faultClass code = 3 ∧ s.sourceAbsent (faultSource code) = false ∧
      s.isAny [.spring, .summer] = true ∧ s.upd.paused = false) ∧
    (∃ s : State, s.isIn .deepWinter = false) ∧ (∃ s : State, s.isIn .deepWinter = true) :=
  ⟨⟨State.reset.set F.SYS_STATE_STATE 2, 0xC002, by decide +kernel⟩, ⟨State.reset, by decide +kernel⟩,
   ⟨State.reset.set F.SYS_STATE_STATE 5, by decide +kernel⟩⟩

end
end

section
/-!
Proofs of the hub: which packets it holds, seen by where each goes and whether it has priority. Admission to a buffer and the start
of a transmission change neither; the disabling of a hub port drops packets of that port alone.
-/
namespace Sys2Proof.Machine

/-- What a packet is whatever buffer holds it: its direction, its hub port, its priority. -/
def HubPkt.route (p : HubPkt) : Bool × Nat × Bool := (p.up, p.port, p.prio)
/-- The routes of the packets that the hub holds, in order of arrival. -/
def State.hubRoutes (s : State) : List (Bool × Nat × Bool) := s.hub.pkts.map HubPkt.route
/-- A packet that hub port k loses when its data is disabled: toward the port (R402), or of the port and held at its link (log
entry 52). -/
def HubPkt.lostAt (k : PortId) (p : HubPkt) : Bool := decide (p.port = k.val) && (!p.up || decide (p.store = 3))

/-! What a list of acts, or a write of words, leaves -/

/-- What every act leaves, all of them leave. -/
theorem forAll_invariant {α β : Type} {act : α → State → State} {g : State → β} (h : ∀ x t, g (act x t) = g t) (l : List α) (s : State) :
    g (forAll l act s) = g s := by
  induction l generalizing s with
  | nil => rfl
  | cons x l ih => exact (ih (act x s)).trans (h x s)

theorem SameWords.has {l : List Nat} {s t : State} (h : SameWords l s t) {f : Fld} (hf : f.reg ∉ l) : t.has f = s.has f := by
  rw [State.has, State.get, h _ hf, State.has, State.get]

/-! The pool settles: packets find buffers and begin to leave, and none is lost, added or moved -/

theorem sendFirst_routes (c : HubPkt → Bool) (l : List HubPkt) : (sendFirst c l).map HubPkt.route = l.map HubPkt.route := by
  induction l with
  | nil => rfl
  | cons p ps ih =>
    rw [sendFirst]
    split
    · rfl
    · rw [List.map_cons, ih, List.map_cons]

theorem startEgress_routes (l : List HubPkt) (e : Nat) : (startEgress l e).map HubPkt.route = l.map HubPkt.route := by
  unfold startEgress
  extract_lets here
  split
  · rfl
  · split
    · exact sendFirst_routes _ l
    · exact sendFirst_routes _ l

theorem foldl_startEgress_routes (es : List Nat) (l : List HubPkt) :
    (es.foldl startEgress l).map HubPkt.route = l.map HubPkt.route := by
  induction es generalizing l with
  | nil => rfl
  | cons e es ih => exact (ih (startEgress l e)).trans (startEgress_routes l e)

theorem bufferPkt_word (s : State) (i a : Nat) : (s.bufferPkt i).word a = s.word a := by
  unfold State.bufferPkt
  split
  · rfl
  · split <;> rfl

theorem bufferPkt_routes (s : State) (i : Nat) : (s.bufferPkt i).hubRoutes = s.hubRoutes := by
  unfold State.bufferPkt
  split
  · rfl
  next p hp =>
    split
    · obtain ⟨hi, rfl⟩ := List.getElem?_eq_some_iff.mp hp
      refine List.map_set.trans ?_
      conv_rhs => rw [State.hubRoutes, ← List.set_getElem_self (as := s.hub.pkts) hi, List.map_set]
      rfl
    · rfl

theorem showPool_routes (s : State) : s.showPool.hubRoutes = s.hubRoutes := by
  unfold State.showPool
  extract_lets
  split
  · split <;> rfl
  · rfl

theorem showPool_sameWords (s : State) : SameWords [R.HUB_BUF] s s.showPool := by
  intro a ha
  have ha : a ≠ R.HUB_BUF := by simpa using ha
  unfold State.showPool
  extract_lets free low used s₁ was h₁ s₂
  have h : s₂.word a = s.word a := by
    rw [show s₂.word a = s₁.word a from rfl, word_set_other _ _ _ _ ha, word_set_other _ _ _ _ ha, word_set_other _ _ _ _ ha]
  split
  · split <;> exact h
  · exact h

theorem settleHub_routes (s : State) : s.settleHub.hubRoutes = s.hubRoutes := by
  unfold State.settleHub
  extract_lets t
  have ht : t.hubRoutes = s.hubRoutes := forAll_invariant (fun i t => bufferPkt_routes t i) _ s
  clear_value t
  rw [showPool_routes, ← ht]
  simp only [State.hubRoutes, foldl_startEgress_routes]

theorem settleHub_sameWords (s : State) : SameWords [R.HUB_BUF] s s.settleHub := by
  intro a ha
  unfold State.settleHub
  extract_lets t
  have ht : t.word a = s.word a := forAll_invariant (g := (State.word · a)) (fun i t => bufferPkt_word t i a) _ s
  clear_value t
  rw [showPool_sameWords _ a ha, ← ht]
  rfl

/-! A hub port is disabled -/

theorem hubPortOff_pkts (s : State) (k : PortId) : (s.hubPortOff k).hub.pkts = s.hub.pkts.filter fun p => !p.lostAt k := by
  unfold State.hubPortOff
  extract_lets gone was h₁ s₁ s₂
  have h : s₂.hub = s₁.hub := forAll_invariant (g := State.hub) (fun n t => by split <;> rfl) _ s₁
  exact congrArg Hub.pkts h

theorem hubPortOff_dataOn (s : State) (k : PortId) : (s.hubPortOff k).has (F.HUB_PSTAT_DATA_ON k) = false := by
  unfold State.hubPortOff
  extract_lets
  rw [has_set_apart _ _ _ _ rfl (by simp [Fld.apart, F.HUB_PSTAT_DATA_ON, F.HUB_PSTAT_SPEED]),
    has_set_apart _ _ _ _ rfl (by simp [Fld.apart, F.HUB_PSTAT_DATA_ON, F.HUB_PSTAT_LINK]), has_put_self _ _ _ rfl rfl]

/-! HUB_PORT_DATA_ENABLE on a port whose conditions no longer hold -/

/-- What a frame shows of the upstream port, where its terminations are presented. -/
def State.noteUpstream (s : State) (up : BitVec 3) (upConf mf0Conf : Bool) : State :=
  if s.pins.ups then
    (((s.set F.HUB_STATUS_UP_SPEED (s.upSpeed up.toNat)).put F.HUB_STATUS_UP_CONF upConf).put F.HUB_STATUS_MF0_CONF mf0Conf).put
      (F.MGT_STATUS_CONFIGURED 0) mf0Conf
  else s

theorem noteUpstream_hub (s : State) (up : BitVec 3) (upConf mf0Conf : Bool) : (s.noteUpstream up upConf mf0Conf).hub = s.hub := by
  unfold State.noteUpstream
  split <;> rfl

theorem noteUpstream_sameWords (s : State) (up : BitVec 3) (upConf mf0Conf : Bool) :
    SameWords [R.HUB_STATUS, R.MGT_STATUS 0] s (s.noteUpstream up upConf mf0Conf) := by
  intro a ha
  obtain ⟨hs, hm⟩ : a ≠ R.HUB_STATUS ∧ a ≠ R.MGT_STATUS 0 := by simpa using ha
  unfold State.noteUpstream
  split
  · exact (word_set_other _ _ _ _ hm).trans <| (word_set_other _ _ _ _ hs).trans <| (word_set_other _ _ _ _ hs).trans <|
      word_set_other _ _ _ _ hs
  · rfl

theorem hubPstat_ne_buf (k : Fin 8) : R.HUB_PSTAT (hubPort k) ∉ [R.HUB_BUF] := by revert k; decide
theorem hubPstat_ne_upstream (k : Fin 8) : R.HUB_PSTAT (hubPort k) ∉ [R.HUB_STATUS, R.MGT_STATUS 0] := by revert k; decide

/-- The frame in which a condition of hub port k no longer holds: the port is disabled, and the hub settles. -/
theorem exec_hubPortDataEnable_blocked {s : State} {k : Fin 8} (link : BitVec 4) (speed up : BitVec 3) (upConf mf0Conf : Bool)
    (events : List HubEvent) (hb : s.hubBlock (hubPort k) ≠ 0) (hon : s.has (F.HUB_PSTAT_DATA_ON (hubPort k)) = true) :
    exec (.hubPortDataEnable k link speed up upConf mf0Conf events) s =
      .next ((((s.set (F.HUB_PSTAT_BLOCK (hubPort k)) (s.hubBlock (hubPort k))).hubPortOff (hubPort k)).noteUpstream
        up upConf mf0Conf).settleHub) := by
  change execHubPortDataEnable k link speed up upConf mf0Conf events s = _
  unfold execHubPortDataEnable
  simp only [if_pos hb, if_pos hon]
  rfl

/-- Settles O52: the port's data goes off with `hubPortOff`, which drops exactly the packets that `HubPkt.lostAt` names (R402, and
log entry 52 for those held at the port's link); what follows in the frame keeps the routes of the rest. -/
theorem disabledHubPortsDropTheirPackets : Obligations.DisabledHubPortsDropTheirPackets := by
  intro s k link speed up upConf mf0Conf events hb hon
  let off := (s.set (F.HUB_PSTAT_BLOCK (hubPort k)) (s.hubBlock (hubPort k))).hubPortOff (hubPort k)
  let shown := off.noteUpstream up upConf mf0Conf
  have hdata : shown.settleHub.has (F.HUB_PSTAT_DATA_ON (hubPort k)) = false := by
    rw [(settleHub_sameWords shown).has (hubPstat_ne_buf k),
      (noteUpstream_sameWords off up upConf mf0Conf).has (hubPstat_ne_upstream k), hubPortOff_dataOn]
  have hroutes : shown.settleHub.hubRoutes = (s.hub.pkts.filter fun p => !p.lostAt (hubPort k)).map HubPkt.route := by
    rw [settleHub_routes, State.hubRoutes, noteUpstream_hub, hubPortOff_pkts, set_hub]
  refine ⟨shown.settleHub, exec_hubPortDataEnable_blocked link speed up upConf mf0Conf events hb hon, hdata, ?_, hroutes⟩
  intro p hp hport
  have hp : p.route ∈ shown.settleHub.hubRoutes := List.mem_map_of_mem hp
  rw [hroutes] at hp
  obtain ⟨q, hq, hqp⟩ := List.mem_map.mp hp
  obtain ⟨hup, hqport, -⟩ : q.up = p.up ∧ q.port = p.port ∧ q.prio = p.prio := by simpa [HubPkt.route] using hqp
  have hkept : q.lostAt (hubPort k) = false := by simpa using (List.mem_filter.mp hq).2
  have hk : q.port = (hubPort k).val := hqport.trans hport
  rw [← hup]
  cases hqup : q.up with
  | true => rfl
  | false => simp [HubPkt.lostAt, hk, hqup] at hkept

end Sys2Proof.Machine
end

section
/-!
Proofs of the W1C flags (R490): how one write in a cycle of hardware sets leaves each flag and its counter, that a counter's word
takes no write, and that T0 and an internal restart leave both 0.
-/
namespace Sys2Proof.Machine

/-! Where the flags stand -/

/-- The flag at bit `i` of the flag word `a`; the counters lie four to a word in the words that follow, in the order of the flags. -/
def flagAt (a i : Nat) : Flag := ⟨⟨a, i, 1⟩, ⟨a + 4 + 4 * (i / 4), 8 * (i % 4), 8⟩⟩

/-- The words of W1C flags, each with the number of its flags, which are its lowest bits. -/
def flagWords : List (Nat × Nat) :=
  [(R.BUS_FLAGS, 4), (R.MSR_FLAGS, 4), (R.SCH_FLAGS, 4), (R.CAP_FLAGS, 2), (R.BUD_FLAGS, 2), (R.SQC_FLAGS, 4), (R.AXL_FLAGS, 4),
   (R.FFL_FLAGS, 2), (R.HUB_FLAGS, 4), (R.TLM_FLAGS, 2), (R.HIS_FLAGS, 3), (R.SAF_FLAGS, 4), (R.FLT_FLAGS, 4), (R.OTP_FLAGS, 3),
   (R.SEC_FLAGS, 3), (R.HIF_FLAGS, 6), (R.UPD_FLAGS, 4), (R.ALM_FLAGS, 32), (R.TMR_FLAGS, 16), (R.CRC_FLAGS, 8), (R.SQI_FLAGS, 4)] ++
  allPorts.flatMap (fun k => [(R.ATT_FLAGS k, 4), (R.PD_FLAGS k, 4), (R.BRK_FLAGS k, 4)]) ++
  modulePorts.map (fun k => (R.CNV_FLAGS k, 4)) ++ allRails.map fun j => (R.SQ_FLAGS j, 4)

/-- The words that hold the counters of the flags. -/
def counterWords : List Nat := flagWords.flatMap fun e => (List.range ((e.2 + 3) / 4)).map fun q => e.1 + 4 + 4 * q

/-- A word without RW, W1C and RWS fields: a write of it changes nothing and is not counted as refused (R539). -/
def readOnlyWord (a : Nat) : Bool :=
  (regFam? a).all fun f => decide (f.rw = 0#32) && decide (f.w1c = 0#32) && decide (f.rws = 0#32)

/-- The words, beside CMP_CFG, the CRC units and TLM_STR, whose write has an effect beyond their fields: the three that stand alone,
those of the timers and those of the data units. -/
def effectWords : List Nat :=
  [R.EVT_RD, R.MBX_CTRL, R.FLT_INJ] ++ [R.ALM_CTL, R.ALM_ATL, R.ALM_ATH, R.TMR_CTL] ++
  [R.FFL_SEL, R.HIS_SEL, R.CAP_CTRL, R.CAP_SPILL, R.CAP_SEND, R.HUB_CTRL]

/-- The words that T0 or an internal restart may leave at another value than their reset value. -/
def restartRegs : List Nat := R.SYS_STATE :: R.SAF_STATUS :: retainedWords

theorem flag_eq_flagAt : ∀ g ∈ allFlags, g = flagAt g.bit.reg g.bit.lo := by decide +kernel
theorem flag_in_flagWords : ∀ g ∈ allFlags, ∃ e ∈ flagWords, g.bit.reg = e.1 ∧ g.bit.lo < e.2 := by decide +kernel
theorem w1cOf_flagWord : ∀ e ∈ flagWords, e.2 ≤ 32 ∧ w1cOf e.1 = BitVec.ofNat 32 (2 ^ e.2 - 1) := by decide +kernel
theorem counterWord_readOnly : ∀ a ∈ counterWords, readOnlyWord a = true := by decide +kernel
theorem counterWord_noEffect : ∀ a ∈ counterWords, a ∉ effectWords ∧ ¬ (R.CMP_CFG 0 ≤ a ∧ a < R.CMP_CFG 48) ∧
    (a < R.CRC_CFG 0 ∨ R.CRC_CFG 4 ≤ a) ∧ ¬ (R.TLM_STR 0 ≤ a ∧ a < R.TLM_STR 8) := by decide +kernel
theorem flagWord_resets : ∀ e ∈ flagWords, e.1 ∉ restartRegs ∧ regReset e.1 = 0#32 := by decide +kernel
theorem counterWord_resets : ∀ a ∈ counterWords, a ∉ restartRegs ∧ regReset a = 0#32 := by decide +kernel

/-- Whether the numbers of a list are distinct and outside a set of bits `seen`, in one pass over the list. -/
def freshKeys : Nat → List Nat → Bool
  | _, [] => true
  | seen, k :: ks => !seen.testBit k && freshKeys (seen ||| 2 ^ k) ks

theorem freshKeys_nodup {seen : Nat} {ks : List Nat} (h : freshKeys seen ks = true) :
    ks.Nodup ∧ ∀ k ∈ ks, seen.testBit k = false := by
  induction ks generalizing seen with
  | nil => simp
  | cons k ks ih =>
    obtain ⟨hk, hks⟩ : seen.testBit k = false ∧ freshKeys (seen ||| 2 ^ k) ks = true := by simpa [freshKeys] using h
    obtain ⟨hnodup, hfresh⟩ := ih hks
    have hout : ∀ x ∈ ks, seen.testBit x = false ∧ k ≠ x := by simpa [Nat.testBit_two_pow] using hfresh
    exact ⟨List.nodup_cons.mpr ⟨fun hmem => (hout k hmem).2 rfl, hnodup⟩,
      List.forall_mem_cons.mpr ⟨hk, fun x hx => (hout x hx).1⟩⟩

theorem allFlags_nodup : allFlags.Nodup :=
  have h : freshKeys 0 (allFlags.map fun g => 32 * g.bit.reg + g.bit.lo) = true := by decide +kernel
  (freshKeys_nodup h).1.of_map _

theorem flag_lo_lt {g : Flag} (hg : g ∈ allFlags) : g.bit.lo < 32 := by
  obtain ⟨e, he, -, hlo⟩ := flag_in_flagWords g hg
  exact hlo.trans_le (w1cOf_flagWord e he).1

theorem w1cOf_flag {g : Flag} (hg : g ∈ allFlags) : (w1cOf g.bit.reg).getLsbD g.bit.lo = true := by
  obtain ⟨e, he, hreg, hlo⟩ := flag_in_flagWords g hg
  obtain ⟨hn, hw⟩ := w1cOf_flagWord e he
  simp [hreg, hw, BitVec.getLsbD_ofNat, Nat.testBit_two_pow_sub_one, hlo, flag_lo_lt hg]

theorem flag_mem_flagsIn {g : Flag} (hg : g ∈ allFlags) : g ∈ flagsIn g.bit.reg (w1cOf g.bit.reg) := by
  simp [flagsIn, hg, w1cOf_flag hg]

theorem counter_mem_counterWords {g : Flag} (hg : g ∈ allFlags) : g.cnt.reg ∈ counterWords := by
  obtain ⟨e, he, hreg, hlo⟩ := flag_in_flagWords g hg
  have hq : g.bit.lo / 4 < (e.2 + 3) / 4 := by omega
  rw [flag_eq_flagAt g hg, hreg]
  exact List.mem_flatMap.mpr ⟨e, he, List.mem_map.mpr ⟨g.bit.lo / 4, List.mem_range.mpr hq, rfl⟩⟩

/-! One flag and its counter in a cycle -/

/-- A flag and its counter, as R490 speaks of them. -/
def State.flagAndCount (s : State) (g : Flag) : Bool × Nat := (s.has g.bit, s.get g.cnt)
/-- R490: what a cycle leaves of a flag and its counter, where hardware sets the flag or not and it is written 1 or not. -/
def flagRule (hwSets written : Bool) (p : Bool × Nat) : Bool × Nat :=
  (hwSets || (p.1 && !written), if hwSets then min 255 (p.2 + 1) else p.2)
/-- What FLAG_CLEAR does to one flag of its word. -/
def writeFlag (w hw : Word) (g : Flag) (s : State) : State :=
  s.when (w.getLsbD g.bit.lo || hw.getLsbD g.bit.lo) fun t => t.clearWithSet g (hw.getLsbD g.bit.lo)

theorem exec_flagClear (reg : BitVec 16) (w hw : Word) (s : State) :
    exec (.flagClear reg w hw) s = .next (forAll (flagsIn reg.toNat (w1cOf reg.toNat)) (writeFlag w hw) s) := rfl

theorem flagAt_bit_inWord (a : Nat) {i : Nat} (hi : i < 32) : (flagAt a i).bit.inWord = true := by simpa [Fld.inWord, flagAt] using hi

theorem flagAt_cnt_inWord (a i : Nat) : (flagAt a i).cnt.inWord = true := by
  simp only [Fld.inWord, flagAt, Nat.ble_eq]
  omega

theorem flagAt_bit_apart_cnt (a i j : Nat) : (flagAt a i).bit.apart (flagAt a j).cnt = true := by
  have hreg : a ≠ a + 4 + 4 * (j / 4) := by omega
  simp only [Fld.apart, flagAt, bne_iff_ne.mpr hreg, Bool.true_or]

theorem flagAt_cnt_apart_bit (a i j : Nat) : (flagAt a i).cnt.apart (flagAt a j).bit = true := by
  have hreg : a + 4 + 4 * (i / 4) ≠ a := by omega
  simp only [Fld.apart, flagAt, bne_iff_ne.mpr hreg, Bool.true_or]

theorem flagAt_bit_apart (a : Nat) {i j : Nat} (h : i ≠ j) : (flagAt a i).bit.apart (flagAt a j).bit = true := by
  simp only [Fld.apart, flagAt, Bool.or_eq_true, bne_iff_ne, Nat.ble_eq]
  omega

theorem flagAt_cnt_apart (a : Nat) {i j : Nat} (h : i ≠ j) : (flagAt a i).cnt.apart (flagAt a j).cnt = true := by
  simp only [Fld.apart, flagAt, Bool.or_eq_true, bne_iff_ne, Nat.ble_eq]
  omega

theorem flagAndCount_flag_self (s : State) (a : Nat) {i : Nat} (hi : i < 32) :
    (s.flag (flagAt a i)).flagAndCount (flagAt a i) = (true, min 255 (s.get (flagAt a i).cnt + 1)) :=
  Prod.ext (has_flag_self s _ (flagAt_bit_inWord a hi) rfl (flagAt_bit_apart_cnt a i i)) <| by
    change ((s.put (flagAt a i).bit true).bump (flagAt a i).cnt 1).get _ = _
    rw [get_bump_self _ _ _ (flagAt_cnt_inWord a i), get_put_apart _ _ _ _ (flagAt_cnt_inWord a i) (flagAt_cnt_apart_bit a i i)]
    rfl

theorem flagAndCount_clearFlag_self (s : State) (a : Nat) {i : Nat} (hi : i < 32) :
    (s.clearFlag (flagAt a i)).flagAndCount (flagAt a i) = (false, s.get (flagAt a i).cnt) :=
  Prod.ext (has_put_self s _ false (flagAt_bit_inWord a hi) rfl)
    (get_put_apart s _ _ false (flagAt_cnt_inWord a i) (flagAt_cnt_apart_bit a i i))

theorem flagAndCount_flag_other (s : State) (a : Nat) {i j : Nat} (hi : i < 32) (h : i ≠ j) :
    (s.flag (flagAt a j)).flagAndCount (flagAt a i) = s.flagAndCount (flagAt a i) :=
  Prod.ext (has_flag_apart s _ _ (flagAt_bit_inWord a hi) (flagAt_bit_apart a h) (flagAt_bit_apart_cnt a i j))
    (get_flag_apart s _ _ (flagAt_cnt_inWord a i) (flagAt_cnt_apart_bit a i j) (flagAt_cnt_apart a h))

theorem flagAndCount_clearFlag_other (s : State) (a : Nat) {i j : Nat} (hi : i < 32) (h : i ≠ j) :
    (s.clearFlag (flagAt a j)).flagAndCount (flagAt a i) = s.flagAndCount (flagAt a i) :=
  Prod.ext (has_put_apart s _ _ false (flagAt_bit_inWord a hi) (flagAt_bit_apart a h))
    (get_put_apart s _ _ false (flagAt_cnt_inWord a i) (flagAt_cnt_apart_bit a i j))

/-- The act on a flag follows R490. -/
theorem writeFlag_self (w hw : Word) (s : State) (a : Nat) {i : Nat} (hi : i < 32) :
    (writeFlag w hw (flagAt a i) s).flagAndCount (flagAt a i) =
      flagRule (hw.getLsbD i) (w.getLsbD i) (s.flagAndCount (flagAt a i)) := by
  change (s.when (w.getLsbD i || hw.getLsbD i) fun t => t.clearWithSet (flagAt a i) (hw.getLsbD i)).flagAndCount _ = _
  cases hw.getLsbD i with
  | true =>
    rw [Bool.or_true]
    exact flagAndCount_flag_self s a hi
  | false =>
    cases w.getLsbD i with
    | true => exact (flagAndCount_clearFlag_self s a hi).trans (by simp [flagRule, State.flagAndCount])
    | false => simp [flagRule]

/-- The act on a flag leaves the other flags of its word. -/
theorem writeFlag_other (w hw : Word) (s : State) (a : Nat) {i j : Nat} (hi : i < 32) (h : i ≠ j) :
    (writeFlag w hw (flagAt a j) s).flagAndCount (flagAt a i) = s.flagAndCount (flagAt a i) := by
  unfold writeFlag State.when State.clearWithSet
  split
  · split
    · exact flagAndCount_flag_other s a hi h
    · exact flagAndCount_clearFlag_other s a hi h
  · rfl

/-! The flags of a word, one after another -/

/-- What every act of a list leaves, all of them leave. -/
theorem forAll_invariant_of_mem {α β : Type} {act : α → State → State} {g : State → β} {l : List α}
    (h : ∀ x ∈ l, ∀ t, g (act x t) = g t) (s : State) : g (forAll l act s) = g s := by
  induction l generalizing s with
  | nil => rfl
  | cons x l ih => exact (ih (fun y hy => h y (List.mem_cons_of_mem x hy)) (act x s)).trans (h x List.mem_cons_self s)

/-- Where one act of a list without repetition has an effect on `g` and the others leave `g`, the list has that effect once. -/
theorem forAll_effect_of_mem {α β : Type} {act : α → State → State} {g : State → β} {effect : β → β} {x : α} {l : List α}
    (hx : x ∈ l) (hl : l.Nodup) (hself : ∀ t, g (act x t) = effect (g t))
    (hother : ∀ y ∈ l, y ≠ x → ∀ t, g (act y t) = g t) (s : State) : g (forAll l act s) = effect (g s) := by
  induction l generalizing s with
  | nil => cases hx
  | cons y l ih =>
    obtain ⟨hy, hl⟩ := List.nodup_cons.mp hl
    rcases List.mem_cons.mp hx with rfl | hx
    · refine (forAll_invariant_of_mem (fun z hz t => ?_) (act x s)).trans (hself s)
      exact hother z (List.mem_cons_of_mem x hz) (fun e => hy (e ▸ hz)) t
    · refine (ih hx hl (fun z hz => hother z (List.mem_cons_of_mem y hz)) (act y s)).trans (congrArg effect ?_)
      exact hother y List.mem_cons_self (fun e => hy (e ▸ hx)) s

/-- FLAG_CLEAR leaves every flag of its word as R490 says. -/
theorem flagClear_follows_rule (s : State) {g : Flag} (w hw : Word) (hg : g ∈ allFlags) :
    (forAll (flagsIn g.bit.reg (w1cOf g.bit.reg)) (writeFlag w hw) s).flagAndCount g =
      flagRule (hw.getLsbD g.bit.lo) (w.getLsbD g.bit.lo) (s.flagAndCount g) := by
  have hlo := flag_lo_lt hg
  have hat := flag_eq_flagAt g hg
  refine forAll_effect_of_mem (g := (State.flagAndCount · g)) (flag_mem_flagsIn hg) (allFlags_nodup.filter _) (fun t => ?_)
    (fun f hf hne t => ?_) s
  · have h := writeFlag_self w hw t g.bit.reg hlo
    rwa [← hat] at h
  · obtain ⟨hf, hreg⟩ : f ∈ allFlags ∧ f.bit.reg = g.bit.reg := by
      obtain ⟨hf, hcond⟩ := List.mem_filter.mp hf
      exact ⟨hf, of_decide_eq_true (Bool.and_eq_true_iff.mp hcond).1⟩
    have hfat := flag_eq_flagAt f hf
    rw [hreg] at hfat
    have hne : g.bit.lo ≠ f.bit.lo := fun e => hne (by rw [hfat, hat, ← e]; rfl)
    have h := writeFlag_other w hw t g.bit.reg hlo hne
    rwa [← hat, ← hfat] at h

/-! A committed write of a counter's word -/

theorem writeCrc_eq_none (s : State) {a : Nat} (w : Word) (h : a < R.CRC_CFG 0 ∨ R.CRC_CFG 4 ≤ a) : s.writeCrc a w = none := by
  unfold State.writeCrc
  exact if_pos h

theorem writeTmr_eq_none (s : State) {a : Nat} (w : Word) (h : a ∉ [R.ALM_CTL, R.ALM_ATL, R.ALM_ATH, R.TMR_CTL]) :
    s.writeTmr a w = none := by
  obtain ⟨hctl, hatl, hath, htmr⟩ : a ≠ R.ALM_CTL ∧ a ≠ R.ALM_ATL ∧ a ≠ R.ALM_ATH ∧ a ≠ R.TMR_CTL := by simpa using h
  rw [State.writeTmr, if_neg hctl, if_neg hatl, if_neg hath, if_neg htmr]

theorem writeData_eq_none (s : State) {a : Nat} (w : Word)
    (h : a ∉ [R.FFL_SEL, R.HIS_SEL, R.CAP_CTRL, R.CAP_SPILL, R.CAP_SEND, R.HUB_CTRL]) (hstr : ¬ (R.TLM_STR 0 ≤ a ∧ a < R.TLM_STR 8)) :
    s.writeData a w = none := by
  obtain ⟨hffl, hhis, hctrl, hspill, hsend, hhub⟩ : a ≠ R.FFL_SEL ∧ a ≠ R.HIS_SEL ∧ a ≠ R.CAP_CTRL ∧ a ≠ R.CAP_SPILL ∧
      a ≠ R.CAP_SEND ∧ a ≠ R.HUB_CTRL := by simpa using h
  rw [State.writeData, if_neg hffl, if_neg hhis, if_neg hctrl, if_neg hspill, if_neg hsend, if_neg hhub, dif_neg hstr]

theorem writeSpecial_eq_none (s : State) {a : Nat} (w : Word) (h : a ∉ effectWords) (hcmp : ¬ (R.CMP_CFG 0 ≤ a ∧ a < R.CMP_CFG 48))
    (hcrc : a < R.CRC_CFG 0 ∨ R.CRC_CFG 4 ≤ a) (hstr : ¬ (R.TLM_STR 0 ≤ a ∧ a < R.TLM_STR 8)) : s.writeSpecial a w = none := by
  simp only [effectWords, List.mem_append, not_or] at h
  obtain ⟨⟨hown, htmr⟩, hdata⟩ := h
  obtain ⟨hevt, hmbx, hflt⟩ : a ≠ R.EVT_RD ∧ a ≠ R.MBX_CTRL ∧ a ≠ R.FLT_INJ := by simpa using hown
  rw [State.writeSpecial, if_neg hevt, if_neg hmbx, if_neg hflt, dif_neg hcmp, writeCrc_eq_none s w hcrc, writeTmr_eq_none s w htmr,
    writeData_eq_none s w hdata hstr, ite_self, ite_self, ite_self]

/-- A read-only word without an effect of its own takes no write (R539). -/
theorem commitWord_readOnly (s : State) {a : Nat} (w : Word) (hro : readOnlyWord a = true) (hsp : s.writeSpecial a w = none) :
    (s.commitWord a w).word a = s.word a := by
  unfold State.commitWord
  split
  · rfl
  · cases hf : regFam? a with
    | none => rfl
    | some f =>
      obtain ⟨⟨hrw, hw1c⟩, hrws⟩ : (f.rw = 0#32 ∧ f.w1c = 0#32) ∧ f.rws = 0#32 := by simpa [readOnlyWord, hf] using hro
      simp [hrw, hw1c, hrws, hsp, -BitVec.reduceNot, -BitVec.reduceAllOnes]

/-- No write of a counter's word changes it (R490). -/
theorem commitWord_counterWord (s : State) {a : Nat} (w : Word) (ha : a ∈ counterWords) : (s.commitWord a w).word a = s.word a := by
  obtain ⟨heffect, hcmp, hcrc, hstr⟩ := counterWord_noEffect a ha
  exact commitWord_readOnly s w (counterWord_readOnly a ha) (writeSpecial_eq_none s w heffect hcmp hcrc hstr)

/-! T0 and an internal restart -/

theorem forAll_setWord_word (l : List Nat) (v : Nat → Word) (s : State) {a : Nat} (ha : a ∉ l) :
    (forAll l (fun b t => t.setWord b (v b)) s).word a = s.word a :=
  forAll_invariant_of_mem (g := (State.word · a)) (fun b hb t => word_setWord_other t b a (v b) fun e => ha (e ▸ hb)) s

theorem restartAll_word (s : State) {a : Nat} (hr : a ∉ retainedWords) (hsaf : a ≠ R.SAF_STATUS) :
    s.restartAll.word a = regReset a := by
  unfold State.restartAll
  extract_lets fresh t₁ t₂ t₃
  have h : t₃.word a = regReset a :=
    (word_set_other t₁ _ _ _ hsaf).trans (forAll_setWord_word retainedWords s.word fresh hr)
  clear_value t₃
  unfold State.when
  split
  · exact h
  · exact h

theorem internalRestart_word (s : State) (n : Nat) {a : Nat} (ha : a ∉ restartRegs) : (s.internalRestart n).word a = regReset a := by
  obtain ⟨hsys, hsaf, hr⟩ : a ≠ R.SYS_STATE ∧ a ≠ R.SAF_STATUS ∧ a ∉ retainedWords := by simpa [restartRegs] using ha
  unfold State.internalRestart
  rw [word_set_other _ _ _ _ hsys, word_set_other _ _ _ _ hsys, word_set_other _ _ _ _ hsys, word_set_other _ _ _ _ hsys,
    restartAll_word _ hr hsaf]

theorem powerOnReset_word (vislLost : Bool) (s : State) :
    Answers (exec (.powerOnReset vislLost) s) fun t => ∀ a, a ∉ restartRegs → t.word a = regReset a := by
  change Answers (execPowerOnReset vislLost s) _
  unfold execPowerOnReset
  extract_lets restarted env' supplied cleared noState noTrip shown
  refine ⟨_, rfl, fun a ha => ?_⟩
  obtain ⟨hsys, hsaf, hr⟩ : a ≠ R.SYS_STATE ∧ a ≠ R.SAF_STATUS ∧ a ∉ retainedWords := by simpa [restartRegs] using ha
  have hcleared : [R.SYS_STRAP, R.SYS_SEQ_PREV_HSEQ, R.SYS_SEQ_PREV_DSEQ, R.SQC_TRC_HEAD] ⊆ retainedWords := by decide
  have htrip : [R.SAF_TRIP, R.SAF_TRIP_TBL, R.SAF_TRIP_TBH] ⊆ retainedWords := by decide
  have hword : noState.word a = regReset a :=
    (word_setWord_other cleared _ _ _ hsys).trans <|
      (forAll_setWord_word _ (fun _ => 0) supplied fun h => hr (hcleared h)).trans (restartAll_word s hr hsaf)
  clear_value noState
  cases vislLost with
  | false => exact hword
  | true =>
    exact (word_set_other noTrip _ _ _ hsaf).trans <|
      (forAll_setWord_word _ (fun _ => 0) noState fun h => hr (htrip h)).trans hword

theorem flag_and_counter_reset {g : Flag} (hg : g ∈ allFlags) {t : State} (h : ∀ a, a ∉ restartRegs → t.word a = regReset a) :
    t.has g.bit = false ∧ t.get g.cnt = 0 := by
  obtain ⟨e, he, hreg, -⟩ := flag_in_flagWords g hg
  obtain ⟨hbit, hbit0⟩ := flagWord_resets e he
  obtain ⟨hcnt, hcnt0⟩ := counterWord_resets _ (counter_mem_counterWords hg)
  rw [← hreg] at hbit hbit0
  simp [State.has, State.get, h _ hbit, hbit0, h _ hcnt, hcnt0, Fld.extract]

/-- Settles O50: FLAG_CLEAR acts on each flag of its word once and apart from the others (`flagClear_follows_rule`), a counter's word
is read-only, and neither the flags nor the counters are among the words that a restart retains. -/
theorem flagsFollowSetClearAndCount : Obligations.FlagsFollowSetClearAndCount := by
  refine ⟨fun s g reg w hw hg hreg => ⟨_, exec_flagClear reg w hw s, ?_⟩, fun s g w hg => ?_, fun s g vislLost hg => ?_,
    fun s g n hg => flag_and_counter_reset hg fun a ha => internalRestart_word s n ha⟩
  · rw [hreg]
    exact Prod.ext_iff.mp (flagClear_follows_rule s w hw hg)
  · exact congrArg g.cnt.extract (commitWord_counterWord s w (counter_mem_counterWords hg))
  · obtain ⟨t, ht, hword⟩ := powerOnReset_word vislLost s
    exact ⟨t, ht, flag_and_counter_reset hg hword⟩
end Sys2Proof.Machine
end

section
/-!
Proofs of HIF_IRQ (R546): its three levels and its PENDING bit, and the operation by which host software removes each level.
-/
namespace Sys2Proof.Machine

/-- A field at the bottom of its word. -/
theorem get_lowest (s : State) {f : Fld} (hf : f.lo = 0) : s.get f = (s.word f.reg).toNat % 2 ^ f.width := by
  rw [State.get, Fld.extract, hf, Nat.pow_zero, Nat.div_one]

/-! The levels and the request -/

/-- The levels of HIF_IRQ as the number its low three bits hold: a response waits, events are unread, records were lost. -/
def State.irqLevels (s : State) : Nat :=
  b2n (decide (s.get F.MBX_STATUS_STATE = 2)) + 2 * b2n (decide (s.get F.EVT_WR_WR ≠ s.get F.EVT_RD_RD)) + 4 * b2n s.hif.lostChanged

theorem three_bits_lt (p q r : Bool) : b2n p + 2 * b2n q + 4 * b2n r < 2 ^ 3 := by
  revert p q r
  decide
theorem three_bits_testBit (p q r : Bool) (i : Fin 3) : (b2n p + 2 * b2n q + 4 * b2n r).testBit i = ![p, q, r] i := by
  revert p q r i
  decide

theorem irqLevels_lt (s : State) : s.irqLevels < 2 ^ 3 := three_bits_lt _ _ _

theorem irqWord_getLsbD (s : State) {i : Nat} (hi : i < 32) : s.irqWord.getLsbD i =
    if i < 3 then s.irqLevels.testBit i else (b2n (s.irqLevels &&& s.get F.HIF_IRQ_EN_EN != 0)).testBit (i - 3) := by
  change (BitVec.ofNat 32 (s.irqLevels + 2 ^ 3 * b2n (s.irqLevels &&& s.get F.HIF_IRQ_EN_EN != 0))).getLsbD i = _
  rw [BitVec.getLsbD_ofNat, Nat.add_comm, Nat.testBit_two_pow_mul_add _ (irqLevels_lt s)]
  simp [hi]

theorem irqWord_level (s : State) (i : Fin 3) : s.irqWord.getLsbD i =
    ![decide (s.get F.MBX_STATUS_STATE = 2), decide (s.get F.EVT_WR_WR ≠ s.get F.EVT_RD_RD), s.hif.lostChanged] i := by
  rw [irqWord_getLsbD s (by omega), if_pos i.isLt]
  exact three_bits_testBit _ _ _ i

theorem irqWord_rsp (s : State) : s.irqWord.getLsbD 0 = decide (s.get F.MBX_STATUS_STATE = 2) := irqWord_level s 0
theorem irqWord_evt (s : State) : s.irqWord.getLsbD 1 = decide (s.get F.EVT_WR_WR ≠ s.get F.EVT_RD_RD) := irqWord_level s 1
theorem irqWord_lost (s : State) : s.irqWord.getLsbD 2 = s.hif.lostChanged := irqWord_level s 2

theorem irqPending_iff (s : State) : s.irqPending = true ↔ s.irqLevels &&& s.get F.HIF_IRQ_EN_EN ≠ 0 := by
  rw [State.irqPending, irqWord_getLsbD s (by decide), if_neg (by decide)]
  cases h : s.irqLevels &&& s.get F.HIF_IRQ_EN_EN != 0 <;> simpa [b2n] using h

theorem irqWord_mod (s : State) : s.irqWord.toNat % 2 ^ 3 = s.irqLevels := by
  apply Nat.eq_of_testBit_eq
  intro i
  rw [Nat.testBit_mod_two_pow, BitVec.testBit_toNat]
  by_cases hi : i < 3
  · rw [irqWord_getLsbD s (by omega), if_pos hi, decide_eq_true hi, Bool.true_and]
  · have hlt : s.irqLevels < 2 ^ i := (irqLevels_lt s).trans_le (Nat.pow_le_pow_right (by decide) (by omega))
    rw [decide_eq_false hi, Bool.false_and, Nat.testBit_lt_two_pow hlt]

theorem irqWord_and_enable (s : State) :
    (s.irqWord &&& s.word R.HIF_IRQ_EN).toNat % 8 = s.irqLevels &&& s.get F.HIF_IRQ_EN_EN := by
  have hen : s.get F.HIF_IRQ_EN_EN = (s.word R.HIF_IRQ_EN).toNat % 2 ^ 3 := get_lowest s rfl
  rw [BitVec.toNat_and, show 8 = 2 ^ 3 from rfl, Nat.and_mod_two_pow, irqWord_mod, hen]

/-! What host software does to remove a level -/

theorem exec_mbxTake_response {s : State} (hs : s.mailboxServed = true) (hr : s.get F.MBX_STATUS_STATE = 2) :
    exec .mbxTake s = .next (s.set F.MBX_STATUS_STATE 0) := by
  change execMbxTake s = _
  rw [execMbxTake, hs, decide_eq_true hr, Bool.and_self, if_pos rfl]

theorem exec_evtRdWrite_served {s : State} (v : Word) (hs : s.ringServed = true) :
    exec (.evtRdWrite v) s = .next (s.writeEvtRd v.toNat) := by
  change execEvtRdWrite v s = _
  rw [execEvtRdWrite, if_pos hs]

theorem exec_evtStatusRead_served {s : State} (hs : s.ringServed = true) :
    exec .evtStatusRead s = .next (s.readEffect R.EVT_STATUS) := by
  change execEvtStatusRead s = _
  rw [execEvtStatusRead, if_pos hs]

theorem get_evtWr (s : State) : s.get F.EVT_WR_WR = (s.word R.EVT_WR).toNat :=
  (get_lowest s rfl).trans (Nat.mod_eq_of_lt (s.word R.EVT_WR).isLt)

/-- EVT_WR itself is in the range that EVT_RD is clamped to (R555): nothing is behind it. -/
theorem writeEvtRd_evtWr (s : State) : s.writeEvtRd (s.get F.EVT_WR_WR) = s.set F.EVT_RD_RD (s.get F.EVT_WR_WR) := by
  have hback : (s.get F.EVT_WR_WR + 2 ^ 32 - s.get F.EVT_WR_WR) % 2 ^ 32 = 0 := by rw [Nat.add_sub_cancel_left, Nat.mod_self]
  simp only [State.writeEvtRd, hback, Nat.zero_le, if_true]

theorem get_evtRd_set_evtWr (s : State) : (s.set F.EVT_RD_RD (s.get F.EVT_WR_WR)).get F.EVT_RD_RD = s.get F.EVT_WR_WR :=
  (get_set_self s F.EVT_RD_RD _ rfl).trans (Nat.mod_eq_of_lt (get_lt s F.EVT_WR_WR))

theorem readEffect_evtStatus_lostChanged (s : State) : (s.readEffect R.EVT_STATUS).hif.lostChanged = false := by
  rw [State.readEffect, if_pos rfl]
  rfl

/-- Settles O53: PENDING is the AND of the levels with HIF_IRQ_EN (`irqPending_iff`), and each operation falsifies the condition that
its level shows: the mailbox leaves RESP, EVT_RD stands at EVT_WR, the loss is noted as read. -/
theorem requestsFollowTheInterruptWord : Obligations.RequestsFollowTheInterruptWord := by
  refine ⟨fun s => ?_, fun s => ⟨irqWord_rsp s, irqWord_evt s, irqWord_lost s⟩, fun s hs hr => ?_, fun s hs => ?_, fun s hs => ?_⟩
  · rw [irqPending_iff, irqWord_and_enable]
  · refine ⟨_, exec_mbxTake_response hs hr, (irqWord_rsp _).trans ?_⟩
    rw [get_set_self s F.MBX_STATUS_STATE 0 rfl]
    rfl
  · refine ⟨_, exec_evtRdWrite_served _ hs, (irqWord_evt _).trans ?_⟩
    rw [← get_evtWr, writeEvtRd_evtWr, get_evtRd_set_evtWr, get_set_apart s F.EVT_WR_WR F.EVT_RD_RD _ rfl rfl]
    exact decide_eq_false (not_not_intro rfl)
  · exact ⟨_, exec_evtStatusRead_served hs, (irqWord_lost _).trans (readEffect_evtStatus_lostChanged s)⟩

end Sys2Proof.Machine
end

section
/-!
Proofs of the claim of a check-value unit (R574): which writes of another than the claimer, or of a unit at work, are discarded, and
what the write that starts a computation leaves.
-/
namespace Sys2Proof.Machine

/-- A field of a word that stands reads as before. -/
theorem SameWords.get {l : List Nat} {s t : State} (h : SameWords l s t) {f : Fld} (hf : f.reg ∉ l) : t.get f = s.get f :=
  congrArg f.extract (h f.reg hf)

theorem crcForeign_iff (s : State) (u writer : Nat) :
    s.crcForeign u writer = true ↔ s.get (F.CRC_STATUS_OWNER u) ≠ 0x1F ∧ s.get (F.CRC_STATUS_OWNER u) ≠ writer := by
  simp only [State.crcForeign, Bool.and_eq_true, bne_iff_ne]

theorem crcBars_iff (s : State) (u writer : Nat) :
    s.crcBars u writer = true ↔ s.crcForeign u writer = true ∨ s.has (F.CRC_STATUS_BUSY u) = true := by
  rw [State.crcBars, Bool.or_eq_true]

/-! The writes that are discarded -/

theorem exec_crcInit_refused {s : State} {u : Fin 4} {writer : Fin 17} {w : Word} (hf : s.crcForeign u.val writer.val = true)
    (h : w.getLsbD 31 = false ∨ s.has (F.CRC_STATUS_BUSY u.val) = true) : exec (.crcInit u writer w) s = .next (s.crcRefuse u.val) := by
  have hbars : (s.crcForeign u.val writer.val && (!w.getLsbD 31 || s.has (F.CRC_STATUS_BUSY u.val))) = true := by
    simpa [hf] using h
  exact if_pos hbars

theorem exec_crcFeed_refused {s : State} {u : Fin 4} {writer : Fin 17} (w : Word) (h : s.crcBars u.val writer.val = true) :
    exec (.crcFeed u writer w) s = .next (s.crcRefuse u.val) := if_pos h

theorem exec_crcCtxRestore_refused {s : State} {u : Fin 4} {writer : Fin 17} (w : Word) (h : s.crcBars u.val writer.val = true) :
    exec (.crcCtxRestore u writer w) s = .next (s.crcRefuse u.val) := if_pos h

theorem exec_crcBlock_refused {s : State} {u : Fin 4} {writer : Fin 17} {w : Word}
    (h : s.crcForeign u.val writer.val = true ∨ (w.getLsbD 31 = true ∧ s.has (F.CRC_STATUS_BUSY u.val) = true)) :
    exec (.crcBlock u writer w) s = .next (s.crcRefuse u.val) := by
  have hbars : (s.crcForeign u.val writer.val ||
      (w.getLsbD 31 && (s.has (F.CRC_STATUS_BUSY u.val) || w.toNat % 2 ^ 16 == 0))) = true := by
    rcases h with hf | ⟨hgo, hbusy⟩
    · rw [hf, Bool.true_or]
    · rw [hgo, hbusy, Bool.true_or, Bool.and_true, Bool.or_true]
  exact if_pos hbars

theorem writeBlka_refused {s : State} {u writer : Nat} (w : Word) (h : s.crcForeign u writer = true) :
    s.writeBlka u writer w = s.crcRefuse u := if_pos h

/-! The write that starts a computation -/

/-- The running value from which unit u starts: the algorithm's initial value, XORed with the low bits of FOLD where FOLD_MODE is 2. -/
def State.crcInitial (s : State) (u : Nat) : Nat :=
  if s.get (F.CRC_CFG_FOLD_MODE u) = 2 then
    crcView (s.crcUnit u) (s.crcUnit u).init ^^^ (s.get (F.CRC_FOLD_FOLD u) % 2 ^ (s.crcUnit u).width)
  else crcView (s.crcUnit u) (s.crcUnit u).init

/-- CRC_STATUSu at a start: the writer owns the unit, COUNT is 0 and FOLDED is 0. -/
def State.crcClaim (s : State) (u writer : Nat) : State :=
  ((s.set (F.CRC_STATUS_OWNER u) writer).set (F.CRC_STATUS_COUNT u) 0).put (F.CRC_STATUS_FOLDED u) false

/-- The fields of CRC_CFGu that a configuration write stores. -/
def State.crcConfigure (s : State) (u : Nat) (w : Word) : State := s.setWord (R.CRC_CFG u) (w &&& 0x0FF00000#32)

/-- A configuration write with INIT that is taken: the unit is configured, claimed, and set to its initial value. -/
theorem exec_crcInit_taken {s : State} {u : Fin 4} (writer : Fin 17) {w : Word} (hinit : w.getLsbD 31 = true)
    (h : s.crcForeign u.val writer.val = false ∨ s.has (F.CRC_STATUS_BUSY u.val) = false) :
    exec (.crcInit u writer w) s =
      .next (((s.crcConfigure u.val w).crcClaim u.val writer.val).crcSet u.val ((s.crcConfigure u.val w).crcInitial u.val)) := by
  have hfree : ¬ (s.crcForeign u.val writer.val && (!w.getLsbD 31 || s.has (F.CRC_STATUS_BUSY u.val))) = true := by
    rcases h with hf | hbusy
    · simp [hf]
    · simp [hinit, hbusy]
  exact (if_neg hfree).trans (if_pos hinit)

theorem crcConfigure_sameWords (s : State) (u : Nat) (w : Word) : SameWords [R.CRC_CFG u] s (s.crcConfigure u w) := fun a ha =>
  word_setWord_other s _ a _ (List.ne_of_not_mem_cons ha)

theorem crcClaim_sameWords (s : State) (u writer : Nat) : SameWords [R.CRC_STATUS u] s (s.crcClaim u writer) := fun a ha => by
  have ha : a ≠ R.CRC_STATUS u := List.ne_of_not_mem_cons ha
  exact (word_set_other _ _ _ _ ha).trans <| (word_set_other _ _ _ _ ha).trans <| word_set_other _ _ _ _ ha

theorem crcClaim_owner (s : State) (u : Nat) (writer : Fin 17) :
    (s.crcClaim u writer.val).get (F.CRC_STATUS_OWNER u) = writer.val := by
  rw [State.crcClaim, get_put_apart _ _ _ _ rfl (by simp [Fld.apart, F.CRC_STATUS_OWNER, F.CRC_STATUS_FOLDED]),
    get_set_apart _ _ _ _ rfl (by simp [Fld.apart, F.CRC_STATUS_OWNER, F.CRC_STATUS_COUNT]), get_set_self _ _ _ rfl]
  exact Nat.mod_eq_of_lt (writer.isLt.trans (by decide : 17 < 2 ^ 5))

theorem crcClaim_count (s : State) (u writer : Nat) : (s.crcClaim u writer).get (F.CRC_STATUS_COUNT u) = 0 := by
  rw [State.crcClaim, get_put_apart _ _ _ _ rfl (by simp [Fld.apart, F.CRC_STATUS_COUNT, F.CRC_STATUS_FOLDED]),
    get_set_self _ _ _ rfl, Nat.zero_mod]

theorem crcSet_sameWords (s : State) (u v : Nat) : SameWords [R.CRC_CTX u, R.CRC_RES u] s (s.crcSet u v) := fun a ha => by
  obtain ⟨hctx, hres⟩ : a ≠ R.CRC_CTX u ∧ a ≠ R.CRC_RES u := by simpa using ha
  exact (word_set_other _ _ _ _ hres).trans (word_set_other _ _ _ _ hctx)

theorem crcSet_ctx (s : State) (u v : Nat) : (s.crcSet u v).get (F.CRC_CTX_CTX u) = v % 2 ^ 32 := by
  rw [State.crcSet, get_set_apart _ _ _ _ rfl (by simp [Fld.apart, F.CRC_CTX_CTX, F.CRC_RES_RESULT, R.CRC_CTX, R.CRC_RES]),
    get_set_self _ _ _ rfl]
  rfl

theorem crcStatus_not_written_by_crcSet (u : Nat) : R.CRC_STATUS u ∉ [R.CRC_CTX u, R.CRC_RES u] := by
  simp [R.CRC_STATUS, R.CRC_CTX, R.CRC_RES]
theorem crcCfg_not_written_by_crcSet (u : Nat) : R.CRC_CFG u ∉ [R.CRC_CTX u, R.CRC_RES u] := by
  simp [R.CRC_CFG, R.CRC_CTX, R.CRC_RES]
theorem crcCfg_not_written_by_crcClaim (u : Nat) : R.CRC_CFG u ∉ [R.CRC_STATUS u] := by simp [R.CRC_CFG, R.CRC_STATUS]
theorem crcFold_not_written_by_crcConfigure (u : Nat) : R.CRC_FOLD u ∉ [R.CRC_CFG u] := by simp [R.CRC_FOLD, R.CRC_CFG]

/-- After the claim and the setting of the running value the configuration stands. -/
theorem cfg_after_start (s : State) (u writer v : Nat) {f : Fld} (hf : f.reg = R.CRC_CFG u) :
    ((s.crcClaim u writer).crcSet u v).get f = s.get f :=
  ((crcSet_sameWords _ u v).get (hf ▸ crcCfg_not_written_by_crcSet u)).trans
    ((crcClaim_sameWords s u writer).get (hf ▸ crcCfg_not_written_by_crcClaim u))

/-- Settles O51: each write is discarded by its `..._refused` lemma. A write with INIT that is taken configures the unit, claims it and
sets the initial value (`exec_crcInit_taken`); these three write different words, so each survives the ones after it. -/
theorem checkValueUnitsBelongToTheirClaimer : Obligations.CheckValueUnitsBelongToTheirClaimer := by
  refine ⟨fun s u writer => crcForeign_iff s u.val writer.val, fun s u writer w hinit h => ?_,
    fun s u writer w hf h => exec_crcInit_refused hf h, fun s u writer w h => ?_,
    fun s u writer w h => exec_crcBlock_refused h, fun s u writer w h => writeBlka_refused w h⟩
  · let c := s.crcConfigure u.val w
    have hstatus {f : Fld} (hf : f.reg = R.CRC_STATUS u.val) :=
      (crcSet_sameWords (c.crcClaim u.val writer.val) u.val (c.crcInitial u.val)).get (hf ▸ crcStatus_not_written_by_crcSet u.val)
    have hfold : c.get (F.CRC_FOLD_FOLD u.val) = s.get (F.CRC_FOLD_FOLD u.val) :=
      (crcConfigure_sameWords s u.val w).get (crcFold_not_written_by_crcConfigure u.val)
    refine ⟨_, exec_crcInit_taken writer hinit h, (hstatus rfl).trans (crcClaim_owner c u.val writer),
      (hstatus rfl).trans (crcClaim_count c u.val writer.val), (crcSet_ctx _ u.val _).trans ?_⟩
    rw [State.crcUnit, cfg_after_start _ _ _ _ rfl, cfg_after_start _ _ _ _ rfl, ← hfold]
    rfl
  · have hbars := (crcBars_iff s u.val writer.val).mpr h
    exact ⟨exec_crcFeed_refused w hbars, exec_crcCtxRestore_refused w hbars⟩

end Sys2Proof.Machine
end
section
/-!
Proofs of what every command keeps: the canonical form of the stores, the queue behind the command, the direction of time, the
programmed OTP bits and, for a command outside `writesMemory`, the memories.
-/
namespace Sys2Proof.Machine

/-- Every command answers a next state and has kept what its own law under Laws/Kept… says. -/
theorem exec_kept (c : Instr) (s : State) : OutKept (writesMemory c) s (exec c s) :=
  match c with
  | .powerOnReset .. => execPowerOnReset_kept (.refl s)
  | .strapLatch .. => execStrapLatch_kept (.refl s)
  | .clockCheckTimeout .. => execClockCheckTimeout_kept (.refl s)
  | .rootLock .. => execRootLock_kept (.refl s)
  | .otpBootRead .. => execOtpBootRead_kept (.refl s)
  | .slotTableRead .. => execSlotTableRead_kept (.refl s)
  | .firmwareSlotVerify .. => execFirmwareSlotVerify_kept (.refl s)
  | .configRead .. => execConfigRead_kept (.refl s)
  | .protectionSetup .. => execProtectionSetup_kept (.refl s)
  | .protSeal .. => execProtSeal_kept (.refl s)
  | .slotTableWrite .. => execSlotTableWrite_kept (.refl s)
  | .lifeRecordAppend .. => execLifeRecordAppend_kept (.refl s)
  | .lifeSectorErase .. => execLifeSectorErase_kept (.refl s)
  | .lifeRecordRetry .. => execLifeRecordRetry_kept (.refl s)
  | .acsnsEdge .. => execAcsnsEdge_kept (.refl s)
  | .adcConversion .. => execAdcConversion_kept (.refl s)
  | .superframeChecks .. => execSuperframeChecks_kept (.refl s)
  | .schDataWrite .. => execSchDataWrite_kept (.refl s)
  | .windowOutside .. => execWindowOutside_kept (.refl s)
  | .captureArm .. => execCaptureArm_kept (.refl s)
  | .captureSpill .. => execCaptureSpill_kept (.refl s)
  | .captureSend .. => execCaptureSend_kept (.refl s)
  | .ccChange .. => execCcChange_kept (.refl s)
  | .attachDebounceElapsed .. => execAttachDebounceElapsed_kept (.refl s)
  | .vbusApplyJudge .. => execVbusApplyJudge_kept (.refl s)
  | .detach .. => execDetach_kept (.refl s)
  | .vcsnsSafe0Reached .. => execVcsnsSafe0Reached_kept (.refl s)
  | .seated .. => execSeated_kept (.refl s)
  | .seatLost .. => execSeatLost_kept (.refl s)
  | .vconnOvercurrent .. => execVconnOvercurrent_kept (.refl s)
  | .wetReadingDue .. => execWetReadingDue_kept (.refl s)
  | .wetSettlingEnd .. => execWetSettlingEnd_kept (.refl s)
  | .wetWindowEnd .. => execWetWindowEnd_kept (.refl s)
  | .sourceCapResend .. => execSourceCapResend_kept (.refl s)
  | .request .. => execRequest_kept (.refl s)
  | .eprRequest .. => execEprRequest_kept (.refl s)
  | .getSourceCap .. => execGetSourceCap_kept (.refl s)
  | .eprGetSourceCap .. => execEprGetSourceCap_kept (.refl s)
  | .getSinkCap .. => execGetSinkCap_kept (.refl s)
  | .getSourceCapExtended .. => execGetSourceCapExtended_kept (.refl s)
  | .getSourceInfo .. => execGetSourceInfo_kept (.refl s)
  | .getRevision .. => execGetRevision_kept (.refl s)
  | .getManufacturerInfo .. => execGetManufacturerInfo_kept (.refl s)
  | .getStatus .. => execGetStatus_kept (.refl s)
  | .getPpsStatus .. => execGetPpsStatus_kept (.refl s)
  | .alert .. => execAlert_kept (.refl s)
  | .softReset .. => execSoftReset_kept (.refl s)
  | .bist .. => execBist_kept (.refl s)
  | .notSupportedMessage .. => execNotSupportedMessage_kept (.refl s)
  | .vconnSwapReject .. => execVconnSwapReject_kept (.refl s)
  | .prSwap .. => execPrSwap_kept (.refl s)
  | .vconnSwap .. => execVconnSwap_kept (.refl s)
  | .drSwap .. => execDrSwap_kept (.refl s)
  | .port9SourceCapabilities .. => execPort9SourceCapabilities_kept (.refl s)
  | .port9PsRdy .. => execPort9PsRdy_kept (.refl s)
  | .eprModeEnter .. => execEprModeEnter_kept (.refl s)
  | .eprModeExit .. => execEprModeExit_kept (.refl s)
  | .eprExitSend .. => execEprExitSend_kept (.refl s)
  | .eprKeepalive .. => execEprKeepalive_kept (.refl s)
  | .eprKeepaliveTimeout .. => execEprKeepaliveTimeout_kept (.refl s)
  | .ppsTimeout .. => execPpsTimeout_kept (.refl s)
  | .senderResponseTimeout .. => execSenderResponseTimeout_kept (.refl s)
  | .hardResetReceived .. => execHardResetReceived_kept (.refl s)
  | .hardResetPsElapsed .. => execHardResetPsElapsed_kept (.refl s)
  | .srcRecoverElapsed .. => execSrcRecoverElapsed_kept (.refl s)
  | .vbusVsafe5vReached .. => execVbusVsafe5vReached_kept (.refl s)
  | .errorRecoveryElapsed .. => execErrorRecoveryElapsed_kept (.refl s)
  | .transitionStart .. => execTransitionStart_kept (.refl s)
  | .transitionEnd .. => execTransitionEnd_kept (.refl s)
  | .transitionTimeout .. => execTransitionTimeout_kept (.refl s)
  | .capabilitiesUpdate .. => execCapabilitiesUpdate_kept (.refl s)
  | .cableDiscovery .. => execCableDiscovery_kept (.refl s)
  | .cableIdentityResponse .. => execCableIdentityResponse_kept (.refl s)
  | .structuredVdm .. => execStructuredVdm_kept (.refl s)
  | .authStart .. => execAuthStart_kept (.refl s)
  | .securityResponse .. => execSecurityResponse_kept (.refl s)
  | .authTimeout .. => execAuthTimeout_kept (.refl s)
  | .frenerIdent .. => execFrenerIdent_kept (.refl s)
  | .frenerVdmTimeout .. => execFrenerVdmTimeout_kept (.refl s)
  | .pdQueueFull .. => execPdQueueFull_kept (.refl s)
  | .switchingPeriod .. => execSwitchingPeriod_kept (.refl s)
  | .outerLoopUpdate .. => execOuterLoopUpdate_kept (.refl s)
  | .headroomLost .. => execHeadroomLost_kept (.refl s)
  | .chkReadingDue .. => execChkReadingDue_kept (.refl s)
  | .chkWindowEnd .. => execChkWindowEnd_kept (.refl s)
  | .precloseTestElapsed .. => execPrecloseTestElapsed_kept (.refl s)
  | .foldbackStep .. => execFoldbackStep_kept (.refl s)
  | .switchClosed .. => execSwitchClosed_kept (.refl s)
  | .closingTimeout .. => execClosingTimeout_kept (.refl s)
  | .shortDetected .. => execShortDetected_kept (.refl s)
  | .breakerStep .. => execBreakerStep_kept (.refl s)
  | .allowanceEnd .. => execAllowanceEnd_kept (.refl s)
  | .retryOffElapsed .. => execRetryOffElapsed_kept (.refl s)
  | .retryCountClear .. => execRetryCountClear_kept (.refl s)
  | .offCheck .. => execOffCheck_kept (.refl s)
  | .ntcRecovered .. => execNtcRecovered_kept (.refl s)
  | .gateDriveLost .. => execGateDriveLost_kept (.refl s)
  | .onDropDegraded .. => execOnDropDegraded_kept (.refl s)
  | .emergencyLever .. => execEmergencyLever_kept (.refl s)
  | .railEnable .. => execRailEnable_kept (.refl s)
  | .railFrameJudge .. => execRailFrameJudge_kept (.refl s)
  | .railRiseTimeout .. => execRailRiseTimeout_kept (.refl s)
  | .resetStretchElapsed .. => execResetStretchElapsed_kept (.refl s)
  | .railRelease .. => execRailRelease_kept (.refl s)
  | .railFallTimeout .. => execRailFallTimeout_kept (.refl s)
  | .dischargeTimeout .. => execDischargeTimeout_kept (.refl s)
  | .axkanSync .. => execAxkanSync_kept (.refl s)
  | .axkanJoin .. => execAxkanJoin_kept (.refl s)
  | .axkanReport .. => execAxkanReport_kept (.refl s)
  | .margin .. => execMargin_kept (.refl s)
  | .marginFrameStep .. => execMarginFrameStep_kept (.refl s)
  | .marginTimeout .. => execMarginTimeout_kept (.refl s)
  | .fflRecordWrite .. => execFflRecordWrite_kept (.refl s)
  | .fflSectorErase .. => execFflSectorErase_kept (.refl s)
  | .fflSelLoad .. => execFflSelLoad_kept (.refl s)
  | .hubPortDataEnable .. => execHubPortDataEnable_kept (.refl s)
  | .hubPacketReceived .. => execHubPacketReceived_kept (.refl s)
  | .bufferEccError .. => execBufferEccError_kept (.refl s)
  | .ssTrainingFailed .. => execSsTrainingFailed_kept (.refl s)
  | .linkRecoveryExcess .. => execLinkRecoveryExcess_kept (.refl s)
  | .hubCounterClear .. => execHubCounterClear_kept (.refl s)
  | .mgtCommandTransfer .. => execMgtCommandTransfer_kept (.refl s)
  | .mgtEventDelivery .. => execMgtEventDelivery_kept (.refl s)
  | .mgtVendorRequest .. => execMgtVendorRequest_kept (.refl s)
  | .mgtClearHalt .. => execMgtClearHalt_kept (.refl s)
  | .streamSample .. => execStreamSample_kept (.refl s)
  | .streamBlockEncode .. => execStreamBlockEncode_kept (.refl s)
  | .streamPacketClose .. => execStreamPacketClose_kept (.refl s)
  | .tlmStrWrite .. => execTlmStrWrite_kept (.refl s)
  | .dayRecordWrite .. => execDayRecordWrite_kept (.refl s)
  | .checkpointWrite .. => execCheckpointWrite_kept (.refl s)
  | .hisSelLoad .. => execHisSelLoad_kept (.refl s)
  | .clockCrossCheck .. => execClockCrossCheck_kept (.refl s)
  | .islandOscCheck .. => execIslandOscCheck_kept (.refl s)
  | .watchdogAnswer .. => execWatchdogAnswer_kept (.refl s)
  | .classifierTest .. => execClassifierTest_kept (.refl s)
  | .engineHeartbeatCheck .. => execEngineHeartbeatCheck_kept (.refl s)
  | .safOfftest .. => execSafOfftest_kept (.refl s)
  | .memoryEccError .. => execMemoryEccError_kept (.refl s)
  | .faultClassify .. => execFaultClassify_kept (.refl s)
  | .flagClear .. => execFlagClear_kept (.refl s)
  | .fltInj .. => execFltInj_kept (.refl s)
  | .otpFullReread .. => execOtpFullReread_kept (.refl s)
  | .sessionCeilingRaise .. => execSessionCeilingRaise_kept (.refl s)
  | .regRead .. => execRegRead_kept (.refl s)
  | .regWrite .. => execRegWrite_kept (.refl s)
  | .regWriteAuth .. => execRegWriteAuth_kept (.refl s)
  | .sessionInfo .. => execSessionInfo_kept (.refl s)
  | .updOpen .. => execUpdOpen_kept (.refl s)
  | .updBlock .. => execUpdBlock_kept (.refl s)
  | .updClose .. => execUpdClose_kept (.refl s)
  | .updActivate .. => execUpdActivate_kept (.refl s)
  | .updAbort .. => execUpdAbort_kept (.refl s)
  | .confirm .. => execConfirm_kept (.refl s)
  | .handoverRomVerify .. => execHandoverRomVerify_kept (.refl s)
  | .handoverAdopt .. => execHandoverAdopt_kept (.refl s)
  | .handoverDigests .. => execHandoverDigests_kept (.refl s)
  | .handback .. => execHandback_kept (.refl s)
  | .engineReload .. => execEngineReload_kept (.refl s)
  | .recOpen .. => execRecOpen_kept (.refl s)
  | .recBlock .. => execRecBlock_kept (.refl s)
  | .recClose .. => execRecClose_kept (.refl s)
  | .otpProgram .. => execOtpProgram_kept (.refl s)
  | .otpLock .. => execOtpLock_kept (.refl s)
  | .revokeFwkey .. => execRevokeFwkey_kept (.refl s)
  | .policySet .. => execPolicySet_kept (.refl s)
  | .testWrite .. => execTestWrite_kept (.refl s)
  | .pageSelWrite .. => execPageSelWrite_kept (.refl s)
  | .registerWrite .. => execRegisterWrite_kept (.refl s)
  | .i2cStartStop .. => execI2cStartStop_kept (.refl s)
  | .sdaTimeout .. => execSdaTimeout_kept (.refl s)
  | .sclTimeout .. => execSclTimeout_kept (.refl s)
  | .ibrPulse .. => execIbrPulse_kept (.refl s)
  | .mbxGo .. => execMbxGo_kept (.refl s)
  | .evtRdWrite .. => execEvtRdWrite_kept (.refl s)
  | .compareStrobe .. => execCompareStrobe_kept (.refl s)
  | .cmpCfgWrite .. => execCmpCfgWrite_kept (.refl s)
  | .alarmAtlWrite .. => execAlarmAtlWrite_kept (.refl s)
  | .alarmSetTime .. => execAlarmSetTime_kept (.refl s)
  | .alarmArm .. => execAlarmArm_kept (.refl s)
  | .alarmFire .. => execAlarmFire_kept (.refl s)
  | .timerTick .. => execTimerTick_kept (.refl s)
  | .timerStart .. => execTimerStart_kept (.refl s)
  | .timerStop .. => execTimerStop_kept (.refl s)
  | .crcInit .. => execCrcInit_kept (.refl s)
  | .crcFeed .. => execCrcFeed_kept (.refl s)
  | .crcBlock .. => execCrcBlock_kept (.refl s)
  | .crcBlockComplete .. => execCrcBlockComplete_kept (.refl s)
  | .crcCtxRestore .. => execCrcCtxRestore_kept (.refl s)
  | .goodcrcReceived .. => execGoodcrcReceived_kept (.refl s)
  | .goodcrcWaitTimeout .. => execGoodcrcWaitTimeout_kept (.refl s)
  | .sinkTxElapsed .. => execSinkTxElapsed_kept (.refl s)
  | .upwardOfferTimer .. => execUpwardOfferTimer_kept (.refl s)
  | .frenerVdmReceived .. => execFrenerVdmReceived_kept (.refl s)
  | .mgtResponseTaken .. => execMgtResponseTaken_kept (.refl s)
  | .telemetryPacketTaken .. => execTelemetryPacketTaken_kept (.refl s)
  | .hubPacketSent .. => execHubPacketSent_kept (.refl s)
  | .uvloFall => execUvloFall_kept (.refl s)
  | .resetInN => execResetInN_kept (.refl s)
  | .supplyStartupStep => execSupplyStartupStep_kept (.refl s)
  | .romBootGuardJudge => execRomBootGuardJudge_kept (.refl s)
  | .engineLoad => execEngineLoad_kept (.refl s)
  | .lifeHourElapsed => execLifeHourElapsed_kept (.refl s)
  | .springLimitExpired => execSpringLimitExpired_kept (.refl s)
  | .winterHoldElapsed => execWinterHoldElapsed_kept (.refl s)
  | .summerHourElapsed => execSummerHourElapsed_kept (.refl s)
  | .vinOvpRise => execVinOvpRise_kept (.refl s)
  | .vinOvpFall => execVinOvpFall_kept (.refl s)
  | .vinOvpPersist => execVinOvpPersist_kept (.refl s)
  | .vinOkFall => execVinOkFall_kept (.refl s)
  | .vinOkRise => execVinOkRise_kept (.refl s)
  | .sinkSupplyPresent => execSinkSupplyPresent_kept (.refl s)
  | .mainsLoss => execMainsLoss_kept (.refl s)
  | .acsnsLockTimeout => execAcsnsLockTimeout_kept (.refl s)
  | .mainsReturnTimeout => execMainsReturnTimeout_kept (.refl s)
  | .busJudgement => execBusJudgement_kept (.refl s)
  | .restartWaitElapsed => execRestartWaitElapsed_kept (.refl s)
  | .vdrvDropout => execVdrvDropout_kept (.refl s)
  | .framePlausibility => execFramePlausibility_kept (.refl s)
  | .schDataRead => execSchDataRead_kept (.refl s)
  | .schSwapReq => execSchSwapReq_kept (.refl s)
  | .scheduleCheck => execScheduleCheck_kept (.refl s)
  | .scheduleSwap => execScheduleSwap_kept (.refl s)
  | .captureForce => execCaptureForce_kept (.refl s)
  | .captureTrigger => execCaptureTrigger_kept (.refl s)
  | .captureFull => execCaptureFull_kept (.refl s)
  | .captureRelease => execCaptureRelease_kept (.refl s)
  | .drpToggle => execDrpToggle_kept (.refl s)
  | .trySnkElapsed => execTrySnkElapsed_kept (.refl s)
  | .drSwapRetry => execDrSwapRetry_kept (.refl s)
  | .allocatorRun => execAllocatorRun_kept (.refl s)
  | .powerupStepDelayElapsed => execPowerupStepDelayElapsed_kept (.refl s)
  | .powerdownStepDelayElapsed => execPowerdownStepDelayElapsed_kept (.refl s)
  | .downGateTimeout => execDownGateTimeout_kept (.refl s)
  | .cascArm => execCascArm_kept (.refl s)
  | .cascFault => execCascFault_kept (.refl s)
  | .axkanCycle => execAxkanCycle_kept (.refl s)
  | .axkanSlaveWindow => execAxkanSlaveWindow_kept (.refl s)
  | .axkanLinkLost => execAxkanLinkLost_kept (.refl s)
  | .fflMark => execFflMark_kept (.refl s)
  | .fflScan => execFflScan_kept (.refl s)
  | .fflDeferredRecord => execFflDeferredRecord_kept (.refl s)
  | .poolEmptyTimeout => execPoolEmptyTimeout_kept (.refl s)
  | .ssPllUnlock => execSsPllUnlock_kept (.refl s)
  | .hs9PllUnlock => execHs9PllUnlock_kept (.refl s)
  | .archiveFrameAccumulate => execArchiveFrameAccumulate_kept (.refl s)
  | .countedSecond => execCountedSecond_kept (.refl s)
  | .historyScan => execHistoryScan_kept (.refl s)
  | .lockstepMismatch => execLockstepMismatch_kept (.refl s)
  | .watchdogPeriodStart => execWatchdogPeriodStart_kept (.refl s)
  | .watchdogOpenWindow => execWatchdogOpenWindow_kept (.refl s)
  | .bootTimerExpired => execBootTimerExpired_kept (.refl s)
  | .sealTimerExpired => execSealTimerExpired_kept (.refl s)
  | .safHold => execSafHold_kept (.refl s)
  | .holdTimerExpired => execHoldTimerExpired_kept (.refl s)
  | .collectorHeartbeatMissing => execCollectorHeartbeatMissing_kept (.refl s)
  | .dieTempWarning => execDieTempWarning_kept (.refl s)
  | .coldRestart => execColdRestart_kept (.refl s)
  | .coldRestartStep => execColdRestartStep_kept (.refl s)
  | .safAck => execSafAck_kept (.refl s)
  | .safXchkRead => execSafXchkRead_kept (.refl s)
  | .faultRecordPost => execFaultRecordPost_kept (.refl s)
  | .attest => execAttest_kept (.refl s)
  | .shutdown => execShutdown_kept (.refl s)
  | .start => execStart_kept (.refl s)
  | .restart => execRestart_kept (.refl s)
  | .forceWinter => execForceWinter_kept (.refl s)
  | .portEnable => execPortEnable_kept (.refl s)
  | .handover => execHandover_kept (.refl s)
  | .recStatus => execRecStatus_kept (.refl s)
  | .mbxResponse => execMbxResponse_kept (.refl s)
  | .mbxTake => execMbxTake_kept (.refl s)
  | .evtStatusRead => execEvtStatusRead_kept (.refl s)
  | .port9SinkDetach => execPort9SinkDetach_kept (.refl s)
  | .hubBufRead => execHubBufRead_kept (.refl s)
theorem Kept.loosen {μ : Bool} {s t : State} (h : Kept μ s t) : Kept true s t := ⟨h.pending, h.wf, h.now, h.otp, nofun⟩

theorem step_cons {s : State} {c : Instr} {rest : List Instr} (h : s.pending = c :: rest) :
    step s = exec c { s with pending := rest } := by rw [step, h]

theorem step_nil {s : State} (h : s.pending = []) : step s = .next s.idle := by rw [step, h]

/-- A step completes, and keeps what every command keeps of the state without the front command. -/
theorem step_kept (s : State) : OutKept true { s with pending := s.pending.tail } (step s) := by
  cases h : s.pending with
  | nil =>
    rw [step_nil h]
    exact .next ⟨h, id, Nat.le_add_right _ _, fun _ => BitVec.and_self, nofun⟩
  | cons c rest =>
    rw [step_cons h]
    obtain ⟨t, ht, hkept⟩ := exec_kept c { s with pending := rest }
    exact ⟨t, ht, hkept.loosen⟩

theorem step_next_kept {s t : State} (h : step s = .next t) : Kept true { s with pending := s.pending.tail } t := by
  obtain ⟨t', ht', hkept⟩ := step_kept s
  obtain rfl : t = t' := Host.Outcome.next.inj (h.symm.trans ht')
  exact hkept

/-- Settles O41: both equations of `step`, the queue being a list. -/
theorem stepRunsTheFrontCommand : Obligations.StepRunsTheFrontCommand :=
  ⟨fun _ _ _ h => step_cons h, fun _ h => step_nil h⟩

/-- Settles O43: the canonical form is one of the things that every step keeps, and taking a command from the queue touches no store. -/
theorem everyStepKeepsTheStoresCanonical : Obligations.EveryStepKeepsTheStoresCanonical :=
  fun _ _ hwf h => (step_next_kept h).wf hwf

/-- Settles O44, by induction on the number of steps: each step completes (`step_kept`). -/
theorem noRunStops : Obligations.NoRunStops := by
  intro n
  induction n with
  | zero => exact fun _ => rfl
  | succ n ih =>
    intro s
    obtain ⟨t, ht, -⟩ := step_kept s
    rw [safeRun, ht]
    exact ih t

/-- Settles O45. -/
theorem timeNeverRunsBackAndTheQueueDrains : Obligations.TimeNeverRunsBackAndTheQueueDrains :=
  fun _ _ h => ⟨(step_next_kept h).now, (step_next_kept h).pending⟩

/-- Settles O46: for a command outside the list `exec_kept` says that the memories stand. -/
theorem onlyNamedCommandsWriteMemory : Obligations.OnlyNamedCommandsWriteMemory := by
  intro c s hc
  obtain ⟨t, ht, hkept⟩ := exec_kept c s
  obtain ⟨hflash, hotp, hsram, heng⟩ := hkept.mem hc
  exact ⟨t, ht, hflash, hotp, hsram, heng⟩

/-- Settles O47: the old cell ANDed with the new one is the old one. -/
theorem programmedOtpBitsStayProgrammed : Obligations.ProgrammedOtpBitsStayProgrammed := by
  intro s t w i h hbit
  have hand : s.otpCell w &&& t.otpCell w = s.otpCell w := (step_next_kept h).otp w
  rw [← hand, BitVec.getLsbD_and, Bool.and_eq_true] at hbit
  exact hbit.2

end Sys2Proof.Machine
end

section
/-!
Proofs of the sparse stores: what a read gives after a range is cleared and after bytes are programmed, and that two stores in
canonical form are equal where every address reads the same.
-/
namespace Sys2Proof.Machine

variable {β : Type}

theorem bankClear_cons (x : Nat) (v : β) (m : Bank β) (a n : Nat) :
    bankClear ((x, v) :: m) a n = if a ≤ x ∧ x < a + n then bankClear m a n else (x, v) :: bankClear m a n := by
  by_cases h : a ≤ x ∧ x < a + n <;> simp [bankClear, List.filter_cons, h, -not_and]

theorem bankRead_clear (d : Nat → β) (m : Bank β) (a n i : Nat) :
    bankRead d (bankClear m a n) i = if a ≤ i ∧ i < a + n then d i else bankRead d m i := by
  induction m with
  | nil => exact (ite_self _).symm
  | cons e m ih =>
    obtain ⟨x, v⟩ := e
    rw [bankClear_cons]
    by_cases hx : x = i
    · subst hx
      split
      next hin => rw [ih, if_pos hin]
      next => simp [bankRead]
    · have hcons : bankRead d ((x, v) :: m) i = bankRead d m i := if_neg hx
      split
      · rw [ih, hcons]
      · rw [bankRead, if_neg hx, ih, hcons]

theorem programBytes_cons (m : Bank Byte) (a : Nat) (b : Byte) (bs : List Byte) :
    programBytes m a (b :: bs) = programBytes (bankWrite erased m a (bankRead erased m a &&& b)) (a + 1) bs := rfl

theorem bankRead_programBytes (bs : List Byte) (m : Bank Byte) (a i : Nat) :
    bankRead erased (programBytes m a bs) i =
      if a ≤ i ∧ i < a + bs.length then bankRead erased m i &&& bs.getD (i - a) 0xFF#8 else bankRead erased m i := by
  induction bs generalizing m a with
  | nil =>
    have hout : ¬ (a ≤ i ∧ i < a + ([] : List Byte).length) := fun ⟨hlo, hhi⟩ => Nat.lt_irrefl _ (hlo.trans_lt hhi)
    rw [if_neg hout]
    rfl
  | cons b bs ih =>
    rw [programBytes_cons, ih, List.length_cons]
    by_cases hi : i = a
    · subst hi
      simp
    · have hread : bankRead erased (bankWrite erased m a (bankRead erased m a &&& b)) i = bankRead erased m i :=
        bankRead_write_other _ _ _ _ _ hi
      by_cases hin : a + 1 ≤ i ∧ i < a + 1 + bs.length
      · have hget : (b :: bs).getD (i - a) 0xFF#8 = bs.getD (i - (a + 1)) 0xFF#8 := by
          rw [show i - a = i - (a + 1) + 1 by omega, List.getD_cons_succ]
        rw [if_pos hin, if_pos (by omega), hread, hget]
      · rw [if_neg hin, if_neg (by omega), hread]

/-- Settles O48: programming by induction on the bytes, erasing as the clearing of a range. -/
theorem flashProgramsOnlyClearBits : Obligations.FlashProgramsOnlyClearBits :=
  ⟨fun s a bs i => bankRead_programBytes bs s.flash a i, fun s a n i => bankRead_clear erased s.flash a n i⟩

/-- What lies below every listed address reads as unlisted. -/
theorem bankRead_of_bankAbove (d : Nat → β) {m : Bank β} {lo i : Nat} (h : bankAbove lo m = true) (hi : i ≤ lo) : bankRead d m i = d i := by
  induction m with
  | nil => rfl
  | cons e m ih =>
    obtain ⟨hlt, hm⟩ : lo < e.1 ∧ bankAbove lo m = true := by simpa [bankAbove] using h
    rw [bankRead, if_neg (by omega), ih hm]

theorem bankWf_cons [DecidableEq β] {d : Nat → β} {x : Nat} {v : β} {m : Bank β} :
    bankWf d ((x, v) :: m) = true ↔ v ≠ d x ∧ bankAbove x m = true ∧ bankWf d m = true := by
  simp [bankWf, and_assoc]

/-- An address below the first listed one, or the first one itself, tells two stores apart. -/
theorem bank_eq_of_reads [DecidableEq β] {d : Nat → β} {m m' : Bank β} (h : bankWf d m = true) (h' : bankWf d m' = true)
    (hread : ∀ a, bankRead d m a = bankRead d m' a) : m = m' := by
  induction m generalizing m' with
  | nil =>
    cases m' with
    | nil => rfl
    | cons e' m' =>
      obtain ⟨hv', -, -⟩ := bankWf_cons.mp h'
      exact absurd ((hread e'.1).symm.trans rfl) (by simpa [bankRead] using hv')
  | cons e m ih =>
    obtain ⟨x, v⟩ := e
    obtain ⟨hv, habove, hm⟩ := bankWf_cons.mp h
    cases m' with
    | nil => exact absurd (hread x) (by simpa [bankRead] using hv)
    | cons e' m' =>
      obtain ⟨x', v'⟩ := e'
      obtain ⟨hv', habove', hm'⟩ := bankWf_cons.mp h'
      have hx : x = x' := by
        rcases Nat.lt_trichotomy x x' with hlt | heq | hgt
        · have := hread x
          rw [bankRead, if_pos rfl, bankRead, if_neg (by omega), bankRead_of_bankAbove d habove' (by omega)] at this
          exact absurd this hv
        · exact heq
        · have := hread x'
          rw [bankRead, if_neg (by omega), bankRead_of_bankAbove d habove (by omega), bankRead, if_pos rfl] at this
          exact absurd this.symm hv'
      subst hx
      have hvv : v = v' := by simpa [bankRead] using hread x
      have hrest : ∀ a, bankRead d m a = bankRead d m' a := by
        intro a
        by_cases ha : x = a
        · subst ha
          rw [bankRead_of_bankAbove d habove (le_refl _), bankRead_of_bankAbove d habove' (le_refl _)]
        · simpa [bankRead, ha] using hread a
      rw [hvv, ih hm hm' hrest]

theorem State.wf_iff (s : State) : s.wf = true ↔ bankWf regReset s.regs = true ∧ bankWf erased s.flash = true ∧
    bankWf zeroWord s.otp = true ∧ bankWf sramZero s.sram = true ∧ bankWf zeroWord s.engMem = true := by
  simp [State.wf, and_assoc]

/-- Settles O49: each of the five stores is determined by what it reads as (`bank_eq_of_reads`). -/
theorem canonicalStoresWithEqualReadsAreEqual : Obligations.CanonicalStoresWithEqualReadsAreEqual := by
  intro s t hs ht hregs hflash hotp hsram heng
  obtain ⟨hs1, hs2, hs3, hs4, hs5⟩ := s.wf_iff.mp hs
  obtain ⟨ht1, ht2, ht3, ht4, ht5⟩ := t.wf_iff.mp ht
  exact ⟨bank_eq_of_reads hs1 ht1 hregs, bank_eq_of_reads hs2 ht2 hflash, bank_eq_of_reads hs3 ht3 hotp,
    bank_eq_of_reads hs4 ht4 hsram, bank_eq_of_reads hs5 ht5 heng⟩

end Sys2Proof.Machine
end

section
/-!
Proofs of the commands that are nothing but a timer's end: where the timer does not run, none of them acts.
-/
namespace Sys2Proof.Machine

variable {s : State} {x : TimerId}

theorem onElapse_of_not_armed (h : s.armed x = false) (act : State → State) : s.onElapse x act = s :=
  onElapse_none s x act (by simpa [State.armed] using h)

theorem next_onElapse_of_not_armed (h : s.armed x = false) (act : State → State) :
    (.next (s.onElapse x act) : Out) = .next s := by rw [onElapse_of_not_armed h]

/-- A timer's end with a condition of its own: neither way is there anything to do. -/
theorem next_guarded_of_not_armed (h : s.armed x = false) (c : Prop) [Decidable c] (act : State → State) :
    (.next (if c then s.onElapse x act else s) : Out) = .next s := by rw [onElapse_of_not_armed h, ite_self]

theorem next_barred_of_not_armed (h : s.armed x = false) (c : Prop) [Decidable c] (act : State → State) :
    (.next (if c then s else s.onElapse x act) : Out) = .next s := by rw [onElapse_of_not_armed h, ite_self]

/-- Settles O54: each command of `timerOf` is `onElapse` of its timer, some of them under a condition. -/
theorem stoppedTimersElapseIntoNothing : Obligations.StoppedTimersElapseIntoNothing := by
  intro c x s hx h
  cases c <;> cases hx
  case springLimitExpired => exact (apply_ite _ _ _ _).symm.trans (next_guarded_of_not_armed h _ _)
  case lifeRecordRetry | powerupStepDelayElapsed | powerdownStepDelayElapsed | railEnable | railRelease =>
    exact next_guarded_of_not_armed h _ _
  case attachDebounceElapsed | drSwapRetry | cableDiscovery => exact next_barred_of_not_armed h _ _
  all_goals exact next_onElapse_of_not_armed h _

end Sys2Proof.Machine
end

section
/-!
Proofs of the arrival of a partner's message (R218, R187): each message command is `State.receive`, which hears, queues or loses it.
-/
namespace Sys2Proof.Machine

/-- A message command is the arrival of itself at its port, whatever its engine then does with it. -/
theorem exec_message {c : Instr} {k : PortId} {id : BitVec 3} (s : State) (h : messageOn c = some (k, id)) :
    ∃ act, exec c s = .next (s.receive k c id.toNat act) := by
  cases c
  case frenerIdent resp =>
    cases resp <;> cases h
    exact ⟨_, rfl⟩
  case vconnSwapReject p _ =>
    have hmodule : p.isModule = true := by
      by_contra hp
      simp [messageOn, hp] at h
    obtain ⟨rfl, rfl⟩ : p = k ∧ _ = id := by simpa [messageOn, hmodule] using h
    exact ⟨_, congrArg Host.Outcome.next (if_pos hmodule)⟩
  all_goals cases h
  all_goals exact ⟨_, rfl⟩

section
variable {s : State} {k : PortId} {c : Instr} {id : Nat} (act : State → State)

theorem receive_unheard (h : s.pdReceives k = false) : s.receive k c id act = s := by
  rw [State.receive, if_neg (by rw [h]; exact Bool.false_ne_true)]

theorem receive_repeated (h : s.pdReceives k = true) (hid : (s.port k).pd.lastRx c = some id) :
    s.receive k c id act = s.modPd k fun p => { p with acked := some id } := by
  rw [State.receive, if_pos h, if_pos hid]

theorem receive_heard (h : s.pdReceives k = true) (hid : (s.port k).pd.lastRx c ≠ some id) (hrun : s.policyRuns k = true) :
    s.receive k c id act = act (s.modPd k fun p => p.noteRx c id) := by
  rw [State.receive, if_pos h, if_neg hid, if_pos hrun]

theorem receive_waiting (h : s.pdReceives k = true) (hid : (s.port k).pd.lastRx c ≠ some id) (hrun : s.policyRuns k = false) :
    s.receive k c id act = if (s.port k).pd.rxq.length < 4 then s.modPd k fun p => { p.noteRx c id with rxq := p.rxq ++ [c] }
      else (s.flag (G.PD_Q_FULL k)).warn (portFault k 0 0x17) := by
  rw [State.receive, if_pos h, if_neg hid, if_neg (by rw [hrun]; exact Bool.false_ne_true)]
  rfl

end

/-- Settles O55: the command is the arrival of its message (`exec_message`), whose four ways follow. -/
theorem messagesAreHeardQueuedOrLost : Obligations.MessagesAreHeardQueuedOrLost := by
  intro c k id s h
  obtain ⟨act, hact⟩ := exec_message s h
  refine ⟨fun hoff => ?_, fun hon hid => ?_, fun hon hid hrun hroom => ?_, fun hon hid hrun hfull => ?_⟩
  · rw [hact, receive_unheard act hoff]
  · rw [hact, receive_repeated act hon hid]
  · rw [hact, receive_waiting act hon hid hrun, if_pos hroom]
  · rw [hact, receive_waiting act hon hid hrun, if_neg (Nat.not_lt.mpr hfull)]

end Sys2Proof.Machine
end

section
/-!
Proofs of the event ring (R552, R554, R555): a posted event with room in the ring.
-/
namespace Sys2Proof.Machine

theorem SameWords.trans {l : List Nat} {s t u : State} (h : SameWords l s t) (h' : SameWords l t u) : SameWords l s u :=
  fun a ha => (h' a ha).trans (h a ha)

theorem SameWords.mono {l l' : List Nat} {s t : State} (h : SameWords l s t) (hl : l ⊆ l') : SameWords l' s t :=
  fun a ha => h a fun hmem => ha (hl hmem)

theorem set_sameWords (s : State) (f : Fld) (v : Nat) : SameWords [f.reg] s (s.set f v) :=
  fun a ha => word_set_other s f v a (by simpa using ha)

/-- The event that is posted now (R552). -/
def State.eventNow (s : State) (source code : Nat) : Event :=
  { dseq := s.get F.SYS_SEQ_NEXT_DSEQ_NEXT_DSEQ, flags := s.get F.SYS_STATE_STATE, source := source, code := code, tb := s.tb }

/-- The newest 256 records of a ring. -/
def newest256 (ring : List Event) : List Event := ring.drop (ring.length - 256)

/-- The state with the newest 256 records of a ring. -/
def State.withRing (s : State) (ring : List Event) : State := { s with hif := { s.hif with ring := newest256 ring } }

/-- The ring with one more record, the newest last, with its number taken and EVT_WR moved on (R552, R554). -/
def State.appendEvent (s : State) (e : Event) : State :=
  (s.takeDseq.2.withRing (s.takeDseq.2.hif.ring ++ [e])).set F.EVT_WR_WR
    (((s.takeDseq.2.withRing (s.takeDseq.2.hif.ring ++ [e])).get F.EVT_WR_WR + 1) % 2 ^ 32)

section
variable (s : State) (e : Event) (ring : List Event)

theorem withRing_ring : (s.withRing ring).hif.ring = newest256 ring := by rw [State.withRing]

theorem withRing_regs : (s.withRing ring).regs = s.regs := by rw [State.withRing]

theorem withRing_word (a : Nat) : (s.withRing ring).word a = s.word a := by rw [State.word, withRing_regs, State.word]

theorem withRing_get (f : Fld) : (s.withRing ring).get f = s.get f := by rw [State.get, withRing_word, State.get]

theorem takeDseq_ring : s.takeDseq.2.hif.ring = s.hif.ring := rfl

theorem takeDseq_get_self : s.takeDseq.2.get F.SYS_SEQ_NEXT_DSEQ_NEXT_DSEQ =
    (s.get F.SYS_SEQ_NEXT_DSEQ_NEXT_DSEQ / 2 ^ 24 * 2 ^ 24 + (s.get F.SYS_SEQ_NEXT_DSEQ_NEXT_DSEQ + 1) % 2 ^ 24) % 2 ^ 32 :=
  get_set_self s _ _ (by decide)

theorem takeDseq_sameWords : SameWords [R.SYS_SEQ_NEXT_DSEQ] s s.takeDseq.2 := set_sameWords s F.SYS_SEQ_NEXT_DSEQ_NEXT_DSEQ _

theorem appendEvent_ring : (s.appendEvent e).hif.ring = newest256 (s.hif.ring ++ [e]) := by
  rw [State.appendEvent, set_hif, withRing_ring, takeDseq_ring]

theorem appendEvent_wr : (s.appendEvent e).get F.EVT_WR_WR = (s.get F.EVT_WR_WR + 1) % 2 ^ 32 := by
  rw [State.appendEvent, get_set_self _ _ _ (by decide), withRing_get, (takeDseq_sameWords s).get (by decide)]
  exact Nat.mod_mod _ _

theorem appendEvent_nextDseq : (s.appendEvent e).get F.SYS_SEQ_NEXT_DSEQ_NEXT_DSEQ =
    (s.get F.SYS_SEQ_NEXT_DSEQ_NEXT_DSEQ / 2 ^ 24 * 2 ^ 24 + (s.get F.SYS_SEQ_NEXT_DSEQ_NEXT_DSEQ + 1) % 2 ^ 24) % 2 ^ 32 := by
  rw [State.appendEvent, get_set_apart _ _ _ _ (by decide) (by decide), withRing_get, takeDseq_get_self]

theorem appendEvent_sameWords : SameWords [R.EVT_WR, R.SYS_SEQ_NEXT_DSEQ] s (s.appendEvent e) := by
  intro a ha
  obtain ⟨hwr, hseq⟩ : a ≠ R.EVT_WR ∧ a ≠ R.SYS_SEQ_NEXT_DSEQ := by simpa using ha
  rw [State.appendEvent, word_set_other _ F.EVT_WR_WR _ _ hwr, withRing_word, takeDseq_sameWords s a (by simpa using hseq)]

theorem appendEvent_unread (h : s.unread < 256) : (s.appendEvent e).unread = s.unread + 1 := by
  have hrd : (s.appendEvent e).get F.EVT_RD_RD = s.get F.EVT_RD_RD := (appendEvent_sameWords s e).get (by decide)
  have hlt : s.get F.EVT_RD_RD < 2 ^ 32 := get_lt s F.EVT_RD_RD
  have hlt' : s.get F.EVT_WR_WR < 2 ^ 32 := get_lt s F.EVT_WR_WR
  rw [State.unread] at h ⊢
  rw [hrd, appendEvent_wr, State.unread]
  omega

end

theorem loseForFn_hif (s : State) (f : Fin 2) : (s.loseForFn f).hif = s.hif := by
  unfold State.loseForFn
  extract_lets
  split <;> rfl

theorem loseForFn_sameWords (s : State) (f : Fin 2) : SameWords [R.MGT_STATUS f.val] s (s.loseForFn f) := by
  unfold State.loseForFn
  extract_lets
  split
  · exact fun _ _ => rfl
  · exact set_sameWords _ (F.MGT_STATUS_LOST f.val) _

/-- With room in the ring no record is lost, but for the counts of the management functions. -/
theorem post_with_room {s : State} (source code : Nat) (hs : s.ringServed = true) (hu : s.unread < 256) :
    s.post source code = ((s.appendEvent (s.eventNow source code)).loseForFn 0).loseForFn 1 := by
  have hroom : ∀ e, Nat.blt 256 (s.appendEvent e).unread = false := by
    intro e
    rw [appendEvent_unread s e hu, ← Bool.not_eq_true, Nat.blt_eq]
    omega
  rw [State.post, State.postEvent, if_pos hs]
  extract_lets e _ ring _ ringed t posted
  have hringed : ringed = s.takeDseq.2.withRing ring := by
    unfold State.withRing newest256
    rfl
  have ht : t = s.appendEvent e := by rw [State.appendEvent, ← hringed]
  have hposted : posted = s.appendEvent e := by rw [← ht, show posted = t from if_neg (by rw [ht, hroom]; exact Bool.false_ne_true)]
  exact congrArg (fun u : State => (u.loseForFn 0).loseForFn 1) hposted

theorem post_unserved {s : State} (source code : Nat) (hs : s.ringServed = false) : s.post source code = s := by
  rw [State.post, State.postEvent, if_neg (by rw [hs]; exact Bool.false_ne_true)]

/-- Settles O56: the ring takes the event (`appendEvent`), and the counts of lost records of the two functions touch only their status. -/
theorem eventsTakeRisingNumbers : Obligations.EventsTakeRisingNumbers := by
  refine ⟨fun s source code hs hu => ?_, fun s source code hs => post_unserved source code hs⟩
  rw [post_with_room source code hs hu]
  let e := s.eventNow source code
  let t := s.appendEvent e
  have hring : ((t.loseForFn 0).loseForFn 1).hif.ring = newest256 (s.hif.ring ++ [e]) := by
    rw [loseForFn_hif, loseForFn_hif, appendEvent_ring]
  have hlost : SameWords [R.MGT_STATUS 0, R.MGT_STATUS 1] t ((t.loseForFn 0).loseForFn 1) :=
    ((loseForFn_sameWords t 0).mono (by simp)).trans ((loseForFn_sameWords _ 1).mono (by simp))
  have hnext := (hlost.get (f := F.SYS_SEQ_NEXT_DSEQ_NEXT_DSEQ) (by decide)).trans (appendEvent_nextDseq s e)
  have hdseq : s.get F.SYS_SEQ_NEXT_DSEQ_NEXT_DSEQ < 2 ^ 32 := get_lt s F.SYS_SEQ_NEXT_DSEQ_NEXT_DSEQ
  refine ⟨?_, (hlost.get (by decide)).trans (appendEvent_wr s e), ?_, ?_, fun hlen => ?_,
    ((appendEvent_sameWords s e).mono (by simp)).trans (hlost.mono (by simp))⟩
  · have hkeep : ¬ (s.hif.ring ++ [e]).length ≤ (s.hif.ring ++ [e]).length - 256 := by simp
    rw [hring, newest256, List.getLast?_drop, if_neg hkeep, List.getLast?_concat]
    rfl
  · rw [hnext]
    omega
  · rw [hnext]
    omega
  · rw [hring, newest256, List.length_drop, List.length_append]
    simp only [List.length_singleton]
    omega

end Sys2Proof.Machine
end

section
/-!
Proofs of a committed write (R539, R609): the words that act beyond their fields have writable fields, and a word without any keeps
every register word.
-/
namespace Sys2Proof.Machine

/-- The words of a CRC unit whose write acts beyond their fields. -/
def crcEffectWords (u : Nat) : List Nat := [R.CRC_CFG u, R.CRC_FEED u, R.CRC_BLKA u, R.CRC_BLKL u, R.CRC_CTX u]

/-- A word that has RW or WO fields, or is reserved. -/
def takesWrites (a : Nat) : Bool := (regFam? a).all fun f => decide (f.rw ≠ 0#32 ∨ f.wo ≠ 0#32)

theorem effectWord_takesWrites : ∀ a ∈ effectWords, takesWrites a = true := by decide +kernel
theorem cmpCfg_takesWrites : ∀ i < 192, takesWrites (R.CMP_CFG 0 + i) = true := by decide +kernel
theorem tlmStr_takesWrites : ∀ i < 32, takesWrites (R.TLM_STR 0 + i) = true := by decide +kernel
theorem crcEffectWord_takesWrites : ∀ u : Fin 4, ∀ a ∈ crcEffectWords u.val, takesWrites a = true := by decide +kernel

theorem takesWrites_of_inRange {lo n : Nat} (h : ∀ i < n, takesWrites (lo + i) = true) {a : Nat} (ha : lo ≤ a ∧ a < lo + n) :
    takesWrites a = true := by
  rw [← Nat.add_sub_cancel' ha.1]
  exact h _ (by omega)

theorem writeCrc_eq_none_of_not_mem (s : State) {a : Nat} (w : Word) (h : ∀ u : Fin 4, a ∉ crcEffectWords u.val) :
    s.writeCrc a w = none := by
  have h := h ⟨a % 128 / 32 % 4, by omega⟩
  simp only [crcEffectWords, List.mem_cons, List.not_mem_nil, or_false, not_or] at h
  obtain ⟨hcfg, hfeed, hblka, hblkl, hctx⟩ := h
  rw [State.writeCrc, if_neg hcfg, if_neg hfeed, if_neg hblka, if_neg hblkl, if_neg hctx, ite_self]

/-- A word with neither RW nor WO fields has no effect of its own. -/
theorem writeSpecial_eq_none_of_not_takesWrites (s : State) {a : Nat} (w : Word) (h : takesWrites a = false) :
    s.writeSpecial a w = none := by
  have hnot {p : Prop} (hp : p → takesWrites a = true) : ¬ p := fun hx => by simp [hp hx] at h
  have heffect : a ∉ effectWords := hnot (effectWord_takesWrites a)
  have hcmp : ¬ (R.CMP_CFG 0 ≤ a ∧ a < R.CMP_CFG 48) := hnot fun ha => takesWrites_of_inRange cmpCfg_takesWrites ha
  have hstr : ¬ (R.TLM_STR 0 ≤ a ∧ a < R.TLM_STR 8) := hnot fun ha => takesWrites_of_inRange tlmStr_takesWrites ha
  have hcrc : s.writeCrc a w = none := writeCrc_eq_none_of_not_mem s w fun u => hnot (crcEffectWord_takesWrites u a)
  simp only [effectWords, List.mem_append, not_or] at heffect
  obtain ⟨⟨hown, htmr⟩, hdata⟩ := heffect
  obtain ⟨hevt, hmbx, hflt⟩ : a ≠ R.EVT_RD ∧ a ≠ R.MBX_CTRL ∧ a ≠ R.FLT_INJ := by simpa using hown
  rw [State.writeSpecial, if_neg hevt, if_neg hmbx, if_neg hflt, dif_neg hcmp, hcrc, writeTmr_eq_none s w htmr,
    writeData_eq_none s w hdata hstr, ite_self, ite_self, ite_self]

section
variable (s : State) {a : Nat} (w : Word)

theorem commitWord_island (h : a / 256 = 6) : s.commitWord a w = s := by simp [State.commitWord, h]

theorem commitWord_reserved (h : regFam? a = none) : s.commitWord a w = s := by
  rw [State.commitWord, h]
  exact ite_self s

/-- A committed write counts as refused where the word holds RWS fields, then acts or takes its writable fields. -/
theorem commitWord_eq {f : RegFam} (hf : regFam? a = some f) (hpage : s.pageOff (a / 256) = false) (h6 : a / 256 ≠ 6) :
    s.commitWord a w =
      let t := s.when (f.rws != 0#32) fun t => t.bump F.PROT_STATUS_WR_REFUSED 1
      (t.writeSpecial a w).getD (t.setWord a ((t.word a &&& ~~~ f.rw &&& ~~~ (f.w1c &&& w)) ||| (w &&& f.rw))) := by
  rw [State.commitWord, if_neg (by simp [hpage, h6]), hf]
  dsimp only
  split
  next h => rw [h, Option.getD_some]
  next h => rw [h, Option.getD_none]

theorem commitWord_without_effect {f : RegFam} (hf : regFam? a = some f) (hpage : s.pageOff (a / 256) = false) (h6 : a / 256 ≠ 6)
    (hrws : f.rws = 0#32) (hsp : s.writeSpecial a w = none) :
    s.commitWord a w = s.setWord a ((s.word a &&& ~~~ f.rw &&& ~~~ (f.w1c &&& w)) ||| (w &&& f.rw)) := by
  have hwhen : (s.when (f.rws != 0#32) fun t => t.bump F.PROT_STATUS_WR_REFUSED 1) = s := by rw [hrws]; rfl
  simp only [commitWord_eq s w hf hpage h6, hwhen, hsp, Option.getD_none]

theorem setWord_same_word (b : Nat) : (s.setWord a (s.word a)).word b = s.word b := by
  by_cases h : b = a
  · rw [h, word_setWord_self]
  · exact word_setWord_other s a b _ h

/-- A word without writable fields reads as before, and so does every other word but the count of refused writes. -/
theorem commitWord_word_of_readOnly {f : RegFam} (hf : regFam? a = some f) (hpage : s.pageOff (a / 256) = false) (h6 : a / 256 ≠ 6)
    (hrw : f.rw = 0#32) (hw1c : f.w1c = 0#32) (hwo : f.wo = 0#32) (b : Nat) :
    (s.commitWord a w).word b = (s.when (f.rws != 0#32) fun t => t.bump F.PROT_STATUS_WR_REFUSED 1).word b := by
  have hsp : ∀ t : State, t.writeSpecial a w = none := fun t =>
    writeSpecial_eq_none_of_not_takesWrites t w (by simp [takesWrites, hf, hrw, hwo])
  rw [commitWord_eq s w hf hpage h6]
  simp only [hsp, Option.getD_none, hrw, hw1c, BitVec.zero_and, BitVec.and_zero, BitVec.or_zero, BitVec.not_zero, BitVec.and_allOnes]
  exact setWord_same_word _ b

end

/-- Settles O57: `commitWord_eq`, case by case of the word's fields. -/
theorem committedWordsChangeOnlyWritableFields : Obligations.CommittedWordsChangeOnlyWritableFields := by
  refine ⟨fun s a w h => commitWord_island s w h, fun s a w h => commitWord_reserved s w h,
    fun s a w f hf hpage h6 hrw hw1c hwo => ?_, fun s a w f hf hpage h6 hrws hsp => ?_⟩
  · have hword := commitWord_word_of_readOnly s w hf hpage h6 hrw hw1c hwo
    have hget (g : Fld) : (s.commitWord a w).get g = _ := congrArg g.extract (hword g.reg)
    by_cases hrws : f.rws = 0#32
    · have hwhen : (s.when (f.rws != 0#32) fun t => t.bump F.PROT_STATUS_WR_REFUSED 1) = s := by rw [hrws]; rfl
      rw [if_pos hrws, hget, hwhen]
      exact ⟨rfl, fun b _ => by rw [hword, hwhen]⟩
    · have hwhen : (s.when (f.rws != 0#32) fun t => t.bump F.PROT_STATUS_WR_REFUSED 1) = s.bump F.PROT_STATUS_WR_REFUSED 1 :=
        if_pos (by simpa using hrws)
      rw [if_neg hrws, hget, hwhen]
      exact ⟨get_bump_self s F.PROT_STATUS_WR_REFUSED 1 (by decide), fun b hb => by rw [hword, hwhen]; exact set_sameWords s F.PROT_STATUS_WR_REFUSED _ b hb⟩
  · rw [commitWord_without_effect s w hf hpage h6 hrws hsp]
    exact ⟨word_setWord_self s a _, fun b hb => word_setWord_other s a b _ (by simpa using hb)⟩

end Sys2Proof.Machine
end

section
/-!
Proofs of an internal restart (R618, R553): the retained words, SYS_STATE and the count of Deep Winter.
-/
namespace Sys2Proof.Machine

theorem forAll_setWord_word_of_mem (l : List Nat) (v : Nat → Word) (s : State) {a : Nat} (ha : a ∈ l) :
    (forAll l (fun b t => t.setWord b (v b)) s).word a = v a := by
  induction l generalizing s with
  | nil => cases ha
  | cons b l ih =>
    by_cases hl : a ∈ l
    · exact ih (s.setWord b (v b)) hl
    · obtain rfl : a = b := (List.mem_cons.mp ha).resolve_right hl
      exact (forAll_setWord_word l v _ hl).trans (word_setWord_self s a (v a))

/-- What an act leaves, its being done under a condition leaves. -/
theorem when_invariant {β : Type} {g : State → β} {act : State → State} (h : ∀ t, g (act t) = g t) (s : State) (c : Bool) :
    g (s.when c act) = g s := by
  cases c
  · rfl
  · exact h s

theorem restartAll_word_retained (s : State) {a : Nat} (ha : a ∈ retainedWords) : s.restartAll.word a = s.word a := by
  have hsaf : a ≠ R.SAF_STATUS := by
    rintro rfl
    exact absurd ha (by decide)
  unfold State.restartAll
  refine (when_invariant (g := (State.word · a)) (fun _ => by rfl) _ _).trans ?_
  exact (word_set_other _ _ _ _ hsaf).trans (forAll_setWord_word_of_mem retainedWords s.word _ ha)

theorem restartAll_dwCount (s : State) : s.restartAll.get F.SAF_STATUS_DW_COUNT = s.get F.SAF_STATUS_DW_COUNT := by
  have hlt : s.get F.SAF_STATUS_DW_COUNT < 2 ^ F.SAF_STATUS_DW_COUNT.width := get_lt s _
  unfold State.restartAll
  refine (when_invariant (g := (State.get · F.SAF_STATUS_DW_COUNT)) (fun _ => by rfl) _ _).trans ?_
  exact (get_set_self _ F.SAF_STATUS_DW_COUNT _ (by decide)).trans (Nat.mod_eq_of_lt hlt)

theorem restartAll_flash (s : State) : s.restartAll.flash = s.flash :=
  when_invariant (g := State.flash) (fun _ => by rfl) _ _
theorem restartAll_otp (s : State) : s.restartAll.otp = s.otp :=
  when_invariant (g := State.otp) (fun _ => by rfl) _ _
theorem restartAll_pending (s : State) : s.restartAll.pending = s.pending :=
  when_invariant (g := State.pending) (fun _ => by rfl) _ _

theorem endEpoch_sameWords (s : State) : SameWords [R.SYS_SEQ_PREV_HSEQ, R.SYS_SEQ_PREV_DSEQ] s s.endEpoch :=
  ((set_sameWords s F.SYS_SEQ_PREV_HSEQ_PREV_HSEQ _).mono (by simp [F.SYS_SEQ_PREV_HSEQ_PREV_HSEQ])).trans
    ((set_sameWords _ F.SYS_SEQ_PREV_DSEQ_PREV_DSEQ _).mono (by simp [F.SYS_SEQ_PREV_DSEQ_PREV_DSEQ]))

theorem endEpoch_prevHseq (s : State) :
    s.endEpoch.get F.SYS_SEQ_PREV_HSEQ_PREV_HSEQ = s.get F.SYS_SEQ_LAST_HSEQ_LAST_HSEQ := by
  rw [State.endEpoch, get_set_apart _ _ _ _ (by decide) (by decide), get_set_self _ _ _ (by decide)]
  exact Nat.mod_eq_of_lt (get_lt s F.SYS_SEQ_LAST_HSEQ_LAST_HSEQ)

theorem endEpoch_prevDseq (s : State) : s.endEpoch.get F.SYS_SEQ_PREV_DSEQ_PREV_DSEQ = s.hif.lastDseq % 2 ^ 32 :=
  get_set_self _ _ _ (by decide)

/-- SYS_STATE as an internal restart writes it. -/
theorem internalRestart_sysState (s : State) {n : Nat} (hn : n < 16) :
    (s.internalRestart n).get F.SYS_STATE_STATE = 0 ∧
    (s.internalRestart n).get F.SYS_STATE_PREV = s.get F.SYS_STATE_STATE ∧
    (s.internalRestart n).get F.SYS_STATE_ENTRY = n ∧
    (s.internalRestart n).get F.SYS_STATE_WRST_CNT = s.get F.SYS_STATE_WRST_CNT ∧
    (s.internalRestart n).get F.SYS_STATE_DW_RESTARTED = s.get F.SYS_STATE_DW_RESTARTED := by
  have hzero : s.endEpoch.restartAll.get F.SYS_STATE_STATE = 0 := by
    rw [State.get, restartAll_word _ (by decide) (by decide)]
    decide
  unfold State.internalRestart
  dsimp only
  refine ⟨?_, ?_, ?_, ?_, ?_⟩
  · rw [get_set_apart _ _ _ _ (by decide) (by decide), get_set_apart _ _ _ _ (by decide) (by decide),
      get_set_apart _ _ _ _ (by decide) (by decide), get_set_apart _ _ _ _ (by decide) (by decide), hzero]
  · rw [get_set_apart _ _ _ _ (by decide) (by decide), get_set_apart _ _ _ _ (by decide) (by decide),
      get_set_apart _ _ _ _ (by decide) (by decide), get_set_self _ _ _ (by decide)]
    exact Nat.mod_eq_of_lt (get_lt s F.SYS_STATE_STATE)
  · rw [get_set_apart _ _ _ _ (by decide) (by decide), get_set_apart _ _ _ _ (by decide) (by decide),
      get_set_self _ _ _ (by decide), Nat.mod_eq_of_lt (hn.trans_le (by decide))]
  · rw [get_set_apart _ _ _ _ (by decide) (by decide), get_set_self _ _ _ (by decide)]
    exact Nat.mod_eq_of_lt (get_lt s F.SYS_STATE_WRST_CNT)
  · rw [get_set_self _ _ _ (by decide)]
    exact Nat.mod_eq_of_lt (get_lt s F.SYS_STATE_DW_RESTARTED)

/-- Outside SYS_STATE an internal restart is the end of the epoch and a restart. -/
theorem internalRestart_word_eq (s : State) (n : Nat) {a : Nat} (ha : a ≠ R.SYS_STATE) :
    (s.internalRestart n).word a = s.endEpoch.restartAll.word a := by
  unfold State.internalRestart
  rw [word_set_other _ _ _ _ ha, word_set_other _ _ _ _ ha, word_set_other _ _ _ _ ha, word_set_other _ _ _ _ ha]

theorem internalRestart_get_eq (s : State) (n : Nat) {f : Fld} (hf : f.reg ≠ R.SYS_STATE) :
    (s.internalRestart n).get f = s.endEpoch.restartAll.get f := by
  rw [State.get, internalRestart_word_eq s n hf, State.get]

theorem internalRestart_retained (s : State) (n : Nat) {f : Fld} (hf : f.reg ≠ R.SYS_STATE) (hr : f.reg ∈ retainedWords) :
    (s.internalRestart n).get f = s.endEpoch.get f := by
  rw [internalRestart_get_eq s n hf, State.get, restartAll_word_retained _ hr, State.get]

/-- Settles O58: outside SYS_STATE an internal restart is `restartAll` after the end of the epoch; SYS_STATE is written last. -/
theorem restartsKeepOnlyRetainedWords : Obligations.RestartsKeepOnlyRetainedWords := by
  intro s n hn
  obtain ⟨hstate, hprev, hentry, hcnt, hdw⟩ := internalRestart_sysState s hn
  refine ⟨fun a hr hsys hsaf => internalRestart_word s n (by simp [restartRegs, hr, hsys, hsaf]), fun a ha => ?_, ?_, ?_,
    hstate, hprev, hentry, hcnt, hdw, ?_, ?_, ?_, ?_⟩
  · obtain ⟨hr, hsys, hepoch⟩ : a ∈ retainedWords ∧ a ≠ R.SYS_STATE ∧ a ∉ [R.SYS_SEQ_PREV_HSEQ, R.SYS_SEQ_PREV_DSEQ] := by
      revert a
      decide
    rw [internalRestart_word_eq s n hsys, restartAll_word_retained _ hr, endEpoch_sameWords s a hepoch]
  · rw [internalRestart_retained s n (by decide) (by decide), endEpoch_prevHseq]
  · rw [internalRestart_retained s n (by decide) (by decide), endEpoch_prevDseq]
  · rw [internalRestart_get_eq s n (by decide), restartAll_dwCount]
    exact (endEpoch_sameWords s).get (by decide)
  · exact restartAll_flash _
  · exact restartAll_otp _
  · exact restartAll_pending _

end Sys2Proof.Machine
end

section
/-!
Frames of the register bank: which words an act that many commands share may write. `Within P s t` says that `t` reads as `s` in every
word outside `P`; each act is given the region of its own page, and leaves all others.
-/
namespace Sys2Proof.Machine

/-- `t` reads as `s` in every register word outside `P`. -/
def Within (P : Nat → Prop) (s t : State) : Prop := ∀ a, ¬ P a → t.word a = s.word a

/-- The words of port k (pages 0x10 to 0x21). -/
def portWord (k : PortId) (a : Nat) : Prop := a / 0x200 = 8 + k.val
/-- The words of the rails and of the sequencer (pages 0x30 to 0x34). -/
abbrev railWord (a : Nat) : Prop := 0x3000 ≤ a ∧ a < 0x3500
/-- The words of the hub (page 0x3C). -/
abbrev hubWord (a : Nat) : Prop := a / 256 = 0x3C

theorem portWord_add {k : PortId} {c : Nat} (hc : c / 0x200 = 8) : portWord k (c + 0x200 * k.val) := by
  unfold portWord
  omega

theorem railWord_add {j : RailId} {c : Nat} (hc : 0x3000 ≤ c ∧ c < 0x3040) :
    railWord (c + 0x100 * (j.val / 4) + 0x3C * (j.val % 4)) := by
  have := j.isLt
  unfold railWord
  omega

section
variable {P : Nat → Prop} {s₀ s t : State}

theorem Within.refl (s : State) : Within P s s := fun _ _ => rfl
theorem Within.trans (h : Within P s₀ s) (k : Within P s t) : Within P s₀ t := fun a ha => (k a ha).trans (h a ha)
theorem Within.sameWords {l : List Nat} (h : Within (· ∈ l) s t) : SameWords l s t := h
theorem SameWords.within {l : List Nat} (h : SameWords l s t) (hl : ∀ a ∈ l, P a) : Within P s t := fun a ha => h a fun hm => ha (hl a hm)
theorem Within.mono {Q : Nat → Prop} (h : Within Q s t) (hq : ∀ a, Q a → P a) : Within P s t := fun a ha => h a fun hQ => ha (hq a hQ)
theorem Within.get (h : Within P s t) {f : Fld} (hf : ¬ P f.reg) : t.get f = s.get f := by rw [State.get, h _ hf, State.get]
theorem Within.has (h : Within P s t) {f : Fld} (hf : ¬ P f.reg) : t.has f = s.has f := by rw [State.has, h.get hf, State.has]
theorem Within.isIn (h : Within P s t) (hf : ¬ P R.SYS_STATE) (d : DevState) : t.isIn d = s.isIn d := by
  rw [State.isIn, h.get (f := F.SYS_STATE_STATE) hf, State.isIn]
theorem Within.isAny (h : Within P s t) (hf : ¬ P R.SYS_STATE) (l : List DevState) : t.isAny l = s.isAny l :=
  congrArg l.any (funext (h.isIn hf))

theorem Within.setWord {a : Nat} {w : Word} (h : Within P s₀ s) (ha : P a) : Within P s₀ (s.setWord a w) :=
  h.trans fun b hb => word_setWord_other s a b w fun e => hb (e ▸ ha)
theorem Within.set {f : Fld} {v : Nat} (h : Within P s₀ s) (hf : P f.reg) : Within P s₀ (s.set f v) := h.setWord hf
theorem Within.put {f : Fld} {b : Bool} (h : Within P s₀ s) (hf : P f.reg) : Within P s₀ (s.put f b) := h.set hf
theorem Within.putBit {f : Fld} {i : Nat} {b : Bool} (h : Within P s₀ s) (hf : P f.reg) : Within P s₀ (s.putBit f i b) := h.set hf
theorem Within.bump {f : Fld} {n : Nat} (h : Within P s₀ s) (hf : P f.reg) : Within P s₀ (s.bump f n) := h.set hf
theorem Within.flag {g : Flag} (h : Within P s₀ s) (hb : P g.bit.reg) (hc : P g.cnt.reg) : Within P s₀ (s.flag g) := (h.put hb).bump hc
theorem Within.logged (h : Within P s₀ s) (hlog : ∀ a ∈ logRegs, P a) (hk : Logged s t) : Within P s₀ t :=
  h.trans fun a ha => hk.word a fun hm => ha (hlog a hm)
/-- An act that changes no register. -/
theorem Within.same (h : Within P s₀ s) (hr : t.regs = s.regs) : Within P s₀ t :=
  h.trans fun a _ => by rw [State.word, hr, State.word]
theorem Within.disarm {x : TimerId} (h : Within P s₀ s) : Within P s₀ (s.disarm x) := h
theorem Within.arm {x : TimerId} {n : Nat} (h : Within P s₀ s) : Within P s₀ (s.arm x n) := h
theorem Within.disarmAll {l : List TimerId} (h : Within P s₀ s) : Within P s₀ (s.disarmAll l) := h
theorem Within.modPort {k : PortId} {f : Port → Port} (h : Within P s₀ s) : Within P s₀ (s.modPort k f) := h
theorem Within.modAtt {k : PortId} {f : AttPort → AttPort} (h : Within P s₀ s) : Within P s₀ (s.modAtt k f) := h
theorem Within.modPd {k : PortId} {f : PdPort → PdPort} (h : Within P s₀ s) : Within P s₀ (s.modPd k f) := h
theorem Within.modCnv {k : PortId} {f : CnvPort → CnvPort} (h : Within P s₀ s) : Within P s₀ (s.modCnv k f) := h
theorem Within.modChk {k : PortId} {f : ChkPort → ChkPort} (h : Within P s₀ s) : Within P s₀ (s.modChk k f) := h
theorem Within.modBrk {k : PortId} {f : BrkPort → BrkPort} (h : Within P s₀ s) : Within P s₀ (s.modBrk k f) := h
theorem Within.modRail {j : RailId} {f : Rail → Rail} (h : Within P s₀ s) : Within P s₀ (s.modRail j f) := h
theorem Within.ite {c : Prop} [Decidable c] (hs : Within P s₀ s) (ht : Within P s₀ t) : Within P s₀ (if c then s else t) := by
  split
  · exact hs
  · exact ht
theorem Within.when {c : Bool} {act : State → State} (h : Within P s₀ s) (ha : ∀ t, Within P s₀ t → Within P s₀ (act t)) :
    Within P s₀ (s.when c act) := by
  unfold State.when
  exact .ite (ha s h) h
theorem Within.forAll {α : Type} {act : α → State → State} {l : List α} (h : Within P s₀ s)
    (ha : ∀ x ∈ l, ∀ t, Within P s₀ t → Within P s₀ (act x t)) : Within P s₀ (forAll l act s) := by
  induction l generalizing s with
  | nil => exact h
  | cons x l ih => exact ih (s := act x s) (ha x List.mem_cons_self s h) fun y hy => ha y (List.mem_cons_of_mem x hy)

/-! Ports -/

section
variable {k : PortId} (h : Within P s₀ s) (hP : ∀ a, portWord k a → P a)
include h hP

theorem Within.stopConverter : Within P s₀ (s.stopConverter k) := by
  have hk {c : Nat} (hc : c / 0x200 = 8) : P (c + 0x200 * k.val) := hP _ (portWord_add hc)
  unfold State.stopConverter
  extract_lets now a b
  have ha : Within P s₀ a := h.modCnv
  have hb : Within P s₀ b := ((ha.set (hk (by decide))).put (hk (by decide))).put (hk (by decide))
  exact .ite ((hb.put (hk (by decide))).put (hk (by decide))).disarm h

theorem Within.openSwitch : Within P s₀ (s.openSwitch k) := by
  have hk {c : Nat} (hc : c / 0x200 = 8) : P (c + 0x200 * k.val) := hP _ (portWord_add hc)
  unfold State.openSwitch
  extract_lets vb vc i hi driven safe a b c d
  have hb : Within P s₀ b := h
  have hd : Within P s₀ d := (hb.set (f := F.BRK_STATUS_STATE k) (hk (by decide))).put (hk (by decide))
  exact .ite (.ite (hd.set (hk (by decide))) hd) h

theorem Within.vconnOff : Within P s₀ (s.vconnOff k) :=
  (h.put (hP _ (portWord_add (by decide)))).put (hP _ (portWord_add (by decide)))

theorem Within.clearPd : Within P s₀ (s.clearPd k) := by
  have hk {c : Nat} (hc : c / 0x200 = 8) : P (c + 0x200 * k.val) := hP _ (portWord_add hc)
  unfold State.clearPd
  extract_lets a b c d e f g i j l m ref
  have hd : Within P s₀ d := h
  have he : Within P s₀ e := ((hd.set (hk (by decide))).set (hk (by decide))).put (hk (by decide))
  have hf : Within P s₀ f := ((he.put (hk (by decide))).set (hk (by decide))).put (hk (by decide))
  have hg : Within P s₀ g := .ite hf (hf.set (hk (by decide)))
  have hi : Within P s₀ i := (hg.setWord (hk (by decide))).setWord (hk (by decide))
  have hj : Within P s₀ j := hi.vconnOff hP
  have hl : Within P s₀ l := .ite hj (hj.put (hk (by decide)))
  have hm : Within P s₀ m := .ite hl (hl.set (hk (by decide)))
  exact hm

theorem Within.hardOpen : Within P s₀ (s.hardOpen k) := ((h.openSwitch hP).stopConverter hP).clearPd hP

theorem Within.softOpen : Within P s₀ (s.softOpen k) := (((h.stopConverter hP).openSwitch hP).disarmAll).modPd

theorem Within.settleOpen : Within P s₀ (s.settleOpen k) := by
  unfold State.settleOpen
  extract_lets st a
  have ha : Within P s₀ a := h
  exact .ite ha (ha.set (hP _ (portWord_add (by decide))))

theorem Within.holdOpen {untilDetach : Bool} : Within P s₀ (s.holdOpen k untilDetach) :=
  (h.hardOpen hP).modBrk.settleOpen hP

theorem Within.partFrom : Within P s₀ (s.partFrom k) := by
  have hk {c : Nat} (hc : c / 0x200 = 8) : P (c + 0x200 * k.val) := hP _ (portWord_add hc)
  exact ((((h.set (f := F.ATT_STATUS_ORIENT k) (hk (by decide))).put (f := F.ATT_STATUS_RA k) (hk (by decide))).setWord
    (a := R.ATT_CABLE k) (hk (by decide))).when fun _ ht => ht.put (f := F.ATT_STATUS_SEATED k) (hk (by decide))) |>.modAtt

theorem Within.disableAttach : Within P s₀ (s.disableAttach k) :=
  (((h.disarmAll.modAtt.vconnOff hP).set (hP _ (portWord_add (by decide)))).set (hP _ (portWord_add (by decide)))).partFrom hP

theorem Within.shutPort : Within P s₀ (s.shutPort k) := ((h.hardOpen hP).disableAttach hP).disarmAll

end

theorem Within.shed {k : PortId} (h : Within P s₀ s) (hP : ∀ a, portWord k a → P a) (hbus : P R.BUS_STATUS) : Within P s₀ (s.shed k) :=
  (h.softOpen hP).putBit hbus

/-! Rails and the sequencer -/

section
variable (h : Within P s₀ s) (hP : ∀ a, railWord a → P a)
include h hP

theorem Within.assertReset {n : Fin 4} : Within P s₀ (s.assertReset n) :=
  ((h.putBit (f := F.SQC_RST_ST_RELEASED) (hP _ (by decide))).putBit (f := F.SQC_RST_ST_STRETCHING) (hP _ (by decide))).disarm

theorem Within.assertWatching {j : RailId} : Within P s₀ (s.assertWatching j) :=
  h.forAll fun _ _ _ ht => ht.when fun _ hu => hu.assertReset hP

theorem Within.trace {code idx mv : Nat} : Within P s₀ (s.trace code idx mv) := by
  unfold State.trace
  extract_lets n w0 w1 ram src a
  have ha : Within P s₀ a := h.same rfl
  exact (ha.set (hP _ (by decide))).bump (hP _ (by decide))

theorem Within.traceAsIn {u : State} : Within P s₀ (s.traceAsIn u) := by
  have hs : Within P s₀ { s with seq := { s.seq with traceRam := u.seq.traceRam } } := h.same rfl
  exact hs.setWord (hP _ (by decide))

theorem Within.setPhase {p : Nat} : Within P s₀ (s.setPhase p) := by
  unfold State.setPhase
  exact .ite h ((h.set (hP _ (by decide))).trace hP)

theorem Within.releaseRail {j : RailId} {discharge : Bool} {rstate : Nat} : Within P s₀ (s.releaseRail j discharge rstate) := by
  have hj {c : Nat} (hc : 0x3000 ≤ c ∧ c < 0x3040) : P (c + 0x100 * (j.val / 4) + 0x3C * (j.val % 4)) := hP _ (railWord_add hc)
  unfold State.releaseRail
  extract_lets was a b c d e f g i
  have hb : Within P s₀ b := (h.disarmAll.put (hj (by decide))).put (hj (by decide))
  have hc : Within P s₀ c := hb.set (hj (by decide))
  have hd : Within P s₀ d := (((hc.put (hj (by decide))).put (hj (by decide))).set (hj (by decide))).put (hj (by decide))
  have hg : Within P s₀ g := ((hd.put (hj (by decide))).modRail).set (hj (by decide))
  exact (Within.ite (hg.trace hP) hg).assertWatching hP

theorem Within.winterTable {phase code : Nat} {clockRuns : Bool} : Within P s₀ (s.winterTable phase code clockRuns) := by
  have hj {j : RailId} {c : Nat} (hc : 0x3000 ≤ c ∧ c < 0x3040) : P (c + 0x100 * (j.val / 4) + 0x3C * (j.val % 4)) :=
    hP _ (railWord_add hc)
  unfold State.winterTable
  extract_lets before a src b c d keepsOutput kept released e f
  have ha : Within P s₀ a := h.disarmAll
  have hb : Within P s₀ b := ha.same rfl
  have hd : Within P s₀ d := ((hb.put (hP _ (by decide))).setPhase hP).trace hP
  have he : Within P s₀ e := hd.forAll fun _ _ _ ht =>
    .ite (ht.disarmAll.when fun _ hu => hu.set (hj (by decide))) (ht.releaseRail hP).modRail
  have hf : Within P s₀ f := he.forAll fun _ _ _ ht => .ite (ht.putBit (hP _ (by decide))) (ht.assertReset hP)
  exact .ite hf (hf.traceAsIn hP)

end

/-! The hub -/

section
variable (h : Within P s₀ s) (hP : ∀ a, hubWord a → P a)
include h hP

theorem Within.dropUpstream : Within P s₀ s.dropUpstream :=
  (((h.put (f := F.HUB_STATUS_UP_CONF) (hP _ (by decide))).put (f := F.HUB_STATUS_MF0_CONF) (hP _ (by decide))).set
    (f := F.HUB_STATUS_UP_SPEED) (hP _ (by decide))).same rfl

theorem Within.hubPortOff {k : PortId} : Within P s₀ (s.hubPortOff k) := by
  have hpri : ∀ n ∈ List.range 16, P (R.HUB_PRI n) := fun n hn => hP _ (by
    have := List.mem_range.mp hn
    unfold hubWord R.HUB_PRI
    omega)
  have hk : P (R.HUB_PSTAT k) := hP _ (by revert k; decide)
  unfold State.hubPortOff
  extract_lets gone was a b c
  have hb : Within P s₀ b := h.same rfl
  have hc : Within P s₀ c := hb.forAll fun n hn _ ht => .ite (ht.put (hpri n hn)) ht
  exact ((hc.put hk).set hk).set hk

end

/-! The season -/

/-- Entering Winter by its acts: ports, rails, hub. -/
theorem Within.winterActs (h : Within P s₀ s) (hport : ∀ k a, portWord k a → P a) (hrail : ∀ a, railWord a → P a)
    (hhub : ∀ a, hubWord a → P a) : Within P s₀ s.winterActs := by
  unfold State.winterActs
  extract_lets a src b c d
  have ha : Within P s₀ a := h.forAll fun k _ _ ht => ht.shutPort (hport k)
  have hb : Within P s₀ b := ha.same rfl
  have hc : Within P s₀ c := hb.winterTable hrail
  have hd : Within P s₀ d := hc.forAll fun _ _ _ ht => ht.hubPortOff hhub
  exact .ite hd (hd.dropUpstream hhub)

/-- A transition writes SYS_STATE, logs its event and may put the grants to 0 (R35). -/
theorem Within.transition (h : Within P s₀ s) (hsys : P R.SYS_STATE) (hlog : ∀ a ∈ logRegs, P a) (hport : ∀ k a, portWord k a → P a)
    (hbud : ∀ a, a / 256 = 0xE → P a) {d : DevState} {n : Nat} : Within P s₀ (s.transition d n) := by
  have hgrant (k : PortId) : P (R.BUD_GRANT k) := hbud _ (by revert k; decide)
  have hilim (k : PortId) : P (R.CNV_ILIM k) := hport k _ (portWord_add (by decide))
  unfold State.transition
  extract_lets a b src c e f
  have ha : Within P s₀ a := ((h.set hsys).set hsys).set hsys
  have hb : Within P s₀ b := .ite ha (ha.logged hlog (post_logged (.refl _)))
  have hc : Within P s₀ c := hb.same rfl
  have he : Within P s₀ e := hc.disarmAll
  have hf : Within P s₀ f := .ite he ((he.forAll fun k _ _ ht => (ht.set (hgrant k)).set (hilim k)).set (hbud _ (by decide)))
  clear_value f
  cases d
  case summer => exact hf.disarm.arm
  case winter => exact hf.when fun _ ht => ht.arm
  all_goals exact hf

end

end Sys2Proof.Machine
end

section
/-!
Proofs of the two ways out of the running seasons (R461, R463): a fatal fault into Winter by T9, an island trip into Deep Winter by T12.
-/
namespace Sys2Proof.Machine

/-! SYS_STATE -/

theorem DevState.code_lt (d : DevState) : d.code < 16 := by cases d <;> decide

theorem isIn_iff (s : State) (d : DevState) : s.isIn d = true ↔ s.get F.SYS_STATE_STATE = d.code := decide_eq_true_iff

theorem isIn_unique {s : State} {d d' : DevState} (h : s.isIn d = true) (hne : d ≠ d') : s.isIn d' = false := by
  rw [isIn_iff] at h
  rw [State.isIn, h, decide_eq_false_iff_not]
  revert hne
  cases d <;> cases d' <;> decide

section
variable (s : State) (d : DevState) {n : Nat}

theorem writeSysState_entry (hn : n < 256) : (s.writeSysState d n).get F.SYS_STATE_ENTRY = n :=
  (get_set_self _ _ _ (by decide)).trans (Nat.mod_eq_of_lt hn)

theorem writeSysState_prev : (s.writeSysState d n).get F.SYS_STATE_PREV = s.get F.SYS_STATE_STATE := by
  rw [State.writeSysState, get_set_apart _ _ _ _ (by decide) (by decide), get_set_self _ _ _ (by decide)]
  exact Nat.mod_eq_of_lt (get_lt s F.SYS_STATE_STATE)

theorem writeSysState_sameWords : SameWords [R.SYS_STATE] s (s.writeSysState d n) :=
  have hmem : R.SYS_STATE ∈ [R.SYS_STATE] := List.mem_singleton_self _
  (((Within.refl s).set (f := F.SYS_STATE_STATE) hmem).set (f := F.SYS_STATE_PREV) hmem).set (f := F.SYS_STATE_ENTRY) hmem

end

/-- What a transition into `d` by `n` leaves in SYS_STATE and SAF_STATUS, seen in a state in which both stand as after it. -/
theorem transition_entered {s t : State} {d : DevState} {n : Nat} (hn : n < 256) (h : Stands (s.transition d n) t) :
    t.isIn d = true ∧ t.get F.SYS_STATE_ENTRY = n ∧ t.get F.SYS_STATE_PREV = s.get F.SYS_STATE_STATE ∧
    ∀ f : Fld, f.reg = R.SAF_STATUS → t.get f = s.get f := by
  have hs : Stands (s.writeSysState d n) t := (transition_stands s d n).trans h
  refine ⟨?_, ?_, ?_, fun f hf => ?_⟩
  · rw [hs.isIn, writeSysState_isIn]
  · rw [hs.get _ (by decide), writeSysState_entry s d hn]
  · rw [hs.get _ (by decide), writeSysState_prev]
  · rw [hs.get _ (by rw [hf]; decide), (writeSysState_sameWords s d).get (by rw [hf]; decide)]

/-! T9 and T10 -/

/-- Entry into Winter: SYS_STATE as by the transition, and WINTER_OFF asserted (R461). -/
theorem winterEntry_entered (s : State) {n : Nat} (code : Nat) (hn : n < 256) :
    (s.winterEntry n code).isIn .winter = true ∧ (s.winterEntry n code).has F.SAF_STATUS_WINTER_OFF = true ∧
    (s.winterEntry n code).get F.SYS_STATE_ENTRY = n ∧ (s.winterEntry n code).get F.SYS_STATE_PREV = s.get F.SYS_STATE_STATE := by
  unfold State.winterEntry
  extract_lets off noted
  have hoff : off.has F.SAF_STATUS_WINTER_OFF = true := has_put_self _ _ _ (by decide) (by decide)
  have hnoted : Stands off noted := fflTrigger_stands (.refl off)
  have hstate : noted.get F.SYS_STATE_STATE = s.get F.SYS_STATE_STATE :=
    (hnoted.get _ (by decide)).trans (get_put_apart _ _ _ _ (by decide) (by decide))
  obtain ⟨hin, hentry, hprev, hsaf⟩ := transition_entered hn (abandonHandover_stands (winterActs_stands (.refl (noted.transition .winter n))))
  refine ⟨hin, ?_, hentry, hprev.trans hstate⟩
  rw [State.has, hsaf _ rfl]
  exact (hnoted.has _ (by decide)).trans hoff

/-- A fatal fault as the collector has noted it, before its reaction (R485, R494). -/
def State.fatalNoted (s : State) (code : Nat) : State :=
  let t := (s.recordFault code false).flag G.FLT_FATAL
  if t.get F.FLT_FATAL_CODE = 0 then t.set F.FLT_FATAL_CODE code else t

/-- The words that noting a fatal fault may write. -/
abbrev fatalWord (a : Nat) : Prop := a ∈ logRegs ∨ a ∈ [G.FLT_FATAL.bit.reg, G.FLT_FATAL.cnt.reg, R.FLT_FATAL]

theorem fatalNoted_within (s : State) (code : Nat) : Within fatalWord s (s.fatalNoted code) := by
  unfold State.fatalNoted
  extract_lets t
  have hlog : Within fatalWord s (s.recordFault code false) := (Within.refl s).logged (fun _ => .inl) (recordFault_logged (.refl s))
  have ht : Within fatalWord s t := hlog.flag (by decide) (by decide)
  exact .ite (ht.set (by decide)) ht

theorem fatalNoted_upd (s : State) (code : Nat) : (s.fatalNoted code).upd = s.upd := by
  unfold State.fatalNoted
  extract_lets t
  have ht : t.upd = s.upd := (recordFault_logged (.refl s)).upd
  clear_value t
  split
  · exact ht
  · exact ht

theorem raise_fatal {s : State} {code : Nat} (hc : faultClass code = 3) (hp : s.sourceAbsent (faultSource code) = false) :
    s.raise code = ((s.recordFault code false).flag G.FLT_FATAL).fatal code := by
  have hcls : ¬ (faultClass code = 1 ∨ faultClass code = 2) := by omega
  unfold State.raise
  dsimp only
  rw [if_neg (by rw [hp]; exact Bool.false_ne_true), if_neg hcls, State.react, hc]
  rfl

/-- In Spring and Summer, with no handover pause running, a fatal fault takes T9 (R461). -/
theorem raise_fatal_winter {s : State} {code : Nat} (hc : faultClass code = 3) (hp : s.sourceAbsent (faultSource code) = false)
    (hs : s.isAny [.spring, .summer] = true) (hu : s.upd.paused = false) : s.raise code = (s.fatalNoted code).winterEntry 9 code := by
  have hany : (s.fatalNoted code).isAny [.spring, .summer] = true := by rw [(fatalNoted_within s code).isAny (by decide), hs]
  have hpaused : ¬ (s.fatalNoted code).upd.paused = true := by rw [fatalNoted_upd, hu]; exact Bool.false_ne_true
  rw [raise_fatal hc hp, State.fatal]
  exact (if_pos hany).trans (if_neg hpaused)

theorem raise_fatal_entered {s : State} {code : Nat} (hc : faultClass code = 3) (hp : s.sourceAbsent (faultSource code) = false)
    (hs : s.isAny [.spring, .summer] = true) (hu : s.upd.paused = false) :
    (s.raise code).isIn .winter = true ∧ (s.raise code).has F.SAF_STATUS_WINTER_OFF = true ∧
    (s.raise code).get F.SYS_STATE_ENTRY = 9 ∧ (s.raise code).get F.SYS_STATE_PREV = s.get F.SYS_STATE_STATE := by
  rw [raise_fatal_winter hc hp hs hu, ← (fatalNoted_within s code).get (f := F.SYS_STATE_STATE) (by decide)]
  exact winterEntry_entered _ code (by decide)

/-! T12 -/

/-- The trip record and SAF_STATUS as a trip writes them (R463, R470). -/
def State.tripRecorded (s : State) (code detail : Nat) : State :=
  let t := ((s.set F.SAF_TRIP_PREV_STATE (s.get F.SYS_STATE_STATE)).set F.SAF_TRIP_DETAIL detail).set F.SAF_TRIP_CODE code
  let t := (t.set F.SAF_TRIP_TBL_TB_LO t.tb).set F.SAF_TRIP_TBH_TB_HI (t.tb / 2 ^ 32)
  let t := ((t.bump F.SAF_STATUS_DW_COUNT 1).put F.SAF_STATUS_ISL_OFF true).set F.SAF_STATUS_ISTATE 4
  t.put F.SAF_STATUS_OPEN false

/-- The state with a trip recorded and the interface at its page 0, still in its device state. -/
def State.tripNoted (s : State) (code detail : Nat) : State :=
  let t := s.tripRecorded code detail
  { t with island := { t.island with dwAt := some t.now, mayRestart := s.island.restartEn && Nat.ble 600 s.dwSince, recordDue := true } }.setWord
    R.PAGE_SEL 0

/-- What a trip still does after the transition and the shutting of all ports, rails and links: engines, timers and commands (Table
SAF-4). -/
def State.tripEnd (s : State) (may : Bool) : State :=
  let t := { s with boot := { s.boot with engRun := 0 }, timers := s.ovpTimers, pins := { s.pins with p9swg := false },
                    hif := { s.hif with current := none, answer := none, exec := [] },
                    upd := { s.upd with paused := false, step := 0, left := [], passed := [], held := none } }
  if may then t.arm .coldRestart (secs 1) else t

/-- The acts of a trip on ports, rails and the hub. -/
def State.tripActs (s : State) (code : Nat) : State :=
  let t := (s.transition .deepWinter 12).put F.SYS_STATE_HANDOVER false
  let t := forAll allPorts (fun k t => t.shutPort k) t
  let t := t.winterTable 6 0x31 (t.clockRunsAt code)
  forAll modulePorts (fun k t => t.hubPortOff k) t.dropUpstream

theorem trip_eq {s : State} (code detail : Nat) (h : s.isIn .deepWinter = false) :
    s.trip code detail = ((s.tripNoted code detail).tripActs code).tripEnd (s.island.restartEn && Nat.ble 600 s.dwSince) := by
  rw [State.trip, if_neg (by rw [h]; exact Bool.false_ne_true)]
  rfl

theorem trip_deepWinter {s : State} (code detail : Nat) (h : s.isIn .deepWinter = true) : s.trip code detail = s := by
  rw [State.trip, if_pos h]

theorem tripEnd_within (s : State) (may : Bool) {P : Nat → Prop} : Within P s (s.tripEnd may) := by
  unfold State.tripEnd
  extract_lets b p h u t
  have ht : Within P s t := (Within.refl s).same rfl
  exact .ite ht.arm ht

theorem tripEnd_engines (s : State) (may : Bool) : (s.tripEnd may).boot.engRun = 0 := by
  unfold State.tripEnd
  split <;> rfl

theorem tripEnd_p9swg (s : State) (may : Bool) : (s.tripEnd may).pins.p9swg = false := by
  unfold State.tripEnd
  split <;> rfl

/-- The words that the shutting of ports, rails and links may write. -/
def shutWord (a : Nat) : Prop := (∃ k, portWord k a) ∨ railWord a ∨ hubWord a

theorem not_shutWord {a : Nat} (h : a < 0x1000) : ¬ shutWord a := by
  rintro (⟨k, hk⟩ | hr | hh)
  · unfold portWord at hk
    omega
  · unfold railWord at hr
    omega
  · unfold hubWord at hh
    omega

/-- After the transition a trip writes HANDOVER and shuts ports, rails and links. -/
theorem tripActs_within (s : State) (code : Nat) :
    Within shutWord ((s.transition .deepWinter 12).put F.SYS_STATE_HANDOVER false) (s.tripActs code) := by
  unfold State.tripActs
  extract_lets a b c
  have hb : Within shutWord a b := (Within.refl a).forAll fun k _ _ ht => ht.shutPort fun _ h => .inl ⟨k, h⟩
  have hc : Within shutWord a c := hb.winterTable fun _ h => .inr (.inl h)
  have hd : Within shutWord a c.dropUpstream := hc.dropUpstream fun _ h => .inr (.inr h)
  exact hd.forAll fun k _ _ ht => ht.hubPortOff fun _ h => .inr (.inr h)

theorem trip_within_shut {s : State} (code detail : Nat) (h : s.isIn .deepWinter = false) :
    Within shutWord (((s.tripNoted code detail).transition .deepWinter 12).put F.SYS_STATE_HANDOVER false) (s.trip code detail) := by
  rw [trip_eq code detail h]
  exact (tripActs_within _ code).trans (tripEnd_within _ _)

/-- The words of the trip record are none of those that a trip writes after noting it. -/
theorem trip_record {s : State} (code detail : Nat) (h : s.isIn .deepWinter = false) {f : Fld} (hf : f.reg = R.SAF_TRIP) :
    (s.trip code detail).get f = (s.tripNoted code detail).get f := by
  have hport (k : PortId) (a : Nat) (ha : portWord k a) : a ≠ R.SAF_TRIP := by
    rintro rfl
    exact not_shutWord (by decide) (.inl ⟨k, ha⟩)
  have hbud (a : Nat) (ha : a / 256 = 0xE) : a ≠ R.SAF_TRIP := by
    rintro rfl
    exact absurd ha (by decide)
  have hshut (a : Nat) (ha : shutWord a) : a ≠ R.SAF_TRIP := by
    rintro rfl
    exact not_shutWord (by decide) ha
  have htrans : Within (· ≠ R.SAF_TRIP) (s.tripNoted code detail) ((s.tripNoted code detail).transition .deepWinter 12) :=
    (Within.refl _).transition (by decide) (by decide) hport hbud
  exact ((htrans.put (f := F.SYS_STATE_HANDOVER) (by decide)).trans ((trip_within_shut code detail h).mono hshut)).get (by simp [hf])

/-- SYS_STATE and SAF_STATUS after a trip. -/
theorem trip_entered {s : State} (code detail : Nat) (h : s.isIn .deepWinter = false) :
    (s.trip code detail).isIn .deepWinter = true ∧ (s.trip code detail).get F.SYS_STATE_ENTRY = 12 ∧
    ∀ f : Fld, f.reg = R.SAF_STATUS → (s.trip code detail).get f = (s.tripNoted code detail).get f := by
  have hshut := trip_within_shut code detail h
  obtain ⟨hin, hentry, -, hsaf⟩ := transition_entered (by decide : 12 < 256) (.refl ((s.tripNoted code detail).transition .deepWinter 12))
  refine ⟨?_, ?_, fun f hf => ?_⟩
  · rw [isIn_iff] at hin ⊢
    rw [hshut.get (not_shutWord (by decide)), get_put_apart _ _ _ _ (by decide) (by decide), hin]
  · rw [hshut.get (not_shutWord (by decide)), get_put_apart _ _ _ _ (by decide) (by decide), hentry]
  · rw [hshut.get (by rw [hf]; exact not_shutWord (by decide)), ← hsaf f hf]
    exact (set_sameWords _ _ _).get (by rw [hf]; decide)

section
variable (s : State) (code detail : Nat)

theorem tripNoted_get {f : Fld} (hf : f.reg ≠ R.PAGE_SEL) : (s.tripNoted code detail).get f = (s.tripRecorded code detail).get f := by
  unfold State.tripNoted
  extract_lets t src
  have hisland : Within (· = R.PAGE_SEL) t { t with island := { t.island with dwAt := some t.now, mayRestart := s.island.restartEn && Nat.ble 600 s.dwSince, recordDue := true } } :=
    (Within.refl t).same rfl
  exact (hisland.setWord rfl).get hf

theorem tripRecorded_islOff : (s.tripRecorded code detail).get F.SAF_STATUS_ISL_OFF = 1 := by
  unfold State.tripRecorded
  simp (disch := decide) only [get_put_apart, get_set_apart, get_put_self, b2n]
  rfl

theorem tripRecorded_code : (s.tripRecorded code detail).get F.SAF_TRIP_CODE = code % 2 ^ F.SAF_TRIP_CODE.width := by
  unfold State.tripRecorded
  simp (disch := decide) only [get_put_apart, get_set_apart, get_bump_apart, get_set_self]

theorem tripRecorded_detail : (s.tripRecorded code detail).get F.SAF_TRIP_DETAIL = detail % 2 ^ F.SAF_TRIP_DETAIL.width := by
  unfold State.tripRecorded
  simp (disch := decide) only [get_put_apart, get_set_apart, get_bump_apart, get_set_self]

theorem tripRecorded_prevState : (s.tripRecorded code detail).get F.SAF_TRIP_PREV_STATE = s.get F.SYS_STATE_STATE := by
  unfold State.tripRecorded
  simp (disch := decide) only [get_put_apart, get_set_apart, get_bump_apart, get_set_self]
  exact Nat.mod_eq_of_lt (get_lt s F.SYS_STATE_STATE)

theorem tripRecorded_sysState : (s.tripRecorded code detail).get F.SYS_STATE_STATE = s.get F.SYS_STATE_STATE := by
  unfold State.tripRecorded
  simp (disch := decide) only [get_put_apart, get_set_apart, get_bump_apart]

end

/-- The trip record after a trip, and ISL_OFF. -/
theorem trip_recorded {s : State} (code detail : Nat) (h : s.isIn .deepWinter = false) :
    (s.trip code detail).get F.SAF_TRIP_CODE = code % 2 ^ F.SAF_TRIP_CODE.width ∧
    (s.trip code detail).get F.SAF_TRIP_DETAIL = detail % 2 ^ F.SAF_TRIP_DETAIL.width ∧
    (s.trip code detail).get F.SAF_TRIP_PREV_STATE = s.get F.SYS_STATE_STATE ∧
    (s.trip code detail).has F.SAF_STATUS_ISL_OFF = true := by
  refine ⟨?_, ?_, ?_, ?_⟩
  · rw [trip_record code detail h rfl, tripNoted_get s code detail (by decide), tripRecorded_code]
  · rw [trip_record code detail h rfl, tripNoted_get s code detail (by decide), tripRecorded_detail]
  · rw [trip_record code detail h rfl, tripNoted_get s code detail (by decide), tripRecorded_prevState]
  · obtain ⟨-, -, hsaf⟩ := trip_entered code detail h
    rw [State.has, hsaf _ rfl, tripNoted_get s code detail (by decide), tripRecorded_islOff]
    rfl

/-- Settles O59: T9 is the reaction to a fatal fault (`raise_fatal_winter`); a trip writes its record first, and what follows the
transition leaves record, SYS_STATE and SAF_STATUS alone. -/
theorem fatalFaultsLeadToWinterAndTripsToDeepWinter : Obligations.FatalFaultsLeadToWinterAndTripsToDeepWinter := by
  refine ⟨fun s code hc hp hs hu => raise_fatal_entered hc hp hs hu, fun s code detail h => ?_, fun s code detail h => trip_deepWinter code detail h⟩
  obtain ⟨hin, hentry, -⟩ := trip_entered code detail h
  obtain ⟨hcode, hdetail, hprev, hoff⟩ := trip_recorded code detail h
  refine ⟨hin, hentry, hcode, hdetail, hprev, hoff, ?_, ?_⟩
  · rw [trip_eq code detail h, tripEnd_engines]
  · rw [trip_eq code detail h, tripEnd_p9swg]

end Sys2Proof.Machine
end

section
/-!
Proofs of the state after reset (R619, Table MAP-4): the bank lists nothing, so every word reads its reset value.
-/
namespace Sys2Proof.Machine

theorem reset_word (a : Nat) : State.reset.word a = regReset a := rfl

/-- The words that `regReset` names. -/
def resetNamed (a : Nat) : Prop :=
  a ∈ [R.SYS_ID, R.HIF_IRQ_EN, R.SAF_DWTIME, R.SEC_PORTEN, R.SCH_DATA] ∨ (∃ k : PortId, a = R.PD_STATUS k) ∨
  (∃ k : PortId, a = R.CHK_STATUS k ∨ a = R.CHK_CAP k) ∨ (∃ u : Fin 4, a = R.CRC_STATUS u.val) ∨ ∃ n : Fin 9, a = R.MSR_GPW n.val

theorem regReset_eq_zero {a : Nat} (h : ¬ resetNamed a) : regReset a = 0#32 := by
  simp only [resetNamed, not_or, not_exists, List.mem_cons, List.not_mem_nil, not_false_eq_true, and_true] at h
  obtain ⟨⟨hid, hirq, hdw, hen, hdata⟩, hpd, hchk, hcrc, hgpw⟩ := h
  have hrange {n : Nat} {f : Nat → Nat} (hf : ∀ u : Fin n, a ≠ f u.val) : ¬ (List.range n).any (fun u => decide (a = f u)) = true := by
    simpa using fun u hu => hf ⟨u, hu⟩
  have hports {l : List PortId} {f : PortId → Nat} (hf : ∀ k, a ≠ f k) : ¬ l.any (fun k => decide (a = f k)) = true := by
    simpa using fun k _ => hf k
  rw [regReset, if_neg hid, if_neg hirq, if_neg hdw, if_neg hen, if_neg hdata, if_neg (hports hpd), if_neg (hports fun k => (hchk k).1),
    if_neg (hports fun k => (hchk k).2), if_neg (hrange hcrc), if_neg (hrange hgpw)]

/-- Settles O42. -/
theorem resetLeavesTheStatedValues : Obligations.ResetLeavesTheStatedValues := by
  refine ⟨rfl, by decide, rfl, rfl, rfl, rfl, rfl, by decide, by decide, by decide, by decide, by decide, by decide, by decide, by decide,
    by decide, fun a hlist hpd hchk hcrc hgpw => regReset_eq_zero ?_⟩
  rintro (h | ⟨k, h⟩ | ⟨k, h | h⟩ | ⟨u, h⟩ | ⟨n, h⟩)
  · exact hlist h
  · exact hpd k h
  · exact (hchk k).1 h
  · exact (hchk k).2 h
  · exact hcrc u h
  · exact hgpw n h

end Sys2Proof.Machine
end

section
/-!
Proofs of the time base's units: compare channels (R566), one-shot alarms (R567) and reload timers (R568, R569).
-/
namespace Sys2Proof.Machine

/-! Alarms and timers are stores by number -/

section
variable (s : State) (i : Nat)

@[simp] theorem alarm_modAlarm_self (f : Alarm → Alarm) : (s.modAlarm i f).alarm i = f (s.alarm i) := bankRead_write_self _ _ _ _
theorem alarm_modAlarm_other (f : Alarm → Alarm) {j : Nat} (h : j ≠ i) : (s.modAlarm i f).alarm j = s.alarm j :=
  bankRead_write_other _ _ _ _ _ h
@[simp] theorem tmr_modTmr_self (f : Tmr → Tmr) : (s.modTmr i f).tmr i = f (s.tmr i) := bankRead_write_self _ _ _ _
theorem tmr_modTmr_other (f : Tmr → Tmr) {j : Nat} (h : j ≠ i) : (s.modTmr i f).tmr j = s.tmr j := bankRead_write_other _ _ _ _ _ h
theorem modAlarm_word (f : Alarm → Alarm) (a : Nat) : (s.modAlarm i f).word a = s.word a := rfl
theorem modTmr_word (f : Tmr → Tmr) (a : Nat) : (s.modTmr i f).word a = s.word a := rfl
theorem modTmr_get (f : Tmr → Tmr) (g : Fld) : (s.modTmr i f).get g = s.get g := rfl
theorem flag_tmr (g : Flag) : (s.flag g).tmr i = s.tmr i := rfl

end

/-! One cycle of the reload timers -/

section
variable {s : State} {fabric : Nat → Bool} {i n : Nat}

/-- A timer that receives no tick, with no wrap before it in the cycle, leaves everything. -/
theorem tmrCycle_quiet {f : Bool} {strobe : Option Nat} (h : ((s.tmr i).run && s.tmrTicked f strobe [] i && s.tmrGate i) = false) :
    s.tmrCycle f strobe [] i = ([], s) := by
  have hmw : s.masterWrapped [] i = false := by
    unfold State.masterWrapped
    split <;> rfl
  unfold State.tmrCycle
  simp [h, hmw]

theorem tmrTicked_none (f : Bool) (h : f = false) : s.tmrTicked f none [] i = false := by
  have hmw : s.masterWrapped [] i = false := by
    unfold State.masterWrapped
    split <;> rfl
  simp [State.tmrTicked, h, hmw]

theorem tmrCycle_ticked (f : Bool) (hf : f = true) (h1 : s.get (F.TMR_CFG_CSRC i) ≠ 1) (h2 : s.get (F.TMR_CFG_CSRC i) ≠ 2)
    (hrun : (s.tmr i).run = true) (hgate : s.tmrGate i = true) :
    s.tmrCycle f none [] i = (if (s.tmrCount i).1 then [i] else [], (s.tmrCount i).2) := by
  have hmw : s.masterWrapped [] i = false := by
    unfold State.masterWrapped
    split <;> rfl
  have htick : s.tmrTicked f none [] i = true := by simp [State.tmrTicked, h1, h2, hf]
  unfold State.tmrCycle
  simp [hrun, hgate, htick, hmw]

/-- What timer `i` leaves in any cycle: all that its own record and its flag do not hold. -/
theorem tmrCycle_invariant {β : Type} {g : State → β} (hmod : ∀ t f, g (State.modTmr t i f) = g t)
    (hflag : ∀ t, g (State.flag t (G.TMR_WRAP i)) = g t) (f : Bool) (strobe : Option Nat) (wraps : List Nat) :
    g (s.tmrCycle f strobe wraps i).2 = g s := by
  have hcount : g (s.tmrCount i).2 = g s := by
    unfold State.tmrCount
    extract_lets r one
    split
    · exact hmod s fun r => { r with cnt := r.cnt + 1 }
    · exact (hflag _).trans (hmod s _)
  have hwhen (t : State) (c : Bool) (h : Tmr → Tmr) : g (t.when c fun v => v.modTmr i h) = g t := when_invariant (hmod · h) t c
  have hwhen' (t : State) (c : Bool) (h : State → Tmr → Tmr) : g (t.when c fun v => v.modTmr i (h v)) = g t :=
    when_invariant (fun u => hmod u _) t c
  unfold State.tmrCycle
  extract_lets was go r mw u v
  have hr : g r.2 = g s := by
    cases hgo : go
    · simp [r, hgo]
    · simpa [r, hgo] using hcount
  exact (hwhen' u (mw && s.tmrMode i == 3 && !was) fun t _ => { cnt := 0, top := t.get (F.TMR_PRE_PRE i), run := true }).trans
    ((hwhen r.2 _ _).trans hr)

end

/-- The timers from a list, one after another in a cycle; the wraps so far come with the state. -/
def tmrCycles (fabric : Nat → Bool) (strobe : Option Nat) (l : List Nat) (p : List Nat × State) : List Nat × State :=
  l.foldl (fun p t => p.2.tmrCycle (fabric t) strobe p.1 t) p

section
variable {fabric : Nat → Bool} {strobe : Option Nat}

theorem tmrRound_eq (s : State) : s.tmrRound fabric strobe = (tmrCycles fabric strobe (List.range 16) ([], s)).2 := rfl

theorem tmrCycles_quiet {s : State} {l : List Nat}
    (h : ∀ i ∈ l, ((s.tmr i).run && s.tmrTicked (fabric i) strobe [] i && s.tmrGate i) = false) :
    tmrCycles fabric strobe l ([], s) = ([], s) := by
  induction l with
  | nil => rfl
  | cons i l ih =>
    rw [tmrCycles, List.foldl_cons, tmrCycle_quiet (h i List.mem_cons_self)]
    exact ih fun j hj => h j (List.mem_cons_of_mem i hj)

theorem tmrCycles_invariant {β : Type} {g : State → β} {l : List Nat} (hmod : ∀ i ∈ l, ∀ t f, g (State.modTmr t i f) = g t)
    (hflag : ∀ i ∈ l, ∀ t, g (State.flag t (G.TMR_WRAP i)) = g t) (p : List Nat × State) :
    g (tmrCycles fabric strobe l p).2 = g p.2 := by
  induction l generalizing p with
  | nil => rfl
  | cons i l ih =>
    refine (ih (fun j hj => hmod j (List.mem_cons_of_mem i hj)) (fun j hj => hflag j (List.mem_cons_of_mem i hj)) _).trans ?_
    exact tmrCycle_invariant (hmod i List.mem_cons_self) (hflag i List.mem_cons_self) _ _ _

end

theorem tmrWrap_inWord : ∀ n : Fin 16, (G.TMR_WRAP n.val).bit.inWord = true := by decide

theorem tmrWrap_apart_cnt (i j : Nat) : (G.TMR_WRAP i).bit.apart (G.TMR_WRAP j).cnt = true := by
  have hne : R.TMR_FLAGS ≠ R.TMR_FLAG_CNT (j / 4) := by
    unfold R.TMR_FLAGS R.TMR_FLAG_CNT
    omega
  simp [Fld.apart, G.TMR_WRAP, hne]

theorem tmrWrap_apart {i j : Nat} (h : i < j) : (G.TMR_WRAP i).bit.apart (G.TMR_WRAP j).bit = true := by
  have hle : i + 1 ≤ j := h
  simp [Fld.apart, G.TMR_WRAP, hle]

theorem range16_split : ∀ n : Fin 16, List.range 16 = List.range n.val ++ n.val :: List.range' (n.val + 1) (15 - n.val) := by decide

/-- A fabric tick of timer `n`: it counts, and the timers above it take the rest of the cycle. -/
theorem timerTick_eq {s : State} {n : Fin 16} (h1 : s.get (F.TMR_CFG_CSRC n.val) ≠ 1) (h2 : s.get (F.TMR_CFG_CSRC n.val) ≠ 2)
    (hrun : (s.tmr n.val).run = true) (hgate : s.tmrGate n.val = true) :
    s.tmrRound (fun i => i == n.val) none = (tmrCycles (fun i => i == n.val) none (List.range' (n.val + 1) (15 - n.val))
      (if (s.tmrCount n.val).1 then [n.val] else [], (s.tmrCount n.val).2)).2 := by
  have hbelow : tmrCycles (fun i => i == n.val) none (List.range n.val) ([], s) = ([], s) := by
    refine tmrCycles_quiet fun i hi => ?_
    have hne : (i == n.val) = false := by
      rw [beq_eq_false_iff_ne]
      exact Nat.ne_of_lt (List.mem_range.mp hi)
    rw [tmrTicked_none _ hne, Bool.and_false, Bool.false_and]
  rw [tmrRound_eq, range16_split n]
  unfold tmrCycles at hbelow ⊢
  rw [List.foldl_append, hbelow, List.foldl_cons, tmrCycle_ticked _ (beq_self_eq_true _) h1 h2 hrun hgate]

/-- A timer below its top counts one, and nothing else comes about in the cycle. -/
theorem timerTick_counts {s : State} {n : Fin 16} (h1 : s.get (F.TMR_CFG_CSRC n.val) ≠ 1) (h2 : s.get (F.TMR_CFG_CSRC n.val) ≠ 2)
    (hrun : (s.tmr n.val).run = true) (hgate : s.tmrGate n.val = true) (hlt : (s.tmr n.val).cnt < (s.tmr n.val).top) :
    s.tmrRound (fun i => i == n.val) none = s.modTmr n.val fun r => { r with cnt := r.cnt + 1 } := by
  have hcount : s.tmrCount n.val = (false, s.modTmr n.val fun r => { r with cnt := r.cnt + 1 }) := by
    unfold State.tmrCount
    exact if_pos hlt
  rw [timerTick_eq h1 h2 hrun hgate, hcount]
  refine congrArg Prod.snd (tmrCycles_quiet fun i hi => ?_)
  have hne : (i == n.val) = false := by
    rw [beq_eq_false_iff_ne]
    have := (List.mem_range'_1.mp hi).1
    omega
  rw [tmrTicked_none _ hne, Bool.and_false, Bool.false_and]

/-- A timer at its top wraps: its record is reloaded and its flag set, and the timers above it leave both. -/
theorem timerTick_wraps {s : State} {n : Fin 16} (h1 : s.get (F.TMR_CFG_CSRC n.val) ≠ 1) (h2 : s.get (F.TMR_CFG_CSRC n.val) ≠ 2)
    (hrun : (s.tmr n.val).run = true) (hgate : s.tmrGate n.val = true) (heq : (s.tmr n.val).cnt = (s.tmr n.val).top) :
    (∀ i ≤ n.val, (s.tmrRound (fun i => i == n.val) none).tmr i = if i = n.val
      then { cnt := 0, top := s.get (F.TMR_PRE_PRE n.val), run := !s.has (F.TMR_CFG_ONESHOT n.val) } else s.tmr i) ∧
    (s.tmrRound (fun i => i == n.val) none).has (G.TMR_WRAP n.val).bit = true := by
  let u := (s.modTmr n.val fun r => { cnt := 0, top := s.get (F.TMR_PRE_PRE n.val), run := r.run && !s.has (F.TMR_CFG_ONESHOT n.val) }).flag
    (G.TMR_WRAP n.val)
  have hcount : s.tmrCount n.val = (true, u) := by
    unfold State.tmrCount
    exact if_neg (by omega)
  have habove {i : Nat} (hi : i ∈ List.range' (n.val + 1) (15 - n.val)) : n.val < i ∧ i < 16 := by
    have := List.mem_range'_1.mp hi
    omega
  rw [timerTick_eq h1 h2 hrun hgate, hcount]
  constructor
  · intro i hi
    have hu : u.tmr i = if i = n.val
        then { cnt := 0, top := s.get (F.TMR_PRE_PRE n.val), run := !s.has (F.TMR_CFG_ONESHOT n.val) } else s.tmr i := by
      by_cases hin : i = n.val
      · rw [if_pos hin, hin, flag_tmr, tmr_modTmr_self, hrun, Bool.true_and]
      · rw [if_neg hin, flag_tmr, tmr_modTmr_other _ _ _ hin]
    rw [← hu]
    exact tmrCycles_invariant (g := (State.tmr · i)) (fun j hj t f => tmr_modTmr_other t j f (by have := (habove hj).1; omega)) (fun _ _ _ => rfl) _
  · have hu : u.has (G.TMR_WRAP n.val).bit = true :=
      has_flag_self _ _ (tmrWrap_inWord n) rfl (tmrWrap_apart_cnt n.val n.val)
    rw [← hu]
    refine tmrCycles_invariant (g := (State.has · (G.TMR_WRAP n.val).bit)) (fun _ _ _ _ => rfl) (fun j hj t => ?_) _
    obtain ⟨hlo, -⟩ := habove hj
    exact has_flag_apart t _ _ (tmrWrap_inWord n) (tmrWrap_apart hlo) (tmrWrap_apart_cnt n.val j)

/-! The commands -/

/-- A step that answers the state `t` answers what holds of `t`. -/
theorem Answers.of_eq {o : Out} {t : State} {p : State → Prop} (h : o = .next t) (hp : p t) : Answers o p := ⟨t, h, hp⟩

/-- With no timer running a strobe of a compare channel ticks none. -/
theorem tmrRound_stopped {s : State} {fabric : Nat → Bool} {strobe : Option Nat} (h : ∀ i < 16, (s.tmr i).run = false) :
    s.tmrRound fabric strobe = s :=
  congrArg Prod.snd (tmrCycles_quiet fun i hi => by rw [h i (List.mem_range.mp hi), Bool.false_and, Bool.false_and])

/-- The counter of compare channel c. -/
def cmpCnt (c : Fin 48) : Fld := ⟨R.CMP_CNT (c / 4), 8 * (c % 4), 8⟩

theorem cmpCnt_inWord (c : Fin 48) : (cmpCnt c).inWord = true := by
  rw [Fld.inWord, Nat.ble_eq]
  unfold cmpCnt
  dsimp only
  omega

theorem exec_compareStrobe {s : State} {c : Fin 48} (htb : s.tbZero ≠ none) (hen : s.has (F.CMP_CFG_EN c.val) = true)
    (hstop : ∀ i < 16, (s.tmr i).run = false) : exec (.compareStrobe c) s = .next ((((s.advanceTo (s.now + s.cmpWait c.val)).cmpHold c 1).set
      (cmpCnt c) (s.get (cmpCnt c) + 1))) := by
  refine (if_pos (by simp [hen, Option.isSome_iff_ne_none.mpr htb])).trans ?_
  exact congrArg Host.Outcome.next (tmrRound_stopped hstop)

theorem fireAlarm_now (s : State) (a : Nat) : (s.fireAlarm a).now = s.now := (when_logged (.refl _) captureTrigger_logged).now

theorem fireAlarm_alarm (s : State) (a : Nat) : (s.fireAlarm a).alarm a = { s.alarm a with en := false, late := (s.alarm a).overdue, overdue := false } := by
  have htmb : (s.fireAlarm a).tmb = _ := (when_logged (.refl _) captureTrigger_logged).tmb
  rw [State.alarm, htmb]
  exact alarm_modAlarm_self s a fun x => { x with en := false, late := (s.alarm a).overdue, overdue := false }

theorem almFired_inWord : ∀ a : Fin 32, (G.ALM_FIRED a.val).bit.inWord = true := by decide

theorem almFired_apart_cnt (a : Nat) : (G.ALM_FIRED a).bit.apart (G.ALM_FIRED a).cnt = true := by
  have hne : R.ALM_FLAGS ≠ R.ALM_FLAG_CNT (a / 4) := by
    unfold R.ALM_FLAGS R.ALM_FLAG_CNT
    omega
  simp [Fld.apart, G.ALM_FIRED, hne]

theorem fireAlarm_flag (s : State) (a : Fin 32) : (s.fireAlarm a.val).has (G.ALM_FIRED a.val).bit = true := by
  refine ((when_logged (.refl _) captureTrigger_logged : Logged _ (s.fireAlarm a.val)).has _ ?_).trans ?_
  · exact (by decide : R.ALM_FLAGS ∉ logRegs)
  · exact has_flag_self _ _ (almFired_inWord a) rfl (almFired_apart_cnt a.val)

theorem exec_alarmFire {s : State} {a : Fin 32} (htb : s.tbZero ≠ none) (hen : (s.alarm a.val).en = true) :
    exec (.alarmFire a) s = .next ((s.advanceTo (s.now + if (s.alarm a.val).overdue then 1 else (s.alarm a.val).time - s.tb)).fireAlarm a.val) :=
  if_pos (by simp [hen, Option.isSome_iff_ne_none.mpr htb])

theorem exec_alarmSetTime {s : State} (w : Word) (h : (s.alarm s.selAlarm).en = false ∨ (s.alarm s.selAlarm).time ≠ s.tb) :
    exec (.alarmSetTime w) s = .next (s.modAlarm s.selAlarm fun x =>
      { x with time := w.toNat * 2 ^ 32 + x.held, overdue := x.en && Nat.ble (w.toNat * 2 ^ 32 + x.held) s.tb }) := by
  have hfire : ((s.alarm s.selAlarm).en && !(s.alarm s.selAlarm).overdue && decide ((s.alarm s.selAlarm).time = s.tb)) = false := by
    rcases h with h | h <;> simp [h]
  change execAlarmSetTime w s = _
  unfold execAlarmSetTime
  simp only [hfire, when_false]

/-- Acts on the timers of a list, each on its own, that read nothing which such an act changes. -/
theorem forAll_modTmr {f : State → Nat → Tmr → Tmr} (hf : ∀ t i g, f (t.modTmr i g) = f t) {l : List Nat} (hl : l.Nodup) (s : State)
    (i : Nat) : (forAll l (fun j t => t.modTmr j (f t j)) s).tmr i = if i ∈ l then f s i (s.tmr i) else s.tmr i := by
  induction l generalizing s with
  | nil => rfl
  | cons j l ih =>
    obtain ⟨hj, hl⟩ := List.nodup_cons.mp hl
    refine (ih hl (s.modTmr j (f s j))).trans ?_
    rw [hf]
    by_cases hij : i = j
    · subst hij
      rw [if_neg hj, if_pos List.mem_cons_self, tmr_modTmr_self]
    · rw [tmr_modTmr_other _ _ _ hij]
      simp [hij]

theorem forAll_modTmr_word (f : State → Nat → Tmr → Tmr) (l : List Nat) (s : State) (a : Nat) :
    (forAll l (fun j t => t.modTmr j (f t j)) s).word a = s.word a :=
  forAll_invariant (g := (State.word · a)) (fun _ _ => by rfl) l s

theorem tmrStarts_tmr (w : Word) (s : State) {n : Nat} (hn : n ∈ List.range 16) :
    (forAll ((List.range 16).filter fun i => w.getLsbD i && !w.getLsbD (16 + i)) (fun i t => t.tmrStart i) s).tmr n =
      if w.getLsbD n && !w.getLsbD (16 + n) then { cnt := 0, top := s.get (F.TMR_PRE_PRE n), run := true } else s.tmr n := by
  refine (forAll_modTmr (f := fun t i _ => { cnt := 0, top := t.get (F.TMR_PRE_PRE i), run := true }) (fun _ _ _ => rfl)
    (List.nodup_range.filter _) s n).trans ?_
  simp only [List.mem_filter, hn, true_and]

theorem tmrStops_tmr (w : Word) (s : State) {n : Nat} (hn : n ∈ List.range 16) :
    (forAll ((List.range 16).filter fun i => w.getLsbD (16 + i)) (fun i t => t.modTmr i fun r => { r with run := false }) s).tmr n =
      if w.getLsbD (16 + n) then { s.tmr n with run := false } else s.tmr n := by
  refine (forAll_modTmr (f := fun _ _ r => { r with run := false }) (fun _ _ _ => rfl) (List.nodup_range.filter _) s n).trans ?_
  simp only [List.mem_filter, hn, true_and]

/-- Settles O1: each command's exact next state, then what it leaves of the alarms, timers and words. -/
theorem compareChannelsAlarmsAndTimersAct : Obligations.CompareChannelsAlarmsAndTimersAct := by
  refine ⟨fun s c htb hen hstop => ?_, fun s c w => ?_, fun s w => ?_, fun s w hen => ?_, fun s w hen htime => ?_, fun s w => ?_,
    fun s a htb hen => ?_, fun s n h1 h2 hrun hgate hlt => ?_, fun s n h1 h2 hrun hgate heq => ?_, fun s w => ?_, fun s w => ?_⟩
  · refine .of_eq (exec_compareStrobe htb hen (by simpa using hstop)) ⟨Nat.max_eq_right (Nat.le_add_right _ _), ?_⟩
    have hcount := get_set_self ((s.advanceTo (s.now + s.cmpWait c.val)).cmpHold c 1) (cmpCnt c) (s.get (cmpCnt c) + 1) (cmpCnt_inWord c)
    exact hcount.trans (Nat.mod_add_mod _ _ _)
  · exact .of_eq rfl ⟨word_setWord_self s _ w, rfl, fun a ha => word_setWord_other s _ a w (by simpa using ha)⟩
  · refine .of_eq rfl ?_
    rw [alarm_modAlarm_self]
    exact ⟨rfl, rfl, fun a ha => alarm_modAlarm_other s _ _ ha, fun _ _ => rfl⟩
  · refine .of_eq (exec_alarmSetTime w (.inl hen)) ?_
    rw [alarm_modAlarm_self]
    exact ⟨rfl, hen, fun a ha => alarm_modAlarm_other s _ _ ha, fun _ _ => rfl⟩
  · refine .of_eq (exec_alarmSetTime w (.inr htime)) ?_
    rw [alarm_modAlarm_self, hen]
    exact ⟨rfl, rfl, by simp [← Nat.ble_eq], fun _ _ => rfl⟩
  · refine .of_eq rfl ?_
    rw [alarm_modAlarm_self]
    exact ⟨rfl, rfl, by simp [← Nat.ble_eq], fun a ha => alarm_modAlarm_other s _ _ ha, fun _ _ => rfl⟩
  · refine .of_eq (exec_alarmFire htb hen) ⟨(fireAlarm_now _ _).trans ?_, ?_, ?_, fireAlarm_flag _ a⟩
    · exact Nat.max_eq_right (Nat.le_add_right _ _)
    · rw [fireAlarm_alarm]
    · rw [fireAlarm_alarm]
      rfl
  · refine .of_eq (congrArg Host.Outcome.next (timerTick_counts h1 h2 hrun hgate hlt)) ?_
    rw [tmr_modTmr_self]
    exact ⟨rfl, hrun, rfl, fun i hi => tmr_modTmr_other s _ _ hi, fun _ _ => rfl⟩
  · obtain ⟨htmr, hflag⟩ := timerTick_wraps h1 h2 hrun hgate heq
    exact .of_eq rfl ⟨(htmr n.val le_rfl).trans (if_pos rfl), hflag, fun i hi => (htmr i hi.le).trans (if_neg hi.ne)⟩
  · have htmr (n : Nat) (hn : n ∈ List.range 16) := tmrStarts_tmr w s hn
    refine .of_eq rfl ⟨?_, ?_, fun a _ => forAll_modTmr_word (fun t i _ => { cnt := 0, top := t.get (F.TMR_PRE_PRE i), run := true }) _ s a⟩
    · rw [List.all_eq_true]
      intro n hn
      rw [htmr n hn]
      cases w.getLsbD n <;> cases w.getLsbD (16 + n) <;> simp
    · rw [List.all_eq_true]
      intro n hn
      rw [htmr n hn]
      cases w.getLsbD n <;> cases w.getLsbD (16 + n) <;> simp
  · have htmr (n : Nat) (hn : n ∈ List.range 16) := tmrStops_tmr w s hn
    refine .of_eq rfl ⟨?_, ?_, fun a _ => forAll_modTmr_word (fun _ _ r => { r with run := false }) _ s a⟩
    · rw [List.all_eq_true]
      intro n hn
      rw [htmr n hn]
      cases w.getLsbD (16 + n) <;> simp
    · rw [List.all_eq_true]
      intro n hn
      rw [htmr n hn]
      cases w.getLsbD (16 + n) <;> simp

end Sys2Proof.Machine
end

section
/-!
Proofs of the check-value units (R574, R575, R577, R578): what a feed, a block and a restored context leave of a unit's words.
-/
namespace Sys2Proof.Machine

/-- A write of a field leaves the fields of every other word. -/
theorem get_put_other (s : State) {f g : Fld} (b : Bool) (h : g.reg ≠ f.reg) : (s.put f b).get g = s.get g := by
  rw [State.get, State.put, word_set_other _ _ _ _ h, State.get]

section
variable {s : State} {u : Nat}

/-- A field in the status of a unit stands when the running value is set. -/
theorem crcSet_status (s : State) (u v : Nat) {f : Fld} (hf : f.reg = R.CRC_STATUS u) : (s.crcSet u v).get f = s.get f :=
  (crcSet_sameWords s u v).get (hf ▸ crcStatus_not_written_by_crcSet u)

theorem crcCtx_ne_status (u : Nat) : R.CRC_CTX u ≠ R.CRC_STATUS u := by simp [R.CRC_CTX, R.CRC_STATUS]

/-- Without a prefix to fold, bytes absorbed are fed to the running value and counted. -/
theorem crcAbsorb_plain (hfold : s.get (F.CRC_CFG_FOLD_MODE u) = 0) {bs : List Byte} (hbs : bs ≠ []) :
    s.crcAbsorb u bs = (s.crcSet u (crcFeed (s.crcUnit u) (s.get (F.CRC_CTX_CTX u)) bs)).bump (F.CRC_STATUS_COUNT u) bs.length := by
  have hprefix : s.crcPrefix u = [] := by simp [State.crcPrefix, hfold]
  have hempty : ¬ bs.isEmpty = true := by simpa using hbs
  rw [State.crcAbsorb, if_neg hempty]
  simp only [hprefix, List.nil_append]
  rfl

theorem crcAbsorb_ctx (hfold : s.get (F.CRC_CFG_FOLD_MODE u) = 0) {bs : List Byte} (hbs : bs ≠ []) :
    (s.crcAbsorb u bs).get (F.CRC_CTX_CTX u) = crcFeed (s.crcUnit u) (s.get (F.CRC_CTX_CTX u)) bs % 2 ^ 32 := by
  rw [crcAbsorb_plain hfold hbs, State.get, State.bump, word_set_other _ _ _ _ (crcCtx_ne_status u)]
  exact crcSet_ctx s u _

/-- A field of the status that is not COUNT stands. -/
theorem crcAbsorb_status (hfold : s.get (F.CRC_CFG_FOLD_MODE u) = 0) {bs : List Byte} (hbs : bs ≠ []) {f : Fld}
    (hf : f.reg = R.CRC_STATUS u) (hw : f.inWord = true) (hlo : 24 ≤ f.lo) : (s.crcAbsorb u bs).get f = s.get f := by
  have hapart : f.apart (F.CRC_STATUS_COUNT u) = true := by simp [Fld.apart, F.CRC_STATUS_COUNT, hlo]
  rw [crcAbsorb_plain hfold hbs, get_bump_apart _ _ _ _ hw hapart, crcSet_status _ _ _ hf]

theorem crcAbsorb_sram (s : State) (u : Nat) (bs : List Byte) : (s.crcAbsorb u bs).sram = s.sram := by
  unfold State.crcAbsorb
  extract_lets p t
  split
  · rfl
  · exact when_invariant (g := State.sram) (fun _ => by rfl) t _

theorem leBytes_ne_nil (n v : Nat) : leBytes (2 ^ n) v ≠ [] := by
  simp [leBytes]

end

theorem crcRefused_inWord (u : Fin 4) : (G.CRC_REFUSED u.val).bit.inWord = true := by revert u; decide
theorem crcRefused_apart_cnt (u : Fin 4) : (G.CRC_REFUSED u.val).bit.apart (G.CRC_REFUSED u.val).cnt = true := by revert u; decide
theorem crcCtx_apart_refused (u : Fin 4) : (F.CRC_CTX_CTX u.val).apart (G.CRC_REFUSED u.val).bit = true ∧
    (F.CRC_CTX_CTX u.val).apart (G.CRC_REFUSED u.val).cnt = true := by revert u; decide
theorem crcCfg_ne (u : Fin 4) : R.CRC_CFG u.val ≠ R.CRC_STATUS u.val ∧ R.CRC_BLKL u.val ≠ R.CRC_STATUS u.val := by
  revert u
  decide

/-- The claim that INIT takes, and the configuration that it writes. -/
theorem exec_crcInit_claimed {s : State} {u : Fin 4} (writer : Fin 17) {w : Word} (hf : s.crcForeign u.val writer.val = false)
    (hinit : w.getLsbD 31 = true) : Answers (exec (.crcInit u writer w) s) fun t =>
      t.get (F.CRC_STATUS_OWNER u.val) = writer.val ∧ t.get (F.CRC_STATUS_COUNT u.val) = 0 ∧
      t.has (F.CRC_STATUS_FOLDED u.val) = false ∧ t.word (R.CRC_CFG u.val) = w &&& 0x0FF00000#32 := by
  let c := s.crcConfigure u.val w
  have hcfg : (c.crcClaim u.val writer.val).word (R.CRC_CFG u.val) = w &&& 0x0FF00000#32 :=
    (crcClaim_sameWords c u.val writer.val _ (crcCfg_not_written_by_crcClaim u.val)).trans (word_setWord_self s _ _)
  have hfolded : (c.crcClaim u.val writer.val).has (F.CRC_STATUS_FOLDED u.val) = false := has_put_self _ _ _ rfl rfl
  refine .of_eq (exec_crcInit_taken writer hinit (.inl hf)) ⟨?_, ?_, ?_, ?_⟩
  · exact (crcSet_status _ _ _ rfl).trans (crcClaim_owner c u.val writer)
  · exact (crcSet_status _ _ _ rfl).trans (crcClaim_count c u.val writer.val)
  · rw [State.has, crcSet_status _ _ _ rfl]
    exact hfolded
  · exact (crcSet_sameWords _ u.val _ _ (crcCfg_not_written_by_crcSet u.val)).trans hcfg

/-- A block that is started: its length word is stored and the unit is busy. -/
theorem exec_crcBlock_started {s : State} {u : Fin 4} (writer : Fin 17) {w : Word} (hf : s.crcForeign u.val writer.val = false)
    (hbusy : s.has (F.CRC_STATUS_BUSY u.val) = false) (hgo : w.getLsbD 31 = true) (hlen : w.toNat % 2 ^ 16 ≠ 0) :
    exec (.crcBlock u writer w) s = .next ((s.setWord (R.CRC_BLKL u.val) (w &&& 0x6000FFFF#32)).put (F.CRC_STATUS_BUSY u.val) true) := by
  have hbars : ¬ (s.crcForeign u.val writer.val ||
      (w.getLsbD 31 && (s.has (F.CRC_STATUS_BUSY u.val) || w.toNat % 2 ^ 16 == 0))) = true := by
    simpa [hf, hbusy] using fun _ => hlen
  refine (if_neg hbars).trans ?_
  rw [hgo, when_true]

/-- The end of a block in the feeding mode. -/
theorem exec_crcBlockComplete_feed {s : State} {u : Fin 4} (hbusy : s.has (F.CRC_STATUS_BUSY u.val) = true)
    (hmode : s.get (F.CRC_BLKL_MODE u.val) = 0) : exec (.crcBlockComplete u) s = .next ((s.put (F.CRC_STATUS_BUSY u.val) false).crcAbsorb u.val
      (s.sramRead (s.get (F.CRC_BLKA_ADDR u.val)) (s.get (F.CRC_BLKL_LEN u.val)))) := by
  change execCrcBlockComplete u s = _
  unfold execCrcBlockComplete
  simp [hbusy, hmode]

/-- Settles O2. -/
theorem checkValueUnitsComputeAndRefuse : Obligations.CheckValueUnitsComputeAndRefuse := by
  refine ⟨fun s u writer w hf hinit => exec_crcInit_claimed writer hf hinit, fun s u writer w hbars hfold => ?_,
    fun s u writer w hbars => ?_, fun s u writer w hf hbusy hgo hlen => ?_, fun s u hbusy hmode hfold hlen => ?_, fun s u writer w hbars => ?_⟩
  · have hbars : ¬ s.crcBars u.val writer.val = true := by rw [hbars]; exact Bool.false_ne_true
    have hbs := leBytes_ne_nil (min 2 (s.get (F.CRC_CFG_WIDTH u.val))) w.toNat
    exact .of_eq (if_neg hbars) ⟨crcAbsorb_ctx hfold hbs, crcAbsorb_status hfold hbs rfl rfl le_rfl⟩
  · exact .of_eq (exec_crcFeed_refused w hbars) ⟨has_flag_self s _ (crcRefused_inWord u) rfl (crcRefused_apart_cnt u),
      get_flag_apart s _ _ rfl (crcCtx_apart_refused u).1 (crcCtx_apart_refused u).2⟩
  · refine .of_eq (exec_crcBlock_started writer hf hbusy hgo hlen) ⟨?_,
      has_put_self _ (F.CRC_STATUS_BUSY u.val) true rfl rfl, fun a ha => ?_⟩
    · rw [State.put, word_set_other _ _ _ _ (crcCfg_ne u).2, word_setWord_self]
    · obtain ⟨hlenw, hstatus⟩ : a ≠ R.CRC_BLKL u.val ∧ a ≠ R.CRC_STATUS u.val := by simpa using ha
      exact (word_set_other _ (F.CRC_STATUS_BUSY u.val) _ _ hstatus).trans (word_setWord_other s _ a _ hlenw)
  · have hcfg (f : Fld) (hf : f.reg = R.CRC_CFG u.val) := get_put_other (f := F.CRC_STATUS_BUSY u.val) s false (hf ▸ (crcCfg_ne u).1)
    have hctx : (s.put (F.CRC_STATUS_BUSY u.val) false).get (F.CRC_CTX_CTX u.val) = s.get (F.CRC_CTX_CTX u.val) :=
      get_put_other (f := F.CRC_STATUS_BUSY u.val) s false (crcCtx_ne_status u.val)
    have hunit : (s.put (F.CRC_STATUS_BUSY u.val) false).crcUnit u.val = s.crcUnit u.val := congrArg crcAlg (hcfg (F.CRC_CFG_ALG u.val) rfl)
    have hbs : s.sramRead (s.get (F.CRC_BLKA_ADDR u.val)) (s.get (F.CRC_BLKL_LEN u.val)) ≠ [] := by simpa [State.sramRead] using hlen
    refine .of_eq (exec_crcBlockComplete_feed hbusy hmode) ⟨?_, ?_, crcAbsorb_sram _ _ _⟩
    · rw [State.has, crcAbsorb_status ((hcfg (F.CRC_CFG_FOLD_MODE u.val) rfl).trans hfold) hbs rfl rfl (by simp [F.CRC_STATUS_BUSY])]
      exact has_put_self _ _ _ rfl rfl
    · rw [crcAbsorb_ctx ((hcfg (F.CRC_CFG_FOLD_MODE u.val) rfl).trans hfold) hbs, hunit, hctx]
  · have hbars : ¬ s.crcBars u.val writer.val = true := by rw [hbars]; exact Bool.false_ne_true
    let v := w.toNat % 2 ^ (s.crcUnit u.val).width
    refine .of_eq (if_neg hbars) ⟨?_,
      has_put_self _ (F.CRC_STATUS_FOLDED u.val) true rfl rfl, fun a ha => ?_⟩
    · exact (get_put_other (f := F.CRC_STATUS_FOLDED u.val) (s.crcSet u.val v) true (crcCtx_ne_status u.val)).trans (crcSet_ctx s u.val v)
    · obtain ⟨hctx, hres, hstatus⟩ : a ≠ R.CRC_CTX u.val ∧ a ≠ (F.CRC_RES_RESULT u.val).reg ∧ a ≠ R.CRC_STATUS u.val := by simpa using ha
      exact (word_set_other _ (F.CRC_STATUS_FOLDED u.val) _ _ hstatus).trans (crcSet_sameWords s u.val v a (by simpa using ⟨hctx, hres⟩))

end Sys2Proof.Machine
end

section
/-!
Proofs of the resets and of the supply's start-up (R61, R65, R631, R643): all but the supply steps begin with `State.restartAll`.
-/
namespace Sys2Proof.Machine

/-! What a restart leaves beside the words -/

section
variable (s : State)

theorem restartAll_sram : s.restartAll.sram = [] := when_invariant (g := State.sram) (fun _ => by rfl) _ _
theorem restartAll_now : s.restartAll.now = s.now := when_invariant (g := State.now) (fun _ => by rfl) _ _
theorem restartAll_seq : s.restartAll.seq = { traceRam := s.seq.traceRam } := when_invariant (g := State.seq) (fun _ => by rfl) _ _
theorem restartAll_bus : s.restartAll.bus = { step := s.bus.step, sinkPresent := s.bus.sinkPresent } :=
  when_invariant (g := State.bus) (fun _ => by rfl) _ _

theorem restartAll_sysState : s.restartAll.word R.SYS_STATE = 0#32 := by
  rw [restartAll_word s (by decide) (by decide)]
  decide

theorem isIn_romBoot_of_word {s : State} (h : s.word R.SYS_STATE = 0#32) : s.isIn .romBoot = true := by
  rw [isIn_iff, State.get, show F.SYS_STATE_STATE.reg = R.SYS_STATE from rfl, h]
  decide

/-- The boot timer and the clock check of a restart, at 40 ms and 5 ms (R455, R18). -/
def State.startBootTimers (s : State) : State := (s.arm .bootTimer (msec 40)).arm .clockCheck (msec 5)

theorem startBootTimers_deadlines :
    s.startBootTimers.deadline .bootTimer = some (s.now + msec 40) ∧ s.startBootTimers.deadline .clockCheck = some (s.now + msec 5) :=
  ⟨(deadline_arm_other _ _ _ _ (by decide)).trans (deadline_arm_self s _ _), deadline_arm_self _ _ _⟩

theorem ovpTimers_find? {x : TimerId} (hx : x ≠ .vinOvp) : s.ovpTimers.find? (fun e => decide (e.1 = x)) = none := by
  unfold State.ovpTimers
  split
  · simpa using hx.symm
  · rfl

/-- With the supplies standing a restart starts them, and otherwise it does not. -/
theorem restartAll_deadlines :
    (s.bus.step = 5 → s.restartAll.deadline .bootTimer = some (s.now + msec 40) ∧ s.restartAll.deadline .clockCheck = some (s.now + msec 5)) ∧
    (s.bus.step ≠ 5 → s.restartAll.deadline .bootTimer = none ∧ s.restartAll.deadline .clockCheck = none) := by
  unfold State.restartAll
  extract_lets fresh a b c
  have hstep : c.bus.step = s.bus.step := rfl
  have hnow : c.now = s.now := rfl
  have hstopped {x : TimerId} (hx : x ≠ .vinOvp) : c.deadline x = none := congrArg (Option.map Prod.snd) (ovpTimers_find? s hx)
  clear_value c
  constructor
  · intro h
    rw [decide_eq_true (hstep.trans h), ← hnow]
    exact startBootTimers_deadlines c
  · intro h
    rw [decide_eq_false (fun e => h (hstep.symm.trans e))]
    exact ⟨hstopped (by decide), hstopped (by decide)⟩

end

/-! Power-on reset, before and with the loss of the island's own supply (R643) -/

/-- Power-on reset without the island's supply having been lost. -/
def State.powerOn (s : State) : State :=
  let t := s.restartAll
  let t := { t with timers := [], seq := {}, bus := { step := 1 }, boot := { afterPor := true },
                    env := { t.env with vinOk := false, vinOvp := false, vinUp := true } }
  let t := forAll [R.SYS_STRAP, R.SYS_SEQ_PREV_HSEQ, R.SYS_SEQ_PREV_DSEQ, R.SQC_TRC_HEAD] (fun a u => u.setWord a 0) t
  t.setWord R.SYS_STATE 0

/-- What the loss of the island's own supply clears: the trip record, the count of Deep Winter and the island's data. -/
def State.forgetTrip (s : State) : State :=
  { (forAll [R.SAF_TRIP, R.SAF_TRIP_TBL, R.SAF_TRIP_TBH] (fun a u => u.setWord a 0) s).set F.SAF_STATUS_DW_COUNT 0 with island := {} }

theorem exec_powerOnReset (s : State) (vislLost : Bool) :
    exec (.powerOnReset vislLost) s = .next (if vislLost then s.powerOn.forgetTrip else s.powerOn) := rfl

theorem powerOn_sysState (s : State) : s.powerOn.word R.SYS_STATE = 0#32 := word_setWord_self _ _ _
theorem powerOn_tripWord (s : State) : s.powerOn.word R.SAF_TRIP = s.word R.SAF_TRIP := by
  refine (word_setWord_other _ _ _ _ (by decide)).trans ((forAll_setWord_word _ (fun _ => 0) _ (by decide)).trans ?_)
  exact restartAll_word_retained s (by decide)
theorem powerOn_flash (s : State) : s.powerOn.flash = s.flash := restartAll_flash s
theorem powerOn_otp (s : State) : s.powerOn.otp = s.otp := restartAll_otp s
theorem powerOn_sram (s : State) : s.powerOn.sram = [] := restartAll_sram s

theorem forgetTrip_sysState (s : State) : s.forgetTrip.word R.SYS_STATE = s.word R.SYS_STATE :=
  (word_set_other _ _ _ _ (by decide)).trans (forAll_setWord_word _ (fun _ => 0) s (by decide))
theorem forgetTrip_tripCode (s : State) : s.forgetTrip.get F.SAF_TRIP_CODE = 0 := by
  have h : s.forgetTrip.word R.SAF_TRIP = 0 :=
    (word_set_other _ _ _ _ (by decide)).trans (forAll_setWord_word_of_mem _ (fun _ => 0) s (by decide))
  rw [State.get, show F.SAF_TRIP_CODE.reg = R.SAF_TRIP from rfl, h]
  decide

/-- Settles O3: each reset begins with `State.restartAll`, whose words, timers and memories are known (`restartAll_word_retained`,
`restartAll_deadlines`, `restartAll_flash`, …); the supply's last step starts the same two timers (`startBootTimers_deadlines`). -/
theorem resetsAndSupplyStartBootAnew : Obligations.ResetsAndSupplyStartBootAnew := by
  refine ⟨fun s vislLost => .of_eq (exec_powerOnReset s vislLost) ?_, fun s => ?_, fun s => ?_, fun s h => ?_, fun s h => ?_⟩
  · cases vislLost with
    | false =>
      exact ⟨isIn_romBoot_of_word (powerOn_sysState s), powerOn_sysState s, rfl, rfl, rfl, rfl, by simp, fun _ => powerOn_tripWord s,
        powerOn_flash s, powerOn_otp s, powerOn_sram s⟩
    | true =>
      have hsys := (forgetTrip_sysState s.powerOn).trans (powerOn_sysState s)
      exact ⟨isIn_romBoot_of_word hsys, hsys, rfl, rfl, rfl, rfl, fun _ => forgetTrip_tripCode _, by simp,
        powerOn_flash s, powerOn_otp s, powerOn_sram s⟩
  · refine .of_eq rfl ⟨isIn_romBoot_of_word (restartAll_sysState s), rfl, rfl, rfl, restartAll_word_retained s (by decide),
      restartAll_flash s, restartAll_otp s⟩
  · obtain ⟨hpowered, hdark⟩ := restartAll_deadlines s.endEpoch
    have hsys : (s.endEpoch.restartAll.setWord R.SYS_STATE 0).word R.SYS_STATE = 0#32 := word_setWord_self _ _ _
    have hkept {a : Nat} (ha : a ∈ retainedWords) : (s.endEpoch.restartAll.setWord R.SYS_STATE 0).word a = s.endEpoch.word a :=
      (word_setWord_other _ _ a _ (by rintro rfl; exact absurd ha (by decide))).trans (restartAll_word_retained _ ha)
    refine .of_eq rfl ⟨hsys, isIn_romBoot_of_word hsys, ?_, ?_, ?_, ?_, hpowered, hdark, restartAll_flash s.endEpoch,
      restartAll_otp s.endEpoch⟩
    · rw [setWord_seq, restartAll_seq]
      rfl
    · rw [hkept (by decide), endEpoch_sameWords s _ (by decide)]
    · rw [State.get, hkept (by decide)]
      exact endEpoch_prevHseq s
    · rw [setWord_bus, restartAll_bus]
      rfl
  · exact .of_eq (if_pos h) ⟨rfl, fun _ _ => rfl⟩
  · obtain ⟨hboot, hclock⟩ := startBootTimers_deadlines { s with bus := { s.bus with step := 5 } }
    exact .of_eq ((if_neg (by omega)).trans (if_pos h)) ⟨rfl, hboot, hclock, fun _ _ => rfl⟩

end Sys2Proof.Machine
end

section
/-!
Reading through a chain of acts, component by component: a field is read from the register bank, a port from the ports, a deadline from
the running timers. An act that writes elsewhere drops out of the chain by the lemmas of `Laws/State`, whatever records it updates, so that
`simp` takes a claim about a state reached by a chain of acts back to the state it began in; which registers and bits a field has, `decide`
says.
-/
namespace Sys2Proof.Machine

/-! Fields -/

/-- The value of a field in a register bank. -/
def fieldOf (f : Fld) (m : Bank Word) : Nat := f.extract (bankRead regReset m f.reg)
/-- A register bank with a field written. -/
def withField (f : Fld) (v : Nat) (m : Bank Word) : Bank Word :=
  bankWrite regReset m f.reg (f.insert (bankRead regReset m f.reg) v)
/-- Two banks agree outside the words of `l`. -/
def SameBank (l : List Nat) (m m' : Bank Word) : Prop := ∀ a, a ∉ l → bankRead regReset m' a = bankRead regReset m a

section
variable (s : State) {f g : Fld} (v n : Nat) (b : Bool) (m : Bank Word)

@[simp] theorem word_eq_read (a : Nat) : s.word a = bankRead regReset s.regs a := rfl
@[simp] theorem get_eq_fieldOf : s.get f = fieldOf f s.regs := rfl
@[simp] theorem has_eq_fieldOf : s.has f = decide (fieldOf f s.regs ≠ 0) := rfl
@[simp] theorem bit_eq_fieldOf (i : Nat) : s.bit f i = (fieldOf f s.regs).testBit i := rfl
@[simp] theorem isIn_eq_fieldOf (d : DevState) : s.isIn d = decide (fieldOf F.SYS_STATE_STATE s.regs = d.code) := rfl

@[simp] theorem setWord_regs (a : Nat) (w : Word) : (s.setWord a w).regs = bankWrite regReset s.regs a w := rfl
@[simp] theorem set_regs : (s.set f v).regs = withField f v s.regs := rfl
@[simp] theorem put_regs : (s.put f b).regs = withField f (b2n b) s.regs := rfl
@[simp] theorem putBit_regs (i : Nat) : (s.putBit f i b).regs = withField f (setBitTo (fieldOf f s.regs) i b) s.regs := rfl
@[simp] theorem bump_regs : (s.bump f n).regs = withField f (satAdd (2 ^ f.width - 1) (fieldOf f s.regs) n) s.regs := rfl
@[simp] theorem flag_regs (g : Flag) : (s.flag g).regs =
    withField g.cnt (satAdd (2 ^ g.cnt.width - 1) (fieldOf g.cnt (withField g.bit 1 s.regs)) 1) (withField g.bit 1 s.regs) := rfl

theorem fieldOf_lt (f : Fld) : fieldOf f m < 2 ^ f.width := extract_lt f _
@[simp] theorem fieldOf_mod : fieldOf f m % 2 ^ f.width = fieldOf f m := Nat.mod_eq_of_lt (fieldOf_lt m f)

@[simp] theorem fieldOf_withField_apart (hg : g.inWord = true) (h : g.apart f = true) : fieldOf g (withField f v m) = fieldOf g m :=
  get_set_apart { regs := m } g f v hg h
@[simp] theorem fieldOf_withField_self (h : f.inWord = true) : fieldOf f (withField f v m) = v % 2 ^ f.width := get_set_self { regs := m } f v h
/-- A numeral that the field can hold. -/
@[simp] theorem numeral_mod_width (f : Fld) (n : Nat) (h : no_index (OfNat.ofNat n) < 2 ^ f.width) :
    no_index (OfNat.ofNat n) % 2 ^ f.width = OfNat.ofNat n := Nat.mod_eq_of_lt h
@[simp] theorem b2n_mod_width (f : Fld) (h : 1 ≤ f.width) : b2n b % 2 ^ f.width = b2n b :=
  Nat.mod_eq_of_lt ((by cases b <;> decide : b2n b < 2 ^ 1).trans_le (Nat.pow_le_pow_right (by decide) h))

/-- A saturating count stays within its field. -/
@[simp] theorem satAdd_mod_width (f : Fld) (a n : Nat) : satAdd (2 ^ f.width - 1) a n % 2 ^ f.width = satAdd (2 ^ f.width - 1) a n :=
  Nat.mod_eq_of_lt ((Nat.min_le_left _ _).trans_lt (Nat.sub_one_lt (Nat.two_pow_pos _).ne'))

@[simp] theorem bankRead_withField_other {a : Nat} (h : a ≠ f.reg) : bankRead regReset (withField f v m) a = bankRead regReset m a :=
  bankRead_write_other _ _ _ _ _ h

@[simp] theorem fieldOf_bankWrite_other {a : Nat} {w : Word} (h : f.reg ≠ a) : fieldOf f (bankWrite regReset m a w) = fieldOf f m :=
  congrArg f.extract (bankRead_write_other _ _ _ _ _ h)

@[simp] theorem sameWords_iff_sameBank {l : List Nat} {t : State} : SameWords l s t ↔ SameBank l s.regs t.regs := .rfl
@[simp] theorem SameBank.refl (l : List Nat) : SameBank l m m := fun _ _ => rfl
@[simp] theorem sameBank_withField {l : List Nat} {m' : Bank Word} (h : f.reg ∈ l) : SameBank l m (withField f v m') ↔ SameBank l m m' :=
  forall₂_congr fun a ha => by rw [withField, bankRead_write_other _ _ _ _ _ (ne_of_mem_of_not_mem h ha).symm]
@[simp] theorem sameBank_bankWrite {l : List Nat} {m' : Bank Word} {a : Nat} {w : Word} (h : a ∈ l) :
    SameBank l m (bankWrite regReset m' a w) ↔ SameBank l m m' :=
  forall₂_congr fun b hb => by rw [bankRead_write_other _ _ _ _ _ (ne_of_mem_of_not_mem h hb).symm]

@[simp] theorem b2n_eq_zero : b2n b = 0 ↔ b = false := by cases b <;> decide
@[simp] theorem b2n_true : b2n true = 1 := rfl
@[simp] theorem b2n_false : b2n false = 0 := rfl

end

@[simp] theorem setBitTo_testBit_self (v i : Nat) (b : Bool) : (setBitTo v i b).testBit i = b := by
  cases b with
  | true => simp [setBitTo]
  | false =>
    cases hv : v.testBit i with
    | false => simp [setBitTo, hv]
    | true =>
      have hsum : 2 ^ i + (v - 2 ^ i) = v := Nat.add_sub_cancel' (Nat.ge_two_pow_of_testBit hv)
      have hbit := Nat.testBit_two_pow_add_eq (v - 2 ^ i) i
      rw [hsum, hv] at hbit
      simpa [setBitTo, hv] using hbit.symm

/-- A device state of one list is none of a disjoint one. -/
theorem isAny_disjoint {s : State} {l l' : List DevState} (h : s.isAny l = true) (hd : ∀ d ∈ l, ∀ d' ∈ l', d ≠ d') : s.isAny l' = false := by
  obtain ⟨d, hmem, hin⟩ := List.any_eq_true.mp h
  exact List.any_eq_false.mpr fun d' hmem' => by simpa using isIn_unique hin (hd d hmem d' hmem')

/-! Ports and rails -/

section
variable (s : State) (k : PortId) (j : RailId)

@[simp] theorem port_eq_getElem : s.port k = s.ports[k.val] := rfl
@[simp] theorem rail_eq_getElem : s.rail j = s.rails[j.val] := rfl
@[simp] theorem modPort_ports (f : Port → Port) : (s.modPort k f).ports = s.ports.set k.val (f s.ports[k.val]) := rfl
@[simp] theorem modAtt_ports (f : AttPort → AttPort) :
    (s.modAtt k f).ports = s.ports.set k.val { s.ports[k.val] with att := f s.ports[k.val].att } := rfl
@[simp] theorem modPd_ports (f : PdPort → PdPort) :
    (s.modPd k f).ports = s.ports.set k.val { s.ports[k.val] with pd := f s.ports[k.val].pd } := rfl
@[simp] theorem modCnv_ports (f : CnvPort → CnvPort) :
    (s.modCnv k f).ports = s.ports.set k.val { s.ports[k.val] with cnv := f s.ports[k.val].cnv } := rfl
@[simp] theorem modChk_ports (f : ChkPort → ChkPort) :
    (s.modChk k f).ports = s.ports.set k.val { s.ports[k.val] with chk := f s.ports[k.val].chk } := rfl
@[simp] theorem modBrk_ports (f : BrkPort → BrkPort) :
    (s.modBrk k f).ports = s.ports.set k.val { s.ports[k.val] with brk := f s.ports[k.val].brk } := rfl
@[simp] theorem modPins_ports (f : PortPins → PortPins) :
    (s.modPins k f).ports = s.ports.set k.val { s.ports[k.val] with pins := f s.ports[k.val].pins } := rfl
@[simp] theorem modRail_rails (f : Rail → Rail) : (s.modRail j f).rails = s.rails.set j.val (f s.rails[j.val]) := rfl

end

/-! Timers and time -/

/-- The end of a timer in a list of running ones. -/
def timerIn (l : List (TimerId × Nat)) (i : TimerId) : Option Nat := (l.find? fun e => decide (e.1 = i)).map (·.2)
/-- A list of running timers without one of them. -/
def timersWithout (l : List (TimerId × Nat)) (i : TimerId) : List (TimerId × Nat) := l.filter fun e => decide (e.1 ≠ i)

/-- The time base at a time, from the time at which it was 0. -/
def timeBase (zero : Option Nat) (now : Nat) : Nat := zero.elim 0 fun z => (now - z) % 2 ^ 64

theorem timeBase_lt (zero : Option Nat) (now : Nat) : timeBase zero now < 2 ^ 64 := by
  cases zero with
  | none => exact Nat.two_pow_pos 64
  | some z => exact Nat.mod_lt _ (Nat.two_pow_pos 64)

section
variable (s : State) (l : List (TimerId × Nat)) {i j : TimerId} (n : Nat)

@[simp] theorem tb_eq_timeBase : s.tb = timeBase s.tbZero s.now := by
  unfold State.tb
  cases s.tbZero <;> rfl
@[simp] theorem deadline_eq_timerIn : s.deadline i = timerIn s.timers i := rfl
@[simp] theorem armed_eq_timerIn : s.armed i = (timerIn s.timers i).isSome := rfl
@[simp] theorem disarm_timers : (s.disarm i).timers = timersWithout s.timers i := rfl
@[simp] theorem arm_timers : (s.arm i n).timers = (i, s.now + n) :: timersWithout s.timers i := rfl
@[simp] theorem advanceTo_now : (s.advanceTo n).now = max s.now n := rfl

@[simp] theorem timerIn_cons_self : timerIn ((i, n) :: l) i = some n := by simp [timerIn]
@[simp] theorem timerIn_cons_other (h : i ≠ j) : timerIn ((j, n) :: l) i = timerIn l i := by simp [timerIn, h.symm]
@[simp] theorem timerIn_without_self : timerIn (timersWithout l i) i = none := deadline_disarm_self { timers := l } i
@[simp] theorem timerIn_without_other (h : i ≠ j) : timerIn (timersWithout l j) i = timerIn l i :=
  deadline_disarm_other { timers := l } j i h

/-- The state in which the end of an armed timer acts: time has come to it, and it runs no more. -/
@[simp] def State.elapsed (s : State) (i : TimerId) : State := (s.advanceTo ((s.deadline i).getD 0)).disarm i

/-- Where a timer runs, its end acts (log entry 3). -/
theorem onElapse_of_armed {s : State} (h : s.armed i = true) (act : State → State) : s.onElapse i act = act (s.elapsed i) := by
  obtain ⟨d, hd⟩ := Option.isSome_iff_exists.mp h
  rw [onElapse_eq s i act d hd, State.elapsed, hd, Option.getD_some]

end

/-! The collector -/

section
variable (s : State) (r : FaultRec) (code source : Nat) {f : Fld}

@[simp] theorem enqueue_fieldOf (hf : f.inWord = true) (h : f.apart F.FLT_STATUS_DROPPED = true) :
    fieldOf f (s.enqueue r).regs = fieldOf f s.regs := by
  unfold State.enqueue
  extract_lets q
  split
  · rfl
  · split
    · rfl
    · exact get_bump_apart s f F.FLT_STATUS_DROPPED 1 hf h
@[simp] theorem enqueue_cap : (s.enqueue r).cap = s.cap := by
  unfold State.enqueue
  extract_lets q
  split
  · rfl
  · split <;> rfl

@[simp] theorem warn_fieldOf (h : f.reg ∉ logRegs) : fieldOf f (s.warn code).regs = fieldOf f s.regs := (warn_logged (.refl s)).get f h
@[simp] theorem warn_ports : (s.warn code).ports = s.ports := (warn_logged (.refl s)).ports
@[simp] theorem warn_timers : (s.warn code).timers = s.timers := (warn_logged (.refl s)).timers
@[simp] theorem warn_now : (s.warn code).now = s.now := (warn_logged (.refl s)).now
@[simp] theorem warn_island : (s.warn code).island = s.island := (warn_logged (.refl s)).island
@[simp] theorem warn_tbZero : (s.warn code).tbZero = s.tbZero := (warn_logged (.refl s)).tbZero
@[simp] theorem warn_env : (s.warn code).env = s.env := (warn_logged (.refl s)).env
@[simp] theorem warn_pins : (s.warn code).pins = s.pins := (warn_logged (.refl s)).pins
@[simp] theorem warn_rails : (s.warn code).rails = s.rails := (warn_logged (.refl s)).rails
@[simp] theorem warn_seq : (s.warn code).seq = s.seq := (warn_logged (.refl s)).seq
@[simp] theorem warn_axl : (s.warn code).axl = s.axl := (warn_logged (.refl s)).axl
@[simp] theorem warn_bus : (s.warn code).bus = s.bus := (warn_logged (.refl s)).bus
@[simp] theorem warn_ffl : (s.warn code).ffl = s.ffl := (warn_logged (.refl s)).ffl
@[simp] theorem warn_boot : (s.warn code).boot = s.boot := (warn_logged (.refl s)).boot
@[simp] theorem warn_msr : (s.warn code).msr = s.msr := (warn_logged (.refl s)).msr
@[simp] theorem warn_hub : (s.warn code).hub = s.hub := (warn_logged (.refl s)).hub
@[simp] theorem warn_streams : (s.warn code).streams = s.streams := (warn_logged (.refl s)).streams
@[simp] theorem warn_his : (s.warn code).his = s.his := (warn_logged (.refl s)).his
@[simp] theorem warn_upd : (s.warn code).upd = s.upd := (warn_logged (.refl s)).upd
@[simp] theorem warn_sec : (s.warn code).sec = s.sec := (warn_logged (.refl s)).sec
@[simp] theorem warn_flash : (s.warn code).flash = s.flash := (warn_logged (.refl s)).flash
@[simp] theorem warn_otp : (s.warn code).otp = s.otp := (warn_logged (.refl s)).otp
@[simp] theorem warn_sram : (s.warn code).sram = s.sram := (warn_logged (.refl s)).sram
@[simp] theorem post_fieldOf (h : f.reg ∉ logRegs) : fieldOf f (s.post source code).regs = fieldOf f s.regs := (post_logged (.refl s)).get f h
@[simp] theorem post_ports : (s.post source code).ports = s.ports := (post_logged (.refl s)).ports
@[simp] theorem post_timers : (s.post source code).timers = s.timers := (post_logged (.refl s)).timers
@[simp] theorem post_now : (s.post source code).now = s.now := (post_logged (.refl s)).now
@[simp] theorem post_tbZero : (s.post source code).tbZero = s.tbZero := (post_logged (.refl s)).tbZero
@[simp] theorem post_env : (s.post source code).env = s.env := (post_logged (.refl s)).env
@[simp] theorem post_pins : (s.post source code).pins = s.pins := (post_logged (.refl s)).pins
@[simp] theorem post_rails : (s.post source code).rails = s.rails := (post_logged (.refl s)).rails
@[simp] theorem post_seq : (s.post source code).seq = s.seq := (post_logged (.refl s)).seq
@[simp] theorem post_axl : (s.post source code).axl = s.axl := (post_logged (.refl s)).axl
@[simp] theorem post_bus : (s.post source code).bus = s.bus := (post_logged (.refl s)).bus
@[simp] theorem post_ffl : (s.post source code).ffl = s.ffl := (post_logged (.refl s)).ffl
@[simp] theorem post_boot : (s.post source code).boot = s.boot := (post_logged (.refl s)).boot
@[simp] theorem post_msr : (s.post source code).msr = s.msr := (post_logged (.refl s)).msr
@[simp] theorem post_hub : (s.post source code).hub = s.hub := (post_logged (.refl s)).hub
@[simp] theorem post_streams : (s.post source code).streams = s.streams := (post_logged (.refl s)).streams
@[simp] theorem post_his : (s.post source code).his = s.his := (post_logged (.refl s)).his
@[simp] theorem post_upd : (s.post source code).upd = s.upd := (post_logged (.refl s)).upd
@[simp] theorem post_sec : (s.post source code).sec = s.sec := (post_logged (.refl s)).sec
@[simp] theorem post_flash : (s.post source code).flash = s.flash := (post_logged (.refl s)).flash
@[simp] theorem post_otp : (s.post source code).otp = s.otp := (post_logged (.refl s)).otp
@[simp] theorem post_sram : (s.post source code).sram = s.sram := (post_logged (.refl s)).sram

/-- A warning sets the warnings' flag. -/
@[simp] theorem warn_flag : fieldOf G.FLT_WARN.bit (s.warn code).regs = 1 := by
  rw [State.warn, flag_regs]
  simp (disch := decide)

end

@[simp] theorem answers_next {t : State} {p : State → Prop} : Answers (.next t) p ↔ p t :=
  ⟨fun ⟨_, h, hp⟩ => Host.Outcome.next.inj h ▸ hp, fun hp => ⟨t, rfl, hp⟩⟩

/-- A command that is the end of a timer, where that timer runs. -/
theorem Answers.of_elapse {c : Instr} {s : State} {i : TimerId} {act : State → State} {p : State → Prop} (h : s.armed i = true)
    (hexec : exec c s = .next (s.onElapse i act)) (hp : p (act (s.elapsed i))) : Answers (exec c s) p :=
  ⟨_, hexec.trans (congrArg _ (onElapse_of_armed h act)), hp⟩

/-- The same, where what the end leaves there is known. -/
theorem Answers.of_elapse_eq {c : Instr} {s t : State} {i : TimerId} {act : State → State} {p : State → Prop} (h : s.armed i = true)
    (hexec : exec c s = .next (s.onElapse i act)) (hact : act (s.elapsed i) = t) (hp : p t) : Answers (exec c s) p :=
  .of_elapse h hexec (hact ▸ hp)

theorem Answers.of_exec {c : Instr} {s : State} {o : Out} {p : State → Prop} (h : exec c s = o) (ho : Answers o p) : Answers (exec c s) p := h ▸ ho

end Sys2Proof.Machine
end

section
/-!
Proofs of the capture ring (R141, R155, R441): its states and what each command writes.
-/
namespace Sys2Proof.Machine

/-- A trigger of an armed ring (R141, R155). -/
theorem captureTrigger_armed {s : State} (h : s.get F.CAP_STATUS_STATE = 1) : s.captureTrigger.get F.CAP_STATUS_STATE = 2 ∧
    s.captureTrigger.get F.CAP_STATUS_TRIG_WORD = s.cap.next % 2 ^ F.CAP_STATUS_TRIG_WORD.width ∧
    s.captureTrigger.cap = { s.cap with left := ringWords - s.preWords, trigCfg := s.word R.CAP_TRIG } ∧
    s.captureTrigger.get F.CAP_TBL_TB = s.tb % 2 ^ 32 ∧ s.captureTrigger.get F.CAP_TBH_TB = s.tb / 2 ^ 32 % 2 ^ 32 ∧
    s.captureTrigger.has G.CAP_TRIGGERED.bit = true := by
  rw [State.captureTrigger, if_pos h]
  simp (disch := decide +revert) [State.preWords, F.CAP_TBL_TB.eq_1, F.CAP_TBH_TB.eq_1]

/-- A trigger that comes too late is noted as missed and changes neither the ring nor its state (R141). -/
theorem captureTrigger_late {s : State} (h : 2 ≤ s.get F.CAP_STATUS_STATE) : s.captureTrigger.has G.CAP_MISSED.bit = true ∧
    s.captureTrigger.get F.FLT_LAST_CODE = 0x250A ∧ s.captureTrigger.get F.CAP_STATUS_STATE = s.get F.CAP_STATUS_STATE ∧
    s.captureTrigger.cap = s.cap := by
  rw [State.captureTrigger, if_neg (by omega), if_neg (by omega), State.noteFault]
  simp (disch := decide +revert)

/-- Settles O22: arming, the end and the release write the ring's two words; force and trigger are `State.captureTrigger`, whose two cases
`captureTrigger_armed` and `captureTrigger_late` say. -/
theorem captureStatesFollow : Obligations.CaptureStatesFollow := by
  refine ⟨fun s w hst harm hforce => ?_, fun s w hst harm hforce => ?_, fun s hst => ?_, fun s hst => ?_, fun s hst => ?_, fun s hst hleft => ?_,
    fun s hst hsp => ?_⟩
  · refine .of_exec (o := execCaptureArm w s) rfl ?_
    simp at hst harm hforce
    simp (disch := decide +revert) [execCaptureArm, hst, harm, hforce]
  · refine .of_exec (o := execCaptureArm w s) rfl ?_
    simp at hst harm hforce
    simp (disch := decide +revert) [execCaptureArm, hst, harm, hforce]
  · obtain ⟨hstate, hword, hcap, -, -, hflag⟩ := captureTrigger_armed hst
    exact .of_eq rfl ⟨hstate, hword, by rw [hcap], by rw [hcap], hflag⟩
  · obtain ⟨hstate, hword, -, hlow, hhigh, hflag⟩ := captureTrigger_armed hst
    have htb : s.tb < 2 ^ 64 := tb_eq_timeBase s ▸ timeBase_lt _ _
    exact .of_eq rfl ⟨hstate, hword, hlow, hhigh.trans (Nat.mod_eq_of_lt (by omega)), hflag⟩
  · exact .of_eq rfl (captureTrigger_late hst)
  · refine .of_exec (o := execCaptureFull s) rfl ?_
    simp at hst hleft
    simp (disch := decide +revert) [execCaptureFull, hst, hleft]
  · refine .of_exec (o := execCaptureRelease s) rfl ?_
    simp at hst hsp
    simp (disch := decide +revert) [execCaptureRelease, hst, hsp]

end Sys2Proof.Machine
end

section
/-!
Frames by field: which fields an act that many commands share may write. Where `Within` says which words stand, `Writes` says it of every
field of a word, so that a flag or a cause can be followed through an act that writes its neighbours.
-/
namespace Sys2Proof.Machine

/-- A field that shares no bit with the fields of `l`. -/
def Fld.outside (g : Fld) (l : List Fld) : Bool := g.inWord && l.all g.apart
/-- A whole register word as one field. -/
def wholeWord (a : Nat) : Fld := ⟨a, 0, 32⟩
/-- `t` reads as `s` in every field that shares no bit with the fields of `l`. -/
def Writes (l : List Fld) (s t : State) : Prop := ∀ g : Fld, Fld.outside g l = true → t.get g = s.get g

section
variable {l l' : List Fld} {s₀ s t : State}

theorem outside_iff {g : Fld} : Fld.outside g l = true ↔ g.inWord = true ∧ ∀ f ∈ l, g.apart f = true := by
  simp [Fld.outside]

theorem setWord_eq_set (s : State) (a : Nat) (w : Word) : s.setWord a w = s.set (wholeWord a) w.toNat := by
  have h : ∀ v : Word, (wholeWord a).insert v w.toNat = w := by
    intro v
    refine BitVec.eq_of_getLsbD_eq fun i hi => ?_
    rw [insert_getLsbD _ _ _ _ hi, BitVec.testBit_toNat]
    simp [wholeWord, hi]
  rw [State.set, h]
  rfl

theorem Writes.refl (s : State) : Writes l s s := fun _ _ => rfl
theorem Writes.trans (h : Writes l s₀ s) (k : Writes l s t) : Writes l s₀ t := fun g hg => (k g hg).trans (h g hg)
theorem Writes.mono (h : Writes l s t) (hl : l ⊆ l') : Writes l' s t := fun g hg =>
  h g (outside_iff.mpr ⟨(outside_iff.mp hg).1, fun f hf => (outside_iff.mp hg).2 f (hl hf)⟩)
theorem Writes.has (h : Writes l s t) (g : Fld) (hg : Fld.outside g l = true) : t.has g = s.has g := by rw [State.has, h g hg, State.has]
theorem Writes.isIn (h : Writes l s t) (hg : Fld.outside F.SYS_STATE_STATE l = true) (d : DevState) : t.isIn d = s.isIn d := by
  rw [State.isIn, h _ hg, State.isIn]

theorem Writes.set {f : Fld} {v : Nat} (h : Writes l s₀ s) (hf : f ∈ l) : Writes l s₀ (s.set f v) :=
  h.trans fun g hg => get_set_apart s g f v (outside_iff.mp hg).1 ((outside_iff.mp hg).2 f hf)
theorem Writes.put {f : Fld} {b : Bool} (h : Writes l s₀ s) (hf : f ∈ l) : Writes l s₀ (s.put f b) := h.set hf
theorem Writes.putBit {f : Fld} {i : Nat} {b : Bool} (h : Writes l s₀ s) (hf : f ∈ l) : Writes l s₀ (s.putBit f i b) := h.set hf
theorem Writes.bump {f : Fld} {n : Nat} (h : Writes l s₀ s) (hf : f ∈ l) : Writes l s₀ (s.bump f n) := h.set hf
theorem Writes.flag {g : Flag} (h : Writes l s₀ s) (hb : g.bit ∈ l) (hc : g.cnt ∈ l) : Writes l s₀ (s.flag g) := (h.put hb).bump hc
theorem Writes.setWord {a : Nat} {w : Word} (h : Writes l s₀ s) (ha : wholeWord a ∈ l) : Writes l s₀ (s.setWord a w) := by
  rw [setWord_eq_set]
  exact h.set ha
/-- An act that changes no register. -/
theorem Writes.same (h : Writes l s₀ s) (hr : t.regs = s.regs) : Writes l s₀ t :=
  h.trans fun g _ => by rw [State.get, State.word, hr, State.get, State.word]
theorem Writes.disarm {x : TimerId} (h : Writes l s₀ s) : Writes l s₀ (s.disarm x) := h
theorem Writes.arm {x : TimerId} {n : Nat} (h : Writes l s₀ s) : Writes l s₀ (s.arm x n) := h
theorem Writes.disarmAll {xs : List TimerId} (h : Writes l s₀ s) : Writes l s₀ (s.disarmAll xs) := h
theorem Writes.advanceTo {n : Nat} (h : Writes l s₀ s) : Writes l s₀ (s.advanceTo n) := h
theorem Writes.modPort {k : PortId} {f : Port → Port} (h : Writes l s₀ s) : Writes l s₀ (s.modPort k f) := h
theorem Writes.modAtt {k : PortId} {f : AttPort → AttPort} (h : Writes l s₀ s) : Writes l s₀ (s.modAtt k f) := h
theorem Writes.modPd {k : PortId} {f : PdPort → PdPort} (h : Writes l s₀ s) : Writes l s₀ (s.modPd k f) := h
theorem Writes.modCnv {k : PortId} {f : CnvPort → CnvPort} (h : Writes l s₀ s) : Writes l s₀ (s.modCnv k f) := h
theorem Writes.modChk {k : PortId} {f : ChkPort → ChkPort} (h : Writes l s₀ s) : Writes l s₀ (s.modChk k f) := h
theorem Writes.modBrk {k : PortId} {f : BrkPort → BrkPort} (h : Writes l s₀ s) : Writes l s₀ (s.modBrk k f) := h
theorem Writes.modRail {j : RailId} {f : Rail → Rail} (h : Writes l s₀ s) : Writes l s₀ (s.modRail j f) := h
theorem Writes.ite {c : Prop} [Decidable c] (hs : Writes l s₀ s) (ht : Writes l s₀ t) : Writes l s₀ (if c then s else t) := by
  split
  · exact hs
  · exact ht
theorem Writes.when {c : Bool} {act : State → State} (h : Writes l s₀ s) (ha : ∀ t, Writes l s₀ t → Writes l s₀ (act t)) :
    Writes l s₀ (s.when c act) := by
  unfold State.when
  exact .ite (ha s h) h
theorem Writes.forAll {α : Type} {act : α → State → State} {xs : List α} (h : Writes l s₀ s)
    (ha : ∀ x ∈ xs, ∀ t, Writes l s₀ t → Writes l s₀ (act x t)) : Writes l s₀ (forAll xs act s) := by
  induction xs generalizing s with
  | nil => exact h
  | cons x xs ih => exact ih (s := act x s) (ha x List.mem_cons_self s h) fun y hy => ha y (List.mem_cons_of_mem x hy)

/-! The log -/

/-- The fields that a classification, a capture trigger and an event write. -/
def logFields : List Fld :=
  [F.FLT_LAST_PROMOTED, F.FLT_LAST_STATE, F.FLT_LAST_CODE, F.FLT_LAST_TBL_TB_LO, F.FLT_LAST_TBH_TB_HI, F.FLT_STATUS_DROPPED,
    F.CAP_STATUS_STATE, F.CAP_STATUS_TRIG_WORD, F.CAP_START_PRE_SHORT, F.CAP_START_START_WORD, F.CAP_TBL_TB, F.CAP_TBH_TB,
    G.CAP_TRIGGERED.bit, G.CAP_TRIGGERED.cnt, G.CAP_MISSED.bit, G.CAP_MISSED.cnt, G.FLT_WARN.bit, G.FLT_WARN.cnt,
    F.SYS_SEQ_NEXT_DSEQ_NEXT_DSEQ, F.EVT_WR_WR, F.EVT_RD_RD, F.EVT_STATUS_LOST, G.HIF_EVT_LOST.bit, G.HIF_EVT_LOST.cnt,
    F.MGT_STATUS_LOST 0, F.MGT_STATUS_LOST 1]

section
variable (h : Writes l s₀ s) (hl : logFields ⊆ l)
include h hl

theorem Writes.enqueue {r : FaultRec} : Writes l s₀ (s.enqueue r) := by
  unfold State.enqueue
  extract_lets q
  exact .ite (h.same rfl) (.ite (h.same rfl) (h.bump (hl (by simp [logFields]))))
theorem Writes.noteFault {code : Nat} {p : Bool} : Writes l s₀ (s.noteFault code p) := by
  unfold State.noteFault
  extract_lets st a b c
  have ha : Writes l s₀ a := h.put (hl (by simp [logFields]))
  have hb : Writes l s₀ b := (ha.set (hl (by simp [logFields]))).set (hl (by simp [logFields]))
  have hc : Writes l s₀ c := (hb.set (hl (by simp [logFields]))).set (hl (by simp [logFields]))
  exact hc.enqueue hl
theorem Writes.captureTrigger : Writes l s₀ s.captureTrigger := by
  unfold State.captureTrigger
  extract_lets st pre a b c src
  have ha : Writes l s₀ a :=
    ((h.set (hl (by simp [logFields]))).set (hl (by simp [logFields]))).put (hl (by simp [logFields]))
  have hb : Writes l s₀ b := ha.set (hl (by simp [logFields]))
  have hc : Writes l s₀ c := (hb.set (hl (by simp [logFields]))).set (hl (by simp [logFields]))
  refine .ite (Writes.flag (hc.same rfl) (hl (by simp [logFields])) (hl (by simp [logFields]))) (.ite h ?_)
  exact ((h.flag (hl (by simp [logFields])) (hl (by simp [logFields]))).noteFault hl).flag (hl (by simp [logFields])) (hl (by simp [logFields]))
theorem Writes.recordFault {code : Nat} {p : Bool} : Writes l s₀ (s.recordFault code p) :=
  (h.noteFault hl).when fun _ ht => ht.captureTrigger hl
theorem Writes.warn {code : Nat} : Writes l s₀ (s.warn code) :=
  (h.recordFault hl).flag (hl (by simp [logFields])) (hl (by simp [logFields]))
theorem Writes.warnEvtLost : Writes l s₀ s.warnEvtLost := by
  unfold State.warnEvtLost
  split
  · refine Writes.warn ?_ hl
    exact h.same rfl
  · refine .ite h (Writes.warn ?_ hl)
    exact h.same rfl
theorem Writes.loseEvents : Writes l s₀ s.loseEvents := by
  unfold State.loseEvents
  extract_lets n a b src c
  have hb : Writes l s₀ b := (h.set (hl (by simp [logFields]))).bump (hl (by simp [logFields]))
  have hc : Writes l s₀ c := hb.same rfl
  exact (hc.forAll fun _ _ _ ht => ht.flag (hl (by simp [logFields])) (hl (by simp [logFields]))).warnEvtLost hl
theorem Writes.loseForFn {f : Fin 2} : Writes l s₀ (s.loseForFn f) := by
  have hf : F.MGT_STATUS_LOST f.val ∈ l := hl (by revert f; decide)
  unfold State.loseForFn
  extract_lets m n idx
  exact .ite h (Writes.bump (h.same rfl) hf)
theorem Writes.post {source code : Nat} : Writes l s₀ (s.post source code) := by
  have hd : Writes l s₀ s.takeDseq.2 := Writes.same (h.set (f := F.SYS_SEQ_NEXT_DSEQ_NEXT_DSEQ) (hl (by simp [logFields]))) rfl
  unfold State.post State.postEvent
  extract_lets e a ring src b c d
  have hb : Writes l s₀ b := Writes.same hd rfl
  have hc : Writes l s₀ c := hb.set (hl (by simp [logFields]))
  have hd : Writes l s₀ d := hc.when fun _ ht => ht.loseEvents hl
  exact .ite ((hd.loseForFn hl).loseForFn hl) h
end

end

end Sys2Proof.Machine
end

section
/-!
Frames by field of the acts that shut ports, rails and links, of the transitions and of the reaction to a fatal fault.
-/
namespace Sys2Proof.Machine

/-- The fields of port k that stopping its converter and leaving its contract write. -/
def clearFields (k : PortId) : List Fld :=
  [F.CNV_STATUS_MODE k, F.CNV_STATUS_CLIM k, F.CNV_STATUS_PKLIM k, F.CNV_STATUS_RAMP k, F.CNV_STATUS_HEADROOM k,
    F.ATT_STATUS_VCONN_ON k, F.PD_STATUS_VCONN_SRC k, F.PD_STATUS_PDO k, F.PD_STATUS_REV k,
    F.PD_STATUS_EPR k, F.PD_STATUS_CONTRACT k, F.PD_STATUS_AUTH k, F.PD_STATUS_MISMATCH k, F.PD_STATUS_PE k, F.PD_STATUS_DATA_ROLE k,
    wholeWord (R.PD_CONTRACT k), wholeWord (R.PD_RDO k), F.ATT_STATUS_RP k]

/-- The fields of port k that shutting it writes. -/
def shutFields (k : PortId) : List Fld :=
  clearFields k ++ [F.CNV_DROP_DROP k, F.BRK_STATUS_STATE k, F.ATT_STATUS_VBUS_ON k, F.ATT_STATUS_ORIENT k, F.ATT_STATUS_RA k,
    wholeWord (R.ATT_CABLE k), F.ATT_STATUS_SEATED k, F.ATT_STATUS_ASTATE k]

/-- The fields of rail j that releasing it writes. -/
def railFields (j : RailId) : List Fld :=
  [F.SQ_STATUS_EN j, F.SQ_STATUS_MG_DIS j, F.SQ_STATUS_RSTATE j, F.SQ_MGST_DRIVING j, F.SQ_MGST_MOVING j, F.SQ_MGST_POS j,
    F.SQ_MGST_UV_ARMED j, F.SQ_MGST_UVW_ACT j, F.SQ_MG_TARGET j]

/-- The fields that a trace entry writes. -/
def traceFields : List Fld := [F.SQC_TRC_HEAD_NEXT, F.SQC_TRC_HEAD_TOTAL]

/-- The fields that the sequencer's trace, its phase and the reset outputs are kept in. -/
def sequencerFields : List Fld :=
  [F.SQC_TRC_HEAD_NEXT, F.SQC_TRC_HEAD_TOTAL, wholeWord R.SQC_TRC_HEAD, F.SQC_STATUS_PHASE, F.SQC_STATUS_GATE_WAIT,
    F.SQC_RST_ST_RELEASED, F.SQC_RST_ST_STRETCHING]

/-- The fields of the hub that taking port k off it writes. -/
def linkFields (k : PortId) : List Fld :=
  [F.HUB_PSTAT_DATA_ON k, F.HUB_PSTAT_LINK k, F.HUB_PSTAT_SPEED k] ++ (List.range 16).map F.HUB_PRI_EN

def upstreamFields : List Fld := [F.HUB_STATUS_UP_CONF, F.HUB_STATUS_MF0_CONF, F.HUB_STATUS_UP_SPEED]

section
variable {l : List Fld} {s₀ s : State}

section
variable {k : PortId} (h : Writes l s₀ s) (hl : clearFields k ⊆ l)
include h hl

theorem Writes.stopConverter : Writes l s₀ (s.stopConverter k) := by
  unfold State.stopConverter
  extract_lets now a b
  have ha : Writes l s₀ a := h.modCnv
  have hb : Writes l s₀ b :=
    ((ha.set (hl (by simp [clearFields]))).put (hl (by simp [clearFields]))).put (hl (by simp [clearFields]))
  exact .ite ((hb.put (hl (by simp [clearFields]))).put (hl (by simp [clearFields]))).disarm h

theorem Writes.vconnOff : Writes l s₀ (s.vconnOff k) := (h.put (hl (by simp [clearFields]))).put (hl (by simp [clearFields]))

theorem Writes.clearPd : Writes l s₀ (s.clearPd k) := by
  unfold State.clearPd
  extract_lets a b c d e f g i j m n ref
  have hd : Writes l s₀ d := h
  have he : Writes l s₀ e := ((hd.set (hl (by simp [clearFields]))).set (hl (by simp [clearFields]))).put (hl (by simp [clearFields]))
  have hf : Writes l s₀ f := ((he.put (hl (by simp [clearFields]))).set (hl (by simp [clearFields]))).put (hl (by simp [clearFields]))
  have hg : Writes l s₀ g := .ite hf (hf.set (hl (by simp [clearFields])))
  have hi : Writes l s₀ i := (hg.setWord (hl (by simp [clearFields]))).setWord (hl (by simp [clearFields]))
  have hj : Writes l s₀ j := hi.vconnOff hl
  have hm : Writes l s₀ m := .ite hj (hj.put (hl (by simp [clearFields])))
  have hn : Writes l s₀ n := .ite hm (hm.set (hl (by simp [clearFields])))
  exact hn

end

theorem clearFields_shut {k : PortId} (hl : shutFields k ⊆ l) : clearFields k ⊆ l :=
  fun _ hf => hl (List.mem_append_left _ hf)

section
variable {k : PortId} (h : Writes l s₀ s) (hl : shutFields k ⊆ l)
include h hl

theorem Writes.openSwitch : Writes l s₀ (s.openSwitch k) := by
  unfold State.openSwitch
  extract_lets vb vc i hi driven safe a b c d
  have hb : Writes l s₀ b := h
  have hd : Writes l s₀ d := (hb.set (f := F.BRK_STATUS_STATE k) (hl (by simp [shutFields, clearFields]))).put (hl (by simp [shutFields, clearFields]))
  exact .ite (.ite (hd.set (hl (by simp [shutFields, clearFields]))) hd) h

theorem Writes.hardOpen : Writes l s₀ (s.hardOpen k) := ((h.openSwitch hl).stopConverter (clearFields_shut hl)).clearPd (clearFields_shut hl)

theorem Writes.softOpen : Writes l s₀ (s.softOpen k) := (((h.stopConverter (clearFields_shut hl)).openSwitch hl).disarmAll).modPd

theorem Writes.settleOpen : Writes l s₀ (s.settleOpen k) := by
  unfold State.settleOpen
  extract_lets st a
  have ha : Writes l s₀ a := h
  exact .ite ha (ha.set (hl (by simp [shutFields, clearFields])))

theorem Writes.holdOpen {untilDetach : Bool} : Writes l s₀ (s.holdOpen k untilDetach) := (h.hardOpen hl).modBrk.settleOpen hl

theorem Writes.partFrom : Writes l s₀ (s.partFrom k) :=
  ((((h.set (hl (by simp [shutFields, clearFields]))).put (hl (by simp [shutFields, clearFields]))).setWord (hl (by simp [shutFields, clearFields]))).when
    fun _ ht => ht.put (hl (by simp [shutFields, clearFields]))).modAtt

theorem Writes.disableAttach : Writes l s₀ (s.disableAttach k) :=
  (((h.disarmAll.modAtt.vconnOff (clearFields_shut hl)).set (hl (by simp [shutFields, clearFields]))).set (hl (by simp [shutFields, clearFields]))).partFrom hl

theorem Writes.shutPort : Writes l s₀ (s.shutPort k) := ((h.hardOpen hl).disableAttach hl).disarmAll

end

theorem Writes.traceEntry {code idx mv : Nat} (h : Writes l s₀ s) (hl : traceFields ⊆ l) : Writes l s₀ (s.trace code idx mv) := by
  unfold State.trace
  extract_lets n w0 w1 ram src a
  have ha : Writes l s₀ a := h.same rfl
  exact (ha.set (hl (by simp [traceFields]))).bump (hl (by simp [traceFields]))

section
variable (h : Writes l s₀ s) (hl : sequencerFields ⊆ l)
include h hl

theorem Writes.assertReset {n : Fin 4} : Writes l s₀ (s.assertReset n) :=
  ((h.putBit (hl (by simp [sequencerFields]))).putBit (hl (by simp [sequencerFields]))).disarm

theorem Writes.assertWatching {j : RailId} : Writes l s₀ (s.assertWatching j) :=
  h.forAll fun _ _ _ ht => ht.when fun _ hu => hu.assertReset hl

theorem Writes.trace {code idx mv : Nat} : Writes l s₀ (s.trace code idx mv) :=
  h.traceEntry fun _ hf => hl (by simp [traceFields, sequencerFields] at hf ⊢; tauto)

theorem Writes.traceRail {code : Nat} {j : RailId} : Writes l s₀ (s.traceRail code j) := h.trace hl

theorem Writes.traceAsIn {u : State} : Writes l s₀ (s.traceAsIn u) := by
  have hs : Writes l s₀ { s with seq := { s.seq with traceRam := u.seq.traceRam } } := h.same rfl
  exact hs.setWord (hl (by simp [sequencerFields]))

theorem Writes.setPhase {p : Nat} : Writes l s₀ (s.setPhase p) := by
  unfold State.setPhase
  exact .ite h ((h.set (hl (by simp [sequencerFields]))).trace hl)

theorem Writes.releaseRail {j : RailId} {discharge : Bool} {rstate : Nat} (hj : railFields j ⊆ l) :
    Writes l s₀ (s.releaseRail j discharge rstate) := by
  unfold State.releaseRail
  extract_lets was a b c d e f g i
  have hb : Writes l s₀ b := (h.disarmAll.put (hj (by simp [railFields]))).put (hj (by simp [railFields]))
  have hc : Writes l s₀ c := hb.set (hj (by simp [railFields]))
  have hd : Writes l s₀ d :=
    (((hc.put (hj (by simp [railFields]))).put (hj (by simp [railFields]))).set (hj (by simp [railFields]))).put (hj (by simp [railFields]))
  have hg : Writes l s₀ g := ((hd.put (hj (by simp [railFields]))).modRail).set (hj (by simp [railFields]))
  exact (Writes.ite (hg.trace hl) hg).assertWatching hl

theorem Writes.winterTable {phase code : Nat} {clockRuns : Bool} (hrails : ∀ j, railFields j ⊆ l) :
    Writes l s₀ (s.winterTable phase code clockRuns) := by
  unfold State.winterTable
  extract_lets before a src b c d keepsOutput kept released e f
  have ha : Writes l s₀ a := h.disarmAll
  have hb : Writes l s₀ b := ha.same rfl
  have hd : Writes l s₀ d := ((hb.put (hl (by simp [sequencerFields]))).setPhase hl).trace hl
  have he : Writes l s₀ e := hd.forAll fun j _ _ ht =>
    .ite (ht.disarmAll.when fun _ hu => hu.set (hrails j (by simp [railFields]))) (ht.releaseRail hl (hrails j)).modRail
  have hf : Writes l s₀ f := he.forAll fun _ _ _ ht => .ite (ht.putBit (hl (by simp [sequencerFields]))) (ht.assertReset hl)
  exact .ite hf (hf.traceAsIn hl)

end

theorem Writes.dropUpstream (h : Writes l s₀ s) (hl : upstreamFields ⊆ l) : Writes l s₀ s.dropUpstream :=
  (((h.put (hl (by simp [upstreamFields]))).put (hl (by simp [upstreamFields]))).set (hl (by simp [upstreamFields]))).same rfl

theorem Writes.hubPortOff {k : PortId} (h : Writes l s₀ s) (hl : linkFields k ⊆ l) : Writes l s₀ (s.hubPortOff k) := by
  have hpri : ∀ n ∈ List.range 16, F.HUB_PRI_EN n ∈ l := fun n hn => hl (List.mem_append_right _ (List.mem_map_of_mem hn))
  unfold State.hubPortOff
  extract_lets gone was a b c
  have hb : Writes l s₀ b := h.same rfl
  have hc : Writes l s₀ c := hb.forAll fun n hn _ ht => .ite (ht.put (hpri n hn)) ht
  exact ((hc.put (hl (by simp [linkFields]))).set (hl (by simp [linkFields]))).set (hl (by simp [linkFields]))

/-! Winter -/

/-- The fields of a transition. -/
def transitionFields : List Fld :=
  [F.SYS_STATE_STATE, F.SYS_STATE_PREV, F.SYS_STATE_ENTRY, F.BUD_STATUS_GRANTED] ++
    (modulePorts.map F.BUD_GRANT_CEIL ++ modulePorts.map F.CNV_ILIM_ALLOC) ++ logFields

/-- The fields that the acts of entering Winter write. -/
def winterActFields : List Fld :=
  modulePorts.flatMap shutFields ++ (allRails.flatMap railFields ++ sequencerFields) ++ (modulePorts.flatMap linkFields ++ upstreamFields)

/-- The fields that entering Winter writes besides its acts and the transition. -/
def winterNoteFields : List Fld :=
  [F.SAF_STATUS_WINTER_OFF, F.FFL_STATUS_BUSY, F.UPD_HO_PHASE, F.UPD_HO_ENGINE, G.UPD_ABANDONED.bit, G.UPD_ABANDONED.cnt]

/-- The fields that entering Winter writes. -/
def winterFields : List Fld := winterNoteFields ++ transitionFields ++ winterActFields

theorem Writes.transition {d : DevState} {n : Nat} (h : Writes l s₀ s) (hl : transitionFields ⊆ l) : Writes l s₀ (s.transition d n) := by
  have hlog : logFields ⊆ l := fun f hf => hl (List.mem_append_right _ hf)
  have hceil : ∀ k ∈ modulePorts, F.BUD_GRANT_CEIL k ∈ l := fun k hk =>
    hl (List.mem_append_left _ (List.mem_append_right _ (List.mem_append_left _ (List.mem_map_of_mem hk))))
  have halloc : ∀ k ∈ modulePorts, F.CNV_ILIM_ALLOC k ∈ l := fun k hk =>
    hl (List.mem_append_left _ (List.mem_append_right _ (List.mem_append_right _ (List.mem_map_of_mem hk))))
  unfold State.transition
  extract_lets a b src c e f
  have ha : Writes l s₀ a :=
    ((h.set (hl (by simp [transitionFields]))).set (hl (by simp [transitionFields]))).set (hl (by simp [transitionFields]))
  have hb : Writes l s₀ b := .ite ha (ha.post hlog)
  have hc : Writes l s₀ c := hb.same rfl
  have he : Writes l s₀ e := hc.disarmAll
  have hf : Writes l s₀ f :=
    .ite he ((he.forAll fun k hk _ ht => (ht.set (hceil k hk)).set (halloc k hk)).set (hl (by simp [transitionFields])))
  clear_value f
  cases d
  case summer => exact hf.disarm.arm
  case winter => exact hf.when fun _ ht => ht.arm
  all_goals exact hf

theorem mem_allRails (j : RailId) : j ∈ allRails := by
  revert j
  decide

theorem Writes.winterActs (h : Writes l s₀ s) (hl : winterActFields ⊆ l) : Writes l s₀ s.winterActs := by
  simp only [winterActFields, List.append_subset] at hl
  obtain ⟨⟨hports, hrails, hseq⟩, hlinks, hup⟩ := hl
  have hport : ∀ k ∈ modulePorts, shutFields k ⊆ l := fun k hk _ hf => hports (List.mem_flatMap_of_mem hk hf)
  have hrail : ∀ j, railFields j ⊆ l := fun j _ hf => hrails (List.mem_flatMap_of_mem (mem_allRails j) hf)
  have hlink : ∀ k ∈ modulePorts, linkFields k ⊆ l := fun k hk _ hf => hlinks (List.mem_flatMap_of_mem hk hf)
  unfold State.winterActs
  extract_lets a src b c d
  have ha : Writes l s₀ a := h.forAll fun k hk _ ht => ht.shutPort (hport k hk)
  have hb : Writes l s₀ b := ha.same rfl
  have hc : Writes l s₀ c := hb.winterTable hseq hrail
  have hd : Writes l s₀ d := hc.forAll fun k hk _ ht => ht.hubPortOff (hlink k hk)
  exact .ite hd (hd.dropUpstream hup)

theorem Writes.fflTrigger {code : Nat} {commit : Bool} (h : Writes l s₀ s) (hl : F.FFL_STATUS_BUSY ∈ l) :
    Writes l s₀ (s.fflTrigger code commit) := by
  unfold State.fflTrigger
  extract_lets r ahead behind a
  have ha : Writes l s₀ a := h.put hl
  exact ha.same rfl

theorem Writes.abandonHandover (h : Writes l s₀ s) (hl : winterNoteFields ++ logFields ⊆ l) : Writes l s₀ s.abandonHandover := by
  obtain ⟨hnote, hlog⟩ := List.append_subset.mp hl
  unfold State.abandonHandover
  extract_lets u a
  have ha : Writes l s₀ a := h.same rfl
  refine .ite ?_ h
  exact ((((ha.set (hnote (by simp [winterNoteFields]))).set (hnote (by simp [winterNoteFields]))).post hlog).warn hlog).flag
    (hnote (by simp [winterNoteFields])) (hnote (by simp [winterNoteFields]))

theorem Writes.winterEntry {n code : Nat} (h : Writes l s₀ s) (hl : winterFields ⊆ l) : Writes l s₀ (s.winterEntry n code) := by
  obtain ⟨hnt, hacts⟩ := List.append_subset.mp hl
  obtain ⟨hnote, htrans⟩ := List.append_subset.mp hnt
  have hlog : logFields ⊆ l := (List.append_subset.mp htrans).2
  unfold State.winterEntry
  extract_lets off noted
  have hoff : Writes l s₀ off := h.put (hnote (by simp [winterNoteFields]))
  have hnoted : Writes l s₀ noted := hoff.fflTrigger (hnote (by simp [winterNoteFields]))
  exact ((hnoted.transition htrans).winterActs hacts).abandonHandover (List.append_subset.mpr ⟨hnote, hlog⟩)

theorem Writes.lateWinter (h : Writes l s₀ s) (hl : winterFields ⊆ l) : Writes l s₀ s.lateWinter := by
  obtain ⟨hnt, hacts⟩ := List.append_subset.mp hl
  simp only [winterActFields, List.append_subset] at hacts
  obtain ⟨⟨hports, -, -⟩, hlinks, -⟩ := hacts
  unfold State.lateWinter
  extract_lets q a b c e
  have ha : Writes l s₀ a := h.same rfl
  have hb : Writes l s₀ b := ha.transition (List.append_subset.mp hnt).2
  have hc : Writes l s₀ c := hb.forAll fun k hk _ ht =>
    (ht.shutPort fun _ hf => hports (List.mem_flatMap_of_mem hk hf)).hubPortOff fun _ hf => hlinks (List.mem_flatMap_of_mem hk hf)
  exact hc.same rfl

/-- The reaction to a fatal fault while a first fatal code is held. -/
theorem Writes.fatal {code : Nat} (h : Writes l s₀ s) (hcode : s.get F.FLT_FATAL_CODE ≠ 0) (hl : winterFields ⊆ l) :
    Writes l s₀ (s.fatal code) := by
  obtain ⟨hnt, hacts⟩ := List.append_subset.mp hl
  have hparts := hacts
  simp only [winterActFields, List.append_subset] at hparts
  obtain ⟨⟨hports, hrails, hseq⟩, -, -⟩ := hparts
  have hport : ∀ k ∈ modulePorts, shutFields k ⊆ l := fun k hk _ hf => hports (List.mem_flatMap_of_mem hk hf)
  have hrail : ∀ j, railFields j ⊆ l := fun j _ hf => hrails (List.mem_flatMap_of_mem (mem_allRails j) hf)
  have hoffMem : F.SAF_STATUS_WINTER_OFF ∈ l := hnt (by simp [winterNoteFields])
  have hbusy : F.FFL_STATUS_BUSY ∈ l := hnt (by simp [winterNoteFields])
  unfold State.fatal
  rw [if_neg hcode]
  extract_lets a noted acts c shut e due off
  have hnoted : Writes l s₀ noted := (Writes.put h hoffMem).fflTrigger hbusy
  have hacts : Writes l s₀ acts := hnoted.winterActs hacts
  have hoff : Writes l s₀ off := Writes.put h hoffMem
  have hshut : Writes l s₀ shut := hoff.forAll fun k hk _ ht => ht.shutPort (hport k hk)
  have hdue : Writes l s₀ due := hshut.same rfl
  refine .ite (.ite ?_ (h.winterEntry hl)) (.ite (.ite ?_ (h.winterEntry hl)) (.ite (hshut.winterTable hseq hrail) h))
  · exact hacts.same rfl
  · exact hdue.when fun _ ht => ht.disarm.lateWinter hl

end

/-! A fatal fault raised -/

/-- The state with the first fatal code held. -/
def State.holdFatalCode (s : State) (code : Nat) : State := if s.get F.FLT_FATAL_CODE = 0 then s.set F.FLT_FATAL_CODE code else s

/-- The fields that raising a fatal fault writes. -/
def fatalFields : List Fld := [G.FLT_FATAL.bit, G.FLT_FATAL.cnt, F.FLT_FATAL_CODE] ++ winterFields

section
variable {s : State} {code : Nat}

theorem holdFatalCode_code (s : State) (code : Nat) : (s.holdFatalCode code).get F.FLT_FATAL_CODE =
    if s.get F.FLT_FATAL_CODE = 0 then code % 2 ^ 16 else s.get F.FLT_FATAL_CODE := by
  unfold State.holdFatalCode
  split
  · exact get_set_self s F.FLT_FATAL_CODE code (by decide)
  · rfl

theorem holdFatalCode_ne (h : code % 2 ^ 16 ≠ 0) : (s.holdFatalCode code).get F.FLT_FATAL_CODE ≠ 0 := by
  rw [holdFatalCode_code]
  split
  · exact h
  · assumption

theorem fatal_holdFatalCode (h : code % 2 ^ 16 ≠ 0) : s.fatal code = (s.holdFatalCode code).fatal code := by
  have hne := holdFatalCode_ne (s := s) h
  conv_rhs => rw [State.fatal, if_neg hne]
  rfl

theorem fatal_writes (h : code % 2 ^ 16 ≠ 0) : Writes winterFields (s.holdFatalCode code) (s.fatal code) := by
  rw [fatal_holdFatalCode h]
  exact (Writes.refl _).fatal (holdFatalCode_ne h) fun _ hf => hf

variable (hc : faultClass code = 3) (hp : s.sourceAbsent (faultSource code) = false)
include hc hp

theorem raise_fatal_writes : Writes fatalFields s (s.raise code) := by
  have hne : code % 2 ^ 16 ≠ 0 := by
    unfold faultClass at hc
    omega
  rw [raise_fatal hc hp]
  have hlog : Writes fatalFields s (s.recordFault code false) := 
    (Writes.refl s).recordFault fun f hf => by simp [fatalFields, winterFields, transitionFields, hf]
  have hflag : Writes fatalFields s ((s.recordFault code false).flag G.FLT_FATAL) := hlog.flag (by simp [fatalFields]) (by simp [fatalFields])
  refine Writes.trans (s := ((s.recordFault code false).flag G.FLT_FATAL).holdFatalCode code) ?_
    ((fatal_writes hne).mono (List.subset_append_right _ _))
  exact .ite (hflag.set (by simp [fatalFields])) hflag

theorem raise_fatal_held : (s.raise code).has G.FLT_FATAL.bit = true ∧
    (s.raise code).get F.FLT_FATAL_CODE = if s.get F.FLT_FATAL_CODE = 0 then code % 2 ^ 16 else s.get F.FLT_FATAL_CODE := by
  have hne : code % 2 ^ 16 ≠ 0 := by
    unfold faultClass at hc
    omega
  have hlog : Writes logFields s (s.recordFault code false) := (Writes.refl s).recordFault fun _ hf => hf
  have hcode : ((s.recordFault code false).flag G.FLT_FATAL).get F.FLT_FATAL_CODE = s.get F.FLT_FATAL_CODE := by
    rw [get_flag_apart _ _ _ (by decide) (by decide) (by decide), hlog _ (by decide)]
  rw [raise_fatal hc hp]
  constructor
  · rw [(fatal_writes hne).has _ (by decide +kernel)]
    unfold State.holdFatalCode
    split
    · rw [State.set, State.has, get_setWord_other _ _ _ _ (by decide)]
      exact has_flag_self _ _ (by decide) (by decide) (by decide)
    · exact has_flag_self _ _ (by decide) (by decide) (by decide)
  · rw [fatal_writes hne _ (by decide +kernel), holdFatalCode_code, hcode]

end

end Sys2Proof.Machine
end

section
/-!
Proofs of the safety island (R450 to R478): the clock checks, the watchdog, its timers and heartbeats, memory errors and the cold restart.
-/
namespace Sys2Proof.Machine

/-! What a trip leaves -/

/-- The fields that noting a trip writes. -/
def tripNoteFields : List Fld :=
  [F.SAF_TRIP_PREV_STATE, F.SAF_TRIP_DETAIL, F.SAF_TRIP_CODE, F.SAF_TRIP_TBL_TB_LO, F.SAF_TRIP_TBH_TB_HI, F.SAF_STATUS_DW_COUNT,
    F.SAF_STATUS_ISL_OFF, F.SAF_STATUS_ISTATE, F.SAF_STATUS_OPEN, wholeWord R.PAGE_SEL, F.SYS_STATE_HANDOVER]

/-- The fields that a trip writes. -/
def tripFields : List Fld :=
  tripNoteFields ++ transitionFields ++
    (allPorts.flatMap shutFields ++ (allRails.flatMap railFields ++ sequencerFields) ++ (modulePorts.flatMap linkFields ++ upstreamFields))

theorem trip_writes {s : State} (code detail : Nat) (h : s.isIn .deepWinter = false) : Writes tripFields s (s.trip code detail) := by
  have hnote : tripNoteFields ⊆ tripFields := fun f hf => by simp [tripFields, hf]
  have htrans : transitionFields ⊆ tripFields := fun f hf => by simp [tripFields, hf]
  have hport : ∀ k ∈ allPorts, shutFields k ⊆ tripFields := fun k hk f hf => by
    have := List.mem_flatMap_of_mem hk hf
    simp [tripFields, this]
  have hseq : sequencerFields ⊆ tripFields := fun f hf => by simp [tripFields, hf]
  have hrail : ∀ j, railFields j ⊆ tripFields := fun j f hf => by
    have := List.mem_flatMap_of_mem (mem_allRails j) hf
    simp [tripFields, this]
  have hlink : ∀ k ∈ modulePorts, linkFields k ⊆ tripFields := fun k hk f hf => by
    have := List.mem_flatMap_of_mem hk hf
    simp [tripFields, this]
  have hup : upstreamFields ⊆ tripFields := fun f hf => by simp [tripFields, hf]
  have hnoted : Writes tripFields s (s.tripNoted code detail) := by
    unfold State.tripNoted
    extract_lets t isl
    have ht : Writes tripFields s t := by
      unfold t State.tripRecorded
      extract_lets a b c
      have ha : Writes tripFields s a :=
        (((Writes.refl s).set (hnote (by simp [tripNoteFields]))).set (hnote (by simp [tripNoteFields]))).set (hnote (by simp [tripNoteFields]))
      have hb : Writes tripFields s b := (ha.set (hnote (by simp [tripNoteFields]))).set (hnote (by simp [tripNoteFields]))
      have hc : Writes tripFields s c :=
        ((hb.bump (hnote (by simp [tripNoteFields]))).put (hnote (by simp [tripNoteFields]))).set (hnote (by simp [tripNoteFields]))
      exact hc.put (hnote (by simp [tripNoteFields]))
    refine Writes.setWord ?_ (hnote (by simp [tripNoteFields]))
    exact ht.same rfl
  have hacts : Writes tripFields s ((s.tripNoted code detail).tripActs code) := by
    unfold State.tripActs
    extract_lets a b c
    have ha : Writes tripFields s a := (hnoted.transition htrans).put (hnote (by simp [tripNoteFields]))
    have hb : Writes tripFields s b := ha.forAll fun k hk _ ht => ht.shutPort (hport k hk)
    have hc : Writes tripFields s c := hb.winterTable hseq hrail
    exact (hc.dropUpstream hup).forAll fun k hk _ ht => ht.hubPortOff (hlink k hk)
  rw [trip_eq code detail h]
  unfold State.tripEnd
  extract_lets b p i u t
  have ht : Writes tripFields s t := hacts.same rfl
  exact .ite ht.arm ht

/-- The state after a trip outside Deep Winter, with a code and a detail that their fields hold. -/
theorem trip_facts {s : State} (code detail : Nat) (h : s.isIn .deepWinter = false) (hcode : code < 2 ^ 16) (hdetail : detail < 2 ^ 4) :
    (s.trip code detail).isIn .deepWinter = true ∧ (s.trip code detail).get F.SAF_TRIP_CODE = code ∧
    (s.trip code detail).get F.SAF_TRIP_DETAIL = detail ∧ (s.trip code detail).has F.SAF_STATUS_ISL_OFF = true := by
  obtain ⟨hin, -, -⟩ := trip_entered code detail h
  obtain ⟨hc, hd, -, hoff⟩ := trip_recorded code detail h
  exact ⟨hin, hc.trans (Nat.mod_eq_of_lt hcode), hd.trans (Nat.mod_eq_of_lt hdetail), hoff⟩

/-! Clock checks and watchdog -/

/-- The state of a clock cross-check before a trip: the count, the verdict and the clock's faults noted (R450). -/
def State.clockChecked (s : State) (count : BitVec 10) (strobe amplitude lock ok : Bool) : State :=
  let t := (s.when strobe fun t => t.noteXchk count.toNat).put F.CLK_STATUS_XCHK_OK ok
  let t := (t.when amplitude fun t => t.put F.CLK_STATUS_XTAL_OK false).when lock fun t => t.put F.CLK_STATUS_ROOT_LOCK false
  { t with island := { t.island with clockStopped := t.island.clockStopped || !strobe } }

theorem exec_clockCrossCheck {s : State} (count : BitVec 10) (strobe amplitude lock : Bool) (h : s.tbZero ≠ none) :
    exec (.clockCrossCheck count strobe amplitude lock) s =
      let ok := strobe && Nat.ble 295 count.toNat && Nat.ble count.toNat 360
      let t := s.clockChecked count strobe amplitude lock ok
      .next (if ok then t else t.trip (if amplitude then 0xE201 else if lock then 0xE202 else 0xE203) 0) :=
  if_neg (by simpa using h)

/-- The words of a clock cross-check. -/
theorem clockChecked_facts (s : State) (count : BitVec 10) (strobe amplitude lock ok : Bool) :
    (s.clockChecked count strobe amplitude lock ok).isIn .deepWinter = s.isIn .deepWinter ∧
    (s.clockChecked count strobe amplitude lock ok).has F.CLK_STATUS_XCHK_OK = ok ∧
    (strobe = true → (s.clockChecked count strobe amplitude lock ok).get F.SAF_XCHK_LAST = count.toNat) ∧
    (strobe = true → (s.clockChecked count strobe amplitude lock ok).island.xFresh = false) ∧
    SameWords [R.CLK_STATUS, R.SAF_XCHK] s (s.clockChecked count strobe amplitude lock ok) := by
  have hlt : count.toNat % 2 ^ F.SAF_XCHK_LAST.width = count.toNat := Nat.mod_eq_of_lt count.isLt
  cases strobe <;> cases amplitude <;> cases lock <;> simp (disch := decide +revert) [State.clockChecked, State.noteXchk, hlt]

/-- The state after a watchdog period began (R453). -/
theorem startPeriod_facts (s : State) : s.startPeriod.island.answered = false ∧
    s.startPeriod.get F.SAF_WDCHAL_SEQ = (s.get F.SAF_WDCHAL_SEQ + 1) % 2 ^ 16 ∧
    s.startPeriod.get F.SAF_WDCHAL_CHAL = lfsrNext s.island.lfsr % 2 ^ 16 ∧ s.startPeriod.has F.SAF_STATUS_OPEN = false ∧
    s.startPeriod.deadline .wdClosed = some (s.now + islandCycles 9600) ∧ SameWords [R.SAF_STATUS, R.SAF_WDCHAL] s s.startPeriod := by
  simp (disch := decide +revert) [State.startPeriod, State.newChallenge]
  exact ⟨rfl, rfl⟩

theorem elapsed_isIn (s : State) (i : TimerId) (d : DevState) : (s.elapsed i).isIn d = s.isIn d := rfl

/-- A timer whose end trips the part, outside Deep Winter. -/
theorem Answers.trip_of_elapse {c : Instr} {s : State} {i : TimerId} {detail : Nat} (h : s.armed i = true) (hdw : s.isIn .deepWinter = false)
    (hexec : exec c s = .next (s.onElapse i fun t => t.trip 0xE402 detail)) (hdetail : detail < 2 ^ 4) :
    Answers (exec c s) fun t => t.isIn .deepWinter = true ∧ t.get F.SAF_TRIP_CODE = 0xE402 ∧ t.get F.SAF_TRIP_DETAIL = detail := by
  obtain ⟨hin, hcode, hdet, -⟩ := trip_facts (s := s.elapsed i) 0xE402 detail hdw (by decide) hdetail
  exact .of_elapse h hexec ⟨hin, hcode, hdet⟩

/-- Settles O9: a check writes its count and verdict (`clockChecked_facts`) and trips where it fails (`trip_facts`); the watchdog's
commands are its timers' ends, of which a period's start is `State.startPeriod`. -/
theorem islandClockAndWatchdogChecksAct : Obligations.IslandClockAndWatchdogChecksAct := by
  have hxcode (a l : Bool) : (if a then 0xE201 else if l then 0xE202 else 0xE203) < 2 ^ 16 := by revert a l; decide
  refine ⟨fun s count strobe amplitude lock htb hstrobe hlo hhi => ?_, fun s count strobe amplitude lock htb hstrobe hdw => ?_,
    fun s count strobe amplitude lock htb hstrobe hout hdw => ?_, fun s count h => ?_, fun s count htb hout hrom => ?_, fun s hdw => ?_,
    fun s harm => ?_, fun s harm hans => ?_, fun s harm hans hdw => ?_, fun s w hst hshut hans hfault => ?_, fun s w hst hfault => ?_⟩
  · obtain ⟨-, hok, hlast, hfresh, hsame⟩ := clockChecked_facts s count strobe amplitude lock true
    refine .of_eq (exec_clockCrossCheck _ _ _ _ htb) ?_
    simp only [hstrobe, Nat.ble_eq_true_of_le hlo, Nat.ble_eq_true_of_le hhi, Bool.and_self, if_true]
    subst hstrobe
    exact ⟨hok, hlast rfl, hfresh rfl, hsame⟩
  · obtain ⟨hin, -⟩ := clockChecked_facts s count strobe amplitude lock false
    obtain ⟨hdw', hcode, -, hoff⟩ := trip_facts _ 0 (hin.trans hdw) (hxcode amplitude lock) (by decide)
    refine .of_eq (exec_clockCrossCheck _ _ _ _ htb) ?_
    simp only [hstrobe, Bool.false_and, Bool.false_eq_true, if_false]
    subst hstrobe
    exact ⟨hdw', hcode, hoff⟩
  · obtain ⟨hin, hok, hlast, -⟩ := clockChecked_facts s count strobe amplitude lock false
    obtain ⟨hdw', hcode, -, -⟩ := trip_facts _ 0 (hin.trans hdw) (hxcode amplitude lock) (by decide)
    have hwrites := trip_writes (if amplitude then 0xE201 else if lock then 0xE202 else 0xE203) 0 (hin.trans hdw)
    have hbad : (strobe && Nat.ble 295 count.toNat && Nat.ble count.toNat 360) = false := by
      rw [hstrobe, Bool.true_and, Bool.and_eq_false_iff, ← Bool.not_eq_true, ← Bool.not_eq_true, Nat.ble_eq, Nat.ble_eq]
      omega
    refine .of_eq (exec_clockCrossCheck _ _ _ _ htb) ?_
    simp only [hbad, Bool.false_eq_true, if_false]
    exact ⟨hdw', (hwrites.has _ (by decide +kernel)).trans hok, (hwrites _ (by decide +kernel)).trans (hlast hstrobe), hcode⟩
  · exact .of_eq (if_pos (by simpa using h)) rfl
  · refine .of_eq (if_neg ?_) ?_
    · simp [htb]
      omega
    · simp at hrom
      simp [State.classify, hrom, State.find]
  · obtain ⟨hin, hcode, -, hoff⟩ := trip_facts 0xE401 0 hdw (by decide) (by decide)
    obtain ⟨-, -, hprev, -⟩ := trip_recorded 0xE401 0 hdw
    refine .of_eq rfl ⟨hin, hcode, hprev, hoff, ?_⟩
    rw [trip_eq _ _ hdw, tripEnd_engines]
  · refine .of_elapse harm rfl ?_
    simp (disch := decide +revert)
  · refine .of_elapse harm rfl ?_
    obtain ⟨hstarted, hseq, hchal, hopen, hclosed, hsame⟩ := startPeriod_facts (s.elapsed .wdPeriod)
    rw [if_pos (show (s.elapsed .wdPeriod).island.answered = true from hans)]
    exact ⟨hstarted, hseq, hchal, hopen, hclosed, hsame⟩
  · obtain ⟨hin, hcode, hdetail, -⟩ := trip_facts (s := s.elapsed .wdPeriod) 0xE402 1 hdw (by decide) (by decide)
    refine .of_elapse harm rfl ?_
    rw [if_neg (show ¬ (s.elapsed .wdPeriod).island.answered = true by simpa using hans)]
    exact ⟨hin, hcode, hdetail⟩
  · refine .of_eq ((if_neg (by omega)).trans (if_pos hst)) ?_
    simp [hshut, hans, hfault]
  · refine .of_eq (if_pos hst) ?_
    simp (disch := decide +revert) [hfault, State.startPeriod, State.newChallenge]

end Sys2Proof.Machine
end

section
/-!
What the acts of a fatal fault leave alone beside the registers: time, the island's data, the memories; and no engine begins to run.
-/
namespace Sys2Proof.Machine

/-- Time, the outside world, the data of the island, the boot, the frame in work, the link, the bus, the streams, the history,
the sessions and the update stand, and the memories; no engine begins to run, and only port engines may stop. -/
structure Beside (s t : State) : Prop where
  now : t.now = s.now
  tbZero : t.tbZero = s.tbZero
  env : t.env = s.env
  island : t.island = s.island
  paused : t.upd.paused = s.upd.paused
  engines : ∀ e, t.engine e = true → s.engine e = true
  others : ∀ e, e = 0 ∨ 9 ≤ e → s.engine e = true → t.engine e = true
  flash : t.flash = s.flash
  otp : t.otp = s.otp
  sram : t.sram = s.sram
  boot : { t.boot with engRun := 0 } = { s.boot with engRun := 0 }
  upd : { t.upd with step := 0, left := [], passed := [] } = { s.upd with step := 0, left := [], passed := [] }
  idle : s.upd.step = 0 → t.upd.step = 0
  current : t.hif.current = s.hif.current
  answer : t.hif.answer = s.hif.answer
  exec : t.hif.exec = s.hif.exec
  axl : t.axl = s.axl
  bus : t.bus = s.bus
  streams : t.streams = s.streams
  his : t.his = s.his
  tmb : t.tmb = s.tmb
  sec : t.sec = s.sec
  bud : t.bud = s.bud
  free : t.free = s.free

section
variable {s₀ s t : State}

theorem Beside.refl (s : State) : Beside s s := ⟨rfl, rfl, rfl, rfl, rfl, fun _ h => h, fun _ _ h => h, rfl, rfl, rfl, rfl, rfl, fun h => h, rfl, rfl, rfl, rfl, rfl, rfl, rfl, rfl, rfl, rfl, rfl⟩
theorem Beside.trans (h : Beside s₀ s) (k : Beside s t) : Beside s₀ t where
  now := k.now.trans h.now
  tbZero := k.tbZero.trans h.tbZero
  env := k.env.trans h.env
  island := k.island.trans h.island
  paused := k.paused.trans h.paused
  engines := fun e he => h.engines e (k.engines e he)
  others := fun e hn he => k.others e hn (h.others e hn he)
  flash := k.flash.trans h.flash
  otp := k.otp.trans h.otp
  sram := k.sram.trans h.sram
  boot := k.boot.trans h.boot
  upd := k.upd.trans h.upd
  idle := fun h0 => k.idle (h.idle h0)
  current := k.current.trans h.current
  answer := k.answer.trans h.answer
  exec := k.exec.trans h.exec
  axl := k.axl.trans h.axl
  bus := k.bus.trans h.bus
  streams := k.streams.trans h.streams
  his := k.his.trans h.his
  tmb := k.tmb.trans h.tmb
  sec := k.sec.trans h.sec
  bud := k.bud.trans h.bud
  free := k.free.trans h.free
theorem Logged.beside (h : Logged s t) : Beside s t where
  now := h.now
  tbZero := h.tbZero
  env := h.env
  island := h.island
  paused := by rw [h.upd]
  engines := fun e he => by rwa [State.engine, h.boot] at he
  others := fun e _ he => by rwa [State.engine, h.boot]
  flash := h.flash
  otp := h.otp
  sram := h.sram
  boot := by rw [h.boot]
  upd := by rw [h.upd]
  idle := fun h0 => by rwa [h.upd]
  current := h.current
  answer := h.answer
  exec := h.exec
  axl := h.axl
  bus := h.bus
  streams := h.streams
  his := h.his
  tmb := h.tmb
  sec := h.sec
  bud := h.bud
  free := h.free
/-- The registers, timers, ports, rails and pins, the sequencer, the measurement, the hub, the collector and the first-fault log are
none of these. -/
theorem Beside.rest {r : Bank Word} {x : List (TimerId × Nat)} {p : Vector Port 9} {y : Vector Rail 16} {o : Pins} {q : Seq} {m : Msr} {u : Hub}
    {c : Collector} {l : Ffl} (h : Beside s₀ s) :
    Beside s₀ { s with regs := r, timers := x, ports := p, rails := y, pins := o, seq := q, msr := m, hub := u, flt := c, ffl := l } :=
  h.trans ⟨rfl, rfl, rfl, rfl, rfl, fun _ h => h, fun _ _ h => h, rfl, rfl, rfl, rfl, rfl, fun h => h, rfl, rfl, rfl, rfl, rfl, rfl, rfl, rfl, rfl, rfl, rfl⟩
theorem Beside.set {f : Fld} {v : Nat} (h : Beside s₀ s) : Beside s₀ (s.set f v) := h.rest
theorem Beside.put {f : Fld} {b : Bool} (h : Beside s₀ s) : Beside s₀ (s.put f b) := h.set
theorem Beside.putBit {f : Fld} {i : Nat} {b : Bool} (h : Beside s₀ s) : Beside s₀ (s.putBit f i b) := h.set
theorem Beside.bump {f : Fld} {n : Nat} (h : Beside s₀ s) : Beside s₀ (s.bump f n) := h.set
theorem Beside.flag {g : Flag} (h : Beside s₀ s) : Beside s₀ (s.flag g) := h.put.bump
theorem Beside.setWord {a : Nat} {w : Word} (h : Beside s₀ s) : Beside s₀ (s.setWord a w) := h.rest
theorem Beside.disarm {x : TimerId} (h : Beside s₀ s) : Beside s₀ (s.disarm x) := h.rest
theorem Beside.arm {x : TimerId} {n : Nat} (h : Beside s₀ s) : Beside s₀ (s.arm x n) := h.rest
theorem Beside.disarmAll {l : List TimerId} (h : Beside s₀ s) : Beside s₀ (s.disarmAll l) := h.rest
theorem Beside.modPort {k : PortId} {f : Port → Port} (h : Beside s₀ s) : Beside s₀ (s.modPort k f) := h.rest
theorem Beside.modAtt {k : PortId} {f : AttPort → AttPort} (h : Beside s₀ s) : Beside s₀ (s.modAtt k f) := h.rest
theorem Beside.modPd {k : PortId} {f : PdPort → PdPort} (h : Beside s₀ s) : Beside s₀ (s.modPd k f) := h.rest
theorem Beside.modCnv {k : PortId} {f : CnvPort → CnvPort} (h : Beside s₀ s) : Beside s₀ (s.modCnv k f) := h.rest
theorem Beside.modChk {k : PortId} {f : ChkPort → ChkPort} (h : Beside s₀ s) : Beside s₀ (s.modChk k f) := h.rest
theorem Beside.modBrk {k : PortId} {f : BrkPort → BrkPort} (h : Beside s₀ s) : Beside s₀ (s.modBrk k f) := h.rest
theorem Beside.modRail {j : RailId} {f : Rail → Rail} (h : Beside s₀ s) : Beside s₀ (s.modRail j f) := h.rest
theorem Beside.ite {c : Prop} [Decidable c] (hs : Beside s₀ s) (ht : Beside s₀ t) : Beside s₀ (if c then s else t) := by
  split
  · exact hs
  · exact ht
theorem Beside.when {c : Bool} {act : State → State} (h : Beside s₀ s) (ha : ∀ t, Beside s₀ t → Beside s₀ (act t)) :
    Beside s₀ (s.when c act) := by
  unfold State.when
  exact .ite (ha s h) h
theorem Beside.forAll {α : Type} {act : α → State → State} {xs : List α} (h : Beside s₀ s)
    (ha : ∀ x t, Beside s₀ t → Beside s₀ (act x t)) : Beside s₀ (forAll xs act s) := by
  induction xs generalizing s with
  | nil => exact h
  | cons x xs ih => exact ih (s := act x s) (ha x s h)

section
variable {k : PortId} (h : Beside s₀ s)
include h

theorem Beside.stopConverter : Beside s₀ (s.stopConverter k) := by
  unfold State.stopConverter
  exact .ite h.modCnv.set.put.put.put.put.disarm h
theorem Beside.openSwitch : Beside s₀ (s.openSwitch k) := by
  unfold State.openSwitch
  extract_lets vb vc i hi driven safe a b c d
  have hd : Beside s₀ d := h.disarmAll.modBrk.set.put.arm
  refine .ite (.ite hd.set ?_) h
  exact hd.rest
theorem Beside.dropHealth : Beside s₀ (s.dropHealth k) := by
  unfold State.dropHealth
  extract_lets m a
  have ha : Beside s₀ a := h.rest
  exact ha.disarm.modChk
theorem Beside.clearPd : Beside s₀ (s.clearPd k) := by
  unfold State.clearPd
  extract_lets a b c d e f g i j m n ref
  have ha : Beside s₀ a := h.disarmAll.dropHealth
  have hf : Beside s₀ f := ha.modPd.modChk.modCnv.set.set.put.put.set.put
  have hg : Beside s₀ g := .ite hf hf.set
  have hj : Beside s₀ j := hg.setWord.setWord.put.put
  have hm : Beside s₀ m := .ite hj hj.put
  have hn : Beside s₀ n := .ite hm hm.set
  exact hn.modBrk
theorem Beside.hardOpen : Beside s₀ (s.hardOpen k) := h.openSwitch.stopConverter.clearPd
theorem Beside.disableAttach : Beside s₀ (s.disableAttach k) :=
  (h.disarmAll.modAtt.put.put.set.set.set.put.setWord.when fun _ ht => ht.put).modAtt
theorem Beside.shutPort : Beside s₀ (s.shutPort k) := h.hardOpen.disableAttach.disarmAll

theorem Beside.assertReset {n : Fin 4} : Beside s₀ (s.assertReset n) := h.putBit.putBit.disarm
theorem Beside.trace {code idx mv : Nat} : Beside s₀ (s.trace code idx mv) := by
  unfold State.trace
  extract_lets n w0 w1 ram src a
  have ha : Beside s₀ a := h.rest
  exact ha.set.bump
theorem Beside.setPhase {p : Nat} : Beside s₀ (s.setPhase p) := by
  unfold State.setPhase
  exact .ite h h.set.trace
theorem Beside.releaseRail {j : RailId} {discharge : Bool} {rstate : Nat} : Beside s₀ (s.releaseRail j discharge rstate) := by
  unfold State.releaseRail
  extract_lets was a b c d e f g i
  have hg : Beside s₀ g := h.disarmAll.put.put.set.put.put.set.put.put.modRail.set
  have hi : Beside s₀ i := .ite hg.trace hg
  exact hi.forAll fun _ _ ht => ht.when fun _ hu => hu.assertReset
theorem Beside.winterTable {phase code : Nat} {clockRuns : Bool} : Beside s₀ (s.winterTable phase code clockRuns) := by
  unfold State.winterTable
  extract_lets before a src b c d keepsOutput kept released e f
  have hb : Beside s₀ b := h.disarmAll.rest
  have hd : Beside s₀ d := hb.put.setPhase.trace
  have he : Beside s₀ e := hd.forAll fun _ _ ht => .ite (ht.disarmAll.when fun _ hu => hu.set) ht.releaseRail.modRail
  have hf : Beside s₀ f := he.forAll fun _ _ ht => .ite ht.putBit ht.assertReset
  refine .ite hf ?_
  unfold State.traceAsIn
  exact hf.rest.setWord

theorem Beside.dropUpstream : Beside s₀ s.dropUpstream := h.put.put.set.rest
theorem Beside.hubPortOff : Beside s₀ (s.hubPortOff k) := by
  unfold State.hubPortOff
  extract_lets gone was a b c
  have hb : Beside s₀ b := h.rest
  have hc : Beside s₀ c := hb.forAll fun _ _ ht => .ite ht.put ht
  exact hc.put.set.set
end

theorem Beside.post {source code : Nat} (h : Beside s₀ s) : Beside s₀ (s.post source code) := h.trans (post_logged (.refl s)).beside
theorem Beside.warn {code : Nat} (h : Beside s₀ s) : Beside s₀ (s.warn code) := h.trans (warn_logged (.refl s)).beside

theorem Beside.transition {d : DevState} {n : Nat} (h : Beside s₀ s) : Beside s₀ (s.transition d n) := by
  unfold State.transition
  extract_lets a b src c e f
  have hb : Beside s₀ b := .ite h.set.set.set h.set.set.set.post
  have hc : Beside s₀ c := hb.rest
  have he : Beside s₀ e := hc.disarmAll
  have hf : Beside s₀ f := .ite he (he.forAll fun _ _ ht => ht.set.set).set
  clear_value f
  cases d
  case summer => exact hf.disarm.arm
  case winter => exact hf.when fun _ ht => ht.arm
  all_goals exact hf

/-- Stopping engines 1 to 8 starts none. -/
theorem portEnginesOff_testBit {m e : Nat} (h : (m - m % 512 + m % 2).testBit e = true) : m.testBit e = true := by
  have hsplit : m - m % 512 + m % 2 = 2 ^ 9 * (m / 2 ^ 9) + m % 2 ^ 1 := by omega
  rw [hsplit, Nat.testBit_two_pow_mul_add _ (by omega)] at h
  split at h
  · rw [Nat.testBit_mod_two_pow] at h
    exact (Bool.and_eq_true _ _ ▸ h).2
  · rwa [Nat.testBit_div_two_pow, Nat.sub_add_cancel (by omega)] at h

/-- Stopping engines 1 to 8 stops no other. -/
theorem others_testBit {m e : Nat} (hn : e = 0 ∨ 9 ≤ e) (h : m.testBit e = true) : (m - m % 512 + m % 2).testBit e = true := by
  have hsplit : m - m % 512 + m % 2 = 2 ^ 9 * (m / 2 ^ 9) + m % 2 := by omega
  rw [hsplit, Nat.testBit_two_pow_mul_add _ (by omega)]
  obtain rfl | hn := hn
  · rw [if_pos (by decide), Nat.testBit_zero, Nat.mod_mod, ← Nat.testBit_zero]
    exact h
  · rw [if_neg (by omega), Nat.testBit_div_two_pow, Nat.sub_add_cancel hn]
    exact h

theorem Beside.portEnginesOff (h : Beside s₀ s) :
    Beside s₀ { s with boot := { s.boot with engRun := s.boot.engRun - s.boot.engRun % 512 + s.boot.engRun % 2 } } :=
  h.trans ⟨rfl, rfl, rfl, rfl, rfl, fun _ he => portEnginesOff_testBit he, fun _ hn he => others_testBit hn he, rfl, rfl, rfl, rfl, rfl, fun h => h, rfl, rfl, rfl, rfl, rfl, rfl, rfl, rfl, rfl, rfl, rfl⟩

theorem Beside.winterActs (h : Beside s₀ s) : Beside s₀ s.winterActs := by
  unfold State.winterActs
  extract_lets a src b c d
  have ha : Beside s₀ a := h.forAll fun _ _ ht => ht.shutPort
  have hb : Beside s₀ b := ha.portEnginesOff
  have hd : Beside s₀ d := hb.winterTable.forAll fun _ _ ht => ht.hubPortOff
  exact .ite hd hd.dropUpstream

theorem Beside.fflTrigger {code : Nat} {commit : Bool} (h : Beside s₀ s) : Beside s₀ (s.fflTrigger code commit) := by
  unfold State.fflTrigger
  extract_lets r ahead behind a
  have ha : Beside s₀ a := h.put
  exact ha.rest

theorem Beside.abandonHandover (h : Beside s₀ s) : Beside s₀ s.abandonHandover := by
  unfold State.abandonHandover
  extract_lets u a
  have ha : Beside s₀ a := h.trans ⟨rfl, rfl, rfl, rfl, rfl, fun _ h => h, fun _ _ h => h, rfl, rfl, rfl, rfl, rfl, fun _ => rfl, rfl, rfl, rfl, rfl, rfl, rfl, rfl, rfl, rfl, rfl, rfl⟩
  exact .ite ha.set.set.post.warn.flag h

theorem Beside.winterEntry {n code : Nat} (h : Beside s₀ s) : Beside s₀ (s.winterEntry n code) :=
  (Beside.fflTrigger h.put).transition.winterActs.abandonHandover

theorem Beside.lateWinter (h : Beside s₀ s) : Beside s₀ s.lateWinter := by
  unfold State.lateWinter
  extract_lets q a b c e
  have ha : Beside s₀ a := h.rest
  have hc : Beside s₀ c := ha.transition.forAll fun _ _ ht => ht.shutPort.hubPortOff
  exact hc.portEnginesOff

theorem Beside.fatal {code : Nat} (h : Beside s₀ s) : Beside s₀ (s.fatal code) := by
  unfold State.fatal
  extract_lets a noted acts c shut e due off
  have ha : Beside s₀ a := .ite h.set h
  have hacts : Beside s₀ acts := (Beside.fflTrigger ha.put).winterActs
  have hshut : Beside s₀ shut := ha.put.forAll fun _ _ ht => ht.shutPort
  have hdue : Beside s₀ due := hshut.rest
  refine .ite (.ite ?_ ha.winterEntry) (.ite (.ite ?_ ha.winterEntry) (.ite hshut.winterTable ha))
  · exact hacts.rest
  · exact hdue.when fun _ ht => ht.disarm.lateWinter

theorem raise_fatal_beside {code : Nat} (hc : faultClass code = 3) (hp : s.sourceAbsent (faultSource code) = false) :
    Beside s (s.raise code) := by
  rw [raise_fatal hc hp]
  exact (recordFault_logged (.refl s)).beside.flag.fatal

end

end Sys2Proof.Machine
end

section
/-!
Proofs of the island's timers and heartbeats, memory errors and the cold restart (R455 to R478).
-/
namespace Sys2Proof.Machine

/-! Engine heartbeats -/

/-- Engine e's word is kept, and its count of unchanged words is n. -/
def State.noteHeartbeat (s : State) (words : List Word) (e n : Nat) : State :=
  { s with island := { s.island with hbWords := s.island.hbWords.set e (some (words.getD e 0#32)), hbSame := s.island.hbSame.set e n } }

/-- Engine e runs outside a pause with an unchanged word. -/
def State.unchangedWord (s : State) (words : List Word) (e : Nat) : Bool :=
  s.heartbeatDue e && decide (s.island.hbWords.getD e none = some (words.getD e 0#32))

section
variable {s : State} {words : List Word} {e : Nat} {l : List Nat}

theorem heartbeat_eq (s : State) (words : List Word) (e : Nat) : s.heartbeat words e =
    let n := if s.unchangedWord words e then s.island.hbSame.getD e 0 + 1 else 0
    (s.noteHeartbeat words e n).when (n == 3) fun t =>
      (t.when (decide (e = 10) && decide (t.phase = 3)) fun u => u.trace 0x00 0 (u.tb / 2 ^ 42)).raise (0xE410 + e) := rfl

theorem heartbeat_changed (h : s.unchangedWord words e = false) : s.heartbeat words e = s.noteHeartbeat words e 0 := by
  rw [heartbeat_eq, h]
  rfl

/-- The third unchanged word of an engine raises its fault. -/
theorem heartbeat_third (h : s.unchangedWord words e = true) (hsame : s.island.hbSame.getD e 0 = 2) (hphase : s.phase ≠ 3) :
    s.heartbeat words e = (s.noteHeartbeat words e 3).raise (0xE410 + e) := by
  have htrace : ¬ (decide (e = 10) && decide ((s.noteHeartbeat words e 3).phase = 3)) = true := by
    rw [show (s.noteHeartbeat words e 3).phase = s.phase from rfl]
    simp [hphase]
  rw [heartbeat_eq, h, hsame]
  change (if (decide (e = 10) && decide ((s.noteHeartbeat words e 3).phase = 3)) = true then _ else s.noteHeartbeat words e 3).raise _ = _
  rw [if_neg htrace]

theorem getD_set {α : Type} (xs : List α) (i j : Nat) (a d : α) :
    (xs.set i a).getD j d = if i = j ∧ i < xs.length then a else xs.getD j d := by
  simp only [List.getD_eq_getElem?_getD, List.getElem?_set]
  split <;> split <;> simp_all

theorem noteHeartbeat_unchangedWord {e' n : Nat} (h : e' ≠ e) : (s.noteHeartbeat words e n).unchangedWord words e' = s.unchangedWord words e' := by
  unfold State.unchangedWord
  rw [show (s.noteHeartbeat words e n).island.hbWords = s.island.hbWords.set e (some (words.getD e 0#32)) from rfl, getD_set,
    if_neg fun hc => h hc.1.symm]
  rfl

/-- Where no word of the engines in `l` is unchanged, their words are kept and their counts begin anew. -/
theorem forAll_heartbeat_changed (hl : l.Nodup) (h : ∀ e ∈ l, s.unchangedWord words e = false) :
    forAll l (fun e t => t.heartbeat words e) s = forAll l (fun e t => t.noteHeartbeat words e 0) s := by
  induction l generalizing s with
  | nil => rfl
  | cons e l ih =>
    obtain ⟨he, hl⟩ := List.nodup_cons.mp hl
    have hstep : s.heartbeat words e = s.noteHeartbeat words e 0 := heartbeat_changed (h e List.mem_cons_self)
    change forAll l _ (s.heartbeat words e) = forAll l _ (s.noteHeartbeat words e 0)
    rw [hstep]
    refine ih hl fun e' he' => ?_
    rw [noteHeartbeat_unchangedWord (ne_of_mem_of_not_mem he' he)]
    exact h e' (List.mem_cons_of_mem e he')

/-- What keeping the words of the engines in `l` leaves. -/
theorem forAll_noteHeartbeat (s : State) (words : List Word) (l : List Nat) :
    (forAll l (fun e t => t.noteHeartbeat words e 0) s).regs = s.regs ∧
    (forAll l (fun e t => t.noteHeartbeat words e 0) s).upd = s.upd ∧ (forAll l (fun e t => t.noteHeartbeat words e 0) s).boot = s.boot ∧
    (forAll l (fun e t => t.noteHeartbeat words e 0) s).island.hbSame.length = s.island.hbSame.length ∧
    (forAll l (fun e t => t.noteHeartbeat words e 0) s).island.hbWords.length = s.island.hbWords.length ∧
    (∀ i < s.island.hbSame.length, (forAll l (fun e t => t.noteHeartbeat words e 0) s).island.hbSame.getD i 0 =
      if i ∈ l then 0 else s.island.hbSame.getD i 0) ∧
    ∀ i < s.island.hbWords.length, (forAll l (fun e t => t.noteHeartbeat words e 0) s).island.hbWords.getD i none =
      if i ∈ l then some (words.getD i 0#32) else s.island.hbWords.getD i none := by
  induction l generalizing s with
  | nil => simp [forAll]
  | cons e l ih =>
    obtain ⟨hregs, hupd, hboot, hslen, hwlen, hsame, hword⟩ := ih (s.noteHeartbeat words e 0)
    have hslen' : (s.noteHeartbeat words e 0).island.hbSame.length = s.island.hbSame.length := List.length_set
    have hwlen' : (s.noteHeartbeat words e 0).island.hbWords.length = s.island.hbWords.length := List.length_set
    refine ⟨hregs, hupd, hboot, hslen.trans hslen', hwlen.trans hwlen', fun i hi => ?_, fun i hi => ?_⟩
    · refine (hsame i (hslen'.symm ▸ hi)).trans ?_
      rw [show (s.noteHeartbeat words e 0).island.hbSame = s.island.hbSame.set e 0 from rfl, getD_set]
      by_cases hil : i ∈ l
      · simp [hil]
      · by_cases hie : i = e
        · subst hie
          simp [hi]
        · simp [hil, hie, Ne.symm hie]
    · refine (hword i (hwlen'.symm ▸ hi)).trans ?_
      rw [show (s.noteHeartbeat words e 0).island.hbWords = s.island.hbWords.set e (some (words.getD e 0#32)) from rfl, getD_set]
      by_cases hil : i ∈ l
      · simp [hil]
      · by_cases hie : i = e
        · subst hie
          simp [hi]
        · simp [hil, hie, Ne.symm hie]

end

theorem unchangedWord_eq_false {s : State} {words : List Word} {e : Nat}
    (h : s.engine e = false ∨ ¬ s.island.hbWords.getD e none = some (words.getD e 0#32)) : s.unchangedWord words e = false := by
  obtain hrun | hw := h
  · rw [State.unchangedWord, State.heartbeatDue, hrun]
    rfl
  · rw [State.unchangedWord, decide_eq_false hw, Bool.and_false]

theorem heartbeatEngine_lt : ∀ e ∈ (List.range 15).map (· + 1), e < 16 := by decide

/-- The check where no engine's word is unchanged. -/
theorem engineHeartbeatCheck_changed {s : State} {words : List Word} (hs : s.isAny [.romBoot, .deepWinter, .romRecovery] = false)
    (hslen : s.island.hbSame.length = 16) (hwlen : s.island.hbWords.length = 16)
    (h : ∀ e ∈ (List.range 15).map (· + 1), s.unchangedWord words e = false) :
    Answers (exec (.engineHeartbeatCheck words) s) fun t =>
    ((List.range 16).all (fun e => e == 0 || t.island.hbSame.getD e 0 == 0) = true) ∧
    ((List.range 16).all (fun e => e == 0 || t.island.hbWords.getD e none == some (words.getD e 0#32)) = true) ∧
    SameWords [] s t := by
  have hmem : ∀ e < 16, e = 0 ∨ e ∈ (List.range 15).map (· + 1) := by decide
  obtain ⟨hregs, -, -, -, -, hsame, hword⟩ := forAll_noteHeartbeat s words ((List.range 15).map (· + 1))
  refine .of_eq ((if_neg (by rw [hs]; exact Bool.false_ne_true)).trans (congrArg _ (forAll_heartbeat_changed (by decide) h))) ⟨?_, ?_, ?_⟩
  · refine List.all_eq_true.mpr fun e he => ?_
    rw [List.mem_range] at he
    rw [hsame e (hslen ▸ he)]
    obtain rfl | h := hmem e he
    · rfl
    · rw [if_pos h]
      simp
  · refine List.all_eq_true.mpr fun e he => ?_
    rw [List.mem_range] at he
    rw [hword e (hwlen ▸ he)]
    obtain rfl | h := hmem e he
    · rfl
    · rw [if_pos h]
      simp
  · intro a _
    rw [State.word, hregs, State.word]

theorem forAll_append_cons {α : Type} (l l' : List α) (x : α) (act : α → State → State) (s : State) :
    forAll (l ++ x :: l') act s = forAll l' act (act x (forAll l act s)) := by
  simp [forAll]

theorem Beside.unchangedWord {s t : State} (h : Beside s t) {words : List Word} {e : Nat} (hs : s.unchangedWord words e = false) :
    t.unchangedWord words e = false := by
  rw [State.unchangedWord, State.heartbeatDue] at hs ⊢
  rw [h.island, h.paused]
  cases hrun : t.engine e with
  | false => rfl
  | true => rwa [h.engines e hrun] at hs

/-- The check at which one running engine's word is unchanged for the third time. -/
theorem engineHeartbeatCheck_third {s : State} {words : List Word} {e : Nat} (hs : s.isAny [.romBoot, .deepWinter, .romRecovery] = false)
    (hslen : s.island.hbSame.length = 16) (hwlen : s.island.hbWords.length = 16) (he : e ∈ (List.range 15).map (· + 1)) (hphase : s.phase ≠ 3)
    (hthird : s.unchangedWord words e = true) (hsame : s.island.hbSame.getD e 0 = 2)
    (hothers : ∀ i ∈ (List.range 15).map (· + 1), i ≠ e → s.unchangedWord words i = false) :
    Answers (exec (.engineHeartbeatCheck words) s) fun t => t.island.hbSame.getD e 0 = 3 ∧ t.has G.FLT_FATAL.bit = true ∧
    t.get F.FLT_FATAL_CODE = (if s.get F.FLT_FATAL_CODE = 0 then 0xE410 + e else s.get F.FLT_FATAL_CODE) := by
  have h16 : e < 16 := heartbeatEngine_lt e he
  obtain ⟨l, l', hl⟩ := List.append_of_mem he
  have hnodup : (l ++ e :: l').Nodup := hl ▸ (by decide)
  obtain ⟨hln, hn, hdisj⟩ := List.nodup_append.mp hnodup
  obtain ⟨hel', hln'⟩ := List.nodup_cons.mp hn
  have hel : e ∉ l := fun h => hdisj e h e List.mem_cons_self rfl
  -- before engine e
  let u := forAll l (fun e t => t.noteHeartbeat words e 0) s
  obtain ⟨huregs, huupd, huboot, huslen, huwlen, husame, huword⟩ := forAll_noteHeartbeat s words l
  have hbefore : forAll l (fun e t => t.heartbeat words e) s = u := forAll_heartbeat_changed hln fun i hi =>
    hothers i (hl ▸ List.mem_append_left _ hi) (ne_of_mem_of_not_mem hi hel)
  have huwords (i : Nat) (hi : i ∉ l) (h : i ∈ l ++ e :: l') : u.unchangedWord words i = s.unchangedWord words i := by
    have := huword i (hwlen ▸ heartbeatEngine_lt i (hl ▸ h))
    rw [if_neg hi] at this
    rw [State.unchangedWord, State.heartbeatDue, State.engine, huupd, huboot, this]
    rfl
  -- engine e
  let v := (u.noteHeartbeat words e 3).raise (0xE410 + e)
  have hat : u.heartbeat words e = v := by
    refine heartbeat_third ((huwords e hel (by simp)).trans hthird) ?_ ?_
    · rw [husame e (hslen ▸ h16), if_neg hel, hsame]
    · rwa [State.phase, State.get, State.word, huregs]
  have hclass : faultClass (0xE410 + e) = 3 := by
    unfold faultClass
    omega
  have hsource : faultSource (0xE410 + e) = 0x24 := by
    unfold faultSource
    omega
  have hpresent : (u.noteHeartbeat words e 3).sourceAbsent (faultSource (0xE410 + e)) = false := by
    rw [hsource]
    rfl
  have hbeside := raise_fatal_beside hclass hpresent
  obtain ⟨hflag, hcode⟩ := raise_fatal_held hclass hpresent
  -- after engine e
  have hafter : ∀ i ∈ l', v.unchangedWord words i = false := fun i hi => by
    have hie : i ≠ e := ne_of_mem_of_not_mem hi hel'
    have hil : i ∉ l := fun h => hdisj i h i (List.mem_cons_of_mem e hi) rfl
    have hmem : i ∈ l ++ e :: l' := by simp [hi]
    exact hbeside.unchangedWord ((noteHeartbeat_unchangedWord hie).trans ((huwords i hil hmem).trans (hothers i (hl ▸ hmem) hie)))
  obtain ⟨hregs, -, -, -, -, hwsame, -⟩ := forAll_noteHeartbeat v words l'
  have hvsame : v.island.hbSame = u.island.hbSame.set e 3 := by rw [hbeside.island]; rfl
  have hvlen : e < v.island.hbSame.length := by rw [hvsame, List.length_set, huslen, hslen]; exact h16
  have hrun : exec (.engineHeartbeatCheck words) s = .next (forAll l' (fun e t => t.noteHeartbeat words e 0) v) := by
    refine (if_neg (by rw [hs]; exact Bool.false_ne_true)).trans (congrArg _ ?_)
    rw [hl, forAll_append_cons, hbefore, hat, forAll_heartbeat_changed hln' hafter]
  refine .of_eq hrun ⟨?_, ?_, ?_⟩
  · rw [hwsame e hvlen, if_neg hel', hvsame, getD_set, if_pos ⟨rfl, by rw [huslen, hslen]; exact h16⟩]
  · rwa [State.has, State.get, State.word, hregs]
  · rw [State.get, State.word, hregs]
    refine hcode.trans ?_
    rw [show (u.noteHeartbeat words e 3).get F.FLT_FATAL_CODE = u.get F.FLT_FATAL_CODE from rfl, State.get, State.word, huregs,
      Nat.mod_eq_of_lt (by omega)]
    rfl

/-- Settles O10: three timers trip the part at their end; a round of heartbeats goes engine by engine, each either with a changed word
(`heartbeat_changed`) or with its third unchanged one (`heartbeat_third`), whose fault leaves the island's data alone (`Beside`). -/
theorem islandTimersAndHeartbeatsAct : Obligations.IslandTimersAndHeartbeatsAct := by
  refine ⟨fun s harm hdw => .trip_of_elapse harm hdw rfl (by decide), fun s harm hdw => .trip_of_elapse harm hdw rfl (by decide),
    fun s hho hst => ?_, fun s harm hdw => .trip_of_elapse harm hdw rfl (by decide), fun s hdw => ?_, fun s right h => ?_,
    fun s right hr hone hdw => ?_, fun s words hs hp hsl hwl => ?_, fun s words hs hp hsl hwl h => ?_,
    fun s words e hs hp hsl hwl h1 h16 hphase hrun hw h2 h => ?_, fun s follow harm hoff hf => ?_, fun s hs hact hhot ht => ?_,
    fun s hs ht hact => ?_⟩
  · refine .of_eq (if_pos ?_) ?_
    · rw [hho, hst]
      rfl
    · simp (disch := decide +revert) [State.newChallenge]
      rfl
  · obtain ⟨hin, hcode, -, hoff⟩ := trip_facts 0xC008 0 hdw (by decide) (by decide)
    exact .of_eq rfl ⟨hin, hcode, hoff⟩
  · refine .of_exec (o := execClassifierTest right s) rfl ?_
    have htwo : ¬ (if right then 0 else s.island.clsWrong + 1) = 2 := by
      cases right with
      | false => simpa using h
      | true => simp
    simp [execClassifierTest, htwo]
  · obtain ⟨hin, hcode, -, -⟩ := trip_facts (s := { s with island := { s.island with clsWrong := 2 } }) 0xC008 0 hdw (by decide) (by decide)
    refine .of_exec (o := execClassifierTest right s) rfl ?_
    simp only [execClassifierTest, hr, hone, Bool.false_eq_true, if_false, Nat.reduceAdd, if_true]
    exact answers_next.mpr ⟨hin, hcode⟩
  · refine engineHeartbeatCheck_changed hs hsl hwl fun e _ => ?_
    simp [State.unchangedWord, State.heartbeatDue, hp]
  · refine engineHeartbeatCheck_changed hs hsl hwl fun e he => unchangedWord_eq_false ?_
    simpa using List.all_eq_true.mp h e (List.mem_range.mpr (heartbeatEngine_lt e he))
  · have hmem : ∀ e < 16, 1 ≤ e → e ∈ (List.range 15).map (· + 1) := by decide
    refine engineHeartbeatCheck_third hs hsl hwl (hmem e h16 h1) hphase ?_ h2 fun i hi hie => ?_
    · rw [State.unchangedWord, State.heartbeatDue, hrun, hp, hw]
      simp
    · have := List.all_eq_true.mp h i (List.mem_range.mpr (heartbeatEngine_lt i hi))
      exact unchangedWord_eq_false (by simpa [hie] using this)
  · refine .of_exec (o := execSafOfftest follow s) rfl ?_
    simp at harm hoff
    simp (disch := decide +revert) [execSafOfftest, harm, hoff, hf]
  · refine .of_eq (if_neg (by rw [hs]; exact Bool.false_ne_true)) ?_
    simp at ht
    simp (disch := decide +revert) [hact, hhot, ht]
  · refine .of_eq (if_neg (by rw [hs]; exact Bool.false_ne_true)) ?_
    simp at ht
    simp (disch := decide +revert) [hact, Nat.not_le.mpr ht]

end Sys2Proof.Machine
end

section
/-!
The refutation of the collector's statement (R485): a warning of a rail that the configuration names absent is not classified.
-/
namespace Sys2Proof.Machine

/-- Spring, with rail 2 (fault source 0x12) absent. -/
def State.springWithoutRail2 : State :=
  { State.reset.set F.SYS_STATE_STATE 1 with boot := { State.reset.boot with railsAbsent := 4 } }

/-- The value of a predicate in the next state of an outcome. -/
def nextHolds (o : Out) (p : State → Bool) : Bool :=
  match o with
  | .next t => p t
  | _ => false

theorem Answers.nextHolds {o : Out} {p : State → Bool} (h : Answers o fun t => p t = true) : nextHolds o p = true := by
  obtain ⟨t, rfl, ht⟩ := h
  exact ht

/-- Refutes O12: code 0x1234 is of rail 2; in a state of Spring in which rail 2 is absent it is left out before it is classified, and the
warning flag stays clear. -/
theorem not_faultCollectorActs : ¬ Obligations.FaultCollectorActs := by
  rintro ⟨hwarn, -⟩
  have hset := (hwarn State.springWithoutRail2 [0x1234#16] (.inl rfl) (by decide)).nextHolds
  have hclear : nextHolds (exec (.faultClassify [0x1234#16]) State.springWithoutRail2) (fun t => t.has G.FLT_WARN.bit) = false := by decide
  exact absurd hset (by rw [hclear]; exact Bool.false_ne_true)

end Sys2Proof.Machine
end

section
/-!
What raising a fault leaves, by its class (R485), where its source is present and does not fill its count.
-/
namespace Sys2Proof.Machine

/-- The fields that a warning and a corrected or contained fault write. -/
def raisedFields : List Fld := [G.FLT_CORR.bit, G.FLT_CORR.cnt, G.FLT_CONT.bit, G.FLT_CONT.cnt] ++ logFields

section
variable {s : State} {code : Nat}

theorem raise_absent (hp : s.sourceAbsent (faultSource code) = true) : s.raise code = s := by
  rw [State.raise]
  exact if_pos hp

theorem raise_warning (hc : faultClass code = 0) (hp : s.sourceAbsent (faultSource code) = false) : s.raise code = s.warn code := by
  rw [State.raise, hc]
  refine (if_neg (by rw [hp]; exact Bool.false_ne_true)).trans ((if_neg (by omega)).trans ?_)
  rw [State.react, hc]
  rfl

theorem react_counted (hc : faultClass code = 1 ∨ faultClass code = 2) :
    s.react code false = (s.recordFault code false).flag (if faultClass code = 1 then G.FLT_CORR else G.FLT_CONT) := by
  obtain h | h := hc
  · rw [State.react, h]
    rfl
  · rw [State.react, h]
    rfl

/-- Raised by a present source that does not fill its count, a corrected or contained fault is recorded and sets its class's flag. -/
theorem raise_counted (hc : faultClass code = 1 ∨ faultClass code = 2) (hp : s.sourceAbsent (faultSource code) = false)
    (hq : s.calm (faultSource code) = true) : s.raise code =
    ((s.escalate (faultSource code) (faultClass code)).2.recordFault code false).flag
      (if faultClass code = 1 then G.FLT_CORR else G.FLT_CONT) := by
  rw [State.raise]
  refine (if_neg (by rw [hp]; exact Bool.false_ne_true)).trans ((if_pos hc).trans ?_)
  extract_lets r
  have hr : r.1 = false := escalate_calm hq
  rw [hr]
  exact react_counted hc

theorem raise_counted_flag (hc : faultClass code = 1 ∨ faultClass code = 2) (hp : s.sourceAbsent (faultSource code) = false)
    (hq : s.calm (faultSource code) = true) : (s.raise code).has (if faultClass code = 1 then G.FLT_CORR else G.FLT_CONT).bit = true := by
  rw [raise_counted hc hp hq]
  split
  · exact has_flag_self _ _ (by decide) (by decide) (by decide)
  · exact has_flag_self _ _ (by decide) (by decide) (by decide)

theorem raise_calm_writes (hc : faultClass code ≤ 2) (hq : faultClass code = 0 ∨ s.calm (faultSource code) = true) :
    Writes raisedFields s (s.raise code) := by
  have hlog : logFields ⊆ raisedFields := List.subset_append_right _ _
  cases hp : s.sourceAbsent (faultSource code) with
  | true =>
    rw [raise_absent hp]
    exact .refl s
  | false =>
    by_cases h0 : faultClass code = 0
    · rw [raise_warning h0 hp]
      exact (Writes.refl s).warn hlog
    · have hesc : Writes raisedFields s (s.escalate (faultSource code) (faultClass code)).2 := by
        unfold State.escalate
        split
        · exact .refl s
        · exact (Writes.refl s).same rfl
      rw [raise_counted (by omega) hp (hq.resolve_left h0)]
      split
      · exact (hesc.recordFault hlog).flag (by simp [raisedFields]) (by simp [raisedFields])
      · exact (hesc.recordFault hlog).flag (by simp [raisedFields]) (by simp [raisedFields])

theorem classify_raise (h : s.isAny [.romBoot, .deepWinter] = false) : s.classify code = s.raise code := by
  obtain ⟨hrom, hdw⟩ : s.isIn .romBoot = false ∧ s.isIn .deepWinter = false := by simpa [State.isAny] using h
  rw [State.classify, if_neg (by rw [hrom]; exact Bool.false_ne_true), if_neg (by rw [hdw]; exact Bool.false_ne_true)]

end

/-- Settles O11: memory errors are classified by whose memory failed; the cold restart's last step is an internal restart. -/
theorem islandErrorsAndColdRestartAct : Obligations.IslandErrorsAndColdRestartAct := by
  refine ⟨fun s unc sup hu hsup hs hq => ?_, fun s unc sup hu hsup hdw => ?_, fun s unc sup hu hsup hs hp => ?_, fun s unc sup hu hsup => ?_,
    fun s harm hk => ?_, fun s harm hk => ?_, fun s hdw => ?_, fun s => ?_⟩
  · subst hu hsup
    have hdw : s.isIn .deepWinter = false := (Bool.or_eq_false_iff.mp (Bool.or_eq_false_iff.mp hs).2).1
    have hflag := raise_counted_flag (s := s) (code := 0x6301) (.inl rfl) rfl hq
    have hout : ¬ (false || s.isIn .deepWinter) = true := by rw [hdw]; exact Bool.false_ne_true
    refine .of_eq (congrArg Host.Outcome.next ((if_neg Bool.false_ne_true).trans (if_neg hout))) ?_
    rw [classify_raise hs]
    exact ⟨has_flag_self _ _ (by decide) (by decide) (by decide), (has_flag_apart _ _ _ (by decide) (by decide) (by decide)).trans hflag⟩
  · subst hu hsup
    obtain ⟨hin, hcode, -, -⟩ := trip_facts 0xE303 0 hdw (by decide) (by decide)
    exact .of_eq rfl ⟨hin, hcode⟩
  · subst hu hsup
    have hne : s.isAny [.romBoot, .deepWinter] = false := isAny_disjoint hs (by decide)
    obtain ⟨hin, -, -, -⟩ := raise_fatal_entered (s := s) (code := 0xE302) rfl rfl hs hp
    obtain ⟨hflag, hcode⟩ := raise_fatal_held (s := s) (code := 0xE302) rfl rfl
    exact .of_eq (congrArg Host.Outcome.next (classify_raise hne)) ⟨hin, hflag, hcode⟩
  · subst hu hsup
    exact .of_eq rfl rfl
  · refine .of_elapse harm rfl ?_
    have hk' : ((s.elapsed .coldRestart).set F.SAF_STATUS_ISTATE 5).keptSteps 0 = [] := by
      refine Eq.trans ?_ hk
      simp (disch := decide +revert) [State.keptSteps]
      rfl
    simp only [hk']
    simp (disch := decide +revert)
  · refine .of_elapse harm rfl ?_
    have hk' : (s.elapsed .coldStep).keptSteps (s.elapsed .coldStep).island.coldStep = [] := hk
    simp only [hk']
    obtain ⟨hstate, -, hentry, -, -⟩ := internalRestart_sysState (s.elapsed .coldStep) (n := 13) (by decide)
    have hflash : ((s.elapsed .coldStep).internalRestart 13).flash = s.flash := restartAll_flash _
    clear hk hk'
    generalize (s.elapsed .coldStep).internalRestart 13 = t at *
    simp only [get_eq_fieldOf] at hstate hentry
    simp (disch := decide) [hstate, hentry, hflash, DevState.code]
  · refine .of_eq (congrArg Host.Outcome.next (if_neg (by rw [hdw]; exact Bool.false_ne_true))) ?_
    simp (disch := decide)
  · exact .of_eq rfl ⟨rfl, fun _ _ => by rfl⟩

end Sys2Proof.Machine
end

section
/-!
The rail sequencer (chapters 12 and 13): what a trace entry and a rail's release leave, and when a step of the table is still under way.
-/
namespace Sys2Proof.Machine

/-! Traces -/

section
variable (s : State) (code idx mv : Nat) (j : RailId) {f : Fld}

theorem fieldOf_of_word {m m' : Bank Word} (f : Fld) (h : bankRead regReset m' f.reg = bankRead regReset m f.reg) :
    fieldOf f m' = fieldOf f m := congrArg f.extract h

@[simp] theorem trace_fieldOf (h : f.reg ≠ R.SQC_TRC_HEAD) : fieldOf f (s.trace code idx mv).regs = fieldOf f s.regs := by
  refine fieldOf_of_word f ?_
  unfold State.trace
  simp [F.SQC_TRC_HEAD_TOTAL, F.SQC_TRC_HEAD_NEXT, h]
@[simp] theorem trace_timers : (s.trace code idx mv).timers = s.timers := rfl
@[simp] theorem trace_now : (s.trace code idx mv).now = s.now := rfl
@[simp] theorem trace_rails : (s.trace code idx mv).rails = s.rails := rfl
@[simp] theorem trace_ports : (s.trace code idx mv).ports = s.ports := rfl
@[simp] theorem trace_boot : (s.trace code idx mv).boot = s.boot := rfl
@[simp] theorem trace_sub : (s.trace code idx mv).seq.sub = s.seq.sub := rfl
@[simp] theorem traceRail_eq_trace : s.traceRail code j = s.trace code j.val ((s.sqvs? j).getD 0) := rfl

end

/-! A rail's release -/

section
variable (s : State) (n : Fin 4) (j : RailId) {f : Fld}

@[simp] theorem assertReset_fieldOf (h : f.reg ≠ R.SQC_RST_ST) : fieldOf f (s.assertReset n).regs = fieldOf f s.regs := by
  refine fieldOf_of_word f ?_
  unfold State.assertReset
  simp [F.SQC_RST_ST_RELEASED, F.SQC_RST_ST_STRETCHING, h]

theorem assertWatching_keeps {β : Type} {g : State → β} (h : ∀ n t, g (t.assertReset n) = g t) : g (s.assertWatching j) = g s := by
  refine forAll_invariant (fun n t => ?_) allResets s
  unfold State.when
  split
  · exact h n t
  · rfl

@[simp] theorem assertWatching_fieldOf (h : f.reg ≠ R.SQC_RST_ST) : fieldOf f (s.assertWatching j).regs = fieldOf f s.regs :=
  assertWatching_keeps s j (g := fun t => fieldOf f t.regs) fun n t => assertReset_fieldOf t n h
@[simp] theorem assertWatching_rails : (s.assertWatching j).rails = s.rails :=
  assertWatching_keeps s j (g := State.rails) fun _ _ => rfl
@[simp] theorem assertWatching_now : (s.assertWatching j).now = s.now :=
  assertWatching_keeps s j (g := State.now) fun _ _ => rfl

/-- A rail switched off, before the trace and the resets follow. -/
def State.railOff (s : State) (j : RailId) (discharge : Bool) (rstate : Nat) : State :=
  let was := s.has (F.SQ_STATUS_EN j)
  let s := s.disarmAll (railTimers j)
  let s := (s.put (F.SQ_STATUS_EN j) false).put (F.SQ_STATUS_MG_DIS j) discharge
  let s := s.set (F.SQ_STATUS_RSTATE j) rstate
  let s := (((s.put (F.SQ_MGST_DRIVING j) false).put (F.SQ_MGST_MOVING j) false).set (F.SQ_MGST_POS j) 0).put
    (F.SQ_MGST_UV_ARMED j) false
  let s := s.put (F.SQ_MGST_UVW_ACT j) false
  let s := s.modRail j fun r => { r with mg := if discharge then .discharge else .hiZ, uvwFrames := 0, uvwClear := 0,
                                         releasedAt := s.now, fallDue := r.fallDue || was || decide (rstate = 4) }
  s.set (F.SQ_MG_TARGET j) 0

theorem releaseRail_eq (discharge : Bool) (rstate : Nat) : s.releaseRail j discharge rstate =
    (if s.has (F.SQ_STATUS_EN j) then (s.railOff j discharge rstate).traceRail 0x10 j else s.railOff j discharge rstate).assertWatching j := rfl

end

@[simp] theorem railOff_now (s : State) (j : RailId) (discharge : Bool) (rstate : Nat) : (s.railOff j discharge rstate).now = s.now := rfl
theorem railOff_mg (s : State) (j : RailId) (discharge : Bool) (rstate : Nat) :
    ((s.railOff j discharge rstate).rails[j.val]).mg = if discharge then .discharge else .hiZ := by
  simp [State.railOff]
theorem railOff_fieldOf (s : State) (j : RailId) (discharge : Bool) (rstate : Nat) :
    fieldOf (F.SQ_STATUS_EN j) (s.railOff j discharge rstate).regs = 0 ∧
    fieldOf (F.SQ_STATUS_RSTATE j) (s.railOff j discharge rstate).regs = rstate % 2 ^ (F.SQ_STATUS_RSTATE j).width ∧
    fieldOf F.SQC_RAILS_BELOW (s.railOff j discharge rstate).regs = fieldOf F.SQC_RAILS_BELOW s.regs ∧
    fieldOf (F.SQ_DN_T_FALL j) (s.railOff j discharge rstate).regs = fieldOf (F.SQ_DN_T_FALL j) s.regs := by
  simp (disch := (clear * -; decide +revert)) [State.railOff]

theorem releaseRail_fieldOf (s : State) (j : RailId) (discharge : Bool) (rstate : Nat) {f : Fld} (ht : f.reg ≠ R.SQC_TRC_HEAD)
    (hr : f.reg ≠ R.SQC_RST_ST) :
    fieldOf f (s.releaseRail j discharge rstate).regs = fieldOf f (s.railOff j discharge rstate).regs := by
  rw [releaseRail_eq, assertWatching_fieldOf _ _ hr]
  split
  · rw [traceRail_eq_trace, trace_fieldOf _ _ _ _ ht]
  · rfl

/-- A released rail has its enable off and its margin pin floating, or driven for the discharge. -/
theorem releaseRail_facts (s : State) (j : RailId) (discharge : Bool) (rstate : Nat) :
    fieldOf (F.SQ_STATUS_EN j) (s.releaseRail j discharge rstate).regs = 0 ∧
    fieldOf (F.SQ_STATUS_RSTATE j) (s.releaseRail j discharge rstate).regs = rstate % 2 ^ (F.SQ_STATUS_RSTATE j).width ∧
    fieldOf F.SQC_RAILS_BELOW (s.releaseRail j discharge rstate).regs = fieldOf F.SQC_RAILS_BELOW s.regs ∧
    fieldOf (F.SQ_DN_T_FALL j) (s.releaseRail j discharge rstate).regs = fieldOf (F.SQ_DN_T_FALL j) s.regs := by
  rw [releaseRail_fieldOf _ _ _ _ (by decide +revert) (by decide +revert), releaseRail_fieldOf _ _ _ _ (by decide +revert) (by decide +revert),
    releaseRail_fieldOf _ _ _ _ (by decide +revert) (by decide +revert), releaseRail_fieldOf _ _ _ _ (by decide +revert) (by decide +revert)]
  exact railOff_fieldOf s j discharge rstate

theorem releaseRail_rails (s : State) (j : RailId) (discharge : Bool) (rstate : Nat) :
    (s.releaseRail j discharge rstate).rails = (s.railOff j discharge rstate).rails := by
  rw [releaseRail_eq, assertWatching_rails, traceRail_eq_trace, apply_ite State.rails, trace_rails, ite_self]

theorem releaseRail_mg (s : State) (j : RailId) (discharge : Bool) (rstate : Nat) :
    ((s.releaseRail j discharge rstate).rails[j.val]).mg = if discharge then .discharge else .hiZ :=
  (congrArg (fun v : Vector Rail 16 => v[j.val].mg) (releaseRail_rails s j discharge rstate)).trans (railOff_mg s j discharge rstate)

@[simp] theorem releaseRail_now (s : State) (j : RailId) (discharge : Bool) (rstate : Nat) :
    (s.releaseRail j discharge rstate).now = s.now := by
  rw [releaseRail_eq, assertWatching_now, traceRail_eq_trace, apply_ite State.now, trace_now, ite_self, railOff_now]

/-! The delays of a step's rails -/

/-- Arms the delay of a rail that is not left out, for the time that a field of its holds. -/
def armDelay (out : Rail → Bool) (f : RailId → Fld) (j : RailId) (t : State) : State :=
  if out (t.rail j) then t else t.arm (.railDelay j) (10000 * t.get (f j))

section
variable (s : State) {out : Rail → Bool} {f : RailId → Fld} (l : List RailId) {j : RailId}

theorem armDelay_eq {β : Type} {g : State → β} (h : ∀ t i n, g (t.arm i n) = g t) : g (armDelay out f j s) = g s := by
  unfold armDelay
  split
  · rfl
  · exact h s _ _

@[simp] theorem forAll_armDelay_regs : (forAll l (armDelay out f) s).regs = s.regs :=
  forAll_invariant (g := State.regs) (fun _ t => armDelay_eq t fun _ _ _ => rfl) l s
@[simp] theorem forAll_armDelay_now : (forAll l (armDelay out f) s).now = s.now :=
  forAll_invariant (g := State.now) (fun _ t => armDelay_eq t fun _ _ _ => rfl) l s
@[simp] theorem forAll_armDelay_rails : (forAll l (armDelay out f) s).rails = s.rails :=
  forAll_invariant (g := State.rails) (fun _ t => armDelay_eq t fun _ _ _ => rfl) l s
@[simp] theorem forAll_armDelay_seq : (forAll l (armDelay out f) s).seq = s.seq :=
  forAll_invariant (g := State.seq) (fun _ t => armDelay_eq t fun _ _ _ => rfl) l s
@[simp] theorem forAll_armDelay_boot : (forAll l (armDelay out f) s).boot = s.boot :=
  forAll_invariant (g := State.boot) (fun _ t => armDelay_eq t fun _ _ _ => rfl) l s
theorem armDelay_other {i : TimerId} (h : i ≠ .railDelay j) : timerIn (armDelay out f j s).timers i = timerIn s.timers i := by
  unfold armDelay
  split
  · rfl
  · exact (timerIn_cons_other _ _ h).trans (timerIn_without_other _ h)
@[simp] theorem forAll_armDelay_other {i : TimerId} (h : ∀ j, i ≠ .railDelay j) :
    timerIn (forAll l (armDelay out f) s).timers i = timerIn s.timers i :=
  forAll_invariant (g := fun t => timerIn t.timers i) (fun j t => armDelay_other t (h j)) l s

/-- A rail of the list that is not left out waits its delay. -/
theorem forAll_armDelay_self {l : List RailId} (hj : j ∈ l) (hl : l.Nodup) (hout : out (s.rail j) = false) :
    timerIn (forAll l (armDelay out f) s).timers (.railDelay j) = some (s.now + 10000 * fieldOf (f j) s.regs) := by
  have h := forAll_effect_of_mem (act := armDelay out f) (x := j) hj hl
    (g := fun t => (timerIn t.timers (.railDelay j), t.now, t.regs, t.rails))
    (effect := fun p => (if out p.2.2.2[j.val] then p.1 else some (p.2.1 + 10000 * fieldOf (f j) p.2.2.1), p.2))
    (fun t => ?_) (fun i _ hi t => ?_) s
  · have := congrArg (·.1) h
    simp at hout this
    simpa [hout] using this
  · unfold armDelay
    by_cases ho : out (t.rail j) = true
    · rw [if_pos ho]
      exact Prod.ext (if_pos ho).symm rfl
    · rw [if_neg ho]
      exact Prod.ext ((timerIn_cons_self _ _).trans (if_neg ho).symm) rfl
  · exact Prod.ext (armDelay_other t (by simpa using Ne.symm hi)) (armDelay_eq (g := fun t => (t.now, t.regs, t.rails)) t fun _ _ _ => rfl)

end

/-! Steps of the power-down -/

theorem downRails_nodup (s : State) (n : Nat) : (s.downRails n).Nodup := by
  refine (List.Nodup.filter _ ?_).filter _
  decide

/-- While a rail of the step is not done, the step is not over. -/
theorem downStepCheck_of_waiting {s : State} (h : ((s.downRails s.seqStep).any fun j => !(s.rail j).stepDone) = true) : s.downStepCheck = s := by
  refine if_neg ?_
  simp only [Bool.and_eq_true, not_and]
  refine fun _ hall => ?_
  obtain ⟨j, hj, hdone⟩ := List.any_eq_true.mp h
  rw [List.all_eq_true.mp hall j hj] at hdone
  exact Bool.noConfusion hdone

theorem downStepCheck_of_phase {s : State} (h : s.phase ≠ 3) : s.downStepCheck = s := by
  refine if_neg ?_
  simp [h]

/-- The state in which the rails of a power-down step begin to wait. -/
def State.downStepBegun (s : State) : State :=
  ((({ s with seq := { s.seq with sub := .run } }).put F.SQC_STATUS_GATE_WAIT false).disarm .gateTimeout).trace 0x20 s.seqStep 0

theorem downRails_congr {s t : State} (hf : ∀ j, t.get (F.SQ_DN_DN j) = s.get (F.SQ_DN_DN j)) (hb : t.boot = s.boot) (n : Nat) :
    t.downRails n = s.downRails n := by
  have hp : t.railPresent = s.railPresent := funext fun j => by rw [State.railPresent, hb, State.railPresent]
  simp only [State.downRails, State.presentRails, hf, hp]

theorem downRails_begun (s : State) (n : Nat) : s.downStepBegun.downRails n = s.downRails n :=
  downRails_congr (s := s) (t := s.downStepBegun) (fun j => by simp (disch := (clear * -; decide +revert)) [State.downStepBegun]) rfl n

/-- A started step whose rails are not all done has their delays running. -/
theorem startDownStep_of_waiting {s : State} (h : ((s.downRails s.seqStep).any fun j => !(s.rail j).stepDone) = true) :
    s.startDownStep = forAll (s.downRails s.seqStep) (armDelay (fun _ => false) F.SQ_DN_DN_DLY) s.downStepBegun := by
  have harm : armDelay (fun _ => false) F.SQ_DN_DN_DLY = fun j t => t.arm (.railDelay j) (10000 * t.get (F.SQ_DN_DN_DLY j)) := by
    funext j t
    exact if_neg Bool.false_ne_true
  refine Eq.trans (by rw [← downRails_begun, harm]; rfl) (downStepCheck_of_waiting ?_)
  have hstep : ∀ l, (forAll l (armDelay (fun _ => false) F.SQ_DN_DN_DLY) s.downStepBegun).seqStep = s.seqStep := fun l => by
    simp (disch := decide) [State.seqStep, State.downStepBegun]
  rw [hstep, downRails_congr (s := s) (fun j => by simp (disch := (clear * -; decide +revert)) [State.downStepBegun]) (by simp [State.downStepBegun])]
  simpa [State.downStepBegun] using h

/-- A rail that was not discharged in its time: shown as failed, its step done. -/
def State.railFailed (s : State) (j : RailId) : State :=
  ((s.set (F.SQ_STATUS_RSTATE j) 6).traceRail 0x14 j).modRail j fun r => { r with stepDone := true }

theorem railFailed_state (s : State) (j : RailId) : (s.railFailed j).get (F.SQ_STATUS_RSTATE j) = 6 := by
  simp (disch := (clear * -; decide +revert)) [State.railFailed]

theorem railFailed_fieldOf (s : State) {j : RailId} {f : Fld} (ht : f.reg ≠ R.SQC_TRC_HEAD) (hs : f.reg ≠ R.SQ_STATUS j) :
    fieldOf f (s.railFailed j).regs = fieldOf f s.regs :=
  (trace_fieldOf _ _ _ _ ht).trans (fieldOf_of_word f (bankRead_withField_other _ _ hs))

/-- A margin that did not settle: its target turned to 0, a new move begun. -/
def State.marginTurned (s : State) (j : RailId) : State :=
  (((s.set (F.SQ_MG_TARGET j) 0).modRail j fun r => { r with stable := 0, atRail := 0 }).put (F.SQ_MGST_MOVING j) true).arm (.margin j) (msec 100)

/-- How near a source is to filling its count depends on its count and its escalation word. -/
theorem calm_congr {s t : State} {src : Nat} (hd : t.has (F.FLT_ESC_DIS src) = s.has (F.FLT_ESC_DIS src))
    (hn : t.get (F.FLT_ESC_N src) = s.get (F.FLT_ESC_N src)) (hf : t.flt = s.flt) : t.calm src = s.calm src := by
  rw [State.calm, hd, hn, hf, State.calm]

/-- Settles O35: the power-down's steps, gates and releases, and the moves of a margin. -/
theorem powerDownAndMarginSequence : Obligations.PowerDownAndMarginSequence := by
  refine ⟨fun s h1 h2 h3 h4 h5 => ?_, fun s j h1 h2 h3 h4 h5 => ?_, fun s h1 h2 h3 => ?_, fun s j h1 h2 h3 => ?_, fun s j h1 => ?_,
    fun s j h1 h2 h3 h4 => ?_, fun s j h1 h2 h3 h4 => ?_, fun s j h1 h2 h3 h4 h5 h6 => ?_, fun s j h1 h2 h3 h4 h5 => ?_⟩
  · refine .of_elapse_eq h2 (congrArg Host.Outcome.next (if_pos h1)) (if_pos ?_) ?_
    · exact Bool.and_eq_true_iff.mpr ⟨Bool.and_eq_true_iff.mpr ⟨h3, h4⟩, congrArg not h5⟩
    · simp (disch := (clear * -; decide +revert)) [State.waitAtGate]
  · have hwait : ((s.downRails s.seqStep).any fun j => !(s.rail j).stepDone) = true :=
      List.any_eq_true.mpr ⟨j, List.contains_iff_mem.mp h4, congrArg not h5⟩
    refine .of_elapse_eq h2 (congrArg Host.Outcome.next (if_pos h1)) (if_neg ?_) ?_
    · exact fun h => Bool.false_ne_true (h3.symm.trans (Bool.and_eq_true_iff.mp (Bool.and_eq_true_iff.mp h).1).1)
    · rw [startDownStep_of_waiting (s := s.elapsed .seqDelay) hwait]
      refine ⟨(forAll_armDelay_self _ (List.contains_iff_mem.mp h4) (downRails_nodup _ _) rfl).trans ?_, ?_, ?_, ?_⟩
      · simp (disch := (clear * -; decide +revert)) [State.downStepBegun]
      · simp [State.downStepBegun]
      · simp (disch := (clear * -; decide +revert)) [State.downStepBegun]
      · simpa (disch := (clear * -; decide +revert)) [State.downStepBegun, State.phase] using h1
  · refine .of_elapse h1 rfl ?_
    have hstep : ((((s.elapsed .gateTimeout).flag G.SQC_GATE_TO).warn 0x2905).trace 0x23 s.seqStep 0).seqStep = s.seqStep := by
      simp (disch := decide) [State.seqStep]
    have hwait : (((((((s.elapsed .gateTimeout).flag G.SQC_GATE_TO).warn 0x2905).trace 0x23 s.seqStep 0)).downRails s.seqStep).any fun j =>
        !((((((s.elapsed .gateTimeout).flag G.SQC_GATE_TO).warn 0x2905).trace 0x23 s.seqStep 0)).rail j).stepDone) = true := by
      rw [downRails_congr (s := s) (fun j => by simp (disch := (clear * -; decide +revert))) (by simp)]
      simpa using h3
    have hflag : fieldOf G.SQC_GATE_TO.bit ((((s.elapsed .gateTimeout).flag G.SQC_GATE_TO).warn 0x2905).trace 0x23 s.seqStep 0).regs = 1 := by
      simp (disch := decide)
    have hq : (((((s.elapsed .gateTimeout).flag G.SQC_GATE_TO).warn 0x2905).trace 0x23 (s.elapsed .gateTimeout).seqStep 0)).startDownStep = _ :=
      startDownStep_of_waiting (hstep.symm ▸ hwait)
    rw [hq]
    simp (disch := decide) [State.downStepBegun]
  · obtain ⟨hen, hst, hbelow, hfall⟩ := releaseRail_facts (s.elapsed (.railDelay j)) j false 4
    have hmg := releaseRail_mg (s.elapsed (.railDelay j)) j false 4
    have hb : ((s.elapsed (.railDelay j)).releaseRail j false 4).below j = false := (congrArg (Nat.testBit · j.val) hbelow).trans h3
    refine .of_elapse_eq h2 (congrArg Host.Outcome.next (if_pos h1)) (if_neg (fun h => Bool.false_ne_true (hb.symm.trans h))) ?_
    have hnow := releaseRail_now (s.elapsed (.railDelay j)) j false 4
    clear hb hbelow h1 h2 h3
    generalize (s.elapsed (.railDelay j)).releaseRail j false 4 = t at *
    simp (disch := (clear * -; decide +revert)) [hen, hst, hfall, hmg]
  · refine .of_elapse h1 rfl ?_
    simp (disch := (clear * -; decide +revert))
  · refine .of_elapse_eq h1 rfl (if_neg (fun h => Bool.false_ne_true (h2.symm.trans h))) ?_
    have hlog := raise_logged (code := railFault j 2 0x22) (by clear * -; decide +revert) (.inr ?_) (.refl ((s.elapsed (.discharge j)).railFailed j))
    · have hphase : (((s.elapsed (.discharge j)).railFailed j).raise (railFault j 2 0x22)).phase ≠ 3 := by
        rw [State.phase, hlog.get _ (by decide), get_eq_fieldOf, railFailed_fieldOf _ (by decide) (by clear * -; decide +revert)]
        exact h3
      have hmg := congrArg (fun v : Vector Rail 16 => v[j.val].mg) hlog.rails
      have hdone := congrArg (fun v : Vector Rail 16 => v[j.val].stepDone) hlog.rails
      have hstate := hlog.get (F.SQ_STATUS_RSTATE j) (by clear * -; decide +revert)
      refine (downStepCheck_of_phase hphase).symm ▸ ⟨hstate.trans (railFailed_state _ _), hdone.trans ?_, hmg.trans ?_⟩
      · simp [State.railFailed]
      · simp [State.railFailed]
    · rw [(by clear * -; decide +revert : faultSource (railFault j 2 0x22) = 0x10 + j.val)]
      refine (calm_congr (s := s) ?_ ?_ ?_).trans h4
      · rw [has_eq_fieldOf, railFailed_fieldOf _ (by clear * -; decide +revert) (by clear * -; decide +revert)]
        rfl
      · exact railFailed_fieldOf (f := F.FLT_ESC_N _) _ (by clear * -; decide +revert) (by clear * -; decide +revert)
      · rfl
  · refine .of_eq ((if_neg ?_).trans (if_pos ?_)) ?_
    · rw [State.marginHeld, h1, h2, decide_eq_false h3]
      exact Bool.false_ne_true
    · exact congrArg not h4
    · simp (disch := (clear * -; decide +revert))
      exact Nat.mod_eq_of_lt (fieldOf_lt _ _)
  · refine .of_exec (o := execMarginFrameStep j s) rfl ?_
    have hfar : ¬ Nat.ble (s.marginErr j).natAbs ((s.rail j).n * s.vnom j) = true := by
      rw [Nat.ble_eq]
      omega
    have hneg : s.marginErr j < 0 := by omega
    unfold execMarginFrameStep
    rw [if_neg (by rw [State.marginHeld, h2, h3, decide_eq_false h1]; exact Bool.false_ne_true), if_neg (by rw [h4]; exact Bool.false_ne_true)]
    simp only [if_neg hfar, hneg, h6, decide_true, if_true]
    simp (disch := (clear * -; decide +revert))
    refine Nat.mod_eq_of_lt ((Nat.min_le_left _ _).trans_lt ?_)
    exact (by decide : 1023 < 2 ^ 10)
  · have hcalm : ((s.marginTurned j).flag (G.SQ_MARGIN j)).calm (0x10 + j.val) = true := by
      refine (calm_congr (s := s) ?_ ?_ ?_).trans h5
      · simp (disch := (clear * -; decide +revert)) [State.marginTurned]
      · simp (disch := (clear * -; decide +revert)) [State.marginTurned]
      · rfl
    have hlog := raise_logged (code := railFault j 2 0x05) (by clear * -; decide +revert)
      (.inr ((by clear * -; decide +revert : faultSource (railFault j 2 0x05) = 0x10 + j.val) ▸ hcalm)) (.refl _)
    refine .of_eq (congrArg Host.Outcome.next ((if_neg ?_).trans (if_pos h4))) ?_
    · rw [h1, h2]
      exact Bool.false_ne_true
    · have htimer := congrArg (timerIn · (.margin j)) hlog.timers
      refine ⟨(hlog.get _ (by clear * -; decide +revert)).trans ?_, (hlog.has _ (by clear * -; decide +revert)).trans ?_,
        (hlog.has _ (by clear * -; decide +revert)).trans ?_, htimer.trans ?_⟩
      all_goals simp (disch := (clear * -; decide +revert)) [State.marginTurned]

end Sys2Proof.Machine
end

section
/-!
Power-up of the rails (chapter 12): a rail's frame, its resets, and the steps of the table.
-/
namespace Sys2Proof.Machine

/-- The fields that a frame of current sense m writes. -/
def senseFields (m : Nat) : List Fld := [F.SQI_MEAS_I_FRAME m, (G.SQI_EVT m).bit, (G.SQI_EVT m).cnt]

/-- The fields that a rail's frame writes besides its power good, its mean and its mark of regulation. -/
def judgeFields (j : RailId) : List Fld :=
  [F.SQC_RAILS_BELOW, F.SQ_MGST_UV_ARMED j, F.SQ_MGST_UVW_ACT j, F.SQ_MGST_OVW_ACT j, F.SQ_STATUS_T_LAST j, F.SQ_STATUS_RSTATE j,
    F.SQ_STATUS_MG_DIS j, (G.SQ_UV_WARN j).bit, (G.SQ_UV_WARN j).cnt, (G.SQ_OV_WARN j).bit, (G.SQ_OV_WARN j).cnt,
    F.SQC_RST_ST_STRETCHING] ++ (List.range 4).flatMap senseFields ++ (traceFields ++ transitionFields)

/-- `t` follows from `s` in a frame of rail j: those fields may have changed, but not how many frames the rail was in regulation or off. -/
structure Judged (j : RailId) (s t : State) : Prop where
  writes : Writes (judgeFields j) s t
  regFrames : (t.rail j).regFrames = (s.rail j).regFrames
  offFrames : (t.rail j).offFrames = (s.rail j).offFrames

theorem transition_rails (s : State) (d : DevState) (n : Nat) : (s.transition d n).rails = s.rails := by
  unfold State.transition
  extract_lets a b src c e f
  have hb : b.rails = s.rails := by
    simp only [b, apply_ite State.rails, post_rails]
    exact ite_self _
  clear_value b
  have he : e.rails = s.rails := hb
  clear_value e
  have hf : f.rails = s.rails := by
    have hall : (forAll modulePorts (fun k t => (t.set (F.BUD_GRANT_CEIL k) 0).set (F.CNV_ILIM_ALLOC k) 0) e).rails = e.rails :=
      forAll_invariant (g := State.rails) (fun _ _ => rfl) modulePorts e
    simp only [f, apply_ite State.rails, set_rails, hall, he, ite_self]
  clear_value f
  cases d
  case winter => exact (apply_ite State.rails _ _ _).trans (ite_eq_iff'.mpr ⟨fun _ => hf, fun _ => hf⟩)
  all_goals exact hf

section
variable {j : RailId} {s₀ s t : State}

theorem mem_judgeFields {f : Fld} (h : f ∈ traceFields ++ transitionFields) : f ∈ judgeFields j := List.mem_append_right _ h
theorem sense_subset_judgeFields {m : Nat} (hm : m ∈ List.range 4) : senseFields m ⊆ judgeFields j := fun _ hf =>
  List.mem_append_left _ (List.mem_append_right _ (List.mem_flatMap_of_mem hm hf))
theorem trace_subset_judgeFields : traceFields ⊆ judgeFields j := fun _ h => mem_judgeFields (List.mem_append_left _ h)
theorem transition_subset_judgeFields : transitionFields ⊆ judgeFields j := fun _ h => mem_judgeFields (List.mem_append_right _ h)
theorem log_subset_judgeFields : logFields ⊆ judgeFields j := fun _ h =>
  transition_subset_judgeFields (List.mem_append_right _ h)

theorem Judged.refl (s : State) : Judged j s s := ⟨.refl s, rfl, rfl⟩
/-- An act that leaves the rails. -/
theorem Judged.of_rails (h : Judged j s₀ s) (hw : Writes (judgeFields j) s₀ s → Writes (judgeFields j) s₀ t) (hr : t.rails = s.rails) :
    Judged j s₀ t := by
  refine ⟨hw h.writes, ?_, ?_⟩
  · exact (congrArg (fun v : Vector Rail 16 => v[j.val].regFrames) hr).trans h.regFrames
  · exact (congrArg (fun v : Vector Rail 16 => v[j.val].offFrames) hr).trans h.offFrames
theorem Judged.modRail {f : Rail → Rail} (h : Judged j s₀ s) (hr : (f (s.rail j)).regFrames = (s.rail j).regFrames)
    (ho : (f (s.rail j)).offFrames = (s.rail j).offFrames) : Judged j s₀ (s.modRail j f) := by
  refine ⟨h.writes, ?_, ?_⟩
  · rw [← h.regFrames, ← hr]
    simp
  · rw [← h.offFrames, ← ho]
    simp
theorem Judged.ite {c : Prop} [Decidable c] (hs : Judged j s₀ s) (ht : Judged j s₀ t) : Judged j s₀ (if c then s else t) := by
  split
  · exact hs
  · exact ht
theorem Judged.set {f : Fld} {v : Nat} (h : Judged j s₀ s) (hf : f ∈ judgeFields j) : Judged j s₀ (s.set f v) :=
  h.of_rails (fun hw => hw.set hf) rfl
theorem Judged.put {f : Fld} {b : Bool} (h : Judged j s₀ s) (hf : f ∈ judgeFields j) : Judged j s₀ (s.put f b) := h.set hf
theorem Judged.flag {g : Flag} (h : Judged j s₀ s) (hb : g.bit ∈ judgeFields j) (hc : g.cnt ∈ judgeFields j) : Judged j s₀ (s.flag g) :=
  h.of_rails (fun hw => hw.flag hb hc) rfl
theorem Judged.warn {code : Nat} (h : Judged j s₀ s) : Judged j s₀ (s.warn code) :=
  h.of_rails (fun hw => hw.warn log_subset_judgeFields) (warn_rails _ _)
theorem Judged.trace {code idx mv : Nat} (h : Judged j s₀ s) : Judged j s₀ (s.trace code idx mv) :=
  h.of_rails (fun hw => hw.traceEntry trace_subset_judgeFields) rfl
theorem Judged.disarm {x : TimerId} (h : Judged j s₀ s) : Judged j s₀ (s.disarm x) := ⟨h.writes, h.regFrames, h.offFrames⟩

theorem phase_outside_judgeFields : ∀ j, Fld.outside F.SQC_STATUS_PHASE (judgeFields j) = true := by decide +kernel
theorem Judged.phase (h : Judged j s₀ s) : s.phase = s₀.phase := h.writes _ (phase_outside_judgeFields j)
theorem upStepCheck_of_phase (h : s.phase ≠ 1) : s.upStepCheck = s := by
  refine if_neg ?_
  simp [h]
theorem Judged.upStepCheck (h : Judged j s₀ s) (hp : s₀.phase = 0) : Judged j s₀ s.upStepCheck := by
  rw [upStepCheck_of_phase (by rw [h.phase, hp]; decide)]
  exact h

theorem Judged.reached (h : Judged j s₀ s) (hp : s₀.phase = 0) : Judged j s₀ (s.reached j) := by
  unfold State.reached
  extract_lets a b
  have ha : Judged j s₀ a := h.put (by simp [judgeFields])
  have hb : Judged j s₀ b := ha.disarm.set (by simp [judgeFields])
  exact .ite (((hb.set (by simp [judgeFields])).trace).upStepCheck hp) (ha.upStepCheck hp)
theorem Judged.fallTimed (h : Judged j s₀ s) : Judged j s₀ (s.fallTimed j) := by
  unfold State.fallTimed
  exact .ite ((h.set (by simp [judgeFields])).modRail rfl rfl) h
theorem Judged.fallen (h : Judged j s₀ s) (hp : s₀.phase = 0) : Judged j s₀ (s.fallen j) := by
  unfold State.fallen State.railDone
  extract_lets r a
  have ha : Judged j s₀ a := h.fallTimed
  refine .ite ?_ (.ite ha.trace (.ite (((ha.put (by simp [judgeFields])).modRail rfl rfl).trace) (.ite (ha.modRail rfl rfl).trace ha)))
  have hd : Judged j s₀ ((((a.disarm (.fall j)).set (F.SQ_STATUS_RSTATE j) 0).traceRail 0x11 j).modRail j fun r => { r with stepDone := true }) :=
    ((ha.disarm.set (by simp [judgeFields])).trace).modRail rfl rfl
  rw [downStepCheck_of_phase (by rw [hd.phase, hp]; decide)]
  exact hd
theorem Judged.noteRaise (h : Judged j s₀ s) : Judged j s₀ (s.noteRaise j) := by
  unfold State.noteRaise
  exact h.modRail rfl rfl
theorem Judged.frameWarnings {lo hi : Nat} (h : Judged j s₀ s) : Judged j s₀ (s.frameWarnings j lo hi) := by
  unfold State.frameWarnings
  extract_lets r hy uvWas uv ovWas ov a b c
  have hb : Judged j s₀ b := ((h.modRail rfl rfl).put (by simp [judgeFields])).put (by simp [judgeFields])
  have hc : Judged j s₀ c := .ite ((hb.noteRaise.flag (by simp [judgeFields]) (by simp [judgeFields])).warn) hb
  exact .ite ((hc.noteRaise.flag (by simp [judgeFields]) (by simp [judgeFields])).warn) hc

theorem Judged.sense {id : WinId} {chs : List Nat} (h : Judged j s₀ s) : Judged j s₀ (s.openWindows id chs) :=
  h.of_rails (fun hw => hw.same rfl) rfl
theorem Judged.senseFrame {m : Nat} (h : Judged j s₀ s) (hm : m ∈ List.range 4) : Judged j s₀ (s.senseFrame j m) := by
  unfold State.senseFrame
  split
  · exact h
  · next v _ =>
    extract_lets a ma unit level clear cs w src b
    have ha : Judged j s₀ a := h.sense.set (sense_subset_judgeFields hm (by simp [senseFields]))
    have hb : Judged j s₀ b := ha.of_rails (fun hw => hw.same rfl) rfl
    exact .ite ((hb.flag (sense_subset_judgeFields hm (by simp [senseFields]))
      (sense_subset_judgeFields hm (by simp [senseFields]))).warn) hb
theorem Judged.stretchCheck {n : Fin 4} (h : Judged j s₀ s) : Judged j s₀ (s.stretchCheck n) := by
  unfold State.stretchCheck
  exact .ite (.ite h (h.of_rails (fun hw => (hw.putBit (by simp [judgeFields])).arm) rfl))
    (.ite (h.of_rails (fun hw => hw.disarm.putBit (by simp [judgeFields])) rfl) h)
theorem Judged.forAll {α : Type} {act : α → State → State} {xs : List α} (h : Judged j s₀ s)
    (ha : ∀ x ∈ xs, ∀ t, Judged j s₀ t → Judged j s₀ (act x t)) : Judged j s₀ (forAll xs act s) := by
  induction xs generalizing s with
  | nil => exact h
  | cons x xs ih => exact ih (s := act x s) (ha x List.mem_cons_self s h) fun y hy => ha y (List.mem_cons_of_mem x hy)
theorem Judged.transition {d : DevState} {n : Nat} (h : Judged j s₀ s) : Judged j s₀ (s.transition d n) :=
  h.of_rails (fun hw => hw.transition transition_subset_judgeFields) (transition_rails s d n)
theorem Judged.tryT5 (h : Judged j s₀ s) : Judged j s₀ s.tryT5 := by
  unfold State.tryT5
  exact .ite h.transition h

end

/-- Whether a rail reads in regulation in a frame whose lowest result is `lo`. -/
def State.frameInReg (s : State) (j : RailId) (lo : Nat) (pg : Bool) : Bool :=
  Nat.ble (10 * s.regMv j) (4 * lo) && (!s.has (F.SQ_UP_PG_USE j) || pg)

/-- The counts of a rail's frames and its mark of regulation, as its frame's levels leave them. -/
def State.railCounted (s : State) (j : RailId) (lo hi : Nat) (pg : Bool) : State :=
  let s' := s.modRail j fun r => { r with
    regFrames := if s.frameInReg j lo pg then r.regFrames + 1 else 0
    offFrames := if Nat.blt (4 * hi) (10 * s.get (F.SQ_NOM_OFF_MV j)) then r.offFrames + 1 else 0 }
  s'.putBit F.SQC_RAILS_INREG j.val (Nat.ble 2 (s'.rail j).regFrames)

theorem frameLevels_judged {s : State} {j : RailId} {lo hi : Nat} {pg : Bool} (hp : s.phase = 0) :
    Judged j (s.railCounted j lo hi pg) (s.frameLevels j lo hi pg) := by
  unfold State.frameLevels
  extract_lets ok low a b wasBelow c d
  have hb : Judged j b b := .refl b
  have hbp : b.phase = 0 := by
    refine Eq.trans ?_ hp
    simp (disch := decide) [b, a, State.phase]
  have hc : Judged j b c := hb.of_rails (fun hw => hw.putBit (by simp [judgeFields])) rfl
  have hd : Judged j b d := .ite (hc.reached hbp) hc
  exact .ite (hd.fallen hbp) hd

/-- The state in which a measured rail's frame has stored its power good and its mean. -/
def State.railMean (s : State) (j : RailId) (pg : Bool) (v : Win) : State :=
  (((s.openWindows (.rail j) [0x51 + j.val]).put (F.SQ_STATUS_PG j) pg).modRail j fun r => { r with sum := v.sum, n := v.n }).set
    (F.SQ_MEAS_V_MV j) (4 * v.sum / (10 * (v.n : Int))).toNat

theorem railMean_facts (s : State) (j : RailId) (pg : Bool) (v : Win) :
    (s.railMean j pg v).phase = s.phase ∧ (s.railMean j pg v).has (F.SQ_STATUS_PG j) = pg ∧
    (s.railMean j pg v).get (F.SQ_MEAS_V_MV j) = (4 * v.sum / (10 * (v.n : Int))).toNat % 2 ^ (F.SQ_MEAS_V_MV j).width ∧
    (s.railMean j pg v).regMv j = s.regMv j ∧ (s.railMean j pg v).has (F.SQ_UP_PG_USE j) = s.has (F.SQ_UP_PG_USE j) ∧
    (s.railMean j pg v).get (F.SQ_NOM_OFF_MV j) = s.get (F.SQ_NOM_OFF_MV j) ∧
    ((s.railMean j pg v).rail j).regFrames = (s.rail j).regFrames ∧ ((s.railMean j pg v).rail j).offFrames = (s.rail j).offFrames := by
  simp (disch := (clear * -; decide +revert)) [State.railMean, State.phase, State.openWindows, State.regMv, State.vnom, State.mLow, State.mgPos,
    State.mgTarget]

theorem railCounted_facts (s : State) (j : RailId) (lo hi : Nat) (pg : Bool) :
    (s.railCounted j lo hi pg).phase = s.phase ∧ (s.railCounted j lo hi pg).has (F.SQ_STATUS_PG j) = s.has (F.SQ_STATUS_PG j) ∧
    (s.railCounted j lo hi pg).get (F.SQ_MEAS_V_MV j) = s.get (F.SQ_MEAS_V_MV j) ∧
    ((s.railCounted j lo hi pg).rail j).regFrames = (if s.frameInReg j lo pg then (s.rail j).regFrames + 1 else 0) ∧
    (s.railCounted j lo hi pg).bit F.SQC_RAILS_INREG j.val =
      Nat.ble 2 (if s.frameInReg j lo pg then (s.rail j).regFrames + 1 else 0) ∧
    ((s.railCounted j lo hi pg).rail j).offFrames =
      (if Nat.blt (4 * hi) (10 * s.get (F.SQ_NOM_OFF_MV j)) then (s.rail j).offFrames + 1 else 0) := by
  have hj : j.val < F.SQC_RAILS_INREG.width := j.isLt
  simp (disch := (clear * -; decide +revert)) [State.railCounted, State.phase, hj]

/-- The tail of a rail's frame: current senses, resets and T5. -/
theorem frameEnd_judged {s₀ s : State} {j : RailId} (h : Judged j s₀ s) (hp : s₀.phase = 0) :
    Judged j s₀ (((forAll ((List.range 4).filter fun m => decide (s.get (F.SQI_CFG_RAIL m) = j.val)) (fun m t => t.senseFrame j m) s).upStepCheck.stretchAll).tryT5) := by
  have hs := h.forAll (xs := (List.range 4).filter fun m => decide (s.get (F.SQI_CFG_RAIL m) = j.val)) (act := fun m t => t.senseFrame j m)
    fun m hm t ht => ht.senseFrame (List.mem_of_mem_filter hm)
  have hr := (hs.upStepCheck hp).forAll (xs := allResets) (act := fun n t => t.stretchCheck n) fun n _ t ht => ht.stretchCheck
  exact hr.tryT5

/-! Steps of the power-up -/

theorem upRails_nodup (s : State) (n : Nat) : (s.upRails n).Nodup := by
  refine (List.Nodup.filter _ ?_).filter _
  decide

/-- While a rail of the step is neither in regulation nor lost, the step is not over. -/
theorem upStepCheck_of_waiting {s : State}
    (h : ((s.upRails s.seqStep).any fun j => !s.inReg j && !(s.rail j).lostUntilSpring) = true) : s.upStepCheck = s := by
  refine if_neg ?_
  simp only [Bool.and_eq_true, not_and]
  refine fun _ hall => ?_
  obtain ⟨j, hj, hdone⟩ := List.any_eq_true.mp h
  rw [← Bool.not_or, List.all_eq_true.mp hall j hj] at hdone
  exact Bool.noConfusion hdone

/-- The state in which the rails of a power-up step begin to wait. -/
def State.upStepBegun (s : State) : State :=
  (({ s with seq := { s.seq with sub := .run } }).put F.SQC_STATUS_GATE_WAIT false).trace 0x20 s.seqStep 0

theorem upRails_congr {s t : State} (hf : ∀ j, t.get (F.SQ_UP_UP j) = s.get (F.SQ_UP_UP j)) (hb : t.boot = s.boot) (n : Nat) :
    t.upRails n = s.upRails n := by
  have hp : t.railPresent = s.railPresent := funext fun j => by rw [State.railPresent, hb, State.railPresent]
  simp only [State.upRails, State.presentRails, hf, hp]

theorem upRails_begun (s : State) (n : Nat) : s.upStepBegun.upRails n = s.upRails n :=
  upRails_congr (s := s) (t := s.upStepBegun) (fun j => by simp (disch := (clear * -; decide +revert)) [State.upStepBegun]) rfl n

/-- A started step with a rail to wait for has the delays running of those that are not lost. -/
theorem startUpStep_of_waiting {s : State} (h : ((s.upRails s.seqStep).any fun j => !s.inReg j && !(s.rail j).lostUntilSpring) = true) :
    s.startUpStep = forAll (s.upRails s.seqStep) (armDelay Rail.lostUntilSpring F.SQ_UP_UP_DLY) s.upStepBegun := by
  refine Eq.trans (by rw [← upRails_begun]; rfl) (upStepCheck_of_waiting ?_)
  have hstep : ∀ l, (forAll l (armDelay Rail.lostUntilSpring F.SQ_UP_UP_DLY) s.upStepBegun).seqStep = s.seqStep := fun l => by
    simp (disch := decide) [State.seqStep, State.upStepBegun]
  have hreg : ∀ l j, (forAll l (armDelay Rail.lostUntilSpring F.SQ_UP_UP_DLY) s.upStepBegun).inReg j = s.inReg j := fun l j => by
    simp (disch := (clear * -; decide +revert)) [State.inReg, State.upStepBegun]
  rw [hstep, upRails_congr (s := s) (fun j => by simp (disch := (clear * -; decide +revert)) [State.upStepBegun]) (by simp [State.upStepBegun])]
  simp only [hreg, rail_eq_getElem, forAll_armDelay_rails]
  exact h

theorem sourceAbsent_rail (s : State) (j : RailId) : s.sourceAbsent (0x10 + j.val) = !s.railPresent j := by
  have hp : sourcePort? (0x10 + j.val) = none := by clear * -; decide +revert
  have hr : sourceRail? (0x10 + j.val) = some j := by clear * -; decide +revert
  rw [State.sourceAbsent, hp, hr]
  rfl

/-- The mark of a stretched reset decides neither whether resets move nor what holds one. -/
theorem resetsMove_stretched (s : State) (i : TimerId) (n : Nat) :
    ((s.elapsed i).putBit F.SQC_RST_ST_STRETCHING n false).resetsMove = s.resetsMove := by
  simp (disch := decide) [State.resetsMove, State.phase]
theorem releaseHolds_stretched (s : State) (i : TimerId) (n : Fin 4) :
    ((s.elapsed i).putBit F.SQC_RST_ST_STRETCHING n.val false).releaseHolds n = s.releaseHolds n := by
  have hreg : ∀ j, ((s.elapsed i).putBit F.SQC_RST_ST_STRETCHING n.val false).inReg j = s.inReg j := fun j => by
    simp (disch := (clear * -; decide +revert)) [State.inReg]
  have hw : ((s.elapsed i).putBit F.SQC_RST_ST_STRETCHING n.val false).watched n = s.watched n := by
    have hp : ((s.elapsed i).putBit F.SQC_RST_ST_STRETCHING n.val false).railPresent = s.railPresent := rfl
    rw [State.watched, hp, State.watched]
    simp (disch := (clear * -; decide +revert))
  rw [State.releaseHolds, hw, funext hreg, State.releaseHolds]
  rfl

/-- Settles O34: the table's steps up, and the judgement of a rail's frame. -/
theorem powerUpAndResetsSequence : Obligations.PowerUpAndResetsSequence := by
  refine ⟨fun s h1 h2 h3 h4 h5 h6 => ?_, fun s h1 h2 h3 h4 h5 => ?_, fun s j h1 h2 h3 h4 h5 h6 h7 => ?_, fun s j h1 h2 h3 => ?_,
    fun s j d h1 => ?_, fun s j h1 h2 h3 h4 => ?_, fun s j pg h1 h2 h3 => ?_, fun s j pg v m h1 h2 h3 h4 h5 => ?_, fun s n h1 h2 h3 => ?_,
    fun s n h1 h2 => ?_⟩
  · refine .of_elapse_eq h3 (congrArg Host.Outcome.next (if_pos ?_)) (if_pos ?_) ?_
    · rw [h1, h2]
      rfl
    · exact Bool.and_eq_true_iff.mpr ⟨Bool.and_eq_true_iff.mpr ⟨h4, h5⟩, congrArg not h6⟩
    · simp (disch := (clear * -; decide +revert)) [State.waitAtGate]
  · refine .of_elapse_eq h3 (congrArg Host.Outcome.next (if_pos ?_)) (if_neg ?_) ?_
    · rw [h1, h2]
      rfl
    · exact fun h => Bool.false_ne_true (h4.symm.trans (Bool.and_eq_true_iff.mp (Bool.and_eq_true_iff.mp h).1).1)
    · rw [startUpStep_of_waiting (s := s.elapsed .seqDelay) h5]
      simp (disch := (clear * -; decide +revert)) [State.upStepBegun, State.seqStep]
  · have hwait : ((s.upRails s.seqStep).any fun j => !s.inReg j && !(s.rail j).lostUntilSpring) = true :=
      List.any_eq_true.mpr ⟨j, List.contains_iff_mem.mp h5, by rw [h6, h7]; rfl⟩
    refine .of_elapse_eq h3 (congrArg Host.Outcome.next (if_pos ?_)) (if_neg ?_) ?_
    · rw [h1, h2]
      rfl
    · exact fun h => Bool.false_ne_true (h4.symm.trans (Bool.and_eq_true_iff.mp (Bool.and_eq_true_iff.mp h).1).1)
    · rw [startUpStep_of_waiting (s := s.elapsed .seqDelay) hwait]
      refine ⟨(forAll_armDelay_self (s.elapsed .seqDelay).upStepBegun (List.contains_iff_mem.mp h5) (upRails_nodup _ _) h7).trans ?_, ?_, ?_⟩
      · simp (disch := (clear * -; decide +revert)) [State.upStepBegun]
      · simp [State.upStepBegun]
      · simpa (disch := (clear * -; decide +revert)) [State.upStepBegun, State.phase] using h1
  · refine .of_elapse h3 (congrArg Host.Outcome.next (if_pos ?_)) ?_
    · rw [h1, h2]
      rfl
    · simp (disch := (clear * -; decide +revert))
  · refine (congrArg Host.Outcome.next (onElapse_eq s _ _ d h1)).trans ?_
    rw [railFault, (by omega : 3 * 2 ^ 14 + (0x10 + j.val) * 2 ^ 8 + 0x20 = 0xD020 + 0x100 * j.val)]
  · have hc : faultClass (railFault j 3 0x20) = 3 := by clear * -; decide +revert
    have hp : ((((s.elapsed (.rise j)).traceRail 0x04 j).flag G.SQC_RISE_TO).sourceAbsent (faultSource (railFault j 3 0x20))) = false := by
      rw [(by clear * -; decide +revert : faultSource (railFault j 3 0x20) = 0x10 + j.val), sourceAbsent_rail]
      exact congrArg not h2
    have hs : ((((s.elapsed (.rise j)).traceRail 0x04 j).flag G.SQC_RISE_TO).isAny [.spring, .summer]) = true := by
      refine Eq.trans ?_ h3
      simp (disch := decide) [State.isAny]
    obtain ⟨hin, -, hentry, -⟩ := raise_fatal_entered hc hp hs h4
    obtain ⟨hflag, hcode⟩ := raise_fatal_held hc hp
    refine .of_elapse h1 rfl ⟨?_, hflag, hin, hentry, hcode.trans ?_⟩
    · rw [(raise_fatal_writes hc hp).has _ (by decide +kernel)]
      exact has_flag_self _ _ (by decide) (by decide) (by decide)
    · have hkept : (((s.elapsed (.rise j)).traceRail 0x04 j).flag G.SQC_RISE_TO).get F.FLT_FATAL_CODE = s.get F.FLT_FATAL_CODE := by
        simp (disch := decide)
      rw [hkept]
      have hnum : railFault j 3 0x20 % 2 ^ 16 = 0xD020 + 0x100 * j.val := by clear * -; decide +revert
      rw [hnum]
  · refine .of_eq (if_pos h1) ?_
    simp only [h2]
    have h := frameEnd_judged (Judged.refl (j := j) ((s.openWindows (.rail j) [0x51 + j.val]).put (F.SQ_STATUS_PG j) pg)) (j := j)
      (Eq.trans (by simp (disch := (clear * -; decide +revert)) [State.phase, State.openWindows]) h3)
    refine ⟨(h.writes.has _ ?_).trans ?_, (h.writes.has _ ?_).trans ?_⟩
    · clear * -
      decide +kernel +revert
    · simp (disch := (clear * -; decide +revert))
    · clear * -
      decide +kernel +revert
    · simp (disch := (clear * -; decide +revert)) [State.openWindows]
  · refine .of_eq (if_pos h1) ?_
    simp only [h2, if_neg h3]
    obtain ⟨hphase, hpg, hmean, hreg, huse, hoff, hrf, hof⟩ := railMean_facts s j pg v
    obtain ⟨hphase', hpg', hmean', hrf', hbit', hof'⟩ := railCounted_facts (s.railMean j pg v) j v.lo.toNat v.hi.toNat pg
    have hin : (s.railMean j pg v).frameInReg j v.lo.toNat pg =
        decide (10 * s.regMv j ≤ 4 * v.lo.toNat ∧ (s.has (F.SQ_UP_PG_USE j) = false ∨ pg = true)) := by
      rw [State.frameInReg, hreg, huse, Bool.eq_iff_iff]
      simp [Nat.ble_eq]
    have hlevels := (frameLevels_judged (j := j) (lo := v.lo.toNat) (hi := v.hi.toNat) (pg := pg) (hphase.trans h4)).frameWarnings
      (lo := v.lo.toNat) (hi := v.hi.toNat)
    have h := frameEnd_judged hlevels (hphase'.trans (hphase.trans h4))
    have hm : (if (s.railMean j pg v).frameInReg j v.lo.toNat pg then ((s.railMean j pg v).rail j).regFrames + 1 else 0) = m := by
      rw [hin, hrf, h5]
      simp only [decide_eq_true_eq]
    rw [hm] at hrf' hbit'
    refine ⟨(h.writes.has _ ?_).trans (hpg'.trans hpg), (h.writes _ ?_).trans (hmean'.trans hmean), h.regFrames.trans hrf',
      (congrArg (Nat.testBit · j.val) (h.writes _ ?_)).trans (hbit'.trans ?_), h.offFrames.trans (hof'.trans ?_)⟩
    · clear * -
      decide +kernel +revert
    · clear * -
      decide +kernel +revert
    · clear * -
      decide +kernel +revert
    · rw [Bool.eq_iff_iff, Nat.ble_eq, decide_eq_true_eq]
    · simp only [hoff, hof, Nat.blt_eq]
  · refine .of_elapse_eq h1 rfl (if_pos ?_) ?_
    · rw [resetsMove_stretched, releaseHolds_stretched, h2, h3]
      rfl
    · simp (disch := (clear * -; decide +revert))
      clear * -
      decide +revert
  · refine .of_elapse_eq h1 rfl (if_neg ?_) ?_
    · rw [resetsMove_stretched, h2]
      exact Bool.false_ne_true
    · simp (disch := (clear * -; decide +revert))

end Sys2Proof.Machine
end

section
/-!
The refutations of the two statements on the port switch: an absent port's switch takes no open command (R40), so that a trip or a hold of it
leaves the switch driven.
-/
namespace Sys2Proof.Machine

/-- Port 1 absent, its switch in a state of its closing or closed, and the closing's limit running. -/
def State.absentSwitch (state : Nat) : State :=
  ({ State.reset with boot := { State.reset.boot with portsAbsent := 1 } }.set (F.BRK_STATUS_STATE 0) state).arm (.closing 0) 5

/-- Refutes O32: the closing of an absent port's switch runs into its limit, and the trip leaves the switch driven. -/
theorem not_portSwitchClosesAndTrips : ¬ Obligations.PortSwitchClosesAndTrips := by
  rintro ⟨-, -, -, -, htimeout, -⟩
  obtain ⟨t, hexec, -, hopen, -⟩ := htimeout (.absentSwitch 2) 0 (by decide) (by decide) (by decide)
  have hdriven : nextHolds (exec (.closingTimeout 0) (.absentSwitch 2)) (fun t => t.switchDriven 0) = true := by decide +kernel
  rw [hexec] at hdriven
  exact Bool.false_ne_true (hopen.symm.trans hdriven)

/-- Refutes O33: the gate drive of an absent port's switch is lost, and the hold leaves the switch driven. -/
theorem not_breakerRetriesAndChecksAct : ¬ Obligations.BreakerRetriesAndChecksAct := by
  rintro ⟨-, -, -, -, -, hlost, -⟩
  obtain ⟨t, hexec, -, hopen, -⟩ := hlost (.absentSwitch 3) 0 (by decide) (by decide)
  have hdriven : nextHolds (exec (.gateDriveLost 0) (.absentSwitch 3)) (fun t => t.switchDriven 0) = true := by decide +kernel
  rw [hexec] at hdriven
  exact Bool.false_ne_true (hopen.symm.trans hdriven)

end Sys2Proof.Machine
end

section
/-!
The refutation of the statement on life records and device limits: a Winter hold that ends while a restart asked for by a command is under
way (R37) leaves that restart as it is, and it does not become an automatic one.
-/
namespace Sys2Proof.Machine

/-- Winter with a hold of 10 s running and one automatic restart allowed, while a restart that was asked for is under way. -/
def State.winterRestarting : State :=
  ({ ((State.reset.set F.SYS_STATE_STATE DevState.winter.code).set F.SYS_STATE_CFG_WINTER_HOLD 10).set F.SYS_STATE_CFG_WINTER_RETRY 1 with
    seq := { State.reset.seq with forRestart := true } }).arm .winterHold 5

/-- Refutes O6: the end of the Winter hold finds a restart under way that was asked for, and does not turn it into an automatic one. -/
theorem not_lifeRecordsAndDeviceLimitsAct : ¬ Obligations.LifeRecordsAndDeviceLimitsAct := by
  rintro ⟨-, -, -, -, -, -, -, -, -, -, -, -, hhold, -⟩
  obtain ⟨t, hexec, -, hauto, -⟩ := hhold .winterRestarting (by decide) (by decide) (by decide) (by decide) (by decide)
  have hkept : nextHolds (exec .winterHoldElapsed .winterRestarting) (fun t => !t.seq.restartAuto) = true := by decide +kernel
  rw [hexec] at hkept
  have hfalse : t.seq.restartAuto = false := by simpa [nextHolds] using hkept
  exact Bool.false_ne_true (hfalse.symm.trans hauto)

end Sys2Proof.Machine
end

section
/-!
The refutation of the statement on mains and ride-through: the return from Autumn lets the power-down of a restart that waits at an open
gate go on, and its last step ends in the restart (T11), not in Summer.
-/
namespace Sys2Proof.Machine

/-- Autumn by a loss of mains, entered from Summer while the power-down of a restart waited at the gate of its only step; the gate is open
by now and the second without an edge runs. -/
def State.autumnAtGate : State :=
  let s := ((State.reset.set F.SYS_STATE_STATE DevState.autumn.code).set F.SYS_STATE_PREV DevState.summer.code).set F.SQC_STATUS_PHASE 3
  { s.put F.AXL_STATUS_DNV true with
    bus := { s.bus with cause := 2 }, seq := { s.seq with sub := .gate, forRestart := true } }.arm .mainsReturn 5

/-- Refutes O8: the return of the supply finds the last gate of a restart's power-down open, and the part restarts. -/
theorem not_mainsAndRideThroughAct : ¬ Obligations.MainsAndRideThroughAct := by
  rintro ⟨-, -, -, -, hreturn, -⟩
  obtain ⟨t, hexec, hsummer, -⟩ :=
    hreturn .autumnAtGate (by decide) (by decide) (by decide) (by decide) (by decide) (by decide)
  have hrestarted : nextHolds (exec .mainsReturnTimeout .autumnAtGate) (fun t => !t.isIn .summer) = true := by decide +kernel
  rw [hexec] at hrestarted
  have hfalse : t.isIn .summer = false := by simpa [nextHolds] using hrestarted
  exact Bool.false_ne_true (hfalse.symm.trans hsummer)

end Sys2Proof.Machine
end

section
/-!
The two-wire interface's timeouts and its view of the event ring (R542–R545, R555, R559).
-/
namespace Sys2Proof.Machine

section
variable {s : State} {code : Nat}

/-- A warning is found in ROM boot, left out in Deep Winter or where its source is absent, and otherwise recorded. -/
theorem classify_warning_cases (hc : faultClass code = 0) :
    s.classify code = s.find code ∨ s.classify code = s ∨ s.classify code = s.warn code := by
  unfold State.classify
  split
  · exact .inl rfl
  · split
    · exact .inr (.inl rfl)
    · cases hp : s.sourceAbsent (faultSource code) with
      | true => exact .inr (.inl (raise_absent hp))
      | false => exact .inr (.inr (raise_warning hc hp))

/-- What neither a warning nor the note of a found fault touches. -/
theorem classify_warning_keeps {β : Type} {g : State → β} (hc : faultClass code = 0) (hfind : g (s.find code) = g s)
    (hwarn : g (s.warn code) = g s) : g (s.classify code) = g s := by
  obtain h | h | h := classify_warning_cases (s := s) hc
  · rw [h, hfind]
  · rw [h]
  · rw [h, hwarn]

theorem classify_warning_writes (hc : faultClass code = 0) : Writes logFields s (s.classify code) := by
  obtain h | h | h := classify_warning_cases (s := s) hc
  · rw [h]
    exact (Writes.refl s).same rfl
  · rw [h]
    exact .refl s
  · rw [h]
    exact (Writes.refl s).warn fun _ hf => hf

end

theorem discardPartial_zero (s : State) : s.discardPartial 0 = s := rfl

theorem discardPartial_hif (s : State) (n : Nat) : (s.discardPartial n).hif = s.hif := by
  unfold State.discardPartial State.when
  split
  · rfl
  · rfl

/-- A line not yet warned of, or high since, is warned of. -/
theorem warned_fresh {warned high : Bool} (h : warned = false ∨ high = true) : ¬ (warned && !high) = true := by
  obtain rfl | rfl := h
  · exact Bool.false_ne_true
  · simp

/-- Settles O14: broken writes, stuck lines, the in-band request's pulse, and the event window. -/
theorem hostInterfaceTimeoutsAndEventsAct : Obligations.HostInterfaceTimeoutsAndEventsAct := by
  refine ⟨fun s p n hn => ?_, fun s q => ?_, fun s own hi n hdw ho => ?_, fun s own hi n hdw ho hw => ?_, fun s hi n hdw hw => ?_,
    fun s first whole h1 h2 h3 h4 h5 => ?_, fun s first whole h => ?_, fun s whole h1 h2 h3 => ?_, fun s v h1 h2 => ?_, fun s h1 => ?_⟩
  · have hne : (n.val != 0) = true := bne_iff_ne.mpr hn
    refine .of_exec (o := execI2cStartStop (some p) n s) rfl ?_
    simp (disch := decide) [execI2cStartStop, State.discardPartial, State.when, hne, State.point]
  · cases q with
    | none => exact .of_eq rfl ⟨rfl, fun _ _ => rfl⟩
    | some p =>
      refine .of_eq rfl ⟨?_, fun _ _ => rfl⟩
      exact Nat.mod_eq_of_lt p.isLt
  · subst ho
    refine .of_eq (congrArg Host.Outcome.next ((if_neg (by rw [hdw]; exact Bool.false_ne_true)).trans (if_pos rfl))) ⟨?_, ?_⟩
    · rw [(classify_warning_writes rfl).has _ (by decide)]
      exact has_flag_self _ _ (by decide) (by decide) (by decide)
    · refine (classify_warning_keeps (g := fun t => t.hif.sdaWarned) rfl rfl (warn_logged (.refl _)).sdaWarned).trans ?_
      exact congrArg Hif.sdaWarned (discardPartial_hif s n.val)
  · subst ho
    refine .of_eq (congrArg Host.Outcome.next ((if_neg (by rw [hdw]; exact Bool.false_ne_true)).trans
      ((if_neg Bool.false_ne_true).trans (if_neg ?_)))) ⟨?_, ?_, ?_⟩
    · exact warned_fresh hw
    · rw [(classify_warning_writes rfl).has _ (by decide)]
      exact has_flag_self _ _ (by decide) (by decide) (by decide)
    · exact classify_warning_keeps (g := fun t => t.hif.sdaWarned) rfl rfl (warn_logged (.refl _)).sdaWarned
    · exact classify_warning_keeps (g := fun t => t.env.sdaHigh) rfl rfl (congrArg Env.sdaHigh (warn_logged (.refl _)).env)
  · have hkept : (s.discardPartial n.val).hif.sclWarned = s.hif.sclWarned := congrArg Hif.sclWarned (discardPartial_hif s n.val)
    refine .of_eq (congrArg Host.Outcome.next ((if_neg (by rw [hdw]; exact Bool.false_ne_true)).trans (if_neg ?_))) ⟨?_, ?_, ?_⟩
    · exact warned_fresh (hkept.symm ▸ hw)
    · rw [(classify_warning_writes rfl).has _ (by decide)]
      exact has_flag_self _ _ (by decide) (by decide) (by decide)
    · exact classify_warning_keeps (g := fun t => t.hif.sclWarned) rfl rfl (warn_logged (.refl _)).sclWarned
    · exact classify_warning_keeps (g := fun t => t.env.sclHigh) rfl rfl (congrArg Env.sclHigh (warn_logged (.refl _)).env)
  · subst h4 h5
    refine .of_exec (o := execIbrPulse true true s) rfl ?_
    have hon : (s.has F.HIF_CFG_IBR_EN && s.irqPending && !s.isAny [.deepWinter, .romBoot, .romRecovery, .factoryTest]) = true := by
      rw [h1, h2, h3]
      rfl
    rw [execIbrPulse, if_pos hon]
    simp (disch := decide)
    rfl
  · refine congrArg Host.Outcome.next (if_neg ?_)
    obtain h | h := h
    · rw [h]
      exact Bool.false_ne_true
    · rw [h, Bool.and_false]
      exact Bool.false_ne_true
  · refine .of_exec (o := execIbrPulse false whole s) rfl ?_
    have hon : (s.has F.HIF_CFG_IBR_EN && s.irqPending && !s.isAny [.deepWinter, .romBoot, .romRecovery, .factoryTest]) = true := by
      rw [h1, h2, h3]
      rfl
    rw [execIbrPulse, if_pos hon]
    cases whole with
    | false => simp
    | true =>
      simp (disch := decide)
      rfl
  · refine .of_eq (congrArg Host.Outcome.next (if_pos h1)) ?_
    simp at h2
    simp (disch := decide) [State.writeEvtRd, h2]
    exact Nat.mod_eq_of_lt v.isLt
  · refine .of_eq (congrArg Host.Outcome.next (if_pos h1)) ?_
    have hnone : (!(followersOf R.EVT_STATUS).isEmpty) = true := by decide
    rw [State.readEffect, if_pos rfl]
    simp [State.when, hnone, State.takeGroup, State.takeWindow, State.windowSize, State.unread]

end Sys2Proof.Machine
end

section
/-!
The authenticated commands on registers, sessions and attestation (R517–R519).
-/
namespace Sys2Proof.Machine

/-! Commands in work -/

section
variable {s t : State} {f : Frame} {code : Nat} {act : Frame → State → State} {p : State → Prop}

theorem onCommand_of (hf : s.hif.current = some f) (hc : f.cmd = code) : s.onCommand code act = act f s := by
  unfold State.onCommand
  rw [hf]
  exact if_pos hc

/-- A command whose frame is in work acts. -/
theorem Answers.of_command {c : Instr} (hf : s.hif.current = some f) (hc : f.cmd = code)
    (hexec : exec c s = .next (s.onCommand code act)) (hact : act f s = t) (hp : p t) : Answers (exec c s) p :=
  ⟨t, hexec.trans (congrArg _ ((onCommand_of hf hc).trans hact)), hp⟩

theorem exec_command {c : Instr} (hf : s.hif.current = some f) (hc : f.cmd = code)
    (hexec : exec c s = .next (s.onCommand code act)) (hact : act f s = t) : exec c s = .next t :=
  hexec.trans (congrArg _ ((onCommand_of hf hc).trans hact))

end

section
variable (s : State) (f : Frame) (st : Status) (payload : List Word)

theorem reply_answered : (s.reply f st payload).answered = some (st.code, payload) := rfl
theorem reply_sameWords : SameWords [] s (s.reply f st payload) := fun _ _ => rfl
theorem reply_sec : (s.reply f st payload).sec = s.sec := rfl
/-! The answer is kept in the host interface; nothing else of the state shows it. -/

theorem reply_regs : (s.reply f st payload).regs = s.regs := rfl
@[simp] theorem done_regs : (s.done f st).regs = s.regs := rfl
theorem reply_now : (s.reply f st payload).now = s.now := rfl
@[simp] theorem done_now : (s.done f st).now = s.now := rfl
theorem reply_timers : (s.reply f st payload).timers = s.timers := rfl
@[simp] theorem done_timers : (s.done f st).timers = s.timers := rfl
theorem reply_ports : (s.reply f st payload).ports = s.ports := rfl
@[simp] theorem done_ports : (s.done f st).ports = s.ports := rfl
theorem reply_rails : (s.reply f st payload).rails = s.rails := rfl
@[simp] theorem done_rails : (s.done f st).rails = s.rails := rfl
theorem reply_seq : (s.reply f st payload).seq = s.seq := rfl
@[simp] theorem done_seq : (s.done f st).seq = s.seq := rfl
theorem reply_bus : (s.reply f st payload).bus = s.bus := rfl
@[simp] theorem done_bus : (s.done f st).bus = s.bus := rfl
theorem reply_pins : (s.reply f st payload).pins = s.pins := rfl
@[simp] theorem done_pins : (s.done f st).pins = s.pins := rfl
theorem reply_boot : (s.reply f st payload).boot = s.boot := rfl
@[simp] theorem done_boot : (s.done f st).boot = s.boot := rfl
theorem reply_upd : (s.reply f st payload).upd = s.upd := rfl
@[simp] theorem done_upd : (s.done f st).upd = s.upd := rfl
@[simp] theorem done_sec : (s.done f st).sec = s.sec := rfl
theorem reply_flash : (s.reply f st payload).flash = s.flash := rfl
@[simp] theorem done_flash : (s.done f st).flash = s.flash := rfl
theorem reply_otp : (s.reply f st payload).otp = s.otp := rfl
@[simp] theorem done_otp : (s.done f st).otp = s.otp := rfl

theorem reply_has (g : Fld) : (s.reply f st payload).has g = s.has g := rfl
theorem reply_get (g : Fld) : (s.reply f st payload).get g = s.get g := rfl
theorem done_has (g : Fld) : (s.done f st).has g = s.has g := rfl
theorem done_get (g : Fld) : (s.done f st).get g = s.get g := rfl
theorem done_bit (g : Fld) (i : Nat) : (s.done f st).bit g i = s.bit g i := rfl
theorem done_deadline (i : TimerId) : (s.done f st).deadline i = s.deadline i := rfl
theorem done_isIn (d : DevState) : (s.done f st).isIn d = s.isIn d := rfl
theorem done_answered : (s.done f st).answered = some (st.code, []) := rfl
theorem done_sameWords : SameWords [] s (s.done f st) := fun _ _ => rfl

end

/-! Register lists -/

theorem takeWindow_eq (s : State) : ∃ w, s.takeWindow = { s with hif := { s.hif with window := w, lostChanged := false } } := ⟨_, rfl⟩

/-- Reading a register leaves the frames in work. -/
theorem readEffect_exec (s : State) (a : Nat) : (s.readEffect a).hif.exec = s.hif.exec := by
  have htaken : ∀ c : Bool, (s.when c fun t => t.takeGroup a).hif.exec = s.hif.exec := fun c => by
    cases c <;> rfl
  unfold State.readEffect
  extract_lets t
  have ht : t.hif.exec = s.hif.exec := htaken _
  clear_value t
  split
  · obtain ⟨w, hw⟩ := takeWindow_eq t
    rw [hw]
    exact ht
  · repeat' split
    all_goals simpa only [outState, execSafXchkRead, execHubBufRead, execSchDataRead, set_hif] using ht

theorem readWords_exec (s : State) (l : List Nat) : (s.readWords l).2.hif.exec = s.hif.exec := by
  unfold State.readWords
  suffices h : ∀ p : List Word × State, (l.foldl (fun p a => (p.1 ++ [p.2.readReg a], p.2.readEffect a)) p).2.hif.exec = p.2.hif.exec from h ([], s)
  induction l with
  | nil => exact fun _ => rfl
  | cons a l ih => exact fun p => (ih _).trans (readEffect_exec p.2 a)

theorem pageOff_of_season {s : State} {p : Nat} (h : ((Nat.ble 0x10 p && Nat.ble p 0x1F) || (Nat.ble 0x30 p && Nat.ble p 0x35) || p == 0x3C) = false) :
    s.pageOff p = false := by
  rw [State.pageOff, h, Bool.and_false]

/-- HIF_IRQ_EN takes its three enables from a plain write. -/
theorem commitWord_irqEnable (s : State) (w : Word) :
    s.commitWord R.HIF_IRQ_EN w = s.setWord R.HIF_IRQ_EN ((s.word R.HIF_IRQ_EN &&& ~~~ 7#32) ||| (w &&& 7#32)) := by
  obtain ⟨f, hf, hrw, hw1c, hrws⟩ : ∃ f, regFam? R.HIF_IRQ_EN = some f ∧ f.rw = 7#32 ∧ f.w1c = 0#32 ∧ f.rws = 0#32 :=
    ⟨_, rfl, by decide +kernel, by decide +kernel, by decide +kernel⟩
  rw [commitWord_without_effect s w hf (pageOff_of_season (by decide)) (by decide) hrws rfl, hrw, hw1c, BitVec.zero_and, BitVec.not_zero,
    BitVec.and_allOnes]

/-- SCH_ADDR takes its fields from an authenticated write while no swap is under way. -/
theorem commitAuth_schAddr {s : State} (w : Word) (h : s.has F.SCH_STATUS_BUSY = false) :
    s.commitAuth R.SCH_ADDR w = s.setWord R.SCH_ADDR ((s.word R.SCH_ADDR &&& ~~~ 0x13FFF#32) ||| (w &&& 0x13FFF#32)) := by
  obtain ⟨f, hf, hrwa⟩ : ∃ f, regFam? R.SCH_ADDR = some f ∧ f.rwa = 0x13FFF#32 := ⟨_, rfl, by decide +kernel⟩
  have hpage : s.pageOff (R.SCH_ADDR / 256) = false := pageOff_of_season (by decide)
  rw [State.commitAuth, hf]
  simp only [hpage, State.writeSchWord, h, hrwa]
  rfl

/-- The words that SESSION_INFO answers of session n. -/
def State.sessionWords (s : State) (n : Nat) : List Word :=
  [BitVec.ofNat 32 (s.sesLast n), BitVec.ofNat 32 (sessionVal s.sec.ceil n), s.sesInfo n]

/-- Settles O16: each command answers by its list's addresses, and acts on the words it lists. -/
theorem registerAndSessionCommandsAct : Obligations.RegisterAndSessionCommandsAct := by
  refine ⟨fun s l f hf hc h1 h2 => ?_, fun s l f hf hc h1 => ?_, fun s l f hf hc h1 => ?_, fun s w f hf hc h1 => ?_,
    fun s l f hf hc h1 => ?_, fun s l f hf hc h1 => ?_, fun s w f hf hc h1 h2 => ?_, fun s n f hf hc => ?_, fun s f hf hc h1 => ?_,
    fun s f hf hc h1 h2 => ?_, fun s w f hf hc => ?_, fun s a w f hf hc h1 h2 => ?_, fun s a w f hf hc h1 h2 h3 => ?_,
    fun s w f hf hc h1 h2 h3 h4 => ?_⟩
  · refine .of_command hf hc rfl (if_pos ?_) ⟨rfl, rfl, readWords_exec s _⟩
    rw [h2, List.length_map, decide_eq_true h1]
    rfl
  · refine .of_command hf hc rfl (if_neg ?_) ⟨rfl, rfl⟩
    rw [List.length_map, Bool.and_eq_true, decide_eq_true_eq]
    exact h1
  · exact exec_command hf hc rfl (if_pos h1)
  · have hok : s.writesOk [(BitVec.ofNat 16 R.HIF_IRQ_EN, w)] = true := by
      have hok : s.addressOk (BitVec.ofNat 16 R.HIF_IRQ_EN).toNat = true := by
        rw [State.addressOk]
        exact Bool.and_eq_true_iff.mpr ⟨by decide, h1⟩
      rw [State.writesOk, List.all_cons, List.all_nil, hok]
      rfl
    refine .of_command hf hc rfl (if_pos hok) ?_
    have hone : forAll [(BitVec.ofNat 16 R.HIF_IRQ_EN, w)] (fun e t => t.commitWord e.1.toNat e.2) s = s.commitWord R.HIF_IRQ_EN w :=
      congrArg (s.commitWord · w) (by decide : (BitVec.ofNat 16 R.HIF_IRQ_EN).toNat = R.HIF_IRQ_EN)
    rw [hone, commitWord_irqEnable]
    exact ⟨word_setWord_self _ _ _, rfl, fun a ha => word_setWord_other _ _ _ _ (by simpa using ha)⟩
  · exact .of_command hf hc rfl (if_neg (by rw [h1]; exact Bool.false_ne_true)) ⟨rfl, fun _ _ => rfl⟩
  · exact exec_command hf hc rfl (if_pos h1)
  · have hok : s.writesOk [(BitVec.ofNat 16 R.SCH_ADDR, w)] = true := by
      have hok : s.addressOk (BitVec.ofNat 16 R.SCH_ADDR).toNat = true := by
        rw [State.addressOk]
        exact Bool.and_eq_true_iff.mpr ⟨by decide, h1⟩
      rw [State.writesOk, List.all_cons, List.all_nil, hok]
      rfl
    refine .of_command hf hc rfl (if_pos hok) ?_
    have hone : forAll [(BitVec.ofNat 16 R.SCH_ADDR, w)] (fun e t => t.commitAuth e.1.toNat e.2) s = s.commitAuth R.SCH_ADDR w :=
      congrArg (s.commitAuth · w) (by decide : (BitVec.ofNat 16 R.SCH_ADDR).toNat = R.SCH_ADDR)
    rw [hone, commitAuth_schAddr w h2]
    exact ⟨word_setWord_self _ _ _, rfl, fun a ha => word_setWord_other _ _ _ _ (by simpa using ha)⟩
  · exact .of_command (t := s.reply f .ok (s.sessionWords n.toNat)) hf hc rfl rfl
      ⟨reply_answered s f .ok _, reply_sec s f .ok _, reply_sameWords s f .ok _⟩
  · exact .of_command hf hc rfl (if_pos h1) ⟨rfl, fun _ _ => rfl⟩
  · refine .of_command (t := s.reply f .ok (bytesToWords ((cmac s.attestKey (s.uid ++ wordBytes f.payload)).take 8))) hf hc rfl
      ((if_neg ?_).trans (if_neg ?_)) ⟨reply_answered s f .ok _, reply_sameWords s f .ok _⟩
    · rw [h1]
      exact Bool.false_ne_true
    · exact not_not_intro h2
  · exact exec_command hf hc rfl (if_pos rfl)
  · refine .of_command hf hc rfl ((if_neg h2).trans (if_neg ?_)) ⟨rfl, fun _ _ => rfl⟩
    simp [h1]
  · refine .of_command hf hc rfl ((if_neg ?_).trans (if_pos ?_)) ⟨rfl, fun _ _ => rfl⟩
    · intro he
      rw [he] at h1
      exact absurd h1 (by decide)
    · simp [h1, h2, h3, Nat.blt_eq]
  · refine .of_command hf hc rfl (if_pos rfl) ?_
    have hin : (s.isIn .factoryTest && faultListed (w.toNat % 2 ^ 16)) = true := by
      rw [h1, h2]
      rfl
    have hclass : faultClass (w.toNat % 2 ^ 16) = 0 := by
      unfold faultClass
      omega
    have hinj : outState (execFltInj w s) s = (s.recordFault (w.toNat % 2 ^ 16) false).flag G.FLT_WARN := by
      simp only [execFltInj, if_pos hin, h3, Bool.false_eq_true, if_false, hclass, State.when, outState]
    have hwrites : Writes logFields s ((s.recordFault (w.toNat % 2 ^ 16) false).flag G.FLT_WARN) :=
      (Writes.refl s).warn fun _ hf => hf
    simp only [hinj]
    exact ⟨has_flag_self _ _ (by decide) (by decide) (by decide), (hwrites.isIn (by decide) _).trans h1, rfl⟩

end Sys2Proof.Machine
end

section
/-!
The authenticated commands on power and ports (R35, R37, R43, R74, R367, R520): the start of a power-down, the commit of Autumn, and what
a port's enable and a rail's margin leave.
-/
namespace Sys2Proof.Machine

/-! The start of a power-down -/

section
variable (s : State) (p : Nat)

theorem setPhase_keeps {β : Type} {g : State → β} (hset : g (s.set F.SQC_STATUS_PHASE p) = g s)
    (htrace : ∀ t code idx mv, g (State.trace t code idx mv) = g t) : g (s.setPhase p) = g s := by
  unfold State.setPhase
  split
  · rfl
  · exact (htrace _ _ _ _).trans hset

@[simp] theorem setPhase_fieldOf {f : Fld} (hf : f.inWord = true) (hp : f.apart F.SQC_STATUS_PHASE = true) (ht : f.reg ≠ R.SQC_TRC_HEAD) :
    fieldOf f (s.setPhase p).regs = fieldOf f s.regs :=
  setPhase_keeps s p (g := fun t => fieldOf f t.regs) (fieldOf_withField_apart _ _ hf hp) fun _ _ _ _ => trace_fieldOf _ _ _ _ ht
@[simp] theorem setPhase_phase (hp : p < 2 ^ F.SQC_STATUS_PHASE.width) : fieldOf F.SQC_STATUS_PHASE (s.setPhase p).regs = p := by
  unfold State.setPhase
  split
  · assumption
  · exact (trace_fieldOf _ _ _ _ (by decide)).trans ((fieldOf_withField_self _ _ (by decide)).trans (Nat.mod_eq_of_lt hp))
@[simp] theorem setPhase_now : (s.setPhase p).now = s.now := setPhase_keeps s p (g := State.now) rfl fun _ _ _ _ => rfl
@[simp] theorem setPhase_pins : (s.setPhase p).pins = s.pins := setPhase_keeps s p (g := State.pins) rfl fun _ _ _ _ => rfl
@[simp] theorem setPhase_bus : (s.setPhase p).bus = s.bus := setPhase_keeps s p (g := State.bus) rfl fun _ _ _ _ => rfl
@[simp] theorem setPhase_forRestart : (s.setPhase p).seq.forRestart = s.seq.forRestart :=
  setPhase_keeps s p (g := fun t => t.seq.forRestart) rfl fun _ _ _ _ => rfl
@[simp] theorem setPhase_restartAuto : (s.setPhase p).seq.restartAuto = s.seq.restartAuto :=
  setPhase_keeps s p (g := fun t => t.seq.restartAuto) rfl fun _ _ _ _ => rfl

end

/-- The state in which a started power-down has stopped the step under way, its table shown in phase 3. -/
def State.downStarted (s : State) : State :=
  let s := s.disarmAll (seqTimers ++ allRails.flatMap fun j => [.railDelay j, .rise j])
  let s := { s with seq := { s.seq with tableDone := false } }
  (s.put F.SQC_STATUS_GATE_WAIT false).setPhase 3

theorem startPowerDown_eq (s : State) :
    s.startPowerDown = ((forAll allResets (fun n t => t.assertReset n) s.downStarted).put F.AXL_STATUS_CASC_ARMED false).beginDownStep 0 := rfl

theorem forAll_assertReset_keeps {β : Type} {g : State → β} (h : ∀ n t, g (State.assertReset t n) = g t) (s : State) :
    g (forAll allResets (fun n t => t.assertReset n) s) = g s := forAll_invariant (fun n t => h n t) allResets s

/-- The state in which a step of the power-down has reset the marks of its rails. -/
def State.stepUndone (s : State) : State :=
  let s := { s with seq := { s.seq with sub := .delay } }
  forAll allRails (fun j t => t.modRail j fun r => { r with stepDone := false }) s

theorem stepUndone_keeps {β : Type} {g : State → β} (h : ∀ j f t, g (State.modRail t j f) = g t) (s : State)
    (hs : g { s with seq := { s.seq with sub := .delay } } = g s) : g s.stepUndone = g s :=
  (forAll_invariant (fun j t => h j _ t) allRails _).trans hs

theorem beginDownStep_eq (s : State) (n : Nat) : s.beginDownStep n =
    (s.stepUndone.set F.SQC_STATUS_STEP n).arm .seqDelay (msec (s.stepUndone.get (F.SQC_DN_DLY n))) := rfl

/-- A step of the power-down begins with its delay. -/
theorem beginDownStep_facts (s : State) (n : Nat) :
    (s.beginDownStep n).get F.SQC_STATUS_STEP = n % 2 ^ F.SQC_STATUS_STEP.width ∧
    (∀ f : Fld, f.inWord = true → f.apart F.SQC_STATUS_STEP = true → fieldOf f (s.beginDownStep n).regs = fieldOf f s.regs) ∧
    (s.beginDownStep n).deadline .seqDelay = some (s.now + msec (s.get (F.SQC_DN_DLY n))) ∧
    (s.beginDownStep n).pins = s.pins ∧ (s.beginDownStep n).bus = s.bus ∧
    (s.beginDownStep n).seq.forRestart = s.seq.forRestart ∧ (s.beginDownStep n).seq.restartAuto = s.seq.restartAuto := by
  have hregs : s.stepUndone.regs = s.regs := stepUndone_keeps (g := State.regs) (fun _ _ _ => rfl) s rfl
  have hnow : s.stepUndone.now = s.now := stepUndone_keeps (g := State.now) (fun _ _ _ => rfl) s rfl
  have hpins : s.stepUndone.pins = s.pins := stepUndone_keeps (g := State.pins) (fun _ _ _ => rfl) s rfl
  have hbus : s.stepUndone.bus = s.bus := stepUndone_keeps (g := State.bus) (fun _ _ _ => rfl) s rfl
  have hfor : s.stepUndone.seq.forRestart = s.seq.forRestart := stepUndone_keeps (g := fun t => t.seq.forRestart) (fun _ _ _ => rfl) s rfl
  have hauto : s.stepUndone.seq.restartAuto = s.seq.restartAuto :=
    stepUndone_keeps (g := fun t => t.seq.restartAuto) (fun _ _ _ => rfl) s rfl
  rw [beginDownStep_eq]
  generalize s.stepUndone = t at *
  refine ⟨get_set_self _ _ _ (by decide), fun f hf ha => ?_, ?_, hpins, hbus, hfor, hauto⟩
  · exact (fieldOf_withField_apart _ _ hf ha).trans (congrArg (fieldOf f) hregs)
  · refine (timerIn_cons_self _ _).trans ?_
    rw [get_eq_fieldOf, hregs]
    exact congrArg (fun m => some (m + msec (fieldOf (F.SQC_DN_DLY n) s.regs))) hnow

theorem downStarted_phase (s : State) : fieldOf F.SQC_STATUS_PHASE s.downStarted.regs = 3 := setPhase_phase _ _ (by decide)
theorem downStarted_fieldOf (s : State) {f : Fld} (hf : f.inWord = true) (hp : f.apart F.SQC_STATUS_PHASE = true)
    (hw : f.apart F.SQC_STATUS_GATE_WAIT = true) (ht : f.reg ≠ R.SQC_TRC_HEAD) : fieldOf f s.downStarted.regs = fieldOf f s.regs :=
  (setPhase_fieldOf _ _ hf hp ht).trans (fieldOf_withField_apart _ _ hf hw)
theorem downStarted_now (s : State) : s.downStarted.now = s.now := setPhase_now _ _
theorem downStarted_pins (s : State) : s.downStarted.pins = s.pins := setPhase_pins _ _
theorem downStarted_bus (s : State) : s.downStarted.bus = s.bus := setPhase_bus _ _
theorem downStarted_forRestart (s : State) : s.downStarted.seq.forRestart = s.seq.forRestart := setPhase_forRestart _ _
theorem downStarted_restartAuto (s : State) : s.downStarted.seq.restartAuto = s.seq.restartAuto := setPhase_restartAuto _ _

/-- A started power-down waits for its first step in phase 3. -/
theorem startPowerDown_facts (s : State) :
    s.startPowerDown.get F.SQC_STATUS_PHASE = 3 ∧ s.startPowerDown.get F.SQC_STATUS_STEP = 0 ∧
    s.startPowerDown.deadline .seqDelay = some (s.now + msec (s.get (F.SQC_DN_DLY 0))) ∧
    s.startPowerDown.seq.forRestart = s.seq.forRestart ∧ s.startPowerDown.seq.restartAuto = s.seq.restartAuto ∧
    s.startPowerDown.pins = s.pins ∧ s.startPowerDown.bus = s.bus := by
  have hphase := downStarted_phase s
  have hdly : fieldOf (F.SQC_DN_DLY 0) s.downStarted.regs = fieldOf (F.SQC_DN_DLY 0) s.regs :=
    downStarted_fieldOf s (by decide) (by decide) (by decide) (by decide)
  have hnow := downStarted_now s
  have hpins := downStarted_pins s
  have hbus := downStarted_bus s
  have hfor := downStarted_forRestart s
  have hauto := downStarted_restartAuto s
  rw [startPowerDown_eq]
  generalize s.downStarted = t at *
  have hreset : ∀ f : Fld, f.reg ≠ R.SQC_RST_ST → fieldOf f (forAll allResets (fun n t => t.assertReset n) t).regs = fieldOf f t.regs :=
    fun f hf => forAll_assertReset_keeps (g := fun t => fieldOf f t.regs) (fun n t => assertReset_fieldOf t n hf) t
  have hrn : (forAll allResets (fun n t => t.assertReset n) t).now = t.now := forAll_assertReset_keeps (fun _ _ => rfl) t
  have hrp : (forAll allResets (fun n t => t.assertReset n) t).pins = t.pins := forAll_assertReset_keeps (fun _ _ => rfl) t
  have hrb : (forAll allResets (fun n t => t.assertReset n) t).bus = t.bus := forAll_assertReset_keeps (fun _ _ => rfl) t
  have hrs : (forAll allResets (fun n t => t.assertReset n) t).seq = t.seq := forAll_assertReset_keeps (fun _ _ => rfl) t
  generalize forAll allResets (fun n t => t.assertReset n) t = u at *
  obtain ⟨hd, hdr, hdn, hdp, hdb, hdf, hda⟩ := beginDownStep_facts (u.put F.AXL_STATUS_CASC_ARMED false) 0
  have hcasc : ∀ f : Fld, f.inWord = true → f.apart F.AXL_STATUS_CASC_ARMED = true →
      fieldOf f (u.put F.AXL_STATUS_CASC_ARMED false).regs = fieldOf f u.regs := fun f hf ha => fieldOf_withField_apart _ _ hf ha
  refine ⟨?_, ?_, ?_, hdf.trans ?_, hda.trans ?_, hdp.trans ?_, hdb.trans ?_⟩
  · rw [get_eq_fieldOf, hdr _ (by decide) (by decide), hcasc _ (by decide) (by decide), hreset _ (by decide), hphase]
  · exact hd
  · rw [hdn, get_eq_fieldOf, hcasc _ (by decide) (by decide), hreset _ (by decide), hdly]
    rw [put_now, hrn, hnow]
    rfl
  · rw [put_seq, hrs, hfor]
  · rw [put_seq, hrs, hauto]
  · rw [put_pins, hrp, hpins]
  · rw [put_bus, hrb, hbus]

/-! The commit of Autumn -/

/-- The fields that the start of a power-down writes. -/
def startFields : List Fld := [F.AXL_STATUS_CASC_ARMED, F.SQC_STATUS_STEP] ++ sequencerFields

/-- The fields that shedding port k writes. -/
def shedFields (k : PortId) : List Fld := F.BUS_STATUS_SHED :: shutFields k

section
variable {l : List Fld} {s₀ s : State}

theorem Writes.startPowerDown (h : Writes l s₀ s) (hl : startFields ⊆ l) : Writes l s₀ s.startPowerDown := by
  have hseq : sequencerFields ⊆ l := fun _ hf => hl (List.mem_append_right _ hf)
  have hd : Writes l s₀ s.downStarted := by
    unfold State.downStarted
    extract_lets a src b
    have ha : Writes l s₀ a := h.disarmAll
    have hb : Writes l s₀ b := ha.same rfl
    exact (hb.put (hseq (by simp [sequencerFields]))).setPhase hseq
  have hr : Writes l s₀ (Machine.forAll allResets (fun n t => t.assertReset n) s.downStarted) := hd.forAll fun _ _ _ ht => ht.assertReset hseq
  have hp := hr.put (f := F.AXL_STATUS_CASC_ARMED) (b := false) (hl (by simp [startFields]))
  rw [startPowerDown_eq, beginDownStep_eq]
  refine Writes.arm (Writes.set (hp.same ?_) (hl (by simp [startFields])))
  exact stepUndone_keeps (g := State.regs) (fun _ _ _ => rfl) _ rfl

theorem Writes.shed {k : PortId} (h : Writes l s₀ s) (hl : shedFields k ⊆ l) : Writes l s₀ (s.shed k) :=
  (h.softOpen fun _ hf => hl (List.mem_cons_of_mem _ hf)).putBit (hl (by simp [shedFields]))

theorem stopConverter_bus (s : State) (k : PortId) : (s.stopConverter k).bus = s.bus := by
  unfold State.stopConverter
  extract_lets now a b
  split
  · simp [b, a]
  · rfl
theorem openSwitch_bus (s : State) (k : PortId) : (s.openSwitch k).bus = s.bus := by
  unfold State.openSwitch
  extract_lets vb vc i hi driven safe a b c d src
  have hd : d.bus = s.bus := by simp [d, c, b, a]
  clear_value d
  split
  · split
    · exact hd
    · exact hd
  · rfl
theorem shed_bus (s : State) (k : PortId) : (s.shed k).bus = s.bus :=
  (openSwitch_bus _ k).trans (stopConverter_bus s k)


/-! What leaves the bus's part of the state -/

theorem transition_bus (s : State) (d : DevState) (n : Nat) : (s.transition d n).bus = s.bus := by
  unfold State.transition
  extract_lets a b src c e f
  have hb : b.bus = s.bus := by
    simp only [b, apply_ite State.bus, post_bus]
    exact ite_self _
  clear_value b
  have he : e.bus = s.bus := hb
  clear_value e
  have hf : f.bus = s.bus := by
    have hall : (forAll modulePorts (fun k t => (t.set (F.BUD_GRANT_CEIL k) 0).set (F.CNV_ILIM_ALLOC k) 0) e).bus = e.bus :=
      forAll_invariant (g := State.bus) (fun _ _ => rfl) modulePorts e
    simp only [f, apply_ite State.bus, set_bus, hall, he, ite_self]
  clear_value f
  cases d
  case winter => exact (apply_ite State.bus _ _ _).trans (ite_eq_iff'.mpr ⟨fun _ => hf, fun _ => hf⟩)
  all_goals exact hf
theorem abandonHandover_bus (s : State) : s.abandonHandover.bus = s.bus := by
  unfold State.abandonHandover
  extract_lets src a
  split
  · simp [a]
  · rfl

/-- The commit of Autumn before its power-down starts: recorded, shown, warned of, the ports shed. -/
def State.committed (s : State) : State :=
  let s := s.fflTrigger 0x2003 true
  let s := (s.put F.SYS_STATE_COMMITTED true).put F.BUS_STATUS_COMMITTED true
  let s := (s.flag G.BUS_COMMIT).warn 0x2003
  let s := forAll s.presentModulePorts (fun k t => t.shed k) s
  { s with his := { s.his with cpDue := s.his.cpDue || s.his.dayDue.isNone } }

theorem commit_eq (s : State) : s.commit = s.committed.dropUpstream.startPowerDown := rfl

theorem committed_bus (s : State) : s.committed.bus = s.bus := by
  unfold State.committed
  extract_lets a b c d
  have hc : c.bus = s.bus := by simp [c, b, a, State.fflTrigger]
  have hd : d.bus = c.bus := forAll_invariant (g := State.bus) (fun k t => shed_bus t k) _ c
  exact hd.trans hc

theorem committed_facts (s : State) : s.committed.has F.SYS_STATE_COMMITTED = true ∧ s.committed.has F.BUS_STATUS_COMMITTED = true ∧
    s.committed.has G.BUS_COMMIT.bit = true ∧ s.committed.get F.SYS_STATE_STATE = s.get F.SYS_STATE_STATE ∧
    s.committed.get F.SYS_STATE_ENTRY = s.get F.SYS_STATE_ENTRY := by
  unfold State.committed
  extract_lets a b c d
  have hw : Writes (modulePorts.flatMap shedFields ++ logFields) (b.flag G.BUS_COMMIT) d := by
    refine Writes.forAll ((Writes.refl _).warn (List.subset_append_right _ _)) fun k hk t ht => ht.shed fun f hf => ?_
    exact List.mem_append_left _ (List.mem_flatMap_of_mem (List.mem_of_mem_filter hk) hf)
  have hb : b.has F.SYS_STATE_COMMITTED = true ∧ b.has F.BUS_STATUS_COMMITTED = true ∧ b.get F.SYS_STATE_STATE = s.get F.SYS_STATE_STATE ∧
      b.get F.SYS_STATE_ENTRY = s.get F.SYS_STATE_ENTRY := by
    simp (disch := decide) [b, a, State.fflTrigger]
  have hflag : ∀ f : Fld, f.inWord = true → f.apart G.BUS_COMMIT.bit = true → f.apart G.BUS_COMMIT.cnt = true →
      (b.flag G.BUS_COMMIT).get f = b.get f := fun f h1 h2 h3 => get_flag_apart _ _ _ h1 h2 h3
  obtain ⟨hcom, hbus, hstate, hentry⟩ := hb
  clear_value b d
  refine ⟨(hw.has _ (by decide +kernel)).trans ?_, (hw.has _ (by decide +kernel)).trans ?_, (hw.has _ (by decide +kernel)).trans ?_,
    (hw _ (by decide +kernel)).trans ?_, (hw _ (by decide +kernel)).trans ?_⟩
  · rw [State.has, hflag _ (by decide) (by decide) (by decide)]
    exact hcom
  · rw [State.has, hflag _ (by decide) (by decide) (by decide)]
    exact hbus
  · exact has_flag_self _ _ (by decide) (by decide) (by decide)
  · rw [hflag _ (by decide) (by decide) (by decide), hstate]
  · rw [hflag _ (by decide) (by decide) (by decide), hentry]

end

/-- A commit is shown, its power-down under way and the upstream port let go. -/
theorem commit_facts (s : State) : s.commit.has F.SYS_STATE_COMMITTED = true ∧ s.commit.has F.BUS_STATUS_COMMITTED = true ∧
    s.commit.has G.BUS_COMMIT.bit = true ∧ s.commit.get F.SYS_STATE_STATE = s.get F.SYS_STATE_STATE ∧
    s.commit.get F.SYS_STATE_ENTRY = s.get F.SYS_STATE_ENTRY ∧ s.commit.get F.SQC_STATUS_PHASE = 3 ∧ s.commit.pins.ups = false ∧
    s.commit.bus = s.bus := by
  obtain ⟨hcom, hbusc, hflag, hstate, hentry⟩ := committed_facts s
  have hbus := committed_bus s
  rw [commit_eq]
  generalize s.committed = t at *
  have hw : Writes (upstreamFields ++ startFields) t t.dropUpstream.startPowerDown :=
    ((Writes.refl t).dropUpstream (List.subset_append_left _ _)).startPowerDown (List.subset_append_right _ _)
  obtain ⟨hphase, -, -, -, -, hpins, hbus'⟩ := startPowerDown_facts t.dropUpstream
  refine ⟨(hw.has _ (by decide)).trans hcom, (hw.has _ (by decide)).trans hbusc, (hw.has _ (by decide)).trans hflag,
    (hw _ (by decide)).trans hstate, (hw _ (by decide)).trans hentry, hphase, ?_, ?_⟩
  · rw [hpins]
    rfl
  · rw [hbus', ← hbus]
    rfl

/-- T6 by a shutdown leaves Autumn with its cause. -/
theorem requestAutumn_facts {s : State} (hs : s.isAny [.spring, .summer] = true) (hp : s.upd.paused = false) :
    (s.requestAutumn 3).isIn .autumn = true ∧ (s.requestAutumn 3).get F.SYS_STATE_ENTRY = 6 ∧ (s.requestAutumn 3).bus.cause = 3 := by
  have hreq : s.requestAutumn 3 =
      ({ s with bus := { s.bus with cause := 3, restorePrio := none, autumnDue := none } }.transition .autumn 6).abandonHandover := by
    unfold State.requestAutumn
    rw [if_pos hs, if_neg (by rw [hp]; exact Bool.false_ne_true)]
    rfl
  have hcause : ({ s with bus := { s.bus with cause := 3, restorePrio := none, autumnDue := none } } : State).bus.cause = 3 := rfl
  rw [hreq]
  generalize ({ s with bus := { s.bus with cause := 3, restorePrio := none, autumnDue := none } } : State) = t at *
  obtain ⟨hin, hentry, -, -⟩ := transition_entered (s := t) (d := .autumn) (n := 6) (by decide) (.refl _)
  have hw : Writes (winterNoteFields ++ logFields) (t.transition .autumn 6) (t.transition .autumn 6).abandonHandover :=
    (Writes.refl _).abandonHandover fun _ hf => hf
  refine ⟨(hw.isIn (by decide) _).trans hin, (hw _ (by decide)).trans hentry, ?_⟩
  rw [abandonHandover_bus, transition_bus, hcause]

/-! A response sent at once, and the restart after it -/

/-- The fields that a response's place and its sequence write. -/
def responseFields : List Fld :=
  [F.SYS_SEQ_NEXT_DSEQ_NEXT_DSEQ, F.SYS_SEQ_LAST_HSEQ_LAST_HSEQ, F.SYS_SEQ_LAST_LAST_VIA, F.SYS_SEQ_LAST_LAST_STATUS,
    F.MBX_STATUS_LAST_STATUS, F.MBX_STATUS_STATE]

section
variable {β : Type} {g : State → β} (hset : ∀ t : State, ∀ f ∈ responseFields, ∀ v, g (t.set f v) = g t)
  (hword : ∀ (t : State) n w, g (t.setWord (R.MBR_FRAME n) w) = g t) (hhif : ∀ (t : State) h, g { t with hif := h } = g t)
  (hpost : ∀ t : State, g (t.post 0x27 0x0002) = g t) (hmgt : ∀ (t : State) m, g { t with mgt := m } = g t)
include hset hword hhif hpost hmgt

theorem sendResponse_keeps (s : State) (a : Answer) (own : Bool) : g (s.sendResponse a own) = g s := by
  unfold State.sendResponse
  extract_lets d t ws f u v w gi m
  have ht : g t = g s := (hhif _ _).trans (hset s _ (by simp [responseFields]) _)
  have hu : g u = g s := by
    simp only [u]
    split
    · exact ht
    · rw [hset _ _ (by simp [responseFields]), hset _ _ (by simp [responseFields]), hset _ _ (by simp [responseFields]), ht]
  have hv : g v = g u := by
    have hfold : ∀ (l : List (Word × Nat)) (t : State), g (l.foldl (fun t e => t.setWord (R.MBR_FRAME e.2) e.1) t) = g t := fun l => by
      induction l with
      | nil => exact fun _ => rfl
      | cons e l ih => exact fun t => (ih _).trans (hword t e.2 e.1)
    exact hfold _ u
  have hw : g w = g s := by rw [hset _ _ (by simp [responseFields]), hset _ _ (by simp [responseFields]), hv, hu]
  clear_value u w
  split
  · split
    · exact hw
    · rw [hpost, hw]
  · rw [hmgt, hu]

theorem respondNow_keeps (s : State) (f : Frame) : g (s.respondNow f) = g s := by
  obtain ⟨h, a, heq⟩ : ∃ h a, s.respondNow f = State.sendResponse { s with hif := h } a true := ⟨_, _, rfl⟩
  rw [heq, sendResponse_keeps hset hword hhif hpost hmgt, hhif]

end

theorem respondNow_state (s : State) (f : Frame) : (s.respondNow f).get F.SYS_STATE_STATE = s.get F.SYS_STATE_STATE := by
  refine respondNow_keeps (g := fun t => t.get F.SYS_STATE_STATE) (fun t f hf v => ?_) (fun t n w => ?_) (fun _ _ => rfl)
    (fun t => (post_logged (.refl t)).get _ (by decide)) (fun _ _ => rfl) s f
  · refine get_set_apart _ _ _ _ (by decide) ?_
    revert f
    decide
  · refine congrArg _ (word_setWord_other _ _ _ _ ?_)
    have h : F.SYS_STATE_STATE.reg < 0x300 := by decide
    unfold R.MBR_FRAME
    omega
theorem respondNow_flash (s : State) (f : Frame) : (s.respondNow f).flash = s.flash :=
  respondNow_keeps (g := State.flash) (fun _ _ _ _ => rfl) (fun _ _ _ => rfl) (fun _ _ => rfl) (fun _ => post_flash _ _ _)
    (fun _ _ => rfl) s f
theorem respondNow_otp (s : State) (f : Frame) : (s.respondNow f).otp = s.otp :=
  respondNow_keeps (g := State.otp) (fun _ _ _ _ => rfl) (fun _ _ _ => rfl) (fun _ _ => rfl) (fun _ => post_otp _ _ _)
    (fun _ _ => rfl) s f

theorem restartAll_boot (s : State) : s.restartAll.boot = {} := when_invariant (g := State.boot) (fun _ => by rfl) _ _

/-- An internal restart begins ROM boot at its first step and leaves the memories. -/
theorem internalRestart_boot (s : State) (n : Nat) : (s.internalRestart n).boot = {} := restartAll_boot s.endEpoch
theorem internalRestart_flash (s : State) (n : Nat) : (s.internalRestart n).flash = s.flash := restartAll_flash s.endEpoch
theorem internalRestart_otp (s : State) (n : Nat) : (s.internalRestart n).otp = s.otp := restartAll_otp s.endEpoch

/-- A restart that is asked for: its power-down is a restart's, and a checkpoint is due. -/
def State.restartAsked (s : State) (auto : Bool) : State :=
  let s := { s with his := { s.his with cpDue := s.his.cpDue || s.his.dayDue.isNone } }
  { s with seq := { s.seq with forRestart := true, restartAuto := auto } }

theorem beginRestart_eq {s : State} {auto : Bool} (h : s.seq.forRestart = false) : s.beginRestart auto = (s.restartAsked auto).startPowerDown :=
  if_neg (by rw [h]; exact Bool.false_ne_true)

/-! A port's enable -/

theorem disableAttach_astate (s : State) (k : PortId) : (s.disableAttach k).get (F.ATT_STATUS_ASTATE k) = 0 := by
  unfold State.disableAttach State.partFrom State.when
  extract_lets a b c
  simp only [c, b]
  split
  all_goals simp (disch := (clear * -; decide +revert)) [a]

/-- A port that is disabled has its enable off, its switch open and no partner. -/
theorem clearEnable_facts (s : State) (k : PortId) : (s.clearEnable k).bit F.SEC_PORTEN_EN k.val = false ∧
    (s.clearEnable k).switchDriven k = false ∧ (s.clearEnable k).astate k = 0 := by
  unfold State.clearEnable
  extract_lets a b c
  have hastate : a.get (F.ATT_STATUS_ASTATE k) = 0 := disableAttach_astate _ k
  have hw : Writes (shutFields k) (s.putBit F.SEC_PORTEN_EN k.val false) a :=
    (((Writes.refl _).hardOpen fun _ h => h).disableAttach fun _ h => h).disarmAll
  have hbit : a.bit F.SEC_PORTEN_EN k.val = false := by
    refine (congrArg (Nat.testBit · k.val) (hw F.SEC_PORTEN_EN (by clear * -; decide +kernel +revert))).trans ?_
    simp (disch := (clear * -; decide +revert))
  clear_value a
  split
  · next h5 =>
    refine ⟨?_, ?_, ?_⟩
    · simp at hbit
      simp (disch := (clear * -; decide +revert)) [c, b, hbit]
    · rw [State.switchDriven, h5]
      rfl
    · simp at hastate
      simp (disch := (clear * -; decide +revert)) [c, b, State.astate, hastate]
  · refine ⟨?_, ?_, ?_⟩
    · simp at hbit
      simp (disch := (clear * -; decide +revert)) [c, b, hbit]
    · simp (disch := (clear * -; decide +revert)) [State.switchDriven]
    · simp at hastate
      simp (disch := (clear * -; decide +revert)) [c, b, State.astate, hastate]

/-- The fields that a port writes that begins to look for a partner. -/
def openFields (k : PortId) : List Fld :=
  [F.ATT_STATUS_ASTATE k, F.ATT_STATUS_DRY k, F.ATT_STATUS_SEATED k, F.ATT_STATUS_PWR_ROLE k, F.ATT_STATUS_RP k]

section
variable {l : List Fld} {s₀ s : State} {k : PortId} (h : Writes l s₀ s) (hl : openFields k ⊆ l)
include h hl

theorem Writes.setAState {st : Nat} : Writes l s₀ (s.setAState k st) := by
  unfold State.setAState
  extract_lets a
  have ha : Writes l s₀ a := h.set (hl (by simp [openFields]))
  exact .ite (.ite ha ha.arm) (ha.same rfl)
theorem Writes.presentRp : Writes l s₀ (s.presentRp k) := by
  unfold State.presentRp
  extract_lets a ref
  exact .ite h (h.set (hl (by simp [openFields]))).modBrk
theorem Writes.ccEval : Writes l s₀ (s.ccEval k) := by
  unfold State.ccEval
  extract_lets p free sees
  exact .ite (h.disarm.setAState hl).arm h
theorem Writes.unattached : Writes l s₀ (s.unattached k) := by
  unfold State.unattached
  extract_lets a b c d e
  have ha : Writes l s₀ a := h.modAtt
  have hb : Writes l s₀ b := ha.setAState hl
  have hc : Writes l s₀ c := .ite hb (hb.set (hl (by simp [openFields])))
  have hd : Writes l s₀ d := hc.when fun _ ht => ht.put (hl (by simp [openFields]))
  have he : Writes l s₀ e := .ite (hd.presentRp hl) (.ite
    ((((hd.put (hl (by simp [openFields]))).modAtt).presentRp hl).arm)
    ((hd.put (hl (by simp [openFields]))).set (hl (by simp [openFields]))))
  exact .ite (he.ccEval hl) h

end

theorem setEnable_bit (s : State) (k : PortId) : (s.setEnable k).bit F.SEC_PORTEN_EN k.val = true := by
  unfold State.setEnable
  split
  · assumption
  · have hw : Writes (openFields k) (s.putBit F.SEC_PORTEN_EN k.val true)
        ((s.putBit F.SEC_PORTEN_EN k.val true).when (!k.isModule || !s.isIn .spring || Nat.ble 5 s.boot.step) fun t => t.unattached k) :=
      (Writes.refl _).when fun _ ht => ht.unattached fun _ h => h
    refine (congrArg (Nat.testBit · k.val) (hw F.SEC_PORTEN_EN (by clear * -; decide +kernel +revert))).trans ?_
    simp (disch := (clear * -; decide +revert))
    clear * -
    decide +revert

/-- PORT_ENABLE for one port. -/
theorem exec_portEnable {s : State} {f : Frame} {k : PortId} {w : Word} (hf : s.hif.current = some f) (hc : f.cmd = 0x0110)
    (h : f.payload = [w]) (hp : portsOf (w.toNat % 512) = [k]) :
    exec .portEnable s = .next ((if w.toNat.testBit (16 + k.val) then s.setEnable k else s.clearEnable k).done f .ok) := by
  have harg : f.arg 0 = w.toNat := by
    rw [Frame.arg, h]
    rfl
  have hlen : ¬ f.payload.length ≠ 1 := by
    rw [h]
    exact not_not_intro rfl
  refine exec_command hf hc rfl ((if_neg hlen).trans ?_)
  simp only [harg, hp, forAll, List.foldl_cons, List.foldl_nil]

theorem exec_portEnable_off {s : State} {f : Frame} {k : PortId} (hf : s.hif.current = some f) (hc : f.cmd = 0x0110)
    (h : f.payload = [BitVec.ofNat 32 (2 ^ k.val)]) : exec .portEnable s = .next ((s.clearEnable k).done f .ok) := by
  rw [exec_portEnable (k := k) hf hc h (by clear * -; decide +revert), if_neg (by clear * -; decide +revert)]
theorem exec_portEnable_on {s : State} {f : Frame} {k : PortId} (hf : s.hif.current = some f) (hc : f.cmd = 0x0110)
    (h : f.payload = [BitVec.ofNat 32 (2 ^ k.val + 2 ^ (16 + k.val))]) : exec .portEnable s = .next ((s.setEnable k).done f .ok) := by
  rw [exec_portEnable (k := k) hf hc h (by clear * -; decide +revert), if_pos (by clear * -; decide +revert)]

/-! A rail's margin -/

theorem toTwos_ofTwos (v : BitVec 8) : toTwos 8 (ofTwos 8 v.toNat) = v.toNat := by
  have hv := v.isLt
  unfold toTwos ofTwos
  split <;> omega

theorem toTwos_lt (t : Int) : toTwos 8 t < 2 ^ 8 := by
  unfold toTwos
  omega

/-- A margin target within the limit is taken as it is. -/
theorem margin_within {s : State} {j : RailId} {t : Int} (h : t.natAbs ≤ s.get (F.SQ_MGCAL_LIMIT j)) : s.margin j t = s.setMargin j t false := by
  have hclamp : max (-(s.get (F.SQ_MGCAL_LIMIT j) : Int)) (min (s.get (F.SQ_MGCAL_LIMIT j) : Int) t) = t := by omega
  unfold State.margin
  extract_lets lim v
  have hv : v = t := hclamp
  rw [hv, decide_eq_false (not_not_intro rfl)]

/-- A target other than the rail's position begins a move. -/
theorem setMargin_facts {s : State} {j : RailId} {t : Int} (h : t ≠ s.mgPos j) :
    (s.setMargin j t false).get (F.SQ_MG_TARGET j) = toTwos 8 t ∧ (s.setMargin j t false).has (F.SQ_MGST_CLAMPED j) = false ∧
    (s.setMargin j t false).has (F.SQ_MGST_MOVING j) = true ∧
    (s.setMargin j t false).deadline (.margin j) = some (s.now + msec 100) ∧
    SameWords [R.SQ_MG j, R.SQ_MGST j] s (s.setMargin j t false) := by
  have hpos : ((s.set (F.SQ_MG_TARGET j) (toTwos 8 t)).put (F.SQ_MGST_CLAMPED j) false).mgPos j = s.mgPos j := by
    simp (disch := (clear * -; decide +revert)) [State.mgPos]
  unfold State.setMargin
  extract_lets a b
  rw [if_neg]
  · have hfit : toTwos 8 t % 2 ^ (F.SQ_MG_TARGET j).width = toTwos 8 t := Nat.mod_eq_of_lt (toTwos_lt t)
    simp (disch := (clear * -; decide +revert)) [b, a, hfit]
  · rw [hpos, decide_eq_false h]
    exact Bool.false_ne_true

/-- Settles O17: each command acts as its chapter says, and its answer shows nowhere but in the host interface. -/
theorem powerAndPortCommandsAct : Obligations.PowerAndPortCommandsAct := by
  refine ⟨fun s f hf hc h1 => ?_, fun s f hf hc h1 h2 h3 => ?_, fun s f hf hc h1 h2 => ?_, fun s f hf hc h1 h2 => ?_,
    fun s f hf hc h1 h2 h3 => ?_, fun s f hf hc h1 => ?_, fun s f hf hc h1 h2 => ?_, fun s f hf hc h1 h2 h3 => ?_, fun s f hf hc h1 => ?_,
    fun s f hf hc h1 h2 h3 => ?_, fun s f k hf hc h1 => ?_, fun s f k hf hc h1 => ?_, fun s f k hf hc h1 => ?_,
    fun s j v f hf hc h1 => ?_, fun s j v f hf hc h1 => ?_, fun s j v f hf hc h1 h2 h3 => ?_⟩
  · refine exec_command hf hc rfl (if_pos ?_)
    rw [h1]
    rfl
  · obtain ⟨hin, hentry, hcause⟩ := requestAutumn_facts h2 h3
    obtain ⟨hcom, hbusc, hflag, hstate, hentry', hphase, hups, hbus⟩ := commit_facts (s.requestAutumn 3)
    refine .of_command (t := (s.requestAutumn 3).commit.done f .ok) hf hc rfl (if_pos (by rw [h1]; rfl)) ?_
    generalize (s.requestAutumn 3).commit = u at *
    rw [done_isIn, done_get, done_has, done_has, done_get, done_has, done_bus, done_pins, done_answered]
    refine ⟨?_, hentry'.trans hentry, hcom, hbusc, hphase, hflag, ?_, hups, rfl⟩
    · exact (isIn_iff _ _).mpr (hstate.trans ((isIn_iff _ _).mp hin))
    · rw [hbus, hcause]
  · refine exec_command hf hc rfl ((if_pos (by rw [h1]; rfl)).trans (if_pos h2))
  · refine .of_command hf hc rfl ((if_pos (by rw [h1]; rfl)).trans (if_neg ?_)) ⟨rfl, fun _ _ => rfl⟩
    rw [h2]
    exact Bool.false_ne_true
  · refine .of_command hf hc rfl ((if_pos (by rw [h1]; rfl)).trans (if_pos (by rw [h2, h3]; rfl))) ?_
    obtain ⟨hstate, hprev, hentry, -, -⟩ := internalRestart_sysState (s.respondNow f) (n := 8) (by decide)
    exact ⟨(isIn_iff _ _).mpr hstate, hentry, hprev.trans (respondNow_state s f), congrArg Boot.step (internalRestart_boot _ _),
      (internalRestart_otp _ _).trans (respondNow_otp s f), (internalRestart_flash _ _).trans (respondNow_flash s f)⟩
  · exact .of_command hf hc rfl (if_pos h1) ⟨rfl, fun _ _ => rfl⟩
  · refine exec_command hf hc rfl ((if_neg (by rw [h2]; exact Bool.false_ne_true)).trans (if_pos ?_))
    rw [h1]
    rfl
  · refine .of_command (t := (s.beginRestart false).done f .ok) hf hc rfl
      ((if_neg (by rw [h2]; exact Bool.false_ne_true)).trans (if_pos (by rw [h1]; rfl))) ?_
    obtain ⟨hphase, hstep, hdelay, hfor, hauto, -, -⟩ := startPowerDown_facts (s.restartAsked false)
    rw [beginRestart_eq h3, done_seq, done_get, done_get, done_deadline, done_answered]
    exact ⟨hfor, hauto, hphase, hstep, hdelay, rfl⟩
  · refine exec_command hf hc rfl (if_pos ?_)
    rw [h1]
    rfl
  · obtain ⟨hin, -, hentry, -⟩ := raise_fatal_entered (s := s) (code := 0xC002) rfl rfl h2 h3
    obtain ⟨hflag, hcode⟩ := raise_fatal_held (s := s) (code := 0xC002) rfl rfl
    refine .of_command hf hc rfl (if_pos (by rw [h1]; rfl)) ?_
    rw [done_isIn, done_get, done_has, done_get, done_answered]
    exact ⟨hin, hentry, hflag, hcode, rfl⟩
  · exact exec_portEnable_off hf hc h1
  · obtain ⟨hbit, hopen, hatt⟩ := clearEnable_facts s k
    refine ⟨_, exec_portEnable_off hf hc h1, ?_⟩
    generalize s.clearEnable k = u at *
    rw [done_bit, State.switchDriven, State.astate, done_get, done_get, done_answered]
    exact ⟨hbit, hopen, hatt, rfl⟩
  · have hmem := onlyNamedCommandsWriteMemory .portEnable s rfl
    refine ⟨_, exec_portEnable_on hf hc h1, ?_⟩
    rw [exec_portEnable_on hf hc h1] at hmem
    obtain ⟨_, heq, hflash, hotp, -⟩ := hmem
    obtain rfl := Host.Outcome.next.inj heq
    rw [done_bit, done_answered]
    exact ⟨setEnable_bit s k, rfl, hotp, hflash⟩
  · exact exec_command hf hc rfl (if_pos h1)
  · exact .of_command hf hc rfl (if_neg (by rw [h1]; exact Bool.false_ne_true)) ⟨rfl, fun _ _ => rfl⟩
  · refine .of_command hf hc rfl (if_pos h1) ?_
    obtain ⟨htarget, hclamped, hmoving, hdeadline, hwords⟩ := setMargin_facts (s := s) (j := j) h3
    rw [margin_within h2, done_get, done_has, done_has, done_deadline, done_answered]
    refine ⟨htarget.trans ?_, hclamped, hmoving, hdeadline, rfl, hwords⟩
    exact toTwos_ofTwos v

end Sys2Proof.Machine
end

section
/-!
What raising a contained fault leaves where its source is neither a port, a rail, the bus nor a buffer: recorded and flagged, or
promoted to a fatal one (R486, R487).
-/
namespace Sys2Proof.Machine

/-- The fields that raising a contained fault writes, promoted or not. -/
def containedFields : List Fld := F.FLT_STATUS_PROMOTED :: raisedFields ++ fatalFields

theorem faultClass_withClass (code cls : Nat) : faultClass (withClass code cls) = cls % 4 := by
  unfold faultClass withClass
  omega

/-- A source whose isolation changes nothing. -/
def isolatesNothing (src : Nat) : Bool := (sourcePort? src).isNone && (sourceRail? src).isNone && src != 0x20 && src != 0x28

section
variable {s₀ s : State} {code : Nat}

theorem sourceAbsent_of_isolatesNothing {src : Nat} (h : isolatesNothing src = true) (s : State) : s.sourceAbsent src = false := by
  simp only [isolatesNothing, Bool.and_eq_true, Option.isNone_iff_eq_none] at h
  obtain ⟨⟨⟨hp, hr⟩, -⟩, -⟩ := h
  rw [State.sourceAbsent, hp, hr]
  rfl

theorem raise_contained_cases (hc : faultClass code = 2) (hi : isolatesNothing (faultSource code) = true) : ∃ t,
    Writes containedFields s t ∧ Beside s t ∧
    (s.raise code = (t.recordFault code false).flag G.FLT_CONT ∨
      s.raise code = ((t.recordFault (withClass code 3) true).flag G.FLT_FATAL).fatal (withClass code 3)) := by
  obtain ⟨hregs, hbeside⟩ : (s.escalate (faultSource code) 2).2.regs = s.regs ∧ Beside s (s.escalate (faultSource code) 2).2 := by
    unfold State.escalate
    split
    · exact ⟨rfl, .refl s⟩
    · exact ⟨rfl, (Beside.refl s).rest⟩
  have hraise : s.raise code = (s.escalate (faultSource code) 2).2.react
      (if (s.escalate (faultSource code) 2).1 then withClass code 3 else code) (s.escalate (faultSource code) 2).1 := by
    rw [State.raise, hc]
    exact (if_neg (by rw [sourceAbsent_of_isolatesNothing hi]; exact Bool.false_ne_true)).trans (if_pos (.inr rfl))
  rw [hraise]
  generalize (s.escalate (faultSource code) 2).2 = e at *
  have he : Writes containedFields s e := Writes.same (.refl s) hregs
  cases (s.escalate (faultSource code) 2).1 with
  | false => exact ⟨e, he, hbeside, .inl ((react_counted (.inr hc)).trans (by rw [hc]; rfl))⟩
  | true =>
    refine ⟨e.bump F.FLT_STATUS_PROMOTED 1, he.bump (by simp [containedFields]), hbeside.bump, .inr ?_⟩
    rw [if_pos rfl, State.react, faultClass_withClass]
    rfl

theorem raise_contained_writes (hc : faultClass code = 2) (hi : isolatesNothing (faultSource code) = true) :
    Writes containedFields s (s.raise code) := by
  have hlog : logFields ⊆ containedFields := fun f hf => by simp [containedFields, raisedFields, hf]
  have hfatal : fatalFields ⊆ containedFields := List.subset_append_right _ _
  have hne : withClass code 3 % 2 ^ 16 ≠ 0 := by
    unfold withClass
    omega
  obtain ⟨t, ht, -, h | h⟩ := raise_contained_cases (s := s) hc hi
  · rw [h]
    exact (ht.recordFault hlog).flag (by simp [containedFields, raisedFields]) (by simp [containedFields, raisedFields])
  · rw [h]
    have hflag := (ht.recordFault (code := withClass code 3) (p := true) hlog).flag (g := G.FLT_FATAL) (by simp [containedFields, fatalFields])
      (by simp [containedFields, fatalFields])
    refine Writes.trans (s := State.holdFatalCode _ (withClass code 3)) ?_ ((fatal_writes hne).mono ?_)
    · exact .ite (hflag.set (hfatal (by simp [fatalFields]))) hflag
    · exact fun f hf => hfatal (List.mem_append_right _ hf)

theorem raise_contained_beside (hc : faultClass code = 2) (hi : isolatesNothing (faultSource code) = true) : Beside s (s.raise code) := by
  obtain ⟨t, -, ht, h | h⟩ := raise_contained_cases (s := s) hc hi
  · rw [h]
    exact (ht.trans (recordFault_logged (.refl t)).beside).flag
  · rw [h]
    exact (ht.trans (recordFault_logged (.refl t)).beside).flag.fatal

/-- The boot's data stands, but for the engines stopped. -/
theorem Beside.boot_eq {s t : State} {β : Type} {g : Boot → β} (h : Beside s t) (hg : ∀ b, g { b with engRun := 0 } = g b) : g t.boot = g s.boot := by
  rw [← hg, h.boot, hg]

theorem Beside.upd_eq {s t : State} {β : Type} {g : Upd → β} (h : Beside s t)
    (hg : ∀ u, g { u with step := 0, left := [], passed := [] } = g u) : g t.upd = g s.upd := by
  rw [← hg, h.upd, hg]

end

end Sys2Proof.Machine
end

section
/-!
The flash (R87): which bytes erasing, programming and a failed write change, and what a freshly erased run reads after programming.
-/
namespace Sys2Proof.Machine

section
variable {b n : Nat} {s t u : State}

theorem SameFlash.of_eq (h : t.flash = s.flash) : SameFlash b n s t := fun a _ => by rw [h]
theorem SameFlash.trans (h : SameFlash b n s t) (k : SameFlash b n t u) : SameFlash b n s u := fun a ha => (k a ha).trans (h a ha)
theorem SameFlash.withBoot (h : SameFlash b n s t) (o : Boot) : SameFlash b n s { t with boot := o } := h
theorem SameFlash.mono {b' n' : Nat} (h : SameFlash b' n' s t) (hb : b ≤ b') (hn : b' + n' ≤ b + n) : SameFlash b n s t :=
  fun a ha => h a (by omega)

theorem flashErase_sameFlash (s : State) (a n : Nat) : SameFlash a n s (s.flashErase a n) := fun i hi =>
  (bankRead_clear erased s.flash a n i).trans (if_neg (by omega))

theorem flashProgram_sameFlash (s : State) (a : Nat) (bs : List Byte) : SameFlash a bs.length s (s.flashProgram a bs) := fun i hi =>
  (bankRead_programBytes bs s.flash a i).trans (if_neg (by omega))

theorem bankRead_writeList_outside {β : Type} [DecidableEq β] (d : Nat → β) (vs : List β) (m : Bank β) (a i : Nat) (h : i < a ∨ a + vs.length ≤ i) :
    bankRead d (bankWriteList d m a vs) i = bankRead d m i := by
  induction vs generalizing m a with
  | nil => rfl
  | cons v vs ih =>
    rw [List.length_cons] at h
    rw [bankWriteList, ih _ _ (by omega), bankRead_write_other _ _ _ _ _ (by omega)]

theorem spoil_sameFlash (s : State) (a n : Nat) : SameFlash a n s (s.spoil a n) := fun i hi => by
  rw [State.spoil]
  exact bankRead_writeList_outside _ _ _ _ _ (by simpa using hi)

theorem reads_programmed (m : Bank Byte) (a : Nat) (bs : List Byte) (h : ∀ i < bs.length, bankRead erased m (a + i) = 0xFF#8) :
    bankReadList erased (programBytes m a bs) a bs.length = bs := by
  refine List.ext_getElem (by simp [bankReadList]) fun i hi hi' => ?_
  have hin : a ≤ a + i ∧ a + i < a + bs.length := ⟨Nat.le_add_right a i, Nat.add_lt_add_left hi' a⟩
  refine (List.getElem_map _).trans ?_
  rw [List.getElem_range, bankRead_programBytes, if_pos hin, h i hi', Nat.add_sub_cancel_left,
    List.getD_eq_getElem _ _ hi']
  exact BitVec.allOnes_and
end

end Sys2Proof.Machine
end

section
/-!
The firmware update: the slot table changed on a command, and the transfer (R583–R592).
-/
namespace Sys2Proof.Machine

/-! The slot table changed -/

theorem leBytes_length (n v : Nat) : (leBytes n v).length = n := by simp [leBytes]

theorem slotTab_body_length (t : SlotTab) : t.body.length = 60 := by
  unfold SlotTab.body
  simp only [List.length_append, leBytes_length]

theorem slotTab_bytes_length (t : SlotTab) : t.bytes.length = 64 := by
  obtain ⟨c, hc⟩ : ∃ c, crc32 t.body = c := ⟨_, rfl⟩
  unfold SlotTab.bytes
  rw [hc, List.length_append, leBytes_length, slotTab_body_length]

section
variable (s : State) (act : SlotTab → SlotTab)

/-- The table that a change writes: as changed, with the next generation. -/
def State.tableAhead : SlotTab := { act s.boot.tab with gen := (s.boot.tabOld.gen + 1) % 2 ^ 32 }

theorem changeTable_done : s.changeTable true act =
    { (s.flashErase (tableBase (1 - s.boot.copy)) 4096).flashProgram (tableBase (1 - s.boot.copy)) (s.tableAhead act).bytes with
      boot := { s.boot with copy := 1 - s.boot.copy, tabOld := s.tableAhead act, tab := s.tableAhead act } } := rfl

theorem changeTable_regs : (s.changeTable true act).regs = s.regs := by rw [changeTable_done, State.flashProgram, State.flashErase]
theorem changeTable_upd : (s.changeTable true act).upd = s.upd := by rw [changeTable_done, State.flashProgram, State.flashErase]
theorem changeTable_otp : (s.changeTable true act).otp = s.otp := by rw [changeTable_done, State.flashProgram, State.flashErase]
theorem changeTable_tab : (s.changeTable true act).boot.tab = s.tableAhead act := by rw [changeTable_done]
theorem changeTable_tabOld : (s.changeTable true act).boot.tabOld = s.tableAhead act := by rw [changeTable_done]
/-- The generation says nothing of the slots. -/
theorem tableAhead_eq {β : Type} {g : SlotTab → β} (hg : ∀ t n, g { t with gen := n } = g t) : g (s.tableAhead act) = g (act s.boot.tab) := hg _ _
theorem changeTable_sameFlash : SameFlash (tableBase (1 - s.boot.copy)) 4096 s (s.changeTable true act) := by
  have hprogram := flashProgram_sameFlash (s.flashErase (tableBase (1 - s.boot.copy)) 4096) (tableBase (1 - s.boot.copy)) (s.tableAhead act).bytes
  rw [slotTab_bytes_length] at hprogram
  rw [changeTable_done]
  exact ((flashErase_sameFlash s _ 4096).trans (hprogram.mono (Nat.le_refl _) (by omega))).withBoot _

/-- The state with the table's change decided and its copy spoilt by a write that failed. -/
def State.tableSpoilt : State :=
  ((s.modTab act).flashErase (tableBase (1 - s.boot.copy)) 4096).spoil (tableBase (1 - s.boot.copy)) 64

theorem changeTable_failed : s.changeTable false act =
    { (s.tableSpoilt act).raise 0xAA09 with boot := { ((s.tableSpoilt act).raise 0xAA09).boot with tab := s.boot.tab } } := rfl
theorem tableSpoilt_regs : (s.tableSpoilt act).regs = s.regs := rfl
theorem tableSpoilt_copy : (s.tableSpoilt act).boot.copy = s.boot.copy := rfl

theorem changeTable_failed_tab : (s.changeTable false act).boot.tab = s.boot.tab := by rw [changeTable_failed]
theorem changeTable_failed_writes : Writes containedFields s (s.changeTable false act) := by
  rw [changeTable_failed]
  exact Writes.trans (Writes.same (.refl s) (tableSpoilt_regs s act))
    (Writes.same (raise_contained_writes (code := 0xAA09) rfl (by decide)) rfl)
theorem changeTable_failed_copy : (s.changeTable false act).boot.copy = s.boot.copy := by
  rw [changeTable_failed, ← tableSpoilt_copy s act]
  exact (raise_contained_beside (code := 0xAA09) rfl (by decide)).boot_eq (g := Boot.copy) fun _ => rfl
end

/-! The transfer -/

/-- A command whose frame is in work acts where the flash is free. -/
theorem Answers.of_flash {s t : State} {f : Frame} {code : Nat} {act : Frame → State → State} {p : State → Prop} {c : Instr}
    (hfree : s.flashFree = true) (hf : s.hif.current = some f) (hc : f.cmd = code) (hexec : exec c s = .next (s.onFlash code act))
    (hact : act f s = t) (hp : p t) : Answers (exec c s) p :=
  .of_command hf hc (hexec.trans (congrArg Host.Outcome.next (if_pos hfree))) hact hp

/-- The table change by which a transfer takes its slot (R586). -/
def slotTaken (kind slot : Nat) (t : SlotTab) : SlotTab := (t.setState kind slot slotEmpty).setLen kind slot 0

/-- The transfer's registers and session once it is open. -/
def State.opened (s : State) (f : Frame) (kind slot : Nat) : State :=
  let t := ((s.set F.UPD_STATUS_STATE 1).set F.UPD_STATUS_KIND kind).set F.UPD_STATUS_SLOT slot
  let t := (t.set F.UPD_NEXT_NEXT 0).set F.UPD_LEN_LEN (f.arg 1)
  { t with upd := { t.upd with session := f.session, erasedTo := 0 } }

theorem openTransfer_eq (s : State) (f : Frame) (kind slot : Nat) (ok : Bool) {same : Bool}
    (h : decide (slotTaken kind slot s.boot.tab = s.boot.tab) = same) : s.openTransfer f kind slot ok =
    if (!same && !ok) = true then (if same = true then s else s.changeTable ok (slotTaken kind slot)).done f .noResource
    else ((if same = true then s else s.changeTable ok (slotTaken kind slot)).opened f kind slot).reply f .ok [BitVec.ofNat 32 slot] := by
  subst h
  rfl

theorem openTransfer_ok (s : State) (f : Frame) (kind slot : Nat) : ∃ t, s.openTransfer f kind slot true =
    (State.opened t f kind slot).reply f .ok [BitVec.ofNat 32 slot] := ⟨_, (openTransfer_eq s f kind slot true rfl).trans (if_neg (by simp))⟩

theorem openTransfer_failed {s : State} {f : Frame} {kind slot : Nat} (h : slotTaken kind slot s.boot.tab ≠ s.boot.tab) :
    s.openTransfer f kind slot false = (s.changeTable false (slotTaken kind slot)).done f .noResource :=
  openTransfer_eq s f kind slot false (decide_eq_false h)

theorem opened_facts (s : State) (f : Frame) (slot : Nat) : (s.opened f 1 slot).get F.UPD_STATUS_STATE = 1 ∧
    (s.opened f 1 slot).get F.UPD_STATUS_KIND = 1 ∧ (s.opened f 1 slot).get F.UPD_NEXT_NEXT = 0 ∧
    (s.opened f 1 slot).get F.UPD_LEN_LEN = f.arg 1 % 2 ^ F.UPD_LEN_LEN.width ∧ (s.opened f 1 slot).upd.session = f.session := by
  unfold State.opened
  simp (disch := decide)

/-! Check values -/

theorem reflectBits_lt (w v : Nat) : reflectBits w v < 2 ^ w := by
  unfold reflectBits
  induction w with
  | zero => exact Nat.one_pos
  | succ w ih =>
    rw [List.range_succ, List.foldl_append, List.foldl_cons, List.foldl_nil, Nat.pow_succ]
    omega

theorem crc32_lt (bs : List Byte) : crc32 bs < 2 ^ 32 := by
  have hview : crcFeed (crcAlg 2) (crcView (crcAlg 2) (crcAlg 2).init) bs < 2 ^ 32 := reflectBits_lt 32 _
  exact Nat.xor_lt_two_pow hview (by decide)

/-! A block -/

/-- The sectors that a block still has to erase. -/
def State.freshSectors (s : State) (off n : Nat) : List Nat :=
  (List.range ((off + n - 1) / 4096 + 1)).filter fun c => Nat.ble s.upd.erasedTo c && Nat.ble (off / 4096) c

def State.erasedUpTo (s : State) (n : Nat) : State := { s with upd := { s.upd with erasedTo := max s.upd.erasedTo n } }

theorem eraseFor_eq (s : State) (off n : Nat) : s.eraseFor off n =
    (Machine.forAll (s.freshSectors off n) (fun c t => t.flashErase (t.updBase + 4096 * c) 4096) s).erasedUpTo ((off + n - 1) / 4096 + 1) := rfl

theorem eraseFor_first {s : State} (h : s.upd.erasedTo = 0) : s.eraseFor 0 4 = (s.flashErase s.updBase 4096).erasedUpTo 1 := by
  have hfresh : s.freshSectors 0 4 = [0] := by
    rw [State.freshSectors, h]
    rfl
  rw [eraseFor_eq, hfresh]
  rfl

theorem headLen_long (kind : Nat) : Nat.ble (headLen kind) (0 + 4) = false := by
  unfold headLen
  split <;> rfl

/-- The first four bytes of a slot written: its first sector erased and the bytes programmed. -/
def State.firstFour (s : State) (bs : List Byte) : State :=
  (((s.flashErase s.updBase 4096).erasedUpTo 1).flashProgram s.updBase bs).set F.UPD_NEXT_NEXT 4

theorem writeBlock_first {s : State} (f : Frame) {bs : List Byte} (he : s.upd.erasedTo = 0) (hb : bs.length = 4) :
    s.writeBlock f 0 bs none = (s.firstFour bs).reply f .ok [4#32] := by
  have hhead : ¬ (Nat.blt 0 (headLen (s.get F.UPD_STATUS_KIND)) && Nat.ble (headLen (s.get F.UPD_STATUS_KIND)) (0 + 4)) = true := by
    rw [headLen_long, Bool.and_false]
    exact Bool.false_ne_true
  unfold State.writeBlock
  rw [hb, eraseFor_first he]
  exact if_neg hhead

theorem firstFour_facts (s : State) {bs : List Byte} (hb : bs.length = 4) : (s.firstFour bs).get F.UPD_NEXT_NEXT = 4 ∧
    (s.firstFour bs).flashRead s.updBase 4 = bs ∧ SameFlash s.updBase 4096 s (s.firstFour bs) ∧ SameWords [R.UPD_NEXT] s (s.firstFour bs) := by
  refine ⟨get_set_self _ F.UPD_NEXT_NEXT 4 (by decide), ?_, ?_, fun a ha => word_set_other _ _ _ _ (List.ne_of_not_mem_cons ha)⟩
  · have hread := reads_programmed (bankClear s.flash s.updBase 4096) s.updBase bs fun i hi =>
      (bankRead_clear erased s.flash s.updBase 4096 _).trans (if_pos (by omega))
    rw [hb] at hread
    exact hread
  · have hprogram := flashProgram_sameFlash ((s.flashErase s.updBase 4096).erasedUpTo 1) s.updBase bs
    rw [hb] at hprogram
    exact (flashErase_sameFlash s s.updBase 4096).trans (hprogram.mono (Nat.le_refl _) (by omega))

/-- A block that follows the one before, under no suspension, is written. -/
theorem takeBlock_next {s : State} {f : Frame} {failAt : Option Nat} (hoff : f.arg 0 = s.get F.UPD_NEXT_NEXT)
    (hsusp : s.updSuspended (s.get F.UPD_STATUS_KIND) = false)
    (hok : (Nat.blt f.payload.length 3 || f.arg 1 ≠ crc32 (wordBytes (f.payload.drop 2)) ||
      Nat.blt (s.get F.UPD_LEN_LEN) (f.arg 0 + (wordBytes (f.payload.drop 2)).length)) = false) :
    s.takeBlock f failAt = s.writeBlock f (f.arg 0) (wordBytes (f.payload.drop 2)) failAt := by
  have hsuspended : ∀ b : Bool, ¬ (s.updSuspended (s.get F.UPD_STATUS_KIND) && b) = true := fun b => by
    rw [hsusp]
    exact Bool.false_ne_true
  exact (if_neg (hsuspended _)).trans ((if_neg (Bool.not_eq_true _ ▸ hok)).trans (if_pos hoff))

theorem takeBlock_first {s : State} {f : Frame} {x : Word} (hnext : s.get F.UPD_NEXT_NEXT = 0) (hlen : 4 ≤ s.get F.UPD_LEN_LEN)
    (he : s.upd.erasedTo = 0) (hsusp : s.updSuspended (s.get F.UPD_STATUS_KIND) = false)
    (hpay : f.payload = [0#32, BitVec.ofNat 32 (crc32 (leBytes 4 x.toNat)), x]) :
    s.takeBlock f none = (s.firstFour (leBytes 4 x.toNat)).reply f .ok [4#32] := by
  have hoff : f.arg 0 = 0 := by
    rw [Frame.arg, hpay]
    rfl
  have hcrc : f.arg 1 = crc32 (leBytes 4 x.toNat) := by
    have harg : f.arg 1 = (BitVec.ofNat 32 (crc32 (leBytes 4 x.toNat))).toNat := by
      rw [Frame.arg, hpay]
      generalize crc32 (leBytes 4 x.toNat) = c
      rfl
    rw [harg, BitVec.toNat_ofNat, Nat.mod_eq_of_lt (crc32_lt _)]
  have hbytes : wordBytes (f.payload.drop 2) = leBytes 4 x.toNat := by
    rw [hpay]
    exact List.append_nil _
  have hl : (leBytes 4 x.toNat).length = 4 := leBytes_length _ _
  have hfits : Nat.blt (s.get F.UPD_LEN_LEN) (0 + 4) = false := by
    rw [← Bool.not_eq_true, Nat.blt_eq]
    omega
  have hshort : Nat.blt f.payload.length 3 = false := by
    rw [hpay]
    rfl
  rw [takeBlock_next (hoff.trans hnext.symm) hsusp ?_, hbytes, hoff, writeBlock_first f he hl]
  rw [hbytes, hl, hcrc, hoff, hfits, hshort, Bool.or_false, Bool.false_or]
  exact decide_eq_false (not_not_intro rfl)

/-! The end of a transfer -/

theorem endTransfer_facts (s : State) : s.endTransfer.get F.UPD_STATUS_STATE = 0 ∧
    s.endTransfer.get F.UPD_STATUS_RESULT = s.get F.UPD_STATUS_RESULT ∧ s.endTransfer.get F.UPD_NEXT_NEXT = 0 ∧
    s.endTransfer.boot = s.boot ∧ s.endTransfer.flash = s.flash ∧ SameWords [R.UPD_STATUS, R.UPD_NEXT, R.UPD_LEN] s s.endTransfer := by
  unfold State.endTransfer
  refine ⟨?_, ?_, ?_, ?_, ?_, fun a ha => ?_⟩
  · simp (disch := decide)
  · simp (disch := decide)
  · simp (disch := decide)
  · simp
  · simp
  · simp only [List.mem_cons, List.not_mem_nil, or_false, not_or] at ha
    obtain ⟨h1, h2, h3⟩ := ha
    exact (word_set_other _ F.UPD_LEN_LEN 0 a h3).trans ((word_set_other _ F.UPD_NEXT_NEXT 0 a h2).trans
      ((word_set_other _ F.UPD_STATUS_SLOT 0 a h1).trans ((word_set_other _ F.UPD_STATUS_KIND 0 a h1).trans
        (word_set_other _ F.UPD_STATUS_STATE 0 a h1))))

end Sys2Proof.Machine
end

section
/-!
The commands of the firmware update (R586–R592).
-/
namespace Sys2Proof.Machine

theorem foreign_of_idle {s : State} (f : Frame) (h : s.get F.UPD_STATUS_STATE = 0) : s.foreign f = false := by
  rw [State.foreign, h]
  rfl

theorem foreign_of_session {s : State} {f : Frame} (h : f.session = s.upd.session) : s.foreign f = false := by
  rw [State.foreign, h]
  simp

/-- UPD_OPEN of a firmware of 4,096 bytes, where nothing bars it, opens its transfer. -/
theorem updOpen_opens {s : State} {ok : Bool} {f : Frame} {p : State → Prop} {t : State} (hfree : s.flashFree = true)
    (hf : s.hif.current = some f) (hc : f.cmd = 0x0300) (hst : s.get F.UPD_STATUS_STATE = 0) (hho : s.handoverRuns = false)
    (hdue : s.bootWriteDue = false) (htrial : s.useIs 1 slotTrial = false) (hpay : f.payload = [1#32, BitVec.ofNat 32 0x1000])
    (hopen : s.openTransfer f 1 (s.updTarget 1) ok = t) (hp : p t) : Answers (exec (.updOpen ok) s) p := by
  have hkind : f.arg 0 % 4 = 1 := by
    rw [Frame.arg, hpay]
    rfl
  have hlen : lengthOk 1 (f.arg 1) = true := by
    rw [Frame.arg, hpay]
    decide
  have hbusy : ¬ (s.get F.UPD_STATUS_STATE ≠ 0 || s.handoverRuns || s.bootWriteDue) = true := by
    rw [hst, hho, hdue]
    decide
  have hrun : ¬ ((1 == 1 || 1 == 2) && (s.slotInUse 1).any fun n => s.boot.tab.stateOf 1 n == slotTrial) = true := by
    rw [show ((s.slotInUse 1).any fun n => s.boot.tab.stateOf 1 n == slotTrial) = false from htrial]
    decide
  have harg : ¬ (f.payload.length ≠ 2 || !(1 == 1 || 1 == 2) || !lengthOk 1 (f.arg 1)) = true := by
    rw [hlen, hpay]
    decide
  refine .of_flash hfree hf hc rfl ?_ hp
  simp only [hkind]
  exact (if_neg hbusy).trans ((if_neg hrun).trans ((if_neg Bool.false_ne_true).trans ((if_neg harg).trans hopen)))

theorem fwState_setState (t : SlotTab) (slot st : Nat) : (t.setState 1 slot st).fwState slot = st := by
  unfold SlotTab.setState SlotTab.setFw SlotTab.fwState
  by_cases h : slot = 0
  · simp [h]
  · simp [h]

theorem fwLen_slotTaken (n : Nat) (t : SlotTab) : (slotTaken 1 n t).fwLen n = 0 := by
  unfold SlotTab.fwLen slotTaken SlotTab.setLen
  by_cases h : n = 0
  · simp [h]
  · simp [h]

/-! UPD_CLOSE -/

theorem fullCheck_config {s : State} {e : Nat} (h : s.get F.UPD_STATUS_KIND ≠ 1) : (s.fullCheck e).2 = s := by
  unfold State.fullCheck
  rw [if_neg h]
  split <;> rfl

theorem fwFull_flash (s : State) (base len err : Nat) : (s.fwFull base len err).2.flash = s.flash := by
  unfold State.fwFull
  extract_lets c
  clear_value c
  generalize s.sectionsOk base (s.flashRead base 0x400) (List.range 16) = ok
  repeat' split
  all_goals rfl

theorem fullCheck_flash (s : State) (e : Nat) : (s.fullCheck e).2.flash = s.flash := by
  by_cases h : s.get F.UPD_STATUS_KIND = 1
  · unfold State.fullCheck
    rw [if_pos h]
    exact fwFull_flash s _ _ _
  · rw [fullCheck_config h]

theorem rejectTransfer_facts (s : State) (code : Nat) : (s.rejectTransfer code).get F.UPD_STATUS_STATE = 0 ∧
    (s.rejectTransfer code).get F.UPD_STATUS_RESULT = code % 2 ^ F.UPD_STATUS_RESULT.width ∧ (s.rejectTransfer code).flash = s.flash := by
  obtain ⟨hstate, hresult, -, -, hflash, -⟩ := endTransfer_facts (s.set F.UPD_STATUS_RESULT code)
  have hset : (s.set F.UPD_STATUS_RESULT code).get F.UPD_STATUS_RESULT = code % 2 ^ F.UPD_STATUS_RESULT.width := get_set_self _ _ _ (by decide)
  unfold State.rejectTransfer
  generalize (s.set F.UPD_STATUS_RESULT code).endTransfer = u at *
  have hlog : Writes (G.UPD_REJECTED.bit :: G.UPD_REJECTED.cnt :: logFields) u u.postRejected :=
    ((Writes.refl u).post fun f hf => by simp [hf]).flag (by simp) (by simp)
  exact ⟨(hlog _ (by decide)).trans hstate, (hlog _ (by decide)).trans (hresult.trans hset), (post_logged (.refl u)).flash.trans hflash⟩

/-- UPD_CLOSE at the end of the transfer answers what the check finds. -/
theorem updClose_checks {s : State} {e : Fin 4} {f : Frame} {p : State → Prop} {t : State} (hf : s.hif.current = some f) (hc : f.cmd = 0x0302)
    (hfor : s.foreign f = false) (hst : s.get F.UPD_STATUS_STATE = 1) (hnext : s.get F.UPD_NEXT_NEXT = s.get F.UPD_LEN_LEN)
    (hsusp : (s.get F.UPD_STATUS_KIND == 1 && s.suspends 2) = false) (hpay : f.payload = [])
    (ht : (if (s.fullCheck e.val).1 = 1 then ((s.fullCheck e.val).2.set F.UPD_STATUS_RESULT 1).set F.UPD_STATUS_STATE 2
      else (s.fullCheck e.val).2.rejectTransfer (s.fullCheck e.val).1) = t)
    (hp : p (t.reply f .ok [BitVec.ofNat 32 (s.fullCheck e.val).1])) : Answers (exec (.updClose e) s) p := by
  have hbusy : ¬ (s.get F.UPD_STATUS_STATE ≠ 1 || s.get F.UPD_NEXT_NEXT ≠ s.get F.UPD_LEN_LEN) = true := by
    rw [hst, hnext]
    simp
  have hsuspended : ¬ (s.get F.UPD_STATUS_KIND = 1 && s.suspends 2) = true := by
    rw [← beq_eq_decide, hsusp]
    exact Bool.false_ne_true
  refine .of_command hf hc rfl ((if_neg (by rw [hfor]; exact Bool.false_ne_true)).trans ((if_neg hbusy).trans ((if_neg hsuspended).trans
    (if_pos (by rw [hpay]; rfl))))) ?_
  rw [← ht] at hp
  exact hp

/-! UPD_ACTIVATE -/

/-- The table change by which recovery is asked for. -/
def recoveryMarked (t : SlotTab) : SlotTab := { t with recovery := 0x5A }

/-- The table change by which a firmware slot is to be tried at the next boot. -/
def firmwarePending (slot len trials : Nat) (t : SlotTab) : SlotTab :=
  (((t.setState 1 slot slotPending).setActive 1 slot).setLen 1 slot len).setTrial 1 trials

theorem firmwarePending_facts (slot len trials : Nat) (t : SlotTab) : (firmwarePending slot len trials t).fwState slot = slotPending ∧
    (firmwarePending slot len trials t).fwActive = slot ∧ (firmwarePending slot len trials t).fwTrial = trials := by
  unfold firmwarePending SlotTab.setState SlotTab.setFw SlotTab.setActive SlotTab.setLen SlotTab.setTrial SlotTab.fwState
  by_cases h : slot = 0
  · simp [h]
  · simp [h]

section
variable {s : State} {ok : Bool} {f : Frame} {p : State → Prop} (hfree : s.flashFree = true) (hf : s.hif.current = some f)
  (hc : f.cmd = 0x0303) (hfor : s.foreign f = false) (hdue : s.bootWriteDue = false)
include hfree hf hc hfor hdue

theorem updActivate_recovery (hpay : f.payload = [3#32])
    (hp : p (if ok = true then (s.changeTable ok recoveryMarked).done f .ok else (s.changeTable ok recoveryMarked).done f .noResource)) :
    Answers (exec (.updActivate ok) s) p := by
  have hwhat : f.arg 0 % 4 = 3 := by
    rw [Frame.arg, hpay]
    rfl
  have harg : ¬ (f.payload.length ≠ 1 || 3 == 0 || (3 ≠ 3 && 3 ≠ s.get F.UPD_STATUS_KIND)) = true := by
    rw [hpay]
    simp
  have hbusy : ¬ (s.bootWriteDue || (3 ≠ 3 && s.get F.UPD_STATUS_STATE ≠ 2)) = true := by
    rw [hdue]
    simp
  refine .of_flash hfree hf hc rfl ?_ hp
  simp only [hwhat]
  refine (if_neg (by rw [hfor]; exact Bool.false_ne_true)).trans ((if_neg harg).trans ((if_neg hbusy).trans ?_))
  cases ok
  · rfl
  · rfl

theorem updActivate_firmware (hpay : f.payload = [1#32]) (hst : s.get F.UPD_STATUS_STATE = 2) (hkind : s.get F.UPD_STATUS_KIND = 1)
    (hok : ok = true) (hp : p (((s.changeTable true (firmwarePending (s.get F.UPD_STATUS_SLOT) (s.get F.UPD_LEN_LEN)
      (orDefault 3 (s.get F.UPD_CFG_TRIALS)))).set F.UPD_STATUS_STATE 3).done f .ok)) : Answers (exec (.updActivate ok) s) p := by
  have hwhat : f.arg 0 % 4 = 1 := by
    rw [Frame.arg, hpay]
    rfl
  have harg : ¬ (f.payload.length ≠ 1 || 1 == 0 || (1 ≠ 3 && 1 ≠ 1)) = true := by
    rw [hpay]
    simp
  have hbusy : ¬ (s.bootWriteDue || (1 ≠ 3 && s.get F.UPD_STATUS_STATE ≠ 2)) = true := by
    rw [hdue, hst]
    simp
  subst hok
  refine .of_flash hfree hf hc rfl ?_ hp
  simp only [hwhat, hkind]
  exact (if_neg (by rw [hfor]; exact Bool.false_ne_true)).trans ((if_neg harg).trans ((if_neg hbusy).trans rfl))

end

/-! UPD_ABORT -/

/-- The table change by which a firmware slot made pending is given up for the one in use. -/
def firmwareAborted (slot inUse : Nat) (t : SlotTab) : SlotTab := (t.setState 1 slot slotEmpty).setActive 1 inUse

theorem firmwareAborted_facts (slot inUse : Nat) (t : SlotTab) : (firmwareAborted slot inUse t).fwState slot = slotEmpty ∧
    (firmwareAborted slot inUse t).fwActive = inUse := by
  unfold firmwareAborted SlotTab.setState SlotTab.setFw SlotTab.setActive SlotTab.fwState
  by_cases h : slot = 0
  · simp [h]
  · simp [h]

/-- The table change by which a slot made pending is given up for the one in use. -/
def State.slotAborted (s : State) (t : SlotTab) : SlotTab :=
  let u := t.setState (s.get F.UPD_STATUS_KIND) (s.get F.UPD_STATUS_SLOT) slotEmpty
  match s.slotInUse (s.get F.UPD_STATUS_KIND) with
  | some n => u.setActive (s.get F.UPD_STATUS_KIND) n
  | none => u

theorem slotAborted_firmware {s : State} (h : s.get F.UPD_STATUS_KIND = 1) :
    s.slotAborted = firmwareAborted (s.get F.UPD_STATUS_SLOT) (s.get F.BOOT_STATUS_FW_SLOT) := by
  funext t
  rw [State.slotAborted, h]
  rfl

theorem updAbort_pending {s : State} {ok : Bool} {f : Frame} {p : State → Prop} (hfree : s.flashFree = true) (hf : s.hif.current = some f)
    (hc : f.cmd = 0x0306) (hpay : f.payload = []) (hst : s.get F.UPD_STATUS_STATE = 3) (hdue : s.bootWriteDue = false)
    (hp : p (if ok = true then (s.changeTable ok s.slotAborted).endTransfer.done f .ok else (s.changeTable ok s.slotAborted).done f .noResource)) :
    Answers (exec (.updAbort ok) s) p :=
  .of_flash hfree hf hc rfl ((if_pos (by rw [hpay]; rfl)).trans ((if_pos hst).trans (if_neg (by rw [hdue]; exact Bool.false_ne_true)))) hp

/-! CONFIRM -/

/-- The kinds that a CONFIRM names. -/
def confirmKinds (n : Nat) : List Nat := (if n.testBit 0 then [1] else []) ++ (if n.testBit 1 then [2] else [])

/-- CONFIRM's confirmations, of the kinds named. -/
def State.confirmed (s : State) (kinds failedFw failedCfg : List Nat) (fwOk cfgOk : Bool) : Bool × State :=
  let a := if kinds.contains 1 then s.confirmKind 1 failedFw fwOk else (true, s)
  if a.1 && kinds.contains 2 then a.2.confirmKind 2 failedCfg cfgOk else a

/-- CONFIRM's answer to its confirmations. -/
def confirmReply (f : Frame) (b : Bool × State) : State :=
  if b.1 then b.2.reply f .ok [BitVec.ofNat 32 (b.2.fwSteps + 256 * b.2.cfgSteps)] else b.2.done f .noResource

theorem confirmReply_true (f : Frame) (t : State) : confirmReply f (true, t) = t.reply f .ok [BitVec.ofNat 32 (t.fwSteps + 256 * t.cfgSteps)] := rfl

section
variable {s : State} {ff fc : List Nat} {fok cok : Bool} {f : Frame} {p : State → Prop} (hfree : s.flashFree = true)
  (hf : s.hif.current = some f) (hc : f.cmd = 0x0304) (hlen : f.payload.length = 1)
include hfree hf hc

theorem confirm_refused (hno : (confirmKinds (f.arg 0)).all (fun k => s.useIs k slotTrial || s.useIs k slotGood) = false)
    (hp : p (s.done f .badArg)) : Answers (exec (.confirm ff fc fok cok) s) p :=
  .of_flash hfree hf hc rfl (if_pos (Bool.or_eq_true_iff.mpr (.inr (congrArg not hno)))) hp

include hlen
/-- A CONFIRM of kinds in use, none of which advances, confirms them. -/
theorem confirm_runs (hall : (confirmKinds (f.arg 0)).all (fun k => s.useIs k slotTrial || s.useIs k slotGood) = true)
    (hdue : s.bootWriteDue = false) (hadv : (confirmKinds (f.arg 0)).any s.advances = false)
    (hp : p (confirmReply f (s.confirmed (confirmKinds (f.arg 0)) ff fc fok cok))) : Answers (exec (.confirm ff fc fok cok) s) p := by
  have hno : ¬ (f.payload.length ≠ 1 || !((confirmKinds (f.arg 0)).all fun k => s.useIs k slotTrial || s.useIs k slotGood)) = true := by
    rw [hall, hlen]
    decide
  have hfalse : ∀ b : Bool, ¬ ((confirmKinds (f.arg 0)).any s.advances && b) = true := fun b => by
    rw [hadv]
    exact Bool.false_ne_true
  exact .of_flash hfree hf hc rfl ((if_neg hno).trans ((if_neg (by rw [hdue]; exact Bool.false_ne_true)).trans
    ((if_neg (hfalse _)).trans (if_neg (hfalse _))))) hp

end

theorem useIs_good_excludes_trial {s : State} {kind : Nat} (h : s.useIs kind slotGood = true) : s.useIs kind slotTrial = false := by
  unfold State.useIs at h ⊢
  cases hn : s.slotInUse kind with
  | none => rfl
  | some n =>
    rw [hn] at h
    have hgood : s.boot.tab.stateOf kind n = slotGood := beq_iff_eq.mp h
    rw [Option.any_some, hgood]
    rfl

theorem advances_of_good {s : State} {kind : Nat} (h : s.useIs kind slotGood = true) : s.advances kind = false := by
  rw [State.advances, useIs_good_excludes_trial h]
  rfl

/-- A slot that is GOOD needs no confirmation. -/
theorem confirmKind_good {s : State} {kind : Nat} (h : s.useIs kind slotGood = true) (failed : List Nat) (ok : Bool) :
    s.confirmKind kind failed ok = (true, s) := by
  unfold State.confirmKind
  split
  · rfl
  · exact if_neg (by rw [useIs_good_excludes_trial h]; exact Bool.false_ne_true)

/-- A firmware on trial that advances no step becomes GOOD. -/
theorem confirmKind_trial {s : State} {failed : List Nat} (h : s.useIs 1 slotTrial = true) (hadv : s.advances 1 = false)
    (hfails : s.advanceFails (thermBase 1) (s.svnOf 1) failed = false) : s.confirmKind 1 failed true =
    (true, (s.changeTable true fun x => x.setState 1 (s.get F.BOOT_STATUS_FW_SLOT) slotGood).post 0x00 0x0304) := by
  have hkind : s.confirmKind 1 failed true = if s.useIs 1 slotTrial = true then
      (if s.advanceFails (thermBase 1) (s.svnOf 1) failed = true then
        (false, (if s.advances 1 = true then s.advanceTherm (thermBase 1) (s.svnOf 1) failed else s).programFail)
      else (true, ((if s.advances 1 = true then s.advanceTherm (thermBase 1) (s.svnOf 1) failed else s).changeTable true
        fun x => x.setState 1 (s.get F.BOOT_STATUS_FW_SLOT) slotGood).post 0x00 0x0304)) else (true, s) := rfl
  rw [hkind, if_pos h, hfails, if_neg Bool.false_ne_true, hadv, if_neg Bool.false_ne_true]

/-- Settles O18: a transfer opens, takes its blocks, closes, activates and aborts; a trial is confirmed. -/
theorem updateSessionActs : Obligations.UpdateSessionActs := by
  refine ⟨fun s ok f hfree hf hc hst => ?_, fun s ok f hfree hf hc hst hho hdue htrial hpay hok => ?_,
    fun s ok f hfree hf hc hst hho hdue htrial hpay hlen hslot hok => ?_, fun s fail f hfree hf hc hst => ?_,
    fun s fail f x hfree hf hc hst hses hsusp hpay hnext hlen her hfail => ?_, fun s e f hf hc hfor hst => ?_,
    fun s e f hf hc hfor hst hnext hsusp hpay => ?_, fun s e f hf hc hpay hfor hst hnext hkind hcheck => ?_,
    fun s ok f hfree hf hc hfor hpay hdue hok => ?_, fun s ok f hfree hf hc hfor hst hkind hpay hdue hok => ?_,
    fun s ok f hfree hf hc hfor hpay hdue hok => ?_, fun s ok f hfree hf hc hpay hst => ?_,
    fun s ok f hfree hf hc hpay hst hkind hslot hdue hok => ?_, fun s ok f hfree hf hc hpay hst hdue hok => ?_,
    fun s ff fc fok cok f hfree hf hc hpay htrial hgood => ?_, fun s ff fc fok cok f hfree hf hc hpay htrial hadv hfails hdue hok => ?_,
    fun s ff fc fok cok f hfree hf hc hpay hfw hcfg hdue => ?_⟩
  · refine .of_flash hfree hf hc rfl (if_pos ?_) ⟨done_answered _ _ _, rfl, done_sameWords _ _ _⟩
    rw [decide_eq_true hst]
    rfl
  · subst hok
    have harg : f.arg 1 = 0x1000 := by
      rw [Frame.arg, hpay]
      rfl
    obtain ⟨u, hu⟩ := openTransfer_ok s f 1 (s.updTarget 1)
    obtain ⟨hstate, hkind, hnext, hlen, hses⟩ := opened_facts u f (s.updTarget 1)
    rw [harg] at hlen
    exact updOpen_opens hfree hf hc hst hho hdue htrial hpay hu ⟨reply_answered _ _ _ _, hstate, hkind, hnext, hlen, hses⟩
  · subst hok
    have hslotTaken : slotTaken 1 (s.updTarget 1) s.boot.tab ≠ s.boot.tab := by
      intro he
      have hzero := fwLen_slotTaken (s.updTarget 1) s.boot.tab
      rw [he] at hzero
      exact hlen hzero
    refine updOpen_opens hfree hf hc hst hho hdue htrial hpay (openTransfer_failed hslotTaken) ⟨done_answered _ _ _, ?_, ?_, ?_⟩
    · rw [done_get, changeTable_failed_writes s _ _ (by decide +kernel)]
      exact hst
    · rw [done_boot, changeTable_failed_tab]
    · rw [done_boot, changeTable_failed_copy]
  · refine .of_flash hfree hf hc rfl ((if_neg ?_).trans (if_pos (by rw [hst]; decide))) ⟨done_answered _ _ _, rfl, done_sameWords _ _ _⟩
    rw [foreign_of_idle f hst]
    exact Bool.false_ne_true
  · have hfor : s.foreign f = false := foreign_of_session hses
    subst hfail
    obtain ⟨hn, hread, hflash, hwords⟩ := firstFour_facts s (leBytes_length 4 x.toNat)
    exact .of_flash hfree hf hc rfl ((if_neg (by rw [hfor]; exact Bool.false_ne_true)).trans ((if_neg (not_not_intro hst)).trans
      (takeBlock_first hnext hlen her hsusp hpay))) ⟨reply_answered _ _ _ _, hn, hread, hflash, hwords⟩
  · have hbusy : (s.get F.UPD_STATUS_STATE ≠ 1 || s.get F.UPD_NEXT_NEXT ≠ s.get F.UPD_LEN_LEN) = true := by
      rw [Bool.or_eq_true, decide_eq_true_eq, decide_eq_true_eq]
      exact hst
    exact .of_command hf hc rfl ((if_neg (by rw [hfor]; exact Bool.false_ne_true)).trans (if_pos hbusy))
      ⟨done_answered _ _ _, done_sameWords _ _ _⟩
  · refine updClose_checks hf hc hfor hst hnext hsusp hpay rfl ⟨reply_answered _ _ _ _, ?_⟩
    rw [reply_get, reply_get, reply_flash]
    split
    next hone =>
      rw [hone]
      refine ⟨?_, ?_, fullCheck_flash s e.val⟩
      · exact get_set_self _ F.UPD_STATUS_STATE 2 (by decide)
      · simp (disch := decide)
    next => exact (rejectTransfer_facts _ _).imp_right fun h => ⟨h.1, h.2.trans (fullCheck_flash s e.val)⟩
  · have hsame : (s.fullCheck e.val).2 = s := fullCheck_config (by rw [hkind]; decide)
    have hsusp : (s.get F.UPD_STATUS_KIND == 1 && s.suspends 2) = false := by
      rw [hkind]
      rfl
    refine updClose_checks hf hc hfor hst hnext hsusp hpay (if_pos hcheck) ?_
    rw [hcheck, hsame]
    refine ⟨reply_answered _ _ _ _, ?_, ?_, reply_flash _ _ _ _, fun a ha => ?_⟩
    · rw [reply_get]
      simp (disch := decide)
    · rw [reply_get]
      exact get_set_self _ F.UPD_STATUS_STATE 2 (by decide)
    · have hne : a ≠ R.UPD_STATUS := List.ne_of_not_mem_cons ha
      exact (word_set_other _ F.UPD_STATUS_STATE 2 a hne).trans (word_set_other _ F.UPD_STATUS_RESULT 1 a hne)
  · subst hok
    refine updActivate_recovery hfree hf hc hfor hdue hpay ?_
    rw [if_pos rfl, done_boot, changeTable_tab, changeTable_tabOld]
    refine ⟨done_answered _ _ _, tableAhead_eq s _ (g := SlotTab.recovery) fun _ _ => rfl, rfl, fun a _ => ?_⟩
    rw [State.word, done_regs, changeTable_regs]
    rfl
  · refine updActivate_firmware hfree hf hc hfor hdue hpay hst hkind hok ?_
    obtain ⟨hstate, hactive, htrial⟩ := firmwarePending_facts (s.get F.UPD_STATUS_SLOT) (s.get F.UPD_LEN_LEN)
      (orDefault 3 (s.get F.UPD_CFG_TRIALS)) s.boot.tab
    rw [done_get, done_boot, set_boot, changeTable_tab]
    exact ⟨done_answered _ _ _, get_set_self _ F.UPD_STATUS_STATE 3 (by decide),
      (tableAhead_eq s _ (g := fun t => t.fwState (s.get F.UPD_STATUS_SLOT)) fun _ _ => rfl).trans hstate,
      (tableAhead_eq s _ (g := SlotTab.fwActive) fun _ _ => rfl).trans hactive,
      (tableAhead_eq s _ (g := SlotTab.fwTrial) fun _ _ => rfl).trans htrial⟩
  · subst hok
    refine updActivate_recovery hfree hf hc hfor hdue hpay ?_
    rw [if_neg Bool.false_ne_true, done_boot, done_get]
    exact ⟨done_answered _ _ _, changeTable_failed_tab _ _, changeTable_failed_copy _ _,
      changeTable_failed_writes _ _ _ (by decide +kernel)⟩
  · obtain ⟨hstate, hresult, hnext, hboot, hflash, hwords⟩ := endTransfer_facts s
    refine .of_flash hfree hf hc rfl ((if_pos (by rw [hpay]; rfl)).trans (if_neg hst)) ⟨done_answered _ _ _, ?_⟩
    rw [done_get, done_get, done_get, done_boot, done_flash]
    exact ⟨hstate, hresult, hnext, congrArg Boot.tab hboot, hflash, hwords⟩
  · subst hok
    obtain ⟨hempty, hactive⟩ := firmwareAborted_facts (s.get F.UPD_STATUS_SLOT) (s.get F.BOOT_STATUS_FW_SLOT) s.boot.tab
    obtain ⟨hstate, -, -, hboot, hflash, -⟩ := endTransfer_facts
      (s.changeTable true (firmwareAborted (s.get F.UPD_STATUS_SLOT) (s.get F.BOOT_STATUS_FW_SLOT)))
    refine updAbort_pending hfree hf hc hpay hst hdue ?_
    rw [if_pos rfl, slotAborted_firmware hkind, done_get, done_boot, hboot, changeTable_tab, changeTable_tabOld]
    exact ⟨done_answered _ _ _, hstate, (tableAhead_eq s _ (g := fun t => t.fwState (s.get F.UPD_STATUS_SLOT)) fun _ _ => rfl).trans hempty,
      (tableAhead_eq s _ (g := SlotTab.fwActive) fun _ _ => rfl).trans hactive, rfl,
      (changeTable_sameFlash s _).trans (.of_eq ((done_flash _ _ _).trans hflash))⟩
  · subst hok
    refine updAbort_pending hfree hf hc hpay hst hdue ?_
    rw [if_neg Bool.false_ne_true, done_boot, done_get]
    exact ⟨done_answered _ _ _, (changeTable_failed_writes _ _ _ (by decide +kernel)).trans hst, changeTable_failed_tab _ _⟩
  · have hkinds : confirmKinds (f.arg 0) = [1] := by
      rw [Frame.arg, hpay]
      rfl
    refine confirm_refused hfree hf hc ?_ ⟨done_answered _ _ _, rfl, done_sameWords _ _ _⟩
    rw [hkinds, List.all_cons, htrial, hgood]
    rfl
  · have hkinds : confirmKinds (f.arg 0) = [1] := by
      rw [Frame.arg, hpay]
      rfl
    subst hok
    refine confirm_runs hfree hf hc (by rw [hpay]; rfl) ?_ hdue ?_ ?_
    · rw [hkinds, List.all_cons, htrial]
      rfl
    · rw [hkinds, List.any_cons, hadv]
      rfl
    · have hrun : s.confirmed [1] ff fc true cok =
          (true, (s.changeTable true fun x => x.setState 1 (s.get F.BOOT_STATUS_FW_SLOT) slotGood).post 0x00 0x0304) := by
        unfold State.confirmed
        rw [confirmKind_trial htrial hadv hfails]
        rfl
      rw [hkinds, hrun, confirmReply_true]
      generalize hu : (s.changeTable true fun x => x.setState 1 (s.get F.BOOT_STATUS_FW_SLOT) slotGood) = u
      have hlog := post_logged (src := 0x00) (code := 0x0304) (.refl u)
      rw [reply_answered, reply_boot, reply_otp, hlog.boot, hlog.otp, ← hu, changeTable_tab, changeTable_otp]
      refine ⟨rfl, (tableAhead_eq s _ (g := fun t => t.fwState (s.get F.BOOT_STATUS_FW_SLOT)) fun _ _ => rfl).trans
        (fwState_setState _ _ _), rfl⟩
  · have hkinds : confirmKinds (f.arg 0) = [1, 2] := by
      rw [Frame.arg, hpay]
      rfl
    refine confirm_runs hfree hf hc (by rw [hpay]; rfl) ?_ hdue ?_ ?_
    · rw [hkinds, List.all_cons, List.all_cons, hfw, hcfg, Bool.or_true, Bool.or_true]
      rfl
    · rw [hkinds, List.any_cons, List.any_cons, advances_of_good hfw, advances_of_good hcfg]
      rfl
    · have hrun : s.confirmed [1, 2] ff fc fok cok = (true, s) := by
        unfold State.confirmed
        rw [confirmKind_good hfw]
        exact confirmKind_good hcfg fc cok
      rw [hkinds, hrun, confirmReply_true]
      exact ⟨reply_answered _ _ _ _, reply_otp _ _ _ _, reply_flash _ _ _ _, reply_sameWords _ _ _ _⟩

end Sys2Proof.Machine
end

section
/-!
The pause of live handover, and what waits for its end (R456, R593, R596).
-/
namespace Sys2Proof.Machine

/-- The fields that the island's hold and its end write. -/
def holdFields : List Fld := [F.SAF_STATUS_OPEN, F.SAF_STATUS_ISTATE, F.SAF_WDCHAL_SEQ, F.SAF_WDCHAL_CHAL, G.SAF_HOLD_USED.bit, G.SAF_HOLD_USED.cnt]

/-- All but the island's data, timers and registers stands. -/
structure HoldKept (s t : State) : Prop where
  now : t.now = s.now
  hif : t.hif = s.hif
  flt : t.flt = s.flt
  bus : t.bus = s.bus
  upd : t.upd = s.upd
  boot : t.boot = s.boot

section
variable {l : List Fld} {s₀ s : State}

theorem Writes.newChallenge (h : Writes l s₀ s) (hl : holdFields ⊆ l) : Writes l s₀ s.newChallenge := by
  unfold State.newChallenge
  extract_lets c i a
  have ha : Writes l s₀ a := h.same rfl
  exact (ha.set (hl (by simp [holdFields]))).set (hl (by simp [holdFields]))

theorem Writes.startPeriod (h : Writes l s₀ s) (hl : holdFields ⊆ l) : Writes l s₀ s.startPeriod := by
  unfold State.startPeriod
  exact (Writes.put (h.newChallenge hl) (hl (by simp [holdFields]))).disarm.arm

theorem newChallenge_holdKept (s : State) : HoldKept s s.newChallenge := by
  unfold State.newChallenge
  constructor <;> simp
end

theorem safHold_facts (s : State) : Writes holdFields s (outState (execSafHold s) s) ∧ HoldKept s (outState (execSafHold s) s) := by
  unfold execSafHold
  split
  · have hw : Writes holdFields s ((s.disarm .wdPeriod).disarm .wdClosed).newChallenge :=
      (Writes.refl s).disarm.disarm.newChallenge fun _ hf => hf
    have hk := newChallenge_holdKept ((s.disarm .wdPeriod).disarm .wdClosed)
    generalize ((s.disarm .wdPeriod).disarm .wdClosed).newChallenge = t at *
    refine ⟨(Writes.set (hw.put (by simp [holdFields])) (by simp [holdFields])).arm, ?_⟩
    constructor
    · exact hk.now
    · exact hk.hif
    · exact hk.flt
    · exact hk.bus
    · exact hk.upd
    · exact hk.boot
  · exact ⟨.refl s, rfl, rfl, rfl, rfl, rfl, rfl⟩

/-- The first answer after a hold, where the island holds. -/
def State.answeredInHold (s : State) : State := if s.get F.SAF_STATUS_ISTATE = 3 then outState (execWatchdogAnswer s.rightAnswer s) s else s

theorem answeredInHold_facts (s : State) : Writes holdFields s s.answeredInHold ∧ HoldKept s s.answeredInHold := by
  have hsame : Writes holdFields s s ∧ HoldKept s s := ⟨.refl s, rfl, rfl, rfl, rfl, rfl, rfl⟩
  by_cases h : s.get F.SAF_STATUS_ISTATE = 3
  · have hout : outState (execWatchdogAnswer s.rightAnswer s) s = if s.wdFault s.rightAnswer = 0 then
        ((s.disarm .holdTimer).set F.SAF_STATUS_ISTATE 2).startPeriod.flag G.SAF_HOLD_USED else s := by
      unfold execWatchdogAnswer
      rw [if_pos h]
      rfl
    rw [State.answeredInHold, if_pos h, hout]
    split
    · have hw : Writes holdFields s ((s.disarm .holdTimer).set F.SAF_STATUS_ISTATE 2).startPeriod :=
        ((Writes.refl s).disarm.set (by simp [holdFields])).startPeriod fun _ hf => hf
      refine ⟨hw.flag (by simp [holdFields]) (by simp [holdFields]), ?_⟩
      unfold State.startPeriod
      have hk := newChallenge_holdKept ((s.disarm .holdTimer).set F.SAF_STATUS_ISTATE 2)
      generalize ((s.disarm .holdTimer).set F.SAF_STATUS_ISTATE 2).newChallenge = t at *
      constructor
      · exact hk.now
      · exact hk.hif
      · exact hk.flt
      · exact hk.bus
      · exact hk.upd
      · exact hk.boot
    · exact hsame
  · rw [State.answeredInHold, if_neg h]
    exact hsame

/-! The pause begun -/

theorem beginPause_facts (s : State) (dir from' to' : Nat) : (s.beginPause dir from' to').has F.SYS_STATE_HANDOVER = true ∧
    (s.beginPause dir from' to').get F.UPD_HO_PHASE = 1 ∧ (s.beginPause dir from' to').upd.paused = true ∧
    (s.beginPause dir from' to').upd.step = 3 ∧ (s.beginPause dir from' to').upd.fromSlot = from' ∧
    (s.beginPause dir from' to').upd.toSlot = to' ∧ (s.beginPause dir from' to').upd.dir = dir ∧
    (s.beginPause dir from' to').hif = s.hif := by
  obtain ⟨hw, hk⟩ := safHold_facts (s.put F.SYS_STATE_HANDOVER true)
  unfold State.beginPause
  extract_lets a b
  have hb : Writes [F.UPD_HO_PHASE] (outState (execSafHold (s.put F.SYS_STATE_HANDOVER true)) (s.put F.SYS_STATE_HANDOVER true)) b :=
    (Writes.refl _).set (by simp)
  have hhif : b.hif = s.hif := hk.hif
  have hphase : b.get F.UPD_HO_PHASE = 1 := get_set_self _ F.UPD_HO_PHASE 1 (by decide)
  have hho : b.has F.SYS_STATE_HANDOVER = true := by
    rw [hb.has _ (by decide), hw.has _ (by decide)]
    exact has_put_self _ _ _ (by decide) (by decide)
  clear_value b
  exact ⟨hho, hphase, rfl, rfl, rfl, rfl, rfl, hhif⟩

/-! The pause ended -/

/-- The pause's end after the island's answer. -/
def State.pauseEnded (s : State) : State :=
  let back := s.upd.badSlot.isSome
  let s := s.put F.SYS_STATE_HANDOVER false
  let s := (s.set F.UPD_HO_PAUSE (min 0xFFFF ((s.now - s.upd.pauseAt) / 1000))).set F.UPD_HO_PHASE (if back then 4 else 2)
  { s with upd := { s.upd with paused := false, step := if back then 9 else 6 } }

theorem endPause_eq (s : State) : s.endPause = s.answeredInHold.pauseEnded := rfl

/-- The fields that the pause's end writes. -/
def pauseFields : List Fld := F.SYS_STATE_HANDOVER :: F.UPD_HO_PAUSE :: F.UPD_HO_PHASE :: holdFields

theorem pauseEnded_facts (s : State) : s.pauseEnded.upd.paused = false ∧ s.pauseEnded.upd.step = (if s.upd.badSlot.isSome then 9 else 6) ∧
    s.pauseEnded.has F.SYS_STATE_HANDOVER = false ∧ s.pauseEnded.get F.UPD_HO_PHASE = (if s.upd.badSlot.isSome then 4 else 2) ∧
    s.pauseEnded.get F.UPD_HO_PAUSE = min 0xFFFF ((s.now - s.upd.pauseAt) / 1000) ∧ s.pauseEnded.flt = s.flt ∧ s.pauseEnded.bus = s.bus ∧
    s.pauseEnded.hif = s.hif ∧ Writes pauseFields s s.pauseEnded := by
  unfold State.pauseEnded
  extract_lets back a b
  have ha : (a.now - a.upd.pauseAt) / 1000 = (s.now - s.upd.pauseAt) / 1000 := by rw [put_now, put_upd]
  have hmin : min 0xFFFF ((a.now - a.upd.pauseAt) / 1000) < 2 ^ 16 := by omega
  rw [← ha]
  generalize hn : min 0xFFFF ((a.now - a.upd.pauseAt) / 1000) = n at *
  have hb : b = (a.set F.UPD_HO_PAUSE n).set F.UPD_HO_PHASE (if back then 4 else 2) := by rw [← hn]
  clear_value b
  subst hb
  have hwrites : Writes pauseFields s ((a.set F.UPD_HO_PAUSE n).set F.UPD_HO_PHASE (if back then 4 else 2)) := Writes.set (Writes.set (Writes.put (.refl s) (by simp [pauseFields])) (by simp [pauseFields]))
    (by simp [pauseFields])
  refine ⟨rfl, rfl, ?_, ?_, ?_, rfl, rfl, rfl, hwrites.same rfl⟩
  · have hho : Writes [F.UPD_HO_PHASE, F.UPD_HO_PAUSE] a ((a.set F.UPD_HO_PAUSE n).set F.UPD_HO_PHASE (if back then 4 else 2)) :=
      Writes.set (Writes.set (.refl _) (by simp)) (by simp)
    refine (hho.has _ (by decide)).trans ?_
    exact has_put_self _ _ _ (by decide) (by decide)
  · refine (get_set_self _ F.UPD_HO_PHASE _ (by decide)).trans ?_
    show (if s.upd.badSlot.isSome = true then 4 else 2) % 2 ^ F.UPD_HO_PHASE.width = _
    cases s.upd.badSlot.isSome <;> rfl
  · have hpause : Writes [F.UPD_HO_PHASE] (a.set F.UPD_HO_PAUSE n) ((a.set F.UPD_HO_PAUSE n).set F.UPD_HO_PHASE (if back then 4 else 2)) :=
      (Writes.refl _).set (by simp)
    refine (hpause _ (by decide)).trans ((get_set_self _ F.UPD_HO_PAUSE _ (by decide)).trans ?_)
    have hwidth : F.UPD_HO_PAUSE.width = 16 := rfl
    rw [hwidth]
    exact Nat.mod_eq_of_lt hmin

end Sys2Proof.Machine
end

section
/-!
Live handover (R593–R598): its commands, the ROM's check, adoption, digests, hand-back and the reload of the engines.
-/
namespace Sys2Proof.Machine

theorem Writes.isAny {l : List Fld} {s t : State} (h : Writes l s t) (hg : Fld.outside F.SYS_STATE_STATE l = true) (ds : List DevState) :
    t.isAny ds = s.isAny ds := congrArg (ds.any ·) (funext (h.isIn hg))

section
variable {s : State}

theorem pump_idle (h : s.hif.exec = []) : s.pump = s := by
  unfold State.pump
  rw [h]

/-- T9 of a fatal fault in the pause, where one waited. -/
def State.deferredWinter (s : State) : State :=
  match s.flt.deferT9 with
  | none => s
  | some _ => ({ s with flt := { s.flt with deferT9 := none } }.transition .winter 9).abandonHandover

/-- T6 of a request in the pause, where one waited. -/
def State.deferredAutumn (s : State) : State :=
  match s.bus.autumnDue with
  | none => s
  | some c => { s with bus := { s.bus with autumnDue := none } }.requestAutumn c

theorem afterPause_eq (s : State) : s.afterPause = s.deferredWinter.deferredAutumn.pump := rfl

theorem deferredWinter_none (h : s.flt.deferT9 = none) : s.deferredWinter = s := by
  unfold State.deferredWinter
  rw [h]

theorem deferredAutumn_none (h : s.bus.autumnDue = none) : s.deferredAutumn = s := by
  unfold State.deferredAutumn
  rw [h]

/-- Nothing waited for the end of the pause. -/
theorem afterPause_idle (h9 : s.flt.deferT9 = none) (h6 : s.bus.autumnDue = none) (hx : s.hif.exec = []) : s.afterPause = s := by
  rw [afterPause_eq, deferredWinter_none h9, deferredAutumn_none h6, pump_idle hx]

theorem deferredWinter_facts (hw : s.isIn .winter = true) : s.deferredWinter.isIn .winter = true ∧
    Writes (winterNoteFields ++ transitionFields) s s.deferredWinter ∧ Beside s s.deferredWinter := by
  have hlog : winterNoteFields ++ logFields ⊆ winterNoteFields ++ transitionFields := by decide +kernel
  unfold State.deferredWinter
  split
  · exact ⟨hw, .refl s, .refl s⟩
  · obtain ⟨hin, -⟩ := transition_entered (s := { s with flt := { s.flt with deferT9 := none } }) (d := .winter) (n := 9) (by decide)
      (abandonHandover_stands (.refl _))
    have htrans : Writes (winterNoteFields ++ transitionFields) s ({ s with flt := { s.flt with deferT9 := none } }.transition .winter 9) :=
      Writes.transition (Writes.same (.refl s) rfl) (List.subset_append_right _ _)
    have hbeside : Beside s ({ s with flt := { s.flt with deferT9 := none } }.transition .winter 9) := (Beside.refl s).rest.transition
    exact ⟨hin, htrans.abandonHandover hlog, hbeside.abandonHandover⟩

theorem requestAutumn_idle {cause : Nat} (h : s.isAny [.spring, .summer] = false) : s.requestAutumn cause = s :=
  if_neg (by rw [h]; exact Bool.false_ne_true)

/-- An Autumn request does nothing in Winter. -/
theorem deferredAutumn_winter (hw : s.isIn .winter = true) : s.deferredAutumn.regs = s.regs ∧ s.deferredAutumn.hif = s.hif ∧
    s.deferredAutumn.upd = s.upd := by
  have hno : s.isAny [.spring, .summer] = false := isAny_disjoint (l := [.winter]) (by simpa [State.isAny] using hw) (by decide)
  unfold State.deferredAutumn
  split
  · exact ⟨rfl, rfl, rfl⟩
  · rw [requestAutumn_idle]
    · exact ⟨rfl, rfl, rfl⟩
    · exact hno

theorem afterPause_winter (hw : s.isIn .winter = true) (hx : s.hif.exec = []) : s.afterPause.isIn .winter = true ∧
    Writes (winterNoteFields ++ transitionFields) s s.afterPause ∧ s.afterPause.upd.paused = s.upd.paused := by
  obtain ⟨hin, hwrites, hbeside⟩ := deferredWinter_facts hw
  obtain ⟨hregs, hhif, hupd⟩ := deferredAutumn_winter hin
  rw [afterPause_eq, pump_idle (by rw [hhif, hbeside.exec, hx])]
  refine ⟨?_, hwrites.same hregs, by rw [hupd, hbeside.paused]⟩
  rw [isIn_iff] at hin ⊢
  exact ((Writes.same (.refl _) hregs : Writes [] s.deferredWinter s.deferredWinter.deferredAutumn) F.SYS_STATE_STATE (by decide)).trans hin

end

/-! The ROM's check -/

theorem storeCode_regs (s : State) (a : Nat) (bs : List Byte) : (s.storeCode a bs).regs = s.regs := rfl
theorem storeCode_upd (s : State) (a : Nat) (bs : List Byte) : (s.storeCode a bs).upd = s.upd := rfl

theorem loadSection0_regs (s : State) (base : Nat) : (s.loadSection0 base).regs = s.regs := storeCode_regs s _ _

theorem startSupervisor_facts (s : State) (slot : Nat) : (s.startSupervisor slot).regs = s.regs ∧
    ∃ n, (n = 4 ∨ n = 5) ∧ (s.startSupervisor slot).upd = { s.upd with step := n } := by
  unfold State.startSupervisor
  extract_lets hdr b t ok
  obtain ⟨hregs, hupd⟩ : t.regs = s.regs ∧ t.upd = s.upd := ⟨storeCode_regs _ _ _, storeCode_upd _ _ _⟩
  clear_value t ok
  cases ok
  · exact ⟨hregs, 4, .inl rfl, congrArg (fun u : Upd => { u with step := 4 }) hupd⟩
  · exact ⟨(loadSection0_regs t (fwBase slot)).trans hregs, 5, .inr rfl, congrArg (fun u : Upd => { u with step := 5 }) hupd⟩

theorem setFwCode_sameWords (s : State) (slot code : Nat) : SameWords [R.BOOT_STATUS] s (s.setFwCode slot code) := fun a ha => by
  unfold State.setFwCode
  split
  · exact word_set_other _ _ _ _ (List.ne_of_not_mem_cons ha)
  · exact word_set_other _ _ _ _ (List.ne_of_not_mem_cons ha)

theorem setFwCode_upd (s : State) (slot code : Nat) : (s.setFwCode slot code).upd = s.upd := by
  unfold State.setFwCode
  split
  · rfl
  · rfl

theorem setFwCode_boot (s : State) (slot code : Nat) : (s.setFwCode slot code).boot = s.boot := by
  unfold State.setFwCode
  split
  · rfl
  · rfl

theorem setFwCode_get (s : State) (slot code : Nat) :
    (s.setFwCode slot code).get (if slot = 0 then F.BOOT_STATUS_FW_A else F.BOOT_STATUS_FW_B) = code % 2 ^ 4 := by
  unfold State.setFwCode
  split
  · exact get_set_self s F.BOOT_STATUS_FW_A code (by decide)
  · exact get_set_self s F.BOOT_STATUS_FW_B code (by decide)

/-- What the ROM finds of a slot. -/
def State.slotVerdict (s : State) (n err : Nat) : Nat := s.fwChecks (fwBase n) (s.boot.tab.fwLen n) err

/-- The state once the new slot has passed the ROM's check. -/
def State.newVerified (s : State) (code : Nat) : State :=
  let t := s.setFwCode s.upd.toSlot code
  { t with upd := { t.upd with badSlot := if s.upd.dir = 1 then some s.upd.fromSlot else none,
                               codeTo := if s.upd.dir = 1 then s.upd.codeTo else 1 } }

/-- The state once the new slot has failed the ROM's check, with what it finds of the old one. -/
def State.newRejected (s : State) (codeTo codeFrom : Nat) : State :=
  { (s.setFwCode s.upd.toSlot codeTo).setFwCode s.upd.fromSlot codeFrom with
    upd := { s.upd with badSlot := some s.upd.toSlot, codeTo := codeTo, step := 4 } }

/-- The ROM's check with what it finds of the two slots. -/
def State.romVerified (s : State) (codeTo codeFrom : Nat) : State :=
  if codeTo = 1 then (s.newVerified codeTo).startSupervisor s.upd.toSlot
  else if codeFrom = 1 then (s.newRejected codeTo codeFrom).startSupervisor s.upd.fromSlot else s.newRejected codeTo codeFrom

theorem execHandoverRomVerify_eq (s : State) (errTo errFrom : Fin 3) : execHandoverRomVerify errTo errFrom s =
    if (s.upd.paused && s.upd.step == 3) = true then
      .next (s.romVerified (s.slotVerdict s.upd.toSlot errTo.val) (s.slotVerdict s.upd.fromSlot errFrom.val))
    else .next s := by
  unfold execHandoverRomVerify State.romVerified State.slotVerdict
  extract_lets check u cTo
  split
  · by_cases h : cTo = 1
    · exact (if_pos h).trans (congrArg Host.Outcome.next (if_pos h).symm)
    · exact (if_neg h).trans (congrArg Host.Outcome.next (if_neg h).symm)
  · rfl

/-- The ROM's check: a verified slot starts its supervisor; a rejected one is named. -/
theorem romVerified_facts {s : State} (hp : s.upd.paused = true) (codeTo codeFrom : Nat) : (s.romVerified codeTo codeFrom).upd.paused = true ∧
    (codeTo = 1 → ((s.romVerified codeTo codeFrom).upd.step = 4 ∨ (s.romVerified codeTo codeFrom).upd.step = 5) ∧
      (s.romVerified codeTo codeFrom).upd.badSlot = if s.upd.dir = 1 then some s.upd.fromSlot else none) ∧
    (codeTo ≠ 1 → (s.romVerified codeTo codeFrom).upd.badSlot = some s.upd.toSlot) ∧
    (codeTo ≠ 1 → codeFrom ≠ 1 → (s.romVerified codeTo codeFrom).upd.step = 4) ∧ SameWords [R.BOOT_STATUS] s (s.romVerified codeTo codeFrom) := by
  have hsame : ∀ {t u : State}, SameWords [R.BOOT_STATUS] s t → u.regs = t.regs → SameWords [R.BOOT_STATUS] s u := fun h hr a ha => by
    rw [State.word, hr]
    exact h a ha
  have hnew : SameWords [R.BOOT_STATUS] s (s.newVerified codeTo) := setFwCode_sameWords s s.upd.toSlot codeTo
  have hrej : SameWords [R.BOOT_STATUS] s (s.newRejected codeTo codeFrom) := fun a ha =>
    (setFwCode_sameWords (s.setFwCode s.upd.toSlot codeTo) s.upd.fromSlot codeFrom a ha).trans (setFwCode_sameWords s s.upd.toSlot codeTo a ha)
  have hupd : (s.newVerified codeTo).upd.paused = true ∧ (s.newVerified codeTo).upd.badSlot = if s.upd.dir = 1 then some s.upd.fromSlot else none :=
    ⟨(congrArg Upd.paused (setFwCode_upd s s.upd.toSlot codeTo)).trans hp, rfl⟩
  obtain ⟨hpaused, hbad⟩ : (s.newRejected codeTo codeFrom).upd.paused = true ∧ (s.newRejected codeTo codeFrom).upd.badSlot = some s.upd.toSlot :=
    ⟨hp, rfl⟩
  have hstep : (s.newRejected codeTo codeFrom).upd.step = 4 := rfl
  unfold State.romVerified
  split
  next hone =>
    obtain ⟨hregs, n, hn, hu⟩ := startSupervisor_facts (s.newVerified codeTo) s.upd.toSlot
    rw [hu]
    exact ⟨hupd.1, fun _ => ⟨hn, hupd.2⟩, fun hne => absurd hone hne, fun hne => absurd hone hne, hsame hnew hregs⟩
  next hne =>
    split
    next hold =>
      obtain ⟨hregs, n, hn, hu⟩ := startSupervisor_facts (s.newRejected codeTo codeFrom) s.upd.fromSlot
      rw [hu]
      exact ⟨hpaused, fun h => absurd h hne, fun _ => hbad, fun _ hno => absurd hold hno, hsame hrej hregs⟩
    next => exact ⟨hpaused, fun h => absurd h hne, fun _ => hbad, fun _ _ => hstep, hrej⟩

/-! The slot table and the running firmware -/

/-- Either outcome of a table change, outside the memories. -/
theorem changeTable_either (s : State) (ok : Bool) (act : SlotTab → SlotTab) : Writes containedFields s (s.changeTable ok act) ∧
    (s.changeTable ok act).upd.codeTo = s.upd.codeTo ∧ (s.changeTable ok act).upd.held = s.upd.held ∧
    ∀ e, e = 0 ∨ 9 ≤ e → s.engine e = true → (s.changeTable ok act).engine e = true := by
  cases ok with
  | true =>
    refine ⟨Writes.same (.refl s) (changeTable_regs s act), by rw [changeTable_upd], by rw [changeTable_upd], fun e _ he => ?_⟩
    have hrun : (s.changeTable true act).boot.engRun = s.boot.engRun := by rw [changeTable_done]
    rw [State.engine, hrun]
    exact he
  | false =>
    have hbeside := raise_contained_beside (s := s.tableSpoilt act) (code := 0xAA09) rfl (by decide)
    refine ⟨changeTable_failed_writes s act, ?_, ?_, fun e hn he => ?_⟩
    · rw [changeTable_failed]
      exact hbeside.upd_eq (g := Upd.codeTo) fun _ => rfl
    · rw [changeTable_failed]
      exact hbeside.upd_eq (g := Upd.held) fun _ => rfl
    · rw [changeTable_failed]
      exact hbeside.others e hn he

/-- The fields that naming the running firmware writes. -/
def firmwareFields : List Fld := [F.BOOT_STATUS_FW_SLOT, F.BOOT_FWID_BUILD_ID, F.BOOT_VERS_FW_IFACE, F.BOOT_VERS_FW_SVN]

theorem showFirmware_facts (s : State) (slot : Nat) : (s.showFirmware slot).get F.BOOT_STATUS_FW_SLOT = slot % 2 ∧
    Writes firmwareFields s (s.showFirmware slot) ∧ (s.showFirmware slot).boot = s.boot ∧ (s.showFirmware slot).upd = s.upd := by
  have hslot : Writes firmwareFields s (s.set F.BOOT_STATUS_FW_SLOT slot) := (Writes.refl s).set (by simp [firmwareFields])
  have hget : (s.set F.BOOT_STATUS_FW_SLOT slot).get F.BOOT_STATUS_FW_SLOT = slot % 2 := get_set_self s F.BOOT_STATUS_FW_SLOT slot (by decide)
  unfold State.showFirmware
  extract_lets h a
  have hb : Writes [F.BOOT_FWID_BUILD_ID] (s.set F.BOOT_STATUS_FW_SLOT slot) a := (Writes.refl _).set (by simp)
  clear_value h
  have hc : Writes [F.BOOT_VERS_FW_IFACE, F.BOOT_VERS_FW_SVN] a ((a.set F.BOOT_VERS_FW_IFACE (leAt h 0x0E 2)).set F.BOOT_VERS_FW_SVN (leAt h 0x0C 1)) :=
    Writes.set (Writes.set (.refl a) (by simp)) (by simp)
  refine ⟨?_, hslot.trans ((hb.mono (by decide)).trans (hc.mono (by decide))), ?_, ?_⟩
  · rw [hc _ (by decide), hb _ (by decide), hget]
  · rw [set_boot, set_boot, set_boot, set_boot]
  · rw [set_upd, set_upd, set_upd, set_upd]

/-- Nothing of the handover follows. -/
def State.handoverOver (s : State) : State := { s with upd := { s.upd with step := 0 } }

theorem handoverOver_get (s : State) (f : Fld) : s.handoverOver.get f = s.get f := rfl
theorem handoverOver_boot (s : State) : s.handoverOver.boot = s.boot := rfl
theorem handoverOver_upd (s : State) : s.handoverOver.upd = { s.upd with step := 0 } := rfl

/-- Nothing of the hand-back follows. -/
def State.handbackOver (s : State) : State := { s with upd := { s.upd with step := 0, badSlot := none } }

theorem handbackOver_get (s : State) (f : Fld) : s.handbackOver.get f = s.get f := rfl
theorem handbackOver_boot (s : State) : s.handbackOver.boot = s.boot := rfl
theorem handbackOver_upd (s : State) : s.handbackOver.upd = { s.upd with step := 0, badSlot := none } := rfl

/-! The hand-back -/

/-- The fields that the hand-back's end writes. -/
def handbackFields : List Fld := G.UPD_HANDBACK.bit :: G.UPD_HANDBACK.cnt :: G.UPD_REJECTED.bit :: G.UPD_REJECTED.cnt :: containedFields

theorem handbackEnd_facts (s : State) : Writes handbackFields s (((s.flag G.UPD_HANDBACK).raise 0xAA02).postRejected) ∧
    (((s.flag G.UPD_HANDBACK).raise 0xAA02).postRejected).has G.UPD_HANDBACK.bit = true ∧
    (((s.flag G.UPD_HANDBACK).raise 0xAA02).postRejected).has G.UPD_REJECTED.bit = true ∧
    (s.upd.step = 0 → (((s.flag G.UPD_HANDBACK).raise 0xAA02).postRejected).upd.step = 0) ∧
    (((s.flag G.UPD_HANDBACK).raise 0xAA02).postRejected).upd.badSlot = s.upd.badSlot ∧
    (((s.flag G.UPD_HANDBACK).raise 0xAA02).postRejected).boot.tab = s.boot.tab := by
  have hflag : Writes handbackFields s (s.flag G.UPD_HANDBACK) := (Writes.refl s).flag (by simp [handbackFields]) (by simp [handbackFields])
  have hbit : (s.flag G.UPD_HANDBACK).has G.UPD_HANDBACK.bit = true := has_flag_self _ _ (by decide) (by decide) (by decide)
  have hbegun : Beside s (s.flag G.UPD_HANDBACK) := (Beside.refl s).flag
  generalize s.flag G.UPD_HANDBACK = t at *
  have hraise : Writes containedFields t (t.raise 0xAA02) := raise_contained_writes rfl (by decide)
  have hbeside := hbegun.trans (raise_contained_beside (s := t) (code := 0xAA02) rfl (by decide))
  generalize t.raise 0xAA02 = u at *
  have hlog := post_logged (src := 0x00) (code := 0x0301) (.refl u)
  have hend : Writes (G.UPD_REJECTED.bit :: G.UPD_REJECTED.cnt :: logFields) u u.postRejected :=
    ((Writes.refl u).post fun f hf => by simp [hf]).flag (by simp) (by simp)
  refine ⟨(hflag.trans (hraise.mono fun f hf => by simp [handbackFields, hf])).trans (hend.mono ?_), ?_,
    has_flag_self _ _ (by decide) (by decide) (by decide), fun h0 => ?_, ?_, ?_⟩
  · decide +kernel
  · rw [hend.has _ (by decide), hraise.has _ (by decide +kernel), hbit]
  · exact (congrArg Upd.step hlog.upd).trans (hbeside.idle h0)
  · exact (congrArg Upd.badSlot hlog.upd).trans (hbeside.upd_eq (g := Upd.badSlot) fun _ => rfl)
  · exact (congrArg Boot.tab hlog.boot).trans (hbeside.boot_eq (g := Boot.tab) fun _ => rfl)

/-- The table change that marks a rejected slot. -/
def slotRejected (bad : Nat) (t : SlotTab) : SlotTab := { t.setFw bad slotBad with fwActive := 1 - bad }

/-- The state handed back, before its flag and fault. -/
def State.handedBack (s : State) (bad : Nat) (ok : Bool) : State :=
  let t := s.changeTable ok (slotRejected bad)
  ((t.setFwCode bad t.upd.codeTo).showFirmware (1 - bad)).handbackOver

theorem handedBack_facts (s : State) (bad : Nat) (ok : Bool) : (s.handedBack bad ok).get F.BOOT_STATUS_FW_SLOT = (1 - bad) % 2 ∧
    (s.handedBack bad ok).get (if bad = 0 then F.BOOT_STATUS_FW_A else F.BOOT_STATUS_FW_B) = s.upd.codeTo % 2 ^ 4 ∧
    (s.handedBack bad ok).upd.step = 0 ∧ (s.handedBack bad ok).upd.badSlot = none ∧
    (s.handedBack bad ok).boot = (s.changeTable ok (slotRejected bad)).boot := by
  obtain ⟨-, hcode, -, -⟩ := changeTable_either s ok (slotRejected bad)
  unfold State.handedBack
  generalize s.changeTable ok (slotRejected bad) = t at *
  obtain ⟨hslot, hshow, hboot, -⟩ := showFirmware_facts (t.setFwCode bad t.upd.codeTo) (1 - bad)
  have hfw : (t.setFwCode bad t.upd.codeTo).get (if bad = 0 then F.BOOT_STATUS_FW_A else F.BOOT_STATUS_FW_B) = s.upd.codeTo % 2 ^ 4 := by
    rw [setFwCode_get, hcode]
  have hbank : (t.setFwCode bad t.upd.codeTo).boot = t.boot := setFwCode_boot t bad _
  show State.get (State.handbackOver _) _ = _ ∧ State.get (State.handbackOver _) _ = _ ∧ (State.handbackOver _).upd.step = 0 ∧
    (State.handbackOver _).upd.badSlot = none ∧ (State.handbackOver _).boot = _
  generalize t.setFwCode bad t.upd.codeTo = u at *
  rw [handbackOver_get, handbackOver_get, handbackOver_upd, handbackOver_boot]
  exact ⟨hslot, (hshow _ (by split <;> decide)).trans hfw, rfl, rfl, hboot.trans hbank⟩

theorem exec_handback {s : State} {bad : Nat} {ok : Bool} (hfree : s.flashFree = true) (hbad : s.upd.badSlot = some bad) (hs : s.upd.step = 9)
    (hp : s.upd.paused = false) : exec (.handback ok) s = .next ((((s.handedBack bad ok).flag G.UPD_HANDBACK).raise 0xAA02).postRejected) := by
  have hrun : (s.upd.step == 9 && !s.upd.paused && s.flashFree) = true := by
    rw [hs, hp, hfree]
    rfl
  have hexec : exec (.handback ok) s = match s.upd.badSlot with
      | none => .next s
      | some bad => if (s.upd.step == 9 && !s.upd.paused && s.flashFree) = true then
          .next ((((s.handedBack bad ok).flag G.UPD_HANDBACK).raise 0xAA02).postRejected) else .next s := rfl
  rw [hexec, hbad]
  exact if_pos hrun

theorem slotRejected_facts (bad : Nat) (t : SlotTab) : (slotRejected bad t).fwState bad = slotBad ∧ (slotRejected bad t).fwActive = 1 - bad := by
  unfold slotRejected SlotTab.setFw SlotTab.fwState
  by_cases h : bad = 0
  · simp [h]
  · simp [h]

/-! The reload of engines -/

theorem loadEngine_eq (s : State) (base e : Nat) : ∃ m, s.loadEngine base e = { s with engMem := m } := ⟨_, rfl⟩

/-- An engine that is no port engine, nor the codec's, released. -/
def State.released (s : State) (e : Nat) : State :=
  { s with boot := { s.boot with engRun := s.boot.engRun ||| 2 ^ e }, upd := { s.upd with held := none } }

theorem releaseEngine_plain {e : Nat} (h : enginePort? e = none) (h14 : e ≠ 14) (s : State) : s.releaseEngine e = s.released e := by
  unfold State.releaseEngine
  rw [h]
  have hfalse : (e == 14) = false := beq_eq_false_iff_ne.mpr h14
  simp only [hfalse]
  rfl

theorem released_engine (s : State) (e : Nat) : (s.released e).engine e = true := by
  rw [State.engine, State.released, Nat.testBit_or, Nat.testBit_two_pow_self, Bool.or_true]

theorem holdPortEngine_facts (s : State) (k : PortId) : Writes [F.PD_STATUS_PE k, F.ATT_STATUS_RP k] s (s.holdPortEngine k) ∧
    (s.holdPortEngine k).boot = s.boot ∧ (s.holdPortEngine k).upd = s.upd := by
  unfold State.holdPortEngine
  extract_lets pe a b c
  have ha : Writes [F.PD_STATUS_PE k, F.ATT_STATUS_RP k] s a ∧ a.boot = s.boot ∧ a.upd = s.upd :=
    ⟨Writes.modPd ((Writes.refl s).set (by simp)), rfl, rfl⟩
  have hb : Writes [F.PD_STATUS_PE k, F.ATT_STATUS_RP k] s b ∧ b.boot = s.boot ∧ b.upd = s.upd := by
    refine ⟨.ite (ha.1.set (by simp)) ha.1, ?_, ?_⟩
    · exact (apply_ite State.boot _ _ _).trans ((ite_self a.boot).trans ha.2.1)
    · exact (apply_ite State.upd _ _ _).trans ((ite_self a.upd).trans ha.2.2)
  have hc : Writes [F.PD_STATUS_PE k, F.ATT_STATUS_RP k] s c ∧ c.boot = s.boot ∧ c.upd = s.upd :=
    ⟨hb.1.same rfl, hb.2.1, hb.2.2⟩
  clear_value c
  split
  · exact ⟨hc.1.same rfl, hc.2.1, hc.2.2⟩
  · exact hc

theorem holdEngine_facts (s : State) {e : Nat} (h : e < 14) (ok : Bool) : (s.holdEngine e ok).upd.held = some e ∧
    (s.holdEngine e ok).get F.UPD_HO_ENGINE = e ∧ (s.holdEngine e ok).boot.engRun = s.boot.engRun &&& (2 ^ 16 - 1 - 2 ^ e) := by
  have h14 : e ≠ 14 := by omega
  have hget : ∀ t : State, (t.set F.UPD_HO_ENGINE e).get F.UPD_HO_ENGINE = e := fun t =>
    (get_set_self t F.UPD_HO_ENGINE e (by decide)).trans (Nat.mod_eq_of_lt (show e < 16 by omega))
  unfold State.holdEngine
  rw [if_neg h14]
  extract_lets a b u v t
  have ht : t.get F.UPD_HO_ENGINE = e := hget _
  split
  next k _ =>
    obtain ⟨hwrites, hboot, hupd⟩ := holdPortEngine_facts t k
    rw [hboot, hupd, hwrites _ (by clear * -; decide +revert)]
    exact ⟨rfl, ht, rfl⟩
  next => exact ⟨rfl, ht, rfl⟩

/-- Step 8 follows the last release. -/
def State.afterReload (s : State) (tableOk : Bool) : State :=
  if s.upd.step == 7 && s.upd.left.isEmpty && s.upd.passed.isEmpty then s.handoverDone tableOk else s

theorem exec_engineReload_held {s : State} {ok tok : Bool} {e : Nat} (hfree : s.flashFree = true) (hheld : s.upd.held = some e) :
    exec (.engineReload ok tok) s = if (ok && s.sectionOk (fwBase s.upd.toSlot) s.boot.fwHdr e) = true then
        .next ((((s.loadEngine (fwBase s.upd.toSlot) e).releaseEngine e).pump).afterReload tok)
      else .next (((s.releaseEngine e).raise 0xEA06).pump) := by
  refine Eq.trans (if_neg (by rw [hfree]; exact Bool.false_ne_true)) ?_
  rw [hheld]
  rfl

theorem exec_engineReload_next {s : State} {ok tok : Bool} {r : Nat × List Nat × List Nat} (hfree : s.flashFree = true)
    (hheld : s.upd.held = none) (hs : s.upd.step = 7) (hp : s.upd.paused = false) (hr : s.nextReload s.upd.left s.upd.passed = some r) :
    exec (.engineReload ok tok) s = .next ({ s with upd := { s.upd with left := r.2.1, passed := r.2.2 } }.holdEngine r.1 ok) := by
  refine Eq.trans (if_neg (by rw [hfree]; exact Bool.false_ne_true)) ?_
  rw [hheld]
  refine (if_pos (by rw [hs, hp]; rfl)).trans ?_
  rw [hr]

theorem other_of_enginePort {e : Nat} (h : enginePort? e = none) : e = 0 ∨ 9 ≤ e := by
  unfold enginePort? sourcePort? at h
  by_contra hne
  rw [if_neg (by omega), dif_pos (by omega)] at h
  cases h

/-- The table change that takes the new slot on trial. -/
def slotOnTrial (n : Nat) (t : SlotTab) : SlotTab := { t.setFw n slotTrial with fwActive := n }

theorem slotOnTrial_facts (n : Nat) (t : SlotTab) : (slotOnTrial n t).fwState n = slotTrial ∧ (slotOnTrial n t).fwActive = n := by
  unfold slotOnTrial SlotTab.setFw SlotTab.fwState
  by_cases h : n = 0
  · simp [h]
  · simp [h]

/-- The new firmware named, and the handover over. -/
def State.firmwareTaken (s : State) (n : Nat) (ok : Bool) : State :=
  (((s.showFirmware n).set F.UPD_HO_ENGINE 0).set F.UPD_HO_PHASE (if ok then 5 else 6)).handoverOver

theorem handoverDone_eq (s : State) (ok : Bool) : s.handoverDone ok =
    ((s.changeTable ok (slotOnTrial s.upd.toSlot)).firmwareTaken s.upd.toSlot ok).when ok fun t => t.post 0x00 0x0302 := by
  have hact : slotOnTrial s.upd.toSlot = fun t => { t.setFw s.upd.toSlot slotTrial with fwActive := s.upd.toSlot } := rfl
  rw [hact]
  rfl

theorem firmwareTaken_facts (s : State) {n : Nat} (ok : Bool) (hn : n < 2) : (s.firmwareTaken n ok).upd.held = s.upd.held ∧
    (s.firmwareTaken n ok).boot = s.boot ∧ (s.firmwareTaken n ok).upd.step = 0 ∧
    (s.firmwareTaken n ok).get F.UPD_HO_PHASE = (if ok then 5 else 6) ∧ (s.firmwareTaken n ok).get F.UPD_HO_ENGINE = 0 ∧
    (s.firmwareTaken n ok).get F.BOOT_STATUS_FW_SLOT = n := by
  obtain ⟨hslot, -, hboot, hupd⟩ := showFirmware_facts s n
  rw [Nat.mod_eq_of_lt hn] at hslot
  unfold State.firmwareTaken
  generalize s.showFirmware n = u at *
  rw [handoverOver_get, handoverOver_get, handoverOver_get, handoverOver_boot, handoverOver_upd, set_boot, set_boot, set_upd, set_upd]
  refine ⟨by rw [← hupd], hboot, rfl, ?_, ?_, ?_⟩
  · rw [get_set_self _ F.UPD_HO_PHASE _ (by decide)]
    cases ok <;> rfl
  · have hp : Writes [F.UPD_HO_PHASE] (u.set F.UPD_HO_ENGINE 0) ((u.set F.UPD_HO_ENGINE 0).set F.UPD_HO_PHASE (if ok then 5 else 6)) :=
      (Writes.refl _).set (by simp)
    rw [hp _ (by decide)]
    exact get_set_self _ F.UPD_HO_ENGINE 0 (by decide)
  · have hu : Writes [F.UPD_HO_ENGINE, F.UPD_HO_PHASE] u ((u.set F.UPD_HO_ENGINE 0).set F.UPD_HO_PHASE (if ok then 5 else 6)) :=
      Writes.set (Writes.set (.refl _) (by simp)) (by simp)
    rw [hu _ (by decide), hslot]

theorem handoverDone_facts {s : State} (ok : Bool) (hto : s.upd.toSlot < 2) : (s.handoverDone ok).upd.held = s.upd.held ∧
    (∀ e, e = 0 ∨ 9 ≤ e → s.engine e = true → (s.handoverDone ok).engine e = true) ∧ (s.handoverDone ok).upd.step = 0 ∧
    (s.handoverDone ok).get F.UPD_HO_PHASE = (if ok then 5 else 6) ∧ (s.handoverDone ok).get F.UPD_HO_ENGINE = 0 ∧
    (s.handoverDone ok).get F.BOOT_STATUS_FW_SLOT = s.upd.toSlot ∧
    (s.handoverDone ok).boot = (s.changeTable ok (slotOnTrial s.upd.toSlot)).boot := by
  obtain ⟨-, -, hheld, hengine⟩ := changeTable_either s ok (slotOnTrial s.upd.toSlot)
  rw [handoverDone_eq]
  generalize s.changeTable ok (slotOnTrial s.upd.toSlot) = u at *
  obtain ⟨hheld', hboot, hstep, hphase, heng, hslot⟩ := firmwareTaken_facts u ok hto
  generalize u.firmwareTaken s.upd.toSlot ok = v at *
  obtain ⟨hwrites, hboot', hupd⟩ : Writes logFields v (v.when ok fun t => t.post 0x00 0x0302) ∧
      (v.when ok fun t => t.post 0x00 0x0302).boot = v.boot ∧ (v.when ok fun t => t.post 0x00 0x0302).upd = v.upd := by
    have hlog := post_logged (src := 0x00) (code := 0x0302) (.refl v)
    cases ok with
    | false =>
      rw [State.when, if_neg Bool.false_ne_true]
      exact ⟨.refl _, rfl, rfl⟩
    | true =>
      rw [State.when, if_pos rfl]
      exact ⟨(Writes.refl v).post fun _ hf => hf, hlog.boot, hlog.upd⟩
  generalize v.when ok (fun t => t.post 0x00 0x0302) = w at *
  refine ⟨by rw [hupd, hheld', hheld], fun e hn he => ?_, by rw [hupd, hstep], ?_, ?_, ?_, hboot'.trans hboot⟩
  · rw [State.engine, hboot', hboot]
    exact hengine e hn he
  · rw [hwrites _ (by decide), hphase]
  · rw [hwrites _ (by decide), heng]
  · rw [hwrites _ (by decide), hslot]

/-- Settles O19: the pause begins, ends in adoption or damage, and the reload and the hand-back each end in the slot table's change. -/
theorem liveHandoverActs : Obligations.LiveHandoverActs := by
  refine ⟨fun s f hf hc hen => ?_, fun s f hf hc hen hsus hst hdue hho hpend hif hmin hpay => ?_, fun s eto efrom hp hs => ?_,
    fun s d hp hs hv => ?_, fun s d hp hs hd => ?_, fun s d hp hs hbad h9 h6 hx hv => ?_, fun s d hp hs hd hin hx => ?_,
    fun s ok hs hp hok hsec => ?_, fun s ok hs hp hok => ?_, fun s ok hs hp hsec => ?_,
    fun s ok hfree hbad hs hp hok => ?_, fun s ok hfree hbad hs hp hq => ?_,
    fun s ok tok r hfree hheld hs hp hr hlt => ?_, fun s ok tok hfree hheld hok => ?_,
    fun s ok tok e hfree hheld he h14 hok hsec hs hleft hx => ?_,
    fun s ok tok e hfree hheld he h14 hok hsec hs hleft hpassed hto hx hq => ?_,
    fun s ok tok e hfree hheld he h14 hok hin hp hx => ?_⟩
  · refine .of_command hf hc rfl (if_pos ?_) ⟨done_answered _ _ _, done_sameWords _ _ _⟩
    rw [hen]
    rfl
  · obtain ⟨hho', hphase, hpaused, hstep, -, hslot, -, hhif⟩ :=
      beginPause_facts (s.done f .ok) 0 (s.get F.BOOT_STATUS_FW_SLOT) (1 - s.get F.BOOT_STATUS_FW_SLOT)
    refine .of_command hf hc rfl ((if_neg ?_).trans ((if_neg ?_).trans (if_neg ?_))) ⟨hho', hphase, hpaused, hstep, hslot, ?_⟩
    · rw [hen, hsus]
      decide
    · rw [hdue, hho, decide_eq_false hst]
      decide
    · have hold : Nat.blt (leAt (s.flashRead (fwBase (1 - s.get F.BOOT_STATUS_FW_SLOT)) 0x400) 0x0E 2) s.minIface = false := by
        rw [← Bool.not_eq_true, Nat.blt_eq]
        exact Nat.not_lt_of_le hmin
      rw [hpend, hif, hpay, hold]
      simp
    · rw [State.answered, hhif]
      exact done_answered _ _ _
  · refine .of_eq ((execHandoverRomVerify_eq s eto efrom).trans (if_pos (by rw [hp, hs]; rfl))) ?_
    have hverdict : s.fwChecks (fwBase s.upd.toSlot) (s.boot.tab.fwLen s.upd.toSlot) eto.val = s.slotVerdict s.upd.toSlot eto.val := rfl
    have hold : s.fwChecks (fwBase s.upd.fromSlot) (s.boot.tab.fwLen s.upd.fromSlot) efrom.val = s.slotVerdict s.upd.fromSlot efrom.val := rfl
    rw [hverdict, hold]
    exact romVerified_facts hp _ _
  · exact (if_pos (by rw [hp, hs]; rfl)).trans (if_pos hv)
  · exact (if_pos (by rw [hp, hs]; rfl)).trans (if_neg (by rw [hd]; exact Bool.false_ne_true))
  · obtain ⟨hanswer, hkept⟩ := answeredInHold_facts s
    obtain ⟨hpaused, hstep, hho, hphase, hlen, hflt, hbus, hhif, -⟩ := pauseEnded_facts s.answeredInHold
    rw [hkept.upd, hbad] at hstep hphase
    rw [hkept.now, hkept.upd] at hlen
    have hidle : s.endPause.afterPause = s.endPause := by
      rw [endPause_eq]
      exact afterPause_idle (by rw [hflt, hkept.flt, h9]) (by rw [hbus, hkept.bus, h6]) (by rw [hhif, hkept.hif, hx])
    refine .of_eq ((if_pos (by rw [hp, hs]; rfl)).trans (if_pos hv)) ?_
    rw [hidle, endPause_eq]
    exact ⟨hpaused, hstep, hho, hphase, hlen⟩
  · obtain ⟨hanswer, hkept⟩ := answeredInHold_facts s
    obtain ⟨hpaused, -, -, -, -, -, -, hhif, hends⟩ := pauseEnded_facts s.answeredInHold
    rw [← endPause_eq] at hpaused hhif hends
    have hwrites : Writes pauseFields s s.endPause := (hanswer.mono (by decide)).trans hends
    have hin' : s.endPause.isAny [.spring, .summer] = true := by
      rw [hwrites.isAny (by decide) _]
      exact hin
    obtain ⟨hwinter, -⟩ := raise_fatal_entered (code := 0xEA1A) rfl rfl hin' hpaused
    obtain ⟨hbit, hcode⟩ := raise_fatal_held (s := s.endPause) (code := 0xEA1A) rfl rfl
    have hbeside := raise_fatal_beside (s := s.endPause) (code := 0xEA1A) rfl rfl
    rw [hwrites _ (by decide)] at hcode
    refine .of_eq ((if_pos (by rw [hp, hs]; rfl)).trans (if_neg (by rw [hd]; exact Bool.false_ne_true))) ?_
    generalize s.endPause.raise 0xEA1A = u at *
    obtain ⟨hend, hafter, hkeeps⟩ := afterPause_winter hwinter (by rw [hbeside.exec, hhif, hkept.hif, hx])
    exact ⟨by rw [hkeeps, hbeside.paused, hpaused], hend, (hafter.has _ (by decide +kernel)).trans hbit,
      (hafter _ (by decide +kernel)).trans hcode⟩
  · refine .of_eq ((if_pos (by rw [hs, hp]; rfl)).trans (if_pos (by rw [hok, hsec]; rfl))) ⟨?_, rfl, rfl, fun a ha => ?_⟩
    · exact get_set_self _ F.UPD_HO_PHASE 3 (by decide)
    · exact word_set_other _ F.UPD_HO_PHASE 3 a (List.ne_of_not_mem_cons ha)
  · obtain ⟨hho, -, hpaused, hstep, -, hto, hdir, -⟩ := beginPause_facts s.freeCode.2 1 s.upd.toSlot s.upd.fromSlot
    exact .of_eq ((if_pos (by rw [hs, hp]; rfl)).trans (if_neg (by rw [hok]; exact Bool.false_ne_true))) ⟨hdir, hpaused, hstep, hto, hho⟩
  · obtain ⟨hho, hphase, hpaused, hstep, hfrom, hto, hdir, -⟩ := beginPause_facts s.freeCode.2 1 s.upd.toSlot s.upd.fromSlot
    exact .of_eq ((if_pos (by rw [hs, hp]; rfl)).trans (if_neg (by rw [hsec, Bool.and_false]; exact Bool.false_ne_true)))
      ⟨hdir, hpaused, hstep, hfrom, hto, hho, hphase⟩
  · obtain ⟨-, hfw, hstep, -, hboot⟩ := handedBack_facts s 1 ok
    obtain ⟨hends, hbit, -, hidle, -, htab⟩ := handbackEnd_facts (s.handedBack 1 ok)
    obtain ⟨hstate, -⟩ := slotRejected_facts 1 s.boot.tab
    subst hok
    refine .of_eq (exec_handback hfree hbad hs hp) ⟨?_, (hends _ (by decide +kernel)).trans hfw, hbit, hidle hstep⟩
    rw [htab, hboot, changeTable_tab]
    exact (tableAhead_eq s _ (g := fun t => t.fwState 1) fun _ _ => rfl).trans hstate
  · obtain ⟨hslot, hfw, hstep, hnone, hboot⟩ := handedBack_facts s 0 ok
    obtain ⟨hends, hbit, hrej, hidle, hsame, htab⟩ := handbackEnd_facts (s.handedBack 0 ok)
    obtain ⟨hstate, hactive⟩ := slotRejected_facts 0 s.boot.tab
    refine .of_eq (exec_handback hfree hbad hs hp) ⟨hidle hstep, hsame.trans hnone, (hends _ (by decide +kernel)).trans hfw,
      (hends _ (by decide +kernel)).trans hslot, hbit, hrej, fun hok => ?_, fun hok => ?_⟩
    · subst hok
      rw [htab, hboot, changeTable_tab]
      exact ⟨(tableAhead_eq s _ (g := fun t => t.fwState 0) fun _ _ => rfl).trans hstate,
        (tableAhead_eq s _ (g := SlotTab.fwActive) fun _ _ => rfl).trans hactive⟩
    · subst hok
      rw [htab, hboot, changeTable_failed_tab]
  · exact .of_eq (exec_engineReload_next hfree hheld hs hp hr) (holdEngine_facts _ hlt ok)
  · refine (exec_engineReload_held hfree hheld).trans (if_neg ?_)
    rw [hok]
    exact Bool.false_ne_true
  · refine .of_eq ((exec_engineReload_held hfree hheld).trans (if_pos (by rw [hok, hsec]; rfl))) ?_
    obtain ⟨m, hm⟩ := loadEngine_eq s (fwBase s.upd.toSlot) e
    have hidle : (({ s with engMem := m } : State).released e).pump = ({ s with engMem := m } : State).released e := pump_idle hx
    have hmore : ¬ (s.upd.step == 7 && s.upd.left.isEmpty && s.upd.passed.isEmpty) = true := by
      simp [hleft]
    have hstay : (({ s with engMem := m } : State).released e).afterReload tok = ({ s with engMem := m } : State).released e := if_neg hmore
    rw [hm, releaseEngine_plain he h14, hidle, hstay]
    exact ⟨rfl, released_engine _ e, rfl, hs, rfl, fun _ _ => rfl⟩
  · refine .of_eq ((exec_engineReload_held hfree hheld).trans (if_pos (by rw [hok, hsec]; rfl))) ?_
    obtain ⟨m, hm⟩ := loadEngine_eq s (fwBase s.upd.toSlot) e
    rw [hm, releaseEngine_plain he h14]
    have hon := released_engine { s with engMem := m } e
    have hreleased : (({ s with engMem := m } : State).released e).upd = { s.upd with held := none } := rfl
    have htab : (({ s with engMem := m } : State).released e).boot.tab = s.boot.tab := rfl
    have hidle : (({ s with engMem := m } : State).released e).pump = ({ s with engMem := m } : State).released e := pump_idle hx
    rw [hidle]
    generalize ({ s with engMem := m } : State).released e = u at *
    have hlast : u.afterReload tok = u.handoverDone tok := if_pos (by rw [hreleased, hs, hleft, hpassed]; rfl)
    have htoSlot : u.upd.toSlot = s.upd.toSlot := by rw [hreleased]
    obtain ⟨hheld', hengine, hstep, hphase, heng, hslot, hboot⟩ := handoverDone_facts (s := u) tok (by rw [htoSlot]; exact hto)
    obtain ⟨hstate, hactive⟩ := slotOnTrial_facts s.upd.toSlot s.boot.tab
    rw [hlast]
    rw [htoSlot] at hboot hslot
    generalize u.handoverDone tok = v at *
    refine ⟨by rw [hheld', hreleased], hengine e (other_of_enginePort he) hon, hstep, hphase, heng, hslot, fun htok => ?_, fun htok => ?_⟩
    · subst htok
      rw [hboot, changeTable_tab]
      rw [← htab] at hstate hactive
      exact ⟨(tableAhead_eq u _ (g := fun t => t.fwState s.upd.toSlot) fun _ _ => rfl).trans hstate,
        (tableAhead_eq u _ (g := SlotTab.fwActive) fun _ _ => rfl).trans hactive⟩
    · subst htok
      rw [hboot, changeTable_failed_tab, htab]
  · refine .of_eq ((exec_engineReload_held hfree hheld).trans (if_neg (by rw [hok]; exact Bool.false_ne_true))) ?_
    rw [releaseEngine_plain he h14]
    have hon := released_engine s e
    have hnone : (s.released e).upd.held = none := rfl
    obtain ⟨hwinter, -⟩ := raise_fatal_entered (s := s.released e) (code := 0xEA06) rfl rfl hin hp
    obtain ⟨hbit, hcode⟩ := raise_fatal_held (s := s.released e) (code := 0xEA06) rfl rfl
    have hbeside := raise_fatal_beside (s := s.released e) (code := 0xEA06) rfl rfl
    have hexec : (s.released e).hif.exec = [] := hx
    have hheldCode : (s.released e).get F.FLT_FATAL_CODE = s.get F.FLT_FATAL_CODE := rfl
    rw [hheldCode] at hcode
    generalize s.released e = u at *
    rw [pump_idle (by rw [hbeside.exec, hexec])]
    exact ⟨(hbeside.upd_eq (g := Upd.held) fun _ => rfl).trans hnone, hbeside.others e (other_of_enginePort he) hon, hwinter, hbit, hcode⟩

end Sys2Proof.Machine
end

section
/-!
ROM recovery's downloads and the commands on the OTP array (R600, R601, R502–R505, R521).
-/
namespace Sys2Proof.Machine

/-! Programming -/

section
variable {s : State} {w : Nat} {bits failed : Word}

theorem showOtp_otp (s : State) : s.showOtp.otp = s.otp := by
  unfold State.showOtp
  simp

theorem showOtp_sec (s : State) : s.showOtp.sec = s.sec := by
  unfold State.showOtp
  simp

theorem gateMoved_otp (t s : State) : (t.gateMoved s).otp = t.otp := by
  unfold State.gateMoved
  exact forAll_invariant (fun _ u => when_invariant (fun _ => by rfl) u _) _ _

theorem gateMoved_sec (t s : State) : (t.gateMoved s).sec = t.sec := by
  unfold State.gateMoved
  exact forAll_invariant (fun _ u => when_invariant (fun _ => by rfl) u _) _ _

/-- Bits that can all be programmed are added to the word. -/
theorem programWord_facts (hok : bits &&& failed = 0#32) : (s.programWord w bits failed).otpCell w = s.otpCell w ||| bits ∧
    (∀ i, i ≠ w → (s.programWord w bits failed).otpCell i = s.otpCell i) ∧
    (s.programWord w bits failed).otpWord w = if w < 0x20 then s.otpWord w else s.otpWord w ||| bits := by
  have hgood : bits &&& ~~~ failed = bits := by
    refine BitVec.eq_of_getLsbD_eq fun i _ => ?_
    have hi := congrArg (·.getLsbD i) hok
    simp only [BitVec.getLsbD_and, BitVec.getLsbD_zero] at hi
    rw [BitVec.getLsbD_and, BitVec.getLsbD_not]
    grind
  have hodd : BitVec.ofNat 32 s.takeFree.1 &&& bits &&& failed = 0#32 := by rw [BitVec.and_assoc, hok, BitVec.and_zero]
  have hcell : (s.programWord w bits failed).otp = bankWrite (fun _ => 0#32) s.otp w (s.otpCell w ||| bits) := by
    unfold State.programWord
    rw [hgood, hodd, if_pos hok]
    exact congrArg (bankWrite (fun _ => 0#32) s.otp w) (BitVec.or_zero (x := s.otpCell w ||| bits))
  refine ⟨?_, fun i hi => ?_, ?_⟩
  · rw [State.otpCell, hcell, bankRead_write_self]
  · rw [State.otpCell, hcell, bankRead_write_other _ _ _ _ _ hi, State.otpCell]
  · unfold State.programWord
    rw [hgood, hodd, if_pos hok]
    split
    · rfl
    · refine (bankRead_write_self _ _ _ _).trans ?_
      rw [BitVec.or_zero]

/-- A command that programs bits under its conditions is answered OK. -/
theorem programFor_ok (hcond : s.otpConditions = true) (hok : bits &&& failed = 0#32) (f : Frame) :
    s.programFor f w bits failed = (((s.programWord w bits failed).showOtp).gateMoved s).done f .ok :=
  (if_neg (by rw [hcond]; exact Bool.false_ne_true)).trans (if_pos hok)

/-- What a command that programs bits leaves of the array. -/
theorem programFor_facts (hcond : s.otpConditions = true) (hok : bits &&& failed = 0#32) (f : Frame) :
    (s.programFor f w bits failed).otpCell w = s.otpCell w ||| bits ∧ (s.programFor f w bits failed).answered = some (0, []) ∧
    (s.programFor f w bits failed).otpWord w = (if w < 0x20 then s.otpWord w else s.otpWord w ||| bits) ∧
    ∀ i, i ≠ w → (s.programFor f w bits failed).otpCell i = s.otpCell i := by
  obtain ⟨hcell, hothers, hword⟩ := programWord_facts (s := s) (w := w) hok
  rw [programFor_ok hcond hok]
  have hotp := (gateMoved_otp (s.programWord w bits failed).showOtp s).trans (showOtp_otp _)
  have hsec := (gateMoved_sec (s.programWord w bits failed).showOtp s).trans (showOtp_sec _)
  generalize (s.programWord w bits failed).showOtp.gateMoved s = t at *
  generalize s.programWord w bits failed = u at *
  rw [done_answered]
  refine ⟨?_, rfl, ?_, fun i hi => ?_⟩
  · rw [← hcell, State.otpCell, done_otp, hotp, State.otpCell]
  · rw [← hword, State.otpWord, done_sec, hsec, State.otpWord]
  · rw [← hothers i hi, State.otpCell, done_otp, hotp, State.otpCell]

end

/-! Recovery -/

/-- The slot table that REC_CLOSE writes in both copies where none is valid. -/
def State.freshTable (s : State) (act : SlotTab → SlotTab) : SlotTab := { act s.boot.tab with gen := 1 }

/-- Both copies of the slot table written. -/
def State.bothCopies (s : State) (bs : List Byte) : State :=
  Machine.forAll [0, 1] (fun c u => (u.flashErase (tableBase c) 4096).flashProgram (tableBase c) bs) s

theorem bothCopies_regs (s : State) (bs : List Byte) : (s.bothCopies bs).regs = s.regs :=
  forAll_invariant (g := State.regs) (fun _ _ => by rfl) _ _

/-- The table of both copies taken. -/
def State.tableTaken (s : State) (t : SlotTab) : State := { s with boot := { s.boot with copy := 1, tabOld := t, tab := t } }

theorem tableTaken_regs (s : State) (t : SlotTab) : (s.tableTaken t).regs = s.regs := rfl
theorem tableTaken_tab (s : State) (t : SlotTab) : (s.tableTaken t).boot.tab = t ∧ (s.tableTaken t).boot.tabOld = t := ⟨rfl, rfl⟩

theorem recoveryTable_fresh {s : State} (h : s.chooseTable.isSome = false) (act : SlotTab → SlotTab) :
    s.recoveryTable true act = (s.bothCopies (s.freshTable act).bytes).tableTaken (s.freshTable act) :=
  if_neg (by rw [h]; exact Bool.false_ne_true)

theorem recoveryTable_held {s : State} (h : s.chooseTable.isSome = true) (act : SlotTab → SlotTab) :
    s.recoveryTable true act = s.changeTable true act := if_pos h

theorem recoveryTable_facts (s : State) (act : SlotTab → SlotTab) : (s.recoveryTable true act).regs = s.regs ∧
    (s.recoveryTable true act).boot.tabOld = (s.recoveryTable true act).boot.tab ∧
    ∃ n, (s.recoveryTable true act).boot.tab = { act s.boot.tab with gen := n } := by
  cases h : s.chooseTable.isSome with
  | true =>
    rw [recoveryTable_held h, changeTable_regs, changeTable_tabOld, changeTable_tab]
    exact ⟨rfl, rfl, _, rfl⟩
  | false =>
    rw [recoveryTable_fresh h, tableTaken_regs, bothCopies_regs]
    exact ⟨rfl, rfl, 1, rfl⟩

/-- The table change that takes a recovered configuration for the next boot. -/
def configPending (slot len : Nat) (t : SlotTab) : SlotTab := (t.setState 2 slot slotPending).setLen 2 slot len

theorem configPending_facts (slot len : Nat) (t : SlotTab) : (configPending slot len t).cfgState slot = slotPending ∧
    (configPending slot len t).cfgLen slot = len := by
  unfold configPending SlotTab.setState SlotTab.setCfg SlotTab.setLen SlotTab.cfgState SlotTab.cfgLen
  by_cases h : slot = 0
  · simp [h]
  · simp [h]

/-- REC_CLOSE's end by its check. -/
def recoveryClosed (f : Frame) (c : Nat × State) (kind slot len : Nat) (ok : Bool) : State :=
  if c.1 ≠ 1 then (c.2.rejectTransfer c.1).reply f .ok [BitVec.ofNat 32 c.1]
  else
    let t := c.2.recoveryTable ok fun t =>
      let t := (t.setState kind slot slotPending).setLen kind slot len
      if kind = 1 then { t with fwActive := slot, recovery := 0 } else t
    if ! ok then t.done f .noResource
    else
      let t := ((t.set F.UPD_STATUS_RESULT 1).set F.UPD_STATUS_STATE 2).reply f .ok [1#32]
      if kind = 1 then t.flushAnswer.internalRestart 15 else t

theorem recoveryClosed_config (s : State) (f : Frame) (slot len : Nat) : recoveryClosed f (1, s) 2 slot len true =
    (((s.recoveryTable true (configPending slot len)).set F.UPD_STATUS_RESULT 1).set F.UPD_STATUS_STATE 2).reply f .ok [1#32] := rfl

theorem recClose_runs {s : State} {e : Fin 4} {ok : Bool} {f : Frame} {p : State → Prop} {t : State} (hf : s.hif.current = some f) (hc : f.cmd = 0x0382)
    (hst : s.get F.UPD_STATUS_STATE = 1) (hnext : s.get F.UPD_NEXT_NEXT = s.get F.UPD_LEN_LEN)
    (hsusp : (s.get F.UPD_STATUS_KIND == 1 && s.suspends 2) = false) (hpay : f.payload = [])
    (ht : recoveryClosed f (s.fullCheck e.val) (s.get F.UPD_STATUS_KIND) (s.get F.UPD_STATUS_SLOT) (s.get F.UPD_LEN_LEN) ok = t) (hp : p t) :
    Answers (exec (.recClose e ok) s) p := by
  have hbusy : ¬ (s.get F.UPD_STATUS_STATE ≠ 1 || s.get F.UPD_NEXT_NEXT ≠ s.get F.UPD_LEN_LEN) = true := by
    rw [hst, hnext]
    simp
  have hsuspended : ¬ (s.get F.UPD_STATUS_KIND = 1 && s.suspends 2) = true := by
    rw [← beq_eq_decide, hsusp]
    exact Bool.false_ne_true
  exact .of_command hf hc rfl ((if_neg hbusy).trans ((if_neg hsuspended).trans ((if_pos (by rw [hpay]; rfl)).trans ht))) hp

/-- Settles O20: recovery's transfers, and each command on the OTP array under its conditions. -/
theorem recoveryAndOtpCommandsAct : Obligations.RecoveryAndOtpCommandsAct := by
  refine ⟨fun s ok f hf hc hscrap => ?_, fun s ok f hf hc hscrap hst hpay hok => ?_, fun s fail f hf hc hst => ?_,
    fun s fail f x hf hc hst hsusp hpay hnext hlen her hfail => ?_, fun s fail f hf hc hst hsusp hlen => ?_,
    fun s e ok f hf hc hst hnext hsusp hpay hcheck => ?_, fun s e ok f hf hc hpay hst hnext hkind hslot hcheck hok => ?_,
    fun s f hf hc hpay => ?_, fun s n bits failed f hf hc hn hlock hpol hscr hsusp hcond hok => ?_, fun s failed f hf hc => ?_,
    fun s n reads failed f hf hc hlock hsusp hable hcond hok => ?_, fun s n reads failed f hf hc hlock hsusp hable => ?_,
    fun s arg reads failed f hf hc harg => ?_, fun s i failed f hf hc hown hothers hsusp hcond hok => ?_,
    fun s p failed f hf hc hbit hsusp hcond hok => ?_⟩
  · exact .of_command hf hc rfl (if_pos hscrap) ⟨done_answered _ _ _, done_sameWords _ _ _⟩
  · subst hok
    have harg : f.arg 1 = 0x1000 := by
      rw [Frame.arg, hpay]
      rfl
    have hkind : f.arg 0 % 4 = 1 := by
      rw [Frame.arg, hpay]
      rfl
    obtain ⟨u, hu⟩ := openTransfer_ok s f 1 (s.recTarget 1)
    obtain ⟨hstate, -, -, hlen, -⟩ := opened_facts u f (s.recTarget 1)
    rw [harg] at hlen
    have hlenOk : ¬ (f.payload.length ≠ 2 || !(1 == 1 || 1 == 2) || !lengthOk 1 (f.arg 1)) = true := by
      rw [harg, hpay]
      decide
    refine .of_command (t := (u.opened f 1 (s.recTarget 1)).reply f .ok [BitVec.ofNat 32 (s.recTarget 1)]) hf hc rfl ?_
      ⟨reply_answered _ _ _ _, hstate, hlen⟩
    simp only [hkind]
    exact (if_neg (by rw [hscrap]; exact Bool.false_ne_true)).trans ((if_neg (not_not_intro hst)).trans
      ((if_neg Bool.false_ne_true).trans ((if_neg hlenOk).trans hu)))
  · exact .of_command hf hc rfl (if_pos hst) ⟨done_answered _ _ _, done_sameWords _ _ _⟩
  · subst hfail
    obtain ⟨hn, hread, hflash, hwords⟩ := firstFour_facts s (leBytes_length 4 x.toNat)
    exact .of_command hf hc rfl ((if_neg (not_not_intro hst)).trans (takeBlock_first hnext hlen her hsusp hpay))
      ⟨reply_answered _ _ _ _, hn, hread, hflash, hwords⟩
  · have hsuspended : ∀ b : Bool, ¬ (s.updSuspended (s.get F.UPD_STATUS_KIND) && b) = true := fun b => by
      rw [hsusp]
      exact Bool.false_ne_true
    have hshort : Nat.blt f.payload.length 3 = true := by
      rw [Nat.blt_eq]
      exact hlen
    refine .of_command hf hc rfl ((if_neg (not_not_intro hst)).trans ((if_neg (hsuspended _)).trans (if_pos ?_)))
      ⟨done_answered _ _ _, done_flash _ _ _, done_sameWords _ _ _⟩
    rw [hshort]
    rfl
  · obtain ⟨hstate, -⟩ := rejectTransfer_facts (s.fullCheck e.val).2 (s.fullCheck e.val).1
    exact recClose_runs hf hc hst hnext hsusp hpay (if_pos hcheck) ⟨reply_answered _ _ _ _, hstate⟩
  · subst hok
    have hsame : s.fullCheck e.val = (1, s) := Prod.ext hcheck (fullCheck_config (by rw [hkind]; decide))
    obtain ⟨hregs, hold, n, htab⟩ := recoveryTable_facts s (configPending (s.get F.UPD_STATUS_SLOT) (s.get F.UPD_LEN_LEN))
    obtain ⟨hstate, hlen⟩ := configPending_facts (s.get F.UPD_STATUS_SLOT) (s.get F.UPD_LEN_LEN) s.boot.tab
    have hclosed := recoveryClosed_config s f (s.get F.UPD_STATUS_SLOT) (s.get F.UPD_LEN_LEN)
    generalize s.recoveryTable true (configPending (s.get F.UPD_STATUS_SLOT) (s.get F.UPD_LEN_LEN)) = u at *
    refine recClose_runs hf hc hst hnext (by rw [hkind]; rfl) hpay (t := ((u.set F.UPD_STATUS_RESULT 1).set F.UPD_STATUS_STATE 2).reply f .ok [1#32])
      (by rw [hsame, hkind, hclosed]) ?_
    rw [reply_get, reply_get, reply_boot, set_boot, set_boot, hold]
    rw [htab]
    refine ⟨reply_answered _ _ _ _, ?_, get_set_self _ F.UPD_STATUS_STATE 2 (by decide), hstate, hlen, rfl, fun a ha => ?_⟩
    · simp (disch := decide)
    · have hne : a ≠ R.UPD_STATUS := List.ne_of_not_mem_cons ha
      have hword : u.word a = s.word a := by rw [State.word, hregs, State.word]
      exact (word_set_other _ F.UPD_STATUS_STATE 2 a hne).trans ((word_set_other _ F.UPD_STATUS_RESULT 1 a hne).trans hword)
  · exact .of_command hf hc rfl (if_pos (by rw [hpay]; rfl)) ⟨reply_answered _ _ _ _, reply_sameWords _ _ _ _⟩
  · obtain ⟨hcell, hans, hword, hrest⟩ := programFor_facts (w := n.toNat) hcond hok f
    have hmap : ¬ Nat.ble 0x8E n.toNat = true := by
      rw [Nat.ble_eq]
      omega
    refine .of_command hf hc rfl ((if_neg hmap).trans ((if_neg (by rw [hlock]; exact Bool.false_ne_true)).trans ((if_neg ?_).trans ?_)))
      (t := s.programFor f n.toNat bits failed) ⟨hcell, hword, ?_, hans, hrest⟩
    · rw [hpol, hsusp, Bool.and_false]
      exact Bool.false_ne_true
    · rw [hscr]
      rfl
    · rw [programFor_ok hcond hok]
      rfl
  · exact .of_command hf hc rfl rfl ⟨done_answered _ _ _, done_otp _ _ _, done_sameWords _ _ _⟩
  · subst hok
    obtain ⟨hcell, hans, -⟩ := programFor_facts (s := s) (w := 0x8E) (bits := BitVec.ofNat 32 (2 ^ n.val)) hcond BitVec.and_zero f
    exact .of_command hf hc rfl ((if_neg (by rw [hlock]; exact Bool.false_ne_true)).trans ((if_neg (by rw [hsusp]; exact Bool.false_ne_true)).trans
      ((if_neg (by rw [hable]; exact Bool.false_ne_true)).trans rfl))) ⟨hcell, hans⟩
  · refine .of_command hf hc rfl ((if_neg (by rw [hlock]; exact Bool.false_ne_true)).trans ((if_neg (by rw [hsusp]; exact Bool.false_ne_true)).trans
      (if_pos (by rw [hable]; rfl)))) ⟨?_, done_answered _ _ _, done_otp _ _ _⟩
    rw [done_has]
    exact has_flag_self _ _ (by decide) (by decide) (by decide)
  · cases arg with
    | none => exact .of_command hf hc rfl rfl ⟨done_answered _ _ _, done_otp _ _ _, done_sameWords _ _ _⟩
    | some n =>
      have hlock : s.regionLocked n.val = true := harg.resolve_left (by simp)
      exact .of_command hf hc rfl (if_pos hlock) ⟨done_answered _ _ _, done_otp _ _ _, done_sameWords _ _ _⟩
  · subst hok
    obtain ⟨hcell, hans, -⟩ := programFor_facts (s := s) (w := 0x44) (bits := BitVec.ofNat 32 (2 ^ i.val)) hcond BitVec.and_zero f
    refine .of_command hf hc rfl ((if_neg ?_).trans rfl) ⟨hcell, hans⟩
    rw [hothers, hsusp, decide_eq_false hown]
    exact Bool.false_ne_true
  · have hok' : p.setWidth 32 &&& failed.setWidth 32 = 0#32 := by
      rw [← BitVec.setWidth_and, hok]
      rfl
    obtain ⟨hcell, hans, -⟩ := programFor_facts (s := s) (w := 0x85) hcond hok' f
    refine .of_command hf hc rfl (if_neg ?_) ⟨hcell, hans⟩
    rw [hbit, hsusp]
    exact Bool.false_ne_true

end Sys2Proof.Machine
end

section
/-!
What taking a conversion leaves of the schedule, the time and the results (R124).
-/
namespace Sys2Proof.Machine

/-- Time, both banks, the word that names the active one and the results stand. -/
structure Sampled (s t : State) : Prop where
  now : t.now = s.now
  tbZero : t.tbZero = s.tbZero
  bankA : t.msr.bankA = s.msr.bankA
  bankB : t.msr.bankB = s.msr.bankB
  res : t.msr.res = s.msr.res
  sch : t.word R.SCH_STATUS = s.word R.SCH_STATUS

section
variable {s₀ s t : State}

theorem Sampled.refl (s : State) : Sampled s s := ⟨rfl, rfl, rfl, rfl, rfl, rfl⟩
theorem Sampled.trans (h : Sampled s₀ s) (k : Sampled s t) : Sampled s₀ t :=
  ⟨k.now.trans h.now, k.tbZero.trans h.tbZero, k.bankA.trans h.bankA, k.bankB.trans h.bankB, k.res.trans h.res, k.sch.trans h.sch⟩
theorem Logged.sampled (h : Logged s t) : Sampled s t :=
  ⟨h.now, h.tbZero, by rw [h.msr], by rw [h.msr], by rw [h.msr], h.word _ (by decide)⟩
theorem Sampled.set {f : Fld} {v : Nat} (h : Sampled s₀ s) (hf : R.SCH_STATUS ≠ f.reg) : Sampled s₀ (s.set f v) :=
  h.trans ⟨rfl, rfl, rfl, rfl, rfl, word_set_other _ _ _ _ hf⟩
theorem Sampled.put {f : Fld} {b : Bool} (h : Sampled s₀ s) (hf : R.SCH_STATUS ≠ f.reg) : Sampled s₀ (s.put f b) := h.set hf
theorem Sampled.putBit {f : Fld} {i : Nat} {b : Bool} (h : Sampled s₀ s) (hf : R.SCH_STATUS ≠ f.reg) : Sampled s₀ (s.putBit f i b) := h.set hf
/-- The ports, the pins, the timers and the capture are none of these. -/
theorem Sampled.rest {x : List (TimerId × Nat)} {p : Vector Port 9} {c : Cap} (h : Sampled s₀ s) :
    Sampled s₀ { s with timers := x, ports := p, cap := c } := h.trans ⟨rfl, rfl, rfl, rfl, rfl, rfl⟩
theorem Sampled.arm {x : TimerId} {n : Nat} (h : Sampled s₀ s) : Sampled s₀ (s.arm x n) := h.rest
theorem Sampled.disarm {x : TimerId} (h : Sampled s₀ s) : Sampled s₀ (s.disarm x) := h.rest
theorem Sampled.modCnv {k : PortId} {f : CnvPort → CnvPort} (h : Sampled s₀ s) : Sampled s₀ (s.modCnv k f) := h.rest
theorem Sampled.modBrk {k : PortId} {f : BrkPort → BrkPort} (h : Sampled s₀ s) : Sampled s₀ (s.modBrk k f) := h.rest
theorem Sampled.modPins {k : PortId} {f : PortPins → PortPins} (h : Sampled s₀ s) : Sampled s₀ (s.modPins k f) := h.rest
theorem Sampled.ite {c : Prop} [Decidable c] (hs : Sampled s₀ s) (ht : Sampled s₀ t) : Sampled s₀ (if c then s else t) := by
  split
  · exact hs
  · exact ht
theorem Sampled.when {c : Bool} {act : State → State} (h : Sampled s₀ s) (ha : ∀ t, Sampled s₀ t → Sampled s₀ (act t)) :
    Sampled s₀ (s.when c act) := by
  unfold State.when
  exact .ite (ha s h) h
theorem Sampled.forAll {α : Type} {act : α → State → State} {xs : List α} (h : Sampled s₀ s)
    (ha : ∀ x t, Sampled s₀ t → Sampled s₀ (act x t)) : Sampled s₀ (forAll xs act s) := by
  induction xs generalizing s with
  | nil => exact h
  | cons x xs ih => exact ih (s := act x s) (ha x s h)

/-! What a result does -/

theorem Sampled.capWord {w : Nat} (h : Sampled s₀ s) : Sampled s₀ (s.capWord w) := by
  unfold State.capWord
  exact .ite h.rest h
theorem Sampled.capMarker (h : Sampled s₀ s) : Sampled s₀ s.capMarker := by
  unfold State.capMarker
  exact .ite h h.capWord.rest
theorem Sampled.levelTrigger {ch code : Nat} (h : Sampled s₀ s) : Sampled s₀ (s.levelTrigger ch code) :=
  h.when fun t ht => ht.trans (captureTrigger_logged (.refl t)).sampled
theorem Sampled.ensureWindow {id : WinId} {ch : Nat} (h : Sampled s₀ s) : Sampled s₀ (s.ensureWindow id ch) := by
  unfold State.ensureWindow
  exact .ite h (h.trans ⟨rfl, rfl, rfl, rfl, rfl, rfl⟩)
theorem Sampled.openFor {a : AdcId} {ch : Nat} (h : Sampled s₀ s) : Sampled s₀ (s.openFor a ch) := by
  unfold State.openFor
  extract_lets b c d
  have hb : Sampled s₀ b := .ite h.ensureWindow h
  have hc : Sampled s₀ c := .ite hb.ensureWindow hb
  have hd : Sampled s₀ d := hc.forAll fun _ _ ht => .ite ht.ensureWindow ht
  exact .ite hd.ensureWindow.ensureWindow hd
theorem Sampled.noteVin {ch code : Nat} (h : Sampled s₀ s) : Sampled s₀ (s.noteVin ch code) := by
  unfold State.noteVin
  exact .ite (h.trans ⟨rfl, rfl, rfl, rfl, rfl, rfl⟩) h
theorem Sampled.windowBit {w : Nat} {b : Bool} (h : Sampled s₀ s) : Sampled s₀ (s.windowBit w b) :=
  .ite (h.putBit (by decide)) (h.putBit (by decide))
theorem Sampled.windowsInside {ch code : Nat} (h : Sampled s₀ s) : Sampled s₀ (s.windowsInside ch code) :=
  h.forAll fun _ _ ht => .ite ht.windowBit ht
theorem Sampled.accumulate {a : AdcId} {ch : Nat} {v : Int} (h : Sampled s₀ s) : Sampled s₀ (s.accumulate a ch v) :=
  h.trans ⟨rfl, rfl, rfl, rfl, rfl, rfl⟩
theorem Sampled.runConverter {k : PortId} {mv : Nat} (h : Sampled s₀ s) : Sampled s₀ (s.runConverter k mv) := by
  have h1 : R.SCH_STATUS ≠ (F.CNV_DROP_IOFS k).reg := by clear * -; decide +revert
  have h2 : R.SCH_STATUS ≠ (F.CNV_STATUS_VSET k).reg := by clear * -; decide +revert
  have h3 : R.SCH_STATUS ≠ (F.CNV_STATUS_RAMP k).reg := by clear * -; decide +revert
  unfold State.runConverter State.rampTo
  extract_lets a v b n c
  have hb : Sampled s₀ b := (h.set h1).modCnv
  have hc : Sampled s₀ c := (hb.set h2).modCnv
  exact hc.put h3
theorem Sampled.offsetResult {k : PortId} {code : Nat} (h : Sampled s₀ s) : Sampled s₀ (s.offsetResult k code) := by
  unfold State.offsetResult
  extract_lets a
  have ha : Sampled s₀ a := h.modCnv
  refine .ite h ?_
  split
  · exact ha
  · unfold State.startConverter
    exact .ite ha (.ite ha.modCnv ha.runConverter)
theorem Sampled.onDropFrame {k : PortId} (h : Sampled s₀ s) : Sampled s₀ (s.onDropFrame k) := by
  unfold State.onDropFrame State.armOnce
  exact .ite (.ite h h.arm) h.disarm
theorem Sampled.portResult {k : PortId} {n code : Nat} (h : Sampled s₀ s) : Sampled s₀ (s.portResult k n code) := by
  unfold State.portResult
  extract_lets a b c inside
  have ha : Sampled s₀ a := h.when fun _ ht => ht.offsetResult
  have hb : Sampled s₀ b := .ite ha.onDropFrame ha
  have hc : Sampled s₀ c := .ite hb.modPins.modBrk hb
  refine .ite (.ite ?_ hc.disarm) hc
  unfold State.armOnce
  exact .ite hc hc.arm

/-- A result as stored, before the windows, the sums and the ports take it. -/
def State.resultStored (s : State) (a : AdcId) (ch code : Nat) : State :=
  { s with msr := { s.msr with res := bankWrite (fun _ => (0, 0, 0)) s.msr.res ch (code + 1, a.val, s.now) } }

theorem resultStored_facts (s : State) (a : AdcId) (ch code : Nat) : (s.resultStored a ch code).now = s.now ∧
    (s.resultStored a ch code).tbZero = s.tbZero ∧ (s.resultStored a ch code).msr.bankA = s.msr.bankA ∧
    (s.resultStored a ch code).msr.bankB = s.msr.bankB ∧ (s.resultStored a ch code).word R.SCH_STATUS = s.word R.SCH_STATUS ∧
    (s.resultStored a ch code).result? ch = some code := by
  refine ⟨rfl, rfl, rfl, rfl, rfl, ?_⟩
  unfold State.result? State.resultStored
  rw [bankRead_write_self]
  exact if_neg (Nat.succ_ne_zero code)

theorem takeResult_split (s : State) (a : AdcId) (ch code : Nat) : ∃ u, Sampled s u ∧ Sampled (u.resultStored a ch code) (s.takeResult a ch code) := by
  refine ⟨((s.levelTrigger ch code).openFor a ch).noteVin ch code, (Sampled.refl s).levelTrigger.openFor.noteVin, ?_⟩
  unfold State.takeResult
  extract_lets u now m v w x far o y
  clear_value far
  have hw : Sampled (u.resultStored a ch code) w := (Sampled.refl _).windowsInside
  have hx : Sampled (u.resultStored a ch code) x := hw.accumulate
  have hy : Sampled (u.resultStored a ch code) y := .ite (hx.trans ⟨rfl, rfl, rfl, rfl, rfl, rfl⟩) hx
  exact hy.forAll fun _ _ ht => .ite ht.portResult ht

/-- Time, the banks and the word that names the active one stand; results may be new. -/
structure Converting (s t : State) : Prop where
  now : t.now = s.now
  tbZero : t.tbZero = s.tbZero
  bankA : t.msr.bankA = s.msr.bankA
  bankB : t.msr.bankB = s.msr.bankB
  sch : t.word R.SCH_STATUS = s.word R.SCH_STATUS

theorem Sampled.converting (h : Sampled s t) : Converting s t := ⟨h.now, h.tbZero, h.bankA, h.bankB, h.sch⟩
theorem Converting.trans {u : State} (h : Converting s t) (k : Converting t u) : Converting s u :=
  ⟨k.now.trans h.now, k.tbZero.trans h.tbZero, k.bankA.trans h.bankA, k.bankB.trans h.bankB, k.sch.trans h.sch⟩

theorem takeResult_facts (s : State) (a : AdcId) (ch code : Nat) : Converting s (s.takeResult a ch code) ∧
    (s.takeResult a ch code).result? ch = some code := by
  obtain ⟨u, hu, ht⟩ := takeResult_split s a ch code
  obtain ⟨hnow, hzero, hA, hB, hsch, hres⟩ := resultStored_facts u a ch code
  refine ⟨hu.converting.trans (Converting.trans ⟨hnow, hzero, hA, hB, hsch⟩ ht.converting), ?_⟩
  rw [State.result?, ht.res]
  exact hres

theorem convert_converting (s : State) (a : AdcId) (pos : Nat) (ecc : Bool) (r : Option (BitVec 14)) : Converting s (s.convert a pos ecc r) := by
  unfold State.convert
  extract_lets e ch
  split
  · unfold State.noteEcc
    split
    · exact (Sampled.refl s).converting
    · exact ⟨rfl, rfl, rfl, rfl, rfl⟩
  · split
    · exact (Sampled.refl s).converting
    · split
      · exact ⟨rfl, rfl, rfl, rfl, rfl⟩
      next c =>
        have htaken : Converting s (if e.testBit 8 = true then s else s.takeResult a ch c.toNat) := by
          split
          · exact (Sampled.refl s).converting
          · exact (takeResult_facts s a ch c.toNat).1
        exact htaken.trans ((Sampled.refl _).when fun _ hu => hu.capWord).converting

end

end Sys2Proof.Machine
end

section
/-!
What a trip of a port's switch writes and keeps of the collector (R281, R284): the escalation counts stand, the switch stays open, and the cause
and the flag are shown.
-/
namespace Sys2Proof.Machine

/-! Escalation counts -/

/-- The escalation counts of the collector stand. -/
def SameEsc (s t : State) : Prop := t.flt.esc = s.flt.esc

section
variable {s₀ s t : State}

theorem SameEsc.refl (s : State) : SameEsc s s := rfl
theorem SameEsc.same (h : SameEsc s₀ s) (ht : t.flt = s.flt) : SameEsc s₀ t := (congrArg Collector.esc ht).trans h
theorem SameEsc.set {f : Fld} {v : Nat} (h : SameEsc s₀ s) : SameEsc s₀ (s.set f v) := h
theorem SameEsc.put {f : Fld} {b : Bool} (h : SameEsc s₀ s) : SameEsc s₀ (s.put f b) := h
theorem SameEsc.flag {g : Flag} (h : SameEsc s₀ s) : SameEsc s₀ (s.flag g) := h
theorem SameEsc.setWord {a : Nat} {w : Word} (h : SameEsc s₀ s) : SameEsc s₀ (s.setWord a w) := h
theorem SameEsc.disarm {x : TimerId} (h : SameEsc s₀ s) : SameEsc s₀ (s.disarm x) := h
theorem SameEsc.arm {x : TimerId} {n : Nat} (h : SameEsc s₀ s) : SameEsc s₀ (s.arm x n) := h
theorem SameEsc.disarmAll {l : List TimerId} (h : SameEsc s₀ s) : SameEsc s₀ (s.disarmAll l) := h
theorem SameEsc.modPd {k : PortId} {f : PdPort → PdPort} (h : SameEsc s₀ s) : SameEsc s₀ (s.modPd k f) := h
theorem SameEsc.modCnv {k : PortId} {f : CnvPort → CnvPort} (h : SameEsc s₀ s) : SameEsc s₀ (s.modCnv k f) := h
theorem SameEsc.modChk {k : PortId} {f : ChkPort → ChkPort} (h : SameEsc s₀ s) : SameEsc s₀ (s.modChk k f) := h
theorem SameEsc.modBrk {k : PortId} {f : BrkPort → BrkPort} (h : SameEsc s₀ s) : SameEsc s₀ (s.modBrk k f) := h
theorem SameEsc.ite {c : Prop} [Decidable c] (hs : SameEsc s₀ s) (ht : SameEsc s₀ t) : SameEsc s₀ (if c then s else t) := by
  split
  · exact hs
  · exact ht

theorem SameEsc.enqueue {r : FaultRec} (h : SameEsc s₀ s) : SameEsc s₀ (s.enqueue r) := by
  unfold State.enqueue
  extract_lets q
  split
  · exact h
  · split
    · exact h
    · exact h
theorem SameEsc.noteFault {code : Nat} {promoted : Bool} (h : SameEsc s₀ s) : SameEsc s₀ (s.noteFault code promoted) := by
  unfold State.noteFault
  exact SameEsc.enqueue (SameEsc.set (SameEsc.set (SameEsc.set (SameEsc.set (SameEsc.put h)))))
theorem SameEsc.captureTrigger (h : SameEsc s₀ s) : SameEsc s₀ s.captureTrigger := by
  unfold State.captureTrigger
  extract_lets st pre a b c
  split
  · exact h
  · split
    · exact h
    · exact SameEsc.flag (SameEsc.noteFault (SameEsc.flag h))
theorem SameEsc.captureEvent {src : Nat} {hit : Bool} (h : SameEsc s₀ s) : SameEsc s₀ (s.captureEvent src hit) := by
  unfold State.captureEvent State.when
  split
  · exact h.captureTrigger
  · exact h
theorem SameEsc.warn {code : Nat} (h : SameEsc s₀ s) : SameEsc s₀ (s.warn code) := (h.noteFault.captureEvent).flag

section
variable {k : PortId} (h : SameEsc s₀ s)
include h

theorem SameEsc.stopConverter : SameEsc s₀ (s.stopConverter k) := by
  unfold State.stopConverter
  exact .ite h.modCnv.set.put.put.put.put.disarm h
theorem SameEsc.openSwitch : SameEsc s₀ (s.openSwitch k) := by
  unfold State.openSwitch
  extract_lets vb vc i hi driven safe a b c d
  have hd : SameEsc s₀ d := h.disarmAll.modBrk.set.put.arm
  refine .ite (.ite hd.set ?_) h
  exact hd.same rfl
theorem SameEsc.dropHealth : SameEsc s₀ (s.dropHealth k) := by
  unfold State.dropHealth
  extract_lets m a
  have ha : SameEsc s₀ a := h.same rfl
  exact ha.disarm.modChk
theorem SameEsc.clearPd : SameEsc s₀ (s.clearPd k) := by
  unfold State.clearPd
  extract_lets a b c d e f g i j m n ref
  have ha : SameEsc s₀ a := h.disarmAll.dropHealth
  have hf : SameEsc s₀ f := ha.modPd.modChk.modCnv.set.set.put.put.set.put
  have hg : SameEsc s₀ g := .ite hf hf.set
  have hj : SameEsc s₀ j := hg.setWord.setWord.put.put
  have hm : SameEsc s₀ m := .ite hj hj.put
  have hn : SameEsc s₀ n := .ite hm hm.set
  exact hn.modBrk
theorem SameEsc.hardOpen : SameEsc s₀ (s.hardOpen k) := h.openSwitch.stopConverter.clearPd
theorem SameEsc.settleOpen : SameEsc s₀ (s.settleOpen k) := by
  unfold State.settleOpen
  extract_lets st a
  exact .ite h.modBrk h.modBrk.set
theorem SameEsc.latch : SameEsc s₀ (s.latch k) := by
  unfold State.latch
  extract_lets a
  exact .ite h.settleOpen h.disarm.modBrk.settleOpen.flag.warn
theorem SameEsc.beginOff {on : Nat} : SameEsc s₀ (s.beginOff k on) := h.arm.settleOpen
theorem SameEsc.classRules {on : Nat} {closed : Bool} : SameEsc s₀ (s.classRules k on closed) := by
  unfold State.classRules
  extract_lets n limit
  exact .ite h.latch (.ite h.latch h.set.beginOff)
theorem SameEsc.noteCause {cause : Nat} : SameEsc s₀ (s.noteCause k cause) := h.set.modPd

end
end

/-! The gate of an opened switch -/

/-- The fields that the rules after a trip write once the switch is being checked for open. -/
def ruleFields (k : PortId) : List Fld :=
  [F.BRK_STATUS_RETRIES k, (G.BRK_LATCHED k).bit, (G.BRK_LATCHED k).cnt] ++ logFields

section
variable {k : PortId}

theorem settleOpen_checking {s : State} (h : s.get (F.BRK_STATUS_STATE k) = 5) : (s.settleOpen k).regs = s.regs := by
  unfold State.settleOpen
  extract_lets st a
  have ha : a.get (F.BRK_STATUS_STATE k) = 5 := h
  rw [ha, if_pos (by simp)]
  rfl

theorem ruleFields_gate : ∀ k : PortId, Fld.outside (F.BRK_STATUS_STATE k) (ruleFields k) = true := by decide +kernel

theorem ruleFields_cause : ∀ k : PortId, Fld.outside (F.BRK_STATUS_LAST_CAUSE k) (ruleFields k) = true := by decide +kernel
theorem ruleFields_trip : ∀ k : PortId, Fld.outside (G.BRK_TRIP k).bit (ruleFields k) = true := by decide +kernel

theorem Writes.latch {s : State} (h : s.get (F.BRK_STATUS_STATE k) = 5) : Writes (ruleFields k) s (s.latch k) := by
  unfold State.latch
  extract_lets a
  have hopen : (a.settleOpen k).regs = s.regs := settleOpen_checking (s := a) h
  refine .ite ((Writes.refl s).same (settleOpen_checking h)) ?_
  exact (((Writes.refl s).same hopen).flag (by simp) (by simp)).warn (List.subset_append_right _ _)

theorem Writes.classRules {s : State} {on : Nat} {closed : Bool} (h : s.get (F.BRK_STATUS_STATE k) = 5) :
    Writes (ruleFields k) s (s.classRules k on closed) := by
  unfold State.classRules
  extract_lets n limit
  refine .ite (.latch h) (.ite (.latch h) ?_)
  have hset : Writes [F.BRK_STATUS_RETRIES k] s (s.set (F.BRK_STATUS_RETRIES k) (min 255 n)) := (Writes.refl s).set (by simp)
  have hgate : (s.set (F.BRK_STATUS_RETRIES k) (min 255 n)).get (F.BRK_STATUS_STATE k) = 5 :=
    (hset _ (by clear * -; decide +revert)).trans h
  generalize s.set (F.BRK_STATUS_RETRIES k) (min 255 n) = u at *
  exact ((hset.mono (by simp [ruleFields])).arm (x := .retryOff k)).same (settleOpen_checking (s := u.arm _ _) hgate)

theorem stateFields_clear : ∀ k : PortId, Fld.outside (F.BRK_STATUS_STATE k) (clearFields k) = true := by decide +kernel

theorem openSwitch_state {s : State} (h : s.portPresent k = true) : (s.openSwitch k).get (F.BRK_STATUS_STATE k) = 5 := by
  unfold State.openSwitch
  extract_lets vb vc i hi driven safe a b c d
  have hc : c.get (F.BRK_STATUS_STATE k) = 5 :=
    (get_set_apart _ _ _ _ (by clear * -; decide +revert) (by clear * -; decide +revert)).trans
      (get_set_self _ (F.BRK_STATUS_STATE k) _ (by clear * -; decide +revert))
  have hd : d.get (F.BRK_STATUS_STATE k) = 5 := hc
  clear_value d
  rw [if_pos h]
  split
  · exact (get_set_apart _ _ _ _ (by clear * -; decide +revert) (by clear * -; decide +revert)).trans hd
  · exact hd

theorem hardOpen_state {s : State} (h : s.portPresent k = true) : (s.hardOpen k).get (F.BRK_STATUS_STATE k) = 5 := by
  have hw : Writes (clearFields k) (s.openSwitch k) (s.hardOpen k) := ((Writes.refl _).stopConverter fun _ hf => hf).clearPd fun _ hf => hf
  exact (hw _ (stateFields_clear k)).trans (openSwitch_state h)

/-- An opened port with its trip's cause, flag and time shown. -/
def State.causeShown (s : State) (k : PortId) (cause on : Nat) : State :=
  let s := (s.modBrk k fun b => { b with acc := 0 }).set (F.BRK_STATUS_ACC k) 0
  ((s.noteCause k cause).flag (G.BRK_TRIP k)).set (F.BRK_TIME_T_ON k) (min 0xFFFF (on / msec 1))

def causeFields (k : PortId) : List Fld :=
  [F.BRK_STATUS_ACC k, F.BRK_STATUS_LAST_CAUSE k, (G.BRK_TRIP k).bit, (G.BRK_TRIP k).cnt, F.BRK_TIME_T_ON k]

theorem causeShown_writes (s : State) (k : PortId) (cause on : Nat) : Writes (causeFields k) s (s.causeShown k cause on) := by
  unfold State.causeShown
  extract_lets a
  have ha : Writes (causeFields k) s a := (Writes.refl s).modBrk.set (f := F.BRK_STATUS_ACC k) (by simp [causeFields])
  have hb : Writes (causeFields k) s (a.noteCause k cause) := (ha.set (f := F.BRK_STATUS_LAST_CAUSE k) (by simp [causeFields])).modPd
  exact (hb.flag (by simp [causeFields]) (by simp [causeFields])).set (by simp [causeFields])

theorem causeShown_esc (s : State) (k : PortId) (cause on : Nat) : SameEsc s (s.causeShown k cause on) :=
  (SameEsc.refl s).modBrk.set.noteCause.flag.set

theorem causeShown_cause (s : State) (k : PortId) (cause on : Nat) :
    (s.causeShown k cause on).get (F.BRK_STATUS_LAST_CAUSE k) = cause % 2 ^ (F.BRK_STATUS_LAST_CAUSE k).width := by
  unfold State.causeShown
  extract_lets a
  clear_value a
  have hnote : Writes [] (a.set (F.BRK_STATUS_LAST_CAUSE k) cause) (a.noteCause k cause) := (Writes.refl _).modPd
  have hkeep : Writes [(G.BRK_TRIP k).bit, (G.BRK_TRIP k).cnt, F.BRK_TIME_T_ON k] (a.noteCause k cause)
      (((a.noteCause k cause).flag (G.BRK_TRIP k)).set (F.BRK_TIME_T_ON k) (min 0xFFFF (on / msec 1))) :=
    ((Writes.refl _).flag (by simp) (by simp)).set (by simp)
  rw [hkeep _ (by clear * -; decide +revert), hnote _ (by clear * -; decide +revert), get_set_self _ _ _ (by clear * -; decide +revert)]

theorem causeShown_trip (s : State) (k : PortId) (cause on : Nat) : (s.causeShown k cause on).has (G.BRK_TRIP k).bit = true := by
  unfold State.causeShown
  extract_lets a
  rw [State.has, get_set_apart _ _ _ _ (by clear * -; decide +revert) (by clear * -; decide +revert)]
  exact has_flag_self _ _ (by clear * -; decide +revert) (by clear * -; decide +revert) (by clear * -; decide +revert)

/-- A trip as far as its fault is classified. -/
def State.broken (s : State) (k : PortId) (cause : Nat) : State :=
  ((s.hardOpen k).causeShown k cause (s.now - max (s.port k).brk.closeAt (s.port k).brk.accZeroAt)).classRules k
    (s.now - max (s.port k).brk.closeAt (s.port k).brk.accZeroAt) (s.switchDriven k)

theorem tripPort_eq (s : State) (k : PortId) (cause : Nat) : s.tripPort k cause = (s.broken k cause).raise (portFault k 2 cause) := rfl

/-- The fields that a trip of port k writes before its fault is classified. -/
def breakFields (k : PortId) : List Fld := shutFields k ++ causeFields k ++ ruleFields k

theorem broken_facts {s : State} {cause : Nat} (h : s.portPresent k = true) : SameEsc s (s.broken k cause) ∧
    Writes (breakFields k) s (s.broken k cause) ∧ (s.broken k cause).get (F.BRK_STATUS_STATE k) = 5 ∧
    (s.broken k cause).get (F.BRK_STATUS_LAST_CAUSE k) = cause % 2 ^ (F.BRK_STATUS_LAST_CAUSE k).width ∧
    (s.broken k cause).has (G.BRK_TRIP k).bit = true := by
  unfold State.broken
  generalize s.now - max (s.port k).brk.closeAt (s.port k).brk.accZeroAt = on
  have hstate := hardOpen_state h
  have hesc : SameEsc s (s.hardOpen k) := (SameEsc.refl s).hardOpen
  have hopen : Writes (breakFields k) s (s.hardOpen k) := (Writes.refl s).hardOpen fun _ hf => by simp [breakFields, hf]
  generalize s.hardOpen k = u at *
  have hw := causeShown_writes u k cause on
  have hgate : (u.causeShown k cause on).get (F.BRK_STATUS_STATE k) = 5 := (hw _ (by clear * -; decide +revert)).trans hstate
  have hcause := causeShown_cause u k cause on
  have htrip := causeShown_trip u k cause on
  have hesc' := (causeShown_esc u k cause on).trans hesc
  generalize u.causeShown k cause on = v at *
  have hrule : Writes (ruleFields k) v (v.classRules k on (s.switchDriven k)) := .classRules hgate
  refine ⟨SameEsc.classRules hesc', (hopen.trans (hw.mono fun _ hf => List.mem_append_left _ (List.mem_append_right _ hf))).trans
    (hrule.mono fun _ hf => by simp [breakFields, hf]), ?_, ?_, ?_⟩
  · rw [hrule _ (ruleFields_gate k), hgate]
  · rw [hrule _ (ruleFields_cause k), hcause]
  · rw [hrule.has _ (ruleFields_trip k), htrip]

end

end Sys2Proof.Machine
end

section
/-!
The Axkan link: the cascade line, the master's cycle, the slave's window, and what a frame is heard as (R333–R341).
-/
namespace Sys2Proof.Machine

/-! The cascade line -/

theorem setPhase_axl (s : State) (p : Nat) : (s.setPhase p).axl = s.axl := by
  unfold State.setPhase
  split
  · rfl
  · rfl
theorem beginUpStep_axl (s : State) (n : Nat) : (s.beginUpStep n).axl = s.axl := by
  unfold State.beginUpStep
  extract_lets q t u
  refine forAll_invariant (g := State.axl) (fun j v => ?_) (t.upRails n) t
  split
  · rfl
  · rfl
theorem beginUpStep_armed (s : State) (n : Nat) : (s.beginUpStep n).has F.AXL_STATUS_CASC_ARMED = s.has F.AXL_STATUS_CASC_ARMED := by
  unfold State.beginUpStep
  extract_lets q t u
  have hu : u.has F.AXL_STATUS_CASC_ARMED = t.has F.AXL_STATUS_CASC_ARMED := by
    refine forAll_invariant (g := fun v => v.has F.AXL_STATUS_CASC_ARMED) (fun j v => ?_) (t.upRails n) t
    split
    · rfl
    · simp (disch := (clear * -; decide +revert))
  clear_value u
  exact Eq.trans (by simp (disch := decide)) hu
theorem setPhase_armed (s : State) (p : Nat) : (s.setPhase p).has F.AXL_STATUS_CASC_ARMED = s.has F.AXL_STATUS_CASC_ARMED := by
  unfold State.setPhase
  split
  · rfl
  · simp (disch := decide)
theorem tryPowerUp_facts (s : State) : s.tryPowerUp.axl = s.axl ∧ s.tryPowerUp.has F.AXL_STATUS_CASC_ARMED = s.has F.AXL_STATUS_CASC_ARMED := by
  unfold State.tryPowerUp
  split
  · exact ⟨(beginUpStep_axl _ _).trans (setPhase_axl s 1), (beginUpStep_armed _ _).trans (setPhase_armed s 1)⟩
  · exact ⟨rfl, rfl⟩

/-- The part with its cascade line fallen. -/
def State.cascLow (s : State) : State := { s with axl := { s.axl with cascHigh := false } }
/-- The fallen line as the master notes it on its chain. -/
def State.chainLow (s : State) : State := if s.isMaster then { s.cascLow with axl := { s.cascLow.axl with chainFault := true } } else s.cascLow

theorem chainLow_facts (s : State) : s.chainLow.axl.cascHigh = false ∧ s.chainLow.axl.chainFault = (s.axl.chainFault || s.isMaster) ∧
    s.chainLow.regs = s.regs ∧ s.chainLow.upd = s.upd := by
  unfold State.chainLow
  cases s.isMaster
  · exact ⟨rfl, (Bool.or_false _).symm, rfl, rfl⟩
  · exact ⟨rfl, (Bool.or_true _).symm, rfl, rfl⟩

theorem cascFault_eq {s : State} (harmed : s.has F.AXL_STATUS_CASC_ARMED = true) (hdw : s.isIn .deepWinter = false) :
    exec .cascFault s = .next ((s.chainLow.flag G.AXL_CASC).raise 0xE904) := if_pos (by
  show (s.has F.AXL_STATUS_CASC_ARMED && !s.isIn .deepWinter) = true
  rw [harmed, hdw]; rfl)

/-! Frames -/

theorem gateCheck_idle {s : State} (h : s.seq.sub ≠ .gate) : s.gateCheck = s := if_pos h

theorem heard_facts (s : State) (n b95 b79 cyc : Nat) : (s.heard n b95 b79 cyc).regs = s.regs ∧
    (s.heard n b95 b79 cyc).axl.cyc = s.axl.cyc ∧ (s.heard n b95 b79 cyc).axl.joined = s.axl.joined ∧
    (s.heard n b95 b79 cyc).axl.bootsM = s.axl.bootsM ∧ (s.heard n b95 b79 cyc).axl.kS = s.axl.kS ∧
    (s.heard n b95 b79 cyc).axl.reported = s.axl.reported ∧
    (s.heard n b95 b79 cyc).axl.sinceValid = s.axl.sinceValid.set n 0 ∧ (s.heard n b95 b79 cyc).seq = s.seq := by
  unfold State.heard
  extract_lets t back
  split
  · exact ⟨rfl, rfl, rfl, rfl, rfl, rfl, rfl, rfl⟩
  · exact ⟨rfl, rfl, rfl, rfl, rfl, rfl, rfl, rfl⟩

theorem macFailed_facts (s : State) : s.macFailed.has G.AXL_MAC.bit = true ∧ s.macFailed.axl = s.axl := by
  have hlog := warn_logged (code := 0x2901) (.refl (s.flag G.AXL_MAC))
  exact ⟨(hlog.has _ (by decide)).trans (has_flag_self _ _ (by decide) (by decide) (by decide)), hlog.axl⟩
theorem cycFailed_facts (s : State) : s.cycFailed.has G.AXL_CYC_BAD.bit = true ∧ s.cycFailed.axl = s.axl := by
  have hlog := warn_logged (code := 0x2903) (.refl (s.flag G.AXL_CYC_BAD))
  exact ⟨(hlog.has _ (by decide)).trans (has_flag_self _ _ (by decide) (by decide) (by decide)), hlog.axl⟩

theorem releaseFields_same (s : State) (cyc : Nat) : (s.releaseFields cyc).axl = s.axl ∧ (s.releaseFields cyc).seq = s.seq := ⟨rfl, rfl⟩

/-- The master's cycle as counted, its reports forgotten. -/
def State.cycled (s : State) : State :=
  let s := s.ageLink
  let s := { s with axl := { s.axl with cyc := (s.axl.cyc + 1) % 2 ^ 48, reported := [], kS := s.linkKey s.boot.boots } }
  if s.chainSize = 1 && s.isIn .spring then { s with axl := { s.axl with arm := true } } else s

theorem cycled_facts (s : State) : s.cycled.axl.cyc = (s.axl.cyc + 1) % 2 ^ 48 ∧ s.cycled.axl.reported = [] ∧ s.cycled.seq = s.seq := by
  unfold State.cycled
  extract_lets t u
  split
  · exact ⟨rfl, rfl, rfl⟩
  · exact ⟨rfl, rfl, rfl⟩

/-- The four go fields of a SYNC taken over. -/
def State.goTaken (s : State) (top : Nat) : State :=
  (((s.put F.AXL_STATUS_UPV (top.testBit 57)).put F.AXL_STATUS_DNV (top.testBit 56)).set F.AXL_STATUS_GO_UP (top / 2 ^ 52)).set
    F.AXL_STATUS_GO_DN (top / 2 ^ 48)

theorem goTaken_facts (s : State) (top : Nat) : (s.goTaken top).has F.AXL_STATUS_UPV = top.testBit 57 ∧
    (s.goTaken top).has F.AXL_STATUS_DNV = top.testBit 56 ∧ (s.goTaken top).get F.AXL_STATUS_GO_UP = top / 2 ^ 52 % 16 ∧
    (s.goTaken top).get F.AXL_STATUS_GO_DN = top / 2 ^ 48 % 16 := by
  refine ⟨?_, ?_, ?_, ?_⟩
  · simp (disch := decide) [State.goTaken]
  · simp (disch := decide) [State.goTaken]
  · rw [State.goTaken, get_set_apart _ _ _ _ (by decide) (by decide), get_set_self _ _ _ (by decide)]
    rfl
  · rw [State.goTaken, get_set_self _ _ _ (by decide)]
    rfl

/-- A part with one frame sent. -/
def State.sends (s : State) (f : BitVec 96) : State := { s with axl := { s.axl with sent := [f] } }

theorem axkanCycle_eq {s : State} (h : (s.isMaster && s.linkServed) = true) : ∃ f,
    exec .axkanCycle s = .next (s.cycled.sends f) ∨
    exec .axkanCycle s = .next ((s.cycled.releaseFields s.axl.cyc).sends f).gateCheck := by
  have hexec : exec .axkanCycle s = execAxkanCycle s := rfl
  rw [hexec, execAxkanCycle, if_pos h]
  extract_lets prev cyc t q u q' v join top q'' r f
  by_cases hj : join = true
  · exact ⟨_, .inl (if_pos hj)⟩
  · exact ⟨_, .inr (if_neg hj)⟩

/-- Settles O36, arm by arm: the cascade line, then each frame under its MAC and cycle. -/
theorem axkanLinkActs : Obligations.AxkanLinkActs := by
  refine ⟨fun s hon hok hfault => ?_, fun s harmed hm hdw => ?_, fun s harmed hs hpaused => ?_, fun s hm hserved hsub => ?_,
    fun s hserved hpos hjoined => ?_, fun s f hserved hpos htype hboots hmac hsrc hcyc hsub => ?_,
    fun s f hserved hpos htype hmac hsrc hboots => ?_, fun s f hm hserved htype hmac hcyc hn hsize => ?_,
    fun s f hm hserved htype hcyc hmac => ?_, fun s f hm hserved htype hcyc => ?_, fun s hm hserved hlost hage hcalm => ?_⟩
  · have hexec : exec .cascArm s = .next (({ s with axl := { s.axl with cascHigh := true } }.put F.AXL_STATUS_CASC_ARMED true).tryPowerUp) :=
      if_pos (by show (s.linkOn && s.cascOk && !s.axl.chainFault) = true; rw [hon, hok, hfault]; rfl)
    obtain ⟨haxl, harmed⟩ := tryPowerUp_facts ({ s with axl := { s.axl with cascHigh := true } }.put F.AXL_STATUS_CASC_ARMED true)
    exact .of_eq hexec ⟨harmed.trans (has_put_self _ _ _ (by decide) (by decide)), (congrArg Axl.cascHigh haxl).trans rfl⟩
  · rw [cascFault_eq harmed hdw, State.chainLow, if_neg (by rw [hm]; exact Bool.false_ne_true)]
    rfl
  · have hdw : s.isIn .deepWinter = false := by simpa [State.isAny] using isAny_disjoint (l' := [.deepWinter]) hs (by decide)
    obtain ⟨hhigh, hfault, hregs, hupd⟩ := chainLow_facts s
    have hexec := cascFault_eq harmed hdw
    have hlow : Writes [G.AXL_CASC.bit, G.AXL_CASC.cnt] s (s.chainLow.flag G.AXL_CASC) :=
      ((Writes.refl s).same hregs).flag (by simp) (by simp)
    have hbit : (s.chainLow.flag G.AXL_CASC).has G.AXL_CASC.bit = true := has_flag_self _ _ (by decide) (by decide) (by decide)
    have haxl : (s.chainLow.flag G.AXL_CASC).axl = s.chainLow.axl := rfl
    have hrun : (s.chainLow.flag G.AXL_CASC).upd.paused = false := (congrArg Upd.paused hupd).trans hpaused
    generalize s.chainLow.flag G.AXL_CASC = u at *
    have hstate : u.isAny [.spring, .summer] = true := (hlow.isAny (by decide) _).trans hs
    obtain ⟨hwinter, -⟩ := raise_fatal_entered (s := u) (code := 0xE904) rfl rfl hstate hrun
    obtain ⟨hfatal, hcode⟩ := raise_fatal_held (s := u) (code := 0xE904) rfl rfl
    have hraise : Writes fatalFields u (u.raise 0xE904) := raise_fatal_writes rfl rfl
    have hkeep := (raise_fatal_beside (s := u) (code := 0xE904) rfl rfl).axl.trans haxl
    refine .of_eq hexec ⟨?_, ?_, ?_, hfatal, hwinter, ?_⟩
    · rw [hkeep, hhigh]
    · rw [hkeep, hfault]
    · rw [hraise.has _ (by decide +kernel), hbit]
    · rw [hcode, hlow _ (by decide)]
      rfl
  · obtain ⟨hcyc, hreported, hseq⟩ := cycled_facts s
    obtain ⟨f, h | h⟩ := axkanCycle_eq (s := s) (by rw [hm, hserved]; rfl)
    · exact .of_eq h ⟨hcyc, rfl, hreported⟩
    · rw [gateCheck_idle (by show s.cycled.seq.sub ≠ .gate; rw [hseq]; exact hsub)] at h
      exact .of_eq h ⟨hcyc, rfl, hreported⟩
  · have hexec : exec .axkanSlaveWindow s = execAxkanSlaveWindow s := rfl
    rw [hexec, execAxkanSlaveWindow, if_pos (by rw [hserved]; simpa using hpos)]
    extract_lets t hi top
    rw [if_pos (show t.axl.joined = true from hjoined)]
    exact ⟨_, rfl, rfl, rfl, fun _ _ => rfl⟩
  · have hexec : exec (.axkanSync f) s = execAxkanSync f s := rfl
    rw [hexec, execAxkanSync, if_pos (by rw [hserved, htype]; simpa using hpos)]
    extract_lets top cyc q t u v w
    obtain ⟨boots, hb⟩ := Option.ne_none_iff_exists'.mp hboots
    have hgood : (s.axl.bootsM.isNone || decide (f.toNat % 2 ^ 32 ≠ s.linkMac s.axl.kS (some cyc) top) || decide (frameSrc f ≠ 0)) = false := by
      rw [hb, hsrc, ← hmac]; simp
    rw [if_neg (by rw [hgood]; exact Bool.false_ne_true), if_neg (Nat.not_le.mpr hcyc)]
    obtain ⟨-, hc, hj, -, -, -, -, hseq⟩ := heard_facts t 0 (top / 2 ^ 48) (top / 2 ^ 32 % 2 ^ 16) cyc
    show Answers (.next (u.goTaken top).gateCheck) _
    rw [gateCheck_idle (by show u.seq.sub ≠ .gate; rw [hseq]; exact hsub)]
    exact ⟨_, rfl, hc, hj, goTaken_facts u top⟩
  · have hexec : exec (.axkanJoin f) s = execAxkanJoin f s := rfl
    rw [hexec, execAxkanJoin, if_pos (by rw [hserved, htype]; simpa using hpos)]
    extract_lets top boots q t
    have hgood : (decide (f.toNat % 2 ^ 32 ≠ s.linkMac s.joinKey none top) || decide (frameSrc f ≠ 0)) = false := by
      rw [hsrc, ← hmac]; simp
    rw [if_neg (by rw [hgood]; exact Bool.false_ne_true)]
    have ht : t = { s with axl := { s.axl with bootsM := some boots, kS := s.linkKey boots, cyc := 0, repCyc := 1, joined := false } } :=
      if_neg hboots
    obtain ⟨hregs, hc, hj, hb, hk, -⟩ := heard_facts t 0 (top / 2 ^ 48) (top / 2 ^ 32 % 2 ^ 16) t.axl.cyc
    refine ⟨_, rfl, ?_, ?_, ?_, ?_, fun a _ => ?_⟩
    · rw [hb, ht]
    · rw [hk, ht]
    · rw [hc, ht]
    · rw [hj, ht]
    · rw [State.word, hregs, ht]; rfl
  · have hexec : exec (.axkanReport f) s = execAxkanReport f s := rfl
    rw [hexec, execAxkanReport, if_pos (by rw [hm, hserved, htype]; rfl)]
    extract_lets top n t q u all
    rw [if_neg (not_not_intro hcyc), if_neg (not_not_intro hmac), if_neg (by simpa using ⟨hn, hsize⟩)]
    obtain ⟨hregs, -, -, -, -, hr, hv, -⟩ := heard_facts s n (top / 2 ^ 48) (top / 2 ^ 32 % 2 ^ 16) s.axl.cyc
    have hmid : u.axl.reported = n :: s.axl.reported ∧ u.axl.sinceValid = s.axl.sinceValid.set n 0 ∧ u.regs = s.regs :=
      ⟨congrArg (n :: ·) hr, hv, hregs⟩
    obtain ⟨hr', hv', hregs'⟩ := hmid
    clear_value u
    split
    · exact ⟨_, rfl, hr', hv', fun a _ => congrArg (bankRead regReset · a) hregs'⟩
    · exact ⟨_, rfl, hr', hv', fun a _ => congrArg (bankRead regReset · a) hregs'⟩
  · have hexec : exec (.axkanReport f) s = .next s.macFailed := by
      rw [show exec (.axkanReport f) s = execAxkanReport f s from rfl, execAxkanReport, if_pos (by rw [hm, hserved, htype]; rfl)]
      exact (if_neg (not_not_intro hcyc)).trans (if_pos hmac)
    exact .of_eq hexec ⟨(macFailed_facts s).1, congrArg Axl.reported (macFailed_facts s).2⟩
  · have hexec : exec (.axkanReport f) s = .next s.cycFailed := by
      rw [show exec (.axkanReport f) s = execAxkanReport f s from rfl, execAxkanReport, if_pos (by rw [hm, hserved, htype]; rfl)]
      exact if_pos hcyc
    exact .of_eq hexec ⟨(cycFailed_facts s).1, congrArg Axl.reported (cycFailed_facts s).2⟩
  · have hexec : exec .axkanLinkLost s = .next (({ s with axl := { s.axl with lost := true } }.flag G.AXL_LOST).raise 0xA902) := by
      refine if_pos ?_
      show (s.linkServed && (if s.isMaster then _ else Nat.ble 4 (s.linkAge 0)) && !s.axl.lost) = true
      rw [hserved, if_neg (by rw [hm]; exact Bool.false_ne_true), hlost]
      simpa using hage
    have hflag : Writes [G.AXL_LOST.bit, G.AXL_LOST.cnt] s ({ s with axl := { s.axl with lost := true } }.flag G.AXL_LOST) :=
      ((Writes.refl s).same rfl).flag (by simp) (by simp)
    have hbit : ({ s with axl := { s.axl with lost := true } }.flag G.AXL_LOST).has G.AXL_LOST.bit = true :=
      has_flag_self _ _ (by decide) (by decide) (by decide)
    have haxl : ({ s with axl := { s.axl with lost := true } }.flag G.AXL_LOST).axl.lost = true := rfl
    generalize { s with axl := { s.axl with lost := true } }.flag G.AXL_LOST = u at *
    have hw : Writes containedFields u (u.raise 0xA902) := raise_contained_writes rfl (by decide)
    have hb : Beside u (u.raise 0xA902) := raise_contained_beside rfl (by decide)
    refine .of_eq hexec ⟨(congrArg Axl.lost hb.axl).trans haxl, ?_, ?_, ?_⟩
    · rw [hw.has _ (by decide +kernel), hflag.has _ (by decide)]
    · rw [hw.has _ (by decide +kernel), hflag.has _ (by decide)]
    · rw [hw.has _ (by decide +kernel), hbit]

end Sys2Proof.Machine
end

section
/-!
Measurement and the schedule: conversions, plausibility, superframe checks, shadow bank, check, swap and windows (R124–R137).
-/
namespace Sys2Proof.Machine

/-! Conversions -/

theorem entryNow_converting {s t : State} (h : Converting s t) (hf : t.frameNo = s.frameNo) (a : AdcId) (pos : Nat) :
    t.entryNow a pos = s.entryNow a pos := by
  have hactive : t.get F.SCH_STATUS_ACTIVE = s.get F.SCH_STATUS_ACTIVE := congrArg (F.SCH_STATUS_ACTIVE.extract ·) h.sch
  unfold State.entryNow State.activeBank State.shadowIsB
  rw [hactive, hf, h.bankA, h.bankB]

theorem frameNo_converting {s t : State} (h : Converting s t) : t.frameNo = s.frameNo := by
  unfold State.frameNo State.tb
  rw [h.now, h.tbZero]

/-- A position within the present frame comes in the present frame. -/
theorem frameNo_advanceTo {s : State} {pos : Nat} (h : pos < 128) : (s.advanceTo (s.now - s.tb % 1024 + 8 * pos)).frameNo = s.frameNo := by
  unfold State.frameNo State.tb State.advanceTo
  cases s.tbZero with
  | none => rfl
  | some z =>
    dsimp only
    omega

theorem convert_takes {s : State} {a : AdcId} {pos : Nat} {ecc : Bool} {c : BitVec 14} (hecc : (ecc && decide (s.get F.SCH_STATUS_ACTIVE ≠ 0)) = false)
    (hch : s.entryNow a pos % 256 ≠ 0xFF) (hdis : (s.entryNow a pos).testBit 8 = false) :
    (s.convert a pos ecc (some c)).result? (s.entryNow a pos % 256) = some c.toNat := by
  obtain ⟨b, w, hb⟩ : ∃ b w, s.convert a pos ecc (some c) = (if (s.entryNow a pos).testBit 8 = true then s
      else s.takeResult a (s.entryNow a pos % 256) c.toNat).when b fun t => t.capWord w :=
    ⟨_, _, (if_neg (by rw [hecc]; exact Bool.false_ne_true)).trans (if_neg hch)⟩
  rw [hb, if_neg (by rw [hdis]; exact Bool.false_ne_true)]
  have hstored : Sampled (s.takeResult a (s.entryNow a pos % 256) c.toNat)
      ((s.takeResult a (s.entryNow a pos % 256) c.toNat).when b fun t => t.capWord w) := (Sampled.refl _).when fun _ ht => ht.capWord
  rw [State.result?, hstored.res]
  exact (takeResult_facts s a (s.entryNow a pos % 256) c.toNat).2

/-- The state before the conversion of ADC 3. -/
def State.threeConverted (s : State) (pos : Nat) (ecc : BitVec 4) (r0 r1 r2 : Option (BitVec 14)) : State :=
  ((((s.advanceTo (s.now - s.tb % 1024 + 8 * pos)).capMarker.convert 0 pos (ecc.getLsbD 0) r0).convert 1 pos (ecc.getLsbD 1) r1).convert 2 pos
    (ecc.getLsbD 2) r2)

theorem exec_adcConversion {s : State} (h : s.isIn .deepWinter = false) (pos : Nat) (ecc : BitVec 4) (r0 r1 r2 r3 : Option (BitVec 14)) :
    exec (.adcConversion pos ecc r0 r1 r2 r3) s = .next ((s.threeConverted pos ecc r0 r1 r2).convert 3 pos (ecc.getLsbD 3) r3) :=
  if_neg (by rw [h]; exact Bool.false_ne_true)

theorem threeConverted_converting (s : State) (pos : Nat) (ecc : BitVec 4) (r0 r1 r2 : Option (BitVec 14)) :
    Converting (s.advanceTo (s.now - s.tb % 1024 + 8 * pos)) (s.threeConverted pos ecc r0 r1 r2) :=
  ((((Sampled.refl _).capMarker.converting).trans (convert_converting _ 0 pos _ r0)).trans (convert_converting _ 1 pos _ r1)).trans
    (convert_converting _ 2 pos _ r2)

/-- ADC 3 stores a result where its entry is executed and not discarded. -/
theorem conversion_stored {s : State} {pos : Nat} {ecc : BitVec 4} {r0 r1 r2 : Option (BitVec 14)} {c : BitVec 14} {e : Nat}
    (hdw : s.isIn .deepWinter = false) (he : (s.advanceTo (s.now - s.tb % 1024 + 8 * pos)).entryNow 3 pos = e)
    (hecc : (ecc.getLsbD 3 && decide (s.get F.SCH_STATUS_ACTIVE ≠ 0)) = false) (hch : e % 256 ≠ 0xFF) (hdis : e.testBit 8 = false) :
    Answers (exec (.adcConversion pos ecc r0 r1 r2 (some c)) s) fun t => t.result? (e % 256) = some c.toNat ∧
    t.now = max s.now (s.now - s.tb % 1024 + 8 * pos) := by
  have hconv := threeConverted_converting s pos ecc r0 r1 r2
  have hactive : (s.threeConverted pos ecc r0 r1 r2).get F.SCH_STATUS_ACTIVE = s.get F.SCH_STATUS_ACTIVE :=
    congrArg (F.SCH_STATUS_ACTIVE.extract ·) hconv.sch
  have hentry := entryNow_converting hconv (frameNo_converting hconv) 3 pos
  rw [he] at hentry
  refine .of_eq (exec_adcConversion hdw pos ecc r0 r1 r2 (some c)) ⟨?_, ?_⟩
  · rw [← hentry]
    exact convert_takes (by rw [hactive]; exact hecc) (by rw [hentry]; exact hch) (by rw [hentry]; exact hdis)
  · exact (convert_converting _ 3 pos _ _).now.trans hconv.now

/-! Plausibility -/

/-- The runs of bad frames after the present one. -/
def State.badRunNext (s : State) : List Nat :=
  (List.range 4).map fun a => if s.msr.badNow.testBit a then min 3 (s.msr.badRun.getD a 0 + 1) else 0

/-- The present frame judged. -/
def State.frameJudged (s : State) : State := { s with msr := { s.msr with badNow := 0, badRun := s.badRunNext } }

theorem exec_framePlausibility (s : State) : exec .framePlausibility s =
    .next ((s.frameJudged.when ((List.range 4).any fun a => s.msr.badNow.testBit a) fun t => t.flag G.MSR_GROSS).when (s.badRunNext.contains 2)
      fun t => t.classify 0xE506) := rfl

theorem badRunNext_eq (s : State) (h : s.msr.badRun = [0, 0, 0, 0]) : s.badRunNext =
    [b2n (s.msr.badNow.testBit 0), b2n (s.msr.badNow.testBit 1), b2n (s.msr.badNow.testBit 2), b2n (s.msr.badNow.testBit 3)] := by
  unfold State.badRunNext
  rw [h]
  rfl

theorem b2n_contains_two (b c d e : Bool) : [b2n b, b2n c, b2n d, b2n e].contains 2 = false := by
  revert b c d e
  decide

/-! Superframe checks -/

/-- The fields that the headroom's term of port k writes. -/
def dropFields (k : PortId) : List Fld := F.CNV_DROP_DROP k :: F.CNV_STATUS_DROP_OK k :: logFields

/-- The three runs of failed superframe checks. -/
def State.checkRuns (s : State) : Nat × Nat × Nat := (s.msr.driftRun, s.msr.dualRun, s.msr.cmpRun)

theorem dropTerm_facts (s : State) (k : PortId) : Writes (dropFields k) s (s.dropTerm k) ∧ (s.dropTerm k).checkRuns = s.checkRuns := by
  have hopen : Writes (dropFields k) s (s.openWindows (.drop k) [portChan k 0, portChan k 1, portChan k 3]) ∧
      (s.openWindows (.drop k) [portChan k 0, portChan k 1, portChan k 3]).checkRuns = s.checkRuns := ⟨Writes.same (.refl s) rfl, rfl⟩
  unfold State.dropTerm
  extract_lets w means t
  clear_value means
  obtain ⟨hw, hr⟩ : Writes (dropFields k) s t ∧ t.checkRuns = s.checkRuns := hopen
  clear_value t
  split
  · exact ⟨Writes.modCnv (hw.set (by simp [dropFields])), hr⟩
  · split
    · exact ⟨Writes.modCnv (Writes.put (hw.set (by simp [dropFields])) (by simp [dropFields])), hr⟩
    · split
      · refine ⟨Writes.warn (Writes.put (Writes.set (Writes.modCnv hw) (by simp [dropFields])) (by simp [dropFields]))
          fun f hf => by simp [dropFields, hf], ?_⟩
        exact (congrArg (fun m : Msr => (m.driftRun, m.dualRun, m.cmpRun)) (warn_logged (.refl _)).msr).trans hr
      · exact ⟨hw.modCnv, hr⟩


/-- Both words of the comparators as a superframe's checks store them. -/
def State.outsideStored (s : State) (outside : BitVec 64) : State :=
  (s.set F.MSR_CMP_ST0_OUT (outside.toNat % 2 ^ 32)).set F.MSR_CMP_ST1_OUT (outside.toNat / 2 ^ 32)

/-- The runs of a superframe's checks, counted on. -/
def State.runsCounted (s : State) (drift dual cmp : Bool) : State :=
  let m := s.msr
  { s with msr := { m with driftRun := runNext m.driftRun drift, dualRun := runNext m.dualRun dual,
                           cmpRun := runNext m.cmpRun cmp, windows := m.windows.filter fun w => !w.isDual } }

/-- The headroom's terms and the bus energy of a superframe. -/
def State.superframeMeans (s : State) : State :=
  let t := Machine.forAll s.presentModulePorts (fun k t => t.dropTerm k) s.senseMeans
  (t.set F.BUS_VIN_E_BUS t.eBus).compareCrc

/-- The faults of runs of failed checks. -/
def State.runFaults (s : State) : State :=
  let s := s.when (s.msr.driftRun == 3) fun t => t.classify 0xE507
  let s := s.when (s.msr.dualRun == 3) fun t => t.classify 0xE508
  s.when (s.msr.cmpRun == 3) fun t => t.classify 0xE509

/-- The flags of failed checks. -/
def State.checkFlags (s : State) (drift dual cmp : Bool) : State :=
  ((s.when drift fun t => t.flag G.MSR_DRIFT).when dual fun t => t.flag G.MSR_DUAL).when cmp fun t => t.flag G.MSR_CMP

/-- A superframe's checks with what they find. -/
def State.superframeChecked (p : Bool × State) (dual cmp : Bool) : State :=
  ((p.2.runsCounted p.1 dual cmp).checkFlags p.1 dual cmp).superframeMeans.runFaults

theorem exec_superframe (s : State) (outside : BitVec 64) : exec (.superframeChecks outside) s =
    .next (State.superframeChecked (s.outsideStored outside).checkMeans (s.outsideStored outside).dualOutside
      ((List.range 64).any fun w => (s.outsideStored outside).windowDisagrees w (outside.getLsbD w))) := rfl

theorem exec_superframeChecks (s : State) (outside : BitVec 64) {u : State}
    (hdual : (s.outsideStored outside).dualOutside = false)
    (hcmp : ((List.range 64).any fun w => (s.outsideStored outside).windowDisagrees w (outside.getLsbD w)) = false)
    (hmeans : (s.outsideStored outside).checkMeans = (false, u)) :
    exec (.superframeChecks outside) s = .next ((u.runsCounted false false false).superframeMeans.runFaults) := by
  rw [exec_superframe, hmeans, hdual, hcmp]
  rfl

section
variable {s : State}

theorem checkMeans_closed (h : s.msr.windows = []) : s.checkMeans = (false, s) := by
  have hnone : ∀ id ch, s.window? id ch = none := fun id ch => by rw [State.window?, h]; rfl
  unfold State.checkMeans
  suffices hl : ∀ l : List AdcId, l.foldl (fun (p : Bool × State) a =>
      match p.2.window? (.check a) (0x82 + 4 * a.val) with
      | none => p
      | some w =>
        if w.n = 0 then p
        else
          let tol := min 64 (orDefault 16 (p.2.get F.MSR_CFG_DRIFT_TOL))
          let out := decide ((w.sum - ((p.2.checkTrim a * w.n : Nat) : Int)).natAbs > tol * w.n)
          (p.1 || out, (p.2.set (F.MSR_ADC_CHECK_MEAN a.val) (4 * w.sum / (w.n : Int)).toNat).openWindows (.check a) [0x82 + 4 * a.val]))
      (false, s) = (false, s) from hl adcs
  intro l
  induction l with
  | nil => rfl
  | cons a l ih =>
    rw [List.foldl_cons]
    simp only [hnone]
    exact ih

theorem dualOutside_closed (h : s.msr.windows = []) : s.dualOutside = false := by
  unfold State.dualOutside
  rw [h]
  rfl

theorem senseMeans_closed (h : s.msr.windows = []) : s.senseMeans = s := by
  have hnone : ∀ id ch, s.window? id ch = none := fun id ch => by rw [State.window?, h]; rfl
  unfold State.senseMeans
  suffices hl : ∀ l : List Nat, Machine.forAll l (fun m t =>
      match (t.window? (.senseSf m) (0x61 + m)).filter fun w => decide (w.n ≠ 0) with
      | none => t
      | some w => (t.set (F.SQI_MEAS_I_SF m) (toTwos 16 (t.senseMean m w.sum w.n))).openWindows (.senseSf m) [0x61 + m]) s = s from hl _
  intro l
  induction l with
  | nil => rfl
  | cons m l ih =>
    refine (congrArg (Machine.forAll l _) (?_ : _ = s)).trans ih
    simp only [hnone]
    rfl

end

theorem mem_allPorts (k : PortId) : k ∈ allPorts := by
  revert k
  decide

/-- The fields that the headroom's terms write. -/
def allDropFields : List Fld := allPorts.flatMap dropFields

theorem dropTerms_facts (l : List PortId) (s : State) : Writes allDropFields s (Machine.forAll l (fun k t => t.dropTerm k) s) ∧
    (Machine.forAll l (fun k t => t.dropTerm k) s).checkRuns = s.checkRuns := by
  refine ⟨(Writes.refl s).forAll fun k _ t ht => ht.trans ((dropTerm_facts t k).1.mono fun f hf => ?_),
    forAll_invariant (g := State.checkRuns) (fun k t => (dropTerm_facts t k).2) l s⟩
  exact List.mem_flatMap_of_mem (mem_allPorts k) hf

theorem runFaults_idle {s : State} (h : s.checkRuns = (0, 0, 0)) : s.runFaults = s := by
  obtain ⟨hdrift, hdual, hcmp⟩ : s.msr.driftRun = 0 ∧ s.msr.dualRun = 0 ∧ s.msr.cmpRun = 0 := by simpa [State.checkRuns] using h
  have hwhen : ∀ (t : State) (act : State → State), t.when (0 == 3) act = t := fun _ _ => rfl
  unfold State.runFaults
  simp only [hdrift, hdual, hcmp, hwhen]

/-- The means of a superframe whose windows are closed, under the default schedule. -/
theorem superframeMeans_closed {s : State} (hwin : s.msr.windows = []) (hact : s.get F.SCH_STATUS_ACTIVE = 0) : ∃ t, Writes allDropFields s t ∧
    t.checkRuns = s.checkRuns ∧ s.superframeMeans = t.set F.BUS_VIN_E_BUS t.eBus := by
  obtain ⟨hw, hr⟩ := dropTerms_facts s.presentModulePorts s
  refine ⟨Machine.forAll s.presentModulePorts (fun k t => t.dropTerm k) s, hw, hr, ?_⟩
  unfold State.superframeMeans
  rw [senseMeans_closed hwin]
  generalize Machine.forAll s.presentModulePorts (fun k t => t.dropTerm k) s = t at *
  have hset : Writes [F.BUS_VIN_E_BUS] t (t.set F.BUS_VIN_E_BUS t.eBus) := (Writes.refl t).set (by simp)
  exact if_pos (by rw [hset _ (by decide), hw _ (by decide +kernel), hact])

/-- The comparators' words alone differ. -/
structure SameButOutside (s t : State) : Prop where
  writes : Writes [F.MSR_CMP_ST0_OUT, F.MSR_CMP_ST1_OUT] s t
  ports : t.ports = s.ports
  boot : t.boot = s.boot
  now : t.now = s.now
  msr : t.msr = s.msr

section
variable {s t : State} (h : SameButOutside s t)
include h

theorem SameButOutside.has (f : Fld) (hf : Fld.outside f [F.MSR_CMP_ST0_OUT, F.MSR_CMP_ST1_OUT] = true) : t.has f = s.has f := h.writes.has f hf
theorem SameButOutside.port (k : PortId) : t.port k = s.port k := by rw [State.port, h.ports, State.port]
theorem SameButOutside.uvCode (j : RailId) : t.uvCode j = s.uvCode j := by
  unfold State.uvCode State.vnom State.mLow State.mgPos State.mgTarget
  rw [h.writes _ (by clear * -; decide +revert), h.has _ (by clear * -; decide +revert), h.writes _ (by clear * -; decide +revert),
    h.writes _ (by clear * -; decide +revert), h.writes _ (by clear * -; decide +revert)]
theorem SameButOutside.ovCode (j : RailId) : t.ovCode j = s.ovCode j := by
  unfold State.ovCode State.vnom State.mHigh State.mgPos State.mgTarget
  rw [h.writes _ (by clear * -; decide +revert), h.has _ (by clear * -; decide +revert), h.writes _ (by clear * -; decide +revert),
    h.writes _ (by clear * -; decide +revert), h.writes _ (by clear * -; decide +revert)]
theorem SameButOutside.switchClosed (k : PortId) : t.switchClosed k = s.switchClosed k := by
  unfold State.switchClosed
  rw [h.writes _ (by clear * -; decide +revert)]
theorem SameButOutside.armArmed (k : PortId) : t.armArmed k 1 = s.armArmed k 1 := by
  unfold State.armArmed
  rw [h.writes _ (by clear * -; decide +revert), h.has _ (by clear * -; decide +revert), h.has _ (by clear * -; decide +revert), h.switchClosed,
    h.port]
  rfl
theorem SameButOutside.ovLimit100 (k : PortId) : t.ovLimit100 k = s.ovLimit100 k := by
  unfold State.ovLimit100 State.vHold
  rw [h.writes _ (by clear * -; decide +revert), h.writes _ (by clear * -; decide +revert), h.port, h.now]
theorem SameButOutside.vcsnsHi100 (k : PortId) : t.vcsnsHi100 k = s.vcsnsHi100 k := by
  unfold State.vcsnsHi100
  rw [h.switchClosed, h.ovLimit100, h.port]

/-- The comparators' thresholds do not hang on the comparators' own words. -/
theorem SameButOutside.windowThr {w : Nat} (hw : w < 64) : t.windowThr w = s.windowThr w := by
  have hrail : ∀ j, t.railPresent j = s.railPresent j := fun j => by rw [State.railPresent, h.boot, State.railPresent]
  have hpresent : ∀ k, t.portPresent k = s.portPresent k := fun k => by rw [State.portPresent, h.boot, State.portPresent]
  unfold State.windowThr
  by_cases h16 : w < 16
  · rw [if_pos h16, if_pos h16]
    generalize railId w = j
    dsimp only
    rw [hrail, h.has _ (by clear * -; decide +revert), h.uvCode, h.has _ (by decide), h.ovCode]
  rw [if_neg h16, if_neg h16]
  by_cases h25 : w < 25
  · rw [if_pos h25, if_pos h25]
    generalize portId (w - 16) = k
    dsimp only
    rw [hpresent, h.armArmed, h.writes _ (by clear * -; decide +revert), h.ovLimit100]
  rw [if_neg h25, if_neg h25]
  by_cases h34 : w < 34
  · rw [if_pos h34, if_pos h34]
    dsimp only
    rw [hpresent, h.vcsnsHi100]
  rw [if_neg h34, if_neg h34]
  by_cases h43 : w < 43
  · rw [if_pos h43, if_pos h43]
    generalize portId (w - 34) = k
    dsimp only
    rw [hpresent, h.has _ (by clear * -; decide +revert), h.writes _ (by clear * -; decide +revert), h.writes _ (by clear * -; decide +revert)]
  rw [if_neg h43, if_neg h43]
  by_cases h47 : w < 47
  · rw [if_pos h47, if_pos h47]
    obtain ⟨m, hm⟩ : ∃ m : Fin 4, w - 43 = m.val := ⟨⟨w - 43, by omega⟩, rfl⟩
    rw [hm]
    dsimp only
    rw [h.boot, h.has _ (by clear * -; decide +revert), h.writes _ (by clear * -; decide +revert), h.writes _ (by clear * -; decide +revert),
      h.writes _ (by clear * -; decide +revert)]
  rw [if_neg h47, if_neg h47]
  by_cases h51 : w < 51
  · rw [if_pos h51, if_pos h51]
  rw [if_neg h51, if_neg h51]
  by_cases h55 : w < 55
  · rw [if_pos h55, if_pos h55, h.writes _ (by decide)]
  have h64 : ¬ 64 ≤ w := by omega
  rw [if_neg h55, if_neg h55, if_neg h64, if_neg h64]
  obtain ⟨n, hn⟩ : ∃ n : Fin 9, w - 55 = n.val := ⟨⟨w - 55, by omega⟩, rfl⟩
  rw [hn]
  dsimp only
  rw [h.writes _ (by clear * -; decide +revert), h.writes _ (by clear * -; decide +revert), h.writes _ (by clear * -; decide +revert)]

theorem SameButOutside.windowDisagrees {w : Nat} (hw : w < 64) (b : Bool) : t.windowDisagrees w b = s.windowDisagrees w b := by
  unfold State.windowDisagrees State.result?
  rw [h.windowThr hw, h.msr]
end

theorem outsideStored_same (s : State) (outside : BitVec 64) : SameButOutside s (s.outsideStored outside) :=
  ⟨Writes.set (Writes.set (.refl s) (by simp)) (by simp), rfl, rfl, rfl, rfl⟩

theorem outsideStored_words (s : State) (outside : BitVec 64) : (s.outsideStored outside).get F.MSR_CMP_ST0_OUT = outside.toNat % 2 ^ 32 ∧
    (s.outsideStored outside).get F.MSR_CMP_ST1_OUT = outside.toNat / 2 ^ 32 := by
  have hlow : outside.toNat % 2 ^ 32 < 2 ^ 32 := Nat.mod_lt _ (by decide)
  have hhigh : outside.toNat / 2 ^ 32 < 2 ^ 32 := by
    have := outside.isLt
    omega
  have hapart : Writes [F.MSR_CMP_ST1_OUT] (s.set F.MSR_CMP_ST0_OUT (outside.toNat % 2 ^ 32)) (s.outsideStored outside) :=
    (Writes.refl _).set (by simp)
  constructor
  · rw [hapart _ (by decide), get_set_self _ F.MSR_CMP_ST0_OUT _ (by decide)]
    exact Nat.mod_eq_of_lt hlow
  · refine (get_set_self _ F.MSR_CMP_ST1_OUT _ (by decide)).trans ?_
    exact Nat.mod_eq_of_lt hhigh

/-! The shadow bank -/

theorem sch_index_next (s : State) : (s.set F.SCH_ADDR_INDEX ((s.get F.SCH_ADDR_INDEX + 1) % 16384)).get F.SCH_ADDR_INDEX =
    (s.get F.SCH_ADDR_INDEX + 1) % 16384 :=
  (get_set_self _ F.SCH_ADDR_INDEX _ (by decide)).trans (Nat.mod_mod _ _)

/-- An entry written goes to the shadow bank alone. -/
theorem writeShadow_facts (s : State) (i : Nat) (w : Word) : (s.writeShadow i w).regs = s.regs ∧
    (s.writeShadow i w).shadowBank = bankWrite idleEntry s.shadowBank i w ∧ (s.writeShadow i w).activeBank = s.activeBank := by
  unfold State.writeShadow
  cases h : s.shadowIsB with
  | true =>
    rw [if_pos rfl]
    refine ⟨rfl, ?_, ?_⟩
    · rw [State.shadowBank, State.shadowBank, h]
      exact if_pos h
    · rw [State.activeBank, State.activeBank, h]
      exact if_pos h
  | false =>
    have hno : ¬ s.shadowIsB = true := by
      rw [h]
      exact Bool.false_ne_true
    rw [if_neg Bool.false_ne_true]
    refine ⟨rfl, ?_, ?_⟩
    · rw [State.shadowBank, State.shadowBank, h]
      exact if_neg hno
    · rw [State.activeBank, State.activeBank, h]
      exact if_neg hno

/-- The index moved on leaves both banks. -/
theorem banks_set_index (s : State) (v : Nat) : (s.set F.SCH_ADDR_INDEX v).shadowBank = s.shadowBank ∧
    (s.set F.SCH_ADDR_INDEX v).activeBank = s.activeBank := by
  have hact : (s.set F.SCH_ADDR_INDEX v).shadowIsB = s.shadowIsB := by
    rw [State.shadowIsB, (Writes.set (.refl s) (by simp) : Writes [F.SCH_ADDR_INDEX] s _) _ (by decide), State.shadowIsB]
  unfold State.shadowBank State.activeBank
  rw [hact]
  exact ⟨rfl, rfl⟩

/-! The check and the swap -/

/-- A swap refused, before its fault. -/
def State.swapRefused (s : State) (result chan frame index : Nat) : State :=
  ((((((s.set F.SCH_REFUSE_CHAN chan).set F.SCH_REFUSE_FRAME frame).set F.SCH_REFUSE_INDEX index).set F.SCH_STATUS_LAST_RESULT result).flag
    G.SCH_REFUSED).put F.SCH_STATUS_BUSY false)

theorem refuseSwap_eq (s : State) (result chan frame index code : Nat) :
    s.refuseSwap result chan frame index code = (s.swapRefused result chan frame index).raise code := rfl

theorem swapRefused_facts (s : State) (chan frame index : Nat) : (s.swapRefused 2 chan frame index).get F.SCH_STATUS_LAST_RESULT = 2 ∧
    (s.swapRefused 2 chan frame index).has F.SCH_STATUS_BUSY = false ∧
    (s.swapRefused 2 chan frame index).get F.SCH_REFUSE_INDEX = index % 2 ^ F.SCH_REFUSE_INDEX.width ∧
    (s.swapRefused 2 chan frame index).has G.SCH_REFUSED.bit = true ∧ (s.swapRefused 2 chan frame index).msr = s.msr ∧
    (s.swapRefused 2 chan frame index).calm 0x25 = s.calm 0x25 := by
  have hwrites : Writes [F.SCH_REFUSE_CHAN, F.SCH_REFUSE_FRAME, F.SCH_REFUSE_INDEX, F.SCH_STATUS_LAST_RESULT, G.SCH_REFUSED.bit,
      G.SCH_REFUSED.cnt, F.SCH_STATUS_BUSY] s (s.swapRefused 2 chan frame index) :=
    Writes.put (Writes.flag (Writes.set (Writes.set (Writes.set (Writes.set (.refl s) (by simp)) (by simp)) (by simp)) (by simp)) (by simp) (by simp))
      (by simp)
  refine ⟨?_, ?_, ?_, ?_, rfl, calm_congr (hwrites.has _ (by decide)) (hwrites _ (by decide)) rfl⟩
  · simp (disch := decide) [State.swapRefused]
  · exact has_put_self _ _ _ (by decide) (by decide)
  · simp (disch := decide) [State.swapRefused]
  · simp (disch := decide) [State.swapRefused]

/-- A swap done, before the power-up that may wait for it. -/
def State.swapDone (s : State) : State :=
  let active := if s.shadowIsB then 2 else 1
  let t := { s with msr := { s.msr with passed := false, crcAccepted := s.get F.SCH_CRC_CRC, crcBad := false } }
  (((t.set F.SCH_STATUS_ACTIVE active).bump F.SCH_STATUS_SWAPS 1).set F.SCH_STATUS_LAST_RESULT 1).put F.SCH_STATUS_BUSY false

theorem swapDone_facts (s : State) : s.swapDone.get F.SCH_STATUS_ACTIVE = (if s.shadowIsB then 2 else 1) ∧ s.swapDone.has F.SCH_STATUS_BUSY = false ∧
    s.swapDone.get F.SCH_STATUS_LAST_RESULT = 1 ∧ s.swapDone.msr.passed = false ∧ s.swapDone.msr.crcAccepted = s.get F.SCH_CRC_CRC ∧
    SameWords [R.SCH_STATUS] s s.swapDone := by
  refine ⟨?_, has_put_self _ _ _ (by decide) (by decide), ?_, rfl, rfl, fun a ha => ?_⟩
  · have hactive : (if s.shadowIsB then 2 else 1) % 2 ^ F.SCH_STATUS_ACTIVE.width = if s.shadowIsB then 2 else 1 := by
      cases s.shadowIsB <;> rfl
    rw [← hactive]
    simp (disch := decide) [State.swapDone]
  · simp (disch := decide) [State.swapDone]
  · have hne : a ≠ R.SCH_STATUS := List.ne_of_not_mem_cons ha
    exact (word_set_other _ F.SCH_STATUS_BUSY _ a hne).trans ((word_set_other _ F.SCH_STATUS_LAST_RESULT _ a hne).trans
      ((word_set_other _ F.SCH_STATUS_SWAPS _ a hne).trans (word_set_other _ F.SCH_STATUS_ACTIVE _ a hne)))

theorem tryPowerUp_idle {s : State} (h : s.isIn .spring = false) : s.tryPowerUp = s := if_neg (by rw [h]; exact Bool.false_ne_true)

/-! Windows -/

/-- Every window's flag, as a window's comparator sets it, and a capture that it triggers. -/
def State.windowNoted (s : State) (w : Nat) : State :=
  (s.windowBit w true).captureEvent 2 (decide (s.get F.CAP_TRIG_SEL = w))

def windowFields : List Fld := [F.MSR_CMP_ST0_OUT, F.MSR_CMP_ST1_OUT] ++ logFields

theorem windowNoted_facts (s : State) (w : Nat) : SameEsc s (s.windowNoted w) ∧ Writes windowFields s (s.windowNoted w) ∧
    (s.windowNoted w).boot = s.boot := by
  have hbit : SameEsc s (s.windowBit w true) ∧ Writes windowFields s (s.windowBit w true) ∧ (s.windowBit w true).boot = s.boot := by
    unfold State.windowBit
    split
    · exact ⟨rfl, (Writes.refl s).putBit (by simp [windowFields]), rfl⟩
    · exact ⟨rfl, (Writes.refl s).putBit (by simp [windowFields]), rfl⟩
  unfold State.windowNoted
  generalize s.get F.CAP_TRIG_SEL = sel
  generalize s.windowBit w true = u at *
  obtain ⟨hesc, hwrites, hboot⟩ := hbit
  refine ⟨hesc.captureEvent, hwrites.when fun _ ht => ht.captureTrigger (List.subset_append_right _ _), ?_⟩
  exact (when_invariant (g := State.boot) (fun t => (captureTrigger_logged (.refl t)).boot) u _).trans hboot

theorem windowNoted_bit {s : State} {w : Nat} (h : 32 ≤ w) (hw : w < 64) : (s.windowNoted w).bit F.MSR_CMP_ST1_OUT (w - 32) = true := by
  have hlog : Writes logFields (s.windowBit w true) (s.windowNoted w) := (Writes.refl _).when fun _ ht => ht.captureTrigger fun _ hf => hf
  have hset : s.windowBit w true = s.putBit F.MSR_CMP_ST1_OUT (w - 32) true := if_neg (by omega)
  rw [State.bit, hlog _ (by decide), hset, State.putBit, get_set_self _ _ _ (by decide), Nat.testBit_mod_two_pow, setBitTo_testBit_self, Bool.and_true]
  exact decide_eq_true (show w - 32 < 32 by omega)

theorem windowOutside_eq {s : State} {w : Nat} (high : Bool) (ht : (s.windowThr w).isNone = false)
    (hdw : (s.windowNoted w).isIn .deepWinter = false) : exec (.windowOutside w high) s =
    .next (if w < 16 then (s.windowNoted w).railWindow (railId w) high
    else if w < 25 then (s.windowNoted w).portWindow (portId (w - 16)) 0 high
    else if w < 34 then (s.windowNoted w).portWindow (portId (w - 25)) 1 high
    else if w < 43 then (s.windowNoted w).portWindow (portId (w - 34)) 2 high
    else if w < 47 then (s.windowNoted w).senseWindow (w - 43) high
    else if w < 51 then (s.windowNoted w).supplyWindow (w - 47) high
    else if w < 55 then (s.windowNoted w).when high fun t => t.classify 0xEB01
    else (s.windowNoted w).classify 0x250B) := by
  refine (if_neg (by rw [ht]; exact Bool.false_ne_true)).trans (congrArg Host.Outcome.next (?_ : (if (s.windowNoted w).isIn .deepWinter = true then _ else _) = _))
  exact if_neg (by rw [hdw]; exact Bool.false_ne_true)

theorem portFault_class (k : PortId) {c : Nat} (h : c < 256) : faultClass (portFault k 2 c) = 2 := by
  have := k.isLt
  simp only [faultClass, portFault, PortId.num]
  omega
theorem portFault_source (k : PortId) {c : Nat} (h : c < 256) : faultSource (portFault k 2 c) = k.num := by
  have := k.isLt
  simp only [faultSource, portFault, PortId.num]
  omega
theorem sourceAbsent_port (s : State) (k : PortId) : s.sourceAbsent k.num = !s.portPresent k := by
  have hk := k.isLt
  have hs : sourcePort? k.num = some k := by
    unfold sourcePort? PortId.num
    rw [dif_pos (by omega)]
    rfl
  have hr : sourceRail? k.num = none := dif_neg (by unfold PortId.num; omega)
  rw [State.sourceAbsent, hs, hr]
  simp

/-- The fields that decide whether a fault of source n escalates. -/
theorem calm_kept {s t : State} {n : Nat} {l : List Fld} (he : SameEsc s t) (hw : Writes l s t)
    (hd : Fld.outside (F.FLT_ESC_DIS n) l = true) (hn : Fld.outside (F.FLT_ESC_N n) l = true) : t.calm n = s.calm n := by
  rw [State.calm, hw.has _ hd, hw _ hn, he, State.calm]

/-- Settles O21: conversions and checks arm by arm, the schedule by its banks, and a window by whether its fault escalates. -/
theorem measurementAndScheduleAct : Obligations.MeasurementAndScheduleAct := by
  refine ⟨fun s pos ecc r0 r1 r2 r3 c hdw hact hpos hr => ?_, fun s pos ecc r0 r1 r2 r3 c hdw hact hpos hecc hch hdis hr => ?_,
    fun s hbad => ?_, fun s hbad hrun => ?_, fun s outside hact hwin hall => ?_, fun s w hbusy => ?_, fun s w hbusy => ?_,
    fun s => ?_, fun s hbusy => ?_, fun s hbusy => ?_, fun s hbusy hpassed => ?_, fun s e hbusy hpassed hfirst hq => ?_,
    fun s hbusy hpassed hspring => ?_, fun s win high hlo hhi hchan hs => ?_, fun s win high hlo hhi hhigh hp hq hs => ?_⟩
  · subst hr
    have he : (s.advanceTo (s.now - s.tb % 1024 + 8 * pos)).entryNow 3 pos = 0x65 :=
      (if_pos (show (s.advanceTo _).get F.SCH_STATUS_ACTIVE = 0 from hact)).trans (if_pos hpos)
    exact conversion_stored (e := 0x65) hdw he (by rw [hact]; exact Bool.and_false _) (by decide) (by decide)
  · subst hr
    have he : (s.advanceTo (s.now - s.tb % 1024 + 8 * pos)).entryNow 3 pos = s.entryNow 3 pos := by
      unfold State.entryNow
      rw [frameNo_advanceTo hpos]
      rfl
    exact conversion_stored hdw he (by rw [hecc]; rfl) hch hdis
  · have hrun : s.badRunNext = [0, 0, 0, 0] := by
      unfold State.badRunNext
      rw [hbad]
      rfl
    have hany : ((List.range 4).any fun a => s.msr.badNow.testBit a) = false := by
      rw [hbad]
      rfl
    refine .of_eq (t := s.frameJudged) ((exec_framePlausibility s).trans ?_) ⟨hrun, rfl, fun _ _ => rfl⟩
    rw [hrun, hany]
    rfl
  · have hruns := badRunNext_eq s hrun
    have hany : ((List.range 4).any fun a => s.msr.badNow.testBit a) = true := List.any_eq_true.mpr ⟨2, by decide, hbad⟩
    have htwo : s.badRunNext.contains 2 = false := by
      rw [hruns]
      exact b2n_contains_two _ _ _ _
    refine .of_eq (t := s.frameJudged.flag G.MSR_GROSS) ((exec_framePlausibility s).trans ?_)
      ⟨has_flag_self _ _ (by decide) (by decide) (by decide), rfl, ?_⟩
    · rw [hany, htwo]
      rfl
    · show s.badRunNext.getD 2 0 = 1
      rw [hruns, hbad]
      rfl
  · have hsame := outsideStored_same s outside
    have hstored := hsame.writes
    obtain ⟨hlow, hhigh⟩ := outsideStored_words s outside
    have hcmp : ((List.range 64).any fun w => (s.outsideStored outside).windowDisagrees w (outside.getLsbD w)) = false := by
      rw [List.any_eq_false]
      intro w hw
      rw [hsame.windowDisagrees (List.mem_range.mp hw)]
      have := List.all_eq_true.mp hall w hw
      simpa using this
    have hwin' : (s.outsideStored outside).msr.windows = [] := hwin
    have hexec := exec_superframeChecks s outside (dualOutside_closed hwin') hcmp (checkMeans_closed hwin')
    generalize s.outsideStored outside = u at *
    have hv : Writes [] u (u.runsCounted false false false) := Writes.same (.refl u) rfl
    obtain ⟨t, hw, hr, ht⟩ := superframeMeans_closed (s := u.runsCounted false false false) (by
      show u.msr.windows.filter _ = []
      rw [hwin']
      rfl) (by rw [hv _ (by decide), hstored _ (by decide), hact])
    have hruns : t.checkRuns = (0, 0, 0) := hr
    have hset : Writes [F.BUS_VIN_E_BUS] t (t.set F.BUS_VIN_E_BUS t.eBus) := (Writes.refl t).set (by simp)
    have hebus : t.eBus = s.eBus := by
      unfold State.eBus
      rw [hw _ (by decide +kernel), hv _ (by decide), hstored _ (by decide), hw _ (by decide +kernel), hv _ (by decide), hstored _ (by decide)]
    rw [ht, runFaults_idle (by exact hruns)] at hexec
    obtain ⟨hdrift, hdual, hcmpRun⟩ : t.msr.driftRun = 0 ∧ t.msr.dualRun = 0 ∧ t.msr.cmpRun = 0 := by simpa [State.checkRuns] using hruns
    refine .of_eq hexec ⟨?_, ?_, ?_, hdrift, hdual, hcmpRun⟩
    · rw [hset _ (by decide), hw _ (by decide +kernel), hv _ (by decide), hlow]
    · rw [hset _ (by decide), hw _ (by decide +kernel), hv _ (by decide), hhigh]
    · rw [get_set_self _ F.BUS_VIN_E_BUS _ (by decide), hebus]
      rfl
  · obtain ⟨hregs, hshadow, hactive⟩ := writeShadow_facts s (s.get F.SCH_ADDR_INDEX) w
    have hexec : exec (.schDataWrite w) s = .next ((s.writeShadow (s.get F.SCH_ADDR_INDEX) w).set F.SCH_ADDR_INDEX ((s.get F.SCH_ADDR_INDEX + 1) % 16384)) :=
      congrArg Host.Outcome.next (if_neg (by rw [hbusy]; exact Bool.false_ne_true))
    generalize s.writeShadow (s.get F.SCH_ADDR_INDEX) w = u at *
    obtain ⟨hshadow', hactive'⟩ := banks_set_index u ((s.get F.SCH_ADDR_INDEX + 1) % 16384)
    refine .of_eq hexec ⟨?_, ?_, fun i hi => ?_, hactive'.trans hactive, fun a ha => ?_⟩
    · rw [hshadow', hshadow]
      exact bankRead_write_self _ _ _ _
    · exact (get_set_self _ F.SCH_ADDR_INDEX _ (by decide)).trans (Nat.mod_mod _ _)
    · rw [hshadow', hshadow]
      exact bankRead_write_other _ _ _ _ _ hi
    · rw [word_set_other _ _ _ _ (List.ne_of_not_mem_cons ha), State.word, hregs, State.word]
  · have hflag : Writes [G.SCH_WR_DISCARDED.bit, G.SCH_WR_DISCARDED.cnt] s (s.flag G.SCH_WR_DISCARDED) :=
      (Writes.refl s).flag (by simp) (by simp)
    exact .of_eq (congrArg Host.Outcome.next (if_pos hbusy))
      ⟨has_flag_self _ _ (by decide) (by decide) (by decide), rfl, hflag _ (by decide)⟩
  · exact .of_eq rfl ⟨sch_index_next s, rfl, fun a ha => word_set_other _ _ _ _ (List.ne_of_not_mem_cons ha)⟩
  · exact .of_eq (congrArg Host.Outcome.next (if_neg (by rw [hbusy]; exact Bool.false_ne_true)))
      ⟨has_put_self _ _ _ (by decide) (by decide), fun a ha => word_set_other _ _ _ _ (List.ne_of_not_mem_cons ha)⟩
  · refine .of_eq (congrArg Host.Outcome.next (if_pos hbusy)) ⟨has_flag_self _ _ (by decide) (by decide) (by decide), ?_⟩
    exact (has_flag_apart _ _ _ (by decide) (by decide) (by decide)).trans hbusy
  · have hrun : (s.has F.SCH_STATUS_BUSY && !s.msr.passed) = true := by rw [hbusy, hpassed]; rfl
    cases hfirst : s.firstInvalid with
    | some e => exact ⟨_, (if_pos hrun).trans (by rw [hfirst]), fun h => by cases h⟩
    | none =>
      cases hun : s.uncovered with
      | some c => exact ⟨_, (if_pos hrun).trans (by rw [hfirst, hun]), fun _ h => by cases h⟩
      | none =>
        by_cases hcrc : bankCrc s.shadowBank = s.get F.SCH_CRC_CRC
        · exact ⟨{ s with msr := { s.msr with passed := true } }, (if_pos hrun).trans (by rw [hfirst, hun]; exact if_neg (not_not_intro hcrc)),
            fun _ _ _ => rfl⟩
        · exact ⟨_, (if_pos hrun).trans (by rw [hfirst, hun]; exact if_pos hcrc), fun _ _ h => absurd h hcrc⟩
  · have hrun : (s.has F.SCH_STATUS_BUSY && !s.msr.passed) = true := by rw [hbusy, hpassed]; rfl
    obtain ⟨hresult, hidle, hindex, hbit, hmsr, hcalm⟩ := swapRefused_facts s (e.2 % 256) (e.1 / 128 % 32) e.1
    have hexec : exec .scheduleCheck s = .next ((s.swapRefused 2 (e.2 % 256) (e.1 / 128 % 32) e.1).raise 0xA501) :=
      (if_pos hrun).trans (by rw [hfirst]; exact congrArg Host.Outcome.next (refuseSwap_eq ..))
    generalize s.swapRefused 2 (e.2 % 256) (e.1 / 128 % 32) e.1 = u at *
    have hwrites : Writes containedFields u (u.raise 0xA501) := raise_contained_writes rfl (by decide)
    have hlog := raise_logged (code := 0xA501) (by decide) (.inr (hcalm.trans hq)) (.refl u)
    refine .of_eq hexec ⟨?_, ?_, ?_, ?_, ?_⟩
    · rw [hwrites _ (by decide +kernel), hresult]
    · rw [hwrites.has _ (by decide +kernel), hidle]
    · rw [hwrites _ (by decide +kernel), hindex]
    · rw [hwrites.has _ (by decide +kernel), hbit]
    · rw [hlog.msr, hmsr, hpassed]
  · have hexec : exec .scheduleSwap s = .next s.swapDone.tryPowerUp := if_pos (by rw [hbusy, hpassed]; rfl)
    have hstate : s.swapDone.isIn .spring = false := by
      rw [State.isIn, State.get, (swapDone_facts s).2.2.2.2.2 _ (by decide)]
      exact hspring
    exact .of_eq (hexec.trans (congrArg _ (tryPowerUp_idle hstate))) (swapDone_facts s)
  · obtain ⟨-, hwrites, -⟩ := windowNoted_facts s win
    have hne : (s.windowNoted win).isAny [.romBoot, .deepWinter] = false := (hwrites.isAny (by decide) _).trans hs
    have hdw : (s.windowNoted win).isIn .deepWinter = false := by simpa [State.isAny] using (Bool.or_eq_false_iff.mp hne).2
    have hbit := windowNoted_bit (s := s) (w := win) (by omega) hhi
    have hthr : (s.windowThr win).isNone = false := by
      simp only [State.windowThr, show ¬ win < 16 by omega, show ¬ win < 25 by omega, show ¬ win < 34 by omega, show ¬ win < 43 by omega,
        show ¬ win < 47 by omega, show ¬ win < 51 by omega, show ¬ win < 55 by omega, show ¬ 64 ≤ win by omega, if_false, hchan]
      rfl
    have hexec := windowOutside_eq high hthr hdw
    generalize s.windowNoted win = u at *
    simp only [show ¬ win < 16 by omega, show ¬ win < 25 by omega, show ¬ win < 34 by omega, show ¬ win < 43 by omega,
        show ¬ win < 47 by omega, show ¬ win < 51 by omega, show ¬ win < 55 by omega, if_false, classify_raise hne] at hexec
    have hw : Writes raisedFields u (u.raise 0x250B) := raise_calm_writes (by decide) (.inl rfl)
    refine .of_eq hexec ⟨?_, ?_⟩
    · rw [State.bit, hw _ (by decide +kernel)]
      exact hbit
    · rw [raise_warning rfl rfl]
      exact has_flag_self _ _ (by decide) (by decide) (by decide)
  · obtain ⟨hesc, hwrites, hboot⟩ := windowNoted_facts s win
    have hne : (s.windowNoted win).isAny [.romBoot, .deepWinter] = false := (hwrites.isAny (by decide) _).trans hs
    obtain ⟨hrom, hdw⟩ : (s.windowNoted win).isIn .romBoot = false ∧ (s.windowNoted win).isIn .deepWinter = false := by
      simpa [State.isAny] using hne
    have hthr : (s.windowThr win).isNone = false := by
      simp only [State.windowThr, show ¬ win < 16 by omega, show win < 25 by omega, if_false, if_true, hp]
      rfl
    have hexec := windowOutside_eq high hthr hdw
    have hk : (portId (win - 16)).num = win - 15 := by
      unfold portId PortId.num
      dsimp only
      omega
    generalize portId (win - 16) = k at *
    have hcalm : (s.windowNoted win).calm k.num = true :=
      (calm_kept hesc hwrites (by clear * -; decide +kernel +revert) (by clear * -; decide +kernel +revert)).trans (by rw [hk]; exact hq)
    have hpres : (s.windowNoted win).portPresent k = true := by rw [State.portPresent, hboot]; exact hp
    generalize s.windowNoted win = u at *
    have htrip : u.portWindow k 0 high = (u.broken k 0x34).raise (portFault k 2 0x34) := by
      rw [State.portWindow, if_neg (by rw [hpres, hrom]; exact Bool.false_ne_true), if_pos rfl, if_pos hhigh, tripPort_eq]
    simp only [show ¬ win < 16 by omega, show win < 25 by omega, if_false, if_true, htrip] at hexec
    obtain ⟨hesc', hbroken, hgate, hcause, hflag⟩ := broken_facts (cause := 0x34) hpres
    generalize u.broken k 0x34 = v at *
    have hcalm' : v.calm k.num = true :=
      (calm_kept hesc' hbroken (by clear * -; decide +kernel +revert) (by clear * -; decide +kernel +revert)).trans hcalm
    have hw : Writes raisedFields v (v.raise (portFault k 2 0x34)) :=
      raise_calm_writes (by rw [portFault_class k (by decide)]) (.inr (by rw [portFault_source k (by decide)]; exact hcalm'))
    refine .of_eq hexec ⟨?_, ?_, ?_⟩
    · rw [hw _ (by clear * -; decide +kernel +revert), hcause]
      rfl
    · rw [State.switchDriven, hw _ (by clear * -; decide +kernel +revert), hgate]
      rfl
    · rw [hw.has _ (by clear * -; decide +kernel +revert), hflag]

end Sys2Proof.Machine
end

section
/-!
The refutation of the statement on the first-fault log: a record is programmed at the length its voltages give it (R373, Table RSV-2), and the
statement does not bound their number.
-/
namespace Sys2Proof.Machine

/-- A record of seventeen voltages, one more than a slot holds. -/
def longRecord : FflRec :=
  { tb := 0, fault := 0, first := 0xFF, state := 0, commit := false, deferred := false, margin := false, vin := 0,
    volts := List.replicate 17 0, pwrCycles := 0, lifeS := 0 }

/-- Spring with that record due, the log scanned and the flash erased. -/
def State.longRecordDue : State :=
  { (State.reset.set F.SYS_STATE_STATE DevState.spring.code).put F.FFL_STATUS_SCANNED true with ffl := { State.reset.ffl with due := [longRecord] } }

/-- Refutes O40: the record's last two bytes, its check value, are programmed into the next slot. -/
theorem not_firstFaultLogIsKept : ¬ Obligations.FirstFaultLogIsKept := by
  rintro ⟨hwrite, -⟩
  obtain ⟨t, hexec, -, -, -, -, -, -, -, -, -, hflash⟩ := hwrite .longRecordDue longRecord [] rfl (by decide) (by decide) (by decide)
  have hbeyond : nextHolds (exec (.fflRecordWrite true) .longRecordDue)
      (fun t => bankRead erased t.flash (fflBase + 65) != bankRead erased State.longRecordDue.flash (fflBase + 65)) = true := by decide +kernel
  rw [hexec] at hbeyond
  have hne : bankRead erased t.flash (fflBase + 65) ≠ bankRead erased State.longRecordDue.flash (fflBase + 65) := by
    simpa [nextHolds] using hbeyond
  exact hne (hflash _ (.inr (by decide)))

end Sys2Proof.Machine
end

section
/-!
The history archive: what a frame adds to the day, and how a day record and a checkpoint are stored (R433–R442).
-/
namespace Sys2Proof.Machine

/-! A frame -/

/-- The energy and the peak that a frame adds for one port. -/
def State.addPort (s : State) (h : His) (k : PortId) : His :=
  { h with acc := bumpAt h.acc k.val fun a => (a + s.vrcp k * s.portMa k) % 2 ^ 64, peak := bumpAt h.peak k.val fun a => max a (s.portMa k) }

theorem addPort_acc (s : State) (h : His) (k : PortId) :
    (s.addPort h k).acc = bumpAt h.acc k.val fun a => (a + s.vrcp k * s.portMa k) % 2 ^ 64 := rfl
theorem addPort_peak (s : State) (h : His) (k : PortId) : (s.addPort h k).peak = bumpAt h.peak k.val fun a => max a (s.portMa k) := rfl

theorem addPorts_rest (s : State) (l : List PortId) (h : His) : (l.foldl s.addPort h).tmax = h.tmax ∧ (l.foldl s.addPort h).vinMin = h.vinMin ∧
    (l.foldl s.addPort h).secs = h.secs := by
  induction l generalizing h with
  | nil => exact ⟨rfl, rfl, rfl⟩
  | cons k l ih => exact ih (s.addPort h k)

theorem getD_bumpAt_self {l : List Nat} {i : Nat} (act : Nat → Nat) (h : i < l.length) : (bumpAt l i act).getD i 0 = act (l.getD i 0) := by
  simp [bumpAt, List.getD, h]
theorem getD_bumpAt_other {l : List Nat} {i j : Nat} (act : Nat → Nat) (h : i ≠ j) : (bumpAt l i act).getD j 0 = l.getD j 0 := by
  simp [bumpAt, List.getD, h]

theorem addPorts_absent (s : State) {k : PortId} {l : List PortId} (h : His) (hk : k ∉ l) :
    (l.foldl s.addPort h).acc.getD k.val 0 = h.acc.getD k.val 0 ∧ (l.foldl s.addPort h).peak.getD k.val 0 = h.peak.getD k.val 0 := by
  induction l generalizing h with
  | nil => exact ⟨rfl, rfl⟩
  | cons j l ih =>
    obtain ⟨hj, hl⟩ := List.ne_and_not_mem_of_not_mem_cons hk
    have hne : j.val ≠ k.val := fun he => hj (Fin.ext he.symm)
    obtain ⟨ha, hp⟩ := ih (s.addPort h j) hl
    rw [addPort_acc, getD_bumpAt_other _ hne] at ha
    rw [addPort_peak, getD_bumpAt_other _ hne] at hp
    exact ⟨ha, hp⟩

/-- Each port of the list is added once. -/
theorem addPorts_present (s : State) {k : PortId} {l : List PortId} (h : His) (hk : k ∈ l) (hl : l.Nodup) (ha : k.val < h.acc.length)
    (hp : k.val < h.peak.length) : (l.foldl s.addPort h).acc.getD k.val 0 = (h.acc.getD k.val 0 + s.vrcp k * s.portMa k) % 2 ^ 64 ∧
    (l.foldl s.addPort h).peak.getD k.val 0 = max (h.peak.getD k.val 0) (s.portMa k) := by
  induction l generalizing h with
  | nil => exact absurd hk List.not_mem_nil
  | cons j l ih =>
    obtain ⟨hj, hl⟩ := List.nodup_cons.mp hl
    by_cases he : k = j
    · subst he
      obtain ⟨ha', hp'⟩ := addPorts_absent s (s.addPort h k) hj
      rw [addPort_acc, getD_bumpAt_self _ ha] at ha'
      rw [addPort_peak, getD_bumpAt_self _ hp] at hp'
      exact ⟨ha', hp'⟩
    · have hne : j.val ≠ k.val := fun hv => he (Fin.ext hv.symm)
      obtain ⟨ha', hp'⟩ := ih (s.addPort h j) ((List.mem_cons.mp hk).resolve_left he) hl (by simpa [State.addPort, bumpAt] using ha)
        (by simpa [State.addPort, bumpAt] using hp)
      rw [addPort_acc, getD_bumpAt_other _ hne] at ha'
      rw [addPort_peak, getD_bumpAt_other _ hne] at hp'
      exact ⟨ha', hp'⟩

theorem modulePorts_nodup : modulePorts.Nodup := by decide
theorem mem_modulePorts {k : PortId} (h : k ≠ port9) : k ∈ modulePorts := by
  decide +revert

theorem presentModulePorts_nodup (s : State) : s.presentModulePorts.Nodup := modulePorts_nodup.filter _

theorem archiveFrameAccumulate_eq {s : State} (ho : s.archiveOn = true) (hd : s.his.open' = true) : exec .archiveFrameAccumulate s =
    .next { s with his := { s.presentModulePorts.foldl s.addPort s.his with
      tmax := some (max ((s.presentModulePorts.foldl s.addPort s.his).tmax.getD 0) s.dieMax),
      vinMin := some (min ((s.presentModulePorts.foldl s.addPort s.his).vinMin.getD (s.get F.BUS_VIN_VIN_MV)) (s.get F.BUS_VIN_VIN_MV)) } } :=
  if_pos (by rw [ho, hd]; rfl)

/-! A counted second -/

theorem daySample_facts (s : State) : s.daySample.regs = s.regs ∧ s.daySample.his.secs = s.his.secs ∧ s.daySample.his.cpDue = s.his.cpDue ∧
    s.daySample.now = s.now := ⟨rfl, rfl, rfl, rfl⟩

/-- A day's second counted, with its sample, short of the day's end. -/
theorem endSecond_facts {s : State} (h : s.his.secs ≠ 86400) : s.endSecond.regs = s.regs ∧ s.endSecond.his.secs = s.his.secs ∧
    s.endSecond.now = s.now ∧ (s.his.secs % 600 = 0 → s.endSecond.his.cpDue = true) := by
  rw [State.endSecond, if_neg h, State.when]
  split
  · exact ⟨rfl, rfl, rfl, fun _ => rfl⟩
  · next hn => exact ⟨rfl, rfl, rfl, fun hz => absurd (by rw [hz]; rfl) hn⟩

theorem countSecond_facts {s : State} (h : s.his.secs + 1 < 86400) : s.countSecond.his.secs = s.his.secs + 1 ∧
    s.countSecond.get F.HIS_DAY_DAY_S = (s.his.secs + 1) % 2 ^ F.HIS_DAY_DAY_S.width ∧ s.countSecond.now = s.now ∧
    ((s.his.secs + 1) % 600 = 0 → s.countSecond.his.cpDue = true) ∧ SameWords [R.HIS_DAY] s s.countSecond := by
  unfold State.countSecond
  extract_lets q t
  have hsecs : t.his.secs = s.his.secs + 1 := rfl
  obtain ⟨hregs, hsecs', hnow⟩ : (t.when (t.his.secs % 2 == 0) State.daySample).regs = s.regs ∧
      (t.when (t.his.secs % 2 == 0) State.daySample).his.secs = s.his.secs + 1 ∧ (t.when (t.his.secs % 2 == 0) State.daySample).now = s.now := by
    unfold State.when
    split
    · exact ⟨rfl, rfl, rfl⟩
    · exact ⟨rfl, rfl, rfl⟩
  generalize t.when (t.his.secs % 2 == 0) State.daySample = u at *
  obtain ⟨hr, hs, hn, hc⟩ := endSecond_facts (s := u) (by omega)
  rw [hsecs'] at hs hc
  generalize u.endSecond = v at *
  refine ⟨hs, ?_, hn.trans hnow, hc, fun a ha => ?_⟩
  · rw [State.showDay, get_set_apart _ _ _ _ (by decide) (by decide), get_set_self _ _ _ (by decide), hs]
  · rw [State.showDay, word_set_other _ _ _ _ (List.ne_of_not_mem_cons ha), word_set_other _ _ _ _ (List.ne_of_not_mem_cons ha), State.word, hr,
      hregs, State.word]

/-! Records -/

/-- The fields that a failed write or erase of the archive writes while the flash's faults do not escalate. -/
def archiveFailFields : List Fld := [G.HIS_WRITE_FAIL.bit, G.HIS_WRITE_FAIL.cnt] ++ raisedFields

theorem archiveFail_facts {s : State} (h : s.has (F.FLT_ESC_DIS 0x2A) = true) : Writes archiveFailFields s s.archiveFail ∧
    s.archiveFail.his = s.his ∧ s.archiveFail.has G.HIS_WRITE_FAIL.bit = true ∧ s.archiveFail.has G.FLT_CONT.bit = true := by
  have hflag : Writes [G.HIS_WRITE_FAIL.bit, G.HIS_WRITE_FAIL.cnt] s (s.flag G.HIS_WRITE_FAIL) := (Writes.refl s).flag (by simp) (by simp)
  have hbit : (s.flag G.HIS_WRITE_FAIL).has G.HIS_WRITE_FAIL.bit = true := has_flag_self _ _ (by decide) (by decide) (by decide)
  have hhis : (s.flag G.HIS_WRITE_FAIL).his = s.his := rfl
  unfold State.archiveFail
  generalize s.flag G.HIS_WRITE_FAIL = u at *
  have hcalm : u.calm (faultSource 0xAA15) = true := by
    rw [State.calm, show u.has (F.FLT_ESC_DIS (faultSource 0xAA15)) = true from (hflag.has _ (by decide)).trans h]
    rfl
  have hraise : Writes raisedFields u (u.raise 0xAA15) := raise_calm_writes (by decide) (.inr hcalm)
  refine ⟨(hflag.mono (List.subset_append_left _ _)).trans (hraise.mono (List.subset_append_right _ _)), ?_, ?_, ?_⟩
  · rw [(raise_contained_beside rfl (by decide)).his, hhis]
  · rw [hraise.has _ (by decide +kernel), hbit]
  · exact raise_counted_flag (.inr rfl) rfl hcalm

/-- A record that was not written stays so, whatever the erase after it brings. -/
theorem eraseNext_failed {s : State} (base slots n : Nat) (ok : Bool) (hdis : s.has (F.FLT_ESC_DIS 0x2A) = true)
    (hbit : s.has G.HIS_WRITE_FAIL.bit = true) (hcont : s.has G.FLT_CONT.bit = true) :
    Writes archiveFailFields s (s.eraseNext base slots n ok) ∧ (s.eraseNext base slots n ok).his = s.his ∧
    (s.eraseNext base slots n ok).has G.HIS_WRITE_FAIL.bit = true ∧ (s.eraseNext base slots n ok).has G.FLT_CONT.bit = true := by
  unfold State.eraseNext
  split
  · extract_lets a
    split
    · exact ⟨.refl _, rfl, hbit, hcont⟩
    · exact archiveFail_facts (s := s.spoil a 4096) hdis
  · exact ⟨.refl _, rfl, hbit, hcont⟩

/-- A day record programmed and shown. -/
def State.dayStored (s : State) (b : List Byte) : State :=
  let s' := { s with his := { s.his with daySlot := (s.his.daySlot + 1) % daySlots } }.flashProgram (dayBase s.his.daySlot) b
  (({ s' with his := { s'.his with dayDue := none, newest := some s.his.daySlot } }.set F.HIS_STATUS_NEWEST s.his.daySlot).set
    F.HIS_LASTNO_DAYNO (leAt b 4 4)).flag G.HIS_WRITTEN

theorem dayStored_facts (s : State) (b : List Byte) : (s.dayStored b).his.dayDue = none ∧ (s.dayStored b).his.newest = some s.his.daySlot ∧
    (s.dayStored b).his.daySlot = (s.his.daySlot + 1) % daySlots ∧ (s.dayStored b).get F.HIS_LASTNO_DAYNO = leAt b 4 4 % 2 ^ 32 ∧
    (s.dayStored b).flash = (s.flashProgram (dayBase s.his.daySlot) b).flash ∧ (s.dayStored b).has G.HIS_WRITTEN.bit = true := by
  unfold State.dayStored
  extract_lets q s'
  refine ⟨rfl, rfl, rfl, ?_, rfl, has_flag_self _ _ (by decide) (by decide) (by decide)⟩
  rw [get_flag_apart _ _ _ (by decide) (by decide) (by decide), get_set_self _ _ _ (by decide)]
  rfl

/-- A day record that failed its read-back. -/
def State.daySpoiled (s : State) : State :=
  { s with his := { s.his with daySlot := (s.his.daySlot + 1) % daySlots } }.spoil (dayBase s.his.daySlot) 512

theorem dayRecordWrite_eq {s : State} {b : List Byte} (ok eraseOk : Bool) (hf : s.flashFree = true) (hb : s.his.dayDue = some b)
    (ho : s.archiveOn = true) : exec (.dayRecordWrite ok eraseOk) s =
    .next ((if ok then s.dayStored b else s.daySpoiled.archiveFail).eraseNext archiveBase daySlots s.his.daySlot eraseOk) := by
  have hexec : exec (.dayRecordWrite ok eraseOk) s = execDayRecordWrite ok eraseOk s := rfl
  rw [hexec, execDayRecordWrite, hb]
  exact if_neg (by rw [ho, hf]; exact Bool.false_ne_true)

theorem eraseNext_within {s : State} {n : Nat} (base slots : Nat) (ok : Bool) (h : n % 8 ≠ 7) : s.eraseNext base slots n ok = s := if_neg h
theorem eraseNext_good {s : State} {n : Nat} (base slots : Nat) (h : n % 8 = 7) :
    s.eraseNext base slots n true = s.flashErase (base + 4096 * ((n / 8 + 1) % (slots / 8))) 4096 := if_pos h

/-- A checkpoint of these bytes programmed, or its slot spoiled. -/
def State.checkpointed (s : State) (b : List Byte) (ok : Bool) : State :=
  let s' := { s with his := { s.his with cpDue := !ok, cpSlot := (s.his.cpSlot + 1) % cpSlots } }
  if ok then s'.flashProgram (cpBase s.his.cpSlot) b else s'.spoil (cpBase s.his.cpSlot) 512

theorem checkpointed_facts (s : State) (b : List Byte) (ok : Bool) : (s.checkpointed b ok).his.cpDue = !ok ∧
    (s.checkpointed b ok).his.cpSlot = (s.his.cpSlot + 1) % cpSlots ∧ (s.checkpointed b ok).regs = s.regs := by
  unfold State.checkpointed
  extract_lets s'
  split
  · exact ⟨rfl, rfl, rfl⟩
  · exact ⟨rfl, rfl, rfl⟩

theorem checkpointed_flash (s : State) (b : List Byte) : (s.checkpointed b true).flash = (s.flashProgram (cpBase s.his.cpSlot) b).flash := rfl

theorem storeCheckpoint_eq {s : State} (ok eraseOk : Bool) (ho : s.archiveOn = true) (hopen : s.his.open' = true) : s.storeCheckpoint ok eraseOk =
    (if ok then s.checkpointed (s.dayBytes 0x4348514B) true else (s.checkpointed (s.dayBytes 0x4348514B) false).archiveFail).eraseNext (cpBase 0)
      cpSlots s.his.cpSlot eraseOk := by
  unfold State.storeCheckpoint
  rw [if_pos (by rw [ho, hopen]; rfl)]
  generalize s.dayBytes 0x4348514B = b
  extract_lets n b' q s' u
  have hu : u = if ok then s.checkpointed b true else (s.checkpointed b false).archiveFail := by
    cases ok
    · exact if_neg Bool.false_ne_true
    · exact if_pos rfl
  rw [hu]

theorem checkpointWrite_eq {s : State} (ok eraseOk : Bool) (hf : s.flashFree = true) (hd : s.his.cpDue = true) (ho : s.archiveOn = true)
    (hopen : s.his.open' = true) : exec (.checkpointWrite ok eraseOk) s =
    .next ((if ok then s.checkpointed (s.dayBytes 0x4348514B) true else (s.checkpointed (s.dayBytes 0x4348514B) false).archiveFail).eraseNext
      (cpBase 0) cpSlots s.his.cpSlot eraseOk) :=
  (if_pos (by rw [hd, hf]; rfl)).trans (congrArg Host.Outcome.next (storeCheckpoint_eq ok eraseOk ho hopen))

/-! The scan and the window -/

theorem bytesToWords_length (b : List Byte) (n : Nat) (h : b.length = 4 * n) : (bytesToWords b).length = n := by
  induction n generalizing b with
  | zero => rw [List.length_eq_zero_iff.mp h]; rfl
  | succ n ih =>
    match b, h with
    | b0 :: b1 :: b2 :: b3 :: b, h =>
      rw [bytesToWords, List.length_cons, ih b (by simp only [List.length_cons] at h; omega)]

theorem flashRead_length (s : State) (a n : Nat) : (s.flashRead a n).length = n := by simp [State.flashRead, bankReadList]

theorem setWords_within (l : List (Word × Nat)) (s : State) :
    ∀ a, (∀ e ∈ l, a ≠ R.HIS_REC e.2) → (l.foldl (fun t e => t.setWord (R.HIS_REC e.2) e.1) s).word a = s.word a := by
  induction l generalizing s with
  | nil => exact fun _ _ => rfl
  | cons e l ih =>
    intro a ha
    refine (ih (s.setWord (R.HIS_REC e.2) e.1) a fun e' he' => ha e' (List.mem_cons_of_mem _ he')).trans ?_
    exact word_setWord_other _ _ _ _ (ha e List.mem_cons_self)

theorem hisSelLoad_shown (s : State) (a n p : Nat) (w : Word) (hw : a ∉ (List.range 16).map R.HIS_REC) :
    ((bytesToWords (s.flashRead (dayBase n + 64 * p) 64)).zipIdx.foldl (fun t e => t.setWord (R.HIS_REC e.2) e.1) (s.setWord R.HIS_SEL w)).word a =
      (s.setWord R.HIS_SEL w).word a := by
  refine setWords_within _ _ a fun e he heq => hw ?_
  have hlen := bytesToWords_length (s.flashRead (dayBase n + 64 * p) 64) 16 (flashRead_length _ _ _)
  have hlt : e.2 < 16 := by
    have hidx := List.snd_lt_of_mem_zipIdx he
    omega
  exact heq ▸ List.mem_map_of_mem (List.mem_range.mpr hlt)

/-- Settles O39: a frame adds each present port once; a record stored advances its slot, and a failed one stays due. -/
theorem historyIsKept : Obligations.HistoryIsKept := by
  refine ⟨fun s ho hd => ?_, fun s k ho hd hk hp ha hpk => ?_, fun s ho hd hs => ?_, fun s eraseOk b hf hb ho hn => ?_,
    fun s eraseOk b hf hb ho hn he => ?_, fun s eraseOk b hf hb ho hdis => ?_, fun s ok eraseOk hf hd ho hopen hok hn => ?_,
    fun s ok eraseOk hf hd ho hopen hok hdis => ?_, fun s ok eraseOk hf hd ho hopen hok hn he => ?_, fun s hs ho hscan hday hcp => ?_,
    fun s w hu => ?_, fun s w hu => ?_⟩
  · obtain ⟨htmax, hvin, hsecs⟩ := addPorts_rest s s.presentModulePorts s.his
    refine .of_eq (archiveFrameAccumulate_eq ho hd) ⟨?_, ?_, hsecs, fun _ _ => rfl⟩
    · exact congrArg (fun o => some (max (Option.getD o 0) s.dieMax)) htmax
    · exact congrArg (fun o => some (min (Option.getD o (s.get F.BUS_VIN_VIN_MV)) (s.get F.BUS_VIN_VIN_MV))) hvin
  · have hmem : k ∈ s.presentModulePorts := List.mem_filter.mpr ⟨mem_modulePorts hk, hp⟩
    obtain ⟨hacc, hpeak⟩ := addPorts_present s s.his hmem (presentModulePorts_nodup s) ha hpk
    exact .of_eq (archiveFrameAccumulate_eq ho hd) ⟨hacc, hpeak, fun _ _ => rfl⟩
  · have hexec : exec .countedSecond s = .next (s.advanceTo (s.now + (secs 1 - s.tb % secs 1))).countSecond := if_pos (by rw [ho, hd]; rfl)
    obtain ⟨hsecs, hshown, hnow, hcp, hwords⟩ := countSecond_facts (s := s.advanceTo (s.now + (secs 1 - s.tb % secs 1))) hs
    exact .of_eq hexec ⟨hsecs, hshown, hnow.trans (Nat.max_eq_right (Nat.le_add_right _ _)), hcp, hwords⟩
  · obtain ⟨hdue, hnewest, hslot, hshown, hflash, hbit⟩ := dayStored_facts s b
    refine .of_eq ((dayRecordWrite_eq true eraseOk hf hb ho).trans ?_) ⟨hdue, hnewest, hslot, hshown, hflash, hbit⟩
    rw [if_pos rfl, eraseNext_within _ _ _ hn]
  · obtain ⟨hdue, hnewest, hslot, hshown, hflash, hbit⟩ := dayStored_facts s b
    have hexec := dayRecordWrite_eq true eraseOk hf hb ho
    rw [if_pos rfl, he, eraseNext_good _ _ hn] at hexec
    subst he
    generalize s.dayStored b = u at *
    refine .of_eq hexec ⟨hdue, hnewest, hslot, hshown, ?_, hbit⟩
    rw [State.flashErase, hflash]
    rfl
  · have hexec := dayRecordWrite_eq false eraseOk hf hb ho
    rw [if_neg Bool.false_ne_true] at hexec
    have hhis : s.daySpoiled.his = { s.his with daySlot := (s.his.daySlot + 1) % daySlots } := rfl
    have hregs : s.daySpoiled.regs = s.regs := rfl
    generalize s.daySpoiled = u at *
    have hsame : Writes [] s u := (Writes.refl s).same hregs
    have hdis' : u.has (F.FLT_ESC_DIS 0x2A) = true := (hsame.has _ (by decide)).trans hdis
    obtain ⟨hw, hkept, hbit, hcont⟩ := archiveFail_facts hdis'
    generalize u.archiveFail = v at *
    obtain ⟨hw', hkept', hbit', hcont'⟩ := eraseNext_failed archiveBase daySlots s.his.daySlot eraseOk
      ((hw.has _ (by decide +kernel)).trans hdis') hbit hcont
    generalize v.eraseNext archiveBase daySlots s.his.daySlot eraseOk = t at *
    have hown : t.his = { s.his with daySlot := (s.his.daySlot + 1) % daySlots } := hkept'.trans (hkept.trans hhis)
    refine .of_eq hexec ⟨?_, ?_, ?_, ?_, hbit', hcont'⟩
    · rw [hown]
      exact hb
    · rw [hown]
    · rw [hown]
    · rw [hw' _ (by decide +kernel), hw _ (by decide +kernel), hsame _ (by decide)]
  · subst hok
    obtain ⟨hdue, hslot, hregs⟩ := checkpointed_facts s (s.dayBytes 0x4348514B) true
    have hflash := checkpointed_flash s (s.dayBytes 0x4348514B)
    have hexec := checkpointWrite_eq true eraseOk hf hd ho hopen
    rw [if_pos rfl, eraseNext_within _ _ _ hn] at hexec
    exact .of_eq hexec ⟨hdue, hslot, hflash, fun a _ => congrArg (bankRead regReset · a) hregs⟩
  · subst hok
    obtain ⟨hdue, hslot, hregs⟩ := checkpointed_facts s (s.dayBytes 0x4348514B) false
    have hexec := checkpointWrite_eq false eraseOk hf hd ho hopen
    rw [if_neg Bool.false_ne_true] at hexec
    generalize s.checkpointed (s.dayBytes 0x4348514B) false = u at *
    have hsame : Writes [] s u := (Writes.refl s).same hregs
    have hdis' : u.has (F.FLT_ESC_DIS 0x2A) = true := (hsame.has _ (by decide)).trans hdis
    obtain ⟨hw, hkept, hbit, hcont⟩ := archiveFail_facts hdis'
    generalize u.archiveFail = v at *
    obtain ⟨hw', hkept', hbit', hcont'⟩ := eraseNext_failed (cpBase 0) cpSlots s.his.cpSlot eraseOk
      ((hw.has _ (by decide +kernel)).trans hdis') hbit hcont
    generalize v.eraseNext (cpBase 0) cpSlots s.his.cpSlot eraseOk = t at *
    exact .of_eq hexec ⟨by rw [hkept', hkept, hdue]; rfl, by rw [hkept', hkept, hslot], hbit', hcont'⟩
  · subst hok he
    obtain ⟨hdue, hslot, hregs⟩ := checkpointed_facts s (s.dayBytes 0x4348514B) true
    have hflash := checkpointed_flash s (s.dayBytes 0x4348514B)
    have hexec := checkpointWrite_eq true true hf hd ho hopen
    rw [if_pos rfl, eraseNext_good _ _ hn] at hexec
    generalize s.checkpointed (s.dayBytes 0x4348514B) true = u at *
    refine .of_eq hexec ⟨hdue, hslot, ?_, fun a _ => congrArg (bankRead regReset · a) hregs⟩
    rw [State.flashErase, hflash]
    rfl
  · have hexec : exec .historyScan s = .next ({ s.put F.HIS_STATUS_SCANNED true with his := s.his.opened none none }.showDay) := by
      refine (if_pos ?_).trans ?_
      · rw [ho, hscan, show s.isAny [.spring, .offSeason] = true by rw [State.isAny, List.any_cons, hs]; rfl]
        rfl
      · rw [hday, hcp]
        rfl
    refine .of_eq hexec ⟨?_, rfl, rfl, rfl⟩
    rw [State.showDay, State.has, get_set_apart _ _ _ _ (by decide) (by decide), get_set_apart _ _ _ _ (by decide) (by decide)]
    exact has_put_self _ _ _ (by decide) (by decide)
  · have hexec : exec (.hisSelLoad w) s = .next (s.setWord R.HIS_SEL (w &&& 0x000F7FFF#32)) := if_pos hu
    exact .of_eq hexec ⟨word_setWord_self .., fun a ha => word_setWord_other _ _ _ _ (List.ne_of_not_mem_cons ha)⟩
  · obtain ⟨n, p, hexec⟩ : ∃ n p, exec (.hisSelLoad w) s = .next ((bytesToWords ((s.setWord R.HIS_SEL (w &&& 0x000F7FFF#32)).flashRead (dayBase n + 64 * p)
        64)).zipIdx.foldl (fun t e => t.setWord (R.HIS_REC e.2) e.1) (s.setWord R.HIS_SEL (w &&& 0x000F7FFF#32))) :=
      ⟨_, _, if_neg (by show ¬ s.unitOff 2 = true; rw [hu]; exact Bool.false_ne_true)⟩
    refine .of_eq hexec ⟨?_, fun a ha => ?_⟩
    · exact (hisSelLoad_shown s R.HIS_SEL n p _ (by decide)).trans (word_setWord_self ..)
    · obtain ⟨hsel, hrec⟩ := List.ne_and_not_mem_of_not_mem_cons ha
      exact (hisSelLoad_shown s a n p _ hrec).trans (word_setWord_other _ _ _ _ hsel)

end Sys2Proof.Machine
end

section
/-!
Telemetry: a stream's samples, blocks and packets, the stream's setting, and a capture spilled or sent (R422–R432).
-/
namespace Sys2Proof.Machine

/-! Samples and blocks -/

theorem take_frame (st : Stream) (d frame : Nat) (v : Int) (held : Bool) : (st.take d frame v held).frame = some frame := by
  unfold Stream.take
  extract_lets size begins st' sum first hold st''
  split
  · split
    · rfl
    · rfl
  · rfl

/-- Without averaging every frame is a window of its own. -/
theorem take_single (st : Stream) (frame : Nat) (v : Int) (held : Bool) : (st.take 0 frame v held).xs = st.xs ++ [decimated 0 v] ∧
    (st.take 0 frame v held).held = st.held ++ [held] := by
  unfold Stream.take
  extract_lets size begins st' sum first hold st''
  have hend : frame % size = size - 1 := Nat.mod_one frame
  have hb : begins = true := decide_eq_true (Nat.mod_one frame)
  have hsum : sum = v := if_pos hb
  have hhold : hold = held := if_pos hb
  have hgo : (begins || st'.going) = true := by rw [hb, Bool.true_or]
  rw [if_pos hgo, if_pos hend]
  exact ⟨congrArg (fun x => st.xs ++ [decimated 0 x]) hsum, congrArg (fun x => st.held ++ [x]) hhold⟩

theorem modStream_self (s : State) (n : Fin 8) (act : Stream → Stream) : (s.modStream n act).streams[n] = act s.streams[n] := by
  simp [State.modStream]

theorem modFn_self (s : State) (f : Fin 2) (act : MgtFn → MgtFn) : (s.modFn f act).mgt[f] = act s.mgt[f] := by
  simp [State.modFn]

theorem streamSample_eq {s : State} {n : Fin 8} (hr : s.streamRuns n.val = true) (hf : s.streams[n].frame ≠ some (s.tb / 1024)) :
    ∃ st v held code, exec (.streamSample n) s = .next (s.modStream n fun _ =>
      { Stream.take st (s.get (F.TLM_STR_D n.val)) (s.tb / 1024) v held with last := code }) :=
  ⟨_, _, _, _, (if_pos hr).trans (if_neg hf)⟩

/-- A fresh result of the frame, in a stream that has taken none yet. -/
theorem streamSample_fresh {s : State} {n : Fin 8} {c a u : Nat} (hr : s.streamRuns n.val = true) (hf : s.streams[n].frame = none)
    (hres : bankRead (fun _ => (0, 0, 0)) s.msr.res (s.get (F.TLM_STR_CHAN n.val)) = (c + 1, a, u))
    (hu : (u - s.tbZero.getD 0) / 1024 = s.tb / 1024) :
    exec (.streamSample n) s = .next (s.modStream n fun _ =>
      { Stream.take s.streams[n] (s.get (F.TLM_STR_D n.val)) (s.tb / 1024) (codeValue (s.get (F.TLM_STR_CHAN n.val)) c) false with last := c }) := by
  have hexec : exec (.streamSample n) s = execStreamSample n s := rfl
  have hfresh : (c + 1 != 0 && (u - s.tbZero.getD 0) / 1024 == s.tb / 1024) = true := by simp [hu]
  rw [hexec, execStreamSample, if_pos hr]
  extract_lets ch d frame st e fresh code st'
  have he : e = (c + 1, a, u) := hres
  have hf' : fresh = true := by
    show (e.1 != 0 && (e.2.2 - s.tbZero.getD 0) / 1024 == frame) = true
    rw [he]
    exact hfresh
  have hcode : code = c := by
    show (if fresh = true then e.1 - 1 else st.last) = c
    rw [if_pos hf', he]
    rfl
  have hfill : st.fill d frame (codeValue ch st.last) = st := by
    rw [Stream.fill, hf]
  rw [if_neg (by rw [hf]; exact fun h => by cases h)]
  show Host.Outcome.next (s.modStream n fun _ => { st' with last := code }) = _
  rw [show st' = (st.fill d frame (codeValue ch st.last)).take d frame (codeValue ch code) (!fresh) from rfl, hfill, hcode, hf']
  rfl

theorem pushBlock_none {s : State} {n : Fin 8} {f : Fin 2} (b : Block) (h : s.streamTo n.val f = false) : s.pushBlock n f b = s :=
  if_pos (by rw [h]; rfl)
theorem pushBlock_fits {s : State} {n : Fin 8} {f : Fin 2} (b : Block) (h : s.streamTo n.val f = true) (hb : s.buffered n f < 16) :
    s.pushBlock n f b = s.modStream n fun st => st.setBuf f (st.buf f ++ [b]) := by
  rw [State.pushBlock, if_neg (by rw [h]; exact Bool.false_ne_true), if_pos hb]

/-- A stream with a block taken out. -/
def State.blockTaken (s : State) (n : Fin 8) : State :=
  (s.putBit F.TLM_STATUS_HOLD n.val ((s.streams[n].held.take 64).any id)).modStream n fun t =>
    { t with xs := t.xs.drop 64, held := t.held.drop 64, first := t.first + 64 * 2 ^ s.get (F.TLM_STR_D n.val) }

/-- The block that a stream's first 64 samples make. -/
def State.blockOf (s : State) (n : Fin 8) : Block :=
  { words := encodeBlock (s.unitOff 1) (s.get (F.TLM_STR_K n.val)) ((s.streams[n].held.take 64).any id) (s.streams[n].xs.take 64),
    cfg := s.word (R.TLM_STR n.val), tb := 1024 * s.streams[n].first, at' := s.now }

theorem streamBlockEncode_eq {s : State} {n : Fin 8} (hr : s.streamRuns n.val = true) (hx : 64 ≤ s.streams[n].xs.length) :
    exec (.streamBlockEncode n) s = .next (((s.blockTaken n).pushBlock n 0 (s.blockOf n)).pushBlock n 1 (s.blockOf n)) :=
  if_pos (by rw [hr, Nat.ble_eq_true_of_le hx]; rfl)

theorem blockTaken_facts (s : State) (n : Fin 8) : (s.blockTaken n).streams[n].xs = s.streams[n].xs.drop 64 ∧
    (s.blockTaken n).streams[n].held = s.streams[n].held.drop 64 ∧ (s.blockTaken n).streams[n].buf0 = s.streams[n].buf0 ∧
    (s.blockTaken n).bit F.TLM_STATUS_HOLD n.val = (s.streams[n].held.take 64).any id ∧ (s.blockTaken n).mgt = s.mgt ∧
    SameWords [R.TLM_STATUS] s (s.blockTaken n) := by
  unfold State.blockTaken
  refine ⟨?_, ?_, ?_, ?_, rfl, fun a ha => word_set_other _ _ _ _ (List.ne_of_not_mem_cons ha)⟩
  · rw [modStream_self]
    rfl
  · rw [modStream_self]
    rfl
  · rw [modStream_self]
    rfl
  · have hn := n.isLt
    show (State.putBit _ _ _ _).bit _ _ = _
    rw [State.bit, State.putBit, get_set_self _ _ _ (by decide), Nat.testBit_mod_two_pow, setBitTo_testBit_self]
    rw [decide_eq_true (show n.val < F.TLM_STATUS_HOLD.width from hn), Bool.true_and]

theorem streamTo_taken (s : State) (n : Fin 8) (m : Nat) (hm : m < 8) (f : Fin 2) : (s.blockTaken n).streamTo m f = s.streamTo m f := by
  have hw : Writes [F.TLM_STATUS_HOLD] s (s.blockTaken n) := ((Writes.refl s).putBit (by simp)).same rfl
  have hstream : ∀ m < 8, Fld.outside (F.TLM_STR_DEST0 m) [F.TLM_STATUS_HOLD] = true ∧
    Fld.outside (F.TLM_STR_DEST9 m) [F.TLM_STATUS_HOLD] = true := by decide
  unfold State.streamTo State.tlmOn
  rw [hw.has _ (by decide), hw.has _ (by decide), hw.has _ (hstream m hm).1, hw.has _ (hstream m hm).2]

/-! Packets -/

theorem setBuf_buf (st : Stream) (f : Fin 2) (l : List Block) (m : Nat) : ((st.setBuf f l).setLost f m).buf f = l ∧
    ((st.setBuf f l).setLost f m).lost f = m := by
  unfold Stream.buf Stream.lost Stream.setBuf Stream.setLost
  split
  · exact ⟨rfl, rfl⟩
  · exact ⟨rfl, rfl⟩

/-- A packet of the first `k` blocks of a stream's buffer offered to a function. -/
def State.packetClosed (s : State) (n : Fin 8) (f : Fin 2) (k : Nat) (ws : List Word) : State :=
  (s.modStream n fun st => (st.setBuf f ((s.streams[n].buf f).drop k)).setLost f 0).offer f { stream := n.val, nblk := k, words := ws }

theorem packetClosed_facts (s : State) (n : Fin 8) (f : Fin 2) (k : Nat) (ws : List Word) :
    (s.packetClosed n f k ws).streams[n].buf f = (s.streams[n].buf f).drop k ∧ (s.packetClosed n f k ws).streams[n].lost f = 0 ∧
    (s.packetClosed n f k ws).mgt[f].ep3 = s.mgt[f].ep3 ++ [{ stream := n.val, nblk := k, words := ws }] ∧
    (s.packetClosed n f k ws).mgt[f].seq = (s.mgt[f].seq + 1) % 2 ^ 16 ∧ (s.packetClosed n f k ws).now = s.now ∧
    SameWords [] s (s.packetClosed n f k ws) := by
  unfold State.packetClosed State.offer
  have hself := modStream_self s n fun st => (st.setBuf f ((s.streams[n].buf f).drop k)).setLost f 0
  refine ⟨?_, ?_, ?_, ?_, rfl, fun _ _ => rfl⟩
  · exact (congrArg (Stream.buf · f) hself).trans (setBuf_buf s.streams[n] f ((s.streams[n].buf f).drop k) 0).1
  · exact (congrArg (Stream.lost · f) hself).trans (setBuf_buf s.streams[n] f ((s.streams[n].buf f).drop k) 0).2
  · exact congrArg MgtFn.ep3 (modFn_self _ f _)
  · exact congrArg MgtFn.seq (modFn_self _ f _)

theorem streamPacketClose_eq {s : State} {n : Fin 8} {f : Fin 2} {b : Block} {bs : List Block} (hc : s.codecServed = true)
    (hs : s.mgt[f].send = none) (hb : packetBlocks 3 (s.streams[n].buf f) = b :: bs) : ∃ ws, exec (.streamPacketClose n f) s =
    .next ((if ((b :: bs).length == 3 || Nat.blt (b :: bs).length (s.streams[n].buf f).length) then s
      else s.advanceTo (b.at' + msec 100)).packetClosed n f (b :: bs).length ws) := by
  have hexec : exec (.streamPacketClose n f) s = execStreamPacketClose n f s := rfl
  rw [hexec, execStreamPacketClose, hb]
  dsimp only
  rw [if_neg (by rw [hc, hs]; exact Bool.false_ne_true)]
  by_cases hfull : ((b :: bs).length == 3 || Nat.blt (b :: bs).length (s.streams[n].buf f).length) = true
  · simp only [if_pos hfull]
    exact ⟨_, rfl⟩
  · simp only [if_neg hfull]
    exact ⟨_, rfl⟩

/-! Captures -/

theorem nextCapPacket_done {s : State} {f : Fin 2} (h : s.mgt[f].send = none) : s.nextCapPacket f = s := by
  rw [State.nextCapPacket, h]

theorem nextCapPacket_first {s : State} {f : Fin 2} {len : Nat} (h : s.mgt[f].send = some { src := 0xFF, off := 0, len := len }) (hlen : 0 < len)
    (hst : s.get F.CAP_STATUS_STATE = 3) : (s.nextCapPacket f).mgt[f].ep3.length = s.mgt[f].ep3.length + 1 ∧
    (s.nextCapPacket f).mgt[f].send = some { src := 0xFF, off := min 492 len, len := len } ∧ SameWords [] s (s.nextCapPacket f) := by
  rw [State.nextCapPacket, h]
  dsimp only
  rw [if_pos (by rw [decide_eq_true hlen, hst]; rfl)]
  refine ⟨?_, ?_, fun _ _ => rfl⟩
  · rw [modFn_self, State.offer, modFn_self]
    simp
  · rw [modFn_self, Nat.zero_add, Nat.sub_zero]

/-- A later trigger, and a fault noted, leave a FULL ring as it is. -/
theorem recordFault_full {s : State} {code : Nat} {promoted : Bool} (h : 2 ≤ s.get F.CAP_STATUS_STATE) :
    (s.recordFault code promoted).get F.CAP_STATUS_STATE = s.get F.CAP_STATUS_STATE ∧ (s.recordFault code promoted).cap = s.cap := by
  have hnote : (s.noteFault code promoted).get F.CAP_STATUS_STATE = s.get F.CAP_STATUS_STATE ∧ (s.noteFault code promoted).cap = s.cap := by
    unfold State.noteFault
    simp (disch := decide)
  unfold State.recordFault State.captureEvent State.when
  generalize s.noteFault code promoted = u at *
  obtain ⟨hstate, hcap⟩ := hnote
  obtain ⟨-, -, hstate', hcap'⟩ := captureTrigger_late (s := u) (hstate ▸ h)
  dsimp only
  split
  · exact ⟨hstate'.trans hstate, hcap'.trans hcap⟩
  · exact ⟨hstate, hcap⟩

/-- A counted fault that does not escalate leaves a FULL ring as it is. -/
theorem raise_full {s : State} {code : Nat} (hc : faultClass code = 2) (hp : s.sourceAbsent (faultSource code) = false)
    (hq : s.calm (faultSource code) = true) (h : 2 ≤ s.get F.CAP_STATUS_STATE) :
    (s.raise code).get F.CAP_STATUS_STATE = s.get F.CAP_STATUS_STATE ∧ (s.raise code).cap = s.cap := by
  have hesc : (s.escalate (faultSource code) (faultClass code)).2.get F.CAP_STATUS_STATE = s.get F.CAP_STATUS_STATE ∧
      (s.escalate (faultSource code) (faultClass code)).2.cap = s.cap := by
    unfold State.escalate
    split
    · exact ⟨rfl, rfl⟩
    · exact ⟨rfl, rfl⟩
  rw [raise_counted (.inr hc) hp hq, if_neg (by omega)]
  generalize (s.escalate (faultSource code) (faultClass code)).2 = u at *
  obtain ⟨hstate, hcap⟩ := hesc
  obtain ⟨hstate', hcap'⟩ := recordFault_full (s := u) (code := code) (promoted := false) (hstate ▸ h)
  generalize u.recordFault code false = v at *
  refine ⟨?_, hcap'.trans hcap⟩
  rw [get_flag_apart _ _ _ (by decide) (by decide) (by decide), hstate', hstate]

/-- A spilled capture's slot as erased, numbered and named as the next. -/
def State.spillErased (s : State) : State :=
  { (s.flashErase (spillSlotBase (s.get F.CAP_SPILL_NEXT)) 0x80000).set F.CAP_SPILL_NEXT ((s.get F.CAP_SPILL_NEXT + 1) % s.spillSlots) with
    cap := { s.cap with highest := some (s.cap.highest.getD s.highestCap + 1) } }

/-- The bytes of a spill slot. -/
def State.spillBytes (s : State) : List Byte :=
  s.spillHead (s.cap.highest.getD s.highestCap + 1) ++
    leBytes 4 (crc32 (s.spillHead (s.cap.highest.getD s.highestCap + 1) ++ (List.range s.capWords).flatMap fun i => leBytes 4 (s.capAt i).toNat)) ++
    (List.range s.capWords).flatMap fun i => leBytes 4 (s.capAt i).toNat

theorem flatMap_leBytes_length (n : Nat) (g : Nat → Nat) : ((List.range n).flatMap fun i => leBytes 4 (g i)).length = 4 * n := by
  simp [List.length_flatMap, leBytes_length, Nat.mul_comm]

theorem spillHead_length (s : State) (no : Nat) : (s.spillHead no).length = 60 := by
  simp only [State.spillHead, List.length_append, leBytes_length]

theorem spillBytes_length (s : State) : s.spillBytes.length ≤ 0x80000 := by
  have hcap : s.capWords ≤ 131056 := Nat.min_le_right _ _
  rw [State.spillBytes, List.length_append, List.length_append, spillHead_length, leBytes_length, flatMap_leBytes_length]
  omega

/-- A spilled capture in its slot, the ring given free. -/
def State.spilled (s : State) : State :=
  let t := s.spillErased.flashProgram (spillSlotBase (s.get F.CAP_SPILL_NEXT)) s.spillBytes
  let t := t.set F.CAP_STATUS_STATE (if t.has F.CAP_SPILL_REARM then 1 else 0)
  { t with cap := { t.cap with count := 0, left := 0, marked := none } }

theorem captureSpill_eq {s : State} (ok : Bool) (hs : s.spilling = true) (hf : s.flashFree = true) : exec (.captureSpill ok) s =
    if ok then .next s.spilled
    else .next ((s.spillErased.spoil (spillSlotBase (s.get F.CAP_SPILL_NEXT)) (64 + 4 * s.capWords)).raise 0xAA16) := by
  have hexec : exec (.captureSpill ok) s = execCaptureSpill ok s := rfl
  rw [hexec, execCaptureSpill, if_pos (by rw [hs, hf]; rfl)]
  extract_lets n base no data
  have hdata : data.length = 4 * s.capWords := flatMap_leBytes_length _ _
  rw [hdata]
  rfl

theorem spillErased_facts (s : State) : Writes [F.CAP_SPILL_NEXT] s s.spillErased ∧
    s.spillErased.get F.CAP_SPILL_NEXT = (s.get F.CAP_SPILL_NEXT + 1) % s.spillSlots % 2 ^ F.CAP_SPILL_NEXT.width ∧
    s.spillErased.cap.count = s.cap.count ∧ s.spillErased.free = s.free ∧ SameWords [R.CAP_SPILL] s s.spillErased ∧
    SameFlash (spillSlotBase (s.get F.CAP_SPILL_NEXT)) 0x80000 s s.spillErased := by
  have hregs : s.spillErased.regs = (s.set F.CAP_SPILL_NEXT ((s.get F.CAP_SPILL_NEXT + 1) % s.spillSlots)).regs := rfl
  have hw : Writes [F.CAP_SPILL_NEXT] s (s.set F.CAP_SPILL_NEXT ((s.get F.CAP_SPILL_NEXT + 1) % s.spillSlots)) := (Writes.refl s).set (by simp)
  have hget : (s.set F.CAP_SPILL_NEXT ((s.get F.CAP_SPILL_NEXT + 1) % s.spillSlots)).get F.CAP_SPILL_NEXT =
      (s.get F.CAP_SPILL_NEXT + 1) % s.spillSlots % 2 ^ F.CAP_SPILL_NEXT.width := get_set_self _ _ _ (by decide)
  refine ⟨hw.same hregs, ?_, rfl, rfl, fun a ha => ?_, ?_⟩
  · rw [State.get, State.word, hregs]
    exact hget
  · rw [State.word, hregs]
    exact word_set_other _ _ _ _ (List.ne_of_not_mem_cons ha)
  · exact (flashErase_sameFlash s _ _).trans (.of_eq rfl)

theorem spilled_facts (s : State) :
    s.spilled.regs = (s.spillErased.set F.CAP_STATUS_STATE (if s.spillErased.has F.CAP_SPILL_REARM then 1 else 0)).regs ∧
    s.spilled.cap.count = 0 ∧ s.spilled.flash = (s.spillErased.flashProgram (spillSlotBase (s.get F.CAP_SPILL_NEXT)) s.spillBytes).flash := by
  unfold State.spilled
  generalize s.spillErased = u
  generalize s.spillBytes = bs
  generalize spillSlotBase (s.get F.CAP_SPILL_NEXT) = base
  exact ⟨rfl, rfl, rfl⟩

/-- Settles O38: a sample, a block, a packet and a setting each change one stream; a spill stays in its slot, whether it is read back or not. -/
theorem telemetryStreamsAct : Obligations.TelemetryStreamsAct := by
  refine ⟨fun s n hr hf => ?_, fun s n c a u hr hf hd hres hu => ?_, fun s n hr hx h0 h1 => ?_, fun s n b hr hx h0 h1 hb hbe => ?_,
    fun s n f b hc hs hb => ?_, fun s n f hc hs hb => ?_, fun s f p rest hserve hep hp => ?_, fun s f p rest hserve hep hp hs => ?_,
    fun s n w hload => ?_, fun s n w hload => ?_, fun s hf hst hen hc hslots hin => ?_, fun s hf hst hen hc hslots hin hq => ?_,
    fun s src to9 he ht hs hsrc hst hwords => ?_⟩
  · obtain ⟨st, v, held, code, hexec⟩ := streamSample_eq hr hf
    refine .of_eq hexec ⟨?_, fun _ _ => rfl⟩
    rw [modStream_self]
    exact take_frame ..
  · have hexec := streamSample_fresh hr hf hres hu
    rw [hd] at hexec
    obtain ⟨hxs, hheld⟩ := take_single s.streams[n] (s.tb / 1024) (codeValue (s.get (F.TLM_STR_CHAN n.val)) c) false
    refine .of_eq hexec ⟨?_, ?_, ?_, ?_, fun _ _ => rfl⟩
    · rw [modStream_self, hxs]
    · rw [modStream_self, hheld]
    · rw [modStream_self]
    · rw [modStream_self]
      exact take_frame ..
  · obtain ⟨hxs, hheld, -, hhold, -, hwords⟩ := blockTaken_facts s n
    have hexec := streamBlockEncode_eq hr hx
    rw [pushBlock_none _ ((streamTo_taken s n _ n.isLt 0).trans h0), pushBlock_none _ ((streamTo_taken s n _ n.isLt 1).trans h1)] at hexec
    exact .of_eq hexec ⟨hxs, hheld, hhold, hwords⟩
  · obtain ⟨hxs, hheld, hbuf, -, hmgt, hwords⟩ := blockTaken_facts s n
    have hexec := streamBlockEncode_eq hr hx
    have h0' := (streamTo_taken s n _ n.isLt 0).trans h0
    have h1' := (streamTo_taken s n _ n.isLt 1).trans h1
    rw [show s.blockOf n = b from hbe.symm] at hexec
    generalize s.blockTaken n = u at *
    have hroom : u.buffered n 0 < 16 := by
      rw [State.buffered, hmgt, show u.streams[n].buf 0 = s.streams[n].buf 0 from hbuf]
      exact hb
    rw [pushBlock_fits b h0' hroom] at hexec
    rw [pushBlock_none b (show (u.modStream n _).streamTo n.val 1 = false from h1')] at hexec
    refine .of_eq hexec ⟨?_, ?_, ?_, hwords⟩
    · rw [modStream_self]
      exact congrArg (· ++ [b]) hbuf
    · rw [modStream_self]
      exact hxs
    · rw [modStream_self]
      exact hheld
  · have hpack : packetBlocks 3 (s.streams[n].buf f) = [b] := by rw [hb]; rfl
    obtain ⟨ws, hexec⟩ := streamPacketClose_eq hc hs hpack
    rw [hb, if_neg (show ¬ ([b].length == 3 || Nat.blt [b].length [b].length) = true from Bool.false_ne_true)] at hexec
    obtain ⟨hbuf, hlost, hep, hseq, hnow, hwords⟩ := packetClosed_facts (s.advanceTo (b.at' + msec 100)) n f 1 ws
    refine .of_eq hexec ⟨?_, hlost, hnow, ?_, hseq, hwords⟩
    · rw [show [b].length = 1 from rfl, hbuf, show (s.advanceTo (b.at' + msec 100)).streams[n].buf f = [b] from hb]
      rfl
    · exact (congrArg List.length hep).trans List.length_append
  · obtain ⟨b, bs, hpack⟩ := List.exists_cons_of_ne_nil hb
    obtain ⟨ws, hexec⟩ := streamPacketClose_eq hc hs hpack
    obtain ⟨v, hv, hstreams, hmgt, hregs⟩ : ∃ v : State, (if ((b :: bs).length == 3 || Nat.blt (b :: bs).length (s.streams[n].buf f).length) = true
        then s else s.advanceTo (b.at' + msec 100)) = v ∧ v.streams = s.streams ∧ v.mgt = s.mgt ∧ v.regs = s.regs := by
      split
      · exact ⟨s, rfl, rfl, rfl, rfl⟩
      · exact ⟨_, rfl, rfl, rfl, rfl⟩
    rw [hv] at hexec
    obtain ⟨hbuf, hlost, hep, hseq, hnow, hwords⟩ := packetClosed_facts v n f (b :: bs).length ws
    rw [hpack]
    rw [hstreams] at hbuf
    rw [hmgt] at hep hseq
    refine .of_eq hexec ⟨hbuf, hlost, ?_, ?_, hseq, fun a ha => (hwords a ha).trans (congrArg (bankRead regReset · a) hregs)⟩
    · exact (congrArg List.length hep).trans List.length_append
    · rw [hep, List.getLast?_append]
      rfl
  · have hexec : exec (.telemetryPacketTaken f) s = .next (s.modFn f fun m => { m with ep3 := rest }) := by
      refine (if_neg (by rw [hserve]; exact Bool.false_ne_true)).trans ?_
      rw [hep]
      exact congrArg Host.Outcome.next (if_neg hp)
    exact .of_eq hexec ⟨congrArg MgtFn.ep3 (modFn_self s f _), fun _ _ => rfl⟩
  · have hsend : (s.modFn f fun m => { m with ep3 := rest }).mgt[f].send = none := (congrArg MgtFn.send (modFn_self s f _)).trans hs
    have hexec : exec (.telemetryPacketTaken f) s = .next (s.modFn f fun m => { m with ep3 := rest }) := by
      refine (if_neg (by rw [hserve]; exact Bool.false_ne_true)).trans ?_
      rw [hep]
      exact congrArg Host.Outcome.next ((if_pos hp).trans (nextCapPacket_done hsend))
    exact .of_eq hexec ⟨congrArg MgtFn.ep3 (modFn_self s f _), hsend, fun _ _ => rfl⟩
  · have hexec : exec (.tlmStrWrite n w) s = .next ((s.setWord (R.TLM_STR n.val) (w &&& 0xE0FC00FF#32)).modStream n fun st =>
        { st with going := false, sum := 0, xs := [], hold := false, held := [], frame := some (s.tb / 1024) }) :=
      if_neg (Nat.not_lt.mpr hload)
    have hself := modStream_self (s.setWord (R.TLM_STR n.val) (w &&& 0xE0FC00FF#32)) n fun st =>
        { st with going := false, sum := 0, xs := [], hold := false, held := [], frame := some (s.tb / 1024) }
    exact .of_eq hexec ⟨word_setWord_self .., congrArg Stream.xs hself, congrArg Stream.held hself, congrArg Stream.going hself,
      fun a ha => word_setWord_other _ _ _ _ (List.ne_of_not_mem_cons ha)⟩
  · have hapart : ∀ n : Fin 8, R.TLM_STR n.val ≠ G.TLM_REFUSED.bit.reg ∧ R.TLM_STR n.val ≠ G.TLM_REFUSED.cnt.reg := by decide
    refine .of_eq (if_pos hload) ⟨has_flag_self _ _ (by decide) (by decide) (by decide), ?_, rfl⟩
    rw [State.flag, State.bump, State.put, word_set_other _ _ _ _ (hapart n).2, word_set_other _ _ _ _ (hapart n).1]
  · have hspill : s.spilling = true := by
      rw [State.spilling, hst, hen, hc, hin]
      simp [hslots]
    obtain ⟨hw, hnext, -, -, hwords, hflash⟩ := spillErased_facts s
    have hlen := spillBytes_length s
    have hexec := (captureSpill_eq true hspill hf).trans (if_pos rfl)
    obtain ⟨hregs, hcount, hprog⟩ := spilled_facts s
    have hrearm : s.spillErased.has F.CAP_SPILL_REARM = s.has F.CAP_SPILL_REARM := hw.has _ (by decide)
    generalize s.spilled = t at *
    refine .of_eq hexec ⟨?_, ?_, hcount, hflash.trans ((flashProgram_sameFlash s.spillErased (spillSlotBase (s.get F.CAP_SPILL_NEXT))
      s.spillBytes).mono (Nat.le_refl _) (by omega) |>.trans (.of_eq hprog)), fun a ha => ?_⟩
    · rw [State.get, State.word, hregs, hrearm]
      refine (get_set_self _ F.CAP_STATUS_STATE _ (by decide)).trans ?_
      split
      · rfl
      · rfl
    · rw [State.get, State.word, hregs]
      exact (get_set_apart _ _ _ _ (by decide) (by decide)).trans hnext
    · obtain ⟨hstatus, hspillword⟩ := List.ne_and_not_mem_of_not_mem_cons ha
      rw [State.word, hregs]
      exact (word_set_other _ _ _ _ hstatus).trans (hwords a hspillword)
  · have hspill : s.spilling = true := by
      rw [State.spilling, hst, hen, hc, hin]
      simp [hslots]
    obtain ⟨hw, hnext, hcount, hfree, hwords, hflash⟩ := spillErased_facts s
    have hexec := (captureSpill_eq false hspill hf).trans (if_neg Bool.false_ne_true)
    obtain ⟨u, hu, hregs, hflt, hcap, hfree'⟩ : ∃ u : State, s.spillErased.spoil (spillSlotBase (s.get F.CAP_SPILL_NEXT)) (64 + 4 * s.capWords) = u ∧
        u.regs = s.spillErased.regs ∧ u.flt = s.flt ∧ u.cap.count = s.cap.count ∧ u.free = s.free + 1 := ⟨_, rfl, rfl, rfl, rfl, rfl⟩
    rw [hu] at hexec
    have hw' : Writes [F.CAP_SPILL_NEXT] s u := hw.same hregs
    have hq' : u.calm 0x2A = true := (calm_congr (hw'.has _ (by decide)) (hw' _ (by decide)) hflt).trans hq
    have hst' : u.get F.CAP_STATUS_STATE = 3 := (hw' _ (by decide)).trans hst
    have hraise : Writes raisedFields u (u.raise 0xAA16) := raise_calm_writes (by decide) (.inr hq')
    obtain ⟨hstate, hring⟩ := raise_full (s := u) (code := 0xAA16) rfl rfl hq' (by omega)
    refine .of_eq hexec ⟨hstate.trans hst', ?_, ?_, raise_counted_flag (.inr rfl) rfl hq', ?_⟩
    · rw [hraise _ (by decide +kernel), State.get, State.word, hregs]
      exact hnext
    · rw [hring, hcap]
    · rw [(raise_contained_beside (s := u) (code := 0xAA16) rfl (by decide)).free, hfree']
  · subst hsrc
    have hc : s.codecServed = true := by rw [State.codecServed, he]; rfl
    have hexec : exec (.captureSend 0xFF#8 to9) s = .next ((s.modFn (if to9 then 1 else 0) fun m =>
        { m with send := some { src := 0xFF, off := 0, len := 4 * s.capWords } }).nextCapPacket (if to9 then 1 else 0)) := by
      refine if_pos ?_
      show (s.codecServed && s.tlmOn (if to9 then 1 else 0) && (s.mgt[(if to9 then 1 else 0 : Fin 2)]).send.isNone &&
        (if (0xFF#8 : BitVec 8) = 0xFF#8 then s.get F.CAP_STATUS_STATE == 3 else _)) = true
      rw [hc, ht, hs, if_pos rfl, hst]
      rfl
    have hself := modFn_self s (if to9 then 1 else 0) fun m => { m with send := some { src := 0xFF, off := 0, len := 4 * s.capWords } }
    obtain ⟨hep, hsend, hw⟩ := nextCapPacket_first (congrArg MgtFn.send hself) (by omega) hst
    exact .of_eq hexec ⟨hep.trans (congrArg (List.length ·.ep3 + 1) hself), hsend, hw⟩

end Sys2Proof.Machine
end

section
/-!
The hub: the pool as it is shown and settled, and what a port's frame, a packet and a fault leave of it (R395–R421).
-/
namespace Sys2Proof.Machine

/-! The pool -/

def poolFields : List Fld := [F.HUB_BUF_FREE, F.HUB_BUF_MIN_FREE, F.HUB_BUF_PRIO_USED]

/-- What the pool's settling keeps of the hub. -/
structure PoolKept (s t : State) : Prop where
  writes : Writes poolFields s t
  words : SameWords [R.HUB_BUF] s t
  length : t.hub.pkts.length = s.hub.pkts.length
  tt : t.hub.tt = s.hub.tt
  fallback : t.hub.fallback = s.hub.fallback
  recWarned : t.hub.recWarned = s.hub.recWarned
  pins : t.pins = s.pins
  boot : t.boot = s.boot

section
variable {s t u : State}

theorem PoolKept.refl (s : State) : PoolKept s s := ⟨.refl s, fun _ _ => rfl, rfl, rfl, rfl, rfl, rfl, rfl⟩
theorem PoolKept.trans (h : PoolKept s t) (k : PoolKept t u) : PoolKept s u where
  writes := h.writes.trans k.writes
  words a ha := (k.words a ha).trans (h.words a ha)
  length := k.length.trans h.length
  tt := k.tt.trans h.tt
  fallback := k.fallback.trans h.fallback
  recWarned := k.recWarned.trans h.recWarned
  pins := k.pins.trans h.pins
  boot := k.boot.trans h.boot

theorem showPool_pool (s : State) : PoolKept s s.showPool ∧ s.showPool.hub.pkts = s.hub.pkts ∧
    s.showPool.get F.HUB_BUF_FREE = s.sharedFree % 2 ^ F.HUB_BUF_FREE.width := by
  unfold State.showPool
  extract_lets free low used a was q b
  have ha : PoolKept s a := by
    refine ⟨(((Writes.refl s).set (by simp [poolFields])).set (by simp [poolFields])).set (by simp [poolFields]), fun w hw => ?_, rfl, rfl, rfl, rfl, rfl, rfl⟩
    have hne := List.ne_of_not_mem_cons hw
    exact (word_set_other _ _ _ _ hne).trans ((word_set_other _ _ _ _ hne).trans (word_set_other _ _ _ _ hne))
  have hfree : a.get F.HUB_BUF_FREE = free % 2 ^ F.HUB_BUF_FREE.width :=
    (get_set_apart _ _ _ _ (by decide) (by decide)).trans ((get_set_apart _ _ _ _ (by decide) (by decide)).trans (get_set_self _ _ _ (by decide)))
  have hpkts : a.hub.pkts = s.hub.pkts := rfl
  clear_value a
  have hb : PoolKept s b := ha.trans ⟨(Writes.refl a).same rfl, fun _ _ => rfl, rfl, rfl, rfl, rfl, rfl, rfl⟩
  have hfree' : b.get F.HUB_BUF_FREE = free % 2 ^ F.HUB_BUF_FREE.width := hfree
  have hpkts' : b.hub.pkts = s.hub.pkts := hpkts
  clear_value b
  split
  · split
    · exact ⟨hb, hpkts', hfree'⟩
    · exact ⟨hb.trans ⟨(Writes.refl b).same rfl, fun _ _ => rfl, rfl, rfl, rfl, rfl, rfl, rfl⟩, hpkts', hfree'⟩
  · exact ⟨hb.trans ⟨(Writes.refl b).same rfl, fun _ _ => rfl, rfl, rfl, rfl, rfl, rfl, rfl⟩, hpkts', hfree'⟩

theorem bufferPkt_pool (s : State) (i : Nat) : PoolKept s (s.bufferPkt i) := by
  unfold State.bufferPkt
  split
  · exact .refl s
  · split
    · exact ⟨(Writes.refl s).same rfl, fun _ _ => rfl, List.length_set, rfl, rfl, rfl, rfl, rfl⟩
    · exact .refl s

theorem sendFirst_length (c : HubPkt → Bool) (l : List HubPkt) : (sendFirst c l).length = l.length := by
  induction l with
  | nil => rfl
  | cons p l ih =>
    rw [sendFirst]
    split
    · rfl
    · exact congrArg (· + 1) ih

theorem startEgress_length (l : List HubPkt) (e : Nat) : (startEgress l e).length = l.length := by
  unfold startEgress
  extract_lets here
  split
  · rfl
  · split
    · exact sendFirst_length _ l
    · exact sendFirst_length _ l

theorem startEgresses_length (es : List Nat) (l : List HubPkt) : (es.foldl startEgress l).length = l.length := by
  induction es generalizing l with
  | nil => rfl
  | cons e es ih => exact (ih _).trans (startEgress_length l e)

theorem admit_pool (is : List Nat) (s : State) : PoolKept s (forAll is (fun i t => t.bufferPkt i) s) := by
  induction is generalizing s with
  | nil => exact .refl s
  | cons i is ih => exact (bufferPkt_pool s i).trans (ih _)

theorem sharedFree_congr (h : PoolKept s t) (hp : t.hub.pkts = s.hub.pkts) : t.sharedFree = s.sharedFree := by
  have hport : ∀ k ∈ modulePorts, Fld.outside (F.HUB_PSTAT_DATA_ON k) poolFields = true := by decide
  have hss : ∀ k, t.ssPort k = s.ssPort k := fun k => by
    rw [State.ssPort, State.ssOn, State.unitOff, h.boot, h.writes.has _ (by decide), State.bit, h.writes _ (by decide), h.fallback]
    rfl
  have hports : t.ssPorts = s.ssPorts := by
    unfold State.ssPorts
    exact congrArg List.length (List.filter_congr fun k hk => by rw [hss, h.writes.has _ (hport k hk)])
  rw [State.sharedFree, State.sharedTotal, hports, h.writes _ (by decide), State.hubCount, hp]
  rfl

theorem egressed_pool (s : State) (es : List Nat) : PoolKept s { s with hub := { s.hub with pkts := es.foldl startEgress s.hub.pkts } } :=
  ⟨(Writes.refl s).same rfl, fun _ _ => rfl, startEgresses_length es s.hub.pkts, rfl, rfl, rfl, rfl, rfl⟩

theorem settleHub_pool (s : State) : PoolKept s s.settleHub ∧ s.settleHub.get F.HUB_BUF_FREE = s.settleHub.sharedFree % 2 ^ F.HUB_BUF_FREE.width := by
  unfold State.settleHub
  extract_lets a q
  have ha : PoolKept s a := admit_pool _ s
  clear_value a
  generalize List.range 9 = es
  have hb := egressed_pool a es
  generalize { a with hub := { a.hub with pkts := es.foldl startEgress a.hub.pkts } } = b at *
  obtain ⟨hk, hp, hf⟩ := showPool_pool b
  refine ⟨(ha.trans hb).trans hk, ?_⟩
  rw [sharedFree_congr hk hp]
  exact hf

end

/-! A port's frame -/

/-- The port's first unmet condition shown. -/
def State.hubShown (s : State) (p : PortId) : State := s.set (F.HUB_PSTAT_BLOCK p) (s.hubBlock p)
/-- The port's data goes on. -/
def State.hubOn (s : State) (p : PortId) : State :=
  let t := { s with hub := { s.hub with fallback := setBitTo s.hub.fallback p.val false } }
  let t := (t.put (F.HUB_PSTAT_DATA_ON p) true).set (F.HUB_PSTAT_SPEED p) 0
  t.set (F.HUB_PSTAT_LINK p) (if t.ssPort p then 1 else 0)
/-- A port that is on shows its link and speed. -/
def State.hubLinked (s : State) (p : PortId) (link : BitVec 4) (speed : BitVec 3) : State :=
  let t := s.set (F.HUB_PSTAT_LINK p) (if s.ssPort p then link.toNat else 0)
  let before := t.get (F.HUB_PSTAT_SPEED p)
  (t.set (F.HUB_PSTAT_SPEED p) (if t.ssPort p then speed.toNat else min 3 speed.toNat)).noteConnect p before
/-- The upstream port as the main computer has it. -/
def State.upShown (s : State) (up : BitVec 3) (upConf mf0Conf : Bool) : State :=
  if s.pins.ups then
    let t := (s.set F.HUB_STATUS_UP_SPEED (s.upSpeed up.toNat)).put F.HUB_STATUS_UP_CONF upConf
    (t.put F.HUB_STATUS_MF0_CONF mf0Conf).put (F.MGT_STATUS_CONFIGURED 0) mf0Conf
  else s

theorem hubPortDataEnable_eq (s : State) (k : Fin 8) (link : BitVec 4) (speed up : BitVec 3) (upConf mf0Conf : Bool) (events : List HubEvent) :
    exec (.hubPortDataEnable k link speed up upConf mf0Conf events) s = .next ((if s.hubBlock (hubPort k) ≠ 0 then
      if s.has (F.HUB_PSTAT_DATA_ON (hubPort k)) then (s.hubShown (hubPort k)).hubPortOff (hubPort k) else s.hubShown (hubPort k)
    else if s.has (F.HUB_PSTAT_DATA_ON (hubPort k)) then
      forAll events (fun e t => t.hubEvent k e) ((s.hubShown (hubPort k)).hubLinked (hubPort k) link speed)
    else (s.hubShown (hubPort k)).hubOn (hubPort k)).upShown up upConf mf0Conf).settleHub := rfl

def upFields : List Fld := [F.HUB_STATUS_UP_SPEED, F.HUB_STATUS_UP_CONF, F.HUB_STATUS_MF0_CONF, F.MGT_STATUS_CONFIGURED 0]

theorem upShown_facts (s : State) (up : BitVec 3) (upConf mf0Conf : Bool) : Writes upFields s (s.upShown up upConf mf0Conf) ∧
    (s.upShown up upConf mf0Conf).hub = s.hub ∧ (s.pins.ups = true → (s.upShown up upConf mf0Conf).has F.HUB_STATUS_UP_CONF = upConf) := by
  unfold State.upShown
  split
  · next hu =>
    refine ⟨((((Writes.refl s).set (by simp [upFields])).put (by simp [upFields])).put (by simp [upFields])).put (by simp [upFields]), rfl, fun _ => ?_⟩
    simp (disch := decide)
  · next hu => exact ⟨.refl s, rfl, fun h => absurd h hu⟩

theorem hubBlock_le (s : State) (p : PortId) : s.hubBlock p ≤ 4 := by
  unfold State.hubBlock
  repeat' split
  all_goals omega

theorem hubShown_facts (s : State) (p : PortId) : Writes [F.HUB_PSTAT_BLOCK p] s (s.hubShown p) ∧ (s.hubShown p).get (F.HUB_PSTAT_BLOCK p) = s.hubBlock p ∧
    (s.hubShown p).hub = s.hub ∧ (s.hubShown p).pins = s.pins := by
  have hle := hubBlock_le s p
  refine ⟨(Writes.refl s).set (by simp), ?_, rfl, rfl⟩
  exact (get_set_self _ (F.HUB_PSTAT_BLOCK p) _ (by clear * -; decide +revert)).trans (Nat.mod_eq_of_lt (show s.hubBlock p < 2 ^ 3 by omega))

def portShownFields (p : PortId) : List Fld := [F.HUB_PSTAT_DATA_ON p, F.HUB_PSTAT_SPEED p, F.HUB_PSTAT_LINK p]

theorem hubOn_facts (s : State) (p : PortId) : Writes (portShownFields p) s (s.hubOn p) ∧ (s.hubOn p).has (F.HUB_PSTAT_DATA_ON p) = true ∧
    (s.hubOn p).get (F.HUB_PSTAT_SPEED p) = 0 := by
  unfold State.hubOn
  extract_lets q t t'
  have ht : Writes (portShownFields p) s t := (Writes.refl s).same rfl
  clear_value t
  have ht' : Writes (portShownFields p) s t' := (ht.put (by simp [portShownFields])).set (by simp [portShownFields])
  refine ⟨ht'.set (by simp [portShownFields]), ?_, ?_⟩
  · clear ht ht'
    simp (disch := (clear * -; decide +revert)) [t']
  · rw [get_set_apart _ _ _ _ (by clear * -; decide +revert) (by clear * -; decide +revert),
      get_set_self _ _ _ (by clear * -; decide +revert), Nat.zero_mod]

theorem ssPort_congr {s t : State} {l : List Fld} (hw : Writes l s t) (hd : Fld.outside F.HUB_CFG_SS_DIS l = true)
    (hs : Fld.outside F.HUB_STATUS_SS_STOPPED l = true) (hf : t.hub.fallback = s.hub.fallback) (hb : t.boot = s.boot) (p : PortId) :
    t.ssPort p = s.ssPort p := by
  rw [State.ssPort, State.ssOn, State.unitOff, hb, hw.has _ hs, State.bit, hw _ hd, hf]
  rfl

theorem hubLinked_facts (s : State) (k : Fin 8) (link : BitVec 4) (speed : BitVec 3) (h : s.ssPort (hubPort k) = true) :
    Writes (portShownFields (hubPort k)) s (s.hubLinked (hubPort k) link speed) ∧
    (s.hubLinked (hubPort k) link speed).get (F.HUB_PSTAT_LINK (hubPort k)) = link.toNat ∧
    (s.hubLinked (hubPort k) link speed).get (F.HUB_PSTAT_SPEED (hubPort k)) = speed.toNat ∧
    (s.hubLinked (hubPort k) link speed).hub.tt = s.hub.tt ∧ (s.hubLinked (hubPort k) link speed).pins = s.pins := by
  unfold State.hubLinked
  extract_lets t before
  have hw : Writes [F.HUB_PSTAT_LINK (hubPort k)] s t := (Writes.refl s).set (by simp)
  have hss : t.ssPort (hubPort k) = true :=
    (ssPort_congr hw (by clear * -; decide +revert) (by clear * -; decide +revert) rfl rfl _).trans h
  have hlink : t.get (F.HUB_PSTAT_LINK (hubPort k)) = link.toNat := by
    refine (get_set_self _ (F.HUB_PSTAT_LINK (hubPort k)) _ (by clear * -; decide +revert)).trans ?_
    rw [if_pos h]
    exact Nat.mod_eq_of_lt link.isLt
  have htt : t.hub.tt = s.hub.tt ∧ t.pins = s.pins := ⟨rfl, rfl⟩
  clear_value t
  rw [if_pos hss]
  obtain ⟨v, hv⟩ : ∃ v, t.set (F.HUB_PSTAT_SPEED (hubPort k)) speed.toNat = v := ⟨_, rfl⟩
  have hwv : Writes (portShownFields (hubPort k)) s v :=
    hv ▸ (hw.mono (by simp [portShownFields])).set (by simp [portShownFields])
  have hspeed : v.get (F.HUB_PSTAT_SPEED (hubPort k)) = speed.toNat := by
    rw [← hv, get_set_self _ _ _ (by clear * -; decide +revert)]
    exact Nat.mod_eq_of_lt speed.isLt
  have hlink' : v.get (F.HUB_PSTAT_LINK (hubPort k)) = link.toNat := by
    rw [← hv, get_set_apart _ _ _ _ (by clear * -; decide +revert) (by clear * -; decide +revert), hlink]
  have hrest : v.hub.tt = s.hub.tt ∧ v.pins = s.pins := by
    rw [← hv]
    exact htt
  rw [hv]
  unfold State.noteConnect
  split
  · exact ⟨hwv, hlink', hspeed, hrest⟩
  · exact ⟨hwv.same rfl, hlink', hspeed, hrest⟩

theorem hubEvent_facts (s : State) (k : Fin 8) (e : HubEvent) :
    Writes [F.HUB_ERR_TT_ERR (k.val + 1), F.HUB_ERR_HS_ERR 0, F.HUB_ERR_HS_ERR (k.val + 1)] s (s.hubEvent k e) ∧
    (s.hubEvent k e).hub.tt[k] = s.hub.tt[k].after e ∧ (s.hubEvent k e).pins = s.pins := by
  unfold State.hubEvent
  extract_lets q t
  have ht : Writes [F.HUB_ERR_TT_ERR (k.val + 1), F.HUB_ERR_HS_ERR 0, F.HUB_ERR_HS_ERR (k.val + 1)] s t := (Writes.refl s).same rfl
  have htt : t.hub.tt[k] = s.hub.tt[k].after e := by simp [t]
  have hpins : t.pins = s.pins := rfl
  clear_value t
  cases e with
  | split b => exact ⟨ht, htt, hpins⟩
  | complete b => exact ⟨ht, htt, hpins⟩
  | abort b => exact ⟨ht.bump (by simp), htt, hpins⟩
  | failed up =>
    cases up
    · exact ⟨ht.bump (by simp), htt, hpins⟩
    · exact ⟨ht.bump (by simp), htt, hpins⟩

theorem hubPortOff_facts (s : State) (p : PortId) : Writes (linkFields p) s (s.hubPortOff p) ∧ (s.hubPortOff p).has (F.HUB_PSTAT_DATA_ON p) = false ∧
    (s.hubPortOff p).get (F.HUB_PSTAT_LINK p) = 0 := by
  refine ⟨(Writes.refl s).hubPortOff fun _ hf => hf, ?_, ?_⟩
  · unfold State.hubPortOff
    extract_lets gone was q t u
    clear_value u
    simp (disch := (clear * -; decide +revert))
  · unfold State.hubPortOff
    extract_lets gone was q t u
    rw [get_set_apart _ _ _ _ (by clear * -; decide +revert) (by clear * -; decide +revert),
      get_set_self _ _ _ (by clear * -; decide +revert), Nat.zero_mod]

end Sys2Proof.Machine
end

section
/-!
The hub's packets, faults and counters, and the statement on the USB data path (R395–R421).
-/
namespace Sys2Proof.Machine

/-! Classification of a counted fault in any state -/

section
variable {s : State} {code : Nat}

theorem classify_keeps {β : Type} {g : State → β} (hfind : g (s.find code) = g s) (hraise : g (s.raise code) = g s) :
    g (s.classify code) = g s := by
  unfold State.classify
  split
  · exact hfind
  · split
    · rfl
    · exact hraise

theorem classify_calm_writes (hc : faultClass code ≤ 2) (hq : faultClass code = 0 ∨ s.calm (faultSource code) = true) :
    Writes raisedFields s (s.classify code) := by
  unfold State.classify
  split
  · exact (Writes.refl s).same rfl
  · split
    · exact .refl s
    · exact raise_calm_writes hc hq

theorem classify_calm_hub (hc : faultClass code ≤ 2) (hq : faultClass code = 0 ∨ s.calm (faultSource code) = true) :
    (s.classify code).hub = s.hub :=
  classify_keeps (g := State.hub) rfl (raise_logged hc hq (.refl s)).hub

end

/-! Packets -/

theorem dropFirst_length {c : HubPkt → Bool} {l : List HubPkt} (h : l.any c = true) : (dropFirst c l).length + 1 = l.length := by
  induction l with
  | nil => exact absurd h Bool.false_ne_true
  | cons p l ih =>
    rw [dropFirst]
    split
    · rfl
    · next hp => exact congrArg (· + 1) (ih ((Bool.or_eq_true_iff.mp h).resolve_left hp))

/-- A packet taken by the hub, not yet in a buffer. -/
def State.packetTaken (s : State) (q : HubPkt) : State := { s with hub := { s.hub with pkts := s.hub.pkts ++ [q] } }
/-- The first packet of a kind gone. -/
def State.packetGone (s : State) (c : HubPkt → Bool) : State := { s with hub := { s.hub with pkts := dropFirst c s.hub.pkts } }

theorem elapsed_armed (s : State) (i : TimerId) : (s.elapsed i).armed i = false := by simp

/-! Links -/

/-- A port fallen back to USB 2.0. -/
def State.fellBack (s : State) (p : PortId) (n : Nat) : State :=
  ({ s with hub := { s.hub with fallback := setBitTo s.hub.fallback p.val true } }.set (F.HUB_PSTAT_LINK p) 0).set (F.HUB_PSTAT_SPEED p) (min 3 n)

theorem fellBack_facts (s : State) (p : PortId) (n : Nat) : (s.fellBack p n).get (F.HUB_PSTAT_LINK p) = 0 ∧
    (s.fellBack p n).get (F.HUB_PSTAT_SPEED p) = min 3 n ∧ (s.fellBack p n).hub.fallback.testBit p.val = true := by
  refine ⟨?_, ?_, show (setBitTo s.hub.fallback p.val true).testBit p.val = true from setBitTo_testBit_self _ _ _⟩
  · exact (get_set_apart _ _ _ _ (by clear * -; decide +revert) (by clear * -; decide +revert)).trans
      (get_set_self _ (F.HUB_PSTAT_LINK p) 0 (by clear * -; decide +revert))
  · exact (get_set_self _ (F.HUB_PSTAT_SPEED p) _ (by clear * -; decide +revert)).trans (Nat.mod_eq_of_lt (show min 3 n < 2 ^ 3 by omega))

theorem ssTrainingFailed_port {s : State} {k : Fin 8} {speed : BitVec 3} (hon : s.has (F.HUB_PSTAT_DATA_ON (hubPort k)) = true)
    (hss : s.ssPort (hubPort k) = true) : exec (.ssTrainingFailed k.succ speed) s =
    .next (((s.fellBack (hubPort k) speed.toNat).flag G.HUB_SS_FALLBACK).warn (0x2810 + k.succ.val)).settleHub := by
  have hexec : exec (.ssTrainingFailed k.succ speed) s = execSsTrainingFailed k.succ speed s := rfl
  rw [hexec, execSsTrainingFailed, if_neg (show ¬ k.succ.val = 0 from Nat.succ_ne_zero _)]
  extract_lets p
  have hp : p = hubPort k := rfl
  clear_value p
  subst hp
  exact if_pos (by rw [hon, hss]; rfl)

theorem fallbackSettled_facts (s : State) (code : Nat) :
    Writes (poolFields ++ logFields ++ [G.HUB_SS_FALLBACK.bit, G.HUB_SS_FALLBACK.cnt]) s ((s.flag G.HUB_SS_FALLBACK).warn code).settleHub ∧
    ((s.flag G.HUB_SS_FALLBACK).warn code).settleHub.hub.fallback = s.hub.fallback ∧
    ((s.flag G.HUB_SS_FALLBACK).warn code).settleHub.has G.HUB_SS_FALLBACK.bit = true := by
  have hflag : Writes [G.HUB_SS_FALLBACK.bit, G.HUB_SS_FALLBACK.cnt] s (s.flag G.HUB_SS_FALLBACK) := (Writes.refl s).flag (by simp) (by simp)
  have hset : (s.flag G.HUB_SS_FALLBACK).has G.HUB_SS_FALLBACK.bit = true := has_flag_self _ _ (by decide) (by decide) (by decide)
  have hhub : (s.flag G.HUB_SS_FALLBACK).hub = s.hub := rfl
  generalize s.flag G.HUB_SS_FALLBACK = u at *
  have hwarn : Writes logFields u (u.warn code) := (Writes.refl u).warn fun _ hf => hf
  have hhub' : (u.warn code).hub = u.hub := warn_hub ..
  generalize u.warn code = v at *
  have hpool := (settleHub_pool v).1
  refine ⟨((hflag.mono fun _ hf => List.mem_append_right _ hf).trans (hwarn.mono fun _ hf => ?_)).trans (hpool.writes.mono fun _ hf => ?_), ?_, ?_⟩
  · exact List.mem_append_left _ (List.mem_append_right _ hf)
  · exact List.mem_append_left _ (List.mem_append_left _ hf)
  · rw [hpool.fallback, hhub', hhub]
  · rw [hpool.writes.has _ (by decide), hwarn.has _ (by decide), hset]

/-- A link's warning at its time. -/
def State.recNoted (s : State) (p : Fin 9) : State :=
  { s with hub := { s.hub with recWarned := bankWrite (fun _ => 0) s.hub.recWarned p.val (s.now + 1) } }

def pllFields : List Fld := [F.CLK_STATUS_SS_LOCK, F.HUB_STATUS_SS_STOPPED] ++ modulePorts.flatMap (fun k => [F.HUB_PSTAT_LINK k, F.HUB_PSTAT_SPEED k]) ++
  [F.HUB_STATUS_UP_SPEED]

/-- SuperSpeed stopped on every link. -/
def State.ssStopped (s : State) : State :=
  let t := (s.put F.CLK_STATUS_SS_LOCK false).put F.HUB_STATUS_SS_STOPPED true
  let t := { t with hub := { t.hub with pkts := [] } }
  let t := forAll modulePorts (fun k u =>
    (u.set (F.HUB_PSTAT_LINK k) 0).when (Nat.ble 4 (u.get (F.HUB_PSTAT_SPEED k))) fun v => v.set (F.HUB_PSTAT_SPEED k) 0) t
  t.set F.HUB_STATUS_UP_SPEED (min 1 (t.get F.HUB_STATUS_UP_SPEED))

theorem ssStopped_facts (s : State) : Writes pllFields s s.ssStopped ∧ s.ssStopped.has F.CLK_STATUS_SS_LOCK = false ∧
    s.ssStopped.has F.HUB_STATUS_SS_STOPPED = true ∧ s.ssStopped.hub.pkts = [] ∧ s.ssStopped.flt = s.flt := by
  unfold State.ssStopped
  extract_lets a q b c
  have ha : Writes pllFields s b :=
    (((Writes.refl s).put (f := F.CLK_STATUS_SS_LOCK) (by simp [pllFields])).put (f := F.HUB_STATUS_SS_STOPPED) (by simp [pllFields])).same rfl
  have hlock : b.has F.CLK_STATUS_SS_LOCK = false :=
    (has_put_apart _ _ _ _ (by decide) (by decide)).trans (has_put_self _ _ _ (by decide) (by decide))
  have hstop : b.has F.HUB_STATUS_SS_STOPPED = true := has_put_self _ _ _ (by decide) (by decide)
  have hpkts : b.hub.pkts = [] ∧ b.flt = s.flt := ⟨rfl, rfl⟩
  clear_value b
  have hport : ∀ k ∈ modulePorts, ∀ f ∈ [F.HUB_PSTAT_LINK k, F.HUB_PSTAT_SPEED k], f ∈ modulePorts.flatMap (fun k => [F.HUB_PSTAT_LINK k, F.HUB_PSTAT_SPEED k]) :=
    fun k hk f hf => List.mem_flatMap_of_mem hk hf
  have hbc : Writes (modulePorts.flatMap (fun k => [F.HUB_PSTAT_LINK k, F.HUB_PSTAT_SPEED k])) b c :=
    (Writes.refl b).forAll fun k hk t ht => (ht.set (hport k hk _ (by simp))).when fun u hu => hu.set (hport k hk _ (by simp))
  have hkeep : c.hub = b.hub ∧ c.flt = b.flt := by
    have hstep : ∀ (k : PortId) (t : State), ((t.set (F.HUB_PSTAT_LINK k) 0).when (Nat.ble 4 (t.get (F.HUB_PSTAT_SPEED k))) fun v =>
        v.set (F.HUB_PSTAT_SPEED k) 0).hub = t.hub ∧ ((t.set (F.HUB_PSTAT_LINK k) 0).when (Nat.ble 4 (t.get (F.HUB_PSTAT_SPEED k))) fun v =>
        v.set (F.HUB_PSTAT_SPEED k) 0).flt = t.flt := fun k t => by
      unfold State.when
      split
      · exact ⟨rfl, rfl⟩
      · exact ⟨rfl, rfl⟩
    exact ⟨forAll_invariant (g := State.hub) (fun k t => (hstep k t).1) _ b, forAll_invariant (g := State.flt) (fun k t => (hstep k t).2) _ b⟩
  clear_value c
  have hlast : Writes [F.HUB_STATUS_UP_SPEED] c (c.set F.HUB_STATUS_UP_SPEED (min 1 (c.get F.HUB_STATUS_UP_SPEED))) := (Writes.refl c).set (by simp)
  refine ⟨(ha.trans (hbc.mono fun _ hf => List.mem_append_left _ (List.mem_append_right _ hf))).trans
    (hlast.mono fun _ hf => List.mem_append_right _ hf), ?_, ?_, (congrArg Hub.pkts hkeep.1).trans hpkts.1, hkeep.2.trans hpkts.2⟩
  · rw [hlast.has _ (by decide), hbc.has _ (by decide), hlock]
  · rw [hlast.has _ (by decide), hbc.has _ (by decide), hstop]

/-! Counters -/

/-- One port's counters cleared where its bit is written 1. -/
def clearCounter (w : Word) (k : Nat) (t : State) : State := if w.getLsbD k then t.setWord (R.HUB_ERR k) 0 else t

theorem clearCounter_other (w : Word) (k a : Nat) (t : State) (h : a ≠ R.HUB_ERR k) : (clearCounter w k t).word a = t.word a := by
  unfold clearCounter
  split
  · exact word_setWord_other _ _ _ _ h
  · rfl

theorem clearCounters_word (w : Word) {k : Nat} {l : List Nat} (hl : ∀ i ∈ l, i ≠ k → R.HUB_ERR k ≠ R.HUB_ERR i) (s : State) :
    (forAll l (clearCounter w) s).word (R.HUB_ERR k) = if w.getLsbD k && decide (k ∈ l) then 0#32 else s.word (R.HUB_ERR k) := by
  induction l generalizing s with
  | nil => simp [forAll]
  | cons i l ih =>
    have hstep : (forAll (i :: l) (clearCounter w) s) = forAll l (clearCounter w) (clearCounter w i s) := rfl
    rw [hstep, ih (fun j hj => hl j (List.mem_cons_of_mem i hj))]
    by_cases hik : i = k
    · subst hik
      unfold clearCounter
      cases w.getLsbD i
      · simp
      · simp
    · rw [clearCounter_other _ _ _ _ (hl i List.mem_cons_self hik)]
      simp [Ne.symm hik]

/-- Settles O37: the pool's settling keeps what a command has done, and a fault that does not escalate keeps the hub. -/
theorem hubDataPathActs : Obligations.HubDataPathActs := by
  refine ⟨fun s k link speed up upConf mf0Conf events hb hon => ?_, fun s k link speed up upConf mf0Conf events hb hon => ?_,
    fun s k link speed up upConf mf0Conf e hb hon hss => ?_, fun s up k addr ep hon hss hups => ?_, fun s up k addr ep hon hss hups => ?_,
    fun s egress hany => ?_, fun s => ?_, fun s unc hq => ?_, fun s harmed => ?_, fun s p speed hp hups => ?_,
    fun s p speed k hp hon hss => ?_, fun s p n hp hn => ?_, fun s p n hp hn hlast => ?_, fun s hon hq => ?_, fun s hs hlock hq => ?_, fun s w => ?_⟩
  · have hexec := hubPortDataEnable_eq s k link speed up upConf mf0Conf events
    rw [if_neg (not_not_intro hb), if_neg (by rw [hon]; exact Bool.false_ne_true)] at hexec
    obtain ⟨hw, hblock, -, -⟩ := hubShown_facts s (hubPort k)
    generalize s.hubShown (hubPort k) = a at *
    obtain ⟨hw', hdata, hspeed⟩ := hubOn_facts a (hubPort k)
    generalize a.hubOn (hubPort k) = b at *
    obtain ⟨hup, -, -⟩ := upShown_facts b up upConf mf0Conf
    generalize b.upShown up upConf mf0Conf = c at *
    have hpool := (settleHub_pool c).1.writes
    refine .of_eq hexec ⟨?_, ?_, ?_⟩
    · rw [hpool.has _ (by clear * -; decide +revert), hup.has _ (by clear * -; decide +revert), hdata]
    · rw [hpool _ (by clear * -; decide +revert), hup _ (by clear * -; decide +revert), hw' _ (by clear * -; decide +revert), hblock, hb]
    · rw [hpool _ (by clear * -; decide +revert), hup _ (by clear * -; decide +revert), hspeed]
  · have hexec := hubPortDataEnable_eq s k link speed up upConf mf0Conf events
    rw [if_pos hb, if_pos hon] at hexec
    obtain ⟨hw, hblock, -, -⟩ := hubShown_facts s (hubPort k)
    generalize s.hubShown (hubPort k) = a at *
    obtain ⟨hw', hdata, hlink⟩ := hubPortOff_facts a (hubPort k)
    generalize a.hubPortOff (hubPort k) = b at *
    obtain ⟨hup, -, -⟩ := upShown_facts b up upConf mf0Conf
    generalize b.upShown up upConf mf0Conf = c at *
    have hpool := (settleHub_pool c).1.writes
    refine .of_eq hexec ⟨?_, ?_, ?_⟩
    · rw [hpool.has _ (by clear * -; decide +revert), hup.has _ (by clear * -; decide +revert), hdata]
    · rw [hpool _ (by clear * -; decide +revert), hup _ (by clear * -; decide +revert), hw' _ (by clear * -; decide +revert), hblock]
    · rw [hpool _ (by clear * -; decide +revert), hup _ (by clear * -; decide +revert), hlink]
  · have hexec := hubPortDataEnable_eq s k link speed up upConf mf0Conf [e]
    rw [if_neg (not_not_intro hb), if_pos hon] at hexec
    obtain ⟨hw, -, hhub, hpins⟩ := hubShown_facts s (hubPort k)
    have hss' : (s.hubShown (hubPort k)).ssPort (hubPort k) = true :=
      (ssPort_congr hw (by clear * -; decide +revert) (by clear * -; decide +revert) rfl rfl _).trans hss
    generalize s.hubShown (hubPort k) = a at *
    obtain ⟨-, hlink, hspeed, htt, hpins'⟩ := hubLinked_facts a k link speed hss'
    generalize a.hubLinked (hubPort k) link speed = b at *
    obtain ⟨herr, hafter, hpins''⟩ := hubEvent_facts b k e
    rw [show forAll [e] (fun e t => t.hubEvent k e) b = b.hubEvent k e from rfl] at hexec
    generalize b.hubEvent k e = c at *
    obtain ⟨hup, hhub', hconf⟩ := upShown_facts c up upConf mf0Conf
    generalize c.upShown up upConf mf0Conf = d at *
    have hpool := (settleHub_pool d).1
    refine .of_eq hexec ⟨?_, ?_, ?_, fun hups => ?_⟩
    · rw [hpool.writes _ (by clear * -; decide +revert), hup _ (by clear * -; decide +revert), herr _ (by clear * -; decide +revert), hlink]
    · rw [hpool.writes _ (by clear * -; decide +revert), hup _ (by clear * -; decide +revert), herr _ (by clear * -; decide +revert), hspeed]
    · rw [hpool.tt, hhub', hafter, htt, hhub]
    · rw [hpool.writes.has _ (by decide), hconf (by rw [hpins'', hpins', hpins, hups])]
  · have hexec : exec (.hubPacketReceived up k addr ep true) s = .next (s.bump (F.HUB_ERR_SS_ERR (if up then k.val + 1 else 0)) 1) :=
      (if_pos (by rw [hon, hss, hups]; rfl)).trans (if_pos rfl)
    have hin : ∀ (k : Fin 8) (up : Bool), (F.HUB_ERR_SS_ERR (if up then k.val + 1 else 0)).inWord = true := by decide
    exact .of_eq hexec ⟨get_bump_self _ _ _ (hin k up), rfl, fun a ha => word_set_other _ _ _ _ (List.ne_of_not_mem_cons ha)⟩
  · have hexec : exec (.hubPacketReceived up k addr ep false) s =
        .next (s.packetTaken { up := up, port := (hubPort k).val, prio := s.isPriority up (hubPort k) addr ep, store := 3 }).settleHub :=
      (if_pos (by rw [hon, hss, hups]; rfl)).trans (if_neg Bool.false_ne_true)
    obtain ⟨hpool, hfree⟩ := settleHub_pool
      (s.packetTaken { up := up, port := (hubPort k).val, prio := s.isPriority up (hubPort k) addr ep, store := 3 })
    exact .of_eq hexec ⟨hpool.length.trans List.length_append, hfree, hpool.words⟩
  · have hexec : exec (.hubPacketSent egress) s = .next (s.packetGone fun p => p.sending && decide (p.egress = egress.val)).settleHub := rfl
    obtain ⟨hpool, -⟩ := settleHub_pool (s.packetGone fun p => p.sending && decide (p.egress = egress.val))
    exact .of_eq hexec ⟨(congrArg (· + 1) hpool.length).trans (dropFirst_length hany), hpool.words⟩
  · have hlt : s.get F.HUB_BUF_FREE < 2 ^ F.HUB_BUF_MIN_FREE.width := get_lt s F.HUB_BUF_FREE
    refine .of_eq rfl ⟨(get_set_self _ _ _ (by decide)).trans (Nat.mod_eq_of_lt hlt), get_set_apart _ _ _ _ (by decide) (by decide),
      fun a ha => word_set_other _ _ _ _ (List.ne_of_not_mem_cons ha)⟩
  · have hecc : (s.flag G.HUB_ECC).has G.HUB_ECC.bit = true := has_flag_self _ _ (by decide) (by decide) (by decide)
    have hflag : Writes [G.HUB_ECC.bit, G.HUB_ECC.cnt] s (s.flag G.HUB_ECC) := (Writes.refl s).flag (by simp) (by simp)
    cases unc
    · have hexec : exec (.bufferEccError false) s = .next ((s.flag G.HUB_ECC).classify 0x6822).showPool :=
        congrArg Host.Outcome.next (if_neg Bool.false_ne_true)
      have hcalm : (s.flag G.HUB_ECC).calm 0x28 = true := (calm_congr (hflag.has _ (by decide)) (hflag _ (by decide)) rfl).trans hq
      generalize s.flag G.HUB_ECC = u at *
      have hcls : Writes raisedFields u (u.classify 0x6822) := classify_calm_writes (by decide) (.inr hcalm)
      have hpool := (showPool_pool (u.classify 0x6822)).1.writes
      refine .of_eq hexec ⟨?_, ?_⟩
      · rw [hpool.has _ (by decide), hcls.has _ (by decide +kernel), hecc]
      · rw [hpool _ (by decide), hcls _ (by decide +kernel), hflag _ (by decide)]
        exact (if_neg Bool.false_ne_true).symm
    · have hexec : exec (.bufferEccError true) s = .next (((s.flag G.HUB_ECC).bump F.HUB_BUF_RETIRED 1).classify 0xA823).showPool :=
        congrArg Host.Outcome.next (if_pos rfl)
      have hbump : Writes [F.HUB_BUF_RETIRED] (s.flag G.HUB_ECC) ((s.flag G.HUB_ECC).bump F.HUB_BUF_RETIRED 1) := (Writes.refl _).bump (by simp)
      have hval := get_bump_self (s.flag G.HUB_ECC) F.HUB_BUF_RETIRED 1 (by decide)
      have hcalm : ((s.flag G.HUB_ECC).bump F.HUB_BUF_RETIRED 1).calm 0x28 = true :=
        (calm_congr ((hbump.has _ (by decide)).trans (hflag.has _ (by decide))) ((hbump _ (by decide)).trans (hflag _ (by decide))) rfl).trans hq
      generalize (s.flag G.HUB_ECC).bump F.HUB_BUF_RETIRED 1 = v at *
      have hcls : Writes raisedFields v (v.classify 0xA823) := classify_calm_writes (by decide) (.inr hcalm)
      have hpool := (showPool_pool (v.classify 0xA823)).1.writes
      refine .of_eq hexec ⟨?_, ?_⟩
      · rw [hpool.has _ (by decide), hcls.has _ (by decide +kernel), hbump.has _ (by decide), hecc]
      · rw [hpool _ (by decide), hcls _ (by decide +kernel), hval, hflag _ (by decide)]
        exact (if_pos rfl).symm
  · have hflag : ((s.elapsed .poolEmpty).flag G.HUB_POOL_EMPTY).has G.HUB_POOL_EMPTY.bit = true :=
      has_flag_self _ _ (by decide) (by decide) (by decide)
    have hoff : ((s.elapsed .poolEmpty).flag G.HUB_POOL_EMPTY).armed .poolEmpty = false := elapsed_armed s .poolEmpty
    refine .of_elapse_eq harmed rfl rfl ?_
    generalize (s.elapsed .poolEmpty).flag G.HUB_POOL_EMPTY = u at *
    have hlog := warn_logged (code := 0x2821) (.refl u)
    refine ⟨(hlog.has _ (by decide)).trans hflag, has_flag_self _ _ (by decide) (by decide) (by decide), ?_⟩
    rw [State.armed, State.deadline, hlog.timers]
    exact hoff
  · have hexec : exec (.ssTrainingFailed p speed) s =
        .next (((s.set F.HUB_STATUS_UP_SPEED (s.upSpeed speed.toNat)).flag G.HUB_SS_FALLBACK).warn 0x2820) := (if_pos hp).trans (if_pos hups)
    have hlt : s.upSpeed speed.toNat < 2 ^ F.HUB_STATUS_UP_SPEED.width := by
      have hs : speed.toNat < 8 := speed.isLt
      show _ < 8
      unfold State.upSpeed
      repeat' split
      all_goals omega
    have hspeed : (s.set F.HUB_STATUS_UP_SPEED (s.upSpeed speed.toNat)).get F.HUB_STATUS_UP_SPEED = s.upSpeed speed.toNat :=
      (get_set_self _ _ _ (by decide)).trans (Nat.mod_eq_of_lt hlt)
    generalize s.set F.HUB_STATUS_UP_SPEED (s.upSpeed speed.toNat) = u at *
    have hlog := warn_logged (code := 0x2820) (.refl (u.flag G.HUB_SS_FALLBACK))
    refine .of_eq hexec ⟨?_, (hlog.has _ (by decide)).trans (has_flag_self _ _ (by decide) (by decide) (by decide))⟩
    rw [hlog.get _ (by decide), get_flag_apart _ _ _ (by decide) (by decide) (by decide), hspeed]
  · obtain rfl : p = k.succ := Fin.ext hp
    obtain ⟨hlink, hspeed, hbit⟩ := fellBack_facts s (hubPort k) speed.toNat
    obtain ⟨hw, hfall, hflag⟩ := fallbackSettled_facts (s.fellBack (hubPort k) speed.toNat) (0x2810 + k.succ.val)
    exact .of_eq (ssTrainingFailed_port hon hss) ⟨(hw _ (by clear * -; decide +revert)).trans hlink,
      (hw _ (by clear * -; decide +revert)).trans hspeed, (congrArg (Nat.testBit · k.val) hfall).trans hbit, hflag⟩
  · have hexec : exec (.linkRecoveryExcess p n) s = .next (s.bump (F.HUB_ERR_RECOV p.val) n) := by
      refine (if_neg (by rw [hp]; exact Bool.false_ne_true)).trans (if_neg ?_)
      rw [show Nat.blt 16 n = false from Bool.eq_false_iff.mpr fun h => by rw [Nat.blt_eq] at h; omega]
      exact Bool.false_ne_true
    have hin : ∀ p : Fin 9, (F.HUB_ERR_RECOV p.val).inWord = true := by decide
    exact .of_eq hexec ⟨get_bump_self _ _ _ (hin p), fun a ha => word_set_other _ _ _ _ (List.ne_of_not_mem_cons ha)⟩
  · have hexec : exec (.linkRecoveryExcess p n) s =
        .next ((((s.bump (F.HUB_ERR_RECOV p.val) n).recNoted p).flag G.HUB_LINK_ERR).warn (0x2830 + p.val)) := by
      refine (if_neg (by rw [hp]; exact Bool.false_ne_true)).trans (if_pos ?_)
      show (Nat.blt 16 n && (decide (bankRead (fun _ => 0) s.hub.recWarned p.val = 0) || _)) = true
      rw [hlast, show Nat.blt 16 n = true by rw [Nat.blt_eq]; exact hn]
      rfl
    have hrec : bankRead (fun _ => 0) ((s.bump (F.HUB_ERR_RECOV p.val) n).recNoted p).hub.recWarned p.val = s.now + 1 :=
      show bankRead (fun _ => 0) (bankWrite (fun _ => 0) s.hub.recWarned p.val (s.now + 1)) p.val = s.now + 1 from bankRead_write_self _ _ _ _
    generalize (s.bump (F.HUB_ERR_RECOV p.val) n).recNoted p = u at *
    have hlog := warn_logged (code := 0x2830 + p.val) (.refl (u.flag G.HUB_LINK_ERR))
    refine .of_eq hexec ⟨(hlog.has _ (by decide)).trans (has_flag_self _ _ (by decide) (by decide) (by decide)), ?_⟩
    rw [hlog.hub]
    exact hrec
  · have hexec : exec .ssPllUnlock s = .next (s.ssStopped.classify 0xA204).showPool := if_pos hon
    obtain ⟨hw, hlock, hstop, hpkts, hflt⟩ := ssStopped_facts s
    have hcalm : s.ssStopped.calm 0x22 = true := (calm_congr (hw.has _ (by decide)) (hw _ (by decide)) hflt).trans hq
    generalize s.ssStopped = u at *
    have hcls : Writes raisedFields u (u.classify 0xA204) := classify_calm_writes (by decide) (.inr hcalm)
    have hhub : (u.classify 0xA204).hub = u.hub := classify_calm_hub (by decide) (.inr hcalm)
    obtain ⟨hpool, hkept, -⟩ := showPool_pool (u.classify 0xA204)
    refine .of_eq hexec ⟨?_, ?_, ?_⟩
    · rw [hpool.writes.has _ (by decide), hcls.has _ (by decide +kernel), hlock]
    · rw [hpool.writes.has _ (by decide), hcls.has _ (by decide +kernel), hstop]
    · rw [hkept, hhub, hpkts]
  · have hput : Writes [F.CLK_STATUS_HS9_LOCK] s (s.put F.CLK_STATUS_HS9_LOCK false) := (Writes.refl s).put (by simp)
    have hoff : (s.put F.CLK_STATUS_HS9_LOCK false).has F.CLK_STATUS_HS9_LOCK = false := has_put_self _ _ _ (by decide) (by decide)
    have hcalm : (s.put F.CLK_STATUS_HS9_LOCK false).calm 0x22 = true := (calm_congr (hput.has _ (by decide)) (hput _ (by decide)) rfl).trans hq
    have hexec : exec .hs9PllUnlock s = .next ((s.put F.CLK_STATUS_HS9_LOCK false).classify 0xA205) := if_pos hlock
    have hne : (s.put F.CLK_STATUS_HS9_LOCK false).isAny [.romBoot, .deepWinter] = false := (hput.isAny (by decide) _).trans hs
    generalize s.put F.CLK_STATUS_HS9_LOCK false = u at *
    have hraise : Writes raisedFields u (u.raise 0xA205) := raise_calm_writes (by decide) (.inr hcalm)
    rw [classify_raise hne] at hexec
    exact .of_eq hexec ⟨(hraise.has _ (by decide +kernel)).trans hoff, raise_counted_flag (.inr rfl) rfl hcalm⟩
  · have hexec : exec (.hubCounterClear w) s = .next (forAll (List.range 9) (clearCounter w) s) := rfl
    have hinj : ∀ k ∈ List.range 9, ∀ i ∈ List.range 9, i ≠ k → R.HUB_ERR k ≠ R.HUB_ERR i := by decide
    refine .of_eq hexec ⟨List.all_eq_true.mpr fun k hk => ?_, List.all_eq_true.mpr fun k hk => ?_, fun a ha => ?_⟩
    · rw [clearCounters_word w (hinj k hk) s, decide_eq_true hk]
      cases w.getLsbD k
      · rfl
      · rfl
    · rw [clearCounters_word w (hinj k hk) s, decide_eq_true hk]
      cases w.getLsbD k
      · simp
      · rfl
    · exact forAll_invariant_of_mem (g := fun t => t.word a)
        (fun k hk t => clearCounter_other w k a t fun h => ha (h ▸ List.mem_map_of_mem hk)) s

end Sys2Proof.Machine
end

section
/-!
ROM boot, step by step: straps, the clock's lock, the OTP read, the slot table, the firmware slot and the first guard (R18, R52, R92–R99, R506).
-/
namespace Sys2Proof.Machine

/-! Straps and the clock -/

/-- The strap word as latched. -/
def State.strapped (s : State) (addr chain : Nat) (test unstable : Bool) : State :=
  let t := (s.setWord R.SYS_STRAP 0).set F.SYS_STRAP_ADDR addr
  let t := t.set F.SYS_STRAP_I2C_ADDR (0x60 + addr)
  let t := t.set F.SYS_STRAP_CHAIN_POS chain
  (t.put F.SYS_STRAP_TEST test).put F.SYS_STRAP_UNSTABLE unstable

theorem strapped_facts (s : State) {addr chain : Nat} (test unstable : Bool) (ha : addr < 8) (hc : chain < 4) :
    (s.strapped addr chain test unstable).get F.SYS_STRAP_ADDR = addr ∧ (s.strapped addr chain test unstable).get F.SYS_STRAP_I2C_ADDR = 0x60 + addr ∧
    (s.strapped addr chain test unstable).get F.SYS_STRAP_CHAIN_POS = chain ∧ (s.strapped addr chain test unstable).has F.SYS_STRAP_TEST = test ∧
    (s.strapped addr chain test unstable).has F.SYS_STRAP_UNSTABLE = unstable ∧ SameWords [R.SYS_STRAP] s (s.strapped addr chain test unstable) := by
  unfold State.strapped
  extract_lets a b c
  have hwords : SameWords [R.SYS_STRAP] s c := fun w hw => by
    have hne := List.ne_of_not_mem_cons hw
    exact (word_set_other _ _ _ _ hne).trans ((word_set_other _ _ _ _ hne).trans ((word_set_other _ _ _ _ hne).trans (word_setWord_other _ _ _ _ hne)))
  have haddr : c.get F.SYS_STRAP_ADDR = addr :=
    (get_set_apart _ _ _ _ (by decide) (by decide)).trans ((get_set_apart _ _ _ _ (by decide) (by decide)).trans
      ((get_set_self _ _ _ (by decide)).trans (Nat.mod_eq_of_lt ha)))
  have hi2c : c.get F.SYS_STRAP_I2C_ADDR = 0x60 + addr :=
    (get_set_apart _ _ _ _ (by decide) (by decide)).trans
      ((get_set_self _ _ _ (by decide)).trans (Nat.mod_eq_of_lt (show 0x60 + addr < 2 ^ 7 by omega)))
  have hchain : c.get F.SYS_STRAP_CHAIN_POS = chain := (get_set_self _ _ _ (by decide)).trans (Nat.mod_eq_of_lt hc)
  clear_value c
  refine ⟨?_, ?_, ?_, ?_, has_put_self _ _ _ (by decide) (by decide), fun w hw => ?_⟩
  · rw [get_put_apart _ _ _ _ (by decide) (by decide), get_put_apart _ _ _ _ (by decide) (by decide), haddr]
  · rw [get_put_apart _ _ _ _ (by decide) (by decide), get_put_apart _ _ _ _ (by decide) (by decide), hi2c]
  · rw [get_put_apart _ _ _ _ (by decide) (by decide), get_put_apart _ _ _ _ (by decide) (by decide), hchain]
  · rw [has_put_apart _ _ _ _ (by decide) (by decide), has_put_self _ _ _ (by decide) (by decide)]
  · have hne := List.ne_of_not_mem_cons hw
    exact ((word_set_other _ _ _ _ hne).trans (word_set_other _ _ _ _ hne)).trans (hwords w hw)

/-- The straps latched, a disagreement of the samples noted. -/
def State.strapsTaken (s : State) (addr chain : Nat) (test unstable : Bool) : State :=
  let t := s.strapped addr chain test unstable
  State.when { t with boot := { t.boot with latched := true } } unstable fun t => t.find 0x0005

theorem strapsTaken_facts (s : State) {addr chain : Nat} (test unstable : Bool) (ha : addr < 8) (hc : chain < 4) :
    (s.strapsTaken addr chain test unstable).get F.SYS_STRAP_ADDR = addr ∧
    (s.strapsTaken addr chain test unstable).get F.SYS_STRAP_I2C_ADDR = 0x60 + addr ∧
    (s.strapsTaken addr chain test unstable).get F.SYS_STRAP_CHAIN_POS = chain ∧
    (s.strapsTaken addr chain test unstable).has F.SYS_STRAP_TEST = test ∧
    (s.strapsTaken addr chain test unstable).has F.SYS_STRAP_UNSTABLE = unstable ∧
    (s.strapsTaken addr chain test unstable).boot.latched = true ∧ SameWords [R.SYS_STRAP] s (s.strapsTaken addr chain test unstable) := by
  obtain ⟨hA, hI, hC, hT, hU, hS⟩ := strapped_facts s test unstable ha hc
  unfold State.strapsTaken
  generalize s.strapped addr chain test unstable = u at *
  cases unstable
  · exact ⟨hA, hI, hC, hT, hU, rfl, hS⟩
  · exact ⟨hA, hI, hC, hT, hU, rfl, hS⟩

theorem b2n_le (b : Bool) : b2n b ≤ 1 := by cases b <;> decide

/-- The clock's outputs locked and the time base begun. -/
def State.locked (s : State) : State :=
  let t := { s.disarm .clockCheck with tbZero := some s.now }
  let t := (t.put F.CLK_STATUS_XTAL_OK true).put F.CLK_STATUS_ROOT_LOCK true
  (t.put F.CLK_STATUS_SS_LOCK true).put F.CLK_STATUS_HS9_LOCK true

theorem locked_facts (s : State) : s.locked.tbZero = some s.now ∧ s.locked.has F.CLK_STATUS_ROOT_LOCK = true ∧
    s.locked.has F.CLK_STATUS_XTAL_OK = true ∧ s.locked.armed .clockCheck = false ∧ SameWords [R.CLK_STATUS] s s.locked := by
  unfold State.locked
  refine ⟨rfl, ?_, ?_, ?_, fun w hw => ?_⟩
  · iterate 2 rw [has_put_apart _ _ _ _ (by decide) (by decide)]
    exact has_put_self _ _ _ (by decide) (by decide)
  · iterate 3 rw [has_put_apart _ _ _ _ (by decide) (by decide)]
    exact has_put_self _ _ _ (by decide) (by decide)
  · exact congrArg Option.isSome (deadline_disarm_self s .clockCheck)
  · have hne := List.ne_of_not_mem_cons hw
    exact (word_set_other _ _ _ _ hne).trans ((word_set_other _ _ _ _ hne).trans ((word_set_other _ _ _ _ hne).trans (word_set_other _ _ _ _ hne)))

/-! A firmware slot -/

theorem trySlot_empty {st : Nat} (left check : Nat) (ht : st ≠ slotTrial) (hp : st ≠ slotPending) (hg : st ≠ slotGood) :
    trySlot st left check = ⟨2, st, left, false, false, false⟩ := by
  rw [trySlot, if_neg (fun h => ht h.1), if_pos ⟨hp, ht, hg⟩]
theorem trySlot_failed {check : Nat} (left : Nat) (h1 : check ≠ 1) (he : check ≠ 0xE) :
    trySlot slotPending left check = ⟨check, slotBad, left, true, false, false⟩ := by
  rw [trySlot, if_neg (fun h => absurd h.1 (by decide)), if_neg (by decide), if_neg h1, if_neg he]
  rfl
theorem trySlot_good (left : Nat) : trySlot slotGood left 1 = ⟨1, slotGood, left, false, false, false⟩ := by
  rw [trySlot, if_neg (fun h => absurd h.1 (by decide)), if_neg (by decide), if_pos rfl]
  rfl

/-- Slot A tried first, with what the trial left. -/
def State.triedFirst (s : State) (r : Tried) : State :=
  { s with boot := { s.boot with
      tab := { s.boot.tab.setFw 0 r.state with fwTrial := if s.boot.tab.fwState 0 = slotTrial then r.left else s.boot.tab.fwTrial }
      fwTry := 1, codeA := r.code } }.noteTried r

theorem firmwareSlotVerify_eq {s : State} (readErr : Nat) {r : Tried} (hrom : s.romAt 4 = true) (htry : s.boot.fwTry = 0)
    (hfirst : s.boot.tabOld.fwFirst = 0) (hr : trySlot (s.boot.tab.fwState 0) s.boot.tab.fwTrial
      (s.fwChecks (fwBase 0) (s.boot.tab.fwLen 0) readErr) = r) (hs : r.started = false) :
    exec (.firmwareSlotVerify readErr) s = .next (if r.code = 1 then (s.triedFirst r).fwBoots 0 else s.triedFirst r) := by
  have hexec : exec (.firmwareSlotVerify readErr) s = execFirmwareSlotVerify readErr s := rfl
  have hsecond : decide (s.boot.fwTry ≠ 0) = false := by rw [htry]; rfl
  rw [hexec, execFirmwareSlotVerify, if_pos hrom]
  simp only [hsecond, hfirst, Bool.false_eq_true, if_false, if_true, Bool.false_and, Bool.false_or, when_false, hr, hs]
  split
  · rfl
  · rfl

/-- What trying a slot that does not start leaves of the boot state. -/
theorem triedFirst_boot (s : State) {r : Tried} (h : r.spent = false) :
    s.triedFirst r = { s with boot := (s.triedFirst r).boot } ∧ (s.triedFirst r).boot.fwTry = 1 ∧ (s.triedFirst r).boot.codeA = r.code ∧
    (s.triedFirst r).boot.codeB = s.boot.codeB ∧ (s.triedFirst r).boot.step = s.boot.step ∧
    (s.triedFirst r).boot.rejects = s.boot.rejects + b2n r.reject ∧
    (s.triedFirst r).boot.tab = { s.boot.tab.setFw 0 r.state with
      fwTrial := if s.boot.tab.fwState 0 = slotTrial then r.left else s.boot.tab.fwTrial } := by
  rw [State.triedFirst, State.noteTried, h, when_false]
  exact ⟨rfl, rfl, rfl, rfl, rfl, rfl, rfl⟩

/-- A number of n bytes lies below 256 to the n. -/
theorem leNat_lt_pow : ∀ bs : List Byte, leNat bs < 256 ^ bs.length
  | [] => Nat.one_pos
  | b :: bs => by
    have hhead : b.toNat < 256 := b.isLt
    have htail := leNat_lt_pow bs
    rw [leNat, List.length_cons, Nat.pow_succ]
    omega

theorem leAt_lt_word (bs : List Byte) (i : Nat) : leAt bs i 4 < 2 ^ 32 := by
  have hlen : ((bs.drop i).take 4).length ≤ 4 := by
    rw [List.length_take]
    exact Nat.min_le_left _ _
  exact Nat.lt_of_lt_of_le (leNat_lt_pow _) (Nat.pow_le_pow_right (by decide) hlen)

/-- The registers that show the slot taken over, as its header describes it. -/
def State.slotShown (s : State) (slot : Nat) (hdr : List Byte) : State :=
  let t := (s.set F.BOOT_STATUS_FW_SLOT slot).set F.BOOT_STATUS_TAB_COPY s.boot.copy
  let t := (t.set F.BOOT_STATUS_FW_A t.boot.codeA).set F.BOOT_STATUS_FW_B t.boot.codeB
  let t := t.set F.BOOT_FWID_BUILD_ID (leAt hdr 0x10 4)
  (t.set F.BOOT_VERS_FW_IFACE (leAt hdr 0x0E 2)).set F.BOOT_VERS_FW_SVN (leAt hdr 0x0C 1)

theorem slotShown_words (s : State) (slot : Nat) (hdr : List Byte) :
    SameWords [R.BOOT_STATUS, R.BOOT_FWID, R.BOOT_VERS] s (s.slotShown slot hdr) := by
  have hs : R.BOOT_STATUS ∈ [R.BOOT_STATUS, R.BOOT_FWID, R.BOOT_VERS] := by decide
  have hf : R.BOOT_FWID ∈ [R.BOOT_STATUS, R.BOOT_FWID, R.BOOT_VERS] := by decide
  have hv : R.BOOT_VERS ∈ [R.BOOT_STATUS, R.BOOT_FWID, R.BOOT_VERS] := by decide
  have h0 : Within (· ∈ [R.BOOT_STATUS, R.BOOT_FWID, R.BOOT_VERS]) s s := .refl s
  exact ((((((h0.set hs).set hs).set hs).set hs).set hf).set hv).set hv

theorem slotShown_facts (s : State) {slot : Nat} (hdr : List Byte) (hslot : slot < 2) (hcode : s.boot.codeA < 16) :
    (s.slotShown slot hdr).get F.BOOT_STATUS_FW_SLOT = slot ∧ (s.slotShown slot hdr).get F.BOOT_STATUS_FW_A = s.boot.codeA ∧
    (s.slotShown slot hdr).get F.BOOT_FWID_BUILD_ID = leAt hdr 0x10 4 := by
  unfold State.slotShown
  refine ⟨?_, ?_, ?_⟩
  · iterate 6 rw [get_set_apart _ _ _ _ (by decide) (by decide)]
    exact (get_set_self _ _ _ (by decide)).trans (Nat.mod_eq_of_lt (Nat.lt_of_lt_of_le hslot (by decide)))
  · iterate 4 rw [get_set_apart _ _ _ _ (by decide) (by decide)]
    exact (get_set_self _ _ _ (by decide)).trans (Nat.mod_eq_of_lt (Nat.lt_of_lt_of_le hcode (by decide)))
  · iterate 2 rw [get_set_apart _ _ _ _ (by decide) (by decide)]
    exact (get_set_self _ _ _ (by decide)).trans (Nat.mod_eq_of_lt (leAt_lt_word hdr 0x10))

/-- The state with a slot's header and its boot section loaded. -/
def State.bootLoaded (s : State) (slot : Nat) (hdr : List Byte) : State :=
  State.loadBoot { s with boot := { s.boot with fwHdr := hdr } } (fwBase slot)

theorem fwBoots_eq (s : State) (slot : Nat) :
    s.fwBoots slot = ((s.bootLoaded slot (s.flashRead (fwBase slot) 0x400)).slotShown slot (s.flashRead (fwBase slot) 0x400)).bootStep 5 := by
  unfold State.fwBoots State.bootLoaded State.slotShown
  rfl
theorem bootLoaded_facts (s : State) (slot : Nat) (hdr : List Byte) :
    (s.bootLoaded slot hdr).boot = { s.boot with fwHdr := hdr } ∧ (s.bootLoaded slot hdr).regs = s.regs := by
  unfold State.bootLoaded State.loadBoot State.storeCode
  exact ⟨rfl, rfl⟩
theorem bootLoaded_engMem (s : State) (slot : Nat) (hdr : List Byte) : (s.bootLoaded slot hdr).engMem = bankWriteList zeroWord s.engMem
      (codeBase 0) (bytesToWords (s.flashRead (fwBase slot + leAt hdr 0x20 4) (leAt hdr 0x24 4))) := by
  unfold State.bootLoaded State.loadBoot State.storeCode
  rfl
theorem slotShown_boot (s : State) (slot : Nat) (hdr : List Byte) : (s.slotShown slot hdr).boot = s.boot := rfl
theorem slotShown_engMem (s : State) (slot : Nat) (hdr : List Byte) : (s.slotShown slot hdr).engMem = s.engMem := rfl

theorem bootStep_get (s : State) (n : Nat) (f : Fld) : (s.bootStep n).get f = s.get f := rfl
theorem bootStep_word (s : State) (n a : Nat) : (s.bootStep n).word a = s.word a := rfl
theorem bootStep_boot (s : State) (n : Nat) : (s.bootStep n).boot = { s.boot with step := n } := rfl
theorem bootStep_engMem (s : State) (n : Nat) : (s.bootStep n).engMem = s.engMem := rfl

/-- A slot is taken over: its header, its boot section and what the registers show of it. -/
theorem fwBoots_facts (s : State) {slot : Nat} (hslot : slot < 2) (hcode : s.boot.codeA < 16) {hdr : List Byte}
    (hhdr : s.flashRead (fwBase slot) 0x400 = hdr) :
    (s.fwBoots slot).boot = { s.boot with fwHdr := hdr, step := 5 } ∧ (s.fwBoots slot).get F.BOOT_STATUS_FW_SLOT = slot ∧
    (s.fwBoots slot).get F.BOOT_STATUS_FW_A = s.boot.codeA ∧ (s.fwBoots slot).get F.BOOT_FWID_BUILD_ID = leAt hdr 0x10 4 ∧
    (s.fwBoots slot).engMem = bankWriteList zeroWord s.engMem (codeBase 0)
      (bytesToWords (s.flashRead (fwBase slot + leAt hdr 0x20 4) (leAt hdr 0x24 4))) ∧
    SameWords [R.BOOT_STATUS, R.BOOT_FWID, R.BOOT_VERS] s (s.fwBoots slot) := by
  rw [fwBoots_eq, hhdr]
  obtain ⟨hboot, hregs⟩ := bootLoaded_facts s slot hdr
  have hmem := bootLoaded_engMem s slot hdr
  generalize s.bootLoaded slot hdr = u at *
  obtain ⟨h1, h2, h3⟩ := slotShown_facts u hdr hslot (by rw [hboot]; exact hcode)
  have hsame := slotShown_words u slot hdr
  have hub := slotShown_boot u slot hdr
  have hum := slotShown_engMem u slot hdr
  generalize u.slotShown slot hdr = v at *
  have hstep : (v.bootStep 5).boot = { s.boot with fwHdr := hdr, step := 5 } := by rw [bootStep_boot, hub, hboot]
  have hcodeA : u.boot.codeA = s.boot.codeA := by rw [hboot]
  exact ⟨hstep, (bootStep_get v 5 _).trans h1, (bootStep_get v 5 _).trans (h2.trans hcodeA), (bootStep_get v 5 _).trans h3,
    (bootStep_engMem v 5).trans (hum.trans hmem),
    fun w hw => (bootStep_word v 5 w).trans ((hsame w hw).trans (by rw [State.word, hregs, State.word]))⟩

/-! Ways out of ROM boot -/

theorem timerIn_disarmAll (s : State) {l : List TimerId} {i : TimerId} (h : i ∉ l) : timerIn (s.disarmAll l).timers i = timerIn s.timers i := by
  have hpred : (fun e : TimerId × Nat => decide ((!l.contains e.1) = true ∧ decide (e.1 = i) = true)) =
      fun e => decide (e.1 = i) := by
    funext e
    by_cases he : e.1 = i
    · simp [he, h]
    · simp [he]
  rw [timerIn, State.disarmAll, List.find?_filter, timerIn]
  exact congrArg (fun p => (s.timers.find? p).map (·.2)) hpred

/-- A transition that arms no timer keeps every timer but the two it stops. -/
theorem transition_deadline (s : State) {d : DevState} (n : Nat) (hd : d ≠ .summer ∧ d ≠ .winter) {i : TimerId}
    (hi : i ≠ .summerHour ∧ i ≠ .winterHold) : (s.transition d n).deadline i = s.deadline i := by
  unfold State.transition
  extract_lets a b src c e f
  have hb : b.timers = s.timers := by
    simp only [b, apply_ite State.timers, post_timers]
    exact ite_self _
  clear_value b
  have he : e.deadline i = s.deadline i := by
    exact (timerIn_disarmAll c (by simpa using hi)).trans (congrArg (timerIn · i) hb)
  clear_value e
  have hf : f.deadline i = s.deadline i := by
    have hall : (forAll modulePorts (fun k t => (t.set (F.BUD_GRANT_CEIL k) 0).set (F.CNV_ILIM_ALLOC k) 0) e).timers = e.timers :=
      forAll_invariant (g := State.timers) (fun _ _ => rfl) modulePorts e
    have hset : ∀ u : State, (u.set F.BUD_STATUS_GRANTED 0).deadline i = u.deadline i := fun _ => rfl
    refine Eq.trans ?_ he
    simp only [f, apply_ite (State.deadline · i), hset]
    exact ite_eq_iff'.mpr ⟨fun _ => rfl, fun _ => congrArg (timerIn · i) hall⟩
  clear_value f
  cases d
  case summer => exact absurd rfl hd.1
  case winter => exact absurd rfl hd.2
  all_goals exact hf

/-- The fields that the way out of ROM boot by a transition writes. -/
def leaveFields : List Fld := F.SAF_STATUS_ISTATE :: transitionFields

/-- What the way into ROM recovery or Factory test leaves. -/
structure LeftRom (d : DevState) (s t : State) : Prop where
  entered : t.isIn d = true
  opened : t.hif.mailboxOpen = true
  writes : Writes leaveFields s t
  codeA : t.boot.codeA = s.boot.codeA
  codeB : t.boot.codeB = s.boot.codeB
  sec : t.sec = s.sec
  otp : t.otp = s.otp
  deadline : ∀ i, i ∉ [TimerId.bootTimer, .summerHour, .winterHold] → t.deadline i = s.deadline i

theorem left_of_transition (s : State) (d : DevState) {n : Nat} (hn : n < 256) (hd : d ≠ .summer ∧ d ≠ .winter) {t : State}
    (ht : t = ((s.disarm .bootTimer).transition d n).set F.SAF_STATUS_ISTATE 6) {b : Boot} {h : Hif} (ha : b.codeA = t.boot.codeA)
    (hb : b.codeB = t.boot.codeB) (hh : h.mailboxOpen = true) : LeftRom d s { t with boot := b, hif := h } := by
  have hside : Beside s ((s.disarm .bootTimer).transition d n) := .transition (.disarm (.refl s))
  have hwrites : Writes leaveFields s ((s.disarm .bootTimer).transition d n) :=
    .transition (.disarm (.refl s)) fun f hf => List.mem_cons_of_mem _ hf
  have hin : ((s.disarm .bootTimer).transition d n).isIn d = true := (transition_entered hn (.refl _)).1
  have hdead : ∀ i, i ∉ [TimerId.bootTimer, .summerHour, .winterHold] →
      ((s.disarm .bootTimer).transition d n).deadline i = s.deadline i := fun i hi => by
    simp only [List.mem_cons, List.not_mem_nil, or_false, not_or] at hi
    obtain ⟨hboot, hhour, hhold⟩ := hi
    exact (transition_deadline _ n hd ⟨hhour, hhold⟩).trans (deadline_disarm_other s _ _ hboot)
  generalize (s.disarm .bootTimer).transition d n = u at *
  have hset : Writes [F.SAF_STATUS_ISTATE] u t := ht ▸ (Writes.refl u).set (List.mem_singleton_self _)
  have hboot : t.boot = u.boot := by rw [ht]; rfl
  have hsec : t.sec = u.sec := by rw [ht]; rfl
  have hotp : t.otp = u.otp := by rw [ht]; rfl
  have htimers : t.timers = u.timers := by rw [ht]; rfl
  have hwt : Writes leaveFields s t := hwrites.trans (hset.mono fun f hf => List.mem_cons.mpr (.inl (List.mem_singleton.mp hf)))
  have hit : t.isIn d = true := (hset.isIn (by decide) d).trans hin
  have hsa := congrArg Boot.codeA hside.boot
  have hca : t.boot.codeA = s.boot.codeA := by rw [hboot]; exact hsa
  have hsb := congrArg Boot.codeB hside.boot
  have hcb : t.boot.codeB = s.boot.codeB := by rw [hboot]; exact hsb
  exact ⟨hit, hh, hwt.same rfl, ha.trans hca, hb.trans hcb, hsec.trans hside.sec, hotp.trans hside.otp,
    fun i hi => (congrArg (timerIn · i) htimers).trans (hdead i hi)⟩

theorem toRecovery_left (s : State) : LeftRom .romRecovery s s.toRecovery :=
  left_of_transition s .romRecovery (by decide) (by decide) rfl rfl rfl rfl
theorem toFactory_left (s : State) : LeftRom .factoryTest s s.toFactory :=
  left_of_transition s .factoryTest (by decide) (by decide) rfl rfl rfl rfl

/-! The OTP read and the way into Spring -/

/-- What the OTP read leaves, whichever way boot goes on. -/
structure OtpRead (s : State) (reads : List (Nat × Word × Word × Word)) (t : State) : Prop where
  count : t.get F.OTP_REREAD_COUNT = 1
  day : t.deadline .otpDay = some (s.now + secs 86400)
  force : t.sec.force = (s.takeOtp reads).sec.force
  marg : t.sec.marg = (s.takeOtp reads).sec.marg
  otp : t.otp = s.otp

theorem takeOtp_kept_rest (s : State) (reads : List (Nat × Word × Word × Word)) :
    (s.takeOtp reads).now = s.now ∧ (s.takeOtp reads).otp = s.otp := by
  unfold State.takeOtp
  exact ⟨rfl, rfl⟩
theorem loadTrim_same (s : State) : s.loadTrim.sec = s.sec ∧ s.loadTrim.otp = s.otp ∧ s.loadTrim.now = s.now := by
  have hall {α : Type} (g : State → α) (h : ∀ t f v, g (State.set t f v) = g t) : g s.loadTrim = g s :=
    forAll_invariant (g := g) (fun _ t => h t _ _) _ s
  exact ⟨hall _ fun _ _ _ => rfl, hall _ fun _ _ _ => rfl, hall _ fun _ _ _ => rfl⟩

theorem OtpRead.left {s t u : State} {reads : List (Nat × Word × Word × Word)} {d : DevState} (h : OtpRead s reads t) (hl : LeftRom d t u) :
    OtpRead s reads u where
  count := (hl.writes _ (by decide)).trans h.count
  day := (hl.deadline _ (by decide)).trans h.day
  force := (congrArg Sec.force hl.sec).trans h.force
  marg := (congrArg Sec.marg hl.sec).trans h.marg
  otp := hl.otp.trans h.otp
theorem OtpRead.put {s t : State} {reads : List (Nat × Word × Word × Word)} (h : OtpRead s reads t) {f : Fld} (b : Bool)
    (hf : F.OTP_REREAD_COUNT.apart f = true) : OtpRead s reads (t.put f b) where
  count := (get_put_apart t F.OTP_REREAD_COUNT f b (by decide) hf).trans h.count
  day := h.day
  force := h.force
  marg := h.marg
  otp := h.otp
theorem OtpRead.boot {s t : State} {reads : List (Nat × Word × Word × Word)} (h : OtpRead s reads t) (b : Boot) :
    OtpRead s reads { t with boot := b } := ⟨h.count, h.day, h.force, h.marg, h.otp⟩

/-- The OTP is read, and boot goes on in one of three ways (R506). -/
theorem otpBootRead_cases {s : State} (reads : List (Nat × Word × Word × Word)) (hrom : s.romAt 2 = true) (hlatched : s.boot.latched = true) :
    ∃ u, OtpRead s reads u ∧ (exec (.otpBootRead reads) s = .next (u.put F.OTP_STATUS_SCRAP true).toRecovery ∨
      exec (.otpBootRead reads) s = .next u.toFactory ∨
      exec (.otpBootRead reads) s = .next ((if u.has F.SYS_STRAP_TEST then (u.put F.SYS_STRAP_TEST_IGNORED true).find 0x0006 else u).bootStep 3)) := by
  have hexec : exec (.otpBootRead reads) s = execOtpBootRead reads s := rfl
  rw [execOtpBootRead, if_pos (by rw [hrom, hlatched]; rfl)] at hexec
  extract_lets a q b locked c d e r f g at hexec
  obtain ⟨hnow, hotp⟩ : a.now = s.now ∧ a.otp = s.otp := takeOtp_kept_rest s reads
  have ha : a.sec = (s.takeOtp reads).sec := rfl
  clear_value a
  have hb : b.sec.force = a.sec.force ∧ b.sec.marg = a.sec.marg ∧ b.otp = a.otp ∧ b.now = a.now := ⟨rfl, rfl, rfl, rfl⟩
  clear_value b
  have hd : d.sec = b.sec ∧ d.otp = b.otp ∧ d.now = b.now := ⟨rfl, rfl, rfl⟩
  clear_value d
  have he : e = (d.showOtp.loadTrim).set F.OTP_REREAD_COUNT 1 := rfl
  clear_value e
  have hf : f.sec = e.sec ∧ f.otp = e.otp ∧ f.now = e.now ∧ f.regs = e.regs := ⟨rfl, rfl, rfl, rfl⟩
  clear_value f
  obtain ⟨hgregs, hgs, hgo⟩ : g.regs = f.regs ∧ g.sec = f.sec ∧ g.otp = f.otp := ⟨rfl, rfl, rfl⟩
  have hday : g.deadline .otpDay = some (f.now + secs 86400) := deadline_arm_self f _ _
  clear_value g
  obtain ⟨hforce, hmarg, hbotp, hbnow⟩ := hb
  obtain ⟨hdsec, hdotp, hdnow⟩ := hd
  obtain ⟨hfsec, hfotp, hfnow, hfregs⟩ := hf
  obtain ⟨hsec, hlotp, hlnow⟩ := loadTrim_same d.showOtp
  have hesec : e.sec = d.sec := by rw [he]; exact hsec.trans (showOtp_sec d)
  have heotp : e.otp = d.otp := by rw [he]; exact hlotp.trans (showOtp_otp d)
  have henow : e.now = d.now := by rw [he]; exact hlnow
  have hcount : f.get F.OTP_REREAD_COUNT = 1 := by
    rw [State.get, State.word, hfregs, he]
    exact get_set_self _ _ _ (by decide)
  have hfs : f.now = s.now := by rw [hfnow, henow, hdnow, hbnow, hnow]
  have hfsecs : f.sec = b.sec := by rw [hfsec, hesec, hdsec]
  have hgcount : g.get F.OTP_REREAD_COUNT = 1 := by
    rw [State.get, State.word, hgregs]
    exact hcount
  have hgday : g.deadline .otpDay = some (s.now + secs 86400) := by rw [hday, hfs]
  have hgsec : g.sec = b.sec := hgs.trans hfsecs
  have hgforce : g.sec.force = (s.takeOtp reads).sec.force := by rw [hgsec, hforce, ha]
  have hgmarg : g.sec.marg = (s.takeOtp reads).sec.marg := by rw [hgsec, hmarg, ha]
  have hgotp : g.otp = s.otp := by rw [hgo, hfotp, heotp, hdotp, hbotp, hotp]
  have hread : OtpRead s reads g := ⟨hgcount, hgday, hgforce, hgmarg, hgotp⟩
  refine ⟨g, hread, ?_⟩
  split at hexec
  · exact .inl hexec
  · split at hexec
    · exact .inr (.inl hexec)
    · exact .inr (.inr hexec)

theorem otpBootRead_read {s : State} (reads : List (Nat × Word × Word × Word)) (hrom : s.romAt 2 = true) (hlatched : s.boot.latched = true) :
    Answers (exec (.otpBootRead reads) s) (OtpRead s reads) := by
  obtain ⟨u, hread, h | h | h⟩ := otpBootRead_cases reads hrom hlatched
  · exact .of_eq h ((hread.put true (by decide)).left (toRecovery_left _))
  · exact .of_eq h (hread.left (toFactory_left _))
  · refine .of_eq h ?_
    split
    · exact ((hread.put true (by decide)).boot _).boot _
    · exact hread.boot _

/-- The end of the way out of ROM boot with VIN up (R99): the timers of Spring, and the transition. -/
def State.toSpring (u : State) : State :=
  let v := ((u.disarm .bootTimer).arm .sealTimer (msec 100)).arm .lifeHour (secs 3600)
  let v := (v.set F.SAF_STATUS_ISTATE 1).transition .spring 1
  (v.arm .springLimit (msec 5000)).bootStep 1

theorem toSpring_facts (u : State) : u.toSpring.isIn .spring = true ∧ u.toSpring.get F.SYS_STATE_ENTRY = 1 ∧ u.toSpring.boot.step = 1 ∧
    u.toSpring.get F.SAF_STATUS_ISTATE = 1 ∧ u.toSpring.deadline .springLimit = some (u.now + msec 5000) ∧
    u.toSpring.deadline .sealTimer = some (u.now + msec 100) ∧ u.toSpring.armed .bootTimer = false := by
  unfold State.toSpring
  extract_lets v w
  have hnow : v.now = u.now := rfl
  have hseal : v.deadline .sealTimer = some (u.now + msec 100) :=
    (deadline_arm_other _ _ _ _ (by decide)).trans (deadline_arm_self (u.disarm .bootTimer) _ _)
  have hboot : v.deadline .bootTimer = none :=
    (deadline_arm_other _ _ _ _ (by decide)).trans ((deadline_arm_other _ _ _ _ (by decide)).trans (deadline_disarm_self u _))
  clear_value v
  have hstate : (v.set F.SAF_STATUS_ISTATE 1).get F.SAF_STATUS_ISTATE = 1 := get_set_self _ _ _ (by decide)
  have hws : w.now = v.now := (Beside.transition (.refl (v.set F.SAF_STATUS_ISTATE 1))).now
  obtain ⟨hin, hentry, -, hsaf⟩ := transition_entered (s := v.set F.SAF_STATUS_ISTATE 1) (d := .spring) (n := 1) (by decide) (.refl w)
  have hkept : ∀ i, i ≠ .summerHour ∧ i ≠ .winterHold → w.deadline i = v.deadline i := fun i hi =>
    transition_deadline (v.set F.SAF_STATUS_ISTATE 1) 1 (by decide) hi
  clear_value w
  have htimer : ∀ i, i ≠ .springLimit → ((w.arm .springLimit (msec 5000)).bootStep 1).deadline i = w.deadline i := fun i hi =>
    deadline_arm_other w _ _ _ hi
  refine ⟨hin, hentry, rfl, (hsaf _ rfl).trans hstate, ?_, ?_, ?_⟩
  · exact (deadline_arm_self w _ _).trans (by rw [hws, hnow])
  · rw [htimer _ (by decide), hkept _ (by decide), hseal]
  · rw [State.armed, htimer _ (by decide), hkept _ (by decide), hboot]
    rfl

theorem when_now {s : State} {b : Bool} {act : State → State} (h : ∀ t : State, (act t).now = t.now) : (s.when b act).now = s.now := by
  cases b
  · rfl
  · exact h s
theorem dueLife_now (s : State) : s.dueLife.now = s.now := by
  rw [State.dueLife, apply_ite State.now, ite_self]

theorem leaveRom_spring (s : State) : ∃ u : State, u.now = s.now ∧ s.leaveRom .spring 1 = u.toSpring := by
  unfold State.leaveRom
  extract_lets slot nextSlot ready b boots cycles sessions mark stored next gone q r u v w x y z
  have hu : u.now = s.now := rfl
  clear_value u
  have hv : v.now = u.now := dueLife_now u
  clear_value v
  have hx : x.now = v.now := rfl
  clear_value x
  have hy : y.now = x.now := (when_now (act := fun t => t.find 0x0004) fun _ => rfl).trans (when_now (act := fun t => t.find 0x0003) fun _ => rfl)
  clear_value y
  exact ⟨y, by rw [hy, hx, hv, hu], rfl⟩

/-! The slot table and the slots tried -/

theorem chooseTable_congr {s t : State} (h : t.flash = s.flash) : t.chooseTable = s.chooseTable := by
  rw [State.chooseTable, State.tableCopy, State.tableCopy, State.flashRead, State.flashRead, h]
  rfl

/-- The flash size in use, a larger flash noted. -/
def State.sized (s : State) (mbit : Nat) : State :=
  State.when { s with boot := { s.boot with density := min mbit 512 * 131072 } } (Nat.blt 512 mbit) fun t => t.find 0x2A08
/-- A slot table taken over, a lost copy noted. -/
def State.tableChosen (s : State) (c : Nat × SlotTab × Bool) : State :=
  State.when { s with boot := { s.boot with copy := c.1, tabOld := c.2.1, tab := c.2.1 } } c.2.2 fun t => t.find 0x2A01

theorem sized_facts (s : State) (mbit : Nat) :
    (s.sized mbit).boot.density = min mbit 512 * 131072 ∧ (s.sized mbit).flash = s.flash ∧ (s.sized mbit).regs = s.regs := by
  unfold State.sized
  cases Nat.blt 512 mbit
  · exact ⟨rfl, rfl, rfl⟩
  · exact ⟨rfl, rfl, rfl⟩
theorem tableChosen_facts (s : State) (c : Nat × SlotTab × Bool) :
    (s.tableChosen c).boot.copy = c.1 ∧ (s.tableChosen c).boot.tab = c.2.1 ∧ (s.tableChosen c).boot.tabOld = c.2.1 ∧
    (s.tableChosen c).boot.density = s.boot.density ∧ (s.tableChosen c).regs = s.regs := by
  unfold State.tableChosen
  cases c.2.2
  · exact ⟨rfl, rfl, rfl, rfl, rfl⟩
  · exact ⟨rfl, rfl, rfl, rfl, rfl⟩

theorem slotTableRead_eq {s : State} {mbit : Nat} {c : Nat × SlotTab × Bool} (hrom : s.romAt 3 = true) (hmbit : 128 ≤ mbit)
    (hc : s.chooseTable = some c) (hrec : c.2.1.recovery ≠ 0x5A) :
    exec (.slotTableRead true mbit) s = .next (((s.sized mbit).tableChosen c).bootStep 4) := by
  have hexec : exec (.slotTableRead true mbit) s = execSlotTableRead true mbit s := rfl
  have hlarge : ¬ (!true || Nat.blt mbit 128) = true := by simp [Nat.blt_eq, hmbit]
  have hsized : (s.sized mbit).chooseTable = some c := (chooseTable_congr (sized_facts s mbit).2.1).trans hc
  rw [hexec, execSlotTableRead, if_pos hrom, if_neg hlarge]
  change (match (s.sized mbit).chooseTable with
    | none => _
    | some c => _) = _
  rw [hsized]
  exact congrArg Host.Outcome.next (if_neg hrec)

theorem romAt_step {s : State} {n : Nat} (h : s.romAt n = true) : s.boot.step = n := by
  rw [State.romAt, Bool.and_eq_true] at h
  exact of_decide_eq_true h.2

theorem setFw_self {t : SlotTab} (n : Nat) (h : t.fwState 0 = slotGood) :
    { t.setFw 0 slotGood with fwTrial := if t.fwState 0 = slotTrial then n else t.fwTrial } = t := by
  have ha : t.fwA = slotGood := h
  rw [h, if_neg (by decide), SlotTab.setFw, if_pos rfl, ← ha]

/-! The boot steps -/

/-- Settles O4: the straps by `strapped_facts`, the OTP read by `otpBootRead_read`, the slots by `firmwareSlotVerify_eq` and `fwBoots_facts`, the
ways out by `toRecovery_left` and `toSpring_facts`. -/
theorem romBootStepsAct : Obligations.RomBootStepsAct := by
  refine ⟨fun s a0 a1 a2 c0 c1 test hrom hlatched => ?_, fun s xtalOk harmed hcalm => ?_, fun s selftestOk hrom hself => ?_,
    fun s reads hrom hlatched => ?_, fun s sfdpOk mbit hrom hbad => ?_, fun s sfdpOk mbit c hrom hok hmbit hc hrec => ?_,
    fun s readErr hrom htry hfirst hempty _ => ?_, fun s readErr hrom htry hfirst hpend h1 he => ?_,
    fun s readErr hrom htry hfirst hgood h1 => ?_, fun s hrom hvin hsink => ?_, fun s hrom hvin => ?_⟩
  · have hexec : exec (.strapLatch a0 a1 a2 c0 c1 test) s = .next (s.strapsTaken (4 * b2n (majority a2) + 2 * b2n (majority a1) + b2n (majority a0))
        (2 * b2n (majority c1) + b2n (majority c0)) (decide (test = 7#3)) (!([a0, a1, a2, c0, c1, test].all steady))) :=
      if_pos (by rw [hrom, hlatched]; rfl)
    have h0 := b2n_le (majority a0)
    have h1 := b2n_le (majority a1)
    have h2 := b2n_le (majority a2)
    have h3 := b2n_le (majority c0)
    have h4 := b2n_le (majority c1)
    exact .of_eq hexec (strapsTaken_facts s _ _ (by omega) (by omega))
  · have hpast := trip_facts (s := s.elapsed .clockCheck) (if xtalOk then 0xE202 else 0xE201) 0 hcalm (by split <;> decide) (by decide)
    have hentry := (trip_entered (s := s.elapsed .clockCheck) (if xtalOk then 0xE202 else 0xE201) 0 hcalm).2.1
    obtain ⟨hin, hcode, -, hoff⟩ := hpast
    exact .of_elapse harmed rfl ⟨hin, hcode, hoff, hentry⟩
  · subst hself
    have hexec : exec (.rootLock true) s = .next ((s.locked.put F.SAF_STATUS_SELFTEST_OK true).bootStep 2) := (if_pos hrom).trans rfl
    obtain ⟨hzero, hroot, hxtal, hclock, hwords⟩ := locked_facts s
    generalize s.locked = u at *
    refine .of_eq hexec ⟨hzero, (has_put_apart _ _ _ _ (by decide) (by decide)).trans hroot,
      (has_put_apart _ _ _ _ (by decide) (by decide)).trans hxtal, has_put_self _ _ _ (by decide) (by decide), rfl, hclock, fun w hw => ?_⟩
    obtain ⟨hc, hs⟩ : w ≠ R.CLK_STATUS ∧ w ≠ R.SAF_STATUS := by simpa using hw
    exact (word_set_other _ _ _ _ hs).trans (hwords w (by simpa using hc))
  · obtain ⟨t, ht, hread⟩ := otpBootRead_read reads hrom hlatched
    exact ⟨t, ht, hread.count, hread.day, hread.force, hread.marg, hread.otp⟩
  · have hexec : exec (.slotTableRead sfdpOk mbit) s =
        .next ({ s with boot := { s.boot with codeA := 0xE, codeB := 0xE } } : State).toRecovery := by
      refine (if_pos hrom).trans (if_pos ?_)
      rcases hbad with h | h
      · rw [h]
        rfl
      · simp [Nat.blt_eq, h]
    have hleft := toRecovery_left { s with boot := { s.boot with codeA := 0xE, codeB := 0xE } }
    exact .of_eq hexec ⟨hleft.entered, hleft.codeA, hleft.codeB, hleft.opened⟩
  · subst hok
    obtain ⟨hdensity, -, hregs⟩ := sized_facts s mbit
    obtain ⟨hcopy, htab, hold, hkept, hregs'⟩ := tableChosen_facts (s.sized mbit) c
    exact .of_eq (slotTableRead_eq hrom hmbit hc hrec) ⟨rfl, hcopy, htab, hold, hkept.trans hdensity,
      fun w _ => by rw [bootStep_word, State.word, hregs', hregs, State.word]⟩
  · have hr := trySlot_empty (st := s.boot.tab.fwState 0) s.boot.tab.fwTrial (s.fwChecks (fwBase 0) (s.boot.tab.fwLen 0) readErr)
      (by rw [hempty]; decide) (by rw [hempty]; decide) (by rw [hempty]; decide)
    obtain ⟨heq, htried, hA, hB, hstep, -, -⟩ := triedFirst_boot s (r := ⟨2, s.boot.tab.fwState 0, s.boot.tab.fwTrial, false, false, false⟩) rfl
    refine .of_eq ((firmwareSlotVerify_eq readErr hrom htry hfirst hr rfl).trans (congrArg Host.Outcome.next (if_neg (fun h => absurd (show 2 = 1 from h) (by decide)))))
      ⟨htried, hA, hstep.trans (romAt_step hrom), hB, fun w _ => ?_⟩
    rw [heq]
    rfl
  · have hr := trySlot_failed s.boot.tab.fwTrial h1 he
    rw [← hpend] at hr
    obtain ⟨heq, htried, hA, -, hstep, hrej, htab⟩ := triedFirst_boot s
      (r := ⟨s.fwChecks (fwBase 0) (s.boot.tab.fwLen 0) readErr, slotBad, s.boot.tab.fwTrial, true, false, false⟩) rfl
    refine .of_eq ((firmwareSlotVerify_eq readErr hrom htry hfirst hr rfl).trans (congrArg Host.Outcome.next (if_neg h1)))
      ⟨htried, hA, (congrArg (SlotTab.fwState · 0) htab).trans rfl, hrej, hstep.trans (romAt_step hrom), fun w _ => ?_⟩
    rw [heq]
    rfl
  · have hr : trySlot (s.boot.tab.fwState 0) s.boot.tab.fwTrial (s.fwChecks (fwBase 0) (s.boot.tab.fwLen 0) readErr) =
        ⟨1, slotGood, s.boot.tab.fwTrial, false, false, false⟩ := by
      rw [hgood, h1]
      exact trySlot_good _
    have hexec := (firmwareSlotVerify_eq readErr hrom htry hfirst hr rfl).trans (congrArg Host.Outcome.next (if_pos rfl))
    obtain ⟨heq, -, hA, -, -, -, htab⟩ := triedFirst_boot s (r := ⟨1, slotGood, s.boot.tab.fwTrial, false, false, false⟩) rfl
    have hkept := htab.trans (setFw_self _ hgood)
    generalize s.triedFirst ⟨1, slotGood, s.boot.tab.fwTrial, false, false, false⟩ = u at *
    have hflash : ∀ a n, u.flashRead a n = s.flashRead a n := fun a n => by rw [heq, State.flashRead, State.flashRead]
    have hmem : u.engMem = s.engMem := by rw [heq]
    have hregs : u.regs = s.regs := by rw [heq]
    obtain ⟨hboot, hslot, hshown, hbuild, heng, hwords⟩ := fwBoots_facts u (slot := 0) (by decide) (by rw [hA]; exact show 1 < 16 by decide) (hflash (fwBase 0) 0x400)
    refine .of_eq hexec ⟨by rw [hboot]; exact hA, by rw [hboot], by rw [hboot]; exact hkept, by rw [hboot], hslot, hshown.trans hA, hbuild, ?_,
      fun w hw => (hwords w hw).trans (by rw [State.word, hregs, State.word])⟩
    rw [heng, hmem, hflash]
  · have hexec : exec .romBootGuardJudge s = .next (s.disarm .bootTimer) := by
      refine (if_pos hrom).trans ((if_neg (by rw [hvin]; exact Bool.false_ne_true)).trans (if_neg (by rw [hsink]; exact Bool.false_ne_true)))
    have hin : s.isIn .romBoot = true := by
      rw [State.romAt, Bool.and_eq_true, Bool.and_eq_true] at hrom
      exact hrom.1.1
    exact .of_eq hexec ⟨congrArg Option.isSome (deadline_disarm_self s .bootTimer), hin, rfl, fun _ _ => rfl⟩
  · obtain ⟨u, hnow, hu⟩ := leaveRom_spring s
    have hexec : exec .romBootGuardJudge s = .next u.toSpring := by
      rw [← hu]
      exact (if_pos hrom).trans (if_pos hvin)
    obtain ⟨hin, hentry, hstep, histate, hspring, hseal, hboot⟩ := toSpring_facts u
    exact .of_eq hexec ⟨hin, hentry, hstep, histate, hspring.trans (by rw [hnow]), hseal.trans (by rw [hnow]), hboot⟩

end Sys2Proof.Machine
end

section
/-!
The refutation of the statement on attach and detach: a lost seat of an absent port leaves its switch driven (R40, R167).
-/
namespace Sys2Proof.Machine

/-- Port 1 absent and not disabled, its switch on and its seat contact in use. -/
def State.absentSeated : State := ((State.absentSwitch 3).put (F.ATT_CFG_SEAT_EN 0) true).set (F.ATT_STATUS_ASTATE 0) 1

/-- Refutes O23: the seat of an absent port is lost, the open command does not reach its switch, and the switch stays driven. -/
theorem not_attachAndDetachAct : ¬ Obligations.AttachAndDetachAct := by
  rintro ⟨-, -, -, -, -, -, -, -, -, hlost, -⟩
  obtain ⟨t, hexec, -, hopen, -⟩ := hlost .absentSeated 0 (by decide) (by decide) (by decide)
  have hdriven : nextHolds (exec (.seatLost 0) .absentSeated) (fun t => t.switchDriven 0) = true := by decide +kernel
  rw [hexec] at hdriven
  exact Bool.false_ne_true (hopen.symm.trans hdriven)

end Sys2Proof.Machine
end

section
/-!
The refutations of four statements on Power Delivery and the converters. Two rest on an absent port, whose switch takes no open command (R40),
one on a port in its sink role, whose capabilities await no request (R210), and one on a held message that is not at its first chunk (R188).
-/
namespace Sys2Proof.Machine

/-- Port 1 in EPR mode and in its sink role, attached in Summer with its engine running. -/
def State.eprSink : State :=
  (((({ State.reset with boot := { State.reset.boot with engRun := 2 ^ 1 } }.set F.SYS_STATE_STATE 2).put (F.PD_STATUS_EPR 0) true).put
    (F.ATT_STATUS_PWR_ROLE 0) true).set (F.ATT_STATUS_ASTATE 0) 8)

/-- Refutes O27: EPR mode ends on a port in its sink role, which tells its capabilities and awaits no request. -/
theorem not_eprVendorAndResetMessagesAct : ¬ Obligations.EprVendorAndResetMessagesAct := by
  rintro ⟨-, -, hexit, -⟩
  obtain ⟨t, hexec, -, -, hawait⟩ := hexit .eprSink 0 0#3 (by decide) (by decide) (by decide)
  have hnone : nextHolds (exec (.eprModeExit 0 0#3) .eprSink) (fun t => decide ((t.port 0).pd.await = .none)) = true := by decide +kernel
  rw [hexec] at hnone
  exact absurd (hawait.symm.trans (of_decide_eq_true hnone)) (by decide)

/-- Refutes O28: the wait of a Hard Reset of an absent port ends, and the open command does not reach its switch. -/
theorem not_messageTimersAct : ¬ Obligations.MessageTimersAct := by
  rintro ⟨-, -, -, -, -, -, -, hwait, -⟩
  obtain ⟨t, hexec, -, -, -, hopen⟩ := hwait ((State.absentSwitch 3).arm (.psHardReset 0) 5) 0 (by decide)
  have hdriven : nextHolds (exec (.hardResetPsElapsed 0) ((State.absentSwitch 3).arm (.psHardReset 0) 5)) (fun t => t.switchDriven 0) = true := by
    decide +kernel
  rw [hexec] at hdriven
  exact Bool.false_ne_true (hopen.symm.trans hdriven)

/-- Port 1 with the wait for SinkTx running and one message held, not at its first chunk. -/
def State.heldChunk : State := (State.reset.modPd 0 fun p => { p with held := [{ kind := .getStatus, chunk := 1 }] }).arm (.sinkTx 0) 5

/-- Refutes O29: a held message goes out from its first chunk, so that it is not the one that was held. -/
theorem not_transitionsAndOffersAct : ¬ Obligations.TransitionsAndOffersAct := by
  rintro ⟨-, -, -, -, -, hwait, -⟩
  obtain ⟨t, hexec, hsent, -⟩ := hwait .heldChunk 0 (by decide)
  have hfirst : nextHolds (exec (.sinkTxElapsed 0) .heldChunk) (fun t => decide ((t.port 0).pd.tx = [{ kind := .getStatus }])) = true := by
    decide +kernel
  rw [hexec] at hfirst
  exact absurd (hsent.symm.trans (of_decide_eq_true hfirst)) (by decide)

/-- Port 1 absent, its switch on and its converter switching on a good bus, after three periods of low bootstrap. -/
def State.absentSwitching : State :=
  let s := (State.absentSwitch 3).modCnv 0 fun c => { c with run := true, limitZero := false, bootLow := 3 }
  { s.set (F.CNV_ILIM_EFF 0) 5 with env := { s.env with vinOk := true } }

/-- Refutes O31: the fourth low bootstrap of an absent port holds it, and its switch stays driven. -/
theorem not_convertersAndBudgetAct : ¬ Obligations.ConvertersAndBudgetAct := by
  rintro ⟨-, hdrive, -⟩
  obtain ⟨t, hexec, -, hopen, -⟩ := hdrive .absentSwitching 0 false true (by decide) rfl (by decide) (by decide)
  have hdriven : nextHolds (exec (.switchingPeriod 0 false true) .absentSwitching) (fun t => t.switchDriven 0) = true := by decide +kernel
  rw [hexec] at hdriven
  exact Bool.false_ne_true (hopen.symm.trans hdriven)

end Sys2Proof.Machine
end

section
/-!
The rules of the Power Delivery messages: a message that a port hears for the first time reaches the port engine (R187, R189), and saying one
leaves the registers and puts it behind those that wait (R197).
-/
namespace Sys2Proof.Machine

/-! A message heard -/

/-- The state in which a new message with MessageID `n` is acted upon: its GoodCRC sent, its MessageID noted. -/
def State.noted (s : State) (k : PortId) (n : Nat) : State := s.modPd k fun p => { p with acked := some n, rxId := some n }

section
variable {s : State} {k : PortId} {id : BitVec 3}

theorem port_modPd_self (s : State) (k : PortId) (f : PdPort → PdPort) : (s.modPd k f).port k = { s.port k with pd := f (s.port k).pd } := by
  simp

theorem arm_port (s : State) (i : TimerId) (n : Nat) (k : PortId) : (s.arm i n).port k = s.port k := rfl

theorem noted_pd (s : State) (k : PortId) (n : Nat) : ((s.noted k n).port k).pd = { (s.port k).pd with acked := some n, rxId := some n } := by
  rw [State.noted, port_modPd_self]

theorem hears_iff : s.hears k = true ↔ s.pdReceives k = true ∧ s.policyRuns k = true ∧ s.inTransition k = false := by
  rw [State.hears, Bool.and_eq_true, Bool.and_eq_true, Bool.not_eq_true', and_assoc]

theorem hearsNew_hears (h : s.hearsNew k id = true) : s.hears k = true := by
  rw [State.hearsNew, Bool.and_eq_true] at h
  exact h.1

theorem hearsNew_new (h : s.hearsNew k id = true) : (s.port k).pd.rxId ≠ some id.toNat := by
  rw [State.hearsNew, Bool.and_eq_true] at h
  exact of_decide_eq_true h.2

theorem policyRuns_reloading (h : s.policyRuns k = true) : (s.port k).pd.reloading = false := by
  rw [State.policyRuns, Bool.and_eq_true, Bool.not_eq_true'] at h
  exact h.2

theorem hearsNew_reloading (h : s.hearsNew k id = true) : (s.port k).pd.reloading = false :=
  policyRuns_reloading (hears_iff.mp (hearsNew_hears h)).2.1

theorem policyMsg_calm {act : State → State} (h : s.inTransition k = false) : s.policyMsg k act = act s := by
  rw [State.policyMsg, if_neg (by rw [h]; exact Bool.false_ne_true)]

/-- A new message whose MessageID is of SOP reaches the port engine. -/
theorem receive_new {c : Instr} {act : State → State} (h : s.hearsNew k id = true) (hlast : ∀ p : PdPort, p.lastRx c = p.rxId)
    (hnote : ∀ (p : PdPort) (n : Nat), p.noteRx c n = { p with acked := some n, rxId := some n }) :
    s.receive k c id.toNat act = act (s.noted k id.toNat) := by
  obtain ⟨hon, hrun, -⟩ := hears_iff.mp (hearsNew_hears h)
  rw [receive_heard act hon (by rw [hlast]; exact hearsNew_new h) hrun]
  exact congrArg act (congrArg (s.modPd k) (funext fun p => hnote p id.toNat))

theorem noted_calm (h : s.hearsNew k id = true) (n : Nat) : (s.noted k n).inTransition k = false := by
  obtain ⟨-, -, hcalm⟩ := hears_iff.mp (hearsNew_hears h)
  rw [State.inTransition, noted_pd]
  exact hcalm

/-- A command that is such a message does what the port engine does with it. -/
theorem Answers.of_new {c : Instr} {act : State → State} {p : State → Prop} (h : s.hearsNew k id = true)
    (hexec : exec c s = .next (s.receive k c id.toNat fun t => t.policyMsg k act)) (hlast : ∀ p : PdPort, p.lastRx c = p.rxId)
    (hnote : ∀ (p : PdPort) (n : Nat), p.noteRx c n = { p with acked := some n, rxId := some n })
    (hp : p (act (s.noted k id.toNat))) : Answers (exec c s) p := by
  refine .of_eq hexec ?_
  rw [receive_new h hlast hnote, policyMsg_calm (noted_calm h _)]
  exact hp

end

/-! A message said -/

section
variable (s : State) (k : PortId) (kind : MsgKind) (objs : List Word)

theorem say_regs : (s.say k kind objs).regs = s.regs := by
  rw [State.say]
  rw [apply_ite State.regs]
  exact ite_self _
theorem say_get (f : Fld) : (s.say k kind objs).get f = s.get f := by rw [State.get, State.word, say_regs, State.get, State.word]
theorem say_has (f : Fld) : (s.say k kind objs).has f = s.has f := by rw [State.has, say_get, State.has]
theorem say_now : (s.say k kind objs).now = s.now := by
  rw [State.say]
  rw [apply_ite State.now]
  exact ite_self _
theorem say_deadline {i : TimerId} (h : i ≠ .goodCrc k) : (s.say k kind objs).deadline i = s.deadline i := by
  rw [State.say]
  rw [apply_ite (State.deadline · i)]
  exact ite_eq_iff'.mpr ⟨fun _ => deadline_arm_other _ _ _ _ h, fun _ => rfl⟩

/-- The message stands behind those that wait. -/
theorem say_pd : ∃ n, ((s.say k kind objs).port k).pd =
    { (s.port k).pd.noteSent { kind := kind, objs := objs } (s.isSink k) with
      tx := (s.port k).pd.tx ++ [{ kind := kind, objs := objs }], retries := n } := by
  rw [State.say]
  split
  · refine ⟨0, ?_⟩
    rw [arm_port, port_modPd_self, port_modPd_self]
  · refine ⟨((s.port k).pd.noteSent { kind := kind, objs := objs } (s.isSink k)).retries, ?_⟩
    rw [port_modPd_self]

end

section
variable {s : State} {k : PortId} {kind : MsgKind} {objs : List Word}

theorem noteSent_other {p : PdPort} {sink : Bool} (h : kind ≠ .sourceCap ∧ kind ≠ .eprSourceCap) :
    p.noteSent { kind := kind, objs := objs } sink = p := if_neg fun hk => hk.elim h.1 h.2

/-- A message that is not of capabilities leaves the rest of the port engine's state. -/
theorem say_pd_other (s : State) (k : PortId) (objs : List Word) (h : kind ≠ .sourceCap ∧ kind ≠ .eprSourceCap) :
    ∃ n, ((s.say k kind objs).port k).pd =
      { (s.port k).pd with tx := (s.port k).pd.tx ++ [{ kind := kind, objs := objs }], retries := n } := by
  obtain ⟨n, hn⟩ := say_pd s k kind objs
  exact ⟨n, hn.trans (by rw [noteSent_other h])⟩

theorem say_tx (s : State) (k : PortId) (kind : MsgKind) (objs : List Word) :
    ((s.say k kind objs).port k).pd.tx = (s.port k).pd.tx ++ [{ kind := kind, objs := objs }] := by
  obtain ⟨n, hn⟩ := say_pd s k kind objs
  rw [hn]

/-- The answer to a new message stands behind those that wait. -/
theorem noted_say_tx (s : State) (k : PortId) (n : Nat) (kind : MsgKind) (objs : List Word) :
    (((s.noted k n).say k kind objs).port k).pd.tx = (s.port k).pd.tx ++ [{ kind := kind, objs := objs }] := by
  rw [say_tx, noted_pd]

theorem answerExt_new {n : Nat} (hcalm : (s.noted k n).inTransition k = false) (hrev : s.rev2 k = false) :
    (s.noted k n).answerExt k kind objs = (s.noted k n).say k kind objs := by
  have hr : (s.noted k n).rev2 k = false := hrev
  rw [State.answerExt, if_neg (by rw [hr]; exact Bool.false_ne_true), State.answer, policyMsg_calm hcalm]

end

/-! Capabilities -/

theorem capsMsg_kind (s : State) (k : PortId) : (s.capsMsg k).kind = .sourceCap ∨ (s.capsMsg k).kind = .eprSourceCap := by
  rw [State.capsMsg]
  split
  · exact .inr rfl
  · exact .inl rfl

theorem noted_capsMsg (s : State) (k : PortId) (n : Nat) : (s.noted k n).capsMsg k = s.capsMsg k := rfl

/-- Capabilities that a source sends are those a request is judged against. -/
theorem say_caps_source {s : State} {k : PortId} (h : s.isSink k = false) : ∃ n, ((s.say k (s.capsMsg k).kind (s.capsMsg k).objs).port k).pd =
    { (s.port k).pd with tx := (s.port k).pd.tx ++ [s.capsMsg k], retries := n, caps := s.buildCaps k,
                         capsEpr := decide ((s.capsMsg k).kind = .eprSourceCap), capsDue := false, await := .request } := by
  obtain ⟨n, hn⟩ := say_pd s k (s.capsMsg k).kind (s.capsMsg k).objs
  refine ⟨n, hn.trans ?_⟩
  rw [PdPort.noteSent, if_pos (capsMsg_kind s k), h]
  rfl
/-- A sink only tells them. -/
theorem say_caps_sink {s : State} {k : PortId} (h : s.isSink k = true) : ∃ n, ((s.say k (s.capsMsg k).kind (s.capsMsg k).objs).port k).pd =
    { (s.port k).pd with tx := (s.port k).pd.tx ++ [s.capsMsg k], retries := n } := by
  obtain ⟨n, hn⟩ := say_pd s k (s.capsMsg k).kind (s.capsMsg k).objs
  refine ⟨n, hn.trans ?_⟩
  rw [PdPort.noteSent, if_pos (capsMsg_kind s k), h]
  rfl

end Sys2Proof.Machine
end

section
/-!
Requests and the queries of capabilities and of what the part says of itself (R189, R190, R195, R205, R210): each is heard as a new message
and answered with one message of the port.
-/
namespace Sys2Proof.Machine

section
variable {s : State} {k : PortId} {id : BitVec 3}

/-- A command that is a new message of SOP does what its meaning does once the message is noted. -/
theorem Answers.of_heard {c : Instr} {act : State → State} {u : State} {p : State → Prop} (h : s.hearsNew k id = true)
    (hexec : exec c s = .next (s.receive k c id.toNat act)) (hact : act (s.noted k id.toNat) = u) (hp : p u)
    (hlast : ∀ p : PdPort, p.lastRx c = p.rxId := by exact fun _ => rfl)
    (hnote : ∀ (p : PdPort) (n : Nat), p.noteRx c n = { p with acked := some n, rxId := some n } := by exact fun _ _ => rfl) :
    Answers (exec c s) p :=
  .of_eq (hexec.trans (congrArg _ ((receive_new h hlast hnote).trans hact))) hp

theorem noted_reloading (h : s.hearsNew k id = true) (n : Nat) : ((s.noted k n).port k).pd.reloading = false := by
  rw [noted_pd]
  exact hearsNew_reloading h

/-- Once the message is noted, the policy engine takes it. -/
theorem policyMsg_noted {act : State → State} (h : s.hearsNew k id = true) (n : Nat) : (s.noted k n).policyMsg k act = act (s.noted k n) :=
  policyMsg_calm (noted_calm h n)

theorem answer_noted {kind : MsgKind} {objs : List Word} (h : s.hearsNew k id = true) (n : Nat) :
    (s.noted k n).answer k kind objs = (s.noted k n).say k kind objs := policyMsg_noted h n

theorem setPe_running {pe : Nat} (h : (s.port k).pd.reloading = false) : s.setPe k pe = s.set (F.PD_STATUS_PE k) pe :=
  if_neg (by rw [h]; exact Bool.false_ne_true)

end

/-! Requests -/

/-- A request is about to be judged: what waited for it waits no more, and the revision of its header is in use. -/
def State.requestTaken (s : State) (k : PortId) (rev2 : Bool) : State :=
  let s := (s.disarmAll [.senderResponse k, .sendCaps k]).set (F.PD_STATUS_REV k) (if rev2 then 1 else 2)
  if s.armed (.ppsTimeout k) then s.arm (.ppsTimeout k) (msec 13500) else s

/-- What the port engine keeps of an accepted request until its transition has ended. -/
def PdPort.holding (p : PdPort) (o r : Word) (keep : Bool) : PdPort :=
  { p with pos := rdoPos r, reqRdo := r, reqType := contractType o (rdoPos r), reqMv := rdoMv o r, reqMa := rdoMa o r, reqKeep := keep,
           reqMismatch := r.getLsbD 26, await := .srcTransition }

section
variable {s : State} {k : PortId} {o r : Word} {rev2 : Bool}

theorem requestTaken_ports (s : State) (k : PortId) (rev2 : Bool) : (s.requestTaken k rev2).ports = s.ports := by
  rw [State.requestTaken, apply_ite State.ports]
  exact ite_self _

theorem requestTaken_regs (s : State) (k : PortId) (rev2 : Bool) :
    (s.requestTaken k rev2).regs = withField (F.PD_STATUS_REV k) (if rev2 then 1 else 2) s.regs := by
  rw [State.requestTaken, apply_ite State.regs]
  exact ite_self _

theorem requestTaken_port (s : State) (k : PortId) (rev2 : Bool) : (s.requestTaken k rev2).port k = s.port k := by
  rw [State.port, requestTaken_ports, State.port]

theorem requestTaken_rev : (s.requestTaken k rev2).get (F.PD_STATUS_REV k) = if rev2 then 1 else 2 := by
  rw [get_eq_fieldOf, requestTaken_regs, fieldOf_withField_self _ _ rfl]
  cases rev2 <;> rfl

theorem requestTaken_rdoObj : (s.requestTaken k rev2).rdoObj? k r = s.rdoObj? k r := by
  rw [State.rdoObj?, requestTaken_port, State.rdoObj?]

theorem requestTaken_capBreaks (s : State) (k : PortId) (o r : Word) (rev2 : Bool) :
    (s.requestTaken k rev2).capBreaks k o r = s.capBreaks k o r := by
  have hcap : (s.requestTaken k rev2).get (F.CHK_CAP_CAP_MA k) = s.get (F.CHK_CAP_CAP_MA k) := by
    simp (disch := (clear * -; decide +revert)) [requestTaken_regs]
  rw [State.capBreaks, hcap, State.capBreaks]

theorem requestTaken_ceilAllows (s : State) (k : PortId) (o r : Word) (rev2 : Bool) :
    (s.requestTaken k rev2).ceilAllows k o r = s.ceilAllows k o r := by
  have hceil : (s.requestTaken k rev2).get (F.BUD_GRANT_CEIL k) = s.get (F.BUD_GRANT_CEIL k) := by
    simp (disch := (clear * -; decide +revert)) [requestTaken_regs]
  rw [State.ceilAllows, State.ceilMw, hceil, State.ceilAllows, State.ceilMw]

/-- A request that meets the rules of R195 is accepted. -/
theorem judgeRequest_allowed (hobj : s.rdoObj? k r = some o) (hcap : s.capBreaks k o r = false) (hrule : objAllows o r = true)
    (hceil : s.ceilAllows k o r = true) : s.judgeRequest k r rev2 = (s.requestTaken k rev2).acceptRequest k o r := by
  unfold State.judgeRequest
  extract_lets a b u
  have huobj : u.rdoObj? k r = some o := requestTaken_rdoObj.trans hobj
  have hucap : u.capBreaks k o r = false := (requestTaken_capBreaks ..).trans hcap
  have huceil : u.ceilAllows k o r = true := (requestTaken_ceilAllows ..).trans hceil
  simp only [huobj, hucap, hrule, huceil, Bool.not_true, Bool.false_eq_true, if_false]
  rfl

/-- A request that names no object is rejected. -/
theorem judgeRequest_nothing (hobj : s.rdoObj? k r = none) : s.judgeRequest k r rev2 = (s.requestTaken k rev2).rejectRequest k false := by
  unfold State.judgeRequest
  extract_lets a b u
  have huobj : u.rdoObj? k r = none := requestTaken_rdoObj.trans hobj
  simp only [huobj]
  rfl

theorem acceptRequest_eq (h : (s.port k).pd.reloading = false) : s.acceptRequest k o r =
    (((s.modPd k fun p => p.holding o r (decide (rdoMv o r = s.contractMv k))).put (F.PD_STATUS_MISMATCH k) (r.getLsbD 26)).set
      (F.PD_STATUS_PE k) 3).say k .accept [] := by
  unfold State.acceptRequest
  extract_lets keep mis u
  rw [setPe_running (by simpa [u] using h)]
  rfl

/-- An accepted request is answered Accept and held until its transition (R195, R196). -/
theorem acceptRequest_facts {s : State} {k : PortId} {o r : Word} (h : (s.port k).pd.reloading = false) :
    (∃ n, ((s.acceptRequest k o r).port k).pd = { (s.port k).pd.holding o r (decide (rdoMv o r = s.contractMv k)) with
      tx := (s.port k).pd.tx ++ [{ kind := .accept }], retries := n }) ∧
    (s.acceptRequest k o r).get (F.PD_STATUS_PE k) = 3 ∧
    (s.acceptRequest k o r).get (F.PD_STATUS_REV k) = s.get (F.PD_STATUS_REV k) := by
  rw [acceptRequest_eq h, say_get, say_get]
  refine ⟨?_, by simp (disch := (clear * -; decide +revert)), by simp (disch := (clear * -; decide +revert))⟩
  obtain ⟨n, hn⟩ := say_pd_other (kind := .accept) (((s.modPd k fun p => p.holding o r (decide (rdoMv o r = s.contractMv k))).put
    (F.PD_STATUS_MISMATCH k) (r.getLsbD 26)).set (F.PD_STATUS_PE k) 3) k [] (by decide)
  exact ⟨n, hn.trans (by simp [PdPort.holding])⟩

/-- Reject answers a request, which is awaited no more. -/
def State.refused (s : State) (k : PortId) : State := (s.modPd k fun p => { p with await := .none }).say k .reject []

theorem rejectRequest_eq {s : State} {k : PortId} (h : (s.port k).pd.reloading = false) : s.rejectRequest k false =
    (((s.refused k).flag (G.PD_REJECTED k)).warn (portFault k 0 0x12)).set (F.PD_STATUS_PE k) (if s.contract k then 4 else 2) := by
  have hcontract : (s.refused k).contract k = s.contract k := say_has ..
  have hrun : ((((s.refused k).flag (G.PD_REJECTED k)).warn (portFault k 0 0x12)).port k).pd.reloading = false := by
    obtain ⟨n, hn⟩ := say_pd_other (kind := .reject) (s.modPd k fun p => { p with await := .none }) k [] (by decide)
    rw [State.port, warn_ports]
    exact (congrArg PdPort.reloading hn).trans (by simpa using h)
  rw [← hcontract, ← setPe_running hrun]
  rfl

/-- A request rejected for its object is answered Reject, with its flag (R195). -/
theorem rejectRequest_facts {s : State} {k : PortId} (h : (s.port k).pd.reloading = false) :
    ((s.rejectRequest k false).port k).pd.tx = (s.port k).pd.tx ++ [{ kind := .reject }] ∧
    (s.rejectRequest k false).has (G.PD_REJECTED k).bit = true ∧
    (s.rejectRequest k false).get (F.PD_STATUS_PE k) = if s.contract k then 4 else 2 := by
  rw [rejectRequest_eq h]
  refine ⟨?_, by simp (disch := (clear * -; decide +revert)), ?_⟩
  · rw [State.port, set_ports, warn_ports, flag_ports, ← State.port, State.refused, say_tx, port_modPd_self]
  · rw [get_set_self _ _ _ rfl]
    split <;> rfl

end

theorem requestTaken_contract (s : State) (k : PortId) (rev2 : Bool) : (s.requestTaken k rev2).contract k = s.contract k := by
  simp (disch := (clear * -; decide +revert)) [State.contract, requestTaken_regs]

section
variable {s : State} {k : PortId} {id : BitVec 3} {o r : Word} {rev2 : Bool}

theorem noted_rdoObj (s : State) (k : PortId) (n : Nat) (r : Word) : (s.noted k n).rdoObj? k r = s.rdoObj? k r := by
  rw [State.rdoObj?, noted_pd, State.rdoObj?]

/-- What an accepted request leaves, heard as a new message (R195). -/
theorem judgeRequest_noted_allowed (h : s.hearsNew k id = true) (hobj : s.rdoObj? k r = some o) (hcap : s.capBreaks k o r = false)
    (hrule : objAllows o r = true) (hceil : s.ceilAllows k o r = true) : ∃ t, (s.noted k id.toNat).judgeRequest k r rev2 = t ∧
    (t.port k).pd.acked = some id.toNat ∧ (t.port k).pd.tx = (s.port k).pd.tx ++ [{ kind := .accept }] ∧
    (t.port k).pd.await = .srcTransition ∧ (t.port k).pd.reqRdo = r ∧ (t.port k).pd.reqMv = rdoMv o r ∧ (t.port k).pd.reqMa = rdoMa o r ∧
    t.get (F.PD_STATUS_PE k) = 3 ∧ t.get (F.PD_STATUS_REV k) = if rev2 then 1 else 2 := by
  have hrun : (((s.noted k id.toNat).requestTaken k rev2).port k).pd.reloading = false := by
    rw [requestTaken_port]
    exact noted_reloading h _
  obtain ⟨⟨n, hpd⟩, hpe, hrev⟩ := acceptRequest_facts (o := o) (r := r) hrun
  rw [requestTaken_port, noted_pd] at hpd
  refine ⟨_, judgeRequest_allowed ((noted_rdoObj ..).trans hobj) hcap hrule hceil, ?_⟩
  rw [hpd]
  exact ⟨rfl, rfl, rfl, rfl, rfl, rfl, hpe, hrev.trans requestTaken_rev⟩

/-- What a request for no object leaves, heard as a new message (R195). -/
theorem judgeRequest_noted_nothing (h : s.hearsNew k id = true) (hobj : s.rdoObj? k r = none) :
    ∃ t, (s.noted k id.toNat).judgeRequest k r rev2 = t ∧ (t.port k).pd.tx = (s.port k).pd.tx ++ [{ kind := .reject }] ∧
    t.has (G.PD_REJECTED k).bit = true ∧ t.get (F.PD_STATUS_PE k) = if s.contract k then 4 else 2 := by
  have hrun : (((s.noted k id.toNat).requestTaken k rev2).port k).pd.reloading = false := by
    rw [requestTaken_port]
    exact noted_reloading h _
  obtain ⟨htx, hflag, hpe⟩ := rejectRequest_facts hrun
  rw [requestTaken_port, noted_pd] at htx
  rw [requestTaken_contract] at hpe
  exact ⟨_, judgeRequest_nothing ((noted_rdoObj ..).trans hobj), htx, hflag, hpe⟩

/-- The state in which Status is sent: a value for what the manual does not give is taken, and the trips count as told (R190). -/
def State.statusTold (s : State) (k : PortId) : State := s.takeFree.2.modPd k fun p => { p with tripSeen := 0 }

theorem statusTold_pd (s : State) (k : PortId) : ((s.statusTold k).port k).pd = { (s.port k).pd with tripSeen := 0 } := by
  rw [State.statusTold, port_modPd_self]
  rfl

theorem onGetStatus_noted (h : s.hearsNew k id = true) (hrev : s.rev2 k = false) :
    ∃ objs, (s.noted k id.toNat).onGetStatus k = ((s.noted k id.toNat).statusTold k).say k .status objs :=
  ⟨_, (policyMsg_noted h _).trans (if_neg (ne_true_of_eq_false hrev))⟩

end

/-- Settles O25: each message is heard as a new one (`Answers.of_heard`). A request is judged by `judgeRequest_allowed` and
`judgeRequest_nothing`; a query is answered with one message behind those that wait (`noted_say_tx`, `say_caps_source`, `say_caps_sink`). -/
theorem requestsAndCapabilityMessagesAct : Obligations.RequestsAndCapabilityMessagesAct := by
  refine ⟨fun s k id rdo rev2 o h hsrc hobj hcap hrule hceil => ?_, fun s k id rdo rev2 h hsrc hobj => ?_,
    fun s k id rdo o hk h hobj hcap hrule hceil => ?_, fun s k id h hsink => ?_, fun s k id h hsrc => ?_, fun s k id hk h hrev => ?_,
    fun s k id h hrev => ?_, fun s k id extended hk h => ?_, fun s id h => ?_, fun s k id h hrev => ?_, fun s k id h => ?_,
    fun s k id h => ?_, fun s k id h hrev => ?_, fun s k id h hrev => ?_, fun s k id h htype => ?_,
    fun s k id h hk hcontract htype hrev => ?_⟩
  · obtain ⟨t, ht, hfacts⟩ := judgeRequest_noted_allowed (rev2 := rev2) h hobj hcap hrule hceil
    exact .of_heard h rfl ((policyMsg_noted h _).trans ((if_neg (ne_true_of_eq_false hsrc)).trans ht)) hfacts
  · obtain ⟨t, ht, hfacts⟩ := judgeRequest_noted_nothing (rev2 := rev2) h hobj
    exact .of_heard h rfl ((policyMsg_noted h _).trans ((if_neg (ne_true_of_eq_false hsrc)).trans ht)) hfacts
  · obtain ⟨t, ht, -, htx, hawait, hrdo, -, -, -, hrev⟩ := judgeRequest_noted_allowed (rev2 := false) h hobj hcap hrule hceil
    exact .of_heard h rfl ((policyMsg_noted h _).trans ((if_pos hk).trans ht)) ⟨htx, hawait, hrdo, hrev⟩
  · obtain ⟨n, hn⟩ := say_caps_sink (s := s.noted k id.toNat) hsink
    rw [noted_capsMsg, noted_pd] at hn
    refine .of_heard h rfl (policyMsg_noted h _) ?_
    rw [noted_capsMsg, hn]
    exact ⟨rfl, rfl, rfl, rfl⟩
  · obtain ⟨n, hn⟩ := say_caps_source (s := s.noted k id.toNat) hsrc
    rw [noted_capsMsg, noted_pd] at hn
    refine .of_heard h rfl (policyMsg_noted h _) ?_
    rw [noted_capsMsg, hn]
    exact ⟨rfl, rfl, rfl, rfl⟩
  · refine .of_heard h rfl ((policyMsg_noted h _).trans (if_pos ?_)) (noted_say_tx ..)
    rw [hk, show (s.noted k id.toNat).rev2 k = false from hrev]
    rfl
  · refine .of_heard h rfl ((policyMsg_noted h _).trans (if_neg ?_)) (noted_say_tx ..)
    rw [show (s.noted k id.toNat).rev2 k = true from hrev]
    simp
  · exact .of_heard h rfl ((if_pos hk).trans (answer_noted h _)) (noted_say_tx ..)
  · exact .of_heard h rfl (answer_noted h _) (noted_say_tx ..)
  · exact .of_heard h rfl (answerExt_new (noted_calm h _) hrev) (noted_say_tx ..)
  · refine .of_heard h rfl (answer_noted h _) ?_
    rw [noted_say_tx]
    simp
  · refine .of_heard h rfl (answer_noted h _) ?_
    obtain ⟨n, hn⟩ := say_pd_other (kind := .revision) (s.noted k id.toNat) k [0x32110000#32] (by decide)
    rw [noted_pd] at hn
    rw [hn]
    exact ⟨rfl, rfl⟩
  · exact .of_heard h rfl (answerExt_new (noted_calm h _) hrev) (noted_say_tx ..)
  · obtain ⟨objs, hobjs⟩ := onGetStatus_noted h hrev
    obtain ⟨n, hn⟩ := say_pd_other (kind := .status) ((s.noted k id.toNat).statusTold k) k objs (by decide)
    rw [statusTold_pd, noted_pd] at hn
    refine .of_heard h rfl hobjs ?_
    rw [hn]
    simp
  · refine .of_heard h rfl ((if_neg ?_).trans (answer_noted h _)) (noted_say_tx ..)
    rw [Bool.and_eq_true, decide_eq_true_iff]
    exact fun hpps => htype hpps.2
  · refine .of_heard h rfl ((if_pos ?_).trans (answerExt_new (noted_calm h _) hrev)) ?_
    · rw [Bool.and_eq_true, Bool.and_eq_true, decide_eq_true_iff]
      exact ⟨⟨hk, hcontract⟩, htype⟩
    · rw [noted_say_tx]
      simp

end Sys2Proof.Machine
end

section
/-!
Messages of the part's own and the end of the exchange they belong to (R197): what the start and the end of such an exchange leave.
-/
namespace Sys2Proof.Machine

/-- An exchange of the part's own is over, and SinkTx is waited for no more. -/
def State.quietAms (s : State) (k : PortId) : State := (s.modPd k fun p => { p with ams := false }).disarm (.sinkTx k)
/-- Messages wait behind those held. -/
def State.holdMsgs (s : State) (k : PortId) (msgs : List PdMsg) : State := s.modPd k fun p => { p with held := p.held ++ msgs }

section
variable {s : State} {k : PortId}

theorem modPd_pd (s : State) (k : PortId) (f : PdPort → PdPort) : ((s.modPd k f).port k).pd = f (s.port k).pd :=
  congrArg Port.pd (port_modPd_self s k f)

theorem waitSinkTx_pd (s : State) (k : PortId) : ((s.waitSinkTx k).port k).pd = { (s.port k).pd with ams := true } :=
  modPd_pd s k fun p => { p with ams := true }

theorem Writes.waitSinkTx {l : List Fld} {s₀ : State} (h : Writes l s₀ s) (hl : F.ATT_STATUS_RP k ∈ l) : Writes l s₀ (s.waitSinkTx k) :=
  (h.modPd.set hl).arm

theorem waitSinkTx_deadline {i : TimerId} (h : i ≠ .sinkTx k) : (s.waitSinkTx k).deadline i = s.deadline i := deadline_arm_other _ _ _ _ h

theorem quietAms_pd (s : State) (k : PortId) : ((s.quietAms k).port k).pd = { (s.port k).pd with ams := false } :=
  modPd_pd s k fun p => { p with ams := false }

theorem endAms_eq (s : State) (k : PortId) : s.endAms k =
    if (s.port k).pd.ams then
      if (s.quietAms k).contract k && !(s.quietAms k).isSink k then
        if ((s.quietAms k).port k).pd.held.isEmpty then (s.quietAms k).set (F.ATT_STATUS_RP k) 3 else (s.quietAms k).waitSinkTx k
      else s.quietAms k
    else s := rfl

/-- The end of an exchange of the part's own leaves the port engine as it was but for the mark of that exchange, which stays only where
another's messages wait. -/
theorem endAms_pd (s : State) (k : PortId) :
    ∃ b, ((s.endAms k).port k).pd = { (s.port k).pd with ams := b } ∧ ((s.port k).pd.held = [] → b = false) := by
  rw [endAms_eq]
  split
  case isFalse hams => exact ⟨false, by rw [← Bool.eq_false_of_not_eq_true hams], fun _ => rfl⟩
  split
  case isFalse => exact ⟨false, quietAms_pd s k, fun _ => rfl⟩
  split
  case isTrue => exact ⟨false, quietAms_pd s k, fun _ => rfl⟩
  case isFalse hheld =>
    refine ⟨true, (waitSinkTx_pd _ k).trans (by rw [quietAms_pd]), fun hnone => absurd ?_ hheld⟩
    rw [quietAms_pd, hnone, List.isEmpty_nil]

theorem Writes.endAms {l : List Fld} {s₀ : State} (h : Writes l s₀ s) (hl : F.ATT_STATUS_RP k ∈ l) : Writes l s₀ (s.endAms k) :=
  .ite (.ite (.ite (h.modPd.disarm.set hl) (h.modPd.disarm.waitSinkTx hl)) h.modPd.disarm) h

theorem endAms_deadline {i : TimerId} (h : i ≠ .sinkTx k) : (s.endAms k).deadline i = s.deadline i := by
  have hquiet : (s.quietAms k).deadline i = s.deadline i := deadline_disarm_other _ _ _ h
  rw [endAms_eq]
  split
  case isFalse => rfl
  split
  case isFalse => exact hquiet
  split
  case isTrue => exact hquiet
  case isFalse => exact (waitSinkTx_deadline h).trans hquiet

theorem holdMsgs_pd (s : State) (k : PortId) (msgs : List PdMsg) :
    ((s.holdMsgs k msgs).port k).pd = { (s.port k).pd with held := (s.port k).pd.held ++ msgs } :=
  modPd_pd s k fun p => { p with held := p.held ++ msgs }

theorem ownAms_source (h : (s.contract k && !s.isSink k) = true) (msgs : List PdMsg) : s.ownAms k msgs =
    if ((s.holdMsgs k msgs).port k).pd.ams then s.holdMsgs k msgs else (s.holdMsgs k msgs).waitSinkTx k := if_pos h

/-- In a contract as source the messages wait behind those held, with SinkTxNG presented. -/
theorem ownAms_source_pd (h : (s.contract k && !s.isSink k) = true) (msgs : List PdMsg) :
    ((s.ownAms k msgs).port k).pd = { (s.port k).pd with held := (s.port k).pd.held ++ msgs, ams := true } := by
  rw [ownAms_source h]
  split
  case isTrue hams =>
    rw [holdMsgs_pd] at hams ⊢
    exact congrArg (fun b => { (s.port k).pd with held := (s.port k).pd.held ++ msgs, ams := b }) hams
  case isFalse => exact (waitSinkTx_pd _ k).trans (by rw [holdMsgs_pd])

end
end Sys2Proof.Machine
end

section
/-!
Control messages and the swaps of port 9 (R189, R209-R211): each is heard as a new message, but Soft_Reset, which resets the MessageIDs.
-/
namespace Sys2Proof.Machine

/-! Soft_Reset -/

/-- A Soft_Reset is heard: its MessageID is noted, and that of the part begins anew (R187). -/
def State.resetHeard (s : State) (k : PortId) (n : Nat) : State :=
  s.modPd k fun p => { p with acked := some n, rxId := some n, txId := 0 }
/-- The exchange that a Soft_Reset ends: nothing waits to be sent or to be answered (R189). -/
def State.exchangeDropped (s : State) (k : PortId) : State :=
  (s.disarmAll [.senderResponse k, .goodCrc k, .frener k]).modPd k fun p => { p with tx := [], held := [], await := .none, frWait := 0 }

section
variable {s : State} {k : PortId} {id : BitVec 3}

theorem resetHeard_pd (s : State) (k : PortId) (n : Nat) :
    ((s.resetHeard k n).port k).pd = { (s.port k).pd with acked := some n, rxId := some n, txId := 0 } :=
  modPd_pd s k fun p => { p with acked := some n, rxId := some n, txId := 0 }

theorem exchangeDropped_pd (s : State) (k : PortId) :
    ((s.exchangeDropped k).port k).pd = { (s.port k).pd with tx := [], held := [], await := .none, frWait := 0 } :=
  modPd_pd (s.disarmAll _) k fun p => { p with tx := [], held := [], await := .none, frWait := 0 }

/-- A Soft_Reset is heard whatever its MessageID. -/
theorem exec_softReset (h : s.hears k = true) :
    exec (.softReset k id) s = .next ((((s.resetHeard k id.toNat).exchangeDropped k).endAms k).say k .accept []) := by
  obtain ⟨hon, hrun, hcalm⟩ := hears_iff.mp h
  have hcalm' : (s.resetHeard k id.toNat).inTransition k = false := by
    rw [State.inTransition, resetHeard_pd]
    exact hcalm
  exact congrArg Host.Outcome.next ((receive_heard _ hon (by exact Option.some_ne_none _ ∘ Eq.symm) hrun).trans (policyMsg_calm hcalm'))

/-- No register changes with a Soft_Reset but the Rp presented. -/
theorem softReset_writes (s : State) (k : PortId) (n : Nat) :
    Writes [F.ATT_STATUS_RP k] s ((((s.resetHeard k n).exchangeDropped k).endAms k).say k .accept []) :=
  (Writes.endAms (((Writes.refl s).modPd.disarmAll).modPd) (List.mem_singleton_self _)).same (say_regs ..)

end

/-! Sink contract of port 9 -/

/-- What port 9 keeps of its request for 5 V at 0.50 A (R210). -/
def PdPort.asking (p : PdPort) : PdPort :=
  { p with await := .sinkAccept, reqRdo := 0x1000C832#32, reqType := 1, reqMv := 5000, reqMa := 500, sinkMa := 500, pos := 1,
           reqMismatch := false }

theorem onSourceCaps_sink {s : State} (pdos : List Word) (rev2 : Bool) (hcalm : s.inTransition port9 = false) (hsink : s.isSink port9 = true)
    (hvin : s.env.vinOk = true) (hrun : (s.port port9).pd.reloading = false) : s.onSourceCaps pdos rev2 =
    (((s.set (F.PD_STATUS_REV port9) (if rev2 then 1 else 2)).modPd port9 PdPort.asking).set (F.PD_STATUS_PE port9) 2).say port9 .request
      [0x1000C832#32] := by
  have hrun' : (((s.set (F.PD_STATUS_REV port9) (if rev2 then 1 else 2)).modPd port9 PdPort.asking).port port9).pd.reloading = false := by
    rw [modPd_pd]
    exact hrun
  rw [State.onSourceCaps, policyMsg_calm hcalm, if_neg (by rw [hsink]; exact Bool.false_ne_true), ← setPe_running hrun']
  simp only [hvin, if_true, Bool.not_true, Bool.false_and, b2n_false]
  rfl

theorem onPsRdy_accepted {s : State} {k : PortId} (h : (s.port k).pd.await = .sinkAccept) : s.onPsRdy k 0 =
    ((s.disarm (.senderResponse k)).modPd k fun p => { p with await := .sinkPsRdy }).setPe k 3 := by
  unfold State.onPsRdy
  rw [h]
  rfl

theorem set_port (s : State) (f : Fld) (v : Nat) (k : PortId) : (s.set f v).port k = s.port k := rfl

theorem afterAnswer_pd (s : State) (k : PortId) (ready : Bool) : ((s.afterAnswer k ready).port k).pd =
    { (s.port k).pd with await := .none, hrCount := if ready then 0 else (s.port k).pd.hrCount } :=
  modPd_pd (s.disarm (.senderResponse k)) k fun p => { p with await := .none, hrCount := if ready then 0 else p.hrCount }

theorem onPsRdy_ready {s : State} {k : PortId} (h : (s.port k).pd.await = .sinkPsRdy) :
    s.onPsRdy k 3 = (s.afterAnswer k true).enterSinkContract := by
  unfold State.onPsRdy
  rw [h]
  rfl

theorem armOnce_regs (s : State) (i : TimerId) (n : Nat) : (s.armOnce i n).regs = s.regs := by
  unfold State.armOnce
  split <;> rfl
theorem armOnce_ports (s : State) (i : TimerId) (n : Nat) : (s.armOnce i n).ports = s.ports := by
  unfold State.armOnce
  split <;> rfl

/-- Port 9 enters the sink contract it has asked for (R210). -/
theorem enterSinkContract_facts {s : State} (h : (s.port port9).pd.reloading = false) : s.enterSinkContract.contract port9 = true ∧
    s.enterSinkContract.get (F.PD_CONTRACT_V_20MV port9) = 250 ∧
    s.enterSinkContract.word (R.PD_RDO port9) = (s.port port9).pd.reqRdo ∧ s.enterSinkContract.get (F.PD_STATUS_PE port9) = 4 := by
  unfold State.enterSinkContract
  extract_lets p a b c d
  have hregs : d.regs = c.regs := by
    rw [apply_ite State.regs, armOnce_regs, ite_self]
  have hports : d.ports = c.ports := by
    rw [apply_ite State.ports, armOnce_ports, ite_self]
  have hrun : (d.port port9).pd.reloading = false := by
    rw [State.port, hports]
    exact (congrArg PdPort.reloading (modPd_pd b port9 _)).trans h
  rw [setPe_running hrun]
  simp (disch := decide) [State.contract, hregs, c, b, a, p]

/-! Swaps -/

/-- A swap is accepted: Accept answers it, and the port engine awaits what follows (R209). -/
theorem swapAccepted_facts (s : State) (k : PortId) (n : Nat) (a : Await) :
    ((((s.noted k n).modPd k fun p => { p with await := a }).say k .accept []).port k).pd.tx = (s.port k).pd.tx ++ [{ kind := .accept }] ∧
    ((((s.noted k n).modPd k fun p => { p with await := a }).say k .accept []).port k).pd.await = a := by
  obtain ⟨m, hm⟩ := say_pd_other (kind := .accept) ((s.noted k n).modPd k fun p => { p with await := a }) k [] (by decide)
  rw [modPd_pd, noted_pd] at hm
  rw [hm]
  exact ⟨rfl, rfl⟩

theorem noted_vconnMay (s : State) (k : PortId) (n : Nat) : (s.noted k n).vconnMay k = s.vconnMay k := by
  rw [State.vconnMay, State.noted, port_modPd_self, State.vconnMay]
  rfl

/-- Port 9 gives the data role away: it asks for it no more (R211). -/
def State.roleGiven (s : State) : State :=
  ((s.disarm .drSwap).modPd port9 fun p => { p with drTries := 0 }).put (F.PD_STATUS_DATA_ROLE port9) false

theorem roleGiven_pd (s : State) : (s.roleGiven.port port9).pd = { (s.port port9).pd with drTries := 0 } :=
  modPd_pd (s.disarm .drSwap) port9 fun p => { p with drTries := 0 }

/-- Settles O26: each message is heard as a new one (`Answers.of_heard`), a Soft_Reset by `exec_softReset`; what goes before the answer is said
by the lemmas of the part's own exchanges, of the swaps and of the sink contract. -/
theorem controlMessagesAndSwapsAct : Obligations.ControlMessagesAndSwapsAct := by
  refine ⟨fun s k id h hcontract hsrc => ?_, fun s k id h => ?_, fun s k id mode h hmode hmv => ?_, fun s k id h => ?_,
    fun s k id hk h => ?_, fun s id h hmay => ?_, fun s id h hsink hmay => ?_, fun s id h hmay => ?_, fun s id h hrole => ?_,
    fun s id h hrole => ?_, fun s id pdos rev2 h hsink hvin => ?_, fun s k id msg h hawait hmsg => ?_, fun s id h hawait => ?_⟩
  · have hown := ownAms_source_pd (s := s.noted k id.toNat) (k := k)
      (by rw [Bool.and_eq_true, Bool.not_eq_true']; exact ⟨hcontract, hsrc⟩) [{ kind := .getStatus }]
    refine .of_heard h rfl (policyMsg_noted h _) ?_
    rw [hown, noted_pd]
    exact ⟨rfl, rfl⟩
  · obtain ⟨b, hams, hquiet⟩ := endAms_pd ((s.resetHeard k id.toNat).exchangeDropped k) k
    obtain ⟨n, hn⟩ := say_pd_other (kind := .accept) (((s.resetHeard k id.toNat).exchangeDropped k).endAms k) k [] (by decide)
    rw [exchangeDropped_pd] at hquiet
    rw [hams, exchangeDropped_pd, resetHeard_pd, hquiet rfl] at hn
    refine .of_eq (exec_softReset h) ?_
    rw [hn]
    have hregs := softReset_writes s k id.toNat
    exact ⟨rfl, rfl, rfl, rfl, rfl, hregs.has _ (by clear * -; decide +revert), hregs _ (by clear * -; decide +revert)⟩
  · refine .of_heard h rfl ((policyMsg_noted h _).trans ((if_neg (Nat.not_lt.mpr hmode)).trans (if_pos hmv))) ?_
    split
    · obtain ⟨n, hn⟩ := say_pd_other (kind := .bistCarrier) ((s.noted k id.toNat).modPd k fun p => { p with bist := mode + 1 }) k [] (by decide)
      rw [modPd_pd] at hn
      rw [hn]
    · rw [modPd_pd]
  · exact .of_heard h rfl (answer_noted h _) (noted_say_tx ..)
  · exact .of_heard h (congrArg Host.Outcome.next (if_pos hk)) (answer_noted h _) (noted_say_tx ..)
  · have hno : (s.isSink port9 && !s.mayBecomeSource) = false := by
      rcases hmay with hsrc | hmay
      · rw [hsrc, Bool.false_and]
      · rw [hmay, Bool.not_true, Bool.and_false]
    exact .of_heard h rfl ((policyMsg_noted h _).trans (if_neg (ne_true_of_eq_false hno))) (swapAccepted_facts ..)
  · have hno : (s.isSink port9 && !s.mayBecomeSource) = true := by rw [hsink, hmay, Bool.not_false, Bool.and_true]
    exact .of_heard h rfl ((policyMsg_noted h _).trans (if_pos hno)) (noted_say_tx ..)
  · have hno : (!s.has (F.PD_STATUS_VCONN_SRC port9) && !(s.mayBecomeSource && (s.noted port9 id.toNat).vconnMay port9)) = false := by
      rw [noted_vconnMay]
      rcases hmay with hsrc | ⟨hmay, hvconn⟩
      · rw [hsrc, Bool.not_true, Bool.false_and]
      · rw [hmay, hvconn, Bool.and_true, Bool.not_true, Bool.and_false]
    exact .of_heard h rfl ((policyMsg_noted h _).trans (if_neg (ne_true_of_eq_false hno))) (swapAccepted_facts ..)
  · obtain ⟨n, hn⟩ := say_pd_other (kind := .accept) (s.noted port9 id.toNat).roleGiven port9 [] (by decide)
    rw [roleGiven_pd, noted_pd] at hn
    refine .of_heard h rfl ((policyMsg_noted h _).trans (if_pos hrole)) (u := (s.noted port9 id.toNat).roleGiven.say port9 .accept []) ?_
    rw [hn, say_has]
    exact ⟨rfl, has_put_self _ _ _ rfl rfl, rfl⟩
  · exact .of_heard h rfl ((policyMsg_noted h _).trans (if_neg (ne_true_of_eq_false hrole))) (noted_say_tx ..)
  · obtain ⟨n, hn⟩ := say_pd_other (kind := .request) ((((s.noted port9 id.toNat).set (F.PD_STATUS_REV port9) (if rev2 then 1 else 2)).modPd
      port9 PdPort.asking).set (F.PD_STATUS_PE port9) 2) port9 [0x1000C832#32] (by decide)
    rw [set_port, modPd_pd, set_port, noted_pd] at hn
    refine .of_heard h rfl (onSourceCaps_sink pdos rev2 (noted_calm h _) hsink hvin (noted_reloading h _)) ?_
    rw [hn]
    exact ⟨rfl, rfl, rfl⟩
  · subst hmsg
    have hawait' : ((s.noted k id.toNat).port k).pd.await = .sinkAccept := by rw [noted_pd]; exact hawait
    refine .of_heard h rfl (onPsRdy_accepted hawait') ?_
    rw [setPe_running (by rw [modPd_pd]; exact noted_reloading h _), set_port, modPd_pd]
    exact ⟨rfl, get_set_self _ _ _ rfl⟩
  · have hawait' : ((s.noted port9 id.toNat).port port9).pd.await = .sinkPsRdy := by rw [noted_pd]; exact hawait
    have hready : (((s.noted port9 id.toNat).afterAnswer port9 true).port port9).pd =
        { (s.port port9).pd with acked := some id.toNat, rxId := some id.toNat, await := .none, hrCount := 0 } := by
      rw [afterAnswer_pd, noted_pd, if_pos rfl]
    obtain ⟨hcontract, hmv, hrdo, hpe⟩ := enterSinkContract_facts ((congrArg PdPort.reloading hready).trans (hearsNew_reloading h))
    exact .of_heard h rfl (onPsRdy_ready hawait') ⟨hcontract, hmv, hrdo.trans (by rw [hready]), hpe⟩

end Sys2Proof.Machine
end

section
/-!
Capabilities sent (R194) and cable discovery (R213): what is offered does not depend on the policy state, so that capabilities read after they
are sent are those that were sent.
-/
namespace Sys2Proof.Machine

/-- The port's policy state is the only register field in which two states differ, and the part was configured alike. -/
structure SameOffer (k : PortId) (s t : State) : Prop where
  writes : Writes [F.PD_STATUS_PE k] s t
  boot : t.boot = s.boot
  sec : t.sec = s.sec

theorem SameOffer.get {k : PortId} {s t : State} (h : SameOffer k s t) (f : Fld) (hf : Fld.outside f [F.PD_STATUS_PE k] = true) :
    t.get f = s.get f := h.writes f hf
theorem SameOffer.has {k : PortId} {s t : State} (h : SameOffer k s t) (f : Fld) (hf : Fld.outside f [F.PD_STATUS_PE k] = true) :
    t.has f = s.has f := h.writes.has f hf
theorem SameOffer.rev2 {k : PortId} {s t : State} (h : SameOffer k s t) : t.rev2 k = s.rev2 k := by
  simp (disch := (clear * -; decide +revert)) only [State.rev2, h.get]
theorem SameOffer.ceilMw {k : PortId} {s t : State} (h : SameOffer k s t) : t.ceilMw k = s.ceilMw k := by
  simp (disch := (clear * -; decide +revert)) only [State.ceilMw, h.get]
theorem SameOffer.policy {k : PortId} {s t : State} (h : SameOffer k s t) (b : Nat) : t.policy b = s.policy b := by
  rw [State.policy, State.otpWord, h.sec, State.policy, State.otpWord]
theorem SameOffer.gateMw {k : PortId} {s t : State} (h : SameOffer k s t) : t.gateMw k = s.gateMw k := by
  simp (disch := (clear * -; decide +revert)) only [State.gateMw, State.gateMw?, h.get, h.policy]
theorem SameOffer.offerMw {k : PortId} {s t : State} (h : SameOffer k s t) : t.offerMw k = s.offerMw k := by
  rw [State.offerMw, h.gateMw, h.ceilMw, State.offerMw]
theorem SameOffer.eprCapable {k : PortId} {s t : State} (h : SameOffer k s t) : t.eprCapable k = s.eprCapable k := by
  simp (disch := (clear * -; decide +revert)) only [State.eprCapable, State.eprEnabled, h.has, h.ceilMw, h.gateMw]
theorem SameOffer.pdo5Bits {k : PortId} {s t : State} (h : SameOffer k s t) : t.pdo5Bits k = s.pdo5Bits k := by
  simp (disch := (clear * -; decide +revert)) only [State.pdo5Bits, State.portPresent, State.bit, h.boot, h.get, h.eprCapable, h.rev2]
theorem SameOffer.cableMa {k : PortId} {s t : State} (h : SameOffer k s t) : t.cableMa k = s.cableMa k := by
  simp (disch := (clear * -; decide +revert)) only [State.cableMa, h.get]
theorem SameOffer.cableMv {k : PortId} {s t : State} (h : SameOffer k s t) : t.cableMv k = s.cableMv k := by
  simp (disch := (clear * -; decide +revert)) only [State.cableMv, h.get]
theorem SameOffer.sprSection {k : PortId} {s t : State} (h : SameOffer k s t) : t.sprSection k = s.sprSection k := by
  simp (disch := (clear * -; decide +revert)) only [State.sprSection, h.has, h.offerMw, h.pdo5Bits, h.cableMa, h.rev2]
theorem SameOffer.eprSection {k : PortId} {s t : State} (h : SameOffer k s t) : t.eprSection k = s.eprSection k := by
  simp (disch := (clear * -; decide +revert)) only [State.eprSection, h.has, h.offerMw, h.cableMv]
/-- Such states offer the same. -/
theorem SameOffer.capsMsg {k : PortId} {s t : State} (h : SameOffer k s t) : t.capsMsg k = s.capsMsg k := by
  simp (disch := (clear * -; decide +revert)) only [State.capsMsg, State.buildCaps, h.has, h.sprSection, h.eprSection]

/-! Capabilities sent -/

section
variable {s : State} {k : PortId}

theorem say_boot (s : State) (k : PortId) (kind : MsgKind) (objs : List Word) : (s.say k kind objs).boot = s.boot := by
  rw [State.say, apply_ite State.boot]
  exact ite_self _
theorem say_sec (s : State) (k : PortId) (kind : MsgKind) (objs : List Word) : (s.say k kind objs).sec = s.sec := by
  rw [State.say, apply_ite State.sec]
  exact ite_self _

theorem say_cableDone (s : State) (k : PortId) (kind : MsgKind) (objs : List Word) :
    ((s.say k kind objs).port k).pd.cableDone = (s.port k).pd.cableDone := by
  obtain ⟨n, hn⟩ := say_pd s k kind objs
  rw [hn, PdPort.noteSent]
  split
  · split <;> rfl
  · rfl

theorem sendCaps_contract (h : s.contract k = true) : s.sendCaps k = s.say k (s.capsMsg k).kind (s.capsMsg k).objs :=
  if_pos ((say_has ..).trans h)

theorem sendCaps_first (h : s.contract k = false) : s.sendCaps k =
    (((s.say k (s.capsMsg k).kind (s.capsMsg k).objs).modPd k fun p => { p with capsCount := p.capsCount + 1 }).setPe k 1).arm (.sendCaps k)
      (msec 150) := if_neg (ne_true_of_eq_false ((say_has ..).trans h))

theorem setPe_pd (s : State) (k : PortId) (pe : Nat) : ∃ n, ((s.setPe k pe).port k).pd = { (s.port k).pd with peBefore := n } := by
  unfold State.setPe
  split
  · exact ⟨pe, modPd_pd s k fun p => { p with peBefore := pe }⟩
  · exact ⟨(s.port k).pd.peBefore, rfl⟩

theorem Writes.setPe {l : List Fld} {s₀ : State} {pe : Nat} (h : Writes l s₀ s) (hl : F.PD_STATUS_PE k ∈ l) : Writes l s₀ (s.setPe k pe) :=
  .ite h.modPd (h.set hl)

/-- Sending the capabilities changes no register but the policy state's field, nor what they are built from. -/
theorem sendCaps_sameOffer (s : State) (k : PortId) : SameOffer k s (s.sendCaps k) := by
  have hsay : Writes [F.PD_STATUS_PE k] s (s.say k (s.capsMsg k).kind (s.capsMsg k).objs) := (Writes.refl s).same (say_regs ..)
  cases hc : s.contract k with
  | true =>
    rw [sendCaps_contract hc]
    exact ⟨hsay, say_boot .., say_sec ..⟩
  | false =>
    rw [sendCaps_first hc]
    refine ⟨(hsay.modPd.setPe (List.mem_singleton_self _)).arm, ?_, ?_⟩
    · rw [arm_boot, State.setPe, apply_ite State.boot]
      exact (ite_self _).trans (say_boot ..)
    · rw [arm_sec, State.setPe, apply_ite State.sec]
      exact (ite_self _).trans (say_sec ..)

theorem sendCaps_pd (s : State) (k : PortId) : ((s.sendCaps k).port k).pd.tx = (s.port k).pd.tx ++ [s.capsMsg k] ∧
    ((s.sendCaps k).port k).pd.cableDone = (s.port k).pd.cableDone := by
  cases hc : s.contract k with
  | true =>
    rw [sendCaps_contract hc]
    exact ⟨say_tx .., say_cableDone ..⟩
  | false =>
    obtain ⟨n, hn⟩ := setPe_pd ((s.say k (s.capsMsg k).kind (s.capsMsg k).objs).modPd k fun p => { p with capsCount := p.capsCount + 1 }) k 1
    rw [modPd_pd] at hn
    rw [sendCaps_first hc, arm_port, hn]
    exact ⟨say_tx .., say_cableDone ..⟩

end

/-! Cable discovery -/

/-- The identity of a 5 A cable for 50 V is written to ATT_CABLE (Table ATT-4). -/
def State.cableMarked (s : State) (k : PortId) (epr : Bool) : State :=
  ((((s.setWord (R.ATT_CABLE k) 0).put (F.ATT_CABLE_EMARKED k) true).set (F.ATT_CABLE_CUR k) 2).put (F.ATT_CABLE_EPR_OK k) epr).set
    (F.ATT_CABLE_VMAX k) (if epr then 3 else 0)

/-- What follows once ATT_CABLE is written: capabilities that wait for the first outcome go, later ones become due (R194, R213). -/
def State.cableShown (s : State) (k : PortId) : State :=
  let first := !(s.port k).pd.cableDone && decide (s.get (F.PD_STATUS_PE k) = 1)
  let s := s.modPd k fun p => { p with cableDone := true, capsDue := p.capsDue || (!first && !p.caps.isEmpty) }
  if first then ((s.modPd k fun p => { p with tx := [] }).disarmAll [.senderResponse k, .goodCrc k]).sendCaps k else s

/-- The cable's outcome stands, and the Discover Identity that brought it waits no more. -/
def State.cableKnown (s : State) (k : PortId) : State :=
  ((s.modPd k fun p => { p with cableDone := true }).modPd k fun p => { p with tx := [] }).disarmAll [.senderResponse k, .goodCrc k]

theorem cableKnown_pd (s : State) (k : PortId) : ((s.cableKnown k).port k).pd = { (s.port k).pd with cableDone := true, tx := [] } :=
  (modPd_pd _ k fun p => { p with tx := [] }).trans (by rw [modPd_pd])

theorem cableKnown_get (s : State) (k : PortId) (f : Fld) : (s.cableKnown k).get f = s.get f := rfl
theorem cableKnown_has (s : State) (k : PortId) (f : Fld) : (s.cableKnown k).has f = s.has f := rfl

theorem cableMarked_get (s : State) (k : PortId) (epr : Bool) : (s.cableMarked k epr).has (F.ATT_CABLE_EMARKED k) = true ∧
    (s.cableMarked k epr).get (F.ATT_CABLE_CUR k) = 2 ∧ (s.cableMarked k epr).has (F.ATT_CABLE_EPR_OK k) = epr ∧
    (s.cableMarked k epr).get (F.ATT_CABLE_VMAX k) = (if epr then 3 else 0) ∧
    (s.cableMarked k epr).get (F.PD_STATUS_PE k) = s.get (F.PD_STATUS_PE k) := by
  unfold State.cableMarked
  refine ⟨?_, ?_, ?_, ?_, ?_⟩
  · simp (disch := (clear * -; decide +revert))
  · simp (disch := (clear * -; decide +revert))
  · simp (disch := (clear * -; decide +revert))
  · rw [get_set_self _ _ _ rfl]
    cases epr <;> rfl
  · simp (disch := (clear * -; decide +revert))

/-- The first outcome of cable discovery is followed by the capabilities that wait for it (R213). -/
theorem cableOutcome_marked {s : State} {k : PortId} (epr : Bool) (hdone : (s.port k).pd.cableDone = false) (hpe : s.get (F.PD_STATUS_PE k) = 1) :
    s.cableOutcome k true 2 3 epr = ((s.cableMarked k epr).cableKnown k).sendCaps k := by
  have hfirst : (!((s.cableMarked k epr).port k).pd.cableDone && decide ((s.cableMarked k epr).get (F.PD_STATUS_PE k) = 1)) = true := by
    rw [show ((s.cableMarked k epr).port k).pd.cableDone = false from hdone, (cableMarked_get s k epr).2.2.2.2, hpe]
    rfl
  have hshown : s.cableOutcome k true 2 3 epr = (s.cableMarked k epr).cableShown k := by
    cases epr <;> rfl
  rw [hshown, State.cableShown, hfirst, if_pos rfl]
  simp only [Bool.not_true, Bool.false_and, Bool.or_false]
  rfl

theorem discover_pd (s : State) (k : PortId) : ∃ n, ((s.discover k).port k).pd =
    { (s.port k).pd with cableTries := (s.port k).pd.cableTries + 1, tx := (s.port k).pd.tx ++ [{ kind := .discoverIdentity }], retries := n } := by
  obtain ⟨n, hn⟩ := say_pd_other (kind := .discoverIdentity) (s.modPd k fun p => { p with cableTries := p.cableTries + 1 }) k [] (by decide)
  exact ⟨n, hn.trans (by rw [modPd_pd])⟩

end Sys2Proof.Machine
end

section
/-!
Cable discovery, authentication and contact identities in their course (R207, R213, R215, R216).
-/
namespace Sys2Proof.Machine

/-! A cable's answer -/

/-- A cable's answer is heard: its MessageID is noted as that of SOP′, and it is waited for no more (R213). -/
def State.cableHeard (s : State) (k : PortId) (n : Nat) : State :=
  (s.modPd k fun p => { p with acked := some n, rxIdP := some n }).disarm (.senderResponse k)

theorem cableHeard_pd (s : State) (k : PortId) (n : Nat) :
    ((s.cableHeard k n).port k).pd = { (s.port k).pd with acked := some n, rxIdP := some n } :=
  modPd_pd s k fun p => { p with acked := some n, rxIdP := some n }

/-- A new answer to a Discover Identity under way gives the outcome, or one try that brought none (R213). -/
theorem exec_cableIdentity {s : State} {k : PortId} {id : BitVec 3} {valid : Bool} {cur vmax : Nat} {epr : Bool} (hon : s.pdReceives k = true)
    (hrun : s.policyRuns k = true) (hnew : (s.port k).pd.rxIdP ≠ some id.toNat) (hdisc : s.discovers k = true)
    (hvconn : s.has (F.ATT_STATUS_VCONN_ON k) = true) : exec (.cableIdentityResponse k id valid cur vmax epr) s =
    .next (if valid then (s.cableHeard k id.toNat).cableOutcome k true cur vmax epr else (s.cableHeard k id.toNat).cableMiss k) := by
  have hasked : ((s.modPd k fun p => { p with acked := some id.toNat, rxIdP := some id.toNat }).discovers k &&
      s.has (F.ATT_STATUS_VCONN_ON k)) = true := by
    rw [State.discovers, modPd_pd, hvconn, Bool.and_true]
    exact hdisc
  exact congrArg Host.Outcome.next ((receive_heard _ hon
    (show (s.port k).pd.lastRx (.cableIdentityResponse k id valid cur vmax epr) ≠ some id.toNat from hnew) hrun).trans (if_pos hasked))

/-! Messages of the part's own -/

section
variable {s : State} {k : PortId}

/-- A message of the part's own waits, with or without SinkTxNG presented for it, or goes at once (R197). -/
theorem ownAms_cases (s : State) (k : PortId) (m : PdMsg) : s.ownAms k [m] = s.holdMsgs k [m] ∨
    s.ownAms k [m] = (s.holdMsgs k [m]).waitSinkTx k ∨ s.ownAms k [m] = s.say k m.kind m.objs := by
  by_cases h : (s.contract k && !s.isSink k) = true
  · rw [ownAms_source h]
    split
    · exact .inl rfl
    · exact .inr (.inl rfl)
  · rw [State.ownAms, if_neg h]
    split
    · exact .inl rfl
    · exact .inr (.inr rfl)

theorem Writes.ownAms {l : List Fld} {s₀ : State} {m : PdMsg} (h : Writes l s₀ s) (hl : F.ATT_STATUS_RP k ∈ l) : Writes l s₀ (s.ownAms k [m]) := by
  rcases ownAms_cases s k m with ho | ho | ho <;> rw [ho]
  · exact h.modPd
  · exact h.modPd.waitSinkTx hl
  · exact h.same (say_regs ..)

theorem ownAms_deadline {m : PdMsg} {i : TimerId} (hw : i ≠ .sinkTx k) (hg : i ≠ .goodCrc k) : (s.ownAms k [m]).deadline i = s.deadline i := by
  rcases ownAms_cases s k m with ho | ho | ho <;> rw [ho]
  · rfl
  · exact waitSinkTx_deadline hw
  · exact say_deadline _ _ _ _ hg

theorem say_auth (s : State) (k : PortId) (kind : MsgKind) (objs : List Word) : ((s.say k kind objs).port k).pd.auth = (s.port k).pd.auth := by
  obtain ⟨n, hn⟩ := say_pd s k kind objs
  rw [hn, PdPort.noteSent]
  split
  · split <;> rfl
  · rfl

theorem ownAms_auth (m : PdMsg) : ((s.ownAms k [m]).port k).pd.auth = (s.port k).pd.auth := by
  rcases ownAms_cases s k m with ho | ho | ho <;> rw [ho]
  · rw [holdMsgs_pd]
  · rw [waitSinkTx_pd, holdMsgs_pd]
  · exact say_auth ..

end

/-! Authentication -/

/-- Authentication begins: its state is shown, and its limit runs (R207). -/
def State.authBegun (s : State) (k : PortId) : State :=
  ((s.set (F.PD_STATUS_AUTH k) 1).modPd k fun p => { p with auth := .digests }).arm (.authWhole k) (secs 3)

theorem exec_authStart {s : State} {k : PortId} {g : Nat} (hgate : s.gateMw? k = some g) (hcontract : s.contract k = true) (hceil : g < s.ceilMw k)
    (hauth : s.get (F.PD_STATUS_AUTH k) = 0) (hquiet : s.amsRuns k = false) (hload : (s.port k).pd.reloading = false)
    (hroots : s.trustedRoots k ≠ []) (hrev : s.rev2 k = false) :
    exec (.authStart k) s = .next ((s.authBegun k).ownAms k [secRequest 0x81 0 []]) := by
  have hgated : (s.contract k && Nat.blt g (s.ceilMw k) && decide (s.get (F.PD_STATUS_AUTH k) = 0) && !s.amsRuns k &&
      !(s.port k).pd.reloading) = true := by
    rw [hcontract, hauth, hquiet, hload, Nat.blt_eq.mpr hceil]
    rfl
  have hrev' : (s.set (F.PD_STATUS_AUTH k) 1).rev2 k = false := by
    rw [State.rev2, get_set_apart _ _ _ _ rfl (by clear * -; decide +revert)]
    exact hrev
  have hable : (((s.set (F.PD_STATUS_AUTH k) 1).trustedRoots k).isEmpty || (s.set (F.PD_STATUS_AUTH k) 1).rev2 k) = false := by
    rw [hrev', Bool.or_false]
    exact List.isEmpty_eq_false_iff.mpr hroots
  change execAuthStart k s = _
  unfold execAuthStart
  rw [hgate]
  exact congrArg Host.Outcome.next ((if_pos hgated).trans (if_neg (ne_true_of_eq_false hable)))

theorem deadline_disarmAll_mem (s : State) {l : List TimerId} {i : TimerId} (h : i ∈ l) : (s.disarmAll l).deadline i = none := by
  rw [State.deadline, State.disarmAll, Option.map_eq_none_iff, List.find?_eq_none]
  intro e he hi
  rw [decide_eq_true_iff] at hi
  rw [List.mem_filter, hi, List.contains_iff_mem.mpr h] at he
  exact absurd he.2 (by decide)

/-- The part's exchange of authentication is dropped. -/
def State.authDropped (s : State) (k : PortId) : State :=
  (s.disarmAll [.authResponse k, .authWhole k]).modPd k fun p => { p with auth := .idle, authSlots := [], authChain := [] }
/-- Its failure is shown, with the flag and the warning of R207. -/
def State.authFailShown (s : State) (k : PortId) : State :=
  (((s.authDropped k).set (F.PD_STATUS_AUTH k) 3).flag (G.PD_AUTH_FAIL k)).warn (portFault k 0 0x13)

theorem authFailShown_pd (s : State) (k : PortId) :
    ((s.authFailShown k).port k).pd = { (s.port k).pd with auth := .idle, authSlots := [], authChain := [] } := by
  rw [State.authFailShown, State.port, warn_ports]
  exact modPd_pd (s.disarmAll _) k fun p => { p with auth := .idle, authSlots := [], authChain := [] }

/-- A failed authentication is shown with its flag, and neither its limit nor its answer is waited for (R207). -/
theorem authFail_facts (s : State) (k : PortId) : (s.authFail k).get (F.PD_STATUS_AUTH k) = 3 ∧ ((s.authFail k).port k).pd.auth = .idle ∧
    (s.authFail k).has (G.PD_AUTH_FAIL k).bit = true ∧ (s.authFail k).deadline (.authWhole k) = none := by
  have hregs : Writes [F.ATT_STATUS_RP k] (s.authFailShown k) (s.authFail k) := (Writes.refl _).endAms (List.mem_singleton_self _)
  obtain ⟨b, hb, -⟩ := endAms_pd (s.authFailShown k) k
  refine ⟨(hregs _ (by clear * -; decide +revert)).trans ?_, ?_, (hregs.has _ (by clear * -; decide +revert)).trans ?_,
    (endAms_deadline (s := s.authFailShown k) (by simp)).trans ?_⟩
  · unfold State.authFailShown
    simp (disch := (clear * -; decide +revert))
  · exact congrArg PdPort.auth (hb.trans (by rw [authFailShown_pd]))
  · unfold State.authFailShown
    simp (disch := (clear * -; decide +revert))
  · rw [State.authFailShown, State.deadline, warn_timers]
    exact deadline_disarmAll_mem s (by simp)

/-! Contact identity -/

theorem frenerDone_pd (s : State) (k : PortId) : ∃ b, ((s.frenerDone k).port k).pd = { (s.port k).pd with frWait := 0, ams := b } := by
  obtain ⟨b, hb, -⟩ := endAms_pd ((s.disarm (.frener k)).modPd k fun p => { p with frWait := 0 }) k
  exact ⟨b, hb.trans (by rw [modPd_pd]; rfl)⟩

theorem frenerDone_deadline (s : State) (k : PortId) : (s.frenerDone k).deadline (.frener k) = none :=
  (endAms_deadline (by simp)).trans (deadline_disarm_self _ _)

/-- IDENT is asked for, once in this contract (R216). -/
def State.identAsked (s : State) (k : PortId) : State := s.modPd k fun p => { p with frIdentSent := true, frWait := 1 }
/-- The response to IDENT is stored (R216). -/
def State.identTaken (s : State) (k : PortId) (vdo1 vdo2 : Word) : State :=
  s.modPd k fun p => { p with frType := vdo1.toNat / 2 ^ 16, frCap := vdo1.toNat / 2 ^ 8 % 2 ^ 8, frSerial := vdo2.toNat }

theorem identAsked_pd (s : State) (k : PortId) : ((s.identAsked k).port k).pd = { (s.port k).pd with frIdentSent := true, frWait := 1 } :=
  modPd_pd s k fun p => { p with frIdentSent := true, frWait := 1 }

theorem identTaken_pd (s : State) (k : PortId) (vdo1 vdo2 : Word) : ((s.identTaken k vdo1 vdo2).port k).pd =
    { (s.port k).pd with frType := vdo1.toNat / 2 ^ 16, frCap := vdo1.toNat / 2 ^ 8 % 2 ^ 8, frSerial := vdo2.toNat } :=
  modPd_pd s k fun p => { p with frType := vdo1.toNat / 2 ^ 16, frCap := vdo1.toNat / 2 ^ 8 % 2 ^ 8, frSerial := vdo2.toNat }

theorem frenerOn_contract {s : State} {k : PortId} (h : s.frenerOn k = true) : s.contract k = true := by
  rw [State.frenerOn, Bool.and_eq_true, Bool.and_eq_true] at h
  exact h.1.2

/-- Settles O30: a cable's answer is `exec_cableIdentity`, followed by the next try (`discover_pd`) or by the capabilities that waited
(`cableOutcome_marked`); authentication and the contact identity begin and end as exchanges of the part's own (`ownAms_cases`, `endAms_pd`). -/
theorem cableAuthAndContactTimersAct : Obligations.CableAuthAndContactTimersAct := by
  refine ⟨fun s k hload harmed hvconn hdone hswitch => ?_, fun s k id cur vmax epr hon hrun hnew hdisc hvconn htries => ?_,
    fun s k id cur vmax epr hon hrun hnew hdisc hpe hvconn hcur hvmax => ?_,
    fun s k g hgate hcontract hceil hauth hquiet hload hroots hrev => ?_, fun s k hwhole hresp => ?_,
    fun s k id hon hsent hquiet hload hsrc => ?_, fun s k id v hon hrun hnew hwait => ?_, fun s k harmed hwait => ?_⟩
  · obtain ⟨n, hn⟩ := discover_pd (s.elapsed (.vconnStable k)) k
    have hdue : (s.has (F.ATT_STATUS_VCONN_ON k) && !(s.port k).pd.cableDone && (s.switchDriven k || decide (s.astate k = 8))) = true := by
      rw [hvconn, hdone, hswitch]
      rfl
    refine .of_elapse_eq harmed (congrArg Host.Outcome.next (if_neg (ne_true_of_eq_false hload))) (if_pos hdue) ?_
    rw [hn]
    exact ⟨rfl, rfl⟩
  · obtain ⟨n, hn⟩ := discover_pd (s.cableHeard k id.toNat) k
    rw [cableHeard_pd] at hn
    have hagain : (s.cableHeard k id.toNat).cableMiss k = (s.cableHeard k id.toNat).discover k := if_pos (by rw [cableHeard_pd]; exact htries)
    refine .of_eq ((exec_cableIdentity hon hrun hnew hdisc hvconn).trans (congrArg Host.Outcome.next hagain)) ?_
    rw [hn]
    exact ⟨rfl, rfl, rfl, fun a _ => congrArg (bankRead regReset · a) (say_regs ..)⟩
  · subst hcur hvmax
    have hdone : ((s.cableHeard k id.toNat).port k).pd.cableDone = false := by
      rw [State.discovers, Bool.and_eq_true, Bool.not_eq_true'] at hdisc
      rw [cableHeard_pd]
      exact hdisc.1
    obtain ⟨hmarked, hcur, hok, hmax, -⟩ := cableMarked_get (s.cableHeard k id.toNat) k epr
    have hsame := sendCaps_sameOffer (((s.cableHeard k id.toNat).cableMarked k epr).cableKnown k) k
    obtain ⟨htx, hknown⟩ := sendCaps_pd (((s.cableHeard k id.toNat).cableMarked k epr).cableKnown k) k
    rw [cableKnown_pd] at htx hknown
    refine .of_eq ((exec_cableIdentity hon hrun hnew hdisc hvconn).trans (congrArg Host.Outcome.next (cableOutcome_marked epr hdone hpe))) ?_
    refine ⟨(hsame.has _ ?_).trans ((cableKnown_has ..).trans hmarked), (hsame.get _ ?_).trans ((cableKnown_get ..).trans hcur),
      (hsame.has _ ?_).trans ((cableKnown_has ..).trans hok), (hsame.get _ ?_).trans ((cableKnown_get ..).trans hmax), hknown, ?_⟩
    iterate 4 (clear * -; decide +revert)
    rw [htx, hsame.capsMsg, List.nil_append]
  · have hregs := Writes.ownAms (m := secRequest 0x81 0 []) (.refl (s.authBegun k)) (List.mem_singleton_self (F.ATT_STATUS_RP k))
    refine .of_eq (exec_authStart hgate hcontract hceil hauth hquiet hload hroots hrev)
      ⟨(hregs _ (by clear * -; decide +revert)).trans (get_set_self _ _ _ rfl), (ownAms_auth _).trans ?_, (ownAms_deadline ?_ ?_).trans ?_⟩
    · exact congrArg PdPort.auth (modPd_pd (s.set (F.PD_STATUS_AUTH k) 1) k fun p => { p with auth := .digests })
    · simp
    · simp
    · exact deadline_arm_self ..
  · have hexec : exec (.authTimeout k) s = .next (s.onElapse (.authWhole k) fun t => t.authFail k) := by
      have hnone : s.deadline (.authResponse k) = none := Option.isNone_iff_eq_none.mp (Option.isSome_eq_false_iff.mp hresp)
      change execAuthTimeout k s = _
      unfold execAuthTimeout
      rw [hnone]
    obtain ⟨hauth, hidle, hflag, hgone⟩ := authFail_facts (s.elapsed (.authWhole k)) k
    exact .of_elapse hwhole hexec ⟨hauth, hidle, hflag, congrArg Option.isSome hgone⟩
  · have hdue : (s.frenerOn k && !(s.port k).pd.frIdentSent && !s.amsRuns k && !(s.port k).pd.reloading) = true := by
      rw [hon, hsent, hquiet, hload]
      rfl
    have hown := ownAms_source_pd (s := s.identAsked k) (k := k)
      (by rw [Bool.and_eq_true, Bool.not_eq_true']; exact ⟨frenerOn_contract hon, hsrc⟩) [{ kind := .frIdent, objs := [frHeader 1] }]
    rw [identAsked_pd] at hown
    refine .of_eq (t := (s.identAsked k).ownAms k [{ kind := .frIdent, objs := [frHeader 1] }])
      (congrArg Host.Outcome.next (if_pos hdue)) ?_
    rw [hown]
    exact ⟨rfl, rfl, rfl⟩
  · have hasked : ((s.noted k id.toNat).port k).pd.frWait = 1 := by
      rw [noted_pd]
      exact hwait
    have htaken := (receive_heard (c := .frenerIdent k id (some v)) (fun t => t.onIdent k v.1 v.2) hon hnew hrun).trans (if_pos hasked)
    obtain ⟨b, hb⟩ := frenerDone_pd ((s.noted k id.toNat).identTaken k v.1 v.2) k
    rw [identTaken_pd] at hb
    refine .of_eq (t := ((s.noted k id.toNat).identTaken k v.1 v.2).frenerDone k) (congrArg Host.Outcome.next htaken) ?_
    rw [hb]
    exact ⟨rfl, rfl, rfl, rfl⟩
  · have hown : (s.elapsed (.frener k)).frenerAbsent k =
        ((s.elapsed (.frener k)).modPd k fun p => { p with frCap := 0 }).frenerDone k := if_neg hwait
    obtain ⟨b, hb⟩ := frenerDone_pd ((s.elapsed (.frener k)).modPd k fun p => { p with frCap := 0 }) k
    rw [modPd_pd] at hb
    refine .of_elapse_eq harmed rfl hown ?_
    rw [hb]
    exact ⟨rfl, rfl, congrArg Option.isSome (frenerDone_deadline _ k)⟩

end Sys2Proof.Machine
end

section
/-!
The attach unit's acts by field and by what they keep (R161, R163, R171, R172): an attach state entered, the judgement of R163, and the
readings that these end.
-/
namespace Sys2Proof.Machine

section
variable {s : State} {k : PortId}

/-! A port's parts -/

theorem modAtt_port (s : State) (k : PortId) (f : AttPort → AttPort) : (s.modAtt k f).port k = { s.port k with att := f (s.port k).att } := by simp
theorem modCnv_port (s : State) (k : PortId) (f : CnvPort → CnvPort) : (s.modCnv k f).port k = { s.port k with cnv := f (s.port k).cnv } := by simp
theorem modBrk_port (s : State) (k : PortId) (f : BrkPort → BrkPort) : (s.modBrk k f).port k = { s.port k with brk := f (s.port k).brk } := by simp

theorem modBrk_att (s : State) (k : PortId) (f : BrkPort → BrkPort) : ((s.modBrk k f).port k).att = (s.port k).att := by rw [modBrk_port]

/-! An attach state entered -/

/-- Entering an attach state shows it; the readings' series goes on, begins, or ends (R171, R172). -/
theorem setAState_cases (s : State) (k : PortId) (st : Nat) : s.setAState k st = s.set (F.ATT_STATUS_ASTATE k) st ∨
    s.setAState k st = (s.set (F.ATT_STATUS_ASTATE k) st).arm (.wetNext k) 0 ∨ s.setAState k st = (s.set (F.ATT_STATUS_ASTATE k) st).endReading k := by
  unfold State.setAState
  extract_lets u
  split
  · split
    · exact .inl rfl
    · exact .inr (.inl rfl)
  · exact .inr (.inr rfl)

theorem setAState_regs (s : State) (k : PortId) (st : Nat) : (s.setAState k st).regs = (s.set (F.ATT_STATUS_ASTATE k) st).regs := by
  rcases setAState_cases s k st with h | h | h <;> rw [h] <;> rfl

theorem setAState_writes (s : State) (k : PortId) (st : Nat) : Writes [F.ATT_STATUS_ASTATE k] s (s.setAState k st) :=
  (Writes.set (.refl s) (List.mem_singleton_self _)).same (setAState_regs s k st)

theorem setAState_astate {st : Nat} (h : st < 16) : (s.setAState k st).astate k = st := by
  rw [State.astate, State.get, State.word, setAState_regs]
  exact (get_set_self s _ _ rfl).trans (Nat.mod_eq_of_lt h)

theorem endReading_port (s : State) (k : PortId) :
    (s.endReading k).port k = { s.port k with att := { (s.port k).att with wetBias := false, wetPins := 0 } } :=
  modAtt_port _ k fun a => { a with wetBias := false, wetPins := 0 }

/-- Of the port, entering an attach state changes nothing but the bias of a reading, which it may take away. -/
theorem setAState_port (s : State) (k : PortId) (st : Nat) : (s.setAState k st).port k = s.port k ∨
    (s.setAState k st).port k = { s.port k with att := { (s.port k).att with wetBias := false, wetPins := 0 } } := by
  rcases setAState_cases s k st with h | h | h <;> rw [h]
  · exact .inl rfl
  · exact .inl rfl
  · exact .inr (endReading_port ..)

theorem setAState_unbiased {st : Nat} (h : (s.port k).att.wetBias = false) : ((s.setAState k st).port k).att.wetBias = false := by
  rcases setAState_port s k st with hp | hp <;> rw [hp]
  exact h

/-! The judgement of R163 -/

/-- The fields of port k that the judgement of R163 and the application of VBUS write. -/
def vbusFields (k : PortId) : List Fld :=
  [F.ATT_STATUS_ASTATE k, F.ATT_STATUS_RP k, F.ATT_STATUS_VCONN_ON k, F.PD_STATUS_VCONN_SRC k, F.CNV_DROP_IOFS k, F.CNV_STATUS_VSET k,
    F.CNV_STATUS_RAMP k, F.BRK_STATUS_STATE k, F.BRK_STATUS_ACC k]

theorem presentRp_writes (s : State) (k : PortId) : Writes (vbusFields k) s (s.presentRp k) := by
  unfold State.presentRp
  extract_lets u ref
  exact .ite (.refl s) ((Writes.refl s).set (by simp [vbusFields])).modBrk

theorem presentRp_att (s : State) (k : PortId) : ((s.presentRp k).port k).att = (s.port k).att := by
  unfold State.presentRp
  extract_lets u ref
  split
  · rfl
  · rw [modBrk_port]
    rfl

theorem vconnOn_writes (s : State) (k : PortId) : Writes (vbusFields k) s (s.vconnOn k) :=
  .ite ((((Writes.refl s).put (by simp [vbusFields])).put (by simp [vbusFields])).modPd.arm) (.refl s)

theorem vconnOn_att (s : State) (k : PortId) : ((s.vconnOn k).port k).att = (s.port k).att := by
  unfold State.vconnOn
  split
  · rw [State.vconnApply, arm_port, port_modPd_self]
    rfl
  · rfl

theorem startConverter_writes (s : State) (k : PortId) (mv : Nat) : Writes (vbusFields k) s (s.startConverter k mv) :=
  .ite (.refl s) (.ite (Writes.refl s).modCnv (((((Writes.refl s).set (by simp [vbusFields])).modCnv.set (by simp [vbusFields])).modCnv).put
    (by simp [vbusFields])))

theorem runConverter_att (s : State) (k : PortId) (mv : Nat) : ((s.runConverter k mv).port k).att = (s.port k).att := by
  simp [State.runConverter, State.rampTo]

theorem startConverter_att (s : State) (k : PortId) (mv : Nat) : ((s.startConverter k mv).port k).att = (s.port k).att := by
  unfold State.startConverter
  split
  · rfl
  · split
    · rw [modCnv_port]
    · exact runConverter_att s k mv

theorem beginClose_writes (s : State) (k : PortId) : Writes (vbusFields k) s (s.beginClose k) := by
  unfold State.beginClose
  extract_lets ref u v
  have hv : Writes (vbusFields k) s v := ((Writes.refl s).modBrk.set (by simp [vbusFields])).set (by simp [vbusFields])
  exact .ite hv hv.arm

theorem beginClose_att (s : State) (k : PortId) : ((s.beginClose k).port k).att = (s.port k).att := by
  unfold State.beginClose
  extract_lets ref u v
  have hv : (v.port k).att = (s.port k).att :=
    modBrk_att s k fun b =>
      { b with acc := 0, accZeroAt := s.now, iRef := ref, iRefNext := ref, gate := 0, after := 0, verdictDue := false,
               retried := b.retried || b.retryClose }
  split
  · exact hv
  · rw [arm_port]
    exact hv

theorem applyVbus_writes (s : State) (k : PortId) : Writes (vbusFields k) s (s.applyVbus k) :=
  ((((setAState_writes s k 7).mono (by simp [vbusFields])).trans (vconnOn_writes _ k)).trans (startConverter_writes _ k 5000)).trans
    (beginClose_writes _ k)

theorem applyVbus_unbiased (h : (s.port k).att.wetBias = false) : ((s.applyVbus k).port k).att.wetBias = false := by
  rw [State.applyVbus, beginClose_att, startConverter_att, vconnOn_att]
  exact setAState_unbiased h

/-- The judgement of R163 leaves the port as it is, presents its Rp, applies VBUS, or enters the state of the first unmet condition. -/
theorem judgeVbus_cases (s : State) (k : PortId) : s.judgeVbus k = s ∨ s.judgeVbus k = s.presentRp k ∨
    s.judgeVbus k = (s.presentRp k).applyVbus k ∨ ∃ st, s.judgeVbus k = (s.presentRp k).setAState k st := by
  unfold State.judgeVbus
  extract_lets u st
  split
  · split
    · split
      · exact .inr (.inr (.inl rfl))
      · exact .inr (.inl rfl)
    · exact .inr (.inr (.inr ⟨_, rfl⟩))
  · exact .inl rfl

theorem judgeVbus_writes (s : State) (k : PortId) : Writes (vbusFields k) s (s.judgeVbus k) := by
  rcases judgeVbus_cases s k with h | h | h | ⟨st, h⟩ <;> rw [h]
  · exact .refl s
  · exact presentRp_writes s k
  · exact (presentRp_writes s k).trans (applyVbus_writes _ k)
  · exact (presentRp_writes s k).trans ((setAState_writes _ k st).mono (by simp [vbusFields]))

theorem judgeVbus_unbiased (h : (s.port k).att.wetBias = false) : ((s.judgeVbus k).port k).att.wetBias = false := by
  have hrp : ((s.presentRp k).port k).att.wetBias = false := by
    rw [presentRp_att]
    exact h
  rcases judgeVbus_cases s k with hj | hj | hj | ⟨st, hj⟩ <;> rw [hj]
  · exact h
  · exact hrp
  · exact applyVbus_unbiased hrp
  · exact setAState_unbiased hrp

theorem judgeVbus_unattached (h : s.astate k = 1) : s.judgeVbus k = s := by
  have hnone : s.sinkAttached k = false := by
    rw [State.sinkAttached, h]
    exact Bool.and_false _
  rw [State.judgeVbus, if_neg (by rw [hnone]; exact Bool.false_ne_true)]

/-! A partner looked for -/

/-- Without a termination on the pins no debounce starts (R162). -/
theorem ccEval_alone (hsink : seesSink (s.port k).pins = false) (hrp : seesRp (s.port k).pins = 0) : s.ccEval k = s := by
  have hnone : (if s.looksForSource k then decide (seesRp (s.port k).pins ≠ 0) else seesSink (s.port k).pins) = false := by
    rw [hrp, hsink]
    exact ite_self _
  unfold State.ccEval
  extract_lets p free sees
  have hsees : sees = false := hnone
  rw [if_neg (by rw [hsees, Bool.and_false, Bool.false_and]; exact Bool.false_ne_true)]

theorem ccEval_writes (s : State) (k : PortId) : Writes [F.ATT_STATUS_ASTATE k] s (s.ccEval k) :=
  .ite (((Writes.refl s).disarm.trans (setAState_writes _ k 2)).arm) (.refl s)

theorem ccEval_unbiased (h : (s.port k).att.wetBias = false) : ((s.ccEval k).port k).att.wetBias = false := by
  unfold State.ccEval
  extract_lets p free sees
  split
  · rw [arm_port]
    exact setAState_unbiased h
  · exact h

end
end Sys2Proof.Machine
end

section
/-!
The beginning of a wet reading (R171, R172): its bias, its settling and its window.
-/
namespace Sys2Proof.Machine

section
variable (s : State) (k : PortId)

theorem setShadow_port (b : Bank Word) : (s.setShadow b).port k = s.port k := (apply_ite (State.port · k) ..).trans (ite_self _)
theorem setShadow_timers (b : Bank Word) : (s.setShadow b).timers = s.timers := (apply_ite State.timers ..).trans (ite_self _)
theorem setShadow_now (b : Bank Word) : (s.setShadow b).now = s.now := (apply_ite State.now ..).trans (ite_self _)
theorem requestSwap_port : s.requestSwap.port k = s.port k := (apply_ite (State.port · k) ..).trans (ite_self _)
theorem requestSwap_timers : s.requestSwap.timers = s.timers := (apply_ite State.timers ..).trans (ite_self _)
theorem requestSwap_now : s.requestSwap.now = s.now := (apply_ite State.now ..).trans (ite_self _)

/-- Keeping the pins' channels measured leaves the state, or writes the shadow bank and requests the swap (R172). -/
theorem keepWet_cases : s.keepWet = s ∨ ∃ bank v, s.keepWet = ((s.setShadow bank).set F.SCH_CRC_CRC v).requestSwap := by
  unfold State.keepWet
  extract_lets missing idle bank
  split
  · exact .inl rfl
  · exact .inr ⟨_, _, rfl⟩

theorem keepWet_port : s.keepWet.port k = s.port k := by
  obtain h | ⟨bank, v, h⟩ := keepWet_cases s <;> rw [h]
  rw [requestSwap_port, set_port, setShadow_port]
theorem keepWet_timers : s.keepWet.timers = s.timers := by
  obtain h | ⟨bank, v, h⟩ := keepWet_cases s <;> rw [h]
  rw [requestSwap_timers, set_timers, setShadow_timers]
theorem keepWet_now : s.keepWet.now = s.now := by
  obtain h | ⟨bank, v, h⟩ := keepWet_cases s <;> rw [h]
  rw [requestSwap_now]
  exact setShadow_now s bank
theorem keepWet_deadline (i : TimerId) : s.keepWet.deadline i = s.deadline i := by rw [State.deadline, keepWet_timers, State.deadline]

/-- A reading that begins: the bias on its pins and 5 ms to settle (Table ATT-6 step 1). -/
def State.biased (s : State) (k : PortId) : State :=
  (s.modAtt k fun a => { a with wetBias := true, wetPins := s.wetMask k }).arm (.wetSettle k) (msec 5)

theorem biased_att : ((s.biased k).port k).att = { (s.port k).att with wetBias := true, wetPins := s.wetMask k } := by
  rw [State.biased, arm_port, modAtt_port]

/-- What a due reading leaves (R171). -/
theorem biased_facts (s : State) (k : PortId) :
    ((s.arm (.wetNext k) (secs 1)).biased k).keepWet.deadline (.wetSettle k) = some (s.now + msec 5) ∧
    ((s.arm (.wetNext k) (secs 1)).biased k).keepWet.deadline (.wetNext k) = some (s.now + secs 1) ∧
    (((s.arm (.wetNext k) (secs 1)).biased k).keepWet.port k).att.wetBias = true ∧
    (((s.arm (.wetNext k) (secs 1)).biased k).keepWet.port k).att.wetPins = s.wetMask k ∧
    ((s.arm (.wetNext k) (secs 1)).biased k).keepWet.now = s.now := by
  rw [keepWet_deadline, keepWet_deadline, keepWet_port, keepWet_now, biased_att]
  exact ⟨deadline_arm_self _ _ _, (deadline_arm_other _ _ _ _ (by simp)).trans (deadline_arm_self s _ _), rfl, rfl, rfl⟩

end

theorem wetReadingDue_next {s : State} {k : PortId} (harmed : s.armed (.wetNext k) = true) (hon : s.wetOn = true)
    (hst : readingState (s.astate k) = true) (hload : (s.port k).pd.reloading = false) :
    exec (.wetReadingDue k) s = .next (((s.elapsed (.wetNext k)).arm (.wetNext k) (secs 1)).biased k).keepWet := by
  refine congrArg Host.Outcome.next ((onElapse_of_armed harmed _).trans (if_pos ?_))
  have h : (s.wetOn && readingState (s.astate k) && !(s.port k).pd.reloading) = true := by rw [hon, hst, hload]; rfl
  exact h

/-- A window of 20 ms over the pins of the reading begins (Table ATT-6 step 3). -/
theorem wetSettlingEnd_facts {s : State} {k : PortId} (harmed : s.armed (.wetSettle k) = true) :
    Answers (exec (.wetSettlingEnd k) s) fun t => t.deadline (.wetWindow k) = some (t.now + msec 20) ∧ t.armed (.wetSettle k) = false := by
  refine .of_elapse harmed rfl ⟨deadline_arm_self _ _ _, ?_⟩
  exact (congrArg Option.isSome (deadline_arm_other _ _ _ _ (by simp))).trans (elapsed_armed s (.wetSettle k))

end Sys2Proof.Machine
end

section
/-!
The roles of port 9 (R177): the DRP timer's turns and the end of Try.SNK.
-/
namespace Sys2Proof.Machine

/-- Port 9 with its role turned. -/
def State.turned (s : State) : State := s.modAtt port9 fun a => { a with asSource := !a.asSource }

/-- Port 9 presents a role: Rp at 3.0 A as source, Rd as sink (R177). -/
def State.roleShown (s : State) (src : Bool) : State :=
  (s.put (F.ATT_STATUS_PWR_ROLE port9) (!src)).set (F.ATT_STATUS_RP port9) (if src then 3 else 0)

theorem turned_port (s : State) :
    s.turned.port port9 = { s.port port9 with att := { (s.port port9).att with asSource := !(s.port port9).att.asSource } } :=
  modAtt_port s port9 fun a => { a with asSource := !a.asSource }

theorem turned_asSource (s : State) : (s.turned.port port9).att.asSource = !(s.port port9).att.asSource := by rw [turned_port]

theorem roleShown_role (s : State) (src : Bool) : (s.roleShown src).has (F.ATT_STATUS_PWR_ROLE port9) = !src :=
  (has_set_apart _ _ _ _ (by decide) (by decide)).trans (has_put_self _ _ _ rfl rfl)

theorem roleShown_rp (s : State) (src : Bool) : (s.roleShown src).get (F.ATT_STATUS_RP port9) = if src then 3 else 0 := by
  refine (get_set_self _ _ _ rfl).trans ?_
  cases src <;> rfl

/-- Port 9 turned, with its new role presented, until the next turn. -/
def State.toggled (s : State) : State := (s.turned.roleShown (s.turned.port port9).att.asSource).arm .drp drpHalf

theorem toggled_port (s : State) : s.toggled.port port9 = s.turned.port port9 := rfl

theorem toggled_facts (s : State) : (s.toggled.port port9).att.asSource = (!(s.port port9).att.asSource) ∧
    s.toggled.has (F.ATT_STATUS_PWR_ROLE port9) = (s.port port9).att.asSource ∧
    s.toggled.get (F.ATT_STATUS_RP port9) = (if (s.port port9).att.asSource then 0 else 3) ∧
    s.toggled.deadline .drp = some (s.toggled.now + drpHalf) := by
  refine ⟨?_, ?_, ?_, deadline_arm_self _ _ _⟩
  · rw [toggled_port, turned_asSource]
  · exact (roleShown_role _ _).trans ((congrArg not (turned_asSource s)).trans (Bool.not_not _))
  · refine (roleShown_rp _ _).trans ?_
    rw [turned_asSource]
    cases (s.port port9).att.asSource <;> rfl

theorem drpToggle_next {s : State} (harmed : s.armed .drp = true) (hopen : s.astate port9 = 1) (hvin : s.env.vinOk = true)
    (hoff : s.isIn .offSeason = false) (hsink : seesSink (s.port port9).pins = false) (hrp : seesRp (s.port port9).pins = 0) :
    exec .drpToggle s = .next (s.elapsed .drp).toggled := by
  have hcond : (decide (s.astate port9 = 1) && s.env.vinOk && !s.isIn .offSeason) = true := by rw [hopen, hvin, hoff]; rfl
  have hpins : ((s.elapsed .drp).toggled.port port9).pins = (s.port port9).pins := by
    rw [toggled_port, turned_port]
    rfl
  refine congrArg Host.Outcome.next ((onElapse_of_armed harmed _).trans ((if_pos hcond).trans ?_))
  exact ccEval_alone (s := (s.elapsed .drp).toggled) (by rw [hpins, hsink]) (by rw [hpins, hrp])

theorem trySnkElapsed_alone {s : State} (harmed : s.armed .drpTry = true) (htry : s.astate port9 = 0xB)
    (hsub : (s.port port9).att.trySub = 1) (hrp : seesRp (s.port port9).pins = 0) :
    Answers (exec .trySnkElapsed s) fun t => (t.port port9).att.trySub = 2 ∧ t.get (F.ATT_STATUS_RP port9) = 3 ∧
      t.deadline .drpTry = some (t.now + msec 100) := by
  refine .of_elapse_eq harmed rfl ((if_neg (not_not.mpr htry)).trans ((if_pos hsub).trans (if_neg (not_not.mpr hrp)))) ⟨?_, ?_, ?_⟩
  · rw [arm_port, set_port, State.put, set_port, modAtt_port]
  · exact (get_set_self _ _ _ rfl).trans rfl
  · exact deadline_arm_self _ _ _

theorem attachSink_facts (s : State) :
    (s.attachSink port9).astate port9 = 8 ∧ (s.attachSink port9).has (F.ATT_STATUS_PWR_ROLE port9) = true := by
  unfold State.attachSink
  extract_lets p first a b c
  have ha : a.has (F.ATT_STATUS_PWR_ROLE port9) = true := has_put_self _ _ _ rfl rfl
  have hw : Writes [F.ATT_STATUS_RP port9, F.PD_STATUS_DATA_ROLE port9, F.ATT_STATUS_SEATED port9] a c :=
    (((Writes.refl a).set (by simp)).put (by simp)).when fun _ ht => ht.put (by simp)
  refine ⟨setAState_astate (by decide), ?_⟩
  rw [(setAState_writes _ port9 8).has _ (by decide)]
  exact (hw.has _ (by decide)).trans ha

theorem trySnkElapsed_source {s : State} (harmed : s.armed .drpTry = true) (htry : s.astate port9 = 0xB)
    (hsub : (s.port port9).att.trySub = 1) (hrp : seesRp (s.port port9).pins ≠ 0) :
    Answers (exec .trySnkElapsed s) fun t => t.astate port9 = 8 ∧ t.has (F.ATT_STATUS_PWR_ROLE port9) = true :=
  .of_elapse_eq harmed rfl ((if_neg (not_not.mpr htry)).trans ((if_pos hsub).trans (if_pos hrp))) (attachSink_facts _)

end Sys2Proof.Machine
end

section
/-!
The end of a wet reading (Table ATT-6 step 4): what it shows, its verdict, and the port judged after it (R172-R175).
-/
namespace Sys2Proof.Machine

/-- Whether a pin of the reading lacks its results. -/
def State.wetMissing (s : State) (k : PortId) : Bool := (wetList (s.port k).att.wetPins).any fun i => (s.wetMean? k i).isNone

/-- The fields of port k that show a reading's pins. -/
def pinFields (k : PortId) : List Fld := [F.ATT_WET_CC1 k, F.ATT_WET_CC2 k, F.ATT_WET_SBU1 k, F.ATT_WET_SBU2 k]

/-- The reading of port k shown, its windows closed and its bias removed. -/
def State.readingDone (s : State) (k : PortId) : State :=
  (((((s.set (F.ATT_WET_CC1 k) (s.wetPinField k 0)).set (F.ATT_WET_CC2 k) (s.wetPinField k 1)).set
    (F.ATT_WET_SBU1 k) (s.wetPinField k 2)).set (F.ATT_WET_SBU2 k) (s.wetPinField k 3)).closeWindows (.wet k)).modAtt k fun a =>
      { a with wetBias := false, wetPins := 0, wetMiss := if s.wetMissing k then a.wetMiss + 1 else 0 }

/-- The verdict of a reading acts. -/
def State.verdictGiven (s : State) (k : PortId) (dry : Bool) : State := if dry then s.dryReading k else s.wetVerdict k

theorem readingDone_port (s : State) (k : PortId) : (s.readingDone k).port k =
    { s.port k with att := { (s.port k).att with wetBias := false, wetPins := 0,
                                                 wetMiss := if s.wetMissing k then (s.port k).att.wetMiss + 1 else 0 } } :=
  modAtt_port _ k fun a => { a with wetBias := false, wetPins := 0, wetMiss := if s.wetMissing k then a.wetMiss + 1 else 0 }

theorem readingDone_writes (s : State) (k : PortId) : Writes (pinFields k) s (s.readingDone k) := by
  have h : Writes (pinFields k) s (((s.set (F.ATT_WET_CC1 k) (s.wetPinField k 0)).set (F.ATT_WET_CC2 k) (s.wetPinField k 1)).set
      (F.ATT_WET_SBU1 k) (s.wetPinField k 2)) := (((Writes.refl s).set (by simp [pinFields])).set (by simp [pinFields])).set (by simp [pinFields])
  exact (h.set (f := F.ATT_WET_SBU2 k) (by simp [pinFields])).same rfl

/-- The dry time of port k in seconds. -/
def State.drySecs (s : State) (k : PortId) : Nat := min 0xFFFF ((s.now - (s.port k).att.dryStart.getD s.now) / secs 1)

/-- A dry reading counted, its dry time shown. -/
def State.dryCounted (s : State) (k : PortId) : State :=
  (s.modAtt k fun a => { a with dryStart := some ((s.port k).att.dryStart.getD s.now), dryRun := (s.port k).att.dryRun + 1 }).set
    (F.ATT_STATUS_DRY_S k) (s.drySecs k)

theorem dryReading_eq (s : State) (k : PortId) : s.dryReading k =
    if 60 ≤ s.drySecs k ∧ 60 ≤ (s.port k).att.dryRun then (s.dryCounted k).set (F.ATT_STATUS_DRY k) 2 else s.dryCounted k := by
  have hcond : (decide (60 ≤ s.drySecs k) && decide (61 ≤ (s.port k).att.dryRun + 1)) = true ↔ 60 ≤ s.drySecs k ∧ 60 ≤ (s.port k).att.dryRun := by
    rw [Bool.and_eq_true, decide_eq_true_iff, decide_eq_true_iff, Nat.succ_le_succ_iff]
  exact if_congr hcond rfl rfl

theorem dryCounted_port (s : State) (k : PortId) : (s.dryCounted k).port k =
    { s.port k with att := { (s.port k).att with dryStart := some ((s.port k).att.dryStart.getD s.now), dryRun := (s.port k).att.dryRun + 1 } } :=
  modAtt_port s k fun a => { a with dryStart := some ((s.port k).att.dryStart.getD s.now), dryRun := (s.port k).att.dryRun + 1 }

theorem dryReading_port (s : State) (k : PortId) : (s.dryReading k).port k = (s.dryCounted k).port k := by
  rw [dryReading_eq]
  split
  · exact set_port ..
  · rfl

theorem dryReading_now (s : State) (k : PortId) : (s.dryReading k).now = s.now := by
  rw [dryReading_eq]
  split <;> rfl

theorem dryReading_writes (s : State) (k : PortId) : Writes [F.ATT_STATUS_DRY_S k, F.ATT_STATUS_DRY k] s (s.dryReading k) := by
  have hc : Writes [F.ATT_STATUS_DRY_S k, F.ATT_STATUS_DRY k] s (s.dryCounted k) := Writes.set (.refl s) (by simp)
  rw [dryReading_eq]
  exact .ite (hc.set (by simp)) hc

theorem dryReading_drySecs (s : State) (k : PortId) : (s.dryReading k).get (F.ATT_STATUS_DRY_S k) = s.drySecs k % 2 ^ (F.ATT_STATUS_DRY_S k).width := by
  have hc : (s.dryCounted k).get (F.ATT_STATUS_DRY_S k) = s.drySecs k % 2 ^ (F.ATT_STATUS_DRY_S k).width := get_set_self _ _ _ rfl
  rw [dryReading_eq]
  split
  · exact (get_set_apart _ _ _ _ rfl (by clear * -; decide +revert)).trans hc
  · exact hc

theorem dryReading_dry (s : State) (k : PortId) : (s.dryReading k).get (F.ATT_STATUS_DRY k) =
    if 60 ≤ s.drySecs k ∧ 60 ≤ (s.port k).att.dryRun then 2 else s.get (F.ATT_STATUS_DRY k) := by
  rw [dryReading_eq]
  split
  · exact get_set_self _ _ _ rfl
  · exact get_set_apart _ _ _ _ rfl (by clear * -; decide +revert)

/-! A wet verdict -/

/-- Port k with a wet verdict shown, before it is logged. -/
def State.wetShown (s : State) (k : PortId) : State :=
  (((s.modAtt k fun a => { a with dryStart := none, dryRun := 0 }).set (F.ATT_STATUS_DRY_S k) 0).set (F.ATT_STATUS_DRY k) 1).flag
    (G.ATT_WET k)

theorem wetVerdict_port (s : State) (k : PortId) : (s.wetVerdict k).port k = { s.port k with att := { (s.port k).att with dryStart := none, dryRun := 0 } } := by
  rw [State.port, State.wetVerdict, warn_ports]
  exact modAtt_port s k fun a => { a with dryStart := none, dryRun := 0 }

theorem wetVerdict_shows (s : State) (k : PortId) : (s.wetVerdict k).get (F.ATT_STATUS_DRY k) = 1 ∧ (s.wetVerdict k).get (F.ATT_STATUS_DRY_S k) = 0 ∧
    (s.wetVerdict k).has (G.ATT_WET k).bit = true := by
  have hw : Writes logFields (s.wetShown k) (s.wetVerdict k) := (Writes.refl _).warn fun _ h => h
  rw [hw _ (by clear * -; decide +revert), hw _ (by clear * -; decide +revert), hw.has _ (by clear * -; decide +revert)]
  unfold State.wetShown
  simp (disch := (clear * -; decide +revert))

theorem verdictGiven_true (s : State) (k : PortId) : s.verdictGiven k true = s.dryReading k := if_pos rfl
theorem verdictGiven_false (s : State) (k : PortId) : s.verdictGiven k false = s.wetVerdict k := if_neg Bool.false_ne_true

/-- Of the port, a verdict changes the dry run alone. -/
theorem verdictGiven_port (s : State) (k : PortId) (dry : Bool) : ∃ start n, (s.verdictGiven k dry).port k =
    { s.port k with att := { (s.port k).att with dryStart := start, dryRun := n } } := by
  unfold State.verdictGiven
  split
  · exact ⟨_, _, (dryReading_port s k).trans (dryCounted_port s k)⟩
  · exact ⟨_, _, wetVerdict_port s k⟩

theorem verdictGiven_wetMiss (s : State) (k : PortId) (dry : Bool) : ((s.verdictGiven k dry).port k).att.wetMiss = (s.port k).att.wetMiss := by
  obtain ⟨start, n, h⟩ := verdictGiven_port s k dry
  rw [h]

/-- A window's end short of the tenth missing reading raises nothing (R172). -/
theorem wetWindowEnd_next {s : State} {k : PortId} (harmed : s.armed (.wetWindow k) = true) (hmiss : s.wetMissing k = true → (s.port k).att.wetMiss < 9) :
    exec (.wetWindowEnd k) s =
      .next (((((s.elapsed (.wetWindow k)).readingDone k).verdictGiven k (s.wetDryVerdict k)).ccEval k).judgeVbus k) := by
  let e := s.elapsed (.wetWindow k)
  have hquiet : (s.wetMissing k && decide ((((e.readingDone k).verdictGiven k (s.wetDryVerdict k)).port k).att.wetMiss = 10)) = false := by
    rw [verdictGiven_wetMiss, readingDone_port]
    cases hm : s.wetMissing k
    · rfl
    · have hlt := hmiss hm
      have hne : ¬ (s.port k).att.wetMiss + 1 = 10 := by omega
      exact decide_eq_false ((if_pos hm).symm ▸ hne)
  refine congrArg Host.Outcome.next ((onElapse_of_armed harmed _).trans ?_)
  exact congrArg (fun t => (State.ccEval t k).judgeVbus k) (if_neg (ne_true_of_eq_false hquiet))

/-- Every pin of a dry reading has its results. -/
theorem wetMissing_of_dry {s : State} {k : PortId} (h : s.wetDryVerdict k = true) : s.wetMissing k = false := by
  refine List.any_eq_false.mpr fun i hi => ?_
  have hpin := List.all_eq_true.mp h i hi
  cases hm : s.wetMean? k i with
  | none =>
    rw [hm] at hpin
    exact absurd hpin Bool.false_ne_true
  | some m => exact Bool.false_ne_true

/-- Without a partner on the pins nothing comes after a dry verdict. -/
theorem wetWindowEnd_dry {s : State} {k : PortId} (harmed : s.armed (.wetWindow k) = true) (hdry : s.wetDryVerdict k = true) (hopen : s.astate k = 1)
    (hsink : seesSink (s.port k).pins = false) (hrp : seesRp (s.port k).pins = 0) :
    exec (.wetWindowEnd k) s = .next (((s.elapsed (.wetWindow k)).readingDone k).dryReading k) := by
  have hmiss := wetMissing_of_dry hdry
  let e := (s.elapsed (.wetWindow k)).readingDone k
  have hport : ((e.dryReading k).port k).pins = (s.port k).pins := by
    rw [dryReading_port, dryCounted_port, readingDone_port]
    rfl
  have hstate : (e.dryReading k).astate k = 1 := by
    rw [State.astate, dryReading_writes e k _ (by clear * -; decide +revert), readingDone_writes _ k _ (by clear * -; decide +revert)]
    exact hopen
  rw [wetWindowEnd_next harmed fun h => absurd (hmiss.symm.trans h) Bool.false_ne_true, hdry]
  rw [verdictGiven_true, ccEval_alone (by rw [hport, hsink]) (by rw [hport, hrp]), judgeVbus_unattached hstate]

/-- A dry reading on a port without partner counts on (R174, R175). -/
theorem wetWindowEnd_dry_facts {s : State} {k : PortId} (harmed : s.armed (.wetWindow k) = true) (hdry : s.wetDryVerdict k = true) (hopen : s.astate k = 1)
    (hsink : seesSink (s.port k).pins = false) (hrp : seesRp (s.port k).pins = 0) :
    Answers (exec (.wetWindowEnd k) s) fun t =>
      (t.port k).att.wetBias = false ∧ (t.port k).att.dryRun = (s.port k).att.dryRun + 1 ∧ (t.port k).att.wetMiss = 0 ∧
      t.get (F.ATT_STATUS_DRY_S k) = min 0xFFFF ((t.now - (s.port k).att.dryStart.getD t.now) / secs 1) % 2 ^
        (F.ATT_STATUS_DRY_S k).width ∧
      t.get (F.ATT_STATUS_DRY k) = (if 60 ≤ min 0xFFFF ((t.now - (s.port k).att.dryStart.getD t.now) / secs 1) ∧ 60 ≤
        (s.port k).att.dryRun then 2 else s.get (F.ATT_STATUS_DRY k)) := by
  have hmiss : (s.elapsed (.wetWindow k)).wetMissing k = false := wetMissing_of_dry hdry
  let e := (s.elapsed (.wetWindow k)).readingDone k
  have hatt : (e.port k).att = { (s.port k).att with wetBias := false, wetPins := 0, wetMiss := 0 } := by
    rw [readingDone_port, hmiss]
    rfl
  have hsecs : e.drySecs k = min 0xFFFF ((e.now - (s.port k).att.dryStart.getD e.now) / secs 1) := by rw [State.drySecs, hatt]
  have hdryField : e.get (F.ATT_STATUS_DRY k) = s.get (F.ATT_STATUS_DRY k) := readingDone_writes _ k _ (by clear * -; decide +revert)
  rw [wetWindowEnd_dry harmed hdry hopen hsink hrp, answers_next, dryReading_port, dryCounted_port, dryReading_now, dryReading_drySecs,
    dryReading_dry, hsecs, hatt, hdryField]
  exact ⟨rfl, rfl, rfl, rfl, rfl⟩

/-- A wet reading shows the port wet and clears its dry time (R173, R174). -/
theorem wetWindowEnd_wet_facts {s : State} {k : PortId} (harmed : s.armed (.wetWindow k) = true)
    (hmiss : (s.port k).att.wetMiss < 9) (hwet : s.wetDryVerdict k = false) :
    Answers (exec (.wetWindowEnd k) s) fun t => (t.port k).att.wetBias = false ∧ t.get (F.ATT_STATUS_DRY k) = 1 ∧
      t.get (F.ATT_STATUS_DRY_S k) = 0 ∧ t.has (G.ATT_WET k).bit = true := by
  let e := (s.elapsed (.wetWindow k)).readingDone k
  have hbias : ((e.wetVerdict k).port k).att.wetBias = false := by rw [wetVerdict_port, readingDone_port]
  obtain ⟨hdry, hsecs, hflag⟩ := wetVerdict_shows e k
  rw [wetWindowEnd_next harmed fun _ => hmiss, hwet, answers_next, verdictGiven_false]
  have hw : Writes (vbusFields k) (e.wetVerdict k) (((e.wetVerdict k).ccEval k).judgeVbus k) :=
    ((ccEval_writes _ k).mono (by simp [vbusFields])).trans (judgeVbus_writes _ k)
  exact ⟨judgeVbus_unbiased (ccEval_unbiased hbias), (hw _ (by clear * -; decide +revert)).trans hdry, (hw _ (by clear * -; decide +revert)).trans hsecs,
    (hw.has _ (by clear * -; decide +revert)).trans hflag⟩

end Sys2Proof.Machine
end

section
/-!
A partner that goes (R164, R177, R180): port 9 keeps its pins and loses orientation and contract, whether or not the part loses its supply
with it.
-/
namespace Sys2Proof.Machine

/-! What keeps a port's pins -/

/-- Port k has the same pins. -/
def SamePins (k : PortId) (s t : State) : Prop := (t.port k).pins = (s.port k).pins

section
variable {k : PortId} {s₀ s t : State}

theorem SamePins.refl (s : State) : SamePins k s s := rfl
theorem SamePins.trans (h : SamePins k s₀ s) (h' : SamePins k s t) : SamePins k s₀ t := Eq.trans h' h
theorem SamePins.same (h : SamePins k s₀ s) (hp : t.ports = s.ports) : SamePins k s₀ t := by
  rw [SamePins, State.port, hp, ← State.port]
  exact h
theorem SamePins.setWord {a : Nat} {w : Word} (h : SamePins k s₀ s) : SamePins k s₀ (s.setWord a w) := h.same rfl
theorem SamePins.set {f : Fld} {v : Nat} (h : SamePins k s₀ s) : SamePins k s₀ (s.set f v) := h.same rfl
theorem SamePins.put {f : Fld} {b : Bool} (h : SamePins k s₀ s) : SamePins k s₀ (s.put f b) := h.same rfl
theorem SamePins.arm {i : TimerId} {n : Nat} (h : SamePins k s₀ s) : SamePins k s₀ (s.arm i n) := h.same rfl
theorem SamePins.disarm {i : TimerId} (h : SamePins k s₀ s) : SamePins k s₀ (s.disarm i) := h.same rfl
theorem SamePins.disarmAll {l : List TimerId} (h : SamePins k s₀ s) : SamePins k s₀ (s.disarmAll l) := h.same rfl
theorem SamePins.modPort {f : Port → Port} (hf : ∀ p, (f p).pins = p.pins) (h : SamePins k s₀ s) : SamePins k s₀ (s.modPort k f) := by
  rw [SamePins, port_modPort_self, hf]
  exact h
theorem SamePins.modAtt {f : AttPort → AttPort} (h : SamePins k s₀ s) : SamePins k s₀ (s.modAtt k f) := h.modPort fun _ => rfl
theorem SamePins.modPd {f : PdPort → PdPort} (h : SamePins k s₀ s) : SamePins k s₀ (s.modPd k f) := h.modPort fun _ => rfl
theorem SamePins.modCnv {f : CnvPort → CnvPort} (h : SamePins k s₀ s) : SamePins k s₀ (s.modCnv k f) := h.modPort fun _ => rfl
theorem SamePins.modChk {f : ChkPort → ChkPort} (h : SamePins k s₀ s) : SamePins k s₀ (s.modChk k f) := h.modPort fun _ => rfl
theorem SamePins.modBrk {f : BrkPort → BrkPort} (h : SamePins k s₀ s) : SamePins k s₀ (s.modBrk k f) := h.modPort fun _ => rfl
theorem SamePins.ite {c : Prop} [Decidable c] (hs : SamePins k s₀ s) (ht : SamePins k s₀ t) : SamePins k s₀ (if c then s else t) := by
  split
  · exact hs
  · exact ht
theorem SamePins.when {c : Bool} {act : State → State} (h : SamePins k s₀ s) (ha : ∀ t, SamePins k s₀ t → SamePins k s₀ (act t)) :
    SamePins k s₀ (s.when c act) := by
  cases c
  · exact h
  · exact ha s h

theorem SamePins.dropHealth (h : SamePins k s₀ s) : SamePins k s₀ (s.dropHealth k) := by
  unfold State.dropHealth
  extract_lets msr u
  have hu : SamePins k s₀ u := h.same rfl
  exact hu.disarm.modChk

theorem SamePins.vconnOff (h : SamePins k s₀ s) : SamePins k s₀ (s.vconnOff k) := h.put.put

theorem SamePins.clearPd (h : SamePins k s₀ s) : SamePins k s₀ (s.clearPd k) := by
  unfold State.clearPd
  extract_lets a b c d e f g i j m n ref
  have hd : SamePins k s₀ d := h.disarmAll.dropHealth.modPd.modChk.modCnv
  have hf : SamePins k s₀ f := hd.set.set.put.put.set.put
  have hg : SamePins k s₀ g := .ite hf hf.set
  have hj : SamePins k s₀ j := hg.setWord.setWord.vconnOff
  have hm : SamePins k s₀ m := .ite hj hj.put
  have hn : SamePins k s₀ n := .ite hm hm.set
  exact hn.modBrk

theorem SamePins.partFrom (h : SamePins k s₀ s) : SamePins k s₀ (s.partFrom k) :=
  (h.set.put.setWord.when fun _ ht => ht.put).modAtt

theorem SamePins.settleOpen (h : SamePins k s₀ s) : SamePins k s₀ (s.settleOpen k) := by
  unfold State.settleOpen
  extract_lets st u
  have hu : SamePins k s₀ u := h.modBrk
  exact .ite hu hu.set

theorem SamePins.forgetPartner (h : SamePins k s₀ s) : SamePins k s₀ (s.forgetPartner k) := by
  unfold State.forgetPartner
  extract_lets a b c d e f held g
  have ha : SamePins k s₀ a := h.clearPd.disarmAll
  have hb : SamePins k s₀ b := ha.partFrom.put
  have hf : SamePins k s₀ f := hb.modPd.modChk.setWord.put.put
  exact hf.modBrk.set.settleOpen

theorem SamePins.setAState {st : Nat} (h : SamePins k s₀ s) : SamePins k s₀ (s.setAState k st) := by
  refine h.trans ?_
  rcases setAState_port s k st with hp | hp
  · exact congrArg Port.pins hp
  · rw [SamePins, hp]

theorem SamePins.presentRp (h : SamePins k s₀ s) : SamePins k s₀ (s.presentRp k) := by
  unfold State.presentRp
  extract_lets u ref
  exact .ite h h.set.modBrk

theorem SamePins.ccEval (h : SamePins k s₀ s) : SamePins k s₀ (s.ccEval k) := by
  unfold State.ccEval
  extract_lets p free sees
  exact .ite h.disarm.setAState.arm h

theorem SamePins.unattached (h : SamePins k s₀ s) : SamePins k s₀ (s.unattached k) := by
  unfold State.unattached
  extract_lets a b c d e
  have hb : SamePins k s₀ b := h.modAtt.setAState
  have hc : SamePins k s₀ c := .ite hb hb.set
  have hd : SamePins k s₀ d := hc.when fun _ ht => ht.put
  have he : SamePins k s₀ e := .ite hd.presentRp (.ite hd.put.modAtt.presentRp.arm hd.put.set)
  exact .ite he.ccEval h

end

/-! The contract and the orientation that go -/

/-- The fields of port k that clearing its PD context writes after the contract. -/
def contractGoneFields (k : PortId) : List Fld :=
  [F.PD_STATUS_AUTH k, F.PD_STATUS_MISMATCH k, F.PD_STATUS_PE k, wholeWord (R.PD_CONTRACT k), wholeWord (R.PD_RDO k), F.ATT_STATUS_VCONN_ON k,
    F.PD_STATUS_VCONN_SRC k, F.PD_STATUS_DATA_ROLE k, F.ATT_STATUS_RP k]

theorem clearPd_contract (s : State) (k : PortId) : (s.clearPd k).has (F.PD_STATUS_CONTRACT k) = false := by
  unfold State.clearPd
  extract_lets a b c d e f g i j m n ref
  let u := e.put (F.PD_STATUS_CONTRACT k) false
  have hu : u.has (F.PD_STATUS_CONTRACT k) = false := has_put_self _ _ _ rfl rfl
  have hf : Writes (contractGoneFields k) u f := (Writes.set (.refl u) (by simp [contractGoneFields])).put (by simp [contractGoneFields])
  have hg : Writes (contractGoneFields k) u g := .ite hf (hf.set (by simp [contractGoneFields]))
  have hi : Writes (contractGoneFields k) u i := (hg.setWord (by simp [contractGoneFields])).setWord (by simp [contractGoneFields])
  have hj : Writes (contractGoneFields k) u j := (hi.put (by simp [contractGoneFields])).put (by simp [contractGoneFields])
  have hm : Writes (contractGoneFields k) u m := .ite hj (hj.put (by simp [contractGoneFields]))
  have hn : Writes (contractGoneFields k) u n := .ite hm (hm.set (by simp [contractGoneFields]))
  exact (hn.modBrk.has _ (by clear * -; decide +revert)).trans hu

/-- The fields of port k that forgetting its partner writes beside its PD context and its orientation. -/
def partedFields (k : PortId) : List Fld :=
  [F.ATT_STATUS_RA k, wholeWord (R.ATT_CABLE k), F.ATT_STATUS_SEATED k, F.PD_STATUS_DATA_ROLE k, wholeWord (R.CHK_CAP k), F.CHK_STATUS_DERATED k,
    F.CHK_STATUS_FAILED k, F.BRK_STATUS_RETRIES k, F.BRK_STATUS_STATE k]

theorem settleOpen_writes (s : State) (k : PortId) : Writes (partedFields k) s (s.settleOpen k) := by
  unfold State.settleOpen
  extract_lets st u
  have hu : Writes (partedFields k) s u := (Writes.refl s).modBrk
  exact .ite hu (hu.set (by simp [partedFields]))

theorem partFrom_writes (s : State) (k : PortId) : Writes (partedFields k) (s.set (F.ATT_STATUS_ORIENT k) 0) (s.partFrom k) := by
  unfold State.partFrom
  extract_lets u
  have hu : Writes (partedFields k) (s.set (F.ATT_STATUS_ORIENT k) 0) u :=
    ((Writes.refl _).put (by simp [partedFields])).setWord (by simp [partedFields])
  exact (hu.when fun _ ht => ht.put (by simp [partedFields])).modAtt

/-- A partner is forgotten: first its PD context goes, then its orientation, then the rest (R164). -/
theorem forgetPartner_writes (s : State) (k : PortId) : Writes (partedFields k) ((s.clearPd k).set (F.ATT_STATUS_ORIENT k) 0) (s.forgetPartner k) := by
  unfold State.forgetPartner
  extract_lets a b c d e f held g
  have hp : Writes (partedFields k) (a.set (F.ATT_STATUS_ORIENT k) 0) (a.partFrom k) := partFrom_writes a k
  have hd : Writes (partedFields k) (a.set (F.ATT_STATUS_ORIENT k) 0) d := (hp.put (by simp [partedFields])).modPd.modChk
  have he : Writes (partedFields k) (a.set (F.ATT_STATUS_ORIENT k) 0) e := hd.setWord (by simp [partedFields])
  have hf : Writes (partedFields k) (a.set (F.ATT_STATUS_ORIENT k) 0) f := (he.put (by simp [partedFields])).put (by simp [partedFields])
  have hg : Writes (partedFields k) (a.set (F.ATT_STATUS_ORIENT k) 0) g := hf.modBrk
  exact (hg.set (by simp [partedFields])).trans (settleOpen_writes _ k)

theorem forgetPartner_facts (s : State) (k : PortId) :
    (s.forgetPartner k).get (F.ATT_STATUS_ORIENT k) = 0 ∧ (s.forgetPartner k).has (F.PD_STATUS_CONTRACT k) = false := by
  have hw := forgetPartner_writes s k
  refine ⟨(hw _ (by clear * -; decide +revert)).trans ((get_set_self _ _ _ rfl).trans (Nat.zero_mod _)), ?_⟩
  exact (hw.has _ (by clear * -; decide +revert)).trans ((has_set_apart _ _ _ _ rfl (by clear * -; decide +revert)).trans (clearPd_contract s k))

end Sys2Proof.Machine
end

section
/-!
A sink supply that goes (R180, R38), and the settlement of O24.
-/
namespace Sys2Proof.Machine

theorem restartAll_ports (s : State) : s.restartAll.ports = s.ports.map fun p => { pins := p.pins } :=
  when_invariant (g := State.ports) (fun _ => by rfl) _ _

theorem SamePins.supplyLost {k : PortId} {s₀ s : State} (h : SamePins k s₀ s) : SamePins k s₀ s.supplyLost := by
  have hport : s.supplyLost.port k = { pins := (s.port k).pins } := by
    rw [State.port, State.port, State.supplyLost, restartAll_ports, Vector.getElem_map]
  rw [SamePins, hport]
  exact h

theorem SamePins.sinkGone {k : PortId} {s₀ s : State} (h : SamePins k s₀ s) : SamePins k s₀ s.sinkGone := .ite h.supplyLost (h.same rfl)

/-- Without supply no partner's orientation stands: its word has its reset value (R38). -/
theorem supplyLost_orient (s : State) (k : PortId) : s.supplyLost.get (F.ATT_STATUS_ORIENT k) = 0 := by
  have hw : s.supplyLost.word (R.ATT_STATUS k) = regReset (R.ATT_STATUS k) :=
    restartAll_word s (by clear * -; decide +revert) (by clear * -; decide +revert)
  rw [State.get, show (F.ATT_STATUS_ORIENT k).reg = R.ATT_STATUS k from rfl, hw]
  clear * -
  decide +revert

theorem supplyLost_contract (s : State) (k : PortId) : s.supplyLost.has (F.PD_STATUS_CONTRACT k) = false := by
  have hw : s.supplyLost.word (R.PD_STATUS k) = regReset (R.PD_STATUS k) :=
    restartAll_word s (by clear * -; decide +revert) (by clear * -; decide +revert)
  rw [State.has, State.get, show (F.PD_STATUS_CONTRACT k).reg = R.PD_STATUS k from rfl, hw]
  clear * -
  decide +revert

theorem sinkGone_open {s : State} {k : PortId} (ho : s.get (F.ATT_STATUS_ORIENT k) = 0) (hc : s.has (F.PD_STATUS_CONTRACT k) = false) :
    s.sinkGone.get (F.ATT_STATUS_ORIENT k) = 0 ∧ s.sinkGone.has (F.PD_STATUS_CONTRACT k) = false := by
  unfold State.sinkGone
  split
  · exact ⟨supplyLost_orient s k, supplyLost_contract s k⟩
  · exact ⟨ho, hc⟩

/-- Port 9 with open pins and no partner, as its attach unit leaves it. -/
def State.sinkParted (s : State) : State :=
  ((((s.modPins port9 fun p => { p with cc1 := .opn, cc2 := .opn }).forgetPartner port9).put (F.ATT_STATUS_PWR_ROLE port9) false).set
    (F.ATT_STATUS_RP port9) 0).unattached port9

theorem sinkParted_facts (s : State) : s.sinkParted.get (F.ATT_STATUS_ORIENT port9) = 0 ∧
    s.sinkParted.has (F.PD_STATUS_CONTRACT port9) = false ∧
    (s.sinkParted.port port9).pins.cc1 = .opn ∧ (s.sinkParted.port port9).pins.cc2 = .opn := by
  let u := s.modPins port9 fun p => { p with cc1 := .opn, cc2 := .opn }
  obtain ⟨ho, hc⟩ := forgetPartner_facts u port9
  have hw : Writes (openFields port9) (u.forgetPartner port9) s.sinkParted :=
    (((Writes.refl _).put (by simp [openFields])).set (by simp [openFields])).unattached fun _ h => h
  have hpins : SamePins port9 u s.sinkParted := (SamePins.refl u).forgetPartner.put.set.unattached
  have hopen : (u.port port9).pins = { (s.port port9).pins with cc1 := .opn, cc2 := .opn } :=
    congrArg Port.pins (port_modPort_self s port9 fun p => { p with pins := { p.pins with cc1 := .opn, cc2 := .opn } })
  have hall := Eq.trans hpins hopen
  exact ⟨(hw _ (by decide)).trans ho, (hw.has _ (by decide)).trans hc, congrArg PortPins.cc1 hall, congrArg PortPins.cc2 hall⟩

theorem port9SinkDetach_next {s : State} (h : s.astate port9 = 8) : exec .port9SinkDetach s = .next s.sinkParted.sinkGone := if_pos h

/-- Settles O24: a timer's end acts in the state that it leaves (`Answers.of_elapse`); a reading's end gives its verdict and then judges
the port, which touches none of the fields named (`judgeVbus_writes`); a partner forgotten loses orientation and contract
(`forgetPartner_facts`), with the supply or without. -/
theorem wetReadingsAndPort9RolesAct : Obligations.WetReadingsAndPort9RolesAct := by
  refine ⟨fun s k harmed hon hst hload => ?_, fun s k harmed => wetSettlingEnd_facts harmed,
    fun s k harmed hmiss hwet => wetWindowEnd_wet_facts harmed hmiss hwet,
    fun s k harmed hdry hopen hsink hrp => wetWindowEnd_dry_facts harmed hdry hopen hsink hrp,
    fun s harmed hopen hvin hoff hsink hrp => ?_,
    fun s harmed htry hsub hrp => trySnkElapsed_alone harmed htry hsub hrp,
    fun s harmed htry hsub hrp => trySnkElapsed_source harmed htry hsub hrp, fun s h => ?_⟩
  · obtain ⟨hsettle, hnext, hbias, hpins, hnow⟩ := biased_facts (s.elapsed (.wetNext k)) k
    rw [wetReadingDue_next harmed hon hst hload, answers_next, hnow]
    exact ⟨hbias, hpins, hsettle, hnext⟩
  · rw [drpToggle_next harmed hopen hvin hoff hsink hrp, answers_next]
    exact toggled_facts (s.elapsed .drp)
  · obtain ⟨ho, hc, hcc1, hcc2⟩ := sinkParted_facts s
    obtain ⟨ho', hc'⟩ := sinkGone_open ho hc
    have hpins : SamePins port9 s.sinkParted s.sinkParted.sinkGone := (SamePins.refl _).sinkGone
    rw [port9SinkDetach_next h, answers_next]
    exact ⟨ho', (congrArg PortPins.cc1 hpins).trans hcc1, (congrArg PortPins.cc2 hpins).trans hcc2, hc'⟩

end Sys2Proof.Machine
end
